-- ==== Sys2Proof/Syntax.lean ====
section
/-! DEFINITION. Sys2Proof/Syntax.lean: the commands of the block, one constructor for each row of the command table, with
the operands each row takes. An instruction command names the context that issues it and the fields of its encoding
(R38); an event command names the object it acts on. -/

namespace Sys2Proof

/-- A g, f or v register field of an instruction word (R38). -/
abbrev Reg5 := BitVec 5
/-- A predicate register number (R35). -/
abbrev Pred3 := BitVec 3

/-- A Svanen context: context c of engine e in slice s, a control-core hardware thread, or the evaluator of a sieve. -/
inductive CtxId where
  | eng (s : Fin 8) (e c : Fin 16)
  | ht (h : Fin 64)
  | sieve (ch : Fin 32)
deriving DecidableEq, Repr

/-- The operand fields of a V-format instruction (R38): registers, the sixth register bits of class C, the governing predicate. -/
structure VF where
  vd : Reg5
  vs1 : Reg5
  vs2 : Reg5
  xd : Bool
  xs1 : Bool
  xs2 : Bool
  pg : Pred3
deriving DecidableEq, Repr

/-- The access forms of a doorbell (R263): the whole 64 bits, or one 32-bit half. -/
inductive DbForm where
  | full | lo | hi
deriving DecidableEq, Repr

/-- Where an admin command comes from (R258, R270): the ring of QID 0 or the direct entry registers. -/
inductive AdmSrc where
  | ring | direct
deriving DecidableEq, Repr

/-- The requesters of an access to CSR space (R21): a control-core thread at its privilege, Stagehand, a hardware block,
or one that CSR space refuses (an engine, a mover acting for a Booth). -/
inductive Requester where
  | core (h : Fin 64) | stagehand | hardware | other
deriving DecidableEq, Repr

/-- The width and place of an access to CSR space (R22): 64 bits, a 32-bit access to the addressed half, another width. -/
inductive CsrSize where
  | w64 | w32 | other
deriving DecidableEq, Repr

/-- What training finds for one lane (R394): the first and last passing tap of the read and of the write sweep. -/
structure LaneRep where
  rdL : BitVec 7
  rdR : BitVec 7
  wrL : BitVec 7
  wrR : BitVec 7
deriving DecidableEq, Repr

/-- What a memory controller finds at INIT (R382, R394): its module or stack (fields of MC_CFG; for a module what its SPD says of it: a
registered one, of x4 devices, with check bits, of 3DS stacks, and its highest rate) and its lanes. -/
structure CtlRep where
  present : Bool
  rdimm : Bool
  x4 : Bool
  check : Bool
  stacked : Bool
  ranks : BitVec 4
  density : BitVec 4
  size : BitVec 8
  rate : BitVec 8
  lanes : List LaneRep
deriving DecidableEq, Repr

/-- Which feature Get Features asks for: the identifier, and Dword 11, which names a vector for feature 09h (R338). -/
structure FeatSel where
  fid : BitVec 8
  dw11 : BitVec 32 := 0
deriving DecidableEq, Repr

/-- What the parameter page of a LUN says (R287, R288): the fields of ALM_GEOM, the endurance and the program time. -/
structure LunRep where
  page : BitVec 2
  planesLog : BitVec 2
  wlp : BitVec 2
  ppb : BitVec 12
  bpp : BitVec 16
  spare : BitVec 16
  peLimit : BitVec 16
  tprogUs : Nat
deriving DecidableEq, Repr

/-- What a flash channel finds at INIT (R288): targets that answer, log2 of LUNs per target, the LUNs of those targets in ascending
(target, LUN) order, training, the trained rate. -/
structure ChanRep where
  tgts : BitVec 8
  lunLog : BitVec 2
  luns : List LunRep
  trained : Bool
  rate : BitVec 6
deriving DecidableEq, Repr

/-- What INIT step 4 reports (R431): memory training of the 12 controllers and the flash probe. -/
structure TrainRep where
  ctls : List CtlRep
  flash : List ChanRep
deriving DecidableEq, Repr

/-- The commands of the block: one constructor for each row of the command table. -/
inductive Instr where
  -- Integer
  | add (x : CtxId) (rd rs1 rs2 : Reg5) -- ADD (R41)
  | sub (x : CtxId) (rd rs1 rs2 : Reg5) -- SUB (R41)
  | andG (x : CtxId) (rd rs1 rs2 : Reg5) -- AND (R41)
  | orG (x : CtxId) (rd rs1 rs2 : Reg5) -- OR (R41)
  | xorG (x : CtxId) (rd rs1 rs2 : Reg5) -- XOR (R41)
  | andn (x : CtxId) (rd rs1 rs2 : Reg5) -- ANDN (R41)
  | orn (x : CtxId) (rd rs1 rs2 : Reg5) -- ORN (R41)
  | xnor (x : CtxId) (rd rs1 rs2 : Reg5) -- XNOR (R41)
  | shl (x : CtxId) (rd rs1 rs2 : Reg5) -- SHL (R41)
  | shr (x : CtxId) (rd rs1 rs2 : Reg5) -- SHR (R41)
  | sar (x : CtxId) (rd rs1 rs2 : Reg5) -- SAR (R41)
  | rol (x : CtxId) (rd rs1 rs2 : Reg5) -- ROL (R41)
  | ror (x : CtxId) (rd rs1 rs2 : Reg5) -- ROR (R41)
  | seq (x : CtxId) (rd rs1 rs2 : Reg5) -- SEQ (R41)
  | sne (x : CtxId) (rd rs1 rs2 : Reg5) -- SNE (R41)
  | slt (x : CtxId) (rd rs1 rs2 : Reg5) -- SLT (R41)
  | sltu (x : CtxId) (rd rs1 rs2 : Reg5) -- SLTU (R41)
  | sle (x : CtxId) (rd rs1 rs2 : Reg5) -- SLE (R41)
  | sleu (x : CtxId) (rd rs1 rs2 : Reg5) -- SLEU (R41)
  | minG (x : CtxId) (rd rs1 rs2 : Reg5) -- MIN (R41)
  | maxG (x : CtxId) (rd rs1 rs2 : Reg5) -- MAX (R41)
  | minu (x : CtxId) (rd rs1 rs2 : Reg5) -- MINU (R41)
  | maxu (x : CtxId) (rd rs1 rs2 : Reg5) -- MAXU (R41)
  | clz (x : CtxId) (rd rs1 : Reg5) -- CLZ (R41)
  | ctz (x : CtxId) (rd rs1 : Reg5) -- CTZ (R41)
  | popc (x : CtxId) (rd rs1 : Reg5) -- POPC (R41)
  | bswap (x : CtxId) (rd rs1 : Reg5) -- BSWAP (R41)
  | sextb (x : CtxId) (rd rs1 : Reg5) -- SEXTB (R41)
  | sexth (x : CtxId) (rd rs1 : Reg5) -- SEXTH (R41)
  | sextw (x : CtxId) (rd rs1 : Reg5) -- SEXTW (R41)
  | zexth (x : CtxId) (rd rs1 : Reg5) -- ZEXTH (R41)
  | zextw (x : CtxId) (rd rs1 : Reg5) -- ZEXTW (R41)
  | addw (x : CtxId) (rd rs1 rs2 : Reg5) -- ADDW (R41)
  | subw (x : CtxId) (rd rs1 rs2 : Reg5) -- SUBW (R41)
  | shlw (x : CtxId) (rd rs1 rs2 : Reg5) -- SHLW (R41)
  | shrw (x : CtxId) (rd rs1 rs2 : Reg5) -- SHRW (R41)
  | sarw (x : CtxId) (rd rs1 rs2 : Reg5) -- SARW (R41)
  | cmovnz (x : CtxId) (rd rs1 rs2 : Reg5) -- CMOVNZ (R41)
  | cmovz (x : CtxId) (rd rs1 rs2 : Reg5) -- CMOVZ (R41)
  | addi (x : CtxId) (rd rs1 : Reg5) (imm : BitVec 16) -- ADDI (R43)
  | andi (x : CtxId) (rd rs1 : Reg5) (imm : BitVec 16) -- ANDI (R43)
  | ori (x : CtxId) (rd rs1 : Reg5) (imm : BitVec 16) -- ORI (R43)
  | xori (x : CtxId) (rd rs1 : Reg5) (imm : BitVec 16) -- XORI (R43)
  | slti (x : CtxId) (rd rs1 : Reg5) (imm : BitVec 16) -- SLTI (R43)
  | sltiu (x : CtxId) (rd rs1 : Reg5) (imm : BitVec 16) -- SLTIU (R43)
  | shli (x : CtxId) (rd rs1 : Reg5) (amt : BitVec 6) -- SHLI (R43)
  | shri (x : CtxId) (rd rs1 : Reg5) (amt : BitVec 6) -- SHRI (R43)
  | sari (x : CtxId) (rd rs1 : Reg5) (amt : BitVec 6) -- SARI (R43)
  | rori (x : CtxId) (rd rs1 : Reg5) (amt : BitVec 6) -- RORI (R43)
  | lui (x : CtxId) (rd : Reg5) (imm : BitVec 16) -- LUI (R43)
  | addhi (x : CtxId) (rd rs1 : Reg5) (imm : BitVec 16) -- ADDHI (R43)
  | xli (x : CtxId) (rd : Reg5) (imm : BitVec 32) -- XLI (R43)
  | xlih (x : CtxId) (rd rs1 : Reg5) (imm : BitVec 32) -- XLIH (R43)
  | xaddi (x : CtxId) (rd rs1 : Reg5) (imm : BitVec 32) -- XADDI (R43)
  | xandi (x : CtxId) (rd rs1 : Reg5) (imm : BitVec 32) -- XANDI (R43)
  | xori32 (x : CtxId) (rd rs1 : Reg5) (imm : BitVec 32) -- XORI_X (R43)
  | xxori (x : CtxId) (rd rs1 : Reg5) (imm : BitVec 32) -- XXORI (R43)
  | xslti (x : CtxId) (rd rs1 : Reg5) (imm : BitVec 32) -- XSLTI (R43)
  | xsltiu (x : CtxId) (rd rs1 : Reg5) (imm : BitVec 32) -- XSLTIU (R43)
  | illegalEncoding (x : CtxId) (w : BitVec 32) -- ILLEGAL_ENCODING (R40)
  -- MulDiv
  | mul (x : CtxId) (rd rs1 rs2 : Reg5) -- MUL (R82)
  | mulh (x : CtxId) (rd rs1 rs2 : Reg5) -- MULH (R82)
  | mulhu (x : CtxId) (rd rs1 rs2 : Reg5) -- MULHU (R82)
  | mulhsu (x : CtxId) (rd rs1 rs2 : Reg5) -- MULHSU (R82)
  | mulw (x : CtxId) (rd rs1 rs2 : Reg5) -- MULW (R82)
  | dsetup (x : CtxId) (rd rs1 rs2 : Reg5) -- DSETUP (R84)
  | dsetupu (x : CtxId) (rd rs1 rs2 : Reg5) -- DSETUPU (R84)
  | dstep (x : CtxId) (rd rs2 : Reg5) -- DSTEP (R84)
  | dfix (x : CtxId) (rd rs1 : Reg5) -- DFIX (R84)
  -- LoadStore
  | lb (x : CtxId) (rt rb : Reg5) (disp : BitVec 12) -- LB (R45)
  | lh (x : CtxId) (rt rb : Reg5) (disp : BitVec 12) -- LH (R45)
  | lw (x : CtxId) (rt rb : Reg5) (disp : BitVec 12) -- LW (R45)
  | ld (x : CtxId) (rt rb : Reg5) (disp : BitVec 12) -- LD (R45)
  | lbu (x : CtxId) (rt rb : Reg5) (disp : BitVec 12) -- LBU (R45)
  | lhu (x : CtxId) (rt rb : Reg5) (disp : BitVec 12) -- LHU (R45)
  | lwu (x : CtxId) (rt rb : Reg5) (disp : BitVec 12) -- LWU (R45)
  | ldf (x : CtxId) (rt rb : Reg5) (disp : BitVec 12) -- LDF (R45)
  | lwf (x : CtxId) (rt rb : Reg5) (disp : BitVec 12) -- LWF (R45)
  | sb (x : CtxId) (rt rb : Reg5) (disp : BitVec 12) -- SB (R45)
  | sh (x : CtxId) (rt rb : Reg5) (disp : BitVec 12) -- SH (R45)
  | sw (x : CtxId) (rt rb : Reg5) (disp : BitVec 12) -- SW (R45)
  | sd (x : CtxId) (rt rb : Reg5) (disp : BitVec 12) -- SD (R45)
  | sdf (x : CtxId) (rt rb : Reg5) (disp : BitVec 12) -- SDF (R45)
  | swf (x : CtxId) (rt rb : Reg5) (disp : BitVec 12) -- SWF (R45)
  | indexedLoad (x : CtxId) (op : BitVec 4) (scale : BitVec 2) (rd rs1 rs2 : Reg5) -- INDEXED_LOAD (R47)
  | indexedStore (x : CtxId) (op : BitVec 4) (scale : BitVec 2) (rd rs1 rs2 : Reg5) -- INDEXED_STORE (R47)
  -- Atomic
  | cas (x : CtxId) (barr : BitVec 2) (rd rs1 rs2 : Reg5) -- CAS (R48)
  | swap (x : CtxId) (barr : BitVec 2) (rd rs1 rs2 : Reg5) -- SWAP (R48)
  | aadd (x : CtxId) (barr : BitVec 2) (rd rs1 rs2 : Reg5) -- AADD (R48)
  | aand (x : CtxId) (barr : BitVec 2) (rd rs1 rs2 : Reg5) -- AAND (R48)
  | aor (x : CtxId) (barr : BitVec 2) (rd rs1 rs2 : Reg5) -- AOR (R48)
  | axor (x : CtxId) (barr : BitVec 2) (rd rs1 rs2 : Reg5) -- AXOR (R48)
  | amin (x : CtxId) (barr : BitVec 2) (rd rs1 rs2 : Reg5) -- AMIN (R48)
  | amax (x : CtxId) (barr : BitVec 2) (rd rs1 rs2 : Reg5) -- AMAX (R48)
  | aminu (x : CtxId) (barr : BitVec 2) (rd rs1 rs2 : Reg5) -- AMINU (R48)
  | amaxu (x : CtxId) (barr : BitVec 2) (rd rs1 rs2 : Reg5) -- AMAXU (R48)
  | lr (x : CtxId) (barr : BitVec 2) (rd rs1 : Reg5) -- LR (R50)
  | sc (x : CtxId) (barr : BitVec 2) (rd rs1 rs2 : Reg5) -- SC (R50)
  -- Maintenance
  | pref1 (x : CtxId) (rb : Reg5) (disp : BitVec 12) -- PREF1 (R154)
  | pref2 (x : CtxId) (rb : Reg5) (disp : BitVec 12) -- PREF2 (R154)
  | clnA (x : CtxId) (rb : Reg5) (disp : BitVec 12) -- CLN_A (R154)
  | invA (x : CtxId) (rb : Reg5) (disp : BitVec 12) -- INV_A (R154)
  | cliA (x : CtxId) (rb : Reg5) (disp : BitVec 12) -- CLI_A (R154)
  | clnR (x : CtxId) (rt rb : Reg5) -- CLN_R (R155)
  | invR (x : CtxId) (rt rb : Reg5) -- INV_R (R155)
  | cliR (x : CtxId) (rt rb : Reg5) -- CLI_R (R155)
  | clnSw (x : CtxId) (rb : Reg5) -- CLN_SW (R158)
  | invSw (x : CtxId) (rb : Reg5) -- INV_SW (R158)
  | cliSw (x : CtxId) (rb : Reg5) -- CLI_SW (R158)
  | lockfill (x : CtxId) (rt rb : Reg5) (disp : BitVec 12) -- LOCKFILL (R158)
  -- Branch
  | beqz (x : CtxId) (a : Bool) (rs : Reg5) (off : BitVec 20) -- BEQZ (R52)
  | bnez (x : CtxId) (a : Bool) (rs : Reg5) (off : BitVec 20) -- BNEZ (R52)
  | bltz (x : CtxId) (a : Bool) (rs : Reg5) (off : BitVec 20) -- BLTZ (R52)
  | bgez (x : CtxId) (a : Bool) (rs : Reg5) (off : BitVec 20) -- BGEZ (R52)
  | bgtz (x : CtxId) (a : Bool) (rs : Reg5) (off : BitVec 20) -- BGTZ (R52)
  | blez (x : CtxId) (a : Bool) (rs : Reg5) (off : BitVec 20) -- BLEZ (R52)
  | bpany (x : CtxId) (a : Bool) (p : Pred3) (off : BitVec 20) -- BPANY (R52)
  | bpnone (x : CtxId) (a : Bool) (p : Pred3) (off : BitVec 20) -- BPNONE (R52)
  | br (x : CtxId) (a : Bool) (off : BitVec 20) -- BR (R52)
  | bl (x : CtxId) (a : Bool) (off : BitVec 20) -- BL (R52)
  | jalr (x : CtxId) (rd rs1 : Reg5) (imm : BitVec 16) -- JALR (R56)
  -- Float
  | fadd (x : CtxId) (rm : BitVec 3) (p : Bool) (rd rs1 rs2 : Reg5) -- FADD (R92)
  | fsub (x : CtxId) (rm : BitVec 3) (p : Bool) (rd rs1 rs2 : Reg5) -- FSUB (R92)
  | fmul (x : CtxId) (rm : BitVec 3) (p : Bool) (rd rs1 rs2 : Reg5) -- FMUL (R92)
  | fma (x : CtxId) (rm : BitVec 3) (p : Bool) (rd rs1 rs2 : Reg5) -- FMA (R92)
  | fms (x : CtxId) (rm : BitVec 3) (p : Bool) (rd rs1 rs2 : Reg5) -- FMS (R92)
  | fnma (x : CtxId) (rm : BitVec 3) (p : Bool) (rd rs1 rs2 : Reg5) -- FNMA (R92)
  | fnms (x : CtxId) (rm : BitVec 3) (p : Bool) (rd rs1 rs2 : Reg5) -- FNMS (R92)
  | fmin (x : CtxId) (p : Bool) (rd rs1 rs2 : Reg5) -- FMIN (R93)
  | fmax (x : CtxId) (p : Bool) (rd rs1 rs2 : Reg5) -- FMAX (R93)
  | fsgnj (x : CtxId) (p : Bool) (rd rs1 rs2 : Reg5) -- FSGNJ (R92)
  | fsgnjn (x : CtxId) (p : Bool) (rd rs1 rs2 : Reg5) -- FSGNJN (R92)
  | fsgnjx (x : CtxId) (p : Bool) (rd rs1 rs2 : Reg5) -- FSGNJX (R92)
  | fcvtsd (x : CtxId) (rm : BitVec 3) (rd rs1 : Reg5) -- FCVTSD (R94)
  | fcvtds (x : CtxId) (rd rs1 : Reg5) -- FCVTDS (R94)
  | fcvtlf (x : CtxId) (rm : BitVec 3) (p : Bool) (rd rs1 : Reg5) -- FCVTLF (R95)
  | fcvtluf (x : CtxId) (rm : BitVec 3) (p : Bool) (rd rs1 : Reg5) -- FCVTLUF (R95)
  | fcvtfl (x : CtxId) (rm : BitVec 3) (p : Bool) (rd rs1 : Reg5) -- FCVTFL (R94)
  | fcvtflu (x : CtxId) (rm : BitVec 3) (p : Bool) (rd rs1 : Reg5) -- FCVTFLU (R94)
  | frint (x : CtxId) (rm : BitVec 3) (p : Bool) (rd rs1 : Reg5) -- FRINT (R94)
  | fmvgf (x : CtxId) (p : Bool) (rd rs1 : Reg5) -- FMVGF (R94)
  | fmvfg (x : CtxId) (p : Bool) (rd rs1 : Reg5) -- FMVFG (R94)
  | feq (x : CtxId) (p : Bool) (rd rs1 rs2 : Reg5) -- FEQ (R96)
  | flt (x : CtxId) (p : Bool) (rd rs1 rs2 : Reg5) -- FLT (R96)
  | fle (x : CtxId) (p : Bool) (rd rs1 rs2 : Reg5) -- FLE (R96)
  | fclass (x : CtxId) (p : Bool) (rd rs1 : Reg5) -- FCLASS (R96)
  | fdsetup (x : CtxId) (p : Bool) (rd rs1 rs2 : Reg5) -- FDSETUP (R98)
  | fdstep (x : CtxId) (p : Bool) (rd rs2 : Reg5) -- FDSTEP (R99)
  | fdfin (x : CtxId) (rm : BitVec 3) (p : Bool) (rd rs1 rs2 : Reg5) -- FDFIN (R100)
  | fssetup (x : CtxId) (p : Bool) (rd rs1 : Reg5) -- FSSETUP (R98)
  | fsstep (x : CtxId) (p : Bool) (rd : Reg5) -- FSSTEP (R99)
  | fsfin (x : CtxId) (rm : BitVec 3) (p : Bool) (rd rs1 : Reg5) -- FSFIN (R100)
  -- Decimal
  | dadd (x : CtxId) (rd rs1 rs2 : Reg5) -- DADD (R105)
  | dsub (x : CtxId) (rd rs1 rs2 : Reg5) -- DSUB (R105)
  | dmul (x : CtxId) (rd rs1 rs2 : Reg5) -- DMUL (R105)
  | dcmp (x : CtxId) (rd rs1 rs2 : Reg5) -- DCMP (R105)
  | dneg (x : CtxId) (rd rs1 : Reg5) -- DNEG (R105)
  | dshl (x : CtxId) (rd rs1 rs2 : Reg5) -- DSHL (R106)
  | dshr (x : CtxId) (rd rs1 rs2 : Reg5) -- DSHR (R106)
  | dshre (x : CtxId) (rd rs1 rs2 : Reg5) -- DSHRE (R106)
  | dshra (x : CtxId) (rd rs1 rs2 : Reg5) -- DSHRA (R106)
  | dtoi (x : CtxId) (rd rs1 : Reg5) -- DTOI (R105)
  | itod (x : CtxId) (rd rs1 : Reg5) -- ITOD (R105)
  | dval (x : CtxId) (rd rs1 : Reg5) -- DVAL (R105)
  | sadd (x : CtxId) (ew : BitVec 2) (rd rs1 rs2 : Reg5) -- SADD (R121)
  | saddu (x : CtxId) (ew : BitVec 2) (rd rs1 rs2 : Reg5) -- SADDU (R121)
  | ssub (x : CtxId) (ew : BitVec 2) (rd rs1 rs2 : Reg5) -- SSUB (R121)
  | ssubu (x : CtxId) (ew : BitVec 2) (rd rs1 rs2 : Reg5) -- SSUBU (R121)
  | qmule (x : CtxId) (ew : BitVec 2) (rd rs1 rs2 : Reg5) -- QMULE (R121)
  | qmula (x : CtxId) (ew : BitVec 2) (rd rs1 rs2 : Reg5) -- QMULA (R121)
  | rshre (x : CtxId) (ew : BitVec 2) (rd rs1 rs2 : Reg5) -- RSHRE (R121)
  | rshra (x : CtxId) (ew : BitVec 2) (rd rs1 rs2 : Reg5) -- RSHRA (R121)
  -- Vector
  | vadd (x : CtxId) (ew : BitVec 2) (o : VF) -- VADD (R118)
  | vsub (x : CtxId) (ew : BitVec 2) (o : VF) -- VSUB (R118)
  | vmul (x : CtxId) (ew : BitVec 2) (o : VF) -- VMUL (R118)
  | vmulh (x : CtxId) (ew : BitVec 2) (o : VF) -- VMULH (R118)
  | vmin (x : CtxId) (ew : BitVec 2) (o : VF) -- VMIN (R118)
  | vmax (x : CtxId) (ew : BitVec 2) (o : VF) -- VMAX (R118)
  | vminu (x : CtxId) (ew : BitVec 2) (o : VF) -- VMINU (R118)
  | vmaxu (x : CtxId) (ew : BitVec 2) (o : VF) -- VMAXU (R118)
  | vand (x : CtxId) (ew : BitVec 2) (o : VF) -- VAND (R118)
  | vor (x : CtxId) (ew : BitVec 2) (o : VF) -- VOR (R118)
  | vxor (x : CtxId) (ew : BitVec 2) (o : VF) -- VXOR (R118)
  | vandn (x : CtxId) (ew : BitVec 2) (o : VF) -- VANDN (R118)
  | vshl (x : CtxId) (ew : BitVec 2) (o : VF) -- VSHL (R118)
  | vshr (x : CtxId) (ew : BitVec 2) (o : VF) -- VSHR (R118)
  | vsar (x : CtxId) (ew : BitVec 2) (o : VF) -- VSAR (R118)
  | viota (x : CtxId) (ew : BitVec 2) (o : VF) -- VIOTA (R118)
  | vsadd (x : CtxId) (ew : BitVec 2) (o : VF) -- VSADD (R120)
  | vsaddu (x : CtxId) (ew : BitVec 2) (o : VF) -- VSADDU (R120)
  | vssub (x : CtxId) (ew : BitVec 2) (o : VF) -- VSSUB (R120)
  | vssubu (x : CtxId) (ew : BitVec 2) (o : VF) -- VSSUBU (R120)
  | vqmule (x : CtxId) (ew : BitVec 2) (o : VF) -- VQMULE (R120)
  | vqmula (x : CtxId) (ew : BitVec 2) (o : VF) -- VQMULA (R120)
  | vrshre (x : CtxId) (ew : BitVec 2) (o : VF) -- VRSHRE (R120)
  | vrshra (x : CtxId) (ew : BitVec 2) (o : VF) -- VRSHRA (R120)
  | vsplat (x : CtxId) (ew : BitVec 2) (o : VF) -- VSPLAT (R119)
  | vext (x : CtxId) (ew : BitVec 2) (o : VF) -- VEXT (R119)
  | vins (x : CtxId) (ew : BitVec 2) (o : VF) -- VINS (R119)
  | vperm (x : CtxId) (ew : BitVec 2) (o : VF) -- VPERM (R119)
  | vcomp (x : CtxId) (ew : BitVec 2) (o : VF) -- VCOMP (R119)
  | vradd (x : CtxId) (ew : BitVec 2) (o : VF) -- VRADD (R119)
  | vrmin (x : CtxId) (ew : BitVec 2) (o : VF) -- VRMIN (R119)
  | vrmax (x : CtxId) (ew : BitVec 2) (o : VF) -- VRMAX (R119)
  -- VectorFp
  | vfadd (x : CtxId) (p : Bool) (o : VF) -- VFADD (R123)
  | vfsub (x : CtxId) (p : Bool) (o : VF) -- VFSUB (R123)
  | vfmul (x : CtxId) (p : Bool) (o : VF) -- VFMUL (R123)
  | vfma (x : CtxId) (p : Bool) (o : VF) -- VFMA (R123)
  | vfmin (x : CtxId) (p : Bool) (o : VF) -- VFMIN (R123)
  | vfmax (x : CtxId) (p : Bool) (o : VF) -- VFMAX (R123)
  | vflt (x : CtxId) (p : Bool) (o : VF) -- VFLT (R122)
  | vfle (x : CtxId) (p : Bool) (o : VF) -- VFLE (R122)
  | vfeqD (x : CtxId) (o : VF) -- VFEQ_D (R122)
  | vfeqS (x : CtxId) (o : VF) -- VFEQ_S (R122)
  | vdadd (x : CtxId) (o : VF) -- VDADD (R124)
  | vdsub (x : CtxId) (o : VF) -- VDSUB (R124)
  | vdmul (x : CtxId) (o : VF) -- VDMUL (R124)
  | vdneg (x : CtxId) (o : VF) -- VDNEG (R124)
  | vdshl (x : CtxId) (o : VF) -- VDSHL (R124)
  | vdshr (x : CtxId) (o : VF) -- VDSHR (R124)
  | vdshre (x : CtxId) (o : VF) -- VDSHRE (R124)
  | vdshra (x : CtxId) (o : VF) -- VDSHRA (R124)
  | vdwiden (x : CtxId) (o : VF) -- VDWIDEN (R122)
  | vdnarrow (x : CtxId) (o : VF) -- VDNARROW (R124)
  | vdrsum (x : CtxId) (o : VF) -- VDRSUM (R124)
  -- Predicate
  | pand (x : CtxId) (pd ps1 ps2 : Pred3) -- PAND (R125)
  | por (x : CtxId) (pd ps1 ps2 : Pred3) -- POR (R125)
  | pxor (x : CtxId) (pd ps1 ps2 : Pred3) -- PXOR (R125)
  | pandn (x : CtxId) (pd ps1 ps2 : Pred3) -- PANDN (R125)
  | pnot (x : CtxId) (pd ps1 : Pred3) -- PNOT (R125)
  | pwhile (x : CtxId) (pd : Pred3) (rs1 rs2 : Reg5) -- PWHILE (R125)
  | pcnt (x : CtxId) (rd : Reg5) (ps1 : Pred3) -- PCNT (R125)
  | pffs (x : CtxId) (rd : Reg5) (ps1 : Pred3) -- PFFS (R125)
  | pfromg (x : CtxId) (pd : Pred3) (rs1 rs2 : Reg5) -- PFROMG (R125)
  | ptog (x : CtxId) (rd : Reg5) (ps1 : Pred3) (hi : Bool) -- PTOG (R125)
  | vdceq (x : CtxId) (o : VF) -- VDCEQ (R125)
  | vdclt (x : CtxId) (o : VF) -- VDCLT (R125)
  | vdcle (x : CtxId) (o : VF) -- VDCLE (R125)
  | vdval (x : CtxId) (o : VF) -- VDVAL (R125)
  | vcmpeq (x : CtxId) (ew : BitVec 2) (o : VF) -- VCMPEQ (R125)
  | vcmpne (x : CtxId) (ew : BitVec 2) (o : VF) -- VCMPNE (R125)
  | vcmplt (x : CtxId) (ew : BitVec 2) (o : VF) -- VCMPLT (R125)
  | vcmpltu (x : CtxId) (ew : BitVec 2) (o : VF) -- VCMPLTU (R125)
  -- VectorMem
  | vld (x : CtxId) (ew : BitVec 2) (o : VF) -- VLD (R128)
  | vst (x : CtxId) (ew : BitVec 2) (o : VF) -- VST (R128)
  | vlds (x : CtxId) (ew : BitVec 2) (o : VF) -- VLDS (R128)
  | vsts (x : CtxId) (ew : BitVec 2) (o : VF) -- VSTS (R128)
  | vgath (x : CtxId) (ew : BitVec 2) (o : VF) -- VGATH (R128)
  | vscat (x : CtxId) (ew : BitVec 2) (o : VF) -- VSCAT (R128)
  | vgathq (x : CtxId) (ew : BitVec 2) (o : VF) -- VGATHQ (R128)
  | vscatq (x : CtxId) (ew : BitVec 2) (o : VF) -- VSCATQ (R128)
  -- Search
  | srch (x : CtxId) (n : BitVec 6) (rd rs1 rs2 : Reg5) -- SRCH (R211)
  | srchw (x : CtxId) (n : BitVec 6) (rd rs1 rs2 : Reg5) -- SRCHW (R211)
  | srcha (x : CtxId) (n : BitVec 6) (rd rs1 rs2 : Reg5) -- SRCHA (R212)
  | srchaw (x : CtxId) (n : BitVec 6) (rd rs1 rs2 : Reg5) -- SRCHAW (R212)
  -- Link
  | lsend (x : CtxId) (port : BitVec 2) (rs1 rs2 : Reg5) -- LSEND (R177)
  | lsendv (x : CtxId) (port : BitVec 2) (hi : BitVec 1) (rs1 rs2 : Reg5) -- LSENDV (R177)
  | lsende (x : CtxId) (port : BitVec 2) (rs1 : Reg5) -- LSENDE (R177)
  | lstat (x : CtxId) (port : BitVec 2) (rd : Reg5) -- LSTAT (R180)
  | lrecv (x : CtxId) (port : BitVec 2) (rd rs1 : Reg5) -- LRECV (R178)
  | lrecvv (x : CtxId) (port : BitVec 2) (hi : BitVec 1) (rd rs2 : Reg5) -- LRECVV (R178)
  -- LocalMover
  | mvgo (x : CtxId) (mode : BitVec 2) (rd rs1 rs2 : Reg5) -- MVGO (R351)
  | mvstat (x : CtxId) (rd : Reg5) -- MVSTAT (R352)
  | mvwait (x : CtxId) (rd : Reg5) -- MVWAIT (R350)
  -- SieveInsn
  | scmp (x : CtxId) (cond : BitVec 4) (pd slot : Pred3) (rs2 : Reg5) -- SCMP (R194)
  | srng (x : CtxId) (pd slot : Pred3) (rs2 : Reg5) -- SRNG (R194)
  | snull (x : CtxId) (pd slot : Pred3) -- SNULL (R194)
  | shdr (x : CtxId) (fld : BitVec 4) (rd : Reg5) (slot : Pred3) -- SHDR (R194)
  | emit (x : CtxId) (ps : Pred3) -- EMIT (R194)
  | sdone (x : CtxId) -- SDONE (R194)
  -- System
  | nop (x : CtxId) -- NOP (R58)
  | fence (x : CtxId) (arg : BitVec 6) -- FENCE (R76)
  | ecall (x : CtxId) -- ECALL (R64)
  | brk (x : CtxId) -- BREAK (R64)
  | rett (x : CtxId) -- RETT (R65)
  | wait (x : CtxId) -- WAIT (R58)
  | waitResume (h : Fin 64) -- WAIT_RESUME (R58)
  | tlbinv (x : CtxId) (arg : BitVec 2) (rs1 rs2 : Reg5) -- TLBINV (R72)
  | jend (x : CtxId) (rs1 : Reg5) -- JEND (R181)
  | csrr (x : CtxId) (rd : Reg5) (n : BitVec 12) -- CSRR (R59)
  | csrw (x : CtxId) (rd rs1 : Reg5) (n : BitVec 12) -- CSRW (R59)
  | csrs (x : CtxId) (rd rs1 : Reg5) (n : BitVec 12) -- CSRS (R59)
  | csrc (x : CtxId) (rd rs1 : Reg5) (n : BitVec 12) -- CSRC (R59)
  -- CacheEvents
  | missDataArrival (x : CtxId) -- MISS_DATA_ARRIVAL (R143)
  | missingLoadReissue (x : CtxId) -- MISSING_LOAD_REISSUE (R143)
  | demandMissFill (x : CtxId) -- DEMAND_MISS_FILL (R135)
  | sideBufferFill (s : Fin 8) (e : Fin 16) -- SIDE_BUFFER_FILL (R146)
  | storeBufferDrain (u : Fin 144) -- STORE_BUFFER_DRAIN (R151)
  | oeCfgWrite (s : Fin 8) (e : Fin 16) (v : BitVec 64) -- OE_CFG_WRITE (R138)
  | l1Invalidate (s : Fin 8) (e : Fin 16) -- L1_INVALIDATE (R148)
  | l1dDisable (s : Fin 8) (e : Fin 16) -- L1D_DISABLE (R163)
  | sideBufferDisable (s : Fin 8) (e : Fin 16) -- SIDE_BUFFER_DISABLE (R148)
  | l2Disable (d : Fin 9) -- L2_DISABLE (R163)
  | l2Enable (d : Fin 9) -- L2_ENABLE (R163)
  | l2LockWrite (d : Fin 9) (v : BitVec 32) -- L2_LOCK_WRITE (R160)
  | l2MopClnR (d : Fin 9) -- L2_MOP_CLN_R (R157)
  | l2MopInvR (d : Fin 9) -- L2_MOP_INV_R (R157)
  | l2MopCliR (d : Fin 9) -- L2_MOP_CLI_R (R157)
  | l2MopClnAll (d : Fin 9) -- L2_MOP_CLN_ALL (R157)
  | l2MopInvAll (d : Fin 9) -- L2_MOP_INV_ALL (R157)
  | l2MopCliAll (d : Fin 9) -- L2_MOP_CLI_ALL (R157)
  | l2MopClnSw (d : Fin 9) (way : BitVec 4) (set : BitVec 13) -- L2_MOP_CLN_SW (R157)
  | l2MopInvSw (d : Fin 9) (way : BitVec 4) (set : BitVec 13) -- L2_MOP_INV_SW (R157)
  | l2MopCliSw (d : Fin 9) (way : BitVec 4) (set : BitVec 13) -- L2_MOP_CLI_SW (R157)
  | l2MopLockfill (d : Fin 9) (way : BitVec 4) -- L2_MOP_LOCKFILL (R162)
  | l2MopComplete (d : Fin 9) -- L2_MOP_COMPLETE (R157)
  | writeAcknowledge (x : CtxId) -- WRITE_ACKNOWLEDGE (R151)
  -- Pipeline
  | runPipe (q : BitVec 16) -- RUN_PIPE (R169)
  | flitDelivery (s : Fin 8) (e : Fin 16) (port : Fin 4) -- FLIT_DELIVERY (R176)
  | creditReturn (s : Fin 8) (e : Fin 16) (port : Fin 4) -- CREDIT_RETURN (R176)
  | timeLimitExpiry (s : Fin 8) (e c : Fin 16) -- TIME_LIMIT_EXPIRY (R185)
  | jobCompletion (s : Fin 8) (e c : Fin 16) -- JOB_COMPLETION (R182)
  -- SieveScan
  | sievePageRead (ch : Fin 32) (n : Fin 8) -- SIEVE_PAGE_READ (R196)
  | groupEvaluation (ch : Fin 32) (n : Fin 8) -- GROUP_EVALUATION (R193)
  | sieveRecordWrite (ch : Fin 32) (n : Fin 8) -- SIEVE_RECORD_WRITE (R199)
  | sieveRdPoll (ch : Fin 32) (n : Fin 8) -- SIEVE_RD_POLL (R199)
  | sievePartEnd (ch : Fin 32) (n : Fin 8) -- SIEVE_PART_END (R200)
  -- Spyglass
  | searchAdmission -- SEARCH_ADMISSION (R214)
  | searchReply (s : Fin 8) (e c : Fin 16) -- SEARCH_REPLY (R213)
  | createTable (q : BitVec 16) -- CREATE_TABLE (R220)
  | destroyTable (q : BitVec 16) -- DESTROY_TABLE (R220)
  | insert (q : BitVec 16) -- INSERT (R221)
  | delete (q : BitVec 16) -- DELETE (R222)
  | spyUpdate (q : BitVec 16) -- SPY_UPDATE (R222)
  | search (q : BitVec 16) -- SEARCH (R223)
  | moveBlock (q : BitVec 16) -- MOVE_BLOCK (R224)
  | readRow (q : BitVec 16) -- READ_ROW (R225)
  | tableInfo (q : BitVec 16) -- TABLE_INFO (R225)
  | rowCommandCompletion (t : BitVec 10) -- ROW_COMMAND_COMPLETION (R219)
  | patrolVisit (row : BitVec 19) -- PATROL_VISIT (R229)
  | rowRepairRelease (row : BitVec 19) -- ROW_REPAIR_RELEASE (R229)
  | mirrorWriteFail -- MIRROR_WRITE_FAIL (R230)
  | resync -- RESYNC (R230)
  | resyncDone -- RESYNC_DONE (R230)
  -- Orrery
  | orrCreate (h : Fin 64) (t : BitVec 14) (any : Bool) (prio : BitVec 8) (start : Bool) -- ORR_CREATE (R235)
  | orrDestroy (h : Fin 64) (t : BitVec 14) -- ORR_DESTROY (R235)
  | setf (h : Fin 64) (t : BitVec 14) -- SETF (R235)
  | clrf (h : Fin 64) (t : BitVec 14) -- CLRF (R235)
  | orrWait (h : Fin 64) (modeAnd consume : Bool) -- ORR_WAIT (R240)
  | sleep (h : Fin 64) -- SLEEP (R235)
  | yield (h : Fin 64) -- YIELD (R235)
  | suspend (h : Fin 64) (t : BitVec 14) -- SUSPEND (R235)
  | orrResume (h : Fin 64) (t : BitVec 14) -- ORR_RESUME (R235)
  | setprio (h : Fin 64) (t : BitVec 14) (prio : BitVec 8) -- SETPRIO (R235)
  | setaff (h : Fin 64) (t : BitVec 14) -- SETAFF (R235)
  | wake (h : Fin 64) (t : BitVec 14) -- WAKE (R235)
  | exit (h : Fin 64) -- EXIT (R235)
  | dispatchCommit (h : Fin 64) -- DISPATCH_COMMIT (R238)
  | tick -- TICK (R241)
  | delayExpiry -- DELAY_EXPIRY (R241)
  | eventDelivery (n : BitVec 12) -- EVENT_DELIVERY (R242)
  | orrSrcWrite (n : BitVec 12) (v : BitVec 64) -- ORR_SRC_WRITE (R242)
  | orrHtEnWrite (v : BitVec 64) -- ORR_HT_EN_WRITE (R237)
  -- Domino
  | terminal -- TERMINAL (R247)
  | itemRelease -- ITEM_RELEASE (R247)
  | skip (f : BitVec 16) (sq : BitVec 32) -- SKIP (R251)
  | domFlush (f : BitVec 16) -- DOM_FLUSH (R251)
  | stallDetect (f : BitVec 16) -- STALL_DETECT (R252)
  | flowCfgWrite (f : BitVec 16) (v : BitVec 64) -- FLOW_CFG_WRITE (R245)
  -- Queue
  | doorbellStore (bid : BitVec 12) (q : BitVec 16) (form : DbForm) (v : BitVec 64) -- DOORBELL_STORE (R265)
  | doorbellLoad (bid : BitVec 12) (q : BitVec 16) (form : DbForm) -- DOORBELL_LOAD (R263)
  | entryFetch (q : BitVec 16) -- ENTRY_FETCH (R268)
  | qmQctlWrite (q : BitVec 16) (v : BitVec 32) -- QM_QCTL_WRITE (R274)
  -- Admin
  | adminDirectGo -- ADMIN_DIRECT_GO (R278)
  | createBooth (src : AdmSrc) -- CREATE_BOOTH (R281)
  | destroyBooth (src : AdmSrc) -- DESTROY_BOOTH (R281)
  | resetBooth (src : AdmSrc) -- RESET_BOOTH (R279)
  | resetBoothDiscard -- RESET_BOOTH_DISCARD (R279)
  | createQueue (src : AdmSrc) -- CREATE_QUEUE (R282)
  | destroyQueue (src : AdmSrc) -- DESTROY_QUEUE (R281)
  | setWindow (src : AdmSrc) -- SET_WINDOW (R283)
  | clearWindow (src : AdmSrc) -- CLEAR_WINDOW (R281)
  | setQuota (src : AdmSrc) -- SET_QUOTA (R284)
  | setShare (src : AdmSrc) -- SET_SHARE (R281)
  -- Almanac
  | format -- FORMAT (R291)
  | formatComplete (marked failed : List Nat) -- FORMAT_COMPLETE (R291)
  | nsCreate (nsid : BitVec 11) (bid : BitVec 12) (size : BitVec 24) (ledger ordered : Bool) -- NS_CREATE (R296)
  | nsDestroy (nsid : BitVec 11) -- NS_DESTROY (R296)
  | writeBufferAccept -- WRITE_BUFFER_ACCEPT (R299)
  | programComplete (g : Fin 32) (pass : Bool) -- PROGRAM_COMPLETE (R301)
  | programUnitFillTimeout (g : Fin 32) -- PROGRAM_UNIT_FILL_TIMEOUT (R300)
  | slotReadComplete (g : Fin 32) (steps : Nat) (ok : Bool) -- SLOT_READ_COMPLETE (R303)
  | relocationCopy (g : Fin 32) (readOk progOk : Bool) -- RELOCATION_COPY (R305)
  | blockErase (blk : BitVec 28) (pass : Bool) -- BLOCK_ERASE (R306)
  | patrolRead (blk : BitVec 28) (steps : Nat) (weak : Bool) -- PATROL_READ (R309)
  | tablePageWrite -- TABLE_PAGE_WRITE (R312)
  | blockOpen (g : Fin 32) (stream : BitVec 4) -- BLOCK_OPEN (R315)
  | ckpt -- CKPT (R313)
  | checkpointTimer -- CHECKPOINT_TIMER (R313)
  | checkpointCommit -- CHECKPOINT_COMMIT (R313)
  | tablePageLoad -- TABLE_PAGE_LOAD (R317)
  -- Ledger
  | sealTimeout (nsid : BitVec 11) -- SEAL_TIMEOUT (R321)
  | lgReadChain -- LG_READ_CHAIN (R323)
  | lgSeal -- LG_SEAL (R321)
  | lgHeadCapture -- LG_HEAD_CAPTURE (R323)
  | lgSelWrite (v : BitVec 32) -- LG_SEL_WRITE (R323)
  | almPsWrite (v : BitVec 32) -- ALM_PS_WRITE (R343)
  | psTransitionEnd -- PS_TRANSITION_END (R343)
  -- Storage
  | flush (q : BitVec 16) -- FLUSH (R331)
  | write (q : BitVec 16) -- WRITE (R330)
  | read (q : BitVec 16) -- READ (R330)
  | trim (q : BitVec 16) -- TRIM (R302)
  | orderedWrite (q : BitVec 16) -- ORDERED_WRITE (R336)
  | orderedRead (q : BitVec 16) -- ORDERED_READ (R336)
  | append (q : BitVec 16) -- APPEND (R320)
  | readChain (q : BitVec 16) -- READ_CHAIN (R332)
  | scan (q : BitVec 16) -- SCAN (R333)
  | scanComplete (n : Fin 8) -- SCAN_COMPLETE (R334)
  | orderedCommandStart (f : BitVec 16) -- ORDERED_COMMAND_START (R336)
  -- HostNvme
  | hostIoCommand (fn : BitVec 8) (sqid : BitVec 16) (sqe : BitVec 512) -- HOST_IO_COMMAND (R339)
  | hostDoorbell (fn : BitVec 8) (qid : BitVec 16) (isCq : Bool) (v : BitVec 32) -- HOST_DOORBELL (R339)
  | createIoSq (fn : BitVec 8) (cid : BitVec 16) (sqid cqid size : BitVec 16) -- CREATE_IO_SQ (R416)
  | createIoCq (fn : BitVec 8) (cid : BitVec 16) (cqid size vec : BitVec 16) (ien : Bool) -- CREATE_IO_CQ (R338)
  | deleteIoSq (fn : BitVec 8) (cid : BitVec 16) (qid : BitVec 16) -- DELETE_IO_SQ (R338)
  | deleteIoCq (fn : BitVec 8) (cid : BitVec 16) (qid : BitVec 16) -- DELETE_IO_CQ (R338)
  | identify (fn : BitVec 8) (cid : BitVec 16) (cns : BitVec 8) (nsid : BitVec 32) -- IDENTIFY (R338)
  | getLogPage (fn : BitVec 8) (cid : BitVec 16) (lid : BitVec 8) -- GET_LOG_PAGE (R338)
  | setFeatures (fn : BitVec 8) (cid : BitVec 16) (fid : BitVec 8) (v : BitVec 32) -- SET_FEATURES (R338)
  | getFeatures (fn : BitVec 8) (cid : BitVec 16) (sel : FeatSel) -- GET_FEATURES (R338)
  | orderedQueueSelect (fn : BitVec 8) (cid : BitVec 16) (v : BitVec 16) -- ORDERED_QUEUE_SELECT (R340)
  | abort (fn : BitVec 8) (cid : BitVec 16) (sqid acid : BitVec 16) -- ABORT (R341)
  | asyncEventRequest (fn : BitVec 8) (cid : BitVec 16) -- ASYNC_EVENT_REQUEST (R338)
  | ccEnSet (fn : BitVec 8) -- CC_EN_SET (R416)
  | ccEnClear (fn : BitVec 8) -- CC_EN_CLEAR (R342)
  | functionLevelReset (fn : BitVec 8) -- FUNCTION_LEVEL_RESET (R342)
  | shutdownNotification (fn : BitVec 8) -- SHUTDOWN_NOTIFICATION (R342)
  | pciFnWrite (fn : BitVec 8) (v : BitVec 64) -- PCI_FN_WRITE (R416)
  | pcieLinkChange (up : Bool) -- PCIE_LINK_CHANGE (R416)
  | perstN (level : Bool) -- PERST_N (R415)
  | interruptCoalescingTimer (fn : BitVec 8) (cqid : BitVec 16) -- INTERRUPT_COALESCING_TIMER (R338)
  -- Mover
  | transferComplete (ch : Fin 288) -- TRANSFER_COMPLETE (R349)
  | moverHalt (ch : Fin 288) -- MOVER_HALT (R353)
  | mvGo (ch : Fin 288) (mode : BitVec 2) -- MV_GO (R347)
  | mvResume (ch : Fin 288) -- MV_RESUME (R361)
  | mvAbort (ch : Fin 288) -- MV_ABORT (R361)
  | runChain (q : BitVec 16) -- RUN_CHAIN (R358)
  | descriptorStart (ch : Fin 288) -- DESCRIPTOR_START (R358)
  | gatePoll (ch : Fin 288) -- GATE_POLL (R359)
  -- Digest
  | dgAlloc (q : BitVec 16) -- DG_ALLOC (R364)
  | dgFree (q : BitVec 16) -- DG_FREE (R364)
  | dgUpdate (q : BitVec 16) -- DG_UPDATE (R366)
  | loadState (q : BitVec 16) -- LOAD_STATE (R368)
  | storeState (q : BitVec 16) -- STORE_STATE (R368)
  | fragmentApply (n : BitVec 12) -- FRAGMENT_APPLY (R365)
  -- Compress
  | compress (q : BitVec 16) -- COMPRESS (R371)
  | decompress (q : BitVec 16) -- DECOMPRESS (R376)
  | openCz (q : BitVec 16) -- OPEN (R375)
  | close (q : BitVec 16) -- CLOSE (R374)
  | compressionJobEnd (u : Fin 4) -- COMPRESSION_JOB_END (R375)
  -- MemCtl
  | mergeDrainTimeout (n : Fin 13) -- MERGE_DRAIN_TIMEOUT (R388)
  | requestPromote (n : Fin 12) -- REQUEST_PROMOTE (R390)
  | memoryRefresh (n : Fin 12) -- MEMORY_REFRESH (R390)
  | scrubGo -- SCRUB_GO (R397)
  | scrubWord -- SCRUB_WORD (R398)
  | scrubAbort -- SCRUB_ABORT (R399)
  | scrubEnd -- SCRUB_END (R399)
  | recenter (n : Fin 12) -- RECENTER (R395)
  | recenterEnd (n : Fin 12) (lanes : List LaneRep) -- RECENTER_END (R395)
  -- Net
  | frameReceive (port : Fin 8) (frame : List (BitVec 8)) (fcsOk : Bool) -- FRAME_RECEIVE (R406)
  | frameLanding (port : Fin 8) -- FRAME_LANDING (R410)
  | send (q : BitVec 16) -- SEND (R413)
  | frameTransmitDone (port : Fin 8) -- FRAME_TRANSMIT_DONE (R413)
  | linkChange (port : Fin 8) (up : Bool) -- LINK_CHANGE (R402)
  | ptpSample (o : BitVec 64) -- PTP_SAMPLE (R405)
  | rxbCfgWrite (i : BitVec 8) (v : BitVec 64) -- RXB_CFG_WRITE (R409)
  -- Meridian
  | merStepWrite (v : BitVec 64) -- MER_STEP_WRITE (R30)
  | merRateWrite (v : BitVec 32) -- MER_RATE_WRITE (R29)
  -- Stagehand
  | mboxSend (v : BitVec 64) -- MBOX_SEND (R418)
  | mboxPost (words : List (BitVec 64)) -- MBOX_POST (R421)
  | attestationRequest (nonce : BitVec 256) -- ATTESTATION_REQUEST (R419)
  | firmwareUpdate (version : BitVec 64) (image : List (BitVec 8)) (sigOk : Bool) -- FIRMWARE_UPDATE (R420)
  | firmwareCommit -- FIRMWARE_COMMIT (R420)
  | telemetrySample -- TELEMETRY_SAMPLE (R421)
  -- Modes
  | stagehandModeRequest (m : BitVec 3) -- STAGEHAND_MODE_REQUEST (R421)
  | modeRequest (m : BitVec 3) -- MODE_REQUEST (R423)
  | unitApply (u : Fin 17) -- UNIT_APPLY (R426)
  | epochTimeout -- EPOCH_TIMEOUT (R427)
  -- Init
  | porN (level : Bool) -- POR_N (R430)
  | devRstWrite (v : BitVec 32) -- DEV_RST_WRITE (R431)
  | pllLock -- PLL_LOCK (R431)
  | stagehandBoot (okA okB : Bool) -- STAGEHAND_BOOT (R418)
  | recordRead -- RECORD_READ (R435)
  | sramInit (pass : Bool) -- SRAM_INIT (R164)
  | memoryTraining (r : TrainRep) -- MEMORY_TRAINING (R394)
  | powerOnFill -- POWER_ON_FILL (R396)
  | imageLoad (m k : List (BitVec 8)) (mOk kOk : Bool) -- IMAGE_LOAD (R418)
  | almanacRecovery -- ALMANAC_RECOVERY (R317)
  | initEnd -- INIT_END (R431)
  | clockLockLost (i : Fin 20) -- CLOCK_LOCK_LOST (R433)
  | clockRelock (i : Fin 20) -- CLOCK_RELOCK (R433)
  | clockLostTimeout (i : Fin 20) -- CLOCK_LOST_TIMEOUT (R433)
  | personalityRecordReceive (body : List (BitVec 8)) -- PERSONALITY_RECORD_RECEIVE (R432)
  -- HoldUp
  | pfN (lowNs : Nat) -- PF_N (R441)
  | holdupDone -- HOLDUP_DONE (R441)
  | voltageSample (senseMv : Nat) -- VOLTAGE_SAMPLE (R438)
  | meas -- MEAS (R438)
  | measDue -- MEAS_DUE (R438)
  | measStart -- MEAS_START (R438)
  | measEnd (dtUs : Nat) -- MEAS_END (R438)
  | limitRecompute -- LIMIT_RECOMPUTE (R440)
  -- Power
  | railUndervoltage (rail : Fin 14) (ns : Nat) (permille : Nat) -- RAIL_UNDERVOLTAGE (R448)
  | limiterEval (watts : Nat) (temps : List Nat) -- LIMITER_EVAL (R457)
  | thermalTrip (sensor : Fin 9) (eighths : Nat) -- THERMAL_TRIP (R459)
  | tapIdcode -- TAP_IDCODE (R454)
  | tapBypass -- TAP_BYPASS (R454)
  | tapExtest -- TAP_EXTEST (R454)
  | tapSample -- TAP_SAMPLE (R454)
  | tapPreload -- TAP_PRELOAD (R454)
  -- Csr
  | registerWrite (who : Requester) (addr : BitVec 48) (size : CsrSize) (v : BitVec 64) -- REGISTER_WRITE (R10)
deriving DecidableEq, Repr

end Sys2Proof
end

