-- ==== Sys2Proof/Decode.lean ====
section
/-! DEFINITION. Sys2Proof/Decode.lean: the decoding of words into commands. The command table gives its rows no bits (every row's list
of fields is empty), so no word spells a command; programs of sieves, whose words the block reads itself, are decoded in
Sys2Proof/Machine/SieveInsn.lean. -/

namespace Sys2Proof

/-- The command that a word spells: none. -/
def decodeTableWord (_nbits _w : Nat) : Option Instr := none

end Sys2Proof
end

