-- ==== Sys2Proof/Word.lean ====
section
/-! DEFINITION. Sys2Proof/Word.lean: the words of the block. -/

namespace Sys2Proof

abbrev Byte := BitVec 8
/-- A 64-bit register or bus word. -/
abbrev W64 := BitVec 64
/-- A 128-bit vector or predicate register (R35). -/
abbrev W128 := BitVec 128
/-- The data of one 64-byte cache line (R149). -/
abbrev Line := BitVec 512

end Sys2Proof
end

