-- ==== Sys2Proof/Config.lean ====
section
/-! DEFINITION. Sys2Proof/Config.lean: what one part fixes (fuses, choices the spec leaves to the hardware) and the free
values of the model. Each is opaque: no proof can see its value, so a statement about it holds whatever it is. -/

namespace Sys2Proof

/-- The k-th value that the spec leaves open (R141, R361, R377 and others; log entry 7). -/
opaque Config.freeValue : Nat → Nat
/-- Grade fused into the part (R1): true is the OPL-8460-26, false the OPL-8460-22. DESIGN CHOICE (log entry 91). -/
opaque Config.grade26 : Bool
/-- The slices that are not fused off (R431). DESIGN CHOICE (log entry 91). -/
opaque Config.slices : BitVec 8
/-- The device number in the fuses (R23), which is never zero: a zero here stands for 1. DESIGN CHOICE (log entry 91). -/
opaque Config.serial : BitVec 64
/-- Silicon stepping fields STEP_MINOR and STEP_MAJOR of DEV_ID (R23). -/
opaque Config.stepping : BitVec 8
/-- The mask between the significand digits of R97 and the opaque field DIG of R98. DESIGN CHOICE (log entry 90). -/
opaque Config.digMask : BitVec 56
/-- The mask between the partial remainder and the opaque second register of the pair (R98). -/
opaque Config.remMask : BitVec 64
/-- What the compression engine's coder chooses for a block, where R371 leaves it to the part: where the block ends, the literal or match
at each position, and the description of its dynamic form: code lengths, and the symbols with extra bits that spell them. -/
structure CzPlan where
  size : Nat := 65535
  use : List Nat := []
  lit : List Nat := []
  dist : List Nat := []
  cl : List Nat := []
  spell : List (Nat × Nat) := []
deriving DecidableEq, Repr
/-- The plan of the blocks of a job (R371) for a format, a level, whether it ends the stream, the stream's source bytes job by job before
this job, and this job's source bytes. DESIGN CHOICE (log entry 41). -/
opaque Config.deflate : Nat → Nat → Bool → List (List Byte) → List Byte → List CzPlan
/-- The capacitance in µF for Δt, R_T, V1 and V_end where the logarithm of R438 is no positive number. -/
opaque Config.capacitance : Nat → Nat → Nat → Nat → Nat
/-- The available-spare threshold in percent of SMART / Health (R338), which the spec does not give. -/
opaque Config.spareThreshold : Nat

end Sys2Proof
end

