-- ==== Sys2Proof/Machine/Bits.lean ====
section
/-! DEFINITION. Sys2Proof/Machine/Bits.lean: bit fields, sign extension and the little-endian byte order (R8). -/

namespace Sys2Proof

/-- Field [lo + w - 1 : lo] of a word, as a number. -/
def fld {n : Nat} (v : BitVec n) (lo w : Nat) : Nat := (v.toNat / 2 ^ lo) % 2 ^ w

/-- Bit i of a word. -/
def bitAt {n : Nat} (v : BitVec n) (i : Nat) : Bool := v.getLsbD i

/-- A word with field [lo + w - 1 : lo] replaced by a number. -/
def setFld {n : Nat} (v : BitVec n) (lo w x : Nat) : BitVec n :=
  (v &&& ~~~(BitVec.ofNat n ((2 ^ w - 1) * 2 ^ lo))) ||| BitVec.ofNat n ((x % 2 ^ w) * 2 ^ lo)

/-- A word with bit i set to b. -/
def setBit {n : Nat} (v : BitVec n) (i : Nat) (b : Bool) : BitVec n := setFld v i 1 b.toNat

/-- A Bool as a 64-bit result 0 or 1. -/
def ofBool64 (b : Bool) : W64 := if b then 1 else 0

/-- The low w bits of a word, sign-extended to 64 bits. -/
def sextTo64 (w : Nat) (v : W64) : W64 := (v.setWidth w).signExtend 64

/-- n bytes of a number, the least significant first (R8). -/
def leBytes : Nat → Nat → List Byte
  | 0, _ => []
  | n + 1, v => BitVec.ofNat 8 v :: leBytes n (v / 256)

/-- The number that bytes spell, the least significant first (R8). -/
def leVal : List Byte → Nat
  | [] => 0
  | b :: t => b.toNat + 256 * leVal t

/-- Field of a record: n bytes from byte k (R8). -/
def recFld (l : List Byte) (k n : Nat) : Nat := leVal ((l.drop k).take n)

/-- The number that bytes spell, the most significant first. -/
def beVal (l : List Byte) : Nat := l.foldl (fun a b => a * 256 + b.toNat) 0

/-- n bytes of a number, the most significant first. -/
def beBytes (n v : Nat) : List Byte := (leBytes n v).reverse

/-- Byte i of a line. -/
def lineByte (d : Line) (i : Nat) : Byte := d.extractLsb' (8 * i) 8

/-- A line with byte i replaced. -/
def lineSet (d : Line) (i : Nat) (b : Byte) : Line :=
  (d &&& ~~~((255 : Line) <<< (8 * i))) ||| ((b.setWidth 512) <<< (8 * i))

/-- A line with bytes written from offset i upwards; bytes past the end of the line are dropped. -/
def linePut (d : Line) (i : Nat) : List Byte → Line
  | [] => d
  | b :: t => linePut (lineSet d i b) (i + 1) t

/-- The line that 64 bytes spell. -/
def lineOf (l : List Byte) : Line := BitVec.ofNat 512 (leVal l)

/-- Bytes i to i + n - 1 of a line. -/
def lineBytes (d : Line) (i n : Nat) : List Byte := (List.range n).map (fun k => lineByte d (i + k))

/-- The position of the highest set bit plus one; 0 for 0 (R82). -/
def bitLen (x : Nat) : Nat := if x = 0 then 0 else Nat.log2 x + 1

/-- ⌈a / b⌉. -/
def ceilDiv (a b : Nat) : Nat := (a + b - 1) / b

/-- The least index below n at which a test holds. -/
def firstIdx (n : Nat) (p : Nat → Bool) : Option Nat := (List.range n).find? p

end Sys2Proof
end

