-- ==== Sys2Proof/Machine/Regs.lean ====
section
/-! DEFINITION. Sys2Proof/Machine/Regs.lean: the registers of CSR space: where each lies (R23 and the register tables of
the chapters), its width, its reset value and the types of its fields (R10). Every slot of 8 bytes holds one register. -/

namespace Sys2Proof.Machine

/-- A register or an indexed set of registers: first address, (count, stride) of each index from the widest stride down,
width 32 or 64, reset value, and the masks of its RW, RW1C, RWL, WO and SC fields. Bits in no mask are RO or reserved. -/
structure RegD where
  base : Nat
  dims : List (Nat × Nat)
  w32 : Bool
  rst : W64
  rw : W64
  w1c : W64
  rwl : W64
  wo : W64
  sc : W64
deriving DecidableEq, Repr

/-- Whether an offset is a place of an indexed set. -/
def dimsHit : List (Nat × Nat) → Nat → Bool
  | [], o => o == 0
  | (n, st) :: r, o => decide (o / st < n) && dimsHit r (o % st)

/-- The registers of chapter 01 of the spec. -/
def regTab01 : List RegD := [
  ⟨0x80000000000, [], false, 0x84601d7a, 0, 0, 0, 0, 0⟩ /- DEV_ID -/,
  ⟨0x80000000008, [], false, 0, 0, 0, 0, 0, 0⟩ /- DEV_SERIAL -/,
  ⟨0x80000000010, [], false, 0, 0, 0xfffff00000000, 0, 0, 0⟩ /- DEV_CLK_STAT -/,
  ⟨0x80000010000, [], false, 0, 0, 0, 0, 0, 0⟩ /- MER_NOW -/,
  ⟨0x80000010008, [], true, 0, 0, 0, 0x1, 0, 0⟩ /- MER_CTL -/,
  ⟨0x80000010010, [], true, 0, 0xffffffff, 0, 0, 0, 0⟩ /- MER_RATE -/,
  ⟨0x80000010018, [], false, 0, 0, 0, 0, 0xffffffffffffffff, 0⟩ /- MER_STEP -/,
  ⟨0x80000010020, [], true, 0, 0, 0x3, 0, 0, 0⟩ /- MER_STAT -/]

/-- The registers of chapter 15 of the spec. -/
def regTab15 : List RegD := [
  ⟨0x80000000100, [], false, 0, 0, 0, 0, 0, 0⟩ /- DEV_MODE -/,
  ⟨0x80000000108, [], true, 0, 0, 0, 0, 0x7, 0⟩ /- DEV_MODE_REQ -/,
  ⟨0x80000000110, [], false, 0, 0, 0x10000, 0, 0, 0⟩ /- DEV_MODE_STAT -/,
  ⟨0x80000000118, [], true, 0, 0, 0, 0, 0, 0⟩ /- DEV_INIT_STAT -/,
  ⟨0x80000000120, [], true, 0, 0, 0, 0, 0xff01, 0⟩ /- DEV_RST -/,
  ⟨0x80000020000, [], true, 0, 0x2, 0, 0, 0, 0x1⟩ /- HU_CTL -/,
  ⟨0x80000020008, [], true, 0x8, 0, 0x10, 0, 0, 0⟩ /- HU_STAT -/,
  ⟨0x80000020010, [], true, 0, 0, 0, 0, 0, 0⟩ /- HU_V -/,
  ⟨0x80000020018, [], false, 0, 0, 0, 0, 0, 0⟩ /- HU_C -/,
  ⟨0x80000020020, [], true, 0, 0, 0, 0, 0, 0⟩ /- HU_E -/,
  ⟨0x80000020028, [], true, 0, 0, 0, 0, 0, 0⟩ /- HU_LIMIT -/,
  ⟨0x80000020030, [], false, 0, 0, 0, 0, 0, 0⟩ /- HU_CFG0 -/,
  ⟨0x80000020038, [], false, 0, 0, 0, 0, 0, 0⟩ /- HU_CFG1 -/,
  ⟨0x80000020040, [], false, 0, 0, 0, 0, 0, 0⟩ /- HU_CFG2 -/,
  ⟨0x80000020048, [], true, 0, 0, 0, 0, 0, 0⟩ /- HU_FLUSH_RATE -/,
  ⟨0x80000020050, [], false, 0, 0, 0, 0, 0, 0⟩ /- HU_LAST_HOLD -/]

/-- The registers of chapter 16 of the spec. -/
def regTab16 : List RegD := [
  ⟨0x80000000200, [], true, 0x32001, 0x3ffff, 0, 0, 0, 0⟩ /- DEV_PWR_CTL -/,
  ⟨0x80000000208, [], false, 0, 0, 0x300000000, 0, 0, 0⟩ /- DEV_PWR_STAT -/,
  ⟨0x80000000210, [], true, 0, 0xfff0001, 0, 0, 0, 0⟩ /- DEV_PWR_EVT -/,
  ⟨0x80000000220, [(9, 0x8)], true, 0, 0, 0, 0, 0, 0⟩ /- DEV_TEMP -/]

/-- The registers of chapter 05 of the spec. -/
def regTab05 : List RegD := [
  ⟨0x80010400000, [(8, 0x1000000), (16, 0x10000)], false, 0x40, 0xffff007f, 0, 0, 0, 0⟩ /- OE_CFG -/,
  ⟨0x80010400008, [(8, 0x1000000), (16, 0x10000)], false, 0x1, 0, 0x2, 0, 0, 0⟩ /- OE_STAT -/,
  ⟨0x80010400010, [(8, 0x1000000), (16, 0x10000)], true, 0x7, 0x7, 0, 0, 0, 0x8⟩ /- OE_L1_CTL -/,
  ⟨0x80010401000, [(8, 0x1000000), (16, 0x10000), (16, 0x100)], false, 0, 0, 0x8, 0, 0, 0⟩ /- OE_CTX_STATE -/,
  ⟨0x80010401008, [(8, 0x1000000), (16, 0x10000), (16, 0x100)], false, 0, 0, 0, 0, 0, 0⟩ /- OE_TRAP_EPC -/,
  ⟨0x80010401010, [(8, 0x1000000), (16, 0x10000), (16, 0x100)], false, 0, 0, 0, 0, 0, 0⟩ /- OE_TRAP_ENPC -/,
  ⟨0x80010401018, [(8, 0x1000000), (16, 0x10000), (16, 0x100)], false, 0, 0, 0, 0, 0, 0⟩ /- OE_TRAP_VAL -/,
  ⟨0x80010401020, [(8, 0x1000000), (16, 0x10000), (16, 0x100)], false, 0, 0, 0, 0, 0, 0⟩ /- OE_TRAP_CAUSE -/,
  ⟨0x80010401028, [(8, 0x1000000), (16, 0x10000), (16, 0x100)], false, 0, 0, 0, 0, 0, 0⟩ /- OE_TRAP_INFO -/,
  ⟨0x80010401030, [(8, 0x1000000), (16, 0x10000), (16, 0x100)], false, 0, 0xffffffffffffffff, 0, 0, 0, 0⟩ /- OE_RA_EPIS -/,
  ⟨0x80010401038, [(8, 0x1000000), (16, 0x10000), (16, 0x100)], false, 0, 0xffffffffffffffff, 0, 0, 0, 0⟩ /- OE_RA_INSN -/,
  ⟨0x80010401040, [(8, 0x1000000), (16, 0x10000), (16, 0x100)], false, 0, 0xffffffffffffffff, 0, 0, 0, 0⟩ /- OE_RA_PREF -/,
  ⟨0x80010100000, [(8, 0x1000000)], true, 0, 0x1, 0, 0, 0, 0⟩ /- L2_CTL -/,
  ⟨0x80000040000, [], true, 0, 0x1, 0, 0, 0, 0⟩ /- L2_CTL [8] -/,
  ⟨0x80010100008, [(8, 0x1000000)], true, 0, 0, 0x6e, 0, 0, 0⟩ /- L2_STAT -/,
  ⟨0x80000040008, [], true, 0, 0, 0x6e, 0, 0, 0⟩ /- L2_STAT [8] -/,
  ⟨0x80010100010, [(8, 0x1000000)], true, 0, 0xffff, 0, 0, 0, 0⟩ /- L2_LOCK -/,
  ⟨0x80000040010, [], true, 0, 0xffff, 0, 0, 0, 0⟩ /- L2_LOCK [8] -/,
  ⟨0x80010100018, [(8, 0x1000000)], false, 0, 0xffffffffffc0, 0, 0, 0, 0⟩ /- L2_MOP_ADDR -/,
  ⟨0x80000040018, [], false, 0, 0xffffffffffc0, 0, 0, 0, 0⟩ /- L2_MOP_ADDR [8] -/,
  ⟨0x80010100020, [(8, 0x1000000)], false, 0, 0xffffffffffff, 0, 0, 0, 0⟩ /- L2_MOP_LEN -/,
  ⟨0x80000040020, [], false, 0, 0xffffffffffff, 0, 0, 0, 0⟩ /- L2_MOP_LEN [8] -/,
  ⟨0x80010100028, [(8, 0x1000000)], true, 0, 0x1fffff, 0, 0, 0, 0x80000000⟩ /- L2_MOP_CMD -/,
  ⟨0x80000040028, [], true, 0, 0x1fffff, 0, 0, 0, 0x80000000⟩ /- L2_MOP_CMD [8] -/,
  ⟨0x80010100030, [(8, 0x1000000)], false, 0, 0, 0, 0, 0, 0⟩ /- L2_ERRADDR -/,
  ⟨0x80000040030, [], false, 0, 0, 0, 0, 0, 0⟩ /- L2_ERRADDR [8] -/,
  ⟨0x80010400100, [(8, 0x1000000), (16, 0x10000), (13, 0x8)], false, 0, 0xffffffffffffffff, 0, 0, 0, 0⟩ /- OE_PMC -/,
  ⟨0x80010100100, [(8, 0x1000000), (8, 0x8)], false, 0, 0xffffffffffffffff, 0, 0, 0, 0⟩ /- L2_PMC -/,
  ⟨0x80000040100, [(8, 0x8)], false, 0, 0xffffffffffffffff, 0, 0, 0, 0⟩ /- L2_PMC [8] -/]

/-- The registers of chapter 06 of the spec. -/
def regTab06 : List RegD := [
  ⟨0x80010400018, [(8, 0x1000000), (16, 0x10000)], false, 0, 0, 0, 0, 0, 0⟩ /- OE_LINK_STAT -/,
  ⟨0x80010400020, [(8, 0x1000000), (16, 0x10000)], false, 0, 0xffffffffffffffff, 0, 0, 0, 0⟩ /- OE_LINK_DROP -/,
  ⟨0x80000900000, [(32, 0x8000)], true, 0, 0, 0, 0, 0, 0⟩ /- SV_STAT -/,
  ⟨0x80000901000, [(32, 0x8000), (8, 0x100)], false, 0, 0, 0, 0, 0, 0⟩ /- SV_SCAN_STATE -/,
  ⟨0x80000901008, [(32, 0x8000), (8, 0x100)], false, 0, 0, 0, 0, 0, 0⟩ /- SV_SCAN_CTRL -/,
  ⟨0x80000901010, [(32, 0x8000), (8, 0x100)], false, 0, 0, 0, 0, 0, 0⟩ /- SV_SCAN_WR -/,
  ⟨0x80000901018, [(32, 0x8000), (8, 0x100)], false, 0, 0, 0, 0, 0, 0⟩ /- SV_SCAN_RD -/,
  ⟨0x80000901020, [(32, 0x8000), (8, 0x100)], false, 0, 0xffffffffffffffff, 0, 0, 0, 0⟩ /- SV_SCAN_GROUPS -/,
  ⟨0x80000901028, [(32, 0x8000), (8, 0x100)], false, 0, 0xffffffffffffffff, 0, 0, 0, 0⟩ /- SV_SCAN_PASS -/,
  ⟨0x80000901030, [(32, 0x8000), (8, 0x100)], false, 0, 0, 0, 0, 0, 0⟩ /- SV_SCAN_ERR -/,
  ⟨0x80000901038, [(32, 0x8000), (8, 0x100)], false, 0, 0, 0, 0, 0, 0⟩ /- SV_SCAN_ERRLBA -/]

/-- The registers of chapter 07 of the spec. -/
def regTab07 : List RegD := [
  ⟨0x80000400000, [], true, 0x2, 0x3, 0, 0, 0, 0x4⟩ /- SPY_CTL -/,
  ⟨0x80000400008, [], true, 0, 0, 0xe, 0, 0, 0⟩ /- SPY_STAT -/,
  ⟨0x80000400010, [], false, 0, 0, 0, 0xffffffe00000, 0, 0⟩ /- SPY_MIRROR_BASE -/,
  ⟨0x80000400018, [], true, 0x7d0, 0xffff, 0, 0, 0, 0⟩ /- SPY_PATROL -/,
  ⟨0x80000400020, [], false, 0, 0, 0, 0, 0, 0⟩ /- SPY_ERR_LAST -/,
  ⟨0x80000400028, [], false, 0, 0xffffffffffffffff, 0, 0, 0, 0⟩ /- SPY_SWEEPS -/,
  ⟨0x80000400030, [], false, 0, 0xffffffffffffffff, 0, 0, 0, 0⟩ /- SPY_REPAIR_CNT -/,
  ⟨0x80000400038, [], false, 0, 0xffffffffffffffff, 0, 0, 0, 0⟩ /- SPY_LOST_CNT -/,
  ⟨0x80000400040, [], false, 0, 0xffffffffffffffff, 0, 0, 0, 0⟩ /- SPY_SRCH_CNT -/,
  ⟨0x80000400048, [], false, 0, 0xffffffffffffffff, 0, 0, 0, 0⟩ /- SPY_SLOT_CNT -/,
  ⟨0x80000400050, [], true, 0, 0, 0, 0, 0, 0⟩ /- SPY_SEG_FREE -/,
  ⟨0x80000410000, [(1024, 0x10)], false, 0, 0, 0, 0, 0, 0⟩ /- SPY_TBL_CFG -/,
  ⟨0x80000410008, [(1024, 0x10)], false, 0, 0, 0, 0, 0, 0⟩ /- SPY_TBL_CNT -/,
  ⟨0x80000420000, [(1024, 0x8)], false, 0, 0, 0, 0, 0, 0⟩ /- SPY_SEG -/]

/-- The registers of chapter 08 of the spec. -/
def regTab08 : List RegD := [
  ⟨0x80000100000, [], true, 0, 0x1, 0, 0, 0, 0⟩ /- ORR_CTL -/,
  ⟨0x80000100008, [], true, 0, 0, 0x3, 0, 0, 0⟩ /- ORR_STAT -/,
  ⟨0x80000100010, [], true, 0x3e8, 0x3fff, 0, 0, 0, 0⟩ /- ORR_TICK -/,
  ⟨0x80000100020, [], false, 0xffffffffffffffff, 0xffffffffffffffff, 0, 0, 0, 0⟩ /- ORR_HT_EN -/,
  ⟨0x80000100018, [], false, 0, 0, 0, 0, 0, 0⟩ /- ORR_TICKNO -/,
  ⟨0x80000100028, [], true, 0x4000, 0, 0, 0, 0, 0⟩ /- ORR_FREE -/,
  ⟨0x80000100030, [], false, 0, 0xffffffffffffffff, 0, 0, 0, 0⟩ /- ORR_DISP_CNT -/,
  ⟨0x80000100038, [], false, 0, 0xffffffffffffffff, 0, 0, 0, 0⟩ /- ORR_PREEMPT_CNT -/,
  ⟨0x80000101000, [(64, 0x40)], false, 0, 0, 0, 0, 0x7ff7fffff, 0⟩ /- ORR_OP -/,
  ⟨0x80000101018, [(64, 0x40)], false, 0, 0, 0, 0, 0, 0⟩ /- ORR_RES -/,
  ⟨0x80000101008, [(64, 0x40)], false, 0, 0xffffffffffffffff, 0, 0, 0, 0⟩ /- ORR_ARG0 -/,
  ⟨0x80000101010, [(64, 0x40)], false, 0, 0xffffffffffffffff, 0, 0, 0, 0⟩ /- ORR_ARG1 -/,
  ⟨0x80000101020, [(64, 0x40)], false, 0, 0, 0, 0, 0, 0⟩ /- ORR_HT_CUR -/,
  ⟨0x80000101028, [(64, 0x40)], false, 0, 0, 0, 0, 0, 0⟩ /- ORR_HT_OFFER -/,
  ⟨0x80000110000, [(4096, 0x8)], false, 0, 0x3fff007d, 0x2, 0, 0, 0⟩ /- ORR_SRC -/,
  ⟨0x80000180008, [(16384, 0x20)], false, 0, 0, 0, 0, 0, 0⟩ /- ORR_THR_FLAGS -/,
  ⟨0x80000180010, [(16384, 0x20)], false, 0, 0, 0, 0, 0, 0⟩ /- ORR_THR_AFF -/,
  ⟨0x80000180018, [(16384, 0x20)], false, 0, 0, 0, 0, 0, 0⟩ /- ORR_THR_TIME -/,
  ⟨0x80000200000, [], true, 0, 0x1, 0, 0, 0, 0⟩ /- DOM_CTL -/,
  ⟨0x80000200008, [], true, 0, 0, 0x7, 0, 0, 0⟩ /- DOM_STAT -/,
  ⟨0x80000200010, [], true, 0x3e8, 0xfffff, 0, 0, 0, 0⟩ /- DOM_STALL -/,
  ⟨0x80000200020, [], false, 0, 0, 0, 0, 0xffffffffffff000f, 0⟩ /- DOM_CMD -/,
  ⟨0x80000200018, [], false, 0, 0, 0, 0, 0, 0⟩ /- DOM_STALL_LAST -/,
  ⟨0x80000200028, [], true, 0, 0, 0, 0, 0, 0⟩ /- DOM_CMD_RES -/,
  ⟨0x80000200030, [], false, 0, 0xffffffffffffffff, 0, 0, 0, 0⟩ /- DOM_LATE_CNT -/,
  ⟨0x80000200038, [], false, 0, 0xffffffffffffffff, 0, 0, 0, 0⟩ /- DOM_DISC_CNT -/,
  ⟨0x80000200040, [], false, 0, 0xffffffffffffffff, 0, 0, 0, 0⟩ /- DOM_REL_CNT -/,
  ⟨0x80000300000, [(65536, 0x10)], false, 0x10, 0xffffffffff3d, 0, 0, 0, 0⟩ /- DOM_FLOW_CFG -/,
  ⟨0x80000300008, [(65536, 0x10)], false, 0, 0, 0, 0, 0, 0⟩ /- DOM_FLOW_STATE -/,
  ⟨0x80000180000, [(16384, 0x20)], false, 0, 0, 0, 0, 0, 0⟩ /- ORR_THR_STATE -/]

/-- The registers of chapter 09 of the spec. -/
def regTab09 : List RegD := [
  ⟨0x80001000000, [(65536, 0x100)], false, 0x4040000, 0, 0, 0, 0, 0⟩ /- QM_QCFG -/,
  ⟨0x80001000008, [(65536, 0x100)], true, 0, 0x1, 0, 0, 0, 0⟩ /- QM_QCTL -/,
  ⟨0x80001000010, [(65536, 0x100)], true, 0x1, 0, 0x40, 0, 0, 0⟩ /- QM_QSTAT -/,
  ⟨0x80001000018, [(65536, 0x100)], false, 0, 0, 0, 0, 0, 0⟩ /- QM_SQ_BASE -/,
  ⟨0x80001000020, [(65536, 0x100)], false, 0, 0, 0, 0, 0, 0⟩ /- QM_CQ_BASE -/,
  ⟨0x80001000028, [(65536, 0x100)], false, 0, 0, 0, 0, 0, 0⟩ /- QM_SQ_IDX -/,
  ⟨0x80001000030, [(65536, 0x100)], false, 0, 0, 0, 0, 0, 0⟩ /- QM_CQ_IDX -/,
  ⟨0x80001000038, [(65536, 0x100)], false, 0, 0, 0, 0, 0, 0⟩ /- QM_QBIND -/,
  ⟨0x80001000040, [(65536, 0x100)], false, 0, 0, 0, 0, 0, 0⟩ /- QM_QLIM -/,
  ⟨0x80001000048, [(65536, 0x100)], false, 0, 0xffffffffffffffff, 0, 0, 0, 0⟩ /- QM_QDISP -/,
  ⟨0x80001000050, [(65536, 0x100)], false, 0, 0xffffffffffffffff, 0, 0, 0, 0⟩ /- QM_QDROP -/,
  ⟨0x800010000c0, [], true, 0, 0, 0x2, 0, 0, 0x1⟩ /- QM_ADM_CTL -/,
  ⟨0x80001000080, [(8, 0x8)], false, 0, 0xffffffffffffffff, 0, 0, 0, 0⟩ /- QM_ADM_ENTRY -/,
  ⟨0x800010000c8, [], false, 0, 0, 0, 0, 0, 0⟩ /- QM_ADM_RES0 -/,
  ⟨0x800010000d0, [], false, 0, 0, 0, 0, 0, 0⟩ /- QM_ADM_RES1 -/,
  ⟨0x800010000d8, [], true, 0x1, 0, 0, 0, 0, 0⟩ /- QM_QUEUES -/,
  ⟨0x80002000000, [(4096, 0x1000)], false, 0, 0, 0, 0, 0, 0⟩ /- BOOTH_STAT -/,
  ⟨0x80002000008, [(4096, 0x1000)], false, 0, 0, 0, 0, 0, 0⟩ /- BOOTH_HALT_SLOT -/,
  ⟨0x80002000010, [(4096, 0x1000)], false, 0, 0, 0, 0, 0, 0⟩ /- BOOTH_HALT_TIME -/,
  ⟨0x80002000018, [(4096, 0x1000)], false, 0, 0, 0, 0, 0, 0⟩ /- BOOTH_INFLIGHT -/,
  ⟨0x80002000100, [(4096, 0x1000), (8, 0x8)], false, 0, 0, 0, 0, 0, 0⟩ /- BOOTH_QUOTA -/,
  ⟨0x80002000200, [(4096, 0x1000), (8, 0x8)], false, 0xffff0000, 0, 0, 0, 0, 0⟩ /- BOOTH_SHARE -/,
  ⟨0x80002000300, [(4096, 0x1000)], true, 0, 0xff, 0, 0, 0, 0⟩ /- BOOTH_WIN_SEL -/,
  ⟨0x80002000308, [(4096, 0x1000)], false, 0, 0, 0, 0, 0, 0⟩ /- BOOTH_WIN_BASE -/,
  ⟨0x80002000310, [(4096, 0x1000)], false, 0, 0, 0, 0, 0, 0⟩ /- BOOTH_WIN_SIZE -/,
  ⟨0x80002000318, [(4096, 0x1000)], false, 0, 0, 0, 0, 0, 0⟩ /- BOOTH_WIN_TGT -/,
  ⟨0x80002000320, [(4096, 0x1000)], true, 0, 0, 0, 0, 0, 0⟩ /- BOOTH_WIN_ATTR -/]

/-- The registers of chapter 10 of the spec. The bits of ALM_NS_SEL and ALM_BLK_SEL that have no field are stored. DESIGN CHOICE (log entry
113). -/
def regTab10 : List RegD := [
  ⟨0x80000700000, [], true, 0x2, 0x2, 0, 0, 0, 0x1⟩ /- ALM_CTL -/,
  ⟨0x80000700008, [], true, 0x8, 0, 0x300, 0, 0, 0⟩ /- ALM_STAT -/,
  ⟨0x80000700010, [], false, 0, 0, 0, 0, 0, 0⟩ /- ALM_GEOM -/,
  ⟨0x80000700080, [], true, 0x20c, 0xffff, 0, 0, 0, 0x10000⟩ /- ALM_FMT -/,
  ⟨0x800007000a0, [], false, 0, 0, 0, 0, 0xfffffffff7ff003f, 0⟩ /- ALM_NS_CMD -/,
  ⟨0x800007000d8, [], true, 0, 0x3, 0, 0, 0, 0x4⟩ /- ALM_LG_CMD -/,
  ⟨0x80000700148, [], false, 0, 0, 0, 0, 0, 0⟩ /- ALM_BLK_INFO -/,
  ⟨0x80000700018, [], false, 0, 0, 0, 0, 0, 0⟩ /- ALM_MAP_BASE -/,
  ⟨0x80000700020, [], false, 0, 0, 0, 0, 0, 0⟩ /- ALM_WB_BASE -/,
  ⟨0x80000700028, [], false, 0, 0, 0, 0, 0, 0⟩ /- ALM_WB_LIMIT -/,
  ⟨0x80000700030, [], false, 0, 0, 0, 0, 0, 0⟩ /- ALM_WB_FILL -/,
  ⟨0x80000700038, [], false, 0, 0, 0, 0, 0, 0⟩ /- ALM_CAP -/,
  ⟨0x80000700040, [], false, 0, 0, 0, 0, 0, 0⟩ /- ALM_SEQ -/,
  ⟨0x80000700048, [], false, 0, 0, 0, 0, 0, 0⟩ /- ALM_CKPT_SEQ -/,
  ⟨0x80000700050, [], false, 0, 0, 0, 0, 0, 0⟩ /- ALM_CKPT_NO -/,
  ⟨0x80000700058, [], true, 0x3e80004, 0xffff001f, 0, 0, 0, 0⟩ /- ALM_CKPT_CFG -/,
  ⟨0x80000700060, [], false, 0x1f400800040, 0xffffffffffff, 0, 0, 0, 0⟩ /- ALM_GC_CFG -/,
  ⟨0x80000700068, [], false, 0, 0xffffffffffffffff, 0, 0, 0, 0⟩ /- ALM_MEDIA_CFG -/,
  ⟨0x80000700070, [], true, 0, 0xfff0001, 0, 0, 0, 0⟩ /- ALM_EVT -/,
  ⟨0x80000700078, [], false, 0, 0, 0, 0, 0, 0⟩ /- ALM_RECOV_NS -/,
  ⟨0x80000700088, [], false, 0, 0xffffffffc0000000, 0, 0, 0, 0⟩ /- ALM_FMT_MAP -/,
  ⟨0x80000700090, [], false, 0, 0xfffffffffff00000, 0, 0, 0, 0⟩ /- ALM_FMT_WB -/,
  ⟨0x80000700098, [], true, 0, 0, 0, 0, 0, 0⟩ /- ALM_FMT_RES -/,
  ⟨0x800007000a8, [], true, 0, 0, 0, 0, 0, 0⟩ /- ALM_NS_RES -/,
  ⟨0x800007000b0, [], true, 0, 0xffffffff, 0, 0, 0, 0⟩ /- ALM_NS_SEL -/,
  ⟨0x800007000b8, [], false, 0, 0, 0, 0, 0, 0⟩ /- ALM_NS_INFO -/,
  ⟨0x800007000c0, [], false, 0, 0, 0, 0, 0, 0⟩ /- ALM_NS_LBASE -/,
  ⟨0x800007000c8, [], true, 0, 0xffffffff, 0, 0, 0, 0⟩ /- ALM_LG_SEL -/,
  ⟨0x800007000d0, [], false, 0, 0xffffffffffffffff, 0, 0, 0, 0⟩ /- ALM_LG_IDX -/,
  ⟨0x800007000e0, [(4, 0x8)], false, 0, 0, 0, 0, 0, 0⟩ /- ALM_LG_HEAD0 -/,
  ⟨0x80000700100, [], false, 0, 0, 0, 0, 0, 0⟩ /- ALM_LG_UNITS -/,
  ⟨0x80000700108, [], false, 0, 0, 0, 0, 0, 0⟩ /- ALM_LG_OFFSET -/,
  ⟨0x80000700110, [], false, 0, 0, 0, 0, 0, 0⟩ /- ALM_LG_GEN -/,
  ⟨0x80000700118, [(4, 0x8)], false, 0, 0, 0, 0, 0, 0⟩ /- ALM_LG_CV0 -/,
  ⟨0x80000700140, [], false, 0, 0xffffffffffffffff, 0, 0, 0, 0⟩ /- ALM_BLK_SEL -/,
  ⟨0x80000701000, [(32, 0x10)], false, 0, 0, 0, 0, 0, 0⟩ /- ALM_GRP0 -/,
  ⟨0x80000701008, [(32, 0x10)], false, 0, 0, 0, 0, 0, 0⟩ /- ALM_GRP1 -/,
  ⟨0x80000800000, [(32, 0x8000)], true, 0x24, 0x3f, 0, 0, 0, 0⟩ /- FLC_CFG -/,
  ⟨0x80000800008, [(32, 0x8000)], true, 0, 0, 0, 0, 0, 0⟩ /- FLC_STAT -/,
  ⟨0x80000700200, [(8, 0x8)], false, 0, 0xffffffffffffffff, 0, 0, 0, 0⟩ /- ALM counters -/,
  ⟨0x80000800100, [(32, 0x8000), (9, 0x8)], false, 0, 0xffffffffffffffff, 0, 0, 0, 0⟩ /- FLC counters -/]

/-- The registers of chapter 11 of the spec. -/
def regTab11 : List RegD := [
  ⟨0x80000700300, [], true, 0, 0x3, 0, 0, 0, 0⟩ /- ALM_PS -/]

/-- The registers of chapter 12 of the spec. -/
def regTab12 : List RegD := [
  ⟨0x80000600018, [(288, 0x400)], true, 0, 0x6, 0, 0, 0x18, 0x1⟩ /- MV_CTRL -/,
  ⟨0x80000600020, [(288, 0x400)], false, 0, 0, 0, 0, 0, 0⟩ /- MV_STAT -/,
  ⟨0x80000600000, [(288, 0x400)], false, 0, 0xffffffffffffffff, 0, 0, 0, 0⟩ /- MV_SRC -/,
  ⟨0x80000600008, [(288, 0x400)], false, 0, 0xffffffffffffffff, 0, 0, 0, 0⟩ /- MV_DST -/,
  ⟨0x80000600010, [(288, 0x400)], true, 0, 0xffffffff, 0, 0, 0, 0⟩ /- MV_COUNT -/,
  ⟨0x80000600028, [(288, 0x400)], false, 0, 0, 0, 0, 0, 0⟩ /- MV_ERRADDR -/,
  ⟨0x80000600030, [(288, 0x400)], false, 0, 0, 0, 0, 0, 0⟩ /- MV_DESC -/,
  ⟨0x80000600038, [(288, 0x400)], false, 0, 0, 0, 0, 0, 0⟩ /- MV_DONE -/,
  ⟨0x80000600040, [(288, 0x400)], false, 0, 0xffffffffffffffff, 0, 0, 0, 0⟩ /- MV_BYTES -/,
  ⟨0x80000680000, [], true, 0, 0xfff0001, 0, 0, 0, 0⟩ /- MV_EVT -/,
  ⟨0x80000680008, [(5, 0x8)], false, 0, 0, 0, 0, 0, 0⟩ /- MV_HALTED -/,
  ⟨0x80000500000, [], true, 0, 0x1, 0, 0, 0, 0⟩ /- DG_CTL -/,
  ⟨0x80000508000, [(4096, 0x8)], false, 0, 0, 0, 0, 0, 0⟩ /- DG_CTX -/,
  ⟨0x80000500008, [], false, 0, 0xffffffe00000, 0, 0, 0, 0⟩ /- DG_SPILL_BASE -/,
  ⟨0x80000500010, [], true, 0x10fff, 0, 0, 0, 0, 0⟩ /- DG_STAT -/,
  ⟨0x80000500018, [], false, 0, 0xffffffffffffffff, 0, 0, 0, 0⟩ /- DG_BYTES -/,
  ⟨0x80000500020, [], false, 0, 0xffffffffffffffff, 0, 0, 0, 0⟩ /- DG_ROLLBACKS -/,
  ⟨0x80000510000, [], true, 0, 0x1, 0, 0, 0, 0⟩ /- CZ_CTL -/,
  ⟨0x80000511000, [(256, 0x8)], false, 0, 0, 0, 0, 0, 0⟩ /- CZ_CTX -/,
  ⟨0x80000510008, [], true, 0x100, 0, 0, 0, 0, 0⟩ /- CZ_STAT -/,
  ⟨0x80000510010, [], false, 0, 0xffffffffffffffff, 0, 0, 0, 0⟩ /- CZ_IN_BYTES -/,
  ⟨0x80000510018, [], false, 0, 0xffffffffffffffff, 0, 0, 0, 0⟩ /- CZ_OUT_BYTES -/,
  ⟨0x80000510020, [], false, 0, 0xffffffffffffffff, 0, 0, 0, 0⟩ /- CZ_FAILS -/]

/-- The registers of chapter 13 of the spec. -/
def regTab13 : List RegD := [
  ⟨0x80000a00000, [(12, 0x10000)], false, 0, 0, 0, 0, 0, 0⟩ /- MC_CFG -/,
  ⟨0x80000a00008, [(12, 0x10000)], true, 0, 0, 0x370, 0, 0, 0⟩ /- MC_STAT -/,
  ⟨0x80000a00010, [(12, 0x10000)], true, 0x7d0, 0xffff, 0, 0, 0, 0⟩ /- MC_AGE -/,
  ⟨0x80000a00018, [(12, 0x10000)], true, 0xf, 0xf, 0, 0, 0, 0⟩ /- MC_EVT -/,
  ⟨0x80000a00020, [(12, 0x10000)], true, 0x400, 0xffff, 0, 0, 0, 0⟩ /- MC_CE_THRESH -/,
  ⟨0x80000a00028, [(12, 0x10000)], false, 0, 0xffffffffffffffff, 0, 0, 0, 0⟩ /- MC_CE_CNT -/,
  ⟨0x80000a00030, [(12, 0x10000)], false, 0, 0xffffffffffffffff, 0, 0, 0, 0⟩ /- MC_UE_CNT -/,
  ⟨0x80000a00038, [(12, 0x10000)], false, 0, 0xffffffffffffffff, 0, 0, 0, 0⟩ /- MC_RMW_CNT -/,
  ⟨0x80000a00040, [(12, 0x10000)], false, 0, 0xffffffffffffffff, 0, 0, 0, 0⟩ /- MC_MB_FULL_CNT -/,
  ⟨0x80000a00048, [(12, 0x10000)], false, 0, 0xffffffffffffffff, 0, 0, 0, 0⟩ /- MC_PROMOTE_CNT -/,
  ⟨0x80000a00050, [(12, 0x10000)], false, 0, 0, 0, 0, 0, 0⟩ /- MC_ERR_ADDR -/,
  ⟨0x80000a00060, [(12, 0x10000)], false, 0, 0, 0, 0, 0, 0⟩ /- MC_CE_ADDR -/,
  ⟨0x80000a00058, [(12, 0x10000)], false, 0, 0, 0, 0, 0, 0⟩ /- MC_ERR_INFO -/,
  ⟨0x80000a00068, [(12, 0x10000)], false, 0, 0, 0, 0, 0, 0⟩ /- MC_CE_INFO -/,
  ⟨0x80000a00080, [(12, 0x10000)], true, 0x1000, 0x7f00, 0, 0, 0, 0x1⟩ /- MC_TRAIN_CTL -/,
  ⟨0x80000a01000, [(12, 0x10000), (160, 0x8)], false, 0, 0, 0, 0, 0, 0⟩ /- MC_TRAIN -/,
  ⟨0x80000ac0000, [], true, 0, 0xffff0000, 0, 0, 0x2, 0x1⟩ /- MC_SCR_CTL -/,
  ⟨0x80000ac0008, [], true, 0, 0, 0x4, 0, 0, 0⟩ /- MC_SCR_STAT -/,
  ⟨0x80000ac0010, [], false, 0, 0xffffffffffc0, 0, 0, 0, 0⟩ /- MC_SCR_BASE -/,
  ⟨0x80000ac0018, [], false, 0, 0xffffffffffc0, 0, 0, 0, 0⟩ /- MC_SCR_LEN -/,
  ⟨0x80000ac0020, [], false, 0, 0, 0, 0, 0, 0⟩ /- MC_SCR_WORDS -/,
  ⟨0x80000ac0028, [], false, 0, 0, 0, 0, 0, 0⟩ /- MC_SCR_CE -/,
  ⟨0x80000ac0030, [], false, 0, 0, 0, 0, 0, 0⟩ /- MC_SCR_UE -/,
  ⟨0x80000ac0038, [], false, 0, 0, 0, 0, 0, 0⟩ /- MC_SCR_UE_FIRST -/,
  ⟨0x80000ac0040, [], false, 0, 0, 0, 0, 0, 0⟩ /- MC_SCR_UE_LAST -/,
  ⟨0x80000ac0048, [], true, 0, 0, 0, 0, 0, 0⟩ /- MC_DDR_CAP -/,
  ⟨0x80000ac0058, [], false, 0, 0xffffffffffffffff, 0, 0, 0, 0⟩ /- MC_MR_CE_CNT -/,
  ⟨0x80000ac0060, [], false, 0, 0xffffffffffffffff, 0, 0, 0, 0⟩ /- MC_MR_UE_CNT -/,
  ⟨0x80000ac0068, [], false, 0, 0, 0, 0, 0, 0⟩ /- MC_MR_ERR_ADDR -/,
  ⟨0x80000ac0070, [], true, 0, 0xfff0001, 0, 0, 0, 0⟩ /- MC_MR_EVT -/,
  ⟨0x80000ac0050, [], true, 0, 0, 0x7, 0, 0, 0⟩ /- MC_MR_STAT -/]

/-- The registers of chapter 14 of the spec. -/
def regTab14 : List RegD := [
  ⟨0x80000b00000, [], true, 0, 0, 0, 0, 0, 0⟩ /- NET_CTL -/,
  ⟨0x80000b00008, [], true, 0, 0, 0x7, 0, 0, 0⟩ /- NET_STAT -/,
  ⟨0x80000b00010, [], true, 0x1, 0x7, 0, 0, 0, 0⟩ /- NET_STEER_CFG -/,
  ⟨0x80000b00018, [], false, 0, 0, 0, 0, 0xffffffffffffffff, 0⟩ /- NET_PTP_SAMPLE -/,
  ⟨0x80000b00020, [], false, 0x1000000003e8, 0xffffffffffff, 0, 0, 0, 0⟩ /- NET_PTP_SERVO -/,
  ⟨0x80000b02000, [(8, 0x100), (12, 0x8)], false, 0, 0xffffffffffffffff, 0, 0, 0, 0⟩ /- NET_CNT -/,
  ⟨0x80000b10000, [(256, 0x40)], false, 0xff00000000, 0xffffffffffff01ff, 0, 0, 0, 0⟩ /- NET_RXB_CFG -/,
  ⟨0x80000b10008, [(256, 0x40)], false, 0, 0xffffffffffffffff, 0, 0, 0, 0⟩ /- NET_RXB_BUF -/,
  ⟨0x80000b10010, [(256, 0x40)], false, 0, 0xffffffffffffffff, 0, 0, 0, 0⟩ /- NET_RXB_PC -/,
  ⟨0x80000b10018, [(256, 0x40)], false, 0, 0xffffffffffffffff, 0, 0, 0, 0⟩ /- NET_RXB_G6 -/,
  ⟨0x80000b10020, [(256, 0x40)], false, 0, 0, 0, 0, 0, 0⟩ /- NET_RXB_LANDED -/,
  ⟨0x80000c01000, [(256, 0x8)], false, 0, 0xffff0fff0003, 0, 0, 0, 0⟩ /- PCI_FN -/,
  ⟨0x80000c00000, [], true, 0, 0, 0x1f, 0, 0, 0⟩ /- PCI_STAT -/,
  ⟨0x80000c00008, [], false, 0, 0, 0, 0xffffc0000000, 0, 0⟩ /- PCI_SHADOW_BASE -/,
  ⟨0x80000c00010, [(4, 0x8)], false, 0, 0, 0, 0, 0, 0⟩ /- PCI_FN_EVT -/,
  ⟨0x80000030000, [], true, 0, 0, 0x4, 0, 0, 0⟩ /- STG_STAT -/,
  ⟨0x80000030100, [(8, 0x8)], false, 0, 0xffffffffffffffff, 0, 0, 0, 0⟩ /- STG_MBOX_IN -/,
  ⟨0x80000030200, [(8, 0x8)], false, 0, 0, 0, 0, 0, 0⟩ /- STG_MBOX_OUT -/,
  ⟨0x80000b00040, [(4, 0x18), (2, 0x8)], false, 0, 0xffffffffffffffff, 0, 0, 0, 0⟩ /- NET_STEER_MASK -/,
  ⟨0x80000b00050, [(4, 0x18)], false, 0, 0xffff, 0, 0, 0, 0⟩ /- NET_STEER_MASK2 -/]

/-- Every register of the device (R11). -/
def regTable : List RegD :=
  regTab01 ++ regTab15 ++ regTab16 ++ regTab05 ++ regTab06 ++ regTab07 ++ regTab08 ++ regTab09 ++ regTab10 ++ regTab11 ++ regTab12 ++ regTab13 ++ regTab14

/-- The register that the 8-byte slot at an address holds, if the tables assign one (R11). -/
def regAt (a : Nat) : Option RegD := regTable.find? fun d => decide (d.base ≤ a) && dimsHit d.dims (a - d.base)

/-- The reset value of the register at an address; 0 where none is assigned, and where hardware sets the value during
INIT (log entry 1). -/
def regDefault (a : Nat) : W64 := match regAt a with | some d => d.rst | none => 0

namespace Reg

def devId : Nat := 0x80000000000
def devSerial : Nat := 0x80000000008
def devClkStat : Nat := 0x80000000010
def merNow : Nat := 0x80000010000
def merCtl : Nat := 0x80000010008
def merRate : Nat := 0x80000010010
def merStep : Nat := 0x80000010018
def merStat : Nat := 0x80000010020
def oeCfg (u : Nat) : Nat := 0x80010400000 + u / 16 * 0x1000000 + u % 16 * 0x10000
def oeStat (u : Nat) : Nat := 0x80010400008 + u / 16 * 0x1000000 + u % 16 * 0x10000
def oeL1Ctl (u : Nat) : Nat := 0x80010400010 + u / 16 * 0x1000000 + u % 16 * 0x10000
def oeCtxState (u c : Nat) : Nat := 0x80010401000 + u / 16 * 0x1000000 + u % 16 * 0x10000 + c * 0x100
def oeTrapEpc (u c : Nat) : Nat := 0x80010401008 + u / 16 * 0x1000000 + u % 16 * 0x10000 + c * 0x100
def oeTrapEnpc (u c : Nat) : Nat := 0x80010401010 + u / 16 * 0x1000000 + u % 16 * 0x10000 + c * 0x100
def oeTrapVal (u c : Nat) : Nat := 0x80010401018 + u / 16 * 0x1000000 + u % 16 * 0x10000 + c * 0x100
def oeTrapCause (u c : Nat) : Nat := 0x80010401020 + u / 16 * 0x1000000 + u % 16 * 0x10000 + c * 0x100
def oeTrapInfo (u c : Nat) : Nat := 0x80010401028 + u / 16 * 0x1000000 + u % 16 * 0x10000 + c * 0x100
def oeRaEpis (u c : Nat) : Nat := 0x80010401030 + u / 16 * 0x1000000 + u % 16 * 0x10000 + c * 0x100
def oeRaInsn (u c : Nat) : Nat := 0x80010401038 + u / 16 * 0x1000000 + u % 16 * 0x10000 + c * 0x100
def oeRaPref (u c : Nat) : Nat := 0x80010401040 + u / 16 * 0x1000000 + u % 16 * 0x10000 + c * 0x100
def l2Ctl (d : Nat) : Nat := if d = 8 then 0x80000040000 else 0x80010100000 + d * 0x1000000
def l2Stat (d : Nat) : Nat := if d = 8 then 0x80000040008 else 0x80010100008 + d * 0x1000000
def l2Lock (d : Nat) : Nat := if d = 8 then 0x80000040010 else 0x80010100010 + d * 0x1000000
def l2MopAddr (d : Nat) : Nat := if d = 8 then 0x80000040018 else 0x80010100018 + d * 0x1000000
def l2MopLen (d : Nat) : Nat := if d = 8 then 0x80000040020 else 0x80010100020 + d * 0x1000000
def l2MopCmd (d : Nat) : Nat := if d = 8 then 0x80000040028 else 0x80010100028 + d * 0x1000000
def l2Erraddr (d : Nat) : Nat := if d = 8 then 0x80000040030 else 0x80010100030 + d * 0x1000000
def oeLinkStat (u : Nat) : Nat := 0x80010400018 + u / 16 * 0x1000000 + u % 16 * 0x10000
def oeLinkDrop (u : Nat) : Nat := 0x80010400020 + u / 16 * 0x1000000 + u % 16 * 0x10000
def svStat (i : Nat) : Nat := 0x80000900000 + i * 0x8000
def svScanState (i j : Nat) : Nat := 0x80000901000 + i * 0x8000 + j * 0x100
def svScanCtrl (i j : Nat) : Nat := 0x80000901008 + i * 0x8000 + j * 0x100
def svScanWr (i j : Nat) : Nat := 0x80000901010 + i * 0x8000 + j * 0x100
def svScanRd (i j : Nat) : Nat := 0x80000901018 + i * 0x8000 + j * 0x100
def svScanGroups (i j : Nat) : Nat := 0x80000901020 + i * 0x8000 + j * 0x100
def svScanPass (i j : Nat) : Nat := 0x80000901028 + i * 0x8000 + j * 0x100
def svScanErr (i j : Nat) : Nat := 0x80000901030 + i * 0x8000 + j * 0x100
def svScanErrlba (i j : Nat) : Nat := 0x80000901038 + i * 0x8000 + j * 0x100
def spyCtl : Nat := 0x80000400000
def spyStat : Nat := 0x80000400008
def spyMirrorBase : Nat := 0x80000400010
def spyPatrol : Nat := 0x80000400018
def spyErrLast : Nat := 0x80000400020
def spySweeps : Nat := 0x80000400028
def spyRepairCnt : Nat := 0x80000400030
def spyLostCnt : Nat := 0x80000400038
def spySrchCnt : Nat := 0x80000400040
def spySlotCnt : Nat := 0x80000400048
def spySegFree : Nat := 0x80000400050
def spyTblCfg (i : Nat) : Nat := 0x80000410000 + i * 0x10
def spyTblCnt (i : Nat) : Nat := 0x80000410008 + i * 0x10
def spySeg (i : Nat) : Nat := 0x80000420000 + i * 0x8
def orrCtl : Nat := 0x80000100000
def orrStat : Nat := 0x80000100008
def orrTick : Nat := 0x80000100010
def orrHtEn : Nat := 0x80000100020
def orrTickno : Nat := 0x80000100018
def orrFree : Nat := 0x80000100028
def orrDispCnt : Nat := 0x80000100030
def orrPreemptCnt : Nat := 0x80000100038
def orrOp (i : Nat) : Nat := 0x80000101000 + i * 0x40
def orrRes (i : Nat) : Nat := 0x80000101018 + i * 0x40
def orrArg0 (i : Nat) : Nat := 0x80000101008 + i * 0x40
def orrArg1 (i : Nat) : Nat := 0x80000101010 + i * 0x40
def orrHtCur (i : Nat) : Nat := 0x80000101020 + i * 0x40
def orrHtOffer (i : Nat) : Nat := 0x80000101028 + i * 0x40
def orrSrc (i : Nat) : Nat := 0x80000110000 + i * 0x8
def orrThrFlags (i : Nat) : Nat := 0x80000180008 + i * 0x20
def orrThrAff (i : Nat) : Nat := 0x80000180010 + i * 0x20
def orrThrTime (i : Nat) : Nat := 0x80000180018 + i * 0x20
def domCtl : Nat := 0x80000200000
def domStat : Nat := 0x80000200008
def domStall : Nat := 0x80000200010
def domCmd : Nat := 0x80000200020
def domStallLast : Nat := 0x80000200018
def domCmdRes : Nat := 0x80000200028
def domLateCnt : Nat := 0x80000200030
def domDiscCnt : Nat := 0x80000200038
def domRelCnt : Nat := 0x80000200040
def domFlowCfg (i : Nat) : Nat := 0x80000300000 + i * 0x10
def domFlowState (i : Nat) : Nat := 0x80000300008 + i * 0x10
def qmQcfg (i : Nat) : Nat := 0x80001000000 + i * 0x100
def qmQctl (i : Nat) : Nat := 0x80001000008 + i * 0x100
def qmQstat (i : Nat) : Nat := 0x80001000010 + i * 0x100
def qmSqBase (i : Nat) : Nat := 0x80001000018 + i * 0x100
def qmCqBase (i : Nat) : Nat := 0x80001000020 + i * 0x100
def qmSqIdx (i : Nat) : Nat := 0x80001000028 + i * 0x100
def qmCqIdx (i : Nat) : Nat := 0x80001000030 + i * 0x100
def qmQbind (i : Nat) : Nat := 0x80001000038 + i * 0x100
def qmQlim (i : Nat) : Nat := 0x80001000040 + i * 0x100
def qmQdisp (i : Nat) : Nat := 0x80001000048 + i * 0x100
def qmQdrop (i : Nat) : Nat := 0x80001000050 + i * 0x100
def qmAdmCtl : Nat := 0x800010000c0
def qmAdmEntry (i : Nat) : Nat := 0x80001000080 + i * 0x8
def qmAdmRes0 : Nat := 0x800010000c8
def qmAdmRes1 : Nat := 0x800010000d0
def qmQueues : Nat := 0x800010000d8
def boothStat (i : Nat) : Nat := 0x80002000000 + i * 0x1000
def boothHaltSlot (i : Nat) : Nat := 0x80002000008 + i * 0x1000
def boothHaltTime (i : Nat) : Nat := 0x80002000010 + i * 0x1000
def boothInflight (i : Nat) : Nat := 0x80002000018 + i * 0x1000
def boothQuota (i j : Nat) : Nat := 0x80002000100 + i * 0x1000 + j * 0x8
def boothShare (i j : Nat) : Nat := 0x80002000200 + i * 0x1000 + j * 0x8
def boothWinSel (i : Nat) : Nat := 0x80002000300 + i * 0x1000
def boothWinBase (i : Nat) : Nat := 0x80002000308 + i * 0x1000
def boothWinSize (i : Nat) : Nat := 0x80002000310 + i * 0x1000
def boothWinTgt (i : Nat) : Nat := 0x80002000318 + i * 0x1000
def boothWinAttr (i : Nat) : Nat := 0x80002000320 + i * 0x1000
def almCtl : Nat := 0x80000700000
def almStat : Nat := 0x80000700008
def almGeom : Nat := 0x80000700010
def almFmt : Nat := 0x80000700080
def almNsCmd : Nat := 0x800007000a0
def almLgCmd : Nat := 0x800007000d8
def almBlkInfo : Nat := 0x80000700148
def almMapBase : Nat := 0x80000700018
def almWbBase : Nat := 0x80000700020
def almWbLimit : Nat := 0x80000700028
def almWbFill : Nat := 0x80000700030
def almCap : Nat := 0x80000700038
def almSeq : Nat := 0x80000700040
def almCkptSeq : Nat := 0x80000700048
def almCkptNo : Nat := 0x80000700050
def almCkptCfg : Nat := 0x80000700058
def almGcCfg : Nat := 0x80000700060
def almMediaCfg : Nat := 0x80000700068
def almEvt : Nat := 0x80000700070
def almRecovNs : Nat := 0x80000700078
def almFmtMap : Nat := 0x80000700088
def almFmtWb : Nat := 0x80000700090
def almFmtRes : Nat := 0x80000700098
def almNsRes : Nat := 0x800007000a8
def almNsSel : Nat := 0x800007000b0
def almNsInfo : Nat := 0x800007000b8
def almNsLbase : Nat := 0x800007000c0
def almLgSel : Nat := 0x800007000c8
def almLgIdx : Nat := 0x800007000d0
def almLgHead0 (i : Nat) : Nat := 0x800007000e0 + i * 0x8
def almLgUnits : Nat := 0x80000700100
def almLgOffset : Nat := 0x80000700108
def almLgGen : Nat := 0x80000700110
def almLgCv0 (i : Nat) : Nat := 0x80000700118 + i * 0x8
def almBlkSel : Nat := 0x80000700140
def almGrp0 (i : Nat) : Nat := 0x80000701000 + i * 0x10
def almGrp1 (i : Nat) : Nat := 0x80000701008 + i * 0x10
def flcCfg (i : Nat) : Nat := 0x80000800000 + i * 0x8000
def flcStat (i : Nat) : Nat := 0x80000800008 + i * 0x8000
def almPs : Nat := 0x80000700300
def mvCtrl (i : Nat) : Nat := 0x80000600018 + i * 0x400
def mvStat (i : Nat) : Nat := 0x80000600020 + i * 0x400
def mvSrc (i : Nat) : Nat := 0x80000600000 + i * 0x400
def mvDst (i : Nat) : Nat := 0x80000600008 + i * 0x400
def mvCount (i : Nat) : Nat := 0x80000600010 + i * 0x400
def mvErraddr (i : Nat) : Nat := 0x80000600028 + i * 0x400
def mvDesc (i : Nat) : Nat := 0x80000600030 + i * 0x400
def mvDone (i : Nat) : Nat := 0x80000600038 + i * 0x400
def mvBytes (i : Nat) : Nat := 0x80000600040 + i * 0x400
def mvEvt : Nat := 0x80000680000
def mvHalted (i : Nat) : Nat := 0x80000680008 + i * 0x8
def dgCtl : Nat := 0x80000500000
def dgCtx (i : Nat) : Nat := 0x80000508000 + i * 0x8
def dgSpillBase : Nat := 0x80000500008
def dgStat : Nat := 0x80000500010
def dgBytes : Nat := 0x80000500018
def dgRollbacks : Nat := 0x80000500020
def czCtl : Nat := 0x80000510000
def czCtx (i : Nat) : Nat := 0x80000511000 + i * 0x8
def czStat : Nat := 0x80000510008
def czInBytes : Nat := 0x80000510010
def czOutBytes : Nat := 0x80000510018
def czFails : Nat := 0x80000510020
def mcCfg (i : Nat) : Nat := 0x80000a00000 + i * 0x10000
def mcStat (i : Nat) : Nat := 0x80000a00008 + i * 0x10000
def mcAge (i : Nat) : Nat := 0x80000a00010 + i * 0x10000
def mcEvt (i : Nat) : Nat := 0x80000a00018 + i * 0x10000
def mcCeThresh (i : Nat) : Nat := 0x80000a00020 + i * 0x10000
def mcCeCnt (i : Nat) : Nat := 0x80000a00028 + i * 0x10000
def mcUeCnt (i : Nat) : Nat := 0x80000a00030 + i * 0x10000
def mcRmwCnt (i : Nat) : Nat := 0x80000a00038 + i * 0x10000
def mcMbFullCnt (i : Nat) : Nat := 0x80000a00040 + i * 0x10000
def mcPromoteCnt (i : Nat) : Nat := 0x80000a00048 + i * 0x10000
def mcErrAddr (i : Nat) : Nat := 0x80000a00050 + i * 0x10000
def mcCeAddr (i : Nat) : Nat := 0x80000a00060 + i * 0x10000
def mcErrInfo (i : Nat) : Nat := 0x80000a00058 + i * 0x10000
def mcCeInfo (i : Nat) : Nat := 0x80000a00068 + i * 0x10000
def mcTrainCtl (i : Nat) : Nat := 0x80000a00080 + i * 0x10000
def mcTrain (i j : Nat) : Nat := 0x80000a01000 + i * 0x10000 + j * 0x8
def mcScrCtl : Nat := 0x80000ac0000
def mcScrStat : Nat := 0x80000ac0008
def mcScrBase : Nat := 0x80000ac0010
def mcScrLen : Nat := 0x80000ac0018
def mcScrWords : Nat := 0x80000ac0020
def mcScrCe : Nat := 0x80000ac0028
def mcScrUe : Nat := 0x80000ac0030
def mcScrUeFirst : Nat := 0x80000ac0038
def mcScrUeLast : Nat := 0x80000ac0040
def mcDdrCap : Nat := 0x80000ac0048
def mcMrCeCnt : Nat := 0x80000ac0058
def mcMrUeCnt : Nat := 0x80000ac0060
def mcMrErrAddr : Nat := 0x80000ac0068
def mcMrEvt : Nat := 0x80000ac0070
def mcMrStat : Nat := 0x80000ac0050
def netCtl : Nat := 0x80000b00000
def netStat : Nat := 0x80000b00008
def netSteerCfg : Nat := 0x80000b00010
def netPtpSample : Nat := 0x80000b00018
def netPtpServo : Nat := 0x80000b00020
def netCnt (i j : Nat) : Nat := 0x80000b02000 + i * 0x100 + j * 0x8
def netRxbCfg (i : Nat) : Nat := 0x80000b10000 + i * 0x40
def netRxbBuf (i : Nat) : Nat := 0x80000b10008 + i * 0x40
def netRxbPc (i : Nat) : Nat := 0x80000b10010 + i * 0x40
def netRxbG6 (i : Nat) : Nat := 0x80000b10018 + i * 0x40
def netRxbLanded (i : Nat) : Nat := 0x80000b10020 + i * 0x40
def pciFn (i : Nat) : Nat := 0x80000c01000 + i * 0x8
def pciStat : Nat := 0x80000c00000
def pciShadowBase : Nat := 0x80000c00008
def pciFnEvt (i : Nat) : Nat := 0x80000c00010 + i * 0x8
def stgStat : Nat := 0x80000030000
def stgMboxIn (i : Nat) : Nat := 0x80000030100 + i * 0x8
def stgMboxOut (i : Nat) : Nat := 0x80000030200 + i * 0x8
def devMode : Nat := 0x80000000100
def devModeReq : Nat := 0x80000000108
def devModeStat : Nat := 0x80000000110
def devInitStat : Nat := 0x80000000118
def devRst : Nat := 0x80000000120
def huCtl : Nat := 0x80000020000
def huStat : Nat := 0x80000020008
def huV : Nat := 0x80000020010
def huC : Nat := 0x80000020018
def huE : Nat := 0x80000020020
def huLimit : Nat := 0x80000020028
def huCfg0 : Nat := 0x80000020030
def huCfg1 : Nat := 0x80000020038
def huCfg2 : Nat := 0x80000020040
def huFlushRate : Nat := 0x80000020048
def huLastHold : Nat := 0x80000020050
def devPwrCtl : Nat := 0x80000000200
def devPwrStat : Nat := 0x80000000208
def devPwrEvt : Nat := 0x80000000210
def devTemp (i : Nat) : Nat := 0x80000000220 + i * 0x8
def oePmc (u c : Nat) : Nat := 0x80010400100 + u / 16 * 0x1000000 + u % 16 * 0x10000 + c * 8
/-- DEDUCED (log entry 82). -/
def l2Pmc (d n : Nat) : Nat := (if d = 8 then 0x80000040100 else 0x80010100100 + d * 0x1000000) + n * 8
def netSteerMask (i j : Nat) : Nat := 0x80000b00040 + i * 0x18 + j * 0x8
def netSteerMask2 (i : Nat) : Nat := 0x80000b00050 + i * 0x18
def orrThrState (i : Nat) : Nat := 0x80000180000 + i * 0x20

def almCnt (n : Nat) : Nat := 0x80000700200 + n * 0x8
def flcCnt (ch n : Nat) : Nat := 0x80000800100 + ch * 0x8000 + n * 0x8

end Reg

end Sys2Proof.Machine
end

