-- ==== Sys2Proof/Machine/Tab.lean ====
section
/-! DEFINITION. Sys2Proof/Machine/Tab.lean: sparse tables in one canonical form. A table lists (key, value) pairs with
keys strictly rising and no entry equal to what an unlisted key reads as, so equal contents are equal data. -/

namespace Sys2Proof

/-- A sparse table: every unlisted key reads as a default that the reader names. -/
abbrev Tab (V : Type) := List (Nat × V)

/-- The value listed under a key. -/
def Tab.find? {V : Type} : Tab V → Nat → Option V
  | [], _ => none
  | (k, v) :: t, a => if k = a then some v else Tab.find? t a

/-- The value of a key, the default `d` where it is not listed. DESIGN CHOICE (log entry 2). -/
def Tab.get {V : Type} (d : V) (t : Tab V) (a : Nat) : V := (Tab.find? t a).getD d

/-- The table without a key. -/
def Tab.erase {V : Type} : Tab V → Nat → Tab V
  | [], _ => []
  | (k, v) :: t, a => if k = a then Tab.erase t a else (k, v) :: Tab.erase t a

/-- The table with a value listed under a key, before every larger key. -/
def Tab.ins {V : Type} : Tab V → Nat → V → Tab V
  | [], a, x => [(a, x)]
  | (k, v) :: t, a, x =>
    if a < k then (a, x) :: (k, v) :: t else if a = k then (a, x) :: t else (k, v) :: Tab.ins t a x

/-- The table after a key takes a value: the default is never listed. -/
def Tab.set {V : Type} [DecidableEq V] (d : V) (t : Tab V) (a : Nat) (x : V) : Tab V :=
  if x = d then Tab.erase t a else Tab.ins t a x

/-- Keys strictly rise. -/
def Tab.sorted {V : Type} : Tab V → Bool
  | [] => true
  | [_] => true
  | (a, _) :: (b, y) :: t => decide (a < b) && Tab.sorted ((b, y) :: t)

/-- The canonical form: keys strictly rise and no entry holds the default. -/
def Tab.wf {V : Type} [DecidableEq V] (d : V) (t : Tab V) : Bool :=
  Tab.sorted t && t.all (fun e => decide (e.2 ≠ d))

end Sys2Proof
end

