-- ==== Sys2Proof/Machine/State.lean ====
section
/-! DEFINITION. Sys2Proof/Machine/State.lean: every piece of state the spec gives the device, as plain data, the faults and
refusals, and the state at reset. Sparse tables list only entries that differ from their default; each field's docstring
or INVENTORY.md names the rule it comes from. -/

namespace Sys2Proof.Machine

/-- Why the machine stops with a fault. -/
inductive Fault where
  /-- Booth 0, the board or the operator broke a 'must' for which the spec states no consequence (R7). No command raises it at
  present, since none asks the model to go on from there; safe: it stops where the device may do anything. -/
  | mustViolated (rule : String)
deriving DecidableEq, Repr

/-- Why a command is refused. -/
inductive Refusal where
  /-- No meaning yet. Raised only by an arm of `exec`; safe. -/
  | notModelled (mnemonic : String)
deriving DecidableEq, Repr

/-- Privilege levels of a control-core thread (R34). -/
inductive Priv where
  | u | k | m
deriving DecidableEq, Repr

/-- The states of OE_CTX_STATE (R168). -/
inductive CState where
  | free | ready | waitMem | runAhead | waitUnit | faulted | drain
deriving DecidableEq, Repr

/-- A register of a context, for the poison bits of R141. -/
inductive Loc where
  | g (n : Nat) | f (n : Nat) | v (n : Nat) | p (n : Nat)
deriving DecidableEq, Repr

/-- A load that can miss: an M-format load, an indexed load, or a vector load (operation of R126). -/
inductive LoadOp where
  | m (op : BitVec 4) (rt rb : Reg5) (disp : BitVec 12)
  | ix (op : BitVec 4) (sc : BitVec 2) (rd rs1 rs2 : Reg5)
  | v (op : Nat) (ew : BitVec 2) (o : VF)
deriving DecidableEq, Repr

/-- Region attributes of windows and pages (R152). DESIGN CHOICE (log entry 14). -/
inductive Attr where
  | wb | wt | wna | uc | str
deriving DecidableEq, Repr

/-- What a blocked context waits for. -/
inductive Wait where
  | none
  | load (o : LoadOp) (word : BitVec 32)       -- a demand miss (R135)
  | reissue (o : LoadOp) (word : BitVec 32)    -- the missing load of an episode, its data arrived (R143)
  | ack                                        -- a fence or maintenance operation, for its acknowledgements (R151, R154)
  | room                                       -- a store, for room in the store buffer (R151)
  | fill                                       -- a maintenance instruction, for a fill in flight of one of its lines (R156)
  | jend (v : W64)                             -- the fence of JEND (R181)
  | drain                                      -- the fence of a stopped stage (R183)
  | linkSend (port : Nat) (tag : BitVec 16) (eos : Bool) (data : Line)
  | linkRecv (port : Nat) (rd : Reg5) (dst : Option (Nat × Attr)) (vb : Nat)
  | search                                     -- the reply of a search (R213)
  | mover (rd : Reg5)                          -- MVWAIT (R352)
  | mvgo                                       -- MVGO, for the mover (R351)
  | wfi                                        -- WAIT (R58)
  | clock                                      -- an instruction whose transfer waits for an island's clock (R433)
deriving DecidableEq, Repr

/-- The registers of a context that a run-ahead checkpoint holds (R35, R140): g, f, v and p, the PC with its successor
and delay-slot status (R53), the context CSRs with storage (R60), and the LR reservation (R50). -/
structure Regs where
  g : Tab W64 := []
  f : Tab W64 := []
  v : Tab W128 := []
  p : Tab W128 := []
  pc : W64 := 0
  npc : W64 := 4
  slot : Bool := false
  annul : Bool := false
  csr : Tab W64 := []
  resv : Option Nat := none
deriving DecidableEq, Repr

/-- A run-ahead episode (R140–R143): the checkpoint, the poisoned registers, the missing load, and whether it has ended. -/
structure Episode where
  chk : Regs
  poison : List Loc
  load : LoadOp
  word : BitVec 32
  ended : Bool := false
deriving DecidableEq, Repr

/-- The last local mover kick of a context (R352). -/
structure Kick where
  chan : Nat
  dir : Bool := false
  status : BitVec 16 := 0
  failed : Bool := false
  done : Bool := false
  bytes : Nat := 0
deriving DecidableEq, Repr

/-- A Svanen context: its registers, state and job (R35, R60, R168); the aligned 16-byte word of instructions that its instruction
buffer holds, as its number (R135); the lines of its outstanding miss (R156). -/
structure Ctx where
  st : CState := .free
  r : Regs := {}
  priv : Priv := .m
  bid : BitVec 12 := 0
  qid : BitVec 16 := 0
  job : Nat := 0
  stage : Nat := 0
  seq : BitVec 32 := 0
  epi : Option Episode := none
  wait : Wait := .none
  acks : Nat := 0
  log : List Nat := []
  cycle0 : Nat := 0
  instret : W64 := 0
  lastTime : Nat := 0
  kick : Option Kick := none
  async : Option W64 := none
  ibuf : Option Nat := none
  miss : List Nat := []
deriving DecidableEq, Repr

/-- An entry of a store buffer (R151). -/
structure SbEntry where
  ctx : Nat
  addr : Nat
  data : List Byte
  attr : Attr
  bid : BitVec 12 := 0
deriving DecidableEq, Repr

/-- An entry of a prefetch side buffer (R146): the line, the context that filled it, its data, whether it is an STR line, and whether
an access has hit it (R168). -/
structure SideEntry where
  line : Nat
  ctx : Nat
  data : Line
  str : Bool
  used : Bool := false
deriving DecidableEq, Repr

/-- A side-buffer fill in flight (R146, R148). -/
structure SideFill where
  line : Nat
  ctx : Nat
  str : Bool
  dead : Bool := false
deriving DecidableEq, Repr

/-- An operator engine or a control core: issue pointer (R134), store buffer (R151), L1I lines held and the L1D's
slots, each with its line plus 1 (R149, R158), side buffer (R146) with its fills in flight. -/
structure Exec where
  ptr : Nat := 0
  sb : List SbEntry := []
  l1i : List Nat := []
  l1d : Tab Nat := []
  side : List SideEntry := []
  fills : List SideFill := []
deriving DecidableEq, Repr

/-- The error state of a stored code word (R385, R386). -/
inductive Ecc where
  | good | ce (sym : BitVec 8) | ue | poison
deriving DecidableEq, Repr

/-- A line of an L2 array (R149), with the error state of its code words (R165). DEDUCED (log entry 18). DEDUCED (log entry 81). -/
structure L2Line where
  valid : Bool := false
  line : Nat := 0
  dirty : Bool := false
  data : Line := 0
  ecc : Ecc := .good
deriving DecidableEq, Repr

/-- A merge-buffer entry (R388): byte-valid mask, data, and the order of its allocation at its controller. -/
structure MergeEntry where
  valid : Bool := false
  mask : BitVec 64 := 0
  data : Line := 0
  age : Nat := 0
deriving DecidableEq, Repr

/-- A translation held by the control cores' translation cache (R72): root, ASID, page, entry, level. DESIGN CHOICE (log entry 16). -/
structure TlbEntry where
  asid : BitVec 16
  vpn : Nat
  entry : W64
  level : Nat
deriving DecidableEq, Repr

/-- Meridian (R28): the master's nanoseconds and fraction in units of 2^-32 ns, the cycle counts of sclk and cclk in tenths, what each
island's copy differs from the master by (islands in the order of DEV_CLK_STAT), and when MER_STEP was last applied (R30). -/
structure Meridian where
  ns : W64 := 0
  frac : BitVec 32 := 0
  sclk : Nat := 0
  cclk : Nat := 0
  qclk : Nat := 0
  isl : Tab Int := []
  stepAt : Option W64 := none
deriving DecidableEq, Repr

/-- A flit of a stream link (R176); a marker sent by JEND takes no credit (R181). -/
structure Flit where
  data : Line := 0
  tag : BitVec 16 := 0
  eos : Bool := false
  jend : Bool := false
deriving DecidableEq, Repr

/-- A stage of a pipeline job: its context, whether it has ended or faulted, its JEND value and EPC. -/
structure Stage where
  ctx : Nat
  ended : Bool := false
  faulted : Bool := false
  jend : W64 := 0
  epc : W64 := 0
deriving DecidableEq, Repr

/-- A stream link of a job (R172, R176): stages and logical ports, physical ports, credits at the source, credits on
their way back, flits in flight, the destination buffer, and its end-of-stream state. -/
structure SLink where
  src : Nat
  srcPort : Nat
  dst : Nat
  dstPort : Nat
  outPhys : Nat
  inPhys : Nat
  credits : Nat := 8
  back : Nat := 0
  fly : List Flit := []
  buf : List Flit := []
  eosSent : Bool := false
  eosTaken : Bool := false
deriving DecidableEq, Repr

/-- A queue entry as fetched (R262), or as a job, command or NET builds it: its queue, class, bytes, and its place in a
Domino flow (R245): role 1 stamped with `seq`, role 2 release-ordered for item `seq`. `front` is what the tests of R175 found when
a job reached the front of its queue, 0 where it passed. -/
structure Item where
  q : BitVec 16 := 0
  cls : Nat := 0
  bid : BitVec 12 := 0
  tag : BitVec 32 := 0
  data : List Byte := []
  slot : BitVec 32 := 0
  role : Nat := 0
  flow : BitVec 16 := 0
  seq : BitVec 32 := 0
  front : Option (BitVec 16) := none
deriving DecidableEq, Repr

/-- The result part of a completion (R272), with the opcode of its entry, which the status mapping of R345 looks at. -/
structure Compl where
  status : BitVec 16 := 0
  tag : BitVec 32 := 0
  res : W64 := 0
  op : Nat := 0
deriving DecidableEq, Repr

/-- A pipeline job (R169–R185). -/
structure Job where
  live : Bool := false
  item : Item := {}
  bid : BitVec 12 := 0
  slice : Nat := 0
  stages : List Stage := []
  links : List SLink := []
  rstage : Nat := 0
  tlimit : Nat := 0
  start : W64 := 0
  fault : Option (Nat × BitVec 16) := none
  rang : List (BitVec 16 × BitVec 32) := []
deriving DecidableEq, Repr

/-- A queue pair (R258–R274); `part` holds the slots read so far of an entry that reaches beyond 64 slots ahead of H (R267); `host` is the PCIe function whose submission queue a producer-2 queue shadows (R416). -/
structure Queue where
  exists_ : Bool := false
  cls : Nat := 0
  prod : Nat := 0
  evt : Bool := false
  prio : BitVec 2 := 0
  sqLog : Nat := 4
  cqLog : Nat := 4
  bid : BitVec 12 := 0
  enable : Bool := false
  sqBase : W64 := 0
  cqBase : W64 := 0
  sqHead : BitVec 32 := 0
  sqTail : BitVec 32 := 0
  cqHead : BitVec 32 := 0
  cqTail : BitVec 32 := 0
  flow : BitVec 16 := 0
  role : Nat := 0
  slices : BitVec 8 := 0
  src : BitVec 12 := 0
  maxInflight : Nat := 0
  disp : Nat := 0
  inflight : Nat := 0
  fetched : List Item := []
  part : List Byte := []
  released : List Item := []
  hold : List Compl := []
  ringFault : Bool := false
  host : Nat := 0
deriving DecidableEq, Repr

/-- A window of a Booth (R283). -/
structure Window where
  valid : Bool := false
  base : Nat := 0
  size : Nat := 0
  target : Nat := 0
  r : Bool := false
  w : Bool := false
  x : Bool := false
  attr : Attr := .wb
deriving DecidableEq, Repr

/-- The states of a Booth (R256). -/
inductive BState where
  | free | active | halted
deriving DecidableEq, Repr

/-- A Booth (R256, R276, R281–R284): state, halt record, quotas, way shares and engine masks per slice, windows. -/
structure Booth where
  st : BState := .free
  more : Bool := false
  cause : BitVec 16 := 0
  haltQ : BitVec 16 := 0
  detail : BitVec 16 := 0
  quota : Tab (BitVec 32) := []
  ways : Tab (BitVec 16) := []
  engines : Tab (BitVec 16) := []
  windows : Tab Window := []
deriving DecidableEq, Repr

/-- A cell of a Domino flow (R245–R250). -/
structure Cell where
  used : Bool := false
  seq : BitVec 32 := 0
  q : BitVec 16 := 0
  tag : BitVec 32 := 0
  term : Option Compl := none
  entry : Option Item := none
  skipped : Bool := false
deriving DecidableEq, Repr

/-- A Domino flow (R245, R246, R252). -/
structure Flow where
  en : Bool := false
  err : Bool := false
  log2w : Nat := 4
  bid : BitVec 12 := 0
  base : Nat := 0
  nextRel : BitVec 32 := 0
  nextStamp : BitVec 32 := 0
  cells : Tab Cell := []
  waitFrom : W64 := 0
  stalled : Bool := false
deriving DecidableEq, Repr

/-- A terminal on its way to Domino (R247), with the queue tails its job rang (R249). -/
structure Terminal where
  item : Item
  compl : Compl
  rang : List (BitVec 16 × BitVec 32) := []
deriving DecidableEq, Repr

/-- The states of an Orrery thread (R232). -/
inductive TState where
  | free | ready | offered | running | waiting | sleeping
deriving DecidableEq, Repr

/-- The reason of an Orrery thread's last wake (ORR_THR_STATE.REASON). -/
inductive Reason where
  | none | event | timeout | woken | slept
deriving DecidableEq, Repr

/-- An Orrery thread (R232, R240). -/
structure Thread where
  st : TState := .free
  susp : Bool := false
  reason : Reason := .none
  mode : Bool := false
  consume : Bool := false
  prio : BitVec 8 := 0
  ht : Nat := 0
  flags : BitVec 32 := 0
  mask : BitVec 32 := 0
  aff : W64 := 0
  snap : BitVec 32 := 0
  due : Option Nat := none
deriving DecidableEq, Repr

/-- Orrery (R232–R242): threads, ready lists by priority (the head first), the current and the offered thread of each
hardware thread, the bound sources, the tick number with the time of the next tick, and the raises not yet delivered. -/
structure Orrery where
  thr : Tab Thread := []
  lists : Tab (List Nat) := []
  cur : Tab (Option Nat) := []
  offer : Tab (Option Nat) := []
  tick : Nat := 0
  nextTick : Nat := 1000000
  expiring : List Nat := []
  raised : List Nat := []
deriving DecidableEq, Repr

/-- A row of the Spyglass array, or of its mirror (R202, R228, R229). A wide entry is held under its even row with its whole
key; `badPar` is a wrong parity bit of the match array, `quar` a row whose stand-in takes part in searches. -/
structure SpyRow where
  valid : Bool := false
  prio : BitVec 16 := 0
  id : BitVec 32 := 0
  res : W64 := 0
  key : BitVec 288 := 0
  badPar : Bool := false
  lost : Bool := false
  quar : Bool := false
deriving DecidableEq, Repr

/-- What a row command does (R219). -/
inductive SpyOp where
  | insert (prio : BitVec 16) (res : W64) (key : BitVec 288)
  | delete (id : BitVec 32)
  | update (id : BitVec 32) (res : W64)
  | move (first count : Nat) (delta : Int)
  | destroy
deriving DecidableEq, Repr

/-- A row command of a table, in dispatch order; `ord` orders the commands of all tables. -/
structure RowCmd where
  item : Item
  op : SpyOp
  ord : Nat
deriving DecidableEq, Repr

/-- A Spyglass table (R203, R204, R220). -/
structure SpyTable where
  exists_ : Bool := false
  wide : Bool := false
  destroying : Bool := false
  owner : BitVec 12 := 0
  segs : List Nat := []
  dflt : W64 := 0
  cmds : List RowCmd := []
deriving DecidableEq, Repr

/-- Who searches: a context, a queue command, or NET for the frame at the head of a port. -/
inductive SpyWho where
  | eng (x : Nat) (rd : Nat)
  | cmd (item : Item)
  | net (port id pass : Nat)
deriving DecidableEq, Repr

/-- A search at the port (R210, R214). -/
structure SpyReq where
  who : SpyWho
  table : Nat
  bid : BitVec 12
  wide : Bool
  key : BitVec 288
  mask : BitVec 288
  all : Bool
  addr : Nat := 0
  attr : Attr := .wb
  maxm : Nat := 16
  issued : W64 := 0
  sealed : Bool := false
deriving DecidableEq, Repr

/-- The reply of an engine search on its way back (R211–R213). -/
structure SpyReply where
  x : Nat
  rd : Nat
  all : Bool
  addr : Nat
  attr : Attr
  denied : Option Nat
  w0 : W64
  w1 : W64
  recs : List W128
  issued : W64
  sealed : Bool
deriving DecidableEq, Repr

/-- Spyglass (R202–R230): tables, rows and mirror by physical row, the owner of each segment (table + 1), the generation of
each handle, the searches at the port in order of arrival with its budget in fifths of a slot, the replies, and whether the patrol has stopped
(R230). DESIGN CHOICE (log entry 95). -/
structure Spyglass where
  tables : Tab SpyTable := []
  rows : Tab SpyRow := []
  mir : Tab SpyRow := []
  segs : Tab Nat := []
  gens : Tab Nat := []
  port : List SpyReq := []
  replies : List SpyReply := []
  budget : Nat := 0
  ord : Nat := 0
  stop : Bool := false
deriving DecidableEq, Repr

/-- The states of SV_SCAN_STATE. -/
inductive PState where
  | closed | running | stalled | ended
deriving DecidableEq, Repr

/-- A scan of all 32 sieves under one slot number (R333, R334). -/
structure Scan where
  live : Bool := false
  item : Item := {}
  nsid : Nat := 0
  ngroup : Nat := 0
  rlog : Nat := 0
  image : List Byte := []
  mbase : List Nat := []
deriving DecidableEq, Repr

/-- One sieve's part of a scan (R197–R200): groups still to evaluate, the pages loaded, the record waiting for room. -/
structure Part where
  st : PState := .closed
  bid : BitVec 12 := 0
  ctrl : Nat := 0
  ring : Nat := 0
  wr : W64 := 0
  rd : W64 := 0
  status : BitVec 16 := 0
  errLba : W64 := 0
  todo : List Nat := []
  pages : Option (List (List Byte)) := none
  outRec : Option (List Byte) := none
  seq : Nat := 0
  evald : Nat := 0
  passed : Nat := 0
  early : Bool := false
  eos : Bool := true
deriving DecidableEq, Repr

/-- A channel's block evaluator beside its context's registers (R193): the slot it works for, the group's block, emit mask,
and whether SDONE ended it. -/
structure SvEval where
  slot : Nat := 0
  block : Nat := 0
  emit : W128 := 0
  done : Bool := false
deriving DecidableEq, Repr

/-- A 4 KiB slot of NAND with its metadata (R297); `good` says that its codeword decodes and its CRC matches. DESIGN CHOICE
(log entry 4). -/
structure NSlot where
  written : Bool := false
  data : BitVec 32768 := 0
  lba : Nat := 0
  seq : Nat := 0
  nsid : Nat := 0
  kind : Nat := 0
  copy : Bool := false
  ext : Bool := false
  used : Nat := 0
  src : W64 := 0
  chain : BitVec 256 := 0
  good : Bool := true
deriving DecidableEq, Repr

/-- A namespace (R295) with its ledger state (R320–R323): the bytes of the open unit, when it opened, whether it counts in
ALM_WB_FILL. -/
structure Ns where
  exists_ : Bool := false
  bid : BitVec 12 := 0
  size : Nat := 0
  lbase : Nat := 0
  ordered : Bool := false
  ledger : Bool := false
  gen : W64 := 0
  units : Nat := 0
  offset : Nat := 0
  head : BitVec 256 := 0
  openData : List Byte := []
  openAt : W64 := 0
  openProt : Bool := false
  destroying : Bool := false
deriving DecidableEq, Repr

/-- A unit in the write buffer (R299): its data, whether it counts as protected, whether it is in a program in flight
(`issued`), and whether a trim or the end of its namespace has discarded it since it was issued (`dead`). -/
structure BufE where
  id : Nat
  nsid : Nat
  lba : Nat
  kind : Nat
  data : BitVec 32768
  prot : Bool
  issued : Bool := false
  dead : Bool := false
  used : Nat := 0
  chain : BitVec 256 := 0
  ext : Bool := false
deriving DecidableEq, Repr

/-- A program unit in flight in a LUN group: its block, first page, slots, and the buffer entries it holds. -/
structure Prog where
  blk : Nat
  page : Nat
  slots : List NSlot
  bufs : List Nat
deriving DecidableEq, Repr

/-- An open block (R315): its stream (0 host, 1 ledger, 2 GC, 3 table) and the first page not yet programmed. -/
structure OpenBlk where
  blk : Nat
  stream : Nat
  page : Nat
deriving DecidableEq, Repr

/-- A slot read waiting at a LUN group: the storage command and the place of the unit in its transfer. -/
structure SlotRead where
  cmd : Nat
  idx : Nat
  nsid : Nat
  unit : Nat
  loc : Nat
deriving DecidableEq, Repr

/-- A namespace command (R296) and how far it is: 0 waiting, 1 a DESTROY that has begun, 2 its open unit sealed, 3 waiting for
its checkpoint; `at_` counts the units that a DESTROY has unmapped. -/
structure NsCmd where
  op : Nat
  nsid : Nat
  bid : BitVec 12 := 0
  size : Nat := 0
  ledger : Bool := false
  ordered : Bool := false
  phase : Nat := 0
  at_ : Nat := 0
deriving DecidableEq, Repr

/-- The reference geometry of the NAND (R288): slots per page, planes, pages per wordline and per block, blocks per plane,
program time, and the LUNs in use as CH, TGT, LUN packed as in ALM_BLK_SEL. -/
structure Geom where
  spp : Nat := 1
  planes : Nat := 1
  wlp : Nat := 1
  ppb : Nat := 1
  bpp : Nat := 1
  tprogUs : Nat := 1
  luns : List Nat := []
deriving DecidableEq, Repr

/-- A storage command in flight (R329–R337): whether it is ordered, has begun, has reached its execution point, the buffer
entries whose program it waits for, and the units of a read that have been captured. -/
structure StCmd where
  item : Item
  op : Nat
  nsid : Nat
  unit : Nat := 0
  n : Nat := 0
  data : List Byte := []
  ordered : Bool := false
  started : Bool := false
  point : Bool := false
  accepted : Bool := false
  waits : List Nat := []
  parts : Tab (List Byte) := []
  fail : BitVec 16 := 0
  res : W64 := 0
deriving DecidableEq, Repr

/-- Almanac (R287–R323): NAND slots by location (a map entry's bits [43:2]), geometry, namespaces, write buffer and the commands
waiting for it, storage commands, programs in flight by group, open blocks, slot reads by group, closed blocks in the order they
closed, relocation victims with their copy destinations, groups collecting, dirty table pages with the SEQ that dirtied them,
pages loaded while MAPLOAD, the S of a checkpoint being written, namespace commands, journal position and use, slots programmed
and the time of the last checkpoint, blocks with the manifests of the two latest checkpoints, good blocks, spares and reserve
of each group at FORMAT, the capture of R323, the LUN an EXT run continues in, OP_PCT and SPARE_PCT of the FORMAT, whether a command has
ended the requests for PS2 (R344), the last operational power state and the state the flash complex is in; blocks queued for
retirement, with the cause and the buffer entries to be programmed again before it (R301, R303); groups whose relocation ranks
above host programs (R290); the blocks open at the S of a checkpoint being written (R313); and what FORMAT replaced in the root
record (R291). A block with copies of a victim leaves its destinations once it is closed (R306). -/
structure Almanac where
  nand : Tab NSlot := []
  geom : Geom := {}
  ns : Tab Ns := []
  buf : List BufE := []
  nextBuf : Nat := 0
  accept : List Nat := []
  cmds : Tab StCmd := []
  nextCmd : Nat := 0
  progs : Tab (Option Prog) := []
  opens : List OpenBlk := []
  reads : Tab (List SlotRead) := []
  closed : List Nat := []
  victims : List Nat := []
  dests : Tab (List Nat) := []
  gcOn : List Nat := []
  dirty : List (Nat × Nat) := []
  loaded : List Nat := []
  ckpt : Option Nat := none
  ckptDue : Bool := false
  nsq : List NsCmd := []
  journal : Nat := 0
  jused : Nat := 0
  jnext : Nat := 0
  programmed : Nat := 0
  lastCkpt : W64 := 0
  manA : List Nat := []
  manB : List Nat := []
  groups : Tab (Nat × Nat × Nat) := []
  capNs : Option (BitVec 256 × Nat × Nat) := none
  follow : Option Nat := none
  pct : Nat × Nat := (12, 2)
  psOver : Bool := false
  psLast : Nat := 0
  psCur : Nat := 0
  retiring : List (Nat × Nat × List Nat) := []
  gcUrgent : List Nat := []
  ckptOpens : List OpenBlk := []
  fmtOld : List Byte := []
deriving DecidableEq, Repr

/-- A mover channel's transfer or job (R347–R361). `st` is MV_STAT.STATE: 0 IDLE, 1 RUN, 2 PAUSED, 3 WAIT_ACK, 4 HALTED; `was` is
the state a halt interrupted, `rdv` the RD of a DRAIN under way, `rdDue` whether its store is due, `sized`
whether HIGH was held against the ring's size. -/
structure Mover where
  st : Nat := 0
  dir : Bool := false
  desc : Bool := false
  kernel : Bool := false
  fstatus : BitVec 16 := 0
  bid : BitVec 12 := 0
  ctx : Nat := 0
  job : Nat := 0
  item : Option Item := none
  mode : Nat := 0
  op : Nat := 0
  evt : Bool := false
  next : W64 := 0
  active : Bool := false
  moved : Nat := 0
  total : Nat := 0
  pace : Nat := 0
  pobj : W64 := 0
  high : Nat := 0
  low : Nat := 0
  cls : BitVec 2 := 2
  rdv : Option W64 := none
  rdDue : Bool := false
  sized : Bool := false
  was : Nat := 0
deriving DecidableEq, Repr

/-- A job of a digest context (R364–R367): the next fragment, the sum of lengths, the snapshot to roll back to with the number of
fragments the context had taken then, whether the job is active, and the number of its last fragment. -/
structure DgJob where
  item : Item
  frag : Nat := 0
  sum : Nat := 0
  snapSt : BitVec 1600 := 0
  snapLen : Nat := 0
  snapBuf : List Byte := []
  active : Bool := false
  last : Nat := 0
  snapAt : Nat := 0
deriving DecidableEq, Repr

/-- A digest context (R363): its algorithm, state words or string, message length, pending bytes, jobs in order of arrival. -/
structure DgCtx where
  alloc : Bool := false
  alg : Nat := 0
  resident : Bool := false
  bid : BitVec 12 := 0
  lru : Nat := 0
  st : BitVec 1600 := 0
  len : Nat := 0
  buf : List Byte := []
  jobs : List DgJob := []
  turn : Nat := 0
  tick : Nat := 0
deriving DecidableEq, Repr

/-- A compression stream context (R375): the source bytes of the stream's jobs so far, job by job, and the number of bytes put out. -/
structure CzCtx where
  open_ : Bool := false
  fmt : Nat := 0
  dir : Bool := false
  level : Nat := 0
  started : Bool := false
  bid : BitVec 12 := 0
  save : W64 := 0
  src : List (List Byte) := []
  out : Nat := 0
deriving DecidableEq, Repr

/-- The digest and compression engines; `units` are the jobs the four compression units run, `wait` the jobs of stream contexts
and CLOSEs that wait, in order of arrival. -/
structure Engines where
  dg : Tab DgCtx := []
  lru : Nat := 0
  cz : Tab CzCtx := []
  units : Tab (Option Item) := []
  wait : List Item := []
deriving DecidableEq, Repr

/-- A frame held at a port (R406–R410): its bytes without FCS, stamp and key, and the steering result with its pass. -/
structure Frame where
  id : Nat
  data : List Byte
  stamp : W64
  key : BitVec 144
  l3 : Nat
  l4 : Nat
  res : Option (W64 × Nat) := none
deriving DecidableEq, Repr

/-- A frame being sent (R413): its bytes as they leave, and the stamp of R404 once it has begun. DESIGN CHOICE (log entry 47). -/
structure TxFrame where
  item : Item
  data : List Byte
  ts : Bool
  stamp : W64 := 0
deriving DecidableEq, Repr

/-- NET: frames waiting per port, transmits per port, and the sum of PTP offsets (R405). -/
structure Net where
  rx : Tab (List Frame) := []
  tx : Tab (List TxFrame) := []
  nextId : Nat := 0
  sum : Int := 0
deriving DecidableEq, Repr

/-- A host submission queue (R338, R416) with its shadow; `del` is the command identifier of a deletion that waits. -/
structure HostSq where
  live : Bool := false
  cqid : Nat := 0
  size : Nat := 0
  head : Nat := 0
  tail : Nat := 0
  shadow : BitVec 16 := 0
  del : Option (BitVec 16) := none
deriving DecidableEq, Repr

/-- A host completion queue (R338); `coal` counts entries whose interrupt waits for aggregation. -/
structure HostCq where
  live : Bool := false
  size : Nat := 0
  vec : Nat := 0
  ien : Bool := false
  tail : Nat := 0
  head : Nat := 0
  coal : Nat := 0
deriving DecidableEq, Repr

/-- A completion queue entry for a host (R339, R345): completion queue, command identifier, submission queue, Dwords 0 and 1, status. -/
structure HostCqe where
  cqid : Nat
  cid : BitVec 16
  sqid : Nat
  dw0 : BitVec 32 := 0
  dw1 : BitVec 32 := 0
  sct : Nat := 0
  sc : Nat := 0
  dnr : Bool := true
deriving DecidableEq, Repr

/-- An Error Information log entry (R345): its number, queue, command, status, internal status. -/
structure HostErr where
  n : Nat
  sqid : Nat
  cid : BitVec 16
  sct : Nat
  sc : Nat
  internal : BitVec 16
deriving DecidableEq, Repr

/-- The NVM Express controller of a PCIe function (R338–R344): CC.EN, CSTS, whether it is stopping (R342), features, queues,
asynchronous requests and events that wait, the error log, power states, a pending cause (PCI_FN_EVT), completion entries in host
memory that the host has not consumed, those that wait for room, interrupt messages sent by vector, and the data last returned. -/
structure HostFn where
  en : Bool := false
  rdy : Bool := false
  cfs : Bool := false
  shst : Nat := 0
  stopping : Bool := false
  ordered : Nat := 0
  feats : Tab (BitVec 32) := []
  sqs : Tab HostSq := []
  cqs : Tab HostCq := []
  aer : List (BitVec 16) := []
  events : List Nat := []
  errors : Nat := 0
  errLog : List HostErr := []
  pstate : Nat := 0
  plast : Nat := 0
  cause : Bool := false
  sent : List HostCqe := []
  wait : List HostCqe := []
  irq : Tab Nat := []
  reply : List Byte := []
  dmaBad : List (BitVec 32) := []
deriving DecidableEq, Repr

/-- The pins of the board side (R438, R441, R451, R459): true is high. -/
structure Pins where
  porN : Bool := true
  pfN : Bool := true
  holdupDone : Bool := false
  thermN : Bool := true
  huTest : Bool := false
  perstN : Bool := true
  pcieUp : Bool := false
deriving DecidableEq, Repr

/-- Stagehand (R417–R421): measurement registers; the two SPI slots with their versions and images and whether an image verifies;
the active slot (false is A), whether the inactive slot holds a verified update and whether it is committed; the last telemetry
sample and attestation report; the status answered last on the management port. -/
structure Stagehand where
  meas : Tab (BitVec 384) := []
  verA : W64 := 0
  verB : W64 := 0
  imgA : List Byte := []
  imgB : List Byte := []
  validA : Bool := true
  validB : Bool := true
  active : Bool := false
  basex : Bool := false
  verified : Bool := false
  commit : Bool := false
  telem : List Nat := []
  report : List Byte := []
  answer : BitVec 16 := 0
deriving DecidableEq, Repr

/-- Progress of INIT (R431) and of a delayed POR; the epoch's start and the mode behind it (R426, R427); HOLDUP and the
hold-up controller (R438–R441); clocks lost (R433); the power limiter (R457); the TAP (R454). -/
structure Control where
  steps : List Nat := []
  porAt : Option W64 := none
  failed : Bool := false
  epochAt : W64 := 0
  prev : Nat := 0
  almReq : Bool := false
  rwl : Bool := false
  samples : List Nat := []
  recovered : Bool := false
  measReq : Bool := false
  measuring : Bool := false
  measV1 : Nat := 0
  riseAt : Option W64 := none
  riseTo : Nat := 0
  powered0 : Nat := 0
  holdAt : Option W64 := none
  holdDry : Bool := false
  holdClk : Bool := false
  lostAt : Tab W64 := []
  below : Option W64 := none
  tapIr : Nat := 1
  tapPads : Nat := 0
  scrub : Bool := false
  scrubAt : Nat := 0
  sliceEn : BitVec 8 := 0
deriving DecidableEq, Repr


/-- The state of the device, the queue of commands waiting (the model's interface), and the counter of free values (the
model's own, log entry 7). -/
structure State where
  pending : List Instr := []
  free : Nat := 0
  mer : Meridian := {}
  csr : Tab W64 := []
  mem : Tab Byte := []
  merge : Tab MergeEntry := []
  ecc : Tab Ecc := []
  ctxs : Tab Ctx := []
  execs : Tab Exec := []
  l2 : Tab L2Line := []
  l2todo : Tab (Nat × List Nat) := []
  tlb : Tab (List TlbEntry) := []
  jobs : Tab Job := []
  queues : Tab Queue := []
  booths : Tab Booth := []
  flows : Tab Flow := []
  domLast : Nat := 65535
  rr : Tab Nat := []
  adm : Option (BitVec 12 × AdmSrc × BitVec 32) := none
  admGo : Bool := false
  terms : List Terminal := []
  busReply : W64 := 0
  orr : Orrery := {}
  spy : Spyglass := {}
  scans : Tab Scan := []
  parts : Tab Part := []
  evals : Tab SvEval := []
  alm : Almanac := {}
  movers : Tab Mover := []
  eng : Engines := {}
  net : Net := {}
  host : Tab HostFn := []
  pins : Pins := {}
  stg : Stagehand := {}
  ctl : Control := {}
deriving DecidableEq, Repr

/-- The canonical form of the memory table: addresses strictly rise and no byte listed is 0, what an unlisted address reads as
(log entry 2). -/
def Memory.wf (m : Tab Byte) : Bool := Tab.wf 0 m

/-- The register stored at an address of CSR space (its reset value until it changes). -/
def State.reg (s : State) (a : Nat) : W64 := Tab.get (regDefault a) s.csr a
def State.setReg (s : State) (a : Nat) (v : W64) : State := { s with csr := Tab.set (regDefault a) s.csr a v }
/-- DESIGN CHOICE (log entry 3). -/
def State.ctx (s : State) (x : Nat) : Ctx := Tab.get {} s.ctxs x
def State.setCtx (s : State) (x : Nat) (c : Ctx) : State := { s with ctxs := Tab.set {} s.ctxs x c }
def State.exe (s : State) (u : Nat) : Exec := Tab.get {} s.execs u
def State.setExe (s : State) (u : Nat) (e : Exec) : State := { s with execs := Tab.set {} s.execs u e }
def State.job (s : State) (j : Nat) : Job := Tab.get {} s.jobs j
def State.setJob (s : State) (j : Nat) (x : Job) : State := { s with jobs := Tab.set {} s.jobs j x }
def State.queue (s : State) (q : BitVec 16) : Queue := Tab.get {} s.queues q.toNat
def State.setQueue (s : State) (q : BitVec 16) (x : Queue) : State := { s with queues := Tab.set {} s.queues q.toNat x }
def State.booth (s : State) (b : BitVec 12) : Booth := Tab.get {} s.booths b.toNat
def State.setBooth (s : State) (b : BitVec 12) (x : Booth) : State := { s with booths := Tab.set {} s.booths b.toNat x }
def State.flow (s : State) (f : BitVec 16) : Flow := Tab.get {} s.flows f.toNat
def State.setFlow (s : State) (f : BitVec 16) (x : Flow) : State := { s with flows := Tab.set {} s.flows f.toNat x }
def State.thread (s : State) (t : Nat) : Thread := Tab.get {} s.orr.thr t
def State.setThread (s : State) (t : Nat) (x : Thread) : State := { s with orr := { s.orr with thr := Tab.set {} s.orr.thr t x } }

def State.spyTable (s : State) (t : Nat) : SpyTable := Tab.get {} s.spy.tables t
def State.setSpyTable (s : State) (t : Nat) (x : SpyTable) : State :=
  { s with spy := { s.spy with tables := Tab.set {} s.spy.tables t x } }
def State.scan (s : State) (n : Nat) : Scan := Tab.get {} s.scans n
def State.setScan (s : State) (n : Nat) (x : Scan) : State := { s with scans := Tab.set {} s.scans n x }
def State.part (s : State) (k : Nat) : Part := Tab.get {} s.parts k
def State.setPart (s : State) (k : Nat) (x : Part) : State := { s with parts := Tab.set {} s.parts k x }
def State.sv (s : State) (k : Nat) : SvEval := Tab.get {} s.evals k
def State.setSv (s : State) (k : Nat) (x : SvEval) : State := { s with evals := Tab.set {} s.evals k x }
def State.ns (s : State) (n : Nat) : Ns := Tab.get {} s.alm.ns n
def State.setNs (s : State) (n : Nat) (x : Ns) : State := { s with alm := { s.alm with ns := Tab.set {} s.alm.ns n x } }
def State.mover (s : State) (n : Nat) : Mover := Tab.get {} s.movers n
def State.setMover (s : State) (n : Nat) (x : Mover) : State := { s with movers := Tab.set {} s.movers n x }
def State.dg (s : State) (n : Nat) : DgCtx := Tab.get {} s.eng.dg n
def State.setDg (s : State) (n : Nat) (x : DgCtx) : State := { s with eng := { s.eng with dg := Tab.set {} s.eng.dg n x } }
def State.cz (s : State) (n : Nat) : CzCtx := Tab.get {} s.eng.cz n
def State.setCz (s : State) (n : Nat) (x : CzCtx) : State := { s with eng := { s.eng with cz := Tab.set {} s.eng.cz n x } }
def State.hostFn (s : State) (f : Nat) : HostFn := Tab.get {} s.host f
def State.setHost (s : State) (f : Nat) (x : HostFn) : State := { s with host := Tab.set {} s.host f x }

/-- Booth 0 as INIT leaves it (R256, R284): ACTIVE, every quota 0xFFFF_FFFF. -/
def Booth.kernel : Booth :=
  { st := .active, quota := (List.range 8).map fun r => (r, 0xFFFFFFFF) }

/-- The device right after reset: the reset values of the register tables, QID 0 and Booth 0 (R256, R258), the rest empty. -/
def State.reset : State :=
  { queues := [(0, { exists_ := true })], booths := [(0, Booth.kernel)] }

end Sys2Proof.Machine
end

