-- ==== Sys2Proof/Machine/Memory.lean ====
section
/-! DEFINITION. Sys2Proof/Machine/Memory.lean: registers and event sources, the physical address map (R19), code words,
merge buffers, and the reads and writes that memory controllers perform (R380–R393). -/

namespace Sys2Proof.Machine

/-- The next free value (log entry 7): a number the spec does not give. -/
def State.fresh (s : State) : Nat × State := (Config.freeValue s.free, { s with free := s.free + 1 })

/-- The reading of Meridian's copy in an island (R28). -/
def State.merAt (s : State) (k : Nat) : W64 := s.mer.ns + BitVec.ofInt 64 (Tab.get 0 s.mer.isl k)
/-- Islands in the order of DEV_CLK_STAT: slices come first, and MEMH0–MEMH3 begin at 11. -/
def islCtl : Nat := 8
def islHub : Nat := 9
def islMemH : Nat := 11
def islFlc : Nat := 15
def islMemD : Nat := 16
def islNet : Nat := 17
def islStg : Nat := 19

/-- A counter register steps by one, wrapping to zero. -/
def State.bump (s : State) (a : Nat) : State := s.setReg a (s.reg a + 1)
def State.addReg (s : State) (a n : Nat) : State := s.setReg a (s.reg a + BitVec.ofNat 64 n)
/-- Bit i of a register. -/
def State.regBit (s : State) (a i : Nat) : Bool := bitAt (s.reg a) i
def State.setRegBit (s : State) (a i : Nat) (b : Bool) : State := s.setReg a (setBit (s.reg a) i b)
def State.setRegFld (s : State) (a lo w v : Nat) : State := s.setReg a (setFld (s.reg a) lo w v)

/-- An event source is raised (R242): Orrery has a delivery to make. DEDUCED (log entry 59). -/
def State.raise (s : State) (n : Nat) : State := { s with orr := { s.orr with raised := s.orr.raised ++ [n] } }

/-- A block's own event register of the form EN [0], SRC [27:16] (MC_MR_EVT, MV_EVT, ALM_EVT, DEV_PWR_EVT). -/
def State.raiseEvt (s : State) (a : Nat) : State :=
  if s.regBit a 0 && decide (256 ≤ fld (s.reg a) 16 12) then s.raise (fld (s.reg a) 16 12) else s

/-- DEV_MODE codes (R423): the mode in force. -/
def modeInit : Nat := 0
def modeService : Nat := 1
def modeSealed : Nat := 2
def modeQuiesce : Nat := 3
def modeReadonly : Nat := 4
def modeHoldup : Nat := 5
/-- The device mode. -/
def State.mode (s : State) : Nat := fld (s.reg Reg.devMode) 0 3

/-! ### The physical address map -/

/-- The ranges of R19. -/
inductive Region where
  | hbm | ddr | mram | csr | bell
deriving DecidableEq, Repr

/-- Populated DDR5 capacity in bytes, and the number n of channels (R383, MC_DDR_CAP). -/
def State.ddrCap (s : State) : Nat := fld (s.reg Reg.mcDdrCap) 0 11 * 2 ^ 30
def State.ddrN (s : State) : Nat := fld (s.reg Reg.mcDdrCap) 16 4

def hbmEnd : Nat := 0x001800000000
def ddrBase : Nat := 0x010000000000
def mramBase : Nat := 0x040000000000
def csrBase : Nat := 0x080000000000
def bellBase : Nat := 0x090000000000

/-- The range a physical address lies in; none where it is not decoded (R19, R20). -/
def State.region (s : State) (a : Nat) : Option Region :=
  if a < hbmEnd then some .hbm
  else if ddrBase ≤ a ∧ a < ddrBase + s.ddrCap then some .ddr
  else if mramBase ≤ a ∧ a < mramBase + 0x10000000 then some .mram
  else if csrBase ≤ a ∧ a < csrBase + 0x100000000 then some .csr
  else if bellBase ≤ a ∧ a < bellBase + 0x80000 then some .bell
  else none

/-- Whether an address lies in a memory. -/
def Region.isMem : Region → Bool
  | .hbm | .ddr | .mram => true
  | _ => false

/-- The status of an access by a requester other than R21's to n bytes at an address: DECODE_ERROR where a byte is not
decoded or lies in the doorbell region, ACCESS_DENIED in CSR space (R20, R21, R263). -/
def State.memStatus (s : State) (a n : Nat) : Option (BitVec 16) :=
  match s.region a, s.region (a + n - 1) with
  | some .csr, _ => some 0x0701
  | some r, some r' => if r.isMem && r'.isMem then none else some 0x0602
  | _, _ => some 0x0602

/-- Who may write MRAM (R434). -/
inductive Who where
  | device | coreKM | tenant | stagehand
deriving DecidableEq, Repr

/-- Whether a writer may write an MRAM offset (R434). -/
def mramWritable (w : Who) (o : Nat) : Bool :=
  let b := o % 0x8000000
  if b < 0x1000 then w == .device
  else if b < 0x2000 then w == .coreKM || w == .stagehand
  else if o < 0x100000 then false
  else if o < 0x200000 then w == .device
  else if o < 0x8000000 then true
  else decide (0x200000 ≤ b)

/-- Whether a writer may write each of n bytes from an MRAM offset: the bounds of R434 lie at multiples of 4 KiB. -/
def mramSpan (w : Who) (o n : Nat) : Bool :=
  (List.range ((o + n - 1) / 4096 - o / 4096 + 1)).all fun k => mramWritable w ((o / 4096 + k) * 4096)

/-- The status of a write of n bytes (R20, R21, R434). -/
def State.writeStatus (s : State) (w : Who) (a n : Nat) : Option (BitVec 16) :=
  match s.memStatus a n with
  | some e => some e
  | none =>
    if s.region a = some .mram ∧ !mramSpan w (a - mramBase) n then some 0x0701
    else none

/-- The controller of an address (R17, R381, R383, R384): 0–7 DDR5 channels, 8–11 HBM stacks, 12 the MRAM controller. -/
def State.ctlOf (s : State) (a : Nat) : Nat :=
  if a < hbmEnd then 8 + a / 0x300000000 / 2
  else if a < mramBase then ((a - ddrBase) / 4096) % (max s.ddrN 1)
  else 12

/-- The code word size in bytes (R385). -/
def cwSize (a : Nat) : Nat := if a < hbmEnd then 32 else if a < mramBase then 64 else 16
/-- The first address of the code word that holds an address. -/
def cwBase (a : Nat) : Nat := a / cwSize a * cwSize a

/-- LOC of the error records (R381, R383): pseudo-channel, or subchannel and rank. -/
def State.locOf (s : State) (a : Nat) : Nat :=
  if a < hbmEnd then
    let sl := a / 0x300000000
    let o := a % 0x300000000
    16 * (sl % 2) + ((o / 256 % 16) ^^^ (o / 65536 % 16))
  else if a < mramBase then
    let o := a - ddrBase
    let c := o / 4096 / (max s.ddrN 1) * 4096 + o % 4096
    let cfg := s.reg (Reg.mcCfg (s.ctlOf a))
    let half := fld cfg 16 8 * 2 ^ 30 / 2
    o / 64 % 2 + (if fld cfg 8 4 = 2 ∧ half ≤ c then 2 else 0)
  else 0

/-! ### Error records -/

/-- The state of a code word. -/
def State.eccAt (s : State) (cw : Nat) : Ecc := Tab.get .good s.ecc cw
def State.setEcc (s : State) (cw : Nat) (e : Ecc) : State := { s with ecc := Tab.set .good s.ecc cw e }

/-- KIND of the error records: 0 read, 1 read-modify-write, 2 scrub. -/
abbrev Kind := Nat

/-- An uncorrectable read (R392), or with KIND 1 the poisoning write of R389. -/
def State.recordUE (s : State) (cw : Nat) (k : Kind) (poison : Bool) (cls : BitVec 2) : State :=
  let n := s.ctlOf cw
  if n = 12 then
    let s := s.setReg Reg.mcMrStat (s.reg Reg.mcMrStat ||| (if k = 1 then 3 else 1))
    let s := s.bump Reg.mcMrUeCnt
    let s := s.setReg Reg.mcMrErrAddr (BitVec.ofNat 64 (cw + (if poison then 2 ^ 48 else 0) + k * 2 ^ 49))
    s.raiseEvt Reg.mcMrEvt
  else
    let s := s.setReg (Reg.mcStat n) (s.reg (Reg.mcStat n) ||| (if k = 1 then 0x30 else 0x10))
    let s := s.bump (Reg.mcUeCnt n)
    let s := s.setReg (Reg.mcErrAddr n) (BitVec.ofNat 64 cw)
    let s := s.setReg (Reg.mcErrInfo n)
      (BitVec.ofNat 64 (k + (if poison then 4 else 0) + cls.toNat * 16 + s.locOf cw * 256))
    if s.regBit (Reg.mcEvt n) 0 || (decide (k = 1) && s.regBit (Reg.mcEvt n) 1) then s.raise (24 + n) else s

/-- A corrected error (R393). -/
def State.recordCE (s : State) (cw : Nat) (k : Kind) (sym : BitVec 8) : State :=
  let n := s.ctlOf cw
  if n = 12 then
    let s := s.setReg Reg.mcMrStat (s.reg Reg.mcMrStat ||| 4)
    (s.bump Reg.mcMrCeCnt).raiseEvt Reg.mcMrEvt
  else
    let s := s.bump (Reg.mcCeCnt n)
    let s := s.setReg (Reg.mcCeAddr n) (BitVec.ofNat 64 cw)
    let s := s.setReg (Reg.mcCeInfo n) (BitVec.ofNat 64 (k + s.locOf cw * 256 + sym.toNat * 65536))
    let th := fld (s.reg (Reg.mcCeThresh n)) 0 16
    if th ≠ 0 ∧ (s.reg (Reg.mcCeCnt n)).toNat % th = 0 then
      let s := s.setRegBit (Reg.mcStat n) 6 true
      if s.regBit (Reg.mcEvt n) 2 then s.raise (24 + n) else s
    else s

/-! ### Merge buffers -/

def State.mergeAt (s : State) (cw : Nat) : MergeEntry := Tab.get {} s.merge cw
def State.setMerge (s : State) (cw : Nat) (e : MergeEntry) : State := { s with merge := Tab.set {} s.merge cw e }

/-- The byte a read of an address returns: the merge buffer's where it holds one, else memory's (R387). DESIGN CHOICE (log entry 2). -/
def State.peek (s : State) (a : Nat) : Byte :=
  let e := s.mergeAt (cwBase a)
  let i := a - cwBase a
  if e.valid && e.mask.getLsbD i then lineByte e.data i else Tab.get 0 s.mem a

/-- Bytes a to a + n - 1 as a read returns them. -/
def State.peekN (s : State) (a n : Nat) : List Byte := (List.range n).map fun i => s.peek (a + i)

/-- Bytes stored from an address upwards. -/
def putMem : Tab Byte → Nat → List Byte → Tab Byte
  | m, _, [] => m
  | m, a, b :: t => putMem (Tab.set 0 m a b) (a + 1) t

/-- The mask of n bytes from offset i. -/
def byteMask (i n : Nat) : BitVec 64 := BitVec.ofNat 64 ((2 ^ n - 1) * 2 ^ i)

/-- The bytes of a merge entry, stored where its mask is set. DEDUCED (log entry 86). -/
def mergeInto (m : Tab Byte) (cw : Nat) (e : MergeEntry) (size : Nat) : Tab Byte :=
  (List.range size).foldl (fun m i => if e.mask.getLsbD i then Tab.set 0 m (cw + i) (lineByte e.data i) else m) m

/-- A merge entry leaves the buffer: a full one is written whole, any other by read-modify-write (R388, R389). DEDUCED (log entry 86). -/
def State.mergeDrain (s : State) (cw : Nat) : State :=
  let e := s.mergeAt cw
  if !e.valid then s else
  let size := cwSize cw
  let s1 := { s.setMerge cw {} with mem := mergeInto s.mem cw e size }
  if e.mask &&& byteMask 0 size = byteMask 0 size then s1.setEcc cw .good
  else
    let n := s.ctlOf cw
    let s2 := if n = 12 then s1 else s1.bump (Reg.mcRmwCnt n)
    match s.eccAt cw with
    | .good => s2
    | .ce sym => (s2.recordCE cw 1 sym).setEcc cw .good
    | .ue => (s2.recordUE cw 1 false 0).setEcc cw .poison
    | .poison => (s2.recordUE cw 1 true 0).setEcc cw .poison

/-- The code words with an entry at a controller, the oldest first. DEDUCED (log entry 86). -/
def State.mergeList (s : State) (n : Nat) : List Nat :=
  ((s.merge.filter fun e => decide (cwBase e.1 = e.1 ∧ s.ctlOf e.1 = n)).insertionSort fun a b => a.2.age ≤ b.2.age).map Prod.fst

/-- Every merge entry of a controller drains (R388). -/
def State.mergeDrainAll (s : State) (n : Nat) : State := (s.mergeList n).foldl State.mergeDrain s

/-- A write within one code word (R385, R388). -/
def State.writeCw (s : State) (a : Nat) (l : List Byte) : State :=
  let cw := cwBase a
  let size := cwSize a
  let i := a - cw
  let e := s.mergeAt cw
  if e.valid then
    let e' := { e with mask := e.mask ||| byteMask i l.length, data := linePut e.data i l }
    let s1 := s.setMerge cw e'
    if e'.mask &&& byteMask 0 size = byteMask 0 size then s1.mergeDrain cw else s1
  else if l.length = size then { s.setEcc cw .good with mem := putMem s.mem cw l }
  else
    let n := s.ctlOf cw
    let held := s.mergeList n
    let s1 := if 64 ≤ held.length then
        (match held.head? with | some o => s.mergeDrain o | none => s)
      else s
    let s1 := if 64 ≤ held.length ∧ n ≠ 12 then s1.bump (Reg.mcMbFullCnt n) else s1
    let age := (s1.merge.map fun x => x.2.age).foldl max 0 + 1
    s1.setMerge cw { valid := true, mask := byteMask i l.length, data := linePut 0 i l, age := age }

/-- Bytes written at the memory controllers, code word by code word. The fuel bounds the number of code words. -/
def State.busWriteGo : Nat → State → Nat → List Byte → State
  | 0, s, _, _ => s
  | _, s, _, [] => s
  | k + 1, s, a, l =>
    let n := min (cwBase a + cwSize a - a) l.length
    State.busWriteGo k (s.writeCw a (l.take n)) (a + n) (l.drop n)

/-- Bytes written at the memory controllers (R387, R388). -/
def State.busWrite (s : State) (a : Nat) (l : List Byte) : State := State.busWriteGo (l.length + 1) s a l

/-- The code words of the 64-byte granules that n bytes at an address touch. -/
def granuleCws (a n : Nat) : List Nat :=
  let g := a / 64 * 64
  let e := (a + n - 1) / 64 * 64 + 64
  (List.range ((e - g) / cwSize a)).map fun i => g + i * cwSize a

/-- The code words that n bytes at an address need. -/
def cwsOf (a n : Nat) : List Nat :=
  (List.range ((a + n - 1 - cwBase a) / cwSize a + 1)).map fun i => cwBase a + i * cwSize a

/-- One code word is read (R391–R393): whether it is uncorrectable. DEDUCED (log entry 56). -/
def State.readCw (s : State) (cw : Nat) (k : Kind) (cls : BitVec 2) : State × Bool :=
  match s.eccAt cw with
  | .good => (s, false)
  | .ce sym => (s.recordCE cw k sym, false)
  | .ue => (s.recordUE cw k false cls, true)
  | .poison => (s.recordUE cw k true cls, true)

/-- A read at the memory controllers: entries of the granules read drain first (R387), then each code word is checked. The
answer is the status of R391 and the bytes. -/
def State.busRead (s : State) (a n : Nat) (cls : BitVec 2) : State × Option (BitVec 16) × List Byte :=
  let s := (granuleCws a n).foldl State.mergeDrain s
  let r := (cwsOf a n).foldl (fun p cw => let q := p.1.readCw cw 0 cls; (q.1, p.2 || q.2)) (s, false)
  (r.1, if r.2 then some 0x0601 else none, r.1.peekN a n)

/-- Whether island i's clock has stopped (R433): its PLL was in lock and is not. -/
def State.stopped (s : State) (i : Nat) : Bool := decide (1 ∈ s.ctl.steps) && !s.regBit Reg.devClkStat i
/-- The island of the controller of an address. -/
def State.memIsland (s : State) (a : Nat) : Nat := let c := s.ctlOf a; if c < 8 then islMemD else if c < 12 then islMemH + (c - 8) else islHub
/-- The model's own answer of a transfer that waits for its island's clock (R433); no status of the spec. -/
def stWait : BitVec 16 := 0xFFFF
/-- A read that an instruction of a context needs: it waits while the clock of its memory is stopped (R433). DEDUCED (log entry 110). -/
def State.demandRead (s : State) (a n : Nat) (cls : BitVec 2) : State × Option (BitVec 16) × List Byte :=
  if s.stopped (s.memIsland a) then (s, some stWait, []) else s.busRead a n cls

/-- The write of a line with the poison pattern of R165: every code word of the line reads uncorrectable. -/
def State.busWritePoison (s : State) (a : Nat) (l : List Byte) : State :=
  let s := s.busWrite a l
  (granuleCws a 64).foldl (fun s cw => (s.mergeDrain cw).setEcc cw .poison) s

/-! ### Windows and the accesses of hub units -/

/-- The window of a Booth that covers an engine address (R68). -/
def Booth.find (b : Booth) (a : Nat) : Option Window :=
  (List.find? (fun e => e.2.valid && decide (e.2.base ≤ a) && decide (a < e.2.base + e.2.size)) b.windows).map Prod.snd

/-- The physical address of an access that a unit makes for a Booth (R257): Booth 0 names physical addresses, a tenant's
addresses translate through its windows. The answer is a status or the address. -/
def State.dmaAddr (s : State) (bid : BitVec 12) (wr : Bool) (a : W64) : Except (BitVec 16) Nat :=
  if bid = 0 then .ok a.toNat
  else if 2 ^ 48 ≤ a.toNat then .error 0x0702
  else match (s.booth bid).find a.toNat with
    | none => .error 0x0702
    | some w => if (if wr then w.w else w.r) then .ok (w.target + (a.toNat - w.base)) else .error 0x0701

/-- A read of n bytes for a Booth, translated as a read or as a write: each piece inside one 64 KiB granule translates by itself. -/
def State.dmaReadGo (wr : Bool) : Nat → State → BitVec 12 → W64 → Nat → BitVec 2 → State × Option (BitVec 16) × List Byte
  | 0, s, _, _, _, _ => (s, none, [])
  | _, s, _, _, 0, _ => (s, none, [])
  | k + 1, s, bid, a, n, cls =>
    let m := min n (65536 - a.toNat % 65536)
    match s.dmaAddr bid wr a with
    | .error e => (s, some e, [])
    | .ok p =>
      match s.memStatus p m with
      | some e => (s, some e, [])
      | none =>
        let r := s.busRead p m cls
        match r.2.1 with
        | some e => (r.1, some e, [])
        | none =>
          let q := State.dmaReadGo wr k r.1 bid (a + BitVec.ofNat 64 m) (n - m) cls
          (q.1, q.2.1, r.2.2 ++ q.2.2)
def State.dmaRead (s : State) (bid : BitVec 12) (a : W64) (n : Nat) (cls : BitVec 2) :
    State × Option (BitVec 16) × List Byte := State.dmaReadGo false (n / 65536 + 2) s bid a n cls
/-- A read that translates as a write: of what the requester writes as well (R348). -/
def State.dmaReadW (s : State) (bid : BitVec 12) (a : W64) (n : Nat) (cls : BitVec 2) :
    State × Option (BitVec 16) × List Byte := State.dmaReadGo true (n / 65536 + 2) s bid a n cls

/-- A write for a Booth, piece by piece; what was written before a failing piece stays. -/
def State.dmaWriteGo : Nat → State → BitVec 12 → W64 → List Byte → State × Option (BitVec 16)
  | 0, s, _, _, _ => (s, none)
  | _, s, _, _, [] => (s, none)
  | k + 1, s, bid, a, l =>
    let m := min l.length (65536 - a.toNat % 65536)
    match s.dmaAddr bid true a with
    | .error e => (s, some e)
    | .ok p =>
      match s.writeStatus .tenant p m with
      | some e => (s, some e)
      | none => State.dmaWriteGo k (s.busWrite p (l.take m)) bid (a + BitVec.ofNat 64 m) (l.drop m)
def State.dmaWrite (s : State) (bid : BitVec 12) (a : W64) (l : List Byte) : State × Option (BitVec 16) :=
  State.dmaWriteGo (l.length / 65536 + 2) s bid a l

end Sys2Proof.Machine
end

