-- ==== Sys2Proof/Machine/Cache.lean ====
section
/-! DEFINITION. Sys2Proof/Machine/Cache.lean: store buffers, L1 and L2 caches, side buffers and their maintenance (R146–R166).
A unit is an operator engine (16 × slice + engine) or a control core (128 + k); a domain is a slice (0–7) or the control
complex (8). L1 caches hold line sets only: an L1D line's data is its L2 line's (R150). -/

namespace Sys2Proof.Machine

/-- Number of a context: engine contexts first, then hardware threads, then sieve evaluators. -/
def ctxIdx : CtxId → Nat
  | .eng s e c => (16 * s.val + e.val) * 16 + c.val
  | .ht h => 2048 + h.val
  | .sieve ch => 2112 + ch.val

/-- The unit of a context. -/
def unitOf (x : Nat) : Nat := if x < 2048 then x / 16 else 128 + (x - 2048) / 4
/-- The coherence domain of a unit. -/
def domOf (u : Nat) : Nat := u / 16
/-- Whether a context is an engine context. -/
def isEng (x : Nat) : Bool := decide (x < 2048)

/-- The mode whose behaviour unit i of R426 shows: the target from its application, else the mode in force. -/
def State.unitMode (s : State) (i : Nat) : Nat :=
  if s.regBit Reg.devMode 6 && s.regBit Reg.devMode (32 + i) then fld (s.reg Reg.devMode) 3 3 else s.mode
/-- Whether unit i of R426 shows SEALED behaviour. -/
def State.sealed (s : State) (i : Nat) : Bool := s.unitMode i == modeSealed

/-- The service class of a context's memory requests (R390). -/
def State.ctxClass (s : State) (x : Nat) : BitVec 2 := if isEng x then (s.queue (s.ctx x).qid).prio else 1
/-- Who a context is to the MRAM controller (R434). -/
def State.ctxWho (s : State) (x : Nat) : Who := if isEng x || (s.ctx x).priv == .u then .tenant else .coreKM

/-! ### L2 arrays -/

def l2Sets (d : Nat) : Nat := if d = 8 then 4096 else 8192
def l2Key (d set way : Nat) : Nat := (d * 8192 + set) * 16 + way
def State.l2At (s : State) (k : Nat) : L2Line := Tab.get {} s.l2 k
def State.setL2 (s : State) (k : Nat) (l : L2Line) : State := { s with l2 := Tab.set {} s.l2 k l }
/-- An L2 that is on; that of a slice which SLICE_EN leaves out is not used (R431). -/
def State.l2En (s : State) (d : Nat) : Bool := s.regBit (Reg.l2Ctl d) 0 && (d == 8 || s.ctl.sliceEn.getLsbD d)
def State.l2Locked (s : State) (d way : Nat) : Bool := s.regBit (Reg.l2Lock d) way

/-- The way that holds a line in an array. -/
def State.l2Way (s : State) (d line : Nat) : Option Nat :=
  firstIdx 16 fun w => let l := s.l2At (l2Key d (line % l2Sets d) w); l.valid && decide (l.line = line)

/-- Whether a unit's L1D holds a line. -/
def Exec.hasL1d (e : Exec) (line : Nat) : Bool := e.l1d.any fun p => p.2 == line + 1
/-- A unit's L1D without a line. -/
def Exec.dropL1d (e : Exec) (line : Nat) : Exec := { e with l1d := e.l1d.filter fun p => p.2 != line + 1 }

/-- The units whose L1D can hold a line of a domain. -/
def unitsOf (d : Nat) : List Nat := (List.range 16).map fun i => d * 16 + i

/-- L1D copies of a line in a domain go, but for one unit's (R150); L2_PMC 4 counts them. DEDUCED (log entry 82). -/
def State.l1dDrop (s : State) (d line : Nat) (keep : Option Nat) : State :=
  (unitsOf d).foldl (fun s u =>
    let e := s.exe u
    if e.hasL1d line ∧ some u ≠ keep then (s.setExe u (e.dropL1d line)).bump (Reg.l2Pmc d 4) else s) s

/-- L1I copies of a line in a domain go (R154). -/
def State.l1iDrop (s : State) (d line : Nat) : State :=
  (unitsOf d).foldl (fun s u => let e := s.exe u; s.setExe u { e with l1i := e.l1i.filter (· ≠ line) }) s

/-- Side-buffer entries of a line in a slice go, and fills of it in flight will be discarded (R148). -/
def State.sideDrop (s : State) (d line : Nat) : State :=
  if d = 8 then s else
  (unitsOf d).foldl (fun s u =>
    let e := s.exe u
    s.setExe u { e with side := e.side.filter (fun x => decide (x.line ≠ line))
                        fills := e.fills.map fun f => if f.line = line then { f with dead := true } else f }) s

/-- Side-buffer entries of a line in a slice that a store invalidates, counted (R148, R168). -/
def State.sideStore (s : State) (d line : Nat) : State :=
  let n := ((unitsOf d).map fun u => ((s.exe u).side.filter fun x => decide (x.line = line)).length).sum
  let s := s.sideDrop d line
  if d = 8 ∨ n = 0 then s else s.addReg (Reg.l2Pmc d 6) n

/-- Records an uncorrectable dirty line (R165): UE_DIRTY, L2_ERRADDR, the L2's event source, and, unless a demand access found
it, on the control complex MACHINE_CHECK, pending at every hardware thread of the complex. DESIGN CHOICE (log entry 15).
DEDUCED (log entry 81). -/
def State.l2Ue (s : State) (d line : Nat) (demand : Bool) : State :=
  let s := s.setRegBit (Reg.l2Stat d) 6 true
  let s := s.setReg (Reg.l2Erraddr d) (BitVec.ofNat 64 (line * 64))
  let s := s.raise d
  if d ≠ 8 ∨ demand then s else
  (List.range 64).foldl (fun s h =>
    let c := s.ctx (2048 + h)
    if c.st = .free then s else s.setCtx (2048 + h) { c with async := some (BitVec.ofNat 64 (line * 64)) }) s

/-- The status of a write-back of a line (R20, R21, R434). -/
def State.wbStatus (s : State) (d line : Nat) : Option (BitVec 16) :=
  s.writeStatus (if d = 8 then .coreKM else .tenant) (line * 64) 64

/-- A dirty line whose SRAM error cannot be corrected is written to memory poisoned, and reported (R165). -/
def State.poisonLine (s : State) (d : Nat) (l : L2Line) (demand : Bool) : State :=
  ((if (s.wbStatus d l.line).isSome then s else s.busWritePoison (l.line * 64) (lineBytes l.data 0 64))).l2Ue d l.line demand

/-- The line in a slot, dirty, is written to memory, and whether it can stay: one with an uncorrectable error is written poisoned;
a write-back its target refuses is lost and reported (R165). -/
def State.writeBack (s : State) (d : Nat) (l : L2Line) : State × Bool :=
  let s := s.bump (Reg.l2Pmc d 3)
  match l.ecc with
  | .good | .ce _ =>
    let s := if l.ecc = .good then s else s.bump (Reg.l2Pmc d 7)
    if (s.wbStatus d l.line).isSome then (s.l2Ue d l.line false, false)
    else (s.busWrite (l.line * 64) (lineBytes l.data 0 64), true)
  | _ => (s.poisonLine d l false, false)

/-- The line in a slot is evicted: written back if dirty, its L1D copies invalidated (R150). DEDUCED (log entry 18). -/
def State.l2Evict (s : State) (d k : Nat) : State :=
  let l := s.l2At k
  if !l.valid then s
  else
    let s := if l.dirty then (s.writeBack d l).1 else s
    (s.l1dDrop d l.line none).setL2 k {}

/-- The error check of a demand access to a line of an L2 (R165): a corrected error is counted, a clean line with another is
invalidated, a dirty one is written poisoned and invalidated, and the access, for which the answer is true, takes DATA_ERROR.
DEDUCED (log entry 81). -/
def State.l2Check (s : State) (d line : Nat) : State × Bool :=
  match s.l2Way d line with
  | none => (s, false)
  | some w =>
    let k := l2Key d (line % l2Sets d) w
    let l := s.l2At k
    match l.ecc with
    | .good => (s, false)
    | .ce _ => ((s.setL2 k { l with ecc := .good }).bump (Reg.l2Pmc d 7), false)
    | _ => (((if l.dirty then s.poisonLine d l true else s).l1dDrop d line none).setL2 k {}, l.dirty)

/-- The ways a fill for a Booth may use (R160, R161, R166): unlocked ways, and in SEALED mode those of its share. -/
def State.fillWays (s : State) (d : Nat) (bid : BitVec 12) : List Nat :=
  (List.range 16).filter fun w => !s.l2Locked d w &&
    (d == 8 || !s.sealed d || (Tab.get 0 (s.booth bid).ways d).getLsbD w)

/-- The slot a fill takes: an empty one, else a victim the spec leaves to the replacement state (a free choice).
DESIGN CHOICE (log entry 89). -/
def State.l2Victim (s : State) (d line : Nat) (ways : List Nat) : Option Nat × State :=
  let set := line % l2Sets d
  match ways.find? fun w => !(s.l2At (l2Key d set w)).valid with
  | some w => (some (l2Key d set w), s)
  | none =>
    if ways.isEmpty then (none, s)
    else let r := s.fresh; ((ways[r.1 % ways.length]?).map (l2Key d set), r.2)

/-- A line is placed in an L2 (R152, R166); nothing is placed where the Booth has no way there or the L2 is off. -/
def State.l2Alloc (s : State) (d line : Nat) (bid : BitVec 12) (data : Line) (dirty : Bool) : State :=
  if !s.l2En d then s else
  let r := s.l2Victim d line (s.fillWays d bid)
  match r.1 with
  | none => r.2
  | some k => (r.2.l2Evict d k).setL2 k { valid := true, line := line, dirty := dirty, data := data }

/-! ### L1 caches -/

def l1Ways : Nat := 4
def l1Sets (u : Nat) (i : Bool) : Nat := if i || decide (u < 128) then 128 else 64

/-- A line enters an L1I's line set, its set holding at most its ways; the victim is a free choice (R149). -/
def l1Put (held : List Nat) (line sets ways pick : Nat) : List Nat :=
  if line ∈ held then held else
  let same := held.filter fun l => l % sets = line % sets
  let held := if ways ≤ same.length then
      (match same[pick % same.length]? with | some v => held.filter (· ≠ v) | none => held)
    else held
  held ++ [line]

/-- A line enters an L1D (R149): the first empty way of its set, else one that a free choice names. -/
def Exec.putL1d (e : Exec) (line sets pick : Nat) : Exec :=
  if e.hasL1d line then e else
  let slot (w : Nat) : Nat := line % sets * 8 + w
  let w := (firstIdx 8 fun w => decide (Tab.get 0 e.l1d (slot w) = 0)).getD (pick % 8)
  { e with l1d := Tab.set 0 e.l1d (slot w) (line + 1) }

/-- DEDUCED (log entry 75). -/
def State.denOn (s : State) (u : Nat) : Bool := decide (128 ≤ u) || s.regBit (Reg.oeL1Ctl u) 1
/-- Whether a unit's side buffer fills and hits (R148, R163). -/
def State.sbOn (s : State) (u : Nat) : Bool := decide (u < 128) && s.regBit (Reg.oeL1Ctl u) 2 && s.l2En (domOf u)
def State.ienOn (s : State) (u : Nat) : Bool := decide (128 ≤ u) || s.regBit (Reg.oeL1Ctl u) 0

/-- Whether a Booth has no way of a slice's L2 where SEALED holds: it allocates neither there nor in the slice's L1Ds (R166). -/
def State.noShare (s : State) (d : Nat) (bid : BitVec 12) : Bool := d != 8 && s.sealed d && (Tab.get 0 (s.booth bid).ways d == 0)

/-- A line the L2 holds enters a unit's L1D for a Booth. DEDUCED (log entry 18). -/
def State.l1dAlloc (s : State) (u line : Nat) (bid : BitVec 12) : State :=
  if !s.denOn u || !s.l2En (domOf u) || (s.l2Way (domOf u) line).isNone || s.noShare (domOf u) bid then s else
  let r := s.fresh
  r.2.setExe u ((r.2.exe u).putL1d line (l1Sets u false) r.1)

/-- Engine counter n (R168); control cores have none. DEDUCED (log entry 77). -/
def State.pmc (s : State) (u n : Nat) : State := if u < 128 then s.bump (Reg.oePmc u n) else s
/-- A lookup of an L2, counted (R168). -/
def State.l2Lookup (s : State) (d : Nat) (hit : Bool) : State := (s.bump (Reg.l2Pmc d 0)).bump (Reg.l2Pmc d (if hit then 1 else 2))

/-! ### Stores -/

/-- Contexts of a domain that hold state. -/
def State.domCtxs (s : State) (d : Nat) : List Nat :=
  (s.ctxs.map Prod.fst).filter fun x => if x < 2048 then x / 256 = d else decide (d = 8 ∧ x < 2112)

/-- Whether a fill of a line into a domain's caches is in flight (R156). -/
def State.inFlight (s : State) (d line : Nat) : Bool := (s.domCtxs d).any fun x => decide (line ∈ (s.ctx x).miss)

/-- Reservations of other contexts of the domain on a granule are cleared, in a run-ahead checkpoint too (R50, R144). -/
def State.clearResv (s : State) (d g : Nat) (by_ : Option Nat) : State :=
  (s.domCtxs d).foldl (fun s x =>
    let c := s.ctx x
    if some x = by_ then s else
    let drop (r : Regs) : Regs := if r.resv = some g then { r with resv := none } else r
    s.setCtx x { c with r := drop c.r, epi := c.epi.map fun e => { e with chk := drop e.chk } }) s

/-- A write of a context reaches a memory controller, whose acknowledgement is outstanding (R151, R387). -/
def State.ctxBusWrite (s : State) (x a : Nat) (l : List Byte) : State :=
  let s := s.busWrite a l
  let c := s.ctx x
  s.setCtx x { c with acks := c.acks + 1 }

/-- A line's entry in the L2 is cleaned for a context, whose write-back it then waits for (R151, R154); one that is lost is
invalidated (R165). Only L2_MOP, with no context, reaches the array of an L2 that is off (R163). -/
def State.cleanLine (s : State) (d line : Nat) (x : Option Nat) : State :=
  match if x.isNone || s.l2En d then s.l2Way d line else none with
  | none => s
  | some w =>
    let k := l2Key d (line % l2Sets d) w
    let l := s.l2At k
    if !l.dirty then s else
    let r := s.writeBack d l
    if !r.2 then (r.1.l1dDrop d line none).setL2 k {} else
    let s := r.1.setL2 k { l with dirty := false, ecc := .good }
    match x with
    | none => s
    | some x => let c := s.ctx x; s.setCtx x { c with acks := c.acks + 1 }

/-- The store-line log of R151: up to 32 lines; a 33rd makes the oldest be cleaned and dropped. -/
def State.logLine (s : State) (x d line : Nat) : State :=
  let c := s.ctx x
  if line ∈ c.log then s
  else if c.log.length < 32 then s.setCtx x { c with log := c.log ++ [line] }
  else
    let s := match c.log.head? with | some o => s.cleanLine d o (some x) | none => s
    let c := s.ctx x
    s.setCtx x { c with log := c.log.drop 1 ++ [line] }

/-- A store that hits a way of its L2: other L1D copies go, and its attribute decides what memory receives (R150–R152). -/
def State.storeHit (s : State) (u : Nat) (e : SbEntry) (w : Nat) : State :=
  let d := domOf u
  let line := e.addr / 64
  let s := s.l1dDrop d line (some u)
  let k := l2Key d (line % l2Sets d) w
  let l := s.l2At k
  let l' := { l with data := linePut l.data (e.addr % 64) e.data }
  if e.attr = .wt then (s.setL2 k l').ctxBusWrite e.ctx e.addr e.data
  else (s.setL2 k { l' with dirty := true }).logLine e.ctx d line

/-- A context's own side-buffer entries of a line go, counted, and its fills of it in flight will be discarded (R147, R148, R168). -/
def State.sideOwn (s : State) (u x line : Nat) : State :=
  let e := s.exe u
  let mine (l y : Nat) : Bool := decide (l = line) && decide (y = x)
  let n := (e.side.filter fun z => mine z.line z.ctx).length
  let s := s.setExe u { e with side := e.side.filter fun z => !mine z.line z.ctx
                               fills := e.fills.map fun f => if mine f.line f.ctx then { f with dead := true } else f }
  if n = 0 then s else s.addReg (Reg.l2Pmc (domOf u) 6) n

/-- A store reaches its L2 (R150–R153), or on a UC or STR region memory: what its context has side-buffered of an STR line since it
issued goes (R147). DEDUCED (log entry 73). -/
def State.performStore (s : State) (u : Nat) (e : SbEntry) : State :=
  let d := domOf u
  let line := e.addr / 64
  let s := s.clearResv d line (some e.ctx)
  let out := s.ctxBusWrite e.ctx e.addr e.data
  if e.attr = .uc then out
  else if e.attr = .str then out.sideOwn u e.ctx line
  else if !s.l2En d then out
  else
    let s := ((s.sideStore d line).l2Check d line).1
    let hit := s.l2Way d line
    let s := s.l2Lookup d hit.isSome
    match hit with
    | some w => s.storeHit u e w
    | none =>
      if e.attr = .wb ∧ !(s.fillWays d e.bid).isEmpty then
        let r := s.busRead (line * 64) 64 (s.ctxClass e.ctx)
        if r.2.1.isSome then r.1.ctxBusWrite e.ctx e.addr e.data
        else (r.1.l2Alloc d line e.bid (linePut (lineOf r.2.2) (e.addr % 64) e.data) true).logLine e.ctx d line
      else s.ctxBusWrite e.ctx e.addr e.data

/-- The contexts of a unit. -/
def ctxsOf (u : Nat) : List Nat := if u < 128 then (List.range 16).map (16 * u + ·) else (List.range 4).map (2048 + 4 * (u - 128) + ·)

/-- Contexts that wait for something, which has come, may issue again. -/
def State.wakeAll (s : State) (xs : List Nat) (w : Wait) : State :=
  xs.foldl (fun s x => let c := s.ctx x; if c.wait = w then s.setCtx x { c with st := .ready, wait := .none } else s) s

/-- The oldest entry of a unit's store buffer drains into the L2 (R151), and stores that wait for room may issue again. -/
def State.sbDrain1 (s : State) (u : Nat) : State :=
  let e := s.exe u
  match e.sb with
  | [] => s
  | x :: t => ((s.setExe u { e with sb := t }).performStore u x).wakeAll (ctxsOf u) .room

/-- A unit's store buffer drains wholly. DESIGN CHOICE (log entry 17). -/
def State.sbDrain (s : State) (u : Nat) : State := (List.range (s.exe u).sb.length).foldl (fun s _ => s.sbDrain1 u) s

/-- Whether a unit's store buffer is full (R151). -/
def State.sbFull (s : State) (u : Nat) : Bool := decide (16 ≤ (s.exe u).sb.length)

/-- A store enters the store buffer (R151); a full buffer, which only a later store of one instruction can meet, drains its oldest
entry first. The context's own side-buffer entries of the line go (R147). DESIGN CHOICE (log entry 17). -/
def State.sbPush (s : State) (u : Nat) (e : SbEntry) : State :=
  let s := if s.sbFull u then s.sbDrain1 u else s
  let s := s.sideOwn u e.ctx (e.addr / 64)
  s.setExe u { s.exe u with sb := (s.exe u).sb ++ [e] }

/-! ### Loads -/

/-- What a load of one line finds. -/
inductive LoadRes where
  | hit (l : List Byte)
  | miss
  | err (st : BitVec 16)
deriving DecidableEq, Repr

/-- Whether a store-buffer entry overlaps bytes, or holds all of them. -/
def SbEntry.overlaps (e : SbEntry) (a n : Nat) : Bool := decide (e.addr < a + n) && decide (a < e.addr + e.data.length)
def SbEntry.covers (e : SbEntry) (a n : Nat) : Bool := decide (e.addr ≤ a) && decide (a + n ≤ e.addr + e.data.length)

/-- The line as the domain sees it: the L2's where it holds the line, else memory's. -/
def State.domByte (s : State) (d a : Nat) : Byte :=
  match if s.l2En d then s.l2Way d (a / 64) else none with
  | some w => lineByte (s.l2At (l2Key d (a / 64 % l2Sets d) w)).data (a % 64)
  | none => s.peek a

/-- A line is read from memory and placed in the L2 and the unit's L1D, as a demand read does (R152). -/
def State.demandFill (s : State) (u x line : Nat) : State × Option (BitVec 16) × Line :=
  let d := domOf u
  let q := s.l2Check d line
  if q.2 then (q.1, some 0x0601, 0) else
  let s := q.1
  match s.l2Way d line with
  | some w => (s.l1dAlloc u line (s.ctx x).bid, none, (s.l2At (l2Key d (line % l2Sets d) w)).data)
  | none =>
    let r := s.demandRead (line * 64) 64 (s.ctxClass x)
    match r.2.1 with
    | some e => (r.1, some e, 0)
    | none => ((r.1.l2Alloc d line (s.ctx x).bid (lineOf r.2.2) false).l1dAlloc u line (s.ctx x).bid, none, lineOf r.2.2)

/-- A context's own side-buffer entry of a line (R146). -/
def State.sideHit (s : State) (u x line : Nat) : Option SideEntry :=
  (s.exe u).side.find? fun e => decide (e.line = line) && decide (e.ctx = x)

/-- A side-buffer entry is added; the earliest filled goes when 32 are held, and a line the context holds is dropped (R146). -/
def State.sideAdd (s : State) (u : Nat) (e : SideEntry) : State :=
  if !s.sbOn u || (s.sideHit u e.ctx e.line).isSome then s else
  let x := s.exe u
  let s := if 32 ≤ x.side.length ∧ (x.side.head?.any fun y => !y.used) then s.pmc u 11 else s
  s.setExe u { x with side := (if 32 ≤ x.side.length then x.side.drop 1 else x.side) ++ [e] }

/-- A context's entry of a line has been used (R168). -/
def State.sideUse (s : State) (u x line : Nat) : State :=
  let e := s.exe u
  s.setExe u { e with side := e.side.map fun y => if y.line = line ∧ y.ctx = x then { y with used := true } else y }

/-- A load of n bytes inside one line (R135, R146–R153). With `fill`, a miss is served at once. -/
def State.loadLine (s : State) (u x a n : Nat) (attr : Attr) (fill : Bool) : State × LoadRes :=
  let d := domOf u
  let line := a / 64
  let near := ((s.exe u).sb.filter fun e => e.overlaps a n).getLast?
  match near with
  | some e =>
    if e.covers a n && attr != .uc then (s, .hit ((e.data.drop (a - e.addr)).take n))
    else
      let s := s.sbDrain u
      go s d line
  | none => go (if attr = .uc then s.sbDrain u else s) d line
where
  direct (s : State) : State × LoadRes :=
    let r := s.demandRead a n (s.ctxClass x)
    match r.2.1 with | some e => (r.1, .err e) | none => (r.1, .hit r.2.2)
  go (s : State) (d line : Nat) : State × LoadRes :=
    if attr = .uc then direct s
    else match s.sideHit u x line with
      | some e =>
        let s := s.pmc u 10
        if e.str then (s.sideUse u x line, .hit (lineBytes e.data (a % 64) n))
        else
          let s := if (s.l2Way d line).isSome then s else s.l2Alloc d line (s.ctx x).bid e.data false
          let s := s.l1dAlloc u line (s.ctx x).bid
          let y := s.exe u
          (s.setExe u { y with side := y.side.filter fun z => !(decide (z.line = line) && decide (z.ctx = x)) },
            .hit (lineBytes e.data (a % 64) n))
      | none =>
        if attr = .str then
          if !s.sbOn u then direct s else
          let r := s.demandRead (line * 64) 64 (s.ctxClass x)
          match r.2.1 with
          | some e => (r.1, .err e)
          | none => (r.1.sideAdd u { line := line, ctx := x, data := lineOf r.2.2, str := true },
              .hit (lineBytes (lineOf r.2.2) (a % 64) n))
        else if !s.l2En d then direct s
        else if s.denOn u ∧ (s.exe u).hasL1d line then (s.pmc u 8, .hit ((List.range n).map fun i => s.domByte d (a + i)))
        else
          let q := s.l2Check d line
          if q.2 then (q.1, .err 0x0601) else
          let s := q.1
          let w := s.l2Way d line
          let s := if s.denOn u then s.pmc u 9 else s
          let s := s.l2Lookup d w.isSome
          match w with
          | some _ => (s.l1dAlloc u line (s.ctx x).bid, .hit ((List.range n).map fun i => s.domByte d (a + i)))
          | none =>
            if !fill then (s, .miss)
            else
              let r := s.demandFill u x line
              match r.2.1 with
              | some e => (r.1, .err e)
              | none => (r.1, .hit (lineBytes r.2.2 (a % 64) n))

/-- Whether a load hits in L1D, the store buffer or the context's own side-buffer entries: what a run-ahead load may use, and
what a demand load must miss to start an episode (R140, R141, R153). It changes nothing. A load that overlaps a buffered store in part misses.
DESIGN CHOICE (log entry 99). -/
def State.nearHit (s : State) (u x a n : Nat) (at_ : Attr) : Option (List Byte) :=
  match ((s.exe u).sb.filter fun e => e.overlaps a n).getLast? with
  | some e => if e.covers a n then some ((e.data.drop (a - e.addr)).take n) else none
  | none =>
    match s.sideHit u x (a / 64) with
    | some e => some (lineBytes e.data (a % 64) n)
    | none =>
      if at_ != .str && s.denOn u && s.l2En (domOf u) && (s.exe u).hasL1d (a / 64) then
        some ((List.range n).map fun i => s.domByte (domOf u) (a + i))
      else none

/-! ### Maintenance (R154–R162) -/

/-- INV of a line in a domain (R154, R161); an L2 that is off keeps it, unless `arr` says that the operation acts on the array
all the same (R163). -/
def State.invLine (s : State) (d line : Nat) (arr : Bool) : State :=
  let s := ((s.l1iDrop d line).l1dDrop d line none).sideDrop d line
  match if arr || s.l2En d then s.l2Way d line else none with
  | none => s
  | some w => s.setL2 (l2Key d (line % l2Sets d) w) {}

/-- The three operations on a line. -/
inductive Mop where
  | cln | inv | cli
deriving DecidableEq, Repr

/-- A maintenance operation on one line of a domain (R154): for a context, or with none for L2_MOP, which acts on the array of an L2
that is off too (R163). -/
def State.mopLine (s : State) (m : Mop) (d line : Nat) (x : Option Nat) : State :=
  match m with
  | .cln => s.cleanLine d line x
  | .inv => s.invLine d line x.isNone
  | .cli => (s.cleanLine d line x).invLine d line x.isNone

/-- A maintenance operation on one set and way (R157, R158). -/
def State.mopSlot (s : State) (m : Mop) (d set way : Nat) (x : Option Nat) : State :=
  let l := s.l2At (l2Key d (set % l2Sets d) way)
  if l.valid then s.mopLine m d l.line x else s

/-- The lines that hold a byte of a range, ascending (R155). -/
def rangeLines (a n : Nat) : List Nat := if n = 0 then [] else (List.range ((a + n - 1) / 64 - a / 64 + 1)).map (a / 64 + ·)

/-- The lines an operation over the whole cache visits. -/
def State.validLines (s : State) (d : Nat) : List Nat :=
  (s.l2.filter fun e => decide (e.1 / 16 / 8192 = d)).map fun e => e.2.line

/-- The lines of which a fill into a domain's caches is in flight. -/
def State.missLines (s : State) (d : Nat) : List Nat := ((s.domCtxs d).flatMap fun x => (s.ctx x).miss).eraseDups

/-- A maintenance operation over the whole cache (R157): every valid line, and for INV and CLI every L1 and side buffer. -/
def State.mopAll (s : State) (m : Mop) (d : Nat) (late : List Nat) : State :=
  let s := ((s.validLines d).filter (· ∉ late)).foldl (fun s l => s.mopLine m d l none) s
  if m = .cln then s
  else (unitsOf d).foldl (fun s u =>
    let e := s.exe u
    s.setExe u { e with l1i := [], l1d := [], side := [], fills := e.fills.map fun f => { f with dead := true } }) s

/-- The lock-fill of one line into a way (R162); a line that cannot be read is not filled. -/
def State.lockFillLine (s : State) (d way line : Nat) : State × Option (BitVec 16) :=
  let k := l2Key d (line % l2Sets d) way
  match s.l2Way d line with
  | some w =>
    if w = way then (s, none)
    else
      let k0 := l2Key d (line % l2Sets d) w
      let l := s.l2At k0
      (((s.l2Evict d k).setL2 k0 {}).setL2 k l, none)
  | none =>
    let r := (s.l2Evict d k).busRead (line * 64) 64 1
    if r.2.1.isSome then (r.1, r.2.1)
    else ((r.1.setL2 k { valid := true, line := line, dirty := false, data := lineOf r.2.2 }).bump (Reg.l2Pmc d 5), none)

/-- The lock-fill of lines in ascending order; a way that is not locked takes nothing (R162). DEDUCED (log entry 79). -/
def State.lockFill (s : State) (d way : Nat) (lines : List Nat) : State :=
  if !s.l2Locked d way then s.setRegBit (Reg.l2Stat d) 3 true
  else lines.foldl (fun s l => (s.lockFillLine d way l).1) s

/-- A unit's L1I, L1D and side buffer are invalidated (R139, R148, R164). -/
def State.l1InvAll (s : State) (u : Nat) : State :=
  let e := s.exe u
  s.setExe u { e with l1i := [], l1d := [], side := [], fills := e.fills.map fun f => { f with dead := true } }

end Sys2Proof.Machine
end

