-- ==== Sys2Proof/Machine/Ops.lean ====
section
/-! DEFINITION. Sys2Proof/Machine/Ops.lean: the operations that instruction commands share: registers of a context, address
translation (R68–R72), trap entry (R61–R67), faulted jobs and drains (R183), and the issue of one instruction (R34, R53,
R54, R134, R140–R145). -/

namespace Sys2Proof.Machine

/-! ### Registers of a context -/

/-- Whether a context is of class C (OE_CFG.CLASS). -/
def State.classC (s : State) (x : Nat) : Bool := isEng x && s.regBit (Reg.oeCfg (unitOf x)) 1
/-- Whether a context is of class T, where f_n is the low half of v_n (R36). -/
def State.classT (s : State) (x : Nat) : Bool := isEng x && !s.regBit (Reg.oeCfg (unitOf x)) 1

/-- g0 reads as zero (R35). -/
def State.g (s : State) (x n : Nat) : W64 := if n = 0 then 0 else Tab.get 0 (s.ctx x).r.g n
def State.setR (s : State) (x : Nat) (r : Regs) : State := s.setCtx x { s.ctx x with r := r }
/-- A write to g0 is discarded (R35). -/
def State.setG (s : State) (x n : Nat) (v : W64) : State :=
  if n = 0 then s else s.setR x { (s.ctx x).r with g := Tab.set 0 (s.ctx x).r.g n v }
def State.v (s : State) (x n : Nat) : W128 := Tab.get 0 (s.ctx x).r.v n
def State.setV (s : State) (x n : Nat) (v : W128) : State := s.setR x { (s.ctx x).r with v := Tab.set 0 (s.ctx x).r.v n v }
/-- f_n, in class T bits [63:0] of v_n (R36). -/
def State.f (s : State) (x n : Nat) : W64 := if s.classT x then (s.v x n).setWidth 64 else Tab.get 0 (s.ctx x).r.f n
/-- A scalar write to f_n leaves bits [127:64] of v_n unchanged in class T (R36). -/
def State.setF (s : State) (x n : Nat) (w : W64) : State :=
  if s.classT x then s.setV x n (((s.v x n).extractLsb' 64 64) ++ w)
  else s.setR x { (s.ctx x).r with f := Tab.set 0 (s.ctx x).r.f n w }
/-- p0 reads as all-ones (R35). -/
def State.p (s : State) (x n : Nat) : W128 := if n = 0 then BitVec.allOnes 128 else Tab.get 0 (s.ctx x).r.p n
/-- A write to p0 is discarded (R35). -/
def State.setP (s : State) (x n : Nat) (v : W128) : State :=
  if n = 0 then s else s.setR x { (s.ctx x).r with p := Tab.set 0 (s.ctx x).r.p n v }

/-- Reset value of a context CSR: FCSR.RM is 0b001, every other field 0 (R60, R81). DEDUCED (log entry 77). -/
def ctxCsrDefault (n : Nat) : W64 := if n = 0 then 1 else 0
/-- A context CSR that holds a stored value (R60). -/
def State.xcsr (s : State) (x n : Nat) : W64 := Tab.get (ctxCsrDefault n) (s.ctx x).r.csr n
def State.setXcsr (s : State) (x n : Nat) (v : W64) : State :=
  s.setR x { (s.ctx x).r with csr := Tab.set (ctxCsrDefault n) (s.ctx x).r.csr n v }

/-- Numbers of the context CSRs (R60); the trap CSRs as the offset 0 tvec, 1 epc, 2 enpc, 3 cause, 4 val, 5 stat. -/
def csrFcsr : Nat := 0x000
def csrDcsr : Nat := 0x001
def csrVstart : Nat := 0x002
def csrVgrp : Nat := 0x003
def csrUtvec : Nat := 0x010
def csrUepc : Nat := 0x011
def csrUenpc : Nat := 0x012
def csrUcause : Nat := 0x013
def csrUval : Nat := 0x014
def csrUstat : Nat := 0x015
def csrKstat : Nat := 0x400
def csrKtvec : Nat := 0x401
def csrKepc : Nat := 0x402
def csrKenpc : Nat := 0x403
def csrKcause : Nat := 0x404
def csrKval : Nat := 0x405
def csrPtbr : Nat := 0x410
def csrMstat : Nat := 0xC00
def csrMtvec : Nat := 0xC01
def csrMepc : Nat := 0xC02
def csrMenpc : Nat := 0xC03
def csrMcause : Nat := 0xC04
def csrMval : Nat := 0xC05
def csrKroute : Nat := 0xC07

/-- The island count of a context's clock in whole cycles: sclk on an engine, cclk on a control core (R60 CYCLE). -/
def State.islandCycles (s : State) (x : Nat) : Nat := (if isEng x then s.mer.sclk else s.mer.cclk) / 10

/-- Records an instruction's time (R81): its SEALED time where the unit has applied SEALED (R108, R133). -/
def State.setTime (s : State) (x service sealed : Nat) : State :=
  let t := if s.sealed (domOf (unitOf x)) then sealed else service
  s.setCtx x { s.ctx x with lastTime := t }

/-- A context waits for something, the PC unmoved. -/
def State.waitFor (s : State) (x : Nat) (st : CState) (w : Wait) : State := s.setCtx x { s.ctx x with st := st, wait := w }

/-! ### Traps -/

/-- A trap to be taken: cause code, value, the status of a DATA_ERROR, whether the access was a write, whether a clear
REF or MOD bit caused it (R61, R63). -/
structure Trap where
  code : Nat
  val : W64 := 0
  status : BitVec 16 := 0
  wr : Bool := false
  ad : Bool := false
deriving DecidableEq, Repr

def trapIllegal (w : BitVec 32) : Trap := { code := 0x01, val := w.setWidth 64 }
def trapPriv (w : BitVec 32) : Trap := { code := 0x03, val := w.setWidth 64 }
/-- DESIGN CHOICE (log entry 12). -/
def trapSlot (w : BitVec 32) : Trap := { code := 0x02, val := w.setWidth 64 }
def trapAlign (a : W64) : Trap := { code := 0x05, val := a }
def trapData (a : W64) (st : BitVec 16) (wr : Bool) : Trap := { code := 0x08, val := a, status := st, wr := wr }

/-- The job status of a trap that no handler takes (R61). -/
def trapStatus (t : Trap) : BitVec 16 :=
  if t.code = 0x04 ∨ t.code = 0x06 then 0x0702
  else if t.code = 0x07 ∨ t.code = 0x14 then 0x0701
  else if t.code = 0x08 then t.status
  else 0x0440

/-- xCAUSE of a trap (R60). -/
def causeWord (t : Trap) (async : Bool) : W64 :=
  BitVec.ofNat 64 (t.code + (if async then 0x80 else 0) + t.status.toNat * 65536)

/-- The fence of R151: the store buffer drains, every logged line is cleaned, and the log is emptied. DEDUCED (log entry 76). -/
def State.ctxFence (s : State) (x : Nat) : State :=
  let u := unitOf x
  let s := s.sbDrain u
  let s := (s.ctx x).log.foldl (fun s l => s.cleanLine (domOf u) l (some x)) s
  s.setCtx x { s.ctx x with log := [] }

/-- A context leaves run-ahead: its checkpoint is restored (R143). -/
def State.squash (s : State) (x : Nat) : State :=
  let c := s.ctx x
  match c.epi with
  | none => s
  | some e => s.setCtx x { c with r := e.chk, epi := none }

/-- Searches of a context at the Spyglass port or on their way back are abandoned (R183). -/
def State.dropWait (s : State) (x : Nat) : State :=
  let mine (w : SpyWho) : Bool := match w with | .eng y _ => y == x | _ => false
  let s := { s with spy := { s.spy with port := s.spy.port.filter fun r => !mine r.who
                                        replies := s.spy.replies.filter fun r => r.x != x } }
  s.setCtx x { s.ctx x with wait := .none }

/-- A local mover becomes free: contexts of its engine that wait to kick it may issue again (R351). -/
def State.mvIdle (s : State) (n : Nat) : State :=
  let s := s.setMover n { s.mover n with st := 0 }
  if 128 ≤ n then s else
  (List.range 16).foldl (fun s k =>
    let c := s.ctx (16 * n + k)
    if c.wait = .mvgo then s.setCtx (16 * n + k) { c with st := .ready, wait := .none } else s) s

/-- The end or the drain of the kicking job clears the halt of its mover (R353). -/
def State.mvJobEnd (s : State) (x : Nat) : State :=
  let m := s.mover (x / 16)
  if isEng x && m.st == 4 && !m.kernel && decide (m.ctx = x % 16) then s.mvIdle (x / 16) else s

/-- A stage stops in a drain (R183 steps 1–5): instructions not retired and the episode go, waits are abandoned, the fence
of R151 is performed, and the context enters DRAIN once its writes are acknowledged. -/
def State.stopStage (s : State) (x : Nat) : State :=
  let c := s.ctx x
  if c.st = .drain ∨ c.st = .faulted ∨ c.st = .free then s else
  let s := (((s.squash x).dropWait x).mvJobEnd x).ctxFence x
  let c := s.ctx x
  if c.acks = 0 then s.setCtx x { c with st := .drain }
  else s.setCtx x { c with st := .waitMem, wait := .drain }

/-- Flits of a link not yet received, an end-of-stream marker included (R176). -/
def SLink.held (l : SLink) : Nat := l.fly.length + l.buf.length

/-- Every flit of a job in flight or buffered is discarded and counted in OE_LINK_DROP of its sender (R181, R183). -/
def State.dropFlits (s : State) (j : Nat) : State :=
  let b := s.job j
  let s := b.links.foldl (fun s l =>
    match b.stages[l.src]? with
    | some st => s.addReg (Reg.oeLinkDrop (unitOf st.ctx)) l.held
    | none => s) s
  s.setJob j { s.job j with links := b.links.map fun l => { l with fly := [], buf := [], back := l.back } }

/-- The drain of a job (R183): the other stages stop and its flits are discarded. -/
def State.drainJob (s : State) (j : Nat) : State :=
  (((s.job j).stages.map Stage.ctx).foldl State.stopStage s).dropFlits j

/-- A stage's fault counts for its job if none came before it, or, in the same cycle, none of a lower stage (R184). Whether two faults
fall in one cycle is free. -/
def State.jobFault (s : State) (j stage : Nat) (st : BitVec 16) : State :=
  let r := s.fresh
  let b := s.job j
  let mine : Bool := match b.fault with
    | none => true
    | some (n, _) => decide (stage < n) && r.1.testBit 0
  if mine then r.2.setJob j { b with fault := some (stage, st) } else r.2

/-- A context becomes faulted (R67): the trap record is written, and its job is to drain (R183). Until step 1 of the drain stops them,
its other stages run on and may fault too (R184). -/
def State.faultCtx (s : State) (x : Nat) (t : Trap) (epc enpc : W64) : State :=
  let c := s.ctx x
  let u := unitOf x
  let k := x % 16
  let inh := bitAt (s.xcsr x csrUstat) 5
  let st : BitVec 16 := if inh then 0x0441 else trapStatus t
  let s := s.setReg (Reg.oeTrapEpc u k) epc
  let s := s.setReg (Reg.oeTrapEnpc u k) enpc
  let s := s.setReg (Reg.oeTrapVal u k) t.val
  let s := s.setReg (Reg.oeTrapCause u k) (causeWord t false)
  let s := s.setReg (Reg.oeTrapInfo u k) (BitVec.ofNat 64 (c.r.slot.toNat + inh.toNat * 2 + t.wr.toNat * 4 + inh.toNat * 8 +
    fld (s.xcsr x csrVstart) 0 16 * 65536))
  let s := s.setRegBit (Reg.oeCtxState u k) 3 true
  let s := (s.mvJobEnd x).ctxFence x
  let s := s.setCtx x { s.ctx x with st := .faulted, wait := .none, epi := none, r := { (s.ctx x).r with resv := none } }
  let b := s.job c.job
  if !b.live then s else
  let s := s.setJob c.job { b with
    stages := b.stages.map fun g => if g.ctx = x then { g with faulted := true, epc := epc } else g }
  s.jobFault c.job c.stage st

/-- xTVEC.BASE × 64: the handler's address. -/
def tvecBase (v : W64) : W64 := v &&& ~~~(63 : W64)
/-- A return address: bits [1:0] read as zero (R60). -/
def epcWord (v : W64) : W64 := v &&& ~~~(3 : W64)

/-- PPL codes (R60). -/
def privCode : Priv → Nat
  | .u => 0
  | .k => 1
  | .m => 3
/-- DEDUCED (log entry 77). -/
def privOf (n : Nat) : Priv := if n = 0 then .u else if n = 1 then .k else .m

/-- Trap entry at K or M (R63): b is the first CSR number of the level. A trap taken at an annulled slot saves P + 8, which is in no
delay slot. -/
def State.enterLevel (s : State) (x b : Nat) (lvl : Priv) (t : Trap) (async : Bool) (epc enpc : W64) : State :=
  let c := s.ctx x
  let st := s.xcsr x b
  let st' := BitVec.ofNat 64 ((bitAt st 0).toNat * 2 + privCode c.priv * 4 + (c.r.slot && !c.r.annul).toNat * 16 + t.wr.toNat * 64 +
    t.ad.toNat * 128 + (bitAt st 8).toNat * 256)
  let s := s.setXcsr x (b + 2) (epcWord epc)
  let s := s.setXcsr x (b + 3) (epcWord enpc)
  let s := s.setXcsr x (b + 4) (causeWord t async)
  let s := s.setXcsr x (b + 5) t.val
  let s := s.setXcsr x b st'
  let pc := tvecBase (s.xcsr x (b + 1))
  s.setCtx x { s.ctx x with
    st := .ready, wait := .none, priv := lvl, ibuf := none
    r := { (s.ctx x).r with resv := none, pc := pc, npc := pc + 4, slot := false, annul := false } }

/-- Trap entry (R63, R66, R67): to the engine context's own handler, or to K or M on a control core; an engine context
without a handler becomes faulted. -/
def State.takeTrapAt (s : State) (x : Nat) (t : Trap) (async : Bool) (epc enpc : W64) : State :=
  let c := s.ctx x
  if isEng x then
    let st := s.xcsr x csrUstat
    if bitAt (s.xcsr x csrUtvec) 0 && !bitAt st 5 then
      let st' := BitVec.ofNat 64 (fld st 0 4 + (c.r.slot && !c.r.annul).toNat * 16 + 32 + t.wr.toNat * 64)
      let s := s.setXcsr x csrUepc (epcWord epc)
      let s := s.setXcsr x csrUenpc (epcWord enpc)
      let s := s.setXcsr x csrUcause (causeWord t async)
      let s := s.setXcsr x csrUval t.val
      let s := s.setXcsr x csrUstat st'
      let pc := tvecBase (s.xcsr x csrUtvec)
      s.setCtx x { s.ctx x with
        st := .ready, wait := .none, ibuf := none
        r := { (s.ctx x).r with resv := none, pc := pc, npc := pc + 4, slot := false, annul := false } }
    else s.faultCtx x t epc enpc
  else if c.priv ≠ .m ∧ t.code ≠ 0x21 ∧ bitAt (s.xcsr x csrKroute) t.code then s.enterLevel x csrKstat .k t async epc enpc
  else s.enterLevel x csrMstat .m t async epc enpc

/-- A synchronous trap of the instruction at the PC. -/
def State.takeTrap (s : State) (x : Nat) (t : Trap) : State :=
  s.takeTrapAt x t false (s.ctx x).r.pc (s.ctx x).r.npc

/-- Whether an asynchronous trap can be taken by a hardware thread now (R66): the level it goes to is above its own, or is
its own with IE set. -/
def State.asyncOpen (s : State) (x code : Nat) : Bool :=
  let c := s.ctx x
  let toK := c.priv ≠ .m ∧ code ≠ 0x21 ∧ bitAt (s.xcsr x csrKroute) code
  if toK then c.priv == .u || bitAt (s.xcsr x csrKstat) 0
  else c.priv != .m || bitAt (s.xcsr x csrMstat) 0

/-! ### Address translation -/

/-- Kinds of access to translate (R68). -/
inductive XKind where
  | fetch | read | write | readWrite
deriving DecidableEq, Repr

def XKind.isWr : XKind → Bool
  | .write | .readWrite => true
  | _ => false

def faultXlate (k : XKind) (a : W64) (ad : Bool := false) : Trap :=
  { code := if k = .fetch then 0x04 else 0x06, val := a, wr := k.isWr, ad := ad }
def faultPerm (k : XKind) (a : W64) : Trap := { code := 0x07, val := a, wr := k.isWr }

/-- Translation of an engine address through the windows of the job's Booth (R68). -/
def State.xlateEng (s : State) (x : Nat) (k : XKind) (a : W64) : Except Trap (Nat × Attr) :=
  if 2 ^ 48 ≤ a.toNat then .error (faultXlate k a)
  else match (s.booth (s.ctx x).bid).find a.toNat with
    | none => .error (faultXlate k a)
    | some w =>
      if k = .fetch ∧ !w.x then .error (faultXlate k a)
      else if (k = .read ∨ k = .readWrite) ∧ !w.r then .error (faultPerm k a)
      else if k.isWr ∧ !w.w then .error (faultPerm k a)
      else .ok (w.target + (a.toNat - w.base), w.attr)

/-- ATTR codes (R70, R283). -/
def attrOf (n : Nat) : Attr := if n = 0 then .wb else if n = 1 then .wt else if n = 2 then .wna else if n = 3 then .uc else .str
def attrCode : Attr → Nat
  | .wb => 0
  | .wt => 1
  | .wna => 2
  | .uc => 3
  | .str => 4

/-- Size in bytes of the page of a leaf at a level (R70). -/
def pageSize (lvl : Nat) : Nat := 2 ^ (12 + 9 * (3 - lvl))

/-- Whether a leaf entry is well formed at its level (R71). -/
def leafOk (e : W64) (lvl : Nat) : Bool :=
  !(bitAt e 4 && !bitAt e 6) && decide (lvl ≠ 0) && decide (fld e 8 3 ≤ 4) &&
    decide ((fld e 12 36 * 4096) % pageSize lvl = 0)

/-- Whether the reserved bits of an entry are zero, and for a pointer the bits R70 requires to be zero. -/
def entryOk (e : W64) : Bool :=
  bitAt e 0 && !bitAt e 7 && !bitAt e 11 && decide (fld e 48 14 = 0) &&
    (bitAt e 1 || (decide (fld e 2 5 = 0) && decide (fld e 8 3 = 0) && decide (fld e 62 2 = 0)))

/-- What a walk ends in: a leaf with its level, a malformed entry, or an uncorrectable or refused read of a table. -/
inductive WalkRes where
  | leaf (e : W64) (lvl : Nat)
  | bad
  | err (st : BitVec 16)
deriving DecidableEq, Repr

/-- A table entry is read as the control complex sees memory: from its L2 where that holds the line, else from memory. In CSR space
a K or M thread's read is one of a register (R21, R22), whose value is free here. DESIGN CHOICE (log entry 100). -/
def State.walkRead (s : State) (x a : Nat) : State × Except (BitVec 16) W64 :=
  if s.region a = some .csr ∧ (s.ctx x).priv ≠ .u then let r := s.fresh; (r.2, .ok (BitVec.ofNat 64 r.1)) else
  match s.memStatus a 8 with
  | some e => (s, .error e)
  | none =>
    let q := if s.l2En 8 then s.l2Check 8 (a / 64) else (s, false)
    if q.2 then (q.1, .error 0x0601) else
    let hit := (q.1.l2Way 8 (a / 64)).isSome
    let s := if q.1.l2En 8 then q.1.l2Lookup 8 hit else q.1
    if s.l2En 8 && hit then (s, .ok (BitVec.ofNat 64 (leVal ((List.range 8).map fun i => s.domByte 8 (a + i)))))
    else
      let r := s.demandRead a 8 1
      (r.1, match r.2.1 with | some e => .error e | none => .ok (BitVec.ofNat 64 (leVal r.2.2)))

/-- The page walk from a table at a level (R70, R71). -/
def State.walk (x : Nat) : Nat → State → Nat → Nat → Nat → State × WalkRes
  | 0, s, _, _, _ => (s, .bad)
  | k + 1, s, table, lvl, va =>
    let r := s.walkRead x (table + 8 * (va / 2 ^ (12 + 9 * (3 - lvl)) % 512))
    match r.2 with
    | .error e => (r.1, .err e)
    | .ok e =>
      if !entryOk e then (r.1, .bad)
      else if bitAt e 1 then (r.1, if leafOk e lvl then .leaf e lvl else .bad)
      else if lvl = 3 then (r.1, .bad)
      else State.walk x k r.1 (fld e 12 36 * 4096) (lvl + 1) va

/-- The core of a hardware thread. -/
def coreOf (x : Nat) : Nat := (x - 2048) / 4

/-- A cached translation that matches an address and ASID (R72). -/
def State.tlbFind (s : State) (x : Nat) (va : W64) : Option TlbEntry :=
  let asid := (s.xcsr x csrPtbr).extractLsb' 48 16
  (Tab.get [] s.tlb (coreOf x)).find? fun t =>
    decide (va.toNat / pageSize t.level = t.vpn) && (t.asid == asid || bitAt t.entry 3)

/-- Translation on a control core (R70–R72): the cached translation if there is one, else a walk, whose leaf is cached.
A clear EX gives PERMISSION, and a clear REF or MOD is found before a clear permission bit. DEDUCED (log entry 114). -/
def State.xlateCore (s : State) (x : Nat) (k : XKind) (a : W64) : State × Except Trap (Nat × Attr) :=
  let c := s.ctx x
  if c.priv = .m ∨ !bitAt (s.xcsr x csrMstat) 8 then
    (s, .ok (a.toNat, if (s.region a.toNat).all Region.isMem then .wb else .uc))
  else if !(decide (fld a 47 17 = 0) || decide (fld a 47 17 = 2 ^ 17 - 1)) then (s, .error (faultXlate k a))
  else
    let ptbr := s.xcsr x csrPtbr
    let look : State × Except Trap (W64 × Nat) := match s.tlbFind x a with
      | some t => (s, .ok (t.entry, t.level))
      | none =>
        let r := State.walk x 4 s (fld ptbr 12 36 * 4096) 0 (a.toNat % 2 ^ 48)
        let s := r.1
        match r.2 with
        | .bad => (s, .error (faultXlate k a))
        | .err e => (s, .error (trapData a e k.isWr))
        | .leaf e lvl =>
          if !bitAt e 62 || (k.isWr && !bitAt e 63) then (s, .error (faultXlate k a true))
          else
            let t : TlbEntry := { asid := ptbr.extractLsb' 48 16, vpn := a.toNat / pageSize lvl, entry := e, level := lvl }
            ({ s with tlb := Tab.set [] s.tlb (coreOf x) (Tab.get [] s.tlb (coreOf x) ++ [t]) }, .ok (e, lvl))
    let s := look.1
    match look.2 with
    | .error t => (s, .error t)
    | .ok (e, lvl) =>
      if k.isWr && !bitAt e 63 then (s, .error (faultXlate k a true))
      else if (k = .fetch ∧ !bitAt e 5) ∨ ((k = .read ∨ k = .readWrite) ∧ !bitAt e 6) ∨ (k.isWr ∧ !bitAt e 4) then
        (s, .error (faultPerm k a))
      else if c.priv = .u ∧ !bitAt e 2 then (s, .error (faultPerm k a))
      else if c.priv = .k ∧ k = .fetch ∧ bitAt e 2 then (s, .error (faultPerm k a))
      else (look.1, .ok (fld e 12 36 * 4096 + a.toNat % pageSize lvl, attrOf (fld e 8 3)))

/-- Translation of an access of a context. DESIGN CHOICE (log entry 14). -/
def State.xlate (s : State) (x : Nat) (k : XKind) (a : W64) : State × Except Trap (Nat × Attr) :=
  if isEng x then (s, s.xlateEng x k a) else s.xlateCore x k a

/-- Whether a write with an attribute goes to its memory at once, so that a refusal is precise (R20, R165, R434). -/
def State.writeThru (s : State) (x : Nat) (at_ : Attr) : Bool :=
  let d := domOf (unitOf x)
  at_ != .wb || !s.l2En d || (s.fillWays d (s.ctx x).bid).isEmpty

/-- The status of an access of a context to n bytes of memory at a physical address (R20, R21, R434). -/
def State.accessStatus (s : State) (x : Nat) (k : XKind) (at_ : Attr) (a n : Nat) : Option (BitVec 16) :=
  if k.isWr && s.writeThru x at_ then s.writeStatus (s.ctxWho x) a n else s.memStatus a n

/-! ### Issue -/

/-- The profiles an instruction belongs to (R34): Svanen-K, Svanen-E, Svanen-S, and whether it is one that an engine
refuses with PRIV. -/
structure Prof where
  k : Bool := true
  e : Bool := true
  s : Bool := false
  privE : Bool := false
deriving DecidableEq, Repr
def profKE : Prof := {}
def profKES : Prof := { s := true }
def profE : Prof := { k := false }
def profES : Prof := { k := false, s := true }
def profS : Prof := { k := false, e := false, s := true }
def profK : Prof := { e := false, privE := true }

/-- How run-ahead treats an instruction (R141, R142). -/
inductive Ra where
  | plain                      -- executes on the episode's copy
  | load (o : LoadOp)          -- a load: data, a prefetch, or poison
  | noEffect                   -- stores, fences, maintenance, sends, searches, atomics: only their destinations are poisoned
  | csrWrite (rd : Nat)        -- rd receives the CSR, which is unchanged
  | pref1 (a : W64)            -- a side-buffer prefetch
  | ends                       -- ends the episode
  | branch                     -- ends it when a source is poisoned
deriving DecidableEq, Repr

/-- What issue needs to know of an instruction: sources, those of them that its traps depend on (all, unless `tsrcs` names
them), destinations, its run-ahead treatment, profiles, word, whether a
delay slot may not hold it, and whether it is an X-format pair of words. -/
structure Sig where
  word : BitVec 32
  prof : Prof := {}
  srcs : List Loc := []
  tsrcs : Option (List Loc) := none
  dsts : List Loc := []
  ra : Ra := .plain
  noSlot : Bool := false
  wide : Bool := false
deriving DecidableEq, Repr

/-- What an instruction does: completes, traps with the state its flags leave, jumps (taken, target, annul bit), waits, cannot
start until what it waits for comes, or has set the PC itself. -/
inductive Eff where
  | ok (s : State)
  | trap (s : State) (t : Trap)
  | jump (s : State) (taken : Bool) (target : W64) (a : Bool)
  | wait (s : State)
  | block (w : Wait)
  | done (s : State)

/-- Whether an instruction cannot complete yet, since a transfer of it waits for its island's clock (R433). -/
def Eff.waits : Eff → Bool
  | .trap _ t => t.status == stWait
  | _ => false

/-- A location in class T names v for f (R36). -/
def State.canon (s : State) (x : Nat) : Loc → Loc
  | .f n => if s.classT x then .v n else .f n
  | l => l

/-- The poison bits of a context's episode (R141); g0 and p0 are never poisoned. -/
def State.poisoned (s : State) (x : Nat) (l : Loc) : Bool :=
  match (s.ctx x).epi with
  | none => false
  | some e => l != .g 0 && l != .p 0 && decide (s.canon x l ∈ e.poison)

def State.setPoison (s : State) (x : Nat) (ls : List Loc) (on : Bool) : State :=
  let c := s.ctx x
  match c.epi with
  | none => s
  | some e =>
    let ls := (ls.map (s.canon x)).filter fun l => l != .g 0 && l != .p 0
    let keep := e.poison.filter fun l => decide (l ∉ ls)
    s.setCtx x { c with epi := some { e with poison := if on then keep ++ ls else keep } }

/-- Poisoned destinations hold undefined values (R141): each receives a free value. -/
def State.poisonDsts (s : State) (x : Nat) (ls : List Loc) : State :=
  (ls.foldl (fun s l =>
    let r := s.fresh
    match l with
    | .g n => r.2.setG x n (BitVec.ofNat 64 r.1)
    | .f n => r.2.setF x n (BitVec.ofNat 64 r.1)
    | .v n => r.2.setV x n (BitVec.ofNat 128 r.1)
    | .p n => r.2.setP x n (BitVec.ofNat 128 r.1)) s).setPoison x ls true

/-- The PC moves past an instruction (R53): to its successor, or past both words of an X-format instruction. -/
def State.advance (s : State) (x : Nat) (wide : Bool) : State :=
  let r := (s.ctx x).r
  if wide then s.setR x { r with pc := r.pc + 8, npc := r.pc + 12, slot := false }
  else s.setR x { r with pc := r.npc, npc := r.npc + 4, slot := false }

/-- An instruction retires: INSTRET counts it outside an episode (R60, R144). -/
def State.retire (s : State) (x : Nat) (wide : Bool := false) : State :=
  let s := s.advance x wide
  let c := s.ctx x
  if c.epi.isSome then s else (s.setCtx x { c with instret := c.instret + 1 }).pmc (unitOf x) 2

/-- A branch or JALR completes (R53): the slot is next, then the target or P + 8. -/
def State.jumpTo (s : State) (x : Nat) (taken : Bool) (target : W64) (a : Bool) : State :=
  let s := s.pmc (unitOf x) (if taken then 4 else 5)
  let r := (s.ctx x).r
  let s := s.setR x { r with pc := r.pc + 4, npc := if taken then target else r.pc + 8, slot := true, annul := a && !taken }
  let c := s.ctx x
  if c.epi.isSome then s else (s.setCtx x { c with instret := c.instret + 1 }).pmc (unitOf x) 2

/-- A fetch that the L1I does not serve reads through the L2, which allocates as for a demand read, or memory (R135, R163). -/
def State.fetchLine (s : State) (x p : Nat) (at_ : Attr) : State × Option (BitVec 16) :=
  let d := domOf (unitOf x)
  let line := p / 64
  if at_ = .uc ∨ at_ = .str then let r := s.demandRead (p / 16 * 16) 16 (s.ctxClass x); (r.1, r.2.1)
  else if !s.l2En d then let r := s.demandRead (line * 64) 64 (s.ctxClass x); (r.1, r.2.1)
  else
    let q := s.l2Check d line
    if q.2 then (q.1, some 0x0601) else
    let s := q.1
    let w := s.l2Way d line
    let s := s.l2Lookup d w.isSome
    if w.isSome then (s, none) else
    let r := s.demandRead (line * 64) 64 (s.ctxClass x)
    match r.2.1 with
    | some e => (r.1, some e)
    | none => (r.1.l2Alloc d line (s.ctx x).bid (lineOf r.2.2) false, none)

/-- The status of a fetch of a word (R20, R21, R22): CSR space has none of a fetch's width for a thread that may reach it. -/
def State.fetchStatus (s : State) (x p : Nat) : Option (BitVec 16) :=
  if s.region p = some .csr ∧ !isEng x ∧ (s.ctx x).priv ≠ .u then some 0x0602 else s.memStatus p 4

/-- The fetch of a word (R135): from the context's instruction buffer, or with translation (R68, R71), the address map (R20, R21),
and the L1I (R149), which a Booth without a way share does not fill on an L2 miss (R166). A trap, or the state after the fetch and
whether it missed the L1I. -/
def State.fetchAt (s : State) (x : Nat) (a : W64) : State × Except Trap Bool :=
  if (s.ctx x).ibuf = some (a.toNat / 16) then (s, .ok false) else
  let filled (s : State) : State := s.setCtx x { s.ctx x with ibuf := some (a.toNat / 16) }
  let r := s.xlate x .fetch a
  match r.2 with
  | .error t => (r.1, .error t)
  | .ok (p, at_) =>
    match r.1.fetchStatus x p with
    | some e => (r.1, .error (trapData a e false))
    | none =>
      let u := unitOf x
      let d := domOf u
      let line := p / 64
      let cached := at_ != .uc && at_ != .str && r.1.ienOn u
      if cached && decide (line ∈ (r.1.exe u).l1i) then (filled r.1, .ok false)
      else
        let held := (r.1.l2Way d line).isSome && r.1.l2En d
        let q := (if cached then r.1.pmc u 7 else r.1).fetchLine x p at_
        match q.2 with
        | some e => (q.1, .error (trapData a e false))
        | none =>
          if !cached || (q.1.noShare d (q.1.ctx x).bid && !held) then (filled q.1, .ok true) else
          let f := q.1.fresh
          let e := f.2.exe u
          (filled (f.2.setExe u { e with l1i := l1Put e.l1i line (l1Sets u true) l1Ways f.1 }), .ok true)

/-- The fetch of an instruction of one or two words. DESIGN CHOICE (log entry 10). -/
def State.fetch (s : State) (x : Nat) (wide : Bool) : State × Except Trap Bool :=
  let pc := (s.ctx x).r.pc
  let r := s.fetchAt x pc
  match r.2 with
  | .error t => (r.1, .error t)
  | .ok m =>
    if !wide then r
    else
      let q := r.1.fetchAt x (pc + 4)
      match q.2 with
      | .error t => (q.1, .error t)
      | .ok n => (q.1, .ok (m || n))

/-- Whether the unit's profile holds an instruction; else the trap it raises (R34). -/
def profTrap (x : Nat) (sg : Sig) : Option Trap :=
  if isEng x then (if sg.prof.e then none else some (if sg.prof.privE then trapPriv sg.word else trapIllegal sg.word))
  else if sg.prof.k then none else some (trapIllegal sg.word)

/-- An episode ends: the context issues nothing more until its data arrive (R142). DEDUCED (log entry 75). -/
def State.endEpisode (s : State) (x : Nat) : State :=
  let c := s.ctx x
  match c.epi with
  | none => s
  | some e => s.setCtx x { c with epi := some { e with ended := true } }

/-- An instruction of a run-ahead episode counts in OE_RA_INSN unless it ended the episode (R168). -/
def State.raCount (s : State) (x : Nat) : State := s.bump (Reg.oeRaInsn (unitOf x) (x % 16))

/-- An episode's load, given how a load of the context behaves there (its outcome is computed by the memory files). -/
inductive RaLoad where
  | ends | data (s : State) | poison (s : State)

/-- A fill of a line into the side buffer is requested for a context (R146). -/
def State.sideReq (s : State) (x line : Nat) (str : Bool) : State :=
  let e := s.exe (unitOf x)
  s.setExe (unitOf x) { e with fills := e.fills ++ [{ line := line, ctx := x, str := str }] }

/-- A run-ahead prefetch of a line into the side buffer is issued (R141, R146). DEDUCED (log entry 79). -/
def State.prefetch (s : State) (x line : Nat) (str : Bool) : State :=
  (s.sideReq x line str).bump (Reg.oeRaPref (unitOf x) (x % 16))

/-- Issue in run-ahead (R141, R142). `ld` is what a load does there. An instruction with a poisoned source that would trap whatever
its value, by its encoding or by clean sources alone, ends the episode. A clean instruction clears the poison bits of its destinations, one
that writes a register in part too. DESIGN CHOICE (log entry 99). -/
def issueRa (x : Nat) (sg : Sig) (body : State → Eff) (ld : State → LoadOp → RaLoad) (s : State) : State :=
  if (profTrap x sg).isSome || (sg.noSlot && (s.ctx x).r.slot) then s.endEpisode x else
  let f := s.fetch x sg.wide
  match f.2 with
  | .error _ => s.endEpisode x
  | .ok true => s.endEpisode x
  | .ok false =>
    let bad := sg.srcs.any (s.poisoned x)
    let badT := (sg.tsrcs.getD sg.srcs).any (s.poisoned x)
    let traps := match body s with | .trap _ t => decide (t.code ≤ 3) || !badT | _ => false
    if bad && traps then s.endEpisode x else
    let poison (s : State) : State := ((s.poisonDsts x sg.dsts).advance x sg.wide).raCount x
    match sg.ra with
    | .ends => s.endEpisode x
    | .branch =>
      if bad then s.endEpisode x else
      match body s with
      | .jump t tk tg a => ((t.jumpTo x tk tg a).setPoison x sg.dsts false).raCount x
      | _ => s.endEpisode x
    | .load o =>
      match ld s o with
      | .ends => s.endEpisode x
      | .data t => ((t.setPoison x sg.dsts false).advance x sg.wide).raCount x
      | .poison t => ((t.poisonDsts x sg.dsts).advance x sg.wide).raCount x
    | .noEffect =>
      if bad then poison s else
      match body s with
      | .trap _ _ => s.endEpisode x
      | _ => poison s
    | .pref1 a =>
      if bad then poison s else
      let u := unitOf x
      match (s.xlate x .read a).2 with
      | .error _ => poison s
      | .ok (p, at_) =>
        if at_ = .uc ∨ (s.memStatus p 1).isSome ∨ !s.sbOn u then poison s
        else poison (s.prefetch x (p / 64) (at_ = .str))
    | .csrWrite rd =>
      if bad then poison s else
      match body s with
      | .ok t => (((s.setG x rd (t.g x rd)).setPoison x sg.dsts false).advance x sg.wide).raCount x
      | _ => s.endEpisode x
    | .plain =>
      if bad then poison s else
      match body s with
      | .ok t => ((t.setPoison x sg.dsts false).advance x sg.wide).raCount x
      | .jump t tk tg a => ((t.jumpTo x tk tg a).setPoison x sg.dsts false).raCount x
      | _ => s.endEpisode x

/-- One instruction of a context that is ready runs (R134): outside run-ahead. One that must wait before it can act has not
issued: its context blocks in the state `s0` in which it had its turn. -/
def issueNow (x : Nat) (sg : Sig) (body : State → Eff) (s0 s : State) : State :=
  let f := s.fetch x sg.wide
  match f.2 with
  | .error t => if t.status = stWait then s0.waitFor x .waitMem .clock else f.1.takeTrap x t
  | .ok _ =>
    let s := f.1
    if sg.noSlot && (s.ctx x).r.slot then s.takeTrap x (trapSlot sg.word) else
    match profTrap x sg with
    | some t => s.takeTrap x t
    | none =>
      let e := body (s.setCtx x { s.ctx x with lastTime := 1 })
      if e.waits then s0.waitFor x .waitMem .clock else
      match e with
      | .ok t => t.retire x sg.wide
      | .trap t k => t.takeTrap x k
      | .jump t tk tg a => t.jumpTo x tk tg a
      | .block w => s0.waitFor x .waitMem w
      | .wait t => t
      | .done t => t

/-- Sieve evaluators run their own instructions with no fetch, trap or privilege (R34, R193). -/
def issueSieve (x : Nat) (sg : Sig) (body : State → Eff) (s : State) : State :=
  if !sg.prof.s then s else
  match body s with
  | .ok t => t.advance x sg.wide
  | .jump t tk tg a => t.jumpTo x tk tg a
  | .wait t => t
  | .done t => t
  | _ => s

/-- Step 1 of a drain reaches a stage of a job in which another has faulted (R183): whether before its next instruction is free. -/
def State.drainReach (s : State) (x : Nat) : State :=
  let b := s.job (s.ctx x).job
  if isEng x && b.live && b.fault.isSome then
    let r := s.fresh
    if r.1.testBit 0 then r.2.stopStage x else r.2
  else s

/-- The issue of an instruction by a context, which has not been stopped. Only a READY or RUNAHEAD context issues (R134), and
only while its island's clock runs (R433); an annulled delay slot is
fetched and discarded (R55); a pending machine check is taken first (R66). OE_PMC counts inside an episode as outside, and an annulled
slot there does not count in OE_RA_INSN. DESIGN CHOICE (log entry 99). -/
def issueGo (x : Nat) (sg : Sig) (body : State → Eff) (ld : State → LoadOp → RaLoad) (s : State) : State :=
  let c := s.ctx x
  let u := unitOf x
  if c.st ≠ .ready ∧ c.st ≠ .runAhead then s
  else if x < 2112 ∧ s.stopped (domOf u) then s
  else if (c.epi.map Episode.ended).getD false then s
  else if c.r.annul then
    let s := if isEng x then (s.pmc u 1).pmc u 6 else s
    let s := s.setExe u { s.exe u with ptr := x % 16 }
    let c := s.ctx x
    s.setCtx x { c with r := { c.r with pc := c.r.npc, npc := c.r.npc + 4, slot := false, annul := false } }
  else if 2112 ≤ x then issueSieve x sg body s
  else
    let s0 := s
    let s := (s.pmc u 1).setExe u { (s.pmc u 1).exe u with ptr := x % 16 }
    match c.epi with
    | some _ => issueRa x sg body ld s
    | none =>
      match c.async with
      | some a =>
        if s.asyncOpen x 0x21 then
          (s.setCtx x { c with async := none }).takeTrapAt x { code := 0x21, val := a } true c.r.pc c.r.npc
        else issueNow x sg body s0 s
      | none => issueNow x sg body s0 s

/-- The issue of an instruction by a context, unless a drain stops it first (R183). -/
def issueWith (x : Nat) (sg : Sig) (body : State → Eff) (ld : State → LoadOp → RaLoad) (s : State) : State :=
  issueGo x sg body ld (if (s.ctx x).st = .ready ∨ (s.ctx x).st = .runAhead then s.drainReach x else s)

/-- The issue of an instruction that is not a load. -/
def issue (x : Nat) (sg : Sig) (body : State → Eff) (s : State) : State := issueWith x sg body (fun _ _ => .ends) s

end Sys2Proof.Machine
end

