-- ==== Sys2Proof/Machine/Operands.lean ====
section
/-! DEFINITION. Sys2Proof/Machine/Operands.lean: instruction words (R38) and the operand forms that families share: register
forms, immediates, effective addresses (R45, R47), and the vector operands of R110–R116. -/

namespace Sys2Proof.Machine

/-- A command's outcome that always is a next state. -/
abbrev Out := Host.Outcome State Fault Refusal

/-! ### Instruction words (R38) -/

def encA (maj : Nat) (rd rs1 rs2 : Reg5) (func : Nat) : BitVec 32 :=
  BitVec.ofNat 32 (maj * 2 ^ 26 + rd.toNat * 2 ^ 21 + rs1.toNat * 2 ^ 16 + rs2.toNat * 2 ^ 11 + func)
def encI (maj : Nat) (rd rs1 : Reg5) (imm : BitVec 16) : BitVec 32 :=
  BitVec.ofNat 32 (maj * 2 ^ 26 + rd.toNat * 2 ^ 21 + rs1.toNat * 2 ^ 16 + imm.toNat)
def encB (maj : Nat) (a : Bool) (rs : Reg5) (off : BitVec 20) : BitVec 32 :=
  BitVec.ofNat 32 (maj * 2 ^ 26 + a.toNat * 2 ^ 25 + rs.toNat * 2 ^ 20 + off.toNat)
def encM (maj : Nat) (rt rb : Reg5) (op : Nat) (disp : BitVec 12) : BitVec 32 :=
  BitVec.ofNat 32 (maj * 2 ^ 26 + rt.toNat * 2 ^ 21 + rb.toNat * 2 ^ 16 + op * 2 ^ 12 + disp.toNat)
def encV (maj : Nat) (o : VF) (func5 : Nat) : BitVec 32 :=
  BitVec.ofNat 32 (maj * 2 ^ 26 + o.vd.toNat * 2 ^ 21 + o.vs1.toNat * 2 ^ 16 + o.vs2.toNat * 2 ^ 11 + o.pg.toNat * 2 ^ 8 +
    o.xd.toNat * 2 ^ 7 + o.xs1.toNat * 2 ^ 6 + o.xs2.toNat * 2 ^ 5 + func5)
/-- Word 0 of an X-format instruction. -/
def encX (rd rs1 : Reg5) (xop : Nat) : BitVec 32 :=
  BitVec.ofNat 32 (0x3E * 2 ^ 26 + rd.toNat * 2 ^ 21 + rs1.toNat * 2 ^ 16 + xop * 2 ^ 8)

/-! ### Scalar forms -/

/-- g register operand as a poison location. -/
def lg (r : Reg5) : Loc := .g r.toNat
def lf (r : Reg5) : Loc := .f r.toNat

/-- A result in rd computed from rs1 and rs2 (R41). -/
def gOp (x : CtxId) (prof : Prof) (w : BitVec 32) (rd rs1 rs2 : Reg5) (fn : W64 → W64 → W64) (s : State) : State :=
  issue (ctxIdx x) { word := w, prof := prof, srcs := [lg rs1, lg rs2], dsts := [lg rd] }
    (fun s => .ok (s.setG (ctxIdx x) rd.toNat (fn (s.g (ctxIdx x) rs1.toNat) (s.g (ctxIdx x) rs2.toNat)))) s

/-- A result in rd computed from rs1 alone, an immediate being part of `fn` (R41, R43). -/
def gOp1 (x : CtxId) (prof : Prof) (w : BitVec 32) (rd rs1 : Reg5) (fn : W64 → W64) (s : State) : State :=
  issue (ctxIdx x) { word := w, prof := prof, srcs := [lg rs1], dsts := [lg rd] }
    (fun s => .ok (s.setG (ctxIdx x) rd.toNat (fn (s.g (ctxIdx x) rs1.toNat)))) s

/-- An X-format result (R43). -/
def gOpX (x : CtxId) (w : BitVec 32) (rd rs1 : Reg5) (fn : W64 → W64) (s : State) : State :=
  issue (ctxIdx x) { word := w, prof := profKES, srcs := [lg rs1], dsts := [lg rd], noSlot := true, wide := true }
    (fun s => .ok (s.setG (ctxIdx x) rd.toNat (fn (s.g (ctxIdx x) rs1.toNat)))) s

/-- An instruction that raises ILLEGAL_INSN whatever its operands (R40). -/
def illegal (x : CtxId) (w : BitVec 32) (prof : Prof) (s : State) : State :=
  issue (ctxIdx x) { word := w, prof := prof } (fun s => .trap s (trapIllegal w)) s

/-- The size in bytes of an access by its op (R45). -/
def opSize (op : Nat) : Nat := if op = 8 then 8 else if op = 9 then 4 else 2 ^ (op % 4)
/-- The displacement of an M-format access, scaled by a size (R45). -/
def dispOf (disp : BitVec 12) (size : Nat) : W64 := disp.signExtend 64 * BitVec.ofNat 64 size

/-! ### Vector operands -/

/-- The group size g (R110): 1 in class T. -/
def State.vgroup (s : State) (x : Nat) : Nat := if s.classC x then 2 ^ fld (s.xcsr x csrVgrp) 0 2 else 1
/-- The register width W in bits (R111). -/
def State.vwidth (s : State) (x : Nat) : Nat := 128 * s.vgroup x
/-- The vector length for an element width (R111). -/
def State.vl (s : State) (x w : Nat) : Nat := s.vwidth x / w
/-- Element width of an ew field (R112). -/
def ewBits (ew : BitVec 2) : Nat := 8 * 2 ^ ew.toNat

/-- A vector register number (R110). -/
def vnum (xb : Bool) (n : Reg5) : Nat := xb.toNat * 32 + n.toNat

/-- Element i of width w of the group at v_n, as an unsigned number (R110). -/
def State.vel (s : State) (x n w i : Nat) : Nat := fld (s.v x (n + w * i / 128)) (w * i % 128) w
/-- Element i of width w of the group at v_n takes a value. -/
def State.setVel (s : State) (x n w i val : Nat) : State :=
  let k := n + w * i / 128
  s.setV x k (setFld (s.v x k) (w * i % 128) w val)

/-- A w-bit pattern read signed. -/
def sgn (w v : Nat) : Int := if 2 ^ (w - 1) ≤ v % 2 ^ w then (v % 2 ^ w : Int) - 2 ^ w else (v % 2 ^ w : Int)
/-- An integer as a w-bit pattern. -/
def pat (w : Nat) (v : Int) : Nat := (v % 2 ^ w).toNat

/-- The registers of a group, for poison. -/
def State.vlocs (s : State) (x n : Nat) : List Loc := (List.range (s.vgroup x)).map fun i => .v (n + i)

/-- What an operand field of a vector instruction names (R116). -/
inductive VKind where
  | v | g | p | none
deriving DecidableEq, Repr

/-- Whether an operand field is legal (R38, R110, R116): an x bit needs class C and a v register, a v number is a multiple
of g, a p number is below 8, an unused field is zero. -/
def State.fieldOk (s : State) (x : Nat) (k : VKind) (xb : Bool) (n : Reg5) : Bool :=
  match k with
  | .v => (!xb || s.classC x) && decide (vnum xb n % s.vgroup x = 0)
  | .g => !xb
  | .p => !xb && decide (n.toNat < 8)
  | .none => !xb && n == 0

/-- Whether element i is active under predicate pg (R114). -/
def State.active (s : State) (x : Nat) (pg : Pred3) (i : Nat) : Bool := (s.p x pg.toNat).getLsbD i

/-- The indices of the active elements below VL (R114). -/
def State.actives (s : State) (x : Nat) (pg : Pred3) (vl : Nat) : List Nat :=
  (List.range vl).filter (s.active x pg)

/-- Whether two groups share a register (R116). -/
def overlap (g a b : Nat) : Bool := decide (a < b + g) && decide (b < a + g)

/-- Locations of an operand. -/
def State.opLocs (s : State) (x : Nat) (k : VKind) (xb : Bool) (n : Reg5) : List Loc :=
  match k with
  | .v => s.vlocs x (vnum xb n)
  | .g => [.g n.toNat]
  | .p => [.p n.toNat]
  | .none => []

/-- The signature of a vector instruction: operand kinds of vd, vs1 and vs2, whether vd is also a source. -/
def State.vsig (s : State) (x : Nat) (w : BitVec 32) (o : VF) (kd k1 k2 : VKind) (prof : Prof := profE) : Sig :=
  { word := w, prof := prof
    srcs := s.opLocs x k1 o.xs1 o.vs1 ++ s.opLocs x k2 o.xs2 o.vs2 ++ [.p o.pg.toNat]
    dsts := s.opLocs x kd o.xd o.vd }

/-- Issue of a vector instruction that is not a memory access: operand fields are tested (R116) and VSTART must be 0 (R131).
`pgOk` is false where pg must be 0 and is not. -/
def vecIssue (x : CtxId) (w : BitVec 32) (o : VF) (kd k1 k2 : VKind) (pgOk : Bool) (vst : Bool)
    (body : Nat → State → Eff) (s : State) (prof : Prof := profE) : State :=
  issue (ctxIdx x) (s.vsig (ctxIdx x) w o kd k1 k2 prof) (fun s =>
    let i := ctxIdx x
    if s.fieldOk i kd o.xd o.vd && s.fieldOk i k1 o.xs1 o.vs1 && s.fieldOk i k2 o.xs2 o.vs2 && pgOk &&
        (!vst || decide (fld (s.xcsr i csrVstart) 0 16 = 0))
    then body i s else .trap s (trapIllegal w)) s

/-- Each active element of a v destination takes a value (R114); elements are read before any is written. -/
def State.vwrite (s : State) (x : Nat) (o : VF) (w : Nat) (fn : Nat → Nat) : State :=
  let vals := (s.actives x o.pg (s.vl x w)).map fun i => (i, fn i)
  vals.foldl (fun s p => s.setVel x (vnum o.xd o.vd) w p.1 p.2) s

/-- A predicate destination takes one bit per active element; every other bit is cleared (R115). -/
def State.pwrite (s : State) (x : Nat) (pd : Nat) (pg : Pred3) (vl : Nat) (fn : Nat → Bool) : State :=
  s.setP x pd (BitVec.ofNat 128 ((s.actives x pg vl).foldl (fun a i => if fn i then a + 2 ^ i else a) 0))

end Sys2Proof.Machine
end

