-- ==== Sys2Proof/Machine/HostCore.lean ====
section
/-! DEFINITION. Sys2Proof/Machine/HostCore.lean: what the PCIe endpoint does with completions: the status mapping (R345), host completion
queues and their interrupts, asynchronous events, and the end of a controller or submission queue that stops (R338, R339, R342). -/

namespace Sys2Proof.Machine

/-! ### Status mapping (R345) -/

/-- SCT, SC and DNR of an internal status, given the command's opcode; DNR is 0 where the table marks it so, and 1 elsewhere, for OK
too. DEDUCED (log entry 87). -/
def hostStatus (st : BitVec 16) (op : Nat) : Nat × Nat × Bool :=
  match st.toNat with
  | 0x0000 => (0, 0x00, true)
  | 0x0201 => (0, 0x0C, true)
  | 0x0202 => (0, 0x20, true)
  | 0x0203 => (0, 0x82, false)
  | 0x0260 => (7, 0x60, true)
  | 0x0270 => (1, 0x82, true)
  | 0x0271 => (7, 0x71, true)
  | 0x0302 => (0, 0x81, true)
  | 0x0341 => (7, 0x41, true)
  | 0x0371 => (7, 0x72, false)
  | 0x0401 => (0, 0x02, true)
  | 0x0402 => (0, 0x0F, true)
  | 0x0403 => (7, 0x03, true)
  | 0x0443 => (7, 0x43, true)
  | 0x0444 => (7, 0x44, true)
  | 0x0470 => (0, 0x80, true)
  | 0x0471 => (0, 0x0B, true)
  | 0x0501 => (2, if op = 0x02 ∨ op = 0x82 ∨ op = 0x86 ∨ op = 0x89 then 0x81 else 0x80, true)
  | 0x0661 => (7, 0x61, true)
  | 0x0701 | 0x0702 => (2, 0x86, true)
  | _ => (0, 0x06, true)

/-! ### Completion queues -/

def State.hostCq (s : State) (f n : Nat) : HostCq := Tab.get {} (s.hostFn f).cqs n
def State.setHostCq (s : State) (f n : Nat) (c : HostCq) : State := s.setHost f { s.hostFn f with cqs := Tab.set {} (s.hostFn f).cqs n c }
def State.hostSq (s : State) (f n : Nat) : HostSq := Tab.get {} (s.hostFn f).sqs n
def State.setHostSq (s : State) (f n : Nat) (q : HostSq) : State := s.setHost f { s.hostFn f with sqs := Tab.set {} (s.hostFn f).sqs n q }

/-- A feature's value (R338); Interrupt Vector Configuration is kept by vector. -/
def HostFn.feat (h : HostFn) (k : Nat) : BitVec 32 := Tab.get 0 h.feats k
def featVec (v : Nat) : Nat := 0x900 + v

/-- An interrupt message of a vector is sent (MSI-X). -/
def State.hostIrq (s : State) (f vec : Nat) : State :=
  let h := s.hostFn f
  s.setHost f { h with irq := Tab.set 0 h.irq vec (Tab.get 0 h.irq vec + 1) }

/-- Whether interrupts of a queue wait for aggregation (features 08h and 09h). -/
def HostFn.coalesces (h : HostFn) (n : Nat) (c : HostCq) : Bool :=
  n != 0 && fld (h.feat 8) 8 8 != 0 && !bitAt (h.feat (featVec c.vec)) 16

/-- The interrupt of an entry just placed in a completion queue. PRESUMED (log entry 52). -/
def State.hostNotify (s : State) (f n : Nat) : State :=
  let h := s.hostFn f
  let c := s.hostCq f n
  if !c.ien then s
  else if h.coalesces n c ∧ c.coal < fld (h.feat 8) 0 8 then s.setHostCq f n { c with coal := c.coal + 1 }
  else (s.setHostCq f n { c with coal := 0 }).hostIrq f c.vec

/-- A completion queue is full. -/
def HostCq.full (c : HostCq) : Bool := decide ((c.tail + 1) % c.size = c.head)

/-- A completion entry goes to host memory, or waits while its queue is full or earlier entries of the queue wait. -/
def State.hostSend (s : State) (f : Nat) (e : HostCqe) : State :=
  let h := s.hostFn f
  let c := s.hostCq f e.cqid
  if c.full ∨ h.wait.any fun w => w.cqid = e.cqid then s.setHost f { h with wait := h.wait ++ [e] }
  else
    let s := s.setHost f { h with sent := h.sent ++ [e] }
    (s.setHostCq f e.cqid { c with tail := (c.tail + 1) % c.size }).hostNotify f e.cqid

/-- A completion that is not OK adds an Error Information log entry; 64 are kept (R338, R345). -/
def State.hostError (s : State) (f : Nat) (e : HostCqe) (internal : BitVec 16) : State :=
  let h := s.hostFn f
  let r : HostErr := { n := h.errors + 1, sqid := e.sqid, cid := e.cid, sct := e.sct, sc := e.sc, internal := internal }
  s.setHost f { h with errors := h.errors + 1, errLog := (r :: h.errLog).take 64 }

/-- A command ends with an SCT and SC of its own. -/
def State.hostEnd (s : State) (f : Nat) (e : HostCqe) (internal : BitVec 16 := 0) : State :=
  let s := if e.sct = 0 ∧ e.sc = 0 then s else s.hostError f e internal
  s.hostSend f e

/-! ### Asynchronous events (R338) -/

/-- Dword 0 of an Asynchronous Event Request's completion: type, information, log page. -/
def aerDword (ty info log : Nat) : Nat := ty + info * 256 + log * 65536
def aerNsAttr : Nat := aerDword 2 0 4
def aerSpare : Nat := aerDword 1 2 2
def aerReadOnly : Nat := aerDword 1 0 2
def aerBadDoorbell : Nat := aerDword 0 0 1
def aerDoorbell : Nat := aerDword 0 1 1

/-- Whether the Asynchronous Event Configuration (0Bh) asks for an event; error events are always on. PRESUMED (log entry 52). -/
def HostFn.wantsEvent (h : HostFn) (ev : Nat) : Bool :=
  if ev = aerNsAttr then bitAt (h.feat 0x0B) 8 else if ev = aerSpare then bitAt (h.feat 0x0B) 0
  else if ev = aerReadOnly then bitAt (h.feat 0x0B) 3 else true

/-- An asynchronous event of a function: it completes the oldest request, or waits for one. PRESUMED (log entry 52). -/
def State.hostEvent (s : State) (f ev : Nat) : State :=
  let h := s.hostFn f
  if !h.en || h.stopping || !h.wantsEvent ev then s else
  match h.aer with
  | [] => if ev ∈ h.events then s else s.setHost f { h with events := h.events ++ [ev] }
  | c :: t => (s.setHost f { h with aer := t }).hostEnd f { cqid := 0, cid := c, sqid := 0, dw0 := BitVec.ofNat 32 ev }

/-- The functions bound to a Booth (PCI_FN), and all the bound ones. -/
def State.fnsOf (s : State) (p : BitVec 12 → Bool) : List Nat :=
  (List.range 256).filter fun f => let v := s.reg (Reg.pciFn f); bitAt v 0 && p (v.extractLsb' 16 12)
def State.hostEvents (s : State) (p : BitVec 12 → Bool) (ev : Nat) : State := (s.fnsOf p).foldl (fun s f => s.hostEvent f ev) s

/-! ### Stopping -/

/-- The submission queues of a function. -/
def State.hostSqs (s : State) (f : Nat) : List Nat := ((s.hostFn f).sqs.filter fun e => e.2.live).map Prod.fst

/-- A deletion of a submission queue ends when its shadow has nothing in flight. -/
def State.hostDelEnd (s : State) (f n : Nat) : State :=
  let q := s.hostSq f n
  match q.del with
  | none => s
  | some cid =>
    if (s.queue q.shadow).inflight ≠ 0 then s
    else ((s.setQueue q.shadow {}).setHostSq f n {}).hostEnd f { cqid := 0, cid := cid, sqid := 0 }

/-- Whether a storage command or a scan of a function still runs, a released one among them (R342). -/
def State.hostBusy (s : State) (f : Nat) : Bool :=
  let mine (e : Item) : Bool := (s.queue e.q).prod == 2 && (s.queue e.q).host == f
  (s.alm.cmds.any fun e => e.2.op != 0xF0 && mine e.2.item) || s.scans.any fun e => e.2.live && mine e.2.item

/-- What follows a completion: deletions end, and a controller that stops is no longer ready once its last command has finished;
its queues go, and nothing of it reaches the host any more (R342). -/
def State.hostSettle (s : State) (f : Nat) : State :=
  let h := s.hostFn f
  if !h.stopping then (s.hostSqs f).foldl (fun s n => s.hostDelEnd f n) s
  else if !s.hostBusy f && (s.hostSqs f).all fun n => decide ((s.queue (s.hostSq f n).shadow).inflight = 0) then
    let s := (s.hostSqs f).foldl (fun s n => s.setQueue (s.hostSq f n).shadow {}) s
    s.setHost f { h with rdy := false, stopping := false, sqs := [], cqs := [], aer := [], events := [], sent := [], wait := [], irq := [], dmaBad := [] }
  else s

/-- A function whose command has ended settles, if it stops. -/
def State.hostEnded (s : State) (e : Item) : State :=
  let q := s.queue e.q
  if q.prod = 2 ∧ (s.hostFn q.host).stopping then s.hostSettle q.host else s

/-- The endpoint takes a completion of a shadow queue (R339): Data Transfer Error where a DMA on host memory failed; completions of a
controller that stops are discarded (R342). -/
def State.hostCompl (s : State) (q : BitVec 16) (c : Compl) : State :=
  let x := s.queue q
  let s := s.setQueue q { x with cqHead := x.cqTail }
  let f := x.host
  let n := c.tag.toNat / 65536
  if (s.hostSq f n).live ∧ !(s.hostFn f).stopping then
    let h := s.hostFn f
    let m := if c.tag ∈ h.dmaBad then (0, 0x04, true) else hostStatus c.status c.op
    let s := s.setHost f { h with dmaBad := h.dmaBad.erase c.tag }
    (s.hostEnd f { cqid := (s.hostSq f n).cqid, cid := c.tag.setWidth 16, sqid := n, dw0 := c.res.setWidth 32
                   dw1 := c.res.extractLsb' 32 32, sct := m.1, sc := m.2.1, dnr := m.2.2 } c.status).hostSettle f
  else s.hostSettle f

end Sys2Proof.Machine
end

