-- ==== Sys2Proof/Machine/Hub.lean ====
section
/-! DEFINITION. Sys2Proof/Machine/Hub.lean: what the queue manager, Domino and every engine of a queue class share: entry
fields, Booth halts (R276), completion rings (R272, R273), terminals (R247), and the dispatch of an entry (R269, R246). -/

namespace Sys2Proof.Machine

/-- Field of an entry: n bytes from byte k (R262). -/
def Item.fieldN (e : Item) (k n : Nat) : Nat := leVal ((e.data.drop k).take n)
def Item.opcode (e : Item) : Nat := e.fieldN 0 1
def Item.len (e : Item) : Nat := e.fieldN 1 1
def Item.ord (e : Item) : Bool := decide (e.fieldN 2 1 % 2 = 1)
/-- Slots an entry takes (R262). -/
def Item.slots (e : Item) : Nat := e.len + 1
/-- An entry field as a word. -/
def Item.word (e : Item) (k : Nat) : W64 := BitVec.ofNat 64 (e.fieldN k 8)
/-- Whether n bytes from byte k are zero. -/
def Item.zero (e : Item) (k n : Nat) : Bool := decide (e.fieldN k n = 0)

/-- Entries fetched but not dispatched are dropped (R274, R276); those of a release-ordered queue no longer count in F (R269). -/
def Queue.dropFetched (x : Queue) : Queue :=
  { x with fetched := [], part := [], inflight := if x.role = 2 then x.inflight - x.fetched.length else x.inflight }

/-! ### Booth halts -/

/-- A Booth halts on a structural fault (R276); in a HALTED Booth a further fault sets MORE only (R266). -/
def State.haltBooth (s : State) (bid : BitVec 12) (cause : BitVec 16) (q : BitVec 16) (slot : Nat)
    (detail : BitVec 16 := 0) : State :=
  let b := s.booth bid
  if b.st = .halted then s.setBooth bid { b with more := true }
  else
    let s := s.setBooth bid { b with st := .halted, more := false, cause := cause, haltQ := q, detail := detail }
    let s := s.setReg (Reg.boothHaltSlot bid.toNat) (BitVec.ofNat 64 (slot % 2 ^ 32))
    let s := s.setReg (Reg.boothHaltTime bid.toNat) (s.merAt islHub)
    let s := { s with queues := List.map (fun (e : Nat × Queue) => if e.2.bid = bid ∧ e.2.exists_ then (e.1, e.2.dropFetched) else e) s.queues }
    s.raise 40

/-! ### Rings -/

/-- Address of slot counter n of a ring (R260). -/
def slotAddr (base : W64) (lg : Nat) (n : BitVec 32) : W64 := base + BitVec.ofNat 64 (16 * (n.toNat % 2 ^ lg))

/-- Who accesses a queue's rings: its Booth; the rings of a shadow queue lie in the physical region at PCI_SHADOW_BASE (R416). -/
def Queue.ringBid (x : Queue) : BitVec 12 := if x.prod = 2 then 0 else x.bid

/-- Slots read from a submission ring, each translated by itself (R260): the bytes, or the failing slot and status. -/
def State.ringRead : Nat → State → Queue → BitVec 32 → State × Except (BitVec 32 × BitVec 16) (List Byte)
  | 0, s, _, _ => (s, .ok [])
  | k + 1, s, x, n =>
    let r := s.dmaRead x.ringBid (slotAddr x.sqBase x.sqLog n) 16 x.prio
    match r.2.1 with
    | some e => (r.1, .error (n, e))
    | none =>
      let t := State.ringRead k r.1 x (n + 1)
      match t.2 with
      | .error e => (t.1, .error e)
      | .ok l => (t.1, .ok (r.2.2 ++ l))

/-- The 16 bytes of a completion at slot counter t (R272). -/
def complBytes (c : Compl) (t : BitVec 32) (lg : Nat) : List Byte :=
  let phase := if t.toNat / 2 ^ lg % 2 = 0 then 1 else 0
  leBytes 8 (c.status.toNat + phase * 65536 + c.tag.toNat * 2 ^ 32) ++ leBytes 8 c.res.toNat

/-- A completion that a faulted ring discards (R277). -/
def State.dropCompl (s : State) (q : BitVec 16) : State :=
  (s.bump (Reg.qmQdrop q.toNat)).setRegBit (Reg.qmQstat q.toNat) 6 true

/-- A completion is written at slot counter t, which advances; a failing write is a RING_FAULT (R272, R275, R277). -/
def State.writeCompl (s : State) (q : BitVec 16) (c : Compl) : State :=
  let x := s.queue q
  let a := slotAddr x.cqBase x.cqLog x.cqTail
  let l := complBytes c x.cqTail x.cqLog
  let r := s.dmaWrite x.ringBid (a + 8) (l.drop 8)
  let r := match r.2 with | some e => (r.1, some e) | none => r.1.dmaWrite x.ringBid a (l.take 8)
  match r.2 with
  | some e =>
    let s := (r.1.setQueue q { r.1.queue q with ringFault := true }).dropCompl q
    s.haltBooth x.bid 0x0122 q x.cqTail.toNat e
  | none =>
    let s := r.1.setQueue q { r.1.queue q with cqTail := x.cqTail + 1 }
    let s := if x.prod = 2 then s.hostCompl q c else s
    if x.evt then s.raise x.src.toNat else s

/-- Posted completions not consumed (R261). -/
def Queue.posted (x : Queue) : Nat := (x.cqTail - x.cqHead).toNat

/-- A completion of an entry counted in F goes to its ring, or into the hold when the ring is full (R269, R273). -/
def State.post (s : State) (q : BitVec 16) (c : Compl) : State :=
  let x := s.queue q
  let s := s.setQueue q { x with inflight := x.inflight - 1 }
  if x.ringFault then s.dropCompl q
  else if !x.hold.isEmpty || decide (2 ^ x.cqLog ≤ x.posted) then
    s.setQueue q { s.queue q with hold := x.hold ++ [c] }
  else s.writeCompl q c

/-- Held completions are posted in order while the ring has room (R273). -/
def State.drainHold : Nat → State → BitVec 16 → State
  | 0, s, _ => s
  | k + 1, s, q =>
    let x := s.queue q
    match x.hold with
    | [] => s
    | c :: t =>
      if x.ringFault then State.drainHold k ((s.setQueue q { x with hold := t }).dropCompl q) q
      else if 2 ^ x.cqLog ≤ x.posted then s
      else State.drainHold k ((s.setQueue q { x with hold := t }).writeCompl q c) q

/-! ### Completions -/

/-- An entry's work completes: a stamped item's completion is its terminal (R247), any other is posted (R254). -/
def State.complete (s : State) (e : Item) (status : BitVec 16) (res : W64 := 0)
    (rang : List (BitVec 16 × BitVec 32) := []) : State :=
  let c : Compl := { status := status, tag := e.tag, res := res, op := e.opcode }
  if e.role = 1 then { s with terms := s.terms ++ [{ item := e, compl := c, rang := rang }] }
  else s.post e.q c

/-! ### Dispatch -/

/-- F summed over a Booth's queues (R284 RES 7). -/
def State.boothF (s : State) (bid : BitVec 12) : Nat :=
  (s.queues.map fun e => if e.2.exists_ ∧ e.2.bid = bid then e.2.inflight else 0).sum

/-- A limit of a Booth (R284). -/
def State.quota (s : State) (bid : BitVec 12) (r : Nat) : Nat := (Tab.get 0 (s.booth bid).quota r).toNat

/-- Dispatch to slices is held for HOLD sixteenths of each 16 µs (R458), the first ones of each period that Meridian counts. -/
def State.holdsSlices (s : State) : Bool := decide (s.mer.ns.toNat % 16000 < 1000 * fld (s.reg Reg.devPwrStat) 11 4)

/-- Non-admin entries are dispatched in SERVICE, SEALED and READONLY with no epoch in progress (R425), and to slices not while the
power limiter holds them (R458); admin commands in every mode but HOLDUP. -/
def State.modeDispatch (s : State) (cls : Nat) : Bool :=
  if cls = 0 then s.mode != modeHoldup
  else (s.mode == modeService || s.mode == modeSealed || s.mode == modeReadonly) && !s.regBit Reg.devMode 6 &&
    (cls != 1 || !s.holdsSlices)

/-- Domino stamps for a flow (R245, R246, R253): enabled, no error, its window not full. -/
def State.flowRoom (s : State) (f : BitVec 16) : Bool :=
  let x := s.flow f
  s.regBit Reg.domCtl 0 && x.en && !x.err && decide ((x.nextStamp - x.nextRel).toNat ≠ 2 ^ x.log2w)

/-- The conditions of R269 on an entry, but for the resources of its class. F does not count the entry itself, as it does from its
fetch in a release-ordered queue. DEDUCED (log entry 63). DEDUCED (log entry 102). -/
def State.mayDispatch (s : State) (q : BitVec 16) (e : Item) : Bool :=
  let x := s.queue q
  let own := if x.role = 2 then 1 else 0
  let f := x.inflight - own
  x.enable && (s.booth x.bid).st == .active && s.modeDispatch x.cls &&
    (x.cls == 0 || decide (f < x.maxInflight)) && decide (s.boothF x.bid < s.quota x.bid 7 + own) &&
    decide (x.posted + x.hold.length + f < 2 ^ x.cqLog + 8) &&
    (x.role != 1 || s.flowRoom x.flow) && (!e.ord || f == 0)

/-- The cell of an item (R245). -/
def Flow.key (x : Flow) (sq : BitVec 32) : Nat := sq.toNat % 2 ^ x.log2w
def Flow.cell (x : Flow) (sq : BitVec 32) : Cell := Tab.get {} x.cells (x.key sq)
def Flow.setCell (x : Flow) (sq : BitVec 32) (c : Cell) : Flow := { x with cells := Tab.set {} x.cells (x.key sq) c }

/-- A Domino cell changes in the cell store (R245), whose bytes inside a cell the spec does not lay out: free values. -/
def State.cellWrite (s : State) (f : BitVec 16) (sq : BitVec 32) : State :=
  let x := s.flow f
  let r := s.fresh
  r.2.busWrite (x.base + 128 * (sq.toNat % 2 ^ x.log2w)) (leBytes 128 r.1)

/-- The front entry of a queue is taken for dispatch (R269): H advances, F counts it unless it has since its fetch, QM_QDISP counts it, and a stamped item
receives its sequence (R246). -/
def State.takeFront (s : State) (q : BitVec 16) : State × Option Item :=
  let x := s.queue q
  match x.fetched with
  | [] => (s, none)
  | e :: t =>
    let e' := { e with seq := if x.role = 1 then (s.flow x.flow).nextStamp else BitVec.ofNat 32 x.disp }
    let s := s.setQueue q { x with fetched := t, sqHead := x.sqHead + BitVec.ofNat 32 e.slots, inflight := if x.role = 2 then x.inflight else x.inflight + 1,
                                   disp := x.disp + 1 }
    let s := s.bump (Reg.qmQdisp q.toNat)
    if x.role ≠ 1 then (s, some e')
    else
      let fl := s.flow x.flow
      let fl' := fl.setCell fl.nextStamp { used := true, seq := fl.nextStamp, q := q, tag := e.tag }
      let fl' := { fl' with nextStamp := fl.nextStamp + 1
                            waitFrom := if fl.nextStamp = fl.nextRel then s.mer.ns else fl.waitFrom
                            stalled := if fl.nextStamp = fl.nextRel then false else fl.stalled }
      ((s.setFlow x.flow fl').cellWrite x.flow fl.nextStamp, some e')

/-- The queue that the arbitration of R270 serves in a class: among the queues whose front entry can be dispatched, the
lowest PRIO, and within it the next QID after the one served last. -/
def State.winner (s : State) (cls : Nat) (ready : Item → State → Bool) : Option Nat :=
  let l := (s.queues.filter fun e => e.2.exists_ && e.2.cls == cls && e.2.role != 2 &&
    (match e.2.fetched.head? with | none => false | some i => s.mayDispatch (BitVec.ofNat 16 e.1) i && ready i s))
  let p := (l.map fun e => e.2.prio.toNat).foldl min 4
  let l := (l.filter fun e => e.2.prio.toNat = p).map Prod.fst
  let last := Tab.get 65535 s.rr (cls * 4 + p)
  match l.find? fun q => decide (last < q) with
  | some q => some q
  | none => l.head?

/-- Dispatch of the front entry of a queue of a class, if its opcode is the command's and R269 and R270 choose it. Entries of
a release-ordered queue reach their engine at release (R247, R248). -/
def dispatch (cls op : Nat) (q : BitVec 16) (ready : Item → State → Bool) (body : Item → State → State) (s : State) : State :=
  let x := s.queue q
  if !x.exists_ || x.cls != cls then s
  else if x.role = 2 then
    match x.released with
    | [] => s
    | e :: t => if e.opcode = op ∧ ready e s then body e (s.setQueue q { x with released := t }) else s
  else if s.winner cls ready ≠ some q.toNat then s
  else
    let r := s.takeFront q
    match r.2 with
    | none => s
    | some e =>
      if e.opcode ≠ op then s
      else body e { r.1 with rr := Tab.set 65535 r.1.rr (cls * 4 + x.prio.toNat) q.toNat }

/-- A queue class's engine whose resources are always available. -/
def always : Item → State → Bool := fun _ _ => true

/-- A field outside its range and its like complete an entry without effect: run a list of tests in order. -/
def firstFail : List (Bool × BitVec 16) → Option (BitVec 16)
  | [] => none
  | (c, st) :: t => if c then some st else firstFail t

/-- The status of translating n bytes at an address for a Booth, page by page (R257). -/
def State.dmaCheckGo : Nat → State → BitVec 12 → Bool → W64 → Nat → Option (BitVec 16)
  | 0, _, _, _, _, _ => none
  | _, _, _, _, _, 0 => none
  | k + 1, s, bid, wr, a, n =>
    let m := min n (65536 - a.toNat % 65536)
    match s.dmaAddr bid wr a with
    | .error e => some e
    | .ok p =>
      match if wr then s.writeStatus .tenant p m else s.memStatus p m with
      | some e => some e
      | none => State.dmaCheckGo k s bid wr (a + BitVec.ofNat 64 m) (n - m)
def State.dmaCheck (s : State) (bid : BitVec 12) (wr : Bool) (a : W64) (n : Nat) : Option (BitVec 16) :=
  State.dmaCheckGo (n / 65536 + 2) s bid wr a n

end Sys2Proof.Machine
end

