-- ==== Sys2Proof/Machine/Entries.lean ====
section
/-! DEFINITION. Sys2Proof/Machine/Entries.lean: the structural tests of queue entries at their fetch (R268 tests 1–6), class by
class: admin (R280, R281), job dispatch (R170–R173), Spyglass (R218), digest (R364), compression (R374), bulk mover (R354),
storage (R327, R328), network transmit (R413). -/

namespace Sys2Proof.Machine

/-- Opcodes of a queue class (R268 test 3). -/
def classOps (cls : Nat) : List Nat :=
  match cls with
  | 0 => [1, 2, 3, 4, 5, 6, 7, 8, 9]
  | 1 => [1]
  | 2 => [1, 2, 3, 4, 5, 6, 7, 8, 9]
  | 3 => [1, 2, 3, 4, 5]
  | 4 => [1, 2, 3, 4]
  | 5 => [1]
  | 6 => [0x00, 0x01, 0x02, 0x09, 0x81, 0x82, 0x85, 0x86, 0x89]
  | 7 => [1]
  | _ => []

/-- RESERVED_NONZERO when a listed field (byte, count) is not zero, or a bit range (byte, low, count) is not. -/
def Item.rsv (e : Item) (l : List (Nat × Nat)) (b : List (Nat × Nat × Nat) := []) : Option (BitVec 16) :=
  if l.all (fun p => e.zero p.1 p.2) && b.all (fun p => decide (e.fieldN p.1 1 / 2 ^ p.2.1 % 2 ^ p.2.2 = 0)) then none else some 0x0103

/-- LEN must be one of a list, else a status; then the reserved fields. -/
def Item.lenThen (e : Item) (lens : List Nat) (st : BitVec 16) (k : Option (BitVec 16)) : Option (BitVec 16) :=
  if e.slots ∈ lens then k else some st

/-- Admin entries (R281): BAD_ENTRY_LENGTH, reserved fields. -/
def testAdmin (e : Item) : Option (BitVec 16) :=
  match e.opcode with
  | 1 => e.lenThen [1] 0x0123 (e.rsv [(11, 5)] [(10, 1, 7)])
  | 2 | 3 | 5 => e.lenThen [1] 0x0123 (e.rsv [(10, 6)])
  | 4 => e.lenThen [4] 0x0123 (e.rsv [(41, 23)] [(10, 4, 4)])
  | 6 => e.lenThen [3] 0x0123 (e.rsv [(13, 3), (40, 8)] [(11, 3, 5)])
  | 7 => e.lenThen [1] 0x0123 (e.rsv [(11, 5)])
  | 8 => e.lenThen [2] 0x0123 (e.rsv [(11, 5), (20, 12)])
  | _ => e.lenThen [2] 0x0123 (e.rsv [(11, 1), (16, 16)])

/-- Stage descriptor n of a pipeline entry starts at this byte (R170). -/
def stageAt (n : Nat) : Nat := 16 + 64 * n
/-- The link map starts at this byte (R170). -/
def Item.mapAt (e : Item) : Nat := 16 + 64 * e.fieldN 8 1
/-- Source (stage, port) and destination (stage, port) of link k (R172). -/
def Item.linkSrc (e : Item) (k : Nat) : Nat × Nat :=
  let b := e.fieldN (e.mapAt + 2 * k) 1
  (b % 16, b / 16 % 4)
def Item.linkDst (e : Item) (k : Nat) : Nat × Nat :=
  let b := e.fieldN (e.mapAt + 2 * k + 1) 1
  (b % 16, b / 16 % 4)

/-- Whether a PC obeys R171. -/
def pcOk (pc : W64) : Bool := decide (pc.toNat % 4 = 0) && decide (pc.toNat < 2 ^ 48)

/-- Pipeline entries (R173): BAD_PIPE_SHAPE, then RESERVED_NONZERO, then BAD_LINK_MAP. -/
def testPipe (e : Item) : Option (BitVec 16) :=
  let ns := e.fieldN 8 1
  let nl := e.fieldN 9 1
  let sl := e.fieldN 10 1
  let stages := List.range ns
  let links := List.range nl
  if ns = 0 ∨ 16 < ns ∨ 64 < nl ∨ e.slots ≠ 1 + 4 * ns + (nl + 7) / 8 ∨ ns ≤ e.fieldN 11 1 ∨ (7 < sl ∧ sl ≠ 255) then some 0x0140
  else if !(stages.all fun n => pcOk (e.word (stageAt n)) &&
      (decide (e.fieldN (stageAt n + 8) 1 < 16) || e.fieldN (stageAt n + 8) 1 == 255) && decide (e.fieldN (stageAt n + 9) 1 ≤ 1)) then
    some 0x0140
  else if !(stages.all fun n => e.zero (stageAt n + 10) 6) ||
      !(links.all fun k => decide (e.fieldN (e.mapAt + 2 * k) 1 < 64) && decide (e.fieldN (e.mapAt + 2 * k + 1) 1 < 64)) ||
      !e.zero (e.mapAt + 2 * nl) (16 * ((nl + 7) / 8) - 2 * nl) then some 0x0103
  else if !(links.all fun k => decide ((e.linkSrc k).1 < ns) && decide ((e.linkDst k).1 < ns)) ||
      !decide (links.map e.linkSrc).Nodup || !decide (links.map e.linkDst).Nodup then some 0x0141
  else none

/-- Spyglass entries (R218): BAD_SPY_LENGTH, then reserved fields. -/
def testSpy (e : Item) : Option (BitVec 16) :=
  match e.opcode with
  | 1 => e.lenThen [2] 0x0150 (e.rsv [(11, 1), (24, 8)])
  | 2 => e.lenThen [1] 0x0150 (e.rsv [(10, 6)])
  | 3 => e.lenThen [3, 4] 0x0150 (if e.slots = 3 then e.rsv [(12, 4), (42, 6)] else e.rsv [(12, 4), (60, 4)])
  | 4 => e.lenThen [1] 0x0150 (e.rsv [(10, 2)])
  | 5 => e.lenThen [2] 0x0150 (e.rsv [(10, 2), (24, 8)])
  | 6 => e.lenThen [5, 7] 0x0150 (if e.slots = 5 then e.rsv [(11, 5), (24, 8), (68, 12)] else e.rsv [(11, 5), (24, 8), (104, 8)])
  | 7 => e.lenThen [2] 0x0150 (e.rsv [(10, 2), (24, 8)])
  | 8 => e.lenThen [2] 0x0150 (e.rsv [(11, 1), (24, 8)])
  | _ => e.lenThen [2] 0x0150 (e.rsv [(10, 6), (24, 8)])

/-- Digest entries (R364). -/
def testDigest (e : Item) : Option (BitVec 16) :=
  match e.opcode with
  | 1 => e.lenThen [1] 0x01A0 (e.rsv [(9, 7)])
  | 2 => e.lenThen [1] 0x01A0 (e.rsv [(10, 6)])
  | 3 => e.lenThen [3] 0x01A0 (e.rsv [(11, 1), (40, 8)] [(10, 2, 6)])
  | _ => e.lenThen [2] 0x01A0 (e.rsv [(10, 6), (24, 8)])

/-- Compression entries (R374). -/
def testCz (e : Item) : Option (BitVec 16) :=
  match e.opcode with
  | 1 | 2 => e.lenThen [3] 0x01B0 (e.rsv [(13, 3), (40, 8)] [(12, 2, 6)])
  | 3 => e.lenThen [2] 0x01B0 (e.rsv [(11, 5), (24, 8)])
  | _ => e.lenThen [1] 0x01B0 (e.rsv [(10, 6)])

/-- Bulk mover entries (R354): LEN 1 when KIND is 0, else 2. -/
def testMover (e : Item) : Option (BitVec 16) :=
  let k := e.fieldN 17 1 % 4
  if e.len = (if k = 0 then 1 else 2) then e.rsv [(18, 6)] [(17, 2, 6)] else some 0x0190

/-- Storage entries (R327): bytes 13–23, and the fields that R328 marks zero. -/
def testStorage (e : Item) : Option (BitVec 16) :=
  e.lenThen [4] 0x0170 (match e.rsv [(13, 11)] with
    | some st => some st
    | none => match e.opcode with
      | 0x00 => e.rsv [(24, 40)]
      | 0x01 | 0x02 | 0x81 | 0x82 => e.rsv [(50, 14)]
      | 0x85 => e.rsv [(40, 8), (52, 12)]
      | 0x86 => e.rsv [(48, 16)]
      | 0x89 => e.rsv [(52, 4)]
      | _ => none)

/-- Transmit entries (R413). -/
def testSend (e : Item) : Option (BitVec 16) := e.lenThen [2] 0x01D0 (e.rsv [(14, 2), (28, 4)] [(9, 3, 5)])

/-- Tests 3 to 6 of R268 on a fetched entry. -/
def structTest (e : Item) (role : Nat) : Option (BitVec 16) :=
  if e.opcode ∉ classOps e.cls then some 0x0101
  else if 2 ≤ e.fieldN 2 1 ∨ e.fieldN 3 1 ≠ 0 then some 0x0103
  else if role = 2 ∧ 2 < e.len then some 0x0160
  else match e.cls with
    | 0 => testAdmin e
    | 1 => testPipe e
    | 2 => testSpy e
    | 3 => testDigest e
    | 4 => testCz e
    | 5 => testMover e
    | 6 => testStorage e
    | _ => testSend e

end Sys2Proof.Machine
end

