-- ==== Sys2Proof/Machine/Queue.lean ====
section
/-! DEFINITION. Sys2Proof/Machine/Queue.lean: doorbells (R263–R266), the fetch of entries (R267, R268) with the storing of
ordered entries in their cells (R248), and QM_QCTL (R274). -/

namespace Sys2Proof.Machine

/-! ### Doorbells -/

/-- The T part of a doorbell store (R265); a job's tails on release-ordered queues are kept for R249. -/
def State.bellTail (s : State) (q : BitVec 16) (v : BitVec 32) (job : Option Nat) : State :=
  let x := s.queue q
  if (x.sqTail - x.sqHead).toNat + (v - x.sqTail).toNat ≤ 2 ^ x.sqLog then
    let s := s.setQueue q { x with sqTail := v }
    match job with
    | some j =>
      if x.role = 2 then
        let b := s.job j
        s.setJob j { b with rang := b.rang.filter (fun r => r.1 != q) ++ [(q, v)] }
      else s
    | none => s
  else s.haltBooth x.bid 0x0120 q v.toNat

/-- The h part of a doorbell store (R265); held completions follow (R273). -/
def State.bellHead (s : State) (q : BitVec 16) (v : BitVec 32) : State :=
  let x := s.queue q
  if (v - x.cqHead).toNat ≤ (x.cqTail - x.cqHead).toNat then
    State.drainHold 8 (s.setQueue q { x with cqHead := v }) q
  else s.haltBooth x.bid 0x0121 q v.toNat

/-- Whether a doorbell access is permitted (R264). -/
def State.bellOk (s : State) (bid : BitVec 12) (q : BitVec 16) (writesT : Bool) : Bool :=
  let x := s.queue q
  x.exists_ && (x.bid == bid || bid == 0) && (!writesT || x.prod == 0)

/-- A doorbell store (R263, R265): the status its requester receives, if refused. In a 64-bit store T comes first. -/
def State.bellStore (s : State) (bid : BitVec 12) (q : BitVec 16) (form : DbForm) (v : W64) (job : Option Nat) :
    State × Option (BitVec 16) :=
  let t : BitVec 32 := v.setWidth 32
  match form with
  | .full => if s.bellOk bid q true then ((s.bellTail q t job).bellHead q (v.extractLsb' 32 32), none) else (s, some 0x0701)
  | .lo => if s.bellOk bid q true then (s.bellTail q t job, none) else (s, some 0x0701)
  | .hi => if s.bellOk bid q false then (s.bellHead q t, none) else (s, some 0x0701)

/-- What a doorbell load returns (R263). -/
def State.bellLoad (s : State) (bid : BitVec 12) (q : BitVec 16) (form : DbForm) : Except (BitVec 16) W64 :=
  let x := s.queue q
  if !s.bellOk bid q false then .error 0x0701
  else match form with
    | .full => .ok (x.cqTail ++ x.sqHead)
    | .lo => .ok (x.sqHead.setWidth 64)
    | .hi => .ok (x.cqTail.setWidth 64)

/-- DOORBELL_STORE (R265). -/
def execDoorbellStore (bid : BitVec 12) (q : BitVec 16) (form : DbForm) (v : W64) (s : State) : Out :=
  .next (s.bellStore bid q form v none).1

/-- DOORBELL_LOAD (R263): the value returned to the requester; a refused load returns no data. DESIGN CHOICE (log entry 92). -/
def execDoorbellLoad (bid : BitVec 12) (q : BitVec 16) (form : DbForm) (s : State) : Out :=
  .next (match s.bellLoad bid q form with
  | .ok v => { s with busReply := v }
  | .error _ => s)

/-! ### Fetch -/

/-- The slot counter after the entries already fetched. -/
def Queue.fetchPos (x : Queue) : BitVec 32 := x.sqHead + BitVec.ofNat 32 (x.fetched.map Item.slots).sum

/-- Slots ahead of H that the queue manager may read of an entry at a slot counter: up to 64 ahead of H (R267), but all of the entry
at the front, which could not be tested otherwise. DEDUCED (log entry 103). -/
def Queue.readRoom (x : Queue) (p : BitVec 32) (slots : Nat) : Nat :=
  if p = x.sqHead then slots else min slots (64 - (p - x.sqHead).toNat)

/-- Whether the queue manager reads on (R267, R274, R276). -/
def State.canFetch (s : State) (q : BitVec 16) : Bool :=
  let x := s.queue q
  x.exists_ && x.enable && (s.booth x.bid).st == .active && x.fetchPos != x.sqTail &&
    decide (x.part.length / 16 < x.readRoom x.fetchPos 256)

/-- The slots of the next entry are read as far as R267 allows, and an entry wholly read is tested (R268); a fault halts the Booth
(R274–R276). An entry of a release-ordered queue counts in F from here (R269). -/
def State.fetchRead (s : State) (q : BitVec 16) : State :=
  let x := s.queue q
  let p := x.fetchPos
  let bad (s : State) (st : BitVec 16) : State := s.haltBooth x.bid st q p.toNat
  let r := if x.part.isEmpty then State.ringRead 1 s x p else (s, .ok [])
  match r.2 with
  | .error e => r.1.haltBooth x.bid 0x0122 q e.1.toNat e.2
  | .ok h =>
    let hd : Item := { data := x.part ++ h }
    if 2 ^ x.sqLog < hd.slots then bad r.1 0x0102
    else if (x.sqTail - p).toNat < hd.slots then bad r.1 0x0102
    else
      let held := hd.data.length / 16
      let t := State.ringRead (x.readRoom p hd.slots - held) r.1 x (p + BitVec.ofNat 32 held)
      match t.2 with
      | .error e => t.1.haltBooth x.bid 0x0122 q e.1.toNat e.2
      | .ok l =>
        let data := hd.data ++ l
        if x.readRoom p hd.slots < hd.slots then t.1.setQueue q { t.1.queue q with part := data } else
        let e : Item := { q := q, cls := x.cls, bid := x.bid, tag := BitVec.ofNat 32 (leVal ((data.drop 4).take 4)), data := data,
                          slot := p, role := x.role, flow := x.flow }
        match structTest e x.role with
        | some st => bad t.1 st
        | none => t.1.setQueue q { t.1.queue q with fetched := x.fetched ++ [e], part := []
                                                    inflight := if x.role = 2 then x.inflight + 1 else x.inflight }

/-- An ordered entry goes from the front into its item's cell, or is refused (R248): when R269 lets it, or at once where the terminal of
the job that rang it follows (R249). -/
def State.storeOrdered (s : State) (q : BitVec 16) (now : Bool) : State :=
  let x := s.queue q
  match x.fetched.head? with
  | none => s
  | some e =>
    if !((now || s.mayDispatch q e) && s.regBit Reg.domCtl 0) then s else
    let s := (s.takeFront q).1
    let fl := s.flow x.flow
    let sq := e.tag
    if (fl.nextStamp - fl.nextRel).toNat ≤ (sq - fl.nextRel).toNat then s.post q { status := 0x0460, tag := e.tag }
    else if (fl.cell sq).entry.isSome then s.post q { status := 0x0461, tag := e.tag }
    else (s.setFlow x.flow (fl.setCell sq { fl.cell sq with entry := some { e with seq := sq } })).cellWrite x.flow sq

/-- The fetch of one entry: read if none of a release-ordered queue waits, and an ordered entry is stored. -/
def State.fetchOne (s : State) (q : BitVec 16) (now : Bool := false) : State :=
  let s := if s.canFetch q && ((s.queue q).role != 2 || (s.queue q).fetched.isEmpty) then s.fetchRead q else s
  if (s.queue q).role = 2 then s.storeOrdered q now else s

/-- The entries of a release-ordered queue up to a tail are fetched (R249), whatever R269 would have them wait for.
DEDUCED (log entry 102). -/
def State.fetchUpTo : Nat → State → BitVec 16 → BitVec 32 → State
  | 0, s, _, _ => s
  | k + 1, s, q, tail =>
    let x := s.queue q
    let d := (tail - x.sqHead).toNat
    if x.role ≠ 2 ∨ d = 0 ∨ (x.sqTail - x.sqHead).toNat < d then s
    else
      let t := s.fetchOne q true
      if (t.queue q).sqHead = x.sqHead then t else State.fetchUpTo k t q tail

/-- The register QM_QCTL of a queue is written (R274): clearing ENABLE drops what was fetched. -/
def qctlWrite (q : BitVec 16) (v : BitVec 32) (s : State) : State :=
  let x := s.queue q
  if !x.exists_ then s
  else if v.getLsbD 0 then s.setQueue q { x with enable := true }
  else s.setQueue q { x.dropFetched with enable := false }

/-- QM_QCTL_WRITE (R274). -/
def execQmQctlWrite (q : BitVec 16) (v : BitVec 32) (s : State) : Out := .next (qctlWrite q v s)

end Sys2Proof.Machine
end

