-- ==== Sys2Proof/Machine/Admin.lean ====
section
/-! DEFINITION. Sys2Proof/Machine/Admin.lean: the admin commands (R278–R285, R462). -/

namespace Sys2Proof.Machine

/-- Contexts in use by a Booth's jobs (R284). -/
def State.ctxInUse (s : State) (bid : BitVec 12) : Nat :=
  (s.ctxs.filter fun e => decide (e.1 < 2048) && e.2.st != .free && e.2.bid == bid).length

/-- Use of a counted resource by a Booth (R284). -/
def State.inUse (s : State) (bid : BitVec 12) (r : Nat) : Nat :=
  match r with
  | 0 => (s.queues.filter fun e => e.2.exists_ && e.2.bid == bid).length
  | 1 => s.ctxInUse bid
  | 2 => (s.spy.tables.filter fun e => e.2.exists_ && e.2.owner == bid).length
  | 3 => ((s.spy.tables.filter fun e => e.2.exists_ && e.2.owner == bid).map fun e => e.2.segs.length).sum
  | 4 => (s.eng.dg.filter fun e => e.2.alloc && e.2.bid == bid && e.1 != 4095).length
  | 5 => (s.eng.cz.filter fun e => e.2.open_ && e.2.bid == bid).length
  | 6 => (s.alm.ns.filter fun e => e.2.exists_ && e.2.bid == bid).length
  | 7 => s.boothF bid
  | _ => 0

/-- The entry of the direct admin port (R278): 64 bytes, slots beyond LEN ignored. -/
def State.directItem (s : State) : Item :=
  { q := 0, cls := 0
    tag := BitVec.ofNat 32 (fld (s.reg (Reg.qmAdmEntry 0)) 32 32)
    data := (List.range 8).flatMap fun i => leBytes 8 (s.reg (Reg.qmAdmEntry i)).toNat }

/-- ADMIN_DIRECT_GO (R278): the entry is tested; a malformed one halts Booth 0, any other waits for its turn. -/
def admGo (s : State) : State :=
  if s.admGo then s else
  let e := s.directItem
  match structTest e 0 with
  | some st => (s.setRegBit Reg.qmAdmCtl 1 true).haltBooth 0 st 0 0
  | none => { s with admGo := true }
def execAdminDirectGo (s : State) : Out := .next (admGo s)

/-- The completion of an admin command goes to QID 0 or to the direct port's result registers (R278, R281). -/
def State.admDone (s : State) (src : AdmSrc) (e : Item) (st : BitVec 16) (res : W64 := 0) : State :=
  match src with
  | .ring => s.complete e st res
  | .direct =>
    let s := s.setReg Reg.qmAdmRes0 (BitVec.ofNat 64 (st.toNat + e.tag.toNat * 2 ^ 32))
    { s.setReg Reg.qmAdmRes1 res with admGo := false }

/-- One admin command (R270): it runs after the one before it has completed, from QID 0 or from the direct port. -/
def adminCmd (op : Nat) (src : AdmSrc) (body : Item → State → State) (s : State) : State :=
  if s.adm.isSome then s else
  match src with
  | .ring => dispatch 0 op 0 always body s
  | .direct =>
    if s.admGo ∧ s.directItem.opcode = op ∧ s.mode ≠ modeHoldup then body s.directItem s else s

/-- An admin command with its tests in the order of R462: the first that holds gives the status, else the effect runs. -/
def admin (op : Nat) (src : AdmSrc) (tests : Item → State → List (Bool × BitVec 16)) (eff : Item → State → State × W64)
    (s : State) : State :=
  adminCmd op src (fun e s =>
    match firstFail (tests e s) with
    | some st => s.admDone src e st
    | none => let r := eff e s; r.1.admDone src e 0 r.2) s

/-- The BID of bytes 8–9 (or 12–13 for CREATE_QUEUE). -/
def Item.bidAt (e : Item) (k : Nat) : BitVec 12 := BitVec.ofNat 12 (e.fieldN k 2)
def Item.bidBad (e : Item) (k : Nat) : Bool := decide (4095 < e.fieldN k 2)
def State.boothFree (s : State) (b : BitVec 12) : Bool := (s.booth b).st == .free

/-- The lowest FREE BID from 1 upward (R281). -/
def State.freeBooth (s : State) : Option Nat := (firstIdx 4095 fun i => s.boothFree (BitVec.ofNat 12 (i + 1))).map (· + 1)

/-- CREATE_BOOTH (R281). -/
def execCreateBooth (src : AdmSrc) (s : State) : Out :=
  .next (admin 1 src
    (fun e s =>
      let any := decide (e.fieldN 10 1 % 2 = 1)
      [(!any && e.bidBad 8, 0x0401), (!any && !s.boothFree (e.bidAt 8), 0x0201), (any && s.freeBooth.isNone, 0x0321)])
    (fun e s =>
      let b := if e.fieldN 10 1 % 2 = 1 then BitVec.ofNat 12 (s.freeBooth.getD 0) else e.bidAt 8
      (s.setBooth b { st := .active }, b.setWidth 64)) s)

/-- DESTROY_BOOTH (R281, R280). -/
def execDestroyBooth (src : AdmSrc) (s : State) : Out :=
  .next (admin 2 src
    (fun e s =>
      let b := e.bidAt 8
      [(e.bidBad 8, 0x0401),
        (s.boothFree b || b == 0 || decide (s.inUse b 0 ≠ 0) || decide (s.inUse b 2 ≠ 0) || decide (s.inUse b 6 ≠ 0) ||
          s.flows.any (fun f => f.2.en && f.2.bid == b) || decide (s.ctxInUse b ≠ 0) || decide (s.inUse b 4 ≠ 0) ||
          decide (s.inUse b 5 ≠ 0), 0x0201)])
    (fun e s => (s.setBooth (e.bidAt 8) {}, 0)) s)

/-- RESET_BOOTH's steps 2 and 3 (R279): the total of slots discarded. -/
def State.resetBooth (s : State) (b : BitVec 12) : State × W64 :=
  let mine := s.queues.filter fun e => e.2.exists_ && e.2.bid == b
  let n := (mine.map fun e => (e.2.sqTail - e.2.sqHead).toNat).sum
  let s := mine.foldl (fun s e =>
    let q := BitVec.ofNat 16 e.1
    let x := s.queue q
    s.setQueue q { x.dropFetched with enable := false, sqHead := x.sqTail }) s
  let x := s.booth b
  (s.setBooth b { x with st := .active, more := false, cause := 0, haltQ := 0, detail := 0 }, BitVec.ofNat 64 (n % 2 ^ 32))

/-- RESET_BOOTH (R279): it waits until the Booth has no entry in flight. -/
def execResetBooth (src : AdmSrc) (s : State) : Out :=
  .next (adminCmd 3 src (fun e s =>
    match firstFail [(e.bidBad 8, (0x0401 : BitVec 16)), ((s.booth (e.bidAt 8)).st != .halted, 0x0201)] with
    | some st => s.admDone src e st
    | none =>
      if s.boothF (e.bidAt 8) = 0 then let r := s.resetBooth (e.bidAt 8); r.1.admDone src e 0 r.2
      else { s with adm := some (e.bidAt 8, src, e.tag) }) s)

/-- RESET_BOOTH_DISCARD: the waiting RESET_BOOTH finishes once BOOTH_INFLIGHT is 0 (R279). -/
def execResetBoothDiscard (s : State) : Out :=
  .next (match s.adm with
  | none => s
  | some (b, src, tag) =>
    if s.boothF b ≠ 0 then s else
    let r := s.resetBooth b
    { r.1 with adm := none }.admDone src { tag := tag } 0 r.2)

/-- The lowest free QID. -/
def State.freeQueue (s : State) : Option Nat := (firstIdx 65535 fun i => !(s.queue (BitVec.ofNat 16 (i + 1))).exists_).map (· + 1)

/-- Whether a class may take a role (R258). -/
def roleOk (cls role : Nat) : Bool := role == 0 || role == 1 || (role == 2 && cls != 1 && cls != 6)
/-- Whether a class may have a producer (R259). -/
def prodOk (cls prod : Nat) : Bool := prod == 0 || (prod == 1 && cls == 1) || (prod == 2 && cls == 6)

/-- The fields of CREATE_QUEUE outside their ranges (R282). -/
def Item.queueBad (e : Item) (s : State) : Bool :=
  let any := decide (e.fieldN 10 1 % 2 = 1)
  let evt := decide (e.fieldN 10 1 / 2 % 2 = 1)
  let cls := e.fieldN 11 1
  let sq := e.fieldN 14 1
  let cq := e.fieldN 15 1
  let role := e.fieldN 34 1
  let src := e.fieldN 38 2
  let inR (n lo hi : Nat) : Bool := decide (lo ≤ n) && decide (n ≤ hi)
  !((any || e.fieldN 8 2 != 0) && inR cls 1 7 && !e.bidBad 12 && inR sq 4 20 && inR cq 4 20 &&
    e.fieldN 16 8 % (16 * 2 ^ sq) == 0 && e.fieldN 24 8 % (16 * 2 ^ cq) == 0 && inR role 0 2 && roleOk cls role &&
    prodOk cls (e.fieldN 10 1 / 4 % 4) && inR (e.fieldN 35 1) 0 3 && inR (e.fieldN 36 2) 1 4096 &&
    (if evt then inR src 256 4095 else src == 0) && (if cls = 1 then e.fieldN 40 1 != 0 else e.fieldN 40 1 == 0) &&
    (role == 0 || (s.flow (BitVec.ofNat 16 (e.fieldN 32 2))).bid == e.bidAt 12))

/-- The queue that CREATE_QUEUE describes (R282): ENABLE 0, every counter 0. -/
def Item.newQueue (e : Item) : Queue :=
  { exists_ := true, cls := e.fieldN 11 1, prod := e.fieldN 10 1 / 4 % 4, evt := decide (e.fieldN 10 1 / 2 % 2 = 1)
    prio := BitVec.ofNat 2 (e.fieldN 35 1), sqLog := e.fieldN 14 1, cqLog := e.fieldN 15 1, bid := e.bidAt 12
    sqBase := e.word 16, cqBase := e.word 24, flow := BitVec.ofNat 16 (e.fieldN 32 2), role := e.fieldN 34 1
    slices := BitVec.ofNat 8 (e.fieldN 40 1), src := BitVec.ofNat 12 (e.fieldN 38 2), maxInflight := e.fieldN 36 2 }

/-- A queue comes into being; its counters start at 0. -/
def State.addQueue (s : State) (q : BitVec 16) (x : Queue) : State :=
  let s := s.setQueue q x
  ((s.setReg (Reg.qmQdisp q.toNat) 0).setReg (Reg.qmQdrop q.toNat) 0).setReg (Reg.qmQstat q.toNat) 1

/-- CREATE_QUEUE (R282, R280). -/
def execCreateQueue (src : AdmSrc) (s : State) : Out :=
  .next (admin 4 src
    (fun e s =>
      let any := decide (e.fieldN 10 1 % 2 = 1)
      let b := e.bidAt 12
      let m := s.mode
      [(m == modeInit || m == modeQuiesce || m == modeHoldup, 0x0203), (e.queueBad s, 0x0401), (s.boothFree b, 0x0201),
        ((s.booth b).st == .halted, 0x0220),
        ((!any && (s.queue (BitVec.ofNat 16 (e.fieldN 8 2))).exists_) ||
          (e.fieldN 34 1 != 0 && !(s.flow (BitVec.ofNat 16 (e.fieldN 32 2))).en), 0x0201),
        (decide (s.quota b 0 ≤ s.inUse b 0), 0x0301), (any && s.freeQueue.isNone, 0x0320)])
    (fun e s =>
      let q := if e.fieldN 10 1 % 2 = 1 then BitVec.ofNat 16 (s.freeQueue.getD 0) else BitVec.ofNat 16 (e.fieldN 8 2)
      (s.addQueue q e.newQueue, q.setWidth 64)) s)

/-- QM_QSTAT.IDLE (R274). -/
def Queue.idle (x : Queue) : Bool := !x.enable && x.inflight == 0 && x.hold.isEmpty

/-- DESTROY_QUEUE (R281, R280). -/
def execDestroyQueue (src : AdmSrc) (s : State) : Out :=
  .next (admin 5 src
    (fun e s =>
      let q := BitVec.ofNat 16 (e.fieldN 8 2)
      [(q == 0 || !(s.queue q).exists_ || !(s.queue q).idle, 0x0201)])
    (fun e s => (s.setQueue (BitVec.ofNat 16 (e.fieldN 8 2)) {}, 0)) s)

/-- The region a window's target lies wholly in (R283): a memory range of R19 or the doorbell region. -/
def State.winRegion (s : State) (t n : Nat) : Option Region :=
  match s.region t with
  | some .csr => none
  | some r => if s.region (t + n - 1) = some r then some r else none
  | none => none

/-- The fields of SET_WINDOW outside their ranges (R283). -/
def Item.windowBad (e : Item) (s : State) : Bool :=
  let base := e.fieldN 16 8
  let size := e.fieldN 24 8
  let tgt := e.fieldN 32 8
  let attr := e.fieldN 12 1
  e.bidBad 8 || decide (4 < attr) || base % 65536 != 0 || size % 65536 != 0 || tgt % 65536 != 0 || size == 0 ||
    decide (2 ^ 48 < base + size) ||
    (match s.winRegion tgt size with
      | none => true
      | some .bell => attr != 3 || decide (e.fieldN 11 1 / 4 % 2 = 1)
      | some _ => false)

/-- SET_WINDOW (R283, R69). -/
def execSetWindow (src : AdmSrc) (s : State) : Out :=
  .next (admin 6 src
    (fun e s =>
      let b := e.bidAt 8
      let base := e.fieldN 16 8
      let size := e.fieldN 24 8
      [(e.windowBad s, 0x0401), (s.boothFree b, 0x0201),
        ((s.booth b).windows.any fun w => w.1 != e.fieldN 10 1 && w.2.valid && decide (w.2.base < base + size) &&
          decide (base < w.2.base + w.2.size), 0x0201)])
    (fun e s =>
      let b := e.bidAt 8
      let p := e.fieldN 11 1
      let w : Window := { valid := true, base := e.fieldN 16 8, size := e.fieldN 24 8, target := e.fieldN 32 8
                          r := decide (p % 2 = 1), w := decide (p / 2 % 2 = 1), x := decide (p / 4 % 2 = 1)
                          attr := attrOf (e.fieldN 12 1) }
      (s.setBooth b { s.booth b with windows := Tab.set {} (s.booth b).windows (e.fieldN 10 1) w }, 0)) s)

/-- CLEAR_WINDOW (R281). -/
def execClearWindow (src : AdmSrc) (s : State) : Out :=
  .next (admin 7 src
    (fun e s => [(e.bidBad 8, 0x0401), (s.boothFree (e.bidAt 8), 0x0201)])
    (fun e s =>
      let b := e.bidAt 8
      (s.setBooth b { s.booth b with windows := Tab.erase (s.booth b).windows (e.fieldN 10 1) }, 0)) s)

/-- SET_QUOTA (R284). -/
def execSetQuota (src : AdmSrc) (s : State) : Out :=
  .next (admin 8 src
    (fun e s => [(e.bidBad 8 || decide (7 < e.fieldN 10 1), 0x0401), (s.boothFree (e.bidAt 8), 0x0201)])
    (fun e s =>
      let b := e.bidAt 8
      (s.setBooth b { s.booth b with quota := Tab.set 0 (s.booth b).quota (e.fieldN 10 1) (BitVec.ofNat 32 (e.fieldN 16 4)) }, 0)) s)

/-- The default of a Booth's engine mask (R281). -/
def enginesDefault : BitVec 16 := 0xFFFF

/-- SET_SHARE (R281, R280, R285). -/
def execSetShare (src : AdmSrc) (s : State) : Out :=
  .next (admin 9 src
    (fun e s =>
      let b := e.bidAt 8
      let sl := e.fieldN 10 1
      let ways := BitVec.ofNat 16 (e.fieldN 12 2)
      [(s.mode == modeSealed, 0x0203), (e.bidBad 8 || decide (7 < sl), 0x0401), (s.boothFree b, 0x0201),
        (s.booths.any fun x => x.1 != b.toNat && x.2.st != .free && (Tab.get 0 x.2.ways sl &&& ways) != 0, 0x0201)])
    (fun e s =>
      let b := e.bidAt 8
      let x := s.booth b
      let sl := e.fieldN 10 1
      (s.setBooth b { x with ways := Tab.set 0 x.ways sl (BitVec.ofNat 16 (e.fieldN 12 2))
                             engines := Tab.set enginesDefault x.engines sl (BitVec.ofNat 16 (e.fieldN 14 2)) }, 0)) s)

end Sys2Proof.Machine
end

