-- ==== Sys2Proof/Machine/Hash.lean ====
section
/-! DEFINITION. Sys2Proof/Machine/Hash.lean: SHA-2 and SHA-3 as R362 names them (FIPS 180-4, FIPS 202), CRC-32, CRC-32C and
Adler-32. A hash state is 200 bytes held as one number: SHA-2 words little-endian upward from bit 0, or the SHA-3 string (R368). -/

namespace Sys2Proof

/-- The largest number above r by b bits whose n-th power does not pass k. -/
def rootGo (n k : Nat) : Nat → Nat → Nat
  | 0, r => r
  | b + 1, r => bif Nat.ble ((r + 2 ^ b) ^ n) k then rootGo n k b (r + 2 ^ b) else rootGo n k b r
/-- The first 64 bits of the fraction of the n-th root of a number: the form in which FIPS 180-4 gives its constants. -/
def fracRoot (n p : Nat) : W64 := BitVec.ofNat 64 (rootGo n (p * 2 ^ (64 * n)) 69 0)
/-- The first eighty primes: the numbers from 2 to 409 with no divisor from 2 to 20 but themselves. -/
def shaPrimes : List Nat :=
  ((List.range 408).map (2 + ·)).filter fun p => ((List.range 19).map (2 + ·)).all fun d => d == p || p % d != 0

/-- Constants K of SHA-384, SHA-512 and SHA-512/256, from cube roots; SHA-256 uses the high halves of the first 64. -/
def shaK : List W64 := shaPrimes.map (fracRoot 3)

/-- Initial values of SHA-512 and SHA-384, from square roots; SHA-256's are the high halves of SHA-512's. -/
def iv512 : List W64 := (shaPrimes.take 8).map (fracRoot 2)
def iv384 : List W64 := ((shaPrimes.drop 8).take 8).map (fracRoot 2)
/-- The initial value of SHA-512/256, its first word in the lowest 64 bits. -/
def iv512t : BitVec 512 :=
  0x0eb72ddc81c52ca22b0199fc2c85b8aabe5e1e255386399296283ee2a88effe3963877195940eabd2393b86b6f53b1519f555fa3c84c64c222312194fc2bf72c

/-- The bit that the shift register of Keccak gives after t steps, and the register. -/
def keccakLfsr : Nat → BitVec 9
  | 0 => 1
  | t + 1 => let x := keccakLfsr t <<< 1; if x.getLsbD 8 then x ^^^ 0x171 else x
/-- Round constants of Keccak-f[1600]: bit 2^j - 1 is the shift register's bit 7 i + j. -/
def keccakRC : List W64 :=
  (List.range 24).map fun i => BitVec.ofNat 64 (((List.range 7).filter fun j => (keccakLfsr (7 * i + j)).getLsbD 0).foldl
    (fun a j => a + 2 ^ (2 ^ j - 1)) 0)

/-- The message schedule of SHA-2 for words of n bits: `steps` more words. -/
def shaSched {n : Nat} (s0 s1 : BitVec n → BitVec n) : Nat → List (BitVec n) → List (BitVec n)
  | 0, w => w
  | k + 1, w =>
    let t := w.length
    let g (i : Nat) : BitVec n := w.getD (t - i) 0
    shaSched s0 s1 k (w ++ [s1 (g 2) + g 7 + s0 (g 15) + g 16])

/-- One round of SHA-2 on its eight working variables, with a word of the schedule and its constant: the eighth leaves, a new first
enters, and the fourth gains on its way to the fifth place. -/
def shaRound {n : Nat} (S0 S1 : BitVec n → BitVec n) (v : List (BitVec n)) (wk : BitVec n × BitVec n) : List (BitVec n) :=
  let at_ (i : Nat) : BitVec n := v.getD i 0
  let choice := at_ 6 ^^^ (at_ 4 &&& (at_ 5 ^^^ at_ 6))
  let most := (at_ 0 &&& (at_ 1 ||| at_ 2)) ||| (at_ 1 &&& at_ 2)
  let x := S1 (at_ 4) + choice + at_ 7 + (wk.1 + wk.2)
  (S0 (at_ 0) + most + x) :: v.take 3 ++ (at_ 3 + x) :: (v.drop 4).take 3

/-- The compression function of SHA-2 on eight words. -/
def shaCompress {n : Nat} (S0 S1 s0 s1 : BitVec n → BitVec n) (ks hs w : List (BitVec n)) : List (BitVec n) :=
  hs.zipWith (· + ·) (((shaSched s0 s1 (ks.length - 16) w).zip ks).foldl (shaRound S0 S1) hs)

/-- The sum without carry of rotations of a word to the right, and of its shift. -/
def rots {n : Nat} (l : List Nat) (x : BitVec n) : BitVec n := l.foldl (fun a i => a ^^^ x.rotateRight i) 0
def rotsShift {n : Nat} (l : List Nat) (k : Nat) (x : BitVec n) : BitVec n := rots l x ^^^ (x >>> k)

/-- The sixteen words of a block. -/
def blockWords (n : Nat) (blk : List Byte) : List (BitVec n) :=
  (List.range 16).map fun i => BitVec.ofNat n (beVal ((blk.drop (n / 8 * i)).take (n / 8)))

/-- One block of SHA-256. -/
def sha256Block (hs : List (BitVec 32)) (blk : List Byte) : List (BitVec 32) :=
  shaCompress (rots [2, 13, 22]) (rots [6, 11, 25]) (rotsShift [7, 18] 3) (rotsShift [17, 19] 10)
    ((shaK.take 64).map fun k => k.extractLsb' 32 32) hs (blockWords 32 blk)

/-- One block of SHA-512. -/
def sha512Block (hs : List W64) (blk : List Byte) : List W64 :=
  shaCompress (rots [28, 34, 39]) (rots [14, 18, 41]) (rotsShift [1, 8] 7) (rotsShift [19, 61] 6) shaK hs (blockWords 64 blk)

/-! ### Keccak -/

/-- Lane (x, y) of a state of 25 lanes. -/
def lane (a : List W64) (x y : Nat) : W64 := a.getD (x % 5 + 5 * (y % 5)) 0
/-- The 25 lanes computed by a function of x and y. -/
def lanes (f : Nat → Nat → W64) : List W64 := (List.range 25).map fun i => f (i % 5) (i / 5)

/-- The walk of the step ρ: its t-th lane, as x and y. -/
def rhoAt : Nat → Nat × Nat
  | 0 => (1, 0)
  | t + 1 => let p := rhoAt t; (p.2, (2 * p.1 + 3 * p.2) % 5)
/-- Rotation offsets of the step ρ, at x + 5 y: the triangular number of the walk's step. -/
def keccakRot : List Nat :=
  (List.range 25).map fun i =>
    let t := ((List.range 24).filter fun t => (rhoAt t).1 + 5 * (rhoAt t).2 == i)
    (t.map fun t => (t + 1) * (t + 2) / 2 % 64).headD 0

/-- One round of Keccak-f[1600]. -/
def keccakRound (a : List W64) (rc : W64) : List W64 :=
  let col (x : Nat) : W64 := lane a x 0 ^^^ lane a x 1 ^^^ lane a x 2 ^^^ lane a x 3 ^^^ lane a x 4
  let a := lanes fun x y => lane a x y ^^^ col ((x + 4) % 5) ^^^ (col ((x + 1) % 5)).rotateLeft 1
  let b := lanes fun x y =>
    let x0 := (x + 3 * y) % 5
    (lane a x0 x).rotateLeft (keccakRot.getD (x0 + 5 * x) 0)
  let c := lanes fun x y => lane b x y ^^^ (~~~(lane b (x + 1) y) &&& lane b (x + 2) y)
  c.set 0 (lane c 0 0 ^^^ rc)
def keccakF (a : List W64) : List W64 := keccakRC.foldl keccakRound a

/-! ### The algorithms of R362 -/

/-- Block or rate, and digest length in bytes. -/
def algBlock (alg : Nat) : Nat := match alg with | 1 => 64 | 2 | 3 | 4 => 128 | 5 => 136 | _ => 72
def algDigest (alg : Nat) : Nat := match alg with | 1 | 4 | 5 => 32 | 2 => 48 | _ => 64

/-- State words as one number, and back. -/
def packWords {n : Nat} (l : List (BitVec n)) : BitVec 1600 :=
  BitVec.ofNat 1600 (l.foldr (fun w acc => w.toNat + acc * 2 ^ n) 0)
def wordsOf (n k : Nat) (s : BitVec 1600) : List (BitVec n) := (List.range k).map fun i => s.extractLsb' (n * i) n

/-- The initial value of an algorithm. -/
def algInit (alg : Nat) : BitVec 1600 :=
  match alg with
  | 1 => packWords (iv512.map fun w => w.extractLsb' 32 32)
  | 2 => packWords iv384
  | 3 => packWords iv512
  | 4 => iv512t.setWidth 1600
  | _ => 0

/-- One whole block is absorbed. -/
def algAbsorb (alg : Nat) (s : BitVec 1600) (blk : List Byte) : BitVec 1600 :=
  match alg with
  | 1 => packWords (sha256Block (wordsOf 32 8 s) blk)
  | 2 | 3 | 4 => packWords (sha512Block (wordsOf 64 8 s) blk)
  | _ => packWords (keccakF (wordsOf 64 25 (s ^^^ BitVec.ofNat 1600 (leVal blk))))

/-- Bytes join the pending ones; every whole block is absorbed. The answer is the state and the pending bytes. -/
def algFeedGo : Nat → Nat → BitVec 1600 → List Byte → BitVec 1600 × List Byte
  | 0, _, s, b => (s, b)
  | k + 1, alg, s, b =>
    if b.length < algBlock alg then (s, b)
    else algFeedGo k alg (algAbsorb alg s (b.take (algBlock alg))) (b.drop (algBlock alg))
def algFeed (alg : Nat) (s : BitVec 1600) (buf data : List Byte) : BitVec 1600 × List Byte :=
  algFeedGo ((buf.length + data.length) / algBlock alg + 1) alg s (buf ++ data)

/-- The padding that a message of `len` bytes takes, after `pend` pending bytes. -/
def algPad (alg pend len : Nat) : List Byte :=
  let b := algBlock alg
  match alg with
  | 1 => [0x80] ++ List.replicate ((b + 55 - pend) % b) 0 ++ beBytes 8 (8 * len)
  | 2 | 3 | 4 => [0x80] ++ List.replicate ((b + 111 - pend) % b) 0 ++ beBytes 16 (8 * len)
  | _ => if b - pend = 1 then [0x86] else [0x06] ++ List.replicate (b - pend - 2) 0 ++ [0x80]

/-- The digest of a message from its state, pending bytes and length. -/
def algFinish (alg : Nat) (s : BitVec 1600) (buf : List Byte) (len : Nat) : List Byte :=
  let r := algFeed alg s buf (algPad alg buf.length len)
  let w : List Byte := match alg with
    | 1 => (wordsOf 32 8 r.1).flatMap fun x => beBytes 4 x.toNat
    | 2 | 3 | 4 => (wordsOf 64 8 r.1).flatMap fun x => beBytes 8 x.toNat
    | _ => leBytes 200 r.1.toNat
  w.take (algDigest alg)

/-- SHA-256 of bytes, as a number whose byte 0 is the digest's first byte (R8, R322). -/
def sha256 (m : List Byte) : BitVec 256 :=
  let r := algFeed 1 (algInit 1) [] m
  BitVec.ofNat 256 (leVal (algFinish 1 r.1 r.2 m.length))

/-! ### Check values -/

/-- A reflected CRC-32 step over a byte. -/
def crcByte (poly c : BitVec 32) (b : Byte) : BitVec 32 :=
  (List.range 8).foldl (fun c _ => if c.getLsbD 0 then (c >>> 1) ^^^ poly else c >>> 1) (c ^^^ b.setWidth 32)
/-- CRC-32C (Castagnoli) and CRC-32 (IEEE 802.3) of bytes. -/
def crc32c (l : List Byte) : BitVec 32 := ~~~(l.foldl (crcByte 0x82F63B78) 0xFFFFFFFF)
def crc32 (l : List Byte) : BitVec 32 := ~~~(l.foldl (crcByte 0xEDB88320) 0xFFFFFFFF)
/-- Adler-32 (RFC 1950). -/
def adler32 (l : List Byte) : BitVec 32 :=
  let r := l.foldl (fun (p : Nat × Nat) b => let a := (p.1 + b.toNat) % 65521; (a, (p.2 + a) % 65521)) (1, 0)
  BitVec.ofNat 32 (r.2 * 65536 + r.1)

end Sys2Proof
end

