-- ==== Sys2Proof/Machine/ModeCore.lean ====
section
/-! DEFINITION. Sys2Proof/Machine/ModeCore.lean: what several blocks do to DEV_MODE: write protection (R424), the start of a mode
epoch (R426), and Almanac's request for READONLY (R311). -/

namespace Sys2Proof.Machine

/-- DEV_MODE.WP follows RO_MEDIA and FORCE; source 41 is raised when it becomes 1 (R424). -/
def State.wpUpdate (s : State) : State :=
  let wp := s.regBit Reg.almStat 4 || s.regBit Reg.devModeStat 17
  let old := s.regBit Reg.devMode 7
  let s := s.setRegBit Reg.devMode 7 wp
  if wp && !old then s.raise 41 else s

/-- Step 1 of a mode epoch (R426). -/
def State.startEpoch (s : State) (target : Nat) : State :=
  let v := s.reg Reg.devMode
  let v := setFld v 16 16 (fld v 16 16 + 1)
  let v := setFld (setBit (setFld v 32 17 0) 6 true) 3 3 target
  { s.setReg Reg.devMode v with ctl := { s.ctl with epochAt := s.mer.ns, prev := s.mode } }

/-- Almanac requests READONLY (R311, R424): write protection takes effect at once; the epoch starts from SERVICE only, and after
any epoch in progress. -/
def State.almReadonly (s : State) : State :=
  if s.regBit Reg.almStat 4 then s else
  let s := (s.setRegBit Reg.almStat 4 true).wpUpdate
  if s.regBit Reg.devMode 6 then { s with ctl := { s.ctl with almReq := true } }
  else if s.mode = modeService then s.startEpoch modeReadonly
  else s

end Sys2Proof.Machine
end

