-- ==== Sys2Proof/Machine/Almanac.lean ====
section
/-! DEFINITION. Sys2Proof/Machine/Almanac.lean: the flash translation layer's tables, blocks, programs, relocation, checkpoints
and namespaces (R287–R316, R320–R322). Records of MRAM (R435) are written here too. -/

namespace Sys2Proof.Machine

/-- Almanac changes. -/
def State.onAlm (s : State) (f : Almanac → Almanac) : State := { s with alm := f s.alm }

/-! ### Locations and geometry (R294, R287, R293) -/

/-- A location is a map entry's bits [43:2]: the block, its page and the slot. -/
def locAt (blk page slot : Nat) : Nat := blk + page * 2 ^ 28 + slot * 2 ^ 40
def blkOf (loc : Nat) : Nat := loc % 2 ^ 28
def pageOf (loc : Nat) : Nat := loc / 2 ^ 28 % 4096
def slotOf (loc : Nat) : Nat := loc / 2 ^ 40
/-- The map entry of a location, and of a lost unit. -/
def entryOf (loc : Nat) : Nat := 1 + 4 * loc
def lostEntry : Nat := 2
/-- Channel, LUN (CH, TGT, LUN packed), plane and block number of a block. -/
def chOf (blk : Nat) : Nat := blk % 32
def lunOf (blk : Nat) : Nat := blk % 1024
def planeOf (blk : Nat) : Nat := blk / 1024 % 4
def blockOf (blk : Nat) : Nat := blk / 4096

/-- Slots of a program unit and of a block; blocks in all. -/
def Geom.unit (g : Geom) : Nat := g.spp * g.wlp
def Geom.perBlk (g : Geom) : Nat := g.spp * g.ppb
def Geom.nblk (g : Geom) : Nat := g.luns.length * g.planes * g.bpp
/-- The blocks of a LUN group, ascending by target, LUN, plane and block. -/
def Geom.blocks (g : Geom) (ch : Nat) : List Nat :=
  (g.luns.filter fun l => decide (l % 32 = ch)).flatMap fun l =>
    (List.range g.planes).flatMap fun p => (List.range g.bpp).map fun b => l + p * 1024 + b * 4096
def Geom.allBlocks (g : Geom) : List Nat := (List.range 32).flatMap g.blocks
/-- The place of a block in the block table: ascending channel, target, LUN, plane and block. -/
def Geom.blkIdx (g : Geom) (blk : Nat) : Nat :=
  g.luns.idxOf (lunOf blk) * (g.planes * g.bpp) + planeOf blk * g.bpp + blockOf blk

/-! ### The tables in DDR5 (R293) -/

def State.mapBase (s : State) : Nat := (s.reg Reg.almMapBase).toNat
/-- C in GiB. -/
def State.capC (s : State) : Nat := fld (s.reg Reg.almCap) 0 32
def blkTabBytes (g : Geom) : Nat := ceilDiv (8 * g.nblk) 4096 * 4096
def State.tabPages (s : State) : Nat := 512 * s.capC + blkTabBytes s.alm.geom / 4096
def State.entryAddr (s : State) (u : Nat) : Nat := s.mapBase + 8 * u
def State.blkAddr (s : State) (blk : Nat) : Nat := s.mapBase + 2 ^ 21 * s.capC + 8 * s.alm.geom.blkIdx blk
def State.dirAddr (s : State) (p : Nat) : Nat := s.mapBase + 4096 * s.tabPages + 8 * p

def State.mem64 (s : State) (a : Nat) : Nat := leVal (s.peekN a 8)
/-- Almanac reads a word of its tables: what a read does at the memory controllers (R387, R391–R393). DESIGN CHOICE (log entry 109). -/
def State.tabTouch (s : State) (a : Nat) : State := (s.busRead a 8 2).1
/-- DESIGN CHOICE (log entry 4). -/
def State.nslot (s : State) (loc : Nat) : NSlot := Tab.get {} s.alm.nand loc
def State.setNslot (s : State) (loc : Nat) (x : NSlot) : State := s.onAlm fun a => { a with nand := Tab.set {} a.nand loc x }

/-- Bytes 0–91 of a slot's metadata, its CRC, and what the slot occupies but for the parity bytes of its code word (R297). -/
def NSlot.metaBytes (x : NSlot) : List Byte :=
  leBytes 8 x.lba ++ leBytes 8 x.seq ++ leBytes 2 x.nsid ++ leBytes 1 x.kind ++ leBytes 1 (x.copy.toNat + x.ext.toNat * 2) ++
    leBytes 2 x.used ++ leBytes 2 0 ++ leBytes 8 x.src.toNat ++ leBytes 32 x.chain.toNat ++ leBytes 28 0
def NSlot.crc (x : NSlot) : BitVec 32 := crc32c (leBytes 4096 x.data.toNat ++ x.metaBytes)
def NSlot.bytes (x : NSlot) : List Byte := leBytes 4096 x.data.toNat ++ x.metaBytes ++ leBytes 4 x.crc.toNat

/-- Whether a table page is in the map region: all are but while MAPLOAD (R317). -/
def State.pageIn (s : State) (p : Nat) : Bool := !s.regBit Reg.almStat 2 || decide (p ∈ s.alm.loaded)

/-- A table page that is needed is loaded first (R317). -/
def State.pageLoad (s : State) (p : Nat) : State :=
  if s.pageIn p then s else
  let s := s.tabTouch (s.dirAddr p)
  let e := s.mem64 (s.dirAddr p)
  let d := if e % 2 = 1 then (s.nslot (e / 4)).data.toNat else 0
  (s.busWrite (s.mapBase + 4096 * p) (leBytes 4096 d)).onAlm fun a => { a with loaded := p :: a.loaded }

/-- An 8-byte table entry, from its page's NAND copy where the page is not loaded. -/
def State.tab64 (s : State) (a : Nat) : Nat :=
  let p := (a - s.mapBase) / 4096
  if s.pageIn p then s.mem64 a
  else
    let e := s.mem64 (s.dirAddr p)
    if e % 2 = 1 then (s.nslot (e / 4)).data.toNat / 2 ^ (8 * ((a - s.mapBase) % 4096)) % 2 ^ 64 else 0

/-- A table page becomes dirty, by the slot with a SEQ (R312). -/
def State.dirtyAdd (s : State) (p sq : Nat) : State :=
  s.onAlm fun a => { a with dirty := if a.dirty.any fun d => d.1 == p then a.dirty.map fun d => if d.1 = p then (p, min d.2 sq) else d
                                     else a.dirty ++ [(p, sq)] }

/-- A table entry is written, and its page becomes dirty. -/
def State.setTab64 (s : State) (a v sq : Nat) : State :=
  let p := (a - s.mapBase) / 4096
  (((s.pageLoad p).tabTouch a).busWrite a (leBytes 8 v)).dirtyAdd p sq

/-- The SEQ of the last slot issued. -/
def State.lastSeq (s : State) : Nat := (s.reg Reg.almSeq).toNat - 1

/-- A block's block-table entry (ALM_BLK_INFO), and its fields. -/
def State.blkInfo (s : State) (blk : Nat) : W64 := BitVec.ofNat 64 (s.tab64 (s.blkAddr blk))
def State.setBlkInfo (s : State) (blk : Nat) (v : W64) (sq : Nat) : State := s.setTab64 (s.blkAddr blk) v.toNat sq
def State.blkState (s : State) (blk : Nat) : Nat := fld (s.blkInfo blk) 0 2
def State.setBlkState (s : State) (blk st : Nat) : State := s.setBlkInfo blk (setFld (s.blkInfo blk) 0 2 st) s.lastSeq
def State.blkPe (s : State) (blk : Nat) : Nat := fld (s.blkInfo blk) 8 16
def State.blkLive (s : State) (blk : Nat) : Nat := fld (s.blkInfo blk) 48 15

/-- The LIVE count of the block of a valid entry changes by one. -/
def State.liveAdd (s : State) (e : Nat) (up : Bool) (sq : Nat) : State :=
  if e % 2 = 0 then s else
  let b := blkOf (e / 4)
  let n := s.blkLive b
  s.setBlkInfo b (setFld (s.blkInfo b) 48 15 (if up then n + 1 else n - 1)) sq

/-- The map entry of a global unit changes (R294). -/
def State.mapSet (s : State) (u e sq : Nat) : State :=
  let s := (s.pageLoad (u / 512)).tabTouch (s.entryAddr u)
  let old := s.tab64 (s.entryAddr u)
  if old = e then s else ((s.liveAdd old false sq).liveAdd e true sq).setTab64 (s.entryAddr u) e sq

/-- The global unit of a namespace's unit, and its map entry. -/
def State.gunit (s : State) (nsid lba : Nat) : Nat := (s.ns nsid).lbase + lba
def State.mapOf (s : State) (nsid lba : Nat) : Nat := s.tab64 (s.entryAddr (s.gunit nsid lba))
/-- The map entry of a unit as a command reads it, its page loaded first (R317): with the status of a bus error (R391). -/
def State.entryRead (s : State) (nsid lba : Nat) : State × Option (BitVec 16) × Nat :=
  let u := s.gunit nsid lba
  let r := (s.pageLoad (u / 512)).busRead (s.entryAddr u) 8 2
  (r.1, r.2.1, leVal r.2.2)

/-! ### Blocks -/

/-- Slots written in a block, in page order. -/
def State.blkSlots (s : State) (blk : Nat) : List (Nat × NSlot) :=
  (s.alm.nand.filter fun e => decide (blkOf e.1 = blk)).insertionSort fun a b =>
    pageOf a.1 < pageOf b.1 ∨ (pageOf a.1 = pageOf b.1 ∧ slotOf a.1 ≤ slotOf b.1)

/-- Free blocks of a group outside spares and reserve, and its spares and reserve (R289). -/
def State.freeBlks (s : State) (g : Nat) : List Nat :=
  (s.alm.geom.blocks g).filter fun b => let v := s.blkInfo b; decide (fld v 0 2 = 0) && !bitAt v 2 && !bitAt v 3
def State.spareBlks (s : State) (g : Nat) : List Nat :=
  (s.alm.geom.blocks g).filter fun b => let v := s.blkInfo b; decide (fld v 0 2 = 0) && bitAt v 2
def State.rsvBlks (s : State) (g : Nat) : List Nat :=
  (s.alm.geom.blocks g).filter fun b => let v := s.blkInfo b; decide (fld v 0 2 = 0) && bitAt v 3

/-- The block with the lowest erase count, the lowest address among equals (R308). -/
def State.leastWorn (s : State) (l : List Nat) : Option Nat :=
  let m := (l.map s.blkPe).foldl min 65536
  l.find? fun b => s.blkPe b = m

/-- A block waits for its retirement: until buffer entries are programmed again (R301) and its live slots are relocated (R310). -/
def State.queueRetire (s : State) (blk cause : Nat) (ids : List Nat) : State :=
  if s.blkState blk = 3 ∨ s.alm.retiring.any (fun e => e.1 == blk) then s
  else s.onAlm fun a => { a with retiring := a.retiring ++ [(blk, cause, ids)] }

/-- A block is retired (R310): a spare takes its place; without one the device becomes read-only (R311). -/
def State.retireBlk (s : State) (blk cause : Nat) : State :=
  if s.blkState blk = 3 then s else
  let s := s.setBlkInfo blk (setFld (setFld (s.blkInfo blk) 0 2 3) 4 4 cause) s.lastSeq
  let s := ((s.setRegBit Reg.almStat 8 true).bump (Reg.almCnt 4)).raiseEvt Reg.almEvt
  let s := s.onAlm fun a => { a with opens := a.opens.filter fun o => o.blk != blk
                                     closed := a.closed.filter (· != blk), victims := a.victims.filter (· != blk)
                                     retiring := a.retiring.filter fun e => e.1 != blk
                                     dests := (List.map (fun (e : Nat × List Nat) => (e.1, e.2.filter (· != blk))) a.dests).filter
                                       fun e => !e.2.isEmpty }
  match s.leastWorn (s.spareBlks (chOf blk)) with
  | none => s.almReadonly
  | some b =>
    let s := s.setBlkInfo b (setBit (s.blkInfo b) 2 false) s.lastSeq
    let g := Tab.get (0, 0, 0) s.alm.groups (chOf blk)
    if (s.spareBlks (chOf blk)).length * 100 < Config.spareThreshold * g.2.1 then s.hostEvents (fun _ => true) aerSpare else s

/-- Whether the flash complex runs (R343): not in PS2, on its way into it or out of it, and not while its clock is stopped (R433). -/
def State.flashOn (s : State) : Bool :=
  !s.stopped islFlc && s.alm.psCur != 2 && !(s.regBit Reg.almPs 4 && decide (fld (s.reg Reg.almPs) 8 2 = 2))

/-- Whether Almanac programs and erases NAND: READY, not in standby, and no FORMAT under way (R291); in HOLDUP the flush alone
does (R316). -/
def State.progOk (s : State) : Bool :=
  s.regBit Reg.almStat 0 && !s.regBit Reg.almStat 7 && s.mode != modeHoldup && s.flashOn
/-- Whether relocation, refresh and patrol run (R304, R311, R343, R425). -/
def State.relocOk (s : State) : Bool := s.progOk && !s.regBit Reg.almStat 2 && !s.regBit Reg.almStat 4

/-- Refresh of a closed block (R309): it becomes a victim; while read-only it is only counted (R311). -/
def State.refresh (s : State) (blk : Nat) : State :=
  if !s.regBit Reg.almCtl 1 || decide (blk ∉ s.alm.closed) || decide (blk ∈ s.alm.victims) then s
  else if s.regBit Reg.almStat 4 then s.bump (Reg.almCnt 7)
  else s.onAlm fun a => { a with victims := a.victims ++ [blk] }

/-- Wear levelling of a group (R308). -/
def State.wearLevel (s : State) (g : Nat) : State :=
  if !s.relocOk then s else
  let l := (s.alm.geom.blocks g).filter fun b => s.blkState b != 3
  let pes := l.map s.blkPe
  let closed := s.alm.closed.filter fun b => decide (chOf b = g)
  if pes.foldl max 0 - pes.foldl min 65536 ≤ fld (s.reg Reg.almGcCfg) 32 16 then s
  else match s.leastWorn closed with
    | none => s
    | some b => if b ∈ s.alm.victims then s else s.onAlm fun a => { a with victims := a.victims ++ [b] }

/-- The largest SEQ in a block. -/
def State.blkSeq (s : State) (blk : Nat) : Nat := ((s.blkSlots blk).map fun e => e.2.seq).foldl max 0

/-- The block-table pages of a group are loaded (R317). -/
def State.loadGroup (s : State) (g : Nat) : State :=
  if !s.regBit Reg.almStat 2 then s
  else (s.alm.geom.blocks g).foldl (fun s b => s.pageLoad ((s.blkAddr b - s.mapBase) / 4096)) s

/-- Garbage collection starts and goes on in a group (R304): one victim at a time. Below half of LOW, and until LOW is reached again,
relocation ranks above host programs (R290). -/
def State.gcCheck (s : State) (g : Nat) : State :=
  let s := s.loadGroup g
  let v := s.reg Reg.almGcCfg
  let n := (s.freeBlks g).length
  let low := fld v 0 16
  let high := max (fld v 16 16) (low + 1)
  let on := decide (n < low) || (decide (g ∈ s.alm.gcOn) && decide (n < high))
  let urgent := decide (2 * n < low) || (decide (g ∈ s.alm.gcUrgent) && decide (n < low))
  let s := s.onAlm fun a => { a with gcOn := if on then g :: a.gcOn.filter (· != g) else a.gcOn.filter (· != g)
                                     gcUrgent := if urgent then g :: a.gcUrgent.filter (· != g) else a.gcUrgent.filter (· != g) }
  if !on || !s.relocOk || s.alm.victims.any fun b => decide (chOf b = g) then s else
  let l := s.alm.closed.filter fun b => decide (chOf b = g) && decide (s.blkSeq b ≤ (s.reg Reg.almCkptSeq).toNat) &&
    decide (b ∉ s.alm.manA) && decide (b ∉ s.alm.manB)
  let m := (l.map s.blkLive).foldl min 32768
  match l.find? fun b => s.blkLive b = m with
  | none => s
  | some b => s.onAlm fun a => { a with victims := a.victims ++ [b] }

/-! ### The journal and opening blocks (R315) -/

def journalAddr (i : Nat) : Nat := mramBase + 0x100000 + 16 * (i % 65536)

/-- A journal entry for a block of a stream. -/
def journalEntry (epoch blk stream sq : Nat) : List Byte :=
  let l := leBytes 4 epoch ++ leBytes 4 (blk + stream * 2 ^ 28) ++ leBytes 4 sq
  l ++ leBytes 4 (crc32c l).toNat

/-- A checkpoint is requested: it begins with its S and the blocks open then, or begins anew after the one being written (R313). -/
def State.ckptBegin (s : State) : State :=
  if s.alm.ckpt.isSome then s.onAlm fun a => { a with ckptDue := true }
  else (s.setRegBit Reg.almStat 6 true).onAlm fun a => { a with ckpt := some s.lastSeq, ckptOpens := a.opens }

/-- Whether the journal has room for a block's entries (R315). -/
def State.journalRoom (s : State) : Bool := decide (s.alm.jused + s.alm.jnext + 2 ≤ 65536)

/-- A block of a group opens for a stream, its journal entries written first; with the ring full the open waits (R315). With `deep`,
the flush reserve may be used. A run that a block is too small for goes on in its LUN (R300). -/
def State.openBlk (s : State) (g stream : Nat) (deep : Bool) : State :=
  if !s.journalRoom then s else
  let s := s.loadGroup g
  let free := s.freeBlks g
  let same := free.filter fun b => stream == 0 && some (lunOf b) == s.alm.follow
  let pick := match s.leastWorn same with
    | some b => some b
    | none => match s.leastWorn free with
      | some b => some b
      | none => if deep then s.leastWorn (s.rsvBlks g) else none
  match pick with
  | none => s
  | some b =>
    let ck := (s.reg Reg.almCkptNo).toNat
    let sq := (s.reg Reg.almSeq).toNat
    let busy := s.alm.ckpt.isSome
    let s := s.busWrite (journalAddr s.alm.journal) (journalEntry ck b stream sq)
    let s := if busy then s.busWrite (journalAddr (s.alm.journal + 1)) (journalEntry (ck + 1) b stream sq) else s
    let s := s.onAlm fun a => { a with journal := (a.journal + (if busy then 2 else 1)) % 65536, jused := a.jused + 1
                                       jnext := a.jnext + (if busy then 1 else 0)
                                       opens := a.opens ++ [{ blk := b, stream := stream, page := 0 }] }
    let s := s.setBlkInfo b (setBit (setFld (s.blkInfo b) 0 2 1) 3 false) s.lastSeq
    if 49152 ≤ s.alm.jused + s.alm.jnext ∧ s.alm.ckpt.isNone then s.ckptBegin else s

/-- Whether n more changes fit the limit on dirty table pages (R312). -/
def State.dirtyRoom (s : State) (n : Nat) : Bool := decide (s.alm.dirty.length + n ≤ 16384)

/-- The open block of a stream in a group. -/
def State.openOf (s : State) (g stream : Nat) : Option OpenBlk :=
  s.alm.opens.find? fun o => o.stream == stream && decide (chOf o.blk = g)

/-- BLOCK_OPEN (R315, R308, R311). A host, ledger or GC stream that finds no free block outside the flush reserve makes Almanac
request READONLY; what was accepted before may then use the reserve. -/
def execBlockOpen (g : Fin 32) (stream : BitVec 4) (s : State) : Out :=
  .next (
    let st := stream.toNat
    if 3 < st || !s.progOk || (s.openOf g st).isSome || !s.journalRoom || (s.alm.geom.blocks g).isEmpty then s
    else
      let ro := s.regBit Reg.almStat 4
      if st = 2 && !s.relocOk then s
      else if st ≠ 3 ∧ !s.dirtyRoom 1 then s
      else if (s.freeBlks g).isEmpty ∧ st ≠ 3 ∧ !ro then s.almReadonly
      else ((s.openBlk g st ro).wearLevel g).gcCheck g)

/-! ### Programs -/

/-- The metadata of a FILL slot (R298). -/
def fillSlot : NSlot := { written := true, kind := 3 }

/-- A program unit is programmed with status pass at the first free page of an open block: slots short of a whole unit are
completed with FILL, each slot has its SEQ, and a full block closes (R300, R308). The answer is the slots' locations. -/
def State.programAt (s : State) (o : OpenBlk) (slots : List NSlot) : State × List Nat :=
  let ge := s.alm.geom
  let locs := (List.range slots.length).map fun i => locAt o.blk (o.page + i / ge.spp) (i % ge.spp)
  let s := (locs.zip slots).foldl (fun s p => s.setNslot p.1 p.2) s
  let fills := (slots.filter fun x => x.kind == 3).length
  let s := (s.addReg (Reg.almCnt 3) fills).bump (Reg.flcCnt (chOf o.blk) 1)
  let page := o.page + ge.wlp
  let s := s.onAlm fun a => { a with programmed := a.programmed + slots.length
                                     opens := if page < ge.ppb then a.opens.map fun x => if x.blk = o.blk then { x with page := page } else x
                                              else a.opens.filter fun x => x.blk != o.blk
                                     closed := if page < ge.ppb then a.closed else a.closed ++ [o.blk]
                                     dests := if page < ge.ppb then a.dests else
                                       (List.map (fun (e : Nat × List Nat) => (e.1, e.2.filter (· != o.blk))) a.dests).filter
                                         fun e => !e.2.isEmpty }
  (if page < ge.ppb then s else s.setBlkState o.blk 2, locs)

/-- Slots receive the next SEQ values, and FILL slots up to a whole unit (R298, R300). -/
def State.withSeq (s : State) (l : List NSlot) : State × List NSlot :=
  let u := s.alm.geom.unit
  let l := l ++ List.replicate (u - l.length) fillSlot
  let n := (s.reg Reg.almSeq).toNat
  (s.addReg Reg.almSeq l.length, (l.zip (List.range l.length)).map fun p => { p.1 with seq := n + p.2 })

/-- The slot of a buffered unit. -/
def BufE.slot (b : BufE) : NSlot :=
  { written := true, data := b.data, lba := b.lba, nsid := b.nsid, kind := b.kind, ext := b.ext, used := b.used, chain := b.chain }

/-- ALM_WB_FILL (R299): units that count as protected, open ledger units included. -/
def State.wbFill (s : State) : Nat :=
  4096 * ((s.alm.buf.filter fun b => b.prot).length + (s.alm.ns.filter fun e => e.2.openProt).length)

/-- Whether one buffered unit has to be programmed no later than another: of the same unit, or of the same ledger namespace, and
accepted before it (R298, R321). -/
def BufE.leads (b c : BufE) : Bool :=
  decide (b.id < c.id) && b.nsid == c.nsid && b.kind == c.kind && (b.kind == 4 || (b.kind == 0 && b.lba == c.lba))

/-- Buffered units to be programmed ahead of all others: while the limit is below the fill the protected ones (R299), with those that
have to come before them. -/
def State.urgentBuf (s : State) : List BufE :=
  if s.wbFill ≤ (s.reg Reg.almWbLimit).toNat then []
  else s.alm.buf.filter fun b => b.prot || s.alm.buf.any fun c => c.prot && b.leads c

/-- Units in the order of their programs: the urgent ones first. -/
def State.inOrder (s : State) (l : List BufE) : List BufE :=
  let u := s.urgentBuf.map fun b => b.id
  l.filter (fun b => decide (b.id ∈ u)) ++ l.filter fun b => decide (b.id ∉ u)

/-- Buffered units of a stream that can be issued, in order. A unit waits while an older write of it is in flight, so its writes keep
their order in SEQ (R298). -/
def State.pend (s : State) (stream : Nat) : List BufE :=
  s.inOrder (s.alm.buf.filter fun b => !b.issued && decide ((b.kind = 4) = (stream = 1)) &&
    !s.alm.buf.any fun c => c.issued && !c.dead && c.kind == 0 && c.leads b)

def State.progOf (s : State) (g : Nat) : Option Prog := Tab.get none s.alm.progs g
def State.setProg (s : State) (g : Nat) (p : Option Prog) : State := s.onAlm fun a => { a with progs := Tab.set none a.progs g p }

/-- Whether slot reads wait at a LUN, and whether a program is in flight there (R290). -/
def State.lunReads (s : State) (lun : Nat) : Bool :=
  (Tab.get [] s.alm.reads (lun % 32)).any fun r => decide (lunOf (blkOf r.loc) = lun)
def State.lunProg (s : State) (lun : Nat) : Bool := (s.progOf (lun % 32)).any fun p => decide (lunOf p.blk = lun)
/-- Whether relocation may use a LUN: after reads and the programs of host data (R290). -/
def State.lunIdle (s : State) (lun : Nat) : Bool := !s.lunReads lun && !s.lunProg lun

/-- Whether a slot is live (R305); a TABLE slot is where the directory points to it. -/
def State.slotLive (s : State) (loc : Nat) (x : NSlot) : Bool :=
  (decide (x.kind = 0 ∨ x.kind = 4) && (s.ns x.nsid).exists_ && s.mapOf x.nsid x.lba == entryOf loc) ||
    (x.kind == 1 && s.mem64 (s.dirAddr x.lba) == entryOf loc)

/-- The first relocation victim of a group, and its live slots. -/
def State.victimOf (s : State) (g : Nat) : Option Nat := s.alm.victims.find? fun b => decide (chOf b = g)
def State.liveSlots (s : State) (blk : Nat) : List (Nat × NSlot) := (s.blkSlots blk).filter fun e => s.slotLive e.1 e.2

/-- Whether a copy goes ahead of a host program at a LUN: the group's relocation ranks above it and has a slot to copy (R290). -/
def State.relocFirst (s : State) (g lun : Nat) : Bool :=
  decide (g ∈ s.alm.gcUrgent) && s.relocOk && match s.victimOf g, s.openOf g 2 with
    | some v, some o => decide (lunOf v = lun ∨ lunOf o.blk = lun) && (s.liveSlots v).any fun e => e.2.kind != 1
    | _, _ => false

/-- How much of a list of slots a program unit takes at an open block's page: as many as it holds, but no run of EXT slots begins that the
rest of the block cannot hold whole (R300). `start` says how long a run begins at a place. DESIGN CHOICE (log entry 106). -/
def OpenBlk.fits (o : OpenBlk) (ge : Geom) (start : Nat → Nat) : Nat :=
  let room := (ge.ppb - o.page) * ge.spp
  (firstIdx ge.unit fun i => decide (start i ≤ ge.perBlk) && decide (room < i + start i)).getD ge.unit

/-- A whole program unit of a stream is issued in a group, or with `fill` the data there is (R300). A run that the block cannot hold waits
for the next block, and FILL completes this one. -/
def State.issueIn (s : State) (g stream : Nat) (fill : Bool) : State :=
  let ge := s.alm.geom
  let all := s.pend stream
  let ledgerBusy := s.alm.progs.any fun e => (e.2.map fun p => p.slots.any fun x => x.kind == 4).getD false
  let u := s.urgentBuf.filter fun b => !b.issued
  match s.openOf g stream with
  | none => s
  | some o =>
    let n := o.fits ge fun i => match all[i]? with | some b => if b.ext && b.lba % 16 == 0 then 16 else 0 | none => 0
    let l := all.take n
    let lun := lunOf o.blk
    if !s.progOk || (s.progOf g).isSome || all.isEmpty || (decide (l.length < n) && !fill) ||
        (stream == 1 && ledgerBusy) || (stream == 0 && decide (s.alm.follow ≠ none ∧ s.alm.follow ≠ some lun)) ||
        s.lunReads lun || s.relocFirst g lun || (!u.isEmpty && !(all.take (max n 1)).any fun b => u.any fun c => c.id == b.id) then s
    else
      let r := s.withSeq (l.map BufE.slot)
      let ids := l.map fun b => b.id
      let run := match l.getLast? with | some b => b.ext && b.lba % 16 != 15 | none => false
      (r.1.setProg g (some { blk := o.blk, page := o.page, slots := r.2, bufs := ids })).onAlm fun a =>
        { a with buf := a.buf.map fun b => if b.id ∈ ids then { b with issued := true } else b
                 follow := if stream = 0 then (if run then some lun else none) else a.follow }

/-- Programs that can be issued are, urgent data of either stream first: the groups are tried in a rotation that the spec leaves open (a free choice). -/
def State.pump (s : State) : State :=
  if s.alm.buf.all fun b => b.issued then s else
  let r := s.fresh
  (List.range 32).foldl (fun s i =>
    let g := (r.1 + i) % 32
    (s.issueIn g 1 false).issueIn g 0 false) r.2

/-! ### Storage commands' ends -/

def State.stCmd (s : State) (id : Nat) : Option StCmd := Tab.find? s.alm.cmds id
def State.setStCmd (s : State) (id : Nat) (c : StCmd) : State := s.onAlm fun a => { a with cmds := Tab.ins a.cmds id c }

/-- A storage command ends with a status. Op 0xF0 is the wait of a shutdown notification of function `nsid` (R342). -/
def State.stDone (s : State) (id : Nat) (st : BitVec 16) (res : W64 := 0) : State :=
  match s.stCmd id with
  | none => s
  | some c =>
    let s := s.onAlm fun a => { a with cmds := Tab.erase a.cmds id, accept := a.accept.filter (· != id) }
    if c.op = 0xF0 then s.setHost c.nsid { s.hostFn c.nsid with shst := 2 } else (s.complete c.item st res).hostEnded c.item

/-- A buffer entry has gone; commands no longer wait for it. -/
def State.bufGone (s : State) (id : Nat) : State :=
  s.onAlm fun a => { a with
    cmds := a.cmds.map fun (e : Nat × StCmd) => if id ∈ e.2.waits then (e.1, { e.2 with waits := e.2.waits.filter (· != id) }) else e
    buf := a.buf.filter fun b => b.id != id }

/-- Accepted commands that wait for no program any more complete (R299). -/
def State.sweep (s : State) : State :=
  s.alm.cmds.foldl (fun s e =>
    if e.2.accepted && e.2.waits.isEmpty then s.stDone e.1 0 e.2.res else s) s

/-- Commands that wait for a buffer entry wait for others in its place. -/
def State.rewait (s : State) (id : Nat) (by_ : List Nat) : State :=
  s.onAlm fun a => { a with cmds := a.cmds.map fun (e : Nat × StCmd) =>
    if id ∈ e.2.waits then (e.1, { e.2 with waits := e.2.waits.filter (· != id) ++ by_ }) else e }

/-! ### Ledger units (R320–R322) -/

/-- A unit's data from bytes, zero beyond them. -/
def unitOfBytes (l : List Byte) : BitVec 32768 := BitVec.ofNat 32768 (leVal l)

/-- The chain value after a unit (R322). -/
def chainNext (head : BitVec 256) (data : BitVec 32768) (k used nsid : Nat) : BitVec 256 :=
  sha256 (leBytes 32 head.toNat ++ leBytes 4096 data.toNat ++ leBytes 8 k ++ leBytes 2 used ++ leBytes 2 nsid ++ leBytes 4 0)

/-- C_0 (R322). -/
def chainGenesis (nsid : Nat) (serial gen : W64) : BitVec 256 :=
  sha256 (leBytes 2 nsid ++ leBytes 6 0 ++ leBytes 8 serial.toNat ++ leBytes 8 gen.toNat ++ leBytes 8 0)

/-- The open unit of a ledger namespace is sealed, if it holds any byte (R321). -/
def State.sealUnit (s : State) (nsid : Nat) : State :=
  let n := s.ns nsid
  if n.openData.isEmpty then s else
  let d := unitOfBytes n.openData
  let c := chainNext n.head d n.units n.openData.length nsid
  let b : BufE := { id := s.alm.nextBuf, nsid := nsid, lba := n.units, kind := 4, data := d, prot := n.openProt
                    used := n.openData.length, chain := c }
  let s := s.setNs nsid { n with units := n.units + 1, offset := 4096 * (n.units + 1), head := c, openData := [], openProt := false }
  s.onAlm fun a => { a with buf := a.buf ++ [b], nextBuf := a.nextBuf + 1 }

/-! ### MRAM records (R435, R436) -/

def rootAddr (b : Bool) : Nat := mramBase + (if b then 0x8000000 else 0)
def persAddr (b : Bool) : Nat := rootAddr b + 0x1000

/-- Whether a bank holds a valid record. -/
def bankOk (magic : Nat) (l : List Byte) : Bool :=
  leVal (l.take 4) == magic && leVal ((l.drop 4).take 1) == 1 && leVal ((l.drop 5).take 3) == 0 &&
    leVal (l.drop 4092) == (crc32c (l.take 4092)).toNat
def bankSeq (l : List Byte) : Nat := leVal ((l.drop 8).take 8)

/-- The bytes of a bank; none where a code word of it is uncorrectable (R391), which makes it an invalid bank. -/
def State.bankRead (s : State) (a : Nat) : List Byte :=
  let r := s.busRead a 4096 2
  if r.2.1.isSome then [] else r.2.2
/-- What the reads of both banks do at the MRAM controller (R387, R392, R393). DESIGN CHOICE (log entry 109). -/
def State.recTouch (s : State) (addr : Bool → Nat) : State := ((s.busRead (addr false) 4096 2).1.busRead (addr true) 4096 2).1

/-- The winning bank of a record: bank B when true. DEDUCED (log entry 88). -/
def State.recWinner (s : State) (magic : Nat) (addr : Bool → Nat) : Option Bool :=
  let a := s.bankRead (addr false)
  let b := s.bankRead (addr true)
  match bankOk magic a, bankOk magic b with
  | true, true => some (decide (bankSeq a < bankSeq b))
  | true, false => some false
  | false, true => some true
  | false, false => none
def rootMagic : Nat := 0x3C6C5A96
def persMagic : Nat := 0x3C6C5A97
/-- The winning contents of a record. DEDUCED (log entry 88). -/
def State.recRead (s : State) (magic : Nat) (addr : Bool → Nat) : Option (List Byte) :=
  (s.recWinner magic addr).map fun b => s.bankRead (addr b)

/-- Bytes replaced in a list from an offset. -/
def putAt (l : List Byte) (o : Nat) (v : List Byte) : List Byte := l.take o ++ v ++ l.drop (o + v.length)

/-- The root record is written: an edit of its winning contents, to the bank that did not win (R435). With no valid bank the
edit starts from zeros, in bank A. DEDUCED (log entry 88). -/
def State.rootWrite (s : State) (edit : List Byte → List Byte) : State :=
  let old := match s.recRead rootMagic rootAddr with
    | some l => l
    | none => leBytes 4 rootMagic ++ [1] ++ List.replicate 4091 0
  let bank := match s.recWinner rootMagic rootAddr with | some b => !b | none => false
  let l := (putAt (edit old) 8 (leBytes 8 (bankSeq old + 1))).take 4092
  ((s.recTouch rootAddr).busWrite (rootAddr bank) l).busWrite (rootAddr bank + 4092) (leBytes 4 (crc32c l).toNat)

/-! ### Checkpoints (R313, R314) -/

/-- The sections of a manifest (R314). -/
def State.manifest (s : State) (ckno seq : Nat) : List Byte :=
  let ns := s.alm.ns.filter fun e => e.2.exists_
  let dir := s.peekN (s.dirAddr 0) (8 * s.tabPages)
  let opens := s.alm.ckptOpens.flatMap fun o => leBytes 8 (entryOf (locAt o.blk o.page 0) + o.stream * 2 ^ 44)
  let nss := ns.flatMap fun e => let n := e.2
    leBytes 2 e.1 ++ leBytes 2 n.bid.toNat ++ leBytes 4 (n.ordered.toNat + n.ledger.toNat * 2) ++ leBytes 8 n.lbase ++
      leBytes 8 n.size ++ leBytes 8 n.gen.toNat ++ leBytes 8 n.units ++ leBytes 8 n.offset ++ leBytes 32 n.head.toNat ++ leBytes 48 0
  let grp := (List.range 32).flatMap fun g => let x := Tab.get (0, 0, 0) s.alm.groups g
    leBytes 4 x.1 ++ leBytes 4 x.2.1 ++ leBytes 4 x.2.2 ++ leBytes 20 0
  let len := 64 + dir.length + opens.length + nss.length + grp.length
  leBytes 4 0x3C6C5A94 ++ leBytes 1 1 ++ leBytes 1 (s.regBit Reg.almStat 4).toNat ++ leBytes 2 (ceilDiv len 4096) ++ leBytes 8 ckno ++
    leBytes 8 seq ++ leBytes 8 s.mapBase ++ leBytes 8 (s.reg Reg.almWbBase).toNat ++ leBytes 4 s.capC ++ leBytes 4 s.tabPages ++
    leBytes 4 s.alm.ckptOpens.length ++ leBytes 4 ns.length ++ leBytes 1 s.alm.pct.1 ++
    leBytes 1 s.alm.pct.2 ++ leBytes 6 0 ++ dir ++ opens ++ nss ++ grp

/-- The open block of a stream in a group, opened if there is none. -/
def State.ensureOpen (s : State) (g stream : Nat) (deep : Bool) : State × Option OpenBlk :=
  match s.openOf g stream with
  | some o => (s, some o)
  | none => let s := s.openBlk g stream deep; (s, s.openOf g stream)

/-- Slots programmed one unit after another in a group, blocks opened as needed: the locations. -/
def State.writeSlots : Nat → State → Nat → Nat → Bool → List NSlot → State × List Nat
  | 0, s, _, _, _, _ => (s, [])
  | _, s, _, _, _, [] => (s, [])
  | k + 1, s, g, stream, deep, l =>
    let u := s.alm.geom.unit
    let o := s.ensureOpen g stream deep
    match o.2 with
    | none => (o.1, [])
    | some b =>
      let q := o.1.withSeq (l.take u)
      let p := q.1.programAt b q.2
      let t := State.writeSlots k p.1 g stream deep (l.drop u)
      (t.1, p.2.take (l.take u).length ++ t.2)

/-- The group of a manifest copy: the one R313 names, or the next that has a LUN. -/
def State.manGroup (s : State) (g : Nat) : Nat :=
  (((List.range 32).map fun i => (g + i) % 32).find? fun i => !(s.alm.geom.blocks i).isEmpty).getD g

/-- Both copies of the manifest are written: the locations of their first slots, and their blocks; none where a copy finds no block. -/
def State.writeManifest (s : State) (ckno seq : Nat) : Option (State × Nat × Nat × List Nat) :=
  let m := s.manifest ckno seq
  let s := (s.busRead (s.dirAddr 0) (8 * s.tabPages) 3).1
  let n := ceilDiv m.length 4096
  let slots := (List.range n).map fun i =>
    { written := true, kind := 2, lba := i, data := unitOfBytes ((m.drop (4096 * i)).take 4096) : NSlot }
  let a := s.writeSlots (n + 1) (s.manGroup (ckno % 32)) 3 true slots
  let b := a.1.writeSlots (n + 1) (s.manGroup ((ckno + 16) % 32)) 3 true slots
  if a.2.length < n ∨ b.2.length < n then none else some (b.1, a.2.headD 0, b.2.headD 0, (a.2 ++ b.2).map blkOf)

/-- The root record names a manifest whose two copies are written: the checkpoint is committed (R314). -/
def State.ckptRoot (s : State) (ckno seq : Nat) (m : Nat × Nat × List Nat) : State :=
  let ent (l : Nat) : List Byte := leBytes 8 (entryOf l)
  let s := s.rootWrite fun l => putAt (putAt l 16 (leBytes 8 ckno ++ leBytes 8 seq ++ ent m.1 ++ ent m.2.1)) 48 [1]
  let s := ((s.setReg Reg.almCkptNo (BitVec.ofNat 64 ckno)).setReg Reg.almCkptSeq (BitVec.ofNat 64 seq)).bump (Reg.almCnt 6)
  let s := (s.setRegBit Reg.almStat 6 false).setRegBit Reg.almStat 1 true
  s.onAlm fun a => { a with ckpt := none, ckptOpens := [], jused := a.jnext, jnext := 0, programmed := 0, lastCkpt := s.mer.ns
                            manA := a.manB, manB := m.2.2 }

/-- Steps 3 and 4 of a checkpoint (R313): manifests, root record, commit. Without room for the manifests it goes on waiting. -/
def State.ckptCommit (s : State) (seq : Nat) : State :=
  let ckno := (s.reg Reg.almCkptNo).toNat + 1
  match s.writeManifest ckno seq with
  | none => s
  | some m => m.1.ckptRoot ckno seq m.2

/-! ### Namespaces (R295, R296) -/

/-- The lowest free run of n GiB in the global space. -/
def State.freeRun (s : State) (n : Nat) : Option Nat :=
  let used := (s.alm.ns.filter fun e => e.2.exists_).map fun e => (e.2.lbase / 262144, e.2.size)
  (List.range s.capC).find? fun g => decide (g + n ≤ s.capC) && used.all fun u => decide (g + n ≤ u.1 ∨ u.1 + u.2 ≤ g)

/-- GiB allocated to namespaces. -/
def State.nsGib (s : State) : Nat := ((s.alm.ns.filter fun e => e.2.exists_).map fun e => e.2.size).sum

/-- Namespaces of a Booth (R284 RES 6). -/
def State.inUse6 (s : State) (b : BitVec 12) : Nat := (s.alm.ns.filter fun e => e.2.exists_ && e.2.bid == b).length

/-- The first failing condition of a namespace command (R296), and the NSID it concerns. -/
def State.nsFail (s : State) (c : NsCmd) : Option (BitVec 16) × Nat :=
  let auto := if c.op = 1 ∧ c.nsid = 0 then firstIdx 1025 fun i => i != 0 && !(s.ns i).exists_ else some c.nsid
  let n := auto.getD 0
  let lim := decide (s.quota c.bid 6 ≤ s.inUse6 c.bid)
  let m := s.mode
  (firstFail [(c.op != 1 && c.op != 2, 0x0401), (m == modeReadonly, 0x0203), (!s.regBit Reg.almStat 0, 0x0201),
    ((c.op == 1 && c.size == 0) || decide (1024 < c.nsid), 0x0401),
    (if c.op = 1 then (c.nsid != 0 && (s.ns c.nsid).exists_) || (s.booth c.bid).st == .free else !(s.ns c.nsid).exists_, 0x0201),
    (auto.isNone, 0x0370), (c.op == 1 && lim, 0x0301), (c.op == 1 && (s.freeRun c.size).isNone, 0x0302)], n)

end Sys2Proof.Machine
end

