-- ==== Sys2Proof/Machine/AlmEvents.lean ====
section
/-! DEFINITION. Sys2Proof/Machine/AlmEvents.lean: FORMAT, namespaces, programs, relocation, erase, patrol, table pages and
checkpoints as commands (R291–R313, R317). -/

namespace Sys2Proof.Machine

/-! ### Table pages (R312) -/

/-- Groups with an open block of stream 3 and no program in flight. -/
def State.tableGroups (s : State) : List Nat :=
  (List.range 32).filter fun g => (s.openOf g 3).isSome && (s.progOf g).isNone

/-- Dirty table pages are written as TABLE slots of one program unit, and the directory follows (R312). -/
def State.writePages (s : State) (o : OpenBlk) (ps : List Nat) : State :=
  let s := ps.foldl (fun s p => ((s.pageLoad p).busRead (s.mapBase + 4096 * p) 4096 3).1) s
  let q := s.withSeq (ps.map fun p =>
    { written := true, kind := 1, lba := p, data := unitOfBytes (s.peekN (s.mapBase + 4096 * p) 4096) })
  let r := q.1.programAt o q.2
  let s := (r.1.addReg (Reg.almCnt 2) ps.length).onAlm fun a => { a with dirty := a.dirty.filter fun d => decide (d.1 ∉ ps) }
  (ps.zip r.2).foldl (fun s x =>
    let old := s.mem64 (s.dirAddr x.1)
    ((s.liveAdd old false s.lastSeq).liveAdd (entryOf x.2) true s.lastSeq).busWrite (s.dirAddr x.1) (leBytes 8 (entryOf x.2))) s

/-- The oldest dirty pages are written in a group that the spec leaves open (a free choice). -/
def State.tableWrite (s : State) : State :=
  let gs := s.tableGroups
  let ps := (s.alm.dirty.take s.alm.geom.unit).map Prod.fst
  if !s.progOk || ps.isEmpty || gs.isEmpty then s
  else
    let r := s.fresh
    match r.2.openOf (gs.getD (r.1 % gs.length) 0) 3 with
    | none => s
    | some o => r.2.writePages o ps

/-- A change that would dirty one page too many waits until dirty pages have been written, in a block opened for them if need be
(R312). -/
def State.makeRoomGo : Nat → State → Nat → State
  | 0, s, _ => s
  | k + 1, s, n =>
    if s.dirtyRoom n || !s.progOk then s
    else
      let g := ((List.range 32).find? fun g => !(s.alm.geom.blocks g).isEmpty && (s.openOf g 3).isNone).getD 0
      State.makeRoomGo k (if s.tableGroups.isEmpty then s.openBlk g 3 false else s).tableWrite n
def State.makeRoom (s : State) (n : Nat) : State := State.makeRoomGo 64 s n

/-! ### Namespace commands (R296) -/

/-- The result of a namespace command. -/
def State.nsDone (s : State) (st : BitVec 16) (n : Nat) : State :=
  (s.setReg Reg.almNsRes (BitVec.ofNat 64 (st.toNat + n % 2048 * 65536))).onAlm fun a => { a with nsq := a.nsq.drop 1 }

/-- The head of the namespace commands is at a phase. -/
def State.nsPhase (s : State) (c : NsCmd) (n : Nat) : State := s.onAlm fun a => { a with nsq := { c with phase := n } :: a.nsq.drop 1 }

/-- A namespace is created with its units unmapped (R295, R322). The head of a destroyed ledger namespace stays readable until
another ledger namespace takes its NSID (R296). -/
def State.nsMake (s : State) (c : NsCmd) (n : Nat) : State :=
  let seq := s.reg Reg.almSeq
  let old := s.ns n
  let x : Ns := { exists_ := true, bid := c.bid, size := c.size, lbase := (s.freeRun c.size).getD 0 * 262144
                  ordered := c.ordered || c.ledger, ledger := c.ledger, gen := if c.ledger then seq else old.gen
                  head := if c.ledger then chainGenesis n (s.reg Reg.devSerial) seq else old.head
                  units := if c.ledger then 0 else old.units, offset := if c.ledger then 0 else old.offset }
  (s.setNs n x).hostEvents (fun b => b == c.bid) aerNsAttr

/-- Units from one on are unmapped, as far as dirty pages have room: the next one (R296, R312). -/
def State.unmapGo : Nat → State → Nat → Nat → Nat → State × Nat
  | 0, s, _, i, _ => (s, i)
  | k + 1, s, base, i, n =>
    if n ≤ i then (s, i)
    else
      let s := s.makeRoom 2
      if !s.dirtyRoom 2 then (s, i) else State.unmapGo k (s.mapSet (base + i) 0 s.lastSeq) base (i + 1) n

/-- A namespace whose units are unmapped goes: its buffered data is discarded, and its run is free (R296). -/
def State.nsUnmake (s : State) (n : Nat) : State :=
  let x := s.ns n
  let s := ((s.alm.buf.filter fun b => b.nsid == n && !b.issued).map fun b => b.id).foldl State.bufGone s
  let s := s.onAlm fun a => { a with buf := a.buf.map fun b => if b.nsid = n then { b with dead := true } else b }
  (s.setNs n { x with exists_ := false, destroying := false }).hostEvents (fun b => b == x.bid) aerNsAttr

/-- Whether a DESTROY may seal: the ordered commands accepted for the namespace have reached their points (R296). -/
def State.nsSettled (s : State) (n : Nat) : Bool := s.alm.cmds.all fun e => e.2.nsid != n || !e.2.ordered || e.2.point
/-- Whether a DESTROY may unmap: no command of the namespace is in flight, a FLUSH of all namespaces of its Booth among them, and its
sealed units are programmed. -/
def State.nsQuiet (s : State) (n : Nat) : Bool :=
  (s.alm.cmds.all fun e => e.2.op == 0xF0 || (e.2.nsid != n && (e.2.nsid != 0xFFFFFFFF || e.2.item.bid != (s.ns n).bid))) && (s.scans.all fun e => !e.2.live || e.2.nsid != n) &&
    s.alm.buf.all fun b => b.nsid != n || b.kind != 4

/-- The namespace commands go on as far as they can; none begins while a FORMAT runs. DESIGN CHOICE (log entry 107). -/
def State.nsAdvance : Nat → State → State
  | 0, s => s
  | k + 1, s =>
    match s.alm.nsq with
    | [] => s
    | c :: _ =>
      match c.phase with
      | 0 =>
        if s.regBit Reg.almStat 7 then s else
        match s.nsFail c with
        | (some st, n) => State.nsAdvance k (s.nsDone st n)
        | (none, n) =>
          if c.op = 1 then ((s.nsMake c n).ckptBegin).nsPhase { c with nsid := n } 3
          else State.nsAdvance k ((s.setNs n { s.ns n with destroying := true }).nsPhase c 1)
      | 1 =>
        if !(s.ns c.nsid).ledger then State.nsAdvance k (s.nsPhase c 2)
        else if s.nsSettled c.nsid then State.nsAdvance k ((s.sealUnit c.nsid).nsPhase c 2) else s
      | 2 =>
        if !s.nsQuiet c.nsid then s
        else
          let x := s.ns c.nsid
          let r := State.unmapGo (262144 * x.size) s x.lbase c.at_ (262144 * x.size)
          if r.2 < 262144 * x.size then r.1.nsPhase { c with at_ := r.2 } 2
          else ((r.1.nsUnmake c.nsid).ckptBegin).nsPhase c 3
      | _ => s

/-- A block queued for retirement is retired once its data is programmed again and its live slots are relocated (R301, R303, R310). -/
def State.retireStep (s : State) (e : Nat × Nat × List Nat) : State :=
  if s.alm.opens.any (fun o => o.blk == e.1) then s
  else if !(s.liveSlots e.1).isEmpty then
    if e.1 ∈ s.alm.victims then s else s.onAlm fun a => { a with victims := a.victims ++ [e.1] }
  else if s.alm.buf.any (fun b => decide (b.id ∈ e.2.2)) then s
  else s.retireBlk e.1 e.2.1
def State.retireGo (s : State) : State := s.alm.retiring.foldl State.retireStep s

/-- What follows any event of Almanac: blocks retire, programs issue, commands complete, namespace commands go on. -/
def State.almGo (s : State) : State := State.nsAdvance 8 (s.retireGo.pump.sweep)

/-- NS_CREATE and NS_DESTROY: a write of ALM_NS_CMD (R296); it waits while an earlier command runs. -/
def nsCmd (c : NsCmd) (s : State) : State := (s.onAlm fun a => { a with nsq := a.nsq ++ [c] }).almGo
def execNsCreate (nsid : BitVec 11) (bid : BitVec 12) (size : BitVec 24) (ledger ordered : Bool) (s : State) : Out :=
  .next (nsCmd { op := 1, nsid := nsid.toNat, bid := bid, size := size.toNat, ledger := ledger, ordered := ordered } s)
def execNsDestroy (nsid : BitVec 11) (s : State) : Out := .next (nsCmd { op := 2, nsid := nsid.toNat } s)

/-! ### Programs (R299–R302) -/

/-- A program unit passes: slots, counters, map entries (R299, R301). -/
def State.progPass (s : State) (g : Nat) (p : Prog) : State :=
  match s.alm.opens.find? fun o => o.blk = p.blk with
  | none => s
  | some o =>
    let r := s.programAt o p.slots
    let host := (p.slots.filter fun x => x.kind != 3).length
    let s := (r.1.addReg (Reg.almCnt 0) host).setProg g none
    let live (id : Nat) : Bool := s.alm.buf.any fun b => b.id == id && !b.dead
    let s := ((p.bufs.zip r.2).zip p.slots).foldl (fun s x =>
      if live x.1.1 && (x.2.kind == 0 || x.2.kind == 4) && (s.ns x.2.nsid).exists_ then
        s.mapSet (s.gunit x.2.nsid x.2.lba) (entryOf x.1.2) x.2.seq else s) s
    p.bufs.foldl State.bufGone s

/-- The newest buffered entry of a unit (R299). -/
def State.bufNewest (s : State) (nsid lba : Nat) : Option BufE :=
  (s.alm.buf.filter fun b => b.nsid == nsid && b.lba == lba && !b.dead && (b.kind == 0 || b.kind == 4)).foldl
    (fun o b => match o with | some c => if c.id < b.id then some b else o | none => some b) none

/-- Slots of a program that failed can not be read. -/
def State.badSlots (s : State) (blk page : Nat) (l : List NSlot) : State :=
  let ge := s.alm.geom
  (List.range l.length).foldl (fun s i =>
    s.setNslot (locAt blk (page + i / ge.spp) (i % ge.spp)) { written := true, good := false, seq := (l.getD i {}).seq }) s

/-- A block whose program failed takes no more programs; it is retired once some buffer entries are programmed again (R301, R307). -/
def State.failBlk (s : State) (blk : Nat) (ids : List Nat) : State :=
  let s := s.onAlm fun a => { a with opens := a.opens.filter fun o => o.blk != blk }
  (s.setBlkState blk 2).queueRetire blk 3 ids

/-- A program unit fails: its data waits to be programmed again, and then its block is retired (R301). Data that a trim has discarded
is not programmed again. -/
def State.progFail (s : State) (g : Nat) (p : Prog) : State :=
  let s := ((s.bump (Reg.flcCnt g 7)).setProg g none).badSlots p.blk p.page p.slots
  let gone := (s.alm.buf.filter fun b => b.dead && decide (b.id ∈ p.bufs)).map fun b => b.id
  let s := gone.foldl State.bufGone s
  let s := s.onAlm fun a => { a with buf := (a.buf.filter fun b => decide (b.id ∈ p.bufs)).map (fun b => { b with issued := false }) ++
                                            a.buf.filter (fun b => decide (b.id ∉ p.bufs))
                                     follow := none }
  s.failBlk p.blk (p.bufs.filter fun i => decide (i ∉ gone))

/-- PROGRAM_COMPLETE: the program unit in flight in a group reports its status (R301). -/
def execProgramComplete (g : Fin 32) (pass : Bool) (s : State) : Out :=
  .next (match s.progOf g.val with
  | none => s
  | some p =>
    if !s.dirtyRoom (3 * p.slots.length) then s
    else ((if pass then s.progPass g.val p else s.progFail g.val p).gcCheck g.val).almGo)

/-- PROGRAM_UNIT_FILL_TIMEOUT: data that a command waits for (a write, a FLUSH, a DESTROY), or that has to be programmed ahead of all
other data (R299), is completed with FILL slots (R300). -/
def execProgramUnitFillTimeout (g : Fin 32) (s : State) : Out :=
  .next (
    let waited (st : Nat) : Bool := (s.pend st).any fun b => !b.prot || (s.ns b.nsid).destroying ||
      s.urgentBuf.any (fun c => c.id == b.id) || s.alm.cmds.any fun e => decide (b.id ∈ e.2.waits)
    let s := if waited 1 then s.issueIn g.val 1 true else s
    if waited 0 then s.issueIn g.val 0 true else s)

/-! ### Relocation (R305–R307) -/

/-- Whether a block is a copy destination or a host block in which a program failed (R301, R307). -/
def State.failedBlk (s : State) (blk : Nat) : Bool :=
  s.alm.retiring.any (fun e => e.1 == blk && e.2.1 == 3) || (s.blkState blk == 3 && fld (s.blkInfo blk) 4 4 == 3)

/-- Where a slot's data is read for relocation: a copy in a failed destination is made again from the victim (R307). -/
def State.originGo : Nat → State → Nat → Nat
  | 0, _, l => l
  | k + 1, s, l =>
    let x := s.nslot l
    if x.copy && s.failedBlk (blkOf l) then State.originGo k s (x.src.toNat / 4) else l
def State.origin (s : State) (loc : Nat) : Nat := State.originGo 64 s loc

/-- A read of a slot counts at its block (R309), with the bits it corrects, a free number; the block is refreshed from RD_LIMIT × 1,000
reads on, or when more than 4 retry steps were needed. DESIGN CHOICE (log entry 108). -/
def State.countRead (s : State) (blk steps : Nat) (ok : Bool) : State :=
  let g := chOf blk
  let r := s.fresh
  let s := ((r.2.bump (Reg.flcCnt g 0)).addReg (Reg.flcCnt g 3) (r.1 % 36865)).addReg (Reg.flcCnt g 4) (min steps 8)
  let s := if 8 < steps ∨ !ok then s.bump (Reg.flcCnt g 5) else s
  let s := if ok then s else s.bump (Reg.flcCnt g 6)
  let n := min (fld (s.blkInfo blk) 24 24 + 1) (2 ^ 24 - 1)
  let s := s.setBlkInfo blk (setFld (s.blkInfo blk) 24 24 n) s.lastSeq
  let lim := fld (s.reg Reg.almMediaCfg) 16 16 * 1000
  if n = lim ∨ 4 < steps ∨ (lim ≤ n ∧ !s.regBit Reg.almStat 4) then s.refresh blk else s

/-- Closed blocks whose read count has reached RD_LIMIT × 1,000 otherwise are refreshed (R309). -/
def State.refreshDue (s : State) : State :=
  let lim := fld (s.reg Reg.almMediaCfg) 16 16 * 1000
  s.alm.closed.foldl (fun s b => if lim ≤ fld (s.blkInfo b) 24 24 then s.refresh b else s) s

/-- A unit whose data could not be recovered from a block (R303): the block is queued for retirement. -/
def State.loseUnit (s : State) (loc blk nsid lba : Nat) : State :=
  let s := if s.mapOf nsid lba = entryOf loc then s.mapSet (s.gunit nsid lba) lostEntry s.lastSeq else s
  let s := ((s.setRegBit Reg.almStat 9 true).bump (Reg.almCnt 5)).raiseEvt Reg.almEvt
  s.queueRetire blk 5 []

/-- A slot read ends for the unit mapped to a location: after a number of retry steps it succeeds, or the unit is lost (R303). -/
def State.slotReadEnd (s : State) (loc nsid lba steps : Nat) (ok : Bool) : State × Bool :=
  let ok := ok && (s.nslot loc).good
  let s := s.countRead (blkOf loc) steps ok
  (if ok then s else s.loseUnit loc (blkOf loc) nsid lba, ok)

/-- A slot read that no command reports: its outcome is a free value (R303). DESIGN CHOICE (log entry 108). -/
def State.slotRead (s : State) (loc nsid lba : Nat) : State × Bool :=
  let r := s.fresh
  (r.2.makeRoom 4).slotReadEnd loc nsid lba (r.1 % 11) (decide (r.1 % 11 ≠ 10))

/-- The victims that copies of a block's slots stand for: a failed destination's are its victims' (R306, R307). -/
def State.copyOwners (s : State) (v : Nat) : List Nat :=
  if s.failedBlk v then (s.alm.dests.filter fun e => decide (v ∈ e.2)).map Prod.fst else [v]

/-- The copies of live slots in a GC block: programmed, verified and mapped (R305), or failed with their block (R307). With no spare for
it, the map goes back to the victims' slots. -/
def State.copySlots (s : State) (g v : Nat) (o : OpenBlk) (l : List (Nat × NSlot)) (pass : Bool) : State :=
  let s := l.foldl (fun s e => let r := s.fresh; r.2.countRead (blkOf (s.origin e.1)) (r.1 % 10) true) s
  let q := s.withSeq (l.map fun e => { e.2 with copy := true, src := BitVec.ofNat 64 (entryOf e.1) })
  let s := (s.copyOwners v).foldl (fun s w => s.onAlm fun a =>
    { a with dests := Tab.set [] a.dests w ((Tab.get [] a.dests w).filter (· != o.blk) ++ [o.blk]) }) q.1
  if pass then
    let r := s.programAt o q.2
    let s := r.1.addReg (Reg.almCnt 1) l.length
    ((l.zip r.2).zip q.2).foldl (fun s x =>
      if s.mapOf x.2.nsid x.2.lba = entryOf x.1.1.1 then s.mapSet (s.gunit x.2.nsid x.2.lba) (entryOf x.1.2) x.2.seq else s) s
  else
    let s := ((s.bump (Reg.flcCnt g 7)).badSlots o.blk o.page q.2).failBlk o.blk []
    if !(s.spareBlks g).isEmpty then s else
    (s.blkSlots o.blk).foldl (fun s e =>
      if e.2.copy && s.slotLive e.1 e.2 then s.mapSet (s.gunit e.2.nsid e.2.lba) (entryOf (s.origin e.1)) s.lastSeq else s) s

/-- How many slots of a list belong to the run of EXT slots that begins at a place (R300). -/
def extStart (l : List (Nat × NSlot)) (i : Nat) : Nat :=
  let same (x : NSlot) (j : Nat) : Bool := (l[j]?).any fun y => y.2.ext && y.2.nsid == x.nsid && y.2.lba / 16 == x.lba / 16
  match l[i]? with
  | none => 0
  | some e => if !e.2.ext || (decide (0 < i) && same e.2 (i - 1)) then 0 else ((l.drop i).takeWhile fun y => y.2.ext && y.2.nsid == e.2.nsid && y.2.lba / 16 == e.2.lba / 16).length

/-- RELOCATION_COPY: the first victim of a group gives up live slots: as many as a program unit holds are copied (R305), the EXT slots of a
run to one block (R300), TABLE slots make their pages dirty, and a slot that cannot be read makes its unit lost. The LUNs serve it after
reads and host programs (R290). -/
def execRelocationCopy (g : Fin 32) (readOk progOk : Bool) (s : State) : Out :=
  .next (
    if !s.relocOk then s else
    match s.victimOf g.val with
    | none => s
    | some v =>
      let ge := s.alm.geom
      let live := s.liveSlots v
      let tabs := (live.filter fun e => e.2.kind == 1).map fun e => e.2.lba
      let data := live.filter fun e => e.2.kind != 1
      let s := if s.dirtyRoom tabs.length then tabs.foldl (fun s p => s.dirtyAdd p s.lastSeq) s else s
      match data with
      | [] => s.almGo
      | e :: _ =>
        let from_ := s.origin e.1
        if !s.dirtyRoom (4 * ge.unit) || !s.lunIdle (lunOf from_) then s
        else if !readOk || !(s.nslot from_).good then
          let r := s.fresh
          ((r.2.countRead (blkOf from_) 9 false).loseUnit e.1 (blkOf from_) e.2.nsid e.2.lba).almGo
        else match s.openOf g.val 2 with
          | none => s
          | some o =>
            if !s.lunIdle (lunOf o.blk) then s
            else ((s.copySlots g.val v o (data.take (o.fits ge (extStart data))) progOk).gcCheck g.val).almGo)

/-- Whether a block may be erased (R306): a closed block with nothing mapped, older than the last checkpoint, with every block that
received its copies closed and verified, not to be retired, and no read waiting for it. -/
def State.erasable (s : State) (blk : Nat) : Bool :=
  s.progOk && !s.regBit Reg.almStat 2 && s.blkState blk == 2 && decide (blk ∈ s.alm.closed) && (s.liveSlots blk).isEmpty &&
    decide (s.blkSeq blk ≤ (s.reg Reg.almCkptSeq).toNat) && decide (blk ∉ s.alm.manA) && decide (blk ∉ s.alm.manB) &&
    (Tab.get [] s.alm.dests blk).isEmpty && !s.alm.retiring.any (fun e => e.1 == blk) &&
    s.alm.reads.all fun e => e.2.all fun r => blkOf r.loc != blk

/-- A block is erased: free, its erase count advanced (R306); worn at PE_LIMIT (R310). -/
def State.eraseBlk (s : State) (blk : Nat) : State :=
  let pe := s.blkPe blk + 1
  let s := s.onAlm fun a => { a with nand := a.nand.filter fun e => blkOf e.1 != blk
                                     closed := a.closed.filter (· != blk), victims := a.victims.filter (· != blk)
                                     dests := Tab.erase a.dests blk }
  let s := (s.bump (Reg.flcCnt (chOf blk) 2)).setBlkInfo blk (BitVec.ofNat 64 (pe % 65536 * 256)) s.lastSeq
  if fld (s.reg Reg.almMediaCfg) 0 16 ≤ pe then s.retireBlk blk 4 else s

/-- BLOCK_ERASE (R306, R308, R310). -/
def execBlockErase (blk : BitVec 28) (pass : Bool) (s : State) : Out :=
  .next (
    let b := blk.toNat
    if !s.erasable b then s
    else
      let s := if pass then s.eraseBlk b
        else (s.bump (Reg.flcCnt (chOf b) 8)).retireBlk b 2
      ((s.wearLevel (chOf b)).gcCheck (chOf b)).almGo)

/-- PATROL_READ (R309): a block that needed a retry step, or whose corrected bits are many, is weak. -/
def execPatrolRead (blk : BitVec 28) (steps : Nat) (weak : Bool) (s : State) : Out :=
  .next (
    let b := blk.toNat
    if !s.relocOk || !s.regBit Reg.almCtl 1 || decide (b ∉ s.alm.closed) || !s.lunIdle (lunOf b) || !s.dirtyRoom 1 then s
    else
      let s := s.countRead b steps true
      if weak || decide (0 < steps) then s.refresh b else s)

/-! ### Table pages and checkpoints (R312, R313, R317) -/

/-- TABLE_PAGE_WRITE (R312): what waited for it goes on. -/
def execTablePageWrite (s : State) : Out := .next s.tableWrite.almGo

/-- CKPT: ALM_CTL.CKPT is set (R313). -/
def ckptReq (s : State) : State := if s.regBit Reg.almStat 0 && !s.regBit Reg.almStat 7 then s.ckptBegin else s
def execCkpt (s : State) : Out := .next (ckptReq s)

/-- CHECKPOINT_TIMER: GIB programmed or MS passed since the last checkpoint (R313). -/
def execCheckpointTimer (s : State) : Out :=
  .next (
    let v := s.reg Reg.almCkptCfg
    let gib := if fld v 0 5 = 0 ∨ 16 < fld v 0 5 then 4 else fld v 0 5
    let ms := max 100 (min 10000 (fld v 16 16))
    if s.progOk && s.alm.ckpt.isNone &&
        (decide (gib * 262144 ≤ s.alm.programmed) || decide (ms * 1000000 ≤ (s.mer.ns - s.alm.lastCkpt).toNat)) then s.ckptBegin
    else s)

/-- Whether the tables of a checkpoint are written: no page dirtied by a slot up to S is left, and no such slot is in flight. -/
def State.ckptReady (s : State) (seq : Nat) : Bool :=
  (s.alm.dirty.all fun d => decide (seq < d.2)) &&
    s.alm.progs.all fun e => match e.2 with | none => true | some p => p.slots.all fun x => decide (seq < x.seq)

/-- A namespace command that waited for the checkpoint completes (R296). -/
def State.nsCommitted (s : State) : State :=
  match s.alm.nsq with
  | c :: _ => if c.phase = 3 then State.nsAdvance 8 (s.nsDone 0 c.nsid) else s
  | [] => s

/-- CHECKPOINT_COMMIT (R313): a checkpoint asked for meanwhile begins. -/
def execCheckpointCommit (s : State) : Out :=
  .next (match s.alm.ckpt with
  | none => s
  | some seq =>
    if !s.ckptReady seq || !s.progOk then s
    else
      let s := s.ckptCommit seq
      if s.alm.ckpt.isSome then s
      else if s.alm.ckptDue then (s.onAlm fun a => { a with ckptDue := false }).ckptBegin else s.nsCommitted)

/-- TABLE_PAGE_LOAD: the next table page is loaded; after the last, MAPLOAD clears (R317). -/
def execTablePageLoad (s : State) : Out :=
  .next (
    if !s.regBit Reg.almStat 2 then s else
    match (List.range s.tabPages).find? fun p => decide (p ∉ s.alm.loaded) with
    | some p => s.pageLoad p
    | none => (s.setRegBit Reg.almStat 2 false).onAlm fun a => { a with loaded := [] })

/-! ### FORMAT (R291, R292) -/

/-- Good blocks, spares and flush reserve of a group, given the bad blocks (R292). -/
def State.fmtGroup (s : State) (bad : List Nat) (g : Nat) : List Nat × Nat × Nat :=
  let ge := s.alm.geom
  let good := (ge.blocks g).filter fun b => decide (b ∉ bad)
  let p := ge.spp * 4096 * ge.ppb
  (good, ceilDiv (good.length * fld (s.reg Reg.almFmt) 8 8) 100, ceilDiv (2 ^ 25) p + 1)

/-- The size of the map region for a capacity (R293). -/
def mapRegion (ge : Geom) (c : Nat) : Nat :=
  2 ^ 21 * c + blkTabBytes ge + ceilDiv (8 * (512 * c + blkTabBytes ge / 4096)) 4096 * 4096
/-- Base addresses that FORMAT takes. -/
def State.fmtMap (s : State) : Nat := (s.reg Reg.almFmtMap).toNat / 2 ^ 30 * 2 ^ 30
def State.fmtWb (s : State) : Nat := (s.reg Reg.almFmtWb).toNat / 2 ^ 20 * 2 ^ 20

/-- The user capacity C in GiB (R292): a channel without LUNs forms no group. DEDUCED (log entry 107). -/
def State.fmtCap (s : State) (bad : List Nat) : Nat :=
  let ge := s.alm.geom
  let p := ge.spp * 4096 * ge.ppb
  let gs := (List.range 32).filter fun g => !(ge.blocks g).isEmpty
  let sum : Int := (gs.map fun g => let x := s.fmtGroup bad g; (x.1.length : Int) - x.2.1 - x.2.2).sum
  let c := min (sum.toNat * p * (100 - fld (s.reg Reg.almFmt) 0 8) / 100 / 2 ^ 30) 131072
  let fits (c : Nat) : Bool := decide (ddrBase ≤ s.fmtMap) && decide (s.fmtMap + mapRegion ge c ≤ ddrBase + s.ddrCap)
  ((List.range (c + 1)).reverse.find? fits).getD 0

/-- Whether FORMAT's parameters are in range, for the blocks known bad (R292). -/
def State.fmtBad (s : State) (bad : List Nat) : Bool :=
  let op := fld (s.reg Reg.almFmt) 0 8
  let sp := fld (s.reg Reg.almFmt) 8 8
  decide (op < 7) || decide (50 < op) || decide (sp < 1) || decide (10 < sp) || decide (hbmEnd < s.fmtWb + 2 ^ 29) ||
    decide (s.fmtCap bad < 1)

/-- FORMAT starts (R291): step 1 leaves no root record that points at media. What it replaces is kept, for a FORMAT that the blocks found
bad make INVALID_FIELD has no effect (R292). DESIGN CHOICE (log entry 107). -/
def fmtStart (s : State) : State :=
  if s.regBit Reg.almStat 7 then s else
  match firstFail [(s.mode != modeQuiesce, (0x0203 : BitVec 16)), (s.alm.ns.any fun e => e.2.exists_, 0x0201), (s.fmtBad [], 0x0401)] with
  | some st => s.setReg Reg.almFmtRes (st.setWidth 64)
  | none =>
    let old := (((s.recRead rootMagic rootAddr).getD []).drop 32).take 17
    ((s.rootWrite fun l => putAt l 32 (List.replicate 17 0)).setRegBit Reg.almStat 7 true).onAlm fun a => { a with fmtOld := old }
def execFormat (s : State) : Out := .next (fmtStart s)

/-- The block-table entries and pools that FORMAT leaves (R292, R310): spares are the last good blocks of a group, the flush
reserve those before them. -/
def State.fmtTable (s : State) (marked failed : List Nat) (pe : Nat → Nat) : State :=
  (List.range 32).foldl (fun s g =>
    let x := s.fmtGroup (marked ++ failed) g
    let n := x.1.length
    let s := s.onAlm fun a => { a with groups := Tab.set (0, 0, 0) a.groups g (n, x.2.1, x.2.2) }
    (s.alm.geom.blocks g).foldl (fun s b =>
      let i := x.1.idxOf b
      let v := if b ∈ marked then 3 + 16 else if b ∈ failed then 3 + 32
        else (if n - x.2.1 ≤ i then 4 else if n - x.2.1 - x.2.2 ≤ i then 8 else 0)
      s.busWrite (s.blkAddr b) (leBytes 8 (v + (pe b + 1) % 65536 * 256))) s) s

/-- FORMAT clears the map region of capacity c and the journal region (R291). -/
def State.fmtZero (s : State) (c : Nat) : State :=
  let s := (List.range (mapRegion s.alm.geom c / 4096)).foldl (fun s p => s.busWrite (s.mapBase + 4096 * p) (List.replicate 4096 0)) s
  s.busWrite (journalAddr 0) (List.replicate 0x100000 0)

/-- FORMAT_COMPLETE (R291): the blocks found marked bad, and those whose erase failed. -/
def execFormatComplete (marked failed : List Nat) (s : State) : Out :=
  .next (
    if !s.regBit Reg.almStat 7 || s.mode == modeHoldup then s
    else
      let s := s.setRegBit Reg.almStat 7 false
      if s.fmtBad (marked ++ failed) then
        (((s.rootWrite fun l => putAt l 32 s.alm.fmtOld).onAlm fun a => { a with fmtOld := [] }).setReg Reg.almFmtRes 0x0401).almGo
      else
        let had := s.regBit Reg.almStat 1
        let old := s
        let pe (b : Nat) : Nat := if had then old.blkPe b else 0
        let c := s.fmtCap (marked ++ failed)
        let s := (s.alm.buf.map fun b => b.id).foldl State.bufGone s
        let s := s.onAlm fun a => { a with nand := [], ns := [], progs := [], reads := [], retiring := [], gcUrgent := [], fmtOld := [], opens := [], closed := [], victims := [], dests := []
                                           gcOn := [], dirty := [], loaded := [], ckpt := none, ckptDue := false, journal := 0
                                           jused := 0, jnext := 0, manA := [], manB := [], follow := none
                                           pct := (fld (s.reg Reg.almFmt) 0 8, fld (s.reg Reg.almFmt) 8 8) }
        let s := (s.setReg Reg.almMapBase (BitVec.ofNat 64 s.fmtMap)).setReg Reg.almWbBase (BitVec.ofNat 64 s.fmtWb)
        let s := (s.setReg Reg.almCap (BitVec.ofNat 64 c)).setReg Reg.almSeq 1
        let s := (s.setReg Reg.almCkptNo 0).setReg Reg.almCkptSeq 0
        let s := (s.fmtZero c).fmtTable marked failed pe
        let s := (List.range (s.tabPages - 512 * c)).foldl (fun s p => s.dirtyAdd (512 * c + p) 0) s
        let s := (((s.setRegBit Reg.almStat 4 false).setRegBit Reg.almStat 5 false).setRegBit Reg.almStat 2 false).wpUpdate
        let bad := (marked ++ failed).filter fun b => decide (b ∈ s.alm.geom.allBlocks)
        let s := s.addReg (Reg.almCnt 4) bad.length
        let s := if bad.all fun b => decide (b ∈ marked) then s else (s.setRegBit Reg.almStat 8 true).raiseEvt Reg.almEvt
        let s := s.setReg Reg.devInitStat (s.reg Reg.devInitStat &&& ~~~(0x10 : W64))
        let pages := s.alm.dirty.map Prod.fst
        let gs := (List.range 32).filter fun g => !(s.alm.geom.blocks g).isEmpty
        let o := s.ensureOpen (gs.headD 0) 3 true
        let u := s.alm.geom.unit
        let s := (List.range (ceilDiv pages.length u)).foldl (fun s i =>
          let o := s.ensureOpen (gs.getD (i % gs.length) 0) 3 true
          match o.2 with | some b => o.1.writePages b ((pages.drop (u * i)).take u) | none => o.1) o.1
        let s := ((s.onAlm fun a => { a with ckptOpens := a.opens }).ckptCommit s.lastSeq).setReg Reg.almFmtRes 0
        ((s.setRegBit Reg.almStat 0 true).raiseEvt Reg.almEvt).nsCommitted.almGo)

end Sys2Proof.Machine
end

