-- ==== Sys2Proof/Machine/Pipeline.lean ====
section
/-! DEFINITION. Sys2Proof/Machine/Pipeline.lean: pipeline jobs: placement (R174, R175), start (R37, R171), flits and credits
(R176), time limit (R185) and completion (R182). -/

namespace Sys2Proof.Machine

/-! ### Placement -/

/-- Fields of a stage descriptor (R171). -/
def Item.stPc (e : Item) (n : Nat) : W64 := e.word (stageAt n)
def Item.stEngine (e : Item) (n : Nat) : Nat := e.fieldN (stageAt n + 8) 1
def Item.stClassC (e : Item) (n : Nat) : Bool := e.fieldN (stageAt n + 9) 1 == 1
def Item.nstage (e : Item) : Nat := e.fieldN 8 1
def Item.nlink (e : Item) : Nat := e.fieldN 9 1

/-- FREE contexts of an engine, ascending; every configured one where `hypo` judges with every context FREE (R175). -/
def State.freeCtxs (s : State) (u : Nat) (hypo : Bool) : List Nat :=
  (List.range (fld (s.reg (Reg.oeCfg u)) 2 5)).filter fun c => hypo || (s.ctx (u * 16 + c)).st == .free
/-- Whether every context of an engine is FREE (OE_STAT.IDLE). -/
def State.engineIdle (s : State) (u : Nat) : Bool := (List.range 16).all fun c => (s.ctx (u * 16 + c)).st == .free

/-- Whether an engine admits a Booth in SEALED mode (R139, R174). -/
def State.admits (s : State) (u : Nat) (bid : BitVec 12) : Bool :=
  let st := s.reg (Reg.oeStat u)
  s.engineIdle u || (bitAt st 2 && decide (fld st 16 12 = bid.toNat) &&
    (List.range 16).all fun c => (s.ctx (u * 16 + c)).st == .free || (s.ctx (u * 16 + c)).bid == bid)

/-- Whether an engine qualifies for a stage, a FREE context apart (R174, R285). -/
def State.engineFits (s : State) (u : Nat) (bid : BitVec 12) (clsC : Bool) (named : Nat) (hypo : Bool) : Bool :=
  let cfg := s.reg (Reg.oeCfg u)
  bitAt cfg 0 && bitAt cfg 1 == clsC && (named == 255 || named == u % 16) &&
    (Tab.get 0xFFFF (s.booth bid).engines (u / 16)).getLsbD (u % 16) && (hypo || !s.sealed (u / 16) || s.admits u bid)

/-- Stages placed in ascending order: the contexts they take (R174 steps 2 and 3). `used` holds those taken before. -/
def State.placeStages (s : State) (e : Item) (bid : BitVec 12) (sl : Nat) (hypo : Bool) :
    List Nat → List Nat → Option (List Nat)
  | [], used => some used
  | n :: t, used =>
    let left (u : Nat) : List Nat := (s.freeCtxs u hypo).filter fun c => u * 16 + c ∉ used
    let us := ((List.range 16).map (sl * 16 + ·)).filter fun u =>
      s.engineFits u bid (e.stClassC n) (e.stEngine n) hypo && !(left u).isEmpty
    let best := (us.map fun u => (left u).length).foldl max 0
    match us.find? fun u => (left u).length = best with
    | none => none
    | some u =>
      match left u with
      | [] => none
      | c :: _ => s.placeStages e bid sl hypo t (used ++ [u * 16 + c])

/-- Links of live jobs whose source (or destination) stage is on an engine: the physical ports in use (R174). -/
def State.portsUsed (s : State) (u : Nat) (out : Bool) : List Nat :=
  s.jobs.flatMap fun e => if !e.2.live then [] else
    (e.2.links.filter fun l => match e.2.stages[if out then l.src else l.dst]? with
      | some g => decide (unitOf g.ctx = u)
      | none => false).map fun l => if out then l.outPhys else l.inPhys

/-- The lowest free physical ports of an engine. -/
def State.portsFree (s : State) (u : Nat) (out hypo : Bool) : List Nat :=
  (List.range 4).filter fun p => hypo || p ∉ s.portsUsed u out

/-- Logical ports (stage, port) that the link map uses in a direction, ascending. -/
def Item.ports (e : Item) (out : Bool) : List (Nat × Nat) :=
  let l := (List.range e.nlink).map fun k => if out then e.linkSrc k else e.linkDst k
  (List.range e.nstage).flatMap fun n => ((List.range 4).map fun p => (n, p)).filter (· ∈ l)

/-- Physical ports of the logical ports of a placement: each takes the lowest free port of its engine and direction. -/
def State.portMap (s : State) (e : Item) (ctxs : List Nat) (out hypo : Bool) : Option (List ((Nat × Nat) × Nat)) :=
  (e.ports out).foldl (fun acc p => match acc with
    | none => none
    | some m =>
      let u := unitOf (ctxs.getD p.1 0)
      let mine := (m.filter fun q => decide (unitOf (ctxs.getD q.1.1 0) = u)).map Prod.snd
      match (s.portsFree u out hypo).find? (· ∉ mine) with
      | none => none
      | some ph => some (m ++ [(p, ph)])) (some [])

/-- A placement of a job in a slice: contexts by stage and physical ports out and in. -/
def State.placeIn (s : State) (e : Item) (bid : BitVec 12) (hypo : Bool) (sl : Nat) :
    Option (List Nat × List ((Nat × Nat) × Nat) × List ((Nat × Nat) × Nat)) :=
  match s.placeStages e bid sl hypo (List.range e.nstage) [] with
  | none => none
  | some cs =>
    match s.portMap e cs true hypo, s.portMap e cs false hypo with
    | some o, some i => some (cs, o, i)
    | _, _ => none

/-- Slices that a job may use (R175): named or any, in the queue's SLICES mask and enabled by SLICE_EN. -/
def State.jobSlices (s : State) (e : Item) : List Nat :=
  (List.range 8).filter fun sl => (e.fieldN 10 1 == 255 || e.fieldN 10 1 == sl) && (s.queue e.q).slices.getLsbD sl &&
    s.ctl.sliceEn.getLsbD sl

/-- The tests of R175 that are made when a job reaches the front of its queue: their status, 0 where it passes. -/
def State.frontStatus (s : State) (e : Item) : BitVec 16 :=
  let sl := e.fieldN 10 1
  (firstFail [(decide (sl < 8) && !(s.queue e.q).slices.getLsbD sl, 0x0701),
    (!((s.jobSlices e).any fun n => (s.placeIn e e.bid true n).isSome), 0x0340)]).getD 0

/-- The job at the front of a queue is tested, once (R175). -/
def State.frontTest (s : State) (q : BitVec 16) : State :=
  let x := s.queue q
  match x.fetched with
  | [] => s
  | e :: t =>
    if x.cls ≠ 1 ∨ e.front.isSome then s
    else s.setQueue q { x with fetched := { e with front := some (s.frontStatus e) } :: t }

/-- ENTRY_FETCH (R268, R248). -/
def execEntryFetch (q : BitVec 16) (s : State) : Out := .next ((s.fetchOne q).frontTest q)

/-- The status of a job that can never be placed (R175). -/
def State.neverPlaced (s : State) (e : Item) : Option (BitVec 16) :=
  let st := e.front.getD (s.frontStatus e)
  firstFail [(decide (s.quota e.bid 1 < e.nstage), 0x0301), (st != 0, st)]

/-- The placement of a job now: in the first permitted slice that has one, within the Booth's context quota (R174, R284). -/
def State.placeNow (s : State) (e : Item) : Option (Nat × List Nat × List ((Nat × Nat) × Nat) × List ((Nat × Nat) × Nat)) :=
  if s.quota e.bid 1 < s.ctxInUse e.bid + e.nstage then none
  else (s.jobSlices e).findSome? fun sl => (s.placeIn e e.bid false sl).map fun r => (sl, r)

/-! ### Start -/

/-- A context as a stage starts (R37, R60): PC, g1–g6, and its job. -/
def Item.startCtx (e : Item) (n job cyc : Nat) : Ctx :=
  let pc := e.stPc n
  let g := (List.range 6).foldl (fun t i => Tab.set 0 t (i + 1) (e.word (stageAt n + 16 + 8 * i))) []
  { st := .ready, r := { g := g, pc := pc, npc := pc + 4 }, priv := .u, bid := e.bid, qid := e.q, job := job, stage := n,
    seq := e.seq, cycle0 := cyc }

/-- In SEALED mode an engine that a new Booth enters is invalidated and takes its owner (R139). -/
def State.admitBooth (s : State) (u : Nat) (bid : BitVec 12) : State :=
  if !s.sealed (u / 16) then s else
  let st := s.reg (Reg.oeStat u)
  if bitAt st 2 ∧ fld st 16 12 = bid.toNat then s
  else (s.l1InvAll u).setReg (Reg.oeStat u) (setFld (setBit st 2 true) 16 12 bid.toNat)

/-- A number no live job bears. -/
def State.freeJob (s : State) : Nat := (firstIdx (s.jobs.length + 1) fun j => !(s.job j).live).getD 0

/-- A placed job starts: every stage becomes READY (R174 steps 3 and 4). -/
def State.startJob (s : State) (e : Item) (sl : Nat) (cs : List Nat) (o i : List ((Nat × Nat) × Nat)) : State :=
  let j := s.freeJob
  let phys (m : List ((Nat × Nat) × Nat)) (p : Nat × Nat) : Nat := ((m.find? fun q => q.1 = p).map Prod.snd).getD 0
  let links := (List.range e.nlink).map fun k =>
    let a := e.linkSrc k
    let b := e.linkDst k
    { src := a.1, srcPort := a.2, dst := b.1, dstPort := b.2, outPhys := phys o a, inPhys := phys i b : SLink }
  let s := cs.foldl (fun s x => s.admitBooth (unitOf x) e.bid) s
  let s := s.setJob j { live := true, item := e, bid := e.bid, slice := sl, stages := cs.map fun x => { ctx := x }
                        links := links, rstage := e.fieldN 11 1, tlimit := e.fieldN 12 4, start := s.mer.ns }
  (cs.zip (List.range e.nstage)).foldl (fun s p =>
    s.setCtx p.1 (e.startCtx p.2 j (s.islandCycles p.1))) s

/-- RUN_PIPE (R169, R174, R175). -/
def execRunPipe (q : BitVec 16) (s : State) : Out :=
  .next ((dispatch 1 1 q (fun e s => (s.neverPlaced e).isSome || (s.placeNow e).isSome)
    (fun e s => match s.neverPlaced e with
      | some st => s.complete e st
      | none => match s.placeNow e with
        | none => s
        | some (sl, cs, o, i) => s.startJob e sl cs o i) s).frontTest q)

/-! ### Links -/

/-- The index of the link that a stage's logical port has in a direction (R172). -/
def Job.linkAt (b : Job) (stage port : Nat) (out : Bool) : Option Nat :=
  firstIdx b.links.length fun k => match b.links[k]? with
    | some l => if out then decide (l.src = stage ∧ l.srcPort = port) else decide (l.dst = stage ∧ l.dstPort = port)
    | none => false

/-- A link of a job. -/
def State.link (s : State) (j k : Nat) : SLink :=
  (s.job j).links.getD k { src := 0, srcPort := 0, dst := 0, dstPort := 0, outPhys := 0, inPhys := 0 }
def State.setLink (s : State) (j k : Nat) (l : SLink) : State :=
  let b := s.job j
  s.setJob j { b with links := b.links.set k l }

/-- A flit leaves its source; a send takes a credit, a marker of JEND does not (R176, R181). -/
def State.sendFlit (s : State) (j k : Nat) (f : Flit) : State :=
  let l := s.link j k
  s.setLink j k { l with fly := l.fly ++ [f], credits := if f.jend then l.credits else l.credits - 1
                         eosSent := l.eosSent || f.eos }

/-- A flit of a link is consumed or discarded: its credit is on its way back (R176). -/
def SLink.credit (l : SLink) (f : Flit) : SLink := if f.jend then l else { l with back := l.back + 1 }

/-- The flit at the head of a link's buffer is received (R178). -/
def State.takeFlit (s : State) (j k : Nat) : State × Option Flit :=
  let l := s.link j k
  match l.buf with
  | [] => (s, none)
  | f :: t => (s.setLink j k (SLink.credit { l with buf := t, eosTaken := l.eosTaken || f.eos } f), some f)

/-- The receive word (R178). -/
def recvWord (f : Flit) : W64 := BitVec.ofNat 64 (f.tag.toNat + f.eos.toNat * 65536)

/-- What a receive does with a flit: memory or v registers take the payload, rd the receive word (R177, R178). -/
def State.recvFlit (s : State) (x : Nat) (rd : Reg5) (dst : Option (Nat × Attr)) (vb : Nat) (f : Flit) : State :=
  let s :=
    if f.eos then s
    else match dst with
      | some (a, at_) =>
        let e : SbEntry := { ctx := x, addr := a, data := lineBytes f.data 0 64, attr := at_, bid := (s.ctx x).bid }
        s.sbPush (unitOf x) e
      | none => (List.range 4).foldl (fun s i => s.setV x (vb + i) (f.data.extractLsb' (128 * i) 128)) s
  s.setG x rd.toNat (recvWord f)

/-- The stage of an engine's context that a physical port serves: the job and link (R174). -/
def State.physLink (s : State) (u port : Nat) (out : Bool) : Option (Nat × Nat) :=
  s.jobs.findSome? fun e => if !e.2.live then none else
    (firstIdx e.2.links.length fun k => match e.2.links[k]? with
      | none => false
      | some l => match e.2.stages[if out then l.src else l.dst]? with
        | some g => decide (unitOf g.ctx = u) && decide ((if out then l.outPhys else l.inPhys) = port)
        | none => false).map fun k => (e.1, k)

def uIdx (sl : Fin 8) (e : Fin 16) : Nat := sl.val * 16 + e.val

/-- A context's blocked operation completes: it is READY again and its instruction retires (R178). -/
def State.unblock (s : State) (x : Nat) : State := (s.setCtx x { s.ctx x with st := .ready, wait := .none }).retire x

/-- The stage of a link's end. -/
def Job.stageOf (b : Job) (n : Nat) : Stage := b.stages.getD n { ctx := 0 }

/-- FLIT_DELIVERY: the oldest flit in flight to an inbound physical port arrives (R176, R181); a receive that waits for it
completes (R178). -/
def execFlitDelivery (sl : Fin 8) (e : Fin 16) (port : Fin 4) (s : State) : Out :=
  .next (match s.physLink (uIdx sl e) port.val false with
  | none => s
  | some (j, k) =>
    let l := s.link j k
    let b := s.job j
    match l.fly with
    | [] => s
    | f :: t =>
      if (b.stageOf l.dst).ended then
        (s.setLink j k (SLink.credit { l with fly := t } f)).addReg (Reg.oeLinkDrop (unitOf (b.stageOf l.src).ctx)) 1
      else
        let x := (b.stageOf l.dst).ctx
        let s := s.setLink j k { l with fly := t, buf := l.buf ++ [f] }
        match (s.ctx x).wait with
        | .linkRecv p rd dst vb =>
          if p ≠ l.dstPort then s else
          let r := s.takeFlit j k
          match r.2 with
          | none => s
          | some f => (r.1.recvFlit x rd dst vb f).unblock x
        | _ => s)

/-- CREDIT_RETURN: a credit returns to an outbound physical port; a send that waits for it leaves (R176, R178). -/
def execCreditReturn (sl : Fin 8) (e : Fin 16) (port : Fin 4) (s : State) : Out :=
  .next (match s.physLink (uIdx sl e) port.val true with
  | none => s
  | some (j, k) =>
    let l := s.link j k
    if l.back = 0 then s else
    let s := s.setLink j k { l with back := l.back - 1, credits := l.credits + 1 }
    let x := ((s.job j).stageOf l.src).ctx
    match (s.ctx x).wait with
    | .linkSend p tag eos data =>
      if p ≠ l.srcPort then s else (s.sendFlit j k { data := data, tag := tag, eos := eos }).unblock x
    | _ => s)

/-! ### End -/

/-- Whether a stage still runs: its context has neither ended, faulted nor stopped. -/
def State.running (s : State) (g : Stage) : Bool :=
  let c := s.ctx g.ctx
  c.st != .drain && c.st != .faulted && c.st != .free && c.wait != .drain

/-- The PC of the first instruction a stage had not executed: its checkpoint's in run-ahead (R182, R183). -/
def Ctx.epc (c : Ctx) : W64 := match c.epi with | some e => e.chk.pc | none => c.r.pc

/-- TIME_LIMIT_EXPIRY (R185, R182). -/
def execTimeLimitExpiry (sl : Fin 8) (e c : Fin 16) (s : State) : Out :=
  .next (
    let j := (s.ctx (uIdx sl e * 16 + c.val)).job
    let b := s.job j
    if (s.ctx (uIdx sl e * 16 + c.val)).st = .free ∨ !b.live ∨ b.tlimit = 0 ∨ b.fault.isSome ∨
        (s.mer.ns - b.start).toNat < b.tlimit * 1000 then s
    else match firstIdx b.stages.length fun n => s.running (b.stageOf n) with
      | none => s
      | some n =>
        let epc := (s.ctx (b.stageOf n).ctx).epc
        (s.setJob j { b with fault := some (n, 0x0442)
                             stages := b.stages.set n { b.stageOf n with epc := epc } }).drainJob j)

/-- The result field of a job's completion (R182). -/
def Job.result (b : Job) : BitVec 16 × W64 :=
  match b.fault with
  | none => (0, (b.stageOf b.rstage).jend)
  | some (n, st) =>
    let g := b.stageOf n
    (st, BitVec.ofNat 64 (n + g.ctx / 16 % 16 * 16 + g.ctx % 16 * 256 + g.ctx / 256 * 4096 + g.epc.toNat % 2 ^ 32 * 2 ^ 32))

/-- A context is freed: its side-buffer entries go, and its fills in flight will be discarded (R148, R182). -/
def State.freeCtx (s : State) (x : Nat) : State :=
  let s := ((s.dropWait x).mvJobEnd x).setCtx x {}
  let e := s.exe (unitOf x)
  s.setExe (unitOf x) { e with side := e.side.filter fun y => y.ctx != x
                               fills := e.fills.map fun f => if f.ctx = x then { f with dead := true } else f }

/-- Whether a job can complete (R182). -/
def State.jobDone (s : State) (b : Job) : Bool :=
  b.live && (b.stages.all fun g => (s.ctx g.ctx).st == .drain || (s.ctx g.ctx).st == .faulted) &&
    b.links.all fun l => decide (l.held = 0)

/-- JOB_COMPLETION (R182): the drain of a job with a fault has stopped every stage first (R183). DESIGN CHOICE (log entry 104). -/
def execJobCompletion (sl : Fin 8) (e c : Fin 16) (s : State) : Out :=
  .next (
    let x := uIdx sl e * 16 + c.val
    let j := (s.ctx x).job
    let s := if (s.ctx x).st ≠ .free ∧ (s.job j).live ∧ (s.job j).fault.isSome then s.drainJob j else s
    let b := s.job j
    if (s.ctx x).st = .free ∨ !s.jobDone b then s
    else
      let s := (b.stages.map Stage.ctx).foldl State.freeCtx (s.setJob j {})
      s.complete b.item b.result.1 b.result.2 b.rang)

end Sys2Proof.Machine
end

