-- ==== Sys2Proof/Machine/CacheRegs.lean ====
section
/-! DEFINITION. Sys2Proof/Machine/CacheRegs.lean: the registers that configure engines and caches and run L2_MOP operations
(R138, R139, R148, R157, R160, R162–R164), and the commands that write them. -/

namespace Sys2Proof.Machine

/-! ### Engines -/

/-- Set bits of a number below 2^n. -/
def popBits (n v : Nat) : Nat := ((List.range n).filter fun i => v.testBit i).length

/-- The limits on OE_CFG (R138). -/
def oeCfgOk (v : W64) : Bool :=
  let n := fld v 2 5
  let ra := fld v 16 16
  decide (1 ≤ n) && decide (ra < 2 ^ n) &&
    (if bitAt v 1 then decide (n ≤ 4) else decide (n ≤ 16) && decide (512 * n + 512 * popBits 16 ra ≤ 8192))

/-- OE_CFG is written: refused as a whole unless the engine is idle and the limits hold (R138). -/
def oeCfgWrite (u : Nat) (v : W64) (s : State) : State :=
  if s.engineIdle u && oeCfgOk v then s.setReg (Reg.oeCfg u) (v &&& 0xFFFF007F) else s.setRegBit (Reg.oeStat u) 1 true

/-- OE_L1_CTL.INV (R148). -/
def l1Invalidate (u : Nat) (s : State) : State := s.l1InvAll u

/-- OE_L1_CTL.DEN is cleared: the L1D is invalidated (R163). -/
def l1dDisable (u : Nat) (s : State) : State :=
  (s.setRegBit (Reg.oeL1Ctl u) 1 false).setExe u { s.exe u with l1d := [] }

/-- OE_L1_CTL.SBEN is cleared: every entry goes, and every fill in flight will be discarded (R148). -/
def sideBufferDisable (u : Nat) (s : State) : State :=
  let e := s.exe u
  (s.setRegBit (Reg.oeL1Ctl u) 2 false).setExe u { e with side := [], fills := e.fills.map fun f => { f with dead := true } }

/-- OE_L1_CTL is written. -/
def oeL1CtlWrite (u : Nat) (v : W64) (s : State) : State :=
  let s := s.setRegBit (Reg.oeL1Ctl u) 0 (bitAt v 0)
  let s := if bitAt v 1 then s.setRegBit (Reg.oeL1Ctl u) 1 true else l1dDisable u s
  let s := if bitAt v 2 then s.setRegBit (Reg.oeL1Ctl u) 2 true else sideBufferDisable u s
  if bitAt v 3 then l1Invalidate u s else s

/-- OE_CFG_WRITE (R138). -/
def execOeCfgWrite (sl : Fin 8) (e : Fin 16) (v : W64) (s : State) : Out := .next (oeCfgWrite (uIdx sl e) v s)
/-- L1_INVALIDATE (R148). -/
def execL1Invalidate (sl : Fin 8) (e : Fin 16) (s : State) : Out := .next (l1Invalidate (uIdx sl e) s)
/-- L1D_DISABLE (R163). -/
def execL1dDisable (sl : Fin 8) (e : Fin 16) (s : State) : Out := .next (l1dDisable (uIdx sl e) s)
/-- SIDE_BUFFER_DISABLE (R148). -/
def execSideBufferDisable (sl : Fin 8) (e : Fin 16) (s : State) : Out := .next (sideBufferDisable (uIdx sl e) s)

/-! ### L2 -/

/-- L2_CTL.EN is cleared (R163): L1Ds and side buffers of the domain go; dirty lines stay, and set DIS_DIRTY. -/
def l2Disable (d : Nat) (s : State) : State :=
  if !s.regBit (Reg.l2Ctl d) 0 then s else
  let dirty := s.l2.any fun e => decide (e.1 / 131072 = d) && e.2.dirty
  let s := s.setRegBit (Reg.l2Ctl d) 0 false
  let s := if dirty then s.setRegBit (Reg.l2Stat d) 1 true else s
  (unitsOf d).foldl (fun s u =>
    let e := s.exe u
    s.setExe u { e with l1d := [], side := [], fills := e.fills.map fun f => { f with dead := true } }) s

/-- L2_CTL.EN is set: the lines kept are visible again (R163). -/
def l2Enable (d : Nat) (s : State) : State := s.setRegBit (Reg.l2Ctl d) 0 true

/-- L2_LOCK is written: more than 12 ways are refused (R160). -/
def l2LockWrite (d : Nat) (v : BitVec 32) (s : State) : State :=
  let w := v.toNat % 65536
  if 12 < popBits 16 w then s.setRegBit (Reg.l2Stat d) 2 true else s.setReg (Reg.l2Lock d) (BitVec.ofNat 64 w)

def execL2Disable (d : Fin 9) (s : State) : Out := .next (l2Disable d.val s)
def execL2Enable (d : Fin 9) (s : State) : Out := .next (l2Enable d.val s)
def execL2LockWrite (d : Fin 9) (v : BitVec 32) (s : State) : Out := .next (l2LockWrite d.val v s)

/-! ### L2_MOP (R157) -/

/-- The lines that a cache of a domain holds or is fetching, in a range of addresses, ascending: the others of the range
have nothing to maintain. -/
def State.heldIn (s : State) (d a n : Nat) : List Nat :=
  let units := unitsOf d
  let l := s.validLines d ++ units.flatMap fun u =>
    let e := s.exe u
    e.l1i ++ e.l1d.map (fun p => p.2 - 1) ++ e.side.map SideEntry.line ++ e.fills.map SideFill.line
  ((l.filter fun x => decide (a < x * 64 + 64) && decide (x * 64 < a + n)).eraseDups).insertionSort fun a b => a ≤ b

/-- The lines on which an L2_MOP operation waits for a fill in flight (R156): of a range, of the whole cache, or of a slot. -/
def State.mopLate (s : State) (d op way set : Nat) : List Nat :=
  let a := fld (s.reg (Reg.l2MopAddr d)) 6 42 * 64
  let n := fld (s.reg (Reg.l2MopLen d)) 0 48
  let l := s.l2At (l2Key d (set % l2Sets d) way)
  (s.missLines d).filter fun x =>
    if op ≤ 3 ∨ op = 10 then decide (a < x * 64 + 64) && decide (x * 64 < a + n)
    else if op ≤ 6 then true else l.valid && decide (l.line = x)

/-- A maintenance operation over a physical range (R155, R157). -/
def State.mopRange (s : State) (m : Mop) (d : Nat) (late : List Nat) : State :=
  let a := fld (s.reg (Reg.l2MopAddr d)) 6 42 * 64
  let n := fld (s.reg (Reg.l2MopLen d)) 0 48
  if n = 0 then s else ((s.heldIn d a n).filter (· ∉ late)).foldl (fun s l => s.mopLine m d l none) s

/-- An L2_MOP command begins unless one runs: CMD keeps its fields, GO and BUSY read 1 until the operation completes (R157). Lines with
a fill in flight are left for its end (R156). -/
def State.mopStart (s : State) (d op way set : Nat) (body : List Nat → State → State) : State :=
  if s.regBit (Reg.l2Stat d) 4 then s.setRegBit (Reg.l2Stat d) 5 true
  else
    let late := s.mopLate d op way set
    let s := s.setReg (Reg.l2MopCmd d) (BitVec.ofNat 64 (op + way * 16 + set * 256 + 2 ^ 31))
    body late { s.setRegBit (Reg.l2Stat d) 4 true with l2todo := Tab.set (0, []) s.l2todo d (op + way * 16, late) }

/-- WAY and SET of L2_MOP_CMD. -/
def State.mopWay (s : State) (d : Nat) : Nat := fld (s.reg (Reg.l2MopCmd d)) 4 4
def State.mopSet (s : State) (d : Nat) : Nat := fld (s.reg (Reg.l2MopCmd d)) 8 13
/-- A lock-fill over the range of L2_MOP_ADDR and L2_MOP_LEN (R162). -/
def State.mopLock (s : State) (d way : Nat) (late : List Nat) : State :=
  s.lockFill d way ((rangeLines (fld (s.reg (Reg.l2MopAddr d)) 6 42 * 64) (fld (s.reg (Reg.l2MopLen d)) 0 48)).filter (· ∉ late))
/-- An operation on one slot. -/
def State.mopOne (s : State) (m : Mop) (d set way : Nat) (late : List Nat) : State :=
  if late.isEmpty then s.mopSlot m d set way none else s

/-- A command of L2_MOP_CMD by its OP. An unassigned OP does nothing. -/
def mopGo (d op way set : Nat) (s : State) : State :=
  let run (body : List Nat → State → State) : State := s.mopStart d op way set body
  match op with
  | 1 => run fun l s => s.mopRange .cln d l
  | 2 => run fun l s => s.mopRange .inv d l
  | 3 => run fun l s => s.mopRange .cli d l
  | 4 => run fun l s => s.mopAll .cln d l
  | 5 => run fun l s => s.mopAll .inv d l
  | 6 => run fun l s => s.mopAll .cli d l
  | 7 => run fun l s => s.mopOne .cln d set way l
  | 8 => run fun l s => s.mopOne .inv d set way l
  | 9 => run fun l s => s.mopOne .cli d set way l
  | 10 => run fun l s => s.mopLock d way l
  | _ => if s.regBit (Reg.l2Stat d) 4 then s.setRegBit (Reg.l2Stat d) 5 true
    else s.setReg (Reg.l2MopCmd d) (BitVec.ofNat 64 (op + way * 16 + set * 256))

/-- L2_MOP_CMD is written (R157): without GO its fields take the value, and a running operation goes on (R10). -/
def mopCmdWrite (d : Nat) (v : W64) (s : State) : State :=
  if bitAt v 31 then mopGo d (fld v 0 4) (fld v 4 4) (fld v 8 13) s
  else s.setReg (Reg.l2MopCmd d) ((s.reg (Reg.l2MopCmd d) &&& 0x80000000) ||| (v &&& 0x1FFFFF))

def execL2MopClnR (d : Fin 9) (s : State) : Out := .next (mopGo d.val 1 (s.mopWay d.val) (s.mopSet d.val) s)
def execL2MopInvR (d : Fin 9) (s : State) : Out := .next (mopGo d.val 2 (s.mopWay d.val) (s.mopSet d.val) s)
def execL2MopCliR (d : Fin 9) (s : State) : Out := .next (mopGo d.val 3 (s.mopWay d.val) (s.mopSet d.val) s)
def execL2MopClnAll (d : Fin 9) (s : State) : Out := .next (mopGo d.val 4 (s.mopWay d.val) (s.mopSet d.val) s)
def execL2MopInvAll (d : Fin 9) (s : State) : Out := .next (mopGo d.val 5 (s.mopWay d.val) (s.mopSet d.val) s)
def execL2MopCliAll (d : Fin 9) (s : State) : Out := .next (mopGo d.val 6 (s.mopWay d.val) (s.mopSet d.val) s)
def execL2MopClnSw (d : Fin 9) (way : BitVec 4) (set : BitVec 13) (s : State) : Out := .next (mopGo d.val 7 way.toNat set.toNat s)
def execL2MopInvSw (d : Fin 9) (way : BitVec 4) (set : BitVec 13) (s : State) : Out := .next (mopGo d.val 8 way.toNat set.toNat s)
def execL2MopCliSw (d : Fin 9) (way : BitVec 4) (set : BitVec 13) (s : State) : Out := .next (mopGo d.val 9 way.toNat set.toNat s)
def execL2MopLockfill (d : Fin 9) (way : BitVec 4) (s : State) : Out := .next (mopGo d.val 10 way.toNat (s.mopSet d.val) s)

/-- What an operation does to a line whose fill it waited for (R156). -/
def State.mopLater (s : State) (d op way line : Nat) : State :=
  if op = 10 then (if s.l2Locked d way then (s.lockFillLine d way line).1 else s)
  else s.mopLine (if op % 3 = 1 then .cln else if op % 3 = 2 then .inv else .cli) d line none

/-- L2_MOP_COMPLETE: the lines that waited for a fill are served once none is in flight (R156), then GO and MOP_BUSY clear (R157). -/
def execL2MopComplete (d : Fin 9) (s : State) : Out :=
  .next (
    let t := Tab.get (0, []) s.l2todo d.val
    if t.2.any (s.inFlight d.val) then s else
    let s := t.2.foldl (fun s l => s.mopLater d.val (t.1 % 16) (t.1 / 16) l) { s with l2todo := Tab.erase s.l2todo d.val }
    (s.setRegBit (Reg.l2MopCmd d.val) 31 false).setRegBit (Reg.l2Stat d.val) 4 false)

end Sys2Proof.Machine
end

