-- ==== Sys2Proof/Machine/Inflate.lean ====
section
/-! DEFINITION. Sys2Proof/Machine/Inflate.lean: decoding of RFC 1951 bit streams with the changes of R373 for format OZ (R376). -/

namespace Sys2Proof

/-- The bits of bytes in the order of RFC 1951. -/
def bitsOf (l : List Byte) : List Bool := l.flatMap fun b => (List.range 8).map b.getLsbD

/-- n bits as a number, the least significant first; none where the input ends. -/
def takeBits : Nat → List Bool → Option (Nat × List Bool)
  | 0, l => some (0, l)
  | _ + 1, [] => none
  | n + 1, b :: t => (takeBits n t).map fun r => (b.toNat + 2 * r.1, r.2)

/-- A canonical prefix code: how many codes have each length, and the symbols in order of code. -/
structure Huff where
  count : List Nat
  syms : List Nat
deriving DecidableEq, Repr

/-- The code with given code lengths, zero for an unused symbol. -/
def mkHuff (lens : List Nat) : Huff :=
  let z := (List.range lens.length).zip lens
  { count := (List.range 16).map fun k => (lens.filter (· == k)).length
    syms := (List.range 15).flatMap fun k => (z.filter fun p => p.2 == k + 1).map Prod.fst }

/-- Codes left unassigned: negative for an over-subscribed code, positive for an incomplete one. -/
def Huff.left (h : Huff) : Int := (h.count.drop 1).foldl (fun a c => 2 * a - c) 1

/-- Whether a code is complete, or, for distances, is the single code or the empty one that RFC 1951 permits. -/
def Huff.okLit (h : Huff) : Bool := h.left == 0
def Huff.okDist (h : Huff) : Bool := h.left == 0 || (0 < h.left && decide (h.syms.length ≤ 1) && h.count.getD 1 0 == h.syms.length)

/-- What reading a symbol comes to. -/
inductive SymRes where
  | more | bad
  | ok (sym : Nat) (rest : List Bool)

/-- A symbol is read bit by bit: `len` is the length so far, `first` the first code of that length, `idx` its place. -/
def Huff.readGo (h : Huff) : Nat → Nat → Nat → Nat → Nat → List Bool → SymRes
  | 0, _, _, _, _, _ => .bad
  | _ + 1, _, _, _, _, [] => .more
  | k + 1, len, code, first, idx, b :: t =>
    let code := code + b.toNat
    let c := h.count.getD len 0
    if code < first + c then .ok (h.syms.getD (idx + (code - first)) 0) t
    else Huff.readGo h k (len + 1) (2 * code) (2 * (first + c)) (idx + c) t
def Huff.read (h : Huff) (l : List Bool) : SymRes := h.readGo 15 1 0 0 0 l

/-- Length of a length symbol from 257 to 285: base and extra bits. -/
def lenBase (sym : Nat) : Nat × Nat :=
  let i := sym - 257
  if sym = 285 then (258, 0) else if i < 8 then (3 + i, 0) else (3 + (4 + i % 4) * 2 ^ (i / 4 - 1), i / 4 - 1)
/-- Distance of a distance code: base and extra bits (R373 goes on with the pattern of RFC 1951). -/
def distBase (c : Nat) : Nat × Nat := if c < 2 then (c + 1, 0) else ((2 + c % 2) * 2 ^ (c / 2 - 1) + 1, c / 2 - 1)

/-- What a decoder knows of its format: whether it is OZ. -/
def ozDists (oz : Bool) : Nat := if oz then 40 else 30
def ozWindow (oz : Bool) : Nat := if oz then 1048576 else 32768

/-- How decoding stands: it ended with the final block, the input ended (at a block's edge or elsewhere), the stream is malformed, or
the output passed its limit. `out` is the data with its history, the newest byte first. -/
inductive Inf where
  | done (out : List Byte) (rest : List Bool)
  | more (out : List Byte) (edge : Bool)
  | bad
  | full

/-- How a block ended: with the rest of the input, or decoding stands. -/
inductive Blk where
  | go (out : List Byte) (rest : List Bool)
  | stop (r : Inf)

/-- A match of n bytes at a distance is copied. -/
def copyMatch : Nat → Nat → List Byte → List Byte
  | 0, _, out => out
  | n + 1, d, out => copyMatch n d (out.getD (d - 1) 0 :: out)

/-- The symbols of a block. -/
def infCodes (oz : Bool) (lit dist : Huff) (limit : Nat) : Nat → List Byte → List Bool → Blk
  | 0, out, _ => .stop (.more out false)
  | k + 1, out, l =>
    match lit.read l with
    | .more => .stop (.more out false)
    | .bad => .stop .bad
    | .ok sym t =>
      if sym < 256 then
        if limit ≤ out.length then .stop .full else infCodes oz lit dist limit k (BitVec.ofNat 8 sym :: out) t
      else if sym = 256 then .go out t
      else if 285 < sym then .stop .bad
      else
        match takeBits (lenBase sym).2 t with
        | none => .stop (.more out false)
        | some (x, t) =>
          match dist.read t with
          | .more => .stop (.more out false)
          | .bad => .stop .bad
          | .ok c t =>
            if ozDists oz ≤ c then .stop .bad
            else
              match takeBits (distBase c).2 t with
              | none => .stop (.more out false)
              | some (y, t) =>
                let n := (lenBase sym).1 + x
                let d := (distBase c).1 + y
                if ozWindow oz < d ∨ out.length < d then .stop .bad
                else if limit < out.length + n then .stop .full
                else infCodes oz lit dist limit k (copyMatch n d out) t

/-- The bytes that a list of bits spells. -/
def bytesOfBits : Nat → List Bool → List Byte
  | 0, _ => []
  | n + 1, l => BitVec.ofNat 8 (((takeBits 8 l).map Prod.fst).getD 0) :: bytesOfBits n (l.drop 8)

/-- A stored block, after its alignment. -/
def infStored (limit : Nat) (out : List Byte) (l : List Bool) : Blk :=
  let l := l.drop (l.length % 8)
  match takeBits 16 l with
  | none => .stop (.more out false)
  | some (n, t) =>
    match takeBits 16 t with
    | none => .stop (.more out false)
    | some (m, t) =>
      if n + m ≠ 65535 then .stop .bad
      else
        let k := min n (t.length / 8)
        if limit < out.length + k then .stop .full
        else
          let out := (bytesOfBits k t).reverse ++ out
          if k < n then .stop (.more out false) else .go out (t.drop (8 * n))

/-- The order in which a dynamic block gives the lengths of the code-length code. -/
def clOrder : List Nat := [16, 17, 18, 0, 8, 7, 9, 6, 10, 5, 11, 4, 12, 3, 13, 2, 14, 1, 15]

/-- What reading code lengths comes to. -/
inductive LensRes where
  | more | bad
  | ok (lens : List Nat) (rest : List Bool)

/-- The code lengths of a dynamic block, n in all; `acc` holds the newest first. -/
def readLens (h : Huff) (n : Nat) : Nat → List Nat → List Bool → LensRes
  | 0, _, _ => .bad
  | k + 1, acc, l =>
    if acc.length = n then .ok acc.reverse l
    else
      match h.read l with
      | .more => .more
      | .bad => .bad
      | .ok sym t =>
        if sym < 16 then readLens h n k (sym :: acc) t
        else
          let (v, b, e) := if sym = 16 then (acc.head?, 3, 2) else if sym = 17 then (some 0, 3, 3) else (some 0, 11, 7)
          match v, takeBits e t with
          | none, _ => .bad
          | _, none => .more
          | some v, some (x, t) =>
            if n < acc.length + b + x then .bad else readLens h n k (List.replicate (b + x) v ++ acc) t

/-- A dynamic block. -/
def infDynamic (oz : Bool) (limit : Nat) (out : List Byte) (l : List Bool) : Blk :=
  match takeBits 5 l with
  | none => .stop (.more out false)
  | some (hlit, t) =>
    match takeBits (if oz then 6 else 5) t with
    | none => .stop (.more out false)
    | some (hdist, t) =>
      match takeBits 4 t with
      | none => .stop (.more out false)
      | some (hclen, t) =>
        let m := 3 * (hclen + 4)
        if 29 < hlit ∨ (oz ∧ 39 < hdist) then .stop .bad
        else if t.length < m then .stop (.more out false)
        else
          let given := (List.range (hclen + 4)).map fun i => ((takeBits 3 (t.drop (3 * i))).map Prod.fst).getD 0
          let cl := mkHuff ((List.range 19).map fun v => given.getD (clOrder.idxOf v) 0)
          if !cl.okLit then .stop .bad
          else
            match readLens cl (hlit + 257 + hdist + 1) (hlit + hdist + 260) [] (t.drop m) with
            | .more => .stop (.more out false)
            | .bad => .stop .bad
            | .ok lens t =>
              let lit := mkHuff (lens.take (hlit + 257))
              let dist := mkHuff (lens.drop (hlit + 257))
              if !lit.okLit || !dist.okDist then .stop .bad else infCodes oz lit dist limit (t.length + 1) out t

/-- The fixed codes. -/
def fixedLit : Huff := mkHuff (List.replicate 144 8 ++ List.replicate 112 9 ++ List.replicate 24 7 ++ List.replicate 8 8)
def fixedDist (oz : Bool) : Huff := if oz then mkHuff (List.replicate 64 6) else mkHuff (List.replicate 32 5)

/-- Block after block. -/
def infBlocks (oz : Bool) (limit : Nat) : Nat → List Byte → List Bool → Inf
  | 0, out, _ => .more out false
  | k + 1, out, l =>
    if l = [] then .more out true
    else
      match takeBits 3 l with
      | none => .more out false
      | some (h, t) =>
        let b := match h / 2 with
          | 0 => infStored limit out t
          | 1 => infCodes oz fixedLit (fixedDist oz) limit (t.length + 1) out t
          | 2 => infDynamic oz limit out t
          | _ => .stop .bad
        match b with
        | .stop r => r
        | .go out t => if h % 2 = 1 then .done out t else infBlocks oz limit k out t

/-- A bit stream is decoded after a history, the newest byte first; `limit` bounds history and output together. DEDUCED (log entry 40). -/
def inflate (oz : Bool) (hist : List Byte) (limit : Nat) (src : List Byte) : Inf :=
  infBlocks oz limit (8 * src.length + 1) hist (bitsOf src)

end Sys2Proof
end

