-- ==== Sys2Proof/Machine/Deflate.lean ====
section
/-! DEFINITION. Sys2Proof/Machine/Deflate.lean: the coder of the compression engine (R371): which earlier data a match may name, the three
block forms, and the shortest of them. What R371 leaves to the part is the plan that Config.deflate gives. -/

namespace Sys2Proof

/-- The hash-chain depth of a level (R371). -/
def chainDepth (level : Nat) : Nat := if level = 9 then 4096 else if level = 8 then 1024 else 2 ^ (level + 1)

/-- A literal, or a match of n bytes at a distance. -/
inductive CzTok where
  | lit (b : Byte)
  | copy (n d : Nat)
deriving DecidableEq, Repr

/-- How many of the next bytes a copy from a distance gives; `back` holds what came before, the newest byte first. -/
def matchLen : Nat → Nat → List Byte → List Byte → Nat
  | 0, _, _, _ => 0
  | _, _, _, [] => 0
  | k + 1, d, back, b :: t => if back.getD (d - 1) 0 = b then 1 + matchLen k d (b :: back) t else 0

/-- The candidates examined at a position: the distances inside the window at which a match of three bytes begins, the nearest first,
at most the chain's depth of them (R371). DEDUCED (log entry 41). -/
def czCands (oz : Bool) (depth : Nat) (back rest : List Byte) : List Nat :=
  (((List.range (min (ozWindow oz) back.length)).map (· + 1)).filter fun d => 3 ≤ matchLen 3 d back rest).take depth

/-- The token at a position, by the plan's number for it: a literal, or a match of 3 to 258 bytes with one of the candidates. -/
def czTok (oz : Bool) (depth use : Nat) (back : List Byte) (b : Byte) (t : List Byte) : CzTok :=
  let c := czCands oz depth back (b :: t)
  match (c.drop (use % (c.length + 1))).head? with
  | none => .lit b
  | some d => .copy (3 + use / (c.length + 1) % (matchLen 258 d back (b :: t) - 2)) d

/-- Bytes that a token stands for. -/
def CzTok.size : CzTok → Nat
  | .lit _ => 1
  | .copy n _ => n

/-- The tokens of a block. -/
def czToks (oz : Bool) (depth : Nat) : Nat → List Nat → List Byte → List Byte → List CzTok
  | 0, _, _, _ => []
  | _, _, _, [] => []
  | k + 1, u, back, b :: t =>
    let x := czTok oz depth (u.headD 0) back b t
    x :: czToks oz depth k u.tail (((b :: t).take x.size).reverse ++ back) ((b :: t).drop x.size)

/-- n bits of a number, the least significant first. -/
def numBits (n v : Nat) : List Bool := (List.range n).map v.testBit

/-- The code word of the symbol at a place of a code's order, its most significant bit first. -/
def Huff.wordGo (h : Huff) (i : Nat) : Nat → Nat → Nat → Nat → List Bool
  | 0, _, _, _ => []
  | k + 1, len, first, idx =>
    let c := h.count.getD len 0
    if i < idx + c then (numBits len (first + (i - idx))).reverse else Huff.wordGo h i k (len + 1) (2 * (first + c)) (idx + c)
def Huff.word (h : Huff) (sym : Nat) : List Bool := h.wordGo (h.syms.idxOf sym) 15 1 0 0

/-- The last symbol whose base does not pass a value. -/
def lastBase (base : Nat → Nat × Nat) (syms : List Nat) (v : Nat) : Nat := (syms.filter fun c => (base c).1 ≤ v).getLastD 0
def lenSyms : List Nat := (List.range 29).map (257 + ·)

/-- The bits of a token. -/
def CzTok.bits (oz : Bool) (lit dist : Huff) : CzTok → List Bool
  | .lit b => lit.word b.toNat
  | .copy n d =>
    let s := lastBase lenBase lenSyms n
    let c := lastBase distBase (List.range (ozDists oz)) d
    lit.word s ++ numBits (lenBase s).2 (n - (lenBase s).1) ++ dist.word c ++ numBits (distBase c).2 (d - (distBase c).1)

/-- The bits of a block's tokens with its end. -/
def czCodes (oz : Bool) (lit dist : Huff) (toks : List CzTok) : List Bool :=
  toks.flatMap (CzTok.bits oz lit dist) ++ lit.word 256

/-- A stored block that begins at a bit position, without its BFINAL bit. -/
def storedBits (pos : Nat) (l : List Byte) : List Bool :=
  [false, false] ++ List.replicate ((16 - (pos + 3) % 8) % 8) false ++ numBits 16 l.length ++ numBits 16 (65535 - l.length) ++ bitsOf l

/-- A fixed block without its BFINAL bit. -/
def fixedBits (oz : Bool) (toks : List CzTok) : List Bool := [true, false] ++ czCodes oz fixedLit (fixedDist oz) toks

/-- A dynamic block without its BFINAL bit, with the code lengths of a plan, and the symbols that spell them. -/
def dynamicBits (oz : Bool) (p : CzPlan) (toks : List CzTok) : List Bool :=
  let cl := mkHuff p.cl
  let given := clOrder.map fun v => p.cl.getD v 0
  let m := max 4 (19 - (given.reverse.takeWhile (· == 0)).length)
  [false, true] ++ numBits 5 (p.lit.length - 257) ++ numBits (if oz then 6 else 5) (p.dist.length - 1) ++ numBits 4 (m - 4) ++
    (given.take m).flatMap (numBits 3) ++
    (p.spell.flatMap fun x => cl.word x.1 ++ numBits (if x.1 = 16 then 2 else if x.1 = 17 then 3 else if x.1 = 18 then 7 else 0) x.2) ++
    czCodes oz (mkHuff p.lit) (mkHuff p.dist) toks

/-- Whether the bits of a dynamic block decode to its data. -/
def dynamicOk (oz : Bool) (back l : List Byte) (b : List Bool) : Bool :=
  match infDynamic oz (back.length + l.length) back (b.drop 2) with
  | .go out rest => rest.isEmpty && out == l.reverse ++ back
  | .stop _ => false

/-- A block: stored, fixed or dynamic, whichever is shortest, with ties in that order (R371). -/
def czBlock (oz : Bool) (depth pos : Nat) (p : CzPlan) (back l : List Byte) : List Bool :=
  let toks := czToks oz depth l.length p.use back l
  let s := storedBits pos l
  let f := fixedBits oz toks
  let b := if s.length ≤ f.length then s else f
  let d := dynamicBits oz p toks
  if d.length < b.length ∧ dynamicOk oz back l d then d else b

/-- Block after block from a bit position; each ends after at most 65,535 input bytes (R371). `whole`: only there. -/
def czBlocks (oz : Bool) (depth : Nat) (whole final : Bool) : Nat → List CzPlan → Nat → List Byte → List Byte → List Bool
  | 0, _, _, _, _ => []
  | k + 1, ps, pos, back, rest =>
    let p := ps.headD {}
    let n := if whole then 65535 else min 65535 (max 1 p.size)
    let last := decide (rest.length ≤ n)
    let b := (final && last) :: czBlock oz depth pos p back (rest.take n)
    if last then b
    else b ++ czBlocks oz depth whole final k ps.tail (pos + b.length) ((rest.take n).reverse ++ back) (rest.drop n)

/-- The bits of a body: its blocks, then padding, or the empty stored block that ends a job which is not the last (R375). -/
def czBits (oz : Bool) (depth : Nat) (whole final : Bool) (ps : List CzPlan) (back l : List Byte) : List Bool :=
  let b := if l.isEmpty && !final then [] else czBlocks oz depth whole final (l.length + 1) ps 0 back l
  if final then b ++ List.replicate ((8 - b.length % 8) % 8) false else b ++ false :: storedBits b.length []

/-- The bound of R371 on a body; a stream job that is not the last adds 5 bytes for its flush. -/
def czBound (n : Nat) (final : Bool) : Nat := n + 5 * max 1 ((n + 65534) / 65535) + 1 + (if final then 0 else 5)

/-- The coded body by the part's plan; where its cuts pass the bound, with blocks of 65,535 bytes. DESIGN CHOICE (log entry 41). -/
def czBody (oz : Bool) (level : Nat) (final : Bool) (ps : List CzPlan) (hist l : List Byte) : List Byte :=
  let f (whole : Bool) : List Byte :=
    let b := czBits oz (chainDepth level) whole final ps hist.reverse l
    bytesOfBits (b.length / 8) b
  if (f false).length ≤ czBound l.length final then f false else f true

end Sys2Proof
end

