-- ==== Sys2Proof/Machine/Compress.lean ====
section
/-! DEFINITION. Sys2Proof/Machine/Compress.lean: the compression engine (R370–R377): formats, coding, decoding, stream contexts and the
four units. -/

namespace Sys2Proof.Machine

/-! ### Formats (R370, R372) -/

def fmtOz : Nat := 3

/-- The header written. -/
def czHead (fmt level : Nat) : List Byte :=
  match fmt with
  | 0 => []
  | 1 => [0x78, if level = 1 then 0x01 else if level ≤ 5 then 0x5E else if level = 6 then 0x9C else 0xDA]
  | 2 => [0x1F, 0x8B, 0x08, 0x00, 0, 0, 0, 0, if level = 1 then 4 else if level = 9 then 2 else 0, 0xFF]
  | _ => leBytes 4 0x3C6C5A95 ++ [1, 0, 20, BitVec.ofNat 8 level] ++ leBytes 8 0

/-- The trailer of a stream of data. DEDUCED (log entry 39). DEDUCED (log entry 40). -/
def czTail (fmt : Nat) (l : List Byte) : List Byte :=
  match fmt with
  | 0 => []
  | 1 => beBytes 4 (adler32 l).toNat
  | 2 => leBytes 4 (crc32 l).toNat ++ leBytes 4 l.length
  | _ => leBytes 4 (crc32c l).toNat ++ leBytes 4 0 ++ leBytes 8 l.length
def czTailLen (fmt : Nat) : Nat := match fmt with | 0 => 0 | 1 => 4 | 2 => 8 | _ => 16

/-- What reading a header comes to. -/
inductive HeadRes where
  | more | bad
  | ok (n : Nat)
deriving DecidableEq, Repr

/-- The byte past a zero-terminated field from byte k. -/
def pastZero (l : List Byte) (k : Nat) : Option Nat :=
  let i := ((l.drop k).takeWhile (· != 0)).length
  if k + i < l.length then some (k + i + 1) else none

/-- The header of RFC 1952, whose CRC is tested where it has one. -/
def gzipHead (l : List Byte) : HeadRes :=
  if l.length < 10 then (if l.take 2 = ([0x1F, 0x8B] : List Byte).take l.length then .more else .bad)
  else
    let f := recFld l 3 1
    if recFld l 0 2 ≠ 0x8B1F ∨ recFld l 2 1 ≠ 8 ∨ 32 ≤ f then .bad
    else
      let k : Option Nat := if f / 4 % 2 = 1 then (if l.length < 12 then none else some (12 + recFld l 10 2)) else some 10
      let k := if f / 8 % 2 = 1 then k.bind (pastZero l) else k
      let k := if f / 16 % 2 = 1 then k.bind (pastZero l) else k
      match k with
      | none => .more
      | some k =>
        let n := if f / 2 % 2 = 1 then k + 2 else k
        if l.length < n then .more
        else if f / 2 % 2 = 1 ∧ recFld l k 2 ≠ (crc32 (l.take k)).toNat % 65536 then .bad
        else .ok n

/-- The header of a stream (R376). DEDUCED (log entry 40). -/
def czHeadRead (fmt : Nat) (l : List Byte) : HeadRes :=
  match fmt with
  | 0 => .ok 0
  | 1 =>
    if l.length < 2 then .more
    else
      let c := recFld l 0 1
      let f := recFld l 1 1
      if c % 16 ≠ 8 ∨ 7 < c / 16 ∨ (c * 256 + f) % 31 ≠ 0 ∨ f / 32 % 2 = 1 then .bad else .ok 2
  | 2 => gzipHead l
  | _ =>
    if l.length < 16 then .more
    else if recFld l 0 4 ≠ 0x3C6C5A95 ∨ recFld l 4 1 ≠ 1 ∨ recFld l 5 1 ≠ 0 ∨ recFld l 6 1 ≠ 20 ∨ recFld l 8 8 ≠ 0 then .bad
    else .ok 16

/-- How a stream decodes (R376, R377): it ends after a number of bytes with its trailer as it should be, wrong in a check value or
length, or malformed; the input ends before the trailer does; the stream is malformed; its output passes the limit. -/
inductive CzEnd where
  | ok | check | more | bad | full
deriving DecidableEq, Repr

/-- A stream from its first byte: how it ends, its data so far, the bytes consumed. -/
def czDecode (fmt limit : Nat) (l : List Byte) : CzEnd × List Byte × Nat :=
  match czHeadRead fmt l with
  | .more => (.more, [], l.length)
  | .bad => (.bad, [], 0)
  | .ok h =>
    match inflate (fmt == fmtOz) [] limit (l.drop h) with
    | .bad => (.bad, [], 0)
    | .full => (.full, [], 0)
    | .more out _ => (.more, out.reverse, l.length)
    | .done out rest =>
      let d := out.reverse
      let k := l.length - rest.length / 8
      let t := (l.drop k).take (czTailLen fmt)
      if fmt = fmtOz ∧ (rest.take (rest.length % 8)).any id then (.bad, [], 0)
      else if t.length < czTailLen fmt then (.more, d, l.length)
      else if fmt = fmtOz ∧ recFld t 4 4 ≠ 0 then (.bad, d, k + t.length)
      else (if t = czTail fmt d then .ok else .check, d, k + t.length)

/-! ### Jobs -/

def Item.czCtx (e : Item) : Nat := e.fieldN 8 2
def Item.czSingle (e : Item) : Bool := e.czCtx == 0xFFFF
def Item.czFirst (e : Item) : Bool := decide (e.fieldN 12 1 % 2 = 1)
def Item.czLast (e : Item) : Bool := decide (e.fieldN 12 1 / 2 % 2 = 1)
def opCompress : Nat := 1
def opDecompress : Nat := 2
def opCzClose : Nat := 4

/-- Source bytes of a job, 64 at a time: those before a failing access, and its status. -/
def State.czRead : Nat → State → Item → W64 → Nat → List Byte × Option (BitVec 16)
  | 0, _, _, _, _ => ([], none)
  | _, _, _, _, 0 => ([], none)
  | k + 1, s, e, a, n =>
    let m := min n (64 - a.toNat % 64)
    let r := s.dmaRead e.bid a m (s.queue e.q).prio
    match r.2.1 with
    | some st => ([], some st)
    | none => let t := State.czRead k r.1 e (a + BitVec.ofNat 64 m) (n - m); (r.2.2 ++ t.1, t.2)

/-- The size of a save area (R375). -/
def czSave (fmt : Nat) : Nat := if fmt = fmtOz then 1152 * 1024 else 128 * 1024

/-- A job fails as a whole (R377): its destination's contents are undefined. -/
def State.czFail (s : State) (e : Item) (st : BitVec 16) : State :=
  let f := s.fresh
  ((f.2.dmaWrite e.bid (e.word 32) (leBytes (e.fieldN 28 4) f.1)).1.bump Reg.czFails).complete e st

/-- A job ends well: its output is written and counted. -/
def State.czOk (s : State) (e : Item) (out : List Byte) (used : Nat) (c : Option CzCtx) : State :=
  if e.fieldN 28 4 < out.length then s.czFail e 0x03B0
  else
    let w := s.dmaWrite e.bid (e.word 32) out
    match w.2 with
    | some st => w.1.czFail e st
    | none =>
      let s := (w.1.addReg Reg.czInBytes used).addReg Reg.czOutBytes out.length
      let s := match c with | some c => s.setCz e.czCtx c | none => s
      s.complete e 0 (BitVec.ofNat 64 (out.length + used * 2 ^ 32))

/-- A compression job. DEDUCED (log entry 38). DESIGN CHOICE (log entry 41). -/
def State.czCompress (s : State) (e : Item) (single : Bool) (fmt level : Nat) (c : CzCtx) : State :=
  let r := s.dmaRead e.bid (e.word 16) (e.fieldN 24 4) (s.queue e.q).prio
  match r.2.1 with
  | some st => r.1.czFail e st
  | none =>
    let l := r.2.2
    let first := single || e.czFirst
    let last := single || e.czLast
    let hist := if first then [] else c.src
    let out := (if first then czHead fmt level else []) ++ czBody (fmt == fmtOz) level last (Config.deflate fmt level last hist l) hist.flatten l ++
      (if last then czTail fmt (hist.flatten ++ l) else [])
    r.1.czOk e out l.length (if single then none else
      some { c with src := if last then [] else hist ++ [l], out := 0, started := c.started || first })

/-- A decompression job of a stream context: all of its input is consumed. DEDUCED (log entry 38). DEDUCED (log entry 39).
DESIGN CHOICE (log entry 43). -/
def State.czStream (s : State) (e : Item) (c : CzCtx) : State :=
  let r := s.dmaRead e.bid (e.word 16) (e.fieldN 24 4) (s.queue e.q).prio
  match r.2.1 with
  | some st => r.1.czFail e st
  | none =>
    let hist := if e.czFirst then [] else c.src
    let done := if e.czFirst then 0 else c.out
    let d := czDecode c.fmt (done + e.fieldN 28 4) (hist ++ [r.2.2]).flatten
    let c' := { c with src := if e.czLast then [] else hist ++ [r.2.2], out := if e.czLast then 0 else d.2.1.length
                       started := c.started || e.czFirst }
    let ok := r.1.czOk e (d.2.1.drop done) r.2.2.length (some c')
    match d.1 with
    | .ok => ok
    | .full => r.1.czFail e 0x03B0
    | .more => if e.czLast then r.1.czFail e 0x04B0 else ok
    | .check => if e.czLast then r.1.czFail e 0x0403 else ok
    | .bad => if d.2.2 = 0 ∨ e.czLast then r.1.czFail e 0x04B0 else ok

/-- A single-shot decompression: it reads up to the trailer's end (R376). -/
def State.czSingleShot (s : State) (e : Item) (fmt : Nat) : State :=
  let n := e.fieldN 24 4
  let p := State.czRead (n + 1) s e (e.word 16) n
  let d := czDecode fmt (e.fieldN 28 4) p.1
  let r := s.dmaRead e.bid (e.word 16) (if d.1 = .ok then d.2.2 else n) (s.queue e.q).prio
  match d.1 with
  | .ok => r.1.czOk e d.2.1 d.2.2 none
  | .full => r.1.czFail e 0x03B0
  | .check => r.1.czFail e 0x0403
  | .bad => r.1.czFail e 0x04B0
  | .more => r.1.czFail e (p.2.getD 0x04B0)

/-- A job runs: a stream job's save area is translated as a write (R375), and its contents are the engine's own.
DESIGN CHOICE (log entry 43). -/
def State.czRun (s : State) (e : Item) : State :=
  let comp := e.opcode == opCompress
  if e.czSingle then
    if comp then s.czCompress e true (e.fieldN 10 1) (e.fieldN 11 1) {} else s.czSingleShot e (e.fieldN 10 1)
  else
    let c := s.cz e.czCtx
    let f := s.fresh
    match s.dmaCheck c.bid true c.save (czSave c.fmt) with
    | some st => s.czFail e st
    | none =>
      let s := (f.2.dmaWrite c.bid c.save (leBytes (czSave c.fmt) f.1)).1
      if comp then s.czCompress e false c.fmt c.level c else s.czStream e c

/-! ### Units (R375) -/

def State.czUnit (s : State) (u : Nat) : Option Item := Tab.get none s.eng.units u
/-- DESIGN CHOICE (log entry 42). -/
def State.czFreeUnit (s : State) : Option Nat := firstIdx 4 fun u => (s.czUnit u).isNone
/-- Whether a unit runs a job of a stream context. -/
def State.czBusy (s : State) (n : Nat) : Bool :=
  (List.range 4).any fun u => match s.czUnit u with | some e => !e.czSingle && e.czCtx == n | none => false

/-- A unit takes a job. DESIGN CHOICE (log entry 42). -/
def State.czStart (s : State) (u : Nat) (e : Item) : State := { s with eng := { s.eng with units := Tab.set none s.eng.units u (some e) } }

/-- The first waiting stream job whose context is idle, with the jobs that stay. -/
def czPick (busy : Nat → Bool) : List Item → Option (Item × List Item)
  | [] => none
  | e :: t =>
    if busy e.czCtx then (czPick (fun n => busy n || n == e.czCtx) t).map fun r => (r.1, e :: r.2) else some (e, t)

/-- Waiting stream jobs go to free units; a CLOSE runs once its context is idle and nothing of it waits before it (R375). -/
def State.czGo : Nat → State → State
  | 0, s => s
  | k + 1, s =>
    match czPick s.czBusy s.eng.wait with
    | none => s
    | some (e, t) =>
      let c := s.cz e.czCtx
      let s' := { s with eng := { s.eng with wait := t } }
      if !c.open_ then State.czGo k (s'.complete e 0x0701)
      else if e.opcode = opCzClose then State.czGo k ((s'.setCz e.czCtx {}).complete e 0)
      else match s.czFreeUnit with
        | none => s
        | some u => State.czGo k (s'.czStart u e)

/-- COMPRESSION_JOB_END: a unit finishes its job (R375–R377). -/
def execCompressionJobEnd (u : Fin 4) (s : State) : Out :=
  .next (
    match s.czUnit u.val with
    | none => s
    | some e =>
      let s := { s with eng := { s.eng with units := Tab.set none s.eng.units u.val none } }
      let s := s.czRun e
      State.czGo (s.eng.wait.length + 1) s)

/-! ### Commands (R374) -/

/-- The tests of COMPRESS and DECOMPRESS. -/
def State.czRefuse (s : State) (e : Item) : Option (BitVec 16) :=
  let comp := e.opcode == opCompress
  let fmt := e.fieldN 10 1
  let lvl := e.fieldN 11 1
  let c := s.cz e.czCtx
  let bad := if e.czSingle then decide (3 < fmt) || (if comp then lvl == 0 || decide (9 < lvl) else lvl != 0) || e.fieldN 12 1 != 0
    else fmt != 0 || lvl != 0
  firstFail [(!s.regBit Reg.czCtl 0, 0x0201), (bad, 0x0401),
    (!e.czSingle && (!c.open_ || (c.bid != e.bid && e.bid != 0)), 0x0701), (!e.czSingle && c.dir == comp, 0x0401)]

/-- A job goes to a unit, or waits behind its context's earlier jobs. -/
def State.czJob (s : State) (e : Item) : State :=
  match s.czRefuse e with
  | some st => s.complete e st
  | none =>
    if e.czSingle then (match s.czFreeUnit with | some u => s.czStart u e | none => s)
    else
      let s := { s with eng := { s.eng with wait := s.eng.wait ++ [e] } }
      State.czGo (s.eng.wait.length + 1) s

/-- A single-shot job is accepted when a unit is free. -/
def czReady (e : Item) (s : State) : Bool := (s.czRefuse e).isSome || !e.czSingle || s.czFreeUnit.isSome

/-- DESIGN CHOICE (log entry 42). -/
def execCompress (q : BitVec 16) (s : State) : Out := .next (dispatch 4 opCompress q czReady (fun e s => s.czJob e) s)
def execDecompress (q : BitVec 16) (s : State) : Out := .next (dispatch 4 opDecompress q czReady (fun e s => s.czJob e) s)

/-- OPEN (R374, R375): which free context it allocates is a free choice. -/
def State.czOpen (s : State) (e : Item) : State :=
  let fmt := e.fieldN 8 1
  let lvl := e.fieldN 9 1
  let dir := e.fieldN 10 1
  let l := (List.range 256).filter fun n => !(s.cz n).open_
  let used := (s.eng.cz.filter fun x => x.2.open_ && x.2.bid == e.bid).length
  let bad := decide (3 < fmt) || decide (1 < dir) || (dir == 0 && (lvl == 0 || decide (9 < lvl))) || decide (e.fieldN 16 8 % 4096 ≠ 0)
  match firstFail [(!s.regBit Reg.czCtl 0, (0x0201 : BitVec 16)), (bad, 0x0401), (decide (s.quota e.bid 5 ≤ used), 0x0301),
      (l.isEmpty, 0x0302)] with
  | some st => s.complete e st
  | none =>
    let r := s.fresh
    let n := l.getD (r.1 % l.length) 0
    (r.2.setCz n { open_ := true, fmt := fmt, dir := dir == 1, level := lvl, bid := e.bid, save := e.word 16 }).complete e 0
      (BitVec.ofNat 64 n)
def execOpenCz (q : BitVec 16) (s : State) : Out := .next (dispatch 4 3 q always (fun e s => s.czOpen e) s)

/-- CLOSE waits for its context's earlier jobs (R375). -/
def State.czClose (s : State) (e : Item) : State :=
  let c := s.cz e.czCtx
  match firstFail [(!s.regBit Reg.czCtl 0, (0x0201 : BitVec 16)),
      (!c.open_ || (c.bid != e.bid && e.bid != 0), 0x0701)] with
  | some st => s.complete e st
  | none =>
    let s := { s with eng := { s.eng with wait := s.eng.wait ++ [e] } }
    State.czGo (s.eng.wait.length + 1) s
def execClose (q : BitVec 16) (s : State) : Out := .next (dispatch 4 opCzClose q always (fun e s => s.czClose e) s)

/-! ### Registers -/

/-- CZ_CTX[n] as it reads. -/
def State.czCtxWord (s : State) (n : Nat) : W64 :=
  let c := s.cz n
  BitVec.ofNat 64 (c.open_.toNat + c.fmt % 4 * 2 + c.dir.toNat * 8 + c.level % 16 * 16 + (s.czBusy n).toNat * 256 +
    c.started.toNat * 512 + c.bid.toNat * 65536)
/-- CZ_STAT as it reads. -/
def State.czStatWord (s : State) : W64 := BitVec.ofNat 64 (((List.range 256).filter fun n => !(s.cz n).open_).length)

end Sys2Proof.Machine
end

