-- ==== Sys2Proof/Machine/Digest.lean ====
section
/-! DEFINITION. Sys2Proof/Machine/Digest.lean: the digest engine (R362–R368): contexts and their residency, state images, and the jobs
of a context in their order of arrival. -/

namespace Sys2Proof.Machine

def opDgFree : Nat := 2
def opDgUpdate : Nat := 3
def opDgLoad : Nat := 4
def opDgStore : Nat := 5

/-- CTX of a job; the flags, fragment count, total and addresses of an UPDATE; ADDR of LOAD_STATE and STORE_STATE (R364). -/
def Item.dgCtx (e : Item) : Nat := e.fieldN 8 2
def Item.dgFinish (e : Item) : Bool := decide (e.fieldN 10 1 % 2 = 1)
def Item.dgDecl (e : Item) : Bool := decide (e.fieldN 10 1 / 2 % 2 = 1)
def Item.dgNfrag (e : Item) : Nat := e.fieldN 12 4

/-- The message limit of an algorithm in bytes (R362). -/
def algLimit (alg : Nat) : Nat := if alg = 1 then 2 ^ 61 - 1 else 2 ^ 64 - 1

/-! ### Residency (R363) -/

/-- Context 4,095 is Almanac's: always allocated and resident. -/
def dgAlmanac : Nat := 4095

/-- Resident contexts, context 4,095 included. DESIGN CHOICE (log entry 37). -/
def State.dgResident (s : State) : Nat := (s.eng.dg.filter fun e => e.2.resident && e.1 != dgAlmanac).length + 1

/-- A context is used: it becomes the most recent. -/
def State.dgUse (s : State) (n : Nat) : State :=
  let s := { s with eng := { s.eng with lru := s.eng.lru + 1 } }
  s.setDg n { s.dg n with resident := true, lru := s.eng.lru }

/-- The least recently used idle resident context other than 4,095. -/
def State.dgVictim (s : State) (n : Nat) : Option Nat :=
  let l := s.eng.dg.filter fun e => e.2.resident && e.2.jobs.isEmpty && e.1 != dgAlmanac && e.1 != n
  let m := (l.map fun e => e.2.lru).min?
  (l.find? fun e => some e.2.lru == m).map Prod.fst

/-- A context is spilled to its slot, whose 512 bytes only the engine defines: free values. DESIGN CHOICE (log entry 36). -/
def State.dgSpill (s : State) (n : Nat) : State :=
  let r := s.fresh
  let base := fld (s.reg Reg.dgSpillBase) 21 27 * 2 ^ 21
  (r.2.setDg n { r.2.dg n with resident := false }).busWrite (base + 512 * n) (leBytes 512 r.1)

/-- A context takes a resident place; none while every place is busy. -/
def State.dgTouch (s : State) (n : Nat) : Option State :=
  if (s.dg n).resident || decide (s.dgResident < 256) then some (s.dgUse n)
  else (s.dgVictim n).map fun v => (s.dgSpill v).dgUse n

/-! ### State images (R368) -/

/-- The image of a context. -/
def dgImage (c : DgCtx) : List Byte :=
  leBytes 2 c.alg ++ leBytes 2 c.buf.length ++ leBytes 4 0 ++ leBytes 8 c.len ++ leBytes 200 c.st.toNat ++ leBytes 40 0 ++
    (c.buf ++ List.replicate (136 - c.buf.length) 0) ++ leBytes 120 0

/-- Bytes of the state words of an algorithm. -/
def algStateLen (alg : Nat) : Nat := match alg with | 1 => 32 | 2 | 3 | 4 => 64 | _ => 200

/-- Whether an image may be loaded into a context. -/
def dgImageOk (c : DgCtx) (l : List Byte) : Bool :=
  let n := recFld l 2 2
  let z (k m : Nat) : Bool := recFld l k m == 0
  recFld l 0 1 == c.alg && decide (n < algBlock c.alg) && recFld l 8 8 % algBlock c.alg == n && z 1 1 && z 4 4 &&
    z (16 + algStateLen c.alg) (240 - algStateLen c.alg) && z (256 + n) (256 - n)

/-- A context with the contents of an image. -/
def dgFromImage (c : DgCtx) (l : List Byte) : DgCtx :=
  { c with st := BitVec.ofNat 1600 (recFld l 16 200), len := recFld l 8 8, buf := (l.drop 256).take (recFld l 2 2) }

/-! ### Jobs of a context (R365–R367) -/

/-- A context returns to its algorithm's initial value with length 0. -/
def DgCtx.init (c : DgCtx) : DgCtx := { c with st := algInit c.alg, len := 0, buf := [] }

def DgJob.isUpdate (j : DgJob) : Bool := j.item.opcode == opDgUpdate

/-- An entry leaves F without a completion: its job has halted the Booth (R276). -/
def State.uncount (s : State) (q : BitVec 16) : State := s.setQueue q { s.queue q with inflight := (s.queue q).inflight - 1 }

/-- A job leaves its context. -/
def State.dgDrop (s : State) (n i : Nat) : State := let c := s.dg n; s.setDg n { c with jobs := c.jobs.eraseIdx i }

/-- A failed UPDATE (R367): the snapshot is restored, and the jobs with fragments interleaved since are rolled back.
DESIGN CHOICE (log entry 36). -/
def State.dgRollback (s : State) (n i : Nat) : State :=
  let c := s.dg n
  match c.jobs[i]? with
  | none => s
  | some j =>
    let rest := c.jobs.eraseIdx i
    let hit (k : DgJob) : Bool := k.active && decide (j.snapAt < k.last)
    let s := s.setDg n { c with st := j.snapSt, len := j.snapLen, buf := j.snapBuf, jobs := rest.filter fun k => !hit k }
    (rest.filter hit).foldl (fun s k => s.complete k.item 0x04A0) (s.bump Reg.dgRollbacks)

/-- A job fails with a status. -/
def State.dgFail (s : State) (n i : Nat) (st : BitVec 16) : State :=
  match (s.dg n).jobs[i]? with
  | none => s
  | some j => (s.dgRollback n i).complete j.item st

/-- Every fragment of a job has been applied (R366). -/
def State.dgEnd (s : State) (n i : Nat) : State :=
  let c := s.dg n
  match c.jobs[i]? with
  | none => s
  | some j =>
    let e := j.item
    if e.dgDecl && j.sum != e.fieldN 24 8 then s.dgFail n i 0x0402
    else if !e.dgFinish then (s.dgDrop n i).complete e 0 (BitVec.ofNat 64 c.len)
    else
      let d := algFinish c.alg c.st c.buf c.len
      match s.dmaCheck e.bid true (e.word 32) d.length with
      | some st =>
        let f := s.fresh
        let w := f.2.dmaWrite e.bid (e.word 32) (leBytes d.length f.1)
        w.1.dgFail n i (w.2.getD st)
      | none =>
        let w := s.dmaWrite e.bid (e.word 32) d
        match w.2 with
        | some st => w.1.dgFail n i st
        | none => ((w.1.setDg n (w.1.dg n).init).dgDrop n i).complete e 0 (BitVec.ofNat 64 c.len)

/-- LOAD_STATE, STORE_STATE or FREE at the head of a context's jobs (R364, R368). -/
def State.dgHead (s : State) (n : Nat) (e : Item) : State :=
  let c := s.dg n
  let s := s.dgDrop n 0
  if e.opcode = opDgFree then (s.setDg n { jobs := c.jobs.tail }).complete e 0
  else if e.opcode = opDgLoad then
    let r := s.dmaRead e.bid (e.word 16) 512 (s.queue e.q).prio
    match r.2.1 with
    | some st => r.1.complete e st
    | none => if dgImageOk c r.2.2 then (r.1.setDg n (dgFromImage (r.1.dg n) r.2.2)).complete e 0 else r.1.complete e 0x0401
  else
    let w := s.dmaWrite e.bid (e.word 16) (dgImage c)
    w.1.complete e (w.2.getD 0)

/-- The first job of a context that is not yet active and has no job but active ones before it. -/
def DgCtx.nextJob (c : DgCtx) : Option (Nat × DgJob) :=
  let i := (c.jobs.takeWhile DgJob.active).length
  (c.jobs[i]?).map fun j => (i, j)

/-- Jobs of a context go as far as they can without a fragment (R365): UPDATEs become active with a snapshot, a job that waits for
every earlier one runs when it is the first, an UPDATE without fragments ends. -/
def State.dgSettle : Nat → State → Nat → State
  | 0, s, _ => s
  | k + 1, s, n =>
    match (s.dg n).nextJob with
    | none => s
    | some (i, j) =>
      if !j.isUpdate && i != 0 then s
      else if !(s.dg n).alloc then State.dgSettle k ((s.dgDrop n i).complete j.item 0x0701) n
      else match s.dgTouch n with
        | none => s
        | some s =>
          if !j.isUpdate then State.dgSettle k (s.dgHead n j.item) n
          else
            let c := s.dg n
            let j' := { j with active := true, snapSt := c.st, snapLen := c.len, snapBuf := c.buf, snapAt := c.tick, last := 0 }
            let s := s.setDg n { c with jobs := c.jobs.set i j' }
            State.dgSettle k (if j.item.dgNfrag = 0 then s.dgEnd n i else s) n

/-- DESIGN CHOICE (log entry 37). -/
def State.dgGo (s : State) (n : Nat) : State := State.dgSettle ((s.dg n).jobs.length + 1) s n

/-- One fragment of the active job that is next in turn is applied (R365, R366). -/
def State.dgFragment (s : State) (n : Nat) : State :=
  let c := s.dg n
  let m := (c.jobs.takeWhile DgJob.active).length
  let i := if m = 0 then 0 else c.turn % m
  match if m = 0 then none else c.jobs[i]? with
  | none => s
  | some j =>
    let e := j.item
    let cls := (s.queue e.q).prio
    let r := s.dmaRead e.bid (e.word 16 + BitVec.ofNat 64 (16 * j.frag)) 16 cls
    match r.2.1 with
    | some st => r.1.dgFail n i st
    | none =>
      let len := recFld r.2.2 8 4
      if recFld r.2.2 12 4 ≠ 0 then ((r.1.dgRollback n i).uncount e.q).haltBooth e.bid 0x01A1 e.q e.slot.toNat
      else if len = 0 ∨ 16777215 < len ∨ algLimit c.alg < c.len + len then r.1.dgFail n i 0x0401
      else if e.dgDecl && decide (e.fieldN 24 8 < j.sum + len) then r.1.dgFail n i 0x0402
      else
        let d := r.1.dmaRead e.bid (BitVec.ofNat 64 (recFld r.2.2 0 8)) len cls
        match d.2.1 with
        | some st => d.1.dgFail n i st
        | none =>
          let f := algFeed c.alg c.st c.buf d.2.2
          let j' := { j with frag := j.frag + 1, sum := j.sum + len, last := c.tick + 1 }
          let ends := decide (e.dgNfrag ≤ j'.frag)
          let s := (d.1.setDg n { c with st := f.1, buf := f.2, len := c.len + len, tick := c.tick + 1
                                         turn := if ends then i else i + 1, jobs := c.jobs.set i j' }).addReg Reg.dgBytes len
          if ends then s.dgEnd n i else s

/-- FRAGMENT_APPLY: a core applies one whole fragment of context n (R365); a context waiting for a resident place tries again.
DESIGN CHOICE (log entry 37). -/
def execFragmentApply (n : BitVec 12) (s : State) : Out :=
  .next (let s := s.dgGo n.toNat; (s.dgFragment n.toNat).dgGo n.toNat)

/-! ### Commands -/

/-- The tests of a job that names a context (R363, R364). DESIGN CHOICE (log entry 35). -/
def State.dgRefuse (s : State) (e : Item) (bad : Bool) : Option (BitVec 16) :=
  let n := e.dgCtx
  let c := s.dg n
  firstFail [(!s.regBit Reg.dgCtl 0, 0x0201), (decide (4095 < n) || bad, 0x0401),
    (n == dgAlmanac || !c.alloc || (c.bid != e.bid && e.bid != 0), 0x0701)]

/-- A job joins its context's jobs in order of arrival. -/
def State.dgEnqueue (s : State) (e : Item) (bad : Bool) : State :=
  match s.dgRefuse e bad with
  | some st => s.complete e st
  | none =>
    let n := e.dgCtx
    let c := s.dg n
    (s.setDg n { c with jobs := c.jobs ++ [{ item := e }] }).dgGo n

/-- The free contexts that ALLOC may assign (R363). -/
def State.dgFreeList (s : State) : List Nat := (List.range 4095).filter fun n => !(s.dg n).alloc

/-- ALLOC (R364): which free context it assigns is a free choice. DESIGN CHOICE (log entry 35). -/
def State.dgAlloc (s : State) (e : Item) : State :=
  let alg := e.fieldN 8 1
  let used := (s.eng.dg.filter fun x => x.2.alloc && x.2.bid == e.bid && x.1 != dgAlmanac).length
  let l := s.dgFreeList
  match firstFail [(!s.regBit Reg.dgCtl 0, (0x0201 : BitVec 16)), (alg == 0 || decide (6 < alg), 0x0401),
      (decide (s.quota e.bid 4 ≤ used), 0x0301), (l.isEmpty, 0x0302)] with
  | some st => s.complete e st
  | none =>
    let r := s.fresh
    let n := l.getD (r.1 % l.length) 0
    let s := r.2.setDg n (DgCtx.init { alloc := true, alg := alg, bid := e.bid })
    ((s.dgTouch n).getD s).complete e 0 (BitVec.ofNat 64 n)

def execDgAlloc (q : BitVec 16) (s : State) : Out := .next (dispatch 3 1 q always (fun e s => s.dgAlloc e) s)
def execDgFree (q : BitVec 16) (s : State) : Out := .next (dispatch 3 opDgFree q always (fun e s => s.dgEnqueue e false) s)
def execDgUpdate (q : BitVec 16) (s : State) : Out :=
  .next (dispatch 3 opDgUpdate q always
    (fun e s => s.dgEnqueue e (decide (65535 < e.dgNfrag) || decide (e.fieldN 16 8 % 16 ≠ 0))) s)
def execLoadState (q : BitVec 16) (s : State) : Out :=
  .next (dispatch 3 opDgLoad q always (fun e s => s.dgEnqueue e (decide (e.fieldN 16 8 % 64 ≠ 0))) s)
def execStoreState (q : BitVec 16) (s : State) : Out :=
  .next (dispatch 3 opDgStore q always (fun e s => s.dgEnqueue e (decide (e.fieldN 16 8 % 64 ≠ 0))) s)

/-! ### Registers -/

/-- DG_CTX[n] as it reads. -/
def State.dgCtxWord (s : State) (n : Nat) : W64 :=
  let c := s.dg n
  let a := n == dgAlmanac
  BitVec.ofNat 64 ((c.alloc || a).toNat + c.alg % 8 * 2 + (c.resident || a).toNat * 16 + (c.jobs.any DgJob.active).toNat * 32 +
    c.bid.toNat * 65536)
/-- DG_STAT as it reads. -/
def State.dgStatWord (s : State) : W64 := BitVec.ofNat 64 (s.dgFreeList.length + s.dgResident * 65536)

end Sys2Proof.Machine
end

