-- ==== Sys2Proof/Machine/Domino.lean ====
section
/-! DEFINITION. Sys2Proof/Machine/Domino.lean: ordered release (R245–R254). -/

namespace Sys2Proof.Machine

/-- The terminal of an item is written into its cell; one of a skipped or flushed item is discarded (R247, R250). -/
def State.terminalStore (s : State) (t : Terminal) : State :=
  let f := t.item.flow
  let fl := s.flow f
  let sq := t.item.seq
  let c := fl.cell sq
  if 2 ^ 31 ≤ (sq - fl.nextRel).toNat ∨ c.skipped then s.bump Reg.domLateCnt
  else (s.setFlow f (fl.setCell sq { c with term := some t.compl })).cellWrite f sq

/-- TERMINAL: the oldest completion of a stamped item reaches Domino, after the ordered entries its job rang (R247, R249); while
DOM_CTL.EN is 0, those entries and with them the terminal wait. -/
def execTerminal (s : State) : Out :=
  .next (match s.terms with
  | [] => s
  | t :: r =>
    if !t.rang.isEmpty && !s.regBit Reg.domCtl 0 then s else
    let s := { s with terms := r }
    let s := t.rang.foldl (fun s p =>
      if (s.booth (s.queue p.1).bid).st = .halted then s
      else State.fetchUpTo (2 ^ (s.queue p.1).sqLog) s p.1 p.2) s
    s.terminalStore t)

/-- A discarded entry ends its count in its own queue with a status (R250). -/
def State.discardEntry (s : State) (e : Option Item) (st : BitVec 16) : State :=
  match e with
  | none => s
  | some e => (s.bump Reg.domDiscCnt).post e.q { status := st, tag := e.tag }

/-- Whether a flow can release its next item (R247): a full completion hold holds the flow back. -/
def State.canRelease (s : State) (fl : Flow) : Bool :=
  let c := fl.cell fl.nextRel
  let x := s.queue c.q
  s.regBit Reg.domCtl 0 && fl.en && !fl.err && fl.nextRel != fl.nextStamp && (c.term.isSome || c.skipped) &&
    (x.ringFault || decide (x.hold.length < 8))

/-- The flow served next, round robin after the flow served last (R247). -/
def State.nextFlow (s : State) : Option Nat :=
  let l := (s.flows.filter fun e => s.canRelease e.2).map Prod.fst
  match l.find? fun f => decide (s.domLast < f) with
  | some f => some f
  | none => l.head?

/-- The item at NEXT_REL of a flow is released (R247). -/
def State.release (s : State) (f : BitVec 16) : State :=
  let fl := s.flow f
  let c := fl.cell fl.nextRel
  let r := s.busRead (fl.base + 128 * fl.key fl.nextRel) 128 (s.queue c.q).prio
  let s := r.1
  if r.2.1.isSome then
    ((s.setFlow f { fl with err := true }).setRegBit Reg.domStat 1 true).raise 19
  else
    let fl' := { fl.setCell fl.nextRel {} with nextRel := fl.nextRel + 1, waitFrom := s.mer.ns, stalled := false }
    let s := s.setFlow f fl'
    let s :=
      if c.skipped then (s.discardEntry c.entry 0x0260).post c.q { status := 0x0260, tag := c.tag }
      else
        let s := match c.entry with
          | some e => s.setQueue e.q { s.queue e.q with released := (s.queue e.q).released ++ [e] }
          | none => s
        s.post c.q (c.term.getD {})
    { s.bump Reg.domRelCnt with domLast := f.toNat }

/-- ITEM_RELEASE: Domino releases one item (R247). -/
def execItemRelease (s : State) : Out :=
  .next (match s.nextFlow with
  | none => s
  | some f => s.release (BitVec.ofNat 16 f))

/-- The status of the last DOM_CMD. -/
def State.domRes (s : State) (st : BitVec 16) : State := s.setReg Reg.domCmdRes (st.setWidth 64)

/-- SKIP (R251). -/
def domSkip (f : BitVec 16) (sq : BitVec 32) (s : State) : State :=
  let fl := s.flow f
  let d := (sq - fl.nextRel).toNat
  if !fl.en then s.domRes 0x0401
  else if 2 ^ 31 ≤ d then s.domRes 0x0201
  else if (fl.nextStamp - fl.nextRel).toNat ≤ d then s.domRes 0x0401
  else if (fl.cell sq).term.isSome then s.domRes 0x0262
  else ((s.setFlow f (fl.setCell sq { fl.cell sq with skipped := true })).cellWrite f sq).domRes 0
def execSkip (f : BitVec 16) (sq : BitVec 32) (s : State) : Out := .next (domSkip f sq s)

/-- FLUSH (R251): every unreleased item posts FLOW_LOST in ascending order. -/
def domFlush (f : BitVec 16) (s : State) : State :=
  let fl := s.flow f
  if !fl.en then s.domRes 0x0401 else
  let n := (fl.nextStamp - fl.nextRel).toNat
  let s := (List.range n).foldl (fun s i =>
    let c := fl.cell (fl.nextRel + BitVec.ofNat 32 i)
    (s.discardEntry c.entry 0x0661).post c.q { status := 0x0661, tag := c.tag }) s
  (s.setFlow f { fl with cells := [], nextRel := fl.nextStamp, err := false, stalled := false }).domRes 0
def execDomFlush (f : BitVec 16) (s : State) : Out := .next (domFlush f s)

/-- STALL_DETECT (R252): once per item, when it has waited DOM_STALL.LIMIT µs. -/
def execStallDetect (f : BitVec 16) (s : State) : Out :=
  .next (
    let fl := s.flow f
    let lim := fld (s.reg Reg.domStall) 0 20
    if lim = 0 ∨ !fl.en ∨ fl.stalled ∨ fl.nextRel = fl.nextStamp ∨ (s.mer.ns - fl.waitFrom).toNat < lim * 1000 then s
    else
      let s := (s.setFlow f { fl with stalled := true }).setRegBit Reg.domStat 0 true
      (s.setReg Reg.domStallLast (BitVec.ofNat 64 (f.toNat + fl.nextRel.toNat * 2 ^ 32))).raise 18)

/-- A write of DOM_FLOW_CFG (R245): the other fields are held while EN is 1; an EN that its rule refuses sets CFG_REJ. -/
def flowCfgWrite (f : BitVec 16) (v : W64) (s : State) : State :=
  let fl := s.flow f
  let en := bitAt v 0
  if fl.en then
    if en then s
    else if fl.nextStamp ≠ fl.nextRel then s.setRegBit Reg.domStat 2 true
    else s.setFlow f { fl with en := false }
  else
    let lw := fld v 2 4
    if en ∧ (lw < 4 ∨ 12 < lw) then s.setRegBit Reg.domStat 2 true
    else s.setFlow f { fl with en := en, log2w := lw, bid := v.extractLsb' 8 12, base := fld v 20 28 * 2 ^ 20 }
def execFlowCfgWrite (f : BitVec 16) (v : W64) (s : State) : Out := .next (flowCfgWrite f v s)

/-- DOM_FLOW_CFG and DOM_FLOW_STATE as they read. -/
def Flow.cfgWord (x : Flow) : W64 :=
  BitVec.ofNat 64 (x.en.toNat + x.err.toNat * 2 + x.log2w % 16 * 4 + x.bid.toNat * 256 + x.base / 2 ^ 20 * 2 ^ 20)
def Flow.stateWord (x : Flow) : W64 := x.nextStamp ++ x.nextRel

end Sys2Proof.Machine
end

