-- ==== Sys2Proof/Machine/MemCtl.lean ====
section
/-! DEFINITION. Sys2Proof/Machine/MemCtl.lean: the commands of the memory controllers: merge buffers, promotion, refresh, re-centring and
the scrubber (R388, R390, R394, R395, R397–R399). -/

namespace Sys2Proof.Machine

/-- MERGE_DRAIN_TIMEOUT: the oldest merge entry of a controller drains (R388). DESIGN CHOICE (log entry 55). -/
def execMergeDrainTimeout (n : Fin 13) (s : State) : Out :=
  .next (match (s.mergeList n.val).head? with | some cw => s.mergeDrain cw | none => s)

/-- REQUEST_PROMOTE: a request is promoted to class 0 (R390); a LIMIT of 0 disables promotion. DESIGN CHOICE (log entry 55).
DESIGN CHOICE (log entry 94). -/
def execRequestPromote (n : Fin 12) (s : State) : Out :=
  .next (if fld (s.reg (Reg.mcAge n.val)) 0 16 = 0 then s else s.bump (Reg.mcPromoteCnt n.val))

/-- MEMORY_REFRESH: a refresh changes no state that the spec gives (R390). DESIGN CHOICE (log entry 55). -/
def execMemoryRefresh (_n : Fin 12) (s : State) : Out := .next s

/-! ### Training (R394, R395) -/

/-- Width of a passing window in taps. -/
def winWidth (l r : BitVec 7) : Nat := if r.toNat < l.toNat then 0 else r.toNat - l.toNat + 1
/-- The centre of a window, rounded down. -/
def winCentre (l r : BitVec 7) : Nat := (l.toNat + r.toNat) / 2
/-- Whether a lane passes. -/
def lanePass (r : LaneRep) (min : Nat) : Bool := decide (min ≤ winWidth r.rdL r.rdR) && decide (min ≤ winWidth r.wrL r.wrR)

/-- MC_TRAIN of a lane: its windows, and its delays given. -/
def laneWord (r : LaneRep) (min rd wr : Nat) : W64 :=
  BitVec.ofNat 64 (r.rdL.toNat + r.rdR.toNat * 2 ^ 7 + rd * 2 ^ 14 + (decide (min ≤ winWidth r.rdL r.rdR)).toNat * 2 ^ 21 +
    r.wrL.toNat * 2 ^ 22 + r.wrR.toNat * 2 ^ 29 + wr * 2 ^ 36 + (decide (min ≤ winWidth r.wrL r.wrR)).toNat * 2 ^ 43)

/-- Lanes of a controller. -/
def laneCount (n : Nat) : Nat := if n < 8 then 10 else 160
/-- MC_TRAIN_CTL.MIN_WIN. -/
def State.minWin (s : State) (n : Nat) : Nat := fld (s.reg (Reg.mcTrainCtl n)) 8 7

/-- MC_TRAIN_CTL.RECENTER (R395). -/
def recenter (n : Nat) (s : State) : State :=
  if s.mode ≠ modeQuiesce then s.setRegBit (Reg.mcStat n) 8 true
  else (s.setRegBit (Reg.mcStat n) 7 true).setRegBit (Reg.mcTrainCtl n) 0 true
def execRecenter (n : Fin 12) (s : State) : Out := .next (recenter n.val s)

/-- A lane after re-centring: a weak one keeps its delays (R395). DEDUCED (log entry 57). -/
def State.recentreLane (s : State) (n l : Nat) (r : LaneRep) : State :=
  let a := Reg.mcTrain n l
  let m := s.minWin n
  if lanePass r m then s.setReg a (laneWord r m (winCentre r.rdL r.rdR) (winCentre r.wrL r.wrR))
  else (s.setReg a (laneWord r m (fld (s.reg a) 14 7) (fld (s.reg a) 36 7))).setRegBit (Reg.mcStat n) 9 true

/-- RECENTER_END (R395). DEDUCED (log entry 57). -/
def execRecenterEnd (n : Fin 12) (lanes : List LaneRep) (s : State) : Out :=
  .next (
    if !s.regBit (Reg.mcStat n.val) 7 then s
    else
      let s := ((List.range (laneCount n.val)).zip lanes).foldl (fun s p => s.recentreLane n.val p.1 p.2) s
      let s := (s.setRegBit (Reg.mcStat n.val) 7 false).setRegBit (Reg.mcTrainCtl n.val) 0 false
      if s.regBit (Reg.mcEvt n.val) 3 then s.raise (24 + n.val) else s)

/-! ### Scrubber (R397–R399) -/

/-- The range of a scrub. -/
def State.scrBase (s : State) : Nat := fld (s.reg Reg.mcScrBase) 6 42 * 64
def State.scrLen (s : State) : Nat := fld (s.reg Reg.mcScrLen) 6 42 * 64
def State.scrBusy (s : State) : Bool := s.regBit Reg.mcScrStat 0

/-- Whether a range lies wholly inside one memory. -/
def State.scrRangeOk (s : State) : Bool :=
  decide (s.scrLen ≠ 0) &&
  match s.region s.scrBase, s.region (s.scrBase + s.scrLen - 1) with
  | some r, some q => r.isMem && q == r
  | _, _ => false

/-- The end of a scrub with a status (R399). -/
def State.scrubEnd (s : State) (st : BitVec 16) : State :=
  let s := s.setReg Reg.mcScrStat (BitVec.ofNat 64 (fld (s.reg Reg.mcScrStat) 2 1 * 4 + 2 + st.toNat * 65536))
  ({ s with ctl := { s.ctl with scrub := false } }).raise 36

/-- MC_SCR_CTL.GO (R397). -/
def scrubGo (s : State) : State :=
  if s.scrBusy then s.setRegBit Reg.mcScrStat 2 true
  else
    let s := ((((s.setReg Reg.mcScrWords 0).setReg Reg.mcScrCe 0).setReg Reg.mcScrUe 0).setReg Reg.mcScrUeFirst 0).setReg Reg.mcScrUeLast 0
    let s := s.setReg Reg.mcScrStat (BitVec.ofNat 64 (fld (s.reg Reg.mcScrStat) 2 1 * 4 + 1))
    let s := { s with ctl := { s.ctl with scrub := false, scrubAt := s.scrBase } }
    if s.scrRangeOk then s else s.scrubEnd 0x0401
def execScrubGo (s : State) : Out := .next (scrubGo s)

/-- SCRUB_WORD: the next code word is read at class 3 (R398). DEDUCED (log entry 56). -/
def execScrubWord (s : State) : Out :=
  .next (
    let cw := s.ctl.scrubAt
    if !s.scrBusy || s.ctl.scrub || decide (s.scrBase + s.scrLen ≤ cw) then s
    else
      let s := (granuleCws cw (cwSize cw)).foldl State.mergeDrain s
      let r := s.readCw cw 2 3
      let s := { r.1 with ctl := { r.1.ctl with scrubAt := cw + cwSize cw } }.bump Reg.mcScrWords
      match s.eccAt cw with
      | .good => s
      | .ce _ => (s.bump Reg.mcScrCe).writeCw cw []
      | _ =>
        let s := if s.reg Reg.mcScrUe = 0 then s.setReg Reg.mcScrUeFirst (BitVec.ofNat 64 cw) else s
        (s.setReg Reg.mcScrUeLast (BitVec.ofNat 64 cw)).bump Reg.mcScrUe)

/-- MC_SCR_CTL.ABORT: the scrub stops after the word in progress (R399). -/
def scrubAbort (s : State) : State := if s.scrBusy then { s with ctl := { s.ctl with scrub := true } } else s
def execScrubAbort (s : State) : Out := .next (scrubAbort s)

/-- SCRUB_END: after the last word, or after an abort (R399). -/
def execScrubEnd (s : State) : Out :=
  .next (
    if !s.scrBusy then s
    else if s.scrBase + s.scrLen ≤ s.ctl.scrubAt then s.scrubEnd 0
    else if s.ctl.scrub then s.scrubEnd 0x02C0
    else s)

end Sys2Proof.Machine
end

