-- ==== Sys2Proof/Machine/Stagehand.lean ====
section
/-! DEFINITION. Sys2Proof/Machine/Stagehand.lean: the management processor Stagehand: mailbox, measurements, attestation, firmware in
the board's SPI flash, telemetry (R417–R421). -/

namespace Sys2Proof.Machine

/-- Stagehand runs once it has booted (R418). DESIGN CHOICE (log entry 60). -/
def State.stgOn (s : State) : Bool := decide (2 ∈ s.ctl.steps)

/-- SHA-384 of bytes (R418). -/
def sha384 (m : List Byte) : List Byte :=
  let r := algFeed 2 (algInit 2) [] m
  algFinish 2 r.1 r.2 m.length

/-- A measurement register is extended: M ← SHA-384(M ‖ d) (R418). -/
def State.extendMeas (s : State) (i : Nat) (d : List Byte) : State :=
  let m := Tab.get 0 s.stg.meas i
  { s with stg := { s.stg with meas := Tab.set 0 s.stg.meas i (BitVec.ofNat 384 (leVal (sha384 (leBytes 48 m.toNat ++ d)))) } }

/-! ### Mailbox -/

/-- Writing STG_MBOX_IN[7] sends a request (R418). -/
def mboxSend (v : W64) (s : State) : State := (s.setReg (Reg.stgMboxIn 7) v).setRegBit Reg.stgStat 3 true
def execMboxSend (v : W64) (s : State) : Out := .next (mboxSend v s)

/-- A request that the mailbox held may extend one of the registers 4 to 7 (R418); which one, and its digest, are free values, as
the spec does not lay out the requests. DESIGN CHOICE (log entry 60). -/
def State.mboxEffect (s : State) : State :=
  let r := s.fresh
  let k := r.1 % 5
  if k = 0 then r.2 else let d := r.2.fresh; d.2.extendMeas (3 + k) (leBytes 48 d.1)

/-- Stagehand posts words in STG_MBOX_OUT and raises source 82 (R421). DESIGN CHOICE (log entry 60). -/
def State.mboxPost (s : State) (words : List W64) : State :=
  let s := ((List.range 8).zip words).foldl (fun s p => s.setReg (Reg.stgMboxOut p.1) p.2) s
  (s.setRegBit Reg.stgStat 2 true).raise 82

/-- MBOX_POST: a reply to the request being processed, if there is one, or a notice. -/
def execMboxPost (words : List W64) (s : State) : Out :=
  .next (
    if !s.stgOn then s
    else
      let s := if s.regBit Reg.stgStat 3 then (s.mboxEffect).setRegBit Reg.stgStat 3 false else s
      s.mboxPost words)

/-! ### Attestation and telemetry -/

/-- What an attestation report holds, before its signature (R419). DEDUCED (log entry 46). -/
def State.reportBody (s : State) (nonce : BitVec 256) : List Byte :=
  leBytes 32 nonce.toNat ++ leBytes 8 (s.reg Reg.devSerial).toNat ++
    ((List.range 8).flatMap fun i => leBytes 48 (Tab.get 0 s.stg.meas i).toNat) ++ leBytes 8 s.stg.verA.toNat ++
    leBytes 8 s.stg.verB.toNat ++ leBytes 1 s.mode ++ leBytes 8 (s.merAt islStg).toNat

/-- ATTESTATION_REQUEST (R419): the ECDSA P-384 signature, of 96 bytes, is a free value. DEDUCED (log entry 46). -/
def execAttestationRequest (nonce : BitVec 256) (s : State) : Out :=
  .next (
    if !s.stgOn then s
    else
      let r := s.fresh
      { r.2 with stg := { r.2.stg with report := s.reportBody nonce ++ leBytes 96 r.1 } })

/-- TELEMETRY_SAMPLE (R421): die temperatures, rail power, the hold-up bank, and the number of Booths in each state.
DEDUCED (log entry 46). -/
def execTelemetrySample (s : State) : Out :=
  .next (
    if !s.stgOn then s
    else
      let n (b : BState) : Nat := ((s.booths).filter fun (e : Nat × Booth) => e.2.st = b).length
      let t := ((List.range 9).map fun i => (s.reg (Reg.devTemp i)).toNat) ++
        [(s.reg Reg.devPwrStat).toNat, (s.reg Reg.huV).toNat, (s.reg Reg.huLimit).toNat, n .active, n .halted]
      { s with stg := { s.stg with telem := t } })

/-! ### Firmware -/

/-- FIRMWARE_UPDATE (R420): the image goes to the inactive slot and is verified. DESIGN CHOICE (log entry 5). DEDUCED (log entry 61). -/
def execFirmwareUpdate (version : W64) (image : List Byte) (sigOk : Bool) (s : State) : Out :=
  .next (
    if !s.stgOn then s
    else
      let g := { s.stg with verified := sigOk, commit := false, answer := if sigOk then 0 else 0x04E0 }
      let g := if g.active then { g with verA := version, imgA := image, validA := sigOk }
        else { g with verB := version, imgB := image, validB := sigOk }
      { s with stg := g })

/-- FIRMWARE_COMMIT (R420): in QUIESCE a verified image is committed, for the next POR, which the commit may request (R430): a
free choice. DEDUCED (log entry 61). DESIGN CHOICE (log entry 111). -/
def execFirmwareCommit (s : State) : Out :=
  .next (
    if !s.stgOn then s
    else if s.mode ≠ modeQuiesce then { s with stg := { s.stg with answer := 0x0203 } }
    else if s.stg.verified then
      let r := s.fresh
      let s := { r.2 with stg := { r.2.stg with commit := true, answer := 0 } }
      if r.1.testBit 0 && s.ctl.porAt.isNone then { s with ctl := { s.ctl with porAt := some s.mer.ns } } else s
    else { s with stg := { s.stg with answer := 0x04E0 } })

end Sys2Proof.Machine
end

