-- ==== Sys2Proof/Machine/Modes.lean ====
section
/-! DEFINITION. Sys2Proof/Machine/Modes.lean: mode requests and mode epochs (R423–R428). -/

namespace Sys2Proof.Machine

/-! ### Requests -/

/-- The nominal sclk of the grade in units of 100 MHz. -/
def sclkNominal : Nat := if Config.grade26 then 20 else 17
/-- SCLK of DEV_PWR_STAT, with THROTTLE, which shows whether it is below nominal. -/
def State.setSclk (s : State) (n : Nat) : State :=
  (s.setRegFld Reg.devPwrStat 16 5 n).setRegBit Reg.devPwrStat 10 (decide (n < sclkNominal))
def State.sclkIn (s : State) : Nat := fld (s.reg Reg.devPwrStat) 16 5

/-- The throttle threshold of a sensor, in eighths of a degree (R457): 10 °C lower for an HBM sensor. -/
def State.thrOf (s : State) (i : Nat) : Nat :=
  let t := max 70 (min 103 (fld (s.reg Reg.devPwrCtl) 11 7))
  8 * (if 4 ≤ i ∧ i ≤ 7 then t - 10 else t)
/-- Whether a sensor stands at or above its threshold. -/
def State.tooHot (s : State) : Bool := (List.range 9).any fun i => decide (s.thrOf i ≤ (s.reg (Reg.devTemp i)).toNat)

/-- Step 1 of an epoch for a request: before a SEALED epoch the limiter restores nominal sclk, unless a sensor is too hot (R458). -/
def State.beginEpoch (s : State) (m : Nat) : State :=
  let s := s.startEpoch m
  if m = modeSealed ∧ !s.tooHot then s.setSclk sclkNominal else s

/-- RO_MEDIA and media lock. -/
def State.roMedia (s : State) : Bool := s.regBit Reg.almStat 4
def State.mediaLocked (s : State) : Bool := s.regBit Reg.devInitStat 4

/-- Whether R423 lets a request be made from the mode in force. -/
def State.modeAllowed (s : State) (m : Nat) : Bool :=
  if s.mode = modeService then m == modeSealed || m == modeQuiesce || m == modeReadonly
  else if s.mode = modeSealed then m == modeService
  else if s.mode = modeQuiesce then (m == modeService && !s.mediaLocked) || m == modeReadonly
  else if s.mode = modeReadonly then (m == modeService && !s.roMedia) || m == modeSealed || m == modeQuiesce
  else false

/-- FORCE follows a request for READONLY or SERVICE (R424). DEDUCED (log entry 62). -/
def State.forceFor (s : State) (m : Nat) : State :=
  if m = modeReadonly then (s.setRegBit Reg.devModeStat 17 true).wpUpdate
  else if m = modeService then (s.setRegBit Reg.devModeStat 17 false).wpUpdate
  else s

/-- RESULT and SRC of DEV_MODE_STAT. DEDUCED (log entry 62). -/
def State.modeResult (s : State) (st : BitVec 16) : State := s.setRegFld Reg.devModeStat 0 16 st.toNat

/-- A mode is requested by Booth 0 (source 0) or Stagehand (source 1) (R423, R424, R428). DEDUCED (log entry 62). -/
def modeRequest (src : Bool) (m : Nat) (s : State) : State :=
  let s := s.setRegBit Reg.devModeStat 18 src
  if m = 0 ∨ 4 < m then s.modeResult 0x0401
  else if s.regBit Reg.devMode 6 then s.modeResult 0x02E0
  else if m = s.mode then (s.forceFor m).modeResult 0
  else if !s.modeAllowed m then s.modeResult 0x0203
  else
    let s := s.forceFor m
    s.beginEpoch (if m = modeService ∧ s.roMedia then modeReadonly else m)

/-- MODE_REQUEST: a write of DEV_MODE_REQ. -/
def execModeRequest (m : BitVec 3) (s : State) : Out := .next (modeRequest false m.toNat s)

/-- STAGEHAND_MODE_REQUEST (R421): the request is also posted to the mailbox, in words that the spec does not lay out. -/
def execStagehandModeRequest (m : BitVec 3) (s : State) : Out :=
  .next (
    if !s.stgOn then s
    else
      let s := modeRequest true m.toNat s
      let r := s.fresh
      r.2.mboxPost ((List.range 8).map fun i => BitVec.ofNat 64 (r.1 / 2 ^ (64 * i))))

/-! ### Epochs -/

/-- The Booths whose jobs run on an engine. -/
def State.engineBids (s : State) (u : Nat) : List (BitVec 12) :=
  (((List.range 16).filter fun c => (s.ctx (16 * u + c)).st ≠ .free).map fun c => (s.ctx (16 * u + c)).bid).eraseDups

/-- An engine applies SEALED (R139, R145): its owner is the Booth it runs, its caches are invalidated, run-ahead stops. -/
def State.sealEngine (s : State) (u : Nat) : State :=
  let o := s.engineBids u
  let st := setBit (s.reg (Reg.oeStat u)) 2 (!o.isEmpty)
  let s := (s.l1InvAll u).setReg (Reg.oeStat u) (setFld st 16 12 (o.head?.getD 0).toNat)
  (List.range 16).foldl (fun s c => s.endEpisode (16 * u + c)) s

/-- The condition under which unit u applies a target (R426, R458): Spyglass at a frame boundary of the qclk count (R216). -/
def State.canApply (s : State) (u target : Nat) : Bool :=
  if u < 8 then target != modeSealed ||
    (s.sclkIn == sclkNominal && (List.range 16).all fun e => decide ((s.engineBids (16 * u + e)).length ≤ 1))
  else if u = 11 then target != modeSealed || s.mer.qclk % 200 == 0
  else if u = 12 then target != modeReadonly || s.regBit Reg.devMode 7
  else true

/-- What a unit does as it applies a target (R426). -/
def State.applyUnit (s : State) (u target : Nat) : State :=
  if u < 8 ∧ target = modeSealed then (List.range 16).foldl (fun s e => s.sealEngine (16 * u + e)) s
  else if u = 13 ∧ target = modeQuiesce then (List.range 13).foldl State.mergeDrainAll s
  else s

/-- A READONLY request of Almanac that waited for the epoch to end (R424). -/
def State.almAfter (s : State) : State :=
  if !s.ctl.almReq then s else
  let s := { s with ctl := { s.ctl with almReq := false } }
  if s.mode = modeService then s.startEpoch modeReadonly else s

/-- Every unit has applied (R426 step 3). -/
def State.endEpoch (s : State) : State :=
  let t := fld (s.reg Reg.devMode) 3 3
  let s := s.setReg Reg.devMode (setBit (setFld (s.reg Reg.devMode) 0 3 t) 6 false)
  let s := (s.modeResult 0).raise 42
  let s := if t = modeSealed then { s with ctl := { s.ctl with rwl := true } } else s
  let s := if t = modeReadonly then s.hostEvents (fun _ => true) aerReadOnly else s
  s.almAfter

/-- UNIT_APPLY (R426): a unit applies the target once its condition holds; the last one completes the epoch. -/
def execUnitApply (u : Fin 17) (s : State) : Out :=
  .next (
    let t := fld (s.reg Reg.devMode) 3 3
    if !s.regBit Reg.devMode 6 || s.regBit Reg.devMode (32 + u.val) || !s.canApply u.val t then s
    else
      let s := (s.applyUnit u.val t).setRegBit Reg.devMode (32 + u.val) true
      if fld (s.reg Reg.devMode) 32 17 = 2 ^ 17 - 1 then s.endEpoch else s)

/-- EPOCH_TIMEOUT (R427): 1 ms of Meridian after step 1 the epoch fails and the device reverts. -/
def execEpochTimeout (s : State) : Out :=
  .next (
    if !s.regBit Reg.devMode 6 || decide ((s.mer.ns - s.ctl.epochAt).toNat < 1000000) then s
    else
      let v := s.reg Reg.devMode
      let miss := 2 ^ 17 - 1 - fld v 32 17
      let s := s.setReg Reg.devMode (setBit (setFld v 16 16 (fld v 16 16 + 1)) 6 false)
      let s := ((s.modeResult 0x02E1).setRegBit Reg.devModeStat 16 true).setRegFld Reg.devModeStat 32 17 miss
      (s.raise 42).almAfter)

end Sys2Proof.Machine
end

