-- ==== Sys2Proof/Machine/Recovery.lean ====
section
/-! DEFINITION. Sys2Proof/Machine/Recovery.lean: what Almanac rebuilds in INIT from the manifest, the journal and the slots
programmed since (R317–R319, R323). -/

namespace Sys2Proof.Machine

/-! ### Manifests (R314, R317 step 1) -/

/-- The locations of the slots of the manifest copy that starts at a location: its slots have rising SEQ in one group. -/
def State.manLocs (s : State) (loc : Nat) : List Nat :=
  let x := s.nslot loc
  let n := x.data.toNat / 2 ^ 48 % 65536
  (List.range n).filterMap fun i =>
    (List.find? (fun (e : Nat × NSlot) => decide (chOf (blkOf e.1) = chOf (blkOf loc)) && e.2.kind == 2 && e.2.lba == i &&
      e.2.seq == x.seq + i && e.2.written) s.alm.nand).map Prod.fst

/-- Whether a manifest's header is valid. -/
def manHeaderOk (l : List Byte) : Bool :=
  let n := recFld l 6 2
  recFld l 0 4 == 0x3C6C5A94 && recFld l 4 1 == 1 && decide (recFld l 5 1 < 2) && recFld l 58 6 == 0 && decide (1 ≤ n) &&
    ceilDiv (64 + 8 * recFld l 44 4 + 8 * recFld l 48 4 + 128 * recFld l 52 4 + 32 * 32) 4096 == n

/-- The manifest copy at a location entry, if it is readable. -/
def State.manRead (s : State) (e : Nat) : Option (List Byte) :=
  if e % 2 = 0 then none else
  let x := s.nslot (e / 4)
  let n := x.data.toNat / 2 ^ 48 % 65536
  let ls := s.manLocs (e / 4)
  if !x.written || !x.good || x.kind != 2 || x.lba != 0 || ls.length != n || ls.any (fun l => !(s.nslot l).good) then none
  else
    let d := ls.flatMap fun l => leBytes 4096 (s.nslot l).data.toNat
    if manHeaderOk d then some d else none

/-- Where the sections of a manifest begin: open blocks, namespaces, groups. -/
def manOpens (l : List Byte) : Nat := 64 + 8 * recFld l 44 4
def manNss (l : List Byte) : Nat := manOpens l + 8 * recFld l 48 4
def manGroups (l : List Byte) : Nat := manNss l + 128 * recFld l 52 4

/-- A namespace entry of a manifest. The bytes of an open ledger unit are lost: they read as zeros (log entry 19). -/
def manNs (l : List Byte) (k : Nat) (now : W64) : Nat × Ns :=
  let f (o n : Nat) : Nat := recFld l (k + o) n
  (f 0 2, { exists_ := true, bid := BitVec.ofNat 12 (f 2 2), ordered := decide (f 4 1 % 2 = 1), ledger := decide (f 4 1 / 2 % 2 = 1)
            lbase := f 8 8, size := f 16 4, gen := BitVec.ofNat 64 (f 24 8), units := f 32 8, offset := f 40 8
            head := BitVec.ofNat 256 (f 48 32), openData := List.replicate (f 40 8 - 4096 * f 32 8) 0, openAt := now })

/-- What the manifest gives: registers, namespaces, groups and the directory (R314, R317 step 2). -/
def State.manLoad (s : State) (l : List Byte) : State :=
  let v (o n : Nat) : W64 := BitVec.ofNat 64 (recFld l o n)
  let s := (((s.setReg Reg.almCkptNo (v 8 8)).setReg Reg.almCkptSeq (v 16 8)).setReg Reg.almMapBase (v 24 8)).setReg Reg.almWbBase (v 32 8)
  let s := (s.setReg Reg.almCap (v 40 4)).setRegBit Reg.almStat 4 (recFld l 5 1 % 2 == 1)
  let nss := (List.range (recFld l 52 4)).map fun i => manNs l (manNss l + 128 * i) s.mer.ns
  let s := s.onAlm fun a =>
    { a with ns := nss.foldl (fun t e => Tab.set {} t e.1 e.2) [], pct := (recFld l 56 1, recFld l 57 1)
             groups := (List.range 32).foldl (fun t g =>
               let k := manGroups l + 32 * g
               Tab.set (0, 0, 0) t g (recFld l k 4, recFld l (k + 4) 4, recFld l (k + 8) 4)) [] }
  let s := (s.setRegBit Reg.almStat 2 true).onAlm fun a => { a with loaded := [] }
  s.busWrite (s.dirAddr 0) ((l.drop 64).take (8 * recFld l 44 4))

/-! ### The replay set (R317 steps 3 and 4) -/

/-- Valid journal entries of an epoch: their places in the ring, and their blocks. -/
def State.journalOf (s : State) (ep : Nat) : List (Nat × Nat) :=
  (List.range 65536).filterMap fun i =>
    let r := s.busRead (journalAddr i) 16 2
    let l := r.2.2
    if r.2.1.isSome then none
    else if recFld l 0 4 = ep % 2 ^ 32 ∧ recFld l 12 4 = (crc32c (l.take 12)).toNat then some (i, recFld l 4 4 % 2 ^ 28) else none

/-- The good slots of a block from a page on, program unit by program unit, up to the first torn unit; and whether there is one. -/
def State.replayUnits : Nat → State → Nat → Nat → List (Nat × NSlot) × Bool
  | 0, _, _, _ => ([], false)
  | k + 1, s, blk, page =>
    let ge := s.alm.geom
    if ge.ppb ≤ page then ([], false)
    else
      let ls := (List.range ge.unit).map fun i => locAt blk (page + i / ge.spp) (i % ge.spp)
      if ls.all fun l => (s.nslot l).written && (s.nslot l).good then
        let t := State.replayUnits k s blk (page + ge.wlp)
        (ls.map (fun l => (l, s.nslot l)) ++ t.1, t.2)
      else ([], true)

/-- The replay set: blocks with the page to start at. -/
def State.replaySet (s : State) (l : List Byte) : List (Nat × Nat) :=
  let j := ((s.journalOf (recFld l 8 8)).map Prod.snd).dedup
  let o := (List.range (recFld l 48 4)).map fun i => let e := recFld l (manOpens l + 8 * i) 8; (blkOf (e / 4), pageOf (e / 4))
  j.map (fun b => (b, 0)) ++ o.filter fun e => decide (e.1 ∉ j)

/-! ### Replay (R318) -/

/-- One slot's effect on the map. -/
def State.replaySlot (s : State) (loc : Nat) (x : NSlot) : State :=
  let n := s.ns x.nsid
  if !n.exists_ then s
  else if x.kind = 0 ∨ x.kind = 4 then
    if x.copy && s.mapOf x.nsid x.lba != x.src.toNat then s
    else s.mapSet (s.gunit x.nsid x.lba) (entryOf loc) x.seq
  else if x.kind = 5 then
    let d := leBytes 4096 x.data.toNat
    (List.range (recFld d 0 2)).foldl (fun s i =>
      (List.range (recFld d (16 * i + 24) 4)).foldl (fun s u => s.mapSet (n.lbase + recFld d (16 * i + 16) 8 + u) 0 x.seq) s) s
  else s

/-- The ledger state of a namespace after replay (R323): that of the replayed LEDGER slot with the highest SEQ. DEDUCED (log entry 19). -/
def State.replayLedger (s : State) (l : List (Nat × NSlot)) : State :=
  l.foldl (fun s e =>
    let n := s.ns e.2.nsid
    if e.2.kind = 4 ∧ n.exists_ then
      s.setNs e.2.nsid { n with head := e.2.chain, units := e.2.lba + 1, offset := 4096 * (e.2.lba + 1), openData := [] }
    else s) s

/-- Steps 3 to 6 of R317: the replay set, the replay, and what the blocks keep. DEDUCED (log entry 20). -/
def State.replay (s : State) (l : List Byte) : State :=
  let ep := recFld l 8 8
  let sq := recFld l 16 8
  let cur := s.journalOf ep
  let next := s.journalOf (ep + 1)
  let s := (s.busRead (journalAddr 0) 0x100000 2).1
  let set := s.replaySet l
  let rd := set.map fun e => (e.1, State.replayUnits (s.alm.geom.ppb + 1) s e.1 e.2)
  let all := rd.flatMap fun e => e.2.1
  let top := (s.alm.nand.map fun e => e.2.seq).foldl max sq
  let app := (all.filter fun e => decide (sq < e.2.seq)).insertionSort fun a b => a.2.seq ≤ b.2.seq
  let s := s.setReg Reg.almSeq (BitVec.ofNat 64 (top + 1))
  let s := app.foldl (fun s e => s.replaySlot e.1 e.2) s
  let s := s.replayLedger app
  let opened := (cur.map Prod.snd).dedup
  let s := set.foldl (fun s e =>
    let v := s.blkInfo e.1
    let v := if e.1 ∈ opened then setFld (setBit v 3 false) 8 16 (fld v 8 16 + 1) else v
    s.setBlkInfo e.1 (if fld v 0 2 = 3 then v else setFld v 0 2 2) top) s
  let s := s.alm.geom.allBlocks.foldl (fun s b =>
    let v := s.blkInfo b
    s.setBlkInfo b (setFld v 24 24 (min (fld v 24 24 + fld (s.reg Reg.almMediaCfg) 16 16 * 125) (2 ^ 24 - 1))) top) s
  let closed := s.alm.geom.allBlocks.filter fun b => s.blkState b == 2
  let torn := (rd.filter fun e => e.2.2).map Prod.fst
  let used := (cur ++ next).map Prod.fst
  let pos := (List.range 65536).find? fun i => decide (i ∉ used) && (used.isEmpty || decide ((i + 65535) % 65536 ∈ used))
  let s := s.onAlm fun a => { a with closed := closed, victims := torn, journal := pos.getD 0, jused := cur.length, jnext := next.length
                                     opens := [], programmed := 0, lastCkpt := s.mer.ns }
  s.refreshDue

/-- Recovery loses the manifest (R317, R432). -/
def State.manLost (s : State) : State := s.setRegBit Reg.almStat 5 true

/-- R317 after the root record is read: the state, and whether Almanac is READY. DEDUCED (log entry 20). -/
def State.almRecover (s : State) (root : List Byte) : State × Bool :=
  match (match s.manRead (recFld root 32 8) with | some l => some l | none => s.manRead (recFld root 40 8)) with
  | none => (s.manLost, false)
  | some l =>
    let c := recFld l 40 4
    let base := recFld l 24 8
    if !(decide (ddrBase ≤ base) && decide (base + mapRegion s.alm.geom c ≤ ddrBase + s.ddrCap)) then (s.manLost, false)
    else
      let ep := recFld l 8 8
      let heads := s.alm.nand.filter fun e => e.2.kind == 2 && e.2.lba == 0 && e.2.written
      let blksOf (n : Nat) : List Nat :=
        ((heads.filter fun e => decide (e.2.data.toNat / 2 ^ 64 % 2 ^ 64 = n)).flatMap fun e => e.1 :: s.manLocs e.1).map blkOf
      let mb := blksOf ep
      let ma := blksOf (ep - 1)
      let s := (s.manLoad l).replay l
      let r := s.fresh
      let s := r.2.setReg Reg.almRecovNs (BitVec.ofNat 64 (r.1 % 3000000001))
      let s := s.onAlm fun a => { a with manA := ma, manB := mb }
      let s := ((s.setRegBit Reg.almStat 1 true).setRegBit Reg.almStat 0 true).raiseEvt Reg.almEvt
      (s.ckptBegin, true)

end Sys2Proof.Machine
end

