-- ==== Sys2Proof/Machine/Init.lean ====
section
/-! DEFINITION. Sys2Proof/Machine/Init.lean: power-on reset and the steps of INIT (R164, R288, R394, R396, R418, R430–R432, R435). -/

namespace Sys2Proof.Machine

/-! ### Reset -/

/-- Whether a byte or code word lies in MRAM. -/
def isMram (a : Nat) : Bool := decide (mramBase ≤ a) && decide (a < mramBase + 0x10000000)

/-- A POR (R430): MRAM, NAND and SPI flash keep their contents, input pins their levels; a committed image becomes active (R420).
DEDUCED (log entry 64). -/
def State.por (s : State) : State :=
  { State.reset with
    pending := s.pending
    free := s.free
    mem := List.filter (fun (e : Nat × Byte) => isMram e.1) s.mem
    ecc := List.filter (fun (e : Nat × Ecc) => isMram e.1) s.ecc
    alm := { nand := s.alm.nand }
    pins := { s.pins with holdupDone := false, thermN := true, huTest := false, pcieUp := false }
    stg := { verA := s.stg.verA, verB := s.stg.verB, imgA := s.stg.imgA, imgB := s.stg.imgB, validA := s.stg.validA
             validB := s.stg.validB, active := s.stg.active != s.stg.commit }
    ctl := { tapIr := s.ctl.tapIr, tapPads := s.ctl.tapPads } }

/-- HU_STAT.HOLD_DONE. -/
def State.holdDone (s : State) : Bool := s.regBit Reg.huStat 5

/-- The pin por_n falls; in HOLDUP it takes effect only once holdup_done is high (R450). -/
def State.porFalls (s : State) : State :=
  let s := { s with pins := { s.pins with porN := false } }
  if s.mode = modeHoldup ∧ !s.holdDone then s else s.por

/-- The device stops in INIT with no flush (R441). DEDUCED (log entry 65). -/
def State.stopInit (s : State) : State :=
  let s := { s with ctl := { s.ctl with failed := true } }
  { s with ctxs := [], jobs := [] }

/-- POR_N (R430, R450, R453): INIT starts at the release, when Meridian reads 0; with pf_n low then, it stops. DEDUCED (log entry 64). -/
def execPorN (level : Bool) (s : State) : Out :=
  .next (
    if !level then s.porFalls
    else if s.pins.porN then s
    else
      let s := { s with pins := { s.pins with porN := true } }
      if s.mode = modeHoldup then s
      else
        let s := { s with mer := {} }
        if s.pins.pfN then s else { s.stopInit with pins := { s.pins with pfN := true } })

/-- DEV_RST is written (R431): a POR follows in 1 µs. -/
def devRstWrite (v : BitVec 32) (s : State) : State :=
  if bitAt v 0 ∧ fld v 8 8 = 0xA5 ∧ s.ctl.porAt = none then { s with ctl := { s.ctl with porAt := some (s.mer.ns + 1000) } } else s
def execDevRstWrite (v : BitVec 32) (s : State) : Out := .next (devRstWrite v s)

/-! ### Steps -/

/-- Whether a step of INIT may run: it has not, and those it depends on have (R431). -/
def State.stepReady (s : State) (k : Nat) (deps : List Nat) : Bool :=
  s.pins.porN && s.mode == modeInit && !s.ctl.failed && decide (k ∉ s.ctl.steps) && deps.all fun d => decide (d ∈ s.ctl.steps)
/-- A step is finished. -/
def State.stepDone (s : State) (k : Nat) : State := { s with ctl := { s.ctl with steps := s.ctl.steps ++ [k] } }
/-- A failure of INIT that DEV_INIT_STAT records (R432). DEDUCED (log entry 65). -/
def State.initFail (s : State) (bit : Nat) : State := (s.setRegBit Reg.devInitStat bit true).raise 42
/-- FAIL with the cause found first. -/
def State.initCause (s : State) (c : Nat) : State :=
  let s := if s.regBit Reg.devInitStat 1 then s else s.setRegFld Reg.devInitStat 8 8 c
  s.initFail 1

/-- The grade's design TDP in W. -/
def tdp : Nat := if Config.grade26 then 550 else 480

/-- PLL_LOCK: step 1. DESIGN CHOICE (log entry 1). -/
def execPllLock (s : State) : Out :=
  .next (
    if !s.stepReady 1 [] then s
    else
      let s := s.setRegFld Reg.devClkStat 0 20 (2 ^ 20 - 1)
      let s := s.setRegFld Reg.devId 32 12 ((if Config.grade26 then 1 else 2) + Config.stepping.toNat * 16)
      let s := s.setReg Reg.devSerial (if Config.serial = 0 then 1 else Config.serial)
      let s := s.setRegFld Reg.devPwrCtl 1 10 tdp
      (s.setSclk sclkNominal).stepDone 1)

/-- STAGEHAND_BOOT: step 2 (R418). With neither slot verified Stagehand does not boot. DESIGN CHOICE (log entry 5).
DEDUCED (log entry 61). -/
def execStagehandBoot (okA okB : Bool) (s : State) : Out :=
  .next (
    if !s.stepReady 2 [1] then s
    else
      let a := okA && s.stg.validA
      let b := okB && s.stg.validB
      let first := if s.stg.active then b else a
      if !a && !b then s
      else
        let slot := if first then s.stg.active else !s.stg.active
        let s := if first then s else s.setRegBit Reg.stgStat 0 true
        (s.extendMeas 0 (sha384 (if slot then s.stg.imgB else s.stg.imgA))).stepDone 2)

/-- The personality record, if INIT accepts it (R437). -/
def State.pers (s : State) : Option (List Byte) :=
  match s.recRead persMagic persAddr with
  | none => none
  | some l => if recFld l 17 1 ≤ 2 ∧ recFld l 18 1 ≤ 1 then some l else none

/-- What the root record gives at INIT (R436). -/
def State.rootLoad (s : State) (l : List Byte) : State :=
  let s := s.setReg Reg.huC (BitVec.ofNat 64 (recFld l 56 8))
  let s := s.setRegBit Reg.huStat 2 (recFld l 56 4 != 0)
  let s := s.setReg Reg.huLastHold (BitVec.ofNat 64 (recFld l 72 4 + recFld l 76 1 % 8 * 2 ^ 32))
  { s with ctl := { s.ctl with powered0 := recFld l 64 8 } }

/-- The root record that wins is loaded; one that is lost or not formatted ends with ROOT_LOST (R431, R432). -/
def State.rootTake (s : State) : State :=
  let root := s.recRead rootMagic rootAddr
  let s := s.setRegBit Reg.devInitStat 5 ((s.recWinner rootMagic rootAddr).getD false)
  let s := match root with | some l => s.rootLoad l | none => s
  let lost := match root with | some l => recFld l 48 1 % 2 == 0 | none => true
  if lost then s.initFail 2 else s

/-- The personality record that wins sets the hold-up configuration, and step 6 ends (R431, R437). -/
def State.persTake (s : State) : State :=
  match s.pers with
  | none => s.initFail 3
  | some l =>
    let w (k : Nat) : W64 := BitVec.ofNat 64 (recFld l k 8)
    let s := s.setRegBit Reg.devInitStat 6 ((s.recWinner persMagic persAddr).getD false)
    (((s.setReg Reg.huCfg0 (w 48 &&& 0x3FFFFFFFFFFFF)).setReg Reg.huCfg1 (w 56)).setReg Reg.huCfg2 (w 64 &&& 0xFFFFFFFF00FFFFFF)).stepDone 6

/-- RECORD_READ: step 6 (R432, R435). Without a personality record the step is not finished: Stagehand waits for one.
DESIGN CHOICE (log entry 1). -/
def execRecordRead (s : State) : Out :=
  .next (
    if !s.stepReady 6 [1] || s.regBit Reg.devInitStat 3 then s
    else (((s.recTouch rootAddr).recTouch persAddr).rootTake).persTake)

/-- SRAM_INIT: step 3 (R164, R431). -/
def execSramInit (pass : Bool) (s : State) : Out :=
  .next (
    if !s.stepReady 3 [1, 6] then s
    else
      let s := { s with l2 := [], execs := [], ctl := { s.ctl with sliceEn := BitVec.ofNat 8 (recFld (s.pers.getD []) 16 1) &&& Config.slices } }
      let s := (List.range 9).foldl (fun s d => ((s.setReg (Reg.l2Lock d) 0).setRegBit (Reg.l2Stat d) 0 true).setRegBit (Reg.l2Ctl d) 0 true) s
      let s := if pass then s else s.initCause 1
      s.stepDone 3)

/-- What a controller that answers nothing reports. -/
def ctlNone : CtlRep := { present := false, rdimm := false, x4 := false, check := false, stacked := false, ranks := 0, density := 0, size := 0, rate := 0, lanes := [] }
/-- Every lane of a controller passes (R394). DEDUCED (log entry 66). -/
def State.ctlTrained (s : State) (n : Nat) (r : CtlRep) : Bool :=
  r.lanes.length == laneCount n && r.lanes.all fun l => lanePass l (s.minWin n)

/-- The rate of a module in units of 100 MT/s: the highest of 64, 56 and 48 that its SPD allows (R382). -/
def ddrRate (r : CtlRep) : Nat :=
  if 64 ≤ r.rate.toNat then 64 else if 56 ≤ r.rate.toNat then 56 else if 48 ≤ r.rate.toNat then 48 else 0
/-- Whether a module is one of those supported (R382). -/
def modSupported (r : CtlRep) : Bool :=
  r.rdimm && r.x4 && r.check && !r.stacked && decide (r.ranks = 1 ∨ r.ranks = 2) && decide (r.density.toNat ≤ 2) &&
    decide (r.size.toNat ∈ [32, 48, 64, 96, 128]) && decide (0 < ddrRate r)

/-- The number of channels of the populated set (R383). -/
def State.ddrSet (s : State) (l : List CtlRep) : Nat :=
  let r (n : Nat) : CtlRep := l.getD n ctlNone
  let ok (n : Nat) : Bool := (r n).present && modSupported (r n) && s.ctlTrained n (r n) &&
    (r n).size == (r 0).size && (r n).ranks == (r 0).ranks && (r n).density == (r 0).density
  ([8, 4, 2, 1].find? fun k => (List.range k).all ok).getD 0

/-- A controller's registers after training: `inUse` as MC_CFG shows it. -/
def State.ctlInit (s : State) (n : Nat) (r : CtlRep) (inUse : Bool) : State :=
  let t := s.ctlTrained n r
  let hbm := decide (8 ≤ n)
  let here := r.present || hbm
  let s := s.setReg (Reg.mcCfg n) (BitVec.ofNat 64 (hbm.toNat + here.toNat * 2 + inUse.toNat * 4 +
    (if hbm then 0 else r.ranks.toNat * 2 ^ 8 + r.density.toNat * 2 ^ 12) + r.size.toNat * 2 ^ 16 +
    (if hbm then r.rate.toNat else ddrRate r) * 2 ^ 24))
  let s := s.setReg (Reg.mcStat n) (BitVec.ofNat 64 ((here && t).toNat + (here && !t).toNat * 2 + (!hbm && here && !inUse).toNat * 8))
  let s := ((List.range (laneCount n)).zip r.lanes).foldl (fun s p =>
    s.setReg (Reg.mcTrain n p.1) (laneWord p.2 (s.minWin n) (winCentre p.2.rdL p.2.rdR) (winCentre p.2.wrL p.2.wrR))) s
  if hbm && !t then s.initCause 2 else s

/-- Whether a LUN is one of the parts supported, and whether two LUNs have one geometry (R287, R288). -/
def lunSupported (r : LunRep) : Bool :=
  decide (r.page.toNat ≤ 2) && decide (r.planesLog.toNat ≤ 2) && decide (512 * 2 ^ r.page.toNat ≤ r.spare.toNat)
def lunSame (a b : LunRep) : Bool :=
  a.page == b.page && a.planesLog == b.planesLog && a.wlp == b.wlp && a.ppb == b.ppb && a.bpp == b.bpp && a.spare == b.spare

/-- The LUNs that a channel finds, as CH, TGT, LUN packed, with what their parameter pages say, in ascending order. A channel with more
than 4 LUNs per target holds no supported part (R287). -/
def chanFound (r : ChanRep) (ch : Nat) : List (Nat × LunRep) :=
  if r.lunLog = 3 then [] else
  (((List.range 8).filter fun t => r.tgts.getLsbD t).flatMap fun t =>
    (List.range (2 ^ r.lunLog.toNat)).map fun l => ch + 32 * t + 256 * l).zip r.luns

/-- The LUN that sets the reference geometry: the first of a supported part (R288). DEDUCED (log entry 66). -/
def refLun (cs : List (Nat × ChanRep)) : Option LunRep :=
  ((cs.flatMap fun p => (chanFound p.2 p.1).map Prod.snd).find? lunSupported)

/-- The LUNs of a channel that are in use (R288): of the reference geometry, in a channel that trained. -/
def chanLuns (ref : Option LunRep) (ch : Nat) (r : ChanRep) : List Nat :=
  if !r.trained then [] else ((chanFound r ch).filter fun e => lunSupported e.2 && ref.any (lunSame e.2)).map Prod.fst

/-- The flash probe (R287, R288), and HU_FLUSH_RATE (R439). DEDUCED (log entry 66). -/
def State.flashInit (s : State) (r : List ChanRep) : State :=
  let cs := (List.range 32).zip r
  let ref := refLun cs
  let luns := cs.flatMap fun p => chanLuns ref p.1 p.2
  let s := cs.foldl (fun s p =>
    let c := p.2
    let rate := min c.rate.toNat (max 8 (min 36 (fld (s.reg (Reg.flcCfg p.1)) 0 6)))
    let bad := (decide (c.lunLog = 3) && c.tgts != 0) || (chanFound c p.1).any fun e => !(lunSupported e.2 && ref.any (lunSame e.2))
    s.setReg (Reg.flcStat p.1) (BitVec.ofNat 64 (c.tgts.toNat + c.lunLog.toNat * 2 ^ 8 + c.trained.toNat * 2 ^ 10 +
      (c.tgts != 0 && !c.trained).toNat * 2 ^ 11 + bad.toNat * 2 ^ 12 + (if c.trained then rate else 0) * 2 ^ 16))) s
  let pe := (ref.map fun r => r.peLimit.toNat).getD 0
  let s := s.setReg Reg.almMediaCfg (BitVec.ofNat 64 (pe + 100 * 2 ^ 16 + 7 * 2 ^ 32 + 1000 * 2 ^ 48))
  match ref with
  | none => s
  | some r =>
    let s := s.setReg Reg.almGeom (BitVec.ofNat 64 (r.page.toNat + r.planesLog.toNat * 2 ^ 2 + r.wlp.toNat * 2 ^ 4 + r.ppb.toNat * 2 ^ 6 +
      r.bpp.toNat * 2 ^ 18 + r.spare.toNat * 2 ^ 34))
    let g : Geom := { spp := 2 ^ r.page.toNat, planes := 2 ^ r.planesLog.toNat, wlp := r.wlp.toNat + 1, ppb := r.ppb.toNat + 1
                      bpp := r.bpp.toNat + 1, tprogUs := r.tprogUs, luns := luns }
    let chans := (cs.filter fun p => p.2.trained).length
    let rate := min (3200 * chans) (luns.length * 4096 * g.spp * g.planes / max g.tprogUs 1)
    (s.setReg Reg.huFlushRate (BitVec.ofNat 64 (rate % 2 ^ 32))).onAlm fun a => { a with geom := g }

/-- MEMORY_TRAINING: step 4 (R288, R383, R394), with the port mode (R401) and the management interface (R417). DEDUCED (log entry 66). -/
def execMemoryTraining (r : TrainRep) (s : State) : Out :=
  .next (
    if !s.stepReady 4 [1, 6] then s
    else
      let c (n : Nat) : CtlRep := r.ctls.getD n ctlNone
      let n := s.ddrSet r.ctls
      let s := (List.range 12).foldl (fun s i => s.ctlInit i (c i) (if i < 8 then decide (i < n) else s.ctlTrained i (c i))) s
      let s := s.setReg Reg.mcDdrCap (BitVec.ofNat 64 (n * (c 0).size.toNat % 2 ^ 11 + n * 2 ^ 16))
      let s := s.setRegFld Reg.netCtl 0 2 (recFld (s.pers.getD []) 17 1)
      let s := { s with stg := { s.stg with basex := recFld (s.pers.getD []) 18 1 == 1 } }
      (s.flashInit r.flash).stepDone 4)

/-- POWER_ON_FILL: step 5 (R396): volatile memory reads zero, with good check bits. -/
def execPowerOnFill (s : State) : Out :=
  .next (
    if !s.stepReady 5 [3, 4] then s
    else
      let s := { s with mem := List.filter (fun (e : Nat × Byte) => isMram e.1) s.mem
                        ecc := List.filter (fun (e : Nat × Ecc) => isMram e.1) s.ecc
                        merge := List.filter (fun (e : Nat × MergeEntry) => isMram e.1) s.merge }
      let s := (List.range 12).foldl (fun s n => s.setRegBit (Reg.mcStat n) 2 true) s
      (s.setRegBit Reg.spyStat 0 true).stepDone 5)

/-- An image is loaded at a physical address, by writes that cross no 4 KiB boundary; nothing is written where no memory is, or where
Stagehand may not write (R434). -/
def loadGo : Nat → State → Nat → List Byte → State
  | 0, s, _, _ => s
  | _, s, _, [] => s
  | k + 1, s, a, l =>
    let n := min l.length (4096 - a % 4096)
    loadGo k (if (s.writeStatus .stagehand a n).isSome then s else s.busWrite a (l.take n)) (a + n) (l.drop n)
def State.loadImage (s : State) (a : Nat) (l : List Byte) : State := loadGo (l.length / 4096 + 2) s a l

/-- Every hardware thread is released at M_ENTRY with privilege M (R431). DESIGN CHOICE (log entry 3). -/
def State.releaseCores (s : State) (pc : W64) : State :=
  (List.range 64).foldl (fun s h => s.setCtx (2048 + h) { st := .ready, r := { pc := epcWord pc, npc := epcWord pc + 4 }, priv := .m
                                                          cycle0 := s.islandCycles (2048 + h) }) s

/-- IMAGE_LOAD: step 7 (R418): the personality record and both images are measured; unless both signatures hold, the control cores are
held and a new image may come. -/
def execImageLoad (m k : List Byte) (mOk kOk : Bool) (s : State) : Out :=
  .next (
    if !s.stepReady 7 [2, 5, 6] then s
    else
      let p := s.pers.getD []
      let s := ((s.extendMeas 1 (sha384 p)).extendMeas 2 (sha384 m)).extendMeas 3 (sha384 k)
      if !(mOk && kOk) then s.setRegBit Reg.stgStat 1 true
      else
        let s := ((s.setRegBit Reg.stgStat 1 false).loadImage (recFld p 24 8) m).loadImage (recFld p 40 8) k
        (s.releaseCores (BitVec.ofNat 64 (recFld p 32 8))).stepDone 7)

/-- Step 8 is finished once Almanac has recovered and the hold-up controller has taken its first sample (R431). -/
def State.step8 (s : State) : State :=
  if s.ctl.recovered ∧ s.ctl.samples ≠ [] ∧ 8 ∉ s.ctl.steps then s.stepDone 8 else s

/-- ALMANAC_RECOVERY: Almanac's part of step 8 (R317, R432). Without a root record or a manifest the media is locked (R425).
DESIGN CHOICE (log entry 21). -/
def execAlmanacRecovery (s : State) : Out :=
  .next (
    if !s.stepReady 8 [5, 6] || s.ctl.recovered then s
    else
      let lock (s : State) : State := s.setRegBit Reg.devInitStat 4 true
      let done (s : State) : State := State.step8 { s with ctl := { s.ctl with recovered := true } }
      if s.regBit Reg.devInitStat 2 then done (lock s)
      else
        let r := s.almRecover ((s.recRead rootMagic rootAddr).getD [])
        if r.2 then done r.1.wpUpdate else done ((lock r.1).initFail 2))

/-- INIT_END: step 9 (R431, R432). After a failure the device stays in INIT. -/
def execInitEnd (s : State) : Out :=
  .next (
    if !s.stepReady 9 [7, 8] || s.regBit Reg.devInitStat 1 then s
    else
      let m := if s.mediaLocked then modeQuiesce else if s.roMedia then modeReadonly else modeService
      let s := (s.setRegFld Reg.devMode 0 3 m).initFail 0
      let s := { s with ctl := { s.ctl with measReq := s.ctl.measReq || decide (fld (s.reg Reg.huC) 0 32 = 0) } }
      (s.stepDone 9).almGo)

/-- PERSONALITY_RECORD_RECEIVE (R432, R435): Stagehand writes a record it received on the management port while the control cores are
held for the want of one; the record takes effect at the next POR. DEDUCED (log entry 65). -/
def execPersonalityRecordReceive (body : List Byte) (s : State) : Out :=
  .next (
    if !s.stgOn || s.mode != modeInit || s.ctl.failed || !s.regBit Reg.devInitStat 3 then s
    else
      let s := s.recTouch persAddr
      let old := (s.recRead persMagic persAddr).getD []
      let bank := match s.recWinner persMagic persAddr with | some b => !b | none => false
      let l := leBytes 4 persMagic ++ [1, 0, 0, 0] ++ leBytes 8 (bankSeq old + 1) ++ (body ++ List.replicate 4076 0).take 4076
      (s.busWrite (persAddr bank) l).busWrite (persAddr bank + 4092) (leBytes 4 (crc32c l).toNat))

end Sys2Proof.Machine
end

