-- ==== Sys2Proof/Machine/Spyglass.lean ====
section
/-! DEFINITION. Sys2Proof/Machine/Spyglass.lean: the associative store: searches (R206, R207, R211–R216), commands (R217–R225),
mirror and patrol (R228–R230). -/

namespace Sys2Proof.Machine

/-! ### Tables and rows -/

/-- Entries of a segment, capacity and span of a table (R203). -/
def SpyTable.per (t : SpyTable) : Nat := if t.wide then 256 else 512
def SpyTable.cap (t : SpyTable) : Nat := t.per * t.segs.length
def SpyTable.span (t : SpyTable) : Nat := ceilDiv t.segs.length 32
/-- The physical row of a table row; a wide entry's is its even row (R203). -/
def SpyTable.phys (t : SpyTable) (r : Nat) : Nat :=
  t.segs.getD (r / t.per) 0 * 512 + r % t.per * (if t.wide then 2 else 1)
/-- The table row of a physical row. -/
def SpyTable.rowOf (t : SpyTable) (p : Nat) : Option Nat :=
  (firstIdx t.segs.length fun i => t.segs.getD i 1024 == p / 512).map fun i => i * t.per + p % 512 / (if t.wide then 2 else 1)

def State.spyRow (s : State) (p : Nat) : SpyRow := Tab.get {} s.spy.rows p
/-- Table row r of a table. -/
def State.trow (s : State) (t r : Nat) : SpyRow := s.spyRow ((s.spyTable t).phys r)

/-- Rows of a table that hold an entry, with their table rows. -/
def State.spyUsed (s : State) (t : Nat) : List (Nat × SpyRow) :=
  let x := s.spyTable t
  (s.spy.rows.filterMap fun e => if e.2.valid then (x.rowOf e.1).map fun r => (r, e.2) else none).insertionSort
    fun a b => a.1 ≤ b.1

/-- Lost rows of a table, those that held no entry among them (R229). -/
def State.spyLostRows (s : State) (t : Nat) : List (Nat × SpyRow) :=
  s.spy.rows.filterMap fun e => if e.2.lost then ((s.spyTable t).rowOf e.1).map fun r => (r, e.2) else none

/-- The table that a physical row belongs to (R202, R203). -/
def State.rowTable (s : State) (p : Nat) : Option Nat :=
  let o := Tab.get 0 s.spy.segs (p / 512)
  if o = 0 then none else some (o - 1)

/-- The mirror entry of a row: 64 bytes (R228), whose contents only Spyglass defines. DESIGN CHOICE (log entry 95). -/
def State.mirAddr (s : State) (p : Nat) : Nat := (s.reg Reg.spyMirrorBase).toNat + 64 * p

/-- A mirror entry is written from its array row; its bytes are free values (R228). DESIGN CHOICE (log entry 95). -/
def State.mirWrite (s : State) (p : Nat) (wide : Bool) : State :=
  let s := { s with spy := { s.spy with mir := Tab.set {} s.spy.mir p (s.spyRow p) } }
  let put (s : State) (p : Nat) : State := let r := s.fresh; r.2.busWrite (s.mirAddr p) (leBytes 64 r.1)
  if wide then put (put s p) (p + 1) else put s p

/-- An array write with the mirror write that accompanies it (R228); it clears a wrong parity. -/
def State.spyWrite (s : State) (t r : Nat) (v : SpyRow) : State :=
  let x := s.spyTable t
  let p := x.phys r
  let s := { s with spy := { s.spy with rows := Tab.set {} s.spy.rows p { v with badPar := false, quar := false } } }
  s.mirWrite p x.wide

/-- A row is copied to another of the table (R221, R224). -/
def State.spyCopy (s : State) (t src dst : Nat) : State := s.spyWrite t dst (s.trow t src)

/-- A block of n rows is copied by a distance, in the order that keeps every source until it is copied (R221, R224). -/
def State.spyMove (s : State) (t first n : Nat) (delta : Int) : State :=
  let l := (List.range n).map (first + ·)
  (if 0 < delta then l.reverse else l).foldl (fun s r => s.spyCopy t r ((r : Int) + delta).toNat) s

/-- Whether a table has a lost row (R229). -/
def State.degraded (s : State) (t : Nat) : Bool := !(s.spyLostRows t).isEmpty

/-! ### Searches -/

/-- Whether a row matches (R206). -/
def SpyRow.hits (x : SpyRow) (key mask : BitVec 288) : Bool := x.valid && !x.lost && ((x.key ^^^ key) &&& mask) == 0

/-- The matching entries of a table in winning order (R207). -/
def State.spyMatches (s : State) (t : Nat) (key mask : BitVec 288) : List SpyRow :=
  (((s.spyUsed t).filter fun e => e.2.hits key mask).insertionSort fun a b => a.2.prio ≤ b.2.prio).map Prod.snd

/-- A match record (R212). -/
def SpyRow.record (x : SpyRow) : W128 := BitVec.ofNat 128 (x.res.toNat + x.id.toNat * 2 ^ 64 + x.prio.toNat * 2 ^ 96)

/-- Whether a requester may search a table at its admission (R213). -/
def State.spyDenied (s : State) (r : SpyReq) : Bool :=
  let t := s.spyTable r.table
  let free0 := match r.who with | .cmd _ => r.bid == 0 | .net _ _ _ => true | _ => false
  !t.exists_ || t.destroying || (t.owner != r.bid && !free0)

/-- RC of a search (R211, R216). -/
def State.spyRc (s : State) (r : SpyReq) : Nat :=
  let t := s.spyTable r.table
  if r.wide != t.wide then 1 else if r.sealed ∧ 1 < t.span then 2 else 0

/-- The slots a search costs (R214). -/
def State.spyCost (s : State) (r : SpyReq) : Nat :=
  if s.spyDenied r || s.spyRc r != 0 then 1 else (s.spyTable r.table).span

/-- The reply of an engine search (R211, R212). -/
def State.engReply (s : State) (r : SpyReq) (x rd : Nat) : SpyReply :=
  let base : SpyReply := { x := x, rd := rd, all := r.all, addr := r.addr, attr := r.attr, denied := none, w0 := 0, w1 := 0, recs := [],
                           issued := r.issued, sealed := r.sealed }
  if s.spyDenied r then { base with denied := some r.table }
  else
    let rc := s.spyRc r
    let dg := (s.degraded r.table).toNat
    if rc ≠ 0 then
      let w := BitVec.ofNat 64 (rc * 2 ^ 56)
      if r.all then { base with w0 := w } else { base with w1 := w }
    else
      let l := s.spyMatches r.table r.key r.mask
      if r.all then
        { base with recs := (l.take 16).map SpyRow.record
                    w0 := BitVec.ofNat 64 (min l.length 16 + (decide (16 < l.length)).toNat * 32 + dg * 64) }
      else match l with
        | [] => { base with w0 := (s.spyTable r.table).dflt, w1 := BitVec.ofNat 64 (dg * 2 ^ 49) }
        | w :: _ => { base with w0 := w.res, w1 := BitVec.ofNat 64 (w.id.toNat + w.prio.toNat * 2 ^ 32 + 2 ^ 48 + dg * 2 ^ 49) }

/-- The completion of a queue SEARCH (R223): the table may have been destroyed, or made again with the other width, since it was sent. -/
def State.cmdSearch (s : State) (r : SpyReq) (e : Item) : State :=
  if s.spyDenied r then s.complete e 0x0701
  else if s.spyRc r ≠ 0 then s.complete e 0x0250
  else
    let l := s.spyMatches r.table r.key r.mask
    let k := min l.length r.maxm
    let w := s.dmaWrite r.bid (BitVec.ofNat 64 r.addr) ((l.take k).flatMap fun m => leBytes 16 m.record.toNat)
    match w.2 with
    | some st => w.1.complete e st
    | none => w.1.complete e 0 (BitVec.ofNat 64 (k + (decide (k < l.length)).toNat * 32 + (s.degraded r.table).toNat * 64))

/-- A frame of a port leaves steering: with a result and the pass that hit, or dropped and counted as NOSTEER (R407).
DESIGN CHOICE (log entry 58). -/
def State.steered (s : State) (port id : Nat) (res : Option (W64 × Nat)) : State :=
  let l := Tab.get [] s.net.rx port
  let l' := match res with
    | some v => l.map fun f => if f.id = id then { f with res := some v } else f
    | none => l.filter fun f => f.id ≠ id
  let s := { s with net := { s.net with rx := Tab.set [] s.net.rx port l' } }
  if res.isNone then s.bump (Reg.netCnt port 4) else s

/-- The mask of a steering pass, 1 to 4 (R407). -/
def State.steerMask (s : State) (pass : Nat) : BitVec 288 :=
  BitVec.ofNat 288 ((s.reg (Reg.netSteerMask (pass - 1) 0)).toNat + (s.reg (Reg.netSteerMask (pass - 1) 1)).toNat * 2 ^ 64 +
    (s.reg (Reg.netSteerMask2 (pass - 1))).toNat % 2 ^ 16 * 2 ^ 128)

/-- The number of passes (NET_STEER_CFG.NPASS): 0 and values above 4 act as 1. -/
def State.npass (s : State) : Nat :=
  let n := fld (s.reg Reg.netSteerCfg) 0 3
  if n = 0 ∨ 4 < n then 1 else n

/-- A steering pass is resolved: a hit decides, a miss goes on to the next pass or to the default (R407). -/
def State.netSearch (s : State) (r : SpyReq) (port id pass : Nat) : State :=
  if s.spyDenied r then s.steered port id none
  else match s.spyMatches r.table r.key r.mask with
    | w :: _ => s.steered port id (some (w.res, pass))
    | [] =>
      if pass < s.npass then
        let r' := { r with who := .net port id (pass + 1), mask := s.steerMask (pass + 1) }
        { s with spy := { s.spy with port := s.spy.port ++ [r'] } }
      else s.steered port id (some ((s.spyTable r.table).dflt, 0))

/-- SEARCH_ADMISSION: the search at the head of the port is admitted when the budget covers its cost (R214). A steering pass
that meets SPY_CTL.EN = 0 drops its frame (R407). DESIGN CHOICE (log entry 83). -/
def execSearchAdmission (s : State) : Out :=
  .next (match s.spy.port with
  | [] => s
  | r :: t =>
    let c := s.spyCost r
    if !s.regBit Reg.spyCtl 0 then
      match r.who with
      | .net p i _ => { s with spy := { s.spy with port := t } }.steered p i none
      | _ => s
    else if s.spy.budget < 5 * c then s
    else
      let s := { s with spy := { s.spy with port := t, budget := s.spy.budget - 5 * c } }
      let s := (s.bump Reg.spySrchCnt).addReg Reg.spySlotCnt c
      match r.who with
      | .eng x rd => { s with spy := { s.spy with replies := s.spy.replies ++ [s.engReply r x rd] } }
      | .cmd e => s.cmdSearch r e
      | .net p i n => s.netSearch r p i n)

/-- The records of an all-matches search, stored by the context (R212). -/
def State.storeRecs (s : State) (x addr : Nat) (at_ : Attr) (l : List W128) : State :=
  (l.zip (List.range l.length)).foldl (fun s p =>
    let e : SbEntry := { ctx := x, addr := addr + 16 * p.2, data := leBytes 16 p.1.toNat, attr := at_, bid := (s.ctx x).bid }
    s.sbPush (unitOf x) e) s

/-- SEARCH_REPLY (R211–R213): in SEALED mode not before 200 ns after the issue (R216). -/
def execSearchReply (sl : Fin 8) (e c : Fin 16) (s : State) : Out :=
  .next (
    let x := (sl.val * 16 + e.val) * 16 + c.val
    match s.spy.replies.find? fun r => r.x = x with
    | none => s
    | some r =>
      if r.sealed ∧ (s.mer.ns - r.issued).toNat < 200 then s else
      let s := { s with spy := { s.spy with replies := s.spy.replies.erase r } }
      if (s.ctx x).st ≠ .waitUnit ∨ (s.ctx x).wait ≠ .search then s else
      let s := s.setCtx x { s.ctx x with st := .ready, wait := .none }
      match r.denied with
      | some t => s.takeTrap x { code := 0x14, val := BitVec.ofNat 64 t }
      | none =>
        let s := if r.all then (s.storeRecs x r.addr r.attr r.recs).setG x r.rd r.w0
          else (s.setG x r.rd r.w0).setG x (r.rd + 1) r.w1
        s.retire x)

/-! ### Commands -/

/-- The table that an entry names, and whether it is one the Booth may name (R217 item 2). -/
def Item.table (e : Item) : Nat := e.fieldN 8 2
def State.spyForeign (s : State) (e : Item) : Bool :=
  let t := s.spyTable e.table
  decide (1023 < e.table) || !t.exists_ || t.destroying || (t.owner != e.bid && e.bid != 0)

/-- A key or mask of an entry (R218). -/
def Item.keyAt (e : Item) (k : Nat) (wide : Bool) : BitVec 288 := BitVec.ofNat 288 (e.fieldN k (if wide then 36 else 18))

/-- The tests that every command on an existing table begins with (R217 items 1 and 2). -/
def State.spyFirst (s : State) (e : Item) : List (Bool × BitVec 16) :=
  [(!s.regBit Reg.spyCtl 0, 0x0201), (s.spyForeign e, 0x0701)]

/-- A row command is accepted: it waits for its turn at its table (R219). -/
def State.rowCmd (s : State) (e : Item) (op : SpyOp) : State :=
  let t := s.spyTable e.table
  let s := s.setSpyTable e.table { t with cmds := t.cmds ++ [{ item := e, op := op, ord := s.spy.ord }] }
  { s with spy := { s.spy with ord := s.spy.ord + 1 } }

/-- Dispatch of a Spyglass command: its first failing condition completes it, else its effect runs. -/
def spyCmd (op : Nat) (q : BitVec 16) (tests : Item → State → List (Bool × BitVec 16)) (eff : Item → State → State) (s : State) :
    State :=
  dispatch 2 op q always (fun e s => match firstFail (tests e s) with
    | some st => s.complete e st
    | none => eff e s) s

/-- The id a CREATE_TABLE takes, and the free segments (R220). -/
def State.freeTable (s : State) : Option Nat := firstIdx 1023 fun t => !(s.spyTable t).exists_
def State.freeSegs (s : State) : List Nat := (List.range 1024).filter fun g => Tab.get 0 s.spy.segs g = 0

/-- CREATE_TABLE (R220, R217). -/
def execCreateTable (q : BitVec 16) (s : State) : Out :=
  .next (spyCmd 1 q
    (fun e s =>
      let t := e.table
      let n := e.fieldN 12 4
      let w := e.fieldN 10 1
      let lim (r m : Nat) : Bool := decide (s.quota e.bid r < s.inUse e.bid r + m)
      [(!s.regBit Reg.spyCtl 0, 0x0201), (t == 1023 && e.bid != 0, 0x0701),
        ((decide (1023 < t) && t != 65535) || decide (1 < w) || n == 0 || decide (1024 < n) ||
          (t == 1023 && (w == 1 || decide (8 < n))), 0x0401),
        (t != 65535 && (s.spyTable t).exists_, 0x0201), (lim 2 1 || lim 3 n, 0x0301),
        (decide (s.freeSegs.length < n) || (t == 65535 && s.freeTable.isNone), 0x0302)])
    (fun e s =>
      let t := if e.table = 65535 then s.freeTable.getD 0 else e.table
      let gs := s.freeSegs.take (e.fieldN 12 4)
      let s := s.setSpyTable t { exists_ := true, wide := e.fieldN 10 1 == 1, owner := e.bid, segs := gs, dflt := e.word 16 }
      let s := { s with spy := { s.spy with segs := gs.foldl (fun m g => Tab.set 0 m g (t + 1)) s.spy.segs } }
      s.complete e 0 (BitVec.ofNat 64 t)) s)

/-- DESTROY_TABLE (R220): from its acceptance the table does not exist for searches and commands. -/
def execDestroyTable (q : BitVec 16) (s : State) : Out :=
  .next (spyCmd 2 q (fun e s => s.spyFirst e)
    (fun e s =>
      let s := s.rowCmd e .destroy
      s.setSpyTable e.table { s.spyTable e.table with destroying := true }) s)

/-- INSERT (R221). -/
def execInsert (q : BitVec 16) (s : State) : Out :=
  .next (spyCmd 3 q
    (fun e s => s.spyFirst e ++ [((s.spyTable e.table).wide != (e.slots == 4), 0x0250)])
    (fun e s => s.rowCmd e (.insert (BitVec.ofNat 16 (e.fieldN 10 2)) (e.word 16) (e.keyAt 24 (s.spyTable e.table).wide))) s)

/-- DELETE (R222). -/
def execDelete (q : BitVec 16) (s : State) : Out :=
  .next (spyCmd 4 q (fun e s => s.spyFirst e) (fun e s => s.rowCmd e (.delete (BitVec.ofNat 32 (e.fieldN 12 4)))) s)

/-- UPDATE (R222). -/
def execSpyUpdate (q : BitVec 16) (s : State) : Out :=
  .next (spyCmd 5 q (fun e s => s.spyFirst e)
    (fun e s => s.rowCmd e (.update (BitVec.ofNat 32 (e.fieldN 12 4)) (e.word 16))) s)

/-- A translation that fails, as a test (R217 item 5). -/
def State.spyAddr (s : State) (e : Item) (n : Nat) : Bool × BitVec 16 :=
  match s.dmaCheck e.bid true (e.word 16) n with
  | some st => (true, st)
  | none => (false, 0)

/-- SEARCH (R223): it goes to the search port. -/
def execSearch (q : BitVec 16) (s : State) : Out :=
  .next (spyCmd 6 q
    (fun e s =>
      let m := e.fieldN 10 1
      s.spyFirst e ++ [((s.spyTable e.table).wide != (e.slots == 7), 0x0250),
        (m == 0 || decide (16 < m) || e.fieldN 16 1 % 16 != 0, 0x0401), s.spyAddr e (16 * m)])
    (fun e s =>
      let w := (s.spyTable e.table).wide
      let r : SpyReq := { who := .cmd e, table := e.table, bid := e.bid, wide := w, key := e.keyAt 32 w
                          mask := e.keyAt (if w then 68 else 50) w, all := true, addr := e.fieldN 16 8, maxm := e.fieldN 10 1 }
      { s with spy := { s.spy with port := s.spy.port ++ [r] } }) s)

/-- A signed 32-bit field. -/
def Item.int32 (e : Item) (k : Nat) : Int := (BitVec.ofNat 32 (e.fieldN k 4)).toInt

/-- MOVE_BLOCK (R224). -/
def execMoveBlock (q : BitVec 16) (s : State) : Out :=
  .next (spyCmd 7 q
    (fun e s =>
      let f := e.fieldN 12 4
      let n := e.fieldN 16 4
      let d := e.int32 20
      let cap := (s.spyTable e.table).cap
      s.spyFirst e ++ [(n == 0 || decide (4096 < n) || decide (d = 0) || decide (d < -4096) || decide (4096 < d) ||
        decide (cap < f + n) || decide ((f : Int) + d < 0) || decide ((cap : Int) < f + n + d), 0x0401)])
    (fun e s => s.rowCmd e (.move (e.fieldN 12 4) (e.fieldN 16 4) (e.int32 20))) s)

/-- The entry with an id in a table (R205): its table row. -/
def State.spyEntry (s : State) (t : Nat) (id : BitVec 32) : Option (Nat × SpyRow) := (s.spyUsed t).find? fun e => e.2.id = id

/-- A row record (R225); the key of a lost row is a free value (R229). A lost row that held no entry shows LOST without VALID.
DESIGN CHOICE (log entry 95). -/
def State.rowRecord (s : State) (t r : Nat) : State × List Byte :=
  let x := s.trow t r
  let w := (s.spyTable t).wide
  if !x.valid && !x.lost then (s, leBytes 64 0)
  else
    let k := if x.lost then (let f := s.fresh; (f.2, f.1)) else (s, x.key.toNat)
    (k.1, leBytes 36 (k.2 % 2 ^ (if w then 288 else 144)) ++ leBytes 4 x.id.toNat ++ leBytes 2 x.prio.toNat ++
      leBytes 1 (x.valid.toNat + w.toNat * 2 + x.lost.toNat * 4) ++ leBytes 1 0 ++ leBytes 4 r ++ leBytes 8 x.res.toNat ++ leBytes 8 0)

/-- A record is written and the command completes (R225). -/
def State.spyRecord (s : State) (e : Item) (l : List Byte) : State :=
  let w := s.dmaWrite e.bid (e.word 16) l
  w.1.complete e (w.2.getD 0)

/-- READ_ROW (R225). DESIGN CHOICE (log entry 83). -/
def execReadRow (q : BitVec 16) (s : State) : Out :=
  .next (spyCmd 8 q
    (fun e s =>
      let m := e.fieldN 10 1
      let a := e.fieldN 12 4
      s.spyFirst e ++ [(decide (1 < m) || e.fieldN 16 1 % 64 != 0 || (m == 1 && decide ((s.spyTable e.table).cap ≤ a)), 0x0401),
        s.spyAddr e 64, (m == 0 && (s.spyEntry e.table (BitVec.ofNat 32 a)).isNone, 0x0251)])
    (fun e s =>
      let r := if e.fieldN 10 1 = 1 then e.fieldN 12 4
        else ((s.spyEntry e.table (BitVec.ofNat 32 (e.fieldN 12 4))).map Prod.fst).getD 0
      let p := s.rowRecord e.table r
      p.1.spyRecord e p.2) s)

/-- Valid entries and lost rows of a table (SPY_TBL_CNT). -/
def State.spyValid (s : State) (t : Nat) : Nat := ((s.spyUsed t).filter fun e => !e.2.lost).length
def State.spyLost (s : State) (t : Nat) : Nat := (s.spyLostRows t).length
/-- A row that holds no entry and is not lost (R221, R229). -/
def SpyRow.free (x : SpyRow) : Bool := !x.valid && !x.lost
/-- The lowest free table row at or above a row, and the highest below one (R221). -/
def State.freeFrom (s : State) (t r : Nat) : Option Nat :=
  (List.range (s.spyTable t).cap).find? fun i => decide (r ≤ i) && (s.trow t i).free
def State.freeBelow (s : State) (t r : Nat) : Option Nat := (List.range r).reverse.find? fun i => (s.trow t i).free

/-- A table record (R225). -/
def State.tableRecord (s : State) (t : Nat) : List Byte :=
  let x := s.spyTable t
  leBytes 2 t ++ leBytes 1 x.wide.toNat ++ leBytes 1 ((!x.cmds.isEmpty).toNat + (s.degraded t).toNat * 2) ++
    leBytes 4 x.segs.length ++ leBytes 4 x.cap ++ leBytes 4 (s.spyValid t) ++ leBytes 4 (s.spyLost t) ++
    leBytes 4 ((s.freeFrom t 0).getD 0xFFFFFFFF) ++ leBytes 8 x.dflt.toNat ++ leBytes 32 0

/-- TABLE_INFO (R225). -/
def execTableInfo (q : BitVec 16) (s : State) : Out :=
  .next (spyCmd 9 q (fun e s => s.spyFirst e ++ [(e.fieldN 16 1 % 64 != 0, 0x0401), s.spyAddr e 64])
    (fun e s => s.spyRecord e (s.tableRecord e.table)) s)

/-! ### Row commands -/

/-- The generation after one (R205). -/
def nextGen (g : Nat) : Nat := if g = 4095 then 1 else g + 1
/-- A handle is given up: its generation advances (R205). -/
def State.freeHandle (s : State) (id : BitVec 32) : State :=
  { s with spy := { s.spy with gens := Tab.set 0 s.spy.gens (id.toNat % 2 ^ 20) (nextGen (id.toNat / 2 ^ 20)) } }

/-- The entry id of a new entry: a handle no entry has, a free choice of the hardware, with its generation, the first one of a
handle being a free value from 1 to 4,095 (R205). DESIGN CHOICE (log entry 89). -/
def State.newId (s : State) : State × BitVec 32 :=
  let used := s.spy.rows.map fun e => e.2.id.toNat % 2 ^ 20
  let a := s.fresh
  let h := if a.1 % 2 ^ 20 ∈ used then (firstIdx (used.length + 1) fun i => decide (i ∉ used)).getD 0 else a.1 % 2 ^ 20
  let b := a.2.fresh
  let g := Tab.get 0 a.2.spy.gens h
  let g' := if g = 0 then 1 + b.1 % 4095 else g
  ({ b.2 with spy := { b.2.spy with gens := Tab.set 0 b.2.spy.gens h g' } }, BitVec.ofNat 32 (h + g' * 2 ^ 20))

/-- INSERT's algorithm (R221): the status, result field and state. -/
def State.spyInsert (s : State) (t : Nat) (prio : BitVec 16) (res : W64) (key : BitVec 288) : State × BitVec 16 × W64 :=
  let at_ := (((s.spyUsed t).filter fun e => decide (e.2.prio ≤ prio)).map fun e => e.1 + 1).foldl max 0
  let put (s : State) (r : Nat) : State × BitVec 16 × W64 :=
    let i := s.newId
    (i.1.spyWrite t r { valid := true, prio := prio, id := i.2, res := res, key := key }, 0,
      BitVec.ofNat 64 (i.2.toNat + r * 2 ^ 32))
  let need (f : Nat) : State × BitVec 16 × W64 := (s, 0x0350, BitVec.ofNat 64 (at_ + f * 2 ^ 32))
  let down (fd : Nat) : State × BitVec 16 × W64 :=
    if 4096 < fd - at_ then need fd else put (s.spyMove t at_ (fd - at_) 1) at_
  let up (fu : Nat) : State × BitVec 16 × W64 :=
    if 4096 < at_ - 1 - fu then need fu else put (s.spyMove t (fu + 1) (at_ - 1 - fu) (-1)) (at_ - 1)
  match s.freeFrom t at_, s.freeBelow t at_ with
  | none, none => (s, 0x0351, 0)
  | some fd, none => down fd
  | none, some fu => up fu
  | some fd, some fu => if fd - at_ ≤ at_ - 1 - fu then down fd else up fu

/-- MOVE_BLOCK's effect (R224). -/
def State.spyMoveBlock (s : State) (t first n : Nat) (delta : Int) : State × BitVec 16 :=
  let src := (List.range n).map (first + ·)
  let dst := src.map fun r => ((r : Int) + delta).toNat
  if (dst.filter fun r => decide (r ∉ src)).any fun r => !(s.trow t r).free then (s, 0x0201)
  else
    let s := s.spyMove t first n delta
    ((src.filter fun r => decide (r ∉ dst)).foldl (fun s r => s.spyWrite t r {}) s, 0)

/-- DESTROY_TABLE's end (R220): rows, handles and segments are freed. -/
def State.spyDestroy (s : State) (t : Nat) : State :=
  let x := s.spyTable t
  let s := (s.spyUsed t).foldl (fun s e => (s.spyWrite t e.1 {}).freeHandle e.2.id) s
  let s := (s.spyLostRows t).foldl (fun s e => s.spyWrite t e.1 {}) s
  let s := s.setSpyTable t {}
  { s with spy := { s.spy with segs := x.segs.foldl (fun m g => Tab.set 0 m g 0) s.spy.segs } }

/-- Whether a row command moves rows, and the row commands at the head of their tables (R219). -/
def SpyOp.moves : SpyOp → Bool
  | .insert _ _ _ | .move _ _ _ => true
  | _ => false
def State.rowHeads (s : State) : List RowCmd := s.spy.tables.filterMap fun e => e.2.cmds.head?
/-- SPY_STAT.MOVING: at most 8 commands move rows at once (R219). -/
def State.moving (s : State) : Nat := min 8 (s.rowHeads.filter fun c => c.op.moves).length
/-- Whether a table's row command has its turn (R219). -/
def State.rowTurn (s : State) (c : RowCmd) : Bool :=
  !c.op.moves || decide ((s.rowHeads.filter fun d => d.op.moves && decide (d.ord < c.ord)).length < 8)

/-- What a row command does to its table, with its completion's status and result (R220–R222, R224). -/
def State.rowEffect (s : State) (t : Nat) : SpyOp → State × BitVec 16 × W64
  | .insert p v k => s.spyInsert t p v k
  | .delete id =>
    match s.spyEntry t id with
    | none => (s, 0x0251, 0)
    | some e => ((s.spyWrite t e.1 {}).freeHandle id, 0, 0)
  | .update id v =>
    match s.spyEntry t id with
    | none => (s, 0x0251, 0)
    | some e => (s.spyWrite t e.1 { e.2 with res := v }, 0, 0)
  | .move f n d => let q := s.spyMoveBlock t f n d; (q.1, q.2, 0)
  | .destroy => (s.spyDestroy t, 0, 0)

/-- Whether a row command writes a physical row: every array write releases the row it writes (R228, R229). -/
def State.writesRow (s : State) (t : Nat) (op : SpyOp) (p : Nat) : Bool :=
  let marked := { s with spy := { s.spy with rows := Tab.set {} s.spy.rows p { s.spyRow p with quar := true } } }
  !((marked.rowEffect t op).1.spyRow p).quar

/-- ROW_COMMAND_COMPLETION: the row command in progress on a table ends (R219–R224), unless it writes a row under repair
(R229). -/
def execRowCommandCompletion (tb : BitVec 10) (s : State) : Out :=
  .next (
    let t := tb.toNat
    let x := s.spyTable t
    match x.cmds with
    | [] => s
    | c :: r =>
      if !s.rowTurn c || s.spy.rows.any fun e => e.2.quar && s.writesRow t c.op e.1 then s else
      let q := (s.setSpyTable t { x with cmds := r }).rowEffect t c.op
      q.1.complete c.item q.2.1 q.2.2)

/-! ### Mirror and patrol -/

/-- An outcome of the patrol (R229): recorded, counted and raised. -/
def State.patrolOutcome (s : State) (row t kind : Nat) : State :=
  let s := s.setReg Reg.spyErrLast (BitVec.ofNat 64 (row + t * 2 ^ 20 + kind * 2 ^ 30))
  let s := s.setRegBit Reg.spyStat (if kind = 3 then 3 else 2) true
  (s.bump (if kind = 3 then Reg.spyLostCnt else Reg.spyRepairCnt)).raise 16

/-- The last row of the allocated segments, whose visit ends a sweep. -/
def State.lastRow (s : State) : Nat := ((s.spy.segs.map fun e => e.1 * 512 + 511).foldl max 0)

/-- Whether a row has an array write pending: the row command in progress on its table writes it (R229). -/
def State.rowPending (s : State) (t p : Nat) : Bool :=
  match (s.spyTable t).cmds with
  | [] => false
  | c :: _ => s.rowTurn c && s.writesRow t c.op p

/-- PATROL_VISIT: one row is compared with its mirror entry (R229). Rows with an array write pending, rows under repair and
lost rows are skipped. -/
def execPatrolVisit (row : BitVec 19) (s : State) : Out :=
  .next (
    let go := s.regBit Reg.spyCtl 0 && s.regBit Reg.spyCtl 1 && !s.regBit Reg.spyCtl 2 && !s.spy.stop
    match s.rowTable row.toNat with
    | none => s
    | some t =>
      if !go then s else
      let x := s.spyTable t
      let p := if x.wide then row.toNat / 2 * 2 else row.toNat
      let a := s.spyRow p
      let s := if row.toNat = s.lastRow then s.bump Reg.spySweeps else s
      if s.rowPending t p || a.quar || a.lost then s else
      let m := Tab.get {} s.spy.mir p
      let r := s.busRead (s.mirAddr row.toNat) 64 3
      let s := r.1
      let put (v : SpyRow) : State := { s with spy := { s.spy with rows := Tab.set {} s.spy.rows p v } }
      if r.2.1.isSome then
        if a.badPar then (put { a with lost := true }).patrolOutcome row.toNat t 3
        else (s.mirWrite p x.wide).patrolOutcome row.toNat t 2
      else if { a with badPar := false } = m then s
      else (put { m with quar := true }).patrolOutcome row.toNat t 1)

/-- ROW_REPAIR_RELEASE: the rewritten row is released (R229). -/
def execRowRepairRelease (row : BitVec 19) (s : State) : Out :=
  .next (
    let a := s.spyRow row.toNat
    if a.quar then { s with spy := { s.spy with rows := Tab.set {} s.spy.rows row.toNat { a with quar := false } } } else s)

/-- MIRROR_WRITE_FAIL: a mirror write fails twice, and the patrol stops comparing (R230). -/
def execMirrorWriteFail (s : State) : Out :=
  .next (if !s.regBit Reg.spyCtl 0 then s
  else ({ s with spy := { s.spy with stop := true } }.setRegBit Reg.spyStat 1 true).raise 16)

/-- A write of SPY_CTL.RESYNC (R230). -/
def spyResync (s : State) : State := s.setRegBit Reg.spyCtl 2 true
def execResync (s : State) : Out := .next (spyResync s)

/-- The mirror's rows below n are written: a free row's bytes are free values (R230). -/
def State.mirrorRows (s : State) (n : Nat) : State :=
  (List.range n).foldl (fun s p => let r := s.fresh; r.2.busWrite (s.mirAddr p) (leBytes 64 r.1)) s

/-- The whole mirror of n rows is rewritten from the array, and the patrol resumes (R230). -/
def State.resynced (s : State) (n : Nat) : State :=
  let s := s.mirrorRows n
  let mir := (s.spy.rows.map fun e => (e.1, { e.2 with badPar := false, quar := false })).filter fun e => decide (e.2 ≠ {})
  ({ s with spy := { s.spy with mir := mir, stop := false } }).setRegBit Reg.spyCtl 2 false

/-- RESYNC_DONE: a resynchronization ends (R230). -/
def execResyncDone (s : State) : Out := .next (if !s.regBit Reg.spyCtl 2 then s else s.resynced 524288)

end Sys2Proof.Machine
end

