-- ==== Sys2Proof/Machine/HoldUp.lean ====
section
/-! DEFINITION. Sys2Proof/Machine/HoldUp.lean: HOLDUP and its flush (R316, R433, R441, R442), and the hold-up controller (R438–R440). -/

namespace Sys2Proof.Machine

/-! ### Gating (R441) -/

/-- The digest engine abandons every job except those of context 4,095. -/
def State.dgAbandon (s : State) : State :=
  s.eng.dg.foldl (fun s e => if e.1 = 4095 then s else s.setDg e.1 { s.dg e.1 with jobs := [] }) s

/-- The local and bulk movers of the slices stop with their slices. DESIGN CHOICE (log entry 84). -/
def State.moversGate (s : State) : State := (List.range 256).foldl (fun s n => if (s.mover n).st = 0 then s else s.setMover n {}) s

/-- Unreleased items of Domino are abandoned. -/
def State.domAbandon (s : State) : State := s.flows.foldl (fun s e => s.setFlow (BitVec.ofNat 16 e.1) { s.flow (BitVec.ofNat 16 e.1) with cells := [] }) s

/-- Row commands of Spyglass stop with its clock. -/
def State.rowsAbandon (s : State) : State := s.spy.tables.foldl (fun s e => s.setSpyTable e.1 { s.spyTable e.1 with cmds := [] }) s

/-- Blocks are gated and the work in them is abandoned; an epoch is abandoned (R428); merge buffers drain (R388); a scrub ends (R399).
DESIGN CHOICE (log entry 67). -/
def State.gate (s : State) : State :=
  let s := { s with ctxs := [], execs := [], l2todo := [], jobs := [], terms := [], scans := [], parts := [], evals := [] }
  let s := { s with spy := { s.spy with port := [], replies := [], stop := true }, net := { s.net with rx := [], tx := [] } }
  let s := { s with orr := { s.orr with thr := [], lists := [], cur := [], offer := [], expiring := [], raised := [] } }
  let s := (s.domAbandon).rowsAbandon
  let s := { s with eng := { s.eng with units := [], wait := [] } }
  let s := (s.dgAbandon).moversGate
  let s := (List.range 13).foldl State.mergeDrainAll s
  if s.scrBusy then s.scrubEnd 0x02C0 else s

/-- A measurement ends at once and the charger stops (R438). -/
def State.huOff (s : State) : State :=
  let s := (s.setRegBit Reg.huStat 0 false).setRegBit Reg.huStat 1 false
  { s with ctl := { s.ctl with measuring := false }, pins := { s.pins with huTest := false } }

/-! ### The flush (R316) -/

/-- Whether a group can take a program of a stream: it has an open block, or a block left, the flush reserve included. -/
def State.flushRoom (s : State) (g stream : Nat) : Bool :=
  (s.openOf g stream).isSome || (s.journalRoom && !(s.freeBlks g ++ s.rsvBlks g).isEmpty)

/-- The group whose turn it is in the rotation, or the next that has room. -/
def State.flushGroup (s : State) (k stream : Nat) : Nat :=
  let gs := (List.range 32).filter fun g => !(s.alm.geom.blocks g).isEmpty
  let turn (i : Nat) : Nat := gs.getD ((k + i) % max gs.length 1) 0
  (((List.range gs.length).map turn).find? fun g => s.flushRoom g stream).getD (turn 0)

/-- One program unit of buffered data is programmed with status pass, FILL completing it; runs are kept together (R300). The answer is
what is left of the data. -/
def State.flushUnit (s : State) (g stream : Nat) (l : List BufE) : State × List BufE :=
  let o := s.ensureOpen g stream true
  match o.2 with
  | none => (o.1, [])
  | some b =>
    let n := b.fits s.alm.geom fun i => match l[i]? with | some b => if b.ext && b.lba % 16 == 0 then 16 else 0 | none => 0
    let d := l.take n
    let q := o.1.withSeq (d.map BufE.slot)
    let p := q.1.programAt b q.2
    let s := p.1.addReg (Reg.almCnt 0) d.length
    let s := ((d.zip p.2).zip q.2).foldl (fun s x =>
      if !x.1.1.dead && (x.1.1.kind == 0 || x.1.1.kind == 4) && (s.ns x.1.1.nsid).exists_ then
        s.mapSet (s.gunit x.1.1.nsid x.1.1.lba) (entryOf x.1.2) x.2.seq else s) s
    ((d.map fun b => b.id).foldl State.bufGone s, l.drop n)

/-- Buffered data is programmed, striped over the groups in rotation: units of one stream at a time, a run in its group. -/
def State.flushData : Nat → State → Nat → Nat → List BufE → State
  | 0, s, _, _, _ => s
  | _, s, _, _, [] => s
  | k + 1, s, g, st, b :: t =>
    let r := s.flushUnit (s.flushGroup g st) st (b :: t)
    let run := match r.2 with | x :: _ => x.ext && x.lba % 16 != 0 | [] => false
    State.flushData k r.1 (if run then g else g + 1) st r.2

/-- Dirty table pages are written, striped likewise. -/
def State.flushTables : Nat → State → Nat → List Nat → State
  | 0, s, _, _ => s
  | _, s, _, [] => s
  | k + 1, s, g, p :: t =>
    let u := max s.alm.geom.unit 1
    let o := s.ensureOpen (s.flushGroup g 3) 3 true
    let s := match o.2 with | some b => o.1.writePages b ((p :: t).take u) | none => o.1
    State.flushTables k s (g + 1) ((p :: t).drop u)

/-- The flush of R316: programs in flight finish, every open ledger unit is sealed, buffered data is programmed in order, ledger units
first, and a checkpoint is written. The group that the rotation starts in is a free choice. DESIGN CHOICE (log entry 67). -/
def State.flush (s : State) : State :=
  let s := s.onAlm fun a => { a with gcOn := [], dests := [], cmds := [], accept := [], nsq := [], reads := [] }
  let s := (List.range 32).foldl (fun s g => match s.progOf g with | some p => s.progPass g p | none => s) s
  let s := s.alm.ns.foldl (fun s e => if e.2.ledger then s.sealUnit e.1 else s) s
  let r := s.fresh
  let g := r.1 % 32
  let b := r.2.inOrder (r.2.alm.buf.filter fun b => !b.issued)
  let l := b.filter fun x => x.kind == 4
  let h := b.filter fun x => x.kind != 4
  let s := State.flushData (16 * (h.length + 1)) (State.flushData (l.length + 1) r.2 g 1 l) g 0 h
  let seq := s.lastSeq
  let s := (s.setRegBit Reg.almStat 6 true).onAlm fun a => { a with ckpt := some seq, ckptOpens := a.opens }
  let d := s.alm.dirty.map Prod.fst
  (State.flushTables (d.length + 1) s g d).ckptCommit seq

/-! ### The start and the end of HOLDUP -/

/-- Islands that the flush needs (R433). -/
def flushNeeds (i : Nat) : Bool := i == 9 || (decide (11 ≤ i) && decide (i ≤ 16))

/-- HOLDUP begins (R441, R442), with the island whose clock was lost where R433 leads to it. Before READY in INIT the device stops
instead. DESIGN CHOICE (log entry 67). -/
def State.powerFail (s : State) (clk : Option Nat) : State :=
  if s.mode = modeHoldup ∨ s.ctl.failed then s
  else if s.mode = modeInit ∧ !s.regBit Reg.almStat 0 then s.stopInit
  else
    let s := s.setReg Reg.devMode (setBit (setFld (s.reg Reg.devMode) 0 3 modeHoldup) 6 false)
    let lost := (clk.map flushNeeds).getD false
    let dry := lost || !s.regBit Reg.almStat 0
    let s := { s with ctl := { s.ctl with holdAt := some s.mer.ns, holdDry := dry, holdClk := clk.isSome, almReq := false } }
    let s := (s.gate).huOff
    if dry || s.regBit Reg.almStat 7 then s else s.flush

/-- PF_N (R441, R453): a pulse below 50 ns is ignored, one of 200 ns registers, between the two it may (a free choice). While por_n is
low the pin is noted for the release. DEDUCED (log entry 64). -/
def execPfN (lowNs : Nat) (s : State) : Out :=
  .next (
    if lowNs < 50 then s
    else
      let r := s.fresh
      let s := if lowNs < 200 then r.2 else s
      if lowNs < 200 ∧ r.1 % 2 = 0 then s
      else if !s.pins.porN && s.mode != modeHoldup then { s with pins := { s.pins with pfN := false } }
      else s.powerFail none)

/-- The HOLDUP fields of the root record (R436): duration in µs, and DONE, OVER and CLK. -/
def State.holdRecord (s : State) : State :=
  let us := (s.mer.ns - s.ctl.holdAt.getD 0).toNat / 1000
  let b := fld (s.reg Reg.huCfg1) 16 8
  let budget := if b = 0 ∨ 40 < b then 40 else b
  let dry := s.ctl.holdDry
  let f := (!dry).toNat + (decide (1000 * budget < us)).toNat * 2 + s.ctl.holdClk.toNat * 4
  s.rootWrite fun l => putAt (putAt l 72 (leBytes 4 us)) 76 (leBytes 1 f)

/-- HOLDUP_DONE (R441): the root record's HOLDUP fields are written, but not where R433 or R442 excludes it; holdup_done rises, and a POR
that por_n held takes effect (R450). -/
def execHoldupDone (s : State) : Out :=
  .next (
    if s.mode ≠ modeHoldup ∨ s.holdDone then s
    else
      let hub := s.regBit Reg.devClkStat 9
      let s := if hub && (!s.ctl.holdDry || (s.ctl.holdClk && s.regBit Reg.almStat 0)) then s.holdRecord else s
      let s := s.setRegBit Reg.huStat 5 true
      let s := { s with pins := { s.pins with holdupDone := true } }
      if s.pins.porN then s else s.por)

/-! ### Clocks (R433) -/

/-- CLOCK_LOCK_LOST: LOST sets and source 44 is raised. -/
def execClockLockLost (i : Fin 20) (s : State) : Out :=
  .next (
    if !s.regBit Reg.devClkStat i.val then s
    else
      let s := (s.setRegBit Reg.devClkStat i.val false).setRegBit Reg.devClkStat (32 + i.val) true
      ({ s with ctl := { s.ctl with lostAt := Tab.set 0 s.ctl.lostAt i.val s.mer.ns } }).raise 44)

/-- Whether an island's PLL has been out of lock for 1 ms. -/
def State.lostLong (s : State) (i : Nat) : Bool := decide (1000000 ≤ (s.mer.ns - Tab.get 0 s.ctl.lostAt i).toNat)

/-- CLOCK_RELOCK: within 1 ms operation continues, and transfers that waited are made. -/
def execClockRelock (i : Fin 20) (s : State) : Out :=
  .next (
    if !s.stopped i.val || s.lostLong i.val then s
    else
      let s := s.setRegBit Reg.devClkStat i.val true
      let s := { s with ctl := { s.ctl with lostAt := Tab.set 0 s.ctl.lostAt i.val 0 } }
      s.wakeAll (List.range 2112) .clock)

/-- CLOCK_LOST_TIMEOUT: without a relock in 1 ms the device proceeds as if pf_n had been asserted. -/
def execClockLostTimeout (i : Fin 20) (s : State) : Out :=
  .next (
    if !s.stopped i.val || !s.lostLong i.val then s else s.powerFail (some i.val))

/-! ### The hold-up controller -/

/-- Board parameters (HU_CFG0–2). -/
def State.vMin (s : State) : Nat := fld (s.reg Reg.huCfg0) 0 20
def State.vFull (s : State) : Nat := fld (s.reg Reg.huCfg0) 20 20
def State.eta (s : State) : Nat := fld (s.reg Reg.huCfg0) 40 10
def State.huC (s : State) : Nat := fld (s.reg Reg.huC) 0 32
def State.huV (s : State) : Nat := fld (s.reg Reg.huV) 0 20

/-- The controller works from step 8 of INIT, which begins after steps 5 and 6 (R431). -/
def State.huOn (s : State) : Bool := s.pins.porN && decide (5 ∈ s.ctl.steps ∧ 6 ∈ s.ctl.steps) && !s.ctl.failed

/-- E at a voltage in mV, times 2 × 10^12, in mJ (R439). DEDUCED (log entry 68). -/
def State.energy (s : State) (v : Nat) : Nat := if v ≤ s.vMin then 0 else s.huC * (v * v - s.vMin * s.vMin) * s.eta
/-- The lowest sample of the last 10 ms. -/
def State.vLow (s : State) : Nat := s.ctl.samples.foldl min (s.ctl.samples.headD 0)

/-- The computed limit in MiB for a voltage (R439): T_a is the fraction n / d ms. DEDUCED (log entry 68). DEDUCED (log entry 71). -/
def State.limitFor (s : State) (v : Nat) : Nat :=
  let cfg := s.reg Reg.huCfg1
  let p := fld cfg 0 16
  let b := fld cfg 16 8
  let budget := if b = 0 ∨ 40 < b then 40 else b
  let n := s.energy v * (100 - fld cfg 24 8)
  let d := 2 * 10 ^ 12 * 100 * p
  let t := if p = 0 ∨ budget * d ≤ n then (budget, 1) else (n, d)
  let x := (t.1 - 3 * t.2) * fld (s.reg Reg.huFlushRate) 0 32 * 1000
  if !s.regBit Reg.huStat 2 || s.regBit Reg.huCtl 1 || !s.regBit Reg.almStat 0 then 0
  else if 592 * 2 ^ 20 * t.2 ≤ x then 512
  else if 144 * 2 ^ 20 * t.2 ≤ x then (x - 144 * 2 ^ 20 * t.2) / (2 ^ 20 * t.2)
  else 0

/-- The limit in force, in MiB; it is written, and source 43 is raised (R440). -/
def State.limitNow (s : State) : Nat := (s.reg Reg.almWbLimit).toNat / 2 ^ 20
def State.limitWrite (s : State) (n : Nat) : State :=
  let s := (s.setReg Reg.almWbLimit (BitVec.ofNat 64 (n * 2 ^ 20))).setRegBit Reg.almStat 3 (decide (n = 0))
  let s := (s.setRegFld Reg.huLimit 0 10 n).raise 43
  ({ s with ctl := { s.ctl with riseAt := none } }).almGo

/-- A computed limit is applied (R440): a decrease at once, an increase once it has held for 1 s. DEDUCED (log entry 68). -/
def State.limitApply (s : State) (n : Nat) : State :=
  let s := s.setRegFld Reg.huLimit 16 10 n
  let now := s.limitNow
  if n < now then s.limitWrite n
  else if n = now then { s with ctl := { s.ctl with riseAt := none } }
  else match s.ctl.riseAt with
    | none => { s with ctl := { s.ctl with riseAt := some s.mer.ns, riseTo := n } }
    | some t =>
      let m := min s.ctl.riseTo n
      if 10 ^ 9 ≤ (s.mer.ns - t).toNat then s.limitWrite m else { s with ctl := { s.ctl with riseTo := m } }

/-- VOLTAGE_SAMPLE (R438): V is HU_VSENSE × VS_RATIO. The first sample is a part of step 8 of INIT (R431). -/
def execVoltageSample (senseMv : Nat) (s : State) : Out :=
  .next (
    if !s.huOn then s
    else
      let v := min (senseMv * fld (s.reg Reg.huCfg2) 32 32 / 1000) (2 ^ 20 - 1)
      let s := (s.setReg Reg.huV (BitVec.ofNat 64 v)).setRegBit Reg.huStat 3 (decide (v ≤ s.vMin))
      let s := { s with ctl := { s.ctl with samples := (v :: s.ctl.samples).take 10 } }
      let s := s.step8
      let s := s.setReg Reg.huE (BitVec.ofNat 64 (s.energy s.vLow / (2 * 10 ^ 12) % 2 ^ 32))
      if s.ctl.measuring ∨ s.mode = modeHoldup then s.setRegBit Reg.huStat 0 false
      else if 100 * v < 98 * s.vFull then s.setRegBit Reg.huStat 0 true
      else if s.vFull ≤ v then s.setRegBit Reg.huStat 0 false
      else s)

/-- MEAS: HU_CTL.MEAS is set (R438). -/
def measReq (s : State) : State := if s.ctl.measuring then s else { s with ctl := { s.ctl with measReq := true } }
def execMeas (s : State) : Out := .next (measReq s)

/-- Powered seconds: those the root record held at INIT, and those since (R436). -/
def State.powered (s : State) : Nat := s.ctl.powered0 + s.mer.ns.toNat / 10 ^ 9

/-- MEAS_DUE: MEAS_H hours of powered time after the last measurement. -/
def execMeasDue (s : State) : Out :=
  .next (
    let s := s.recTouch rootAddr
    let last := ((s.recRead rootMagic rootAddr).map fun l => recFld l 64 8).getD 0
    if s.huOn && decide (last + 3600 * fld (s.reg Reg.huCfg2) 0 16 ≤ s.powered) then measReq s else s)

/-- MEAS_START: with V at 0.98 VFULL the limit is set for V2, the charger disconnects and the test load is applied (R438). -/
def execMeasStart (s : State) : Out :=
  .next (
    if !s.huOn || !s.ctl.measReq || s.ctl.measuring || s.mode == modeHoldup || decide (100 * s.huV < 98 * s.vFull) then s
    else
      let drop := fld (s.reg Reg.huCfg2) 16 8
      let s := s.limitApply (s.limitFor (s.huV * (100 - drop) / 100))
      let s := (s.setRegBit Reg.huStat 0 false).setRegBit Reg.huStat 1 true
      { s with ctl := { s.ctl with measuring := true, measReq := false, measV1 := s.huV }, pins := { s.pins with huTest := true } })

/-- 2^96 × ln(n / d) for d ≤ n ≤ 2 d, by the series of the inverse hyperbolic tangent of (n - d) / (n + d). -/
def lnNear (n d : Nat) : Nat :=
  let z := (n - d) * 2 ^ 96 / (n + d)
  ((List.range 32).foldl (fun a i => (a.1 + 2 * a.2 / (2 * i + 1), a.2 * z / 2 ^ 96 * z / 2 ^ 96)) (0, z)).1
/-- 2^96 × ln(n / d) for d ≤ n < 2^k d: halves of n give ln 2 each. -/
def lnOf : Nat → Nat → Nat → Nat
  | 0, n, d => lnNear n d
  | k + 1, n, d => if n ≤ 2 * d then lnNear n d else lnNear 2 1 + lnOf k n (2 * d)
/-- C in µF, rounded down: Δt / (R_T × ln(V1 / V_end)) of R438. Where the logarithm is no positive number the spec states no value.
DEDUCED (log entry 68). -/
def capacitance (dtUs rt v1 vEnd : Nat) : Nat :=
  if 0 < rt ∧ 0 < vEnd ∧ vEnd < v1 then dtUs * 1000 * 2 ^ 96 / (rt * lnOf 20 v1 vEnd) else Config.capacitance dtUs rt v1 vEnd

/-- Whether a measurement may end: V has reached V2, or 2 s have passed. -/
def State.measOver (s : State) (dtUs : Nat) : Bool :=
  decide (2000000 ≤ dtUs) || decide (100 * s.huV ≤ s.ctl.measV1 * (100 - fld (s.reg Reg.huCfg2) 16 8))

/-- MEAS_END: V has reached V2, or 2 s have passed (R438). The root record is written either way (R436), a failed measurement keeping C.
DEDUCED (log entry 112). -/
def execMeasEnd (dtUs : Nat) (s : State) : Out :=
  .next (
    if !s.ctl.measuring || !s.measOver dtUs then s
    else
      let s := s.setRegBit Reg.huStat 1 false
      let s := { s with ctl := { s.ctl with measuring := false }, pins := { s.pins with huTest := false } }
      let c := capacitance dtUs (fld (s.reg Reg.huCfg1) 32 32) s.ctl.measV1 s.huV % 2 ^ 32
      let fails := decide (2000000 ≤ dtUs ∨ c < 1000)
      let c := if fails then s.huC else c
      let n := (fld (s.reg Reg.huC) 32 32 + 1) % 2 ^ 32
      let s := s.rootWrite fun l => putAt l 56 (leBytes 4 c ++ leBytes 4 n ++ leBytes 8 s.powered)
      (s.setReg Reg.huC (BitVec.ofNat 64 (c + n * 2 ^ 32))).setRegBit Reg.huStat (if fails then 4 else 2) true)

/-- LIMIT_RECOMPUTE: every 10 ms (R440). -/
def execLimitRecompute (s : State) : Out :=
  .next (if !s.huOn || s.mode == modeHoldup then s else s.limitApply (s.limitFor s.vLow))

end Sys2Proof.Machine
end

