-- ==== Sys2Proof/Machine/Meridian.lean ====
section
/-! DEFINITION. Sys2Proof/Machine/Meridian.lean: the writes that step and trim Meridian (R29–R31). -/

namespace Sys2Proof.Machine

/-- ±500 ppm in units of 2^-32 ns per ns (R29). -/
def trimMax : Int := 2147484

/-- The trim in force: values beyond ±500 ppm act as the nearer limit. -/
def State.trim (s : State) : Int := max (-trimMax) (min trimMax ((s.reg Reg.merRate).setWidth 32).toInt)

/-- A step of v on the master's copy. Every island whose bit of `r` is 0 still shows the value from before it (R30). -/
def Meridian.step (m : Meridian) (v : W64) (r : Nat) : Meridian :=
  { m with ns := m.ns + v, stepAt := some (m.ns + v)
           isl := (List.range 20).foldl (fun t k => if r.testBit k then t else Tab.set 0 t k (Tab.get 0 t k - (v.toNat : Int))) m.isl }

/-- A step is added to Meridian, or refused where it would carry past 2^64 - 1 (R30); which islands show it at once is free. -/
def State.merStep (s : State) (v : W64) : State :=
  if 2 ^ 64 ≤ s.mer.ns.toNat + v.toNat then (s.setRegBit Reg.merStat 0 true).raise 45
  else
    let r := s.fresh
    { r.2 with mer := r.2.mer.step v r.1 }

/-- MER_STEP is written (R30, R31): software's writes are ignored while DISC_EN is 1. DEDUCED (log entry 71). -/
def merStepWrite (v : W64) (s : State) : State := if s.regBit Reg.merCtl 0 then s else s.merStep v
def execMerStepWrite (v : W64) (s : State) : Out := .next (merStepWrite v s)

/-- A rate beyond the limits sets CLAMP (R29, R243). -/
def State.rateCheck (s : State) (v : Int) : State :=
  if trimMax < v ∨ v < -trimMax then (s.setRegBit Reg.merStat 1 true).raise 45 else s
/-- A rate becomes MER_RATE (R29). -/
def State.merRate (s : State) (v : BitVec 32) : State := (s.setReg Reg.merRate (v.setWidth 64)).rateCheck v.toInt

/-- MER_RATE is written (R29, R31): software's writes are ignored while DISC_EN is 1. -/
def merRateWrite (v : BitVec 32) (s : State) : State := if s.regBit Reg.merCtl 0 then s else s.merRate v
def execMerRateWrite (v : BitVec 32) (s : State) : Out := .next (merRateWrite v s)

end Sys2Proof.Machine
end

