-- ==== Sys2Proof/Machine/NetKey.lean ====
section
/-! DEFINITION. Sys2Proof/Machine/NetKey.lean: the parsing of Ethernet frames for steering (R402, R403, R406) and the checksums that
transmit inserts (R413). -/

namespace Sys2Proof

/-- A big-endian field of a frame. -/
def beFld (l : List Byte) (k n : Nat) : Nat := beVal ((l.drop k).take n)

/-- The ones' complement sum of 16-bit words, folded to 16 bits; an odd byte is padded with zero. -/
def sum16 : Nat → List Byte → Nat
  | 0, _ => 0
  | _, [] => 0
  | _, [a] => a.toNat * 256
  | k + 1, a :: b :: t => let r := a.toNat * 256 + b.toNat + sum16 k t; r % 65536 + r / 65536
def onesSum (l : List Byte) : Nat := sum16 (l.length + 1) l

/-- What the parser finds in a frame: L3 offset, and the fields of the key of R406. -/
structure Parsed where
  vlan : Bool := false
  vid : Nat := 0
  etype : Nat := 0
  l3 : Nat := 14
  ipv4 : Bool := false
  ipv6 : Bool := false
  proto : Nat := 0
  frag : Bool := false
  badIp : Bool := false
  badL4 : Bool := false
  l4 : Nat := 0
  dport : Nat := 0
  sport : Nat := 0
  dst : Nat := 0
  src : Nat := 0
deriving DecidableEq, Repr

def protoTcp : Nat := 6
def protoUdp : Nat := 17

/-- The XOR of the four words of an IPv6 address. -/
def xor4 (l : List Byte) (k : Nat) : Nat := (beFld l k 4 ^^^ beFld l (k + 4) 4) ^^^ (beFld l (k + 8) 4 ^^^ beFld l (k + 12) 4)

/-- Whether a TCP or UDP checksum over a payload is wrong; a UDP checksum of 0 over IPv4 stands for none. -/
def l4Bad (l : List Byte) (v4 : Bool) (addrs : List Byte) (proto l4 len : Nat) : Bool :=
  if v4 && proto == protoUdp && beFld l (l4 + 6) 2 == 0 then false
  else onesSum (addrs ++ beBytes 4 len ++ beBytes 4 proto ++ (l.drop l4).take len) != 65535

/-- The L4 part of an unfragmented IP packet whose last header starts at l4, with a payload of len bytes (R403, R406). -/
def parseL4 (p : Parsed) (l : List Byte) (addrs : List Byte) (l4 len : Nat) : Parsed :=
  if l.length ≤ l4 then p
  else
    let p := { p with l4 := l4 }
    let need := if p.proto = protoTcp then 20 else 8
    if (p.proto = protoTcp ∨ p.proto = protoUdp) ∧ need ≤ len ∧ l4 + len ≤ l.length then
      { p with sport := beFld l l4 2, dport := beFld l (l4 + 2) 2, badL4 := l4Bad l p.ipv4 addrs p.proto l4 len }
    else p

/-- An IPv4 packet. DEDUCED (log entry 44). -/
def parseV4 (p : Parsed) (l : List Byte) : Parsed :=
  let o := p.l3
  let ihl := beFld l o 1 % 16 * 4
  if l.length < o + 20 ∨ beFld l o 1 / 16 ≠ 4 ∨ ihl < 20 ∨ l.length < o + ihl then p
  else
    let frag := decide (beFld l (o + 6) 2 % 0x4000 ≠ 0)
    let p := { p with ipv4 := true, proto := beFld l (o + 9) 1, frag := frag, badIp := onesSum ((l.drop o).take ihl) != 65535
                      src := beFld l (o + 12) 4, dst := beFld l (o + 16) 4 }
    if frag then p else parseL4 p l ((l.drop (o + 12)).take 8) (o + ihl) (beFld l (o + 2) 2 - ihl)

/-- The extension headers of an IPv6 packet, up to 64 bytes in total: the next header, where it starts, whether the packet is a
fragment; none beyond the limit. -/
def ipv6Ext (l : List Byte) (base : Nat) : Nat → Nat → Nat → Bool → Option (Nat × Nat × Bool)
  | 0, _, _, _ => none
  | k + 1, nh, o, frag =>
    if nh = 0 ∨ nh = 43 ∨ nh = 60 then
      let n := (beFld l (o + 1) 1 + 1) * 8
      if base + 64 < o + n ∨ l.length < o + 8 then none else ipv6Ext l base k (beFld l o 1) (o + n) frag
    else if nh = 44 then
      if base + 64 < o + 8 ∨ l.length < o + 8 then none else ipv6Ext l base k (beFld l o 1) (o + 8) (frag || beFld l (o + 2) 2 / 8 != 0 || beFld l (o + 3) 1 % 2 == 1)
    else if nh = 51 then
      let n := (beFld l (o + 1) 1 + 2) * 4
      if base + 64 < o + n ∨ l.length < o + 8 then none else ipv6Ext l base k (beFld l o 1) (o + n) frag
    else some (nh, o, frag)

/-- An IPv6 packet. DEDUCED (log entry 44). -/
def parseV6 (p : Parsed) (l : List Byte) : Parsed :=
  let o := p.l3
  if l.length < o + 40 ∨ beFld l o 1 / 16 ≠ 6 then p
  else
    let p := { p with ipv6 := true, src := xor4 l (o + 8), dst := xor4 l (o + 24) }
    match ipv6Ext l (o + 40) 9 (beFld l (o + 6) 1) (o + 40) false with
    | none => p
    | some (nh, l4, frag) =>
      let p := { p with proto := nh, frag := frag }
      if frag then p else parseL4 p l ((l.drop (o + 8)).take 32) l4 (beFld l (o + 4) 2 + o + 40 - l4)

/-- A frame without its FCS is parsed. DEDUCED (log entry 44). -/
def parseFrame (l : List Byte) : Parsed :=
  let tag := decide (beFld l 12 2 = 0x8100)
  let p : Parsed := { vlan := tag, vid := if tag then beFld l 14 2 % 4096 else 0, etype := if tag then beFld l 16 2 else beFld l 12 2
                      l3 := if tag then 18 else 14 }
  if p.etype = 0x0800 then parseV4 p l else if p.etype = 0x86DD then parseV6 p l else p

/-- Whether a frame is PTP (R406). -/
def Parsed.ptp (p : Parsed) : Bool := p.etype == 0x88F7 || (p.proto == protoUdp && (p.dport == 319 || p.dport == 320))

/-- The key of R406. -/
def Parsed.key (p : Parsed) (port : Nat) : BitVec 144 :=
  BitVec.ofNat 144 (port % 8 + p.vlan.toNat * 2 ^ 3 + p.vid * 2 ^ 4 + p.etype * 2 ^ 16 + p.proto * 2 ^ 32 + p.dport * 2 ^ 40 +
    p.sport * 2 ^ 56 + p.dst * 2 ^ 72 + p.src * 2 ^ 104 + p.ipv4.toNat * 2 ^ 136 + p.ipv6.toNat * 2 ^ 137 + p.frag.toNat * 2 ^ 138 +
    p.badIp.toNat * 2 ^ 139 + p.badL4.toNat * 2 ^ 140 + p.ptp.toNat * 2 ^ 141)

/-! ### Transmit checksums (R403, R413) -/

/-- Two bytes of a frame replaced, where it holds them. -/
def putBe16 (l : List Byte) (k v : Nat) : List Byte :=
  if k + 2 ≤ l.length then l.take k ++ beBytes 2 v ++ l.drop (k + 2) else l

/-- The IPv4 header checksum is inserted. -/
def insertIp (l : List Byte) (o : Nat) : List Byte :=
  let l0 := putBe16 l (o + 10) 0
  putBe16 l0 (o + 10) (65535 - onesSum ((l0.drop o).take (beFld l o 1 % 16 * 4)))

/-- The TCP or UDP checksum is inserted, by the protocol of the last header; a UDP checksum that comes to 0 is sent as 0xFFFF. -/
def insertL4 (l : List Byte) (o l4 : Nat) : List Byte :=
  let v4 := decide (beFld l o 1 / 16 = 4)
  let nh := if v4 then beFld l (o + 9) 1
    else ((ipv6Ext l (o + 40) 9 (beFld l (o + 6) 1) (o + 40) false).map fun r => r.1).getD 0
  let tcp := nh == protoTcp
  let k := l4 + (if tcp then 16 else 6)
  let l0 := putBe16 l k 0
  let addrs := if v4 then (l.drop (o + 12)).take 8 else (l.drop (o + 8)).take 32
  let len := if v4 then beFld l (o + 2) 2 + o - l4 else beFld l (o + 4) 2 + o + 40 - l4
  let c := 65535 - onesSum (addrs ++ beBytes 4 len ++ beBytes 4 (if tcp then protoTcp else protoUdp) ++ (l0.drop l4).take len)
  putBe16 l0 k (if c = 0 ∧ !tcp then 65535 else c)

end Sys2Proof
end

