-- ==== Sys2Proof/Machine/Net.lean ====
section
/-! DEFINITION. Sys2Proof/Machine/Net.lean: the Ethernet ports (R401–R414): receive, steering, landing, transmit, PTP samples. -/

namespace Sys2Proof.Machine

/-- Ports of the port mode (R401). -/
def State.ports (s : State) : Nat := let m := fld (s.reg Reg.netCtl) 0 2; if m = 0 then 8 else if m = 1 then 4 else 2
/-- A port is there, its link is up, and NET is not gated (R441). DEDUCED (log entry 45). -/
def State.portUp (s : State) (p : Nat) : Bool := decide (p < s.ports) && s.regBit Reg.netCtl (2 + p) && s.mode != modeHoldup

def State.rxq (s : State) (p : Nat) : List Frame := Tab.get [] s.net.rx p
def State.setRxq (s : State) (p : Nat) (l : List Frame) : State := { s with net := { s.net with rx := Tab.set [] s.net.rx p l } }
def State.txq (s : State) (p : Nat) : List TxFrame := Tab.get [] s.net.tx p
def State.setTxq (s : State) (p : Nat) (l : List TxFrame) : State := { s with net := { s.net with tx := Tab.set [] s.net.tx p l } }

/-- NET_STAT events raise source 80. -/
def State.netEvent (s : State) (bit : Nat) : State := (s.setRegBit Reg.netStat bit true).raise 80

/-- A time stamp of NET (R404): within ±4 ns of the NET island's copy of Meridian, by a free value. -/
def State.netStamp (s : State) : W64 × State :=
  let r := s.fresh
  (BitVec.ofInt 64 (max 0 (((s.merAt islNet).toNat : Int) + ((r.1 % 9 : Nat) - 4))), r.2)

/-- FRAME_RECEIVE (R402, R404, R406, R407, R412): a frame without its FCS arrives at a port; a pause frame (MAC control, opcode 1) is
discarded. DEDUCED (log entry 45). -/
def execFrameReceive (port : Fin 8) (frame : List (BitVec 8)) (fcsOk : Bool) (s : State) : Out :=
  .next (
    let p := port.val
    if !s.portUp p || decide (frame.length < 60) || decide (9216 < frame.length) then s
    else if !fcsOk then s.bump (Reg.netCnt p 2)
    else
      let s := (s.bump (Reg.netCnt p 0)).addReg (Reg.netCnt p 1) (frame.length + 4)
      let x := parseFrame frame
      if beFld frame 12 2 = 0x8808 ∧ beFld frame 14 2 = 1 then s
      else if 2 ^ 20 < ((s.rxq p).map fun f => f.data.length).sum + frame.length then s.bump (Reg.netCnt p 3)
      else if !(s.spyTable 1023).exists_ || !s.regBit Reg.spyCtl 0 then s.bump (Reg.netCnt p 4)
      else
        let id := s.net.nextId
        let key := x.key p
        let t := s.netStamp
        let s := t.2
        let fr : Frame := { id := id, data := frame, stamp := t.1, key := key, l3 := x.l3, l4 := x.l4 }
        let s := s.setRxq p (s.rxq p ++ [fr])
        let r : SpyReq := { who := .net p id 1, table := 1023, bid := 0, wide := false, key := key.setWidth 288, mask := s.steerMask 1
                            all := false, issued := s.mer.ns, sealed := s.sealed 14 }
        { s with net := { s.net with nextId := id + 1 }, spy := { s.spy with port := s.spy.port ++ [r] } })

/-! ### Landing (R408–R411) -/

def State.rxbQid (s : State) (i : Nat) : BitVec 16 := (s.reg (Reg.netRxbCfg i)).extractLsb' 16 16

/-- The RUN_PIPE entry of a landed frame (R411). -/
def landEntry (s : State) (p i : Nat) (f : Frame) (res : W64) (pass buf : Nat) : List Byte :=
  let cfg := s.reg (Reg.netRxbCfg i)
  let tag := fld res 32 32
  let g2 := f.data.length + p * 2 ^ 16 + fld f.key 136 5 * 2 ^ 19 + f.l3 * 2 ^ 24 + f.l4 * 2 ^ 32
  [1, 4, 0, 0] ++ leBytes 4 tag ++ [1, 0, 0xFF, 0] ++ leBytes 4 (fld cfg 40 24) ++
    leBytes 8 (s.reg (Reg.netRxbPc i)).toNat ++ leBytes 1 (fld cfg 32 8) ++ leBytes 7 0 ++
    leBytes 8 buf ++ leBytes 8 g2 ++ leBytes 8 f.stamp.toNat ++ leBytes 8 (tag + pass * 2 ^ 32) ++
    leBytes 8 (s.reg (Reg.netRxbLanded i)).toNat ++ leBytes 8 (s.reg (Reg.netRxbG6 i)).toNat

/-- Slots of an entry are written to a submission ring (R410): the failing slot and status. -/
def State.ringWrite : Nat → State → Queue → BitVec 32 → List Byte → State × Option (BitVec 32 × BitVec 16)
  | 0, s, _, _, _ => (s, none)
  | k + 1, s, x, n, l =>
    let w := s.dmaWrite x.ringBid (slotAddr x.sqBase x.sqLog n) (l.take 16)
    match w.2 with
    | some st => (w.1, some (n, st))
    | none => State.ringWrite k w.1 x (n + 1) (l.drop 16)

/-- The first cause of R410 that drops a frame, as the number of its counter. -/
def State.landDrop (s : State) (i : Nat) (f : Frame) : Option Nat :=
  let cfg := s.reg (Reg.netRxbCfg i)
  let x := s.queue (s.rxbQid i)
  let l := (s.reg (Reg.netRxbLanded i)).setWidth 32 - x.cqTail
  if !bitAt cfg 0 || !x.exists_ then some 6
  else if (s.booth x.bid).st == .halted then some 7
  else if 2 ^ fld cfg 5 4 < f.data.length then some 8
  else if 2 ^ x.sqLog < (x.sqTail - x.sqHead).toNat + 5 ∨ 2 ^ fld cfg 1 4 ≤ l.toNat then some 9
  else none

/-- A frame lands in its binding (R410). DESIGN CHOICE (log entry 58). -/
def State.land (s : State) (p i : Nat) (f : Frame) (res : W64) (pass : Nat) : State :=
  match s.landDrop i f with
  | some n => s.bump (Reg.netCnt p n)
  | none =>
    let cfg := s.reg (Reg.netRxbCfg i)
    let q := s.rxbQid i
    let x := s.queue q
    let n := (s.reg (Reg.netRxbLanded i)).toNat % 2 ^ fld cfg 1 4
    let a := s.reg (Reg.netRxbBuf i) + BitVec.ofNat 64 (n * 2 ^ fld cfg 5 4)
    let w := s.dmaWrite x.bid a f.data
    match w.2 with
    | some _ => (w.1.bump (Reg.netCnt p 10)).netEvent 1
    | none =>
      let r := State.ringWrite 5 w.1 x x.sqTail (landEntry w.1 p i f res pass a.toNat)
      match r.2 with
      | some (n, st) => r.1.haltBooth x.bid 0x0122 q n.toNat st
      | none => (r.1.setQueue q { r.1.queue q with sqTail := x.sqTail + 5 }).bump (Reg.netRxbLanded i)

/-- FRAME_LANDING: the first frame of a port, once steered, lands or is dropped (R408, R410). -/
def execFrameLanding (port : Fin 8) (s : State) : Out :=
  .next (
    let p := port.val
    match s.rxq p with
    | [] => s
    | f :: t =>
      match f.res with
      | none => s
      | some (res, pass) =>
        let s := s.setRxq p t
        if bitAt res 8 then s.bump (Reg.netCnt p 5) else s.land p (fld res 0 8) f res pass)

/-- NET_RXB_CFG of a binding is written (R409): EN is refused where the binding is not legal, and while EN is 1 only EN changes.
DESIGN CHOICE (log entry 58). -/
def rxbCfgWrite (i : Nat) (v : W64) (s : State) : State :=
  let a := Reg.netRxbCfg i
  if s.regBit a 0 then s.setRegBit a 0 (bitAt v 0)
  else
    let x := s.queue (v.extractLsb' 16 16)
    let e := fld v 32 8
    let b := fld v 5 4
    let ok := x.exists_ && x.cls == 1 && x.prod == 1 && pcOk (s.reg (Reg.netRxbPc i)) && (decide (e < 16) || e == 255) &&
      decide (11 ≤ b) && decide (b ≤ 14)
    let v' := v &&& ~~~(0xFE00 : W64)
    if bitAt v 0 && !ok then (s.setReg a (setBit v' 0 false)).setRegBit Reg.netStat 0 true else s.setReg a v'
def execRxbCfgWrite (i : BitVec 8) (v : W64) (s : State) : Out := .next (rxbCfgWrite i.toNat v s)

/-! ### Transmit (R413) -/

/-- The frame of a SEND as it leaves: checksums inserted, padded to 60 bytes. -/
def Item.txFrame (e : Item) (l : List Byte) : List Byte :=
  let o := e.fieldN 10 2
  let l4 := e.fieldN 12 2
  let fl := e.fieldN 9 1
  let l := if fl % 2 = 1 then insertIp l o else l
  let l := if fl / 2 % 2 = 1 then insertL4 l o l4 else l
  l ++ List.replicate (60 - l.length) 0

/-- A SEND is dispatched: a content error, or its frame queues at the port. DESIGN CHOICE (log entry 47). -/
def State.sendStart (s : State) (e : Item) : State :=
  let p := e.fieldN 8 1
  let n := e.fieldN 24 4
  match firstFail [(decide (s.ports ≤ p) || decide (n < 14) || decide (9216 < n) || decide (n < e.fieldN 10 2) || decide (n < e.fieldN 12 2),
      (0x0401 : BitVec 16)), (!s.regBit Reg.netCtl (2 + p), 0x02D0)] with
  | some st => s.complete e st
  | none =>
    let r := s.dmaRead e.bid (e.word 16) n (s.queue e.q).prio
    match r.2.1 with
    | some st => r.1.complete e st
    | none =>
      let c := r.1.netStamp
      let t : TxFrame := { item := e, data := e.txFrame r.2.2, ts := decide (e.fieldN 9 1 / 4 % 2 = 1), stamp := c.1 }
      c.2.setTxq p (c.2.txq p ++ [t])
def execSend (q : BitVec 16) (s : State) : Out := .next (dispatch 7 1 q always (fun e s => s.sendStart e) s)

/-- FRAME_TRANSMIT_DONE: the last byte of the first frame of a port has left (R413, R404); the next frame begins.
DESIGN CHOICE (log entry 47). -/
def execFrameTransmitDone (port : Fin 8) (s : State) : Out :=
  .next (
    let p := port.val
    match s.txq p with
    | [] => s
    | f :: t =>
      let c := s.netStamp
      let s := c.2
      let t := match t with | [] => [] | g :: r => { g with stamp := c.1 } :: r
      ((s.setTxq p t).bump (Reg.netCnt p 11)).complete f.item 0 (if f.ts then f.stamp else 0))

/-- LINK_CHANGE (R402, NET_STAT.LINK_CHG). -/
def execLinkChange (port : Fin 8) (up : Bool) (s : State) : Out :=
  .next (
    if decide (s.ports ≤ port.val) || s.regBit Reg.netCtl (2 + port.val) == up || s.mode == modeHoldup then s
    else (s.setRegBit Reg.netCtl (2 + port.val) up).netEvent 2)

/-! ### PTP (R405) -/

/-- A measured offset disciplines Meridian. DEDUCED (log entry 48). -/
def ptpSample (o : W64) (s : State) : State :=
  if !s.regBit Reg.merCtl 0 then s
  else
    let v := s.reg Reg.netPtpServo
    let step := (fld v 0 16 : Int)
    if step < o.toInt then s.merStep o
    else if o.toInt < -step then s.merRate (BitVec.ofInt 32 (-trimMax))
    else
      let sum := s.net.sum + o.toInt
      let r := (fld v 32 16 : Int) * o.toInt + (fld v 16 16 : Int) * sum
      ({ s with net := { s.net with sum := sum } }.merRate (BitVec.ofInt 32 (max (-trimMax) (min trimMax r)))).rateCheck r
/-- DEDUCED (log entry 48). -/
def execPtpSample (o : W64) (s : State) : Out := .next (ptpSample o s)

end Sys2Proof.Machine
end

