-- ==== Sys2Proof/Machine/Ledger.lean ====
section
/-! DEFINITION. Sys2Proof/Machine/Ledger.lean: seals and chain registers of ledger namespaces (R321–R323), appends as they are
placed (R320), and the power states of the flash complex (R343, R344). -/

namespace Sys2Proof.Machine

/-! ### Appends and seals (R320, R321) -/

/-- Units that an append of n bytes touches and that hold no protected byte yet (R299). -/
def Ns.newProt (x : Ns) (n : Nat) : Nat :=
  let u := ceilDiv (x.offset % 4096 + n) 4096
  if x.openProt then u - 1 else u

/-- Bytes of an append placed at OFFSET, unit by unit; a unit whose last byte is written seals (R320, R321). -/
def State.placeBytes : Nat → State → Nat → Bool → List Byte → State
  | 0, s, _, _, _ => s
  | _, s, _, _, [] => s
  | k + 1, s, nsid, prot, l =>
    let x := s.ns nsid
    let room := 4096 - x.openData.length
    let x' := { x with openData := x.openData ++ l.take room, offset := x.offset + min room l.length
                       openAt := if x.openData.isEmpty then s.mer.ns else x.openAt, openProt := x.openProt || prot }
    let s := s.setNs nsid x'
    let s := if x'.openData.length = 4096 then s.sealUnit nsid else s
    State.placeBytes k s nsid prot (l.drop room)

/-- An append is placed (R320); one without protection seals every unit it touches (R321). The answer is its starting offset and
the buffer entries of the units it sealed. -/
def State.appendAt (s : State) (nsid : Nat) (prot : Bool) (l : List Byte) : State × Nat × List Nat :=
  let o := (s.ns nsid).offset
  let i := s.alm.nextBuf
  let s := State.placeBytes (l.length / 4096 + 2) s nsid prot l
  let s := if prot then s else s.sealUnit nsid
  (s, o, (List.range (s.alm.nextBuf - i)).map (i + ·))

/-- SEAL_TIMEOUT (R321): the open unit has been open for SEAL_US µs. -/
def execSealTimeout (nsid : BitVec 11) (s : State) : Out :=
  .next (
    let x := s.ns nsid.toNat
    if !x.exists_ || !x.ledger || x.openData.isEmpty ||
        decide ((s.mer.ns - x.openAt).toNat < fld (s.reg Reg.almMediaCfg) 48 16 * 1000) then s
    else (s.sealUnit nsid.toNat).almGo)

/-! ### The ALM_LG_ registers (R323) -/

/-- The namespace that ALM_LG_SEL names. -/
def State.lgNsid (s : State) : Nat := fld (s.reg Reg.almLgSel) 0 11
/-- Chain head, UNITS and OFFSET as the registers show them: the capture while one holds, else the current values. -/
def State.lgView (s : State) : BitVec 256 × Nat × Nat :=
  match s.alm.capNs with
  | some v => v
  | none => let x := s.ns s.lgNsid; (x.head, x.units, x.offset)

/-- ALM_LG_CMD.OP keeps what was written; STATUS is the result of a command (R323). -/
def State.lgDone (s : State) (op : Nat) (st : BitVec 16) : State :=
  (s.setRegFld Reg.almLgCmd 0 2 op).setRegFld Reg.almLgCmd 16 16 st.toNat

/-- A unit is read for a sieve or for READ_CHAIN (R303, R323): the data and chain value of its buffered entry or of its slot, or the
status with which it ends. A unit of an excluded LUN ends with MEDIA_ERROR (R288). -/
def State.unitRead (s : State) (nsid lba : Nat) : State × Except (BitVec 16) (BitVec 32768 × BitVec 256) :=
  match s.bufNewest nsid lba with
  | some b => (s, .ok (b.data, b.chain))
  | none =>
    match s.entryRead nsid lba with
    | (s, some st, _) => (s, .error st)
    | (s, none, e) =>
      if e % 4 = 2 then (s, .error 0x0501)
      else if e % 2 = 0 then (s, .ok (0, 0))
      else if lunOf (e / 4) ∉ s.alm.geom.luns then (s, .error 0x0501)
      else
        let x := s.nslot (e / 4)
        let r := s.slotRead (e / 4) nsid lba
        (r.1, if r.2 then .ok (x.data, x.chain) else .error 0x0501)

/-- The captured chain value goes to ALM_LG_CV0–3. -/
def State.setLgCv (s : State) (v : BitVec 256) : State :=
  (List.range 4).foldl (fun s i => s.setReg (Reg.almLgCv0 i) (v.extractLsb' (64 * i) 64)) s

/-- ALM_LG_CMD READ_CHAIN for the unit in ALM_LG_IDX. -/
def lgReadChain (s : State) : State :=
  let n := s.lgNsid
  let x := s.ns n
  let k := (s.reg Reg.almLgIdx).toNat
  if !x.exists_ || !x.ledger then s.lgDone 1 0x0401
  else if x.units ≤ k then s.lgDone 1 0x0470
  else
    let r := s.unitRead n k
    match r.2 with
    | .ok v => (r.1.setLgCv v.2).lgDone 1 0
    | .error st => r.1.lgDone 1 st
/-- DEDUCED (log entry 22). -/
def execLgReadChain (s : State) : Out := .next (lgReadChain s)

/-- ALM_LG_CMD SEAL (R321). -/
def lgSeal (s : State) : State :=
  let n := s.lgNsid
  if !(s.ns n).exists_ || !(s.ns n).ledger then s.lgDone 2 0x0401 else ((s.sealUnit n).lgDone 2 0).almGo
def execLgSeal (s : State) : Out := .next (lgSeal s)

/-- A read of ALM_LG_HEAD0 captures the head, UNITS and OFFSET (R323). -/
def lgCapture (s : State) : State :=
  let x := s.ns s.lgNsid
  s.onAlm fun a => { a with capNs := some (x.head, x.units, x.offset) }
/-- DEDUCED (log entry 22). -/
def execLgHeadCapture (s : State) : Out :=
  .next (let s := lgCapture s; { s with busReply := s.lgView.1.setWidth 64 })

/-- A write of ALM_LG_SEL ends the capture (R323). -/
def lgSelWrite (v : BitVec 32) (s : State) : State :=
  (s.setReg Reg.almLgSel ((v &&& 0x7FF).setWidth 64)).onAlm fun a => { a with capNs := none }
def execLgSelWrite (v : BitVec 32) (s : State) : Out := .next (lgSelWrite v s)

/-! ### Power states (R343, R344) -/

/-- The effective state: the lowest-numbered request; once a command has left PS2, a request for it in ALM_PS holds no longer, and stands
for the last operational state (R344). DEDUCED (log entry 28). -/
def State.psEff (s : State) : Nat :=
  let k := min (fld (s.reg Reg.almPs) 0 2) 2
  let k := if s.alm.psOver && k == 2 then s.alm.psLast else k
  let fns := (s.host.filter fun e => e.2.en).map fun e => min e.2.pstate 2
  if s.scans.any fun e => e.2.live then 0 else fns.foldl min k

/-- EFF follows the requests; a transition begins when the state differs from the one entered last (R343). -/
def State.psEval (s : State) : State :=
  let e := s.psEff
  let s := s.setRegFld Reg.almPs 2 2 e
  if s.regBit Reg.almPs 4 ∨ e = s.alm.psCur then s
  else (s.setRegBit Reg.almPs 4 true).setRegFld Reg.almPs 8 2 e

/-- A storage command in PS2 ends the requests for it: the device goes back to its last operational state (R344). DEDUCED (log entry 28). -/
def State.psWake (s : State) : State :=
  if fld (s.reg Reg.almPs) 2 2 ≠ 2 then s else
  let s := s.onAlm fun a => { a with psOver := true }
  ({ s with host := s.host.map fun (e : Nat × HostFn) => if e.2.pstate = 2 then (e.1, { e.2 with pstate := e.2.plast }) else e }).psEval

/-- A new request for PS2 (R344). -/
def State.psRequest (s : State) : State := (s.onAlm fun a => { a with psOver := false }).psEval

/-- ALM_PS is written (R343). -/
def almPsWrite (v : BitVec 32) (s : State) : State := (s.setRegFld Reg.almPs 0 2 (v.toNat % 4)).psRequest
/-- DEDUCED (log entry 28). -/
def execAlmPsWrite (v : BitVec 32) (s : State) : Out := .next (almPsWrite v s)

/-- A transition ends; a pending change begins the next one (R343). -/
def State.psEnd (s : State) : State :=
  if !s.regBit Reg.almPs 4 then s else
  let t := fld (s.reg Reg.almPs) 8 2
  let s := s.onAlm fun a => { a with psCur := t, psLast := if t = 2 then a.psLast else t }
  (s.setRegBit Reg.almPs 4 false).psEval

end Sys2Proof.Machine
end

