-- ==== Sys2Proof/Machine/Storage.lean ====
section
/-! DEFINITION. Sys2Proof/Machine/Storage.lean: the storage commands but SCAN (R325–R337): their checks in order (R329), data
pointers (R326), acceptance into the write buffer (R299), reads (R303), trims (R302), FLUSH (R331), ordering (R336). -/

namespace Sys2Proof.Machine

/-! ### Fields (R325, R328) -/

def Item.nsid (e : Item) : Nat := e.fieldN 8 4
def Item.dmode (e : Item) : Nat := e.fieldN 12 1
def Item.unit (e : Item) : Nat := e.fieldN 40 8
/-- N of CDW12. -/
def Item.nUnits (e : Item) : Nat := e.fieldN 48 2 + 1
def opFlush : Nat := 0x00
def opWrite : Nat := 0x01
def opRead : Nat := 0x02
def opTrim : Nat := 0x09
def opOWrite : Nat := 0x81
def opORead : Nat := 0x82
def opAppend : Nat := 0x85
def opChain : Nat := 0x86
def opScan : Nat := 0x89
/-- READ_CHAIN's k for the head (R328). -/
def headK : Nat := 2 ^ 64 - 1
def isWr (op : Nat) : Bool := op == opWrite || op == opOWrite
def isRd (op : Nat) : Bool := op == opRead || op == opORead

/-- Transfer length (R328). -/
def Item.xfer (e : Item) : Nat :=
  let op := e.opcode
  if isWr op || isRd op then 4096 * e.nUnits
  else if op = opTrim then 16 * (e.fieldN 40 1 + 1)
  else if op = opAppend then e.fieldN 48 4
  else if op = opChain then 64
  else if op = opScan then e.fieldN 48 4
  else 0

/-- Whether a command is ordered (R335). -/
def State.isOrdered (s : State) (e : Item) : Bool :=
  let op := e.opcode
  op != opScan && (op == opOWrite || op == opORead || op == opAppend || (decide (e.nsid ≤ 1024) && (s.ns e.nsid).ordered))

/-- Whether the acting Booth has the namespace (R329 test 1); FLUSH also takes 0xFFFF_FFFF. -/
def State.nsSeen (s : State) (e : Item) : Bool :=
  let x := s.ns e.nsid
  (e.opcode == opFlush && e.nsid == 0xFFFFFFFF) ||
    (decide (1 ≤ e.nsid) && decide (e.nsid ≤ 1024) && x.exists_ && !x.destroying && (x.bid == e.bid || e.bid == 0))

/-- Fields of a data pointer outside their ranges (R326, R327). DEDUCED (log entry 25). -/
def State.dptrBad (s : State) (e : Item) : Bool :=
  let m := e.dmode
  decide (3 < m) || (decide (2 ≤ m) && (s.queue e.q).prod != 2) ||
    (decide (e.opcode ≠ opFlush) && ((m == 0 && !e.zero 32 8) ||
      (m == 1 && (e.fieldN 24 8 % 16 != 0 || !e.zero 36 4 || e.zero 32 4 || decide (256 < e.fieldN 32 4)))))

/-- Fields of the commands of this file outside their ranges (R329 test 6). -/
def State.fieldBad (s : State) (e : Item) : Bool :=
  let op := e.opcode
  s.dptrBad e || ((isWr op || isRd op) && decide (256 < e.nUnits)) ||
    (op == opAppend && (e.zero 48 4 || decide (1048576 < e.fieldN 48 4)))

/-- Whether media writes are refused (R311, R424). -/
def State.mediaRo (s : State) : Bool := s.regBit Reg.devMode 7

/-- Whether a command is a media write (R329 test 5). -/
def isMediaWr (op : Nat) : Bool := isWr op || op == opTrim || op == opAppend

/-- Tests 1 to 7 of R329 as far as they do not depend on when an ordered command begins. -/
def State.stEarly (s : State) (e : Item) : Option (BitVec 16) :=
  let op := e.opcode
  let x := s.ns e.nsid
  firstFail [(!s.nsSeen e, 0x0471), (x.ledger && (isWr op || op == opTrim), 0x0270),
    ((op == opAppend || op == opChain) && !x.ledger, 0x0401), (s.isOrdered e && e.role != 1, 0x0271),
    (isMediaWr op && s.mediaRo, 0x0202), (s.fieldBad e, 0x0401),
    ((isWr op || isRd op) && decide (262144 * x.size < e.unit + e.nUnits), 0x0470)]

/-- Tests 5, 7 and 8 as a command begins. -/
def State.stBegin (s : State) (e : Item) : Option (BitVec 16) :=
  let op := e.opcode
  let x := s.ns e.nsid
  firstFail [(isMediaWr op && s.mediaRo, 0x0202), (op == opChain && e.unit != headK && decide (x.units ≤ e.unit), 0x0470),
    (op == opAppend && decide (2 ^ 30 * x.size < x.offset + e.xfer), 0x0302)]

/-! ### Data pointers (R326, R330) -/

/-- The extents that a command's data pointer names (R326); a list that cannot be read or is malformed ends it. Host buffers (PRP, SGL) have
none. DEDUCED (log entry 25). -/
def State.extentList (s : State) (e : Item) : State × Except (BitVec 16) (List (W64 × Nat)) :=
  if e.dmode = 0 then (s, .ok [(e.word 24, e.xfer)])
  else if e.dmode ≠ 1 then (s, .ok [])
  else
    let c := e.fieldN 32 4
    let r := s.dmaRead e.bid (e.word 24) (16 * c) (s.queue e.q).prio
    match r.2.1 with
    | some st => (r.1, .error st)
    | none =>
      let l := (List.range c).map fun i => (BitVec.ofNat 64 (recFld r.2.2 (16 * i) 8), recFld r.2.2 (16 * i + 8) 4,
        recFld r.2.2 (16 * i + 12) 4)
      if l.any fun x => x.2.1 == 0 || x.2.2 != 0 then (r.1, .error 0x0401)
      else (r.1, .ok (l.map fun x => (x.1, x.2.1)))

/-- The status of tests 9 and 10 for a command's extents (R329). -/
def State.extentsFail (s : State) (e : Item) (toDevice : Bool) (l : List (W64 × Nat)) : Option (BitVec 16) :=
  if 2 ≤ e.dmode then none
  else match l.findSome? fun x => s.dmaCheck e.bid (!toDevice) x.1 x.2 with
    | some st => some st
    | none => if (l.map Prod.snd).sum = e.xfer then none else some 0x0402

/-- The extents of a command's buffer, or the status of tests 9 and 10. -/
def State.extents (s : State) (e : Item) (toDevice : Bool) : State × Except (BitVec 16) (List (W64 × Nat)) :=
  let x := s.extentList e
  match x.2 with
  | .error st => (x.1, .error st)
  | .ok l => match x.1.extentsFail e toDevice l with
    | some st => (x.1, .error st)
    | none => (x.1, .ok l)

/-- Bytes of a host's memory, which the device does not hold: a free value. DESIGN CHOICE (log entry 24). -/
def State.hostBytes (s : State) (n : Nat) : State × List Byte := let r := s.fresh; (r.2, leBytes n r.1)

/-- A DMA on host memory succeeds or fails, which is free; a failure ends the command, and its completion says Data Transfer Error
(R339). DESIGN CHOICE (log entry 24). -/
def State.hostDma (s : State) (e : Item) : State × Option (BitVec 16) :=
  let r := s.fresh
  if r.1 % 2 = 0 then (r.2, none)
  else
    let f := (s.queue e.q).host
    let h := r.2.hostFn f
    (r.2.setHost f { h with dmaBad := e.tag :: h.dmaBad }, some 0x0602)

/-- All data of a command gathered (R330). DESIGN CHOICE (log entry 24). -/
def State.gather (s : State) (e : Item) : State × Except (BitVec 16) (List Byte) :=
  if 2 ≤ e.dmode then
    let r := s.hostDma e
    match r.2 with
    | some st => (r.1, .error st)
    | none => let b := r.1.hostBytes e.xfer; (b.1, .ok b.2)
  else
    let x := s.extents e true
    match x.2 with
    | .error st => (x.1, .error st)
    | .ok l =>
      let r := l.foldl (fun (p : State × Option (BitVec 16) × List Byte) y =>
        if p.2.1.isSome then p else
        let q := p.1.dmaRead e.bid y.1 y.2 (p.1.queue e.q).prio
        (q.1, q.2.1, p.2.2 ++ q.2.2)) (x.1, none, [])
      match r.2.1 with
      | some st => (r.1, .error st)
      | none => (r.1, .ok r.2.2)

/-- Data written over extents; after a failure the rest is not written. -/
def State.scatterGo : List (W64 × Nat) → State → BitVec 12 → List Byte → State × Option (BitVec 16)
  | [], s, _, _ => (s, none)
  | x :: t, s, bid, l =>
    let r := s.dmaWrite bid x.1 (l.take x.2)
    if r.2.isSome then r else State.scatterGo t r.1 bid (l.drop x.2)

/-- Every extent that can be written receives free values: the contents of the buffer are undefined (R330). DESIGN CHOICE (log entry 27). -/
def State.scatterFree (s : State) (bid : BitVec 12) (l : List (W64 × Nat)) : State :=
  l.foldl (fun s x =>
    let r := s.hostBytes x.2
    (r.1.dmaWrite bid x.1 r.2).1) s

/-- Data moved to a command's buffer: the status of the failing access (R330, R339). Data to a host leaves the device.
DESIGN CHOICE (log entry 24). -/
def State.scatter (s : State) (e : Item) (l : List Byte) : State × BitVec 16 :=
  if 2 ≤ e.dmode then let r := s.hostDma e; (r.1, r.2.getD 0) else
  let x := s.extents e false
  match x.2 with
  | .error st => (x.1, st)
  | .ok ex =>
    let r := State.scatterGo ex x.1 e.bid l
    match r.2 with
    | some st => (r.1.scatterFree e.bid ex, st)
    | none => (r.1, 0)

/-! ### The write buffer (R299) -/

/-- Units of the write buffer in use, open ledger units included. -/
def State.bufUnits (s : State) : Nat := s.alm.buf.length + (s.alm.ns.filter fun e => !e.2.openData.isEmpty).length

/-- Whether n more units fit, protected or not (R299, R440). -/
def State.bufFits (s : State) (n : Nat) (prot : Bool) : Bool :=
  decide (s.bufUnits + n ≤ 131072) &&
    (prot || decide (2 ^ 29 ≤ (s.reg Reg.almWbLimit).toNat) || decide ((s.alm.buf.filter fun b => !b.prot).length + n ≤ 16384))

/-- Whether n units would be protected (R299). -/
def State.bufProt (s : State) (n : Nat) : Bool := decide (s.wbFill + 4096 * n ≤ (s.reg Reg.almWbLimit).toNat)

/-- Buffered data of a unit is superseded (R299, R302): not yet issued, it leaves the buffer, and commands wait for what took
its place; a trim discards what is in a program too. -/
def State.supersede (s : State) (nsid lba : Nat) (by_ : List Nat) (trim_ : Bool) : State :=
  let mine (b : BufE) : Bool := b.nsid == nsid && b.lba == lba && b.kind == 0
  let gone := (s.alm.buf.filter fun b => mine b && !b.issued).map fun b => b.id
  let s := gone.foldl (fun s i => s.rewait i by_) s
  s.onAlm fun a => { a with buf := (a.buf.filter fun b => !(mine b && !b.issued)).map fun b =>
                              if trim_ && mine b then { b with dead := true } else b }

/-- A unit enters the buffer. -/
def State.bufAdd (s : State) (nsid lba kind : Nat) (data : BitVec 32768) (prot ext : Bool) : State :=
  s.onAlm fun a =>
    { a with buf := a.buf ++ [{ id := a.nextBuf, nsid := nsid, lba := lba, kind := kind, data := data, prot := prot, ext := ext }]
             nextBuf := a.nextBuf + 1 }

/-- Whether a unit belongs to an aligned run of 16 units that a write covers (R300). -/
def extRun (unit n u : Nat) : Bool := decide (unit ≤ u / 16 * 16) && decide (u / 16 * 16 + 16 ≤ unit + n)

/-- The units of a write enter the buffer. -/
def State.acceptWrite (s : State) (c : StCmd) (prot : Bool) : State :=
  (List.range c.n).foldl (fun s i =>
    let u := c.unit + i
    (s.supersede c.nsid u [s.alm.nextBuf] false).bufAdd c.nsid u 0 (unitOfBytes ((c.data.drop (4096 * i)).take 4096)) prot
      (extRun c.unit c.n u)) s

/-- The ranges of a TRIM as (unit, count), and its TRIM slots' data (R298, R328). -/
def trimRanges (l : List Byte) : List (Nat × Nat) :=
  (List.range (l.length / 16)).map fun i => (recFld l (16 * i + 8) 8, recFld l (16 * i + 4) 4)
def trimSlot (l : List (Nat × Nat)) : BitVec 32768 :=
  unitOfBytes (leBytes 2 l.length ++ List.replicate 14 0 ++ l.flatMap fun r => leBytes 8 r.1 ++ leBytes 4 r.2 ++ leBytes 4 0)

/-- A trim takes effect (R302): buffered data goes, its units are unmapped, and its TRIM slots enter the buffer. DEDUCED (log entry 23). -/
def State.acceptTrim (s : State) (c : StCmd) (prot : Bool) : State :=
  let rs := trimRanges c.data
  let ids := (List.range (ceilDiv rs.length 255)).map (s.alm.nextBuf + ·)
  let s := rs.foldl (fun s r => (List.range r.2).foldl (fun s i =>
    ((s.supersede c.nsid (r.1 + i) ids true).makeRoom 2).mapSet (s.gunit c.nsid (r.1 + i)) 0 s.lastSeq) s) s
  (List.range ids.length).foldl (fun s i => s.bufAdd c.nsid 0 5 (trimSlot ((rs.drop (255 * i)).take 255)) prot false) s

/-- Units that an accepted command puts in the buffer, and those it counts for protection (R299, R302). -/
def State.acceptNeed (s : State) (c : StCmd) : Nat × Nat :=
  if c.op = opAppend then let x := s.ns c.nsid; (ceilDiv (x.offset % 4096 + c.data.length) 4096, x.newProt c.data.length)
  else if c.op = opTrim then let k := ceilDiv (c.data.length / 16) 255; (k, k)
  else (c.n, c.n)

/-- Table pages that an accepted command can dirty at once: those of a trim (R312). -/
def StCmd.dirt (c : StCmd) : Nat := if c.op = opTrim then ((trimRanges c.data).map fun r => 3 * (r.2 / 512 + 2)).sum else 0

/-- A write is accepted (R299): protected it completes at once, otherwise when its programs have passed. A trim of more than 255
ranges completes when its slots are accepted (R331). -/
def State.acceptCmd (s : State) (id : Nat) (c : StCmd) : State :=
  let need := s.acceptNeed c
  let prot := s.bufProt need.2
  let i := s.alm.nextBuf
  let s := s.onAlm fun a => { a with accept := a.accept.filter (· != id) }
  let r : State × Nat × List Nat :=
    if c.op = opAppend then s.appendAt c.nsid prot c.data
    else
      let s := if c.op = opTrim then s.acceptTrim c prot else s.acceptWrite c prot
      (s, 0, (List.range (s.alm.nextBuf - i)).map (i + ·))
  let free := prot || (c.op == opTrim && decide (255 < c.data.length / 16))
  r.1.setStCmd id { c with accepted := true, point := true, data := [], res := BitVec.ofNat 64 r.2.1
                           waits := if free then [] else r.2.2 }

/-- WRITE_BUFFER_ACCEPT (R299): the first write that waits is accepted if it fits; READONLY refuses it (R311), and an append that would
now pass the namespace's size ends with NO_SPACE (R320). A trim that dirties many table pages waits until they can be written (R312). -/
def execWriteBufferAccept (s : State) : Out :=
  .next (match s.alm.accept with
  | [] => s
  | id :: _ =>
    match s.stCmd id with
    | none => s
    | some c =>
      let need := s.acceptNeed c
      if !s.regBit Reg.almStat 0 || s.mode == modeHoldup then s
      else if s.mediaRo then (s.stDone id 0x0202).almGo
      else if c.op = opAppend ∧ 2 ^ 30 * (s.ns c.nsid).size < (s.ns c.nsid).offset + c.data.length then (s.stDone id 0x0302).almGo
      else if !s.bufFits need.1 (s.bufProt need.2) || (!s.dirtyRoom c.dirt && (!s.progOk || s.tableGroups.isEmpty)) then s
      else (s.acceptCmd id c).almGo)

/-! ### Reads (R303) -/

/-- The data of a read that has all its units goes to its buffer, and the command ends. DESIGN CHOICE (log entry 27). -/
def State.readEnd (s : State) (id : Nat) : State :=
  match s.stCmd id with
  | none => s
  | some c =>
    if c.parts.length < c.n then s
    else if c.fail ≠ 0 then
      let x := s.extents c.item false
      let s := match x.2 with | .ok ex => x.1.scatterFree c.item.bid ex | .error _ => x.1
      s.stDone id c.fail
    else
      let l := if c.op = opChain then
          let x := s.ns c.nsid
          Tab.get [] c.parts 0 ++ leBytes 8 x.units ++ leBytes 8 x.offset ++ leBytes 8 x.gen.toNat ++ leBytes 8 0
        else c.parts.flatMap fun p => p.2
      let r := s.scatter c.item l
      r.1.stDone id r.2

/-- A unit of a read is captured, or ends the command with a status. -/
def State.readPart (s : State) (id i : Nat) (l : Except (BitVec 16) (List Byte)) : State :=
  match s.stCmd id, l with
  | none, _ => s
  | some c, .ok d => s.setStCmd id { c with parts := Tab.ins c.parts i d }
  | some c, .error st => s.setStCmd id { c with parts := Tab.ins c.parts i [], fail := st }

/-- What a slot gives to a command: its data, or for READ_CHAIN its CHAIN. -/
def slotGives (op : Nat) (data : BitVec 32768) (chain : BitVec 256) : List Byte :=
  if op = opChain then leBytes 32 chain.toNat else leBytes 4096 data.toNat

/-- A unit of a read resolves (R303): buffered, unmapped, lost, of an excluded LUN (R288), or by a slot read that waits at its
group. A map entry that cannot be read ends the command (R391). -/
def State.readUnit (s : State) (id op nsid i lba : Nat) : State :=
  match s.bufNewest nsid lba with
  | some b => s.readPart id i (.ok (slotGives op b.data b.chain))
  | none =>
    match s.entryRead nsid lba with
    | (s, some st, _) => s.readPart id i (.error st)
    | (s, none, e) =>
    if e % 4 = 2 then s.readPart id i (.error 0x0501)
    else if e % 2 = 0 then s.readPart id i (.ok (slotGives op 0 0))
    else if lunOf (e / 4) ∉ s.alm.geom.luns then s.readPart id i (.error 0x0501)
    else
      let g := chOf (blkOf (e / 4))
      s.onAlm fun a => { a with reads := Tab.set [] a.reads g (Tab.get [] a.reads g ++
        [{ cmd := id, idx := i, nsid := nsid, unit := lba, loc := e / 4 }]) }

/-- SLOT_READ_COMPLETE: the oldest slot read of a group ends (R303). -/
def execSlotReadComplete (g : Fin 32) (steps : Nat) (ok : Bool) (s : State) : Out :=
  .next (match Tab.get [] s.alm.reads g.val with
  | [] => s
  | r :: t =>
    if !s.flashOn || !s.dirtyRoom 4 then s else
    let s := s.onAlm fun a => { a with reads := Tab.set [] a.reads g.val t }
    let x := s.nslot r.loc
    let q := s.slotReadEnd r.loc r.nsid r.unit steps ok
    let op := ((s.stCmd r.cmd).map fun c => c.op).getD 0
    ((q.1.readPart r.cmd r.idx (if q.2 then .ok (slotGives op x.data x.chain) else .error 0x0501)).readEnd r.cmd).almGo)

/-! ### Commands begin (R329, R330, R336) -/

/-- The namespaces that a FLUSH covers (R331). -/
def State.flushSet (s : State) (e : Item) : List Nat :=
  if e.nsid = 0xFFFFFFFF then (s.alm.ns.filter fun x => x.2.exists_ && !x.2.destroying && x.2.bid == e.bid).map Prod.fst else [e.nsid]
/-- The buffered writes that a FLUSH waits for: those accepted before its dispatch (R331). -/
def State.flushWaits (s : State) (e : Item) : List Nat :=
  if e.opcode = opFlush then (s.alm.buf.filter fun b => decide (b.nsid ∈ s.flushSet e)).map fun b => b.id else []

/-- FLUSH begins (R331): it asks for seals, and waits for the units sealed as well. -/
def State.flushBegin (s : State) (id : Nat) (c : StCmd) : State :=
  let i := s.alm.nextBuf
  let s := (s.flushSet c.item).foldl (fun s n => if (s.ns n).ledger then s.sealUnit n else s) s
  s.setStCmd id { c with started := true, accepted := true, waits := c.waits ++ (List.range (s.alm.nextBuf - i)).map (i + ·) }

/-- A command that gathers its data waits then for its acceptance (R330); a TRIM with AD clear has no effect (R328).
DEDUCED (log entry 26). -/
def State.gatherBegin (s : State) (id : Nat) (c : StCmd) : State :=
  if c.op = opTrim ∧ !bitAt (c.item.word 44) 2 then s.stDone id 0
  else
    let r := s.gather c.item
    match r.2 with
    | .error st => r.1.stDone id st
    | .ok l =>
      if c.op = opTrim ∧ (trimRanges l).any fun x => decide (262144 * (s.ns c.nsid).size < x.1 + x.2) then r.1.stDone id 0x0470
      else (r.1.setStCmd id { c with started := true, data := l }).onAlm fun a => { a with accept := a.accept ++ [id] }

/-- A READ or READ_CHAIN begins: every unit resolves. One that fails test 9 has written free values to what it could (R330). -/
def State.readBegin (s : State) (id : Nat) (c : StCmd) : State :=
  let x := s.extentList c.item
  match x.2 with
  | .error st => x.1.stDone id st
  | .ok l =>
    match x.1.extentsFail c.item false l with
    | some st => (if st = 0x0402 then x.1 else x.1.scatterFree c.item.bid l).stDone id st
    | none =>
    let s := x.1.setStCmd id { c with started := true }
    let s := if c.op = opChain ∧ c.unit = headK then s.readPart id 0 (.ok (leBytes 32 (s.ns c.nsid).head.toNat))
      else (List.range c.n).foldl (fun s i => s.readUnit id c.op c.nsid i (c.unit + i)) s
    s.readEnd id

/-- A command begins. -/
def State.stStart (s : State) (id : Nat) : State :=
  match s.stCmd id with
  | none => s
  | some c =>
    match s.stBegin c.item with
    | some st => (s.stDone id st).almGo
    | none =>
      (if c.op = opFlush then s.flushBegin id c
       else if isRd c.op || c.op == opChain then s.readBegin id c
       else s.gatherBegin id c).almGo

/-- A storage command is dispatched (R329): it fails a test, or begins, or waits for its turn (R336) or for the flash complex to
leave PS2 (R344). -/
def State.stAdmit (e : Item) (s : State) : State :=
  let s := s.psWake
  match s.stEarly e with
  | some st => s.complete e st
  | none =>
    let id := s.alm.nextCmd
    let op := e.opcode
    let c : StCmd := { item := e, op := op, nsid := e.nsid, unit := e.unit, ordered := s.isOrdered e
                       n := if isWr op || isRd op then e.nUnits else 1, waits := s.flushWaits e }
    let s := (s.setStCmd id c).onAlm fun a => { a with nextCmd := id + 1 }
    if c.ordered || !s.flashOn then s else s.stStart id

/-- Storage commands are dispatched only while ALM_STAT.READY is 1 (R329). -/
def almReady : Item → State → Bool := fun _ s => s.regBit Reg.almStat 0

/-- The storage commands of class 6 (R328). -/
def execFlush (q : BitVec 16) (s : State) : Out := .next (dispatch 6 opFlush q almReady State.stAdmit s)
def execWrite (q : BitVec 16) (s : State) : Out := .next (dispatch 6 opWrite q almReady State.stAdmit s)
def execRead (q : BitVec 16) (s : State) : Out := .next (dispatch 6 opRead q almReady State.stAdmit s)
/-- DEDUCED (log entry 23). -/
def execTrim (q : BitVec 16) (s : State) : Out := .next (dispatch 6 opTrim q almReady State.stAdmit s)
def execOrderedWrite (q : BitVec 16) (s : State) : Out := .next (dispatch 6 opOWrite q almReady State.stAdmit s)
def execOrderedRead (q : BitVec 16) (s : State) : Out := .next (dispatch 6 opORead q almReady State.stAdmit s)
def execAppend (q : BitVec 16) (s : State) : Out := .next (dispatch 6 opAppend q almReady State.stAdmit s)
/-- DEDUCED (log entry 22). -/
def execReadChain (q : BitVec 16) (s : State) : Out := .next (dispatch 6 opChain q almReady State.stAdmit s)

/-- Whether stamp a comes before stamp b. -/
def stampBefore (a b : BitVec 32) : Bool := decide (0 < (b - a).toNat) && decide ((b - a).toNat < 2 ^ 31)

/-- ORDERED_COMMAND_START (R336): the ordered command of a flow that waits with the earliest stamp begins, once every earlier one
has reached its execution point. -/
def execOrderedCommandStart (f : BitVec 16) (s : State) : Out :=
  .next (
    let l := s.alm.cmds.filter fun e => e.2.ordered && e.2.item.flow == f && e.2.op != 0xF0
    let w := l.filter fun e => !e.2.started
    match w.find? fun e => l.all fun p => p.1 == e.1 || p.2.point || !stampBefore p.2.item.seq e.2.item.seq with
    | none => s
    | some e => if s.flashOn && s.regBit Reg.almStat 0 then s.stStart e.1 else s)

end Sys2Proof.Machine
end

