-- ==== Sys2Proof/Machine/HostNvme.lean ====
section
/-! DEFINITION. Sys2Proof/Machine/HostNvme.lean: the NVM Express controllers of the PCIe functions (R338–R345, R415, R416). Data
structures of NVM Express itself are laid out as its specification has them. -/

namespace Sys2Proof.Machine

/-! ### Functions -/

/-- The endpoint is gated in HOLDUP (R441). -/
def State.pciOn (s : State) : Bool := s.mode != modeHoldup

/-- A function takes commands of its host: enabled, ready, not stopping. -/
def State.hostOn (s : State) (f : Nat) : Bool := s.pciOn && (s.hostFn f).en && (s.hostFn f).rdy && !(s.hostFn f).stopping

/-! ### What a function presents (R338, R415) -/

/-- The registers CAP and VS of a controller, and CSTS (R338): MQES 4,095, CQR, TO 20, the NVM command set, MPSMAX 64 KiB.
PRESUMED (log entry 53). -/
def nvmeCap : W64 := BitVec.ofNat 64 (4095 + 2 ^ 16 + 20 * 2 ^ 24 + 2 ^ 37 + 4 * 2 ^ 52)
def nvmeVs : BitVec 32 := 0x00020000
def HostFn.csts (h : HostFn) : BitVec 32 := BitVec.ofNat 32 (h.rdy.toNat + h.cfs.toNat * 2 + h.shst * 4)

/-- What a function's configuration space identifies (R415): vendor, device, class code, MSI-X vectors, size of BAR0; TotalVFs, First VF
Offset and VF Stride of the physical function. -/
structure PciId where
  vendor : BitVec 16 := 0x1D7A
  device : BitVec 16
  cls : BitVec 24 := 0x010802
  vectors : Nat := 65
  bar0 : Nat := 16384
  sriov : Option (Nat × Nat × Nat)
deriving DecidableEq, Repr
def pciId (f : Nat) : PciId :=
  if f = 0 then { device := 0x8460, sriov := some (255, 1, 1) } else { device := 0x8461, sriov := none }

/-- PCI_STAT shows a cause, and source 81 is raised (R416). -/
def State.pciEvent (s : State) (bit : Nat) : State := (s.setRegBit Reg.pciStat bit true).raise 81
def State.pciCause (s : State) (f bit : Nat) : State := (s.setHost f { s.hostFn f with cause := true }).pciEvent bit

/-- The Booth and the storage flow of a function (R416, R340). -/
def State.fnBound (s : State) (f : Nat) : Bool := s.regBit (Reg.pciFn f) 0
def State.fnBid (s : State) (f : Nat) : BitVec 12 := (s.reg (Reg.pciFn f)).extractLsb' 16 12
def State.fnFlow (s : State) (f : Nat) : Option (BitVec 16) :=
  if s.regBit (Reg.pciFn f) 1 then some ((s.reg (Reg.pciFn f)).extractLsb' 32 16) else none

/-- PCI_FN[f] is written (R416). -/
def pciFnWrite (f : Nat) (v : W64) (s : State) : State :=
  if (s.hostFn f).en then s.setRegBit Reg.pciStat 0 true else s.setReg (Reg.pciFn f) (v &&& 0x0000FFFF0FFF0003)
def execPciFnWrite (fn : BitVec 8) (v : W64) (s : State) : Out := .next (pciFnWrite fn.toNat v s)

/-- Entries of the admin queues, which the host sizes. PRESUMED (log entry 51). -/
def adminSize : Nat := 4096

/-- CC.EN is set (R416): an unbound function reports CSTS.CFS. DEDUCED (log entry 87). -/
def execCcEnSet (fn : BitVec 8) (s : State) : Out :=
  .next (
    let f := fn.toNat
    let h := s.hostFn f
    if !s.pciOn || h.en || h.stopping then s
    else
      let h := { h with en := true, shst := 0 }
      let h := if s.fnBound f then
          { h with rdy := true, sqs := Tab.set {} h.sqs 0 { live := true, size := adminSize }
                   cqs := Tab.set {} h.cqs 0 { live := true, size := adminSize, ien := true } }
        else { h with cfs := true }
      ((s.setHost f h).pciCause f 1).psEval)

/-- A controller stops (R342): its shadow queues stop fetching, its features return to their reset values, a shutdown notification of it
is forgotten. -/
def State.hostStop (s : State) (f : Nat) : State :=
  let s := (s.hostSqs f).foldl (fun s n =>
    let q := (s.hostSq f n).shadow
    if n = 0 then s else s.setQueue q { (s.queue q).dropFetched with enable := false }) s
  let s := s.setHostSq f 0 {}
  let s := s.onAlm fun a => { a with cmds := List.filter (fun (e : Nat × StCmd) => e.2.op != 0xF0 || e.2.nsid != f) a.cmds }
  let h := s.hostFn f
  ((s.setHost f { h with en := false, cfs := false, shst := 0, feats := [], ordered := 0, pstate := 0, plast := 0, stopping := h.rdy })
    |>.hostSettle f).psEval

/-- CC.EN is cleared (R342). -/
def execCcEnClear (fn : BitVec 8) (s : State) : Out :=
  .next (
    let f := fn.toNat
    if !s.pciOn || !(s.hostFn f).en then s else (s.hostStop f).pciCause f 1)

/-- A Function Level Reset (R342), which clears CC.EN (R416). -/
def State.flr (s : State) (f : Nat) : State := if (s.hostFn f).en then (s.hostStop f).pciCause f 1 else s
def execFunctionLevelReset (fn : BitVec 8) (s : State) : Out :=
  .next (if !s.pciOn then s else (s.flr fn.toNat).pciCause fn.toNat 3)

/-- A shutdown notification (R342, R416): SHST reaches 10b when every accepted write of the function's namespaces is programmed. -/
def execShutdownNotification (fn : BitVec 8) (s : State) : Out :=
  .next (
    let f := fn.toNat
    if !s.pciOn then s
    else if (s.hostFn f).stopping then s.pciCause f 2
    else
      let s := s.psWake
      let l := (s.alm.ns.filter fun e => s.fnBound f && e.2.exists_ && !e.2.destroying && e.2.bid == s.fnBid f).map Prod.fst
      let s := l.foldl (fun s n => if (s.ns n).ledger then s.sealUnit n else s) s
      let id := s.alm.nextCmd
      let c : StCmd := { item := {}, op := 0xF0, nsid := f, started := true, accepted := true
                         waits := (s.alm.buf.filter fun b => decide (b.nsid ∈ l)).map fun b => b.id }
      let s := (s.setStCmd id c).onAlm fun a => { a with nextCmd := id + 1 }
      let s := s.setHost f { s.hostFn f with shst := 1 }
      (s.almGo).pciCause f 2)

/-- The PCIe link trains up, goes down or retrains (R416). -/
def execPcieLinkChange (up : Bool) (s : State) : Out :=
  .next (if !s.pciOn then s else ({ s with pins := { s.pins with pcieUp := up } }).pciEvent 4)

/-- perst_n (R415): its assertion resets every function and takes the link down. -/
def execPerstN (level : Bool) (s : State) : Out :=
  .next (
    let s := { s with pins := { s.pins with perstN := level } }
    if level || !s.pciOn then s
    else
      let s := (List.range 256).foldl State.flr s
      if s.pins.pcieUp then ({ s with pins := { s.pins with pcieUp := false } }).pciEvent 4 else s)

/-! ### I/O commands (R339) -/

/-- Status of a command that an endpoint test refuses. -/
def badOpcode : Nat × Nat := (0, 0x01)
def badField : Nat × Nat := (0, 0x02)
def badSglType : Nat × Nat := (0, 0x11)
def badSglAlign : Nat × Nat := (0, 0x1E)
/-- Command-specific statuses of queue creation and deletion. -/
def badCq : Nat × Nat := (1, 0x00)
def badQid : Nat × Nat := (1, 0x01)
def badSize : Nat × Nat := (1, 0x02)
def tooManyAer : Nat × Nat := (1, 0x05)
def badVector : Nat × Nat := (1, 0x08)
def badDelete : Nat × Nat := (1, 0x0C)

/-- The class-6 entry of a host command (R339). DEDUCED (log entry 49). -/
def shadowEntry (sqe : List Byte) (cid : Nat) (sqid : Nat) (dmode : Nat) : List Byte :=
  sqe.take 1 ++ [3, 0, 0] ++ leBytes 4 (cid + sqid * 65536) ++ (sqe.drop 8).take 4 ++ leBytes 1 dmode ++ sqe.drop 13

/-- HOST_IO_COMMAND: the next command of a host's submission queue goes to the shadow queue, or is answered (R339). An SGL descriptor
is a data block, a segment or a last segment, dword aligned (R338). PRESUMED (log entry 53). -/
def execHostIoCommand (fn : BitVec 8) (sqid : BitVec 16) (sqe : BitVec 512) (s : State) : Out :=
  .next (
    let f := fn.toNat
    let n := sqid.toNat
    let q := s.hostSq f n
    let x := s.queue q.shadow
    if !s.hostOn f || n == 0 || !q.live || q.del.isSome || q.head == q.tail ||
        decide (2 ^ x.sqLog < (x.sqTail - x.sqHead).toNat + 4) then s
    else
      let l := leBytes 64 sqe.toNat
      let cid := recFld l 2 2
      let psdt := recFld l 1 1 / 64
      let e := shadowEntry l cid n (if psdt = 0 then 2 else 3)
      let ty := recFld l 39 1
      let s := s.setHostSq f n { q with head := (q.head + 1) % q.size }
      let answer (c : Nat × Nat) (st : BitVec 16) : State :=
        s.hostEnd f { cqid := q.cqid, cid := BitVec.ofNat 16 cid, sqid := n, sct := c.1, sc := c.2 } st
      if psdt = 3 ∨ recFld l 1 1 % 4 ≠ 0 then answer badField 0x0401
      else if psdt ≠ 0 ∧ ty ≠ 0 ∧ ty ≠ 0x20 ∧ ty ≠ 0x30 then answer badSglType 0x0401
      else if psdt ≠ 0 ∧ (recFld l 24 8 % 4 ≠ 0 ∨ recFld l 32 4 % 4 ≠ 0) then answer badSglAlign 0x0401
      else match structTest { q := q.shadow, cls := 6, bid := x.bid, data := e } x.role with
        | some st => answer (if st = 0x0101 then badOpcode else badField) st
        | none =>
          let r := State.ringWrite 4 s x x.sqTail e
          match r.2 with
          | some _ => answer (0, 0x06) 0x0602
          | none => r.1.setQueue q.shadow { r.1.queue q.shadow with sqTail := x.sqTail + 4 })

/-- Completions that waited for room in a queue are sent as far as there is. -/
def State.hostRetry (s : State) (f n : Nat) : State :=
  let h := s.hostFn f
  (h.wait.filter fun e => e.cqid = n).foldl (fun s e => s.hostSend f e) (s.setHost f { h with wait := h.wait.filter fun e => e.cqid ≠ n })

/-- The first k entries of a completion queue in host memory are consumed. -/
def consume (n : Nat) : Nat → List HostCqe → List HostCqe
  | _, [] => []
  | 0, l => l
  | k + 1, e :: t => if e.cqid = n then consume n k t else e :: consume n (k + 1) t

/-- HOST_DOORBELL: a tail of a submission queue or a head of a completion queue (R339); an invalid write changes no counter.
DEDUCED (log entry 49). -/
def execHostDoorbell (fn : BitVec 8) (qid : BitVec 16) (isCq : Bool) (v : BitVec 32) (s : State) : Out :=
  .next (
    let f := fn.toNat
    let n := qid.toNat
    let v := v.toNat
    if !s.hostOn f then s
    else if isCq then
      let c := s.hostCq f n
      let used := (c.tail + c.size - c.head) % c.size
      let k := (v + c.size - c.head) % c.size
      if !c.live then s.hostEvent f aerBadDoorbell
      else if c.size ≤ v ∨ k = 0 ∨ used < k then s.hostEvent f aerDoorbell
      else
        let s := s.setHostCq f n { c with head := v }
        (s.setHost f { s.hostFn f with sent := consume n k (s.hostFn f).sent }).hostRetry f n
    else
      let q := s.hostSq f n
      if !q.live then s.hostEvent f aerBadDoorbell
      else if q.size ≤ v ∨ v = q.tail then s.hostEvent f aerDoorbell
      else s.setHostSq f n { q with tail := v })

/-- The aggregation time of a completion queue runs out (feature 08h). -/
def execInterruptCoalescingTimer (fn : BitVec 8) (cqid : BitVec 16) (s : State) : Out :=
  .next (
    let f := fn.toNat
    let c := s.hostCq f cqid.toNat
    if !s.hostOn f || c.coal == 0 then s else (s.setHostCq f cqid.toNat { c with coal := 0 }).hostIrq f c.vec)

/-! ### Admin commands (R338, R340, R341, R416) -/

/-- An admin command of a function that takes commands. -/
def hostAdmin (fn : BitVec 8) (body : Nat → State → State) (s : State) : Out :=
  .next (if s.hostOn fn.toNat then body fn.toNat s else s)

/-- An admin command ends. -/
def State.admEnd (s : State) (f : Nat) (cid : BitVec 16) (c : Nat × Nat := (0, 0)) (dw0 : Nat := 0) (internal : BitVec 16 := 0)
    (dnr : Bool := true) : State :=
  s.hostEnd f { cqid := 0, cid := cid, sqid := 0, dw0 := BitVec.ofNat 32 dw0, sct := c.1, sc := c.2, dnr := dnr } internal

/-- CREATE_IO_CQ (R338): SIZE is the number of entries less one. -/
def execCreateIoCq (fn : BitVec 8) (cid cqid size vec : BitVec 16) (ien : Bool) (s : State) : Out :=
  hostAdmin fn (fun f s =>
    let n := cqid.toNat
    if n = 0 ∨ 64 < n ∨ (s.hostCq f n).live then s.admEnd f cid badQid
    else if size = 0 ∨ 4095 < size.toNat then s.admEnd f cid badSize
    else if ien ∧ 64 < vec.toNat then s.admEnd f cid badVector
    else (s.setHostCq f n { live := true, size := size.toNat + 1, vec := vec.toNat, ien := ien }).admEnd f cid) s

/-- The rings of a shadow queue in the region at PCI_SHADOW_BASE (R416). DESIGN CHOICE (log entry 50). -/
def State.shadowSq (s : State) (f n : Nat) : W64 := (s.reg Reg.pciShadowBase) + BitVec.ofNat 64 (16384 * (64 * f + n - 1))
/-- DESIGN CHOICE (log entry 50). -/
def State.shadowCq (s : State) (f n : Nat) : W64 := (s.reg Reg.pciShadowBase) + BitVec.ofNat 64 (2 ^ 28 + 4096 * (64 * f + n - 1))

/-- The shadow queue of a submission queue (R416). DESIGN CHOICE (log entry 50). -/
def State.shadowQueue (s : State) (f n : Nat) : Queue :=
  let o := (s.hostFn f).ordered
  let stamped := o ≠ 0 ∧ o ≤ n
  { exists_ := true, cls := 6, prod := 2, prio := 1, sqLog := 10, cqLog := 8, bid := s.fnBid f, sqBase := s.shadowSq f n
    cqBase := s.shadowCq f n, flow := if stamped then (s.fnFlow f).getD 0 else 0, role := if stamped then 1 else 0, maxInflight := 256
    host := f }

/-- CREATE_IO_SQ (R416): the shadow queue is created as CREATE_QUEUE would create it. DEDUCED (log entry 87). -/
def execCreateIoSq (fn : BitVec 8) (cid sqid cqid size : BitVec 16) (s : State) : Out :=
  hostAdmin fn (fun f s =>
    let n := sqid.toNat
    let x := s.shadowQueue f n
    let b := x.bid
    let m := s.mode
    let st : Option (BitVec 16) := firstFail [(m == modeInit || m == modeQuiesce || m == modeHoldup, 0x0203),
      (x.role == 1 && (s.flow x.flow).bid != b, 0x0401), (s.boothFree b, 0x0201), ((s.booth b).st == .halted, 0x0220),
      (x.role == 1 && !(s.flow x.flow).en, 0x0201)]
    if n = 0 ∨ 64 < n ∨ (s.hostSq f n).live then s.admEnd f cid badQid
    else if cqid = 0 ∨ !(s.hostCq f cqid.toNat).live then s.admEnd f cid badCq
    else if size = 0 ∨ 4095 < size.toNat then s.admEnd f cid badSize
    else match st with
      | some st => let c := hostStatus st 0; s.admEnd f cid (c.1, c.2.1) 0 st c.2.2
      | none =>
        if s.quota b 0 ≤ s.inUse b 0 then s.admEnd f cid badQid 0 0x0301
        else match s.freeQueue with
          | none => s.admEnd f cid badQid 0 0x0320
          | some q =>
            let q := BitVec.ofNat 16 q
            ((s.addQueue q x).setHostSq f n { live := true, cqid := cqid.toNat, size := size.toNat + 1, shadow := q }).admEnd f cid) s

/-- DELETE_IO_SQ: it ends once the shadow queue has nothing in flight. -/
def execDeleteIoSq (fn : BitVec 8) (cid qid : BitVec 16) (s : State) : Out :=
  hostAdmin fn (fun f s =>
    let n := qid.toNat
    let q := s.hostSq f n
    if n = 0 ∨ !q.live ∨ q.del.isSome then s.admEnd f cid badQid
    else
      let s := s.setQueue q.shadow { (s.queue q.shadow).dropFetched with enable := false }
      (s.setHostSq f n { q with del := some cid }).hostSettle f) s

/-- DELETE_IO_CQ. -/
def execDeleteIoCq (fn : BitVec 8) (cid qid : BitVec 16) (s : State) : Out :=
  hostAdmin fn (fun f s =>
    let n := qid.toNat
    if n = 0 ∨ !(s.hostCq f n).live then s.admEnd f cid badQid
    else if (s.hostSqs f).any fun k => k != 0 && (s.hostSq f k).cqid == n then s.admEnd f cid badDelete
    else
      let s := s.setHostCq f n {}
      let h := s.hostFn f
      (s.setHost f { h with sent := h.sent.filter fun e => e.cqid ≠ n, wait := h.wait.filter fun e => e.cqid ≠ n }).admEnd f cid) s

/-- Bytes written into a structure. -/
def putAll (l : List Byte) (fs : List (Nat × List Byte)) : List Byte :=
  fs.foldl (fun l f => l.take f.1 ++ f.2 ++ l.drop (f.1 + f.2.length)) l

/-- A structure returned to the host: the bytes that the spec does not state are free values. -/
def State.hostReply (s : State) (f n : Nat) (fs : List (Nat × List Byte)) : State :=
  let r := s.fresh
  r.2.setHost f { r.2.hostFn f with reply := putAll (leBytes n r.1) fs }

/-- A power state descriptor (R343): maximum power in centiwatts, flags, entry and exit latency. -/
def psDesc (cw flags en ex : Nat) : List Byte := leBytes 2 cw ++ [0, BitVec.ofNat 8 flags] ++ leBytes 4 en ++ leBytes 4 ex

/-- Fields of Identify Controller that R338, R343 and R415 state. PRESUMED (log entry 53). -/
def identifyController (f : Nat) : List (Nat × List Byte) :=
  [(0, leBytes 2 0x1D7A), (77, [8]), (78, leBytes 2 f), (80, leBytes 4 0x00020000), (256, leBytes 2 0), (259, [3]), (262, [63]), (263, [2]),
   (512, [0x66]), (513, [0x44]), (516, leBytes 4 1024), (520, leBytes 2 4), (522, leBytes 2 0), (525, [0]), (526, leBytes 2 0),
   (528, leBytes 2 0), (536, leBytes 4 2), (2048, psDesc 2800 0 0 0), (2080, psDesc 1600 0 100 100), (2112, psDesc 300 2 5000 500)]

/-- Whether a function shows a namespace (R338). -/
def State.fnSees (s : State) (f n : Nat) : Bool := let x := s.ns n; x.exists_ && !x.destroying && x.bid == s.fnBid f

/-- Fields of Identify Namespace that R338 states. PRESUMED (log entry 53). -/
def State.identifyNs (s : State) (n : Nat) : List (Nat × List Byte) :=
  let x := s.ns n
  let z := leBytes 8 (262144 * x.size)
  [(0, z), (8, z), (25, [0]), (26, [0]), (27, [0]), (28, [0]), (29, [0]), (128, leBytes 2 0 ++ [12]), (3072, [BitVec.ofNat 8 (x.ordered.toNat + x.ledger.toNat * 2)])]

/-- IDENTIFY (R338). -/
def execIdentify (fn : BitVec 8) (cid : BitVec 16) (cns : BitVec 8) (nsid : BitVec 32) (s : State) : Out :=
  hostAdmin fn (fun f s =>
    let n := nsid.toNat
    match cns.toNat with
    | 0 =>
      if n = 0 ∨ 1024 < n then s.admEnd f cid (0, 0x0B)
      else if s.fnSees f n then (s.hostReply f 4096 (s.identifyNs n)).admEnd f cid
      else (s.setHost f { s.hostFn f with reply := leBytes 4096 0 }).admEnd f cid
    | 1 => (s.hostReply f 4096 (identifyController f)).admEnd f cid
    | 2 =>
      let l := ((List.range 1024).map (· + 1)).filter fun k => decide (n < k) && s.fnSees f k
      let d := l.flatMap fun k => leBytes 4 k
      if 0xFFFFFFFE ≤ n then s.admEnd f cid (0, 0x0B)
      else (s.setHost f { s.hostFn f with reply := d ++ List.replicate (4096 - d.length) 0 }).admEnd f cid
    | 3 => if s.fnSees f n then (s.hostReply f 4096 []).admEnd f cid else s.admEnd f cid (0, 0x0B)
    | _ => s.admEnd f cid badField) s

/-- Available Spare and Percentage Used (R338). -/
def State.spareLeft (s : State) : Nat :=
  (s.alm.groups.map fun g => if g.2.2.1 = 0 then 100 else (s.spareBlks g.1).length * 100 / g.2.2.1).foldl min 100
def State.wearUsed (s : State) : Nat :=
  let l := fld (s.reg Reg.almMediaCfg) 0 16
  let m := ((List.range 32).flatMap fun g => (s.alm.geom.blocks g).map s.blkPe).foldl max 0
  if l = 0 then 0 else min 255 (m * 100 / l)

/-- Fields of the log pages that the spec states. PRESUMED (log entry 53). -/
def State.smartLog (s : State) : List (Nat × List Byte) :=
  let sp := s.spareLeft
  let low := decide (sp < Config.spareThreshold)
  [(0, [BitVec.ofNat 8 (low.toNat + (s.regBit Reg.devMode 7).toNat * 8)]), (3, [BitVec.ofNat 8 sp]), (4, leBytes 1 Config.spareThreshold),
   (5, leBytes 1 s.wearUsed)]
def errEntry (e : HostErr) : List (Nat × List Byte) :=
  [(0, leBytes 8 e.n), (8, leBytes 2 e.sqid), (10, leBytes 2 e.cid.toNat), (12, leBytes 2 (e.sc * 2 + e.sct * 512)),
   (32, leBytes 8 e.internal.toNat)]

/-- GET_LOG_PAGE (R338). -/
def execGetLogPage (fn : BitVec 8) (cid : BitVec 16) (lid : BitVec 8) (s : State) : Out :=
  hostAdmin fn (fun f s =>
    match lid.toNat with
    | 1 =>
      let l := (s.hostFn f).errLog
      let fs := ((List.range l.length).zip l).flatMap fun p => (errEntry p.2).map fun x => (64 * p.1 + x.1, x.2)
      (s.hostReply f (64 * l.length) fs).admEnd f cid
    | 2 => (s.hostReply f 512 s.smartLog).admEnd f cid
    | 3 => (s.hostReply f 512 []).admEnd f cid
    | 5 =>
      let l := [0x00, 0x01, 0x02, 0x04, 0x05, 0x06, 0x08, 0x09, 0x0A, 0x0C] ++ (classOps 6).map (256 + ·)
      let no := ((List.range 512).filter fun o => decide (o ∉ l)).map fun o => (4 * o, leBytes 4 0)
      (s.hostReply f 4096 (l.map (fun o => (4 * o, ([1] : List Byte))) ++ no ++ [(2048, leBytes 2048 0)])).admEnd f cid
    | _ => s.admEnd f cid badField) s

/-- ORDERED_QUEUE_SELECT: Set Features C0h (R340). -/
def State.orderedSelect (s : State) (f : Nat) (cid v : BitVec 16) : State :=
  if (s.fnFlow f).isNone || (s.hostSqs f).any (· != 0) then s.admEnd f cid badField
  else (s.setHost f { s.hostFn f with ordered := v.toNat }).admEnd f cid
def execOrderedQueueSelect (fn : BitVec 8) (cid v : BitVec 16) (s : State) : Out :=
  hostAdmin fn (fun f s => s.orderedSelect f cid v) s

/-- A feature takes a value. -/
def State.setFeat (s : State) (f k : Nat) (v : BitVec 32) : State :=
  s.setHost f { s.hostFn f with feats := Tab.set 0 (s.hostFn f).feats k v }

/-- Number of Queues as it is granted: 64 of each, less one. -/
def queuesGranted : Nat := 63 + 63 * 65536

/-- SET_FEATURES (R338, R343). -/
def execSetFeatures (fn : BitVec 8) (cid : BitVec 16) (fid : BitVec 8) (v : BitVec 32) (s : State) : Out :=
  hostAdmin fn (fun f s =>
    match fid.toNat with
    | 0x01 | 0x04 | 0x08 | 0x0B => (s.setFeat f fid.toNat v).admEnd f cid
    | 0x02 =>
      let p := v.toNat % 32
      if 2 < p then s.admEnd f cid badField
      else
        let s := s.setFeat f 2 v
        let h := s.hostFn f
        let s := s.setHost f { h with pstate := p, plast := if p = 2 then h.plast else p }
        (if p = 2 then s.psRequest else s.psEval).admEnd f cid
    | 0x07 =>
      if (s.hostSqs f).any (· != 0) || (s.hostFn f).cqs.any (fun e => e.1 != 0 && e.2.live) then s.admEnd f cid (0, 0x0C)
      else if v.toNat % 65536 = 65535 ∨ v.toNat / 65536 = 65535 then s.admEnd f cid badField
      else s.admEnd f cid (0, 0) queuesGranted
    | 0x09 => if 64 < v.toNat % 65536 then s.admEnd f cid badField else (s.setFeat f (featVec (v.toNat % 65536)) v).admEnd f cid
    | 0xC0 => s.orderedSelect f cid (v.setWidth 16)
    | _ => s.admEnd f cid badField) s

/-- GET_FEATURES (R338); Interrupt Vector Configuration is that of the vector named in Dword 11. -/
def execGetFeatures (fn : BitVec 8) (cid : BitVec 16) (sel : FeatSel) (s : State) : Out :=
  hostAdmin fn (fun f s =>
    let h := s.hostFn f
    match sel.fid.toNat with
    | 0x01 | 0x04 | 0x08 | 0x0B => s.admEnd f cid (0, 0) (h.feat sel.fid.toNat).toNat
    | 0x02 => s.admEnd f cid (0, 0) h.pstate
    | 0x07 => s.admEnd f cid (0, 0) queuesGranted
    | 0x09 =>
      let k := sel.dw11.toNat % 65536
      if 64 < k then s.admEnd f cid badField else s.admEnd f cid (0, 0) (k + (h.feat (featVec k)).toNat / 65536 % 2 * 65536)
    | 0xC0 => s.admEnd f cid (0, 0) h.ordered
    | _ => s.admEnd f cid badField) s

/-- ABORT completes at once and aborts nothing (R341). -/
def execAbort (fn : BitVec 8) (cid _sqid _acid : BitVec 16) (s : State) : Out :=
  hostAdmin fn (fun f s => s.admEnd f cid (0, 0) 1) s

/-- ASYNC_EVENT_REQUEST (R338): AERL 3 lets four wait. -/
def execAsyncEventRequest (fn : BitVec 8) (cid : BitVec 16) (s : State) : Out :=
  hostAdmin fn (fun f s =>
    let h := s.hostFn f
    match h.events with
    | e :: t => (s.setHost f { h with events := t }).admEnd f cid (0, 0) e
    | [] => if 4 ≤ h.aer.length then s.admEnd f cid tooManyAer else s.setHost f { h with aer := h.aer ++ [cid] }) s

/-! ### Registers -/

/-- PCI_FN_EVT as it reads. DEDUCED (log entry 54). -/
def State.pciEvtWord (s : State) (i : Nat) : W64 :=
  BitVec.ofNat 64 ((List.range 64).foldl (fun a j => if (s.hostFn (64 * i + j)).cause then a + 2 ^ j else a) 0)

/-- PCI_STAT is written: once no cause of a function is left, the functions have none pending. DEDUCED (log entry 54). -/
def pciStatWrite (v : W64) (s : State) : State :=
  let s := s.setReg Reg.pciStat (s.reg Reg.pciStat &&& ~~~v)
  if fld (s.reg Reg.pciStat) 1 3 = 0 then { s with host := (s.host.map fun (e : Nat × HostFn) => (e.1, { e.2 with cause := false })).filter fun e => e.2 ≠ {} } else s

end Sys2Proof.Machine
end

