-- ==== Sys2Proof/Machine/Mover.lean ====
section
/-! DEFINITION. Sys2Proof/Machine/Mover.lean: the local and bulk movers (R347–R349, R353–R361). The accesses of a transfer are made
at one moment between its start and its completion, or up to the access that fails. -/

namespace Sys2Proof.Machine

/-- An access that failed: its address, whether it was a write, its status, whether MV_STAT.DESC is set for it (R353, R361). -/
structure MvFail where
  addr : W64
  wr : Bool
  st : BitVec 16
  desc : Bool := false
deriving DecidableEq, Repr

/-- What a channel comes to: the transfer or descriptor is complete (`short`: a DRAIN whose ring is finished), it waits, its gate
has closed, the job stops with a status, its descriptor is malformed, or an access failed. -/
inductive MvOut where
  | done (short : Bool)
  | wait
  | stop (st : BitVec 16)
  | malformed
  | fail (f : MvFail)
deriving DecidableEq, Repr

def opCopy : Nat := 0
def opFill : Nat := 1
def opDrain : Nat := 2

/-- The control line of a RING job: WR, RD, ring size, DONE (R197). -/
structure RingCtl where
  wr : Nat
  rd : Nat
  size : Nat
  done : Bool
deriving DecidableEq, Repr

def RingCtl.level (c : RingCtl) : Nat := (c.wr + 2 ^ 64 - c.rd) % 2 ^ 64

/-- The control line of a RING job is read; it translates as a write (R348). -/
def State.mvRing (s : State) (n : Nat) : State × Except MvFail RingCtl :=
  let m := s.mover n
  let r := s.dmaReadW m.bid m.pobj 32 m.cls
  match r.2.1 with
  | some st => (r.1, .error { addr := m.pobj, wr := false, st := st, desc := true })
  | none =>
    let l := r.2.2
    (r.1, .ok { wr := recFld l 0 8, rd := recFld l 8 8, size := recFld l 16 8, done := recFld l 26 1 % 2 == 1 })

/-- The level of a paced job, whether its ring is DONE, and the most that HIGH may be (R355, R359). -/
def State.mvLevel (s : State) (n : Nat) : State × Except MvFail (Nat × Bool × Nat) :=
  let m := s.mover n
  if m.pace = 1 then
    let q := s.queue (m.pobj.setWidth 16)
    (s, .ok ((q.sqTail - q.sqHead).toNat, false, m.high))
  else
    let r := s.mvRing n
    (r.1, r.2.map fun c => (c.level, c.done, c.size))

/-- A test of the gate of a job that runs: none where it stays open (R359). -/
def State.mvGate (s : State) (n : Nat) : State × Option MvOut :=
  let m := s.mover n
  if m.pace = 0 then (s, none)
  else
    let r := s.mvLevel n
    match r.2 with
    | .error f => (r.1, some (.fail f))
    | .ok (l, done, _) => if l < m.low ∧ !done then (r.1.setMover n { m with st := 2 }, some .wait) else (r.1, none)

/-- Bytes written by a channel. -/
def State.mvCount (s : State) (n k : Nat) : State :=
  let m := s.mover n
  let s := s.setMover n { m with moved := m.moved + k, total := m.total + k }
  (s.setReg (Reg.mvDone n) (BitVec.ofNat 64 (if n < 128 then m.moved + k else m.total + k))).addReg (Reg.mvBytes n) k

/-- Bytes moved up to a goal, 64 at most at a time (R348): `src` gives the source address of a byte and how many follow on. The bytes
of a destination above an overlapping source are undefined. -/
def State.mvPiece : Nat → State → Nat → (Nat → Nat × Nat) → Nat → State × Option MvFail
  | 0, s, _, _, _ => (s, none)
  | k + 1, s, n, src, goal =>
    let m := s.mover n
    if goal ≤ m.moved then (s, none) else
    let (a, c) := src m.moved
    let d := (s.reg (Reg.mvDst n)).toNat + m.moved
    let z := min (goal - m.moved) (min c (64 - d % 64))
    let s0 := (s.reg (Reg.mvSrc n)).toNat
    let lap := m.op == opCopy && decide (s0 < d - m.moved) && decide (d - m.moved < s0 + (s.reg (Reg.mvCount n)).toNat)
    let r : State × Option (BitVec 16) × List Byte :=
      if m.op = opFill then (s, none, (List.range z).map fun i => (s.reg (Reg.mvSrc n)).extractLsb' (8 * ((m.moved + i) % 8)) 8)
      else s.dmaRead m.bid (BitVec.ofNat 64 a) z m.cls
    match r.2.1 with
    | some st => (r.1, some { addr := BitVec.ofNat 64 a, wr := false, st := st })
    | none =>
      let f := if lap then let q := r.1.fresh; (q.2, leBytes z q.1) else (r.1, r.2.2)
      let w := f.1.dmaWrite m.bid (BitVec.ofNat 64 d) f.2
      match w.2 with
      | some st => (w.1, some { addr := BitVec.ofNat 64 d, wr := true, st := st })
      | none => State.mvPiece k (w.1.mvCount n z) n src goal

/-- RD of a DRAIN is stored (R360). Where that fails it stays due (R361). -/
def State.mvStoreRd (s : State) (n : Nat) : State × Option MvFail :=
  let m := s.mover n
  let w := s.dmaWrite m.bid (m.pobj + 8) (leBytes 8 (m.rdv.getD 0).toNat)
  match w.2 with
  | some st => (w.1, some { addr := m.pobj + 8, wr := true, st := st, desc := true })
  | none => (w.1.setMover n { m with rdDue := false }, none)

/-- One piece of a DRAIN up to a goal (R360): some outcome, or none where it goes on. RD is due after each 4 KiB and at the descriptor's
end. -/
def State.mvDrain (s : State) (n goal : Nat) : State × Option MvOut :=
  let r := s.mvRing n
  match r.2 with
  | .error f => (r.1, some (.fail f))
  | .ok c =>
    let s := r.1
    let base := (s.reg (Reg.mvSrc n)).toNat
    let rd := match (s.mover n).rdv with | some v => v.toNat | none => c.rd
    let av := (c.wr + 2 ^ 64 - rd) % 2 ^ 64
    if c.size = 0 ∨ base % c.size ≠ 0 ∨ c.size < av then (s, some (.stop 0x0401))
    else if av = 0 then
      if !c.done then (s, some .wait)
      else if rd = c.rd then (s, some (.done true))
      else (s.setMover n { s.mover n with rdDue := true }, none)
    else
      let m0 := (s.mover n).moved
      let src (p : Nat) : Nat × Nat := let o := (rd + (p - m0)) % c.size; (base + o, min (64 - (base + o) % 64) (c.size - o))
      let p := State.mvPiece 8192 s n src (min goal (m0 + av))
      let m := p.1.mover n
      let s := p.1.setMover n { m with rdv := some (BitVec.ofNat 64 (rd + (m.moved - m0)))
                                       rdDue := p.2.isNone && decide (m.moved = goal) }
      (s, p.2.map .fail)

/-- The end of a transfer by its mode (R349): VERIFIED reads back the line of its last byte, at the
destination, which translates as a write (R348). -/
def State.mvEnd (s : State) (n : Nat) (short : Bool) : State × MvOut :=
  let m := s.mover n
  if m.mode = 2 ∧ m.moved ≠ 0 then
    let a := ((s.reg (Reg.mvDst n)).toNat + m.moved - 1) / 64 * 64
    let r := s.dmaReadW m.bid (BitVec.ofNat 64 a) 64 m.cls
    match r.2.1 with
    | some st => (r.1, .fail { addr := BitVec.ofNat 64 a, wr := false, st := st })
    | none => (r.1, .done short)
  else (s, .done short)

/-- A transfer or descriptor goes on 4 KiB by 4 KiB until it ends, fails, waits or its gate closes (R358–R360). -/
def State.mvRun : Nat → State → Nat → State × MvOut
  | 0, s, _ => (s, .wait)
  | k + 1, s, n =>
    let m := s.mover n
    let count := (s.reg (Reg.mvCount n)).toNat
    if m.rdDue then
      let w := s.mvStoreRd n
      match w.2 with
      | some f => (w.1, .fail f)
      | none => State.mvRun k w.1 n
    else if count ≤ m.moved then s.mvEnd n false
    else
      let g := if m.moved % 4096 = 0 then s.mvGate n else (s, none)
      match g.2 with
      | some o => (g.1, o)
      | none =>
        let goal := min count ((m.moved / 4096 + 1) * 4096)
        if m.op = opDrain then
          let r := g.1.mvDrain n goal
          match r.2 with
          | some (.done short) => r.1.mvEnd n short
          | some o => (r.1, o)
          | none => State.mvRun k r.1 n
        else
          let src (p : Nat) : Nat × Nat := let a := (g.1.reg (Reg.mvSrc n)).toNat + p; (a, 64 - a % 64)
          let r := State.mvPiece 8192 g.1 n src goal
          match r.2 with
          | some f => (r.1, .fail f)
          | none => State.mvRun k r.1 n

/-- The next descriptor of a chain is read and loaded (R357, R358): none where it is well formed. -/
def State.mvLoad (s : State) (n : Nat) : State × Option MvOut :=
  let g := s.mvGate n
  match g.2 with
  | some o => (g.1, some o)
  | none =>
    let m := g.1.mover n
    let r := g.1.dmaRead m.bid m.next 32 m.cls
    match r.2.1 with
    | some st => (r.1, some (.fail { addr := m.next, wr := false, st := st, desc := true }))
    | none =>
      let l := r.2.2
      let op := recFld l 20 1
      let ctl := recFld l 21 1
      if 2 < op ∨ 8 ≤ ctl ∨ ctl % 4 = 3 ∨ recFld l 22 2 ≠ 0 ∨ recFld l 24 8 % 32 ≠ 0 then (r.1, some .malformed)
      else
        let s := (((r.1.setReg (Reg.mvSrc n) (BitVec.ofNat 64 (recFld l 0 8))).setReg (Reg.mvDst n) (BitVec.ofNat 64 (recFld l 8 8))).setReg
          (Reg.mvCount n) (BitVec.ofNat 64 (recFld l 16 4))).setReg (Reg.mvDesc n) m.next
        let s := s.setMover n { m with mode := ctl % 4, evt := decide (4 ≤ ctl), op := op, next := BitVec.ofNat 64 (recFld l 24 8)
                                       active := true, moved := 0, rdv := none, rdDue := false }
        (s, if op = opDrain ∧ m.pace ≠ 2 then some (.stop 0x0401) else none)

/-- A PAUSED channel tests its level (R359). The first reading of a ring's control line holds HIGH against its size (R355); at the job's
start only the level opens the gate. -/
def State.mvTest (s : State) (n : Nat) (start : Bool) : State × MvOut :=
  let r := s.mvLevel n
  let m := s.mover n
  match r.2 with
  | .error f => (r.1, .fail f)
  | .ok (l, done, size) =>
    if !m.sized ∧ size < m.high then (r.1, .stop 0x0401)
    else (r.1.setMover n { m with st := if m.high ≤ l ∨ (done ∧ !start) then 1 else m.st, sized := true }, .wait)
def State.mvPoll (s : State) (n : Nat) : State × MvOut := s.mvTest n false

/-- Fuel for a transfer: its 4 KiB pieces, or for a DRAIN its bytes. -/
def State.mvFuel (s : State) (n : Nat) : Nat :=
  let c := (s.reg (Reg.mvCount n)).toNat
  if (s.mover n).op = opDrain then 2 * c + 4 else c / 4096 + 2

/-- What a channel does next. -/
def State.mvNext (s : State) (n : Nat) : State × MvOut :=
  let m := s.mover n
  if m.st = 2 then s.mvPoll n
  else if m.st ≠ 1 then (s, .wait)
  else if n < 128 ∨ m.active then State.mvRun (s.mvFuel n) s n
  else let r := s.mvLoad n; (r.1, r.2.getD .wait)

/-! ### Ends -/

/-- The status word of a context's last kick (R352). -/
def kickWord (k : Option Kick) (moved : Nat) : W64 :=
  match k with
  | none => 0
  | some k =>
    if k.failed then BitVec.ofNat 64 (3 + k.dir.toNat * 4 + k.status.toNat * 65536 + k.bytes % 2 ^ 32 * 2 ^ 32)
    else if k.done then BitVec.ofNat 64 (2 + k.bytes % 2 ^ 32 * 2 ^ 32)
    else BitVec.ofNat 64 (1 + moved % 2 ^ 32 * 2 ^ 32)

/-- A context that waits in MVWAIT goes on with its status word (R350). -/
def State.mvWake (s : State) (x : Nat) : State :=
  let c := s.ctx x
  match c.wait with
  | .mover rd =>
    let s := (s.setCtx x { c with st := .ready, wait := .none }).setG x rd.toNat (kickWord c.kick 0)
    s.retire x
  | _ => s

/-- The kick of a channel's transfer is complete or has failed (R352, R353). DESIGN CHOICE (log entry 84). -/
def State.kickEnd (s : State) (n : Nat) (failed : Bool) (st : BitVec 16) (dir : Bool) : State :=
  let m := s.mover n
  let x := n * 16 + m.ctx
  let c := s.ctx x
  if 128 ≤ n || m.kernel || c.kick.isNone || decide (c.job ≠ m.job) then s
  else (s.setCtx x { c with kick := some { chan := n, dir := dir, status := st, failed := failed, done := !failed, bytes := m.moved } }).mvWake x

/-- The kicking context goes on where its next MVGO waits: that MVGO abandons the halted transfer (R351). -/
def State.mvgoAgain (s : State) (n : Nat) : State :=
  let m := s.mover n
  let x := n * 16 + m.ctx
  let c := s.ctx x
  if n < 128 ∧ !m.kernel ∧ c.st = .waitUnit ∧ c.wait = .mvgo then s.setCtx x { c with st := .ready, wait := .none } else s

/-- A channel halts (R353, R361). -/
def State.mvHalt (s : State) (n : Nat) (f : MvFail) : State :=
  let m := s.mover n
  let s := s.setMover n { m with st := 4, was := m.st, dir := f.wr, desc := f.desc, fstatus := f.st }
  (((s.setReg (Reg.mvErraddr n) f.addr).raiseEvt Reg.mvEvt).kickEnd n true f.st f.wr).mvgoAgain n

/-- A bulk job ends with a status: its channel is free (R358, R361). -/
def State.chainEnd (s : State) (n : Nat) (st : BitVec 16) : State :=
  let m := s.mover n
  match m.item with
  | none => s.setMover n {}
  | some e => (s.setMover n {}).complete e st (BitVec.ofNat 64 m.total)

/-- What follows an outcome other than a failed access. -/
def State.mvSettle (s : State) (n : Nat) (o : MvOut) : State :=
  let m := s.mover n
  match o with
  | .done short =>
    if n < 128 then (s.kickEnd n false 0 false).mvIdle n
    else
      let q := (m.item.map fun e => e.q).getD 0
      let s := if m.evt && (s.queue q).evt then s.raise (s.queue q).src.toNat else s
      if short || m.next == 0 then s.chainEnd n 0 else s.setMover n { m with active := false }
  | .stop st => s.chainEnd n st
  | .malformed =>
    match m.item with
    | none => s
    | some e =>
      let s := s.setMover n {}
      let s := s.setQueue e.q { s.queue e.q with inflight := (s.queue e.q).inflight - 1 }
      s.haltBooth e.bid 0x0191 e.q e.slot.toNat
  | _ => s

/-! ### Commands -/

/-- TRANSFER_COMPLETE: a transfer or a descriptor goes on to its end, or to where it must wait (R349, R358–R360). -/
def execTransferComplete (ch : Fin 288) (s : State) : Out :=
  .next (
    let n := ch.val
    let m := s.mover n
    if m.st != 1 || !(decide (n < 128) || m.active) then s
    else
      let r := s.mvNext n
      match r.2 with
      | .fail _ => s
      | o => r.1.mvSettle n o)

/-- MOVER_HALT: the access that the channel makes next fails, and the channel halts (R353, R361). -/
def execMoverHalt (ch : Fin 288) (s : State) : Out :=
  .next (
    let r := s.mvNext ch.val
    match r.2 with
    | .fail f => r.1.mvHalt ch.val f
    | _ => s)

/-- DESCRIPTOR_START: the next descriptor is read and begins (R358). -/
def execDescriptorStart (ch : Fin 288) (s : State) : Out :=
  .next (
    let n := ch.val
    let m := s.mover n
    if decide (n < 128) || m.st != 1 || m.active then s
    else
      let r := s.mvLoad n
      match r.2 with
      | some (.fail _) => s
      | some o => r.1.mvSettle n o
      | none => r.1)

/-- GATE_POLL (R359). -/
def execGatePoll (ch : Fin 288) (s : State) : Out :=
  .next (
    if (s.mover ch.val).st ≠ 2 then s
    else
      let r := s.mvPoll ch.val
      match r.2 with
      | .fail _ => s
      | o => r.1.mvSettle ch.val o)

/-- MV_CTRL.GO on a local channel (R347): physical addresses, acting Booth 0. -/
def mvGo (n mode : Nat) (s : State) : State :=
  let s := s.setRegFld (Reg.mvCtrl n) 1 2 mode
  if 128 ≤ n ∨ (s.mover n).st ≠ 0 then s
  else if (s.reg (Reg.mvCount n)).toNat = 0 then s.setReg (Reg.mvDone n) 0
  else (s.setMover n { st := 1, kernel := true, mode := mode }).setReg (Reg.mvDone n) 0
def execMvGo (ch : Fin 288) (mode : BitVec 2) (s : State) : Out := .next (mvGo ch.val mode.toNat s)

/-- MV_CTRL.RESUME: a HALTED channel tries the failing access again (R353, R361). -/
def mvResume (n : Nat) (s : State) : State :=
  let m := s.mover n
  if m.st ≠ 4 then s
  else
    let s := s.setMover n { m with st := m.was, dir := false, desc := false, fstatus := 0 }
    let x := n * 16 + m.ctx
    let c := s.ctx x
    if 128 ≤ n || m.kernel || c.kick.isNone || decide (c.job ≠ m.job) then s
    else s.setCtx x { c with kick := some { chan := n } }
def execMvResume (ch : Fin 288) (s : State) : Out := .next (mvResume ch.val s)

/-- A running transfer goes on for a number of 64-byte steps that timing decides: a free choice (R361). -/
def State.mvSome (s : State) (n : Nat) : State :=
  let m := s.mover n
  if m.st ≠ 1 ∨ m.op = opDrain ∨ (!m.active ∧ 128 ≤ n) then s
  else
    let count := (s.reg (Reg.mvCount n)).toNat
    let f := s.fresh
    let goal := min count ((m.moved + 64 * (f.1 % ((count - m.moved) / 64 + 1))) / 64 * 64)
    (State.mvPiece (count + 1) f.2 n (fun p => let a := (s.reg (Reg.mvSrc n)).toNat + p; (a, 64 - a % 64)) goal).1

/-- The status of a failed kick is one of four (R352): which, where the spec does not state it, is a free choice. -/
def kickStatus (f : Nat) : BitVec 16 := [0x0601, 0x0602, 0x0701, 0x0702].getD (f % 4) 0x0601

/-- MV_CTRL.ABORT (R353, R361). A kick whose transfer is abandoned while it runs reads as failed, with a status and a direction that the
spec does not state: free values. DESIGN CHOICE (log entry 84). -/
def mvAbort (n : Nat) (s : State) : State :=
  let m := s.mover n
  if m.st = 0 then s
  else if n < 128 then (if m.st = 4 then s.mvIdle n else let f := (s.mvSome n).fresh; (f.2.kickEnd n true (kickStatus f.1) (f.1 / 4 % 2 == 1)).mvIdle n)
  else if m.st = 4 then s.chainEnd n m.fstatus
  else (s.mvSome n).chainEnd n 0x0290
def execMvAbort (ch : Fin 288) (s : State) : Out := .next (mvAbort ch.val s)

/-! ### RUN_CHAIN (R354–R356) -/

def Item.paceKind (e : Item) : Nat := e.fieldN 17 1 % 4
def Item.site (e : Item) : Nat := e.fieldN 16 1

/-- Fields of RUN_CHAIN outside their ranges, but for the ring size (R355). -/
def Item.chainBad (e : Item) : Bool :=
  let k := e.paceKind
  decide (e.fieldN 8 8 % 32 ≠ 0) || (decide (8 < e.site) && e.site != 255) || k == 3 ||
    (k != 0 && (e.zero 32 8 || decide (e.fieldN 32 8 < e.fieldN 40 8))) || (k == 1 && !e.zero 26 6) ||
    (k == 2 && decide (e.fieldN 24 8 % 64 ≠ 0))

/-- The channels of a site in the order they are tried (R356). -/
def siteChans (site : Nat) : List Nat :=
  let hub := (List.range 32).map (256 + ·)
  if site < 8 then (List.range 16).map (128 + 16 * site + ·)
  else if site = 8 then hub
  else hub ++ (List.range 128).map (128 + ·)
def State.freeChan (s : State) (e : Item) : Option Nat := (siteChans e.site).find? fun n => (s.mover n).st = 0

/-- The status with which a job completes at once (R355). -/
def State.chainFail (s : State) (e : Item) : Option (BitVec 16) :=
  let q := s.queue (e.word 24 |>.setWidth 16)
  firstFail [(e.chainBad, 0x0401), (e.paceKind == 1 && (!q.exists_ || (q.bid != e.bid && e.bid != 0)), 0x0701)]

/-- A bulk job takes its channel and starts (R356, R359). -/
def State.chainStart (s : State) (e : Item) : State :=
  match s.chainFail e with
  | some st => s.complete e st
  | none =>
    match s.freeChan e with
    | none => s
    | some n =>
      let k := e.paceKind
      let s := s.setMover n { st := if k = 0 then 1 else 2, bid := e.bid, item := some e, next := e.word 8, pace := k, pobj := e.word 24
                              high := if k = 0 then 0 else e.fieldN 32 8, low := if k = 0 then 0 else e.fieldN 40 8
                              cls := (s.queue e.q).prio }
      let s := s.setReg (Reg.mvDone n) 0
      if k = 0 then s
      else
        let r := s.mvTest n true
        match r.2 with
        | .fail f => r.1.mvHalt n f
        | o => r.1.mvSettle n o

/-- RUN_CHAIN (R354–R356): it waits at its queue's front while no channel of its site is free. -/
def execRunChain (q : BitVec 16) (s : State) : Out :=
  .next (dispatch 5 1 q (fun e s => (s.chainFail e).isSome || (s.freeChan e).isSome) (fun e s => s.chainStart e) s)

/-! ### Registers -/

/-- MV_STAT as it reads. -/
def State.mvStatWord (s : State) (n : Nat) : W64 :=
  let m := s.mover n
  BitVec.ofNat 64 (m.st + m.dir.toNat * 8 + m.desc.toNat * 16 + m.kernel.toNat * 32 + m.fstatus.toNat * 65536 + m.bid.toNat * 2 ^ 32 +
    (if n < 128 then m.ctx % 16 * 2 ^ 44 else 0) + (match m.item with | some e => e.q.toNat * 2 ^ 48 | none => 0))
/-- MV_HALTED[i] as it reads. -/
def State.mvHaltedWord (s : State) (i : Nat) : W64 :=
  BitVec.ofNat 64 ((List.range 64).foldl (fun a j => if 64 * i + j < 288 ∧ (s.mover (64 * i + j)).st = 4 then a + 2 ^ j else a) 0)

end Sys2Proof.Machine
end

