-- ==== Sys2Proof/Machine/LocalMover.lean ====
section
/-! DEFINITION. Sys2Proof/Machine/LocalMover.lean: the local mover kick, major 0x33 (R350–R352). -/

namespace Sys2Proof.Machine

/-- MOVER_FAULT (R62). -/
def trapMover : Trap := { code := 0x16 }

/-- A kick (R351): the fence of R78 first, then the wait for the mover, then the start. -/
def State.mvKick (s : State) (x : Nat) (src dst : W64) (count mode : Nat) : Eff :=
  let s := s.ctxFence x
  let n := x / 16
  let c := s.ctx x
  if c.acks ≠ 0 then .wait (s.waitFor x .waitMem .mvgo)
  else
    let m := s.mover n
    let s := if m.st = 4 ∧ !m.kernel ∧ m.ctx = x % 16 ∧ m.job = c.job then s.mvIdle n else s
    if (s.mover n).st ≠ 0 then .wait (s.waitFor x .waitUnit .mvgo)
    else
      let s := (((s.setReg (Reg.mvSrc n) src).setReg (Reg.mvDst n) dst).setReg (Reg.mvCount n) (BitVec.ofNat 64 count)).setReg (Reg.mvDone n) 0
      let k : Kick := { chan := n, done := decide (count = 0) }
      let s := s.setCtx x { s.ctx x with kick := some k }
      .ok (if count = 0 then s
        else s.setMover n { st := 1, bid := c.bid, ctx := x % 16, job := c.job, mode := mode })

/-- MVGO (R350, R351). -/
def execMvgo (x : CtxId) (mode : BitVec 2) (rd rs1 rs2 : Reg5) (s : State) : Out :=
  let i := ctxIdx x
  let w := encA 0x33 rd rs1 rs2 (mode.toNat * 8)
  .next (issue i { word := w, prof := profE, srcs := [lg rs1, lg rs2, lg rd], ra := .noEffect }
    (fun s =>
      let c := s.g i rd.toNat
      if mode = 3 then .trap s (trapIllegal w)
      else if fld c 32 32 ≠ 0 then .trap s trapMover
      else s.mvKick i (s.g i rs1.toNat) (s.g i rs2.toNat) (fld c 0 32) mode.toNat) s)

/-- The status word of a context (R352). -/
def State.mvWord (s : State) (x : Nat) : W64 := kickWord (s.ctx x).kick (s.mover (x / 16)).moved

/-- MVSTAT (R352); in run-ahead it has no effect and poisons rd (R353). -/
def execMvstat (x : CtxId) (rd : Reg5) (s : State) : Out :=
  .next (issue (ctxIdx x) { word := encA 0x33 rd 0 0 1, prof := profE, dsts := [lg rd], ra := .noEffect }
    (fun s => .ok (s.setG (ctxIdx x) rd.toNat (s.mvWord (ctxIdx x)))) s)

/-- MVWAIT (R350): it waits while the last kick runs. -/
def execMvwait (x : CtxId) (rd : Reg5) (s : State) : Out :=
  .next (issue (ctxIdx x) { word := encA 0x33 rd 0 0 2, prof := profE, dsts := [lg rd], ra := .noEffect }
    (fun s =>
      let i := ctxIdx x
      match (s.ctx i).kick with
      | some k => if !k.done && !k.failed then .wait (s.waitFor i .waitUnit (.mover rd)) else .ok (s.setG i rd.toNat (s.mvWord i))
      | none => .ok (s.setG i rd.toNat 0)) s)

end Sys2Proof.Machine
end

