-- ==== Sys2Proof/Machine/Orrery.lean ====
section
/-! DEFINITION. Sys2Proof/Machine/Orrery.lean: the hardware scheduler (R232–R244): operations of the 64 ports, offers, commits,
ticks, delays and event sources. -/

namespace Sys2Proof.Machine

def State.readyList (s : State) (p : Nat) : List Nat := Tab.get [] s.orr.lists p
def State.setReadyList (s : State) (p : Nat) (l : List Nat) : State :=
  { s with orr := { s.orr with lists := Tab.set [] s.orr.lists p l } }
/-- The current thread of a hardware thread, and the one offered to it. -/
def State.htCur (s : State) (h : Nat) : Option Nat := Tab.get none s.orr.cur h
def State.htOffer (s : State) (h : Nat) : Option Nat := Tab.get none s.orr.offer h
def State.setCur (s : State) (h : Nat) (t : Option Nat) : State :=
  { s with orr := { s.orr with cur := Tab.set none s.orr.cur h t } }
def State.setOffer (s : State) (h : Nat) (t : Option Nat) : State :=
  { s with orr := { s.orr with offer := Tab.set none s.orr.offer h t } }

/-- A thread leaves the ready list of its priority. -/
def State.unlist (s : State) (t : Nat) : State :=
  let p := (s.thread t).prio.toNat
  s.setReadyList p ((s.readyList p).filter (· ≠ t))
/-- A thread becomes READY at the tail or the head of its list (R237). -/
def State.toTail (s : State) (t : Nat) : State :=
  let x := s.thread t
  let s := s.setThread t { x with st := .ready }
  s.setReadyList x.prio.toNat ((s.readyList x.prio.toNat).filter (· ≠ t) ++ [t])
def State.toHead (s : State) (t : Nat) : State :=
  let x := s.thread t
  let s := s.setThread t { x with st := .ready }
  s.setReadyList x.prio.toNat (t :: (s.readyList x.prio.toNat).filter (· ≠ t))

/-- An offer is withdrawn: the thread returns to the head of its list (R237). -/
def State.withdraw (s : State) (h : Nat) : State :=
  match s.htOffer h with
  | none => s
  | some t => (s.setOffer h none).toHead t

/-- Whether a hardware thread qualifies (R236). -/
def State.qualifies (s : State) (h : Nat) : Bool := s.regBit Reg.orrHtEn h
/-- The priority value of a hardware thread's occupant, none without one (R236). -/
def State.occPrio (s : State) (h : Nat) : Option Nat :=
  match s.htOffer h with
  | some t => some (s.thread t).prio.toNat
  | none => (s.htCur h).map fun t => (s.thread t).prio.toNat

/-- The qualifying hardware threads of an affinity. -/
def State.htsOf (s : State) (aff : W64) : List Nat := (List.range 64).filter fun h => s.qualifies h && bitAt aff h

/-- Whether a READY thread violates the invariant of R236. -/
def State.violates (s : State) (t : Nat) : Bool :=
  let x := s.thread t
  !x.susp && (s.htsOf x.aff).any fun h => match s.occPrio h with | none => true | some p => decide (x.prio.toNat < p)

/-- The READY thread to offer: the best priority that violates, the nearest the head first (R236, R237). -/
def State.nextOffer (s : State) : Option Nat := (s.orr.lists.flatMap Prod.snd).find? s.violates

/-- The hardware thread a violating thread goes to (R236). -/
def State.offerPlace (s : State) (t : Nat) : Option Nat :=
  let hs := s.htsOf (s.thread t).aff
  match hs.find? fun h => (s.occPrio h).isNone with
  | some h => some h
  | none =>
    let worst := (hs.map fun h => (s.occPrio h).getD 0).foldl max 0
    hs.find? fun h => (s.occPrio h).getD 0 == worst

/-- One offer (R236). -/
def State.offer1 (s : State) (t : Nat) : State :=
  match s.offerPlace t with
  | none => s
  | some h =>
    let s := (s.withdraw h).unlist t
    (s.setThread t { s.thread t with st := .offered, ht := h }).setOffer h (some t)

/-- Offers are made until the invariant holds; each lowers an occupant's priority value, so 16,448 are enough. -/
def State.scheduleGo : Nat → State → State
  | 0, s => s
  | k + 1, s => match s.nextOffer with
    | none => s
    | some t => State.scheduleGo k (s.offer1 t)
/-- Scheduling after a step of R233; no offers while ORR_CTL.EN is 0. -/
def State.schedule (s : State) : State := if s.regBit Reg.orrCtl 0 then State.scheduleGo 16448 s else s

/-- Whether the wait condition holds (R240). -/
def waitHolds (mode : Bool) (f m : BitVec 32) : Bool := if mode then f &&& m == m else f &&& m != 0

/-- The delay entry of a thread is removed, an expiry that still waits with it (R240, R241). -/
def State.dropExpiry (s : State) (t : Nat) : State := { s with orr := { s.orr with expiring := s.orr.expiring.filter (· ≠ t) } }

/-- A WAITING thread's condition is tested (R240). -/
def State.testWait (s : State) (t : Nat) : State :=
  let x := s.thread t
  if x.st = .waiting ∧ waitHolds x.mode x.flags x.mask then
    ((s.setThread t { x with
      snap := x.flags, flags := if x.consume then x.flags &&& ~~~x.mask else x.flags
      due := none, reason := .event }).toTail t).dropExpiry t
  else s

/-- Flags are set on a thread (SETF, event delivery) and its wait is tested. -/
def State.setFlags (s : State) (t : Nat) (m : BitVec 32) : State :=
  let x := s.thread t
  (s.setThread t { x with flags := x.flags ||| m }).testWait t

/-- ORR_RES of a port (R234). -/
def State.orrRes (s : State) (h : Nat) (st : BitVec 16) (blocked : Bool) (data : BitVec 32) : State :=
  s.setReg (Reg.orrRes h) (BitVec.ofNat 64 (st.toNat + blocked.toNat * 65536 + data.toNat * 2 ^ 32))

/-- An operation of a port (R234): STATE_CONFLICT while Orrery is disabled; scheduling follows it (R236). -/
def orrOp (h : Fin 64) (body : State → State) (s : State) : State :=
  if s.regBit Reg.orrCtl 0 then (body s).schedule else s.orrRes h.val 0x0201 false 0

/-- ORR_ARG0 and ORR_ARG1 of a port. -/
def State.arg0 (s : State) (h : Nat) : W64 := s.reg (Reg.orrArg0 h)
def State.arg1 (s : State) (h : Nat) : W64 := s.reg (Reg.orrArg1 h)

def threadCount : Nat := 16384
/-- ORR_FREE counts the FREE threads. -/
def State.orrFree (s : State) : Nat := threadCount - (s.orr.thr.filter fun e => e.2.st != .free).length

/-- The lowest FREE thread. -/
def State.freeThread (s : State) : Option Nat := firstIdx threadCount fun t => (s.thread t).st == .free

/-- The current thread blocks: its hardware thread has none (R235). -/
def State.blockCur (s : State) (h : Nat) : State := s.setCur h none

/-- CREATE (R235). -/
def execOrrCreate (h : Fin 64) (t : BitVec 14) (any : Bool) (prio : BitVec 8) (start : Bool) (s : State) : Out :=
  .next (orrOp h (fun s =>
    let aff := if s.arg1 h = 0 then BitVec.allOnes 64 else s.arg1 h
    if aff &&& s.reg Reg.orrHtEn = 0 then s.orrRes h 0x0401 false 0
    else
      let pick := if any then s.freeThread else some t.toNat
      match pick with
      | none => s.orrRes h 0x0360 false 0
      | some n =>
        if (s.thread n).st ≠ .free then s.orrRes h 0x0201 false 0
        else ((s.setThread n { prio := prio, susp := !start, aff := aff }).toTail n).orrRes h 0 false (BitVec.ofNat 32 n)) s)

/-- DESTROY (R235). -/
def execOrrDestroy (h : Fin 64) (t : BitVec 14) (s : State) : Out :=
  .next (orrOp h (fun s =>
    let n := t.toNat
    let x := s.thread n
    let mine := s.htCur h = some n
    if x.st = .free ∨ (x.st = .running ∧ !mine) ∨ (x.st = .offered ∧ x.ht ≠ h.val) then s.orrRes h 0x0201 false 0
    else
      let s := if mine then s.blockCur h else if x.st = .offered then s.setOffer x.ht none else s.unlist n
      ((s.setThread n {}).dropExpiry n).orrRes h 0 mine 0) s)

/-- SETF (R235, R240). -/
def execSetf (h : Fin 64) (t : BitVec 14) (s : State) : Out :=
  .next (orrOp h (fun s =>
    let x := s.thread t.toNat
    if x.st = .free then s.orrRes h 0x0201 false 0
    else (s.setFlags t.toNat ((s.arg0 h).setWidth 32)).orrRes h 0 false x.flags) s)

/-- CLRF (R235). -/
def execClrf (h : Fin 64) (t : BitVec 14) (s : State) : Out :=
  .next (orrOp h (fun s =>
    let x := s.thread t.toNat
    if x.st = .free then s.orrRes h 0x0201 false 0
    else ((s.setThread t.toNat { x with flags := x.flags &&& ~~~((s.arg0 h).setWidth 32) }).testWait t.toNat).orrRes h 0 false x.flags) s)

/-- WAIT (R240). -/
def execOrrWait (h : Fin 64) (modeAnd consume : Bool) (s : State) : Out :=
  .next (orrOp h (fun s =>
    let m : BitVec 32 := (s.arg0 h).setWidth 32
    if m = 0 then s.orrRes h 0x0401 false 0
    else match s.htCur h with
      | none => s.orrRes h 0x0261 false 0
      | some t =>
        let x := s.thread t
        if waitHolds modeAnd x.flags m then
          (s.setThread t { x with flags := if consume then x.flags &&& ~~~m else x.flags }).orrRes h 0 false x.flags
        else
          let due := if s.arg1 h = 0 then none else some (s.orr.tick + (s.arg1 h).toNat)
          ((s.setThread t { x with st := .waiting, mask := m, mode := modeAnd, consume := consume, due := due }).blockCur h).orrRes
            h 0 true 0) s)

/-- SLEEP (R235, R241). -/
def execSleep (h : Fin 64) (s : State) : Out :=
  .next (orrOp h (fun s =>
    if s.arg0 h = 0 then s.orrRes h 0x0401 false 0
    else match s.htCur h with
      | none => s.orrRes h 0x0261 false 0
      | some t =>
        ((s.setThread t { s.thread t with st := .sleeping, due := some (s.orr.tick + (s.arg0 h).toNat) }).blockCur h).orrRes h 0 true 0) s)

/-- YIELD (R235). -/
def execYield (h : Fin 64) (s : State) : Out :=
  .next (orrOp h (fun s =>
    match s.htCur h with
    | none => s.orrRes h 0x0261 false 0
    | some t =>
      let p := (s.thread t).prio.toNat
      let other := (s.orr.lists.flatMap Prod.snd).any fun n =>
        let x := s.thread n
        !x.susp && decide (x.prio.toNat ≤ p) && bitAt x.aff h.val
      if other then ((s.blockCur h).toTail t).orrRes h 0 true 0 else s.orrRes h 0 false 0) s)

/-- SUSPEND (R235, R237). -/
def execSuspend (h : Fin 64) (t : BitVec 14) (s : State) : Out :=
  .next (orrOp h (fun s =>
    let n := t.toNat
    let x := s.thread n
    let mine := s.htCur h = some n
    if x.st = .free ∨ (x.st = .running ∧ !mine) then s.orrRes h 0x0201 false 0
    else
      let s := s.setThread n { x with susp := true }
      if mine then ((s.blockCur h).toTail n).orrRes h 0 true 0
      else (if x.st = .offered then s.withdraw x.ht else s).orrRes h 0 false 0) s)

/-- RESUME (R235, R237): a READY thread goes to the tail of its list. -/
def execOrrResume (h : Fin 64) (t : BitVec 14) (s : State) : Out :=
  .next (orrOp h (fun s =>
    let n := t.toNat
    let x := s.thread n
    if x.st = .free then s.orrRes h 0x0201 false 0
    else
      let s := s.setThread n { x with susp := false }
      (if x.st = .ready then s.toTail n else s).orrRes h 0 false 0) s)

/-- SETPRIO (R235). -/
def execSetprio (h : Fin 64) (t : BitVec 14) (prio : BitVec 8) (s : State) : Out :=
  .next (orrOp h (fun s =>
    let n := t.toNat
    let x := s.thread n
    if x.st = .free then s.orrRes h 0x0201 false 0
    else if x.st = .ready then
      let s := s.unlist n
      ((s.setThread n { s.thread n with prio := prio }).toTail n).orrRes h 0 false 0
    else (s.setThread n { x with prio := prio }).orrRes h 0 false 0) s)

/-- SETAFF (R235): an offer outside the new affinity is withdrawn. -/
def execSetaff (h : Fin 64) (t : BitVec 14) (s : State) : Out :=
  .next (orrOp h (fun s =>
    let n := t.toNat
    let x := s.thread n
    let a := s.arg1 h
    if a &&& s.reg Reg.orrHtEn = 0 then s.orrRes h 0x0401 false 0
    else if x.st = .free then s.orrRes h 0x0201 false 0
    else
      let s := s.setThread n { x with aff := a }
      (if x.st = .offered ∧ !bitAt a x.ht then s.withdraw x.ht else s).orrRes h 0 false 0) s)

/-- WAKE (R235). -/
def execWake (h : Fin 64) (t : BitVec 14) (s : State) : Out :=
  .next (orrOp h (fun s =>
    let n := t.toNat
    let x := s.thread n
    if x.st = .waiting ∨ x.st = .sleeping then
      let s := (s.setThread n { x with reason := .woken, due := none }).toTail n
      (s.dropExpiry n).orrRes h 0 false 0
    else s.orrRes h 0x0201 false 0) s)

/-- EXIT (R235). -/
def execExit (h : Fin 64) (s : State) : Out :=
  .next (orrOp h (fun s =>
    match s.htCur h with
    | none => s.orrRes h 0x0261 false 0
    | some t => (((s.blockCur h).setThread t {}).dropExpiry t).orrRes h 0 true 0) s)

/-- Where an asynchronous trap of a context resumes: past an annulled delay slot, which executes nothing (R55, R63). -/
def asyncPc (r : Regs) : W64 × W64 := if r.annul then (r.npc, r.npc + 4) else (r.pc, r.npc)

/-- DISPATCH commit (R238): the pending trap is taken when R66 lets it, by a thread that runs or has stopped in WAIT. -/
def execDispatchCommit (h : Fin 64) (s : State) : Out :=
  let x := 2048 + h.val
  let c := s.ctx x
  .next (match s.htOffer h with
  | none => s
  | some t =>
    if !(c.st == .ready || c.wait == .wfi) || !s.asyncOpen x 0x20 then s
    else
      let disp := (s.htCur h).isSome
      let s := match s.htCur h with | some o => s.toHead o | none => s
      let s := (s.setThread t { s.thread t with st := .running, ht := h.val }).setCur h (some t)
      let s := (s.setOffer h none).bump Reg.orrDispCnt
      let s := if disp then s.bump Reg.orrPreemptCnt else s
      let p := asyncPc c.r
      (s.takeTrapAt x { code := 0x20, val := BitVec.ofNat 64 t } true p.1 p.2).schedule)

/-- ORR_TICK.PERIOD in ns, clamped (ORR_TICK). -/
def State.tickNs (s : State) : Nat := min (max (fld (s.reg Reg.orrTick) 0 14) 1) 10000 * 1000

/-- Threads whose delay has come, in order of due tick and thread id (R241). -/
def State.dueThreads (s : State) (k : Nat) : List Nat :=
  let l := s.orr.thr.filter fun e => match e.2.due with | some d => decide (d ≤ k) && decide (e.1 ∉ s.orr.expiring) | none => false
  (l.insertionSort fun a b => a.2.due.getD 0 ≤ b.2.due.getD 0).map Prod.fst

/-- The next tick occurs once the copy of Meridian in CTL has reached its time (R241). -/
def execTick (s : State) : Out :=
  .next (if (s.merAt islCtl).toNat < s.orr.nextTick then s else
    let late := !s.orr.expiring.isEmpty
    let k := s.orr.tick + 1
    let s1 := { s with orr := { s.orr with tick := k, nextTick := s.orr.nextTick + s.tickNs,
                                           expiring := s.orr.expiring ++ s.dueThreads k } }
    if late then (s1.setRegBit Reg.orrStat 0 true).raise 17 else s1)

/-- The oldest expiry of the ticks that have occurred (R241). -/
def execDelayExpiry (s : State) : Out :=
  .next (match s.orr.expiring with
  | [] => s
  | t :: r =>
    let s := { s with orr := { s.orr with expiring := r } }
    let x := s.thread t
    if (x.due.map fun d => decide (s.orr.tick < d)).getD true then s
    else if x.st = .sleeping then ((s.setThread t { x with due := none, reason := .slept }).toTail t).schedule
    else if x.st = .waiting then ((s.setThread t { x with due := none, reason := .timeout }).toTail t).schedule
    else s)

/-- The flag of a source is set on its thread (R242). DEDUCED (log entry 59). -/
def State.srcDeliver (s : State) (n : Nat) : State :=
  let v := s.reg (Reg.orrSrc n)
  (s.setFlags (fld v 16 14) (BitVec.ofNat 32 (2 ^ fld v 2 5))).schedule

/-- A raised source reaches Orrery (R242). While ORR_CTL.EN is 0, it only sets PEND. -/
def execEventDelivery (n : BitVec 12) (s : State) : Out :=
  .next (if n.toNat ∉ s.orr.raised then s else
    let s := { s with orr := { s.orr with raised := s.orr.raised.erase n.toNat } }
    let a := Reg.orrSrc n.toNat
    let v := s.reg a
    let s := s.setReg a (setFld v 32 32 (fld v 32 32 + 1))
    let live := (s.thread (fld v 16 14)).st != .free
    if s.regBit Reg.orrCtl 0 && bitAt v 0 && live then s.srcDeliver n.toNat
    else
      let s := s.setRegBit a 1 true
      if bitAt v 0 && s.regBit Reg.orrCtl 0 then s.setRegBit Reg.orrStat 1 true else s)

/-- A write of a source binding (R242): PEND is RW1C; EN written to 1 while PEND is 1 delivers at once. DEDUCED (log entry 59). -/
def orrSrcWrite (n : Nat) (v : W64) (s : State) : State :=
  let a := Reg.orrSrc n
  let o := s.reg a
  let pend := bitAt o 1 && !bitAt v 1
  let w : W64 := (v &&& 0x3FFF007D) ||| (o &&& 0xFFFFFFFF00000000) ||| (if pend then 2 else 0)
  let s := s.setReg a w
  if bitAt v 0 && pend && s.regBit Reg.orrCtl 0 && (s.thread (fld w 16 14)).st != .free then
    (s.setRegBit a 1 false).srcDeliver n
  else s
def execOrrSrcWrite (n : BitVec 12) (v : W64) (s : State) : Out := .next (orrSrcWrite n.toNat v s)

/-- A write of ORR_HT_EN (R237): clearing a bit withdraws any offer there. -/
def orrHtEnWrite (v : W64) (s : State) : State :=
  let s := s.setReg Reg.orrHtEn v
  ((List.range 64).foldl (fun s h => if bitAt v h then s else s.withdraw h) s).schedule
def execOrrHtEnWrite (v : W64) (s : State) : Out := .next (orrHtEnWrite v s)

/-- A 64-bit write of ORR_OP starts the operation its CODE names (R234, R235); an unassigned code is INVALID_FIELD. -/
def orrOpWrite (h : Fin 64) (v : W64) (s : State) : State :=
  let t : BitVec 14 := v.extractLsb' 8 14
  let r : Out := match fld v 0 8 with
    | 0x01 => execOrrCreate h t (bitAt v 22) (v.extractLsb' 24 8) (bitAt v 34) s
    | 0x02 => execOrrDestroy h t s
    | 0x03 => execSetf h t s
    | 0x04 => execClrf h t s
    | 0x05 => execOrrWait h (bitAt v 32) (bitAt v 33) s
    | 0x06 => execSleep h s
    | 0x07 => execYield h s
    | 0x08 => execSuspend h t s
    | 0x09 => execOrrResume h t s
    | 0x0A => execSetprio h t (v.extractLsb' 24 8) s
    | 0x0B => execSetaff h t s
    | 0x0C => execWake h t s
    | 0x0D => execExit h s
    | _ => .next (orrOp h (fun s => s.orrRes h 0x0401 false 0) s)
  match r with
  | .next s' => s'
  | _ => s

/-- ORR_THR entry words of a thread (the thread table of ORR_). -/
def tStateCode : TState → Nat
  | .free => 0
  | .ready => 1
  | .offered => 2
  | .running => 3
  | .waiting => 4
  | .sleeping => 5
def reasonCode : Reason → Nat
  | .none => 0
  | .event => 1
  | .timeout => 2
  | .woken => 3
  | .slept => 4
def State.thrWord (s : State) (t i : Nat) : W64 :=
  let x := s.thread t
  BitVec.ofNat 64 (match i with
    | 0 => tStateCode x.st + x.susp.toNat * 8 + reasonCode x.reason * 16 + x.mode.toNat * 128 + x.prio.toNat * 256 +
        (if x.st = .offered ∨ x.st = .running then x.ht * 65536 else 0) + x.consume.toNat * 2 ^ 22
    | 1 => x.flags.toNat + x.mask.toNat * 2 ^ 32
    | 2 => x.aff.toNat
    | _ => x.snap.toNat + x.due.getD 0 % 2 ^ 32 * 2 ^ 32)
def htWord (t : Option Nat) : W64 := match t with | some n => BitVec.ofNat 64 (n + 2 ^ 15) | none => 0

end Sys2Proof.Machine
end

