-- ==== Sys2Proof/Machine/Power.lean ====
section
/-! DEFINITION. Sys2Proof/Machine/Power.lean: rails, the power limiter, the thermal trip and the test access port (R448, R454,
R457–R459). -/

namespace Sys2Proof.Machine

/-- RAIL_UNDERVOLTAGE: a rail below 90% of nominal for more than 1 µs causes a POR at once (R448). -/
def execRailUndervoltage (_rail : Fin 14) (ns permille : Nat) (s : State) : Out :=
  .next (if s.pins.porN && decide (1000 < ns) && decide (permille < 900) then s.por else s)

/-! ### The power limiter (R457, R458) -/

/-- LIMIT in W: values outside 200 W to TDP act as the nearer limit. -/
def State.pwrLimit (s : State) : Nat := max 200 (min tdp (fld (s.reg Reg.devPwrCtl) 1 10))

/-- The sensors take readings in eighths of a degree; TJ_MAX is the hottest in °C. -/
def State.senseTemps (s : State) (temps : List Nat) : State :=
  let s := ((List.range 9).zip temps).foldl (fun s p => s.setReg (Reg.devTemp p.1) (BitVec.ofNat 64 (min p.2 4095))) s
  s.setRegFld Reg.devPwrStat 24 8 (((List.range 9).map fun i => (s.reg (Reg.devTemp i)).toNat / 8).foldl max 0)

/-- Whether every sensor is at least 3 °C below its threshold. -/
def State.allCool (s : State) : Bool := (List.range 9).all fun i => decide ((s.reg (Reg.devTemp i)).toNat + 24 ≤ s.thrOf i)

/-- HOLD in sixteenths. -/
def State.holdIn (s : State) : Nat := fld (s.reg Reg.devPwrStat) 11 4
/-- The limiter leaves sclk alone in SEALED mode, and where a slice has applied it (R458). DEDUCED (log entry 63). -/
def State.limSealed (s : State) : Bool := s.mode == modeSealed || (List.range 8).any s.sealed

/-- One step down: of sclk, or in SEALED mode of dispatch. The event source is raised when THROTTLE or HOLD rises.
DEDUCED (log entry 85). -/
def State.stepDown (s : State) : State :=
  if s.limSealed then
    if 15 ≤ s.holdIn then s else (s.setRegFld Reg.devPwrStat 11 4 (s.holdIn + 1)).raiseEvt Reg.devPwrEvt
  else
    let t := s.setSclk (max 10 (s.sclkIn - 1))
    if s.regBit Reg.devPwrStat 10 then t else t.raiseEvt Reg.devPwrEvt

/-- One step up. DEDUCED (log entry 63). -/
def State.stepUp (s : State) : State :=
  if 0 < s.holdIn then s.setRegFld Reg.devPwrStat 11 4 (s.holdIn - 1)
  else if s.limSealed then s
  else s.setSclk (min sclkNominal (s.sclkIn + 1))

/-- LIMITER_EVAL: the average over 10 ms in W, and the nine sensors. DEDUCED (log entry 85). -/
def execLimiterEval (watts : Nat) (temps : List Nat) (s : State) : Out :=
  .next (
    if !s.pins.porN || !decide (1 ∈ s.ctl.steps) then s
    else
      let s := s.senseTemps temps
      let s := s.setRegFld Reg.devPwrStat 0 10 (min watts 1023)
      let lim := s.pwrLimit
      let hit := decide (lim < watts)
      let s := if hit && !s.regBit Reg.devPwrStat 33 then (s.setRegBit Reg.devPwrStat 33 true).raiseEvt Reg.devPwrEvt else s
      let since := if s.allCool then some (s.ctl.below.getD s.mer.ns) else none
      let s := { s with ctl := { s.ctl with below := since } }
      let cool := match since with | some t => decide (10 ^ 7 ≤ (s.mer.ns - t).toNat) | none => false
      if s.mode = modeHoldup then s
      else if s.regBit Reg.devPwrCtl 0 && (hit || s.tooHot) then s.stepDown
      else if cool && decide (100 * watts < 95 * lim) then s.stepUp
      else s)

/-- THERMAL_TRIP (R459): a die sensor at 105 °C, or an HBM sensor at 95 °C. -/
def execThermalTrip (sensor : Fin 9) (eighths : Nat) (s : State) : Out :=
  .next (
    let i := sensor.val
    if !s.pins.porN || decide (eighths < (if 4 ≤ i ∧ i ≤ 7 then 760 else 840)) then s
    else
      let s := s.setReg (Reg.devTemp i) (BitVec.ofNat 64 (min eighths 4095))
      let s := { s.setRegBit Reg.devPwrStat 32 true with pins := { s.pins with thermN := false } }
      s.powerFail none)

/-! ### The test access port (R454) -/

/-- Instructions of the TAP as the model numbers them. -/
def tapBypass : Nat := 0
/-- PRESUMED (log entry 6). -/
def tapIdcode : Nat := 1
def tapExtest : Nat := 2
def tapSample : Nat := 3
def tapPreload : Nat := 4

/-- IDCODE: bits [31:28] follow STEP_MAJOR. -/
def idcode : W64 := BitVec.ofNat 64 (0x0846076B + Config.stepping.toNat / 16 * 2 ^ 28)

/-- The TAP takes an instruction; those of boundary scan only while por_n is low. -/
def State.tapTake (s : State) (k : Nat) : State := { s with ctl := { s.ctl with tapIr := k } }
def State.tapScan (s : State) (k : Nat) : State := if s.pins.porN then s else s.tapTake k

/-- TAP_IDCODE: the identification register is selected, and read. PRESUMED (log entry 6). DESIGN CHOICE (log entry 92). -/
def execTapIdcode (s : State) : Out := .next { s.tapTake tapIdcode with busReply := idcode }
def execTapBypass (s : State) : Out := .next (s.tapTake tapBypass)
/-- TAP_EXTEST: the balls follow the boundary register. -/
def execTapExtest (s : State) : Out := .next (s.tapScan tapExtest)

/-- The boundary register is loaded with data that the command does not name: a free value. DESIGN CHOICE (log entry 69). -/
def State.tapLoad (s : State) (k : Nat) : State :=
  if s.pins.porN then s
  else
    let r := s.fresh
    { r.2.tapTake k with ctl := { (r.2.tapTake k).ctl with tapPads := r.1 } }
/-- DESIGN CHOICE (log entry 69). -/
def execTapSample (s : State) : Out := .next (s.tapLoad tapSample)
/-- DESIGN CHOICE (log entry 69). -/
def execTapPreload (s : State) : Out := .next (s.tapLoad tapPreload)

end Sys2Proof.Machine
end

