-- ==== Sys2Proof/Machine/Flags.lean ====
section
/-! DEFINITION. Sys2Proof/Machine/Flags.lean: the sticky flags of FCSR and DCSR and the traps they enable (R81, R89, R104). -/

namespace Sys2Proof.Machine

/-- The flags a floating-point operation raises (R89). -/
structure FFlags where
  nv : Bool := false
  dz : Bool := false
  ovf : Bool := false
  uf : Bool := false
  nx : Bool := false
deriving DecidableEq, Repr

def FFlags.union (a b : FFlags) : FFlags :=
  { nv := a.nv || b.nv, dz := a.dz || b.dz, ovf := a.ovf || b.ovf, uf := a.uf || b.uf, nx := a.nx || b.nx }

/-- The flags in the bit order of FCSR [8:4] and of EN and TRG (R81). -/
def FFlags.bits (a : FFlags) : Nat := a.nv.toNat + a.dz.toNat * 2 + a.ovf.toNat * 4 + a.uf.toNat * 8 + a.nx.toNat * 16

/-- Flags raised by an instruction: set, and with an enabled one among them the trap of cause FP with TRG (R89). -/
def State.raiseFp (s : State) (x : Nat) (fl : FFlags) (done : State → State) : Eff :=
  let v := s.xcsr x csrFcsr
  let v' := v ||| BitVec.ofNat 64 (fl.bits * 16)
  if fl.bits &&& fld v 9 5 ≠ 0 then .trap (s.setXcsr x csrFcsr (setFld v' 14 5 fl.bits)) { code := 0x0B }
  else .ok (done (if fl.bits = 0 then s else s.setXcsr x csrFcsr v'))

/-- Bits of DCSR (R81). -/
def dcsrDz : Nat := 0
def dcsrDi : Nat := 1
def dcsrDo : Nat := 2
def dcsrSat : Nat := 3

/-- A DCSR flag is set; with its trap enabled the instruction traps, else `els` goes on (R84, R104). -/
def State.raiseDec (s : State) (x bit code : Nat) (els : State → Eff) : Eff :=
  let v := s.xcsr x csrDcsr
  let s' := s.setXcsr x csrDcsr (setBit v bit true)
  if bitAt v (bit + 8) then .trap s' { code := code } else els s'

/-- SAT is set by a saturation and never traps (R120). -/
def State.setSat (s : State) (x : Nat) (sat : Bool) : State :=
  if sat then s.setXcsr x csrDcsr (setBit (s.xcsr x csrDcsr) dcsrSat true) else s

end Sys2Proof.Machine
end

