-- ==== Sys2Proof/Machine/Branch.lean ====
section
/-! DEFINITION. Sys2Proof/Machine/Branch.lean: B-format branches and JALR (R52–R57). -/

namespace Sys2Proof.Machine

/-- The target of a B-format branch (R52). -/
def bTarget (pc : W64) (off : BitVec 20) : W64 := pc + (off.signExtend 64 <<< 2)

/-- A B-format branch (R52, R53). In Svanen-S every branch goes forward past its slot, or the image was refused (R57). -/
def branchOp (x : CtxId) (prof : Prof) (maj : Nat) (a : Bool) (rs : Reg5) (off : BitVec 20) (src : List Loc)
    (cond : State → Bool) (s : State) : State :=
  issue (ctxIdx x) { word := encB maj a rs off, prof := prof, srcs := src, ra := .branch, noSlot := true }
    (fun s => .jump s (cond s) (bTarget (s.ctx (ctxIdx x)).r.pc off) a) s

/-- BEQZ (R52, R53). -/
def execBeqz (x : CtxId) (a : Bool) (rs : Reg5) (off : BitVec 20) (s : State) : Out :=
  .next (branchOp x profKES 0x18 a rs off [lg rs] (fun s => let v := s.g (ctxIdx x) rs.toNat; v == 0) s)

/-- BNEZ (R52, R53). -/
def execBnez (x : CtxId) (a : Bool) (rs : Reg5) (off : BitVec 20) (s : State) : Out :=
  .next (branchOp x profKES 0x19 a rs off [lg rs] (fun s => let v := s.g (ctxIdx x) rs.toNat; v != 0) s)

/-- BLTZ (R52, R53). -/
def execBltz (x : CtxId) (a : Bool) (rs : Reg5) (off : BitVec 20) (s : State) : Out :=
  .next (branchOp x profKES 0x1a a rs off [lg rs] (fun s => let v := s.g (ctxIdx x) rs.toNat; v.slt 0) s)

/-- BGEZ (R52, R53). -/
def execBgez (x : CtxId) (a : Bool) (rs : Reg5) (off : BitVec 20) (s : State) : Out :=
  .next (branchOp x profKES 0x1b a rs off [lg rs] (fun s => let v := s.g (ctxIdx x) rs.toNat; !v.slt 0) s)

/-- BGTZ (R52, R53). -/
def execBgtz (x : CtxId) (a : Bool) (rs : Reg5) (off : BitVec 20) (s : State) : Out :=
  .next (branchOp x profKES 0x1c a rs off [lg rs] (fun s => let v := s.g (ctxIdx x) rs.toNat; (0 : W64).slt v) s)

/-- BLEZ (R52, R53). -/
def execBlez (x : CtxId) (a : Bool) (rs : Reg5) (off : BitVec 20) (s : State) : Out :=
  .next (branchOp x profKES 0x1d a rs off [lg rs] (fun s => let v := s.g (ctxIdx x) rs.toNat; v.sle 0) s)

/-- BPANY (R52, R53). -/
def execBpany (x : CtxId) (a : Bool) (p : Pred3) (off : BitVec 20) (s : State) : Out :=
  .next (branchOp x profES 0x1e a (p.setWidth 5) off [.p p.toNat] (fun s => s.p (ctxIdx x) p.toNat != 0) s)

/-- BPNONE (R52, R53). -/
def execBpnone (x : CtxId) (a : Bool) (p : Pred3) (off : BitVec 20) (s : State) : Out :=
  .next (branchOp x profES 0x1f a (p.setWidth 5) off [.p p.toNat] (fun s => s.p (ctxIdx x) p.toNat == 0) s)

/-- BR (R52): always taken. -/
def execBr (x : CtxId) (a : Bool) (off : BitVec 20) (s : State) : Out :=
  .next (branchOp x profKES 0x20 a 0 off [] (fun _ => true) s)

/-- BL (R52): g31 receives P + 8. -/
def execBl (x : CtxId) (a : Bool) (off : BitVec 20) (s : State) : Out :=
  .next (issue (ctxIdx x) { word := encB 0x21 a 0 off, dsts := [.g 31], ra := .branch, noSlot := true }
    (fun s =>
      let pc := (s.ctx (ctxIdx x)).r.pc
      .jump (s.setG (ctxIdx x) 31 (pc + 8)) true (bTarget pc off) a) s)

/-- JALR (R56): rs1 is read before rd is written; a misaligned target traps and rd is not written. -/
def execJalr (x : CtxId) (rd rs1 : Reg5) (imm : BitVec 16) (s : State) : Out :=
  .next (issue (ctxIdx x) { word := encI 0x22 rd rs1 imm, srcs := [lg rs1], dsts := [lg rd], ra := .branch, noSlot := true }
    (fun s =>
      let t := s.g (ctxIdx x) rs1.toNat + imm.signExtend 64
      if fld t 0 2 ≠ 0 then .trap s (trapAlign t)
      else .jump (s.setG (ctxIdx x) rd.toNat ((s.ctx (ctxIdx x)).r.pc + 8)) true t false) s)

end Sys2Proof.Machine
end

