-- ==== Sys2Proof/Machine/DecCore.lean ====
section
/-! DEFINITION. Sys2Proof/Machine/DecCore.lean: packed decimal (R103–R106, R113, R124) and saturating fixed-point (R120)
arithmetic on numbers. -/

namespace Sys2Proof.Machine

/-- The digits of a packed decimal operand of n digits, above its sign nibble (R103, R113). -/
def decDigit (v i : Nat) : Nat := v / 16 ^ (i + 1) % 16
/-- Whether an operand of n digits is valid (R103). -/
def decValid (n v : Nat) : Bool :=
  (List.range n).all (fun i => decide (decDigit v i ≤ 9)) && (v % 16 == 12 || v % 16 == 13 || v % 16 == 15)
/-- The magnitude of a valid operand. -/
def decMag (n v : Nat) : Nat := (List.range n).foldl (fun a i => a + decDigit v i * 10 ^ i) 0
/-- The value of a valid operand. -/
def decVal (n v : Nat) : Int := if v % 16 = 13 then -(decMag n v : Int) else (decMag n v : Int)
/-- A value as a packed decimal of its low n digits: sign 0xC or 0xD, 0xC for zero (R104). -/
def decEnc (n : Nat) (x : Int) : Nat :=
  let m := x.natAbs % 10 ^ n
  (List.range n).foldl (fun a i => a + m / 10 ^ i % 10 * 16 ^ (i + 1)) (if x < 0 ∧ m ≠ 0 then 13 else 12)
/-- The significant-digit count of a magnitude (R107). -/
def sigDigits (m : Nat) : Nat := if m = 0 then 1 else (Nat.toDigits 10 m).length

/-- |a| ÷ 10^n: 0 truncated, 1 half-even, 2 half away (R106); `top` is the count from which the result is zero. -/
def decShr (mode : Nat) (top : Nat) (a : Int) (n : Nat) : Int :=
  if top ≤ n then 0 else
  let m := a.natAbs
  let t := 10 ^ n
  let q := m / t
  let r := m % t
  let up := if mode = 0 then false
    else if mode = 1 then decide (2 * r > t) || (decide (2 * r = t) && decide (q % 2 = 1))
    else decide (2 * r ≥ t)
  let q := if up then q + 1 else q
  if a < 0 then -(q : Int) else (q : Int)

/-- a × 10^n: from `top` on, only the multiple's excess over the digits matters, so the shift is capped (R106). -/
def decShl (a : Int) (n cap : Nat) : Int := a * 10 ^ (min n cap)

/-- What an operation on decimals gives: an invalid operand, or its exact value (R104). -/
inductive DecRes where
  | invalid
  | val (x : Int)
deriving DecidableEq, Repr

/-- sat_s and sat_u (R120): the value and whether it changed. -/
def satS (x : Int) (n : Nat) : Int × Bool :=
  let y := min (max x (-(2 ^ (n - 1)))) (2 ^ (n - 1) - 1)
  (y, decide (y ≠ x))
def satU (x : Int) (n : Nat) : Int × Bool :=
  let y := min (max x 0) (2 ^ n - 1)
  (y, decide (y ≠ x))
/-- rnd_e (R120). -/
def rndE (x : Int) (k : Nat) : Int :=
  if k = 0 then x else
  let q := x / 2 ^ k
  let r := x - q * 2 ^ k
  let h : Int := 2 ^ (k - 1)
  if r > h ∨ (r = h ∧ q % 2 = 1) then q + 1 else q
/-- rnd_a (R120). -/
def rndA (x : Int) (k : Nat) : Int :=
  if k = 0 then x else
  let m := (x.natAbs + 2 ^ (k - 1)) / 2 ^ k
  if x < 0 then -(m : Int) else (m : Int)

/-- The fixed-point operations by number (R117, R120), on n-bit patterns: result pattern and saturation. -/
def fixOp (op n a b : Nat) : Nat × Bool :=
  let sa := sgn n a
  let sb := sgn n b
  let ua : Int := (a % 2 ^ n : Nat)
  let ub : Int := (b % 2 ^ n : Nat)
  let k := min (b % 2 ^ n) n
  let r : Int × Bool := match op with
    | 0 => satS (sa + sb) n
    | 1 => satU (ua + ub) n
    | 2 => satS (sa - sb) n
    | 3 => satU (ua - ub) n
    | 4 => satS (rndE (sa * sb) (n - 1)) n
    | 5 => satS (rndA (sa * sb) (n - 1)) n
    | 6 => (rndE sa k, false)
    | _ => (rndA sa k, false)
  (pat n r.1, r.2)

end Sys2Proof.Machine
end

