-- ==== Sys2Proof/Machine/Pages.lean ====
section
/-! DEFINITION. Sys2Proof/Machine/Pages.lean: column pages and row pages (R186–R190), sieve program images (R191), and the values
and comparisons of slots (R194, R195). A page is its 65,536 bytes, followed by free bytes that stand for what lies past it. -/

namespace Sys2Proof.Machine

def pageBytes : Nat := 65536
def r8 (x : Nat) : Nat := ceilDiv x 8 * 8

/-- n bits from bit k of the bit stream that starts at byte o (R186). -/
def bitsAt (l : List Byte) (o k n : Nat) : Nat := leVal ((l.drop (o + k / 8)).take ((k % 8 + n + 7) / 8)) / 2 ^ (k % 8) % 2 ^ n

/-- Size of an element of a TYPE, given the WIDTH of a BYTES value (R187). -/
def typeSize (ty width : Nat) : Nat :=
  if ty = 0 ∨ ty = 4 then 1 else if ty = 1 ∨ ty = 5 then 2 else if ty = 2 ∨ ty = 6 ∨ ty = 8 then 4
  else if ty = 3 ∨ ty = 7 ∨ ty = 9 ∨ ty = 10 then 8 else if ty = 11 then 16 else width

def isColPage (l : List Byte) : Bool := recFld l 0 4 == 0x3C6C5A91
def isRowPage (l : List Byte) : Bool := recFld l 0 4 == 0x3C6C5A92

/-! ### Column pages (R186, R188, R189) -/

def colEnc (l : List Byte) : Nat := recFld l 5 1
def colType (l : List Byte) : Nat := recFld l 6 1
def colFlag (l : List Byte) (i : Nat) : Bool := (recFld l 7 1).testBit i
def pageRows (l : List Byte) : Nat := recFld l 8 4
def colBody (l : List Byte) : Nat := recFld l 14 2
def colWidth (l : List Byte) : Nat := recFld l 20 2
def colBits (l : List Byte) : Nat := recFld l 22 1
def colAux (l : List Byte) : Nat := recFld l 24 4
def colSize (l : List Byte) : Nat := typeSize (colType l) (colWidth l)
/-- B of a packed decimal column. -/
def packB (l : List Byte) : Nat := (colWidth l + 2) / 2

/-- BODY_LEN as R188 fixes it. -/
def colBodyLen (l : List Byte) : Nat :=
  let n := pageRows l
  match colEnc l with
  | 0 => n * colSize l
  | 1 => r8 (colAux l * colSize l) + r8 (ceilDiv (n * colBits l) 8)
  | 2 => r8 (4 * colAux l) + colAux l * colSize l
  | 3 => r8 (ceilDiv (n * colBits l) 8)
  | _ => n * packB l

/-- Whether row i of a column page is null (R186). -/
def colNull (l : List Byte) (i : Nat) : Bool := colFlag l 0 && bitsAt l (recFld l 12 2) i 1 == 1

/-- Run lengths of a run-length page, and the run of a row. -/
def colRuns (l : List Byte) : List Nat := (List.range (colAux l)).map fun m => recFld l (colBody l + 4 * m) 4
def runOf : List Nat → Nat → Nat → Nat
  | [], _, m => m
  | r :: t, i, m => if i < r then m else runOf t (i - r) (m + 1)

/-- The dictionary code of a row. -/
def colCode (l : List Byte) (i : Nat) : Nat := bitsAt l (colBody l + r8 (colAux l * colSize l)) (i * colBits l) (colBits l)

/-- The decoded value of row i, as its little-endian number (R188). -/
def colVal (l : List Byte) (i : Nat) : Nat :=
  let z := colSize l
  let o := colBody l
  match colEnc l with
  | 0 => recFld l (o + i * z) z
  | 1 => recFld l (o + colCode l i * z) z
  | 2 => recFld l (o + r8 (4 * colAux l) + runOf (colRuns l) i 0 * z) z
  | 3 => (recFld l 32 8 + bitsAt l o (i * colBits l) (colBits l)) % 2 ^ 64 % 2 ^ (8 * z)
  | _ => recFld l (o + i * packB l) (packB l)

/-- Whether two regions of bytes are disjoint. -/
def apart (a n b m : Nat) : Bool := decide (a + n ≤ b) || decide (b + m ≤ a)

/-- Fields of a column page's header in their ranges, TYPE and ENC a pair that R188 allows. -/
def colHeadOk (l : List Byte) : Bool :=
  let e := colEnc l
  let t := colType l
  let n := pageRows l
  let no := recFld l 12 2
  let w := colWidth l
  let b := colBits l
  let nb := ceilDiv n 8
  recFld l 4 1 == 1 && decide (e ≤ 4) && decide (t ≤ 12) && decide (recFld l 7 1 < 8) && decide (1 ≤ n) && decide (n ≤ 65536) &&
    (if colFlag l 0 then no % 8 == 0 && decide (64 ≤ no) && decide (no + nb ≤ pageBytes) else no == 0) &&
    colBody l % 8 == 0 && decide (64 ≤ colBody l) && recFld l 16 4 == colBodyLen l && decide (colBody l + colBodyLen l ≤ pageBytes) &&
    (!colFlag l 0 || apart no nb (colBody l) (colBodyLen l)) &&
    (if t = 12 then decide (1 ≤ w) && decide (w ≤ 256)
     else if e = 4 then decide (1 ≤ w) && decide (w ≤ (if t = 10 then 15 else 31)) else w == 0) &&
    (if e = 1 then decide (1 ≤ b) && decide (b ≤ 16) else if e = 3 then decide (b ≤ 64) else b == 0) &&
    decide (recFld l 23 1 ≤ 31) &&
    (if e = 1 then decide (1 ≤ colAux l) && decide (colAux l ≤ 65536)
     else if e = 2 then decide (1 ≤ colAux l) && decide (colAux l ≤ n) else colAux l == 0) &&
    (e == 3 || recFld l 32 8 == 0) && (e != 3 || decide (t ≤ 7)) && (e != 4 || t == 10 || t == 11) &&
    !(colFlag l 1 && (t == 11 || t == 12))

/-- The body of a column page obeys R189: run lengths, codes and decimal values; values in null rows are not checked. -/
def colBodyOk (l : List Byte) : Bool :=
  let n := pageRows l
  let t := colType l
  (colEnc l != 2 || ((colRuns l).all (fun r => decide (1 ≤ r)) && (colRuns l).sum == n)) &&
    (List.range n).all fun i => colNull l i ||
      ((colEnc l != 1 || decide (colCode l i < colAux l)) &&
        (t != 10 || decValid 15 (colVal l i)) && (t != 11 || decValid 31 (colVal l i)) &&
        (colEnc l != 4 || colWidth l % 2 == 1 || decide (colVal l i < 2 ^ (8 * packB l - 4))))

/-- The CRC of a page, its field taken as zero. -/
def pageCrcOk (l : List Byte) (o : Nat) : Bool :=
  let p := l.take pageBytes
  (crc32c (putAt p o [0, 0, 0, 0])).toNat == recFld p o 4

/-! ### Row pages (R190) -/

def rowRecLen (l : List Byte) : Nat := recFld l 6 2
def rowRecOff (l : List Byte) : Nat := recFld l 14 2
def rowLive (l : List Byte) (i : Nat) : Bool := bitsAt l (recFld l 12 2) i 1 == 1

def rowHeadOk (l : List Byte) : Bool :=
  let n := pageRows l
  let lo := recFld l 12 2
  let ro := rowRecOff l
  let k := rowRecLen l
  recFld l 4 1 == 1 && recFld l 5 1 == 0 && decide (recFld l 16 1 < 2) && recFld l 17 7 == 0 && recFld l 28 12 == 0 && recFld l 48 16 == 0 &&
    decide (8 ≤ k) && decide (k ≤ 4096) && k % 8 == 0 && decide (1 ≤ n) && lo % 8 == 0 && decide (64 ≤ lo) && ro % 8 == 0 &&
    decide (64 ≤ ro) && decide (lo + ceilDiv n 8 ≤ pageBytes) && decide (ro + n * k ≤ pageBytes) && apart lo (ceilDiv n 8) ro (n * k)

/-- FIRST_ROW of a page. -/
def pageFirst (l : List Byte) : Nat := recFld l 40 8

/-- The status of an invalid page (R189, R190): MAGIC and VERSION first, then a CRC that does not match, then the rest.
DESIGN CHOICE (log entry 29). -/
def pageStatus (l : List Byte) : Option (BitVec 16) :=
  if (!isColPage l && !isRowPage l) || recFld l 4 1 != 1 then some 0x0444
  else if isColPage l then
    if colFlag l 2 && !pageCrcOk l 28 then some 0x0403 else if colHeadOk l && colBodyOk l then none else some 0x0444
  else if recFld l 16 1 % 2 == 1 && !pageCrcOk l 24 then some 0x0403 else if rowHeadOk l then none else some 0x0444

/-! ### Images (R191) -/

def imgMode (m : List Byte) : Nat := recFld m 5 1
def imgWords (m : List Byte) : Nat := recFld m 6 2
def imgSlots (m : List Byte) : Nat := recFld m 8 1
def imgMembers (m : List Byte) : Nat := recFld m 9 1
def imgProj (m : List Byte) : Nat := recFld m 10 1
def imgConst (m : List Byte) (k : Nat) : W64 := BitVec.ofNat 64 (recFld m (96 + 8 * (k - 1)) 8)
def imgWord (m : List Byte) (i : Nat) : BitVec 32 := BitVec.ofNat 32 (recFld m (352 + 4 * i) 4)
/-- SLOT[n]: member, TYPE, field offset, WIDTH. -/
def slotMember (m : List Byte) (n : Nat) : Nat := recFld m (32 + 8 * n) 1
def slotType (m : List Byte) (n : Nat) : Nat := recFld m (33 + 8 * n) 1
def slotOff (m : List Byte) (n : Nat) : Nat := recFld m (34 + 8 * n) 2
def slotWidth (m : List Byte) (n : Nat) : Nat := recFld m (36 + 8 * n) 2

def imgSlotOk (m : List Byte) (n : Nat) : Bool :=
  if imgSlots m ≤ n then recFld m (32 + 8 * n) 8 == 0
  else
    let t := slotType m n
    decide (slotMember m n < imgMembers m) && recFld m (38 + 8 * n) 2 == 0 &&
      (if t = 255 then slotOff m n == 0 && slotWidth m n == 0
       else decide (t ≤ 12) && (if t = 12 then decide (1 ≤ slotWidth m n) && decide (slotWidth m n ≤ 256) else slotWidth m n == 0))

/-- The header and slot table of an image (R191). -/
def imgHeadOk (m : List Byte) : Bool :=
  recFld m 0 4 == 0x3C6C5A93 && recFld m 4 1 == 1 && decide (imgMode m < 4) && decide (1 ≤ imgWords m) && decide (imgWords m ≤ 256) &&
    decide (1 ≤ imgSlots m) && decide (imgSlots m ≤ 8) && decide (1 ≤ imgMembers m) && decide (imgMembers m ≤ 8) &&
    decide (imgProj m < 2 ^ imgSlots m) && (imgMode m % 2 == 0 || imgProj m == 0) && recFld m 11 21 == 0 && recFld m 344 8 == 0 &&
    (List.range 8).all (imgSlotOk m)

/-! ### Slots of a group (R194, R195) -/

/-- The page of a slot, given the pages of the group. -/
def slotPage (m : List Byte) (ps : List (List Byte)) (n : Nat) : List Byte := (ps[slotMember m n]?).getD []
/-- The TYPE and WIDTH that a slot's values have. -/
def slotTy (m : List Byte) (ps : List (List Byte)) (n : Nat) : Nat :=
  if slotType m n = 255 then colType (slotPage m ps n) else slotType m n
def slotWd (m : List Byte) (ps : List (List Byte)) (n : Nat) : Nat :=
  if slotType m n = 255 then colWidth (slotPage m ps n) else slotWidth m n
def slotSize (m : List Byte) (ps : List (List Byte)) (n : Nat) : Nat := typeSize (slotTy m ps n) (slotWd m ps n)
/-- Value of row i of a slot, and whether it is null. -/
def slotVal (m : List Byte) (ps : List (List Byte)) (n i : Nat) : Nat :=
  let l := slotPage m ps n
  if slotType m n = 255 then colVal l i else recFld l (rowRecOff l + i * rowRecLen l + slotOff m n) (slotSize m ps n)
def slotNull (m : List Byte) (ps : List (List Byte)) (n i : Nat) : Bool := slotType m n == 255 && colNull (slotPage m ps n) i

/-- Rows of a group, and whether row i is active (R193). -/
def groupRows (ps : List (List Byte)) : Nat := pageRows (ps.headD [])
def rowActive (ps : List (List Byte)) (i : Nat) : Bool :=
  decide (i < groupRows ps) && ps.all fun l => isColPage l || rowLive l i

/-- The status of a group that breaks R189, R190 or R193: an invalid page, unequal FIRST_ROW or row counts, a slot whose member
is a page of the other kind, a live row with an invalid decimal value in a slot of a row page (log entry 31); with the member whose page
fails. -/
def groupFail (m : List Byte) (ps : List (List Byte)) : Option (BitVec 16 × Nat) :=
  match firstIdx ps.length fun j => (pageStatus (ps.getD j [])).isSome with
  | some j => (pageStatus (ps.getD j [])).map fun st => (st, j)
  | none =>
    let slotBad (n : Nat) : Bool :=
      if slotType m n = 255 then !isColPage (slotPage m ps n)
      else !isRowPage (slotPage m ps n) || ((slotType m n == 10 || slotType m n == 11) &&
        !(List.range (groupRows ps)).all fun i => !rowActive ps i || decValid (if slotType m n = 10 then 15 else 31) (slotVal m ps n i))
    match firstIdx ps.length fun j => pageFirst (ps.getD j []) != pageFirst (ps.headD []) || pageRows (ps.getD j []) != groupRows ps with
    | some j => some (0x0444, j)
    | none => (firstIdx (imgSlots m) slotBad).map fun n => (0x0444, slotMember m n)
def groupStatus (m : List Byte) (ps : List (List Byte)) : Option (BitVec 16) := (groupFail m ps).map Prod.fst

/-- A binary floating-point number of e exponent and f fraction bits, as a number that orders as R195 says; none for a NaN. -/
def fpKey (e f v : Nat) : Option Int :=
  let mag := v % 2 ^ (e + f)
  if (2 ^ e - 1) * 2 ^ f < mag then none
  else some (if v / 2 ^ (e + f) % 2 = 1 then -(mag : Int) else (mag : Int))

/-- A value or a constant of a TYPE as a number for comparison; none for a NaN (R195). Constants are 64 or, for DEC128, 128 bits. -/
def cmpKey (ty width : Nat) (isConst : Bool) (v : Nat) : Option Int :=
  if ty ≤ 3 then some (sgn (if isConst then 64 else 8 * typeSize ty 0) v)
  else if ty ≤ 7 then some (v : Int)
  else if ty = 8 then fpKey 8 23 (v % 2 ^ 32)
  else if ty = 9 then fpKey 11 52 v
  else if ty = 10 then some (decVal 15 v)
  else if ty = 11 then some (decVal 31 v)
  else some (beVal (leBytes (min width 8) v) : Int)

/-- Whether a constant is valid: decimal constants alone can be invalid (R195). -/
def constOk (ty v : Nat) : Bool := (ty != 10 || decValid 15 v) && (ty != 11 || decValid 31 v)

/-- The conditions of SCMP (R194, R195); a comparison with a NaN is false but for NE. -/
def cmpCond (cond : Nat) (a b : Option Int) : Bool :=
  match a, b with
  | some x, some y =>
    match cond with
    | 0 => x == y
    | 1 => x != y
    | 2 => decide (x < y)
    | 3 => decide (x ≤ y)
    | 4 => decide (y < x)
    | _ => decide (y ≤ x)
  | _, _ => cond == 1

/-- ZMIN and ZMAX of a page whose ZONE flag is clear (R194). -/
def zoneLimit (ty : Nat) (top : Bool) : W64 :=
  if ty ≤ 3 then
    let k := 8 * typeSize ty 0
    if top then BitVec.ofNat 64 (2 ^ (k - 1) - 1) else BitVec.ofInt 64 (-(2 ^ (k - 1) : Int))
  else if ty ≤ 7 then (if top then BitVec.ofNat 64 (2 ^ (8 * typeSize ty 0) - 1) else 0)
  else if ty = 8 ∨ ty = 9 then (if top then 0x7FF0000000000000 else 0xFFF0000000000000)
  else if top then BitVec.allOnes 64 else 0

end Sys2Proof.Machine
end

