-- ==== Sys2Proof/Machine/Integer.lean ====
section
/-! DEFINITION. Sys2Proof/Machine/Integer.lean: the integer instructions, majors 0x01 and 0x04–0x0C and the X format (R41–R43),
and the issue of an illegal encoding (R40). -/

namespace Sys2Proof.Machine

/-- Results of the integer operations (R41): shifts use the low bits of the second operand. -/
def shAmt (b : W64) : Nat := b.toNat % 64
def clz64 (a : W64) : W64 := BitVec.ofNat 64 (64 - bitLen a.toNat)
def ctz64 (a : W64) : W64 := BitVec.ofNat 64 ((firstIdx 64 (bitAt a)).getD 64)
def popc (n : Nat) (a : Nat) : Nat := ((List.range n).filter fun i => a.testBit i).length
def bswap64 (a : W64) : W64 := BitVec.ofNat 64 (leVal (leBytes 8 a.toNat).reverse)
def smin (a b : W64) : W64 := if a.slt b then a else b
def smax (a b : W64) : W64 := if a.slt b then b else a
def umin (a b : W64) : W64 := if a.ult b then a else b
def umax (a b : W64) : W64 := if a.ult b then b else a
/-- A 32-bit result, sign-extended (R41). -/
def sextW (v : BitVec 32) : W64 := v.signExtend 64
def lowW (v : W64) : BitVec 32 := v.setWidth 32

/-- ADD (R41). -/
def execAdd (x : CtxId) (rd rs1 rs2 : Reg5) (s : State) : Out :=
  .next (gOp x profKES (encA 0x01 rd rs1 rs2 0x0) rd rs1 rs2 (fun a b => a + b) s)

/-- SUB (R41). -/
def execSub (x : CtxId) (rd rs1 rs2 : Reg5) (s : State) : Out :=
  .next (gOp x profKES (encA 0x01 rd rs1 rs2 0x1) rd rs1 rs2 (fun a b => a - b) s)

/-- AND (R41). -/
def execAndG (x : CtxId) (rd rs1 rs2 : Reg5) (s : State) : Out :=
  .next (gOp x profKES (encA 0x01 rd rs1 rs2 0x2) rd rs1 rs2 (fun a b => a &&& b) s)

/-- OR (R41). -/
def execOrG (x : CtxId) (rd rs1 rs2 : Reg5) (s : State) : Out :=
  .next (gOp x profKES (encA 0x01 rd rs1 rs2 0x3) rd rs1 rs2 (fun a b => a ||| b) s)

/-- XOR (R41). -/
def execXorG (x : CtxId) (rd rs1 rs2 : Reg5) (s : State) : Out :=
  .next (gOp x profKES (encA 0x01 rd rs1 rs2 0x4) rd rs1 rs2 (fun a b => a ^^^ b) s)

/-- ANDN (R41). -/
def execAndn (x : CtxId) (rd rs1 rs2 : Reg5) (s : State) : Out :=
  .next (gOp x profKES (encA 0x01 rd rs1 rs2 0x5) rd rs1 rs2 (fun a b => a &&& ~~~b) s)

/-- ORN (R41). -/
def execOrn (x : CtxId) (rd rs1 rs2 : Reg5) (s : State) : Out :=
  .next (gOp x profKES (encA 0x01 rd rs1 rs2 0x6) rd rs1 rs2 (fun a b => a ||| ~~~b) s)

/-- XNOR (R41). -/
def execXnor (x : CtxId) (rd rs1 rs2 : Reg5) (s : State) : Out :=
  .next (gOp x profKES (encA 0x01 rd rs1 rs2 0x7) rd rs1 rs2 (fun a b => ~~~(a ^^^ b)) s)

/-- SHL (R41). -/
def execShl (x : CtxId) (rd rs1 rs2 : Reg5) (s : State) : Out :=
  .next (gOp x profKES (encA 0x01 rd rs1 rs2 0x8) rd rs1 rs2 (fun a b => a <<< shAmt b) s)

/-- SHR (R41). -/
def execShr (x : CtxId) (rd rs1 rs2 : Reg5) (s : State) : Out :=
  .next (gOp x profKES (encA 0x01 rd rs1 rs2 0x9) rd rs1 rs2 (fun a b => a >>> shAmt b) s)

/-- SAR (R41). -/
def execSar (x : CtxId) (rd rs1 rs2 : Reg5) (s : State) : Out :=
  .next (gOp x profKES (encA 0x01 rd rs1 rs2 0xa) rd rs1 rs2 (fun a b => a.sshiftRight (shAmt b)) s)

/-- ROL (R41). -/
def execRol (x : CtxId) (rd rs1 rs2 : Reg5) (s : State) : Out :=
  .next (gOp x profKES (encA 0x01 rd rs1 rs2 0xb) rd rs1 rs2 (fun a b => a.rotateLeft (shAmt b)) s)

/-- ROR (R41). -/
def execRor (x : CtxId) (rd rs1 rs2 : Reg5) (s : State) : Out :=
  .next (gOp x profKES (encA 0x01 rd rs1 rs2 0xc) rd rs1 rs2 (fun a b => a.rotateRight (shAmt b)) s)

/-- SEQ (R41). -/
def execSeq (x : CtxId) (rd rs1 rs2 : Reg5) (s : State) : Out :=
  .next (gOp x profKES (encA 0x01 rd rs1 rs2 0x10) rd rs1 rs2 (fun a b => ofBool64 (a == b)) s)

/-- SNE (R41). -/
def execSne (x : CtxId) (rd rs1 rs2 : Reg5) (s : State) : Out :=
  .next (gOp x profKES (encA 0x01 rd rs1 rs2 0x11) rd rs1 rs2 (fun a b => ofBool64 (a != b)) s)

/-- SLT (R41). -/
def execSlt (x : CtxId) (rd rs1 rs2 : Reg5) (s : State) : Out :=
  .next (gOp x profKES (encA 0x01 rd rs1 rs2 0x12) rd rs1 rs2 (fun a b => ofBool64 (a.slt b)) s)

/-- SLTU (R41). -/
def execSltu (x : CtxId) (rd rs1 rs2 : Reg5) (s : State) : Out :=
  .next (gOp x profKES (encA 0x01 rd rs1 rs2 0x13) rd rs1 rs2 (fun a b => ofBool64 (a.ult b)) s)

/-- SLE (R41). -/
def execSle (x : CtxId) (rd rs1 rs2 : Reg5) (s : State) : Out :=
  .next (gOp x profKES (encA 0x01 rd rs1 rs2 0x14) rd rs1 rs2 (fun a b => ofBool64 (a.sle b)) s)

/-- SLEU (R41). -/
def execSleu (x : CtxId) (rd rs1 rs2 : Reg5) (s : State) : Out :=
  .next (gOp x profKES (encA 0x01 rd rs1 rs2 0x15) rd rs1 rs2 (fun a b => ofBool64 (a.ule b)) s)

/-- MIN (R41). -/
def execMinG (x : CtxId) (rd rs1 rs2 : Reg5) (s : State) : Out :=
  .next (gOp x profKES (encA 0x01 rd rs1 rs2 0x18) rd rs1 rs2 (fun a b => smin a b) s)

/-- MAX (R41). -/
def execMaxG (x : CtxId) (rd rs1 rs2 : Reg5) (s : State) : Out :=
  .next (gOp x profKES (encA 0x01 rd rs1 rs2 0x19) rd rs1 rs2 (fun a b => smax a b) s)

/-- MINU (R41). -/
def execMinu (x : CtxId) (rd rs1 rs2 : Reg5) (s : State) : Out :=
  .next (gOp x profKES (encA 0x01 rd rs1 rs2 0x1a) rd rs1 rs2 (fun a b => umin a b) s)

/-- MAXU (R41). -/
def execMaxu (x : CtxId) (rd rs1 rs2 : Reg5) (s : State) : Out :=
  .next (gOp x profKES (encA 0x01 rd rs1 rs2 0x1b) rd rs1 rs2 (fun a b => umax a b) s)

/-- ADDW (R41). -/
def execAddw (x : CtxId) (rd rs1 rs2 : Reg5) (s : State) : Out :=
  .next (gOp x profKES (encA 0x01 rd rs1 rs2 0x29) rd rs1 rs2 (fun a b => sextW (lowW a + lowW b)) s)

/-- SUBW (R41). -/
def execSubw (x : CtxId) (rd rs1 rs2 : Reg5) (s : State) : Out :=
  .next (gOp x profKES (encA 0x01 rd rs1 rs2 0x2a) rd rs1 rs2 (fun a b => sextW (lowW a - lowW b)) s)

/-- SHLW (R41). -/
def execShlw (x : CtxId) (rd rs1 rs2 : Reg5) (s : State) : Out :=
  .next (gOp x profKES (encA 0x01 rd rs1 rs2 0x2b) rd rs1 rs2 (fun a b => sextW (lowW a <<< (b.toNat % 32))) s)

/-- SHRW (R41). -/
def execShrw (x : CtxId) (rd rs1 rs2 : Reg5) (s : State) : Out :=
  .next (gOp x profKES (encA 0x01 rd rs1 rs2 0x2c) rd rs1 rs2 (fun a b => sextW (lowW a >>> (b.toNat % 32))) s)

/-- SARW (R41). -/
def execSarw (x : CtxId) (rd rs1 rs2 : Reg5) (s : State) : Out :=
  .next (gOp x profKES (encA 0x01 rd rs1 rs2 0x2d) rd rs1 rs2 (fun a b => sextW ((lowW a).sshiftRight (b.toNat % 32))) s)

/-- CMOVNZ (R41): rd is also a source where it is left unchanged. -/
def execCmovnz (x : CtxId) (rd rs1 rs2 : Reg5) (s : State) : Out :=
  .next (issue (ctxIdx x) { word := encA 0x01 rd rs1 rs2 0x30, prof := profKES, srcs := [lg rs1, lg rs2, lg rd], dsts := [lg rd] }
    (fun s => .ok (if s.g (ctxIdx x) rs2.toNat ≠ 0 then s.setG (ctxIdx x) rd.toNat (s.g (ctxIdx x) rs1.toNat) else s)) s)

/-- CMOVZ (R41): rd is also a source where it is left unchanged. -/
def execCmovz (x : CtxId) (rd rs1 rs2 : Reg5) (s : State) : Out :=
  .next (issue (ctxIdx x) { word := encA 0x01 rd rs1 rs2 0x31, prof := profKES, srcs := [lg rs1, lg rs2, lg rd], dsts := [lg rd] }
    (fun s => .ok (if s.g (ctxIdx x) rs2.toNat = 0 then s.setG (ctxIdx x) rd.toNat (s.g (ctxIdx x) rs1.toNat) else s)) s)

/-- CLZ (R41). -/
def execClz (x : CtxId) (rd rs1 : Reg5) (s : State) : Out :=
  .next (gOp1 x profKES (encA 0x01 rd rs1 0 0x20) rd rs1 (fun a => clz64 a) s)

/-- CTZ (R41). -/
def execCtz (x : CtxId) (rd rs1 : Reg5) (s : State) : Out :=
  .next (gOp1 x profKES (encA 0x01 rd rs1 0 0x21) rd rs1 (fun a => ctz64 a) s)

/-- POPC (R41). -/
def execPopc (x : CtxId) (rd rs1 : Reg5) (s : State) : Out :=
  .next (gOp1 x profKES (encA 0x01 rd rs1 0 0x22) rd rs1 (fun a => BitVec.ofNat 64 (popc 64 a.toNat)) s)

/-- BSWAP (R41). -/
def execBswap (x : CtxId) (rd rs1 : Reg5) (s : State) : Out :=
  .next (gOp1 x profKES (encA 0x01 rd rs1 0 0x23) rd rs1 (fun a => bswap64 a) s)

/-- SEXTB (R41). -/
def execSextb (x : CtxId) (rd rs1 : Reg5) (s : State) : Out :=
  .next (gOp1 x profKES (encA 0x01 rd rs1 0 0x24) rd rs1 (fun a => sextTo64 8 a) s)

/-- SEXTH (R41). -/
def execSexth (x : CtxId) (rd rs1 : Reg5) (s : State) : Out :=
  .next (gOp1 x profKES (encA 0x01 rd rs1 0 0x25) rd rs1 (fun a => sextTo64 16 a) s)

/-- SEXTW (R41). -/
def execSextw (x : CtxId) (rd rs1 : Reg5) (s : State) : Out :=
  .next (gOp1 x profKES (encA 0x01 rd rs1 0 0x26) rd rs1 (fun a => sextTo64 32 a) s)

/-- ZEXTH (R41). -/
def execZexth (x : CtxId) (rd rs1 : Reg5) (s : State) : Out :=
  .next (gOp1 x profKES (encA 0x01 rd rs1 0 0x27) rd rs1 (fun a => (a.setWidth 16).setWidth 64) s)

/-- ZEXTW (R41). -/
def execZextw (x : CtxId) (rd rs1 : Reg5) (s : State) : Out :=
  .next (gOp1 x profKES (encA 0x01 rd rs1 0 0x28) rd rs1 (fun a => (a.setWidth 32).setWidth 64) s)

/-- ADDI (R43). -/
def execAddi (x : CtxId) (rd rs1 : Reg5) (imm : BitVec 16) (s : State) : Out :=
  .next (gOp1 x profKES (encI 0x4 rd rs1 imm) rd rs1 (fun a => a + (imm.signExtend 64)) s)

/-- ANDI (R43). -/
def execAndi (x : CtxId) (rd rs1 : Reg5) (imm : BitVec 16) (s : State) : Out :=
  .next (gOp1 x profKES (encI 0x5 rd rs1 imm) rd rs1 (fun a => a &&& (imm.signExtend 64)) s)

/-- ORI (R43). -/
def execOri (x : CtxId) (rd rs1 : Reg5) (imm : BitVec 16) (s : State) : Out :=
  .next (gOp1 x profKES (encI 0x6 rd rs1 imm) rd rs1 (fun a => a ||| (imm.signExtend 64)) s)

/-- XORI (R43). -/
def execXori (x : CtxId) (rd rs1 : Reg5) (imm : BitVec 16) (s : State) : Out :=
  .next (gOp1 x profKES (encI 0x7 rd rs1 imm) rd rs1 (fun a => a ^^^ (imm.signExtend 64)) s)

/-- SLTI (R43). -/
def execSlti (x : CtxId) (rd rs1 : Reg5) (imm : BitVec 16) (s : State) : Out :=
  .next (gOp1 x profKES (encI 0x8 rd rs1 imm) rd rs1 (fun a => ofBool64 (a.slt (imm.signExtend 64))) s)

/-- SLTIU (R43). -/
def execSltiu (x : CtxId) (rd rs1 : Reg5) (imm : BitVec 16) (s : State) : Out :=
  .next (gOp1 x profKES (encI 0x9 rd rs1 imm) rd rs1 (fun a => ofBool64 (a.ult (imm.signExtend 64))) s)

/-- ADDHI (R43). -/
def execAddhi (x : CtxId) (rd rs1 : Reg5) (imm : BitVec 16) (s : State) : Out :=
  .next (gOp1 x profKE (encI 0xc rd rs1 imm) rd rs1 (fun a => a + ((imm.signExtend 64) <<< 16)) s)

/-- SHLI (R43). -/
def execShli (x : CtxId) (rd rs1 : Reg5) (amt : BitVec 6) (s : State) : Out :=
  .next (gOp1 x profKES (encI 0x0A rd rs1 (0#10 ++ amt)) rd rs1 (fun a => a <<< amt.toNat) s)

/-- SHRI (R43). -/
def execShri (x : CtxId) (rd rs1 : Reg5) (amt : BitVec 6) (s : State) : Out :=
  .next (gOp1 x profKES (encI 0x0A rd rs1 (1#10 ++ amt)) rd rs1 (fun a => a >>> amt.toNat) s)

/-- SARI (R43). -/
def execSari (x : CtxId) (rd rs1 : Reg5) (amt : BitVec 6) (s : State) : Out :=
  .next (gOp1 x profKES (encI 0x0A rd rs1 (2#10 ++ amt)) rd rs1 (fun a => a.sshiftRight amt.toNat) s)

/-- RORI (R43). -/
def execRori (x : CtxId) (rd rs1 : Reg5) (amt : BitVec 6) (s : State) : Out :=
  .next (gOp1 x profKES (encI 0x0A rd rs1 (3#10 ++ amt)) rd rs1 (fun a => a.rotateRight amt.toNat) s)

/-- LUI (R43). -/
def execLui (x : CtxId) (rd : Reg5) (imm : BitVec 16) (s : State) : Out :=
  .next (gOp1 x profKES (encI 0x0B rd 0 imm) rd 0 (fun _ => imm.signExtend 64 <<< 16) s)

/-- XLI (R43). -/
def execXli (x : CtxId) (rd : Reg5) (imm : BitVec 32) (s : State) : Out :=
  .next (gOpX x (encX rd 0 0x00) rd 0 (fun _ => imm.signExtend 64) s)

/-- XLIH (R43). -/
def execXlih (x : CtxId) (rd rs1 : Reg5) (imm : BitVec 32) (s : State) : Out :=
  .next (gOpX x (encX rd rs1 0x1) rd rs1 (fun a => imm ++ a.setWidth 32) s)

/-- XADDI (R43). -/
def execXaddi (x : CtxId) (rd rs1 : Reg5) (imm : BitVec 32) (s : State) : Out :=
  .next (gOpX x (encX rd rs1 0x2) rd rs1 (fun a => a + imm.signExtend 64) s)

/-- XANDI (R43). -/
def execXandi (x : CtxId) (rd rs1 : Reg5) (imm : BitVec 32) (s : State) : Out :=
  .next (gOpX x (encX rd rs1 0x3) rd rs1 (fun a => a &&& imm.signExtend 64) s)

/-- XORI_X (R43). -/
def execXori32 (x : CtxId) (rd rs1 : Reg5) (imm : BitVec 32) (s : State) : Out :=
  .next (gOpX x (encX rd rs1 0x4) rd rs1 (fun a => a ||| imm.signExtend 64) s)

/-- XXORI (R43). -/
def execXxori (x : CtxId) (rd rs1 : Reg5) (imm : BitVec 32) (s : State) : Out :=
  .next (gOpX x (encX rd rs1 0x5) rd rs1 (fun a => a ^^^ imm.signExtend 64) s)

/-- XSLTI (R43). -/
def execXslti (x : CtxId) (rd rs1 : Reg5) (imm : BitVec 32) (s : State) : Out :=
  .next (gOpX x (encX rd rs1 0x6) rd rs1 (fun a => ofBool64 (a.slt (imm.signExtend 64))) s)

/-- XSLTIU (R43). -/
def execXsltiu (x : CtxId) (rd rs1 : Reg5) (imm : BitVec 32) (s : State) : Out :=
  .next (gOpX x (encX rd rs1 0x7) rd rs1 (fun a => ofBool64 (a.ult (imm.signExtend 64))) s)

end Sys2Proof.Machine
end

