-- ==== Sys2Proof/Machine/FpCore.lean ====
section
/-! DEFINITION. Sys2Proof/Machine/FpCore.lean: binary32 and binary64 arithmetic (R87–R102), computed exactly in integers and
rounded once. -/

namespace Sys2Proof.Machine

/-- A format: p significand bits with the hidden one, and the exponent field's width (R87). -/
structure Fmt where
  p : Nat
  ew : Nat
deriving DecidableEq, Repr

def fmt64 : Fmt := { p := 53, ew := 11 }
def fmt32 : Fmt := { p := 24, ew := 8 }
def fmtOf (p : Bool) : Fmt := if p then fmt32 else fmt64
def Fmt.bias (f : Fmt) : Nat := 2 ^ (f.ew - 1) - 1
/-- Exponent of the quantum of the subnormals. -/
def Fmt.qmin (f : Fmt) : Int := 2 - (f.bias : Int) - f.p
def Fmt.width (f : Fmt) : Nat := f.p + f.ew

/-- A decoded operand: a finite non-zero value is m × 2^e. -/
inductive Fp where
  | nan (sig : Bool)
  | inf (s : Bool)
  | zero (s : Bool)
  | fin (s : Bool) (m : Nat) (e : Int) (sub : Bool)
deriving DecidableEq, Repr

/-- Decodes an operand; under FTZ a subnormal reads as zero of the same sign (R90). -/
def Fmt.decode (f : Fmt) (ftz : Bool) (b : Nat) : Fp :=
  let man := b % 2 ^ (f.p - 1)
  let ex := b / 2 ^ (f.p - 1) % 2 ^ f.ew
  let s := b.testBit (f.width - 1)
  if ex = 2 ^ f.ew - 1 then (if man = 0 then .inf s else .nan (!man.testBit (f.p - 2)))
  else if ex = 0 then (if man = 0 ∨ ftz then .zero s else .fin s man f.qmin true)
  else .fin s (man + 2 ^ (f.p - 1)) ((ex : Int) - 1 + f.qmin) false

def Fp.isNan : Fp → Bool
  | .nan _ => true
  | _ => false
def Fp.isSig : Fp → Bool
  | .nan g => g
  | _ => false
def Fp.isSub : Fp → Bool
  | .fin _ _ _ b => b
  | _ => false
def Fp.sign : Fp → Bool
  | .nan _ => false
  | .inf s => s
  | .zero s => s
  | .fin s _ _ _ => s
def Fp.neg : Fp → Fp
  | .inf s => .inf !s
  | .zero s => .zero !s
  | .fin s m e b => .fin (!s) m e b
  | x => x

/-- The result of an operation: bits, flags, and whether the exact result is subnormal (R107). -/
structure FRes where
  bits : Nat
  fl : FFlags := {}
  sub : Bool := false
deriving DecidableEq, Repr

def Fmt.signBit (f : Fmt) (s : Bool) : Nat := s.toNat * 2 ^ (f.width - 1)
def Fmt.infBits (f : Fmt) (s : Bool) : Nat := f.signBit s + (2 ^ f.ew - 1) * 2 ^ (f.p - 1)
/-- The default NaN (R91). -/
def Fmt.nanBits (f : Fmt) : Nat := (2 ^ f.ew - 1) * 2 ^ (f.p - 1) + 2 ^ (f.p - 2)
def Fmt.maxBits (f : Fmt) (s : Bool) : Nat := f.infBits s - 1
def Fmt.nanRes (f : Fmt) (nv : Bool) : FRes := { bits := f.nanBits, fl := { nv := nv } }

/-- Rounding directions (R88): 1 RNE, 2 RMM, 3 RTZ, 4 RDN, 5 RUP. Whether the magnitude steps up, for the odd bit, the
comparison of the remainder with half a quantum, and exactness. -/
def roundUp (rm : Nat) (s odd : Bool) (cmp : Ordering) (exact : Bool) : Bool :=
  if exact then false
  else if rm = 1 then cmp == .gt || (cmp == .eq && odd)
  else if rm = 2 then cmp != .lt
  else if rm = 3 then false
  else if rm = 4 then s
  else !s

/-- m × 2^e, plus a positive amount below the last bit when `st`, rounded to a multiple of 2^q: the multiple and exactness. -/
def roundAt (rm : Nat) (s : Bool) (m : Nat) (e q : Int) (st : Bool) : Nat × Bool :=
  if q ≤ e then
    let v := m * 2 ^ (e - q).toNat
    (if roundUp rm s (v % 2 == 1) .lt (!st) then v + 1 else v, !st)
  else
    let k := (q - e).toNat
    let v := m / 2 ^ k
    let r := m % 2 ^ k
    let h := 2 ^ (k - 1)
    let cmp := if r = h then (if st then .gt else .eq) else if r < h then .lt else .gt
    let exact := decide (r = 0) && !st
    (if roundUp rm s (v % 2 == 1) cmp exact then v + 1 else v, exact)

/-- Rounds an exact value to a format (R89, R90): tininess is detected after rounding. -/
def Fmt.round (f : Fmt) (rm : Nat) (ftz ufEn : Bool) (s : Bool) (m : Nat) (e : Int) (st : Bool) : FRes :=
  if m = 0 ∧ !st then { bits := f.signBit s } else
  let top := e + (bitLen m : Int)
  let qn := top - f.p
  let emin := f.qmin + (f.p : Int) - 1
  let un := roundAt rm s m e qn st
  let tiny := decide (qn + (bitLen un.1 : Int) - 1 < emin)
  let sub := decide (top - 1 < emin)
  let q := max qn f.qmin
  let r := roundAt rm s m e q st
  if tiny ∧ ftz then { bits := f.signBit s, fl := { uf := true, nx := true }, sub := sub }
  else
    let big := decide (r.1 * 2 ^ (q - f.qmin).toNat ≥ 2 ^ (2 ^ f.ew - 3 + f.p))
    if big then
      let toInf := rm = 1 ∨ rm = 2 ∨ (rm = 4 ∧ s) ∨ (rm = 5 ∧ !s)
      { bits := if toInf then f.infBits s else f.maxBits s, fl := { ovf := true, nx := true }, sub := sub }
    else
      let bits := if r.1 < 2 ^ (f.p - 1) then r.1
        else
          let q' := if r.1 = 2 ^ f.p then q + 1 else q
          let man := if r.1 = 2 ^ f.p then 0 else r.1 - 2 ^ (f.p - 1)
          ((q' - f.qmin).toNat + 1) * 2 ^ (f.p - 1) + man
      { bits := f.signBit s + bits
        fl := { nx := !r.2, uf := tiny && (!r.2 || ufEn) }
        sub := sub }

/-- A finite operand as a signed integer at the scale 2^e0, for e0 at most its exponent. -/
def Fp.scaled (x : Fp) (e0 : Int) : Int :=
  match x with
  | .fin s m e _ => (if s then -1 else 1) * ((m * 2 ^ (e - e0).toNat : Nat) : Int)
  | _ => 0
def Fp.exp (x : Fp) (d : Int) : Int :=
  match x with
  | .fin _ _ e _ => e
  | _ => d

/-- What rounding depends on: the direction, FTZ and the UF enable of FCSR (R88–R90). -/
structure FEnv where
  rm : Nat
  ftz : Bool
  ufEn : Bool
deriving DecidableEq, Repr

/-- An exact signed integer at a scale, rounded; a zero takes the sign `zs`. -/
def Fmt.roundInt (f : Fmt) (v : FEnv) (i : Int) (e : Int) (zs : Bool) : FRes :=
  if i = 0 then { bits := f.signBit zs } else f.round v.rm v.ftz v.ufEn (decide (i < 0)) i.natAbs e false

/-- The sum of two decoded operands that are not NaNs (R92, R93). -/
def Fmt.sum (f : Fmt) (v : FEnv) (a b : Fp) : FRes :=
  match a, b with
  | .inf s, .inf t => if s = t then { bits := f.infBits s } else f.nanRes true
  | .inf s, _ => { bits := f.infBits s }
  | _, .inf t => { bits := f.infBits t }
  | a, b =>
    let e := min (a.exp (b.exp 0)) (b.exp (a.exp 0))
    f.roundInt v (a.scaled e + b.scaled e) e (if a.sign = b.sign then a.sign else v.rm == 4)

/-- FADD, FSUB (R92). -/
def Fmt.add (f : Fmt) (v : FEnv) (sub : Bool) (x y : Nat) : FRes :=
  let a := f.decode v.ftz x
  let b := f.decode v.ftz y
  if a.isNan || b.isNan then f.nanRes (a.isSig || b.isSig) else f.sum v a (if sub then b.neg else b)

/-- The exact product of two operands that are not NaNs; none for ∞ × 0 (R93). -/
def mulExact (a b : Fp) : Option Fp :=
  let s := a.sign != b.sign
  match a, b with
  | .inf _, .zero _ => none
  | .zero _, .inf _ => none
  | .inf _, _ => some (.inf s)
  | _, .inf _ => some (.inf s)
  | .fin _ m e _, .fin _ n g _ => some (.fin s (m * n) (e + g) false)
  | _, _ => some (.zero s)

/-- FMUL (R92). -/
def Fmt.mul (f : Fmt) (v : FEnv) (x y : Nat) : FRes :=
  let a := f.decode v.ftz x
  let b := f.decode v.ftz y
  if a.isNan || b.isNan then f.nanRes (a.isSig || b.isSig)
  else match mulExact a b with
    | none => f.nanRes true
    | some (.inf s) => { bits := f.infBits s }
    | some (.fin s m e _) => f.round v.rm v.ftz v.ufEn s m e false
    | some p => { bits := f.signBit p.sign }

/-- The fused operations: ±(x × y) ± z with one rounding (R92, R93). -/
def Fmt.fma (f : Fmt) (v : FEnv) (np nz : Bool) (x y z : Nat) : FRes :=
  let a := f.decode v.ftz x
  let b := f.decode v.ftz y
  let c := f.decode v.ftz z
  let prod := if a.isNan || b.isNan then some (.nan false) else mulExact a b
  match prod with
  | none => f.nanRes true
  | some p =>
    if a.isNan || b.isNan || c.isNan then f.nanRes (a.isSig || b.isSig || c.isSig)
    else f.sum v (if np then p.neg else p) (if nz then c.neg else c)

/-- Re-encodes a decoded operand. -/
def Fmt.encode (f : Fmt) : Fp → Nat
  | .nan _ => f.nanBits
  | .inf s => f.infBits s
  | .zero s => f.signBit s
  | .fin s m e _ =>
    f.signBit s + (if m < 2 ^ (f.p - 1) then m else ((e - f.qmin).toNat + 1) * 2 ^ (f.p - 1) + (m - 2 ^ (f.p - 1)))

/-- a < b for operands that are not NaNs; −0 counts as less than +0 when `zs` (R93, R96). -/
def fpLt (zs : Bool) (a b : Fp) : Bool :=
  match a, b with
  | .inf s, .inf t => s && !t
  | .inf s, _ => s
  | _, .inf t => !t
  | .zero s, .zero t => zs && s && !t
  | a, b =>
    let e := min (a.exp (b.exp 0)) (b.exp (a.exp 0))
    decide (a.scaled e < b.scaled e)
def fpEq (a b : Fp) : Bool :=
  match a, b with
  | .nan _, _ => false
  | _, .nan _ => false
  | a, b => !fpLt false a b && !fpLt false b a

/-- FMIN and FMAX (R93). -/
def Fmt.minmax (f : Fmt) (v : FEnv) (mx : Bool) (x y : Nat) : FRes :=
  let a := f.decode v.ftz x
  let b := f.decode v.ftz y
  let fl : FFlags := { nv := a.isSig || b.isSig }
  let r := if a.isNan then b else if b.isNan then a
    else if mx then (if fpLt true a b then b else a) else (if fpLt true b a then b else a)
  { bits := f.encode r, fl := fl }

/-- FEQ, FLT, FLE (R96): the answer and its flags. -/
def Fmt.cmp (f : Fmt) (v : FEnv) (op : Nat) (x y : Nat) : Bool × FFlags :=
  let a := f.decode v.ftz x
  let b := f.decode v.ftz y
  if a.isNan || b.isNan then (false, { nv := if op = 0 then a.isSig || b.isSig else true })
  else (if op = 0 then fpEq a b else if op = 1 then fpLt false a b else !fpLt false b a, {})

/-- Whether an operand is subnormal after any flush (R107). -/
def Fmt.subOp (f : Fmt) (v : FEnv) (x : Nat) : Bool := (f.decode v.ftz x).isSub

/-- A finite operand rounded to an integer: the value and exactness. -/
def fpToInt (rm : Nat) (a : Fp) : Int × Bool :=
  match a with
  | .fin s m e _ => let r := roundAt rm s m e 0 false; ((if s then -1 else 1) * (r.1 : Int), r.2)
  | _ => (0, true)

/-- FCVTLF and FCVTLUF (R95). -/
def Fmt.toInt (f : Fmt) (v : FEnv) (unsig : Bool) (x : Nat) : W64 × FFlags :=
  let top : W64 := if unsig then 0xFFFFFFFFFFFFFFFF else 0x7FFFFFFFFFFFFFFF
  let bot : W64 := if unsig then 0 else 0x8000000000000000
  match f.decode v.ftz x with
  | .nan _ => (top, { nv := true })
  | .inf s => (if s then bot else top, { nv := true })
  | .zero _ => (0, {})
  | a =>
    let r := fpToInt v.rm a
    let lo : Int := if unsig then 0 else -(2 ^ 63)
    let hi : Int := if unsig then 2 ^ 64 - 1 else 2 ^ 63 - 1
    if r.1 < lo then (bot, { nv := true })
    else if hi < r.1 then (top, { nv := true })
    else (BitVec.ofInt 64 r.1, { nx := !r.2 })

/-- FCVTFL and FCVTFLU (R94). -/
def Fmt.ofInt (f : Fmt) (v : FEnv) (i : Int) : FRes := f.roundInt v i 0 false

/-- FRINT (R94). -/
def Fmt.rint (f : Fmt) (v : FEnv) (x : Nat) : FRes :=
  match f.decode v.ftz x with
  | .nan g => f.nanRes g
  | .fin s m e b =>
    let r := fpToInt v.rm (.fin s m e b)
    let q := f.roundInt v r.1 0 s
    { bits := q.bits, fl := { nx := !r.2 } }
  | a => { bits := f.encode a }

/-- Conversion between the formats (R94). -/
def fcvt (src dst : Fmt) (v : FEnv) (x : Nat) : FRes :=
  match src.decode v.ftz x with
  | .nan g => dst.nanRes g
  | .inf s => { bits := dst.infBits s }
  | .zero s => { bits := dst.signBit s }
  | .fin s m e _ => dst.round v.rm v.ftz v.ufEn s m e false

/-- The class of R96: [2:0] class, [3] zero, [4] sign. -/
def Fmt.classify (f : Fmt) (x : Nat) : W64 :=
  let s := x.testBit (f.width - 1)
  let c := match f.decode false x with
    | .zero _ => 0
    | .fin _ _ _ b => if b then 1 else 2
    | .inf _ => 3
    | .nan g => if g then 5 else 4
  BitVec.ofNat 64 (c + s.toNat * 16)

/-! ### Steps of division and square root (R97–R100) -/

/-- Steps of a full sequence (R98). -/
def Fmt.steps (f : Fmt) : Nat := if f.p = 53 then 27 else 13

/-- Significand normalised to p bits, with the exponent that goes with it. -/
def Fmt.norm (f : Fmt) (m : Nat) (e : Int) : Nat × Int :=
  let k := f.p - bitLen m
  (m * 2 ^ k, e - k)

/-- The pair of f registers: DIG, CNT, P and K in the base, the remainder in the other (R98). -/
structure FPair where
  dig : Nat
  rem : Nat
  cnt : Nat
  p : Bool
  k : Bool
deriving DecidableEq, Repr

/-- The opaque fields of the pair hide the digits and the remainder behind constants of the part (R98). DESIGN CHOICE (log entry 90). -/
def FPair.enc (a : FPair) : W64 × W64 :=
  (BitVec.ofNat 64 (a.k.toNat * 2 ^ 63 + a.p.toNat * 2 ^ 62 + (a.cnt % 64) * 2 ^ 56 +
      (BitVec.ofNat 56 a.dig ^^^ Config.digMask).toNat),
    BitVec.ofNat 64 a.rem ^^^ Config.remMask)
/-- DESIGN CHOICE (log entry 90). -/
def FPair.dec (lo hi : W64) : FPair :=
  { dig := (lo.setWidth 56 ^^^ Config.digMask).toNat, rem := (hi ^^^ Config.remMask).toNat
    cnt := fld lo 56 6, p := bitAt lo 62, k := bitAt lo 63 }

/-- The pair after a division's setup (R98); a special operand leaves zeros. DESIGN CHOICE (log entry 116). -/
def fdSetup (p : Bool) (v : FEnv) (x y : Nat) : FPair :=
  let f := fmtOf p
  match f.decode v.ftz x, f.decode v.ftz y with
  | .fin _ m e _, .fin _ _ _ _ => { dig := 0, rem := (f.norm m e).1, cnt := 0, p := p, k := false }
  | _, _ => { dig := 0, rem := 0, cnt := f.steps, p := p, k := false }

/-- One radix-4 digit of a quotient (R99); the digit is 0 where the divisor is not a nonzero number. DESIGN CHOICE (log entry 116). -/
def fdStep (p : Bool) (v : FEnv) (y : Nat) (a : FPair) : FPair :=
  let f := fmtOf p
  if a.k ∨ a.p ≠ p ∨ f.steps ≤ a.cnt then a
  else match f.decode v.ftz y with
    | .fin _ n g _ =>
      let d := (f.norm n g).1
      { a with dig := (a.dig * 4 + a.rem * 4 / d) % 2 ^ 56, rem := a.rem * 4 % d, cnt := a.cnt + 1 }
    | _ => { a with dig := a.dig * 4 % 2 ^ 56, cnt := a.cnt + 1 }

/-- The finish of a division (R100). -/
def fdFin (p : Bool) (v : FEnv) (x y : Nat) (a : FPair) : FRes :=
  let f := fmtOf p
  if a.k ∨ a.p ≠ p ∨ a.cnt < f.steps then f.nanRes true
  else
    let u := f.decode v.ftz x
    let w := f.decode v.ftz y
    let s := u.sign != w.sign
    if u.isNan || w.isNan then f.nanRes (u.isSig || w.isSig)
    else match u, w with
      | .inf _, .inf _ => f.nanRes true
      | .zero _, .zero _ => f.nanRes true
      | .inf _, _ => { bits := f.infBits s }
      | _, .inf _ => { bits := f.signBit s }
      | .zero _, _ => { bits := f.signBit s }
      | _, .zero _ => { bits := f.infBits s, fl := { dz := true } }
      | .fin _ m e _, .fin _ n g _ =>
        f.round v.rm v.ftz v.ufEn s a.dig ((f.norm m e).2 - (f.norm n g).2 - 2 * f.steps) (decide (a.rem ≠ 0))
      | _, _ => f.nanRes true

/-- A square root's operand: significand in [2^(2K−2), 2^(2K)) with an even exponent, K the steps of the format. -/
def Fmt.sqrtNorm (f : Fmt) (m : Nat) (e : Int) : Nat × Int :=
  let r := f.norm m e
  let sh := 2 * f.steps - 1 - f.p
  let e1 := r.2 - sh
  if e1 % 2 = 0 then (r.1 * 2 ^ sh, e1) else (r.1 * 2 ^ (sh + 1), e1 - 1)

/-- The pair after a square root's setup (R98); a special operand leaves zeros. DESIGN CHOICE (log entry 116). -/
def fsSetup (p : Bool) (v : FEnv) (x : Nat) : FPair :=
  let f := fmtOf p
  match f.decode v.ftz x with
  | .fin false m e _ => { dig := 0, rem := (f.sqrtNorm m e).1, cnt := 0, p := p, k := true }
  | _ => { dig := 0, rem := 0, cnt := f.steps, p := p, k := true }

/-- One radix-4 digit of a square root (R99). -/
def fsStep (p : Bool) (a : FPair) : FPair :=
  let f := fmtOf p
  if !a.k ∨ a.p ≠ p ∨ f.steps ≤ a.cnt then a
  else
    let un (i : Nat) := 4 * i - 2 * f.steps
    let t := a.rem * 2 ^ (un (a.cnt + 1) - un a.cnt)
    let c := 2 ^ (2 * f.steps + un (a.cnt + 1) - 4 * (a.cnt + 1))
    let cost (d : Nat) := (8 * a.dig * d + d * d) * c
    let d := if cost 3 ≤ t then 3 else if cost 2 ≤ t then 2 else if cost 1 ≤ t then 1 else 0
    { a with dig := (a.dig * 4 + d) % 2 ^ 56, rem := t - cost d, cnt := a.cnt + 1 }

/-- The finish of a square root (R100). -/
def fsFin (p : Bool) (v : FEnv) (x : Nat) (a : FPair) : FRes :=
  let f := fmtOf p
  if !a.k ∨ a.p ≠ p ∨ a.cnt < f.steps then f.nanRes true
  else match f.decode v.ftz x with
    | .nan g => f.nanRes g
    | .zero s => { bits := f.signBit s }
    | .inf s => if s then f.nanRes true else { bits := f.infBits false }
    | .fin s m e _ =>
      if s then f.nanRes true
      else f.round v.rm v.ftz v.ufEn false a.dig ((f.sqrtNorm m e).2 / 2 - f.steps) (decide (a.rem ≠ 0))

end Sys2Proof.Machine
end

