-- ==== Sys2Proof/Machine/Float.lean ====
section
/-! DEFINITION. Sys2Proof/Machine/Float.lean: scalar floating point, majors 0x24–0x27 (R87–R102). -/

namespace Sys2Proof.Machine

/-- func of majors 0x24–0x27 (R87). -/
def fpFunc (rm : BitVec 3) (p : Bool) (op : Nat) : Nat := rm.toNat * 256 + p.toNat * 128 + op

/-- The rounding direction of an rm field (R88): DYN takes FCSR.RM; none where the mode is reserved. -/
def State.rmOf (s : State) (x : Nat) (rm : BitVec 3) : Option Nat :=
  let r := if rm = 0 then fld (s.xcsr x csrFcsr) 0 3 else rm.toNat
  if 1 ≤ r ∧ r ≤ 5 then some r else none

/-- The environment of FCSR (R89, R90). -/
def State.fenv (s : State) (x rm : Nat) : FEnv :=
  { rm := rm, ftz := bitAt (s.xcsr x csrFcsr) 3, ufEn := bitAt (s.xcsr x csrFcsr) 12 }

/-- An operand of format P: a binary32 one is bits [31:0] (R87). -/
def State.fop (s : State) (x : Nat) (p : Bool) (r : Reg5) : Nat :=
  let v := (s.f x r.toNat).toNat
  if p then v % 2 ^ 32 else v
/-- A result of format P: bits [63:32] of a binary32 one are all-ones (R35). -/
def State.setFop (s : State) (x : Nat) (p : Bool) (r : Reg5) (b : Nat) : State :=
  s.setF x r.toNat (BitVec.ofNat 64 (if p then 0xFFFFFFFF00000000 + b % 2 ^ 32 else b))

/-- A rounding operation on f registers (R92): rd is an operand of the fused forms. Times per R107. -/
def fpArith (x : CtxId) (op : Nat) (rm : BitVec 3) (p : Bool) (rd rs1 rs2 : Reg5) (useRd : Bool) (t : Nat)
    (fn : Fmt → FEnv → Nat → Nat → Nat → FRes) (s : State) : State :=
  let w := encA 0x24 rd rs1 rs2 (fpFunc rm p op)
  let i := ctxIdx x
  issue i { word := w, srcs := [lf rs1, lf rs2] ++ (if useRd then [lf rd] else []), dsts := [lf rd] }
    (fun s =>
      match s.rmOf i rm with
      | none => .trap s (trapIllegal w)
      | some r =>
        let f := fmtOf p
        let v := s.fenv i r
        let a := s.fop i p rs1
        let b := s.fop i p rs2
        let c := s.fop i p rd
        let q := fn f v a b c
        let sub := f.subOp v a || f.subOp v b || (useRd && f.subOp v c) || q.sub
        (s.setTime i (if sub then t + 2 else t) (t + 2)).raiseFp i q.fl (fun s => s.setFop i p rd q.bits)) s

/-- An operation of major 0x24 that does not round (R92, R93). -/
def fpPlain (x : CtxId) (op : Nat) (p : Bool) (rd rs1 rs2 : Reg5) (t : Nat)
    (fn : Fmt → FEnv → Nat → Nat → FRes) (s : State) : State :=
  let i := ctxIdx x
  issue i { word := encA 0x24 rd rs1 rs2 (fpFunc 0 p op), srcs := [lf rs1, lf rs2], dsts := [lf rd] }
    (fun s =>
      let q := fn (fmtOf p) (s.fenv i 1) (s.fop i p rs1) (s.fop i p rs2)
      (s.setTime i t t).raiseFp i q.fl (fun s => s.setFop i p rd q.bits)) s

/-- A comparison of major 0x27 (R96). -/
def fpCmp (x : CtxId) (op : Nat) (p : Bool) (rd rs1 rs2 : Reg5) (s : State) : State :=
  let i := ctxIdx x
  issue i { word := encA 0x27 rd rs1 rs2 (fpFunc 0 p op), srcs := [lf rs1, lf rs2], dsts := [lg rd] }
    (fun s =>
      let q := (fmtOf p).cmp (s.fenv i 1) op (s.fop i p rs1) (s.fop i p rs2)
      (s.setTime i 2 2).raiseFp i q.2 (fun s => s.setG i rd.toNat (ofBool64 q.1))) s

/-- An operation of major 0x26 that rounds (R94). -/
def fpConv (x : CtxId) (op : Nat) (rm : BitVec 3) (p : Bool) (rd rs1 : Reg5) (src dst : Loc)
    (fn : Nat → FEnv → State → FRes × Bool × (State → State)) (s : State) : State :=
  let w := encA 0x26 rd rs1 0 (fpFunc rm p op)
  let i := ctxIdx x
  issue i { word := w, srcs := [src], dsts := [dst] }
    (fun s =>
      match s.rmOf i rm with
      | none => .trap s (trapIllegal w)
      | some r =>
        let q := fn i (s.fenv i r) s
        (s.setTime i (if q.2.1 || q.1.sub then 5 else 3) 5).raiseFp i q.1.fl q.2.2) s

/-- FADD (R92). -/
def execFadd (x : CtxId) (rm : BitVec 3) (p : Bool) (rd rs1 rs2 : Reg5) (s : State) : Out :=
  .next (fpArith x 0 rm p rd rs1 rs2 false 4 (fun f v a b _ => f.add v false a b) s)

/-- FSUB (R92). -/
def execFsub (x : CtxId) (rm : BitVec 3) (p : Bool) (rd rs1 rs2 : Reg5) (s : State) : Out :=
  .next (fpArith x 1 rm p rd rs1 rs2 false 4 (fun f v a b _ => f.add v true a b) s)

/-- FMUL (R92). -/
def execFmul (x : CtxId) (rm : BitVec 3) (p : Bool) (rd rs1 rs2 : Reg5) (s : State) : Out :=
  .next (fpArith x 2 rm p rd rs1 rs2 false 4 (fun f v a b _ => f.mul v a b) s)

/-- FMA (R92). -/
def execFma (x : CtxId) (rm : BitVec 3) (p : Bool) (rd rs1 rs2 : Reg5) (s : State) : Out :=
  .next (fpArith x 3 rm p rd rs1 rs2 true 5 (fun f v a b c => f.fma v false false a b c) s)

/-- FMS (R92). -/
def execFms (x : CtxId) (rm : BitVec 3) (p : Bool) (rd rs1 rs2 : Reg5) (s : State) : Out :=
  .next (fpArith x 4 rm p rd rs1 rs2 true 5 (fun f v a b c => f.fma v false true a b c) s)

/-- FNMA (R92). -/
def execFnma (x : CtxId) (rm : BitVec 3) (p : Bool) (rd rs1 rs2 : Reg5) (s : State) : Out :=
  .next (fpArith x 5 rm p rd rs1 rs2 true 5 (fun f v a b c => f.fma v true false a b c) s)

/-- FNMS (R92). -/
def execFnms (x : CtxId) (rm : BitVec 3) (p : Bool) (rd rs1 rs2 : Reg5) (s : State) : Out :=
  .next (fpArith x 6 rm p rd rs1 rs2 true 5 (fun f v a b c => f.fma v true true a b c) s)

/-- FMIN (R92, R93). -/
def execFmin (x : CtxId) (p : Bool) (rd rs1 rs2 : Reg5) (s : State) : Out :=
  .next (fpPlain x 8 p rd rs1 rs2 2 (fun f v a b => f.minmax v false a b) s)

/-- FMAX (R92, R93). -/
def execFmax (x : CtxId) (p : Bool) (rd rs1 rs2 : Reg5) (s : State) : Out :=
  .next (fpPlain x 9 p rd rs1 rs2 2 (fun f v a b => f.minmax v true a b) s)

/-- FSGNJ (R92, R93). -/
def execFsgnj (x : CtxId) (p : Bool) (rd rs1 rs2 : Reg5) (s : State) : Out :=
  .next (fpPlain x 10 p rd rs1 rs2 1 (fun f _ a b => { bits := a % 2 ^ (f.width - 1) + f.signBit (b.testBit (f.width - 1)) }) s)

/-- FSGNJN (R92, R93). -/
def execFsgnjn (x : CtxId) (p : Bool) (rd rs1 rs2 : Reg5) (s : State) : Out :=
  .next (fpPlain x 11 p rd rs1 rs2 1 (fun f _ a b => { bits := a % 2 ^ (f.width - 1) + f.signBit (!b.testBit (f.width - 1)) }) s)

/-- FSGNJX (R92, R93). -/
def execFsgnjx (x : CtxId) (p : Bool) (rd rs1 rs2 : Reg5) (s : State) : Out :=
  .next (fpPlain x 12 p rd rs1 rs2 1 (fun f _ a b => { bits := a % 2 ^ (f.width - 1) + f.signBit (a.testBit (f.width - 1) != b.testBit (f.width - 1)) }) s)

/-- FEQ (R96). -/
def execFeq (x : CtxId) (p : Bool) (rd rs1 rs2 : Reg5) (s : State) : Out := .next (fpCmp x 0 p rd rs1 rs2 s)

/-- FLT (R96). -/
def execFlt (x : CtxId) (p : Bool) (rd rs1 rs2 : Reg5) (s : State) : Out := .next (fpCmp x 1 p rd rs1 rs2 s)

/-- FLE (R96). -/
def execFle (x : CtxId) (p : Bool) (rd rs1 rs2 : Reg5) (s : State) : Out := .next (fpCmp x 2 p rd rs1 rs2 s)

/-- FCVTSD (R94): binary64 to binary32. -/
def execFcvtsd (x : CtxId) (rm : BitVec 3) (rd rs1 : Reg5) (s : State) : Out :=
  .next (fpConv x 0 rm false rd rs1 (lf rs1) (lf rd)
    (fun i v s =>
      let a := s.fop i false rs1
      let q := fcvt fmt64 fmt32 v a
      (q, fmt64.subOp v a, fun s => s.setFop i true rd q.bits)) s)

/-- FCVTDS (R94): binary32 to binary64, exact; rm must be 0 and does not round. -/
def execFcvtds (x : CtxId) (rd rs1 : Reg5) (s : State) : Out :=
  let i := ctxIdx x
  .next (issue i { word := encA 0x26 rd rs1 0 (fpFunc 0 false 1), srcs := [lf rs1], dsts := [lf rd] }
    (fun s =>
      let v := s.fenv i 1
      let a := s.fop i true rs1
      let q := fcvt fmt32 fmt64 v a
      (s.setTime i (if fmt32.subOp v a || q.sub then 5 else 3) 5).raiseFp i q.fl (fun s => s.setFop i false rd q.bits)) s)

/-- FCVTLF (R94, R95). -/
def execFcvtlf (x : CtxId) (rm : BitVec 3) (p : Bool) (rd rs1 : Reg5) (s : State) : Out :=
  .next (fpConv x 2 rm p rd rs1 (lf rs1) (lg rd)
    (fun i v s =>
      let a := s.fop i p rs1
      let q := (fmtOf p).toInt v false a
      ({ bits := 0, fl := q.2 }, (fmtOf p).subOp v a, fun s => s.setG i rd.toNat q.1)) s)

/-- FCVTLUF (R94, R95). -/
def execFcvtluf (x : CtxId) (rm : BitVec 3) (p : Bool) (rd rs1 : Reg5) (s : State) : Out :=
  .next (fpConv x 3 rm p rd rs1 (lf rs1) (lg rd)
    (fun i v s =>
      let a := s.fop i p rs1
      let q := (fmtOf p).toInt v true a
      ({ bits := 0, fl := q.2 }, (fmtOf p).subOp v a, fun s => s.setG i rd.toNat q.1)) s)

/-- FCVTFL (R94). -/
def execFcvtfl (x : CtxId) (rm : BitVec 3) (p : Bool) (rd rs1 : Reg5) (s : State) : Out :=
  .next (fpConv x 4 rm p rd rs1 (lg rs1) (lf rd)
    (fun i v s =>
      let q := (fmtOf p).ofInt v (s.g i rs1.toNat).toInt
      (q, false, fun s => s.setFop i p rd q.bits)) s)

/-- FCVTFLU (R94). -/
def execFcvtflu (x : CtxId) (rm : BitVec 3) (p : Bool) (rd rs1 : Reg5) (s : State) : Out :=
  .next (fpConv x 5 rm p rd rs1 (lg rs1) (lf rd)
    (fun i v s =>
      let q := (fmtOf p).ofInt v ((s.g i rs1.toNat).toNat : Int)
      (q, false, fun s => s.setFop i p rd q.bits)) s)

/-- FRINT (R94). -/
def execFrint (x : CtxId) (rm : BitVec 3) (p : Bool) (rd rs1 : Reg5) (s : State) : Out :=
  .next (fpConv x 6 rm p rd rs1 (lf rs1) (lf rd)
    (fun i v s =>
      let a := s.fop i p rs1
      let q := (fmtOf p).rint v a
      (q, (fmtOf p).subOp v a, fun s => s.setFop i p rd q.bits)) s)

/-- FMVGF (R94): a copy of bits, sign-extended from 32 with P = 1. -/
def execFmvgf (x : CtxId) (p : Bool) (rd rs1 : Reg5) (s : State) : Out :=
  let i := ctxIdx x
  .next (issue i { word := encA 0x26 rd rs1 0 (fpFunc 0 p 7), srcs := [lf rs1], dsts := [lg rd] }
    (fun s =>
      let v := s.f i rs1.toNat
      .ok (s.setG i rd.toNat (if p then sextTo64 32 v else v))) s)

/-- FMVFG (R94). -/
def execFmvfg (x : CtxId) (p : Bool) (rd rs1 : Reg5) (s : State) : Out :=
  let i := ctxIdx x
  .next (issue i { word := encA 0x26 rd rs1 0 (fpFunc 0 p 8), srcs := [lg rs1], dsts := [lf rd] }
    (fun s => .ok (s.setFop i p rd (s.g i rs1.toNat).toNat)) s)

/-- FCLASS (R96). -/
def execFclass (x : CtxId) (p : Bool) (rd rs1 : Reg5) (s : State) : Out :=
  let i := ctxIdx x
  .next (issue i { word := encA 0x27 rd rs1 0 (fpFunc 0 p 3), srcs := [lf rs1], dsts := [lg rd] }
    (fun s => .ok (s.setG i rd.toNat ((fmtOf p).classify (s.fop i p rs1)))) s)

/-! ### Steps (R97–R100) -/

def State.fpair (s : State) (x : Nat) (rd : Reg5) : FPair := FPair.dec (s.f x rd.toNat) (s.f x (rd.toNat + 1))
def State.setFpair (s : State) (x : Nat) (rd : Reg5) (a : FPair) : State :=
  (s.setF x rd.toNat a.enc.1).setF x (rd.toNat + 1) a.enc.2

/-- A step instruction: the pair base is even and no source operand lies in the pair (R97). -/
def fpStepOp (x : CtxId) (op : Nat) (rm : BitVec 3) (p : Bool) (rd rs1 rs2 : Reg5) (srcs : List Reg5) (pairSrc : Bool)
    (pairDst : Bool) (body : Nat → BitVec 32 → State → Eff) (s : State) : State :=
  let w := encA 0x25 rd rs1 rs2 (fpFunc rm p op)
  let i := ctxIdx x
  let pair : List Loc := [lf rd, .f (rd.toNat + 1)]
  issue i { word := w, srcs := srcs.map lf ++ (if pairSrc then pair else []), dsts := if pairDst then pair else [lf rd] }
    (fun s =>
      if rd.toNat % 2 ≠ 0 ∨ srcs.any (fun r => r == rd || decide (r.toNat = rd.toNat + 1)) then .trap s (trapIllegal w)
      else body i w s) s

/-- FDSETUP (R97, R98). -/
def execFdsetup (x : CtxId) (p : Bool) (rd rs1 rs2 : Reg5) (s : State) : Out :=
  .next (fpStepOp x 0 0 p rd rs1 rs2 [rs1, rs2] false true
    (fun i _ s =>
      let v := s.fenv i 1
      let a := s.fop i p rs1
      let b := s.fop i p rs2
      let sub := (fmtOf p).subOp v a || (fmtOf p).subOp v b
      .ok ((s.setTime i (if sub then 4 else 2) 4).setFpair i rd (fdSetup p v a b))) s)

/-- FDSTEP (R97, R99). -/
def execFdstep (x : CtxId) (p : Bool) (rd rs2 : Reg5) (s : State) : Out :=
  .next (fpStepOp x 1 0 p rd 0 rs2 [rs2] true true
    (fun i _ s => .ok (s.setFpair i rd (fdStep p (s.fenv i 1) (s.fop i p rs2) (s.fpair i rd)))) s)

/-- FDFIN (R97, R100). -/
def execFdfin (x : CtxId) (rm : BitVec 3) (p : Bool) (rd rs1 rs2 : Reg5) (s : State) : Out :=
  .next (fpStepOp x 2 rm p rd rs1 rs2 [rs1, rs2] true false
    (fun i w s =>
      match s.rmOf i rm with
      | none => .trap s (trapIllegal w)
      | some r =>
        let q := fdFin p (s.fenv i r) (s.fop i p rs1) (s.fop i p rs2) (s.fpair i rd)
        (s.setTime i (if q.sub then 5 else 3) 5).raiseFp i q.fl (fun s => s.setFop i p rd q.bits)) s)

/-- FSSETUP (R97, R98). -/
def execFssetup (x : CtxId) (p : Bool) (rd rs1 : Reg5) (s : State) : Out :=
  .next (fpStepOp x 3 0 p rd rs1 0 [rs1] false true
    (fun i _ s =>
      let v := s.fenv i 1
      let a := s.fop i p rs1
      .ok ((s.setTime i (if (fmtOf p).subOp v a then 4 else 2) 4).setFpair i rd (fsSetup p v a))) s)

/-- FSSTEP (R97, R99). -/
def execFsstep (x : CtxId) (p : Bool) (rd : Reg5) (s : State) : Out :=
  .next (fpStepOp x 4 0 p rd 0 0 [] true true
    (fun i _ s => .ok (s.setFpair i rd (fsStep p (s.fpair i rd)))) s)

/-- FSFIN (R97, R100). -/
def execFsfin (x : CtxId) (rm : BitVec 3) (p : Bool) (rd rs1 : Reg5) (s : State) : Out :=
  .next (fpStepOp x 5 rm p rd rs1 0 [rs1] true false
    (fun i w s =>
      match s.rmOf i rm with
      | none => .trap s (trapIllegal w)
      | some r =>
        let q := fsFin p (s.fenv i r) (s.fop i p rs1) (s.fpair i rd)
        (s.setTime i 3 3).raiseFp i q.fl (fun s => s.setFop i p rd q.bits)) s)

end Sys2Proof.Machine
end

