-- ==== Sys2Proof/Machine/Vector.lean ====
section
/-! DEFINITION. Sys2Proof/Machine/Vector.lean: vector integer, logic, fixed-point and permute instructions, majors 0x2A, 0x2B,
0x2C and 0x2F (R117–R120, R132). -/

namespace Sys2Proof.Machine

/-- The passes of an instruction over the register width (R132). -/
def State.vpass (s : State) (x : Nat) : Nat := ceilDiv (s.vwidth x) 256
/-- A vector instruction's time: listed times plus passes less one (R132). -/
def State.vtime (s : State) (x service sealed : Nat) : State :=
  s.setTime x (service + s.vpass x - 1) (sealed + s.vpass x - 1)

/-- An element-wise operation on two vectors (R118). -/
def vecEl (x : CtxId) (maj op : Nat) (ew : BitVec 2) (o : VF) (t : Nat) (fn : Nat → Nat → Nat → Nat) (s : State) : State :=
  vecIssue x (encV maj o (ew.toNat * 8 + op)) o .v .v .v true true
    (fun i s =>
      let w := ewBits ew
      .ok ((s.vtime i t t).vwrite i o w
        (fun k => fn w (s.vel i (vnum o.xs1 o.vs1) w k) (s.vel i (vnum o.xs2 o.vs2) w k)))) s

/-- A fixed-point operation on elements; SAT sets when an active element saturates (R120). -/
def vecFix (x : CtxId) (op : Nat) (ew : BitVec 2) (o : VF) (t : Nat) (s : State) : State :=
  vecIssue x (encV 0x2C o (ew.toNat * 8 + op)) o .v .v .v true true
    (fun i s =>
      let w := ewBits ew
      let r := fun k => fixOp op w (s.vel i (vnum o.xs1 o.vs1) w k) (s.vel i (vnum o.xs2 o.vs2) w k)
      .ok (((s.vtime i t t).vwrite i o w (fun k => (r k).1)).setSat i
        ((s.actives i o.pg (s.vl i w)).any fun k => (r k).2))) s

/-- VADD (R118). -/
def execVadd (x : CtxId) (ew : BitVec 2) (o : VF) (s : State) : Out :=
  .next (vecEl x 0x2a 0 ew o 1 (fun _ a b => a + b) s)

/-- VSUB (R118). -/
def execVsub (x : CtxId) (ew : BitVec 2) (o : VF) (s : State) : Out :=
  .next (vecEl x 0x2a 1 ew o 1 (fun w a b => a + 2 ^ w - b) s)

/-- VMUL (R118). -/
def execVmul (x : CtxId) (ew : BitVec 2) (o : VF) (s : State) : Out :=
  .next (vecEl x 0x2a 2 ew o 4 (fun _ a b => a * b) s)

/-- VMULH (R118). -/
def execVmulh (x : CtxId) (ew : BitVec 2) (o : VF) (s : State) : Out :=
  .next (vecEl x 0x2a 3 ew o 4 (fun w a b => pat w (sgn w a * sgn w b / 2 ^ w)) s)

/-- VMIN (R118). -/
def execVmin (x : CtxId) (ew : BitVec 2) (o : VF) (s : State) : Out :=
  .next (vecEl x 0x2a 4 ew o 1 (fun w a b => if sgn w a ≤ sgn w b then a else b) s)

/-- VMAX (R118). -/
def execVmax (x : CtxId) (ew : BitVec 2) (o : VF) (s : State) : Out :=
  .next (vecEl x 0x2a 5 ew o 1 (fun w a b => if sgn w a ≤ sgn w b then b else a) s)

/-- VMINU (R118). -/
def execVminu (x : CtxId) (ew : BitVec 2) (o : VF) (s : State) : Out :=
  .next (vecEl x 0x2a 6 ew o 1 (fun _ a b => min a b) s)

/-- VMAXU (R118). -/
def execVmaxu (x : CtxId) (ew : BitVec 2) (o : VF) (s : State) : Out :=
  .next (vecEl x 0x2a 7 ew o 1 (fun _ a b => max a b) s)

/-- VAND (R118). -/
def execVand (x : CtxId) (ew : BitVec 2) (o : VF) (s : State) : Out :=
  .next (vecEl x 0x2b 0 ew o 1 (fun _ a b => a &&& b) s)

/-- VOR (R118). -/
def execVor (x : CtxId) (ew : BitVec 2) (o : VF) (s : State) : Out :=
  .next (vecEl x 0x2b 1 ew o 1 (fun _ a b => a ||| b) s)

/-- VXOR (R118). -/
def execVxor (x : CtxId) (ew : BitVec 2) (o : VF) (s : State) : Out :=
  .next (vecEl x 0x2b 2 ew o 1 (fun _ a b => a ^^^ b) s)

/-- VANDN (R118). -/
def execVandn (x : CtxId) (ew : BitVec 2) (o : VF) (s : State) : Out :=
  .next (vecEl x 0x2b 3 ew o 1 (fun w a b => a &&& (b ^^^ (2 ^ w - 1))) s)

/-- VSHL (R118). -/
def execVshl (x : CtxId) (ew : BitVec 2) (o : VF) (s : State) : Out :=
  .next (vecEl x 0x2b 4 ew o 1 (fun w a b => a * 2 ^ (b % w)) s)

/-- VSHR (R118). -/
def execVshr (x : CtxId) (ew : BitVec 2) (o : VF) (s : State) : Out :=
  .next (vecEl x 0x2b 5 ew o 1 (fun w a b => a / 2 ^ (b % w)) s)

/-- VSAR (R118). -/
def execVsar (x : CtxId) (ew : BitVec 2) (o : VF) (s : State) : Out :=
  .next (vecEl x 0x2b 6 ew o 1 (fun w a b => pat w (sgn w a / 2 ^ (b % w))) s)

/-- VSADD (R120). -/
def execVsadd (x : CtxId) (ew : BitVec 2) (o : VF) (s : State) : Out :=
  .next (vecFix x 0 ew o 1 s)

/-- VSADDU (R120). -/
def execVsaddu (x : CtxId) (ew : BitVec 2) (o : VF) (s : State) : Out :=
  .next (vecFix x 1 ew o 1 s)

/-- VSSUB (R120). -/
def execVssub (x : CtxId) (ew : BitVec 2) (o : VF) (s : State) : Out :=
  .next (vecFix x 2 ew o 1 s)

/-- VSSUBU (R120). -/
def execVssubu (x : CtxId) (ew : BitVec 2) (o : VF) (s : State) : Out :=
  .next (vecFix x 3 ew o 1 s)

/-- VQMULE (R120). -/
def execVqmule (x : CtxId) (ew : BitVec 2) (o : VF) (s : State) : Out :=
  .next (vecFix x 4 ew o 4 s)

/-- VQMULA (R120). -/
def execVqmula (x : CtxId) (ew : BitVec 2) (o : VF) (s : State) : Out :=
  .next (vecFix x 5 ew o 4 s)

/-- VRSHRE (R120). -/
def execVrshre (x : CtxId) (ew : BitVec 2) (o : VF) (s : State) : Out :=
  .next (vecFix x 6 ew o 1 s)

/-- VRSHRA (R120). -/
def execVrshra (x : CtxId) (ew : BitVec 2) (o : VF) (s : State) : Out :=
  .next (vecFix x 7 ew o 1 s)

/-- VIOTA (R118): element i receives i; vs1 and vs2 are unused. -/
def execViota (x : CtxId) (ew : BitVec 2) (o : VF) (s : State) : Out :=
  .next (vecIssue x (encV 0x2B o (ew.toNat * 8 + 7)) o .v .none .none true true
    (fun i s => .ok ((s.vtime i 1 1).vwrite i o (ewBits ew) (fun k => k))) s)

/-- VSPLAT (R119). -/
def execVsplat (x : CtxId) (ew : BitVec 2) (o : VF) (s : State) : Out :=
  .next (vecIssue x (encV 0x2F o (ew.toNat * 8)) o .v .g .none true true
    (fun i s => .ok ((s.vtime i 1 1).vwrite i o (ewBits ew) (fun _ => (s.g i o.vs1.toNat).toNat))) s)

/-- VEXT (R119): not predicated; 0 for an index at VL or above. -/
def execVext (x : CtxId) (ew : BitVec 2) (o : VF) (s : State) : Out :=
  .next (vecIssue x (encV 0x2F o (ew.toNat * 8 + 1)) o .g .v .g (o.pg == 0) true
    (fun i s =>
      let w := ewBits ew
      let k := (s.g i o.vs2.toNat).toNat
      let v := if k < s.vl i w then s.vel i (vnum o.xs1 o.vs1) w k else 0
      .ok ((s.vtime i 2 2).setG i o.vd.toNat (BitVec.ofNat 64 v))) s)

/-- VINS (R119): not predicated; no effect for an index at VL or above. -/
def execVins (x : CtxId) (ew : BitVec 2) (o : VF) (s : State) : Out :=
  .next (vecIssue x (encV 0x2F o (ew.toNat * 8 + 2)) o .v .g .g (o.pg == 0) true
    (fun i s =>
      let w := ewBits ew
      let k := (s.g i o.vs2.toNat).toNat
      let s := s.vtime i 1 1
      .ok (if k < s.vl i w then s.setVel i (vnum o.xd o.vd) w k (s.g i o.vs1.toNat).toNat else s)) s)

/-- VPERM (R119): vd must not overlap vs1 or vs2. -/
def execVperm (x : CtxId) (ew : BitVec 2) (o : VF) (s : State) : Out :=
  let wd := encV 0x2F o (ew.toNat * 8 + 3)
  .next (vecIssue x wd o .v .v .v true true
    (fun i s =>
      let w := ewBits ew
      let g := s.vgroup i
      let d := vnum o.xd o.vd
      if overlap g d (vnum o.xs1 o.vs1) || overlap g d (vnum o.xs2 o.vs2) then .trap s (trapIllegal wd) else
      let fn := fun k =>
        let j := s.vel i (vnum o.xs2 o.vs2) w k
        if j < s.vl i w then s.vel i (vnum o.xs1 o.vs1) w j else 0
      .ok ((s.setTime i (2 * s.vpass i) (2 * s.vpass i)).vwrite i o w fn)) s)

/-- VCOMP (R119): the active elements of vs1 packed downwards, the rest of vd zero; vd must not overlap vs1. -/
def execVcomp (x : CtxId) (ew : BitVec 2) (o : VF) (s : State) : Out :=
  let wd := encV 0x2F o (ew.toNat * 8 + 4)
  .next (vecIssue x wd o .v .v .none true true
    (fun i s =>
      let w := ewBits ew
      let vl := s.vl i w
      let d := vnum o.xd o.vd
      if overlap (s.vgroup i) d (vnum o.xs1 o.vs1) then .trap s (trapIllegal wd) else
      let vals := (s.actives i o.pg vl).map fun k => s.vel i (vnum o.xs1 o.vs1) w k
      .ok ((List.range vl).foldl (fun t k => t.setVel i d w k (vals.getD k 0))
        (s.setTime i (2 * s.vpass i) (2 * s.vpass i)))) s)

/-- A reduction of the active elements to a g register (R119). -/
def vecRed (x : CtxId) (op : Nat) (ew : BitVec 2) (o : VF) (init : Nat → Int) (fn : Int → Int → Int) (s : State) : State :=
  vecIssue x (encV 0x2F o (ew.toNat * 8 + op)) o .g .v .none true true
    (fun i s =>
      let w := ewBits ew
      let r := (s.actives i o.pg (s.vl i w)).foldl (fun a k => fn a (sgn w (s.vel i (vnum o.xs1 o.vs1) w k))) (init w)
      let t := 2 + 2 * s.vpass i
      .ok ((s.setTime i t t).setG i o.vd.toNat (BitVec.ofInt 64 r))) s

/-- VRADD (R119). -/
def execVradd (x : CtxId) (ew : BitVec 2) (o : VF) (s : State) : Out :=
  .next (vecRed x 5 ew o (fun _ => 0) (fun a b => a + b) s)
/-- VRMIN (R119): with no active element the largest value. -/
def execVrmin (x : CtxId) (ew : BitVec 2) (o : VF) (s : State) : Out :=
  .next (vecRed x 6 ew o (fun w => 2 ^ (w - 1) - 1) min s)
/-- VRMAX (R119): with no active element the smallest value. -/
def execVrmax (x : CtxId) (ew : BitVec 2) (o : VF) (s : State) : Out :=
  .next (vecRed x 7 ew o (fun w => -(2 ^ (w - 1))) max s)

end Sys2Proof.Machine
end

