-- ==== Sys2Proof/Machine/VectorFp.lean ====
section
/-! DEFINITION. Sys2Proof/Machine/VectorFp.lean: floating point and decimal in lanes, major 0x2D (R122–R124, R132). -/

namespace Sys2Proof.Machine

def elBits (p : Bool) : Nat := if p then 32 else 64

/-- The union of the flags of the active elements (R123). -/
def unionFlags (l : List FFlags) : FFlags := l.foldl FFlags.union {}

/-- A vector FP operation that rounds by FCSR.RM (R123). -/
def vecFp (x : CtxId) (op : Nat) (p : Bool) (o : VF) (useD : Bool) (t : Nat)
    (fn : Fmt → FEnv → Nat → Nat → Nat → FRes) (s : State) : State :=
  let wd := encV 0x2D o (p.toNat * 8 + op)
  issue (ctxIdx x)
    { (s.vsig (ctxIdx x) wd o .v .v .v) with
      srcs := (s.vsig (ctxIdx x) wd o .v .v .v).srcs ++ (if useD then s.vlocs (ctxIdx x) (vnum o.xd o.vd) else []) }
    (fun s =>
      let i := ctxIdx x
      match s.fieldOk i .v o.xd o.vd && s.fieldOk i .v o.xs1 o.vs1 && s.fieldOk i .v o.xs2 o.vs2 &&
          decide (fld (s.xcsr i csrVstart) 0 16 = 0), s.rmOf i 0 with
      | true, some rm =>
        let f := fmtOf p
        let w := elBits p
        let v := s.fenv i rm
        let a := fun k => s.vel i (vnum o.xs1 o.vs1) w k
        let b := fun k => s.vel i (vnum o.xs2 o.vs2) w k
        let c := fun k => s.vel i (vnum o.xd o.vd) w k
        let act := s.actives i o.pg (s.vl i w)
        let sub := act.any fun k => f.subOp v (a k) || f.subOp v (b k) || (useD && f.subOp v (c k)) || (fn f v (a k) (b k) (c k)).sub
        let fl := unionFlags (act.map fun k => (fn f v (a k) (b k) (c k)).fl)
        (s.vtime i (if sub then t + 2 else t) (t + 2)).raiseFp i fl
          (fun s => s.vwrite i o w (fun k => (fn f v (a k) (b k) (c k)).bits))
      | _, _ => .trap s (trapIllegal wd)) s

/-- VFMIN and VFMAX: no rounding (R123). -/
def vecFpMinmax (x : CtxId) (op : Nat) (mx p : Bool) (o : VF) (s : State) : State :=
  vecIssue x (encV 0x2D o (p.toNat * 8 + op)) o .v .v .v true true
    (fun i s =>
      let f := fmtOf p
      let w := elBits p
      let v := s.fenv i 1
      let r := fun k => f.minmax v mx (s.vel i (vnum o.xs1 o.vs1) w k) (s.vel i (vnum o.xs2 o.vs2) w k)
      (s.vtime i 2 2).raiseFp i (unionFlags ((s.actives i o.pg (s.vl i w)).map fun k => (r k).fl))
        (fun s => s.vwrite i o w (fun k => (r k).bits))) s

/-- A vector FP comparison into a predicate (R115, R122). -/
def vecFpCmp (x : CtxId) (func5 cop : Nat) (p : Bool) (o : VF) (s : State) : State :=
  vecIssue x (encV 0x2D o func5) o .p .v .v true true
    (fun i s =>
      let f := fmtOf p
      let w := elBits p
      let v := s.fenv i 1
      let r := fun k => f.cmp v cop (s.vel i (vnum o.xs1 o.vs1) w k) (s.vel i (vnum o.xs2 o.vs2) w k)
      (s.vtime i 2 2).raiseFp i (unionFlags ((s.actives i o.pg (s.vl i w)).map fun k => (r k).2))
        (fun s => s.pwrite i o.vd.toNat o.pg (s.vl i w) (fun k => (r k).1))) s

/-- VFADD (R122, R123). -/
def execVfadd (x : CtxId) (p : Bool) (o : VF) (s : State) : Out :=
  .next (vecFp x 0 p o false 4 (fun f v a b _ => f.add v false a b) s)

/-- VFSUB (R122, R123). -/
def execVfsub (x : CtxId) (p : Bool) (o : VF) (s : State) : Out :=
  .next (vecFp x 1 p o false 4 (fun f v a b _ => f.add v true a b) s)

/-- VFMUL (R122, R123). -/
def execVfmul (x : CtxId) (p : Bool) (o : VF) (s : State) : Out :=
  .next (vecFp x 2 p o false 4 (fun f v a b _ => f.mul v a b) s)

/-- VFMA (R122, R123). -/
def execVfma (x : CtxId) (p : Bool) (o : VF) (s : State) : Out :=
  .next (vecFp x 3 p o true 5 (fun f v a b c => f.fma v false false a b c) s)

/-- VFMIN (R122, R123). -/
def execVfmin (x : CtxId) (p : Bool) (o : VF) (s : State) : Out := .next (vecFpMinmax x 4 false p o s)

/-- VFMAX (R122, R123). -/
def execVfmax (x : CtxId) (p : Bool) (o : VF) (s : State) : Out := .next (vecFpMinmax x 5 true p o s)

/-- VFLT (R122). -/
def execVflt (x : CtxId) (p : Bool) (o : VF) (s : State) : Out := .next (vecFpCmp x (p.toNat * 8 + 6) 1 p o s)

/-- VFLE (R122). -/
def execVfle (x : CtxId) (p : Bool) (o : VF) (s : State) : Out := .next (vecFpCmp x (p.toNat * 8 + 7) 2 p o s)

/-- VFEQ.D (R122). -/
def execVfeqD (x : CtxId) (o : VF) (s : State) : Out := .next (vecFpCmp x 0x1B 0 false o s)
/-- VFEQ.S (R122). -/
def execVfeqS (x : CtxId) (o : VF) (s : State) : Out := .next (vecFpCmp x 0x1C 0 true o s)

/-! ### Decimal lanes (R113, R124) -/

/-- Lane k of a vector operand. -/
def State.lane (s : State) (x n k : Nat) : Nat := s.vel x n 128 k

/-- The end of a decimal lane operation (R124): invalidity of an active lane, then overflow, then the writes. `lim` is the
digit count of the result. -/
def vdFinish (i : Nat) (valid : Bool) (vals : List Int) (lim : Nat) (out : State → State) (s : State) : Eff :=
  if !valid then s.raiseDec i dcsrDi 0x0C (fun s => .ok s)
  else if vals.any (fun v => decide (10 ^ lim ≤ v.natAbs)) then s.raiseDec i dcsrDo 0x0D (fun s => .ok (out s))
  else .ok (out s)

/-- A decimal operation on lanes (R122, R124). `two` says that vs2 is decimal; n1 and n2 are the digits of the source and of
the result; `tm` gives the time from the largest digit counts. -/
def vecDec (x : CtxId) (func5 : Nat) (o : VF) (k2 : VKind) (two : Bool) (n1 n2 : Nat) (tm : Nat → Nat → Nat) (sl : Nat)
    (fn : Int → Nat → Int) (s : State) : State :=
  vecIssue x (encV 0x2D o func5) o .v .v k2 true true
    (fun i s =>
      let act := s.actives i o.pg (s.vl i 128)
      let a := fun k => s.lane i (vnum o.xs1 o.vs1) k % 16 ^ (n1 + 1)
      let b := fun k => s.lane i (vnum o.xs2 o.vs2) k
      let ok := act.all fun k => decValid n1 (a k) && (!two || decValid 31 (b k))
      let v := fun k => fn (decVal n1 (a k)) (b k)
      let da := (act.map fun k => sigDigits (decMag n1 (a k))).foldl max 1
      let db := (act.map fun k => sigDigits (decMag 31 (b k))).foldl max 1
      vdFinish i ok (if ok then act.map v else []) n2
        (fun s => s.vwrite i o 128 (fun k => decEnc n2 (v k)))
        (s.vtime i (if ok then tm da db else sl) sl)) s

/-- VDADD (R122, R124). -/
def execVdadd (x : CtxId) (o : VF) (s : State) : Out :=
  .next (vecDec x 0x10 o .v true 31 31 (fun a b => 2 + ceilDiv (max a b) 8) 6 (fun a b => a + decVal 31 b) s)

/-- VDSUB (R122, R124). -/
def execVdsub (x : CtxId) (o : VF) (s : State) : Out :=
  .next (vecDec x 0x11 o .v true 31 31 (fun a b => 2 + ceilDiv (max a b) 8) 6 (fun a b => a - decVal 31 b) s)

/-- VDMUL (R122, R124). -/
def execVdmul (x : CtxId) (o : VF) (s : State) : Out :=
  .next (vecDec x 0x12 o .v true 31 31 (fun _ b => 3 + ceilDiv b 4) 11 (fun a b => a * decVal 31 b) s)

/-- VDNEG (R122, R124). -/
def execVdneg (x : CtxId) (o : VF) (s : State) : Out :=
  .next (vecDec x 0x13 o .none false 31 31 (fun _ _ => 1) 1 (fun a _ => -a) s)

/-- VDSHL (R122, R124). -/
def execVdshl (x : CtxId) (o : VF) (s : State) : Out :=
  .next (vecDec x 0x14 o .v false 31 31 (fun _ _ => 2) 2 (fun a b => decShl a (b % 2 ^ 64) 31) s)

/-- VDSHR (R122, R124). -/
def execVdshr (x : CtxId) (o : VF) (s : State) : Out :=
  .next (vecDec x 0x15 o .v false 31 31 (fun _ _ => 2) 2 (fun a b => decShr 0 32 a (b % 2 ^ 64)) s)

/-- VDSHRE (R122, R124). -/
def execVdshre (x : CtxId) (o : VF) (s : State) : Out :=
  .next (vecDec x 0x16 o .v false 31 31 (fun _ _ => 2) 2 (fun a b => decShr 1 32 a (b % 2 ^ 64)) s)

/-- VDSHRA (R122, R124). -/
def execVdshra (x : CtxId) (o : VF) (s : State) : Out :=
  .next (vecDec x 0x17 o .v false 31 31 (fun _ _ => 2) 2 (fun a b => decShr 2 32 a (b % 2 ^ 64)) s)

/-- VDWIDEN (R122, R124). -/
def execVdwiden (x : CtxId) (o : VF) (s : State) : Out :=
  .next (vecDec x 0x18 o .none false 15 31 (fun _ _ => 1) 1 (fun a _ => a) s)

/-- VDNARROW (R122, R124). -/
def execVdnarrow (x : CtxId) (o : VF) (s : State) : Out :=
  .next (vecDec x 0x19 o .none false 31 15 (fun _ _ => 2) 2 (fun a _ => a) s)

/-- VDRSUM (R122, R124): lane 0 of vd plus the active lanes of vs1, tested once; vd is also a source. -/
def execVdrsum (x : CtxId) (o : VF) (s : State) : Out :=
  let i := ctxIdx x
  let wd := encV 0x2D o 0x1A
  let d := vnum o.xd o.vd
  .next (issue i { (s.vsig i wd o .v .v .none) with srcs := (s.vsig i wd o .v .v .none).srcs ++ s.vlocs i d }
    (fun s =>
      if !(s.fieldOk i .v o.xd o.vd && s.fieldOk i .v o.xs1 o.vs1 && s.fieldOk i .none o.xs2 o.vs2 &&
          decide (fld (s.xcsr i csrVstart) 0 16 = 0)) then .trap s (trapIllegal wd) else
      let act := s.actives i o.pg (s.vl i 128)
      let a := fun k => s.lane i (vnum o.xs1 o.vs1) k
      let z := s.lane i d 0
      let ok := decValid 31 z && act.all fun k => decValid 31 (a k)
      let v := act.foldl (fun t k => t + decVal 31 (a k)) (decVal 31 z)
      let dg := (act.map fun k => sigDigits (decMag 31 (a k))).foldl max (sigDigits (decMag 31 z))
      let lanes := s.vl i 128
      let sl := 1 + 6 * lanes
      vdFinish i ok [v] 31 (fun s => s.setVel i d 128 0 (decEnc 31 v))
        (s.setTime i (if ok then 1 + lanes * (2 + ceilDiv dg 8) else sl) sl)) s)

end Sys2Proof.Machine
end

