-- ==== Sys2Proof/Machine/Predicate.lean ====
section
/-! DEFINITION. Sys2Proof/Machine/Predicate.lean: predicate operations and compares, major 0x30 (R115, R125, R132). -/

namespace Sys2Proof.Machine

/-- The V-format fields of a predicate instruction. -/
def pVF (a b c : BitVec 5) : VF := { vd := a, vs1 := b, vs2 := c, xd := false, xs1 := false, xs2 := false, pg := 0 }

/-- A logic operation on predicates (R125). -/
def predOp (x : CtxId) (op : Nat) (pd ps1 ps2 : Pred3) (fn : W128 → W128 → W128) (s : State) : State :=
  let i := ctxIdx x
  issue i { word := encV 0x30 (pVF (pd.setWidth 5) (ps1.setWidth 5) (ps2.setWidth 5)) op, prof := profES
            srcs := [.p ps1.toNat, .p ps2.toNat], dsts := [.p pd.toNat] }
    (fun s => .ok (s.setP i pd.toNat (fn (s.p i ps1.toNat) (s.p i ps2.toNat)))) s

/-- PAND (R125). -/
def execPand (x : CtxId) (pd ps1 ps2 : Pred3) (s : State) : Out :=
  .next (predOp x 0 pd ps1 ps2 (fun a b => a &&& b) s)

/-- POR (R125). -/
def execPor (x : CtxId) (pd ps1 ps2 : Pred3) (s : State) : Out :=
  .next (predOp x 1 pd ps1 ps2 (fun a b => a ||| b) s)

/-- PXOR (R125). -/
def execPxor (x : CtxId) (pd ps1 ps2 : Pred3) (s : State) : Out :=
  .next (predOp x 2 pd ps1 ps2 (fun a b => a ^^^ b) s)

/-- PANDN (R125). -/
def execPandn (x : CtxId) (pd ps1 ps2 : Pred3) (s : State) : Out :=
  .next (predOp x 3 pd ps1 ps2 (fun a b => a &&& ~~~b) s)

/-- PNOT (R125). -/
def execPnot (x : CtxId) (pd ps1 : Pred3) (s : State) : Out := .next (predOp x 4 pd ps1 0 (fun a _ => ~~~a) s)

/-- A predicate made from two g registers (R125). -/
def predG (x : CtxId) (op : Nat) (pd : Pred3) (rs1 rs2 : Reg5) (fn : W64 → W64 → W128) (s : State) : State :=
  let i := ctxIdx x
  issue i { word := encV 0x30 (pVF (pd.setWidth 5) rs1 rs2) op, prof := profES, srcs := [lg rs1, lg rs2], dsts := [.p pd.toNat] }
    (fun s => .ok (s.setP i pd.toNat (fn (s.g i rs1.toNat) (s.g i rs2.toNat)))) s

/-- PWHILE (R125): compared unsigned without wrap. -/
def execPwhile (x : CtxId) (pd : Pred3) (rs1 rs2 : Reg5) (s : State) : Out :=
  .next (predG x 5 pd rs1 rs2 (fun a b => BitVec.ofNat 128 (2 ^ min (b.toNat - a.toNat) 128 - 1)) s)
/-- PFROMG (R125). -/
def execPfromg (x : CtxId) (pd : Pred3) (rs1 rs2 : Reg5) (s : State) : Out :=
  .next (predG x 8 pd rs1 rs2 (fun a b => b ++ a) s)

/-- A g register computed from a predicate (R125). -/
def gFromP (x : CtxId) (op t : Nat) (rd : Reg5) (ps1 : Pred3) (vs2 : BitVec 5) (fn : W128 → W64) (s : State) : State :=
  let i := ctxIdx x
  issue i { word := encV 0x30 (pVF rd (ps1.setWidth 5) vs2) op, prof := profES, srcs := [.p ps1.toNat], dsts := [lg rd] }
    (fun s => .ok ((s.setTime i t t).setG i rd.toNat (fn (s.p i ps1.toNat)))) s

/-- PCNT (R125). -/
def execPcnt (x : CtxId) (rd : Reg5) (ps1 : Pred3) (s : State) : Out :=
  .next (gFromP x 6 2 rd ps1 0 (fun v => BitVec.ofNat 64 (popc 128 v.toNat)) s)
/-- PFFS (R125). -/
def execPffs (x : CtxId) (rd : Reg5) (ps1 : Pred3) (s : State) : Out :=
  .next (gFromP x 7 2 rd ps1 0 (fun v => BitVec.ofNat 64 ((firstIdx 128 (bitAt v)).getD 128)) s)
/-- PTOG (R125). -/
def execPtog (x : CtxId) (rd : Reg5) (ps1 : Pred3) (hi : Bool) (s : State) : Out :=
  .next (gFromP x 9 1 rd ps1 (if hi then 1 else 0) (fun v => v.extractLsb' (if hi then 64 else 0) 64) s)

/-- A decimal compare of lanes (R124, R125). -/
def vecDecCmp (x : CtxId) (op : Nat) (o : VF) (fn : Int → Int → Bool) (s : State) : State :=
  vecIssue x (encV 0x30 o op) o .p .v .v true true
    (fun i s =>
      let act := s.actives i o.pg (s.vl i 128)
      let a := fun k => s.lane i (vnum o.xs1 o.vs1) k
      let b := fun k => s.lane i (vnum o.xs2 o.vs2) k
      vdFinish i (act.all fun k => decValid 31 (a k) && decValid 31 (b k)) [] 31
        (fun s => s.pwrite i o.vd.toNat o.pg (s.vl i 128) (fun k => fn (decVal 31 (a k)) (decVal 31 (b k))))
        (s.vtime i 2 2)) s

/-- VDCEQ (R125). -/
def execVdceq (x : CtxId) (o : VF) (s : State) : Out := .next (vecDecCmp x 10 o (fun a b => decide (a = b)) s)

/-- VDCLT (R125). -/
def execVdclt (x : CtxId) (o : VF) (s : State) : Out := .next (vecDecCmp x 11 o (fun a b => decide (a < b)) s)

/-- VDCLE (R125). -/
def execVdcle (x : CtxId) (o : VF) (s : State) : Out := .next (vecDecCmp x 12 o (fun a b => decide (a ≤ b)) s)

/-- VDVAL (R125): never sets DI. -/
def execVdval (x : CtxId) (o : VF) (s : State) : Out :=
  .next (vecIssue x (encV 0x30 o 13) o .p .v .none true true
    (fun i s => .ok ((s.vtime i 1 1).pwrite i o.vd.toNat o.pg (s.vl i 128)
      (fun k => decValid 31 (s.lane i (vnum o.xs1 o.vs1) k)))) s)

/-- An integer compare of elements into a predicate (R115, R125). -/
def vecCmp (x : CtxId) (cond : Nat) (ew : BitVec 2) (o : VF) (fn : Nat → Nat → Nat → Bool) (s : State) : State :=
  vecIssue x (encV 0x30 o (0x10 + 4 * ew.toNat + cond)) o .p .v .v true true
    (fun i s =>
      let w := ewBits ew
      .ok ((s.vtime i 1 1).pwrite i o.vd.toNat o.pg (s.vl i w)
        (fun k => fn w (s.vel i (vnum o.xs1 o.vs1) w k) (s.vel i (vnum o.xs2 o.vs2) w k)))) s

/-- VCMPEQ (R125). -/
def execVcmpeq (x : CtxId) (ew : BitVec 2) (o : VF) (s : State) : Out :=
  .next (vecCmp x 0 ew o (fun _ a b => a == b) s)

/-- VCMPNE (R125). -/
def execVcmpne (x : CtxId) (ew : BitVec 2) (o : VF) (s : State) : Out :=
  .next (vecCmp x 1 ew o (fun _ a b => a != b) s)

/-- VCMPLT (R125). -/
def execVcmplt (x : CtxId) (ew : BitVec 2) (o : VF) (s : State) : Out :=
  .next (vecCmp x 2 ew o (fun w a b => decide (sgn w a < sgn w b)) s)

/-- VCMPLTU (R125). -/
def execVcmpltu (x : CtxId) (ew : BitVec 2) (o : VF) (s : State) : Out :=
  .next (vecCmp x 3 ew o (fun _ a b => decide (a < b)) s)

end Sys2Proof.Machine
end

