-- ==== Sys2Proof/Machine/SieveInsn.lean ====
section
/-! DEFINITION. Sys2Proof/Machine/SieveInsn.lean: sieve column access and EMIT, major 0x34 (R194), the Svanen-S words (R39, R192), and
the run of a program on one block (R193). -/

namespace Sys2Proof.Machine

/-- The part of scan slot n in the sieve of a channel. -/
def partKey (ch n : Nat) : Nat := 8 * ch + n

/-- What an evaluator works on: its block state, the image and the pages of the group. -/
def State.evalOf (s : State) (ch : Nat) : SvEval × List Byte × List (List Byte) :=
  let v := s.sv ch
  (v, (s.scan v.slot).image, (s.part (partKey ch v.slot)).pages.getD [])

/-- A-format word of major 0x34. -/
def encS (rd rs1 rs2 : Reg5) (op arg : Nat) : BitVec 32 := encA 0x34 rd rs1 rs2 (op * 256 + arg)

/-- One bit per active row of the block (R194, R115). -/
def blockBits (v : SvEval) (ps : List (List Byte)) (fn : Nat → Bool) : W128 :=
  BitVec.ofNat 128 ((List.range 128).foldl (fun a j =>
    let i := 128 * v.block + j
    if rowActive ps i && fn i then a + 2 ^ j else a) 0)

/-- An invalid constant ends the part with INVALID_FIELD (R195, R200). -/
def State.svAbort (s : State) (ch : Nat) : State :=
  let k := partKey ch (s.sv ch).slot
  (s.setPart k { s.part k with early := true, status := 0x0401 }).setSv ch { s.sv ch with done := true }

/-- A constant of SCMP or SRNG: one register, or a pair for DEC128 (R194). -/
def State.svConst (s : State) (x ty r : Nat) : Nat :=
  (s.g x r).toNat + (if ty = 11 then (s.g x (r + 1)).toNat * 2 ^ 64 else 0)

/-- A sieve test of a slot's values, each row's result computed from its key and the constants' keys (R194, R195). -/
def slotTest (x : CtxId) (w : BitVec 32) (pd slot : Pred3) (consts : State → Nat → List Nat)
    (fn : Option Int → List (Option Int) → Bool) (s : State) : State :=
  let i := ctxIdx x
  issue i { word := w, prof := profS, dsts := [.p pd.toNat] }
    (fun s =>
      let (v, m, ps) := s.evalOf (i - 2112)
      let n := slot.toNat
      let ty := slotTy m ps n
      let wd := slotWd m ps n
      let cs := consts s ty
      if !(cs.all (constOk ty)) then .done (s.svAbort (i - 2112))
      else .ok (s.setP i pd.toNat (blockBits v ps fun k =>
        !slotNull m ps n k && fn (cmpKey ty wd false (slotVal m ps n k)) (cs.map (cmpKey ty wd true))))) s

/-- SCMP (R194). -/
def execScmp (x : CtxId) (cond : BitVec 4) (pd slot : Pred3) (rs2 : Reg5) (s : State) : Out :=
  .next (slotTest x (encS (pd.setWidth 5) (slot.setWidth 5) rs2 0 cond.toNat) pd slot
    (fun s ty => [s.svConst (ctxIdx x) ty rs2.toNat]) (fun a c => cmpCond cond.toNat a (c.headD none)) s)

/-- SRNG (R194): low and high are consecutive constants. -/
def execSrng (x : CtxId) (pd slot : Pred3) (rs2 : Reg5) (s : State) : Out :=
  .next (slotTest x (encS (pd.setWidth 5) (slot.setWidth 5) rs2 1 0) pd slot
    (fun s ty => [s.svConst (ctxIdx x) ty rs2.toNat, s.svConst (ctxIdx x) ty (rs2.toNat + if ty = 11 then 2 else 1)])
    (fun a c => cmpCond 5 a (c.headD none) && cmpCond 3 a ((c.drop 1).headD none)) s)

/-- SNULL (R194). -/
def execSnull (x : CtxId) (pd slot : Pred3) (s : State) : Out :=
  .next (issue (ctxIdx x) { word := encS (pd.setWidth 5) (slot.setWidth 5) 0 2 0, prof := profS, dsts := [.p pd.toNat] }
    (fun s =>
      let (v, m, ps) := s.evalOf (ctxIdx x - 2112)
      .ok (s.setP (ctxIdx x) pd.toNat (blockBits v ps (slotNull m ps slot.toNat)))) s)

/-- A header field of a slot's page (R194); none where the field is reserved. -/
def shdrField (f : Nat) (v : SvEval) (m : List Byte) (ps : List (List Byte)) (n : Nat) : Option W64 :=
  let l := slotPage m ps n
  let col := slotType m n == 255
  let zone := col && colFlag l 1
  match f with
  | 0 => some (BitVec.ofNat 64 (pageRows l))
  | 1 => some (BitVec.ofNat 64 (pageFirst l))
  | 2 => some (if zone then BitVec.ofNat 64 (recFld l 48 8) else zoneLimit (slotTy m ps n) false)
  | 3 => some (if zone then BitVec.ofNat 64 (recFld l 56 8) else zoneLimit (slotTy m ps n) true)
  | 4 => some (if col then BitVec.ofNat 64 (recFld l 7 1) else 0)
  | 5 => some (BitVec.ofNat 64 v.block)
  | _ => none

/-- SHDR (R194). A reserved field never runs in a sieve: its image is refused (R192). -/
def execShdr (x : CtxId) (fld : BitVec 4) (rd : Reg5) (slot : Pred3) (s : State) : Out :=
  .next (issue (ctxIdx x) { word := encS rd (slot.setWidth 5) 0 3 fld.toNat, prof := profS, dsts := [lg rd] }
    (fun s =>
      let (v, m, ps) := s.evalOf (ctxIdx x - 2112)
      match shdrField fld.toNat v m ps slot.toNat with
      | some r => .ok (s.setG (ctxIdx x) rd.toNat r)
      | none => .done s) s)

/-- EMIT (R194). -/
def execEmit (x : CtxId) (ps : Pred3) (s : State) : Out :=
  .next (issue (ctxIdx x) { word := encS 0 (ps.setWidth 5) 0 4 0, prof := profS, srcs := [.p ps.toNat] }
    (fun s =>
      let ch := ctxIdx x - 2112
      let v := s.sv ch
      .ok (s.setSv ch { v with emit := v.emit ||| s.p (ctxIdx x) ps.toNat })) s)

/-- SDONE (R194): the block ends, and no block after it is evaluated. -/
def execSdone (x : CtxId) (s : State) : Out :=
  .next (issue (ctxIdx x) { word := encS 0 0 0 5 0, prof := profS }
    (fun s => let ch := ctxIdx x - 2112; .done (s.setSv ch { s.sv ch with done := true })) s)

/-- NOP (R58). -/
def execNop (x : CtxId) (s : State) : Out := .next (issue (ctxIdx x) { word := 0xE0000000, prof := profKES } (fun s => .ok s) s)

/-! ### Words of Svanen-S (R39, R40, R192) -/

/-- Fields of a word (R38). -/
def wMaj (w : BitVec 32) : Nat := fld w 26 6
def wRd (w : BitVec 32) : Reg5 := w.extractLsb' 21 5
def wRs1 (w : BitVec 32) : Reg5 := w.extractLsb' 16 5
def wRs2 (w : BitVec 32) : Reg5 := w.extractLsb' 11 5
def wFunc (w : BitVec 32) : Nat := fld w 0 11
def wImm (w : BitVec 32) : BitVec 16 := w.extractLsb' 0 16
/-- Whether a register field names a predicate. -/
def isP (r : Reg5) : Bool := decide (r.toNat < 8)
def toP (r : Reg5) : Pred3 := r.setWidth 3

/-- A word of a sieve program as the loader sees it: its meaning, the offset of a branch, whether it is one word of two. -/
structure SvWord where
  run : CtxId → State → Out
  off : Option (BitVec 20) := none
  wide : Bool := false

/-- Integer register-register operations of Svanen-S (R41). -/
def svInt (w : BitVec 32) : Option (CtxId → State → Out) :=
  let d := wRd w
  let a := wRs1 w
  let b := wRs2 w
  match wFunc w with
  | 0x00 => some fun x => execAdd x d a b
  | 0x01 => some fun x => execSub x d a b
  | 0x02 => some fun x => execAndG x d a b
  | 0x03 => some fun x => execOrG x d a b
  | 0x04 => some fun x => execXorG x d a b
  | 0x05 => some fun x => execAndn x d a b
  | 0x06 => some fun x => execOrn x d a b
  | 0x07 => some fun x => execXnor x d a b
  | 0x08 => some fun x => execShl x d a b
  | 0x09 => some fun x => execShr x d a b
  | 0x0A => some fun x => execSar x d a b
  | 0x0B => some fun x => execRol x d a b
  | 0x0C => some fun x => execRor x d a b
  | 0x10 => some fun x => execSeq x d a b
  | 0x11 => some fun x => execSne x d a b
  | 0x12 => some fun x => execSlt x d a b
  | 0x13 => some fun x => execSltu x d a b
  | 0x14 => some fun x => execSle x d a b
  | 0x15 => some fun x => execSleu x d a b
  | 0x18 => some fun x => execMinG x d a b
  | 0x19 => some fun x => execMaxG x d a b
  | 0x1A => some fun x => execMinu x d a b
  | 0x1B => some fun x => execMaxu x d a b
  | 0x29 => some fun x => execAddw x d a b
  | 0x2A => some fun x => execSubw x d a b
  | 0x2B => some fun x => execShlw x d a b
  | 0x2C => some fun x => execShrw x d a b
  | 0x2D => some fun x => execSarw x d a b
  | 0x30 => some fun x => execCmovnz x d a b
  | 0x31 => some fun x => execCmovz x d a b
  | f =>
    if b ≠ 0 then none else
    match f with
    | 0x20 => some fun x => execClz x d a
    | 0x21 => some fun x => execCtz x d a
    | 0x22 => some fun x => execPopc x d a
    | 0x23 => some fun x => execBswap x d a
    | 0x24 => some fun x => execSextb x d a
    | 0x25 => some fun x => execSexth x d a
    | 0x26 => some fun x => execSextw x d a
    | 0x27 => some fun x => execZexth x d a
    | 0x28 => some fun x => execZextw x d a
    | _ => none

/-- Immediate operations of Svanen-S (R43). -/
def svImm (w : BitVec 32) : Option (CtxId → State → Out) :=
  let d := wRd w
  let a := wRs1 w
  let i := wImm w
  let amt := w.extractLsb' 0 6
  match wMaj w with
  | 0x04 => some fun x => execAddi x d a i
  | 0x05 => some fun x => execAndi x d a i
  | 0x06 => some fun x => execOri x d a i
  | 0x07 => some fun x => execXori x d a i
  | 0x08 => some fun x => execSlti x d a i
  | 0x09 => some fun x => execSltiu x d a i
  | 0x0A =>
    match fld w 6 10 with
    | 0 => some fun x => execShli x d a amt
    | 1 => some fun x => execShri x d a amt
    | 2 => some fun x => execSari x d a amt
    | 3 => some fun x => execRori x d a amt
    | _ => none
  | 0x0B => if a = 0 then some fun x => execLui x d i else none
  | _ => none

/-- Extended immediates (R43): word 0 and the immediate of word 1. -/
def svX (w w1 : BitVec 32) : Option (CtxId → State → Out) :=
  let d := wRd w
  let a := wRs1 w
  if fld w 0 8 ≠ 0 then none else
  match fld w 8 8 with
  | 0 => if a = 0 then some fun x => execXli x d w1 else none
  | 1 => some fun x => execXlih x d a w1
  | 2 => some fun x => execXaddi x d a w1
  | 3 => some fun x => execXandi x d a w1
  | 4 => some fun x => execXori32 x d a w1
  | 5 => some fun x => execXxori x d a w1
  | 6 => some fun x => execXslti x d a w1
  | 7 => some fun x => execXsltiu x d a w1
  | _ => none

/-- Branches of Svanen-S (R52). -/
def svBranch (w : BitVec 32) : Option (CtxId → State → Out) :=
  let an := bitAt w 25
  let r : Reg5 := w.extractLsb' 20 5
  let o := w.extractLsb' 0 20
  match wMaj w with
  | 0x18 => some fun x => execBeqz x an r o
  | 0x19 => some fun x => execBnez x an r o
  | 0x1A => some fun x => execBltz x an r o
  | 0x1B => some fun x => execBgez x an r o
  | 0x1C => some fun x => execBgtz x an r o
  | 0x1D => some fun x => execBlez x an r o
  | 0x1E => if isP r then some fun x => execBpany x an (toP r) o else none
  | 0x1F => if isP r then some fun x => execBpnone x an (toP r) o else none
  | 0x20 => if r = 0 then some fun x => execBr x an o else none
  | _ => none

/-- Predicate operations of Svanen-S (R125, R192): func5 0x00 to 0x09, fields as R116 requires. -/
def svPred (w : BitVec 32) : Option (CtxId → State → Out) :=
  let d := wRd w
  let a := wRs1 w
  let b := wRs2 w
  if fld w 5 6 ≠ 0 then none else
  match fld w 0 5 with
  | 0 => if isP d && isP a && isP b then some fun x => execPand x (toP d) (toP a) (toP b) else none
  | 1 => if isP d && isP a && isP b then some fun x => execPor x (toP d) (toP a) (toP b) else none
  | 2 => if isP d && isP a && isP b then some fun x => execPxor x (toP d) (toP a) (toP b) else none
  | 3 => if isP d && isP a && isP b then some fun x => execPandn x (toP d) (toP a) (toP b) else none
  | 4 => if isP d && isP a && b == 0 then some fun x => execPnot x (toP d) (toP a) else none
  | 5 => if isP d then some fun x => execPwhile x (toP d) a b else none
  | 6 => if isP a && b == 0 then some fun x => execPcnt x d (toP a) else none
  | 7 => if isP a && b == 0 then some fun x => execPffs x d (toP a) else none
  | 8 => if isP d then some fun x => execPfromg x (toP d) a b else none
  | 9 => if isP a && decide (b.toNat < 2) then some fun x => execPtog x d (toP a) (b == 1) else none
  | _ => none

/-- Words of major 0x34 in an image with a number of slots (R194). -/
def svCol (nslot : Nat) (w : BitVec 32) : Option (CtxId → State → Out) :=
  let d := wRd w
  let a := wRs1 w
  let b := wRs2 w
  let arg := fld w 0 8
  let slotOk := decide (a.toNat < nslot)
  match fld w 8 3 with
  | 0 => if isP d && slotOk && decide (b.toNat ≤ 30) && decide (arg ≤ 5) then
      some fun x => execScmp x (BitVec.ofNat 4 arg) (toP d) (toP a) b else none
  | 1 => if isP d && slotOk && decide (b.toNat ≤ 28) && arg == 0 then some fun x => execSrng x (toP d) (toP a) b else none
  | 2 => if isP d && slotOk && b == 0 && arg == 0 then some fun x => execSnull x (toP d) (toP a) else none
  | 3 => if slotOk && b == 0 && decide (arg ≤ 5) then some fun x => execShdr x (BitVec.ofNat 4 arg) d (toP a) else none
  | 4 => if d == 0 && isP a && b == 0 && arg == 0 then some fun x => execEmit x (toP a) else none
  | 5 => if d == 0 && a == 0 && b == 0 && arg == 0 then some fun x => execSdone x else none
  | _ => none

/-- A word of a sieve program; none where R192 refuses it. -/
def svWord (nslot : Nat) (w w1 : BitVec 32) : Option SvWord :=
  let plain (f : Option (CtxId → State → Out)) : Option SvWord := f.map fun r => { run := r }
  match wMaj w with
  | 0x01 => plain (svInt w)
  | 0x30 => plain (svPred w)
  | 0x34 => plain (svCol nslot w)
  | 0x38 => if w = 0xE0000000 then plain (some fun x => execNop x) else none
  | 0x3E => (svX w w1).map fun r => { run := r, wide := true }
  | _ =>
    match svBranch w with
    | some r => some { run := r, off := some (w.extractLsb' 0 20) }
    | none => plain (svImm w)

/-- The program of an image is checked word by word (R192): the index of the first offending word. `slot` tells that the word before
is a branch. -/
def svCheck : Nat → List Byte → Nat → Bool → Option Nat
  | 0, _, _, _ => none
  | k + 1, m, i, slot =>
    let n := imgWords m
    if n ≤ i then (if slot then some (i - 1) else none)
    else match svWord (imgSlots m) (imgWord m i) (imgWord m (i + 1)) with
      | none => some i
      | some v =>
        if slot && (v.wide || v.off.isSome) then some i
        else if v.wide then (if i + 1 = n then some i else svCheck k m (i + 2) false)
        else match v.off with
          | none => svCheck k m (i + 1) false
          | some o => if o.toNat < 2 ∨ 2 ^ 19 ≤ o.toNat ∨ n < i + o.toNat then some i else svCheck k m (i + 1) true

/-- The detail of a refused image (R192): the offending word, 0xFFFF for the header or the slot table. -/
def imgFault (m : List Byte) : Option Nat := if !imgHeadOk m then some 0xFFFF else svCheck (imgWords m + 1) m 0 false

/-! ### Evaluation of a block (R193) -/

/-- The evaluator runs until it passes the last word, or SDONE or an invalid constant ends it. DESIGN CHOICE (log entry 33). -/
def State.svRun : Nat → State → Nat → State
  | 0, s, _ => s
  | k + 1, s, ch =>
    let x := 2112 + ch
    let (v, m, _) := s.evalOf ch
    let pc := (s.ctx x).r.pc.toNat / 4
    if v.done || decide (imgWords m ≤ pc) then s
    else match svWord (imgSlots m) (imgWord m pc) (imgWord m (pc + 1)) with
      | none => s
      | some w =>
        match w.run (.sieve (Fin.ofNat 32 ch)) s with
        | .next t => State.svRun k t ch
        | _ => s

/-- One block of a group: registers from CONST, p1 to p7 and the emit mask clear (R193). The answer is the emit mask of active rows.
DESIGN CHOICE (log entry 33). -/
def State.svBlock (s : State) (ch n b : Nat) : State × W128 :=
  let x := 2112 + ch
  let m := (s.scan n).image
  let r : Regs := { g := (List.range 31).foldl (fun t k => Tab.set 0 t (k + 1) (imgConst m (k + 1))) [] }
  let s := (s.setSv ch { slot := n, block := b }).setCtx x { st := .ready, r := r }
  let s := State.svRun 512 s ch
  let v := s.sv ch
  (s.setCtx x {}, v.emit &&& blockBits v ((s.part (partKey ch n)).pages.getD []) fun _ => true)

end Sys2Proof.Machine
end

