-- ==== Sys2Proof/Machine/SieveScan.lean ====
section
/-! DEFINITION. Sys2Proof/Machine/SieveScan.lean: SCAN and the parts of a scan in the 32 sieves (R193, R196–R200, R333, R334). -/

namespace Sys2Proof.Machine

/-! ### Parts -/

def PState.code : PState → Nat
  | .closed => 0
  | .running => 1
  | .stalled => 2
  | .ended => 3

/-- Ring size of a scan, and the address of a channel's ring and control line (R333). -/
def Scan.ringSize (c : Scan) : Nat := 2 ^ c.rlog
def Item.outBase (e : Item) : W64 := e.word 56
def Scan.ctrlAddr (c : Scan) (ch : Nat) : W64 := c.item.outBase + BitVec.ofNat 64 (32 * c.ringSize + 64 * ch)
def Scan.ringAddr (c : Scan) (ch : Nat) : W64 := c.item.outBase + BitVec.ofNat 64 (c.ringSize * ch)

/-- Bytes written to a part's control line (R197). DESIGN CHOICE (log entry 32). -/
def State.ctrlWrite (s : State) (ch n o : Nat) (l : List Byte) : State :=
  let c := s.scan n
  (s.dmaWrite c.item.bid (c.ctrlAddr ch + BitVec.ofNat 64 o) l).1

/-- A part ends early (R200): no further group is read; the part's status is its cause. -/
def State.partStop (s : State) (ch n : Nat) (st : BitVec 16) (lba : Option Nat) : State :=
  let k := partKey ch n
  let p := s.part k
  let s := s.setPart k { p with early := true, status := st, todo := [], pages := none
                                errLba := match lba with | some a => BitVec.ofNat 64 a | none => p.errLba }
  match lba with
  | some a => s.setReg (Reg.svScanErrlba ch n) (BitVec.ofNat 64 a)
  | none => s

/-- RD is read from the control line (R199); WR − RD above the ring size ends the part with no EOS record (R200), and a read that
fails ends it with its status (R391).
DESIGN CHOICE (log entry 32). -/
def State.rdPoll (s : State) (ch n : Nat) : State :=
  let c := s.scan n
  let r := s.dmaRead c.item.bid (c.ctrlAddr ch + 8) 8 2
  match r.2.1 with
  | some st => r.1.partStop ch n st none
  | none =>
    let k := partKey ch n
    let p := r.1.part k
    let rd := BitVec.ofNat 64 (leVal r.2.2)
    let s := r.1.setPart k { p with rd := rd }
    if c.ringSize < (p.wr - rd).toNat then
      let s := s.partStop ch n 0x0401 none
      s.setPart k { s.part k with eos := false, outRec := none }
    else s

/-! ### SCAN (R333, R334) -/

/-- Fields of a SCAN entry outside their ranges (R333). -/
def State.scanBad (s : State) (e : Item) : Bool :=
  let rl := e.fieldN 44 1 % 32
  let b := e.outBase
  let size := 32 * 2 ^ rl + 2048
  s.dptrBad e || e.zero 40 4 || decide (rl < 16) || decide (30 < rl) || e.dmode == 1 || b.toNat % 2 ^ (rl + 5) != 0 ||
    !((List.range (size / 65536 + 1)).all fun i =>
      let o := 65536 * i
      decide (size ≤ o) || (match s.dmaAddr e.bid true (b + BitVec.ofNat 64 o) with
        | .ok p => decide (p + min 65536 (size - o) ≤ hbmEnd)
        | .error _ => false))

/-- The status of a SCAN whose parameter block and image are gathered (R333). -/
def State.scanData (s : State) (e : Item) (l : List Byte) : Option (BitVec 16) :=
  let m := l.drop 64
  let nm := min (recFld m 9 1) 8
  let mb (i : Nat) : Nat := recFld l (8 * i) 8
  let size := 262144 * (s.ns e.nsid).size
  firstFail [((List.range nm).any fun i => mb i % 16 != 0, 0x0401), ((List.range 8).any fun i => decide (nm ≤ i) && mb i != 0, 0x0401),
    ((List.range nm).any fun i => decide (size < mb i + 16 * e.fieldN 40 4), 0x0470),
    (l.length != 64 + 352 + 4 * imgWords m, 0x0402)]

/-- The channel that evaluates group i (R193, R334). DEDUCED (log entry 30). -/
def State.scanChan (s : State) (nsid mb0 i : Nat) : Nat :=
  let u := mb0 + 16 * i
  let e := s.mapOf nsid u
  if (s.bufNewest nsid u).isSome ∨ e % 2 = 0 then i % 32 else chOf (blkOf (e / 4))

/-- The lowest scan slot free in every sieve. -/
def State.freeScan (s : State) : Option Nat := firstIdx 8 fun n => !(s.scan n).live

/-- The 32 parts of a scan open (R334, R197). DEDUCED (log entry 30). DESIGN CHOICE (log entry 34). -/
def State.scanOpen (s : State) (n : Nat) (c : Scan) : State :=
  let s := (s.setScan n c).psEval
  let s := (List.range c.ngroup).foldl (fun s i => (s.entryRead c.nsid (c.mbase.headD 0 + 16 * i)).1) s
  (List.range 32).foldl (fun s ch =>
    let todo := (List.range c.ngroup).filter fun i => s.scanChan c.nsid (c.mbase.headD 0) i = ch
    let p := match s.dmaAddr c.item.bid true (c.ctrlAddr ch) with | .ok a => a | .error _ => 0
    let s := s.setPart (partKey ch n) { st := .running, bid := c.item.bid, ctrl := p, ring := (c.ringAddr ch).toNat, todo := todo }
    let s := (s.setReg (Reg.svScanErr ch n) 0).setReg (Reg.svScanErrlba ch n) 0
    let s := s.ctrlWrite ch n 0 (leBytes 8 0)
    (s.ctrlWrite ch n 16 (leBytes 8 c.ringSize ++ List.replicate 40 0)).rdPoll ch n) s

/-- SCAN after its gather: slots, the image check, the parts. -/
def State.scanStart (s : State) (e : Item) (l : List Byte) : State :=
  match s.freeScan with
  | none => s.complete e 0x0371
  | some n =>
    let m := l.drop 64
    match imgFault m with
    | some w =>
      let s := (List.range 32).foldl (fun s ch => s.setReg (Reg.svScanErr ch n) (BitVec.ofNat 64 (0x0443 + w * 65536))) s
      s.complete e 0x0443 (BitVec.ofNat 64 w)
    | none =>
      s.scanOpen n { live := true, item := e, nsid := e.nsid, ngroup := e.fieldN 40 4, rlog := e.fieldN 44 1 % 32, image := m
                     mbase := (List.range (imgMembers m)).map fun i => recFld l (8 * i) 8 }

/-- A SCAN begins: its gather, its checks, its parts (R329, R333). -/
def State.scanBegin (e : Item) (s : State) : State :=
  let r := s.gather e
  match r.2 with
  | .error st => r.1.complete e st
  | .ok l =>
    match r.1.scanData e l with
    | some st => r.1.complete e st
    | none => r.1.scanStart e l

/-- SCAN is dispatched (R329, R333); it begins once the flash complex has left PS2 (R344). -/
def State.scanAdmit (e : Item) (s : State) : State :=
  let s := s.psWake
  match firstFail [(!s.nsSeen e, (0x0471 : BitVec 16)), (s.scanBad e, 0x0401)] with
  | some st => s.complete e st
  | none =>
    if s.flashOn then s.scanBegin e
    else (s.setStCmd s.alm.nextCmd { item := e, op := opScan, nsid := e.nsid }).onAlm fun a => { a with nextCmd := a.nextCmd + 1 }
def execScan (q : BitVec 16) (s : State) : Out := .next (dispatch 6 opScan q almReady State.scanAdmit s)

/-- PS_TRANSITION_END (R343, R344): commands that waited for the end of PS2 begin. -/
def execPsTransitionEnd (s : State) : Out :=
  .next (
    let s := s.psEnd
    if !s.flashOn then s
    else (s.alm.cmds.filter fun e => !e.2.started && !e.2.ordered && e.2.op != 0xF0).foldl (fun s e =>
      if e.2.op ≠ opScan then s.stStart e.1
      else (s.onAlm fun a => { a with cmds := Tab.erase a.cmds e.1 }).scanBegin e.2.item) s)

/-! ### Page reads and evaluation -/

/-- Pages that open scans hold or have reserved in a sieve's 1 MiB buffer (R193). -/
def State.svPagesHeld (s : State) (ch : Nat) : Nat :=
  ((List.range 8).map fun n => if (s.part (partKey ch n)).pages.isSome then imgMembers (s.scan n).image else 0).sum

/-- SIEVE_PAGE_READ: the next member page of the next group of a part is read (R196). The buffer holds a group from its first page. -/
def execSievePageRead (ch : Fin 32) (n : Fin 8) (s : State) : Out :=
  .next (
    let k := partKey ch.val n.val
    let p := s.part k
    let c := s.scan n.val
    let nm := imgMembers c.image
    match p.todo with
    | [] => s
    | i :: _ =>
      let have_ := (p.pages.getD []).length
      if !c.live || p.early || decide (p.st = .ended) || !s.flashOn || !s.regBit Reg.almStat 0 || decide (nm ≤ have_) ||
          (p.pages.isNone && decide (16 < s.svPagesHeld ch.val + nm)) then s
      else
        let u := c.mbase.getD have_ 0 + 16 * i
        let r := (List.range 16).foldl (fun (q : State × Except (BitVec 16) (List Byte)) j =>
          match q.2 with
          | .error _ => q
          | .ok l =>
            let x := q.1.unitRead c.nsid (u + j)
            (x.1, x.2.map fun d => l ++ leBytes 4096 d.1.toNat)) (s, .ok [])
        match r.2 with
        | .error st => r.1.partStop ch.val n.val st (some u)
        | .ok l =>
          let f := r.1.hostBytes 8192
          f.1.setPart k { f.1.part k with pages := some (p.pages.getD [] ++ [l ++ f.2]) })

/-- Padding to a multiple of 8 bytes. -/
def pad8 (l : List Byte) : List Byte := l ++ List.replicate (r8 l.length - l.length) 0
/-- Bits packed into bytes, the first in bit 0 of byte 0. -/
def packBits (l : List Bool) : List Byte :=
  leBytes (ceilDiv l.length 8) (l.foldr (fun b a => b.toNat + 2 * a) 0)

/-- The 32-byte header of a record (R198). -/
def recHeader (kind slots len first rows npass st seq : Nat) : List Byte :=
  leBytes 1 kind ++ [0] ++ leBytes 2 slots ++ leBytes 4 len ++ leBytes 8 first ++ leBytes 4 rows ++ leBytes 4 npass ++ leBytes 2 st ++
    leBytes 2 0 ++ leBytes 4 seq

/-- The record of a group (R198): its passing rows, by index. The value of a null row whose code names no dictionary entry is free. -/
def State.groupRec (s : State) (m : List Byte) (ps : List (List Byte)) (pass : List Nat) (seq : Nat) : State × List Byte :=
  let rows := groupRows ps
  let first := pageFirst (ps.headD [])
  let body : State × List Byte :=
    if imgMode m % 2 = 1 then (s, pad8 (packBits ((List.range rows).map fun i => decide (i ∈ pass))))
    else
      let idx := pad8 (pass.flatMap fun i => leBytes 2 i)
      ((List.range (imgSlots m)).filter fun n => (imgProj m).testBit n).foldl (fun q n =>
        let l := slotPage m ps n
        let z := slotSize m ps n
        let vals := pass.foldl (fun (r : State × List Byte) i =>
          if slotType m n = 255 ∧ colEnc l = 1 ∧ colNull l i ∧ colAux l ≤ colCode l i then
            let f := r.1.fresh; (f.2, r.2 ++ leBytes z f.1)
          else (r.1, r.2 ++ leBytes z (slotVal m ps n i))) (q.1, [])
        let nulls := if slotType m n = 255 ∧ colFlag l 0 then pad8 (packBits (pass.map fun i => colNull l i)) else []
        (vals.1, q.2 ++ pad8 vals.2 ++ nulls)) (s, idx)
  let kind := imgMode m % 2
  (body.1, recHeader kind (if kind = 0 then imgProj m else 0) (32 + body.2.length) first rows pass.length 0 seq ++ body.2)

/-- The blocks of a group in order, up to the one that executes SDONE (R193, R194): the rows that pass. -/
def State.svBlocks : Nat → State → Nat → Nat → Nat → State × List Nat
  | 0, s, _, _, _ => (s, [])
  | k + 1, s, ch, n, b =>
    let r := s.svBlock ch n b
    let rows := ((List.range 128).filter fun j => r.2.getLsbD j).map (128 * b + ·)
    if (r.1.sv ch).done then (r.1, rows)
    else
      let t := State.svBlocks k r.1 ch n (b + 1)
      (t.1, rows ++ t.2)

/-- GROUP_EVALUATION: the loaded group of a part is evaluated (R193, R198, R200). DESIGN CHOICE (log entry 33). -/
def execGroupEvaluation (ch : Fin 32) (n : Fin 8) (s : State) : Out :=
  .next (
    let k := partKey ch.val n.val
    let p := s.part k
    let c := s.scan n.val
    let m := c.image
    match p.pages with
    | none => s
    | some ps =>
      if !c.live || p.early || ps.length != imgMembers m || p.outRec.isSome then s
      else
        let i := p.todo.headD 0
        let lba (j : Nat) : Nat := c.mbase.getD j 0 + 16 * i
        match groupFail m ps with
        | some (st, j) => s.partStop ch.val n.val st (some (lba j))
        | none =>
          let r := State.svBlocks (ceilDiv (groupRows ps) 128) s ch.val n.val 0
          let p := r.1.part k
          if p.early then r.1.partStop ch.val n.val p.status none
          else
            let g := r.1.groupRec m ps r.2 p.seq
            let s := (g.1.bump (Reg.svScanGroups ch.val n.val)).addReg (Reg.svScanPass ch.val n.val) r.2.length
            let emitRec := decide (r.2.length ≠ 0) || (imgMode m).testBit 1
            let p := { p with pages := none, todo := p.todo.drop 1, seq := p.seq + 1, evald := p.evald + 1
                              passed := p.passed + r.2.length, outRec := if emitRec then some g.2 else none }
            if emitRec && decide (c.ringSize < g.2.length) then
              (s.setPart k { p with outRec := none }).partStop ch.val n.val 0x0341 none
            else s.setPart k p)

/-! ### Records (R197, R199, R200) -/

/-- Bytes written into a part's ring at an offset, wrapping at its end. -/
def State.ringPut (s : State) (ch n o : Nat) (l : List Byte) : State × Option (BitVec 16) :=
  let c := s.scan n
  let a := c.ringAddr ch
  let k := min l.length (c.ringSize - o)
  let r := s.dmaWrite c.item.bid (a + BitVec.ofNat 64 o) (l.take k)
  if r.2.isSome then r else r.1.dmaWrite c.item.bid a (l.drop k)

/-- Whether a record fits: size − (WR − RD) ≥ RECLEN. -/
def Part.fits (p : Part) (size len : Nat) : Bool := decide ((p.wr - p.rd).toNat + len ≤ size)

/-- A record is written whole, then WR advances (R197). A write that is refused publishes nothing and ends the part with its status, as
an overrun does. DEDUCED (log entry 105). -/
def State.recPut (s : State) (ch n : Nat) (l : List Byte) : State :=
  let k := partKey ch n
  let p := s.part k
  let r := s.ringPut ch n (p.wr.toNat % (s.scan n).ringSize) l
  let s := r.1
  match r.2 with
  | some st =>
    let s := s.partStop ch n (if p.status = 0 then st else p.status) none
    s.setPart k { s.part k with eos := false, outRec := none }
  | none =>
  let wr := p.wr + BitVec.ofNat 64 l.length
  (s.setPart k { p with wr := wr, outRec := none, st := .running }).ctrlWrite ch n 0 (leBytes 8 wr.toNat)

/-- SIEVE_RECORD_WRITE: the waiting record is written if it fits; else the part stalls (R199). DESIGN CHOICE (log entry 32). -/
def execSieveRecordWrite (ch : Fin 32) (n : Fin 8) (s : State) : Out :=
  .next (
    let k := partKey ch.val n.val
    let p := s.part k
    match p.outRec with
    | none => s
    | some l =>
      if p.fits (s.scan n.val).ringSize l.length then s.recPut ch.val n.val l else s.setPart k { p with st := .stalled })

/-- SIEVE_RD_POLL: a stalled part reads RD again (R199). -/
def execSieveRdPoll (ch : Fin 32) (n : Fin 8) (s : State) : Out :=
  .next (if (s.scan n.val).live ∧ (s.part (partKey ch.val n.val)).st = .stalled then s.rdPoll ch.val n.val else s)

/-- SIEVE_PART_END: after its last group or an early end a part writes its EOS record, STATUS and DONE (R200). -/
def execSievePartEnd (ch : Fin 32) (n : Fin 8) (s : State) : Out :=
  .next (
    let k := partKey ch.val n.val
    let p := s.part k
    if !(s.scan n.val).live || p.st == .ended || p.st == .closed || !p.todo.isEmpty || p.outRec.isSome then s
    else if p.eos && !p.fits (s.scan n.val).ringSize 32 then s.setPart k { p with st := .stalled }
    else
      let s := if p.eos then s.recPut ch.val n.val (recHeader 2 0 32 p.passed p.evald 0 p.status.toNat p.seq) else s
      let p := s.part k
      let s := s.ctrlWrite ch.val n.val 24 (leBytes 2 p.status.toNat ++ [1])
      let s := s.setReg (Reg.svScanErr ch.val n.val) (p.status.setWidth 64)
      (s.setPart k { s.part k with st := .ended, pages := none }).raise (48 + ch.val))

/-- SCAN_COMPLETE: every part has ended (R334). -/
def execScanComplete (n : Fin 8) (s : State) : Out :=
  .next (
    let c := s.scan n.val
    let ps := (List.range 32).map fun ch => s.part (partKey ch n.val)
    if !c.live || !(ps.all fun p => p.st == .ended) then s
    else
      let st := ((ps.find? fun p => p.status ≠ 0).map fun p => p.status).getD 0
      let s := (List.range 32).foldl (fun s ch =>
        let k := partKey ch n.val
        s.setPart k { s.part k with st := .closed }) s
      (((s.setScan n.val {}).psEval.complete c.item st (BitVec.ofNat 64 (ps.map fun p => p.passed).sum)).hostEnded c.item).almGo)

end Sys2Proof.Machine
end

