-- ==== Sys2Proof/Machine/CsrRead.lean ====
section
/-! DEFINITION. Sys2Proof/Machine/CsrRead.lean: what a read of a register of CSR space returns (R10, R11, R22): the stored
value, or for a register that shows other state, that state. -/

namespace Sys2Proof.Machine

/-- The index of an address in a set of registers of n instances. -/
def regIdx (base stride n a : Nat) : Option Nat :=
  if base ≤ a ∧ a < base + stride * n ∧ (a - base) % stride = 0 then some ((a - base) / stride) else none

/-- STATE of OE_CTX_STATE. -/
def CState.code : CState → Nat
  | .free => 0
  | .ready => 1
  | .waitMem => 2
  | .runAhead => 3
  | .waitUnit => 4
  | .faulted => 5
  | .drain => 6

/-- A field for each of four ports. -/
def ports4 (w : Nat) (fn : Nat → Nat) : Nat := ((List.range 4).map fun p => fn p * 2 ^ (w * p)).sum

/-- OE_LINK_STAT. -/
def State.linkStat (s : State) (u : Nat) : W64 :=
  let lk (out : Bool) (p : Nat) : Option SLink := (s.physLink u p out).map fun k => s.link k.1 k.2
  BitVec.ofNat 64 (ports4 1 (fun p => (lk true p).isSome.toNat) + ports4 1 (fun p => (lk false p).isSome.toNat) * 16 +
    ports4 4 (fun p => match lk true p with | some l => l.credits % 16 | none => 0) * 2 ^ 8 +
    ports4 4 (fun p => match lk false p with | some l => l.buf.length % 16 | none => 0) * 2 ^ 24)

/-- OE_STAT: OWNER shows only where the engine's slice has applied SEALED (R139). -/
def State.oeStatWord (s : State) (u : Nat) : W64 :=
  let v := s.reg (Reg.oeStat u)
  BitVec.ofNat 64 ((s.engineIdle u).toNat + fld v 1 1 * 2 + (if s.sealed (u / 16) then fld v 2 1 * 4 + fld v 16 12 * 65536 else 0))

/-- OE_CTX_STATE. -/
def State.ctxStateWord (s : State) (u c : Nat) : W64 :=
  let x := s.ctx (16 * u + c)
  let tv := fld (s.reg (Reg.oeCtxState u c)) 3 1
  BitVec.ofNat 64 (x.st.code + tv * 8 + (if x.st = .free then 0 else x.bid.toNat * 2 ^ 16 + x.qid.toNat * 2 ^ 32))

/-- Registers of the slices that show other state. -/
def State.viewEngine (s : State) (a : Nat) : Option W64 :=
  let o := a - 0x80010000000
  let sl := o / 0x1000000
  let b := o % 0x1000000
  if b < 0x400000 ∨ 0x500000 ≤ b ∨ 8 ≤ sl ∨ a < 0x80010000000 then none else
  let u := sl * 16 + (b - 0x400000) / 0x10000
  let r := b % 0x10000
  if r = 0x8 then some (s.oeStatWord u)
  else if r = 0x18 then some (s.linkStat u)
  else match regIdx 0x1000 0x100 16 r with
    | some c => some (s.ctxStateWord u c)
    | none => none

/-- Registers of the sieves that show other state. -/
def State.viewSieve (s : State) (a : Nat) : Option W64 :=
  let ch := (a - 0x80000900000) / 0x8000
  let r := (a - 0x80000900000) % 0x8000
  if a < 0x80000900000 ∨ 32 ≤ ch then none
  else if r = 0 then
    some (BitVec.ofNat 64 (((List.range 8).map fun n => if (s.part (partKey ch n)).st = .closed then 0 else 2 ^ n).sum))
  else
    let p := s.part (partKey ch ((r - 0x1000) / 0x100))
    if r < 0x1000 ∨ 0x1800 ≤ r then none
    else match r % 0x100 with
      | 0x00 => some (BitVec.ofNat 64 (p.st.code + if p.st = .closed then 0 else p.bid.toNat * 2 ^ 16))
      | 0x08 => some (BitVec.ofNat 64 p.ctrl)
      | 0x10 => some p.wr
      | 0x18 => some p.rd
      | _ => none

/-- SPY_TBL_CFG. -/
def State.spyCfgWord (s : State) (t : Nat) : W64 :=
  let x := s.spyTable t
  if !x.exists_ then 0 else
  BitVec.ofNat 64 (1 + x.wide.toNat * 2 + x.destroying.toNat * 4 + (!x.cmds.isEmpty).toNat * 8 + (s.degraded t).toNat * 16 +
    x.owner.toNat * 2 ^ 16 + x.segs.length * 2 ^ 32)

/-- SPY_SEG. -/
def State.spySegWord (s : State) (g : Nat) : W64 :=
  let o := Tab.get 0 s.spy.segs g
  if o = 0 then 0 else
  BitVec.ofNat 64 (1 + (o - 1) * 2 ^ 10 + (s.spyTable (o - 1)).segs.idxOf g * 2 ^ 20)

/-- Registers of Spyglass that show other state. -/
def State.viewSpy (s : State) (a : Nat) : Option W64 :=
  if a = Reg.spyStat then some (setFld (s.reg a) 4 4 s.moving)
  else if a = Reg.spySegFree then some (BitVec.ofNat 64 s.freeSegs.length)
  else match regIdx (Reg.spyTblCfg 0) 0x10 1024 a, regIdx (Reg.spyTblCnt 0) 0x10 1024 a, regIdx (Reg.spySeg 0) 8 1024 a with
    | some t, _, _ => some (s.spyCfgWord t)
    | _, some t, _ => some (if (s.spyTable t).exists_ then BitVec.ofNat 64 (s.spyValid t + s.spyLost t * 2 ^ 32) else 0)
    | _, _, some g => some (s.spySegWord g)
    | _, _, _ => none

/-- Registers of Orrery and Domino that show other state. -/
def State.viewOrr (s : State) (a : Nat) : Option W64 :=
  if a = Reg.orrTickno then some (BitVec.ofNat 64 s.orr.tick)
  else if a = Reg.orrFree then some (BitVec.ofNat 64 s.orrFree)
  else match regIdx (Reg.orrHtCur 0) 0x40 64 a, regIdx (Reg.orrHtOffer 0) 0x40 64 a, regIdx (Reg.orrThrState 0) 8 65536 a with
    | some h, _, _ => some (htWord (s.htCur h))
    | _, some h, _ => some (htWord (s.htOffer h))
    | _, _, some k => some (s.thrWord (k / 4) (k % 4))
    | _, _, _ =>
      match regIdx (Reg.domFlowCfg 0) 0x10 65536 a, regIdx (Reg.domFlowState 0) 0x10 65536 a with
      | some f, _ => some (s.flow (BitVec.ofNat 16 f)).cfgWord
      | _, some f => some (s.flow (BitVec.ofNat 16 f)).stateWord
      | _, _ => none

/-- The registers of a queue (QM_). -/
def State.queueWord (s : State) (q r : Nat) : Option W64 :=
  let x := s.queue (BitVec.ofNat 16 q)
  match r with
  | 0x00 => some (BitVec.ofNat 64 (x.cls % 16 + x.prod % 4 * 16 + x.exists_.toNat * 64 + x.evt.toNat * 128 + x.prio.toNat * 256 +
      x.sqLog % 32 * 2 ^ 16 + x.cqLog % 32 * 2 ^ 24 + x.bid.toNat * 2 ^ 32))
  | 0x08 => some (ofBool64 x.enable)
  | 0x10 => some (BitVec.ofNat 64 (x.idle.toNat + (!x.hold.isEmpty).toNat * 2 + x.hold.length % 16 * 4 +
      fld (s.reg (Reg.qmQstat q)) 6 1 * 64))
  | 0x18 => some x.sqBase
  | 0x20 => some x.cqBase
  | 0x28 => some (x.sqTail ++ x.sqHead)
  | 0x30 => some (x.cqTail ++ x.cqHead)
  | 0x38 => some (BitVec.ofNat 64 (x.flow.toNat + x.role % 4 * 2 ^ 16 + x.slices.toNat * 2 ^ 24 + x.src.toNat * 2 ^ 32))
  | 0x40 => some (BitVec.ofNat 64 (x.maxInflight % 2 ^ 13 + x.inflight % 2 ^ 13 * 2 ^ 16))
  | _ => none

/-- BOOTH_STAT. -/
def Booth.statWord (b : Booth) : W64 :=
  BitVec.ofNat 64 ((match b.st with | .free => 0 | .active => 1 | .halted => 2) + b.more.toNat * 4 + b.cause.toNat * 2 ^ 16 +
    b.haltQ.toNat * 2 ^ 32 + b.detail.toNat * 2 ^ 48)

/-- The registers of a Booth; those of a window show the one that BOOTH_WIN_SEL selects. -/
def State.boothWord (s : State) (i r : Nat) : Option W64 :=
  let bid := BitVec.ofNat 12 i
  let b := s.booth bid
  let w := Tab.get {} b.windows (fld (s.reg (Reg.boothWinSel i)) 0 8)
  let sel (v : Nat) : Option W64 := some (if w.valid then BitVec.ofNat 64 v else 0)
  match r with
  | 0x00 => some b.statWord
  | 0x18 => some (BitVec.ofNat 64 (s.boothF bid))
  | 0x308 => sel w.base
  | 0x310 => sel w.size
  | 0x318 => sel w.target
  | 0x320 => sel (1 + w.r.toNat * 2 + w.w.toNat * 4 + w.x.toNat * 8 + attrCode w.attr * 16)
  | _ =>
    match regIdx 0x100 8 8 r, regIdx 0x200 8 8 r with
    | some k, _ => some (BitVec.ofNat 64 (s.quota bid k + s.inUse bid k * 2 ^ 32))
    | _, some k => some (BitVec.ofNat 64 ((Tab.get 0 b.ways k).toNat + (Tab.get enginesDefault b.engines k).toNat * 2 ^ 16))
    | _, _ => none

/-- Registers of the queue manager and of Booths that show other state. -/
def State.viewQueue (s : State) (a : Nat) : Option W64 :=
  if a = Reg.qmAdmCtl then some (setFld (s.reg a) 0 1 s.admGo.toNat)
  else if a = Reg.qmQueues then some (BitVec.ofNat 64 ((s.queues.filter fun e => e.2.exists_).length))
  else if Reg.qmQcfg 0 ≤ a ∧ a < Reg.qmQcfg 65536 then s.queueWord ((a - Reg.qmQcfg 0) / 0x100) ((a - Reg.qmQcfg 0) % 0x100)
  else if Reg.boothStat 0 ≤ a ∧ a < Reg.boothStat 4096 then s.boothWord ((a - Reg.boothStat 0) / 0x1000) ((a - Reg.boothStat 0) % 0x1000)
  else none

/-- The block that ALM_BLK_SEL names. -/
def State.selBlk (s : State) : Nat := fld (s.reg Reg.almBlkSel) 0 28

/-- ALM_NS_INFO. -/
def Ns.infoWord (x : Ns) : W64 :=
  if !x.exists_ then 0 else
  BitVec.ofNat 64 (1 + x.ordered.toNat * 2 + x.ledger.toNat * 4 + x.bid.toNat * 2 ^ 16 + x.size * 2 ^ 40)

/-- ALM_GRP1: retired blocks, the smallest and the largest erase count of a group's blocks. -/
def State.grp1Word (s : State) (g : Nat) : W64 :=
  let bs := s.alm.geom.blocks g
  let pes := bs.map s.blkPe
  BitVec.ofNat 64 ((bs.filter fun b => s.blkState b = 3).length + pes.foldl min (pes.headD 0) % 2 ^ 16 * 2 ^ 32 +
    pes.foldl max 0 % 2 ^ 16 * 2 ^ 48)

/-- Registers of Almanac that show other state. -/
def State.viewAlm (s : State) (a : Nat) : Option W64 :=
  let ns := s.ns (fld (s.reg Reg.almNsSel) 0 11)
  let v := s.lgView
  if a = Reg.almCtl then some (setFld (s.reg a) 0 1 (s.alm.ckpt.isSome || s.alm.ckptDue).toNat)
  else if a = Reg.almFmt then some (setFld (s.reg a) 16 1 (fld (s.reg Reg.almStat) 7 1))
  else if a = Reg.almWbFill then some (BitVec.ofNat 64 s.wbFill)
  else if a = Reg.almCap then some (setFld (s.reg a) 32 32 s.nsGib)
  else if a = Reg.almNsInfo then some ns.infoWord
  else if a = Reg.almNsLbase then some (if ns.exists_ then BitVec.ofNat 64 ns.lbase else 0)
  else if a = Reg.almLgUnits then some (BitVec.ofNat 64 v.2.1)
  else if a = Reg.almLgOffset then some (BitVec.ofNat 64 v.2.2)
  else if a = Reg.almLgGen then some (s.ns s.lgNsid).gen
  else if a = Reg.almBlkInfo then some (if s.regBit Reg.almStat 1 then s.blkInfo s.selBlk else 0)
  else match regIdx (Reg.almLgHead0 0) 8 4 a, regIdx (Reg.almGrp0 0) 0x10 32 a, regIdx (Reg.almGrp1 0) 0x10 32 a with
    | some i, _, _ => some (v.1.extractLsb' (64 * i) 64)
    | _, some g, _ => some (BitVec.ofNat 64 ((s.freeBlks g).length + (s.spareBlks g).length * 2 ^ 32))
    | _, _, some g => some (s.grp1Word g)
    | _, _, _ => none

/-- MV_CTRL: GO reads 1 while the transfer it started runs. -/
def State.mvCtrlWord (s : State) (n : Nat) : W64 :=
  let m := s.mover n
  setFld (s.reg (Reg.mvCtrl n)) 0 1 (m.kernel && m.st != 0).toNat

/-- Registers of movers, digest and compression that show other state. -/
def State.viewStream (s : State) (a : Nat) : Option W64 :=
  if a = Reg.dgStat then some s.dgStatWord
  else if a = Reg.czStat then some s.czStatWord
  else match regIdx (Reg.mvCtrl 0) 0x400 288 a, regIdx (Reg.mvStat 0) 0x400 288 a, regIdx (Reg.mvHalted 0) 8 5 a with
    | some n, _, _ => some (s.mvCtrlWord n)
    | _, some n, _ => some (s.mvStatWord n)
    | _, _, some i => some (s.mvHaltedWord i)
    | _, _, _ =>
      match regIdx (Reg.dgCtx 0) 8 4096 a, regIdx (Reg.czCtx 0) 8 256 a with
      | some n, _ => some (s.dgCtxWord n)
      | _, some n => some (s.czCtxWord n)
      | _, _ => none

/-- Other registers that show other state. -/
def State.viewDevice (s : State) (a : Nat) : Option W64 :=
  if a = Reg.merNow then some (s.merAt islHub)
  else if a = Reg.huCtl then some (setFld (s.reg a) 0 1 (s.ctl.measReq || s.ctl.measuring).toNat)
  else if a = Reg.mcScrCtl then some (setFld (s.reg a) 0 1 s.scrBusy.toNat)
  else (regIdx (Reg.pciFnEvt 0) 8 4 a).map s.pciEvtWord

/-- The value of the register in the 8-byte slot at an address: WO fields and unassigned offsets read as zero (R10, R11),
and so does CSR space outside every block of R23. DESIGN CHOICE (log entry 113). -/
def State.csrView (s : State) (a : Nat) : W64 :=
  match regAt a with
  | none => 0
  | some d =>
    match [s.viewDevice a, s.viewEngine a, s.viewSieve a, s.viewSpy a, s.viewOrr a, s.viewQueue a, s.viewAlm a,
        s.viewStream a].findSome? id with
    | some v => v
    | none => s.reg a &&& ~~~d.wo

/-- Whether a read of a register waits: DEV_MODE_STAT while an epoch runs, ALM_NS_RES while a namespace command does.
DEDUCED (log entry 72). -/
def State.csrWaits (s : State) (a : Nat) (f : DbForm) : Bool :=
  (a == Reg.devModeStat && s.regBit Reg.devMode 6 && f != .hi) || (a == Reg.almNsRes && !s.alm.nsq.isEmpty)

/-- The half of a register that an access names (R22). -/
def half (f : DbForm) (v : W64) : W64 :=
  match f with
  | .full => v
  | .lo => v &&& 0xFFFFFFFF
  | .hi => v >>> 32

/-- The form of a CSR access at an address (R22): none where it is misaligned or of another width. -/
def csrForm (a : Nat) (z : CsrSize) : Option DbForm :=
  match z with
  | .w64 => if a % 8 = 0 then some .full else none
  | .w32 => if a % 8 = 0 then some .lo else if a % 8 = 4 then some .hi else none
  | .other => none

/-- A read of CSR space: the state after it (reading ALM_LG_HEAD0 captures) and the value. -/
def State.csrRead (s : State) (a : Nat) (f : DbForm) : State × W64 :=
  let s := if a = Reg.almLgHead0 0 ∧ f ≠ .hi then lgCapture s
    else if a = Reg.almBlkInfo ∧ s.regBit Reg.almStat 1 then s.pageLoad ((s.blkAddr s.selBlk - s.mapBase) / 4096) else s
  (s, half f (s.csrView a))

end Sys2Proof.Machine
end

