-- ==== Sys2Proof/Machine/Csr.lean ====
section
/-! DEFINITION. Sys2Proof/Machine/Csr.lean: writes of CSR space: the field types of R10, the requesters of R21, the widths of
R22, and the registers whose writes start an action. -/

namespace Sys2Proof.Machine

/-- The bits that an access writes, and the value in place (R22). -/
def writeMask : DbForm → W64
  | .full => 0xFFFFFFFFFFFFFFFF
  | .lo => 0xFFFFFFFF
  | .hi => 0xFFFFFFFF00000000
def writeBits (f : DbForm) (v : W64) : W64 :=
  match f with
  | .full => v
  | .lo => v &&& 0xFFFFFFFF
  | .hi => v <<< 32

/-- A write by field types: RW and unlocked RWL fields take the value, RW1C bits written 1 clear (R10). -/
def State.plainWrite (s : State) (d : RegD) (a : Nat) (m w : W64) : State :=
  let rw := (d.rw ||| (if s.ctl.rwl then 0 else d.rwl)) &&& m
  let v := s.reg a
  s.setReg a (((v &&& ~~~rw) ||| (w &&& rw)) &&& ~~~(w &&& d.w1c))

/-- The whole register after a write of a part, for registers that act on the whole (R22). DESIGN CHOICE (log entry 70). -/
def State.merged (s : State) (a : Nat) (m w : W64) : W64 := (s.csrView a &&& ~~~m) ||| w

/-- A write that starts an action on a 64-bit write or a write of the high half: the low half waits in the register. -/
def State.onHigh (s : State) (a : Nat) (f : DbForm) (w : W64) (go : W64 → State → State) : State :=
  match f with
  | .full => go w (s.setReg a 0)
  | .lo => s.setReg a (w &&& ((regAt a).map RegD.wo).getD 0)
  | .hi => go (w ||| (s.reg a &&& 0xFFFFFFFF)) (s.setReg a 0)

/-- Meridian, modes, hold-up and Stagehand. -/
def State.writeDevice (s : State) (who : Requester) (a : Nat) (f : DbForm) (m w : W64) : Option State :=
  let lo := f != .hi
  let w32 : BitVec 32 := w.setWidth 32
  let disc := s.regBit Reg.merCtl 0 && who != .hardware
  if a = Reg.merStep then some (if disc then s else s.onHigh a f w fun v s => s.merStep v)
  else if a = Reg.merRate then some (if !lo || disc then s else s.merRate w32)
  else if a = Reg.devModeReq then some (if lo then modeRequest (who == .stagehand) (w.toNat % 8) s else s)
  else if a = Reg.devRst then some (if lo then devRstWrite w32 s else s)
  else if a = Reg.huCtl then
    some (if !lo then s else
      let s := s.setRegBit a 1 (bitAt w 1)
      if bitAt w 0 then measReq s else s)
  else if a = Reg.stgMboxIn 7 then some (mboxSend (s.merged a m w) s)
  else none

/-- Engines and L2 caches. -/
def State.writeCaches (s : State) (a : Nat) (f : DbForm) (m w : W64) : Option State :=
  let lo := f != .hi
  let eng (o : Nat) : Option Nat :=
    (firstIdx 128 fun u => decide (Reg.oeCfg u + o = a))
  let dom (r : Nat → Nat) : Option Nat := firstIdx 9 fun d => decide (r d = a)
  if a < 0x80000040000 ∨ (0x80000050000 ≤ a ∧ a < 0x80010000000) then none else
  match eng 0, eng 0x10, dom Reg.l2Ctl, dom Reg.l2Lock, dom Reg.l2MopCmd with
  | some u, _, _, _, _ => some (oeCfgWrite u (s.merged a m w) s)
  | _, some u, _, _, _ => some (if lo then oeL1CtlWrite u w s else s)
  | _, _, some d, _, _ => some (if !lo then s else if bitAt w 0 then l2Enable d s else l2Disable d s)
  | _, _, _, some d, _ => some (if lo then l2LockWrite d (w.setWidth 32) s else s)
  | _, _, _, _, some d => some (if lo then mopCmdWrite d w s else s)
  | _, _, _, _, _ => none

/-- Spyglass: EN needs the mirror base, which is fixed while EN is 1; RESYNC (R230). -/
def State.writeSpy (s : State) (d : RegD) (a : Nat) (f : DbForm) (m w : W64) : Option State :=
  if a = Reg.spyCtl then
    some (if f = .hi then s else
      let en := bitAt w 0 && (s.reg Reg.spyMirrorBase != 0)
      let s := (s.setRegBit a 0 en).setRegBit a 1 (bitAt w 1)
      if bitAt w 2 then spyResync s else s)
  else if a = Reg.spyMirrorBase then some (if s.regBit Reg.spyCtl 0 then s else s.plainWrite d a m w)
  else none

/-- A DOM_CMD (R251). -/
def domCmd (v : W64) (s : State) : State :=
  let fl : BitVec 16 := v.extractLsb' 16 16
  match fld v 0 4 with
  | 1 => domSkip fl (v.extractLsb' 32 32) s
  | 2 => domFlush fl s
  | _ => s.domRes 0x0401

/-- Orrery and Domino. A write to one half of a source binding clears no PEND bit it does not name. -/
def State.writeOrr (s : State) (d : RegD) (a : Nat) (f : DbForm) (m w : W64) : Option State :=
  if a = Reg.orrCtl then some ((s.plainWrite d a m w).schedule)
  else if a = Reg.orrHtEn then some (orrHtEnWrite (s.merged a m w) s)
  else if a = Reg.domCmd then some (s.onHigh a f w domCmd)
  else match regIdx (Reg.orrOp 0) 0x40 64 a, regIdx (Reg.orrSrc 0) 8 4096 a, regIdx (Reg.domFlowCfg 0) 0x10 65536 a with
    | some h, _, _ => some (s.onHigh a f w (orrOpWrite (Fin.ofNat 64 h)))
    | _, some n, _ => some (orrSrcWrite n (((s.reg a &&& ~~~(2 : W64)) &&& ~~~m) ||| w) s)
    | _, _, some n => some (flowCfgWrite (BitVec.ofNat 16 n) (s.merged a m w) s)
    | _, _, _ => none

/-- QID 0 takes its ring sizes and bases from writes while it is not enabled (QM_QCFG, QM_SQ_BASE, QM_CQ_BASE). -/
def State.writeQ0 (s : State) (r : Nat) (v : W64) : State :=
  let x := s.queue 0
  let clamp (n : Nat) : Nat := max 4 (min 20 n)
  if x.enable then s else
  match r with
  | 0x00 => s.setQueue 0 { x with sqLog := clamp (fld v 16 5), cqLog := clamp (fld v 24 5) }
  | 0x18 => s.setQueue 0 { x with sqBase := v }
  | 0x20 => s.setQueue 0 { x with cqBase := v }
  | _ => s

/-- The queue manager. -/
def State.writeQueue (s : State) (a : Nat) (f : DbForm) (m w : W64) : Option State :=
  if a = Reg.qmAdmCtl then
    some (if f = .hi then s else
      let s := if bitAt w 1 then s.setRegBit a 1 false else s
      if bitAt w 0 then Sys2Proof.Machine.admGo s else s)
  else if Reg.qmQcfg 0 ≤ a ∧ a < Reg.qmQcfg 65536 then
    let q := (a - Reg.qmQcfg 0) / 0x100
    let r := (a - Reg.qmQcfg 0) % 0x100
    if r = 0x08 then some (if f = .hi then s else qctlWrite (BitVec.ofNat 16 q) (w.setWidth 32) s)
    else if q = 0 ∧ (r = 0x00 ∨ r = 0x18 ∨ r = 0x20) then some (s.writeQ0 r (s.merged a m w))
    else none
  else none

/-- The namespace command that ALM_NS_CMD spells (R296). -/
def nsCmdOf (v : W64) : NsCmd :=
  { op := fld v 0 4, nsid := fld v 16 11, bid := v.extractLsb' 28 12, size := fld v 40 24, ledger := bitAt v 4, ordered := bitAt v 5 }

/-- ALM_LG_CMD (R323). -/
def lgCmdWrite (v : W64) (s : State) : State :=
  let op := fld v 0 2
  if !bitAt v 2 then s.setRegFld Reg.almLgCmd 0 2 op
  else if op = 1 then lgReadChain s else if op = 2 then lgSeal s else s.lgDone op 0x0401

/-- Almanac. -/
def State.writeAlm (s : State) (a : Nat) (f : DbForm) (w : W64) : Option State :=
  let lo := f != .hi
  if a = Reg.almCtl then
    some (if !lo then s else
      let s := s.setRegBit a 1 (bitAt w 1)
      let s := if bitAt w 1 then s.refreshDue else s
      if bitAt w 0 then ckptReq s else s)
  else if a = Reg.almFmt then
    some (if !lo then s else
      let s := s.setRegFld a 0 16 (fld w 0 16)
      if bitAt w 16 then fmtStart s else s)
  else if a = Reg.almNsCmd then some (s.onHigh a f w fun v s => nsCmd (nsCmdOf v) s)
  else if a = Reg.almLgCmd then some (if lo then lgCmdWrite w s else s)
  else if a = Reg.almLgSel then some (if lo then lgSelWrite (w.setWidth 32) s else s)
  else if a = Reg.almPs then some (if lo then almPsWrite (w.setWidth 32) s else s)
  else none

/-- MV_CTRL: GO, then RESUME and ABORT (R353, R361). DESIGN CHOICE (log entry 70). -/
def mvCtrlWrite (n : Nat) (w : W64) (s : State) : State :=
  let s := if bitAt w 0 then mvGo n (fld w 1 2) s else s.setRegFld (Reg.mvCtrl n) 1 2 (fld w 1 2)
  let s := if bitAt w 3 then mvResume n s else s
  if bitAt w 4 then mvAbort n s else s

/-- Movers, digest engine, scrubber and training. -/
def State.writeStream (s : State) (d : RegD) (a : Nat) (f : DbForm) (m w : W64) : Option State :=
  let lo := f != .hi
  if a = Reg.dgSpillBase then some (if s.regBit Reg.dgCtl 0 then s else s.plainWrite d a m w)
  else if a = Reg.mcScrBase ∨ a = Reg.mcScrLen then some (if s.scrBusy then s else s.plainWrite d a m w)
  else if a = Reg.mcScrCtl then
    some (if !lo then s else
      let s := s.setRegFld a 16 16 (fld w 16 16)
      let s := if bitAt w 1 then scrubAbort s else s
      if bitAt w 0 then scrubGo s else s)
  else match regIdx (Reg.mvCtrl 0) 0x400 288 a, regIdx (Reg.mcTrainCtl 0) 0x10000 12 a with
    | some n, _ => some (if lo then mvCtrlWrite n w s else s)
    | _, some n => some (if !lo then s else
        let s := s.setRegFld a 8 7 (fld w 8 7)
        if bitAt w 0 then recenter n s else s)
    | _, _ =>
      match regIdx (Reg.mvSrc 0) 0x400 288 a, regIdx (Reg.mvDst 0) 0x400 288 a, regIdx (Reg.mvCount 0) 0x400 288 a with
      | none, none, none => none
      | p, q, r =>
        let n := ((p.orElse fun _ => q).orElse fun _ => r).getD 0
        some (if n < 128 ∧ (s.mover n).st = 0 then s.plainWrite d a m w else s)

/-- NET and PCI. -/
def State.writeNet (s : State) (a : Nat) (f : DbForm) (m w : W64) : Option State :=
  if a = Reg.netPtpSample then some (s.onHigh a f w ptpSample)
  else if a = Reg.pciStat then some (if f = .hi then s else pciStatWrite (w &&& 0x1F) s)
  else match regIdx (Reg.netRxbCfg 0) 0x40 256 a, regIdx (Reg.pciFn 0) 8 256 a with
    | some i, _ => some (rxbCfgWrite i (s.merged a m w) s)
    | _, some i => some (pciFnWrite i (s.merged a m w) s)
    | _, _ => none

/-- A write of the register in the slot at an address, an access of a permitted requester. Unassigned offsets ignore it (R11).
DESIGN CHOICE (log entry 70). -/
def State.csrWrite (s : State) (who : Requester) (a : Nat) (f : DbForm) (v : W64) : State :=
  let m := writeMask f
  let w := writeBits f v
  match regAt a with
  | none => s
  | some d =>
    match [s.writeDevice who a f m w, s.writeCaches a f m w, s.writeSpy d a f m w, s.writeOrr d a f m w, s.writeQueue a f m w,
        s.writeAlm a f w, s.writeStream d a f m w, s.writeNet a f m w].findSome? id with
    | some t => t
    | none => s.plainWrite d a m w

/-- Whether CSR space answers a requester (R21): a control-core thread at K or M, Stagehand, a hardware block. -/
def State.csrOpen (s : State) : Requester → Bool
  | .core h => (s.ctx (2048 + h.val)).priv != .u
  | .stagehand | .hardware => true
  | .other => false

/-- REGISTER_WRITE (R10, R21, R22): a write that its requester, width or place does not allow has no effect. DEDUCED (log entry 71). -/
def execRegisterWrite (who : Requester) (addr : BitVec 48) (size : CsrSize) (v : W64) (s : State) : Out :=
  .next (
    let a := addr.toNat
    if !s.pins.porN || !s.csrOpen who || s.region a != some .csr then s
    else match csrForm a size with
      | none => s
      | some f => s.csrWrite who (a / 8 * 8) f v)

end Sys2Proof.Machine
end

