-- ==== Sys2Proof/Machine/LoadStore.lean ====
section
/-! DEFINITION. Sys2Proof/Machine/LoadStore.lean: scalar loads and stores (R45–R47), of memory through the caches (R135, R140, R151,
R152), of doorbells (R263) and, on a control core at K or M, of CSR space (R21, R22). -/

namespace Sys2Proof.Machine

/-- The Booth that a context acts for at a doorbell (R264): a control core acts for Booth 0. -/
def State.bellBid (s : State) (x : Nat) : BitVec 12 := if isEng x then (s.ctx x).bid else 0

/-- The form of a doorbell access of n bytes (R263); none for any other access. -/
def bellForm (p n : Nat) : Option DbForm :=
  if n = 8 then some .full else if n = 4 then some (if p % 8 = 0 then .lo else .hi) else none
/-- The queue of a doorbell address (R263). -/
def bellQid (p : Nat) : BitVec 16 := BitVec.ofNat 16 ((p - bellBase) / 8)

/-- The width of a CSR access of n bytes (R22). -/
def csrSizeOf (n : Nat) : CsrSize := if n = 8 then .w64 else if n = 4 then .w32 else .other

/-- Whether a context may reach CSR space (R21). -/
def State.csrReach (s : State) (x : Nat) : Bool := !isEng x && (s.ctx x).priv != .u

/-! ### Run-ahead entry (R140) -/

/-- Attributes whose loads look up the caches (R152). -/
def Attr.cached : Attr → Bool
  | .wb | .wt | .wna => true
  | _ => false

/-- Whether a miss of a context starts an episode (R140, R145). While the L1D or the L2 is off no data reach L1D, and none starts. -/
def State.raOk (s : State) (x : Nat) (at_ : Attr) : Bool :=
  isEng x && bitAt (s.reg (Reg.oeCfg (unitOf x))) (16 + x % 16) && !s.sealed (unitOf x / 16) && at_.cached &&
    s.denOn (unitOf x) && s.l2En (unitOf x / 16) && (s.ctx x).epi.isNone

/-- A load blocks its context until the data of its lines arrive (R135). -/
def State.missWait (s : State) (x : Nat) (o : LoadOp) (word : BitVec 32) (lines : List Nat) : State :=
  let s := s.waitFor x .waitMem (.load o word)
  s.setCtx x { s.ctx x with miss := lines }

/-- An episode starts (R140, R141): the checkpoint, the poisoned destination, and the next instruction. DEDUCED (log entry 75). -/
def State.startEpisode (s : State) (x : Nat) (o : LoadOp) (word : BitVec 32) (dsts : List Loc) (lines : List Nat) : State :=
  let c := s.ctx x
  let s := s.setCtx x { c with st := .runAhead, miss := lines, epi := some { chk := c.r, poison := [], load := o, word := word } }
  ((s.poisonDsts x dsts).bump (Reg.oeRaEpis (unitOf x) (x % 16))).advance x false

/-- Buffered stores that a load of n bytes overlaps without lying inside one drain first, as all do before a UC load (R151, R79). -/
def State.settle (s : State) (u a n : Nat) (at_ : Attr) : State :=
  if at_ = .uc then s.sbDrain u else
  match ((s.exe u).sb.filter fun e => e.overlaps a n).getLast? with
  | some e => if e.covers a n then s else s.sbDrain u
  | none => s

/-! ### Loads -/

/-- What a load of one naturally aligned item ends in. `miss` has changed nothing but the store buffer. -/
inductive LdRes where
  | ok (s : State) (v : Nat)
  | trap (s : State) (t : Trap)
  | miss (s : State) (p : Nat) (at_ : Attr)
  | hold (s : State)

/-- A load of n bytes at an address (R45, R46). With `fill` a miss is served; `hold` is a CSR read that waits (R22). -/
def State.loadItem (s : State) (x : Nat) (a : W64) (n : Nat) (fill : Bool) : LdRes :=
  if a.toNat % n ≠ 0 then .trap s (trapAlign a) else
  let r := s.xlate x .read a
  match r.2 with
  | .error t => .trap r.1 t
  | .ok (p, at_) =>
    let s := r.1
    match s.region p with
    | some .bell =>
      match bellForm p n with
      | none => .trap s (trapData a 0x0602 false)
      | some f =>
        let s := s.sbDrain (unitOf x)
        match s.bellLoad (s.bellBid x) (bellQid p) f with
        | .error e => .trap s (trapData a e false)
        | .ok v => .ok s v.toNat
    | some .csr =>
      if !s.csrReach x then .trap s (trapData a 0x0701 false)
      else match csrForm p (csrSizeOf n) with
        | none => .trap s (trapData a 0x0602 false)
        | some f =>
          let s := s.sbDrain (unitOf x)
          if s.csrWaits (p / 8 * 8) f then .hold s
          else let q := s.csrRead (p / 8 * 8) f; .ok q.1 q.2.toNat
    | _ =>
      match s.memStatus p n with
      | some e => .trap s (trapData a e false)
      | none =>
        let s := s.settle (unitOf x) p n at_
        if !fill && s.raOk x at_ && (s.nearHit (unitOf x) x p n at_).isNone then .miss s p at_
        else
          let l := s.loadLine (unitOf x) x p n at_ fill
          match l.2 with
          | .hit b => .ok l.1 (leVal b)
          | .err e => .trap l.1 (trapData a e false)
          | .miss => .miss s p at_

/-- The register of a load by its op: f for LDF and LWF (R45). -/
def loadLoc (op : Nat) (rt : Reg5) : Loc := if 8 ≤ op then .f rt.toNat else .g rt.toNat
/-- The value a load writes (R45). -/
def loadVal (op v : Nat) : W64 :=
  if op = 9 then BitVec.ofNat 64 (v + 0xFFFFFFFF00000000)
  else if op < 3 then sextTo64 (8 * opSize op) (BitVec.ofNat 64 v) else BitVec.ofNat 64 v
def State.setLoad (s : State) (x op : Nat) (rt : Reg5) (v : Nat) : State :=
  if 8 ≤ op then s.setF x rt.toNat (loadVal op v) else s.setG x rt.toNat (loadVal op v)

/-- A scalar load: its op, destination, address, and how it names itself while it waits. -/
def State.scalarLoad (s : State) (x op : Nat) (rt : Reg5) (a : W64) (o : LoadOp) (word : BitVec 32) (fill : Bool) : Eff :=
  match s.loadItem x a (opSize op) fill with
  | .ok t v => .ok (t.setLoad x op rt v)
  | .trap t k => .trap t k
  | .hold t => .wait (t.waitFor x .waitMem (.load o word))
  | .miss t p at_ =>
    let line := if at_.cached then [p / 64] else []
    if t.raOk x at_ then .done (t.startEpisode x o word [loadLoc op rt] line)
    else .wait (t.missWait x o word line)

/-- A scalar load inside an episode (R141, R142). On a UC region it is poisoned with no prefetch. DESIGN CHOICE (log entry 99). -/
def State.scalarRa (s : State) (x op : Nat) (rt : Reg5) (a : W64) (clean : Bool) : RaLoad :=
  if !clean then .poison s
  else if a.toNat % opSize op ≠ 0 then .ends else
  match (s.xlate x .read a).2 with
  | .error _ => .ends
  | .ok (p, at_) =>
    if s.region p = some .bell then
      (if (bellForm p (opSize op)).any fun f => (s.bellLoad (s.bellBid x) (bellQid p) f).isOk then .poison s else .ends)
    else if (s.memStatus p (opSize op)).isSome then .ends
    else if at_ = .uc then .poison s
    else match s.nearHit (unitOf x) x p (opSize op) at_ with
      | some b => .data ((s.sideUse (unitOf x) x (p / 64)).setLoad x op rt (leVal b))
      | none => .poison (if s.sbOn (unitOf x) then s.prefetch x (p / 64) (at_ = .str) else s)

/-- The signature of a scalar load. -/
def loadSig (w : BitVec 32) (op : Nat) (rt : Reg5) (srcs : List Loc) (o : LoadOp) : Sig :=
  { word := w, srcs := srcs, dsts := [loadLoc op rt], ra := .load o }

/-- An M-format load (R45). -/
def loadM (x : CtxId) (op : Nat) (rt rb : Reg5) (disp : BitVec 12) (s : State) : Out :=
  let i := ctxIdx x
  let w := encM 0x10 rt rb op disp
  let o : LoadOp := .m (BitVec.ofNat 4 op) rt rb disp
  let ea (s : State) : W64 := s.g i rb.toNat + dispOf disp (opSize op)
  .next (issueWith i (loadSig w op rt [lg rb] o) (fun s => s.scalarLoad i op rt (ea s) o w false)
    (fun s _ => s.scalarRa i op rt (ea s) (!s.poisoned i (lg rb))) s)

def execLb (x : CtxId) (rt rb : Reg5) (disp : BitVec 12) (s : State) : Out := loadM x 0 rt rb disp s
def execLh (x : CtxId) (rt rb : Reg5) (disp : BitVec 12) (s : State) : Out := loadM x 1 rt rb disp s
def execLw (x : CtxId) (rt rb : Reg5) (disp : BitVec 12) (s : State) : Out := loadM x 2 rt rb disp s
def execLd (x : CtxId) (rt rb : Reg5) (disp : BitVec 12) (s : State) : Out := loadM x 3 rt rb disp s
def execLbu (x : CtxId) (rt rb : Reg5) (disp : BitVec 12) (s : State) : Out := loadM x 4 rt rb disp s
def execLhu (x : CtxId) (rt rb : Reg5) (disp : BitVec 12) (s : State) : Out := loadM x 5 rt rb disp s
def execLwu (x : CtxId) (rt rb : Reg5) (disp : BitVec 12) (s : State) : Out := loadM x 6 rt rb disp s
def execLdf (x : CtxId) (rt rb : Reg5) (disp : BitVec 12) (s : State) : Out := loadM x 8 rt rb disp s
def execLwf (x : CtxId) (rt rb : Reg5) (disp : BitVec 12) (s : State) : Out := loadM x 9 rt rb disp s

/-! ### Stores -/

/-- The demand check of a store to a cached region (R165): one that finds an uncorrectable dirty line takes DATA_ERROR, as it issues. -/
def State.storeCheck (s : State) (u p : Nat) (at_ : Attr) : State × Bool :=
  if at_.cached && s.l2En (domOf u) then s.l2Check (domOf u) (p / 64) else (s, false)

/-- A store of bytes at an address, naturally aligned (R46): to a doorbell (R263, R78), to CSR space (R22), or through the store
buffer (R151). -/
def State.storeItem (s : State) (x : Nat) (a : W64) (l : List Byte) : Eff :=
  let n := l.length
  if a.toNat % n ≠ 0 then .trap s (trapAlign a) else
  let r := s.xlate x .write a
  match r.2 with
  | .error t => .trap r.1 t
  | .ok (p, at_) =>
    let s := r.1
    let v := BitVec.ofNat 64 (leVal l)
    match s.region p with
    | some .bell =>
      match bellForm p n with
      | none => .trap s (trapData a 0x0602 true)
      | some f =>
        let s := s.sbDrain (unitOf x)
        let q := s.bellStore (s.bellBid x) (bellQid p) f v (if isEng x then some (s.ctx x).job else none)
        match q.2 with
        | some e => .trap q.1 (trapData a e true)
        | none => .ok q.1
    | some .csr =>
      if !s.csrReach x then .trap s (trapData a 0x0701 true)
      else match csrForm p (csrSizeOf n) with
        | none => .trap s (trapData a 0x0602 true)
        | some f => .ok ((s.sbDrain (unitOf x)).csrWrite (.core (Fin.ofNat 64 (x - 2048))) (p / 8 * 8) f v)
    | _ =>
      match s.accessStatus x .write at_ p n with
      | some e => .trap s (trapData a e true)
      | none =>
        let q := s.storeCheck (unitOf x) p at_
        if q.2 then .trap q.1 (trapData a 0x0601 true) else
        let s := q.1
        .ok (s.sbPush (unitOf x) { ctx := x, addr := p, data := l, attr := at_, bid := (s.ctx x).bid })

/-- The bytes a store by its op writes (R45). -/
def State.storeData (s : State) (x op : Nat) (rt : Reg5) : List Byte :=
  leBytes (opSize op) (if 8 ≤ op then s.f x rt.toNat else s.g x rt.toNat).toNat

/-- A store that finds the store buffer full blocks its context until there is room (R151). -/
def State.storeWait (s : State) (x : Nat) (stores : Bool) (r : Eff) : Eff :=
  match r with
  | .ok t => if stores && s.sbFull (unitOf x) && !(t.exe (unitOf x)).sb.isEmpty then .block .room else .ok t
  | r => r

/-- An M-format store (R45). -/
def storeM (x : CtxId) (op : Nat) (rt rb : Reg5) (disp : BitVec 12) (s : State) : Out :=
  let i := ctxIdx x
  .next (issue i { word := encM 0x11 rt rb op disp, srcs := [lg rb, loadLoc op rt], tsrcs := some [lg rb], ra := .noEffect }
    (fun s => s.storeWait i true <| s.storeItem i (s.g i rb.toNat + dispOf disp (opSize op)) (s.storeData i op rt)) s)

def execSb (x : CtxId) (rt rb : Reg5) (disp : BitVec 12) (s : State) : Out := storeM x 0 rt rb disp s
def execSh (x : CtxId) (rt rb : Reg5) (disp : BitVec 12) (s : State) : Out := storeM x 1 rt rb disp s
def execSw (x : CtxId) (rt rb : Reg5) (disp : BitVec 12) (s : State) : Out := storeM x 2 rt rb disp s
def execSd (x : CtxId) (rt rb : Reg5) (disp : BitVec 12) (s : State) : Out := storeM x 3 rt rb disp s
def execSdf (x : CtxId) (rt rb : Reg5) (disp : BitVec 12) (s : State) : Out := storeM x 8 rt rb disp s
def execSwf (x : CtxId) (rt rb : Reg5) (disp : BitVec 12) (s : State) : Out := storeM x 9 rt rb disp s

/-! ### Indexed accesses (R47) -/

/-- Ops that R45 assigns to a load, and to a store. -/
def loadOp? (op : Nat) : Bool := decide (op ≤ 6) || op == 8 || op == 9
def storeOp? (op : Nat) : Bool := decide (op ≤ 3) || op == 8 || op == 9

/-- The word and the address of an indexed access. -/
def encIx (store : Bool) (op : BitVec 4) (scale : BitVec 2) (rd rs1 rs2 : Reg5) : BitVec 32 :=
  encA 0x12 rd rs1 rs2 (op.toNat + store.toNat * 16 + scale.toNat * 32)
def State.ixAddr (s : State) (x : Nat) (scale : BitVec 2) (rs1 rs2 : Reg5) : W64 :=
  s.g x rs1.toNat + s.g x rs2.toNat * BitVec.ofNat 64 (2 ^ scale.toNat)

/-- INDEXED_LOAD (R47). -/
def execIndexedLoad (x : CtxId) (op : BitVec 4) (scale : BitVec 2) (rd rs1 rs2 : Reg5) (s : State) : Out :=
  let i := ctxIdx x
  let w := encIx false op scale rd rs1 rs2
  let o : LoadOp := .ix op scale rd rs1 rs2
  if !loadOp? op.toNat then .next (illegal x w profKE s)
  else .next (issueWith i (loadSig w op.toNat rd [lg rs1, lg rs2] o)
    (fun s => s.scalarLoad i op.toNat rd (s.ixAddr i scale rs1 rs2) o w false)
    (fun s _ => s.scalarRa i op.toNat rd (s.ixAddr i scale rs1 rs2) (!s.poisoned i (lg rs1) && !s.poisoned i (lg rs2))) s)

/-- INDEXED_STORE (R47): rd names the data register. -/
def execIndexedStore (x : CtxId) (op : BitVec 4) (scale : BitVec 2) (rd rs1 rs2 : Reg5) (s : State) : Out :=
  let i := ctxIdx x
  let w := encIx true op scale rd rs1 rs2
  if !storeOp? op.toNat then .next (illegal x w profKE s)
  else .next (issue i { word := w, srcs := [lg rs1, lg rs2, loadLoc op.toNat rd], tsrcs := some [lg rs1, lg rs2],
                                 ra := .noEffect }
    (fun s => s.storeWait i true <| s.storeItem i (s.ixAddr i scale rs1 rs2) (s.storeData i op.toNat rd)) s)

end Sys2Proof.Machine
end

