-- ==== Sys2Proof/Machine/Atomic.lean ====
section
/-! DEFINITION. Sys2Proof/Machine/Atomic.lean: atomics, load-reserved and store-conditional (R48–R50, R77, R166). -/

namespace Sys2Proof.Machine

/-- The word of an atomic (R48). -/
def encAt (fn : Nat) (barr : BitVec 2) (rd rs1 rs2 : Reg5) : BitVec 32 := encA 0x13 rd rs1 rs2 (fn + barr.toNat * 16)

/-- Earlier stores of the context are performed before the atomic where BARR asks for it (R77), the atomic is UC (R79), or a
buffered store overlaps it (R73). DEDUCED (log entry 73). -/
def State.atomicFence (s : State) (x p : Nat) (at_ : Attr) (barr : BitVec 2) : State :=
  let u := unitOf x
  if barr.toNat / 2 = 1 ∨ at_ = .uc ∨ at_ = .str ∨ (s.exe u).sb.any (fun e => e.overlaps p 8) then s.sbDrain u else s

/-- The doubleword is read where the atomic is performed (R49, R166): at the memory controller on UC and STR, with the L2 off, or
for a Booth with no way there whose line the L2 does not hold; else in the L2, which the line is brought into. -/
def State.atomicRead (s : State) (x p : Nat) (at_ : Attr) : State × Except (BitVec 16) (Nat × Option Nat) :=
  let d := domOf (unitOf x)
  let line := p / 64
  let direct (s : State) : State × Except (BitVec 16) (Nat × Option Nat) :=
    let r := s.demandRead p 8 (s.ctxClass x)
    match r.2.1 with
    | some e => (r.1, .error e)
    | none => (r.1, .ok (leVal r.2.2, none))
  let held (s : State) (w : Nat) : State × Except (BitVec 16) (Nat × Option Nat) :=
    (s, .ok (leVal (lineBytes (s.l2At (l2Key d (line % l2Sets d) w)).data (p % 64) 8), some w))
  if !at_.cached || !s.l2En d then direct s
  else
    let q := s.l2Check d line
    if q.2 then (q.1, .error 0x0601) else
    let s := q.1
    let hit := s.l2Way d line
    let s := s.l2Lookup d hit.isSome
    match hit with
    | some w => held s w
    | none =>
      if (s.fillWays d (s.ctx x).bid).isEmpty then direct s
      else
        let r := s.demandRead (line * 64) 64 (s.ctxClass x)
        match r.2.1 with
        | some e => (r.1, .error e)
        | none =>
          let s := r.1.l2Alloc d line (s.ctx x).bid (lineOf r.2.2) false
          match s.l2Way d line with
          | some w => held s w
          | none => direct s

/-- The doubleword is written where it was read (R49): other contexts' reservations on its granule go (R50). -/
def State.atomicWrite (s : State) (x p : Nat) (at_ : Attr) (w : Option Nat) (v : W64) : State :=
  let u := unitOf x
  let s := s.clearResv (domOf u) (p / 64) (some x)
  let e : SbEntry := { ctx := x, addr := p, data := leBytes 8 v.toNat, attr := at_, bid := (s.ctx x).bid }
  match w with
  | some w => (s.sideStore (domOf u) (p / 64)).storeHit u e w
  | none =>
    let s := s.ctxBusWrite x p e.data
    if at_ = .str then s.sideOwn u x (p / 64) else s

/-- An atomic at an address: `fn` gives what memory receives, if anything, and `done` finishes the instruction. Doorbells and CSR
space take no atomic (R22, R263). An SC that fails performs no earlier store, whatever its BARR. DESIGN CHOICE (log entry 115). DEDUCED (log entry 73). DEDUCED (log entry 74). -/
def State.atomicAt (s : State) (x : Nat) (k : XKind) (barr : BitVec 2) (a : W64) (held : State → Nat → Bool)
    (fn : W64 → Option W64) (done : State → Nat → Option W64 → State) : Eff :=
  if a.toNat % 8 ≠ 0 then .trap s (trapAlign a) else
  let r := s.xlate x k a
  match r.2 with
  | .error t => .trap r.1 t
  | .ok (p, at_) =>
    let s := r.1
    if !held s p then .ok (done s p none)
    else
      let st : Option (BitVec 16) := match s.region p with
        | some .bell => some 0x0602
        | some .csr => some (if s.csrReach x then 0x0602 else 0x0701)
        | _ => s.accessStatus x k at_ p 8
      match st with
      | some e => .trap s (trapData a e k.isWr)
      | none =>
        let q := (s.atomicFence x p at_ barr).atomicRead x p at_
        match q.2 with
        | .error e => .trap q.1 (trapData a e false)
        | .ok (old, w) =>
          let v := BitVec.ofNat 64 old
          .ok (done (match fn v with | some n => q.1.atomicWrite x p at_ w n | none => q.1) p (some v))

/-- An atomic that reads and writes: rd receives the old value (R48). -/
def amo (x : CtxId) (fn : Nat) (barr : BitVec 2) (rd rs1 rs2 : Reg5) (srcs : List Loc) (new : W64 → W64 → W64 → Option W64)
    (s : State) : Out :=
  let i := ctxIdx x
  .next (issue i { word := encAt fn barr rd rs1 rs2, srcs := srcs, dsts := [lg rd], ra := .noEffect }
    (fun s => s.atomicAt i .readWrite barr (s.g i rs1.toNat) (fun _ _ => true)
      (fun old => new old (s.g i rs2.toNat) (s.g i rd.toNat))
      (fun t _ v => t.setG i rd.toNat (v.getD 0))) s)

def execCas (x : CtxId) (barr : BitVec 2) (rd rs1 rs2 : Reg5) (s : State) : Out :=
  amo x 0 barr rd rs1 rs2 [lg rs1, lg rs2, lg rd] (fun old b r => if old = r then some b else none) s
def execSwap (x : CtxId) (barr : BitVec 2) (rd rs1 rs2 : Reg5) (s : State) : Out :=
  amo x 1 barr rd rs1 rs2 [lg rs1, lg rs2] (fun _ b _ => some b) s
def execAadd (x : CtxId) (barr : BitVec 2) (rd rs1 rs2 : Reg5) (s : State) : Out :=
  amo x 2 barr rd rs1 rs2 [lg rs1, lg rs2] (fun old b _ => some (old + b)) s
def execAand (x : CtxId) (barr : BitVec 2) (rd rs1 rs2 : Reg5) (s : State) : Out :=
  amo x 3 barr rd rs1 rs2 [lg rs1, lg rs2] (fun old b _ => some (old &&& b)) s
def execAor (x : CtxId) (barr : BitVec 2) (rd rs1 rs2 : Reg5) (s : State) : Out :=
  amo x 4 barr rd rs1 rs2 [lg rs1, lg rs2] (fun old b _ => some (old ||| b)) s
def execAxor (x : CtxId) (barr : BitVec 2) (rd rs1 rs2 : Reg5) (s : State) : Out :=
  amo x 5 barr rd rs1 rs2 [lg rs1, lg rs2] (fun old b _ => some (old ^^^ b)) s
def execAmin (x : CtxId) (barr : BitVec 2) (rd rs1 rs2 : Reg5) (s : State) : Out :=
  amo x 6 barr rd rs1 rs2 [lg rs1, lg rs2] (fun old b _ => some (if old.slt b then old else b)) s
def execAmax (x : CtxId) (barr : BitVec 2) (rd rs1 rs2 : Reg5) (s : State) : Out :=
  amo x 7 barr rd rs1 rs2 [lg rs1, lg rs2] (fun old b _ => some (if old.slt b then b else old)) s
def execAminu (x : CtxId) (barr : BitVec 2) (rd rs1 rs2 : Reg5) (s : State) : Out :=
  amo x 8 barr rd rs1 rs2 [lg rs1, lg rs2] (fun old b _ => some (if old.ult b then old else b)) s
def execAmaxu (x : CtxId) (barr : BitVec 2) (rd rs1 rs2 : Reg5) (s : State) : Out :=
  amo x 9 barr rd rs1 rs2 [lg rs1, lg rs2] (fun old b _ => some (if old.ult b then b else old)) s

/-- A reservation is set or cleared (R50). -/
def State.setResv (s : State) (x : Nat) (g : Option Nat) : State := s.setR x { (s.ctx x).r with resv := g }

/-- LR (R48, R50): it requires and translates a read only (R68). -/
def execLr (x : CtxId) (barr : BitVec 2) (rd rs1 : Reg5) (s : State) : Out :=
  let i := ctxIdx x
  .next (issue i { word := encAt 0xE barr rd rs1 0, srcs := [lg rs1], dsts := [lg rd], ra := .noEffect }
    (fun s => s.atomicAt i .read barr (s.g i rs1.toNat) (fun _ _ => true) (fun _ => none)
      (fun t p v => (t.setResv i (some (p / 64))).setG i rd.toNat (v.getD 0))) s)

/-- SC (R48, R50): it clears the reservation; where the reservation does not hold it makes no access. -/
def execSc (x : CtxId) (barr : BitVec 2) (rd rs1 rs2 : Reg5) (s : State) : Out :=
  let i := ctxIdx x
  .next (issue i { word := encAt 0xF barr rd rs1 rs2, srcs := [lg rs1, lg rs2], dsts := [lg rd], ra := .noEffect }
    (fun s => s.atomicAt i .readWrite barr (s.g i rs1.toNat) (fun t p => (t.ctx i).r.resv == some (p / 64))
      (fun _ => some (s.g i rs2.toNat))
      (fun t _ v => (t.setResv i none).setG i rd.toNat (if v.isSome then 0 else 1))) s)

end Sys2Proof.Machine
end

