-- ==== Sys2Proof/Machine/Link.lean ====
section
/-! DEFINITION. Sys2Proof/Machine/Link.lean: stream-link instructions, major 0x32 (R177–R180). -/

namespace Sys2Proof.Machine

/-- The word of a link instruction (R177). -/
def encLink (op : Nat) (port : BitVec 2) (hi : BitVec 1) (rd rs1 rs2 : Reg5) : BitVec 32 :=
  encA 0x32 rd rs1 rs2 (port.toNat + op * 4 + hi.toNat * 32)

/-- The base register of a V form, and whether it is legal (R177). -/
def linkBase (hi : BitVec 1) (rs2 : Reg5) : Nat := rs2.toNat + 32 * hi.toNat
def State.linkVOk (s : State) (x : Nat) (hi : BitVec 1) (rs2 : Reg5) : Bool :=
  !(s.classT x && hi == 1) && decide (rs2.toNat % 4 = 0)

/-- The job and link of a context's logical port in one direction (R172). -/
def State.linkPort (s : State) (x port : Nat) (out : Bool) : Option (Nat × Nat) :=
  ((s.job (s.ctx x).job).linkAt (s.ctx x).stage port out).map fun k => ((s.ctx x).job, k)

def trapLink (port : Nat) : Trap := { code := 0x15, val := BitVec.ofNat 64 port }

/-- A send: link faults first, then the payload, then the credit (R178, R179). Earlier stores are performed first (R78).
DEDUCED (log entry 78). DEDUCED (log entry 80). -/
def State.linkSend (s : State) (x port : Nat) (tag : BitVec 16) (eos : Bool)
    (payload : State → Except (State × Trap) (State × Line)) : Eff :=
  match s.linkPort x port true with
  | none => .trap s (trapLink port)
  | some (j, k) =>
    if (s.link j k).eosSent then .trap s (trapLink port)
    else match payload s with
      | .error (t, e) => .trap t e
      | .ok (t, data) =>
        let t := t.sbDrain (unitOf x)
        if (t.link j k).credits = 0 then
          .wait (t.setCtx x { t.ctx x with st := .waitUnit, wait := .linkSend port tag eos data })
        else .ok (t.sendFlit j k { data := data, tag := tag, eos := eos })

/-- The payload of LSEND, read as a load of 64 bytes (R177). -/
def State.linkLoad (s : State) (x : Nat) (a : W64) : Except (State × Trap) (State × Line) :=
  match s.loadItem x a 64 true with
  | .ok t v => .ok (t, BitVec.ofNat 512 v)
  | .trap t e => .error (t, e)
  | .miss t _ _ => .ok (t, 0)
  | .hold t => .ok (t, 0)

/-- LSEND (R177). -/
def execLsend (x : CtxId) (port : BitVec 2) (rs1 rs2 : Reg5) (s : State) : Out :=
  let i := ctxIdx x
  .next (issue i { word := encLink 0 port 0 0 rs1 rs2, prof := profE, srcs := [lg rs1, lg rs2], ra := .noEffect }
    (fun s => s.linkSend i port.toNat ((s.g i rs2.toNat).setWidth 16) false (fun s => s.linkLoad i (s.g i rs1.toNat))) s)

/-- LSENDV (R177). -/
def execLsendv (x : CtxId) (port : BitVec 2) (hi : BitVec 1) (rs1 rs2 : Reg5) (s : State) : Out :=
  let i := ctxIdx x
  let w := encLink 1 port hi 0 rs1 rs2
  let n := linkBase hi rs2
  .next (issue i { word := w, prof := profE, srcs := [lg rs1, .v n, .v (n + 1), .v (n + 2), .v (n + 3)], ra := .noEffect }
    (fun s =>
      if !s.linkVOk i hi rs2 then .trap s (trapIllegal w)
      else s.linkSend i port.toNat ((s.g i rs1.toNat).setWidth 16) false (fun s =>
        .ok (s, s.v i (n + 3) ++ s.v i (n + 2) ++ s.v i (n + 1) ++ s.v i n))) s)

/-- LSENDE (R177): an end-of-stream marker. -/
def execLsende (x : CtxId) (port : BitVec 2) (rs1 : Reg5) (s : State) : Out :=
  let i := ctxIdx x
  .next (issue i { word := encLink 2 port 0 0 rs1 0, prof := profE, srcs := [lg rs1], ra := .noEffect }
    (fun s => s.linkSend i port.toNat ((s.g i rs1.toNat).setWidth 16) true (fun s => .ok (s, 0))) s)

/-- The port status word (R180). -/
def State.portStatus (s : State) (x port : Nat) : W64 :=
  let out := match s.linkPort x port true with
    | none => 0
    | some (j, k) =>
      let l := s.link j k
      l.credits + ((s.job j).stageOf l.dst).ended.toNat * 16 + l.eosSent.toNat * 32
  let inn := match s.linkPort x port false with
    | none => 0
    | some (j, k) =>
      let l := s.link j k
      l.buf.length * 256 + ((l.buf.head?.map Flit.eos).getD false).toNat * 4096 + l.eosTaken.toNat * 8192
  BitVec.ofNat 64 (out + inn)

/-- LSTAT (R180). -/
def execLstat (x : CtxId) (port : BitVec 2) (rd : Reg5) (s : State) : Out :=
  let i := ctxIdx x
  .next (issue i { word := encLink 3 port 0 rd 0 0, prof := profE, dsts := [lg rd] }
    (fun s => .ok (s.setG i rd.toNat (s.portStatus i port.toNat))) s)

/-- A receive: link faults first, then the address, then the flit (R178, R179). -/
def State.linkRecv (s : State) (x port : Nat) (rd : Reg5) (vb : Nat) (addr : State → Except Trap (Option (Nat × Attr))) : Eff :=
  match s.linkPort x port false with
  | none => .trap s (trapLink port)
  | some (j, k) =>
    match addr s with
    | .error t => .trap s t
    | .ok dst =>
      if (s.link j k).eosTaken then .ok (s.setG x rd.toNat (recvWord { eos := true }))
      else
        let r := s.takeFlit j k
        match r.2 with
        | none => .wait (s.setCtx x { s.ctx x with st := .waitUnit, wait := .linkRecv port rd dst vb })
        | some f => .ok (r.1.recvFlit x rd dst vb f)

/-- The address of LRECV: 64-byte aligned, translated as a write (R177). -/
def State.linkDst (s : State) (x : Nat) (a : W64) : Except Trap (Option (Nat × Attr)) :=
  if a.toNat % 64 ≠ 0 then .error (trapAlign a)
  else match s.xlateEng x .write a with
    | .error t => .error t
    | .ok (p, at_) =>
      match s.accessStatus x .write at_ p 64 with
      | some e => .error (trapData a e true)
      | none => .ok (some (p, at_))

/-- LRECV (R177). -/
def execLrecv (x : CtxId) (port : BitVec 2) (rd rs1 : Reg5) (s : State) : Out :=
  let i := ctxIdx x
  .next (issue i { word := encLink 4 port 0 rd rs1 0, prof := profE, srcs := [lg rs1], dsts := [lg rd], ra := .noEffect }
    (fun s => s.linkRecv i port.toNat rd 0 (fun s => s.linkDst i (s.g i rs1.toNat))) s)

/-- LRECVV (R177). -/
def execLrecvv (x : CtxId) (port : BitVec 2) (hi : BitVec 1) (rd rs2 : Reg5) (s : State) : Out :=
  let i := ctxIdx x
  let w := encLink 5 port hi rd 0 rs2
  let n := linkBase hi rs2
  .next (issue i { word := w, prof := profE, dsts := [lg rd, .v n, .v (n + 1), .v (n + 2), .v (n + 3)], ra := .noEffect }
    (fun s => if !s.linkVOk i hi rs2 then .trap s (trapIllegal w) else s.linkRecv i port.toNat rd n (fun _ => .ok none)) s)

end Sys2Proof.Machine
end

