-- ==== Sys2Proof/Machine/System.lean ====
section
/-! DEFINITION. Sys2Proof/Machine/System.lean: system instructions, major 0x38 (R58, R64, R65, R72, R76, R181), and context CSRs,
major 0x39 (R59, R60). -/

namespace Sys2Proof.Machine

/-- The word of a system instruction (R58). -/
def encSys (op arg : Nat) (rs1 rs2 : Reg5) : BitVec 32 := encA 0x38 0 rs1 rs2 (op * 64 + arg)

/-! ### FENCE -/

/-- Instruction buffers of contexts are emptied: they are filled again at the next fetch (R135). -/
def State.dropIbuf (s : State) (xs : List Nat) : State := xs.foldl (fun s x => s.setCtx x { s.ctx x with ibuf := none }) s

/-- What a fence does before its acknowledgements (R76, R151, R159): PW before SR or SW, G and I drain the store buffer; I then
invalidates the L1I; G cleans the logged lines. DEDUCED (log entry 76). -/
def State.fenceStart (s : State) (x : Nat) (arg : BitVec 6) : State :=
  let u := unitOf x
  let b := arg.getLsbD
  let s := if b 5 || b 4 || (b 1 && (b 2 || b 3)) then s.sbDrain u else s
  let s := if b 5 then (s.setExe u { s.exe u with l1i := [] }).dropIbuf [x] else s
  if b 4 then s.ctxFence x else s

/-- FENCE (R76): with G it waits for the acknowledgements of its context's writes. DEDUCED (log entry 76). -/
def execFence (x : CtxId) (arg : BitVec 6) (s : State) : Out :=
  let i := ctxIdx x
  .next (issue i { word := encSys 1 arg.toNat 0 0, ra := .noEffect }
    (fun s =>
      let t := s.fenceStart i arg
      if arg.getLsbD 4 ∧ (t.ctx i).acks ≠ 0 then .wait (t.waitFor i .waitMem .ack) else .ok t) s)

/-! ### Traps and returns -/

/-- ECALL and BREAK complete before their trap (R64). -/
def sysTrap (x : CtxId) (op code : Nat) (s : State) : State :=
  let i := ctxIdx x
  issue i { word := encSys op 0 0 0, ra := .ends, noSlot := true } (fun s => .done ((s.retire i).takeTrap i { code := code })) s

def execEcall (x : CtxId) (s : State) : Out := .next (sysTrap x 2 0x10 s)
def execBreak (x : CtxId) (s : State) : Out := .next (sysTrap x 3 0x11 s)

/-- An instruction that sets the PC itself retires. -/
def State.retired (s : State) (x : Nat) : State := (s.setCtx x { s.ctx x with instret := (s.ctx x).instret + 1 }).pmc (unitOf x) 2

/-- The return to EPC with ENPC as its successor (R65). ENPC other than EPC + 4 makes the instruction at EPC a delay slot. -/
def State.resumeAt (s : State) (x : Nat) (epc enpc : W64) : State :=
  (s.setR x { (s.ctx x).r with pc := epc, npc := enpc, slot := enpc != epc + 4, annul := false }).dropIbuf [x]

/-- The return of a control core from level K or M, `b` being the level's first CSR (R65). DEDUCED (log entry 13). -/
def State.rettCore (s : State) (x b : Nat) : State :=
  let st := s.xcsr x b
  let s := s.resumeAt x (s.xcsr x (b + 2)) (s.xcsr x (b + 3))
  let s := s.setXcsr x b (setBit st 0 (bitAt st 1))
  s.setCtx x { s.ctx x with priv := privOf (fld st 2 2) }

/-- The return of an engine context from its handler (R65). DEDUCED (log entry 13). -/
def State.rettEng (s : State) (x : Nat) : State :=
  (s.resumeAt x (s.xcsr x csrUepc) (s.xcsr x csrUenpc)).setXcsr x csrUstat (setBit (s.xcsr x csrUstat) 5 false)

/-- RETT (R58, R65). -/
def execRett (x : CtxId) (s : State) : Out :=
  let i := ctxIdx x
  let w := encSys 4 0 0 0
  .next (issue i { word := w, ra := .ends, noSlot := true }
    (fun s =>
      if isEng i then
        if bitAt (s.xcsr i csrUstat) 5 then .done ((s.rettEng i).retired i) else .trap s (trapIllegal w)
      else match (s.ctx i).priv with
        | .u => .trap s (trapPriv w)
        | .k => .done ((s.rettCore i csrKstat).retired i)
        | .m => .done ((s.rettCore i csrMstat).retired i)) s)

/-! ### WAIT and TLBINV -/

/-- Whether an asynchronous trap is pending at a hardware thread (R66). -/
def State.asyncPending (s : State) (x : Nat) : Bool := (s.ctx x).async.isSome || (s.htOffer (x - 2048)).isSome

/-- WAIT (R58): issue stops at the next instruction until an asynchronous trap is pending. -/
def execWait (x : CtxId) (s : State) : Out :=
  let i := ctxIdx x
  let w := encSys 5 0 0 0
  .next (issue i { word := w, prof := profK, ra := .noEffect }
    (fun s =>
      if (s.ctx i).priv = .u then .trap s (trapPriv w)
      else
        let t := s.retire i
        .done (if t.asyncPending i then t else t.waitFor i .waitUnit .wfi)) s)

/-- WAIT_RESUME (R58). -/
def execWaitResume (h : Fin 64) (s : State) : Out :=
  let x := 2048 + h.val
  .next (if (s.ctx x).wait = .wfi ∧ s.asyncPending x then s.setCtx x { s.ctx x with st := .ready, wait := .none } else s)

/-- Whether TLBINV reaches a cached translation (R58, R72): a global one matches every ASID. DESIGN CHOICE (log entry 16). -/
def tlbHit (arg : BitVec 2) (va : W64) (asid : BitVec 16) (t : TlbEntry) : Bool :=
  (arg.getLsbD 0 || t.asid == asid || bitAt t.entry 3) && (arg.getLsbD 1 || decide (va.toNat / pageSize t.level = t.vpn))

/-- TLBINV (R58, R72), after every earlier store of its thread. DESIGN CHOICE (log entry 16). -/
def execTlbinv (x : CtxId) (arg : BitVec 2) (rs1 rs2 : Reg5) (s : State) : Out :=
  let i := ctxIdx x
  let w := encSys 6 arg.toNat rs1 rs2
  .next (issue i { word := w, prof := profK, srcs := [lg rs1, lg rs2], ra := .noEffect }
    (fun s =>
      if (s.ctx i).priv = .u then .trap s (trapPriv w)
      else
        let va := s.g i rs1.toNat
        let asid := (s.g i rs2.toNat).setWidth 16
        let s := s.sbDrain (unitOf i)
        let k := coreOf i
        .ok ({ s with tlb := Tab.set [] s.tlb k ((Tab.get [] s.tlb k).filter fun t => !tlbHit arg va asid t) }.dropIbuf
          (ctxsOf (unitOf i)))) s)

/-! ### JEND -/

/-- The end-of-stream markers of JEND (R181 step 2). -/
def State.jendMarkers (s : State) (j stage : Nat) : State :=
  (List.range (s.job j).links.length).foldl (fun s k =>
    let l := s.link j k
    if l.src = stage ∧ !l.eosSent ∧ !((s.job j).stageOf l.dst).ended then s.sendFlit j k { eos := true, jend := true } else s) s

/-- The flits waiting for a stage are discarded, their credits return, and their senders count them (R181 step 3). -/
def State.jendDiscard (s : State) (j stage : Nat) : State :=
  (List.range (s.job j).links.length).foldl (fun s k =>
    let l := s.link j k
    if l.dst = stage then
      (s.setLink j k { l.buf.foldl SLink.credit l with buf := [] }).addReg
        (Reg.oeLinkDrop (unitOf ((s.job j).stageOf l.src).ctx)) l.buf.length
    else s) s

/-- A stage has ended (R181): its JEND value is kept, and the context stays in DRAIN until the job completes. -/
def State.jendEnd (s : State) (x : Nat) (v : W64) : State :=
  let s := s.retire x
  let c := s.ctx x
  let s := (s.jendMarkers c.job c.stage).jendDiscard c.job c.stage
  let b := s.job c.job
  let s := s.setJob c.job { b with stages := b.stages.set c.stage { b.stageOf c.stage with ended := true, jend := v } }
  s.setCtx x { s.ctx x with st := .drain, wait := .none }

/-- JEND (R181): the fence of R151 first. -/
def execJend (x : CtxId) (rs1 : Reg5) (s : State) : Out :=
  let i := ctxIdx x
  .next (issue i { word := encSys 7 0 rs1 0, prof := profE, srcs := [lg rs1], ra := .ends, noSlot := true }
    (fun s =>
      let v := s.g i rs1.toNat
      let s := s.ctxFence i
      if (s.ctx i).acks ≠ 0 then .wait (s.waitFor i .waitMem (.jend v)) else .done (s.jendEnd i v)) s)

/-! ### Context CSRs -/

/-- A CSR's lowest privilege and whether it is read-only; none where the profile does not assign the number (R60). -/
def csrInfo (eng : Bool) (n : Nat) : Option (Priv × Bool) :=
  if n = 0x000 ∨ n = 0x001 then some (.u, false)
  else if 0x302 ≤ n ∧ n ≤ 0x304 then some (.u, true)
  else if eng then
    if n = 0x002 ∨ n = 0x003 ∨ (0x010 ≤ n ∧ n ≤ 0x016) then some (.u, false)
    else if n = 0x300 ∨ n = 0x301 then some (.u, true)
    else none
  else if (0x400 ≤ n ∧ n ≤ 0x406) ∨ n = 0x410 then some (.k, false)
  else if n = 0x700 then some (.k, true)
  else if 0xC00 ≤ n ∧ n ≤ 0xC07 then some (.m, false)
  else none

/-- The bits of a CSR that a write sets (R60, R81, R110, R111); the others are read-only or reserved. -/
def csrMask (n : Nat) : W64 :=
  if n = 0x000 then 0x7FFFF
  else if n = 0x001 then 0x7070F
  else if n = 0x002 then 0xFFFF
  else if n = 0x003 then 3
  else if n = 0x010 ∨ n = 0x401 ∨ n = 0xC01 then ~~~(0x3E : W64)
  else if n = 0x011 ∨ n = 0x012 ∨ n = 0x402 ∨ n = 0x403 ∨ n = 0xC02 ∨ n = 0xC03 then ~~~(3 : W64)
  else if n = 0x013 ∨ n = 0x404 ∨ n = 0xC04 then 0xFFFF00BF
  else if n = 0x015 then 0xE
  else if n = 0x400 then 0xF
  else if n = 0xC00 then 0x10F
  else if n = 0x410 then ~~~(0xFFF : W64)
  else if n = 0xC07 then ~~~((1 : W64) <<< 0x21 ||| 1)
  else BitVec.allOnes 64

/-- CTXID (R60). -/
def State.ctxid (s : State) (x : Nat) : W64 :=
  BitVec.ofNat 64 (x % 16 + x / 16 % 16 * 16 + x / 256 * 256 + (s.classC x).toNat * 2048 + (s.ctx x).bid.toNat * 65536)
/-- HTID (R60). -/
def htid (h : Nat) : W64 := BitVec.ofNat 64 (h + h % 4 * 64 + h / 4 * 256)

/-- The value a CSR reads as (R60). -/
def State.csrGet (s : State) (x n : Nat) : W64 :=
  let c := s.ctx x
  if n = 0x300 then s.ctxid x
  else if n = 0x301 then BitVec.ofNat 64 (c.seq.toNat + c.qid.toNat * 2 ^ 32)
  else if n = 0x302 then s.merAt (if isEng x then unitOf x / 16 else islCtl)
  else if n = 0x303 then BitVec.ofNat 64 (s.islandCycles x - c.cycle0)
  else if n = 0x304 then c.instret
  else if n = 0x700 then htid (x - 2048)
  else if n = 0x401 ∨ n = 0xC01 then s.xcsr x n ||| 1
  else if n = 0x003 ∧ s.classT x then 0
  else s.xcsr x n

/-- A CSR takes a value in its writable bits (R60); VGRP ignores writes in class T. -/
def State.csrSet (s : State) (x n : Nat) (v : W64) : State :=
  if n = 0x003 ∧ s.classT x then s
  else s.setXcsr x n ((s.xcsr x n &&& ~~~(csrMask n)) ||| (v &&& csrMask n))

/-- Whether a privilege reaches another. -/
def Priv.reaches (p q : Priv) : Bool := decide (privCode q ≤ privCode p)

/-- A CSR access (R59): the number is tested first, then the privilege, then whether the CSR takes writes. DEDUCED (log entry 78). -/
def State.csrAccess (s : State) (x n : Nat) (w : BitVec 32) (rd : Nat) (wr : Option (W64 → W64)) : Eff :=
  match csrInfo (isEng x) n with
  | none => .trap s (trapIllegal w)
  | some (lvl, ro) =>
    if !isEng x ∧ !(s.ctx x).priv.reaches lvl then .trap s (trapPriv w)
    else if ro ∧ wr.isSome then .trap s (trapIllegal w)
    else
      let old := s.csrGet x n
      .ok ((match wr with | some f => s.csrSet x n (f old) | none => s).setG x rd old)

/-- The word of a CSR instruction (R59). -/
def encCsr (op : Nat) (rd rs1 : Reg5) (n : BitVec 12) : BitVec 32 := encI 0x39 rd rs1 (BitVec.ofNat 16 (op * 4096 + n.toNat))

/-- CSRR (R59). -/
def execCsrr (x : CtxId) (rd : Reg5) (n : BitVec 12) (s : State) : Out :=
  let i := ctxIdx x
  let w := encCsr 0 rd 0 n
  .next (issue i { word := w, dsts := [lg rd] } (fun s => s.csrAccess i n.toNat w rd.toNat none) s)

/-- A CSR instruction that writes: rd receives the old value. -/
def csrWr (x : CtxId) (op : Nat) (rd rs1 : Reg5) (n : BitVec 12) (f : W64 → W64 → W64) (s : State) : Out :=
  let i := ctxIdx x
  let w := encCsr op rd rs1 n
  .next (issue i { word := w, srcs := [lg rs1], dsts := [lg rd], ra := .csrWrite rd.toNat }
    (fun s => s.csrAccess i n.toNat w rd.toNat (some fun old => f old (s.g i rs1.toNat))) s)

def execCsrw (x : CtxId) (rd rs1 : Reg5) (n : BitVec 12) (s : State) : Out := csrWr x 1 rd rs1 n (fun _ v => v) s
def execCsrs (x : CtxId) (rd rs1 : Reg5) (n : BitVec 12) (s : State) : Out := csrWr x 2 rd rs1 n (fun old v => old ||| v) s
def execCsrc (x : CtxId) (rd rs1 : Reg5) (n : BitVec 12) (s : State) : Out := csrWr x 3 rd rs1 n (fun old v => old &&& ~~~v) s

end Sys2Proof.Machine
end

