-- ==== Sys2Proof/Machine/VectorMem.lean ====
section
/-! DEFINITION. Sys2Proof/Machine/VectorMem.lean: vector loads, stores, gathers and scatters, major 0x2E (R126–R130, R141). -/

namespace Sys2Proof.Machine

/-- The word of a vector memory instruction. -/
def vmWord (op : Nat) (ew : BitVec 2) (o : VF) : BitVec 32 := encV 0x2E o (ew.toNat * 8 + op)
/-- The size of an element in bytes (R126). -/
def vmSize (op : Nat) (ew : BitVec 2) : Nat := if 6 ≤ op then 16 else 2 ^ ew.toNat
/-- What the vs2 field names (R126). -/
def vmK2 (op : Nat) : VKind := if op ≤ 1 then .none else if op ≤ 3 then .g else .v

/-- The address of element i (R126). -/
def State.vmAddr (s : State) (x op : Nat) (ew : BitVec 2) (o : VF) (i : Nat) : W64 :=
  let b := s.g x o.vs1.toNat
  let sz := vmSize op ew
  let ix := s.vel x (vnum o.xs2 o.vs2) (8 * sz) i
  if op ≤ 1 then b + BitVec.ofNat 64 (i * sz)
  else if op ≤ 3 then b + BitVec.ofNat 64 i * s.g x o.vs2.toNat
  else if op ≤ 5 then b + BitVec.ofNat 64 (ix * sz)
  else b + BitVec.ofNat 64 (ix % 2 ^ 64 * 16)

/-- Whether the encoding is legal (R116, R126). -/
def State.vmOk (s : State) (x op : Nat) (ew : BitVec 2) (o : VF) : Bool :=
  s.fieldOk x .v o.xd o.vd && s.fieldOk x .g o.xs1 o.vs1 && s.fieldOk x (vmK2 op) o.xs2 o.vs2 &&
    (decide (op < 6) || ew == 0) &&
    !((op == 4 || op == 6) && overlap (s.vgroup x) (vnum o.xd o.vd) (vnum o.xs2 o.vs2))

/-- The first element to process: VSTART. -/
def State.vstart (s : State) (x : Nat) : Nat := fld (s.xcsr x csrVstart) 0 16
def State.setVstart (s : State) (x k : Nat) : State := s.setXcsr x csrVstart (BitVec.ofNat 64 k)

/-- The elements an instruction handles, in order (R128). -/
def State.vmElems (s : State) (x op : Nat) (ew : BitVec 2) (o : VF) : List Nat :=
  (s.actives x o.pg (s.vl x (8 * vmSize op ew))).filter (s.vstart x ≤ ·)

/-- What the elements of a load end in. -/
inductive VmRes where
  | ok (s : State)
  | trap (s : State) (t : Trap) (k : Nat)
  | miss (at_ : Attr) (lines : List Nat)

/-- The elements of a vector load, in order (R128, R129). DEDUCED (log entry 78). -/
def vmLoadGo (x op : Nat) (ew : BitVec 2) (o : VF) (fill : Bool) : List Nat → State → VmRes
  | [], s => .ok s
  | i :: t, s =>
    let sz := vmSize op ew
    match s.loadItem x (s.vmAddr x op ew o i) sz fill with
    | .ok s v => vmLoadGo x op ew o fill t (s.setVel x (vnum o.xd o.vd) (8 * sz) i v)
    | .trap s k => .trap s k i
    | .miss _ p at_ => .miss at_ (if at_.cached then [p / 64] else [])
    | .hold _ => .miss .uc []

/-- A vector load or gather: with a miss nothing of it is done until it is issued again (R135, R140). -/
def State.vmLoad (s : State) (x op : Nat) (ew : BitVec 2) (o : VF) (fill : Bool) : Eff :=
  let w := vmWord op ew o
  if !s.vmOk x op ew o then .trap s (trapIllegal w) else
  match vmLoadGo x op ew o fill (s.vmElems x op ew o) s with
  | .ok t => .ok (t.setVstart x 0)
  | .trap t k i => .trap (t.setVstart x i) k
  | .miss at_ lines =>
    if s.raOk x at_ then .done (s.startEpisode x (.v op ew o) w (s.vlocs x (vnum o.xd o.vd)) lines)
    else .wait (s.missWait x (.v op ew o) w lines)

/-- What a run-ahead element does (R141): faults, has its data, is poisoned, or misses in a line to prefetch. -/
inductive VmRa where
  | ends
  | data (v line : Nat)
  | poison
  | miss (line : Nat) (str : Bool)

/-- Element i of a vector load in an episode. -/
def State.vmRaElem (s : State) (x op : Nat) (ew : BitVec 2) (o : VF) (i : Nat) : VmRa :=
  let sz := vmSize op ew
  let a := s.vmAddr x op ew o i
  if decide (4 ≤ op) && s.poisoned x (.v (vnum o.xs2 o.vs2 + 8 * sz * i / 128)) then .poison
  else if a.toNat % sz ≠ 0 then .ends
  else match s.xlateEng x .read a with
    | .error _ => .ends
    | .ok (p, at_) =>
      if s.region p = some .bell then
        (if (bellForm p sz).any fun f => (s.bellLoad (s.bellBid x) (bellQid p) f).isOk then .poison else .ends)
      else if (s.memStatus p sz).isSome then .ends
      else if at_ = .uc then .poison
      else match s.nearHit (unitOf x) x p sz at_ with
        | some b => .data (leVal b) (p / 64)
        | none => if s.sbOn (unitOf x) then .miss (p / 64) (at_ = .str) else .poison

/-- A vector load in an episode (R141): vd is poisoned unless every active element has its data. -/
def State.vmRaLoad (s : State) (x op : Nat) (ew : BitVec 2) (o : VF) : RaLoad :=
  if !s.vmOk x op ew o then .ends
  else if s.poisoned x (lg o.vs1) || s.poisoned x (.p o.pg.toNat) || (vmK2 op == .g && s.poisoned x (lg o.vs2)) then .poison s
  else
    let rs := (s.vmElems x op ew o).map fun i => (i, s.vmRaElem x op ew o i)
    if rs.any fun r => match r.2 with | .ends => true | _ => false then .ends
    else if rs.all fun r => match r.2 with | .data _ _ => true | _ => false then
      .data (rs.foldl (fun s r => match r.2 with
        | .data v l => (s.sideUse (unitOf x) x l).setVel x (vnum o.xd o.vd) (8 * vmSize op ew) r.1 v
        | _ => s) s)
    else
      let lines := rs.filterMap fun r => match r.2 with | .miss l str => some (l, str) | _ => none
      .poison (lines.eraseDups.foldl (fun s l => s.prefetch x l.1 l.2) s)

/-- A vector load command. -/
def vmLoadCmd (x : CtxId) (op : Nat) (ew : BitVec 2) (o : VF) (s : State) : Out :=
  let i := ctxIdx x
  let sg := { s.vsig i (vmWord op ew o) o .v .g (vmK2 op) with ra := .load (.v op ew o) }
  .next (issueWith i sg (fun s => s.vmLoad i op ew o false) (fun s _ => s.vmRaLoad i op ew o) s)

/-- One element of a vector store: none reaches a doorbell (R127). -/
def State.vmStoreItem (s : State) (x : Nat) (a : W64) (l : List Byte) : Eff :=
  let bell : Bool := decide (a.toNat % l.length = 0) &&
    (match s.xlateEng x .write a with | .ok (p, _) => s.region p == some .bell | .error _ => false)
  if bell then .trap s (trapData a 0x0701 true) else s.storeItem x a l

/-- The elements of a vector store, in order (R128, R129). -/
def vmStoreGo (x op : Nat) (ew : BitVec 2) (o : VF) : List Nat → State → State × Option (Trap × Nat)
  | [], s => (s, none)
  | i :: t, s =>
    let sz := vmSize op ew
    match s.vmStoreItem x (s.vmAddr x op ew o i) (leBytes sz (s.vel x (vnum o.xd o.vd) (8 * sz) i)) with
    | .ok s => vmStoreGo x op ew o t s
    | .trap s k => (s, some (k, i))
    | _ => (s, none)

/-- A vector store or scatter. -/
def State.vmStore (s : State) (x op : Nat) (ew : BitVec 2) (o : VF) : Eff :=
  if !s.vmOk x op ew o then .trap s (trapIllegal (vmWord op ew o)) else
  let r := vmStoreGo x op ew o (s.vmElems x op ew o) s
  match r.2 with
  | none => .ok (r.1.setVstart x 0)
  | some (k, i) => .trap (r.1.setVstart x i) k

/-- A vector store command: vd is a source. -/
def vmStoreCmd (x : CtxId) (op : Nat) (ew : BitVec 2) (o : VF) (s : State) : Out :=
  let i := ctxIdx x
  let sg := s.vsig i (vmWord op ew o) o .v .g (vmK2 op)
  .next (issue i { sg with srcs := sg.srcs ++ sg.dsts, tsrcs := some sg.srcs, dsts := [], ra := .noEffect }
    (fun s => s.storeWait i (!(s.vmElems i op ew o).isEmpty) (s.vmStore i op ew o)) s)

def execVld (x : CtxId) (ew : BitVec 2) (o : VF) (s : State) : Out := vmLoadCmd x 0 ew o s
def execVst (x : CtxId) (ew : BitVec 2) (o : VF) (s : State) : Out := vmStoreCmd x 1 ew o s
def execVlds (x : CtxId) (ew : BitVec 2) (o : VF) (s : State) : Out := vmLoadCmd x 2 ew o s
def execVsts (x : CtxId) (ew : BitVec 2) (o : VF) (s : State) : Out := vmStoreCmd x 3 ew o s
def execVgath (x : CtxId) (ew : BitVec 2) (o : VF) (s : State) : Out := vmLoadCmd x 4 ew o s
def execVscat (x : CtxId) (ew : BitVec 2) (o : VF) (s : State) : Out := vmStoreCmd x 5 ew o s
def execVgathq (x : CtxId) (ew : BitVec 2) (o : VF) (s : State) : Out := vmLoadCmd x 6 ew o s
def execVscatq (x : CtxId) (ew : BitVec 2) (o : VF) (s : State) : Out := vmStoreCmd x 7 ew o s

end Sys2Proof.Machine
end

