-- ==== Sys2Proof/Machine/CacheEvents.lean ====
section
/-! DEFINITION. Sys2Proof/Machine/CacheEvents.lean: what caches and memory do by themselves: miss data, reissues, side-buffer
fills, store-buffer drains and write acknowledgements (R135, R143, R146, R151). -/

namespace Sys2Proof.Machine

/-- A load that missed runs again; with `fill` its misses are served. DEDUCED (log entry 80). -/
def State.runLoad (s : State) (x : Nat) (o : LoadOp) (word : BitVec 32) (fill : Bool) : Eff :=
  match o with
  | .m op rt rb disp => s.scalarLoad x op.toNat rt (s.g x rb.toNat + dispOf disp (opSize op.toNat)) o word fill
  | .ix op sc rd rs1 rs2 => s.scalarLoad x op.toNat rd (s.ixAddr x sc rs1 rs2) o word fill
  | .v op ew vf => s.vmLoad x op ew vf fill

/-- How an instruction that runs again from a state ends; a load is never kept from starting. -/
def Eff.finish (s : State) (x : Nat) : Eff → State
  | .ok t => t.retire x
  | .trap t k => t.takeTrap x k
  | .jump t tk tg a => t.jumpTo x tk tg a
  | .wait t => t
  | .block _ => s
  | .done t => t

/-- A blocked context issues again, no line of it in flight. DESIGN CHOICE (log entry 11). -/
def State.wake (s : State) (x : Nat) : State := s.setCtx x { s.ctx x with st := .ready, wait := .none, miss := [] }

/-- A fill has ended: maintenance instructions of the domain that wait for one may issue again (R156). -/
def State.filled (s : State) (x : Nat) : State :=
  let d := domOf (unitOf x)
  s.wakeAll (s.domCtxs d) .fill

/-- DEMAND_MISS_FILL: the data of a blocked load arrive, and it completes (R135). DEDUCED (log entry 72). -/
def execDemandMissFill (x : CtxId) (s : State) : Out :=
  let i := ctxIdx x
  .next (match (s.ctx i).wait with
  | .load o w =>
    let r := (s.wake i).runLoad i o w true
    if r.waits then s else (r.finish s i).filled i
  | _ => s)

/-- MISS_DATA_ARRIVAL: the episode is discarded and its checkpoint restored, the missing load to be issued again (R143).
DEDUCED (log entry 80). -/
def execMissDataArrival (x : CtxId) (s : State) : Out :=
  let i := ctxIdx x
  .next (match (s.ctx i).epi with
  | none => s
  | some e =>
    let s0 := s
    let s := (s.squash i).wake i
    let r := s.runLoad i e.load e.word true
    if r.waits then s0 else
    match r with
    | .ok t => (t.setCtx i { t.ctx i with r := { e.chk with resv := (t.ctx i).r.resv }
                                          st := .waitMem, wait := .reissue e.load e.word }).filled i
    | r => (r.finish s i).filled i)

/-- MISSING_LOAD_REISSUE: a demand load again, which may start a new episode (R143). -/
def execMissingLoadReissue (x : CtxId) (s : State) : Out :=
  let i := ctxIdx x
  .next (match (s.ctx i).wait with
  | .reissue o w =>
    let u := unitOf i
    let s0 := s
    let s := (s.wake i).pmc u 1
    let r := (s.setExe u { s.exe u with ptr := i % 16 }).runLoad i o w false
    if r.waits then s0 else r.finish s i
  | _ => s)

/-- The line a side-buffer fill reads: the L2's where it holds a line of a cached region (R141, R144), else memory's. -/
def State.sideLine (s : State) (u : Nat) (f : SideFill) : State × Option Line :=
  let d := domOf u
  let q := if f.str || !s.l2En d then (s, false) else s.l2Check d f.line
  if q.2 then (q.1, none) else
  let s := q.1
  match if f.str || !s.l2En d then none else s.l2Way d f.line with
  | some w => (s, some (s.l2At (l2Key d (f.line % l2Sets d) w)).data)
  | none =>
    let r := s.busRead (f.line * 64) 64 (s.ctxClass f.ctx)
    (r.1, if r.2.1.isSome then none else some (lineOf r.2.2))

/-- SIDE_BUFFER_FILL: the oldest fill of an engine arrives (R146); one whose line was invalidated meanwhile is discarded (R148). -/
def execSideBufferFill (sl : Fin 8) (e : Fin 16) (s : State) : Out :=
  let u := uIdx sl e
  .next (match (s.exe u).fills with
  | [] => s
  | f :: t =>
    let s := s.setExe u { s.exe u with fills := t }
    if f.dead || !s.sbOn u then s
    else
      let r := s.sideLine u f
      match r.2 with
      | none => r.1
      | some l => r.1.sideAdd u { line := f.line, ctx := f.ctx, data := l, str := f.str })

/-- STORE_BUFFER_DRAIN: the oldest store of an engine or core drains (R151). DESIGN CHOICE (log entry 17). -/
def execStoreBufferDrain (u : Fin 144) (s : State) : Out := .next (s.sbDrain1 u.val)

/-- What the last acknowledgement of a context ends (R151, R181, R183, R351). -/
def State.acked (s : State) (x : Nat) : State :=
  match (s.ctx x).wait with
  | .ack => s.unblock x
  | .jend v => s.jendEnd x v
  | .drain => s.setCtx x { s.ctx x with st := .drain, wait := .none }
  | .mvgo => if (s.ctx x).st = .waitMem then s.wake x else s
  | _ => s

/-- WRITE_ACKNOWLEDGE: a memory controller acknowledges a write of a context (R151, R387). -/
def execWriteAcknowledge (x : CtxId) (s : State) : Out :=
  let i := ctxIdx x
  let c := s.ctx i
  .next (if c.acks = 0 then s
    else
      let s := s.setCtx i { c with acks := c.acks - 1 }
      if c.acks = 1 then s.acked i else s)

end Sys2Proof.Machine
end

