-- ==== Sys2Proof/Machine/Decimal.lean ====
section
/-! DEFINITION. Sys2Proof/Machine/Decimal.lean: scalar packed decimal, major 0x28 (R103–R107), and scalar saturating
fixed-point, major 0x29 (R120, R121). -/

namespace Sys2Proof.Machine

/-- A decimal operation's end (R104): an invalid operand sets DI; a magnitude of 10^15 or more sets DO, and without its
trap the low digits are written. `out` writes the result. -/
def decFinish (i : Nat) (valid : Bool) (v : Int) (out : State → State) (s : State) : Eff :=
  if !valid then s.raiseDec i dcsrDi 0x0C (fun s => .ok s)
  else if 10 ^ 15 ≤ v.natAbs then s.raiseDec i dcsrDo 0x0D (fun s => .ok (out s))
  else .ok (out s)

/-- A decimal operation on rs1 and rs2 (R105). `two` says that rs2 is a decimal operand; `tm` gives the time from the digit
counts of both operands, and `sl` is the SEALED time, which an invalid operand takes in every mode (R107). -/
def decOp (x : CtxId) (func : Nat) (rd rs1 rs2 : Reg5) (two : Bool) (tm : Nat → Nat → Nat) (sl : Nat)
    (fn : Int → Nat → Int) (s : State) : State :=
  let i := ctxIdx x
  issue i { word := encA 0x28 rd rs1 rs2 func, srcs := [lg rs1, lg rs2], dsts := [lg rd] }
    (fun s =>
      let a := (s.g i rs1.toNat).toNat
      let b := (s.g i rs2.toNat).toNat
      let ok := decValid 15 a && (!two || decValid 15 b)
      let v := if ok then fn (decVal 15 a) b else 0
      let t := if ok then tm (sigDigits (decMag 15 a)) (sigDigits (decMag 15 b)) else sl
      decFinish i ok v (fun s => s.setG i rd.toNat (BitVec.ofNat 64 (decEnc 15 v))) (s.setTime i t sl)) s

/-- DADD (R105, R106). -/
def execDadd (x : CtxId) (rd rs1 rs2 : Reg5) (s : State) : Out :=
  .next (decOp x 0 rd rs1 rs2 true (fun a b => 2 + ceilDiv (max a b) 8) 4 (fun a b => a + decVal 15 b) s)

/-- DSUB (R105, R106). -/
def execDsub (x : CtxId) (rd rs1 rs2 : Reg5) (s : State) : Out :=
  .next (decOp x 1 rd rs1 rs2 true (fun a b => 2 + ceilDiv (max a b) 8) 4 (fun a b => a - decVal 15 b) s)

/-- DMUL (R105, R106). -/
def execDmul (x : CtxId) (rd rs1 rs2 : Reg5) (s : State) : Out :=
  .next (decOp x 2 rd rs1 rs2 true (fun _ b => 3 + ceilDiv b 4) 7 (fun a b => a * decVal 15 b) s)

/-- DSHL (R105, R106). -/
def execDshl (x : CtxId) (rd rs1 rs2 : Reg5) (s : State) : Out :=
  .next (decOp x 5 rd rs1 rs2 false (fun _ _ => 2) 2 (fun a b => decShl a b 15) s)

/-- DSHR (R105, R106). -/
def execDshr (x : CtxId) (rd rs1 rs2 : Reg5) (s : State) : Out :=
  .next (decOp x 6 rd rs1 rs2 false (fun _ _ => 2) 2 (fun a b => decShr 0 16 a b) s)

/-- DSHRE (R105, R106). -/
def execDshre (x : CtxId) (rd rs1 rs2 : Reg5) (s : State) : Out :=
  .next (decOp x 7 rd rs1 rs2 false (fun _ _ => 2) 2 (fun a b => decShr 1 16 a b) s)

/-- DSHRA (R105, R106). -/
def execDshra (x : CtxId) (rd rs1 rs2 : Reg5) (s : State) : Out :=
  .next (decOp x 8 rd rs1 rs2 false (fun _ _ => 2) 2 (fun a b => decShr 2 16 a b) s)

/-- DCMP (R105): −1, 0 or +1. -/
def execDcmp (x : CtxId) (rd rs1 rs2 : Reg5) (s : State) : Out :=
  let i := ctxIdx x
  .next (issue i { word := encA 0x28 rd rs1 rs2 3, srcs := [lg rs1, lg rs2], dsts := [lg rd] }
    (fun s =>
      let a := (s.g i rs1.toNat).toNat
      let b := (s.g i rs2.toNat).toNat
      let c := compare (decVal 15 a) (decVal 15 b)
      let r : W64 := if c = .lt then -1 else if c = .eq then 0 else 1
      decFinish i (decValid 15 a && decValid 15 b) 0 (fun s => s.setG i rd.toNat r) (s.setTime i 2 2)) s)

/-- DNEG (R105). -/
def execDneg (x : CtxId) (rd rs1 : Reg5) (s : State) : Out :=
  .next (decOp x 4 rd rs1 0 false (fun _ _ => 1) 1 (fun a _ => -a) s)

/-- DTOI (R105): never overflows. -/
def execDtoi (x : CtxId) (rd rs1 : Reg5) (s : State) : Out :=
  let i := ctxIdx x
  .next (issue i { word := encA 0x28 rd rs1 0 9, srcs := [lg rs1], dsts := [lg rd] }
    (fun s =>
      let a := (s.g i rs1.toNat).toNat
      decFinish i (decValid 15 a) 0 (fun s => s.setG i rd.toNat (BitVec.ofInt 64 (decVal 15 a))) (s.setTime i 4 4)) s)

/-- ITOD (R105): subject to the overflow rule of R104. -/
def execItod (x : CtxId) (rd rs1 : Reg5) (s : State) : Out :=
  let i := ctxIdx x
  .next (issue i { word := encA 0x28 rd rs1 0 10, srcs := [lg rs1], dsts := [lg rd] }
    (fun s =>
      let v := (s.g i rs1.toNat).toInt
      decFinish i true v (fun s => s.setG i rd.toNat (BitVec.ofNat 64 (decEnc 15 v))) (s.setTime i 6 6)) s)

/-- DVAL (R105): never sets DI. -/
def execDval (x : CtxId) (rd rs1 : Reg5) (s : State) : Out :=
  .next (gOp1 x profKE (encA 0x28 rd rs1 0 11) rd rs1 (fun a => ofBool64 (decValid 15 a.toNat)) s)

/-- A saturating fixed-point operation on g registers (R121): the result is zero-extended for the U forms. -/
def fixScalar (x : CtxId) (op : Nat) (ew : BitVec 2) (rd rs1 rs2 : Reg5) (t : Nat) (s : State) : State :=
  let i := ctxIdx x
  let n := ewBits ew
  issue i { word := encA 0x29 rd rs1 rs2 (ew.toNat * 8 + op), prof := profE, srcs := [lg rs1, lg rs2], dsts := [lg rd] }
    (fun s =>
      let r := fixOp op n (s.g i rs1.toNat).toNat (s.g i rs2.toNat).toNat
      let v : W64 := if op = 1 ∨ op = 3 then BitVec.ofNat 64 r.1 else BitVec.ofInt 64 (sgn n r.1)
      .ok (((s.setTime i t t).setSat i r.2).setG i rd.toNat v)) s

/-- SADD (R121). -/
def execSadd (x : CtxId) (ew : BitVec 2) (rd rs1 rs2 : Reg5) (s : State) : Out :=
  .next (fixScalar x 0 ew rd rs1 rs2 1 s)

/-- SADDU (R121). -/
def execSaddu (x : CtxId) (ew : BitVec 2) (rd rs1 rs2 : Reg5) (s : State) : Out :=
  .next (fixScalar x 1 ew rd rs1 rs2 1 s)

/-- SSUB (R121). -/
def execSsub (x : CtxId) (ew : BitVec 2) (rd rs1 rs2 : Reg5) (s : State) : Out :=
  .next (fixScalar x 2 ew rd rs1 rs2 1 s)

/-- SSUBU (R121). -/
def execSsubu (x : CtxId) (ew : BitVec 2) (rd rs1 rs2 : Reg5) (s : State) : Out :=
  .next (fixScalar x 3 ew rd rs1 rs2 1 s)

/-- QMULE (R121). -/
def execQmule (x : CtxId) (ew : BitVec 2) (rd rs1 rs2 : Reg5) (s : State) : Out :=
  .next (fixScalar x 4 ew rd rs1 rs2 3 s)

/-- QMULA (R121). -/
def execQmula (x : CtxId) (ew : BitVec 2) (rd rs1 rs2 : Reg5) (s : State) : Out :=
  .next (fixScalar x 5 ew rd rs1 rs2 3 s)

/-- RSHRE (R121). -/
def execRshre (x : CtxId) (ew : BitVec 2) (rd rs1 rs2 : Reg5) (s : State) : Out :=
  .next (fixScalar x 6 ew rd rs1 rs2 1 s)

/-- RSHRA (R121). -/
def execRshra (x : CtxId) (ew : BitVec 2) (rd rs1 rs2 : Reg5) (s : State) : Out :=
  .next (fixScalar x 7 ew rd rs1 rs2 1 s)

end Sys2Proof.Machine
end

