-- ==== Sys2Proof/Machine/Encoding.lean ====
section
/-! DEFINITION. Sys2Proof/Machine/Encoding.lean: which words the encoding tables of Svanen assign (R38–R40): those with a major opcode, a
minor value and zero fields that the tables allow. What a word needs of the state that issues it is tested by its instruction. -/

namespace Sys2Proof.Machine

/-- A word's fields by name (R38). -/
structure Fields where
  rd : Nat
  rs1 : Nat
  rs2 : Nat
  func : Nat
  op : Nat
  disp : Nat
  imm : Nat
deriving DecidableEq, Repr

def fieldsOf (w : BitVec 32) : Fields :=
  { rd := fld w 21 5, rs1 := fld w 16 5, rs2 := fld w 11 5, func := fld w 0 11, op := fld w 12 4, disp := fld w 0 12, imm := fld w 0 16 }

/-- A pair base that is even and not g0, and a register outside a pair (R84). -/
def evenPair (r : Nat) : Bool := decide (r ≠ 0) && decide (r % 2 = 0)
def offPair (r base : Nat) : Bool := decide (r ≠ base) && decide (r ≠ base + 1)

/-- Integer operations of major 0x01 (R41). -/
def assignedInt (f : Fields) : Bool :=
  decide (f.func ≤ 0x0C) || (decide (0x10 ≤ f.func) && decide (f.func ≤ 0x15)) || (decide (0x18 ≤ f.func) && decide (f.func ≤ 0x1B)) ||
    (decide (0x20 ≤ f.func) && decide (f.func ≤ 0x28) && f.rs2 == 0) || (decide (0x29 ≤ f.func) && decide (f.func ≤ 0x2D)) ||
    f.func == 0x30 || f.func == 0x31

/-- Step division, major 0x03 (R44, R84). -/
def assignedDiv (f : Fields) : Bool :=
  match f.func with
  | 0 | 1 => evenPair f.rd && offPair f.rs2 f.rd
  | 2 => evenPair f.rd && f.rs1 == 0 && offPair f.rs2 f.rd
  | 3 => evenPair f.rd && evenPair f.rs1 && f.rs2 == 0
  | _ => false

/-- Memory majors 0x10–0x14 (R45, R47, R48, R51, R158). -/
def assignedMem (maj : Nat) (f : Fields) : Bool :=
  let ld (op : Nat) : Bool := decide (op ≤ 6) || op == 8 || op == 9
  let st (op : Nat) : Bool := decide (op ≤ 3) || op == 8 || op == 9
  match maj with
  | 0x10 => ld f.op
  | 0x11 => st f.op
  | 0x12 => f.func / 128 == 0 && (if f.func / 16 % 2 = 0 then ld (f.func % 16) else st (f.func % 16))
  | 0x13 => f.func / 64 == 0 && !(decide (10 ≤ f.func % 16) && decide (f.func % 16 ≤ 13)) && (f.func % 16 != 14 || f.rs2 == 0)
  | _ =>
    if f.op ≤ 4 then true
    else if f.op ≤ 7 then f.disp == 0
    else if f.op ≤ 10 then f.rd == 0 && f.disp == 0
    else f.op == 11 && f.disp / 16 == 0

/-- Floating point, majors 0x24–0x27 (R87, R88, R92, R94, R96, R97). -/
def assignedFp (maj : Nat) (f : Fields) : Bool :=
  let rm := f.func / 256
  let p := f.func / 128 % 2
  let op := f.func % 128
  let rounds := decide (rm ≤ 5)
  match maj with
  | 0x24 => (decide (op ≤ 6) && rounds) || (decide (8 ≤ op) && decide (op ≤ 12) && rm == 0)
  | 0x25 =>
    let out (r : Nat) : Bool := offPair r f.rd
    f.rd % 2 == 0 &&
    match op with
    | 0 => rm == 0 && out f.rs1 && out f.rs2
    | 1 => rm == 0 && f.rs1 == 0 && out f.rs2
    | 2 => rounds && out f.rs1 && out f.rs2
    | 3 => rm == 0 && out f.rs1 && f.rs2 == 0
    | 4 => rm == 0 && f.rs1 == 0 && f.rs2 == 0
    | 5 => rounds && out f.rs1 && f.rs2 == 0
    | _ => false
  | 0x26 => f.rs2 == 0 &&
    match op with
    | 0 => rounds && p == 0
    | 1 => rm == 0 && p == 0
    | 2 | 3 | 4 | 5 | 6 => rounds
    | 7 | 8 => rm == 0
    | _ => false
  | _ => rm == 0 && decide (op ≤ 3) && (op != 3 || f.rs2 == 0)

/-- A V-format operand of a kind, with its x bit (R116). -/
def kindOk (k : VKind) (r x : Nat) : Bool :=
  match k with
  | .v => true
  | .g => x == 0
  | .p => x == 0 && r / 8 == 0
  | .none => x == 0 && r == 0

/-- The operand kinds of a V-format operation, and whether it must not be predicated; none where the value is not assigned
(R117–R119, R122, R125, R126). -/
def vKinds (maj f5 : Nat) : Option (VKind × VKind × VKind × Bool) :=
  let op := f5 % 8
  match maj with
  | 0x2A | 0x2C => some (.v, .v, .v, false)
  | 0x2B => some (if op = 7 then (.v, .none, .none, false) else (.v, .v, .v, false))
  | 0x2D =>
    if f5 < 0x10 then some (if op = 6 ∨ op = 7 then (.p, .v, .v, false) else (.v, .v, .v, false))
    else if f5 = 0x13 ∨ (0x18 ≤ f5 ∧ f5 ≤ 0x1A) then some (.v, .v, .none, false)
    else if f5 ≤ 0x17 then some (.v, .v, .v, false)
    else if f5 ≤ 0x1C then some (.p, .v, .v, false)
    else none
  | 0x2E => if 6 ≤ op ∧ f5 / 8 ≠ 0 then none else some (.v, .g, if op ≤ 1 then .none else if op ≤ 3 then .g else .v, false)
  | 0x2F =>
    match op with
    | 0 => some (.v, .g, .none, false)
    | 1 => some (.g, .v, .g, true)
    | 2 => some (.v, .g, .g, true)
    | 3 => some (.v, .v, .v, false)
    | 4 => some (.v, .v, .none, false)
    | _ => some (.g, .v, .none, false)
  | _ =>
    if f5 ≤ 3 then some (.p, .p, .p, true)
    else if f5 = 4 then some (.p, .p, .none, true)
    else if f5 = 5 ∨ f5 = 8 then some (.p, .g, .g, true)
    else if f5 = 6 ∨ f5 = 7 then some (.g, .p, .none, true)
    else if f5 = 9 then some (.g, .p, .g, true)
    else if f5 ≤ 0xC then some (.p, .v, .v, false)
    else if f5 = 0xD then some (.p, .v, .none, false)
    else if 0x10 ≤ f5 then some (.p, .v, .v, false)
    else none

/-- Vector and predicate operations, majors 0x2A–0x30. PTOG's vs2 field is 0 or 1 (R125). -/
def assignedVec (maj : Nat) (w : BitVec 32) (f : Fields) : Bool :=
  let f5 := fld w 0 5
  match vKinds maj f5 with
  | none => false
  | some (kd, k1, k2, pg0) =>
    kindOk kd f.rd (fld w 7 1) && kindOk k1 f.rs1 (fld w 6 1) && kindOk k2 f.rs2 (fld w 5 1) && (!pg0 || fld w 8 3 == 0) &&
      (!(maj == 0x30 && f5 == 9) || decide (f.rs2 ≤ 1))

/-- Searches, links, movers and sieve operations, majors 0x31–0x34 (R177, R194, R209, R350). -/
def assignedUnit (maj : Nat) (f : Fields) : Bool :=
  match maj with
  | 0x31 =>
    let op := f.func % 8
    let n := f.func / 8 % 64
    f.func / 512 == 0 && decide (op ≤ 3) && n % (if op % 2 = 0 then 2 else 4) == 0 && decide (f.rd ≠ 0) && (decide (2 ≤ op) || f.rd % 2 == 0)
  | 0x32 =>
    let op := f.func / 4 % 8
    f.func / 64 == 0 && (op == 1 || op == 5 || f.func / 32 == 0) &&
    match op with
    | 0 => f.rd == 0
    | 1 => f.rd == 0 && f.rs2 % 4 == 0
    | 2 => f.rd == 0 && f.rs2 == 0
    | 3 => f.rs1 == 0 && f.rs2 == 0
    | 4 => f.rs2 == 0
    | 5 => f.rs1 == 0 && f.rs2 % 4 == 0
    | _ => false
  | 0x33 =>
    f.func / 32 == 0 &&
    match f.func % 8 with
    | 0 => decide (f.func / 8 ≠ 3)
    | 1 | 2 => f.func / 8 == 0 && f.rs1 == 0 && f.rs2 == 0
    | _ => false
  | _ =>
    let slot := decide (f.rs1 < 8)
    let lo := f.func % 256
    match f.func / 256 with
    | 0 => decide (f.rd < 8) && slot && decide (f.rs2 ≤ 30) && decide (lo ≤ 5)
    | 1 => decide (f.rd < 8) && slot && decide (f.rs2 ≤ 28) && lo == 0
    | 2 => decide (f.rd < 8) && slot && f.rs2 == 0 && lo == 0
    | 3 => slot && f.rs2 == 0 && decide (lo ≤ 5)
    | 4 => f.rd == 0 && decide (f.rs1 < 8) && f.rs2 == 0 && lo == 0
    | 5 => f.rd == 0 && f.rs1 == 0 && f.rs2 == 0 && lo == 0
    | _ => false

/-- System instructions and context CSRs, majors 0x38 and 0x39 (R58, R59). -/
def assignedSys (maj : Nat) (f : Fields) : Bool :=
  match maj with
  | 0x38 =>
    let op := f.func / 64
    let arg := f.func % 64
    f.rd == 0 &&
    match op with
    | 1 => f.rs1 == 0 && f.rs2 == 0
    | 6 => decide (arg < 4)
    | 7 => f.rs2 == 0 && arg == 0
    | _ => decide (op ≤ 5) && f.rs1 == 0 && f.rs2 == 0 && arg == 0
  | _ => decide (f.imm / 4096 ≤ 3) && (f.imm / 4096 != 0 || f.rs1 == 0)

/-- Whether the tables assign a word: neither a reserved or permanently illegal major opcode, nor an unassigned minor value, nor a
non-zero field that must be zero (R40). -/
def assignedWord (w : BitVec 32) : Bool :=
  let f := fieldsOf w
  let maj := fld w 26 6
  if maj = 1 then assignedInt f
  else if maj = 2 then decide (f.func ≤ 4)
  else if maj = 3 then assignedDiv f
  else if 4 ≤ maj ∧ maj ≤ 9 then true
  else if maj = 0x0A then f.imm / 256 == 0
  else if maj = 0x0B then f.rs1 == 0
  else if maj = 0x0C then true
  else if 0x10 ≤ maj ∧ maj ≤ 0x14 then assignedMem maj f
  else if 0x18 ≤ maj ∧ maj ≤ 0x1D then true
  else if maj = 0x1E ∨ maj = 0x1F then fld w 23 2 == 0
  else if maj = 0x20 ∨ maj = 0x21 then fld w 20 5 == 0
  else if maj = 0x22 then true
  else if 0x24 ≤ maj ∧ maj ≤ 0x27 then assignedFp maj f
  else if maj = 0x28 then decide (f.func ≤ 0x0B) && (!(f.func == 4 || decide (9 ≤ f.func)) || f.rs2 == 0)
  else if maj = 0x29 then f.func / 32 == 0
  else if 0x2A ≤ maj ∧ maj ≤ 0x30 then assignedVec maj w f
  else if 0x31 ≤ maj ∧ maj ≤ 0x34 then assignedUnit maj f
  else if maj = 0x38 ∨ maj = 0x39 then assignedSys maj f
  else if maj = 0x3E then fld w 0 8 == 0 && decide (fld w 8 8 ≤ 7) && (fld w 8 8 != 0 || f.rs1 == 0)
  else false

/-- ILLEGAL_ENCODING: a word that no table assigns raises ILLEGAL_INSN (R40). A word that is assigned is no such encoding: it belongs to
its own command, and this one has no effect. DESIGN CHOICE (log entry 101). -/
def execIllegalEncoding (x : CtxId) (w : BitVec 32) (s : State) : Out := .next (if assignedWord w then s else illegal x w profKE s)

end Sys2Proof.Machine
end

