-- ==== Sys2Proof/Machine/Maintenance.lean ====
section
/-! DEFINITION. Sys2Proof/Machine/Maintenance.lean: prefetch and cache maintenance, major 0x14 (R51, R154–R158, R162). -/

namespace Sys2Proof.Machine

/-! ### Prefetches -/

/-- A prefetch outside run-ahead (R51, R154): PREF1 with `l1`, else PREF2. It never traps, and brings nothing from memory whose clock is
stopped (R433). -/
def State.prefAt (s : State) (x : Nat) (a : W64) (l1 : Bool) : State :=
  let r := s.xlate x .read a
  match r.2 with
  | .error _ => r.1
  | .ok (p, at_) =>
    let s := r.1
    let u := unitOf x
    let d := domOf u
    let line := p / 64
    if at_ = .uc ∨ (s.memStatus p 1).isSome then s
    else if at_ = .str then
      if l1 && s.sbOn u && (s.sideHit u x line).isNone then s.sideReq x line true else s
    else if !s.l2En d || (l1 && s.denOn u && (s.exe u).hasL1d line) then s
    else
      let s := (s.l2Check d line).1
      let w := s.l2Way d line
      let s := s.l2Lookup d w.isSome
      if l1 then (s.demandFill u x line).1
      else if w.isSome then s
      else
        let r := s.demandRead (line * 64) 64 (s.ctxClass x)
        if r.2.1.isSome then r.1 else r.1.l2Alloc d line (s.ctx x).bid (lineOf r.2.2) false

/-- The word of a prefetch or of a maintenance instruction (R51). -/
def encMop (op : Nat) (rt rb : Reg5) (disp : BitVec 12) : BitVec 32 := encM 0x14 rt rb op disp

/-- The address of an address form (R45, R51). -/
def State.mopAddr (s : State) (x : Nat) (rb : Reg5) (disp : BitVec 12) : W64 := s.g x rb.toNat + dispOf disp 1

/-- PREF1 (R154). DEDUCED (log entry 79). -/
def execPref1 (x : CtxId) (rb : Reg5) (disp : BitVec 12) (s : State) : Out :=
  let i := ctxIdx x
  .next (issue i { word := encMop 0 0 rb disp, srcs := [lg rb], ra := .pref1 (s.mopAddr i rb disp) }
    (fun s => .ok (s.prefAt i (s.mopAddr i rb disp) true)) s)

/-- PREF2 (R154). -/
def execPref2 (x : CtxId) (rb : Reg5) (disp : BitVec 12) (s : State) : Out :=
  let i := ctxIdx x
  .next (issue i { word := encMop 1 0 rb disp, srcs := [lg rb], ra := .noEffect }
    (fun s => .ok (s.prefAt i (s.mopAddr i rb disp) false)) s)

/-! ### Address and range forms -/

/-- Whether a context may write at an address that it may read (R51, R68, R71). -/
def State.mayWrite (s : State) (x : Nat) (a : W64) : Bool :=
  if isEng x then ((s.booth (s.ctx x).bid).find a.toNat).any Window.w
  else (s.ctx x).priv == .m || !bitAt (s.xcsr x csrMstat) 8 || (s.tlbFind x a).any fun t => bitAt t.entry 4

/-- A maintenance operation on the line of an address (R51, R154). Buffered stores to the line are performed first (R156). -/
def State.mopAt (s : State) (x : Nat) (m : Mop) (a : W64) : State × Option Trap :=
  let r := s.xlate x .read a
  match r.2 with
  | .error t => (r.1, some t)
  | .ok (p, _) =>
    let s := r.1
    match s.memStatus p 1 with
    | some e => (s, some (trapData a e false))
    | none =>
      if m = .inv ∧ !s.mayWrite x a then (s, some (faultPerm .read a))
      else
        let u := unitOf x
        let s := if (s.exe u).sb.any (fun e => e.overlaps (p / 64 * 64) 64) then s.sbDrain u else s
        (s.mopLine m (domOf u) (p / 64) (some x), none)

/-- A line operation over consecutive lines, as far as the first that traps (R155). `a` is the address of the next line: for
the first line rb itself, which is the greater of rb and the line's first byte. -/
def lineRange (f : State → W64 → State × Option Trap) : Nat → State → W64 → State × Option Trap
  | 0, s, _ => (s, none)
  | k + 1, s, a =>
    let r := f s a
    match r.2 with
    | some _ => r
    | none => lineRange f k r.1 (a / 64 * 64 + 64)

/-- The number of lines that hold a byte of n bytes at a (R155). -/
def lineCount (a n : Nat) : Nat := if n = 0 then 0 else (a + n - 1) / 64 - a / 64 + 1

/-- A maintenance instruction over n lines from an address on: while a fill of one of them is in flight it cannot start (R156). -/
def State.lineWait (s : State) (x n : Nat) (a : W64) (run : Eff) : Eff :=
  let busy (k : Nat) : Bool := match (s.xlate x .read (a + BitVec.ofNat 64 (64 * k))).2 with
    | .ok (p, _) => s.inFlight (domOf (unitOf x)) (p / 64)
    | .error _ => false
  if !(s.missLines (domOf (unitOf x))).isEmpty && (List.range n).any busy then .block .fill else run

/-- A maintenance instruction ends, or waits for the write-backs it caused (R154). -/
def mopEnd (x acks0 : Nat) (r : State × Option Trap) : Eff :=
  match r.2 with
  | some t => .trap r.1 t
  | none => if acks0 < (r.1.ctx x).acks then .wait (r.1.waitFor x .waitMem .ack) else .ok r.1

/-- An address form (R155). DEDUCED (log entry 74). -/
def mopA (x : CtxId) (m : Mop) (op : Nat) (rb : Reg5) (disp : BitVec 12) (s : State) : State :=
  let i := ctxIdx x
  issue i { word := encMop op 0 rb disp, srcs := [lg rb], ra := .noEffect }
    (fun s => s.lineWait i 1 (s.mopAddr i rb disp) (mopEnd i (s.ctx i).acks (s.mopAt i m (s.mopAddr i rb disp)))) s

/-- A range form (R155). DEDUCED (log entry 74). -/
def mopR (x : CtxId) (m : Mop) (op : Nat) (rt rb : Reg5) (s : State) : State :=
  let i := ctxIdx x
  issue i { word := encMop op rt rb 0, srcs := [lg rb, lg rt], ra := .noEffect }
    (fun s =>
      let a := s.g i rb.toNat
      let n := lineCount a.toNat (s.g i rt.toNat).toNat
      s.lineWait i n a (mopEnd i (s.ctx i).acks (lineRange (fun s a => s.mopAt i m a) n s a))) s

def execClnA (x : CtxId) (rb : Reg5) (disp : BitVec 12) (s : State) : Out := .next (mopA x .cln 2 rb disp s)
def execInvA (x : CtxId) (rb : Reg5) (disp : BitVec 12) (s : State) : Out := .next (mopA x .inv 3 rb disp s)
def execCliA (x : CtxId) (rb : Reg5) (disp : BitVec 12) (s : State) : Out := .next (mopA x .cli 4 rb disp s)
def execClnR (x : CtxId) (rt rb : Reg5) (s : State) : Out := .next (mopR x .cln 5 rt rb s)
def execInvR (x : CtxId) (rt rb : Reg5) (s : State) : Out := .next (mopR x .inv 6 rt rb s)
def execCliR (x : CtxId) (rt rb : Reg5) (s : State) : Out := .next (mopR x .cli 7 rt rb s)

/-! ### Set-and-way forms and LOCKFILL -/

/-- An operation on one set and way of a core's L1D (R158), which holds no dirty data; it has 8 ways. DESIGN CHOICE (log entry 89). -/
def State.l1dSlot (s : State) (u : Nat) (m : Mop) (set way : Nat) : State :=
  let e := s.exe u
  if m = .cln ∨ 8 ≤ way then s else s.setExe u { e with l1d := Tab.set 0 e.l1d (set % l1Sets u false * 8 + way) 0 }

/-- An instruction of the K and M levels (R51, R58). -/
def mopPriv (x : CtxId) (w : BitVec 32) (srcs : List Loc) (body : State → Eff) (s : State) : State :=
  issue (ctxIdx x) { word := w, prof := profK, srcs := srcs, ra := .noEffect }
    (fun s => if (s.ctx (ctxIdx x)).priv = .u then .trap s (trapPriv w) else body s) s

/-- A set-and-way form (R158). -/
def mopSw (x : CtxId) (m : Mop) (op : Nat) (rb : Reg5) (s : State) : State :=
  let i := ctxIdx x
  mopPriv x (encMop op 0 rb 0) [lg rb] (fun s =>
    let v := s.g i rb.toNat
    let set := fld v 6 12
    let way := fld v 0 4
    mopEnd i (s.ctx i).acks
      (if bitAt v 63 then (if s.l2En 8 then s.mopSlot m 8 set way (some i) else s) else s.l1dSlot (unitOf i) m set way, none)) s

def execClnSw (x : CtxId) (rb : Reg5) (s : State) : Out := .next (mopSw x .cln 8 rb s)
def execInvSw (x : CtxId) (rb : Reg5) (s : State) : Out := .next (mopSw x .inv 9 rb s)
def execCliSw (x : CtxId) (rb : Reg5) (s : State) : Out := .next (mopSw x .cli 10 rb s)

/-- The lock-fill of the line of an address (R158, R162); it waits for a line of memory whose clock is stopped (R433). -/
def State.lockFillAt (s : State) (x way : Nat) (a : W64) : State × Option Trap :=
  let r := s.xlate x .read a
  match r.2 with
  | .error t => (r.1, some t)
  | .ok (p, at_) =>
    match r.1.memStatus p 1 with
    | some e => (r.1, some (trapData a e false))
    | none =>
      if !at_.cached || !r.1.l2En 8 then (r.1, none)
      else if (r.1.l2Way 8 (p / 64)).isNone && r.1.stopped (r.1.memIsland p) then (r.1, some (trapData a stWait false))
      else
        let q := r.1.lockFillLine 8 way (p / 64)
        (q.1, q.2.map fun e => trapData a e false)

/-- LOCKFILL (R158). -/
def execLockfill (x : CtxId) (rt rb : Reg5) (disp : BitVec 12) (s : State) : Out :=
  let i := ctxIdx x
  let w := encMop 11 rt rb disp
  .next (mopPriv x w [lg rb, lg rt] (fun s =>
    if disp.toNat / 16 ≠ 0 then .trap s (trapIllegal w)
    else
      let way := disp.toNat % 16
      if !s.l2Locked 8 way then .ok (s.setRegBit (Reg.l2Stat 8) 3 true)
      else
        let a := s.g i rb.toNat
        let n := lineCount a.toNat (s.g i rt.toNat).toNat
        s.lineWait i n a (mopEnd i (s.ctx i).acks (lineRange (fun s a => s.lockFillAt i way a) n s a))) s)

end Sys2Proof.Machine
end

