-- ==== Sys2Proof/Machine/MulDiv.lean ====
section
/-! DEFINITION. Sys2Proof/Machine/MulDiv.lean: integer multiplication (R44, R82) and division by steps (R83–R86). -/

namespace Sys2Proof.Machine

/-- The time of a multiplication outside SEALED, for the magnitude of its second operand (R82). -/
def mulTime (m : Nat) : Nat := 2 + ceilDiv (max 1 (bitLen m)) 16

/-- A product whose time depends on rs2 (R82, R107). -/
def mulOp (x : CtxId) (func : Nat) (rd rs1 rs2 : Reg5) (mag : W64 → Nat) (sealed : Nat) (fn : W64 → W64 → W64) (s : State) : State :=
  issue (ctxIdx x) { word := encA 0x02 rd rs1 rs2 func, srcs := [lg rs1, lg rs2], dsts := [lg rd] }
    (fun s =>
      let b := s.g (ctxIdx x) rs2.toNat
      let r := fn (s.g (ctxIdx x) rs1.toNat) b
      .ok ((s.setTime (ctxIdx x) (mulTime (mag b)) sealed).setG (ctxIdx x) rd.toNat r)) s

/-- MUL (R44, R82). -/
def execMul (x : CtxId) (rd rs1 rs2 : Reg5) (s : State) : Out :=
  .next (mulOp x 0 rd rs1 rs2 (fun b => b.toInt.natAbs) 6 (fun a b => a * b) s)

/-- MULH (R44, R82). -/
def execMulh (x : CtxId) (rd rs1 rs2 : Reg5) (s : State) : Out :=
  .next (mulOp x 1 rd rs1 rs2 (fun b => b.toInt.natAbs) 6 (fun a b => BitVec.ofInt 64 (a.toInt * b.toInt / 2 ^ 64)) s)

/-- MULHU (R44, R82). -/
def execMulhu (x : CtxId) (rd rs1 rs2 : Reg5) (s : State) : Out :=
  .next (mulOp x 2 rd rs1 rs2 (fun b => b.toNat) 6 (fun a b => BitVec.ofNat 64 (a.toNat * b.toNat / 2 ^ 64)) s)

/-- MULHSU (R44, R82). -/
def execMulhsu (x : CtxId) (rd rs1 rs2 : Reg5) (s : State) : Out :=
  .next (mulOp x 3 rd rs1 rs2 (fun b => b.toNat) 6 (fun a b => BitVec.ofInt 64 (a.toInt * b.toNat / 2 ^ 64)) s)

/-- MULW (R44, R82). -/
def execMulw (x : CtxId) (rd rs1 rs2 : Reg5) (s : State) : Out :=
  .next (mulOp x 4 rd rs1 rs2 (fun b => (b.setWidth 32).toInt.natAbs) 4 (fun a b => ((a.setWidth 32 * b.setWidth 32 : BitVec 32)).signExtend 64) s)

/-- Whether a register is a legal pair base: even and not g0 (R83). -/
def pairOk (rd : Reg5) : Bool := decide (rd.toNat % 2 = 0) && rd != 0
/-- Whether a register lies outside a pair (R83). -/
def outPair (r rd : Reg5) : Bool := r != rd && decide (r.toNat ≠ rd.toNat + 1)

/-- The setup of a division (R84): magnitudes of the dividend and the status bits DSS, DNQ, DNR. -/
def divSetup (x : CtxId) (func : Nat) (rd rs1 rs2 : Reg5) (signed : Bool) (s : State) : State :=
  let w := encA 0x03 rd rs1 rs2 func
  let i := ctxIdx x
  issue i { word := w, srcs := [lg rs1, lg rs2], dsts := [lg rd, .g (rd.toNat + 1)] }
    (fun s =>
      if !(pairOk rd && outPair rs2 rd) then .trap s (trapIllegal w) else
      let a := s.g i rs1.toNat
      let b := s.g i rs2.toNat
      let put (s : State) : Eff :=
        let q := if signed then BitVec.ofNat 64 a.toInt.natAbs else a
        let neg := signed && b != 0 && (a.slt 0 != b.slt 0)
        let d := setBit (setBit (setBit (s.xcsr i csrDcsr) 16 signed) 17 neg) 18 (signed && a.slt 0)
        .ok (((s.setXcsr i csrDcsr d).setG i rd.toNat q).setG i (rd.toNat + 1) 0)
      if b = 0 then s.raiseDec i dcsrDz 0x09 put else put s) s

/-- DSETUP (R83, R84). -/
def execDsetup (x : CtxId) (rd rs1 rs2 : Reg5) (s : State) : Out := .next (divSetup x 0 rd rs1 rs2 true s)
/-- DSETUPU (R83, R84). -/
def execDsetupu (x : CtxId) (rd rs1 rs2 : Reg5) (s : State) : Out := .next (divSetup x 1 rd rs1 rs2 false s)

/-- One radix-4 step of a division on quotient q and remainder r with divisor magnitude d (R84). -/
def divStep (q r d : Nat) : Nat × Nat :=
  let t := r * 4 + q / 2 ^ 62
  let k := if 3 * d ≤ t then 3 else if 2 * d ≤ t then 2 else if d ≤ t then 1 else 0
  ((q * 4) % 2 ^ 64 + k, (t - k * d) % 2 ^ 64)

/-- DSTEP (R83, R84). -/
def execDstep (x : CtxId) (rd rs2 : Reg5) (s : State) : Out :=
  let w := encA 0x03 rd 0 rs2 2
  let i := ctxIdx x
  .next (issue i { word := w, srcs := [lg rs2, lg rd, .g (rd.toNat + 1)], dsts := [lg rd, .g (rd.toNat + 1)] }
    (fun s =>
      if !(pairOk rd && outPair rs2 rd) then .trap s (trapIllegal w) else
      let b := s.g i rs2.toNat
      let d := if bitAt (s.xcsr i csrDcsr) 16 then b.toInt.natAbs else b.toNat
      let r := divStep (s.g i rd.toNat).toNat (s.g i (rd.toNat + 1)).toNat d
      .ok ((s.setG i rd.toNat (BitVec.ofNat 64 r.1)).setG i (rd.toNat + 1) (BitVec.ofNat 64 r.2))) s)

/-- DFIX (R83, R84). -/
def execDfix (x : CtxId) (rd rs1 : Reg5) (s : State) : Out :=
  let w := encA 0x03 rd rs1 0 3
  let i := ctxIdx x
  .next (issue i { word := w, srcs := [lg rs1, .g (rs1.toNat + 1)], dsts := [lg rd, .g (rd.toNat + 1)] }
    (fun s =>
      if !(pairOk rd && pairOk rs1) then .trap s (trapIllegal w) else
      let c := s.xcsr i csrDcsr
      let q := s.g i rs1.toNat
      let r := s.g i (rs1.toNat + 1)
      .ok ((s.setG i rd.toNat (if bitAt c 17 then 0 - q else q)).setG i (rd.toNat + 1) (if bitAt c 18 then 0 - r else r))) s)

end Sys2Proof.Machine
end

