-- ==== Sys2Proof/Machine/Search.lean ====
section
/-! DEFINITION. Sys2Proof/Machine/Search.lean: the search instructions of operator engines, major 0x31 (R209–R213). -/

namespace Sys2Proof.Machine

/-- v[n] to v[n + k - 1] as one number. -/
def State.vcat (s : State) (x n k : Nat) : Nat := (List.range k).foldl (fun a i => a + (s.v x (n + i)).toNat * 2 ^ (128 * i)) 0

/-- The key and the mask of a search (R210). -/
def State.searchKey (s : State) (x n : Nat) (wide : Bool) (h : W64) : BitVec 288 :=
  if wide then BitVec.ofNat 288 (s.vcat x n 2 + fld h 0 32 * 2 ^ 256) else BitVec.ofNat 288 (s.vcat x n 1 + fld h 0 16 * 2 ^ 128)
def State.searchMask (s : State) (x n : Nat) (wide : Bool) (h : W64) : BitVec 288 :=
  if wide then BitVec.ofNat 288 (s.vcat x (n + 2) 2 + fld h 32 32 * 2 ^ 256)
  else BitVec.ofNat 288 (s.vcat x (n + 1) 1 + fld h 16 16 * 2 ^ 128)

/-- Whether the operands are legal (R209). -/
def State.searchOk (s : State) (x n rd : Nat) (wide all : Bool) : Bool :=
  (!s.classT x || decide (n < 32)) && decide (n % (if wide then 4 else 2) = 0) && decide (rd ≠ 0) && (all || decide (rd % 2 = 0))

/-- A search is sent and its context waits for the reply (R213, R214). -/
def State.sendSearch (s : State) (x n rd : Nat) (wide all : Bool) (t h : W64) (addr : Nat) (at_ : Attr) : Eff :=
  let r : SpyReq := { who := .eng x rd, table := fld t 0 10, bid := (s.ctx x).bid, wide := wide, key := s.searchKey x n wide h
                      mask := s.searchMask x n wide h, all := all, addr := addr, attr := at_, issued := s.mer.ns
                      sealed := s.sealed (domOf (unitOf x)) }
  .wait (({ s with spy := { s.spy with port := s.spy.port ++ [r] } } : State).setCtx x
    { s.ctx x with st := .waitUnit, wait := .search })

/-- What a search instruction does at its issue (R209–R213). -/
def State.search (s : State) (x n : Nat) (w : BitVec 32) (wide all : Bool) (rd rs1 rs2 : Reg5) : Eff :=
  let t := s.g x rs1.toNat
  let h := s.g x rs2.toNat
  if !s.searchOk x n rd.toNat wide all then .trap s (trapIllegal w)
  else if !all then s.sendSearch x n rd.toNat wide all t h 0 .wb
  else
    let a := s.g x rd.toNat
    if a.toNat % 256 ≠ 0 then .trap s (trapAlign a)
    else match s.xlateEng x .write a with
      | .error k => .trap s k
      | .ok (p, at_) =>
        match s.accessStatus x .write at_ p 256 with
        | some e => .trap s (trapData a e true)
        | none => s.sendSearch x n rd.toNat wide all t h p at_

/-- A search instruction. -/
def searchCmd (x : CtxId) (wide all : Bool) (op : Nat) (n : BitVec 6) (rd rs1 rs2 : Reg5) (s : State) : Out :=
  let i := ctxIdx x
  let w := encA 0x31 rd rs1 rs2 (op + 8 * n.toNat)
  let vs : List Loc := (List.range (if wide then 4 else 2)).map fun k => .v (n.toNat + k)
  .next (issue i { word := w, prof := profE, srcs := [lg rs1, lg rs2] ++ vs ++ (if all then [lg rd] else [])
                   dsts := if all then [lg rd] else [lg rd, .g (rd.toNat + 1)], ra := .noEffect }
    (fun s => s.search i n.toNat w wide all rd rs1 rs2) s)

def execSrch (x : CtxId) (n : BitVec 6) (rd rs1 rs2 : Reg5) (s : State) : Out := searchCmd x false false 0 n rd rs1 rs2 s
def execSrchw (x : CtxId) (n : BitVec 6) (rd rs1 rs2 : Reg5) (s : State) : Out := searchCmd x true false 1 n rd rs1 rs2 s
def execSrcha (x : CtxId) (n : BitVec 6) (rd rs1 rs2 : Reg5) (s : State) : Out := searchCmd x false true 2 n rd rs1 rs2 s
def execSrchaw (x : CtxId) (n : BitVec 6) (rd rs1 rs2 : Reg5) (s : State) : Out := searchCmd x true true 3 n rd rs1 rs2 s

end Sys2Proof.Machine
end

