-- ==== Sys2Proof/Machine/Dispatch.lean ====
section
/-! DEFINITION. Sys2Proof/Machine/Dispatch.lean: the effect of a command, one arm per constructor. -/

namespace Sys2Proof.Machine

/-- The effect of a command on everything but the queue of waiting commands. -/
def exec (i : Instr) (s : State) : Host.Outcome State Fault Refusal :=
  match i with
  | .add x rd rs1 rs2 => Sys2Proof.Machine.execAdd x rd rs1 rs2 s
  | .sub x rd rs1 rs2 => Sys2Proof.Machine.execSub x rd rs1 rs2 s
  | .andG x rd rs1 rs2 => Sys2Proof.Machine.execAndG x rd rs1 rs2 s
  | .orG x rd rs1 rs2 => Sys2Proof.Machine.execOrG x rd rs1 rs2 s
  | .xorG x rd rs1 rs2 => Sys2Proof.Machine.execXorG x rd rs1 rs2 s
  | .andn x rd rs1 rs2 => Sys2Proof.Machine.execAndn x rd rs1 rs2 s
  | .orn x rd rs1 rs2 => Sys2Proof.Machine.execOrn x rd rs1 rs2 s
  | .xnor x rd rs1 rs2 => Sys2Proof.Machine.execXnor x rd rs1 rs2 s
  | .shl x rd rs1 rs2 => Sys2Proof.Machine.execShl x rd rs1 rs2 s
  | .shr x rd rs1 rs2 => Sys2Proof.Machine.execShr x rd rs1 rs2 s
  | .sar x rd rs1 rs2 => Sys2Proof.Machine.execSar x rd rs1 rs2 s
  | .rol x rd rs1 rs2 => Sys2Proof.Machine.execRol x rd rs1 rs2 s
  | .ror x rd rs1 rs2 => Sys2Proof.Machine.execRor x rd rs1 rs2 s
  | .seq x rd rs1 rs2 => Sys2Proof.Machine.execSeq x rd rs1 rs2 s
  | .sne x rd rs1 rs2 => Sys2Proof.Machine.execSne x rd rs1 rs2 s
  | .slt x rd rs1 rs2 => Sys2Proof.Machine.execSlt x rd rs1 rs2 s
  | .sltu x rd rs1 rs2 => Sys2Proof.Machine.execSltu x rd rs1 rs2 s
  | .sle x rd rs1 rs2 => Sys2Proof.Machine.execSle x rd rs1 rs2 s
  | .sleu x rd rs1 rs2 => Sys2Proof.Machine.execSleu x rd rs1 rs2 s
  | .minG x rd rs1 rs2 => Sys2Proof.Machine.execMinG x rd rs1 rs2 s
  | .maxG x rd rs1 rs2 => Sys2Proof.Machine.execMaxG x rd rs1 rs2 s
  | .minu x rd rs1 rs2 => Sys2Proof.Machine.execMinu x rd rs1 rs2 s
  | .maxu x rd rs1 rs2 => Sys2Proof.Machine.execMaxu x rd rs1 rs2 s
  | .clz x rd rs1 => Sys2Proof.Machine.execClz x rd rs1 s
  | .ctz x rd rs1 => Sys2Proof.Machine.execCtz x rd rs1 s
  | .popc x rd rs1 => Sys2Proof.Machine.execPopc x rd rs1 s
  | .bswap x rd rs1 => Sys2Proof.Machine.execBswap x rd rs1 s
  | .sextb x rd rs1 => Sys2Proof.Machine.execSextb x rd rs1 s
  | .sexth x rd rs1 => Sys2Proof.Machine.execSexth x rd rs1 s
  | .sextw x rd rs1 => Sys2Proof.Machine.execSextw x rd rs1 s
  | .zexth x rd rs1 => Sys2Proof.Machine.execZexth x rd rs1 s
  | .zextw x rd rs1 => Sys2Proof.Machine.execZextw x rd rs1 s
  | .addw x rd rs1 rs2 => Sys2Proof.Machine.execAddw x rd rs1 rs2 s
  | .subw x rd rs1 rs2 => Sys2Proof.Machine.execSubw x rd rs1 rs2 s
  | .shlw x rd rs1 rs2 => Sys2Proof.Machine.execShlw x rd rs1 rs2 s
  | .shrw x rd rs1 rs2 => Sys2Proof.Machine.execShrw x rd rs1 rs2 s
  | .sarw x rd rs1 rs2 => Sys2Proof.Machine.execSarw x rd rs1 rs2 s
  | .cmovnz x rd rs1 rs2 => Sys2Proof.Machine.execCmovnz x rd rs1 rs2 s
  | .cmovz x rd rs1 rs2 => Sys2Proof.Machine.execCmovz x rd rs1 rs2 s
  | .addi x rd rs1 imm => Sys2Proof.Machine.execAddi x rd rs1 imm s
  | .andi x rd rs1 imm => Sys2Proof.Machine.execAndi x rd rs1 imm s
  | .ori x rd rs1 imm => Sys2Proof.Machine.execOri x rd rs1 imm s
  | .xori x rd rs1 imm => Sys2Proof.Machine.execXori x rd rs1 imm s
  | .slti x rd rs1 imm => Sys2Proof.Machine.execSlti x rd rs1 imm s
  | .sltiu x rd rs1 imm => Sys2Proof.Machine.execSltiu x rd rs1 imm s
  | .shli x rd rs1 amt => Sys2Proof.Machine.execShli x rd rs1 amt s
  | .shri x rd rs1 amt => Sys2Proof.Machine.execShri x rd rs1 amt s
  | .sari x rd rs1 amt => Sys2Proof.Machine.execSari x rd rs1 amt s
  | .rori x rd rs1 amt => Sys2Proof.Machine.execRori x rd rs1 amt s
  | .lui x rd imm => Sys2Proof.Machine.execLui x rd imm s
  | .addhi x rd rs1 imm => Sys2Proof.Machine.execAddhi x rd rs1 imm s
  | .xli x rd imm => Sys2Proof.Machine.execXli x rd imm s
  | .xlih x rd rs1 imm => Sys2Proof.Machine.execXlih x rd rs1 imm s
  | .xaddi x rd rs1 imm => Sys2Proof.Machine.execXaddi x rd rs1 imm s
  | .xandi x rd rs1 imm => Sys2Proof.Machine.execXandi x rd rs1 imm s
  | .xori32 x rd rs1 imm => Sys2Proof.Machine.execXori32 x rd rs1 imm s
  | .xxori x rd rs1 imm => Sys2Proof.Machine.execXxori x rd rs1 imm s
  | .xslti x rd rs1 imm => Sys2Proof.Machine.execXslti x rd rs1 imm s
  | .xsltiu x rd rs1 imm => Sys2Proof.Machine.execXsltiu x rd rs1 imm s
  | .illegalEncoding x w => Sys2Proof.Machine.execIllegalEncoding x w s
  | .mul x rd rs1 rs2 => Sys2Proof.Machine.execMul x rd rs1 rs2 s
  | .mulh x rd rs1 rs2 => Sys2Proof.Machine.execMulh x rd rs1 rs2 s
  | .mulhu x rd rs1 rs2 => Sys2Proof.Machine.execMulhu x rd rs1 rs2 s
  | .mulhsu x rd rs1 rs2 => Sys2Proof.Machine.execMulhsu x rd rs1 rs2 s
  | .mulw x rd rs1 rs2 => Sys2Proof.Machine.execMulw x rd rs1 rs2 s
  | .dsetup x rd rs1 rs2 => Sys2Proof.Machine.execDsetup x rd rs1 rs2 s
  | .dsetupu x rd rs1 rs2 => Sys2Proof.Machine.execDsetupu x rd rs1 rs2 s
  | .dstep x rd rs2 => Sys2Proof.Machine.execDstep x rd rs2 s
  | .dfix x rd rs1 => Sys2Proof.Machine.execDfix x rd rs1 s
  | .lb x rt rb disp => Sys2Proof.Machine.execLb x rt rb disp s
  | .lh x rt rb disp => Sys2Proof.Machine.execLh x rt rb disp s
  | .lw x rt rb disp => Sys2Proof.Machine.execLw x rt rb disp s
  | .ld x rt rb disp => Sys2Proof.Machine.execLd x rt rb disp s
  | .lbu x rt rb disp => Sys2Proof.Machine.execLbu x rt rb disp s
  | .lhu x rt rb disp => Sys2Proof.Machine.execLhu x rt rb disp s
  | .lwu x rt rb disp => Sys2Proof.Machine.execLwu x rt rb disp s
  | .ldf x rt rb disp => Sys2Proof.Machine.execLdf x rt rb disp s
  | .lwf x rt rb disp => Sys2Proof.Machine.execLwf x rt rb disp s
  | .sb x rt rb disp => Sys2Proof.Machine.execSb x rt rb disp s
  | .sh x rt rb disp => Sys2Proof.Machine.execSh x rt rb disp s
  | .sw x rt rb disp => Sys2Proof.Machine.execSw x rt rb disp s
  | .sd x rt rb disp => Sys2Proof.Machine.execSd x rt rb disp s
  | .sdf x rt rb disp => Sys2Proof.Machine.execSdf x rt rb disp s
  | .swf x rt rb disp => Sys2Proof.Machine.execSwf x rt rb disp s
  | .indexedLoad x op scale rd rs1 rs2 => Sys2Proof.Machine.execIndexedLoad x op scale rd rs1 rs2 s
  | .indexedStore x op scale rd rs1 rs2 => Sys2Proof.Machine.execIndexedStore x op scale rd rs1 rs2 s
  | .cas x barr rd rs1 rs2 => Sys2Proof.Machine.execCas x barr rd rs1 rs2 s
  | .swap x barr rd rs1 rs2 => Sys2Proof.Machine.execSwap x barr rd rs1 rs2 s
  | .aadd x barr rd rs1 rs2 => Sys2Proof.Machine.execAadd x barr rd rs1 rs2 s
  | .aand x barr rd rs1 rs2 => Sys2Proof.Machine.execAand x barr rd rs1 rs2 s
  | .aor x barr rd rs1 rs2 => Sys2Proof.Machine.execAor x barr rd rs1 rs2 s
  | .axor x barr rd rs1 rs2 => Sys2Proof.Machine.execAxor x barr rd rs1 rs2 s
  | .amin x barr rd rs1 rs2 => Sys2Proof.Machine.execAmin x barr rd rs1 rs2 s
  | .amax x barr rd rs1 rs2 => Sys2Proof.Machine.execAmax x barr rd rs1 rs2 s
  | .aminu x barr rd rs1 rs2 => Sys2Proof.Machine.execAminu x barr rd rs1 rs2 s
  | .amaxu x barr rd rs1 rs2 => Sys2Proof.Machine.execAmaxu x barr rd rs1 rs2 s
  | .lr x barr rd rs1 => Sys2Proof.Machine.execLr x barr rd rs1 s
  | .sc x barr rd rs1 rs2 => Sys2Proof.Machine.execSc x barr rd rs1 rs2 s
  | .pref1 x rb disp => Sys2Proof.Machine.execPref1 x rb disp s
  | .pref2 x rb disp => Sys2Proof.Machine.execPref2 x rb disp s
  | .clnA x rb disp => Sys2Proof.Machine.execClnA x rb disp s
  | .invA x rb disp => Sys2Proof.Machine.execInvA x rb disp s
  | .cliA x rb disp => Sys2Proof.Machine.execCliA x rb disp s
  | .clnR x rt rb => Sys2Proof.Machine.execClnR x rt rb s
  | .invR x rt rb => Sys2Proof.Machine.execInvR x rt rb s
  | .cliR x rt rb => Sys2Proof.Machine.execCliR x rt rb s
  | .clnSw x rb => Sys2Proof.Machine.execClnSw x rb s
  | .invSw x rb => Sys2Proof.Machine.execInvSw x rb s
  | .cliSw x rb => Sys2Proof.Machine.execCliSw x rb s
  | .lockfill x rt rb disp => Sys2Proof.Machine.execLockfill x rt rb disp s
  | .beqz x a rs off => Sys2Proof.Machine.execBeqz x a rs off s
  | .bnez x a rs off => Sys2Proof.Machine.execBnez x a rs off s
  | .bltz x a rs off => Sys2Proof.Machine.execBltz x a rs off s
  | .bgez x a rs off => Sys2Proof.Machine.execBgez x a rs off s
  | .bgtz x a rs off => Sys2Proof.Machine.execBgtz x a rs off s
  | .blez x a rs off => Sys2Proof.Machine.execBlez x a rs off s
  | .bpany x a p off => Sys2Proof.Machine.execBpany x a p off s
  | .bpnone x a p off => Sys2Proof.Machine.execBpnone x a p off s
  | .br x a off => Sys2Proof.Machine.execBr x a off s
  | .bl x a off => Sys2Proof.Machine.execBl x a off s
  | .jalr x rd rs1 imm => Sys2Proof.Machine.execJalr x rd rs1 imm s
  | .fadd x rm p rd rs1 rs2 => Sys2Proof.Machine.execFadd x rm p rd rs1 rs2 s
  | .fsub x rm p rd rs1 rs2 => Sys2Proof.Machine.execFsub x rm p rd rs1 rs2 s
  | .fmul x rm p rd rs1 rs2 => Sys2Proof.Machine.execFmul x rm p rd rs1 rs2 s
  | .fma x rm p rd rs1 rs2 => Sys2Proof.Machine.execFma x rm p rd rs1 rs2 s
  | .fms x rm p rd rs1 rs2 => Sys2Proof.Machine.execFms x rm p rd rs1 rs2 s
  | .fnma x rm p rd rs1 rs2 => Sys2Proof.Machine.execFnma x rm p rd rs1 rs2 s
  | .fnms x rm p rd rs1 rs2 => Sys2Proof.Machine.execFnms x rm p rd rs1 rs2 s
  | .fmin x p rd rs1 rs2 => Sys2Proof.Machine.execFmin x p rd rs1 rs2 s
  | .fmax x p rd rs1 rs2 => Sys2Proof.Machine.execFmax x p rd rs1 rs2 s
  | .fsgnj x p rd rs1 rs2 => Sys2Proof.Machine.execFsgnj x p rd rs1 rs2 s
  | .fsgnjn x p rd rs1 rs2 => Sys2Proof.Machine.execFsgnjn x p rd rs1 rs2 s
  | .fsgnjx x p rd rs1 rs2 => Sys2Proof.Machine.execFsgnjx x p rd rs1 rs2 s
  | .fcvtsd x rm rd rs1 => Sys2Proof.Machine.execFcvtsd x rm rd rs1 s
  | .fcvtds x rd rs1 => Sys2Proof.Machine.execFcvtds x rd rs1 s
  | .fcvtlf x rm p rd rs1 => Sys2Proof.Machine.execFcvtlf x rm p rd rs1 s
  | .fcvtluf x rm p rd rs1 => Sys2Proof.Machine.execFcvtluf x rm p rd rs1 s
  | .fcvtfl x rm p rd rs1 => Sys2Proof.Machine.execFcvtfl x rm p rd rs1 s
  | .fcvtflu x rm p rd rs1 => Sys2Proof.Machine.execFcvtflu x rm p rd rs1 s
  | .frint x rm p rd rs1 => Sys2Proof.Machine.execFrint x rm p rd rs1 s
  | .fmvgf x p rd rs1 => Sys2Proof.Machine.execFmvgf x p rd rs1 s
  | .fmvfg x p rd rs1 => Sys2Proof.Machine.execFmvfg x p rd rs1 s
  | .feq x p rd rs1 rs2 => Sys2Proof.Machine.execFeq x p rd rs1 rs2 s
  | .flt x p rd rs1 rs2 => Sys2Proof.Machine.execFlt x p rd rs1 rs2 s
  | .fle x p rd rs1 rs2 => Sys2Proof.Machine.execFle x p rd rs1 rs2 s
  | .fclass x p rd rs1 => Sys2Proof.Machine.execFclass x p rd rs1 s
  | .fdsetup x p rd rs1 rs2 => Sys2Proof.Machine.execFdsetup x p rd rs1 rs2 s
  | .fdstep x p rd rs2 => Sys2Proof.Machine.execFdstep x p rd rs2 s
  | .fdfin x rm p rd rs1 rs2 => Sys2Proof.Machine.execFdfin x rm p rd rs1 rs2 s
  | .fssetup x p rd rs1 => Sys2Proof.Machine.execFssetup x p rd rs1 s
  | .fsstep x p rd => Sys2Proof.Machine.execFsstep x p rd s
  | .fsfin x rm p rd rs1 => Sys2Proof.Machine.execFsfin x rm p rd rs1 s
  | .dadd x rd rs1 rs2 => Sys2Proof.Machine.execDadd x rd rs1 rs2 s
  | .dsub x rd rs1 rs2 => Sys2Proof.Machine.execDsub x rd rs1 rs2 s
  | .dmul x rd rs1 rs2 => Sys2Proof.Machine.execDmul x rd rs1 rs2 s
  | .dcmp x rd rs1 rs2 => Sys2Proof.Machine.execDcmp x rd rs1 rs2 s
  | .dneg x rd rs1 => Sys2Proof.Machine.execDneg x rd rs1 s
  | .dshl x rd rs1 rs2 => Sys2Proof.Machine.execDshl x rd rs1 rs2 s
  | .dshr x rd rs1 rs2 => Sys2Proof.Machine.execDshr x rd rs1 rs2 s
  | .dshre x rd rs1 rs2 => Sys2Proof.Machine.execDshre x rd rs1 rs2 s
  | .dshra x rd rs1 rs2 => Sys2Proof.Machine.execDshra x rd rs1 rs2 s
  | .dtoi x rd rs1 => Sys2Proof.Machine.execDtoi x rd rs1 s
  | .itod x rd rs1 => Sys2Proof.Machine.execItod x rd rs1 s
  | .dval x rd rs1 => Sys2Proof.Machine.execDval x rd rs1 s
  | .sadd x ew rd rs1 rs2 => Sys2Proof.Machine.execSadd x ew rd rs1 rs2 s
  | .saddu x ew rd rs1 rs2 => Sys2Proof.Machine.execSaddu x ew rd rs1 rs2 s
  | .ssub x ew rd rs1 rs2 => Sys2Proof.Machine.execSsub x ew rd rs1 rs2 s
  | .ssubu x ew rd rs1 rs2 => Sys2Proof.Machine.execSsubu x ew rd rs1 rs2 s
  | .qmule x ew rd rs1 rs2 => Sys2Proof.Machine.execQmule x ew rd rs1 rs2 s
  | .qmula x ew rd rs1 rs2 => Sys2Proof.Machine.execQmula x ew rd rs1 rs2 s
  | .rshre x ew rd rs1 rs2 => Sys2Proof.Machine.execRshre x ew rd rs1 rs2 s
  | .rshra x ew rd rs1 rs2 => Sys2Proof.Machine.execRshra x ew rd rs1 rs2 s
  | .vadd x ew o => Sys2Proof.Machine.execVadd x ew o s
  | .vsub x ew o => Sys2Proof.Machine.execVsub x ew o s
  | .vmul x ew o => Sys2Proof.Machine.execVmul x ew o s
  | .vmulh x ew o => Sys2Proof.Machine.execVmulh x ew o s
  | .vmin x ew o => Sys2Proof.Machine.execVmin x ew o s
  | .vmax x ew o => Sys2Proof.Machine.execVmax x ew o s
  | .vminu x ew o => Sys2Proof.Machine.execVminu x ew o s
  | .vmaxu x ew o => Sys2Proof.Machine.execVmaxu x ew o s
  | .vand x ew o => Sys2Proof.Machine.execVand x ew o s
  | .vor x ew o => Sys2Proof.Machine.execVor x ew o s
  | .vxor x ew o => Sys2Proof.Machine.execVxor x ew o s
  | .vandn x ew o => Sys2Proof.Machine.execVandn x ew o s
  | .vshl x ew o => Sys2Proof.Machine.execVshl x ew o s
  | .vshr x ew o => Sys2Proof.Machine.execVshr x ew o s
  | .vsar x ew o => Sys2Proof.Machine.execVsar x ew o s
  | .viota x ew o => Sys2Proof.Machine.execViota x ew o s
  | .vsadd x ew o => Sys2Proof.Machine.execVsadd x ew o s
  | .vsaddu x ew o => Sys2Proof.Machine.execVsaddu x ew o s
  | .vssub x ew o => Sys2Proof.Machine.execVssub x ew o s
  | .vssubu x ew o => Sys2Proof.Machine.execVssubu x ew o s
  | .vqmule x ew o => Sys2Proof.Machine.execVqmule x ew o s
  | .vqmula x ew o => Sys2Proof.Machine.execVqmula x ew o s
  | .vrshre x ew o => Sys2Proof.Machine.execVrshre x ew o s
  | .vrshra x ew o => Sys2Proof.Machine.execVrshra x ew o s
  | .vsplat x ew o => Sys2Proof.Machine.execVsplat x ew o s
  | .vext x ew o => Sys2Proof.Machine.execVext x ew o s
  | .vins x ew o => Sys2Proof.Machine.execVins x ew o s
  | .vperm x ew o => Sys2Proof.Machine.execVperm x ew o s
  | .vcomp x ew o => Sys2Proof.Machine.execVcomp x ew o s
  | .vradd x ew o => Sys2Proof.Machine.execVradd x ew o s
  | .vrmin x ew o => Sys2Proof.Machine.execVrmin x ew o s
  | .vrmax x ew o => Sys2Proof.Machine.execVrmax x ew o s
  | .vfadd x p o => Sys2Proof.Machine.execVfadd x p o s
  | .vfsub x p o => Sys2Proof.Machine.execVfsub x p o s
  | .vfmul x p o => Sys2Proof.Machine.execVfmul x p o s
  | .vfma x p o => Sys2Proof.Machine.execVfma x p o s
  | .vfmin x p o => Sys2Proof.Machine.execVfmin x p o s
  | .vfmax x p o => Sys2Proof.Machine.execVfmax x p o s
  | .vflt x p o => Sys2Proof.Machine.execVflt x p o s
  | .vfle x p o => Sys2Proof.Machine.execVfle x p o s
  | .vfeqD x o => Sys2Proof.Machine.execVfeqD x o s
  | .vfeqS x o => Sys2Proof.Machine.execVfeqS x o s
  | .vdadd x o => Sys2Proof.Machine.execVdadd x o s
  | .vdsub x o => Sys2Proof.Machine.execVdsub x o s
  | .vdmul x o => Sys2Proof.Machine.execVdmul x o s
  | .vdneg x o => Sys2Proof.Machine.execVdneg x o s
  | .vdshl x o => Sys2Proof.Machine.execVdshl x o s
  | .vdshr x o => Sys2Proof.Machine.execVdshr x o s
  | .vdshre x o => Sys2Proof.Machine.execVdshre x o s
  | .vdshra x o => Sys2Proof.Machine.execVdshra x o s
  | .vdwiden x o => Sys2Proof.Machine.execVdwiden x o s
  | .vdnarrow x o => Sys2Proof.Machine.execVdnarrow x o s
  | .vdrsum x o => Sys2Proof.Machine.execVdrsum x o s
  | .pand x pd ps1 ps2 => Sys2Proof.Machine.execPand x pd ps1 ps2 s
  | .por x pd ps1 ps2 => Sys2Proof.Machine.execPor x pd ps1 ps2 s
  | .pxor x pd ps1 ps2 => Sys2Proof.Machine.execPxor x pd ps1 ps2 s
  | .pandn x pd ps1 ps2 => Sys2Proof.Machine.execPandn x pd ps1 ps2 s
  | .pnot x pd ps1 => Sys2Proof.Machine.execPnot x pd ps1 s
  | .pwhile x pd rs1 rs2 => Sys2Proof.Machine.execPwhile x pd rs1 rs2 s
  | .pcnt x rd ps1 => Sys2Proof.Machine.execPcnt x rd ps1 s
  | .pffs x rd ps1 => Sys2Proof.Machine.execPffs x rd ps1 s
  | .pfromg x pd rs1 rs2 => Sys2Proof.Machine.execPfromg x pd rs1 rs2 s
  | .ptog x rd ps1 hi => Sys2Proof.Machine.execPtog x rd ps1 hi s
  | .vdceq x o => Sys2Proof.Machine.execVdceq x o s
  | .vdclt x o => Sys2Proof.Machine.execVdclt x o s
  | .vdcle x o => Sys2Proof.Machine.execVdcle x o s
  | .vdval x o => Sys2Proof.Machine.execVdval x o s
  | .vcmpeq x ew o => Sys2Proof.Machine.execVcmpeq x ew o s
  | .vcmpne x ew o => Sys2Proof.Machine.execVcmpne x ew o s
  | .vcmplt x ew o => Sys2Proof.Machine.execVcmplt x ew o s
  | .vcmpltu x ew o => Sys2Proof.Machine.execVcmpltu x ew o s
  | .vld x ew o => Sys2Proof.Machine.execVld x ew o s
  | .vst x ew o => Sys2Proof.Machine.execVst x ew o s
  | .vlds x ew o => Sys2Proof.Machine.execVlds x ew o s
  | .vsts x ew o => Sys2Proof.Machine.execVsts x ew o s
  | .vgath x ew o => Sys2Proof.Machine.execVgath x ew o s
  | .vscat x ew o => Sys2Proof.Machine.execVscat x ew o s
  | .vgathq x ew o => Sys2Proof.Machine.execVgathq x ew o s
  | .vscatq x ew o => Sys2Proof.Machine.execVscatq x ew o s
  | .srch x n rd rs1 rs2 => Sys2Proof.Machine.execSrch x n rd rs1 rs2 s
  | .srchw x n rd rs1 rs2 => Sys2Proof.Machine.execSrchw x n rd rs1 rs2 s
  | .srcha x n rd rs1 rs2 => Sys2Proof.Machine.execSrcha x n rd rs1 rs2 s
  | .srchaw x n rd rs1 rs2 => Sys2Proof.Machine.execSrchaw x n rd rs1 rs2 s
  | .lsend x port rs1 rs2 => Sys2Proof.Machine.execLsend x port rs1 rs2 s
  | .lsendv x port hi rs1 rs2 => Sys2Proof.Machine.execLsendv x port hi rs1 rs2 s
  | .lsende x port rs1 => Sys2Proof.Machine.execLsende x port rs1 s
  | .lstat x port rd => Sys2Proof.Machine.execLstat x port rd s
  | .lrecv x port rd rs1 => Sys2Proof.Machine.execLrecv x port rd rs1 s
  | .lrecvv x port hi rd rs2 => Sys2Proof.Machine.execLrecvv x port hi rd rs2 s
  | .mvgo x mode rd rs1 rs2 => Sys2Proof.Machine.execMvgo x mode rd rs1 rs2 s
  | .mvstat x rd => Sys2Proof.Machine.execMvstat x rd s
  | .mvwait x rd => Sys2Proof.Machine.execMvwait x rd s
  | .scmp x cond pd slot rs2 => Sys2Proof.Machine.execScmp x cond pd slot rs2 s
  | .srng x pd slot rs2 => Sys2Proof.Machine.execSrng x pd slot rs2 s
  | .snull x pd slot => Sys2Proof.Machine.execSnull x pd slot s
  | .shdr x fld rd slot => Sys2Proof.Machine.execShdr x fld rd slot s
  | .emit x ps => Sys2Proof.Machine.execEmit x ps s
  | .sdone x => Sys2Proof.Machine.execSdone x s
  | .nop x => Sys2Proof.Machine.execNop x s
  | .fence x arg => Sys2Proof.Machine.execFence x arg s
  | .ecall x => Sys2Proof.Machine.execEcall x s
  | .brk x => Sys2Proof.Machine.execBreak x s
  | .rett x => Sys2Proof.Machine.execRett x s
  | .wait x => Sys2Proof.Machine.execWait x s
  | .waitResume h => Sys2Proof.Machine.execWaitResume h s
  | .tlbinv x arg rs1 rs2 => Sys2Proof.Machine.execTlbinv x arg rs1 rs2 s
  | .jend x rs1 => Sys2Proof.Machine.execJend x rs1 s
  | .csrr x rd n => Sys2Proof.Machine.execCsrr x rd n s
  | .csrw x rd rs1 n => Sys2Proof.Machine.execCsrw x rd rs1 n s
  | .csrs x rd rs1 n => Sys2Proof.Machine.execCsrs x rd rs1 n s
  | .csrc x rd rs1 n => Sys2Proof.Machine.execCsrc x rd rs1 n s
  | .missDataArrival x => Sys2Proof.Machine.execMissDataArrival x s
  | .missingLoadReissue x => Sys2Proof.Machine.execMissingLoadReissue x s
  | .demandMissFill x => Sys2Proof.Machine.execDemandMissFill x s
  | .sideBufferFill sl e => Sys2Proof.Machine.execSideBufferFill sl e s
  | .storeBufferDrain u => Sys2Proof.Machine.execStoreBufferDrain u s
  | .oeCfgWrite sl e v => Sys2Proof.Machine.execOeCfgWrite sl e v s
  | .l1Invalidate sl e => Sys2Proof.Machine.execL1Invalidate sl e s
  | .l1dDisable sl e => Sys2Proof.Machine.execL1dDisable sl e s
  | .sideBufferDisable sl e => Sys2Proof.Machine.execSideBufferDisable sl e s
  | .l2Disable d => Sys2Proof.Machine.execL2Disable d s
  | .l2Enable d => Sys2Proof.Machine.execL2Enable d s
  | .l2LockWrite d v => Sys2Proof.Machine.execL2LockWrite d v s
  | .l2MopClnR d => Sys2Proof.Machine.execL2MopClnR d s
  | .l2MopInvR d => Sys2Proof.Machine.execL2MopInvR d s
  | .l2MopCliR d => Sys2Proof.Machine.execL2MopCliR d s
  | .l2MopClnAll d => Sys2Proof.Machine.execL2MopClnAll d s
  | .l2MopInvAll d => Sys2Proof.Machine.execL2MopInvAll d s
  | .l2MopCliAll d => Sys2Proof.Machine.execL2MopCliAll d s
  | .l2MopClnSw d way set => Sys2Proof.Machine.execL2MopClnSw d way set s
  | .l2MopInvSw d way set => Sys2Proof.Machine.execL2MopInvSw d way set s
  | .l2MopCliSw d way set => Sys2Proof.Machine.execL2MopCliSw d way set s
  | .l2MopLockfill d way => Sys2Proof.Machine.execL2MopLockfill d way s
  | .l2MopComplete d => Sys2Proof.Machine.execL2MopComplete d s
  | .writeAcknowledge x => Sys2Proof.Machine.execWriteAcknowledge x s
  | .runPipe q => Sys2Proof.Machine.execRunPipe q s
  | .flitDelivery sl e port => Sys2Proof.Machine.execFlitDelivery sl e port s
  | .creditReturn sl e port => Sys2Proof.Machine.execCreditReturn sl e port s
  | .timeLimitExpiry sl e c => Sys2Proof.Machine.execTimeLimitExpiry sl e c s
  | .jobCompletion sl e c => Sys2Proof.Machine.execJobCompletion sl e c s
  | .sievePageRead ch n => Sys2Proof.Machine.execSievePageRead ch n s
  | .groupEvaluation ch n => Sys2Proof.Machine.execGroupEvaluation ch n s
  | .sieveRecordWrite ch n => Sys2Proof.Machine.execSieveRecordWrite ch n s
  | .sieveRdPoll ch n => Sys2Proof.Machine.execSieveRdPoll ch n s
  | .sievePartEnd ch n => Sys2Proof.Machine.execSievePartEnd ch n s
  | .searchAdmission => Sys2Proof.Machine.execSearchAdmission s
  | .searchReply sl e c => Sys2Proof.Machine.execSearchReply sl e c s
  | .createTable q => Sys2Proof.Machine.execCreateTable q s
  | .destroyTable q => Sys2Proof.Machine.execDestroyTable q s
  | .insert q => Sys2Proof.Machine.execInsert q s
  | .delete q => Sys2Proof.Machine.execDelete q s
  | .spyUpdate q => Sys2Proof.Machine.execSpyUpdate q s
  | .search q => Sys2Proof.Machine.execSearch q s
  | .moveBlock q => Sys2Proof.Machine.execMoveBlock q s
  | .readRow q => Sys2Proof.Machine.execReadRow q s
  | .tableInfo q => Sys2Proof.Machine.execTableInfo q s
  | .rowCommandCompletion t => Sys2Proof.Machine.execRowCommandCompletion t s
  | .patrolVisit row => Sys2Proof.Machine.execPatrolVisit row s
  | .rowRepairRelease row => Sys2Proof.Machine.execRowRepairRelease row s
  | .mirrorWriteFail => Sys2Proof.Machine.execMirrorWriteFail s
  | .resync => Sys2Proof.Machine.execResync s
  | .resyncDone => Sys2Proof.Machine.execResyncDone s
  | .orrCreate h t any prio start => Sys2Proof.Machine.execOrrCreate h t any prio start s
  | .orrDestroy h t => Sys2Proof.Machine.execOrrDestroy h t s
  | .setf h t => Sys2Proof.Machine.execSetf h t s
  | .clrf h t => Sys2Proof.Machine.execClrf h t s
  | .orrWait h modeAnd consume => Sys2Proof.Machine.execOrrWait h modeAnd consume s
  | .sleep h => Sys2Proof.Machine.execSleep h s
  | .yield h => Sys2Proof.Machine.execYield h s
  | .suspend h t => Sys2Proof.Machine.execSuspend h t s
  | .orrResume h t => Sys2Proof.Machine.execOrrResume h t s
  | .setprio h t prio => Sys2Proof.Machine.execSetprio h t prio s
  | .setaff h t => Sys2Proof.Machine.execSetaff h t s
  | .wake h t => Sys2Proof.Machine.execWake h t s
  | .exit h => Sys2Proof.Machine.execExit h s
  | .dispatchCommit h => Sys2Proof.Machine.execDispatchCommit h s
  | .tick => Sys2Proof.Machine.execTick s
  | .delayExpiry => Sys2Proof.Machine.execDelayExpiry s
  | .eventDelivery n => Sys2Proof.Machine.execEventDelivery n s
  | .orrSrcWrite n v => Sys2Proof.Machine.execOrrSrcWrite n v s
  | .orrHtEnWrite v => Sys2Proof.Machine.execOrrHtEnWrite v s
  | .terminal => Sys2Proof.Machine.execTerminal s
  | .itemRelease => Sys2Proof.Machine.execItemRelease s
  | .skip f sq => Sys2Proof.Machine.execSkip f sq s
  | .domFlush f => Sys2Proof.Machine.execDomFlush f s
  | .stallDetect f => Sys2Proof.Machine.execStallDetect f s
  | .flowCfgWrite f v => Sys2Proof.Machine.execFlowCfgWrite f v s
  | .doorbellStore bid q form v => Sys2Proof.Machine.execDoorbellStore bid q form v s
  | .doorbellLoad bid q form => Sys2Proof.Machine.execDoorbellLoad bid q form s
  | .entryFetch q => Sys2Proof.Machine.execEntryFetch q s
  | .qmQctlWrite q v => Sys2Proof.Machine.execQmQctlWrite q v s
  | .adminDirectGo => Sys2Proof.Machine.execAdminDirectGo s
  | .createBooth src => Sys2Proof.Machine.execCreateBooth src s
  | .destroyBooth src => Sys2Proof.Machine.execDestroyBooth src s
  | .resetBooth src => Sys2Proof.Machine.execResetBooth src s
  | .resetBoothDiscard => Sys2Proof.Machine.execResetBoothDiscard s
  | .createQueue src => Sys2Proof.Machine.execCreateQueue src s
  | .destroyQueue src => Sys2Proof.Machine.execDestroyQueue src s
  | .setWindow src => Sys2Proof.Machine.execSetWindow src s
  | .clearWindow src => Sys2Proof.Machine.execClearWindow src s
  | .setQuota src => Sys2Proof.Machine.execSetQuota src s
  | .setShare src => Sys2Proof.Machine.execSetShare src s
  | .format => Sys2Proof.Machine.execFormat s
  | .formatComplete marked failed => Sys2Proof.Machine.execFormatComplete marked failed s
  | .nsCreate nsid bid size ledger ordered => Sys2Proof.Machine.execNsCreate nsid bid size ledger ordered s
  | .nsDestroy nsid => Sys2Proof.Machine.execNsDestroy nsid s
  | .writeBufferAccept => Sys2Proof.Machine.execWriteBufferAccept s
  | .programComplete g pass => Sys2Proof.Machine.execProgramComplete g pass s
  | .programUnitFillTimeout g => Sys2Proof.Machine.execProgramUnitFillTimeout g s
  | .slotReadComplete g steps ok => Sys2Proof.Machine.execSlotReadComplete g steps ok s
  | .relocationCopy g readOk progOk => Sys2Proof.Machine.execRelocationCopy g readOk progOk s
  | .blockErase blk pass => Sys2Proof.Machine.execBlockErase blk pass s
  | .patrolRead blk steps weak => Sys2Proof.Machine.execPatrolRead blk steps weak s
  | .tablePageWrite => Sys2Proof.Machine.execTablePageWrite s
  | .blockOpen g stream => Sys2Proof.Machine.execBlockOpen g stream s
  | .ckpt => Sys2Proof.Machine.execCkpt s
  | .checkpointTimer => Sys2Proof.Machine.execCheckpointTimer s
  | .checkpointCommit => Sys2Proof.Machine.execCheckpointCommit s
  | .tablePageLoad => Sys2Proof.Machine.execTablePageLoad s
  | .sealTimeout nsid => Sys2Proof.Machine.execSealTimeout nsid s
  | .lgReadChain => Sys2Proof.Machine.execLgReadChain s
  | .lgSeal => Sys2Proof.Machine.execLgSeal s
  | .lgHeadCapture => Sys2Proof.Machine.execLgHeadCapture s
  | .lgSelWrite v => Sys2Proof.Machine.execLgSelWrite v s
  | .almPsWrite v => Sys2Proof.Machine.execAlmPsWrite v s
  | .psTransitionEnd => Sys2Proof.Machine.execPsTransitionEnd s
  | .flush q => Sys2Proof.Machine.execFlush q s
  | .write q => Sys2Proof.Machine.execWrite q s
  | .read q => Sys2Proof.Machine.execRead q s
  | .trim q => Sys2Proof.Machine.execTrim q s
  | .orderedWrite q => Sys2Proof.Machine.execOrderedWrite q s
  | .orderedRead q => Sys2Proof.Machine.execOrderedRead q s
  | .append q => Sys2Proof.Machine.execAppend q s
  | .readChain q => Sys2Proof.Machine.execReadChain q s
  | .scan q => Sys2Proof.Machine.execScan q s
  | .scanComplete n => Sys2Proof.Machine.execScanComplete n s
  | .orderedCommandStart f => Sys2Proof.Machine.execOrderedCommandStart f s
  | .hostIoCommand fn sqid sqe => Sys2Proof.Machine.execHostIoCommand fn sqid sqe s
  | .hostDoorbell fn qid isCq v => Sys2Proof.Machine.execHostDoorbell fn qid isCq v s
  | .createIoSq fn cid sqid cqid size => Sys2Proof.Machine.execCreateIoSq fn cid sqid cqid size s
  | .createIoCq fn cid cqid size vec ien => Sys2Proof.Machine.execCreateIoCq fn cid cqid size vec ien s
  | .deleteIoSq fn cid qid => Sys2Proof.Machine.execDeleteIoSq fn cid qid s
  | .deleteIoCq fn cid qid => Sys2Proof.Machine.execDeleteIoCq fn cid qid s
  | .identify fn cid cns nsid => Sys2Proof.Machine.execIdentify fn cid cns nsid s
  | .getLogPage fn cid lid => Sys2Proof.Machine.execGetLogPage fn cid lid s
  | .setFeatures fn cid fid v => Sys2Proof.Machine.execSetFeatures fn cid fid v s
  | .getFeatures fn cid sel => Sys2Proof.Machine.execGetFeatures fn cid sel s
  | .orderedQueueSelect fn cid v => Sys2Proof.Machine.execOrderedQueueSelect fn cid v s
  | .abort fn cid sqid acid => Sys2Proof.Machine.execAbort fn cid sqid acid s
  | .asyncEventRequest fn cid => Sys2Proof.Machine.execAsyncEventRequest fn cid s
  | .ccEnSet fn => Sys2Proof.Machine.execCcEnSet fn s
  | .ccEnClear fn => Sys2Proof.Machine.execCcEnClear fn s
  | .functionLevelReset fn => Sys2Proof.Machine.execFunctionLevelReset fn s
  | .shutdownNotification fn => Sys2Proof.Machine.execShutdownNotification fn s
  | .pciFnWrite fn v => Sys2Proof.Machine.execPciFnWrite fn v s
  | .pcieLinkChange up => Sys2Proof.Machine.execPcieLinkChange up s
  | .perstN level => Sys2Proof.Machine.execPerstN level s
  | .interruptCoalescingTimer fn cqid => Sys2Proof.Machine.execInterruptCoalescingTimer fn cqid s
  | .transferComplete ch => Sys2Proof.Machine.execTransferComplete ch s
  | .moverHalt ch => Sys2Proof.Machine.execMoverHalt ch s
  | .mvGo ch mode => Sys2Proof.Machine.execMvGo ch mode s
  | .mvResume ch => Sys2Proof.Machine.execMvResume ch s
  | .mvAbort ch => Sys2Proof.Machine.execMvAbort ch s
  | .runChain q => Sys2Proof.Machine.execRunChain q s
  | .descriptorStart ch => Sys2Proof.Machine.execDescriptorStart ch s
  | .gatePoll ch => Sys2Proof.Machine.execGatePoll ch s
  | .dgAlloc q => Sys2Proof.Machine.execDgAlloc q s
  | .dgFree q => Sys2Proof.Machine.execDgFree q s
  | .dgUpdate q => Sys2Proof.Machine.execDgUpdate q s
  | .loadState q => Sys2Proof.Machine.execLoadState q s
  | .storeState q => Sys2Proof.Machine.execStoreState q s
  | .fragmentApply n => Sys2Proof.Machine.execFragmentApply n s
  | .compress q => Sys2Proof.Machine.execCompress q s
  | .decompress q => Sys2Proof.Machine.execDecompress q s
  | .openCz q => Sys2Proof.Machine.execOpenCz q s
  | .close q => Sys2Proof.Machine.execClose q s
  | .compressionJobEnd u => Sys2Proof.Machine.execCompressionJobEnd u s
  | .mergeDrainTimeout n => Sys2Proof.Machine.execMergeDrainTimeout n s
  | .requestPromote n => Sys2Proof.Machine.execRequestPromote n s
  | .memoryRefresh n => Sys2Proof.Machine.execMemoryRefresh n s
  | .scrubGo => Sys2Proof.Machine.execScrubGo s
  | .scrubWord => Sys2Proof.Machine.execScrubWord s
  | .scrubAbort => Sys2Proof.Machine.execScrubAbort s
  | .scrubEnd => Sys2Proof.Machine.execScrubEnd s
  | .recenter n => Sys2Proof.Machine.execRecenter n s
  | .recenterEnd n lanes => Sys2Proof.Machine.execRecenterEnd n lanes s
  | .frameReceive port frame fcsOk => Sys2Proof.Machine.execFrameReceive port frame fcsOk s
  | .frameLanding port => Sys2Proof.Machine.execFrameLanding port s
  | .send q => Sys2Proof.Machine.execSend q s
  | .frameTransmitDone port => Sys2Proof.Machine.execFrameTransmitDone port s
  | .linkChange port up => Sys2Proof.Machine.execLinkChange port up s
  | .ptpSample o => Sys2Proof.Machine.execPtpSample o s
  | .rxbCfgWrite ix v => Sys2Proof.Machine.execRxbCfgWrite ix v s
  | .merStepWrite v => Sys2Proof.Machine.execMerStepWrite v s
  | .merRateWrite v => Sys2Proof.Machine.execMerRateWrite v s
  | .mboxSend v => Sys2Proof.Machine.execMboxSend v s
  | .mboxPost words => Sys2Proof.Machine.execMboxPost words s
  | .attestationRequest nonce => Sys2Proof.Machine.execAttestationRequest nonce s
  | .firmwareUpdate version image sigOk => Sys2Proof.Machine.execFirmwareUpdate version image sigOk s
  | .firmwareCommit => Sys2Proof.Machine.execFirmwareCommit s
  | .telemetrySample => Sys2Proof.Machine.execTelemetrySample s
  | .stagehandModeRequest m => Sys2Proof.Machine.execStagehandModeRequest m s
  | .modeRequest m => Sys2Proof.Machine.execModeRequest m s
  | .unitApply u => Sys2Proof.Machine.execUnitApply u s
  | .epochTimeout => Sys2Proof.Machine.execEpochTimeout s
  | .porN level => Sys2Proof.Machine.execPorN level s
  | .devRstWrite v => Sys2Proof.Machine.execDevRstWrite v s
  | .pllLock => Sys2Proof.Machine.execPllLock s
  | .stagehandBoot okA okB => Sys2Proof.Machine.execStagehandBoot okA okB s
  | .recordRead => Sys2Proof.Machine.execRecordRead s
  | .sramInit pass => Sys2Proof.Machine.execSramInit pass s
  | .memoryTraining r => Sys2Proof.Machine.execMemoryTraining r s
  | .powerOnFill => Sys2Proof.Machine.execPowerOnFill s
  | .imageLoad m k mOk kOk => Sys2Proof.Machine.execImageLoad m k mOk kOk s
  | .almanacRecovery => Sys2Proof.Machine.execAlmanacRecovery s
  | .initEnd => Sys2Proof.Machine.execInitEnd s
  | .clockLockLost ix => Sys2Proof.Machine.execClockLockLost ix s
  | .clockRelock ix => Sys2Proof.Machine.execClockRelock ix s
  | .clockLostTimeout ix => Sys2Proof.Machine.execClockLostTimeout ix s
  | .personalityRecordReceive body => Sys2Proof.Machine.execPersonalityRecordReceive body s
  | .pfN lowNs => Sys2Proof.Machine.execPfN lowNs s
  | .holdupDone => Sys2Proof.Machine.execHoldupDone s
  | .voltageSample senseMv => Sys2Proof.Machine.execVoltageSample senseMv s
  | .meas => Sys2Proof.Machine.execMeas s
  | .measDue => Sys2Proof.Machine.execMeasDue s
  | .measStart => Sys2Proof.Machine.execMeasStart s
  | .measEnd dtUs => Sys2Proof.Machine.execMeasEnd dtUs s
  | .limitRecompute => Sys2Proof.Machine.execLimitRecompute s
  | .railUndervoltage rail ns permille => Sys2Proof.Machine.execRailUndervoltage rail ns permille s
  | .limiterEval watts temps => Sys2Proof.Machine.execLimiterEval watts temps s
  | .thermalTrip sensor eighths => Sys2Proof.Machine.execThermalTrip sensor eighths s
  | .tapIdcode => Sys2Proof.Machine.execTapIdcode s
  | .tapBypass => Sys2Proof.Machine.execTapBypass s
  | .tapExtest => Sys2Proof.Machine.execTapExtest s
  | .tapSample => Sys2Proof.Machine.execTapSample s
  | .tapPreload => Sys2Proof.Machine.execTapPreload s
  | .registerWrite who addr size v => Sys2Proof.Machine.execRegisterWrite who addr size v s

end Sys2Proof.Machine
end

