-- ==== Sys2Proof/Machine/Tick.lean ====
section
/-! DEFINITION. Sys2Proof/Machine/Tick.lean: one nanosecond in which no command acts: Meridian counts (R28, R29), the cycle and
performance counters run (R60, R168), the Spyglass search port gains budget (R214), and a POR that DEV_RST asked for comes (R431). -/

namespace Sys2Proof.Machine

/-- Meridian gains one nanosecond and its trim, in units of 2^-32 ns (R28, R29). -/
def Meridian.count (m : Meridian) (trim : Int) : Meridian :=
  let t := ((m.frac.toNat : Int) + 2 ^ 32 + trim).toNat
  { m with ns := m.ns + BitVec.ofNat 64 (t / 2 ^ 32), frac := BitVec.ofNat 32 t }

/-- What island k's copy differs by after a nanosecond in which the master gained `adv` (R28, R30): any value within ±8 ns that does
not take its reading back. An island that has not taken a step yet may stay behind for 64 hclk cycles, 53 ns. The choice is a digit
of a free value. DESIGN CHOICE (log entry 98). -/
def Meridian.drift (m : Meridian) (adv r k : Nat) : Int :=
  let o := Tab.get 0 m.isl k
  let x := r / 64 ^ k % 64
  let lags := decide (o < -8) && (match m.stepAt with | some t => decide ((m.ns - t).toNat < 53) | none => false)
  if lags && decide (32 ≤ x) then o else max (o - adv) ((x % 17 : Nat) - 8)

/-- The islands' copies move against the master. -/
def Meridian.drifted (m : Meridian) (adv r : Nat) : Meridian :=
  { m with isl := (List.range 20).foldl (fun t k => Tab.set 0 t k (m.drift adv r k)) m.isl }

/-- Meridian runs for a nanosecond in every island. -/
def State.count (s : State) : State :=
  let m := s.mer.count s.trim
  let r := s.fresh
  { r.2 with mer := m.drifted (m.ns - s.mer.ns).toNat r.1 }

/-- Tenths of a cclk cycle in a nanosecond (the clock table of the first chapter). -/
def cclkTenths : Nat := if Config.grade26 then 26 else 22

/-- An engine's counters gain n cycles of sclk (R168). -/
def State.engCycles (s : State) (u n : Nat) : State :=
  let s := if s.regBit (Reg.oeCfg u) 0 then s.addReg (Reg.oePmc u 0) n else s
  let idle := (List.range 16).all fun c => let k := s.ctx (u * 16 + c); k.st != .ready && (k.st != .runAhead || (k.epi.map Episode.ended).getD true)
  let s := if idle then s.addReg (Reg.oePmc u 3) n else s
  if 16 ≤ (s.exe u).sb.length then s.addReg (Reg.oePmc u 12) n else s

/-- The island clocks run for a nanosecond. -/
def State.clocks (s : State) : State :=
  let old := s.mer.sclk
  let s := { s with mer := { s.mer with sclk := old + s.sclkIn, cclk := s.mer.cclk + cclkTenths, qclk := s.mer.qclk + 1 } }
  let n := s.mer.sclk / 10 - old / 10
  if n = 0 then s else (List.range 128).foldl (fun s u => s.engCycles u n) s

/-- The search port gains 4 slots every 5 qclk cycles of 1 ns, up to 32 (R214). DESIGN CHOICE (log entry 83). -/
def State.portGain (s : State) : State := { s with spy := { s.spy with budget := min 160 (s.spy.budget + 4) } }

/-- One nanosecond; none passes for the device while por_n is low outside HOLDUP. DESIGN CHOICE (log entry 8). -/
def State.tick (s : State) : State :=
  if !s.pins.porN && s.mode != modeHoldup then s
  else
    let s := s.count.clocks.portGain
    match s.ctl.porAt with
    | some t => if (s.mer.ns - t).toNat < 2 ^ 63 then s.por else s
    | none => s

end Sys2Proof.Machine
end

