-- ==== Sys2Proof/Safety.lean ====
section
/-! DEFINITION. Sys2Proof/Safety.lean: what a safe step is, the canonical form of sparse state, and the terms in which statements about
instructions are made: when an instruction of a context executes, the state its effect starts from, and how it retires. -/

namespace Sys2Proof.Machine

/-- The step answers a next state: it neither faults nor refuses. -/
def State.safe (s : State) : Prop := ∃ t, step s = .next t

/-- Memory is in its canonical form: addresses strictly rise, and no entry lists a zero byte, which an unlisted address reads as. -/
def State.memWf (s : State) : Prop := Tab.wf 0 s.mem = true

/-- The stored registers are in their canonical form: addresses strictly rise, and no entry holds its register's reset value. -/
def State.csrWf (s : State) : Prop := Tab.sorted s.csr = true ∧ ∀ e ∈ s.csr, e.2 ≠ regDefault e.1

/-! ### The issue of an instruction -/

/-- A context has its turn at its unit (R134): the issue is counted, and the turn is the context's (R168). -/
def State.turn (s : State) (x : Nat) : State :=
  let t := s.pmc (unitOf x) 1
  t.setExe (unitOf x) { t.exe (unitOf x) with ptr := x % 16 }

/-- The state in which the effect of an instruction of a context starts: it has been fetched, and takes one cycle unless its effect says
otherwise. A sieve evaluator fetches nothing (R193). -/
def State.start (s : State) (x : Nat) (wide : Bool) : State :=
  if 2112 ≤ x then s
  else
    let f := ((s.turn x).fetch x wide).1
    f.setCtx x { f.ctx x with lastTime := 1 }

/-- Whether an instruction of a profile issued by a context now has its own effect: the context is READY, in no run-ahead episode, at an
instruction that is not annulled, with no machine check pending; its island's clock runs (R433); no other stage of its job has faulted (R183);
its unit has the profile (R34); the fetch succeeds; and one that a delay slot may not hold is not in one (R54). -/
def State.canIssue (s : State) (x : Nat) (p : Prof) (noSlot wide : Bool) : Bool :=
  let c := s.ctx x
  decide (c.st = .ready) && c.epi.isNone && !c.r.annul &&
  if 2112 ≤ x then p.s
  else
    let f := (s.turn x).fetch x wide
    !s.stopped (domOf (unitOf x)) && !(isEng x && (s.job c.job).live && (s.job c.job).fault.isSome) && c.async.isNone && (if isEng x then p.e else p.k) && !(noSlot && (f.1.ctx x).r.slot) &&
      (match f.2 with | .ok _ => true | .error _ => false)

/-- An instruction completes: it retires and the PC moves on; a sieve evaluator only moves on. -/
def State.finish (s : State) (x : Nat) (wide : Bool) : State := if 2112 ≤ x then s.advance x wide else s.retire x wide

/-- Two states differ at most in the contexts, the units, the stored registers and the count of free values: in nothing that memory, the
caches beyond a unit, or the hub hold. -/
def State.sameBeyond (s t : State) : Prop :=
  t.mem = s.mem ∧ t.merge = s.merge ∧ t.ecc = s.ecc ∧ t.l2 = s.l2 ∧ t.l2todo = s.l2todo ∧ t.tlb = s.tlb ∧ t.jobs = s.jobs ∧
  t.queues = s.queues ∧ t.booths = s.booths ∧ t.flows = s.flows ∧ t.domLast = s.domLast ∧ t.rr = s.rr ∧ t.adm = s.adm ∧
  t.admGo = s.admGo ∧ t.terms = s.terms ∧ t.busReply = s.busReply ∧ t.orr = s.orr ∧ t.spy = s.spy ∧ t.scans = s.scans ∧
  t.parts = s.parts ∧ t.evals = s.evals ∧ t.alm = s.alm ∧ t.movers = s.movers ∧ t.eng = s.eng ∧ t.net = s.net ∧ t.host = s.host ∧
  t.pins = s.pins ∧ t.stg = s.stg ∧ t.ctl = s.ctl ∧ t.mer = s.mer ∧ t.pending = s.pending

/-- The fetch of the instruction at a context's PC changes nothing: its instruction buffer holds it (R135), or its unit needs no fill, and
no page walk is needed. A sieve evaluator fetches nothing. -/
def State.quiet (s : State) (x : Nat) (wide : Bool) : Prop := 2112 ≤ x ∨ (s.turn x).fetch x wide = (s.turn x, .ok false)

/-- The registers, predicates and context CSRs of a context are unchanged but for those named. An f register named stands for its v
register in class T (R36). -/
def State.keepsRegs (s t : State) (x : Nat) (dst : List Loc) (csrs : List Nat) : Prop :=
  (∀ n, .g n ∉ dst → t.g x n = s.g x n) ∧
  (∀ n, .f n ∉ dst → .v n ∉ dst → t.f x n = s.f x n ∧ t.v x n = s.v x n) ∧
  (∀ n, .p n ∉ dst → t.p x n = s.p x n) ∧
  (∀ n, n ∉ csrs → t.xcsr x n = s.xcsr x n)

/-- What an instruction leaves of the contexts: every other context whole; of its own every register, predicate and context CSR but
those named, its reservation, privilege, job and state. -/
def State.keeps (s t : State) (x : Nat) (dst : List Loc) (csrs : List Nat) : Prop :=
  (∀ y, y ≠ x → t.ctx y = s.ctx y) ∧ s.keepsRegs t x dst csrs ∧
  (t.ctx x).st = (s.ctx x).st ∧ (t.ctx x).priv = (s.ctx x).priv ∧ (t.ctx x).r.resv = (s.ctx x).r.resv ∧
  (t.ctx x).epi = (s.ctx x).epi ∧ (t.ctx x).wait = (s.ctx x).wait ∧ (t.ctx x).acks = (s.ctx x).acks ∧ (t.ctx x).log = (s.ctx x).log ∧
  (t.ctx x).kick = (s.ctx x).kick ∧ (t.ctx x).async = (s.ctx x).async ∧ (t.ctx x).bid = (s.ctx x).bid ∧ (t.ctx x).qid = (s.ctx x).qid ∧
  (t.ctx x).job = (s.ctx x).job ∧ (t.ctx x).stage = (s.ctx x).stage ∧ (t.ctx x).seq = (s.ctx x).seq

/-- An instruction of one word has completed: the PC is at its successor, and INSTRET has counted it. -/
def State.movedOn (s t : State) (x : Nat) : Prop :=
  (t.ctx x).r.pc = (s.ctx x).r.npc ∧ (t.ctx x).r.npc = (s.ctx x).r.npc + 4 ∧ (t.ctx x).r.slot = false ∧
  (t.ctx x).instret = (s.ctx x).instret + 1

/-- Memory as every requester sees it, and all that lies beyond the units, is as it was: every byte of memory, every byte of each coherence
domain, every unit's store buffer, caches and side buffer, every stored register but the counters of the context's engine. -/
def State.keepsMemory (s t : State) (x : Nat) : Prop :=
  (∀ a, t.peek a = s.peek a) ∧ (∀ d a, d < 9 → t.domByte d a = s.domByte d a) ∧
  (∀ u, { t.exe u with ptr := 0 } = { s.exe u with ptr := 0 }) ∧
  (∀ a, (∀ n, n < 16 → a ≠ Reg.oePmc (unitOf x) n) → t.reg a = s.reg a) ∧ s.sameBeyond t

/-- Every byte of memory, and every byte of each coherence domain, reads as it did. -/
def State.sameBytes (s t : State) : Prop := (∀ a, t.peek a = s.peek a) ∧ ∀ d a, d < 9 → t.domByte d a = s.domByte d a

/-- The youngest entry of a unit's store buffer that overlaps bytes. -/
def State.sbNear (s : State) (u a n : Nat) : Option SbEntry := ((s.exe u).sb.filter fun e => e.overlaps a n).getLast?

/-- An L2 that is on holds a line whose code words are good. -/
def State.l2Holds (s : State) (d line : Nat) : Prop :=
  s.l2En d = true ∧ ∃ w, s.l2Way d line = some w ∧ (s.l2At (l2Key d (line % l2Sets d) w)).ecc = .good

/-! ### Commands of queue entries (R269, R270) -/

/-- The front entry of a queue of a class, with an opcode, is dispatched: it is what R269 and R270 choose (in a release-ordered queue, the
oldest released entry whose engine is ready), and `t` is the state in which it has left the queue. -/
def State.dispatches (s : State) (cls op : Nat) (q : BitVec 16) (ready : Item → State → Bool) (e : Item) (t : State) : Prop :=
  let x := s.queue q
  x.exists_ = true ∧ x.cls = cls ∧ e.opcode = op ∧
  if x.role = 2 then ∃ r, x.released = e :: r ∧ ready e s = true ∧ t = s.setQueue q { x with released := r }
  else s.winner cls ready = some q.toNat ∧
    ∃ u : State, s.takeFront q = (u, some e) ∧ t = { u with rr := Tab.set 65535 u.rr (cls * 4 + x.prio.toNat) q.toNat }

/-- An entry has completed with a status and a result and without any other effect. -/
def State.refuses (t u : State) (e : Item) (status : BitVec 16) : Prop := u = t.complete e status

/-! ### The values of binary floating point (R87) -/

/-- Bits that encode a finite number. -/
def Fmt.finite (f : Fmt) (b : Nat) : Bool :=
  match f.decode false b with
  | .zero _ => true
  | .fin _ _ _ _ => true
  | _ => false

/-- The number that finite bits encode. -/
def Fmt.value (f : Fmt) (b : Nat) : ℚ :=
  match f.decode false b with
  | .fin s m e _ => (if s then -1 else 1) * (m : ℚ) * (2 : ℚ) ^ e
  | _ => 0

/-- Finite bits hold a real number rounded in the direction of R88: the nearest number of the format, a tie going to the even significand
(1, RNE) or away from zero (2, RMM); else the nearest one toward zero (3, RTZ), not above (4, RDN) or not below (5, RUP). -/
def Fmt.roundedTo (f : Fmt) (rm : Nat) (z : ℝ) (b : Nat) : Prop :=
  let r : ℝ := f.value b
  ∀ c, c < 2 ^ f.width → f.finite c = true →
    let y : ℝ := f.value c
    (rm = 1 → |r - z| ≤ |y - z| ∧ (|r - z| = |y - z| → y ≠ r → b % 2 = 0)) ∧
    (rm = 2 → |r - z| ≤ |y - z| ∧ (|r - z| = |y - z| → |y| ≤ |r|)) ∧
    (rm = 3 → 0 ≤ r * z ∧ |r| ≤ |z| ∧ (0 ≤ y * z → |y| ≤ |z| → |y| ≤ |r|)) ∧
    (rm = 4 → r ≤ z ∧ (y ≤ z → y ≤ r)) ∧
    (rm = 5 → z ≤ r ∧ (z ≤ y → r ≤ y))

end Sys2Proof.Machine
end

