-- ==== Sys2Proof/WellFormed.lean ====
section
/-! DEFINITION. Sys2Proof/WellFormed.lean: which terms of the syntax are commands that the block can receive: a sieve runs only what
the loader of its program lets through (R192), and lists have the lengths that the things they report have; and which
commands are instructions of a context. -/

namespace Sys2Proof

/-- Whether a context is the evaluator of a sieve. -/
def CtxId.isSieve : CtxId → Bool
  | .sieve _ => true
  | _ => false

/-- A sieve issues Svanen-S instructions only (R34, R39, R192), and no event of caches or memory is about one. -/
def Instr.ctxOk : Instr → Bool
  | .illegalEncoding x _ | .addhi x _ _ _ | .mul x _ _ _ | .mulh x _ _ _ | .mulhu x _ _ _ | .mulhsu x _ _ _ | .mulw x _ _ _ | .dsetup x _ _ _ |
    .dsetupu x _ _ _ | .dstep x _ _ | .dfix x _ _ | .lb x _ _ _ | .lh x _ _ _ | .lw x _ _ _ | .ld x _ _ _ | .lbu x _ _ _ |
    .lhu x _ _ _ | .lwu x _ _ _ | .ldf x _ _ _ | .lwf x _ _ _ | .sb x _ _ _ | .sh x _ _ _ | .sw x _ _ _ | .sd x _ _ _ |
    .sdf x _ _ _ | .swf x _ _ _ | .indexedLoad x _ _ _ _ _ | .indexedStore x _ _ _ _ _ | .cas x _ _ _ _ | .swap x _ _ _ _ |
    .aadd x _ _ _ _ | .aand x _ _ _ _ | .aor x _ _ _ _ | .axor x _ _ _ _ | .amin x _ _ _ _ | .amax x _ _ _ _ |
    .aminu x _ _ _ _ | .amaxu x _ _ _ _ | .lr x _ _ _ | .sc x _ _ _ _ | .pref1 x _ _ | .pref2 x _ _ | .clnA x _ _ |
    .invA x _ _ | .cliA x _ _ | .clnR x _ _ | .invR x _ _ | .cliR x _ _ | .clnSw x _ | .invSw x _ | .cliSw x _ |
    .lockfill x _ _ _ | .bl x _ _ | .jalr x _ _ _ | .fadd x _ _ _ _ _ | .fsub x _ _ _ _ _ | .fmul x _ _ _ _ _ |
    .fma x _ _ _ _ _ | .fms x _ _ _ _ _ | .fnma x _ _ _ _ _ | .fnms x _ _ _ _ _ | .fmin x _ _ _ _ | .fmax x _ _ _ _ |
    .fsgnj x _ _ _ _ | .fsgnjn x _ _ _ _ | .fsgnjx x _ _ _ _ | .fcvtsd x _ _ _ | .fcvtds x _ _ | .fcvtlf x _ _ _ _ |
    .fcvtluf x _ _ _ _ | .fcvtfl x _ _ _ _ | .fcvtflu x _ _ _ _ | .frint x _ _ _ _ | .fmvgf x _ _ _ | .fmvfg x _ _ _ |
    .feq x _ _ _ _ | .flt x _ _ _ _ | .fle x _ _ _ _ | .fclass x _ _ _ | .fdsetup x _ _ _ _ | .fdstep x _ _ _ |
    .fdfin x _ _ _ _ _ | .fssetup x _ _ _ | .fsstep x _ _ | .fsfin x _ _ _ _ | .dadd x _ _ _ | .dsub x _ _ _ |
    .dmul x _ _ _ | .dcmp x _ _ _ | .dneg x _ _ | .dshl x _ _ _ | .dshr x _ _ _ | .dshre x _ _ _ | .dshra x _ _ _ |
    .dtoi x _ _ | .itod x _ _ | .dval x _ _ | .sadd x _ _ _ _ | .saddu x _ _ _ _ | .ssub x _ _ _ _ | .ssubu x _ _ _ _ |
    .qmule x _ _ _ _ | .qmula x _ _ _ _ | .rshre x _ _ _ _ | .rshra x _ _ _ _ | .vadd x _ _ | .vsub x _ _ | .vmul x _ _ |
    .vmulh x _ _ | .vmin x _ _ | .vmax x _ _ | .vminu x _ _ | .vmaxu x _ _ | .vand x _ _ | .vor x _ _ | .vxor x _ _ |
    .vandn x _ _ | .vshl x _ _ | .vshr x _ _ | .vsar x _ _ | .viota x _ _ | .vsadd x _ _ | .vsaddu x _ _ | .vssub x _ _ |
    .vssubu x _ _ | .vqmule x _ _ | .vqmula x _ _ | .vrshre x _ _ | .vrshra x _ _ | .vsplat x _ _ | .vext x _ _ |
    .vins x _ _ | .vperm x _ _ | .vcomp x _ _ | .vradd x _ _ | .vrmin x _ _ | .vrmax x _ _ | .vfadd x _ _ | .vfsub x _ _ |
    .vfmul x _ _ | .vfma x _ _ | .vfmin x _ _ | .vfmax x _ _ | .vflt x _ _ | .vfle x _ _ | .vfeqD x _ | .vfeqS x _ |
    .vdadd x _ | .vdsub x _ | .vdmul x _ | .vdneg x _ | .vdshl x _ | .vdshr x _ | .vdshre x _ | .vdshra x _ | .vdwiden x _ |
    .vdnarrow x _ | .vdrsum x _ | .vdceq x _ | .vdclt x _ | .vdcle x _ | .vdval x _ | .vcmpeq x _ _ | .vcmpne x _ _ |
    .vcmplt x _ _ | .vcmpltu x _ _ | .vld x _ _ | .vst x _ _ | .vlds x _ _ | .vsts x _ _ | .vgath x _ _ | .vscat x _ _ |
    .vgathq x _ _ | .vscatq x _ _ | .srch x _ _ _ _ | .srchw x _ _ _ _ | .srcha x _ _ _ _ | .srchaw x _ _ _ _ |
    .lsend x _ _ _ | .lsendv x _ _ _ _ | .lsende x _ _ | .lstat x _ _ | .lrecv x _ _ _ | .lrecvv x _ _ _ _ |
    .mvgo x _ _ _ _ | .mvstat x _ | .mvwait x _ | .fence x _ | .ecall x | .brk x | .rett x | .wait x | .tlbinv x _ _ _ |
    .jend x _ | .csrr x _ _ | .csrw x _ _ _ | .csrs x _ _ _ | .csrc x _ _ _ | .missDataArrival x | .missingLoadReissue x |
    .demandMissFill x | .writeAcknowledge x => !x.isSieve
  | _ => true

/-- The number of lanes of a memory controller: ten of a DDR5 channel, 160 of an HBM stack (R394). -/
def lanesOf (n : Nat) : Nat := if n < 8 then 10 else 160

/-- Lists have the lengths of what they report: twelve controllers, 32 flash channels and their lanes (R288, R394), eight mailbox
words (R418), nine sensors (R457), a record that fits its bank (R435), block numbers of 28 bits (R291). -/
def Instr.dataOk : Instr → Bool
  | .recenterEnd n lanes => lanes.length == lanesOf n.val
  | .memoryTraining r => r.ctls.length == 12 && r.flash.length == 32
  | .mboxPost words => decide (words.length ≤ 8)
  | .limiterEval _ temps => temps.length == 9
  | .personalityRecordReceive body => decide (body.length ≤ 4076)
  | .formatComplete marked failed => (marked ++ failed).all fun b => decide (b < 2 ^ 28)
  | _ => true

/-- A well-formed command. -/
def Instr.wellFormed (i : Instr) : Bool := i.ctxOk && i.dataOk

/-- The context that issues an instruction; none for every other command. -/
def Instr.issuer : Instr → Option CtxId
  | .add x _ _ _ | .sub x _ _ _ | .andG x _ _ _ | .orG x _ _ _ | .xorG x _ _ _ | .andn x _ _ _ | .orn x _ _ _ | .xnor x _ _ _ |
    .shl x _ _ _ | .shr x _ _ _ | .sar x _ _ _ | .rol x _ _ _ | .ror x _ _ _ | .seq x _ _ _ | .sne x _ _ _ | .slt x _ _ _ |
    .sltu x _ _ _ | .sle x _ _ _ | .sleu x _ _ _ | .minG x _ _ _ | .maxG x _ _ _ | .minu x _ _ _ | .maxu x _ _ _ | .clz x _ _ |
    .ctz x _ _ | .popc x _ _ | .bswap x _ _ | .sextb x _ _ | .sexth x _ _ | .sextw x _ _ | .zexth x _ _ | .zextw x _ _ |
    .addw x _ _ _ | .subw x _ _ _ | .shlw x _ _ _ | .shrw x _ _ _ | .sarw x _ _ _ | .cmovnz x _ _ _ | .cmovz x _ _ _ | .addi x _ _ _ |
    .andi x _ _ _ | .ori x _ _ _ | .xori x _ _ _ | .slti x _ _ _ | .sltiu x _ _ _ | .shli x _ _ _ | .shri x _ _ _ | .sari x _ _ _ |
    .rori x _ _ _ | .lui x _ _ | .addhi x _ _ _ | .xli x _ _ | .xlih x _ _ _ | .xaddi x _ _ _ | .xandi x _ _ _ | .xori32 x _ _ _ |
    .xxori x _ _ _ | .xslti x _ _ _ | .xsltiu x _ _ _ | .illegalEncoding x _ | .mul x _ _ _ | .mulh x _ _ _ | .mulhu x _ _ _ |
    .mulhsu x _ _ _ | .mulw x _ _ _ | .dsetup x _ _ _ | .dsetupu x _ _ _ | .dstep x _ _ | .dfix x _ _ | .lb x _ _ _ | .lh x _ _ _ |
    .lw x _ _ _ | .ld x _ _ _ | .lbu x _ _ _ | .lhu x _ _ _ | .lwu x _ _ _ | .ldf x _ _ _ | .lwf x _ _ _ | .sb x _ _ _ | .sh x _ _ _ |
    .sw x _ _ _ | .sd x _ _ _ | .sdf x _ _ _ | .swf x _ _ _ | .indexedLoad x _ _ _ _ _ | .indexedStore x _ _ _ _ _ | .cas x _ _ _ _ |
    .swap x _ _ _ _ | .aadd x _ _ _ _ | .aand x _ _ _ _ | .aor x _ _ _ _ | .axor x _ _ _ _ | .amin x _ _ _ _ | .amax x _ _ _ _ |
    .aminu x _ _ _ _ | .amaxu x _ _ _ _ | .lr x _ _ _ | .sc x _ _ _ _ | .pref1 x _ _ | .pref2 x _ _ | .clnA x _ _ | .invA x _ _ |
    .cliA x _ _ | .clnR x _ _ | .invR x _ _ | .cliR x _ _ | .clnSw x _ | .invSw x _ | .cliSw x _ | .lockfill x _ _ _ | .beqz x _ _ _ |
    .bnez x _ _ _ | .bltz x _ _ _ | .bgez x _ _ _ | .bgtz x _ _ _ | .blez x _ _ _ | .bpany x _ _ _ | .bpnone x _ _ _ | .br x _ _ |
    .bl x _ _ | .jalr x _ _ _ | .fadd x _ _ _ _ _ | .fsub x _ _ _ _ _ | .fmul x _ _ _ _ _ | .fma x _ _ _ _ _ | .fms x _ _ _ _ _ |
    .fnma x _ _ _ _ _ | .fnms x _ _ _ _ _ | .fmin x _ _ _ _ | .fmax x _ _ _ _ | .fsgnj x _ _ _ _ | .fsgnjn x _ _ _ _ |
    .fsgnjx x _ _ _ _ | .fcvtsd x _ _ _ | .fcvtds x _ _ | .fcvtlf x _ _ _ _ | .fcvtluf x _ _ _ _ | .fcvtfl x _ _ _ _ |
    .fcvtflu x _ _ _ _ | .frint x _ _ _ _ | .fmvgf x _ _ _ | .fmvfg x _ _ _ | .feq x _ _ _ _ | .flt x _ _ _ _ | .fle x _ _ _ _ |
    .fclass x _ _ _ | .fdsetup x _ _ _ _ | .fdstep x _ _ _ | .fdfin x _ _ _ _ _ | .fssetup x _ _ _ | .fsstep x _ _ | .fsfin x _ _ _ _ |
    .dadd x _ _ _ | .dsub x _ _ _ | .dmul x _ _ _ | .dcmp x _ _ _ | .dneg x _ _ | .dshl x _ _ _ | .dshr x _ _ _ | .dshre x _ _ _ |
    .dshra x _ _ _ | .dtoi x _ _ | .itod x _ _ | .dval x _ _ | .sadd x _ _ _ _ | .saddu x _ _ _ _ | .ssub x _ _ _ _ |
    .ssubu x _ _ _ _ | .qmule x _ _ _ _ | .qmula x _ _ _ _ | .rshre x _ _ _ _ | .rshra x _ _ _ _ | .vadd x _ _ | .vsub x _ _ |
    .vmul x _ _ | .vmulh x _ _ | .vmin x _ _ | .vmax x _ _ | .vminu x _ _ | .vmaxu x _ _ | .vand x _ _ | .vor x _ _ | .vxor x _ _ |
    .vandn x _ _ | .vshl x _ _ | .vshr x _ _ | .vsar x _ _ | .viota x _ _ | .vsadd x _ _ | .vsaddu x _ _ | .vssub x _ _ |
    .vssubu x _ _ | .vqmule x _ _ | .vqmula x _ _ | .vrshre x _ _ | .vrshra x _ _ | .vsplat x _ _ | .vext x _ _ | .vins x _ _ |
    .vperm x _ _ | .vcomp x _ _ | .vradd x _ _ | .vrmin x _ _ | .vrmax x _ _ | .vfadd x _ _ | .vfsub x _ _ | .vfmul x _ _ |
    .vfma x _ _ | .vfmin x _ _ | .vfmax x _ _ | .vflt x _ _ | .vfle x _ _ | .vfeqD x _ | .vfeqS x _ | .vdadd x _ | .vdsub x _ |
    .vdmul x _ | .vdneg x _ | .vdshl x _ | .vdshr x _ | .vdshre x _ | .vdshra x _ | .vdwiden x _ | .vdnarrow x _ | .vdrsum x _ |
    .pand x _ _ _ | .por x _ _ _ | .pxor x _ _ _ | .pandn x _ _ _ | .pnot x _ _ | .pwhile x _ _ _ | .pcnt x _ _ | .pffs x _ _ |
    .pfromg x _ _ _ | .ptog x _ _ _ | .vdceq x _ | .vdclt x _ | .vdcle x _ | .vdval x _ | .vcmpeq x _ _ | .vcmpne x _ _ |
    .vcmplt x _ _ | .vcmpltu x _ _ | .vld x _ _ | .vst x _ _ | .vlds x _ _ | .vsts x _ _ | .vgath x _ _ | .vscat x _ _ |
    .vgathq x _ _ | .vscatq x _ _ | .srch x _ _ _ _ | .srchw x _ _ _ _ | .srcha x _ _ _ _ | .srchaw x _ _ _ _ | .lsend x _ _ _ |
    .lsendv x _ _ _ _ | .lsende x _ _ | .lstat x _ _ | .lrecv x _ _ _ | .lrecvv x _ _ _ _ | .mvgo x _ _ _ _ | .mvstat x _ |
    .mvwait x _ | .scmp x _ _ _ _ | .srng x _ _ _ | .snull x _ _ | .shdr x _ _ _ | .emit x _ | .sdone x | .nop x | .fence x _ |
    .ecall x | .brk x | .rett x | .wait x | .tlbinv x _ _ _ | .jend x _ | .csrr x _ _ | .csrw x _ _ _ | .csrs x _ _ _ |
    .csrc x _ _ _ => some x
  | _ => none

end Sys2Proof
end

