-- ==== Sys2Proof/Certificates/Slice0/Obligations.lean ====
section
/-! DEFINITION. Sys2Proof/Certificates/Slice0/Obligations.lean: the statements for the provers, family by family. In a statement about
an instruction, `s.start x wide` is the state in which its effect starts, once it has been fetched, and `t.finish x wide` the state
after it completes (Sys2Proof/Safety.lean). -/

open Sys2Proof Sys2Proof.Machine

/-- A step takes the command at the front of the queue, the model's interface, and is that command's meaning with the rest waiting. -/
def Obligations.StepRunsTheCommandAtTheFront : Prop :=
  ∀ (c : Instr) (q : List Instr) (s : State), step { s with pending := c :: q } = exec c { s with pending := q }

/-- An idle step is a nanosecond (log entry 8, the model's choice): Meridian counts with its trim (R28, R29) and never backwards, and the
search port gains budget (R214). -/
def Obligations.IdleStepCountsOneNanosecond : Prop :=
  ∀ s : State, s.pending = [] → s.pins.porN = true → s.ctl.porAt = none →
    ∃ t, step s = .next t ∧
      (s.trim = 0 → t.mer.ns = s.mer.ns + 1 ∧ t.mer.frac = s.mer.frac) ∧
      ((t.mer.ns ++ t.mer.frac : BitVec 96) = (s.mer.ns ++ s.mer.frac) + BitVec.ofInt 96 (2 ^ 32 + s.trim) ∧ 0 < 2 ^ 32 + s.trim) ∧
      t.spy.budget = min 160 (s.spy.budget + 4) ∧
      t.ctxs = s.ctxs ∧ t.execs = s.execs ∧ (∀ a, t.peek a = s.peek a) ∧ t.l2 = s.l2 ∧ t.queues = s.queues ∧ t.pending = []

/-- The reset state, where the spec gives it. -/
def Obligations.ResetGivesTheValuesOfTheTables : Prop :=
  let s := State.reset
  s.pending = [] ∧ s.mode = modeInit ∧ s.mer.ns = 0 ∧
  (∀ x, (s.ctx x).st = .free ∧ s.g x 0 = 0 ∧ s.p x 0 = BitVec.allOnes 128 ∧ s.xcsr x csrFcsr = 1 ∧ ∀ n, n ≠ csrFcsr → s.xcsr x n = 0) ∧
  (∀ a, s.reg a = regDefault a) ∧
  (s.booth 0).st = .active ∧ (∀ r, r < 8 → Tab.get 0 (s.booth 0).quota r = 0xFFFFFFFF#32) ∧
  (∀ b, b ≠ 0 → (s.booth b).st = .free) ∧
  (s.queue 0).exists_ = true ∧ (s.queue 0).cls = 0 ∧ (s.queue 0).bid = 0 ∧ ∀ q, q ≠ 0 → (s.queue q).exists_ = false

/-- The canonical form holds at reset. -/
def Obligations.ResetStateIsCanonical : Prop := State.reset.memWf ∧ State.reset.csrWf

/-- The canonical form of sparse state is an invariant of every step. -/
def Obligations.EveryStepKeepsTheCanonicalForm : Prop :=
  ∀ s t : State, s.memWf → s.csrWf → step s = .next t → t.memWf ∧ t.csrWf

/-- The integer instructions: two sources, one source (by what defines each result) and an immediate (R41, R43). -/
def Obligations.IntegerAndImmediateResults : Prop :=
  (∀ (x : CtxId) (rd a b : Reg5) (s : State), s.canIssue (ctxIdx x) profKES false false = true →
     let i := ctxIdx x
     let t := s.start i false
     let u := t.g i a.toNat
     let v := t.g i b.toNat
     let k := v.toNat % 64
     let k32 := v.toNat % 32
     let one (c : Bool) : W64 := if c then 1 else 0
     let sx (r : BitVec 32) : W64 := r.signExtend 64
     let u32 : BitVec 32 := u.setWidth 32
     let v32 : BitVec 32 := v.setWidth 32
     let w (r : W64) : Out := .next ((t.setG i rd.toNat r).finish i false)
     exec (.add x rd a b) s = w (u + v) ∧ exec (.sub x rd a b) s = w (u - v) ∧
     exec (.andG x rd a b) s = w (u &&& v) ∧ exec (.orG x rd a b) s = w (u ||| v) ∧ exec (.xorG x rd a b) s = w (u ^^^ v) ∧
     exec (.andn x rd a b) s = w (u &&& ~~~v) ∧ exec (.orn x rd a b) s = w (u ||| ~~~v) ∧ exec (.xnor x rd a b) s = w (~~~(u ^^^ v)) ∧
     exec (.shl x rd a b) s = w (u <<< k) ∧ exec (.shr x rd a b) s = w (u >>> k) ∧ exec (.sar x rd a b) s = w (u.sshiftRight k) ∧
     exec (.rol x rd a b) s = w ((u <<< k) ||| (u >>> (64 - k))) ∧ exec (.ror x rd a b) s = w ((u >>> k) ||| (u <<< (64 - k))) ∧
     exec (.seq x rd a b) s = w (one (u == v)) ∧ exec (.sne x rd a b) s = w (one (u != v)) ∧
     exec (.slt x rd a b) s = w (one (decide (u.toInt < v.toInt))) ∧ exec (.sltu x rd a b) s = w (one (decide (u.toNat < v.toNat))) ∧
     exec (.sle x rd a b) s = w (one (decide (u.toInt ≤ v.toInt))) ∧ exec (.sleu x rd a b) s = w (one (decide (u.toNat ≤ v.toNat))) ∧
     exec (.minG x rd a b) s = w (BitVec.ofInt 64 (min u.toInt v.toInt)) ∧ exec (.maxG x rd a b) s = w (BitVec.ofInt 64 (max u.toInt v.toInt)) ∧
     exec (.minu x rd a b) s = w (BitVec.ofNat 64 (min u.toNat v.toNat)) ∧ exec (.maxu x rd a b) s = w (BitVec.ofNat 64 (max u.toNat v.toNat)) ∧
     exec (.addw x rd a b) s = w (sx (u32 + v32)) ∧ exec (.subw x rd a b) s = w (sx (u32 - v32)) ∧
     exec (.shlw x rd a b) s = w (sx (u32 <<< k32)) ∧ exec (.shrw x rd a b) s = w (sx (u32 >>> k32)) ∧
     exec (.sarw x rd a b) s = w (sx (u32.sshiftRight k32)) ∧
     exec (.cmovnz x rd a b) s = (if v = 0 then .next (t.finish i false) else w u) ∧
     exec (.cmovz x rd a b) s = (if v = 0 then w u else .next (t.finish i false))) ∧
  (∀ (x : CtxId) (rd a : Reg5) (s : State), s.canIssue (ctxIdx x) profKES false false = true →
     let i := ctxIdx x
     let t := s.start i false
     let u := t.g i a.toNat
     let w (r : W64) : Out := .next ((t.setG i rd.toNat r).finish i false)
     (∃ r : W64, exec (.clz x rd a) s = w r ∧ r.toNat ≤ 64 ∧ u.toNat < 2 ^ (64 - r.toNat) ∧ (u ≠ 0 → 2 ^ (63 - r.toNat) ≤ u.toNat)) ∧
     (∃ r : W64, exec (.ctz x rd a) s = w r ∧ (∀ n, n < r.toNat → u.getLsbD n = false) ∧
       (u.getLsbD r.toNat = true ∨ (r = 64 ∧ u = 0))) ∧
     exec (.popc x rd a) s = w (BitVec.ofNat 64 ((List.range 64).countP fun n => u.getLsbD n)) ∧
     (∃ r : W64, exec (.bswap x rd a) s = w r ∧ ∀ n, n < 8 → r.extractLsb' (8 * n) 8 = u.extractLsb' (8 * (7 - n)) 8) ∧
     exec (.sextb x rd a) s = w ((u.setWidth 8).signExtend 64) ∧ exec (.sexth x rd a) s = w ((u.setWidth 16).signExtend 64) ∧
     exec (.sextw x rd a) s = w ((u.setWidth 32).signExtend 64) ∧
     exec (.zexth x rd a) s = w (u &&& 0xFFFF) ∧ exec (.zextw x rd a) s = w (u &&& 0xFFFFFFFF)) ∧
  (∀ (x : CtxId) (rd a : Reg5) (imm : BitVec 16) (n : BitVec 6) (imm32 : BitVec 32) (s : State),
     (s.canIssue (ctxIdx x) profKES false false = true →
       let i := ctxIdx x
       let t := s.start i false
       let u := t.g i a.toNat
       let m : W64 := imm.signExtend 64
       let w (r : W64) : Out := .next ((t.setG i rd.toNat r).finish i false)
       exec (.addi x rd a imm) s = w (u + m) ∧ exec (.andi x rd a imm) s = w (u &&& m) ∧ exec (.ori x rd a imm) s = w (u ||| m) ∧
       exec (.xori x rd a imm) s = w (u ^^^ m) ∧ exec (.slti x rd a imm) s = w (if u.toInt < m.toInt then 1 else 0) ∧
       exec (.sltiu x rd a imm) s = w (if u.toNat < m.toNat then 1 else 0) ∧
       exec (.shli x rd a n) s = w (u <<< n.toNat) ∧ exec (.shri x rd a n) s = w (u >>> n.toNat) ∧
       exec (.sari x rd a n) s = w (u.sshiftRight n.toNat) ∧ exec (.rori x rd a n) s = w ((u >>> n.toNat) ||| (u <<< (64 - n.toNat))) ∧
       exec (.lui x rd imm) s = w (m <<< 16)) ∧
     (s.canIssue (ctxIdx x) profKE false false = true →
       let i := ctxIdx x
       let t := s.start i false
       exec (.addhi x rd a imm) s = .next ((t.setG i rd.toNat (t.g i a.toNat + (imm.signExtend 64 : W64) <<< 16)).finish i false)) ∧
     (s.canIssue (ctxIdx x) profKES true true = true →
       let i := ctxIdx x
       let t := s.start i true
       let u := t.g i a.toNat
       let m : W64 := imm32.signExtend 64
       let w (r : W64) : Out := .next ((t.setG i rd.toNat r).finish i true)
       exec (.xli x rd imm32) s = w m ∧ exec (.xlih x rd a imm32) s = w ((u &&& 0xFFFFFFFF) ||| (imm32.setWidth 64 <<< 32)) ∧
       exec (.xaddi x rd a imm32) s = w (u + m) ∧ exec (.xandi x rd a imm32) s = w (u &&& m) ∧
       exec (.xori32 x rd a imm32) s = w (u ||| m) ∧ exec (.xxori x rd a imm32) s = w (u ^^^ m) ∧
       exec (.xslti x rd a imm32) s = w (if u.toInt < m.toInt then 1 else 0) ∧
       exec (.xsltiu x rd a imm32) s = w (if u.toNat < m.toNat then 1 else 0)))

/-- Multiplication (R82) and the division instructions (R83, R84). -/
def Obligations.MultiplyAndDivisionStepResults : Prop :=
  ∀ (x : CtxId) (rd a b : Reg5) (s : State), s.canIssue (ctxIdx x) profKE false false = true →
    let i := ctxIdx x
    let t := s.start i false
    let u := t.g i a.toNat
    let v := t.g i b.toNat
    let len (m : Nat) : Nat := if m = 0 then 1 else Nat.log2 m + 1
    let w (m sealed : Nat) (r : W64) : Out := .next (((t.setTime i (2 + (len m + 15) / 16) sealed).setG i rd.toNat r).finish i false)
    let low : BitVec 32 := v.setWidth 32
    let pair (r : Reg5) : Bool := r.toNat % 2 == 0 && r != 0
    let inPair (r : Reg5) : Bool := decide (r.toNat = rd.toNat) || decide (r.toNat = rd.toNat + 1)
    let put (t : State) (q r : W64) : Out := .next (((t.setG i rd.toNat q).setG i (rd.toNat + 1) r).finish i false)
    let bad (w : BitVec 32) : Out := .next (t.takeTrap i (trapIllegal w))
    let dcsr := t.xcsr i csrDcsr
    let setup (signed : Bool) (c : Instr) (w : BitVec 32) : Prop :=
      if pair rd && !inPair b then
        let q : W64 := if signed && u.slt 0 then 0 - u else u
        let dz (d : W64) : W64 := if v = 0 then setBit d 0 true else d
        let d := setBit (setBit (setBit (dz dcsr) 16 signed) 17 (signed && v != 0 && (u.slt 0 != v.slt 0))) 18 (signed && u.slt 0)
        exec c s = (if v = 0 ∧ bitAt dcsr 8 = true then .next ((t.setXcsr i csrDcsr (setBit dcsr 0 true)).takeTrap i { code := 0x09 })
          else put ((if v = 0 then t.setXcsr i csrDcsr (setBit dcsr 0 true) else t).setXcsr i csrDcsr d) q 0)
      else exec c s = bad w
    exec (.mul x rd a b) s = w v.toInt.natAbs 6 (BitVec.ofInt 64 (u.toInt * v.toInt)) ∧
    exec (.mulh x rd a b) s = w v.toInt.natAbs 6 ((u.signExtend 128 * v.signExtend 128).extractLsb' 64 64) ∧
    exec (.mulhu x rd a b) s = w v.toNat 6 ((u.setWidth 128 * v.setWidth 128).extractLsb' 64 64) ∧
    exec (.mulhsu x rd a b) s = w v.toNat 6 ((u.signExtend 128 * v.setWidth 128).extractLsb' 64 64) ∧
    exec (.mulw x rd a b) s = w low.toInt.natAbs 4 (((u.setWidth 32 * low : BitVec 32)).signExtend 64) ∧
    setup true (.dsetup x rd a b) (encA 0x03 rd a b 0) ∧ setup false (.dsetupu x rd a b) (encA 0x03 rd a b 1) ∧
    (if pair rd && !inPair b then
      let q := t.g i rd.toNat
      let d := if bitAt dcsr 16 then v.toInt.natAbs else v.toNat
      let m := (t.g i (rd.toNat + 1)).toNat * 4 + q.toNat / 2 ^ 62
      ∃ k, k ≤ 3 ∧ k * d ≤ m ∧ (k < 3 → m < (k + 1) * d) ∧
        exec (.dstep x rd b) s = put t ((q <<< 2) ||| BitVec.ofNat 64 k) (BitVec.ofNat 64 (m - k * d))
     else exec (.dstep x rd b) s = bad (encA 0x03 rd 0 b 2)) ∧
    (if pair rd && pair a then
      let r := t.g i (a.toNat + 1)
      exec (.dfix x rd a) s = put t (if bitAt dcsr 17 then 0 - u else u) (if bitAt dcsr 18 then 0 - r else r)
     else exec (.dfix x rd a) s = bad (encA 0x03 rd a 0 3))

/-- A division by its whole sequence (R85). -/
def Obligations.DivisionSequenceDivides : Prop :=
  ∀ (x : CtxId) (signed : Bool) (rd rs1 rs2 dst : Reg5) (st : Nat → State) (a b : W64),
    let i := ctxIdx x
    rd.toNat % 2 = 0 → rd ≠ 0 → dst.toNat % 2 = 0 → dst ≠ 0 → rs2 ≠ rd → rs2.toNat ≠ rd.toNat + 1 →
    (st 0).g i rs1.toNat = a → (st 0).g i rs2.toNat = b → (b = 0 → bitAt ((st 0).xcsr i csrDcsr) 8 = false) →
    (∀ k, k < 34 → (st k).canIssue i profKE false false = true) →
    exec (if signed then .dsetup x rd rs1 rs2 else .dsetupu x rd rs1 rs2) (st 0) = .next (st 1) →
    (∀ k, 1 ≤ k → k ≤ 32 → exec (.dstep x rd rs2) (st k) = .next (st (k + 1))) →
    exec (.dfix x dst rd) (st 33) = .next (st 34) →
    let q := (st 34).g i dst.toNat
    let r := (st 34).g i (dst.toNat + 1)
    if b = 0 then q = BitVec.allOnes 64 ∧ r = a ∧ bitAt ((st 34).xcsr i csrDcsr) 0 = true
    else if signed then q = BitVec.ofInt 64 (a.toInt.tdiv b.toInt) ∧ r = BitVec.ofInt 64 (a.toInt.tmod b.toInt)
    else q = BitVec.ofNat 64 (a.toNat / b.toNat) ∧ r = BitVec.ofNat 64 (a.toNat % b.toNat)

/-- What the fetch keeps. -/
def Obligations.FetchKeepsTheRegisters : Prop :=
  ∀ (s : State) (x : Nat) (wide : Bool),
    let t := s.start x wide
    (∀ y, { t.ctx y with async := none, lastTime := 0, ibuf := none } = { s.ctx y with async := none, lastTime := 0, ibuf := none }) ∧
    (∀ y, y ≠ x → (t.ctx y).lastTime = (s.ctx y).lastTime ∧ (t.ctx y).ibuf = (s.ctx y).ibuf) ∧
    (∀ u, (t.exe u).sb = (s.exe u).sb ∧ (t.exe u).side = (s.exe u).side ∧ ∀ l ∈ ((t.exe u).l1d : List (Nat × Nat)), l ∈ ((s.exe u).l1d : List (Nat × Nat))) ∧
    t.pending = s.pending ∧ t.spy = s.spy ∧ t.alm = s.alm ∧ t.queues = s.queues ∧ t.booths = s.booths ∧ t.jobs = s.jobs ∧
    t.orr.thr = s.orr.thr

/-- The frame of the scalar register forms. -/
def Obligations.RegisterInstructionsKeepTheRest : Prop :=
  ∀ (x : CtxId) (rd a b : Reg5) (imm : BitVec 16) (n : BitVec 6) (imm32 : BitVec 32) (ew : BitVec 2) (s t : State),
    let i := ctxIdx x
    (∀ c ∈ [Instr.add x rd a b, .sub x rd a b, .andG x rd a b, .orG x rd a b, .xorG x rd a b, .andn x rd a b, .orn x rd a b,
        .xnor x rd a b, .shl x rd a b, .shr x rd a b, .sar x rd a b, .rol x rd a b, .ror x rd a b, .seq x rd a b, .sne x rd a b,
        .slt x rd a b, .sltu x rd a b, .sle x rd a b, .sleu x rd a b, .minG x rd a b, .maxG x rd a b, .minu x rd a b, .maxu x rd a b,
        .clz x rd a, .ctz x rd a, .popc x rd a, .bswap x rd a, .sextb x rd a, .sexth x rd a, .sextw x rd a, .zexth x rd a,
        .zextw x rd a, .addw x rd a b, .subw x rd a b, .shlw x rd a b, .shrw x rd a b, .sarw x rd a b, .cmovnz x rd a b,
        .cmovz x rd a b, .addi x rd a imm, .andi x rd a imm, .ori x rd a imm, .xori x rd a imm, .slti x rd a imm, .sltiu x rd a imm,
        .shli x rd a n, .shri x rd a n, .sari x rd a n, .rori x rd a n, .lui x rd imm],
      s.canIssue i profKES false false = true → s.quiet i false → exec c s = .next t →
        s.keeps t i [.g rd.toNat] [] ∧ s.keepsMemory t i) ∧
    (∀ c ∈ [Instr.xli x rd imm32, .xlih x rd a imm32, .xaddi x rd a imm32, .xandi x rd a imm32, .xori32 x rd a imm32,
        .xxori x rd a imm32, .xslti x rd a imm32, .xsltiu x rd a imm32],
      s.canIssue i profKES true true = true → s.quiet i true → exec c s = .next t →
        s.keeps t i [.g rd.toNat] [] ∧ s.keepsMemory t i) ∧
    (∀ c ∈ [Instr.addhi x rd a imm, .mul x rd a b, .mulh x rd a b, .mulhu x rd a b, .mulhsu x rd a b, .mulw x rd a b],
      s.canIssue i profKE false false = true → s.quiet i false → exec c s = .next t →
        s.keeps t i [.g rd.toNat] [] ∧ s.keepsMemory t i) ∧
    (rd.toNat % 2 = 0 → rd ≠ 0 → b ≠ rd → b.toNat ≠ rd.toNat + 1 → a.toNat % 2 = 0 → a ≠ 0 →
      bitAt (s.xcsr i csrDcsr) 8 = false →
      ∀ c ∈ [Instr.dsetup x rd a b, .dsetupu x rd a b, .dstep x rd b, .dfix x rd a],
      s.canIssue i profKE false false = true → s.quiet i false → exec c s = .next t →
        s.keeps t i [.g rd.toNat, .g (rd.toNat + 1)] [csrDcsr] ∧ s.keepsMemory t i) ∧
    (fld (s.xcsr i csrDcsr) 9 2 = 0 →
      ∀ c ∈ [Instr.dadd x rd a b, .dsub x rd a b, .dmul x rd a b, .dcmp x rd a b, .dneg x rd a, .dshl x rd a b, .dshr x rd a b,
        .dshre x rd a b, .dshra x rd a b, .dtoi x rd a, .itod x rd a, .dval x rd a],
      s.canIssue i profKE false false = true → s.quiet i false → exec c s = .next t →
        s.keeps t i [.g rd.toNat] [csrDcsr] ∧ s.keepsMemory t i) ∧
    (∀ c ∈ [Instr.sadd x ew rd a b, .saddu x ew rd a b, .ssub x ew rd a b, .ssubu x ew rd a b, .qmule x ew rd a b,
        .qmula x ew rd a b, .rshre x ew rd a b, .rshra x ew rd a b],
      s.canIssue i profE false false = true → s.quiet i false → exec c s = .next t →
        s.keeps t i [.g rd.toNat] [csrDcsr] ∧ s.keepsMemory t i)

/-- Branches (R52, R53) and JALR (R56). -/
def Obligations.BranchesSetTheirSlotAndTarget : Prop :=
  ∀ (x : CtxId) (annul : Bool) (rs rd : Reg5) (p : Pred3) (off : BitVec 20) (imm : BitVec 16) (s : State),
    let i := ctxIdx x
    let t := s.start i false
    let pc := (t.ctx i).r.pc
    let v := t.g i rs.toNat
    let goes (c : Instr) (t : State) (taken a : Bool) (target : W64) (dst : List Loc) : Prop :=
      ∃ u, exec c s = .next u ∧ (u.ctx i).r.pc = pc + 4 ∧ (u.ctx i).r.slot = true ∧
        (u.ctx i).r.npc = (if taken then target else pc + 8) ∧ (u.ctx i).r.annul = (a && !taken) ∧
        t.keeps u i dst [] ∧ t.keepsMemory u i
    let target := pc + (off.signExtend 64 * 4)
    (s.canIssue i profKES true false = true →
      goes (.beqz x annul rs off) t (decide (v.toInt = 0)) annul target [] ∧
      goes (.bnez x annul rs off) t (decide (v.toInt ≠ 0)) annul target [] ∧
      goes (.bltz x annul rs off) t (decide (v.toInt < 0)) annul target [] ∧
      goes (.bgez x annul rs off) t (decide (0 ≤ v.toInt)) annul target [] ∧
      goes (.bgtz x annul rs off) t (decide (0 < v.toInt)) annul target [] ∧
      goes (.blez x annul rs off) t (decide (v.toInt ≤ 0)) annul target [] ∧
      goes (.br x annul off) t true annul target []) ∧
    (s.canIssue i profES true false = true →
      goes (.bpany x annul p off) t (t.p i p.toNat != 0) annul target [] ∧
      goes (.bpnone x annul p off) t (t.p i p.toNat == 0) annul target []) ∧
    (s.canIssue i profKE true false = true →
      goes (.bl x annul off) t true annul target [.g 31] ∧
      (∀ u, exec (.bl x annul off) s = .next u → u.g i 31 = pc + 8) ∧
      (let dest := v + imm.signExtend 64
       if dest.toNat % 4 = 0 then
         goes (.jalr x rd rs imm) t true false dest [.g rd.toNat] ∧
         ∀ u, exec (.jalr x rd rs imm) s = .next u → rd ≠ 0 → u.g i rd.toNat = pc + 8
       else exec (.jalr x rd rs imm) s = .next (t.takeTrap i { code := 0x05, val := dest })))

/-- A squashed delay slot (R55). -/
def Obligations.SquashedSlotDoesNothing : Prop :=
  ∀ (c : Instr) (x : CtxId) (s : State), c.issuer = some x →
    let i := ctxIdx x
    ((s.ctx i).st = .ready ∨ (s.ctx i).st = .runAhead) → (s.ctx i).r.annul = true → (∀ e, (s.ctx i).epi = some e → e.ended = false) →
    (i < 2112 → s.stopped (domOf (unitOf i)) = false) →
    (isEng i = true → (s.job (s.ctx i).job).live = true → (s.job (s.ctx i).job).fault = none) →
    ∃ t, exec c s = .next t ∧
      t.ctx i = { s.ctx i with r := { (s.ctx i).r with pc := (s.ctx i).r.npc, npc := (s.ctx i).r.npc + 4, slot := false, annul := false } } ∧
      (∀ y, y ≠ i → t.ctx y = s.ctx y) ∧ (∀ u, { t.exe u with ptr := 0 } = { s.exe u with ptr := 0 }) ∧ t.mem = s.mem ∧ t.reg (Reg.oePmc (unitOf i) 2) = s.reg (Reg.oePmc (unitOf i) 2) ∧
      (∀ a, (∀ n, n < 16 → a ≠ Reg.oePmc (unitOf i) n) → t.reg a = s.reg a) ∧ s.sameBeyond t

/-- What a delay slot may not hold (R54). -/
def Obligations.SlotRefusesControlTransfers : Prop :=
  ∀ (x : CtxId) (annul : Bool) (rd rs : Reg5) (p : Pred3) (off : BitVec 20) (imm : BitVec 16) (imm32 : BitVec 32) (s : State),
    let i := ctxIdx x
    x.isSieve = false → (s.ctx i).st = .ready → (s.ctx i).epi = none → (s.ctx i).async = none → (s.ctx i).r.annul = false →
    (s.ctx i).r.slot = true → s.stopped (domOf (unitOf i)) = false →
    (isEng i = true → (s.job (s.ctx i).job).live = true → (s.job (s.ctx i).job).fault = none) →
    let slot (wide : Bool) (c : Instr) : Prop :=
      (∃ m, ((s.turn i).fetch i wide).2 = .ok m) →
      ∃ (t : State) (w : BitVec 32), t = ((s.turn i).fetch i wide).1 ∧ (t.ctx i).r = (s.ctx i).r ∧
        exec c s = .next (t.takeTrapAt i { code := 0x02, val := w.setWidth 64 } false (s.ctx i).r.pc (s.ctx i).r.npc)
    (∀ c ∈ [Instr.beqz x annul rs off, .bnez x annul rs off, .bltz x annul rs off, .bgez x annul rs off, .bgtz x annul rs off,
        .blez x annul rs off, .br x annul off, .bl x annul off, .jalr x rd rs imm, .rett x, .ecall x, .brk x], slot false c) ∧
    (∀ c ∈ [Instr.xli x rd imm32, .xlih x rd rs imm32, .xaddi x rd rs imm32, .xandi x rd rs imm32, .xori32 x rd rs imm32,
        .xxori x rd rs imm32, .xslti x rd rs imm32, .xsltiu x rd rs imm32], slot true c) ∧
    (isEng i = true → ∀ c ∈ [Instr.bpany x annul p off, .bpnone x annul p off, .jend x rs], slot false c)

/-- Trap entry and return on a control core (R61–R66). -/
def Obligations.CoreTrapEntryAndReturn : Prop :=
  ∀ (h : Fin 64) (w : BitVec 32) (s : State),
    let x := CtxId.ht h
    let i := ctxIdx x
    let t := s.start i false
    let c := t.ctx i
    let entered (code : Nat) (val epc enpc : W64) (ds : Bool) (u : State) : Prop :=
      let toK := c.priv != .m && bitAt (t.xcsr i csrKroute) code
      let b := if toK then csrKstat else csrMstat
      let other := if toK then csrMstat else csrKstat
      u.xcsr i (b + 2) = epc &&& ~~~3#64 ∧ u.xcsr i (b + 3) = enpc &&& ~~~3#64 ∧ u.xcsr i (b + 4) = BitVec.ofNat 64 code ∧
      u.xcsr i (b + 5) = val ∧
      bitAt (u.xcsr i b) 0 = false ∧ bitAt (u.xcsr i b) 1 = bitAt (t.xcsr i b) 0 ∧ fld (u.xcsr i b) 2 2 = privCode c.priv ∧
      bitAt (u.xcsr i b) 4 = ds ∧ bitAt (u.xcsr i b) 6 = false ∧ bitAt (u.xcsr i b) 7 = false ∧
      bitAt (u.xcsr i b) 8 = bitAt (t.xcsr i b) 8 ∧
      (u.ctx i).priv = (if toK then .k else .m) ∧ (u.ctx i).r.resv = none ∧ (u.ctx i).st = .ready ∧
      (u.ctx i).r.pc = (t.xcsr i (b + 1) &&& ~~~63#64) ∧ (u.ctx i).r.npc = (u.ctx i).r.pc + 4 ∧ (u.ctx i).r.slot = false ∧
      (∀ n, u.g i n = t.g i n) ∧ (∀ n, n < 6 → u.xcsr i (other + n) = t.xcsr i (other + n))
    (s.canIssue i profKE true false = true →
      (∃ u, exec (.ecall x) s = .next u ∧ entered 0x10 0 c.r.npc (c.r.npc + 4) false u ∧ (u.ctx i).instret = c.instret + 1) ∧
      (∃ u, exec (.brk x) s = .next u ∧ entered 0x11 0 c.r.npc (c.r.npc + 4) false u ∧ (u.ctx i).instret = c.instret + 1) ∧
      (c.priv = .u → exec (.rett x) s = .next (t.takeTrap i { code := 0x03, val := 0xE0000100 })) ∧
      (c.priv ≠ .u →
        let b := if c.priv = .k then csrKstat else csrMstat
        ∃ u, exec (.rett x) s = .next u ∧ (u.ctx i).r.pc = t.xcsr i (b + 2) ∧ (u.ctx i).r.npc = t.xcsr i (b + 3) ∧
          ((u.ctx i).r.slot = true ↔ t.xcsr i (b + 3) ≠ t.xcsr i (b + 2) + 4) ∧ (u.ctx i).r.annul = false ∧
          bitAt (u.xcsr i b) 0 = bitAt (t.xcsr i b) 1 ∧ (∀ n, 0 < n → n < 64 → bitAt (u.xcsr i b) n = bitAt (t.xcsr i b) n) ∧
          (u.ctx i).priv = privOf (fld (t.xcsr i b) 2 2) ∧ (∀ n, u.g i n = t.g i n) ∧
          (∀ n, n ≠ b → u.xcsr i n = t.xcsr i n))) ∧
    (s.canIssue i profKE false false = true →
      ∃ u, exec (.illegalEncoding x w) s = .next u ∧ entered 0x01 (w.setWidth 64) c.r.pc c.r.npc c.r.slot u ∧
        (u.ctx i).instret = c.instret)

/-- Traps of an engine context (R67). -/
def Obligations.EngineTrapGoesToTheHandlerOrFaults : Prop :=
  ∀ (sl : Fin 8) (e k : Fin 16) (w : BitVec 32) (s : State),
    let x := CtxId.eng sl e k
    let i := ctxIdx x
    let t := s.start i false
    let c := t.ctx i
    let inh := bitAt (t.xcsr i csrUstat) 5
    let handled := bitAt (t.xcsr i csrUtvec) 0 && !inh
    let trapped (c : Instr) (code : Nat) (val epc enpc : W64) (ds : Bool) : Prop :=
      (handled = true → ∃ u, exec c s = .next u ∧ u.xcsr i csrUepc = epc &&& ~~~3#64 ∧ u.xcsr i csrUenpc = enpc &&& ~~~3#64 ∧
        u.xcsr i csrUcause = BitVec.ofNat 64 code ∧ u.xcsr i csrUval = val ∧ bitAt (u.xcsr i csrUstat) 4 = ds ∧
        bitAt (u.xcsr i csrUstat) 5 = true ∧ (u.ctx i).st = .ready ∧ (u.ctx i).r.resv = none ∧
        (u.ctx i).r.pc = (t.xcsr i csrUtvec &&& ~~~63#64) ∧ (u.ctx i).r.npc = (u.ctx i).r.pc + 4 ∧ (u.ctx i).r.slot = false ∧
        (u.ctx i).job = (t.ctx i).job ∧ (∀ n, u.g i n = t.g i n)) ∧
      (handled = false → (t.exe (unitOf i)).sb = [] → (t.ctx i).log = [] → (t.job (t.ctx i).job).live = false →
        ∃ u, exec c s = .next u ∧ (u.ctx i).st = .faulted ∧ u.reg (Reg.oeTrapEpc (unitOf i) (i % 16)) = epc ∧
          u.reg (Reg.oeTrapEnpc (unitOf i) (i % 16)) = enpc ∧ u.reg (Reg.oeTrapVal (unitOf i) (i % 16)) = val ∧
          u.reg (Reg.oeTrapCause (unitOf i) (i % 16)) = BitVec.ofNat 64 code ∧
          bitAt (u.reg (Reg.oeCtxState (unitOf i) (i % 16))) 3 = true) ∧
      (handled = false → (t.job (t.ctx i).job).live = true → (t.job (t.ctx i).job).fault = none →
        ∃ u, exec c s = .next u ∧ (u.job (t.ctx i).job).fault = some ((t.ctx i).stage, if inh then 0x0441 else 0x0440))
    (s.canIssue i profKE true false = true →
      trapped (.ecall x) 0x10 0 c.r.npc (c.r.npc + 4) false ∧ trapped (.brk x) 0x11 0 c.r.npc (c.r.npc + 4) false ∧
      (inh = true → ∃ u, exec (.rett x) s = .next u ∧ (u.ctx i).r.pc = t.xcsr i csrUepc ∧ (u.ctx i).r.npc = t.xcsr i csrUenpc ∧
        ((u.ctx i).r.slot = true ↔ t.xcsr i csrUenpc ≠ t.xcsr i csrUepc + 4) ∧ bitAt (u.xcsr i csrUstat) 5 = false ∧
        ∀ n, u.g i n = t.g i n) ∧
      (inh = false → trapped (.rett x) 0x01 0xE0000100 c.r.pc c.r.npc c.r.slot)) ∧
    (s.canIssue i profKE false false = true → trapped (.illegalEncoding x w) 0x01 (w.setWidth 64) c.r.pc c.r.npc c.r.slot)

/-- The system instructions but traps and returns (R58). -/
def Obligations.SystemInstructionsComplete : Prop :=
  ∀ (x : CtxId) (h : Fin 64) (arg : BitVec 6) (a2 : BitVec 2) (rs1 rs2 : Reg5) (s : State),
    let i := ctxIdx x
    let t := s.start i false
    let u := unitOf i
    let orders := arg.getLsbD 5 || arg.getLsbD 4 || (arg.getLsbD 1 && (arg.getLsbD 2 || arg.getLsbD 3))
    (s.canIssue i profKES false false = true → exec (.nop x) s = .next (t.finish i false)) ∧
    (s.canIssue i profKE false false = true →
      ∃ f : State, (orders = true → (f.exe u).sb = []) ∧ (arg.getLsbD 5 = true → (f.exe u).l1i = []) ∧
        (arg.getLsbD 4 = true → (f.ctx i).log = []) ∧ (orders = false → f = t) ∧ (∀ n, f.g i n = t.g i n) ∧
        exec (.fence x arg) s = (if arg.getLsbD 4 = true ∧ (f.ctx i).acks ≠ 0
          then .next (f.setCtx i { f.ctx i with st := .waitMem, wait := .ack }) else .next (f.finish i false))) ∧
    (s.canIssue i profK false false = true →
      ((t.ctx i).priv = .u →
        exec (.wait x) s = .next (t.takeTrap i { code := 0x03, val := 0xE0000140 }) ∧
        ∃ w : BitVec 32, exec (.tlbinv x a2 rs1 rs2) s = .next (t.takeTrap i { code := 0x03, val := w.setWidth 64 })) ∧
      ((t.ctx i).priv ≠ .u →
        let f := t.finish i false
        exec (.wait x) s = .next (if (f.ctx i).async.isSome || (f.htOffer (i - 2048)).isSome then f
          else f.setCtx i { f.ctx i with st := .waitUnit, wait := .wfi }) ∧
        ∃ v : State, let k := coreOf i
          let asid : BitVec 16 := (t.g i rs2.toNat).setWidth 16
          exec (.tlbinv x a2 rs1 rs2) s = .next v ∧ (v.exe u).sb = [] ∧
          (∀ e, e ∈ Tab.get [] v.tlb k ↔ e ∈ Tab.get [] t.tlb k ∧
            ((a2.getLsbD 0 = false ∧ e.asid ≠ asid ∧ bitAt e.entry 3 = false) ∨
             (a2.getLsbD 1 = false ∧ (t.g i rs1.toNat).toNat / pageSize e.level ≠ e.vpn))) ∧
          (∀ j, j ≠ k → Tab.get [] v.tlb j = Tab.get [] t.tlb j) ∧ ∀ n, v.g i n = t.g i n)) ∧
    (isEng i = true → s.canIssue i profKE false false = true →
      let f := ((s.turn i).fetch i false).1
      exec (.wait x) s = .next (f.takeTrap i { code := 0x03, val := 0xE0000140 }) ∧
      ∃ w : BitVec 32, exec (.tlbinv x a2 rs1 rs2) s = .next (f.takeTrap i { code := 0x03, val := w.setWidth 64 })) ∧
    (let y := 2048 + h.val;
      exec (.waitResume h) s = .next (if (s.ctx y).wait = .wfi ∧ ((s.ctx y).async.isSome || (s.htOffer h.val).isSome) = true
        then s.setCtx y { s.ctx y with st := .ready, wait := .none } else s)) ∧
    (s.canIssue i profE true false = true →
      let f := t.ctxFence i
      let c := f.ctx i
      c.log = [] ∧ (f.exe u).sb = [] ∧
      (c.acks ≠ 0 → exec (.jend x rs1) s = .next (f.setCtx i { c with st := .waitMem, wait := .jend (t.g i rs1.toNat) })) ∧
      (c.acks = 0 → ∃ v, exec (.jend x rs1) s = .next v ∧ (v.ctx i).st = .drain ∧ (v.ctx i).instret = c.instret + 1 ∧
        (c.stage < (f.job c.job).stages.length →
          ((v.job c.job).stageOf c.stage).ended = true ∧ ((v.job c.job).stageOf c.stage).jend = t.g i rs1.toNat) ∧
        ∀ l ∈ (v.job c.job).links, l.dst = c.stage → l.buf = []))

/-- Context CSRs (R59, R60). -/
def Obligations.ContextCsrAccesses : Prop :=
  ∀ (x : CtxId) (rd rs1 : Reg5) (num : BitVec 12) (s : State), s.canIssue (ctxIdx x) profKE false false = true →
    let i := ctxIdx x
    let t := s.start i false
    let c := t.ctx i
    let n := num.toNat
    let both := [0x000, 0x001, 0x302, 0x303, 0x304]
    let eng := [0x002, 0x003, 0x010, 0x011, 0x012, 0x013, 0x014, 0x015, 0x016, 0x300, 0x301]
    let core := [0x400, 0x401, 0x402, 0x403, 0x404, 0x405, 0x406, 0x410, 0x700, 0xC00, 0xC01, 0xC02, 0xC03, 0xC04, 0xC05, 0xC06, 0xC07]
    let known := n ∈ both ∨ (if isEng i then n ∈ eng else n ∈ core)
    let low : Nat := if 0xC00 ≤ n then 3 else if 0x400 ≤ n then 1 else 0
    let ro := (0x300 ≤ n ∧ n ≤ 0x304) ∨ n = 0x700
    let old := t.csrGet i n
    let traps (c : Instr) (code : Nat) : Prop := ∃ w : BitVec 32, exec c s = .next (t.takeTrap i { code := code, val := w.setWidth 64 })
    let reads (c : Instr) (f : Option (W64 → W64)) : Prop :=
      if ¬known then traps c 0x01
      else if isEng i = false ∧ privCode (t.ctx i).priv < low then traps c 0x03
      else if ro ∧ f.isSome then traps c 0x01
      else ∃ v : State, exec c s = .next (v.finish i false) ∧ (rd ≠ 0 → v.g i rd.toNat = old) ∧ (∀ r, r ≠ rd.toNat → v.g i r = t.g i r) ∧
        (∀ m, m ≠ n → v.xcsr i m = t.xcsr i m) ∧
        v.xcsr i n = (match f with
          | none => t.xcsr i n
          | some f => if n = 0x003 ∧ t.classT i = true then t.xcsr i n
            else (t.xcsr i n &&& ~~~(csrMask n)) ||| (f old &&& csrMask n))
    let r := t.g i rs1.toNat
    reads (.csrr x rd num) none ∧ reads (.csrw x rd rs1 num) (some fun _ => r) ∧
    reads (.csrs x rd rs1 num) (some fun o => o ||| r) ∧ reads (.csrc x rd rs1 num) (some fun o => o &&& ~~~r) ∧
    (n = 0x300 → isEng i = true → fld old 0 4 = i % 16 ∧ fld old 4 4 = i / 16 % 16 ∧ fld old 8 3 = i / 256 ∧
      (bitAt old 11 = true ↔ t.classC i = true) ∧ fld old 12 4 = 0 ∧ fld old 16 12 = c.bid.toNat ∧ fld old 28 36 = 0) ∧
    (n = 0x301 → fld old 0 32 = c.seq.toNat ∧ fld old 32 16 = c.qid.toNat ∧ fld old 48 16 = 0) ∧
    (n = 0x302 → old = t.mer.ns + BitVec.ofInt 64 (Tab.get 0 t.mer.isl (if isEng i then i / 256 else 8))) ∧ (n = 0x304 → old = c.instret) ∧
    (n = 0x700 → isEng i = false → fld old 0 6 = i - 2048 ∧ fld old 6 2 = (i - 2048) % 4 ∧ fld old 8 4 = (i - 2048) / 4 ∧ fld old 12 52 = 0) ∧
    (n = 0x401 ∨ n = 0xC01 → old = t.xcsr i n ||| 1) ∧ (n = 0x003 → t.classT i = true → old = 0) ∧
    (n ∈ [0x000, 0x001, 0x002, 0x010, 0x011, 0x012, 0x013, 0x014, 0x015, 0x016, 0x400, 0x402, 0x403, 0x404, 0x405, 0x406, 0x410, 0xC00,
      0xC02, 0xC03, 0xC04, 0xC05, 0xC06, 0xC07] → old = t.xcsr i n)

/-- Scalar loads (R45, R47). -/
def Obligations.LoadsReturnTheBytesInForce : Prop :=
  ∀ (x : CtxId) (bop : BitVec 4) (sc : BitVec 2) (rt rb ri : Reg5) (disp : BitVec 12) (s : State),
    s.canIssue (ctxIdx x) profKE false false = true →
    let i := ctxIdx x
    let un := unitOf i
    let d := domOf un
    let t := s.start i false
    let at_ (k : Nat) : W64 := t.g i rb.toNat + disp.signExtend 64 * BitVec.ofNat 64 k
    let ix : W64 := t.g i rb.toNat + t.g i ri.toNat * BitVec.ofNat 64 (2 ^ sc.toNat)
    ∀ l ∈ [(Instr.lb x rt rb disp, 0, at_ 1), (.lh x rt rb disp, 1, at_ 2), (.lw x rt rb disp, 2, at_ 4), (.ld x rt rb disp, 3, at_ 8),
        (.lbu x rt rb disp, 4, at_ 1), (.lhu x rt rb disp, 5, at_ 2), (.lwu x rt rb disp, 6, at_ 4), (.ldf x rt rb disp, 8, at_ 8),
        (.lwf x rt rb disp, 9, at_ 4)] ++ (if bop = 7 ∨ 9 < bop.toNat then [] else [(.indexedLoad x bop sc rt rb ri, bop.toNat, ix)]),
      let c := l.1
      let op := l.2.1
      let a := l.2.2
      let n := if op = 0 ∨ op = 4 then 1 else if op = 1 ∨ op = 5 then 2 else if op = 2 ∨ op = 6 ∨ op = 9 then 4 else 8
      let q := t.xlate i .read a
      let dst : List Loc := if 8 ≤ op then [.f rt.toNat] else [.g rt.toNat]
      let value (v : Nat) : W64 :=
        if op = 0 then (BitVec.ofNat 8 v).signExtend 64 else if op = 1 then (BitVec.ofNat 16 v).signExtend 64
        else if op = 2 then (BitVec.ofNat 32 v).signExtend 64 else if op = 9 then 0xFFFFFFFF#32 ++ BitVec.ofNat 32 v else BitVec.ofNat 64 v
      let loaded (u : State) (v : Nat) : Prop := exec c s = .next u ∧ q.1.keeps u i dst [] ∧ q.1.movedOn u i ∧
        (if 8 ≤ op then u.f i rt.toNat = value v ∧ (u.v i rt.toNat).extractLsb' 64 64 = (q.1.v i rt.toNat).extractLsb' 64 64
         else if rt = 0 then u.g i 0 = 0 else u.g i rt.toNat = value v)
      ∀ p attr, a.toNat % n = 0 → q.2 = .ok (p, attr) →
        (q.1.memStatus p n = none →
          (∀ e, q.1.sbNear un p n = some e → e.covers p n = true → attr ≠ .uc →
            ∃ u, loaded u (leVal ((e.data.drop (p - e.addr)).take n)) ∧ q.1.sameBytes u) ∧
          (q.1.sbNear un p n = none → attr.cached = true → q.1.sideHit un i (p / 64) = none → q.1.l2En d = true →
            ((q.1.denOn un = true ∧ (q.1.exe un).hasL1d (p / 64) = true) ∨ (q.1.l2Holds d (p / 64) ∧ q.1.raOk i attr = false)) →
            ∃ u, loaded u (leVal ((List.range n).map fun k => q.1.domByte d (p + k))) ∧ q.1.sameBytes u) ∧
          ((q.1.exe un).sb = [] → attr = .uc → q.1.stopped (q.1.memIsland p) = false →
            let r := q.1.busRead p n (q.1.ctxClass i)
            r.2.1 = none → r.2.2 = (List.range n).map (fun k => q.1.peek (p + k)) ∧ ∃ u, loaded u (leVal r.2.2))) ∧
        (q.1.region p = some .bell → ∀ f v, bellForm p n = some f → q.1.bellLoad (q.1.bellBid i) (bellQid p) f = .ok v →
          ∃ u, loaded u v.toNat ∧ q.1.sameBytes u) ∧
        (q.1.region p = some .csr → isEng i = false → (t.ctx i).priv ≠ .u → ∀ f, csrForm p (csrSizeOf n) = some f →
          let b := q.1.sbDrain un
          b.csrWaits (p / 8 * 8) f = false → ∃ u, exec c s = .next u ∧
            (let v := (b.csrRead (p / 8 * 8) f).2.toNat
             if 8 ≤ op then u.f i rt.toNat = value v else if rt = 0 then u.g i 0 = 0 else u.g i rt.toNat = value v))

/-- Scalar stores (R45, R47, R151). -/
def Obligations.StoresEnterTheStoreBuffer : Prop :=
  ∀ (x : CtxId) (bop : BitVec 4) (sc : BitVec 2) (rt rb ri : Reg5) (disp : BitVec 12) (s : State),
    s.canIssue (ctxIdx x) profKE false false = true →
    let i := ctxIdx x
    let un := unitOf i
    let d := domOf un
    let t := s.start i false
    let at_ (k : Nat) : W64 := t.g i rb.toNat + disp.signExtend 64 * BitVec.ofNat 64 k
    let ix : W64 := t.g i rb.toNat + t.g i ri.toNat * BitVec.ofNat 64 (2 ^ sc.toNat)
    ∀ l ∈ [(Instr.sb x rt rb disp, 0, at_ 1), (.sh x rt rb disp, 1, at_ 2), (.sw x rt rb disp, 2, at_ 4), (.sd x rt rb disp, 3, at_ 8),
        (.sdf x rt rb disp, 8, at_ 8), (.swf x rt rb disp, 9, at_ 4)] ++
        (if bop.toNat ≤ 3 ∨ bop = 8 ∨ bop = 9 then [(.indexedStore x bop sc rt rb ri, bop.toNat, ix)] else []),
      let c := l.1
      let op := l.2.1
      let a := l.2.2
      let n := if op = 0 then 1 else if op = 1 then 2 else if op = 2 ∨ op = 9 then 4 else 8
      let q := t.xlate i .write a
      let src : W64 := if 8 ≤ op then t.f i rt.toNat else t.g i rt.toNat
      let data : List Byte := (List.range n).map fun k => src.extractLsb' (8 * k) 8
      ∀ p attr, a.toNat % n = 0 → q.2 = .ok (p, attr) →
        let e : SbEntry := { ctx := i, addr := p, data := data, attr := attr, bid := (q.1.ctx i).bid }
        (q.1.memStatus p n = none → q.1.accessStatus i .write attr p n = none →
          (∀ w, q.1.l2Way d (p / 64) = some w → (q.1.l2At (l2Key d (p / 64 % l2Sets d) w)).ecc = .good) →
          ((t.exe un).sb.length < 16 →
            ∃ u, exec c s = .next u ∧ (u.exe un).sb = (q.1.exe un).sb ++ [e] ∧ q.1.sameBytes u ∧ q.1.keeps u i [] [] ∧ q.1.movedOn u i ∧
              ∀ w, w ≠ un → u.exe w = q.1.exe w) ∧
          (16 ≤ (t.exe un).sb.length → exec c s = .next (s.waitFor i .waitMem .room))) ∧
        (q.1.region p = some .bell → ∀ f, bellForm p n = some f →
          let r := (q.1.sbDrain un).bellStore (q.1.bellBid i) (bellQid p) f (BitVec.ofNat 64 (leVal data))
            (if isEng i then some ((q.1.sbDrain un).ctx i).job else none)
          r.2 = none → exec c s = .next (r.1.finish i false)) ∧
        (q.1.region p = some .csr → isEng i = false → (t.ctx i).priv ≠ .u → ∀ f, csrForm p (csrSizeOf n) = some f →
          exec c s = .next (((q.1.sbDrain un).csrWrite (.core (Fin.ofNat 64 (i - 2048))) (p / 8 * 8) f
            (BitVec.ofNat 64 (leVal data))).finish i false))

/-- Natural alignment (R46). -/
def Obligations.MisalignedAccessesTrap : Prop :=
  ∀ (x : CtxId) (bop : BitVec 4) (sc : BitVec 2) (rt rb ri : Reg5) (disp : BitVec 12) (s : State),
    s.canIssue (ctxIdx x) profKE false false = true →
    let i := ctxIdx x
    let t := s.start i false
    let at_ (k : Nat) : W64 := t.g i rb.toNat + disp.signExtend 64 * BitVec.ofNat 64 k
    let ix : W64 := t.g i rb.toNat + t.g i ri.toNat * BitVec.ofNat 64 (2 ^ sc.toNat)
    let size (op : Nat) : Nat := if op = 8 then 8 else if op = 9 then 4 else 2 ^ (op % 4)
    ∀ l ∈ [(Instr.lh x rt rb disp, 2, at_ 2), (.lw x rt rb disp, 4, at_ 4), (.ld x rt rb disp, 8, at_ 8), (.lhu x rt rb disp, 2, at_ 2),
        (.lwu x rt rb disp, 4, at_ 4), (.ldf x rt rb disp, 8, at_ 8), (.lwf x rt rb disp, 4, at_ 4), (.sh x rt rb disp, 2, at_ 2),
        (.sw x rt rb disp, 4, at_ 4), (.sd x rt rb disp, 8, at_ 8), (.sdf x rt rb disp, 8, at_ 8), (.swf x rt rb disp, 4, at_ 4)] ++
        (if bop = 7 ∨ 9 < bop.toNat then [] else [(.indexedLoad x bop sc rt rb ri, size bop.toNat, ix)]) ++
        (if bop.toNat ≤ 3 ∨ bop = 8 ∨ bop = 9 then [(.indexedStore x bop sc rt rb ri, size bop.toNat, ix)] else []),
      l.2.2.toNat % l.2.1 ≠ 0 → exec l.1 s = .next (t.takeTrap i { code := 0x05, val := l.2.2 })

/-- STORE_BUFFER_DRAIN (R151) and what a store makes of memory. -/
def Obligations.DrainedStoresChangeTheirBytesOnly : Prop :=
  ∀ (un : Fin 144) (s : State),
    let u := un.val
    let d := domOf u
    ((s.exe u).sb = [] → exec (.storeBufferDrain un) s = .next s) ∧
    ∀ (e : SbEntry) (rest : List SbEntry), (s.exe u).sb = e :: rest → e.addr % 64 + e.data.length ≤ 64 → e.data ≠ [] →
      let line := e.addr / 64
      let stored (a : Nat) (old : Byte) : Byte := if e.addr ≤ a ∧ a < e.addr + e.data.length then e.data.getD (a - e.addr) 0 else old
      (∃ t, exec (.storeBufferDrain un) s = .next t ∧ (t.exe u).sb = rest ∧
        (∀ y, y ≠ e.ctx → y < 2112 → (y / 256 = d ∨ (d = 8 ∧ 2048 ≤ y)) → (t.ctx y).r.resv ≠ some line) ∧ s.keepsRegs t e.ctx [] []) ∧
      (e.attr = .wb ∨ e.attr = .wna → s.l2Holds d line → line ∈ (s.ctx e.ctx).log ∨ (s.ctx e.ctx).log.length < 32 →
        ∃ t, exec (.storeBufferDrain un) s = .next t ∧
          (∀ a, t.domByte d a = stored a (s.domByte d a)) ∧ (∀ a, t.peek a = s.peek a) ∧
          (∀ c a, c < 9 → c ≠ d → t.domByte c a = s.domByte c a) ∧ line ∈ (t.ctx e.ctx).log ∧
          (∃ w, t.l2Way d line = some w ∧ (t.l2At (l2Key d (line % l2Sets d) w)).dirty = true) ∧
          ∀ v, v / 16 = d → v ≠ u → (t.exe v).hasL1d line = false) ∧
      (e.attr = .uc ∨ e.attr = .str ∨ s.l2En d = false →
        ∃ t, exec (.storeBufferDrain un) s = .next t ∧ (∀ a, t.peek a = stored a (s.peek a)) ∧ (t.ctx e.ctx).acks = (s.ctx e.ctx).acks + 1)

/-- Atomics (R48–R50). -/
def Obligations.AtomicsReadModifyAndWrite : Prop :=
  ∀ (x : CtxId) (barr : BitVec 2) (rd rs1 rs2 : Reg5) (s : State), s.canIssue (ctxIdx x) profKE false false = true →
    let i := ctxIdx x
    let un := unitOf i
    let d := domOf un
    let t := s.start i false
    let a := t.g i rs1.toNat
    let b := t.g i rs2.toNat
    let r := t.g i rd.toNat
    let word (z : State) (p : Nat) : W64 := BitVec.ofNat 64 (leVal ((List.range 8).map fun k => z.domByte d (p + k)))
    let ready (q : State) (p : Nat) (attr : Attr) : Prop :=
      q.memStatus p 8 = none ∧ (attr = .wb ∨ attr = .wna) ∧ q.l2Holds d (p / 64) ∧ q.sbNear un p 8 = none ∧
      (barr.getLsbD 1 = true → (q.exe un).sb = []) ∧ (p / 64 ∈ (q.ctx i).log ∨ (q.ctx i).log.length < 32)
    let wrote (q u : State) (p : Nat) (new : Option W64) : Prop :=
      (∀ k, u.domByte d k = (match new with
        | some v => if p ≤ k ∧ k < p + 8 then v.extractLsb' (8 * (k - p)) 8 else q.domByte d k
        | none => q.domByte d k)) ∧ (∀ k, u.peek k = q.peek k) ∧
      (new.isSome → ∀ y, y ≠ i → y < 2112 → (y / 256 = d ∨ (d = 8 ∧ 2048 ≤ y)) → (u.ctx y).r.resv ≠ some (p / 64))
    let effect (c : Instr) (k : XKind) (new : W64 → Option W64) (res : W64 → W64) (resv : Option Nat → Nat → Option Nat) : Prop :=
      if a.toNat % 8 ≠ 0 then exec c s = .next (t.takeTrap i { code := 0x05, val := a })
      else
        let q := t.xlate i k a
        ∀ p attr, q.2 = .ok (p, attr) → ready q.1 p attr → q.1.accessStatus i k attr p 8 = none →
          ∃ u, exec c s = .next u ∧ (rd ≠ 0 → u.g i rd.toNat = res (word q.1 p)) ∧ wrote q.1 u p (new (word q.1 p)) ∧
            q.1.keepsRegs u i [.g rd.toNat] [] ∧ q.1.movedOn u i ∧ (u.ctx i).r.resv = resv (q.1.ctx i).r.resv p
    let amo (c : Instr) (new : W64 → Option W64) : Prop := effect c .readWrite new id (fun o _ => o)
    let pick (c : Bool) (v w : W64) : Option W64 := some (if c then v else w)
    amo (.cas x barr rd rs1 rs2) (fun o => if o = r then some b else none) ∧ amo (.swap x barr rd rs1 rs2) (fun _ => some b) ∧
    amo (.aadd x barr rd rs1 rs2) (fun o => some (o + b)) ∧ amo (.aand x barr rd rs1 rs2) (fun o => some (o &&& b)) ∧
    amo (.aor x barr rd rs1 rs2) (fun o => some (o ||| b)) ∧ amo (.axor x barr rd rs1 rs2) (fun o => some (o ^^^ b)) ∧
    amo (.amin x barr rd rs1 rs2) (fun o => pick (decide (o.toInt < b.toInt)) o b) ∧
    amo (.amax x barr rd rs1 rs2) (fun o => pick (decide (b.toInt < o.toInt)) o b) ∧
    amo (.aminu x barr rd rs1 rs2) (fun o => pick (decide (o.toNat < b.toNat)) o b) ∧
    amo (.amaxu x barr rd rs1 rs2) (fun o => pick (decide (b.toNat < o.toNat)) o b) ∧
    effect (.lr x barr rd rs1) .read (fun _ => none) id (fun _ p => some (p / 64)) ∧
    (∀ p attr, (t.xlate i .readWrite a).2 = .ok (p, attr) → (t.ctx i).r.resv = some (p / 64) →
      effect (.sc x barr rd rs1 rs2) .readWrite (fun _ => some b) (fun _ => 0) (fun _ _ => none)) ∧
    (∀ p attr, a.toNat % 8 = 0 → (t.xlate i .readWrite a).2 = .ok (p, attr) → (t.ctx i).r.resv ≠ some (p / 64) →
      let q := t.xlate i .readWrite a
      ∃ u, exec (.sc x barr rd rs1 rs2) s = .next u ∧ (rd ≠ 0 → u.g i rd.toNat = 1) ∧ (u.ctx i).r.resv = none ∧ q.1.sameBytes u ∧
        q.1.keepsRegs u i [.g rd.toNat] [] ∧ q.1.movedOn u i)

/-- Prefetches (R51, R154). -/
def Obligations.PrefetchesNeverTrap : Prop :=
  ∀ (x : CtxId) (rb : Reg5) (disp : BitVec 12) (l1 : Bool) (s : State), s.canIssue (ctxIdx x) profKE false false = true →
    let i := ctxIdx x
    let d := domOf (unitOf i)
    let t := s.start i false
    let a := t.g i rb.toNat + disp.signExtend 64
    let c := if l1 then Instr.pref1 x rb disp else .pref2 x rb disp
    let q := t.xlate i .read a
    ∃ u, exec c s = .next u ∧ t.keepsRegs u i [] [] ∧ t.movedOn u i ∧
      (∀ p attr, q.2 = .ok (p, attr) → q.1.memStatus p 1 = none →
        (attr = .uc → u = q.1.finish i false) ∧
        (attr.cached = true → q.1.l2En d = true → q.1.l2Way d (p / 64) = none →
          (l1 = true → q.1.denOn (unitOf i) = false ∨ (q.1.exe (unitOf i)).hasL1d (p / 64) = false) →
          q.1.stopped (q.1.memIsland (p / 64 * 64)) = false →
          ∀ way, way ∈ q.1.fillWays d (q.1.ctx i).bid → (q.1.l2At (l2Key d (p / 64 % l2Sets d) way)).valid = false →
          (q.1.busRead (p / 64 * 64) 64 (q.1.ctxClass i)).2.1 = none →
          (u.l2Way d (p / 64)).isSome = true ∧ ∀ k, k < 64 → u.domByte d (p / 64 * 64 + k) = q.1.peek (p / 64 * 64 + k)))

/-- Maintenance instructions (R51, R154–R158, R162). -/
def Obligations.MaintenanceActsOnItsLines : Prop :=
  ∀ (x : CtxId) (rt rb : Reg5) (disp : BitVec 12) (way : BitVec 4) (s : State),
    let i := ctxIdx x
    let d := domOf (unitOf i)
    let t := s.start i false
    let gone (u : State) (line : Nat) : Prop := (u.l2En d = true → u.l2Way d line = none) ∧ ∀ v, v / 16 = d →
      line ∉ (u.exe v).l1i ∧ (u.exe v).hasL1d line = false ∧ (d < 8 → ∀ e ∈ (u.exe v).side, e.line ≠ line)
    let dirty (q : State) (line : Nat) : Prop := ∃ w, q.l2Way d line = some w ∧ (q.l2At (l2Key d (line % l2Sets d) w)).dirty = true
    let once (q : State) (line : Nat) : Prop := ∀ w v, w < 16 → v < 16 → (q.l2At (l2Key d (line % l2Sets d) w)).valid = true →
      (q.l2At (l2Key d (line % l2Sets d) v)).valid = true → (q.l2At (l2Key d (line % l2Sets d) w)).line = line →
      (q.l2At (l2Key d (line % l2Sets d) v)).line = line → w = v
    let lineOp (m : Mop) (c : Instr) (q : State) (line : Nat) : Prop :=
      ∃ u, exec c s = .next u ∧ q.keepsRegs u i [] [] ∧
        (m = .cln → ¬dirty q line ∨ q.l2En d = false → q.movedOn u i ∧ q.sameBytes u) ∧
        (m = .inv → once q line → q.movedOn u i ∧ gone u line ∧ ∀ k, u.peek k = q.peek k) ∧
        (m = .cli → ¬dirty q line ∨ q.l2En d = false → once q line → q.movedOn u i ∧ gone u line ∧ ∀ k, u.peek k = q.peek k) ∧
        (m ≠ .inv → dirty q line → q.l2Holds d line → q.wbStatus d line = none →
          (u.ctx i).st = .waitMem ∧ (u.ctx i).wait = .ack ∧ (u.ctx i).acks = (q.ctx i).acks + 1 ∧
          (∀ k, u.peek k = if k / 64 = line then q.domByte d k else q.peek k) ∧
          (m = .cln → ¬dirty u line ∧ u.l2Holds d line) ∧ (m = .cli → once q line → gone u line))
    (s.canIssue i profKE false false = true →
      let a := t.g i rb.toNat + disp.signExtend 64
      let b := t.g i rb.toNat
      (∀ p attr, (t.xlate i .read a).2 = .ok (p, attr) → (t.xlate i .read a).1.memStatus p 1 = none →
        t.inFlight d (p / 64) = false →
        (∀ e ∈ ((t.xlate i .read a).1.exe (unitOf i)).sb, e.overlaps (p / 64 * 64) 64 = false) →
        (∀ q, q = (t.xlate i .read a).1 →
          lineOp .cln (.clnA x rb disp) q (p / 64) ∧ lineOp .cli (.cliA x rb disp) q (p / 64) ∧
          (q.mayWrite i a = true → lineOp .inv (.invA x rb disp) q (p / 64)) ∧
          (q.mayWrite i a = false → exec (.invA x rb disp) s = .next (q.takeTrap i { code := 0x07, val := a })))) ∧
      (t.g i rt.toNat = 0 → ∀ c ∈ [Instr.clnR x rt rb, .invR x rt rb, .cliR x rt rb], exec c s = .next (t.finish i false)) ∧
      (0 < (t.g i rt.toNat).toNat → (b.toNat + (t.g i rt.toNat).toNat - 1) / 64 = b.toNat / 64 →
        exec (.clnR x rt rb) s = exec (.clnA x rb 0) s ∧ exec (.invR x rt rb) s = exec (.invA x rb 0) s ∧
        exec (.cliR x rt rb) s = exec (.cliA x rb 0) s)) ∧
    (s.canIssue i profK false false = true →
      let b := t.g i rb.toNat
      let k := l2Key 8 (fld b 6 12 % 4096) (fld b 0 4)
      ((t.ctx i).priv = .u → ∀ c ∈ [Instr.clnSw x rb, .invSw x rb, .cliSw x rb, .lockfill x rt rb (way.setWidth 12)],
        ∃ w : BitVec 32, exec c s = .next (t.takeTrap i { code := 0x03, val := w.setWidth 64 })) ∧
      ((t.ctx i).priv ≠ .u →
        (b.getLsbD 63 = true → (t.l2At k).valid = false →
          ∀ c ∈ [Instr.clnSw x rb, .invSw x rb, .cliSw x rb], exec c s = .next (t.finish i false)) ∧
        (b.getLsbD 63 = true → (t.l2At k).valid = true → t.l2Way 8 (t.l2At k).line = some (fld b 0 4) → (t.l2At k).ecc = .good →
          lineOp .cln (.clnSw x rb) t (t.l2At k).line ∧ lineOp .inv (.invSw x rb) t (t.l2At k).line ∧
          lineOp .cli (.cliSw x rb) t (t.l2At k).line) ∧
        (b.getLsbD 63 = false → ∀ c ∈ [Instr.clnSw x rb, .invSw x rb, .cliSw x rb],
          ∃ u, exec c s = .next u ∧ t.movedOn u i ∧ u.l2 = t.l2 ∧ u.mem = t.mem ∧ t.keepsRegs u i [] []) ∧
        (t.l2Locked 8 way.toNat = false →
          exec (.lockfill x rt rb (way.setWidth 12)) s = .next ((t.setRegBit (Reg.l2Stat 8) 3 true).finish i false)) ∧
        (t.l2Locked 8 way.toNat = true → 0 < (t.g i rt.toNat).toNat → (b.toNat + (t.g i rt.toNat).toNat - 1) / 64 = b.toNat / 64 →
          ∀ p attr, (t.xlate i .read b).2 = .ok (p, attr) → attr.cached = true →
          let q := (t.xlate i .read b).1
          q.memStatus p 1 = none → q.l2En 8 = true → t.inFlight 8 (p / 64) = false → ((q.l2Way 8 (p / 64)).isSome = true ∨
            (q.stopped (q.memIsland p) = false ∧ ((q.l2Evict 8 (l2Key 8 (p / 64 % 4096) way.toNat)).busRead (p / 64 * 64) 64 1).2.1 = none)) →
          once q (p / 64) → ∃ u, exec (.lockfill x rt rb (way.setWidth 12)) s = .next u ∧ u.l2Way 8 (p / 64) = some way.toNat)))

/-- Misses and run-ahead (R135, R140–R143). -/
def Obligations.RunAheadLeavesNoTrace : Prop :=
  ∀ (x : CtxId) (rt rb : Reg5) (disp : BitVec 12) (w : BitVec 32) (s : State),
    let i := ctxIdx x
    let un := unitOf i
    x.isSieve = false →
    (s.canIssue i profKE false false = true →
      let t := s.start i false
      let a := t.g i rb.toNat + disp.signExtend 64 * 8
      let q := t.xlate i .read a
      ∀ p attr, a.toNat % 8 = 0 → q.2 = .ok (p, attr) → q.1.memStatus p 8 = none → attr.cached = true →
        q.1.sbNear un p 8 = none → q.1.sideHit un i (p / 64) = none → (q.1.denOn un = false ∨ (q.1.exe un).hasL1d (p / 64) = false) →
        (q.1.raOk i attr = true →
          ∃ u, exec (.ld x rt rb disp) s = .next u ∧ (u.ctx i).st = .runAhead ∧
            (∃ e, (u.ctx i).epi = some e ∧ e.chk = (q.1.ctx i).r ∧ e.ended = false ∧ (rt ≠ 0 → .g rt.toNat ∈ e.poison)) ∧
            (u.ctx i).r.pc = (t.ctx i).r.npc ∧ q.1.sameBytes u ∧ q.1.keepsRegs u i [.g rt.toNat] []) ∧
        (q.1.raOk i attr = false → q.1.l2En (domOf un) = true → q.1.l2Way (domOf un) (p / 64) = none →
          ∃ u o, exec (.ld x rt rb disp) s = .next u ∧ (u.ctx i).st = .waitMem ∧ (u.ctx i).wait = o ∧ (∃ l v, o = .load l v) ∧
            (u.ctx i).r = (q.1.ctx i).r ∧ q.1.sameBytes u)) ∧
    (∀ e, (s.ctx i).epi = some e →
      (∀ t, ((s.squash i).wake i).runLoad i e.load e.word true = .ok t →
        ∃ u, exec (.missDataArrival x) s = .next u ∧ (u.ctx i).r = { e.chk with resv := (t.ctx i).r.resv } ∧ (u.ctx i).epi = (t.ctx i).epi ∧ (u.ctx i).st = .waitMem ∧
          (u.ctx i).wait = .reissue e.load e.word)) ∧
    ((s.ctx i).epi = none → exec (.missDataArrival x) s = .next s) ∧
    (∀ op : BitVec 4, op.toNat ≤ 6 → (s.ctx i).wait = .reissue (.m op rt rb disp) w →
      let t := ((s.wake i).pmc un 1).setExe un { ((s.wake i).pmc un 1).exe un with ptr := i % 16 }
      let n := opSize op.toNat
      let a := t.g i rb.toNat + dispOf disp n
      ∀ r v, t.loadItem i a n false = .ok r v → (r.ctx i).epi = none →
        ∃ u, exec (.missingLoadReissue x) s = .next u ∧ (u.ctx i).st = (r.ctx i).st ∧ (rt ≠ 0 → u.g i rt.toNat = loadVal op.toNat v) ∧
          r.keepsRegs u i [.g rt.toNat] [] ∧ r.movedOn u i) ∧
    ((∀ o v, (s.ctx i).wait ≠ .reissue o v) → exec (.missingLoadReissue x) s = .next s) ∧
    (∀ op : BitVec 4, op.toNat ≤ 6 → (s.ctx i).wait = .load (.m op rt rb disp) w →
      let t := s.wake i
      let n := opSize op.toNat
      let a := t.g i rb.toNat + dispOf disp n
      ∀ r v, t.loadItem i a n true = .ok r v → (r.ctx i).epi = none →
        ∃ u, exec (.demandMissFill x) s = .next u ∧ (u.ctx i).st = (r.ctx i).st ∧ (u.ctx i).wait = (r.ctx i).wait ∧
          (rt ≠ 0 → u.g i rt.toNat = loadVal op.toNat v) ∧ r.keepsRegs u i [.g rt.toNat] [] ∧ r.movedOn u i) ∧
    ((∀ o v, (s.ctx i).wait ≠ .load o v) → exec (.demandMissFill x) s = .next s)

/-- SIDE_BUFFER_FILL (R146, R148) and WRITE_ACKNOWLEDGE (R151). -/
def Obligations.FillsAndAcknowledgementsRelease : Prop :=
  ∀ (sl : Fin 8) (e : Fin 16) (x : CtxId) (s : State),
    let u := uIdx sl e
    let i := ctxIdx x
    ((s.exe u).fills = [] → exec (.sideBufferFill sl e) s = .next s) ∧
    (∀ f t, (s.exe u).fills = f :: t →
      let r := s.setExe u { s.exe u with fills := t }
      (f.dead = true ∨ r.sbOn u = false → exec (.sideBufferFill sl e) s = .next r) ∧
      (f.dead = false → r.sbOn u = true → ∀ l, (r.sideLine u f).2 = some l → r.sideHit u f.ctx f.line = none →
        ∃ v, exec (.sideBufferFill sl e) s = .next v ∧ (v.exe u).fills = t ∧
          (v.exe u).side = (if 32 ≤ (s.exe u).side.length then (s.exe u).side.drop 1 else (s.exe u).side) ++
            [{ line := f.line, ctx := f.ctx, data := l, str := f.str }])) ∧
    ((s.ctx i).acks = 0 → exec (.writeAcknowledge x) s = .next s) ∧
    (1 < (s.ctx i).acks → exec (.writeAcknowledge x) s = .next (s.setCtx i { s.ctx i with acks := (s.ctx i).acks - 1 })) ∧
    ((s.ctx i).acks = 1 →
      ((s.ctx i).wait = .ack → (s.ctx i).epi = none → ∃ v, exec (.writeAcknowledge x) s = .next v ∧ (v.ctx i).st = .ready ∧
        (v.ctx i).wait = .none ∧ (v.ctx i).acks = 0 ∧ s.movedOn v i ∧ s.keepsRegs v i [] []) ∧
      (∀ w, (s.ctx i).wait = .jend w → ∃ v, exec (.writeAcknowledge x) s = .next v ∧ (v.ctx i).st = .drain ∧
        ((s.ctx i).stage < (s.job (s.ctx i).job).stages.length →
          ((v.job (s.ctx i).job).stageOf (s.ctx i).stage).jend = w ∧ ((v.job (s.ctx i).job).stageOf (s.ctx i).stage).ended = true)) ∧
      ((s.ctx i).wait = .drain → ∃ v, exec (.writeAcknowledge x) s = .next v ∧ (v.ctx i).st = .drain ∧ (v.ctx i).wait = .none) ∧
      ((s.ctx i).wait = .mvgo → (s.ctx i).st = .waitMem → ∃ v, exec (.writeAcknowledge x) s = .next v ∧ (v.ctx i).st = .ready ∧
        (v.ctx i).wait = .none ∧ (v.ctx i).r = (s.ctx i).r))

/-- Configuration of engines and caches (R138, R148, R160, R163). -/
def Obligations.EngineAndCacheConfiguration : Prop :=
  ∀ (sl : Fin 8) (e : Fin 16) (d : Fin 9) (v : W64) (m : BitVec 32) (s : State),
    let u := uIdx sl e
    let n := fld v 2 5
    let ra := fld v 16 16
    let bits (k x : Nat) : Nat := (List.range k).countP fun j => x.testBit j
    let legal := 1 ≤ n ∧ (∀ k, n ≤ k → k < 16 → ra.testBit k = false) ∧
      (if v.getLsbD 1 then n ≤ 4 else n ≤ 16 ∧ 512 * n + 512 * bits 16 ra ≤ 8192)
    let idle := ∀ c, c < 16 → (s.ctx (u * 16 + c)).st = .free
    let others (t : State) (as : List Nat) : Prop := (∀ a, a ∉ as → t.reg a = s.reg a) ∧ t.l2 = s.l2 ∧ t.mem = s.mem ∧ t.ctxs = s.ctxs
    let doomed (f : List SideFill) : List SideFill := f.map fun g => { g with dead := true }
    (∃ t, exec (.oeCfgWrite sl e v) s = .next t ∧ t.execs = s.execs ∧
      (idle ∧ legal → t.reg (Reg.oeCfg u) = v &&& 0xFFFF007F ∧ others t [Reg.oeCfg u]) ∧
      (¬(idle ∧ legal) → bitAt (t.reg (Reg.oeStat u)) 1 = true ∧ others t [Reg.oeStat u])) ∧
    (∃ t, exec (.l1Invalidate sl e) s = .next t ∧ others t [] ∧ (∀ w, w ≠ u → t.exe w = s.exe w) ∧
      t.exe u = { s.exe u with l1i := [], l1d := [], side := [], fills := doomed (s.exe u).fills }) ∧
    (∃ t, exec (.l1dDisable sl e) s = .next t ∧ others t [Reg.oeL1Ctl u] ∧ (∀ w, w ≠ u → t.exe w = s.exe w) ∧
      t.exe u = { s.exe u with l1d := [] } ∧ t.denOn u = false) ∧
    (∃ t, exec (.sideBufferDisable sl e) s = .next t ∧ others t [Reg.oeL1Ctl u] ∧ (∀ w, w ≠ u → t.exe w = s.exe w) ∧
      t.exe u = { s.exe u with side := [], fills := doomed (s.exe u).fills } ∧ t.sbOn u = false) ∧
    (∃ t, exec (.l2Disable d) s = .next t ∧ (s.regBit (Reg.l2Ctl d) 0 = false → t = s) ∧
      (s.regBit (Reg.l2Ctl d) 0 = true → t.l2En d = false ∧ others t [Reg.l2Ctl d, Reg.l2Stat d] ∧
        ((∃ k ∈ s.l2, k.1 / 131072 = d.val ∧ k.2.dirty = true) → bitAt (t.reg (Reg.l2Stat d)) 1 = true) ∧
        (∀ w, w / 16 = d.val → (t.exe w).l1d = [] ∧ (t.exe w).side = [] ∧ (t.exe w).sb = (s.exe w).sb) ∧
        ∀ w, w / 16 ≠ d.val → t.exe w = s.exe w)) ∧
    (∃ t, exec (.l2Enable d) s = .next t ∧ t.regBit (Reg.l2Ctl d) 0 = true ∧ others t [Reg.l2Ctl d] ∧ t.execs = s.execs) ∧
    (∃ t, exec (.l2LockWrite d m) s = .next t ∧ t.execs = s.execs ∧
      (bits 16 m.toNat ≤ 12 → others t [Reg.l2Lock d] ∧ ∀ w, w < 16 → t.l2Locked d w = m.getLsbD w) ∧
      (12 < bits 16 m.toNat → others t [Reg.l2Stat d] ∧ bitAt (t.reg (Reg.l2Stat d)) 2 = true))

/-- L2_MOP (R157). -/
def Obligations.KernelMaintenanceOfAnL2 : Prop :=
  ∀ (dd : Fin 9) (way : BitVec 4) (set : BitVec 13) (s : State),
    let d := dd.val
    let lo := fld (s.reg (Reg.l2MopAddr d)) 6 42 * 64
    let len := fld (s.reg (Reg.l2MopLen d)) 0 48
    let slot := l2Key d (set.toNat % l2Sets d) way.toNat
    let inRange (line : Nat) : Prop := 0 < len ∧ lo < line * 64 + 64 ∧ line * 64 < lo + len
    let inSlot (line : Nat) : Prop := (s.l2At slot).valid = true ∧ (s.l2At slot).line = line
    let sound := (∀ k ∈ s.l2, k.1 / 131072 = d → k.2.valid = true → k.1 = l2Key d (k.2.line % l2Sets d) (k.1 % 16) ∧
      s.l2Way d k.2.line = some (k.1 % 16) ∧ k.2.ecc = .good ∧ s.wbStatus d k.2.line = none) ∧ Tab.sorted s.l2 = true ∧
      s.missLines d = []
    let gone (t : State) (line : Nat) : Prop := t.l2Way d line = none ∧ ∀ v, v / 16 = d →
      line ∉ (t.exe v).l1i ∧ (t.exe v).hasL1d line = false
    let entry (t : State) (line : Nat) : L2Line := ((t.l2Way d line).map fun w => t.l2At (l2Key d (line % l2Sets d) w)).getD {}
    let dirty (t : State) (line : Nat) : Bool := (entry t line).dirty
    let held (line k : Nat) : Byte := lineByte (entry s line).data k
    let begun (t : State) : Prop := t.regBit (Reg.l2MopCmd d) 31 = true ∧ t.regBit (Reg.l2Stat d) 4 = true
    let inv (named : Nat → Prop) (t : State) : Prop := sound → (∀ line, named line → gone t line) ∧ ∀ a, t.peek a = s.peek a
    let cln (named : Nat → Prop) (t : State) : Prop := sound → (∀ line, named line → dirty t line = false) ∧
      (∀ line k, named line → k < 64 → t.peek (line * 64 + k) = (if dirty s line then held line k else s.peek (line * 64 + k))) ∧
      ∀ line w, s.l2Way d line = some w → t.l2Way d line = some w
    let cli (named : Nat → Prop) (t : State) : Prop := sound → ∀ line, named line → gone t line
    let todo := (Tab.get (0, []) s.l2todo d).2
    (s.regBit (Reg.l2Stat d) 4 = true → ∀ c ∈ [Instr.l2MopClnR dd, .l2MopInvR dd, .l2MopCliR dd, .l2MopClnAll dd, .l2MopInvAll dd,
      .l2MopCliAll dd, .l2MopClnSw dd way set, .l2MopInvSw dd way set, .l2MopCliSw dd way set, .l2MopLockfill dd way],
      exec c s = .next (s.setRegBit (Reg.l2Stat d) 5 true)) ∧
    (s.regBit (Reg.l2Stat d) 4 = false →
      (∃ t, exec (.l2MopClnR dd) s = .next t ∧ begun t ∧ cln inRange t) ∧
      (∃ t, exec (.l2MopInvR dd) s = .next t ∧ begun t ∧ inv inRange t) ∧
      (∃ t, exec (.l2MopCliR dd) s = .next t ∧ begun t ∧ cli inRange t) ∧
      (∃ t, exec (.l2MopClnAll dd) s = .next t ∧ begun t ∧ cln (fun _ => True) t) ∧
      (∃ t, exec (.l2MopInvAll dd) s = .next t ∧ begun t ∧ inv (fun _ => True) t) ∧
      (∃ t, exec (.l2MopCliAll dd) s = .next t ∧ begun t ∧ cli (fun _ => True) t) ∧
      (∃ t, exec (.l2MopClnSw dd way set) s = .next t ∧ begun t ∧ cln inSlot t) ∧
      (∃ t, exec (.l2MopInvSw dd way set) s = .next t ∧ begun t ∧ inv inSlot t) ∧
      (∃ t, exec (.l2MopCliSw dd way set) s = .next t ∧ begun t ∧ cli inSlot t) ∧
      (∃ t, exec (.l2MopLockfill dd way) s = .next t ∧ begun t ∧
        (s.l2Locked d way.toNat = false → bitAt (t.reg (Reg.l2Stat d)) 3 = true ∧ t.l2 = s.l2) ∧
        (s.l2Locked d way.toNat = true → sound → 0 < len → len ≤ 64 → (s.l2Way d (lo / 64)).isSome = true →
          t.l2Way d (lo / 64) = some way.toNat))) ∧
    ((∃ l ∈ todo, s.inFlight d l = true) → exec (.l2MopComplete dd) s = .next s) ∧
    ((∀ l ∈ todo, s.inFlight d l = false) →
      ∃ t, exec (.l2MopComplete dd) s = .next t ∧ t.regBit (Reg.l2MopCmd d) 31 = false ∧ t.regBit (Reg.l2Stat d) 4 = false ∧
        (todo = [] → t.l2 = s.l2 ∧ t.mem = s.mem ∧ t.ctxs = s.ctxs ∧ t.execs = s.execs ∧
          ∀ a, a ≠ Reg.l2MopCmd d → a ≠ Reg.l2Stat d → t.reg a = s.reg a))

/-- Scalar floating point (R87–R100): what each instruction does with the result that the arithmetic gives. -/
def Obligations.FloatingPointOperationsCompleteOrTrap : Prop :=
  ∀ (x : CtxId) (rm : BitVec 3) (p : Bool) (rd a b : Reg5) (s : State), s.canIssue (ctxIdx x) profKE false false = true →
    let i := ctxIdx x
    let t := s.start i false
    let fc := t.xcsr i csrFcsr
    let r := if rm = 0 then fld fc 0 3 else rm.toNat
    let f := fmtOf p
    let env (r : Nat) : FEnv := { rm := r, ftz := bitAt fc 3, ufEn := bitAt fc 12 }
    let v := env r
    let low (p : Bool) (w : W64) : Nat := if p then w.toNat % 2 ^ 32 else w.toNat
    let A := low p (t.f i a.toNat)
    let B := low p (t.f i b.toNat)
    let D := low p (t.f i rd.toNat)
    let put (p : Bool) (n : Nat) (t : State) : State := t.setF i rd.toNat (BitVec.ofNat 64 (if p then 0xFFFFFFFF00000000 + n % 2 ^ 32 else n))
    let ends (c : Instr) (fast slow : Nat) (fl : FFlags) (out : State → State) : Prop :=
      let t := t.setTime i fast slow
      let set := fc ||| BitVec.ofNat 64 (fl.bits * 16)
      exec c s = .next (if fl.bits &&& fld fc 9 5 ≠ 0 then (t.setXcsr i csrFcsr (setFld set 14 5 fl.bits)).takeTrap i { code := 0x0B }
        else (out (if fl.bits = 0 then t else t.setXcsr i csrFcsr set)).finish i false)
    let rounds (c : Instr) (w : BitVec 32) (q : FRes) (slow : Bool) (k : Nat) (out : State → State) : Prop :=
      if 1 ≤ r ∧ r ≤ 5 then ends c (if slow || q.sub then k + 2 else k) (k + 2) q.fl out else exec c s = .next (t.takeTrap i (trapIllegal w))
    let ar (c : Instr) (op k : Nat) (useD : Bool) (q : FRes) : Prop :=
      rounds c (encA 0x24 rd a b (fpFunc rm p op)) q (f.subOp v A || f.subOp v B || (useD && f.subOp v D)) k (put p q.bits)
    let plain (c : Instr) (k : Nat) (q : FRes) : Prop := ends c k k q.fl (put p q.bits)
    let cv (c : Instr) (p : Bool) (op : Nat) (q : FRes) (slow : Bool) (out : State → State) : Prop :=
      rounds c (encA 0x26 rd a 0 (fpFunc rm p op)) q slow 3 out
    let sgnBit (n : Nat) : Bool := n.testBit (f.width - 1)
    let withSign (c : Bool) : FRes := { bits := A % 2 ^ (f.width - 1) + f.signBit c }
    let e1 := env 1
    ar (.fadd x rm p rd a b) 0 4 false (f.add v false A B) ∧ ar (.fsub x rm p rd a b) 1 4 false (f.add v true A B) ∧
    ar (.fmul x rm p rd a b) 2 4 false (f.mul v A B) ∧ ar (.fma x rm p rd a b) 3 5 true (f.fma v false false A B D) ∧
    ar (.fms x rm p rd a b) 4 5 true (f.fma v false true A B D) ∧ ar (.fnma x rm p rd a b) 5 5 true (f.fma v true false A B D) ∧
    ar (.fnms x rm p rd a b) 6 5 true (f.fma v true true A B D) ∧
    plain (.fmin x p rd a b) 2 (f.minmax e1 false A B) ∧ plain (.fmax x p rd a b) 2 (f.minmax e1 true A B) ∧
    plain (.fsgnj x p rd a b) 1 (withSign (sgnBit B)) ∧ plain (.fsgnjn x p rd a b) 1 (withSign (!sgnBit B)) ∧
    plain (.fsgnjx x p rd a b) 1 (withSign (sgnBit A != sgnBit B)) ∧
    (∀ c ∈ [(Instr.feq x p rd a b, 0), (.flt x p rd a b, 1), (.fle x p rd a b, 2)],
      let q := f.cmp e1 c.2 A B
      ends c.1 2 2 q.2 (fun t => t.setG i rd.toNat (if q.1 then 1 else 0))) ∧
    exec (.fclass x p rd a) s = .next ((t.setG i rd.toNat (f.classify A)).finish i false) ∧
    (let q := fcvt fmt64 fmt32 v (t.f i a.toNat).toNat
     cv (.fcvtsd x rm rd a) false 0 q (fmt64.subOp v (t.f i a.toNat).toNat) (put true q.bits)) ∧
    (let n := low true (t.f i a.toNat)
     let q := fcvt fmt32 fmt64 e1 n
     ends (.fcvtds x rd a) (if fmt32.subOp e1 n || q.sub then 5 else 3) 5 q.fl (put false q.bits)) ∧
    (let q := f.toInt v false A
     cv (.fcvtlf x rm p rd a) p 2 { bits := 0, fl := q.2 } (f.subOp v A) (fun t => t.setG i rd.toNat q.1)) ∧
    (let q := f.toInt v true A
     cv (.fcvtluf x rm p rd a) p 3 { bits := 0, fl := q.2 } (f.subOp v A) (fun t => t.setG i rd.toNat q.1)) ∧
    (let q := f.ofInt v (t.g i a.toNat).toInt
     cv (.fcvtfl x rm p rd a) p 4 q false (put p q.bits)) ∧
    (let q := f.ofInt v ((t.g i a.toNat).toNat : Int)
     cv (.fcvtflu x rm p rd a) p 5 q false (put p q.bits)) ∧
    (let q := f.rint v A
     cv (.frint x rm p rd a) p 6 q (f.subOp v A) (put p q.bits)) ∧
    exec (.fmvgf x p rd a) s = .next ((t.setG i rd.toNat (if p then ((t.f i a.toNat).setWidth 32).signExtend 64 else t.f i a.toNat)).finish i false) ∧
    exec (.fmvfg x p rd a) s = .next ((put p (t.g i a.toNat).toNat t).finish i false) ∧
    (let inPair (r : Reg5) : Bool := decide (r.toNat = rd.toNat) || decide (r.toNat = rd.toNat + 1)
     let pair := FPair.dec (t.f i rd.toNat) (t.f i (rd.toNat + 1))
     let putPair (q : FPair) (t : State) : State := (t.setF i rd.toNat q.enc.1).setF i (rd.toNat + 1) q.enc.2
     let step (c : Instr) (op : Nat) (rm : BitVec 3) (a b : Reg5) (srcs : List Reg5) (good : Prop) : Prop :=
       if rd.toNat % 2 ≠ 0 ∨ srcs.any inPair = true then exec c s = .next (t.takeTrap i (trapIllegal (encA 0x25 rd a b (fpFunc rm p op)))) else good
     let whole (c : Instr) (fast slow : Nat) (q : FPair) : Prop := ends c fast slow {} (putPair q)
     let fin (c : Instr) (op : Nat) (a b : Reg5) (q : FRes) (fast slow : Nat) : Prop :=
       if 1 ≤ r ∧ r ≤ 5 then ends c fast slow q.fl (put p q.bits) else exec c s = .next (t.takeTrap i (trapIllegal (encA 0x25 rd a b (fpFunc rm p op))))
     let one (c : Instr) (q : FPair) : Prop := exec c s = .next ((putPair q t).finish i false)
     step (.fdsetup x p rd a b) 0 0 a b [a, b] (whole (.fdsetup x p rd a b) (if f.subOp e1 A || f.subOp e1 B then 4 else 2) 4 (fdSetup p e1 A B)) ∧
     step (.fdstep x p rd b) 1 0 0 b [b] (one (.fdstep x p rd b) (fdStep p e1 B pair)) ∧
     step (.fdfin x rm p rd a b) 2 rm a b [a, b] (fin (.fdfin x rm p rd a b) 2 a b (fdFin p v A B pair) (if (fdFin p v A B pair).sub then 5 else 3) 5) ∧
     step (.fssetup x p rd a) 3 0 a 0 [a] (whole (.fssetup x p rd a) (if f.subOp e1 A then 4 else 2) 4 (fsSetup p e1 A)) ∧
     step (.fsstep x p rd) 4 0 0 0 [] (one (.fsstep x p rd) (fsStep p pair)) ∧
     step (.fsfin x rm p rd a) 5 rm a 0 [a] (fin (.fsfin x rm p rd a) 5 a 0 (fsFin p v A pair) 3 3))

/-- IEEE 754 rounding (R88) of every basic operation, over the real numbers. -/
def Obligations.FloatingPointRoundsCorrectly : Prop :=
  ∀ (p : Bool) (rm a b c : Nat) (ufEn : Bool), 1 ≤ rm → rm ≤ 5 →
    let f := fmtOf p
    let v : FEnv := { rm := rm, ftz := false, ufEn := ufEn }
    a < 2 ^ f.width → b < 2 ^ f.width → c < 2 ^ f.width →
    f.finite a = true → f.finite b = true → f.finite c = true →
    let A : ℝ := f.value a
    let B : ℝ := f.value b
    let C : ℝ := f.value c
    let right (z : ℝ) (q : FRes) : Prop :=
      q.bits < 2 ^ f.width ∧ (f.finite q.bits = true → f.roundedTo rm z q.bits) ∧
      (q.fl.nx = false ↔ f.finite q.bits = true ∧ (f.value q.bits : ℝ) = z) ∧ q.fl.nv = false ∧ q.fl.dz = false
    let steps (st : FPair → FPair) (q : FPair) : FPair := (List.range f.steps).foldl (fun q _ => FPair.dec (st q).enc.1 (st q).enc.2) q
    let pairOf (q : FPair) : FPair := FPair.dec q.enc.1 q.enc.2
    right (A + B) (f.add v false a b) ∧ right (A - B) (f.add v true a b) ∧ right (A * B) (f.mul v a b) ∧
    right (A * B + C) (f.fma v false false a b c) ∧ right (A * B - C) (f.fma v false true a b c) ∧
    right (-(A * B) + C) (f.fma v true false a b c) ∧ right (-(A * B) - C) (f.fma v true true a b c) ∧
    (A ≠ 0 → B ≠ 0 → right (A / B) (fdFin p v a b (steps (fdStep p v b) (pairOf (fdSetup p v a b))))) ∧
    (0 < A → right (Real.sqrt A) (fsFin p v a (steps (fsStep p) (pairOf (fsSetup p v a)))))

/-- The boundary table (R101). The five results are in the table's order RNE, RTZ, RDN, RUP, RMM. -/
def Obligations.FloatingPointBoundaryResults : Prop :=
  let f := fmt64
  let S := 0x0000000000000001
  let S2 := 0x0000000000000002
  let M := 0x7FEFFFFFFFFFFFFF
  let M1 := 0x7FEFFFFFFFFFFFFE
  let Q := 0x3CCFFFFFFFFFFFFF
  let Q1 := 0x3CCFFFFFFFFFFFFE
  let R1 := 0x5FEFFFFFFFFFFFFF
  let R := 0x5FF0000000000000
  let H := 0x1E60000000000000
  let one := 0x3FF0000000000000
  let inf := 0x7FF0000000000000
  let nan := 0x7FF8000000000000
  let n (v : Nat) : Nat := v + 2 ^ 63
  let env (rm : Nat) : FEnv := { rm := rm, ftz := false, ufEn := false }
  let ex : FFlags := {}
  let nx : FFlags := { nx := true }
  let on : FFlags := { ovf := true, nx := true }
  let un : FFlags := { uf := true, nx := true }
  let nv : FFlags := { nv := true }
  let rms : List Nat := [1, 3, 4, 5, 2]
  let row (g : FEnv → FRes) (res : List Nat) (fl : List FFlags) : Bool :=
    decide ((rms.map fun r => ((g (env r)).bits, (g (env r)).fl)) = res.zip fl)
  let all (x : FFlags) : List FFlags := [x, x, x, x, x]
  let quo (a b : Nat) (v : FEnv) : FRes := fdFin false v a b ((List.range 27).foldl (fun q _ => fdStep false v b q) (fdSetup false v a b))
  let root (a : Nat) (v : FEnv) : FRes := fsFin false v a ((List.range 27).foldl (fun q _ => fsStep false q) (fsSetup false v a))
  let add (a b : Nat) (v : FEnv) : FRes := f.add v false a b
  let sub (a b : Nat) (v : FEnv) : FRes := f.add v true a b
  let mul (a b : Nat) (v : FEnv) : FRes := f.mul v a b
  let fma (a b c : Nat) (v : FEnv) : FRes := f.fma v false false a b c
  let fms (a b c : Nat) (v : FEnv) : FRes := f.fma v false true a b c
  ([add M M, mul M M, quo M S, fma M M (n M)].all fun g => row g [inf, M, M, inf, inf] (all on)) ∧
  ([add (n M) (n M), mul M (n M)].all fun g => row g [n inf, n M, n inf, n M, n inf] (all on)) ∧
  row (add M (n M)) [0, 0, n 0, 0, 0] (all ex) ∧
  ([add M S, fma M S M].all fun g => row g [M, M, M, inf, M] [nx, nx, nx, on, nx]) ∧
  row (sub M S) [M, M1, M1, M, M] (all nx) ∧
  row (sub (n M) S) [n M, n M, n inf, n M, n M] [nx, nx, on, nx, nx] ∧
  row (add S S) [S2, S2, S2, S2, S2] (all ex) ∧
  row (sub S S) [0, 0, n 0, 0, 0] (all ex) ∧
  row (mul M S) [Q, Q, Q, Q, Q] (all ex) ∧
  row (fms M S S) [Q, Q1, Q1, Q, Q] (all nx) ∧
  ([mul S S, quo S M].all fun g => row g [0, 0, 0, S, 0] (all un)) ∧
  row (mul S (n S)) [n 0, n 0, n S, n 0, n 0] (all un) ∧
  row (fma S S S) [S, S, S, S2, S] (all un) ∧
  row (fms S S S) [n S, n 0, n S, n 0, n S] (all un) ∧
  ([quo M M, quo S S].all fun g => row g [one, one, one, one, one] (all ex)) ∧
  row (root M) [R1, R1, R1, R, R1] (all nx) ∧
  row (root S) [H, H, H, H, H] (all ex) ∧
  ([root (n S), root (n M)].all fun g => row g [nan, nan, nan, nan, nan] (all nv))

/-- Packed decimal (R103–R106) and scalar saturating fixed-point (R120, R121). -/
def Obligations.PackedDecimalAndFixedPointResults : Prop :=
  ∀ (x : CtxId) (rd a b : Reg5) (ew : BitVec 2) (s : State),
    let i := ctxIdx x
    let t := s.start i false
    let u := (t.g i a.toNat).toNat
    let v := (t.g i b.toNat).toNat
    let dc := t.xcsr i csrDcsr
    let digit (w k : Nat) : Nat := w / 16 ^ (k + 1) % 16
    let valid (w : Nat) : Bool := (List.range 15).all (fun k => decide (digit w k ≤ 9)) && (w % 16 == 12 || w % 16 == 13 || w % 16 == 15)
    let mag (w : Nat) : Nat := ((List.range 15).map fun k => digit w k * 10 ^ k).sum
    let val (w : Nat) : Int := if w % 16 = 13 then -(mag w : Int) else (mag w : Int)
    let holds (w : W64) (z : Int) : Prop := valid w.toNat = true ∧ mag w.toNat = z.natAbs % 10 ^ 15 ∧
      w.toNat % 16 = (if z < 0 ∧ z.natAbs % 10 ^ 15 ≠ 0 then 13 else 12)
    let timed (w : State) : State := w.setCtx i { w.ctx i with lastTime := 0 }
    let at_ (k : Instr) (w : State) : Prop := ∃ y, exec k s = .next y ∧ timed y = timed w
    let flag (k : Nat) : State := t.setXcsr i csrDcsr (setBit dc k true)
    let bad (k : Instr) : Prop := if bitAt dc 9 = true then at_ k ((flag 1).takeTrap i { code := 0x0C }) else at_ k ((flag 1).finish i false)
    let gives (k : Instr) (ok : Bool) (z : Int) : Prop :=
      if ok = false then bad k
      else if z.natAbs < 10 ^ 15 then ∃ w : W64, at_ k ((t.setG i rd.toNat w).finish i false) ∧ holds w z
      else if bitAt dc 10 = true then at_ k ((flag 2).takeTrap i { code := 0x0D })
      else ∃ w : W64, at_ k (((flag 2).setG i rd.toNat w).finish i false) ∧ holds w z
    let plain (k : Instr) (ok : Bool) (w : W64) : Prop := if ok then at_ k ((t.setG i rd.toNat w).finish i false) else bad k
    let both := valid u && valid v
    let sgn (n : Int) (m : Nat) : Int := if n < 0 then -(m : Int) else m
    let m := (val u).natAbs
    let q := m / 10 ^ v
    let r := m % 10 ^ v
    let half (k : Instr) (up : Prop) [Decidable up] : Prop := gives k (valid u) (if 16 ≤ v then 0 else sgn (val u) (if up then q + 1 else q))
    (s.canIssue i profKE false false = true →
      gives (.dadd x rd a b) both (val u + val v) ∧ gives (.dsub x rd a b) both (val u - val v) ∧ gives (.dmul x rd a b) both (val u * val v) ∧
      gives (.dneg x rd a) (valid u) (-val u) ∧ gives (.dshl x rd a b) (valid u) (val u * 10 ^ (min v 15)) ∧
      half (.dshr x rd a b) False ∧ half (.dshre x rd a b) (10 ^ v < 2 * r ∨ (2 * r = 10 ^ v ∧ q % 2 = 1)) ∧
      half (.dshra x rd a b) (10 ^ v ≤ 2 * r) ∧ gives (.itod x rd a) true (t.g i a.toNat).toInt ∧
      plain (.dcmp x rd a b) both (if val u < val v then -1 else if val u = val v then 0 else 1) ∧
      plain (.dtoi x rd a) (valid u) (BitVec.ofInt 64 (val u)) ∧
      exec (.dval x rd a) s = .next ((t.setG i rd.toNat (if valid u then 1 else 0)).finish i false)) ∧
    (s.canIssue i profE false false = true →
      let n := 8 * 2 ^ ew.toNat
      let ub (w : Nat) : Nat := w % 2 ^ n
      let sb (w : Nat) : Int := if ub w < 2 ^ (n - 1) then (ub w : Int) else (ub w : Int) - 2 ^ n
      let lo : Int := -(2 ^ (n - 1))
      let hi : Int := 2 ^ (n - 1) - 1
      let sat (lo hi z : Int) : Int := min (max z lo) hi
      let fix (k : Instr) (z : Int) (sat : Bool) : Prop :=
        at_ k (((if sat then flag 3 else t).setG i rd.toNat (BitVec.ofInt 64 z)).finish i false)
      let clamped (k : Instr) (lo hi z : Int) : Prop := fix k (sat lo hi z) (decide (z < lo) || decide (hi < z))
      let nearest (z y d : Int) : Prop := 2 * (y * d - z).natAbs ≤ d.natAbs
      let tie (z y d : Int) : Prop := 2 * (y * d - z).natAbs = d.natAbs
      let e := min (ub v) n
      clamped (.sadd x ew rd a b) lo hi (sb u + sb v) ∧ clamped (.ssub x ew rd a b) lo hi (sb u - sb v) ∧
      clamped (.saddu x ew rd a b) 0 (2 ^ n - 1) ((ub u : Int) + ub v) ∧ clamped (.ssubu x ew rd a b) 0 (2 ^ n - 1) ((ub u : Int) - ub v) ∧
      (∃ y : Int, nearest (sb u * sb v) y (2 ^ (n - 1)) ∧ (tie (sb u * sb v) y (2 ^ (n - 1)) → y % 2 = 0) ∧ clamped (.qmule x ew rd a b) lo hi y) ∧
      (∃ y : Int, nearest (sb u * sb v) y (2 ^ (n - 1)) ∧ (tie (sb u * sb v) y (2 ^ (n - 1)) → (sb u * sb v).natAbs < (y * 2 ^ (n - 1)).natAbs) ∧
        clamped (.qmula x ew rd a b) lo hi y) ∧
      (∃ y : Int, nearest (sb u) y (2 ^ e) ∧ (tie (sb u) y (2 ^ e) → y % 2 = 0) ∧ fix (.rshre x ew rd a b) y false) ∧
      (∃ y : Int, nearest (sb u) y (2 ^ e) ∧ (tie (sb u) y (2 ^ e) → (sb u).natAbs < (y * 2 ^ e).natAbs) ∧ fix (.rshra x ew rd a b) y false))

/-- Vector integer instructions (R117–R120, R131, R132). -/
def Obligations.VectorIntegerResults : Prop :=
  ∀ (x : CtxId) (ew : BitVec 2) (o : VF) (s : State), s.canIssue (ctxIdx x) profE false false = true →
    let i := ctxIdx x
    let t := s.start i false
    let w := 8 * 2 ^ ew.toNat
    let vl := t.vl i w
    let d := vnum o.xd o.vd
    let av (k : Nat) : Nat := t.vel i (vnum o.xs1 o.vs1) w k
    let bv (k : Nat) : Nat := t.vel i (vnum o.xs2 o.vs2) w k
    let sa (k : Nat) : Int := (BitVec.ofNat w (av k)).toInt
    let sb (k : Nat) : Int := (BitVec.ofNat w (bv k)).toInt
    let live (k : Nat) : Bool := t.active i o.pg k
    let acts := (List.range vl).filter live
    let passes := (t.vwidth i + 255) / 256
    let legal (kd k1 k2 : VKind) : Bool := t.fieldOk i kd o.xd o.vd && t.fieldOk i k1 o.xs1 o.vs1 && t.fieldOk i k2 o.xs2 o.vs2 &&
      decide (fld (t.xcsr i csrVstart) 0 16 = 0)
    let disj (a b : Nat) : Bool := decide (a + t.vgroup i ≤ b) || decide (b + t.vgroup i ≤ a)
    let done (c : Instr) (tm : Nat) (dst : List Loc) (csrs : List Nat) (post : State → Prop) : Prop :=
      ∃ u, exec c s = .next u ∧ t.keeps u i dst csrs ∧ t.movedOn u i ∧ t.keepsMemory u i ∧ (u.ctx i).lastTime = tm ∧ post u
    let either (c : Instr) (maj op : Nat) (ok : Bool) (good : Prop) : Prop :=
      if ok then good else exec c s = .next (t.takeTrap i (trapIllegal (encV maj o (ew.toNat * 8 + op))))
    let written (u : State) (fn : Nat → Int) : Prop :=
      ∀ k, k < vl → u.vel i d w k = (if live k then (fn k % 2 ^ w).toNat else t.vel i d w k)
    let el (c : Instr) (maj op tm : Nat) (k1 k2 : VKind) (fn : Nat → Int) : Prop :=
      either c maj op (legal .v k1 k2) (done c (tm + passes - 1) (t.vlocs i d) [] fun u => written u fn)
    let v (c : Instr) (maj op tm : Nat) (fn : Nat → Int) : Prop := el c maj op tm .v .v fn
    let sat (z : Int) : Int := min (max z (-(2 ^ (w - 1)))) (2 ^ (w - 1) - 1)
    let satu (z : Int) : Int := min (max z 0) (2 ^ w - 1)
    let fx (c : Instr) (op tm : Nat) (raw cut : Nat → Int) : Prop :=
      either c 0x2C op (legal .v .v .v) (done c (tm + passes - 1) (t.vlocs i d) [csrDcsr] fun u => written u cut ∧
        u.xcsr i csrDcsr = if acts.any fun k => decide (cut k ≠ raw k) then setBit (t.xcsr i csrDcsr) 3 true else t.xcsr i csrDcsr)
    let n (k : Nat) : Nat := min (bv k) w
    v (.vadd x ew o) 0x2A 0 1 (fun k => (av k : Int) + bv k) ∧ v (.vsub x ew o) 0x2A 1 1 (fun k => (av k : Int) - bv k) ∧
    v (.vmul x ew o) 0x2A 2 4 (fun k => (av k : Int) * bv k) ∧ v (.vmulh x ew o) 0x2A 3 4 (fun k => sa k * sb k / 2 ^ w) ∧
    v (.vmin x ew o) 0x2A 4 1 (fun k => min (sa k) (sb k)) ∧ v (.vmax x ew o) 0x2A 5 1 (fun k => max (sa k) (sb k)) ∧
    v (.vminu x ew o) 0x2A 6 1 (fun k => min (av k : Int) (bv k)) ∧ v (.vmaxu x ew o) 0x2A 7 1 (fun k => max (av k : Int) (bv k)) ∧
    v (.vand x ew o) 0x2B 0 1 (fun k => ((av k &&& bv k : Nat) : Int)) ∧ v (.vor x ew o) 0x2B 1 1 (fun k => ((av k ||| bv k : Nat) : Int)) ∧
    v (.vxor x ew o) 0x2B 2 1 (fun k => ((av k ^^^ bv k : Nat) : Int)) ∧
    v (.vandn x ew o) 0x2B 3 1 (fun k => ((BitVec.ofNat w (av k) &&& ~~~BitVec.ofNat w (bv k)).toNat : Int)) ∧
    v (.vshl x ew o) 0x2B 4 1 (fun k => (av k : Int) * 2 ^ (bv k % w)) ∧ v (.vshr x ew o) 0x2B 5 1 (fun k => (av k : Int) / 2 ^ (bv k % w)) ∧
    v (.vsar x ew o) 0x2B 6 1 (fun k => sa k / 2 ^ (bv k % w)) ∧ el (.viota x ew o) 0x2B 7 1 .none .none (fun k => (k : Int)) ∧
    fx (.vsadd x ew o) 0 1 (fun k => sa k + sb k) (fun k => sat (sa k + sb k)) ∧
    fx (.vsaddu x ew o) 1 1 (fun k => (av k : Int) + bv k) (fun k => satu ((av k : Int) + bv k)) ∧
    fx (.vssub x ew o) 2 1 (fun k => sa k - sb k) (fun k => sat (sa k - sb k)) ∧
    fx (.vssubu x ew o) 3 1 (fun k => (av k : Int) - bv k) (fun k => satu ((av k : Int) - bv k)) ∧
    fx (.vqmule x ew o) 4 4 (fun k => rndE (sa k * sb k) (w - 1)) (fun k => sat (rndE (sa k * sb k) (w - 1))) ∧
    fx (.vqmula x ew o) 5 4 (fun k => rndA (sa k * sb k) (w - 1)) (fun k => sat (rndA (sa k * sb k) (w - 1))) ∧
    fx (.vrshre x ew o) 6 1 (fun k => rndE (sa k) (n k)) (fun k => rndE (sa k) (n k)) ∧
    fx (.vrshra x ew o) 7 1 (fun k => rndA (sa k) (n k)) (fun k => rndA (sa k) (n k)) ∧
    el (.vsplat x ew o) 0x2F 0 1 .g .none (fun _ => ((t.g i o.vs1.toNat).toNat : Int)) ∧
    (let k := (t.g i o.vs2.toNat).toNat
     either (.vext x ew o) 0x2F 1 (legal .g .v .g && o.pg == 0) (done (.vext x ew o) (1 + passes) [.g o.vd.toNat] [] fun u =>
       o.vd ≠ 0 → u.g i o.vd.toNat = BitVec.ofNat 64 (if k < vl then av k else 0)) ∧
     either (.vins x ew o) 0x2F 2 (legal .v .g .g && o.pg == 0) (done (.vins x ew o) passes (t.vlocs i d) [] fun u =>
       ∀ j, j < vl → u.vel i d w j = if j = k then (t.g i o.vs1.toNat).toNat % 2 ^ w else t.vel i d w j)) ∧
    (let a1 := vnum o.xs1 o.vs1
     let far := disj d a1
     either (.vperm x ew o) 0x2F 3 (legal .v .v .v && far && disj d (vnum o.xs2 o.vs2)) (done (.vperm x ew o) (2 * passes) (t.vlocs i d) [] fun u =>
       written u fun k => if bv k < vl then (av (bv k) : Int) else 0) ∧
     either (.vcomp x ew o) 0x2F 4 (legal .v .v .none && far) (done (.vcomp x ew o) (2 * passes) (t.vlocs i d) [] fun u =>
       ∀ k, k < vl → u.vel i d w k = (acts.map av).getD k 0)) ∧
    (let red (c : Instr) (op : Nat) (ok : Int → Prop) : Prop :=
       either c 0x2F op (legal .g .v .none) (done c (2 + 2 * passes) [.g o.vd.toNat] [] fun u =>
         ∃ z : Int, ok z ∧ (o.vd ≠ 0 → u.g i o.vd.toNat = BitVec.ofInt 64 z))
     red (.vradd x ew o) 5 (fun z => z = (acts.map sa).sum) ∧
     red (.vrmin x ew o) 6 (fun z => (acts = [] → z = 2 ^ (w - 1) - 1) ∧ (acts ≠ [] → z ∈ acts.map sa) ∧ ∀ k ∈ acts, z ≤ sa k) ∧
     red (.vrmax x ew o) 7 (fun z => (acts = [] → z = -(2 ^ (w - 1))) ∧ (acts ≠ [] → z ∈ acts.map sa) ∧ ∀ k ∈ acts, sa k ≤ z))

/-- Floating point and decimal in lanes (R122–R124). -/
def Obligations.VectorFloatAndDecimalResults : Prop :=
  ∀ (x : CtxId) (p : Bool) (o : VF) (s : State), s.canIssue (ctxIdx x) profE false false = true →
    let i := ctxIdx x
    let t := s.start i false
    let d := vnum o.xd o.vd
    let fc := t.xcsr i csrFcsr
    let dc := t.xcsr i csrDcsr
    let live (k : Nat) : Bool := t.active i o.pg k
    let acts (w : Nat) : List Nat := (List.range (t.vl i w)).filter live
    let el (xb : Bool) (r : Reg5) (w k : Nat) : Nat := t.vel i (vnum xb r) w k
    let legal (kd k1 k2 : VKind) : Bool := t.fieldOk i kd o.xd o.vd && t.fieldOk i k1 o.xs1 o.vs1 && t.fieldOk i k2 o.xs2 o.vs2 &&
      decide (fld (t.xcsr i csrVstart) 0 16 = 0)
    let timed (w : State) : State := w.setCtx i { w.ctx i with lastTime := 0 }
    let traps (c : Instr) (f : State) (k : Trap) : Prop := ∃ y, exec c s = .next y ∧ timed y = timed (f.takeTrap i k)
    let done (c : Instr) (dst : List Loc) (csrs : List Nat) (post : State → Prop) : Prop :=
      ∃ u, exec c s = .next u ∧ t.keeps u i dst csrs ∧ t.movedOn u i ∧ t.keepsMemory u i ∧ post u
    let either (c : Instr) (func5 : Nat) (ok : Bool) (good : Prop) : Prop :=
      if ok then good else exec c s = .next (t.takeTrap i (trapIllegal (encV 0x2D o func5)))
    let flagged (c : Instr) (fl : FFlags) (dst : List Loc) (post : State → Prop) : Prop :=
      let set := fc ||| BitVec.ofNat 64 (fl.bits * 16)
      if fl.bits &&& fld fc 9 5 ≠ 0 then traps c (t.setXcsr i csrFcsr (setFld set 14 5 fl.bits)) { code := 0x0B }
      else done c dst [csrFcsr] fun u => (u.xcsr i csrFcsr = if fl.bits = 0 then fc else set) ∧ post u
    let f := fmtOf p
    let w := if p then 32 else 64
    let A (k : Nat) : Nat := el o.xs1 o.vs1 w k
    let B (k : Nat) : Nat := el o.xs2 o.vs2 w k
    let D (k : Nat) : Nat := el o.xd o.vd w k
    let env (r : Nat) : FEnv := { rm := r, ftz := bitAt fc 3, ufEn := bitAt fc 12 }
    let r := fld fc 0 3
    let union (g : Nat → FFlags) (w : Nat) : FFlags :=
      { nv := (acts w).any fun k => (g k).nv, dz := (acts w).any fun k => (g k).dz, ovf := (acts w).any fun k => (g k).ovf
        uf := (acts w).any fun k => (g k).uf, nx := (acts w).any fun k => (g k).nx }
    let vf (c : Instr) (op : Nat) (ok : Bool) (q : Nat → FRes) : Prop :=
      either c (p.toNat * 8 + op) (legal .v .v .v && ok) (flagged c (union (fun k => (q k).fl) w) (t.vlocs i d) fun u =>
        ∀ k, k < t.vl i w → u.vel i d w k = (if live k then (q k).bits % 2 ^ w else D k))
    let rounds := decide (1 ≤ r) && decide (r ≤ 5)
    let cmp (c : Instr) (func5 : Nat) (p : Bool) (op : Nat) : Prop :=
      let w := if p then 32 else 64
      let q (k : Nat) : Bool × FFlags := (fmtOf p).cmp (env 1) op (el o.xs1 o.vs1 w k) (el o.xs2 o.vs2 w k)
      either c func5 (legal .p .v .v) (flagged c (union (fun k => (q k).2) w) [.p o.vd.toNat] fun u =>
        o.vd ≠ 0 → ∀ k, k < 128 → (u.p i o.vd.toNat).getLsbD k = (decide (k < t.vl i w) && live k && (q k).1))
    let lanes := acts 128
    let la (k : Nat) : Nat := el o.xs1 o.vs1 128 k
    let lb (k : Nat) : Nat := el o.xs2 o.vs2 128 k
    let holds (n w : Nat) (z : Int) : Prop := w < 16 ^ (n + 1) ∧ decValid n w = true ∧ decMag n w = z.natAbs % 10 ^ n ∧
      w % 16 = (if z < 0 ∧ z.natAbs % 10 ^ n ≠ 0 then 13 else 12)
    let flag (k : Nat) : State := t.setXcsr i csrDcsr (setBit dc k true)
    let ends (c : Instr) (ok big : Bool) (post : State → Prop) : Prop :=
      if ok = false then (if bitAt dc 9 = true then traps c (flag 1) { code := 0x0C }
        else done c [] [csrDcsr] fun u => u.xcsr i csrDcsr = setBit dc 1 true)
      else if big then (if bitAt dc 10 = true then traps c (flag 2) { code := 0x0D }
        else done c (t.vlocs i d) [csrDcsr] fun u => u.xcsr i csrDcsr = setBit dc 2 true ∧ post u)
      else done c (t.vlocs i d) [] post
    let dec (c : Instr) (func5 : Nat) (k2 : VKind) (n1 n2 : Nat) (two : Bool) (z : Nat → Int) : Prop :=
      either c func5 (legal .v .v k2) (ends c (lanes.all fun k => decValid n1 (la k % 16 ^ (n1 + 1)) && (!two || decValid 31 (lb k)))
        (lanes.any fun k => decide (10 ^ n2 ≤ (z k).natAbs)) fun u =>
          ∀ k, k < t.vl i 128 → if live k then holds n2 (u.vel i d 128 k) (z k) else u.vel i d 128 k = el o.xd o.vd 128 k)
    let va (k : Nat) : Int := decVal 31 (la k)
    let vb (k : Nat) : Int := decVal 31 (lb k)
    let e (k : Nat) : Nat := lb k % 2 ^ 64
    let quo (k : Nat) : Nat := (va k).natAbs / 10 ^ e k
    let rest (k : Nat) : Nat := (va k).natAbs % 10 ^ e k
    let shr (k : Nat) (up : Bool) : Int := if 32 ≤ e k then 0 else (if va k < 0 then -1 else 1) * ((if up then quo k + 1 else quo k : Nat) : Int)
    vf (.vfadd x p o) 0 rounds (fun k => f.add (env r) false (A k) (B k)) ∧ vf (.vfsub x p o) 1 rounds (fun k => f.add (env r) true (A k) (B k)) ∧
    vf (.vfmul x p o) 2 rounds (fun k => f.mul (env r) (A k) (B k)) ∧ vf (.vfma x p o) 3 rounds (fun k => f.fma (env r) false false (A k) (B k) (D k)) ∧
    vf (.vfmin x p o) 4 true (fun k => f.minmax (env 1) false (A k) (B k)) ∧ vf (.vfmax x p o) 5 true (fun k => f.minmax (env 1) true (A k) (B k)) ∧
    cmp (.vflt x p o) (p.toNat * 8 + 6) p 1 ∧ cmp (.vfle x p o) (p.toNat * 8 + 7) p 2 ∧ cmp (.vfeqD x o) 0x1B false 0 ∧
    cmp (.vfeqS x o) 0x1C true 0 ∧
    dec (.vdadd x o) 0x10 .v 31 31 true (fun k => va k + vb k) ∧ dec (.vdsub x o) 0x11 .v 31 31 true (fun k => va k - vb k) ∧
    dec (.vdmul x o) 0x12 .v 31 31 true (fun k => va k * vb k) ∧ dec (.vdneg x o) 0x13 .none 31 31 false (fun k => -va k) ∧
    dec (.vdshl x o) 0x14 .v 31 31 false (fun k => va k * 10 ^ min (e k) 31) ∧ dec (.vdshr x o) 0x15 .v 31 31 false (fun k => shr k false) ∧
    dec (.vdshre x o) 0x16 .v 31 31 false (fun k =>
      shr k (decide (10 ^ e k < 2 * rest k) || (decide (2 * rest k = 10 ^ e k) && decide (quo k % 2 = 1)))) ∧
    dec (.vdshra x o) 0x17 .v 31 31 false (fun k => shr k (decide (10 ^ e k ≤ 2 * rest k))) ∧
    dec (.vdwiden x o) 0x18 .none 15 31 false (fun k => decVal 15 (la k % 16 ^ 16)) ∧ dec (.vdnarrow x o) 0x19 .none 31 15 false va ∧
    (let z := el o.xd o.vd 128 0
     let sum := decVal 31 z + (lanes.map va).sum
     either (.vdrsum x o) 0x1A (legal .v .v .none) (ends (.vdrsum x o) (decValid 31 z && lanes.all fun k => decValid 31 (la k))
       (decide (10 ^ 31 ≤ sum.natAbs)) fun u => holds 31 (u.vel i d 128 0) sum ∧
         ∀ k, 0 < k → k < t.vl i 128 → u.vel i d 128 k = el o.xd o.vd 128 k))

/-- Predicate operations and compares (R115, R125). -/
def Obligations.PredicateResults : Prop :=
  ∀ (x : CtxId) (pd p1 p2 : Pred3) (rd a b : Reg5) (hi : Bool) (ew : BitVec 2) (o : VF) (s : State),
    let i := ctxIdx x
    let t := s.start i false
    (s.canIssue i profES false false = true →
      let P (q : Pred3) : W128 := t.p i q.toNat
      let g (r : Reg5) : Nat := (t.g i r.toNat).toNat
      let bits (c : Instr) (fn : Nat → Bool) : Prop :=
        ∃ v : W128, exec c s = .next ((t.setP i pd.toNat v).finish i false) ∧ ∀ k, k < 128 → v.getLsbD k = fn k
      let num (c : Instr) (tm : Nat) (ok : Nat → Prop) : Prop :=
        ∃ n : Nat, ok n ∧ exec c s = .next (((t.setTime i tm tm).setG i rd.toNat (BitVec.ofNat 64 n)).finish i false)
      bits (.pand x pd p1 p2) (fun k => (P p1).getLsbD k && (P p2).getLsbD k) ∧ bits (.por x pd p1 p2) (fun k => (P p1).getLsbD k || (P p2).getLsbD k) ∧
      bits (.pxor x pd p1 p2) (fun k => (P p1).getLsbD k != (P p2).getLsbD k) ∧ bits (.pandn x pd p1 p2) (fun k => (P p1).getLsbD k && !(P p2).getLsbD k) ∧
      bits (.pnot x pd p1) (fun k => !(P p1).getLsbD k) ∧ bits (.pwhile x pd a b) (fun k => decide (g a + k < g b)) ∧
      bits (.pfromg x pd a b) (fun k => if k < 64 then (t.g i a.toNat).getLsbD k else (t.g i b.toNat).getLsbD (k - 64)) ∧
      num (.pcnt x rd p1) 2 (fun n => n = (List.range 128).countP fun k => (P p1).getLsbD k) ∧
      num (.pffs x rd p1) 2 (fun n => n ≤ 128 ∧ (∀ k, k < n → (P p1).getLsbD k = false) ∧ (n < 128 → (P p1).getLsbD n = true)) ∧
      num (.ptog x rd p1 hi) 1 (fun n => n = (P p1).toNat / (if hi then 2 ^ 64 else 1) % 2 ^ 64)) ∧
    (s.canIssue i profE false false = true →
      let w := 8 * 2 ^ ew.toNat
      let av (w k : Nat) : Nat := t.vel i (vnum o.xs1 o.vs1) w k
      let bv (w k : Nat) : Nat := t.vel i (vnum o.xs2 o.vs2) w k
      let live (k : Nat) : Bool := t.active i o.pg k
      let dc := t.xcsr i csrDcsr
      let legal (k2 : VKind) : Bool := t.fieldOk i .p o.xd o.vd && t.fieldOk i .v o.xs1 o.vs1 && t.fieldOk i k2 o.xs2 o.vs2 &&
        decide (fld (t.xcsr i csrVstart) 0 16 = 0)
      let done (c : Instr) (dst : List Loc) (csrs : List Nat) (post : State → Prop) : Prop :=
        ∃ u, exec c s = .next u ∧ t.keeps u i dst csrs ∧ t.movedOn u i ∧ t.keepsMemory u i ∧ post u
      let either (c : Instr) (func5 : Nat) (ok : Bool) (good : Prop) : Prop :=
        if ok then good else exec c s = .next (t.takeTrap i (trapIllegal (encV 0x30 o func5)))
      let sets (c : Instr) (w : Nat) (fn : Nat → Bool) : Prop :=
        done c [.p o.vd.toNat] [] fun u => o.vd ≠ 0 → ∀ k, k < 128 → (u.p i o.vd.toNat).getLsbD k = (decide (k < t.vl i w) && live k && fn k)
      let cmp (c : Instr) (cond : Nat) (fn : Nat → Bool) : Prop := either c (0x10 + 4 * ew.toNat + cond) (legal .v) (sets c w fn)
      let dcmp (c : Instr) (func5 : Nat) (fn : Int → Int → Bool) : Prop :=
        either c func5 (legal .v) (if ((List.range (t.vl i 128)).filter live).all fun k => decValid 31 (av 128 k) && decValid 31 (bv 128 k)
          then sets c 128 fun k => fn (decVal 31 (av 128 k)) (decVal 31 (bv 128 k))
          else if bitAt dc 9 = true then
            ∃ y : State, exec c s = .next y ∧ y.setCtx i { y.ctx i with lastTime := 0 } =
              (let z := (t.setXcsr i csrDcsr (setBit dc 1 true)).takeTrap i { code := 0x0C }; z.setCtx i { z.ctx i with lastTime := 0 })
          else done c [] [csrDcsr] fun u => u.xcsr i csrDcsr = setBit dc 1 true)
      cmp (.vcmpeq x ew o) 0 (fun k => av w k == bv w k) ∧ cmp (.vcmpne x ew o) 1 (fun k => av w k != bv w k) ∧
      cmp (.vcmplt x ew o) 2 (fun k => decide ((BitVec.ofNat w (av w k)).toInt < (BitVec.ofNat w (bv w k)).toInt)) ∧
      cmp (.vcmpltu x ew o) 3 (fun k => decide (av w k < bv w k)) ∧
      dcmp (.vdceq x o) 10 (fun a b => decide (a = b)) ∧ dcmp (.vdclt x o) 11 (fun a b => decide (a < b)) ∧
      dcmp (.vdcle x o) 12 (fun a b => decide (a ≤ b)) ∧
      either (.vdval x o) 13 (legal .none) (sets (.vdval x o) 128 fun k => decValid 31 (av 128 k)))

/-- Vector memory instructions (R126–R130). -/
def Obligations.VectorMemoryAccessesByElement : Prop :=
  ∀ (x : CtxId) (ew : BitVec 2) (o : VF) (s : State), s.canIssue (ctxIdx x) profE false false = true →
    let i := ctxIdx x
    let un := unitOf i
    let dm := domOf un
    let t := s.start i false
    let d := vnum o.xd o.vd
    let base := t.g i o.vs1.toNat
    let legal (op : Nat) : Bool := t.fieldOk i .v o.xd o.vd && t.fieldOk i .g o.xs1 o.vs1 &&
      t.fieldOk i (if op ≤ 1 then .none else if op ≤ 3 then .g else .v) o.xs2 o.vs2 && (decide (op < 6) || ew == 0) &&
      !((op == 4 || op == 6) && overlap (t.vgroup i) d (vnum o.xs2 o.vs2))
    ∀ l ∈ [(Instr.vld x ew o, 0), (.vst x ew o, 1), (.vlds x ew o, 2), (.vsts x ew o, 3), (.vgath x ew o, 4), (.vscat x ew o, 5),
        (.vgathq x ew o, 6), (.vscatq x ew o, 7)],
      let c := l.1
      let op := l.2
      let sz := if 6 ≤ op then 16 else 2 ^ ew.toNat
      let ix (k : Nat) : Nat := t.vel i (vnum o.xs2 o.vs2) (8 * sz) k
      let addr (k : Nat) : W64 := if op ≤ 1 then base + BitVec.ofNat 64 (k * sz) else if op ≤ 3 then base + BitVec.ofNat 64 k * t.g i o.vs2.toNat
        else if op ≤ 5 then base + BitVec.ofNat 64 (ix k * sz) else base + BitVec.ofNat 64 (ix k % 2 ^ 64 * 16)
      let vs := fld (t.xcsr i csrVstart) 0 16
      let els := (List.range (t.vl i (8 * sz))).filter fun k => t.active i o.pg k && decide (vs ≤ k)
      (legal op = false → exec c s = .next (t.takeTrap i (trapIllegal (encV 0x2E o (ew.toNat * 8 + op))))) ∧
      (legal op = true →
        (∀ k r, els = k :: r → (addr k).toNat % sz ≠ 0 →
          exec c s = .next ((t.setXcsr i csrVstart (BitVec.ofNat 64 k)).takeTrap i { code := 0x05, val := addr k })) ∧
        (∀ pa : Nat → Nat × Attr, (∀ k ∈ els, (addr k).toNat % sz = 0 ∧ t.xlateEng i (if op % 2 = 0 then .read else .write) (addr k) = .ok (pa k)) →
          (op % 2 = 0 → t.denOn un = true → t.l2En dm = true →
            (∀ k ∈ els, t.memStatus (pa k).1 sz = none ∧ (pa k).2.cached = true ∧ t.sbNear un (pa k).1 sz = none ∧
              t.sideHit un i ((pa k).1 / 64) = none ∧ (t.exe un).hasL1d ((pa k).1 / 64) = true) →
            ∃ u, exec c s = .next u ∧ u.xcsr i csrVstart = 0 ∧ t.keeps u i (t.vlocs i d) [csrVstart] ∧ t.movedOn u i ∧ t.sameBytes u ∧
              ∀ k, k < t.vl i (8 * sz) → u.vel i d (8 * sz) k =
                if k ∈ els then leVal ((List.range sz).map fun j => t.domByte dm ((pa k).1 + j)) else t.vel i d (8 * sz) k) ∧
          (op % 2 = 1 → (t.exe un).sb.length + els.length ≤ 16 →
            (∀ k ∈ els, t.region (pa k).1 ≠ some .csr ∧ t.region (pa k).1 ≠ some .bell ∧ t.accessStatus i .write (pa k).2 (pa k).1 sz = none ∧
              ∀ w, t.l2Way dm ((pa k).1 / 64) = some w → (t.l2At (l2Key dm ((pa k).1 / 64 % l2Sets dm) w)).ecc = .good) →
            ∃ u, exec c s = .next u ∧ u.xcsr i csrVstart = 0 ∧ t.keeps u i [] [csrVstart] ∧ t.movedOn u i ∧ t.sameBytes u ∧
              (u.exe un).sb = (t.exe un).sb ++ els.map fun k => SbEntry.mk i (pa k).1
                ((List.range sz).map fun j => BitVec.ofNat 8 (t.vel i d (8 * sz) k / 256 ^ j)) (pa k).2 (t.ctx i).bid)))

/-- Links (R176–R180) and local movers (R350–R352). -/
def Obligations.LinkInstructionsAndLocalKicks : Prop :=
  (∀ (x : CtxId) (port : BitVec 2) (hi : BitVec 1) (rd a b : Reg5) (sl : Fin 8) (e : Fin 16) (pp : Fin 4) (s : State),
     let i := ctxIdx x
     (s.canIssue i profE false false = true →
       let t := s.start i false
       let jn := (t.ctx i).job
       let out := (t.job jn).linkAt (t.ctx i).stage port.toNat true
       let inn := (t.job jn).linkAt (t.ctx i).stage port.toNat false
       let fault (c : Instr) : Prop := exec c s = .next (t.takeTrap i { code := 0x15, val := port.setWidth 64 })
       let n := b.toNat + 32 * hi.toNat
       let vOk := !(t.classT i && hi == 1) && decide (n % 4 = 0)
       let bad (c : Instr) (w : BitVec 32) : Prop := exec c s = .next (t.takeTrap i (trapIllegal w))
       let sends (c : Instr) (tag : BitVec 16) (eos : Bool) (data : Line) (r : State) : Prop :=
         ∀ k, out = some k → (t.link jn k).eosSent = false →
           let l := r.link jn k
           k < (r.job jn).links.length →
           ∃ u, exec c s = .next u ∧ r.keepsRegs u i [] [] ∧ (u.exe (unitOf i)).sb = [] ∧
             (if l.credits = 0 then (u.ctx i).st = .waitUnit ∧ (u.ctx i).wait = .linkSend port.toNat tag eos data ∧ (u.link jn k).fly = l.fly
              else r.movedOn u i ∧ (u.link jn k).fly = l.fly ++ [{ data := data, tag := tag, eos := eos }] ∧
                (u.link jn k).credits = l.credits - 1 ∧ (u.link jn k).eosSent = eos)
       let noSend (c : Instr) : Prop := (out = none ∨ ∃ k, out = some k ∧ (t.link jn k).eosSent = true) → fault c
       let recvs (c : Instr) (dst : List Loc) (wait : Wait) (pay : Flit → State → Prop) : Prop :=
         (inn = none → fault c) ∧
         ∀ k, inn = some k → k < (t.job jn).links.length →
           let l := t.link jn k
           (l.eosTaken = true → exec c s = .next ((t.setG i rd.toNat 0x10000).finish i false)) ∧
           (l.eosTaken = false → l.buf = [] → exec c s = .next (t.setCtx i { t.ctx i with st := .waitUnit, wait := wait })) ∧
           (∀ f r, l.eosTaken = false → l.buf = f :: r → ∃ u, exec c s = .next u ∧ t.movedOn u i ∧ t.keepsRegs u i (dst ++ [.g rd.toNat]) [] ∧
             (u.link jn k).buf = r ∧ (u.link jn k).back = (if f.jend then l.back else l.back + 1) ∧ (u.link jn k).eosTaken = f.eos ∧
             (rd ≠ 0 → u.g i rd.toNat = BitVec.ofNat 64 (f.tag.toNat + (if f.eos then 65536 else 0))) ∧
             (f.eos = true → t.keepsRegs u i [.g rd.toNat] [] ∧ u.execs = (t.finish i false).execs) ∧ (f.eos = false → pay f u))
       (∀ r v, t.loadItem i (t.g i a.toNat) 64 true = .ok r v →
         sends (.lsend x port a b) ((t.g i b.toNat).setWidth 16) false (BitVec.ofNat 512 v) (r.sbDrain (unitOf i))) ∧ noSend (.lsend x port a b) ∧
       (if vOk then sends (.lsendv x port hi a b) ((t.g i a.toNat).setWidth 16) false (t.v i (n + 3) ++ t.v i (n + 2) ++ t.v i (n + 1) ++ t.v i n)
           (t.sbDrain (unitOf i)) ∧ noSend (.lsendv x port hi a b)
         else bad (.lsendv x port hi a b) (encLink 1 port hi 0 a b)) ∧
       sends (.lsende x port a) ((t.g i a.toNat).setWidth 16) true 0 (t.sbDrain (unitOf i)) ∧ noSend (.lsende x port a) ∧
       (∃ v : W64, exec (.lstat x port rd) s = .next ((t.setG i rd.toNat v).finish i false) ∧
         ((∀ k, out = some k → (t.link jn k).credits ≤ 8) → (∀ k, inn = some k → (t.link jn k).buf.length ≤ 9) →
           (out = none → fld v 0 6 = 0) ∧ (inn = none → fld v 8 6 = 0) ∧ fld v 6 2 = 0 ∧ fld v 14 50 = 0 ∧
           (∀ k, out = some k → let l := t.link jn k
             fld v 0 4 = l.credits ∧ bitAt v 4 = ((t.job jn).stageOf l.dst).ended ∧ bitAt v 5 = l.eosSent) ∧
           (∀ k, inn = some k → let l := t.link jn k
             fld v 8 4 = l.buf.length ∧ bitAt v 12 = ((l.buf.head?.map fun f => f.eos).getD false) ∧ bitAt v 13 = l.eosTaken))) ∧
       (let ad := t.g i a.toNat
        let c := Instr.lrecv x port rd a
        (inn.isSome = true → ad.toNat % 64 ≠ 0 → exec c s = .next (t.takeTrap i { code := 0x05, val := ad })) ∧
        ∀ p attr, ad.toNat % 64 = 0 → t.xlateEng i .write ad = .ok (p, attr) → t.accessStatus i .write attr p 64 = none →
          recvs c [] (.linkRecv port.toNat rd (some (p, attr)) 0) fun f u =>
            ∃ en, (u.exe (unitOf i)).sb.getLast? = some en ∧ en.addr = p ∧ en.attr = attr ∧ en.ctx = i ∧
              en.data = (List.range 64).map fun j => f.data.extractLsb' (8 * j) 8) ∧
       (if vOk then recvs (.lrecvv x port hi rd b) [.v n, .v (n + 1), .v (n + 2), .v (n + 3)] (.linkRecv port.toNat rd none n) fun f u =>
           ∀ j, j < 4 → u.v i (n + j) = f.data.extractLsb' (128 * j) 128
         else bad (.lrecvv x port hi rd b) (encLink 5 port hi rd 0 b))) ∧
     (let un := uIdx sl e
      (s.physLink un pp.val false = none → exec (.flitDelivery sl e pp) s = .next s) ∧
      (s.physLink un pp.val true = none → exec (.creditReturn sl e pp) s = .next s) ∧
      (∀ j k, s.physLink un pp.val false = some (j, k) → k < (s.job j).links.length →
        let l := s.link j k
        let dst := (s.job j).stageOf l.dst
        (l.fly = [] → exec (.flitDelivery sl e pp) s = .next s) ∧
        (∀ f r, l.fly = f :: r → ∃ u, exec (.flitDelivery sl e pp) s = .next u ∧ (u.link j k).fly = r ∧
          (dst.ended = true → (u.link j k).buf = l.buf ∧ (u.link j k).back = (if f.jend then l.back else l.back + 1) ∧
            ∀ y, u.ctx y = s.ctx y) ∧
          (dst.ended = false → (∀ p rd d vb, (s.ctx dst.ctx).wait = .linkRecv p rd d vb → p ≠ l.dstPort) →
            (u.link j k).buf = l.buf ++ [f] ∧ ∀ y, u.ctx y = s.ctx y) ∧
          (dst.ended = false → ∀ rd d vb, (s.ctx dst.ctx).wait = .linkRecv l.dstPort rd d vb → l.buf = [] → (s.ctx dst.ctx).epi = none →
            (u.link j k).buf = [] ∧ (u.ctx dst.ctx).st = .ready ∧ (u.ctx dst.ctx).wait = .none ∧ s.movedOn u dst.ctx ∧
            (rd ≠ 0 → u.g dst.ctx rd.toNat = BitVec.ofNat 64 (f.tag.toNat + (if f.eos then 65536 else 0)))))) ∧
      (∀ j k, s.physLink un pp.val true = some (j, k) → k < (s.job j).links.length →
        let l := s.link j k
        let src := (s.job j).stageOf l.src
        (l.back = 0 → exec (.creditReturn sl e pp) s = .next s) ∧
        (0 < l.back → ∃ u, exec (.creditReturn sl e pp) s = .next u ∧ (u.link j k).back = l.back - 1 ∧
          ((∀ p tag eos d, (s.ctx src.ctx).wait = .linkSend p tag eos d → p ≠ l.srcPort) →
            (u.link j k).credits = l.credits + 1 ∧ (u.link j k).fly = l.fly ∧ ∀ y, u.ctx y = s.ctx y) ∧
          (∀ tag eos d, (s.ctx src.ctx).wait = .linkSend l.srcPort tag eos d → (s.ctx src.ctx).epi = none →
            (u.link j k).credits = l.credits ∧ (u.link j k).fly = l.fly ++ [{ data := d, tag := tag, eos := eos }] ∧
            (u.ctx src.ctx).st = .ready ∧ s.movedOn u src.ctx))))) ∧
  (∀ (x : CtxId) (mode : BitVec 2) (rd a b : Reg5) (s : State), s.canIssue (ctxIdx x) profE false false = true →
     let i := ctxIdx x
     let t := s.start i false
     let n := i / 16
     let c := t.g i rd.toNat
     let count := c.toNat % 2 ^ 32
     let go := exec (.mvgo x mode rd a b) s
     let f := t.ctxFence i
     let m := f.mover n
     let mine := m.st = 4 ∧ m.kernel = false ∧ m.ctx = i % 16 ∧ m.job = (f.ctx i).job
     (mode = 3 → go = .next (t.takeTrap i (trapIllegal (encA 0x33 rd a b 24)))) ∧
     (mode ≠ 3 → fld c 32 32 ≠ 0 → go = .next (t.takeTrap i { code := 0x16 })) ∧
     (mode ≠ 3 → fld c 32 32 = 0 →
       (f.exe (unitOf i)).sb = [] ∧ (f.ctx i).log = [] ∧
       ((f.ctx i).acks ≠ 0 → go = .next (f.setCtx i { f.ctx i with st := .waitMem, wait := .mvgo })) ∧
       ((f.ctx i).acks = 0 → m.st ≠ 0 → ¬mine → go = .next (f.setCtx i { f.ctx i with st := .waitUnit, wait := .mvgo })) ∧
       ((f.ctx i).acks = 0 → (m.st = 0 ∨ mine) → ∃ u, go = .next u ∧ t.movedOn u i ∧ t.keepsRegs u i [] [] ∧
         u.reg (Reg.mvSrc n) = t.g i a.toNat ∧ u.reg (Reg.mvDst n) = t.g i b.toNat ∧ u.reg (Reg.mvCount n) = BitVec.ofNat 64 count ∧
         (u.ctx i).kick = some { chan := n, done := decide (count = 0) } ∧
         (count ≠ 0 → u.mover n = { st := 1, bid := (t.ctx i).bid, ctx := i % 16, job := (t.ctx i).job, mode := mode.toNat }) ∧
         (count = 0 → (u.mover n).st = 0))) ∧
     (∃ w : W64, exec (.mvstat x rd) s = .next ((t.setG i rd.toNat w).finish i false) ∧
       ((∀ k, (t.ctx i).kick = some k → k.done = true ∨ k.failed = true) →
         exec (.mvwait x rd) s = .next ((t.setG i rd.toNat w).finish i false)) ∧
       (∀ k, (t.ctx i).kick = some k → k.done = false → k.failed = false →
         exec (.mvwait x rd) s = .next (t.setCtx i { t.ctx i with st := .waitUnit, wait := .mover rd })) ∧
       ((t.ctx i).kick = none → w = 0) ∧
       (∀ k, (t.ctx i).kick = some k → fld w 3 13 = 0 ∧
         fld w 32 32 = (if k.done ∨ k.failed then k.bytes else (t.mover n).moved) % 2 ^ 32 ∧
         fld w 0 2 = (if k.failed then 3 else if k.done then 2 else 1) ∧ bitAt w 2 = (k.failed && k.dir) ∧
         fld w 16 16 = (if k.failed then k.status.toNat else 0))))

/-- Sieve column access (R194, R195). -/
def Obligations.SieveColumnInstructions : Prop :=
  ∀ (ch : Fin 32) (cond f : BitVec 4) (pd slot ps : Pred3) (rd b : Reg5) (s : State),
    let x := CtxId.sieve ch
    let i := ctxIdx x
    s.canIssue i profS false false = true →
    let v := s.sv ch.val
    let m := (s.scan v.slot).image
    let pages := (s.part (partKey ch.val v.slot)).pages.getD []
    let n := slot.toNat
    let ty := slotTy m pages n
    let wd := slotWd m pages n
    let page := slotPage m pages n
    let on (j : Nat) : Bool := decide (128 * v.block + j < pageRows (pages.headD [])) &&
      pages.all fun l => isColPage l || rowLive l (128 * v.block + j)
    let null (j : Nat) : Bool := slotType m n == 255 && colNull page (128 * v.block + j)
    let key (j : Nat) : Option Int := cmpKey ty wd false (slotVal m pages n (128 * v.block + j))
    let const (r : Nat) : Nat := (s.g i r).toNat + (if ty = 11 then (s.g i (r + 1)).toNat * 2 ^ 64 else 0)
    let ck (r : Nat) : Option Int := cmpKey ty wd true (const r)
    let rel (k : Nat) (a c : Option Int) : Bool := match a, c with
      | some a, some c => if k = 0 then decide (a = c) else if k = 1 then decide (a ≠ c) else if k = 2 then decide (a < c)
        else if k = 3 then decide (a ≤ c) else if k = 4 then decide (c < a) else decide (c ≤ a)
      | _, _ => decide (k = 1)
    let sets (c : Instr) (fn : Nat → Bool) : Prop :=
      ∃ w : W128, exec c s = .next ((s.setP i pd.toNat w).finish i false) ∧ ∀ j, j < 128 → w.getLsbD j = (on j && fn j)
    let ends (c : Instr) : Prop := ∃ u, exec c s = .next u ∧ (u.sv ch.val).done = true ∧ u.ctxs = s.ctxs ∧ u.mem = s.mem ∧
      (u.part (partKey ch.val v.slot)).early = true ∧ (u.part (partKey ch.val v.slot)).status = 0x0401
    let second := b.toNat + if ty = 11 then 2 else 1
    (if constOk ty (const b.toNat) then sets (.scmp x cond pd slot b) (fun j => !null j && rel cond.toNat (key j) (ck b.toNat))
      else ends (.scmp x cond pd slot b)) ∧
    (if constOk ty (const b.toNat) && constOk ty (const second) then
        sets (.srng x pd slot b) (fun j => !null j && rel 5 (key j) (ck b.toNat) && rel 3 (key j) (ck second))
      else ends (.srng x pd slot b)) ∧
    sets (.snull x pd slot) null ∧
    (f.toNat ≤ 5 →
      let zone := slotType m n == 255 && colFlag page 1
      let r : W64 := if f = 0 then BitVec.ofNat 64 (pageRows page) else if f = 1 then BitVec.ofNat 64 (pageFirst page)
        else if f = 2 then (if zone then BitVec.ofNat 64 (recFld page 48 8) else zoneLimit ty false)
        else if f = 3 then (if zone then BitVec.ofNat 64 (recFld page 56 8) else zoneLimit ty true)
        else if f = 4 then (if slotType m n = 255 then BitVec.ofNat 64 (recFld page 7 1) else 0) else BitVec.ofNat 64 v.block
      exec (.shdr x f rd slot) s = .next ((s.setG i rd.toNat r).finish i false)) ∧
    exec (.emit x ps) s = .next ((s.setSv ch.val { v with emit := v.emit ||| s.p i ps.toNat }).finish i false) ∧
    exec (.sdone x) s = .next (s.setSv ch.val { v with done := true })

/-- SCAN and its parts (R196–R200, R333, R334). -/
def Obligations.ScanPartsReadEvaluateAndReport : Prop :=
  ∀ (q : BitVec 16) (ch : Fin 32) (n : Fin 8) (s : State),
    let k := partKey ch.val n.val
    let p := s.part k
    let c := s.scan n.val
    let nm := imgMembers c.image
    let size := 2 ^ c.rlog
    let used := (p.wr - p.rd).toNat
    let stops (u : State) (st : BitVec 16) : Prop := (u.part k).early = true ∧ (u.part k).status = st ∧ (u.part k).todo = [] ∧ (u.part k).pages = none
    ((∀ e t, ¬s.dispatches 6 opScan q almReady e t) → exec (.scan q) s = .next s) ∧
    (∀ e t, s.dispatches 6 opScan q almReady e t → ∃ u, exec (.scan q) s = .next u ∧
      let w := t.psWake
      (w.nsSeen e = false → w.refuses u e 0x0471) ∧
      (w.nsSeen e = true → w.scanBad e = true → w.refuses u e 0x0401) ∧
      (w.nsSeen e = true → w.scanBad e = false → w.flashOn = false → (u.stCmd w.alm.nextCmd) = some { item := e, op := opScan, nsid := e.nsid } ∧ u.scans = w.scans) ∧
      (w.nsSeen e = true → w.scanBad e = false → w.flashOn = true → ∀ r st, w.gather e = (r, .error st) → r.refuses u e st) ∧
      (w.nsSeen e = true → w.scanBad e = false → w.flashOn = true → ∀ r l, w.gather e = (r, .ok l) →
        (∀ st, r.scanData e l = some st → r.refuses u e st) ∧
        (r.scanData e l = none → (∀ j, j < 8 → (r.scan j).live = true) → r.refuses u e 0x0371) ∧
        (r.scanData e l = none → ∀ j, j < 8 → (r.scan j).live = false → (∀ h, h < j → (r.scan h).live = true) →
          (∀ bad, imgFault (l.drop 64) = some bad → u.scans = r.scans ∧ u.parts = r.parts) ∧
          (imgFault (l.drop 64) = none → (u.scan j).live = true ∧ (u.scan j).item = e ∧ (u.scan j).image = l.drop 64 ∧
            (∀ h, h ≠ j → u.scan h = r.scan h) ∧
            ∀ m, m < 32 → (u.part (partKey m j)).evald = 0 ∧ (u.part (partKey m j)).wr = 0)))) ∧
    (∃ u, exec (.sievePageRead ch n) s = .next u ∧
      let have_ := (p.pages.getD []).length
      let idle := p.todo = [] ∨ c.live = false ∨ p.early = true ∨ p.st = .ended ∨ s.flashOn = false ∨ s.regBit Reg.almStat 0 = false ∨
        nm ≤ have_ ∨ (p.pages = none ∧ 16 < s.svPagesHeld ch.val + nm)
      (idle → u = s) ∧ (¬idle → stops u 0x0501 ∨ (∃ (w : State) (st : BitVec 16) (lba : Nat), (w.entryRead c.nsid lba).2.1 = some st ∧ stops u st) ∨ ∃ l, l.length = 73728 ∧ (u.part k).pages = some (p.pages.getD [] ++ [l]) ∧ (u.part k).todo = p.todo)) ∧
    (∃ u, exec (.groupEvaluation ch n) s = .next u ∧
      let idle := p.pages = none ∨ c.live = false ∨ p.early = true ∨ p.outRec ≠ none ∨ ∃ g, p.pages = some g ∧ g.length ≠ nm
      (idle → u = s) ∧
      (¬idle → ∀ g, p.pages = some g → (∀ st, groupStatus c.image g = some st → stops u st) ∧
        (groupStatus c.image g = none → (u.part k).early = true ∨ ((u.part k).pages = none ∧ (u.part k).todo = p.todo.drop 1 ∧
          (u.part k).evald = p.evald + 1 ∧ p.passed ≤ (u.part k).passed ∧ ((u.part k).outRec = none → (u.part k).passed = p.passed))))) ∧
    (∃ u, exec (.sieveRecordWrite ch n) s = .next u ∧ (p.outRec = none → u = s) ∧
      (∀ l st, p.outRec = some l → used + l.length ≤ size → (s.ringPut ch.val n.val (p.wr.toNat % size) l).2 = some st →
        (u.part k).wr = p.wr ∧ (u.part k).early = true ∧ (u.part k).eos = false ∧ (u.part k).outRec = none ∧ (u.part k).status = if p.status = 0 then st else p.status) ∧
      (∀ l, p.outRec = some l → used + l.length ≤ size → (s.ringPut ch.val n.val (p.wr.toNat % size) l).2 = none → (u.part k).wr = p.wr + BitVec.ofNat 64 l.length ∧ (u.part k).outRec = none ∧
        (u.part k).st = .running ∧ (u.part k).rd = p.rd ∧ (u.part k).todo = p.todo) ∧
      (∀ l, p.outRec = some l → size < used + l.length → u = s.setPart k { p with st := .stalled })) ∧
    (∃ u, exec (.sieveRdPoll ch n) s = .next u ∧ (¬(c.live = true ∧ p.st = .stalled) → u = s) ∧
      (c.live = true → p.st = .stalled →
        let r := s.dmaRead c.item.bid (c.ctrlAddr ch.val + 8) 8 2
        (∀ er, r.2.1 = some er → stops u er ∧ (u.part k).rd = p.rd ∧ (u.part k).wr = p.wr) ∧
        (r.2.1 = none → let rd := BitVec.ofNat 64 (leVal r.2.2)
          (u.part k).rd = rd ∧ (u.part k).wr = p.wr ∧
          (if size < (p.wr - rd).toNat then (u.part k).early = true ∧ (u.part k).status = 0x0401 ∧ (u.part k).eos = false ∧ (u.part k).outRec = none
           else u = r.1.setPart k { (r.1.part k) with rd := rd })))) ∧
    (∃ u, exec (.sievePartEnd ch n) s = .next u ∧
      let idle := c.live = false ∨ p.st = .ended ∨ p.st = .closed ∨ p.todo ≠ [] ∨ p.outRec ≠ none
      (idle → u = s) ∧
      (¬idle → p.eos = true → size < used + 32 → u = s.setPart k { p with st := .stalled }) ∧
      let rec_ := recHeader 2 0 32 p.passed p.evald 0 p.status.toNat p.seq
      let put := s.ringPut ch.val n.val (p.wr.toNat % size) rec_
      (¬idle → p.eos = true → used + 32 ≤ size → ∀ st, put.2 = some st → (u.part k).st = .ended ∧ (u.part k).wr = p.wr ∧ (u.part k).eos = false ∧
        (u.part k).status = if p.status = 0 then st else p.status) ∧
      (¬idle → (p.eos = true → used + 32 ≤ size ∧ put.2 = none) → (u.part k).st = .ended ∧ (u.part k).pages = none ∧ (u.part k).status = p.status ∧
        (u.part k).wr = (if p.eos then p.wr + 32 else p.wr) ∧ u.reg (Reg.svScanErr ch.val n.val) = p.status.setWidth 64)) ∧
    (∃ u, exec (.scanComplete n) s = .next u ∧
      let all := ∀ m, m < 32 → (s.part (partKey m n.val)).st = .ended
      (¬(c.live = true ∧ all) → u = s) ∧
      (c.live = true → all → (u.scan n.val).live = false ∧ (∀ m, m ≠ n.val → u.scan m = s.scan m) ∧
        ∀ m, m < 32 → (u.part (partKey m n.val)).st = .closed ∧ (u.part (partKey m n.val)).status = (s.part (partKey m n.val)).status))

/-- Pipeline jobs (R174, R175, R182, R183, R185). -/
def Obligations.PipelineJobsStartExpireAndComplete : Prop :=
  ∀ (q : BitVec 16) (sl : Fin 8) (e c : Fin 16) (s : State),
    let x := (sl.val * 16 + e.val) * 16 + c.val
    let j := (s.ctx x).job
    let b := s.job j
    let ready (e : Item) (s : State) : Bool := (s.neverPlaced e).isSome || (s.placeNow e).isSome
    ((∀ e t, ¬s.dispatches 1 1 q ready e t) → exec (.runPipe q) s = .next (s.frontTest q)) ∧
    (∀ e tl, (s.queue q).fetched = e :: tl → (s.queue q).cls = 1 → e.front = none →
      s.frontTest q = s.setQueue q { s.queue q with fetched := { e with front := some (s.frontStatus e) } :: tl }) ∧
    (∀ e t, s.dispatches 1 1 q ready e t → ∃ u, exec (.runPipe q) s = .next u ∧
      let quota := t.quota e.bid 1 < e.nstage
      let named := e.fieldN 10 1
      let denied := named < 8 ∧ (t.queue e.q).slices.getLsbD named = false
      let st := e.front.getD (t.frontStatus e)
      (quota → u = (t.complete e 0x0301).frontTest q) ∧ (¬quota → st ≠ 0 → u = (t.complete e st).frontTest q) ∧
      (denied → t.frontStatus e = 0x0701) ∧ (¬denied → (∀ sl ∈ t.jobSlices e, t.placeIn e e.bid true sl = none) → t.frontStatus e = 0x0340) ∧
      (¬denied → (∃ sl ∈ t.jobSlices e, (t.placeIn e e.bid true sl).isSome = true) → t.frontStatus e = 0) ∧
      (t.neverPlaced e = none → (∀ m, fld (t.reg (Reg.oeCfg m)) 2 5 ≤ 16) → ∀ sl cs o i, t.placeNow e = some (sl, cs, o, i) →
        sl < 8 ∧ t.ctl.sliceEn.getLsbD sl = true ∧ (t.queue e.q).slices.getLsbD sl = true ∧ cs.length = e.nstage ∧ cs.Nodup ∧
        (u.job t.freeJob).live = true ∧ (t.job t.freeJob).live = false ∧ (u.job t.freeJob).stages.map (fun g => g.ctx) = cs ∧
        (∀ l ∈ (u.job t.freeJob).links, l.credits = 8 ∧ l.fly = [] ∧ l.buf = [] ∧ l.eosSent = false) ∧
        (∀ n (h : n < cs.length), let y := cs[n]
          (t.ctx y).st = .free ∧ y / 256 = sl ∧ (u.ctx y).st = .ready ∧ (u.ctx y).r.pc = e.word (16 + 64 * n) ∧
          (u.ctx y).priv = .u ∧ (u.ctx y).bid = e.bid ∧ (u.ctx y).job = t.freeJob ∧ (u.ctx y).stage = n ∧ (u.ctx y).r.annul = false ∧
          (∀ k, u.g y k = if 1 ≤ k ∧ k ≤ 6 then e.word (16 + 64 * n + 16 + 8 * (k - 1)) else 0) ∧ ∀ k, k ≠ 0 → u.p y k = 0) ∧
        (∀ y, y ∉ cs → u.ctx y = t.ctx y) ∧ ∀ k, k ≠ t.freeJob → u.job k = t.job k)) ∧
    (∃ u, exec (.timeLimitExpiry sl e c) s = .next u ∧
      let due := (s.ctx x).st ≠ .free ∧ b.live = true ∧ b.tlimit ≠ 0 ∧ b.fault = none ∧ b.tlimit * 1000 ≤ (s.mer.ns - b.start).toNat
      let runs (n : Nat) : Prop := n < b.stages.length ∧ s.running (b.stageOf n) = true
      (¬(due ∧ ∃ n, runs n) → u = s) ∧
      (due → ∀ n, runs n → (∀ m, m < n → ¬runs m) →
        (u.job j).fault = some (n, 0x0442) ∧ ((u.job j).stageOf n).epc = (s.ctx (b.stageOf n).ctx).epc ∧
        ((∀ g ∈ b.stages, g.ctx < 2048 ∧ (s.running g = true ∨ (s.ctx g.ctx).wait = .none ∨ (s.ctx g.ctx).wait = .drain)) →
          ∀ g ∈ b.stages, (u.ctx g.ctx).st ≠ .ready ∧ (u.ctx g.ctx).st ≠ .runAhead ∧ (u.ctx g.ctx).st ≠ .waitUnit) ∧
        ∀ l ∈ (u.job j).links, l.fly = [] ∧ l.buf = [])) ∧
    (∃ u, exec (.jobCompletion sl e c) s = .next u ∧
      let w := if (s.ctx x).st ≠ .free ∧ b.live = true ∧ b.fault.isSome = true then s.drainJob j else s
      let b := w.job j
      let done := (w.ctx x).st ≠ .free ∧ b.live = true ∧ (∀ g ∈ b.stages, (w.ctx g.ctx).st = .drain ∨ (w.ctx g.ctx).st = .faulted) ∧
        ∀ l ∈ b.links, l.fly = [] ∧ l.buf = []
      (¬done → u = w) ∧
      (done → (u.job j).live = false ∧ (∀ g ∈ b.stages, (u.ctx g.ctx).st = .free) ∧ (∀ k, k ≠ j → u.job k = s.job k) ∧
        (b.item.role ≠ 1 → (u.queue b.item.q).inflight = (s.queue b.item.q).inflight - 1) ∧
        (b.item.role = 1 → ∃ tm, u.terms = s.terms ++ [tm] ∧ tm.item = b.item ∧ tm.compl.tag = b.item.tag ∧
          (b.fault = none → tm.compl.status = 0 ∧ tm.compl.res = (b.stageOf b.rstage).jend) ∧
          ∀ n st, b.fault = some (n, st) → tm.compl.status = st)))

/-- Searches (R206–R216). -/
def Obligations.SearchesResolveByPriorityAndRow : Prop :=
  ∀ (x : CtxId) (nb : BitVec 6) (rd a b : Reg5) (sl : Fin 8) (e c : Fin 16) (s : State),
    let i := ctxIdx x
    (s.canIssue i profE false false = true →
      let t := s.start i false
      let n := nb.toNat
      let h := t.g i b.toNat
      let tbl := (t.g i a.toNat).toNat % 1024
      let v (k : Nat) : Nat := (t.v i (n + k)).toNat
      let legal (wide all : Bool) : Bool := (!t.classT i || decide (n < 32)) && decide (n % (if wide then 4 else 2) = 0) && rd != 0 &&
        (all || decide (rd.toNat % 2 = 0))
      let req (wide all : Bool) (addr : Nat) (attr : Attr) : SpyReq :=
        { who := .eng i rd.toNat, table := tbl, bid := (t.ctx i).bid, wide := wide, all := all, addr := addr, attr := attr
          key := BitVec.ofNat 288 (if wide then v 0 + v 1 * 2 ^ 128 + h.toNat % 2 ^ 32 * 2 ^ 256 else v 0 + h.toNat % 2 ^ 16 * 2 ^ 128)
          mask := BitVec.ofNat 288 (if wide then v 2 + v 3 * 2 ^ 128 + h.toNat / 2 ^ 32 * 2 ^ 256 else v 1 + h.toNat / 2 ^ 16 % 2 ^ 16 * 2 ^ 128)
          issued := t.mer.ns, sealed := t.sealed (domOf (unitOf i)) }
      let sent (k : Instr) (r : SpyReq) : Prop := ∃ u, exec k s = .next u ∧ u.spy = { t.spy with port := t.spy.port ++ [r] } ∧
        u.ctx i = { t.ctx i with st := .waitUnit, wait := .search } ∧ t.sameBytes u ∧ ∀ y, y ≠ i → u.ctx y = t.ctx y
      ∀ l ∈ [(Instr.srch x nb rd a b, false, false, 0), (.srchw x nb rd a b, true, false, 1), (.srcha x nb rd a b, false, true, 2),
          (.srchaw x nb rd a b, true, true, 3)],
        let wide := l.2.1
        let all := l.2.2.1
        let ad := t.g i rd.toNat
        (legal wide all = false → exec l.1 s = .next (t.takeTrap i (trapIllegal (encA 0x31 rd a b (l.2.2.2 + 8 * n))))) ∧
        (legal wide all = true → all = false → sent l.1 (req wide false 0 .wb)) ∧
        (legal wide all = true → all = true →
          (ad.toNat % 256 ≠ 0 → exec l.1 s = .next (t.takeTrap i { code := 0x05, val := ad })) ∧
          ∀ p attr, ad.toNat % 256 = 0 → t.xlateEng i .write ad = .ok (p, attr) → t.accessStatus i .write attr p 256 = none →
            sent l.1 (req wide true p attr))) ∧
    (∃ u, exec .searchAdmission s = .next u ∧
      (s.spy.port = [] → u = s) ∧
      ∀ r tl, s.spy.port = r :: tl →
        let tb := s.spyTable r.table
        let trusted : Bool := match r.who with | .net _ _ _ => true | .cmd _ => r.bid == 0 | .eng _ _ => false
        let denied : Bool := !tb.exists_ || tb.destroying || (tb.owner != r.bid && !trusted)
        let rc := if r.wide ≠ tb.wide then 1 else if r.sealed = true ∧ 1 < tb.span then 2 else 0
        let cost := if denied ∨ rc ≠ 0 then 1 else tb.span
        let hit (w : Nat × SpyRow) : Prop := w ∈ s.spyUsed r.table ∧ w.2.lost = false ∧ (w.2.key ^^^ r.key) &&& r.mask = 0
        let dg := if s.degraded r.table then 2 ^ 49 else 0
        (s.regBit Reg.spyCtl 0 = false → (∀ p f k, r.who ≠ .net p f k) → u = s) ∧
        (∀ p f k, s.regBit Reg.spyCtl 0 = false → r.who = .net p f k → u.spy = { s.spy with port := tl } ∧
          Tab.get [] u.net.rx p = (Tab.get [] s.net.rx p).filter fun z => z.id ≠ f) ∧
        (s.regBit Reg.spyCtl 0 = true → s.spy.budget < 5 * cost → u = s) ∧
        (s.regBit Reg.spyCtl 0 = true → 5 * cost ≤ s.spy.budget → u.spy.budget = s.spy.budget - 5 * cost ∧
          ((∀ p f k, r.who ≠ .net p f k) → u.spy.port = tl ∧ ∀ k, u.spyRow k = s.spyRow k) ∧
          ∀ y d, r.who = .eng y d → ∃ v, u.spy.replies = s.spy.replies ++ [v] ∧ v.x = y ∧ v.rd = d ∧ v.issued = r.issued ∧ v.sealed = r.sealed ∧
            (denied → v.denied = some r.table) ∧ (¬denied → v.denied = none) ∧
            (¬denied → rc ≠ 0 → r.all = false → v.w0 = 0 ∧ v.w1 = BitVec.ofNat 64 (rc * 2 ^ 56)) ∧
            (¬denied → rc ≠ 0 → r.all = true → v.recs = [] ∧ v.w0 = BitVec.ofNat 64 (rc * 2 ^ 56)) ∧
            (¬denied → rc = 0 → r.all = false →
              ((∀ w, ¬hit w) → v.w0 = tb.dflt ∧ v.w1 = BitVec.ofNat 64 dg) ∧
              ((∃ w, hit w) → ∃ w, hit w ∧ (∀ y, hit y → w.2.prio < y.2.prio ∨ (w.2.prio = y.2.prio ∧ w.1 ≤ y.1)) ∧ v.w0 = w.2.res ∧
                v.w1 = BitVec.ofNat 64 (w.2.id.toNat + w.2.prio.toNat * 2 ^ 32 + 2 ^ 48 + dg))) ∧
            (¬denied → rc = 0 → r.all = true → v.recs.length ≤ 16 ∧ fld v.w0 0 5 = v.recs.length ∧
              (v.recs.length < 16 → ∀ w, hit w → w.2.record ∈ v.recs) ∧ ∀ z ∈ v.recs, ∃ w, hit w ∧ z = w.2.record))) ∧
    (let y := (sl.val * 16 + e.val) * 16 + c.val
     ∃ u, exec (.searchReply sl e c) s = .next u ∧
      ((∀ r ∈ s.spy.replies, r.x ≠ y) → u = s) ∧
      ∀ r, s.spy.replies.find? (fun r => r.x = y) = some r →
        let early := r.sealed = true ∧ (s.mer.ns - r.issued).toNat < 200
        let waits := (s.ctx y).st = .waitUnit ∧ (s.ctx y).wait = .search
        (early → u = s) ∧
        (¬early → u.spy.replies = s.spy.replies.erase r ∧
          (¬waits → u.ctxs = s.ctxs ∧ u.mem = s.mem) ∧
          (∀ k, waits → r.denied = some k → u = ({ s with spy := { s.spy with replies := s.spy.replies.erase r } }.setCtx y
            { s.ctx y with st := .ready, wait := .none }).takeTrap y { code := 0x14, val := BitVec.ofNat 64 k }) ∧
          (waits → (s.ctx y).epi = none →
            (r.denied = none → (u.ctx y).st = .ready ∧ (u.ctx y).wait = .none ∧ s.movedOn u y ∧
              (r.all = false → r.rd % 2 = 0 → r.rd < 31 → (r.rd ≠ 0 → u.g y r.rd = r.w0) ∧ u.g y (r.rd + 1) = r.w1 ∧
                s.keepsRegs u y [.g r.rd, .g (r.rd + 1)] []) ∧
              (r.all = true → r.rd ≠ 0 → u.g y r.rd = r.w0 ∧ s.keepsRegs u y [.g r.rd] [])))))

/-- Orrery operations (R234, R235, R237, R240). `v` is the state before the scheduling of R236. -/
def Obligations.OrreryOperationsTakeEffect : Prop :=
  ∀ (h : Fin 64) (tt : BitVec 14) (any start modeAnd consume : Bool) (prio : BitVec 8) (s : State),
    let n := tt.toNat
    let x := s.thread n
    let a0 := s.reg (Reg.orrArg0 h.val)
    let a1 := s.reg (Reg.orrArg1 h.val)
    let m : BitVec 32 := a0.setWidth 32
    let en := s.reg Reg.orrHtEn
    let cur := s.htCur h.val
    let mine := cur = some n
    let word (st : Nat) (blk : Bool) (d : Nat) : W64 := BitVec.ofNat 64 (st + (if blk then 65536 else 0) + d * 2 ^ 32)
    let fails (c : Instr) (st : Nat) : Prop := exec c s = .next (s.setReg (Reg.orrRes h.val) (word st false 0)).schedule
    let did (v : State) (blk : Bool) (d : Nat) (k : Nat) : Prop :=
      v.reg (Reg.orrRes h.val) = word 0 blk d ∧ v.htCur h.val = (if blk then none else cur) ∧ (∀ j, j ≠ k → v.thread j = s.thread j) ∧
        (∀ j, j ≠ h.val → v.htCur j = s.htCur j) ∧ v.orr.tick = s.orr.tick
    let held (mode : Bool) (f k : BitVec 32) : Prop := if mode then f &&& k = k else f &&& k ≠ 0
    let tail (v : State) (k : Nat) (p : Nat) : Prop := v.readyList p = (s.readyList p).filter (· ≠ k) ++ [k]
    let head (v : State) (k : Nat) (p : Nat) : Prop := v.readyList p = k :: (s.readyList p).filter (· ≠ k)
    let flags (v : State) (f : BitVec 32) : Prop :=
      (x.st = .waiting → held x.mode f x.mask →
        v.thread n = { x with st := .ready, snap := f, flags := if x.consume then f &&& ~~~x.mask else f, due := none, reason := .event } ∧
          tail v n x.prio.toNat ∧ n ∉ v.orr.expiring) ∧
      (¬(x.st = .waiting ∧ held x.mode f x.mask) → v.thread n = { x with flags := f } ∧ v.orr.lists = s.orr.lists)
    let ops : List Instr := [.orrCreate h tt any prio start, .orrDestroy h tt, .setf h tt, .clrf h tt, .orrWait h modeAnd consume, .sleep h, .yield h,
      .suspend h tt, .orrResume h tt, .setprio h tt prio, .setaff h tt, .wake h tt, .exit h]
    (s.regBit Reg.orrCtl 0 = false → ∀ c ∈ ops, exec c s = .next (s.setReg (Reg.orrRes h.val) (word 0x0201 false 0))) ∧
    (s.regBit Reg.orrCtl 0 = true →
      (let aff := if a1 = 0 then BitVec.allOnes 64 else a1
       let c := Instr.orrCreate h tt any prio start
       let made (k : Nat) : Prop := ∃ v : State, exec (.orrCreate h tt any prio start) s = .next v.schedule ∧ did v false k k ∧ v.thread k = { st := .ready, prio := prio, susp := !start, aff := aff } ∧ tail v k prio.toNat
       (aff &&& en = 0 → fails c 0x0401) ∧
       (aff &&& en ≠ 0 → any = false → if x.st = .free then made n else fails c 0x0201) ∧
       (aff &&& en ≠ 0 → any = true → ((∀ k, k < 16384 → (s.thread k).st ≠ .free) → fails c 0x0360) ∧
         ∀ k, k < 16384 → (s.thread k).st = .free → (∀ j, j < k → (s.thread j).st ≠ .free) → made k)) ∧
      (if x.st = .free ∨ (x.st = .running ∧ ¬mine) ∨ (x.st = .offered ∧ x.ht ≠ h.val) then fails (.orrDestroy h tt) 0x0201
       else ∃ v : State, exec (.orrDestroy h tt) s = .next v.schedule ∧ v.thread n = {} ∧ (∀ j, j ≠ n → v.thread j = s.thread j) ∧
         v.htCur h.val = (if mine then none else cur) ∧ n ∉ v.orr.expiring ∧ (¬mine → x.st = .offered → v.htOffer x.ht = none) ∧
         (¬mine → x.st ≠ .offered → n ∉ v.readyList x.prio.toNat)) ∧
      (if x.st = .free then fails (.setf h tt) 0x0201 ∧ fails (.clrf h tt) 0x0201
       else (∃ v : State, exec (.setf h tt) s = .next v.schedule ∧ did v false x.flags.toNat n ∧ flags v (x.flags ||| m)) ∧
         (∃ v : State, exec (.clrf h tt) s = .next v.schedule ∧ did v false x.flags.toNat n ∧ flags v (x.flags &&& ~~~m))) ∧
      (m = 0 → fails (.orrWait h modeAnd consume) 0x0401) ∧ (m ≠ 0 → cur = none → fails (.orrWait h modeAnd consume) 0x0261) ∧
      (m ≠ 0 → ∀ k, cur = some k → let y := s.thread k
        (held modeAnd y.flags m → ∃ v : State, exec (.orrWait h modeAnd consume) s = .next v.schedule ∧ did v false y.flags.toNat k ∧
          v.thread k = { y with flags := if consume then y.flags &&& ~~~m else y.flags }) ∧
        (¬held modeAnd y.flags m → ∃ v : State, exec (.orrWait h modeAnd consume) s = .next v.schedule ∧ did v true 0 k ∧
          v.thread k = { y with st := .waiting, mask := m, mode := modeAnd, consume := consume,
                                due := if a1 = 0 then none else some (s.orr.tick + a1.toNat) })) ∧
      (a0 = 0 → fails (.sleep h) 0x0401) ∧ (a0 ≠ 0 → cur = none → fails (.sleep h) 0x0261) ∧
      (cur = none → fails (.yield h) 0x0261 ∧ fails (.exit h) 0x0261) ∧
      (∀ k, cur = some k → let y := s.thread k
        (a0 ≠ 0 → ∃ v : State, exec (.sleep h) s = .next v.schedule ∧ did v true 0 k ∧ v.thread k = { y with st := .sleeping, due := some (s.orr.tick + a0.toNat) }) ∧
        (let rival := ∃ e ∈ s.orr.lists, ∃ j ∈ e.2, (s.thread j).susp = false ∧ (s.thread j).prio.toNat ≤ y.prio.toNat ∧ bitAt (s.thread j).aff h.val = true
         (rival → ∃ v : State, exec (.yield h) s = .next v.schedule ∧ did v true 0 k ∧ v.thread k = { y with st := .ready } ∧ tail v k y.prio.toNat) ∧
         (¬rival → fails (.yield h) 0)) ∧
        ∃ v : State, exec (.exit h) s = .next v.schedule ∧ did v true 0 k ∧ v.thread k = {}) ∧
      (if x.st = .free ∨ (x.st = .running ∧ ¬mine) then fails (.suspend h tt) 0x0201
       else (mine → ∃ v : State, exec (.suspend h tt) s = .next v.schedule ∧ did v true 0 n ∧ v.thread n = { x with susp := true, st := .ready } ∧ tail v n x.prio.toNat) ∧
         (¬mine → x.st ≠ .offered → ∃ v : State, exec (.suspend h tt) s = .next v.schedule ∧ did v false 0 n ∧ v.thread n = { x with susp := true } ∧ v.orr.lists = s.orr.lists) ∧
         (¬mine → x.st = .offered → s.htOffer x.ht = some n → ∃ v : State, exec (.suspend h tt) s = .next v.schedule ∧ did v false 0 n ∧
           v.thread n = { x with susp := true, st := .ready } ∧ head v n x.prio.toNat ∧ v.htOffer x.ht = none)) ∧
      (if x.st = .free then fails (.orrResume h tt) 0x0201 ∧ fails (.setprio h tt prio) 0x0201
       else (∃ v : State, exec (.orrResume h tt) s = .next v.schedule ∧ did v false 0 n ∧ v.thread n = { x with susp := false } ∧ (x.st = .ready → tail v n x.prio.toNat)) ∧
         (∃ v : State, exec (.setprio h tt prio) s = .next v.schedule ∧ did v false 0 n ∧ v.thread n = { x with prio := prio } ∧
           (x.st = .ready → tail v n prio.toNat ∧ (x.prio ≠ prio → n ∉ v.readyList x.prio.toNat)))) ∧
      (if a1 &&& en = 0 then fails (.setaff h tt) 0x0401 else if x.st = .free then fails (.setaff h tt) 0x0201
       else (¬(x.st = .offered ∧ bitAt a1 x.ht = false) → ∃ v : State, exec (.setaff h tt) s = .next v.schedule ∧ did v false 0 n ∧ v.thread n = { x with aff := a1 }) ∧
         (x.st = .offered → bitAt a1 x.ht = false → s.htOffer x.ht = some n → ∃ v : State, exec (.setaff h tt) s = .next v.schedule ∧ did v false 0 n ∧
           v.thread n = { x with aff := a1, st := .ready } ∧ head v n x.prio.toNat ∧ v.htOffer x.ht = none)) ∧
      (if x.st = .waiting ∨ x.st = .sleeping then ∃ v : State, exec (.wake h tt) s = .next v.schedule ∧ did v false 0 n ∧
          v.thread n = { x with st := .ready, reason := .woken, due := none } ∧ tail v n x.prio.toNat ∧ n ∉ v.orr.expiring
       else fails (.wake h tt) 0x0201))

/-- Scheduling (R236), commits (R238), ticks (R241) and events (R242). -/
def Obligations.OrreryOffersDispatchesAndDelivers : Prop :=
  ∀ (h : Fin 64) (tt : BitVec 14) (any start modeAnd consume : Bool) (prio : BitVec 8) (src : BitVec 12) (v : W64) (s : State),
    let x := 2048 + h.val
    let c := s.ctx x
    let best (u : State) : Prop := ∀ e ∈ u.orr.lists, ∀ t ∈ e.2, (u.thread t).susp = false → ∀ k, k < 64 →
      u.regBit Reg.orrHtEn k = true → bitAt (u.thread t).aff k = true → ∃ p, u.occPrio k = some p ∧ p ≤ (u.thread t).prio.toNat
    let on := s.regBit Reg.orrCtl 0 = true
    let ops : List Instr := [.orrCreate h tt any prio start, .orrDestroy h tt, .setf h tt, .clrf h tt, .orrWait h modeAnd consume, .sleep h, .yield h,
      .suspend h tt, .orrResume h tt, .setprio h tt prio, .setaff h tt, .wake h tt, .exit h, .orrHtEnWrite v]
    let a := Reg.orrSrc src.toNat
    let o := s.reg a
    let live := (s.thread (fld o 16 14)).st ≠ .free
    (∀ r ∈ ops, on → ∃ u, exec r s = .next u ∧ best u) ∧
    (∃ u, exec (.orrHtEnWrite v) s = .next u ∧ u.reg Reg.orrHtEn = v) ∧
    (s.schedule.csr = s.csr ∧ s.schedule.mem = s.mem ∧ s.schedule.ctxs = s.ctxs ∧ s.schedule.orr.cur = s.orr.cur ∧
      ∀ t, { s.schedule.thread t with st := .free, ht := 0 } = { s.thread t with st := .free, ht := 0 }) ∧
    (∃ u, exec (.dispatchCommit h) s = .next u ∧
      let takes := (c.st = .ready ∨ c.wait = .wfi) ∧ s.asyncOpen x 0x20 = true
      (s.htOffer h.val = none ∨ ¬takes → u = s) ∧
      ∀ t, s.htOffer h.val = some t → takes →
        (on → best u) ∧ u.htCur h.val = some t ∧ (u.ctx x).st = .ready ∧ (u.ctx x).r.slot = false ∧
        ((u.ctx x).priv = .m ∧ u.xcsr x (csrMstat + 5) = BitVec.ofNat 64 t ∨ (u.ctx x).priv = .k ∧ u.xcsr x (csrKstat + 5) = BitVec.ofNat 64 t) ∧
        u.reg Reg.orrDispCnt = s.reg Reg.orrDispCnt + 1 ∧
        u.reg Reg.orrPreemptCnt = s.reg Reg.orrPreemptCnt + (if (s.htCur h.val).isSome then 1 else 0) ∧ ∀ n, u.g x n = s.g x n) ∧
    (∃ u, exec .tick s = .next u ∧
      ((s.merAt islCtl).toNat < s.orr.nextTick → u = s) ∧
      (s.orr.nextTick ≤ (s.merAt islCtl).toNat → u.orr.tick = s.orr.tick + 1 ∧ u.orr.thr = s.orr.thr ∧
        u.orr.nextTick = s.orr.nextTick + min (max (fld (s.reg Reg.orrTick) 0 14) 1) 10000 * 1000 ∧
        (∃ l, u.orr.expiring = s.orr.expiring ++ l ∧ ∀ t, t ∈ l ↔ t ∉ s.orr.expiring ∧ ∃ e ∈ s.orr.thr, e.1 = t ∧ ∃ d, e.2.due = some d ∧ d ≤ s.orr.tick + 1) ∧
        (s.orr.expiring ≠ [] → u.regBit Reg.orrStat 0 = true ∧ 17 ∈ u.orr.raised))) ∧
    (∃ u, exec .delayExpiry s = .next u ∧ (s.orr.expiring = [] → u = s) ∧
      ∀ t r, s.orr.expiring = t :: r → u.orr.expiring = r ∧
        let due := ∃ d, (s.thread t).due = some d ∧ d ≤ s.orr.tick
        (¬due → u.orr.thr = s.orr.thr ∧ u.csr = s.csr) ∧
        (due → (s.thread t).st = .sleeping → (u.thread t).reason = .slept) ∧ (due → (s.thread t).st = .waiting → (u.thread t).reason = .timeout) ∧
        (due → (s.thread t).st = .sleeping ∨ (s.thread t).st = .waiting → (on → best u) ∧ (u.thread t).due = none ∧
          (u.thread t).flags = (s.thread t).flags ∧ ((u.thread t).st = .ready ∨ (u.thread t).st = .offered)) ∧
        ((s.thread t).st ≠ .sleeping → (s.thread t).st ≠ .waiting → u.orr.thr = s.orr.thr)) ∧
    (∃ u, exec (.eventDelivery src) s = .next u ∧ (src.toNat ∉ s.orr.raised → u = s) ∧
      (src.toNat ∈ s.orr.raised → u.orr.raised = s.orr.raised.erase src.toNat ∧ fld (u.reg a) 32 32 = (fld o 32 32 + 1) % 2 ^ 32 ∧
        (on → bitAt o 0 = true → live → best u ∧ ((s.thread (fld o 16 14)).st ≠ .waiting →
          (u.thread (fld o 16 14)).flags = (s.thread (fld o 16 14)).flags ||| BitVec.ofNat 32 (2 ^ fld o 2 5))) ∧
        (¬(on ∧ bitAt o 0 = true ∧ live) → bitAt (u.reg a) 1 = true ∧ u.orr.thr = s.orr.thr))) ∧
    (∃ u, exec (.orrSrcWrite src v) s = .next u ∧ fld (u.reg a) 32 32 = fld o 32 32 ∧ bitAt (u.reg a) 0 = bitAt v 0 ∧
      fld (u.reg a) 2 5 = fld v 2 5 ∧ fld (u.reg a) 16 14 = fld v 16 14 ∧
      (bitAt v 1 = true → bitAt (u.reg a) 1 = false ∧ u.orr.thr = s.orr.thr) ∧
      (bitAt v 1 = false → on → bitAt v 0 = true → bitAt o 1 = true → (s.thread (fld v 16 14)).st ≠ .free → bitAt (u.reg a) 1 = false ∧ best u) ∧
      (bitAt v 1 = false → ¬(on ∧ bitAt v 0 = true ∧ (s.thread (fld v 16 14)).st ≠ .free) → bitAt (u.reg a) 1 = bitAt o 1))

/-- Spyglass commands (R217–R220, R223–R225). -/
def Obligations.SpyglassCommandsAcceptAndRefuse : Prop :=
  ∀ (q : BitVec 16) (s : State),
    let tbl (e : Item) : Nat := e.fieldN 8 2
    let off (t : State) : Prop := t.regBit Reg.spyCtl 0 = false
    let foreign (e : Item) (t : State) : Prop := let x := t.spyTable (tbl e)
      1023 < tbl e ∨ x.exists_ = false ∨ x.destroying = true ∨ (x.owner ≠ e.bid ∧ e.bid ≠ 0)
    let comes (op : Nat) (e : Item) (t : State) : Prop := s.dispatches 2 op q always e t
    let outcome (e : Item) (t u : State) (own : Item → State → BitVec 16 → Prop) (eff : Item → State → State → Prop) : Prop :=
      (off t → t.refuses u e 0x0201) ∧ (¬off t → foreign e t → t.refuses u e 0x0701) ∧
      (¬off t → ¬foreign e t → (∀ st, own e t st → t.refuses u e st) ∧ ((∀ st, ¬own e t st) → eff e t u))
    let waits (op : Item → State → SpyOp) (e : Item) (t u : State) : Prop := let x := t.spyTable (tbl e)
      u.spyTable (tbl e) = { x with cmds := x.cmds ++ [{ item := e, op := op e t, ord := t.spy.ord }] } ∧
        (∀ k, k ≠ tbl e → u.spyTable k = t.spyTable k) ∧ u.spy.rows = t.spy.rows ∧ u.mem = t.mem ∧ u.queues = t.queues ∧ u.csr = t.csr
    let none' (_ : Item) (_ : State) (_ : BitVec 16) : Prop := False
    let key (e : Item) (k : Nat) (wide : Bool) : BitVec 288 := BitVec.ofNat 288 (e.fieldN k (if wide then 36 else 18))
    let int (e : Item) (k : Nat) : Int := (BitVec.ofNat 32 (e.fieldN k 4)).toInt
    let raddr (e : Item) (t : State) (n : Nat) (st : BitVec 16) : Prop := t.dmaCheck e.bid true (e.word 16) n = some st
    let writes (e : Item) (t u : State) (l : List Byte) : Prop :=
      ∃ v er, t.dmaWrite e.bid (e.word 16) l = (v, er) ∧ u = v.complete e (er.getD 0) ∧ l.length = 64
    let at_ (l : List Byte) (k n v : Nat) : Prop := leVal ((l.drop k).take n) = v
    (∀ c ∈ [(1, Instr.createTable q), (2, .destroyTable q), (3, .insert q), (4, .delete q), (5, .spyUpdate q), (6, .search q), (7, .moveBlock q),
      (8, .readRow q), (9, .tableInfo q)], (∀ e t, ¬comes c.1 e t) → exec c.2 s = .next s) ∧
    (∀ e t, comes 1 e t → ∃ u, exec (.createTable q) s = .next u ∧
      let n := e.fieldN 12 4
      let w := e.fieldN 10 1
      let free := (List.range 1024).filter fun g => Tab.get 0 t.spy.segs g = 0
      let bad := (1023 < tbl e ∧ tbl e ≠ 65535) ∨ 1 < w ∨ n = 0 ∨ 1024 < n ∨ (tbl e = 1023 ∧ (w = 1 ∨ 8 < n))
      let used := tbl e ≠ 65535 ∧ (t.spyTable (tbl e)).exists_ = true
      let quota := t.quota e.bid 2 < t.inUse e.bid 2 + 1 ∨ t.quota e.bid 3 < t.inUse e.bid 3 + n
      let space := free.length < n ∨ (tbl e = 65535 ∧ ∀ k, k < 1023 → (t.spyTable k).exists_ = true)
      let mine := tbl e = 1023 ∧ e.bid ≠ 0
      (off t → t.refuses u e 0x0201) ∧ (¬off t → mine → t.refuses u e 0x0701) ∧ (¬off t → ¬mine → bad → t.refuses u e 0x0401) ∧
      (¬off t → ¬mine → ¬bad → used → t.refuses u e 0x0201) ∧ (¬off t → ¬mine → ¬bad → ¬used → quota → t.refuses u e 0x0301) ∧
      (¬off t → ¬mine → ¬bad → ¬used → ¬quota → space → t.refuses u e 0x0302) ∧
      (¬off t → ¬mine → ¬bad → ¬used → ¬quota → ¬space → ∃ (v : State) (k : Nat), u = v.complete e 0 (BitVec.ofNat 64 k) ∧
        (tbl e ≠ 65535 → k = tbl e) ∧ (tbl e = 65535 → k < 1023 ∧ (t.spyTable k).exists_ = false ∧ ∀ j, j < k → (t.spyTable j).exists_ = true) ∧
        v.spyTable k = { exists_ := true, wide := w == 1, owner := e.bid, segs := free.take n, dflt := e.word 16 } ∧
        (∀ g, Tab.get 0 v.spy.segs g = if g ∈ free.take n then k + 1 else Tab.get 0 t.spy.segs g) ∧
        (∀ j, j ≠ k → v.spyTable j = t.spyTable j) ∧ v.spy.rows = t.spy.rows ∧ v.mem = t.mem)) ∧
    (∀ e t, comes 3 e t → ∃ u, exec (.insert q) s = .next u ∧ outcome e t u (fun e t st => (t.spyTable (tbl e)).wide ≠ decide (e.fieldN 1 1 = 3) ∧ st = 0x0250)
      (waits fun e t => .insert (BitVec.ofNat 16 (e.fieldN 10 2)) (e.word 16) (key e 24 (t.spyTable (tbl e)).wide))) ∧
    (∀ e t, comes 4 e t → ∃ u, exec (.delete q) s = .next u ∧ outcome e t u none' (waits fun e _ => .delete (BitVec.ofNat 32 (e.fieldN 12 4)))) ∧
    (∀ e t, comes 5 e t → ∃ u, exec (.spyUpdate q) s = .next u ∧ outcome e t u none' (waits fun e _ => .update (BitVec.ofNat 32 (e.fieldN 12 4)) (e.word 16))) ∧
    (∀ e t, comes 7 e t → ∃ u, exec (.moveBlock q) s = .next u ∧ outcome e t u (fun e t st => st = 0x0401 ∧
        let n := e.fieldN 16 4
        let cap := (t.spyTable (tbl e)).segs.length * (if (t.spyTable (tbl e)).wide then 256 else 512)
        n = 0 ∨ 4096 < n ∨ int e 20 = 0 ∨ 4096 < (int e 20).natAbs ∨ cap < e.fieldN 12 4 + n ∨ (e.fieldN 12 4 : Int) + int e 20 < 0 ∨
          (cap : Int) < e.fieldN 12 4 + n + int e 20)
      (waits fun e _ => .move (e.fieldN 12 4) (e.fieldN 16 4) (int e 20))) ∧
    (∀ e t, comes 2 e t → ∃ u, exec (.destroyTable q) s = .next u ∧ outcome e t u none' (fun e t u => let x := t.spyTable (tbl e)
      u.spyTable (tbl e) = { x with cmds := x.cmds ++ [{ item := e, op := .destroy, ord := t.spy.ord }], destroying := true } ∧
        (∀ k, k ≠ tbl e → u.spyTable k = t.spyTable k) ∧ u.spy.rows = t.spy.rows ∧ u.mem = t.mem)) ∧
    (∀ e t, comes 6 e t → ∃ u, exec (.search q) s = .next u ∧ outcome e t u (fun e t st =>
        let m := e.fieldN 10 1
        let width := (t.spyTable (tbl e)).wide ≠ decide (e.fieldN 1 1 = 6)
        let range := m = 0 ∨ 16 < m ∨ e.fieldN 16 1 % 16 ≠ 0
        (width ∧ st = 0x0250) ∨ (¬width ∧ range ∧ st = 0x0401) ∨ (¬width ∧ ¬range ∧ raddr e t (16 * m) st))
      (fun e t u => let w := (t.spyTable (tbl e)).wide
        let r : SpyReq := { who := .cmd e, table := tbl e, bid := e.bid, wide := w, key := key e 32 w, mask := key e (if w then 68 else 50) w
                            all := true, addr := e.fieldN 16 8, maxm := e.fieldN 10 1 }
        u = { t with spy := { t.spy with port := t.spy.port ++ [r] } })) ∧
    (∀ e t, comes 8 e t → ∃ u, exec (.readRow q) s = .next u ∧ outcome e t u (fun e t st =>
        let m := e.fieldN 10 1
        let cap := (t.spyTable (tbl e)).segs.length * (if (t.spyTable (tbl e)).wide then 256 else 512)
        let range := 1 < m ∨ e.fieldN 16 1 % 64 ≠ 0 ∨ (m = 1 ∧ cap ≤ e.fieldN 12 4)
        (range ∧ st = 0x0401) ∨ (¬range ∧ raddr e t 64 st) ∨ (¬range ∧ t.dmaCheck e.bid true (e.word 16) 64 = none ∧ m = 0 ∧
          (∀ w ∈ t.spyUsed (tbl e), w.2.id ≠ BitVec.ofNat 32 (e.fieldN 12 4)) ∧ st = 0x0251))
      (fun e t u => ∃ (t' : State) (l : List Byte) (r : Nat), (t' = t ∨ t' = t.fresh.2) ∧ writes e t' u l ∧
        (e.fieldN 10 1 = 1 → r = e.fieldN 12 4) ∧
        (e.fieldN 10 1 = 0 → ∃ w ∈ t.spyUsed (tbl e), w.1 = r ∧ w.2.id = BitVec.ofNat 32 (e.fieldN 12 4)) ∧
        let x := t.trow (tbl e) r
        let wide := (t.spyTable (tbl e)).wide
        (x.valid = false → x.lost = false → l = List.replicate 64 0) ∧
        (x.valid = true ∨ x.lost = true → (x.lost = false → at_ l 0 36 (if wide then x.key.toNat else x.key.toNat % 2 ^ 144)) ∧
          at_ l 36 4 x.id.toNat ∧ at_ l 40 2 x.prio.toNat ∧ at_ l 42 1 (x.valid.toNat + wide.toNat * 2 + x.lost.toNat * 4) ∧ at_ l 43 1 0 ∧
          at_ l 44 4 (r % 2 ^ 32) ∧ at_ l 48 8 x.res.toNat ∧ at_ l 56 8 0 ∧ (wide = false → at_ l 18 18 0)))) ∧
    (∀ e t, comes 9 e t → ∃ u, exec (.tableInfo q) s = .next u ∧ outcome e t u (fun e t st => (e.fieldN 16 1 % 64 ≠ 0 ∧ st = 0x0401) ∨ (e.fieldN 16 1 % 64 = 0 ∧ raddr e t 64 st))
      (fun e t u => ∃ l, writes e t u l ∧
        let x := t.spyTable (tbl e)
        let cap := x.segs.length * (if x.wide then 256 else 512)
        at_ l 0 2 (tbl e) ∧ at_ l 2 1 x.wide.toNat ∧ (x.segs.length ≤ 1024 → at_ l 4 4 x.segs.length ∧ at_ l 8 4 cap) ∧
        ∃ f, at_ l 3 1 f ∧ f < 4 ∧ (f % 2 = 1 ↔ x.cmds ≠ []) ∧ (2 ≤ f ↔ t.spyLostRows (tbl e) ≠ []) ∧
        at_ l 12 4 (((t.spyUsed (tbl e)).filter fun w => !w.2.lost).length % 2 ^ 32) ∧
        at_ l 16 4 ((t.spyLostRows (tbl e)).length % 2 ^ 32) ∧
        let taken (r : Nat) : Prop := (t.trow (tbl e) r).valid = true ∨ (t.trow (tbl e) r).lost = true
        ((∀ r, r < cap → taken r) → at_ l 20 4 0xFFFFFFFF) ∧
        (∀ r, x.segs.length ≤ 1024 → r < cap → ¬taken r → (∀ k, k < r → taken k) → at_ l 20 4 r) ∧
        at_ l 24 8 x.dflt.toNat ∧ at_ l 32 32 0))

/-- Row commands (R208, R219–R222, R224), mirror and patrol (R228–R230). -/
def Obligations.RowCommandsKeepTheOrderOfEntries : Prop :=
  ∀ (tb : BitVec 10) (row : BitVec 19) (s : State),
    let n := tb.toNat
    let x := s.spyTable n
    let pub (r : SpyRow) : SpyRow := { r with badPar := false, quar := false }
    let live (v : State) : List SpyRow := (((List.range x.cap).map (v.trow n)).filter fun r => r.valid).map pub
    let good (v : State) : Prop := Tab.wf {} v.spy.rows = true ∧ (x.wide = true → ∀ e ∈ v.spy.rows, e.1 / 512 ∈ x.segs → e.1 % 2 = 0)
    (∃ u, exec (.rowCommandCompletion tb) s = .next u ∧
      (x.cmds = [] → u = s) ∧
      ∀ c rest, x.cmds = c :: rest →
        let moves := (∃ p v k, c.op = .insert p v k) ∨ ∃ f k d, c.op = .move f k d
        let ahead := (s.rowHeads.filter fun d => d.op.moves && decide (d.ord < c.ord)).length
        let stays := (moves ∧ 8 ≤ ahead) ∨ ∃ w ∈ s.spy.rows, w.2.quar = true ∧ s.writesRow n c.op w.1 = true
        let ends (st : BitVec 16) (w : W64) (post : State → Prop) : Prop := ∃ v : State, u = v.complete c.item st w ∧ good v ∧
          (c.op ≠ .destroy → v.spyTable n = { x with cmds := rest }) ∧ (∀ k, k ≠ n → v.spyTable k = s.spyTable k) ∧
          (∀ p, p / 512 ∉ x.segs → v.spyRow p = s.spyRow p) ∧ post v
        let same (v : State) : Prop := v.spy.rows = s.spy.rows ∧ v.mem = s.mem
        (stays → u = s) ∧
        (¬stays → x.segs.Nodup → good s →
          (∀ p v k, c.op = .insert p v k →
            let free (r : Nat) : Prop := r < x.cap ∧ (s.trow n r).valid = false ∧ (s.trow n r).lost = false
            (¬(∃ r, free r) → ends 0x0351 0 same) ∧
            ((∃ r, free r) → (∃ a f, (∀ r, a ≤ r → r < x.cap → (s.trow n r).valid = true → p < (s.trow n r).prio) ∧
                (a = 0 ∨ ∃ r, r + 1 = a ∧ r < x.cap ∧ (s.trow n r).valid = true ∧ (s.trow n r).prio ≤ p) ∧ free f ∧
                ((a ≤ f ∧ (∀ r, a ≤ r → r < f → ¬free r) ∧ (∀ r, r < a → free r → f - a ≤ a - 1 - r) ∧
                    (4096 < f - a → ends 0x0350 (BitVec.ofNat 64 (a + f * 2 ^ 32)) same) ∧
                    (f - a ≤ 4096 → ∃ id : BitVec 32, ends 0 (BitVec.ofNat 64 (id.toNat + a * 2 ^ 32)) fun v' =>
                      ((v'.trow n a) = { valid := true, prio := p, id := id, res := v, key := k } ∧
                        ∃ l r, live s = l ++ r ∧ live v' = l ++ pub (v'.trow n a) :: r ∧ (∀ z ∈ r, p < z.prio) ∧ ∀ z, l.getLast? = some z → z.prio ≤ p))) ∨
                  (f < a ∧ (∀ r, f < r → r < a → ¬free r) ∧ (∀ r, a ≤ r → free r → a - 1 - f < r - a) ∧
                    (4096 < a - 1 - f → ends 0x0350 (BitVec.ofNat 64 (a + f * 2 ^ 32)) same) ∧
                    (a - 1 - f ≤ 4096 → ∃ id : BitVec 32, ends 0 (BitVec.ofNat 64 (id.toNat + (a - 1) * 2 ^ 32)) fun v' =>
                      ((v'.trow n (a - 1)) = { valid := true, prio := p, id := id, res := v, key := k } ∧
                        ∃ l r, live s = l ++ r ∧ live v' = l ++ pub (v'.trow n (a - 1)) :: r ∧ (∀ z ∈ r, p < z.prio) ∧
                          ∀ z, l.getLast? = some z → z.prio ≤ p))))))) ∧
          (∀ id, (c.op = .delete id ∨ ∃ v, c.op = .update id v) → (∀ z ∈ live s, z.id ≠ id) → ends 0x0251 0 same) ∧
          (∀ id, c.op = .delete id → ∀ l y r, live s = l ++ y :: r → y.id = id → (∀ z ∈ l, z.id ≠ id) →
            ends 0 0 fun v => live v = l ++ r ∧ Tab.get 0 v.spy.gens (id.toNat % 2 ^ 20) = (if id.toNat / 2 ^ 20 = 4095 then 1 else id.toNat / 2 ^ 20 + 1)) ∧
          (∀ id w, c.op = .update id w → ∀ l y r, live s = l ++ y :: r → y.id = id → (∀ z ∈ l, z.id ≠ id) →
            ends 0 0 fun v => live v = l ++ { y with res := w } :: r) ∧
          (∀ f k d, c.op = .move f k d → f + k ≤ x.cap → 0 ≤ (f : Int) + d → (f : Int) + k + d ≤ x.cap →
            let dst (r : Nat) : Nat := ((r : Int) + d).toNat
            let src (r : Nat) : Prop := f ≤ r ∧ r < f + k
            let taken := ∃ r, src r ∧ ¬src (dst r) ∧ ((s.trow n (dst r)).valid = true ∨ (s.trow n (dst r)).lost = true)
            (taken → ends 0x0201 0 same) ∧
            (¬taken → ends 0 0 fun v => live v = live s ∧ (∀ r, src r → pub (v.trow n (dst r)) = pub (s.trow n r)) ∧
              ∀ r, src r → (∀ y, src y → dst y ≠ r) → (v.trow n r).valid = false)) ∧
          (c.op = .destroy → ends 0 0 fun v => v.spyTable n = {} ∧ (∀ r, r < x.cap → (v.spyRow (x.phys r)).valid = false) ∧ ∀ g ∈ x.segs, Tab.get 0 v.spy.segs g = 0))) ∧
    (∃ u, exec (.patrolVisit row) s = .next u ∧
      let p := row.toNat
      let own := Tab.get 0 s.spy.segs (p / 512)
      let y := s.spyTable (own - 1)
      let k := if y.wide then p / 2 * 2 else p
      let a := s.spyRow k
      let go := s.regBit Reg.spyCtl 0 = true ∧ s.regBit Reg.spyCtl 1 = true ∧ s.regBit Reg.spyCtl 2 = false ∧ s.spy.stop = false
      let sick := (s.busRead (s.mirAddr p) 64 3).2.1.isSome
      let outcome (kind : Nat) : Prop := u.reg Reg.spyErrLast = BitVec.ofNat 64 (p + (own - 1) * 2 ^ 20 + kind * 2 ^ 30) ∧
        u.regBit Reg.spyStat (if kind = 3 then 3 else 2) = true ∧ 16 ∈ u.orr.raised
      (own = 0 ∨ ¬go → u = s) ∧
      (own ≠ 0 → go → s.rowPending (own - 1) k = true ∨ a.quar = true ∨ a.lost = true → u.spy = s.spy ∧ u.mem = s.mem) ∧
      (own ≠ 0 → go → s.rowPending (own - 1) k = false → a.quar = false → a.lost = false →
        (sick = true → a.badPar = true → u.spyRow k = { a with lost := true } ∧ outcome 3) ∧
        (sick = true → a.badPar = false → u.spy.rows = s.spy.rows ∧ Tab.get {} u.spy.mir k = a ∧ outcome 2) ∧
        (sick = false → pub a ≠ Tab.get {} s.spy.mir k → u.spyRow k = { Tab.get {} s.spy.mir k with quar := true } ∧ outcome 1) ∧
        (sick = false → pub a = Tab.get {} s.spy.mir k → u.spy = s.spy))) ∧
    (∃ u, exec (.rowRepairRelease row) s = .next u ∧ u.spyRow row.toNat = { s.spyRow row.toNat with quar := false } ∧
      ∀ k, k ≠ row.toNat → u.spyRow k = s.spyRow k) ∧
    (∃ u, exec .mirrorWriteFail s = .next u ∧ (s.regBit Reg.spyCtl 0 = false → u = s) ∧
      (s.regBit Reg.spyCtl 0 = true → u.spy.stop = true ∧ u.spy.rows = s.spy.rows ∧ u.regBit Reg.spyStat 1 = true ∧ 16 ∈ u.orr.raised)) ∧
    (∃ u, exec .resync s = .next u ∧ u.regBit Reg.spyCtl 2 = true ∧ u.spy = s.spy ∧ u.mem = s.mem) ∧
    (∃ u, exec .resyncDone s = .next u ∧ (s.regBit Reg.spyCtl 2 = false → u = s) ∧
      (s.regBit Reg.spyCtl 2 = true → u.regBit Reg.spyCtl 2 = false ∧ u.spy.stop = false ∧ u.spy.rows = s.spy.rows ∧
        u.spy.mir = (s.spy.rows.map fun e => (e.1, { e.2 with badPar := false, quar := false })).filter fun e => decide (e.2 ≠ {})))

/-- Doorbells (R263–R266), fetch (R267, R268, R248), completions' layout (R272) and QM_QCTL (R274). -/
def Obligations.QueuesTakeDoorbellsAndFetchEntries : Prop :=
  ∀ (bid : BitVec 12) (q : BitVec 16) (form : DbForm) (v : W64) (b32 : BitVec 32) (s : State),
    let x := s.queue q
    let lo : BitVec 32 := v.setWidth 32
    let mine := x.exists_ = true ∧ (x.bid = bid ∨ bid = 0)
    let emptied (y : Queue) : Queue := { y with fetched := [], part := [], inflight := if y.role = 2 then y.inflight - y.fetched.length else y.inflight }
    let halts (a u : State) (cause : BitVec 16) (val : Nat) : Prop := let z := a.booth x.bid
      (z.st = .halted → u = a.setBooth x.bid { z with more := true }) ∧
      (z.st ≠ .halted → u.booth x.bid = { z with st := .halted, more := false, cause := cause, haltQ := q, detail := (u.booth x.bid).detail } ∧
        u.reg (Reg.boothHaltSlot x.bid.toNat) = BitVec.ofNat 64 (val % 2 ^ 32) ∧ u.reg (Reg.boothHaltTime x.bid.toNat) = a.merAt islHub ∧ 40 ∈ u.orr.raised ∧
        (∀ k, (u.booth k).st = .halted → k = x.bid ∨ (a.booth k).st = .halted) ∧
        (x.exists_ = true → u.queue q = emptied (a.queue q)) ∧ u.mem = a.mem)
    (∃ u, exec (.doorbellStore bid q .lo v) s = .next u ∧ (¬(mine ∧ x.prod = 0) → u = s) ∧
      (mine → x.prod = 0 →
        let ok := (x.sqTail - x.sqHead).toNat + (lo - x.sqTail).toNat ≤ 2 ^ x.sqLog
        (ok → u = s.setQueue q { x with sqTail := lo }) ∧ (¬ok → halts s u 0x0120 lo.toNat ∧ (u.queue q).sqTail = x.sqTail))) ∧
    (∃ u, exec (.doorbellStore bid q .hi v) s = .next u ∧ (¬mine → u = s) ∧
      (mine →
        let ok := (lo - x.cqHead).toNat ≤ (x.cqTail - x.cqHead).toNat
        (¬ok → halts s u 0x0121 lo.toNat ∧ (u.queue q).cqHead = x.cqHead) ∧
        (ok → x.hold = [] → u = s.setQueue q { x with cqHead := lo }) ∧
        (ok → x.prod ≠ 2 → x.hold.length ≤ 8 → (u.queue q).cqHead = lo ∧ (u.queue q).hold <:+ x.hold ∧
          ((u.queue q).hold = [] ∨ 2 ^ x.cqLog ≤ ((u.queue q).cqTail - lo).toNat)))) ∧
    (∃ u, exec (.doorbellStore bid q .full v) s = .next u ∧ (¬(mine ∧ x.prod = 0) → u = s) ∧
      (mine → x.prod = 0 → ∃ w, exec (.doorbellStore bid q .lo v) s = .next w ∧
        exec (.doorbellStore bid q .hi (BitVec.ofNat 64 (v.toNat / 2 ^ 32))) w = .next u)) ∧
    exec (.doorbellLoad bid q form) s = .next (if x.exists_ = true ∧ (x.bid = bid ∨ bid = 0) then { s with busReply := match form with
      | .full => BitVec.ofNat 64 (x.sqHead.toNat + x.cqTail.toNat * 2 ^ 32)
      | .lo => x.sqHead.setWidth 64
      | .hi => x.cqTail.setWidth 64 } else s) ∧
    (let pos := x.sqHead + BitVec.ofNat 32 (x.fetched.map Item.slots).sum
     let most (n : Nat) : Nat := if pos = x.sqHead then n else min n (64 - (pos - x.sqHead).toNat)
     let can := x.exists_ = true ∧ x.enable = true ∧ (s.booth x.bid).st = .active ∧ pos ≠ x.sqTail ∧ x.part.length / 16 < most 256
     (¬can → x.role ≠ 2 ∨ x.fetched = [] → exec (.entryFetch q) s = .next (s.frontTest q)) ∧
     (can → x.role ≠ 2 → ∃ u, exec (.entryFetch q) s = .next (u.frontTest q) ∧
       ∀ t r, (if x.part = [] then State.ringRead 1 s x pos else (s, .ok [])) = (t, r) →
         (∀ e, r = .error e → halts t u 0x0122 e.1.toNat ∧ ((t.booth x.bid).st ≠ .halted → (u.booth x.bid).detail = e.2)) ∧
         (∀ h, r = .ok h →
           let d := x.part ++ h
           let n := leVal ((d.drop 1).take 1)
           let held := d.length / 16
           let long := 2 ^ x.sqLog < n + 1 ∨ (x.sqTail - pos).toNat < n + 1
           (long → halts t u 0x0102 pos.toNat) ∧
           (¬long → ∀ t' r', State.ringRead (most (n + 1) - held) t x (pos + BitVec.ofNat 32 held) = (t', r') →
             (∀ e, r' = .error e → halts t' u 0x0122 e.1.toNat) ∧
             (∀ l, r' = .ok l → most (n + 1) < n + 1 → u = t'.setQueue q { t'.queue q with part := d ++ l }) ∧
             (∀ l, r' = .ok l → n + 1 ≤ most (n + 1) →
               let e : Item := { q := q, cls := x.cls, bid := x.bid, tag := BitVec.ofNat 32 (leVal ((d.drop 4).take 4)), data := d ++ l
                                 slot := pos, role := x.role, flow := x.flow }
               (structTest e x.role = none → u = t'.setQueue q { t'.queue q with fetched := x.fetched ++ [e], part := [] }) ∧
               (∀ st, structTest e x.role = some st → halts t' u st pos.toNat))))) ∧
     (x.role = 2 → ∀ e rest, x.fetched = e :: rest → ∃ u, exec (.entryFetch q) s = .next (u.frontTest q) ∧
       let go := s.mayDispatch q e = true ∧ s.regBit Reg.domCtl 0 = true
       let f := s.flow x.flow
       let old := f.cell e.tag
       let outside := (f.nextStamp - f.nextRel).toNat ≤ (e.tag - f.nextRel).toNat
       let gone (y : Queue) : Prop := y = { x with fetched := rest, sqHead := x.sqHead + BitVec.ofNat 32 e.slots, disp := x.disp + 1 }
       (¬go → u = s) ∧
       (go → outside ∨ old.entry.isSome = true → ∃ w : State, gone (w.queue q) ∧ w.flows = s.flows ∧ w.mem = s.mem ∧
         u = w.post q { status := if (f.nextStamp - f.nextRel).toNat ≤ (e.tag - f.nextRel).toNat then 0x0460 else 0x0461, tag := e.tag }) ∧
       (go → ¬outside → old.entry = none → gone (u.queue q) ∧ (∀ k, k ≠ q → u.queue k = s.queue k) ∧ (∀ k, k ≠ x.flow → u.flow k = s.flow k) ∧
         ∃ o, (u.flow x.flow).cell e.tag = { old with entry := some o } ∧ o.data = e.data ∧ o.tag = e.tag ∧ o.q = e.q ∧
           (u.flow x.flow).nextRel = f.nextRel ∧ (u.flow x.flow).nextStamp = f.nextStamp))) ∧
    exec (.qmQctlWrite q b32) s = .next (if x.exists_ = false then s
      else if b32.getLsbD 0 then s.setQueue q { x with enable := true } else s.setQueue q { emptied x with enable := false }) ∧
    (∀ c, x.ringFault = false → x.hold ≠ [] ∨ 2 ^ x.cqLog ≤ (x.cqTail - x.cqHead).toNat →
      (s.post q c).queue q = { x with inflight := x.inflight - 1, hold := x.hold ++ [c] } ∧ (s.post q c).mem = s.mem) ∧
    (∀ (c : Compl) (t : BitVec 32), let l := complBytes c t x.cqLog
      l.length = 16 ∧ leVal (l.take 2) = c.status.toNat ∧ leVal ((l.drop 2).take 2) = (if t.toNat / 2 ^ x.cqLog % 2 = 0 then 1 else 0) ∧
        leVal ((l.drop 4).take 4) = c.tag.toNat ∧ leVal (l.drop 8) = c.res.toNat)

/-- Ordered release (R245–R253). -/
def Obligations.DominoReleasesItemsInOrder : Prop :=
  ∀ (f : BitVec 16) (sq : BitVec 32) (v : W64) (s : State),
    let fl := s.flow f
    let lw := fld v 2 4
    (∃ u, exec .terminal s = .next u ∧ (s.terms = [] → u = s) ∧
      (∀ t r, s.terms = t :: r → t.rang ≠ [] → s.regBit Reg.domCtl 0 = false → u = s) ∧
      ∀ t r, s.terms = t :: r → t.rang = [] ∨ s.regBit Reg.domCtl 0 = true →
        let w := t.rang.foldl (fun (a : State) p => if (a.booth (a.queue p.1).bid).st = .halted then a
          else State.fetchUpTo (2 ^ (a.queue p.1).sqLog) a p.1 p.2) { s with terms := r }
        let g := w.flow t.item.flow
        let c := g.cell t.item.seq
        let late := 2 ^ 31 ≤ (t.item.seq - g.nextRel).toNat ∨ c.skipped = true
        (late → u = w.bump Reg.domLateCnt) ∧
        (¬late → (u.flow t.item.flow).cell t.item.seq = { c with term := some t.compl } ∧
          (u.flow t.item.flow).nextRel = g.nextRel ∧ u.terms = w.terms ∧ u.queues = w.queues ∧
          (∀ n : BitVec 32, n.toNat % 2 ^ g.log2w ≠ t.item.seq.toNat % 2 ^ g.log2w → (u.flow t.item.flow).cell n = g.cell n) ∧
          ∀ k, k ≠ t.item.flow → u.flow k = w.flow k)) ∧
    (let due (g : Flow) : Prop := let c := g.cell g.nextRel
       s.regBit Reg.domCtl 0 = true ∧ g.en = true ∧ g.err = false ∧ g.nextRel ≠ g.nextStamp ∧ (c.term.isSome = true ∨ c.skipped = true) ∧
         ((s.queue c.q).ringFault = true ∨ (s.queue c.q).hold.length < 8)
     ∃ u, exec .itemRelease s = .next u ∧ ((∀ e ∈ s.flows, ¬due e.2) → u = s) ∧
       ∀ l r k g, s.flows = l ++ (k, g) :: r → due g → k < 65536 → s.flow (BitVec.ofNat 16 k) = g →
         (s.domLast < k ∧ ∀ e ∈ l, s.domLast < e.1 → ¬due e.2) ∨ ((∀ e ∈ s.flows, s.domLast < e.1 → ¬due e.2) ∧ ∀ e ∈ l, ¬due e.2) →
         let i := BitVec.ofNat 16 k
         let c := g.cell g.nextRel
         let sick := (s.busRead (g.base + 128 * (g.nextRel.toNat % 2 ^ g.log2w)) 128 (s.queue c.q).prio).2.1.isSome
         (sick = true → u.flow i = { g with err := true } ∧ u.regBit Reg.domStat 1 = true ∧ 19 ∈ u.orr.raised ∧ u.queues = s.queues) ∧
         (sick = false → ∃ w : State, (w.flow i).nextRel = g.nextRel + 1 ∧ (w.flow i).cell g.nextRel = {} ∧ (w.flow i).waitFrom = s.mer.ns ∧
           (w.flow i).nextStamp = g.nextStamp ∧ (w.flow i).stalled = false ∧ w.queues = s.queues ∧ (∀ j, j ≠ i → w.flow j = s.flow j) ∧
           (c.skipped = true → c.entry = none → u = { (w.post c.q { status := 0x0260, tag := c.tag }).bump Reg.domRelCnt with domLast := k }) ∧
           (∀ e, c.skipped = true → c.entry = some e → u = { (((w.bump Reg.domDiscCnt).post e.q { status := 0x0260, tag := e.tag }).post c.q
             { status := 0x0260, tag := c.tag }).bump Reg.domRelCnt with domLast := k }) ∧
           (∀ m, c.skipped = false → c.term = some m → c.entry = none → u = { (w.post c.q m).bump Reg.domRelCnt with domLast := k }) ∧
           (∀ m e, c.skipped = false → c.term = some m → c.entry = some e →
             u = { ((w.setQueue e.q { w.queue e.q with released := (w.queue e.q).released ++ [e] }).post c.q m).bump Reg.domRelCnt with domLast := k }))) ∧
    (let c := fl.cell sq
     let d := (sq - fl.nextRel).toNat
     let out := (fl.nextStamp - fl.nextRel).toNat ≤ d
     let res (u : State) (st : Nat) : Prop := u = s.setReg Reg.domCmdRes (BitVec.ofNat 64 st)
     ∃ u, exec (.skip f sq) s = .next u ∧
       (fl.en = false → res u 0x0401) ∧ (fl.en = true → 2 ^ 31 ≤ d → res u 0x0201) ∧ (fl.en = true → d < 2 ^ 31 → out → res u 0x0401) ∧
       (fl.en = true → d < 2 ^ 31 → ¬out → c.term.isSome = true → res u 0x0262) ∧
       (fl.en = true → d < 2 ^ 31 → ¬out → c.term = none → u.reg Reg.domCmdRes = 0 ∧ (u.flow f).cell sq = { c with skipped := true } ∧
         (u.flow f).nextRel = fl.nextRel ∧ u.queues = s.queues ∧ ∀ k, k ≠ f → u.flow k = s.flow k)) ∧
    (∃ u, exec (.domFlush f) s = .next u ∧ (fl.en = false → u = s.setReg Reg.domCmdRes 0x0401) ∧
      (fl.en = true → u.flow f = { fl with cells := [], nextRel := fl.nextStamp, err := false, stalled := false } ∧ u.reg Reg.domCmdRes = 0 ∧
        ∃ a : Nat → State, a 0 = s ∧ u.queues = (a (fl.nextStamp - fl.nextRel).toNat).queues ∧
          ∀ i, i < (fl.nextStamp - fl.nextRel).toNat → let c := fl.cell (fl.nextRel + BitVec.ofNat 32 i)
            let lost (w : State) : State := w.post c.q { status := 0x0661, tag := c.tag }
            (c.entry = none → a (i + 1) = lost (a i)) ∧
            ∀ e, c.entry = some e → a (i + 1) = lost (((a i).bump Reg.domDiscCnt).post e.q { status := 0x0661, tag := e.tag }))) ∧
    (let lim := fld (s.reg Reg.domStall) 0 20
     let late := lim ≠ 0 ∧ fl.en = true ∧ fl.stalled = false ∧ fl.nextRel ≠ fl.nextStamp ∧ lim * 1000 ≤ (s.mer.ns - fl.waitFrom).toNat
     ∃ u, exec (.stallDetect f) s = .next u ∧ (¬late → u = s) ∧
       (late → u.flow f = { fl with stalled := true } ∧ u.regBit Reg.domStat 0 = true ∧ 18 ∈ u.orr.raised ∧ u.queues = s.queues ∧
         u.reg Reg.domStallLast = BitVec.ofNat 64 (f.toNat + fl.nextRel.toNat * 2 ^ 32))) ∧
    (∃ u, exec (.flowCfgWrite f v) s = .next u ∧
      (fl.en = true → bitAt v 0 = true → u = s) ∧
      (fl.en = true → bitAt v 0 = false → fl.nextStamp = fl.nextRel → u = s.setFlow f { fl with en := false }) ∧
      ((fl.en = true ∧ bitAt v 0 = false ∧ fl.nextStamp ≠ fl.nextRel) ∨ (fl.en = false ∧ bitAt v 0 = true ∧ (lw < 4 ∨ 12 < lw)) →
        u = s.setRegBit Reg.domStat 2 true) ∧
      (fl.en = false → ¬(bitAt v 0 = true ∧ (lw < 4 ∨ 12 < lw)) →
        u.flow f = { fl with en := bitAt v 0, log2w := lw, bid := v.extractLsb' 8 12, base := fld v 20 28 * 2 ^ 20 } ∧
        u.csr = s.csr ∧ ∀ k, k ≠ f → u.flow k = s.flow k))

/-- Admin commands (R278–R284, R462). -/
def Obligations.AdminCommandsTestInOrderAndTakeEffect : Prop :=
  ∀ (src : AdmSrc) (s : State),
    let runs (op : Nat) (e : Item) (t : State) : Prop := s.adm = none ∧ match src with
      | .ring => s.dispatches 0 op 0 always e t
      | .direct => s.admGo = true ∧ s.directItem.opcode = op ∧ s.mode ≠ modeHoldup ∧ e = s.directItem ∧ t = s
    let ended (t u : State) (e : Item) (st : BitVec 16) (res : W64) : Prop := match src with
      | .ring => u = t.complete e st res
      | .direct => u = { (t.setReg Reg.qmAdmRes0 (BitVec.ofNat 64 (st.toNat + e.tag.toNat * 2 ^ 32))).setReg Reg.qmAdmRes1 res with admGo := false }
    let outcome (e : Item) (t u : State) (tests : Item → State → List (Prop × BitVec 16)) (eff : Item → State → W64 → State → Prop) : Prop :=
      (∀ l p st r, tests e t = l ++ (p, st) :: r → p → (∀ z ∈ l, ¬z.1) → ended t u e st 0) ∧
      ((∀ z ∈ tests e t, ¬z.1) → ∃ w v, eff e t w v ∧ ended v u e 0 w)
    let bid (e : Item) (k : Nat) : BitVec 12 := BitVec.ofNat 12 (e.fieldN k 2)
    let big (e : Item) (k : Nat) : Prop := 4095 < e.fieldN k 2
    let any (e : Item) : Prop := e.fieldN 10 1 % 2 = 1
    let free (t : State) (b : BitVec 12) : Prop := (t.booth b).st = .free
    let first (p : Nat → Prop) (n m : Nat) : Prop := 1 ≤ n ∧ n < m ∧ p n ∧ ∀ k, 1 ≤ k → k < n → ¬p k
    let onlyBooth (t v : State) (b : BitVec 12) (y : Booth) : Prop :=
      v.booth b = y ∧ (∀ k, k ≠ b → v.booth k = t.booth k) ∧ v.queues = t.queues ∧ v.mem = t.mem ∧ v.csr = t.csr
    let resets (t v : State) (b : BitVec 12) (w : W64) : Prop :=
      v.booth b = { t.booth b with st := .active, more := false, cause := 0, haltQ := 0, detail := 0 } ∧ (∀ k, k ≠ b → v.booth k = t.booth k) ∧
        (∀ q, let x := t.queue q; x.exists_ = true → x.bid = b → v.queue q = { x with
          enable := false, fetched := [], part := [], sqHead := x.sqTail, inflight := if x.role = 2 then x.inflight - x.fetched.length else x.inflight }) ∧
        (∀ q : BitVec 16, (∀ e ∈ t.queues, e.1 % 65536 = q.toNat → e.2.exists_ = false ∨ e.2.bid ≠ b) → v.queue q = t.queue q) ∧
        w = BitVec.ofNat 64 (((t.queues.filter fun e => e.2.exists_ && e.2.bid == b).map fun e => (e.2.sqTail - e.2.sqHead).toNat).sum % 2 ^ 32)
    (∃ u, exec .adminDirectGo s = .next u ∧
      let e := s.directItem
      (s.admGo = true → u = s) ∧ (s.admGo = false → structTest e 0 = none → u = { s with admGo := true }) ∧
      ∀ st, s.admGo = false → structTest e 0 = some st → u.regBit Reg.qmAdmCtl 1 = true ∧ (u.booth 0).st = .halted ∧ u.admGo = false ∧
        ((s.booth 0).st ≠ .halted → (u.booth 0).cause = st ∧ (u.booth 0).haltQ = 0 ∧ u.reg (Reg.boothHaltSlot 0) = 0 ∧ 40 ∈ u.orr.raised)) ∧
    (∀ c ∈ [(1, Instr.createBooth src), (2, .destroyBooth src), (3, .resetBooth src), (4, .createQueue src), (5, .destroyQueue src), (6, .setWindow src),
      (7, .clearWindow src), (8, .setQuota src), (9, .setShare src)], (∀ e t, ¬runs c.1 e t) → exec c.2 s = .next s) ∧
    (∀ e t, runs 1 e t → ∃ u, exec (.createBooth src) s = .next u ∧ outcome e t u (fun e t => [(¬any e ∧ big e 8, 0x0401), (¬any e ∧ ¬free t (bid e 8), 0x0201),
        (any e ∧ ∀ k, 1 ≤ k → k < 4096 → ¬free t (BitVec.ofNat 12 k), 0x0321)])
      (fun e t w v => ∃ b, onlyBooth t v b { st := .active } ∧ w = b.setWidth 64 ∧ (¬any e → b = bid e 8) ∧
        (any e → first (fun k => free t (BitVec.ofNat 12 k)) b.toNat 4096))) ∧
    (∀ e t, runs 2 e t → ∃ u, exec (.destroyBooth src) s = .next u ∧ outcome e t u (fun e t => let b := bid e 8
        [(big e 8, 0x0401), (free t b ∨ b = 0 ∨ t.inUse b 0 ≠ 0 ∨ t.inUse b 1 ≠ 0 ∨ t.inUse b 2 ≠ 0 ∨ t.inUse b 4 ≠ 0 ∨ t.inUse b 5 ≠ 0 ∨ t.inUse b 6 ≠ 0 ∨
          ∃ g ∈ t.flows, g.2.en = true ∧ g.2.bid = b, 0x0201)])
      (fun e t w v => onlyBooth t v (bid e 8) {} ∧ w = 0)) ∧
    ((∀ e t, runs 3 e t → ∃ u, exec (.resetBooth src) s = .next u ∧
        (big e 8 → ended t u e 0x0401 0) ∧ (¬big e 8 → (t.booth (bid e 8)).st ≠ .halted → ended t u e 0x0201 0) ∧
        (¬big e 8 → (t.booth (bid e 8)).st = .halted → t.boothF (bid e 8) ≠ 0 → u = { t with adm := some (bid e 8, src, e.tag) }) ∧
        (¬big e 8 → (t.booth (bid e 8)).st = .halted → t.boothF (bid e 8) = 0 → ∃ w v, resets t v (bid e 8) w ∧ ended v u e 0 w))) ∧
    (∃ u, exec .resetBoothDiscard s = .next u ∧ (s.adm = none → u = s) ∧
      ∀ b tag, s.adm = some (b, src, tag) → (s.boothF b ≠ 0 → u = s) ∧
        (s.boothF b = 0 → ∃ w v, resets s v b w ∧ v.adm = none ∧ ended v u { tag := tag } 0 w)) ∧
    (∀ e t, runs 4 e t → ∃ u, exec (.createQueue src) s = .next u ∧ outcome e t u (fun e t => let b := bid e 12
        let cls := e.fieldN 11 1
        let prod := e.fieldN 10 1 / 4 % 4
        let role := e.fieldN 34 1
        let evt := e.fieldN 10 1 / 2 % 2 = 1
        let f := t.flow (BitVec.ofNat 16 (e.fieldN 32 2))
        [(t.mode = modeInit ∨ t.mode = modeQuiesce ∨ t.mode = modeHoldup, 0x0203),
          ((¬any e ∧ e.fieldN 8 2 = 0) ∨ cls = 0 ∨ 7 < cls ∨ big e 12 ∨ e.fieldN 14 1 < 4 ∨ 20 < e.fieldN 14 1 ∨ e.fieldN 15 1 < 4 ∨ 20 < e.fieldN 15 1 ∨
            e.fieldN 16 8 % (16 * 2 ^ e.fieldN 14 1) ≠ 0 ∨ e.fieldN 24 8 % (16 * 2 ^ e.fieldN 15 1) ≠ 0 ∨ 2 < role ∨
            (role = 2 ∧ (cls = 1 ∨ cls = 6)) ∨ ¬(prod = 0 ∨ (prod = 1 ∧ cls = 1) ∨ (prod = 2 ∧ cls = 6)) ∨ 3 < e.fieldN 35 1 ∨ e.fieldN 36 2 = 0 ∨
            4096 < e.fieldN 36 2 ∨ (evt ∧ (e.fieldN 38 2 < 256 ∨ 4095 < e.fieldN 38 2)) ∨ (¬evt ∧ e.fieldN 38 2 ≠ 0) ∨
            (cls = 1 ∧ e.fieldN 40 1 = 0) ∨ (cls ≠ 1 ∧ e.fieldN 40 1 ≠ 0) ∨ (role ≠ 0 ∧ f.bid ≠ b), 0x0401),
          (free t b, 0x0201), ((t.booth b).st = .halted, 0x0220),
          ((¬any e ∧ (t.queue (BitVec.ofNat 16 (e.fieldN 8 2))).exists_ = true) ∨ (role ≠ 0 ∧ f.en = false), 0x0201),
          (t.quota b 0 ≤ t.inUse b 0, 0x0301),
          (any e ∧ ∀ k, 1 ≤ k → k < 65536 → (t.queue (BitVec.ofNat 16 k)).exists_ = true, 0x0320)])
      (fun e t w v => ∃ q, w = q.setWidth 64 ∧ (¬any e → q = BitVec.ofNat 16 (e.fieldN 8 2)) ∧
        (any e → first (fun k => (t.queue (BitVec.ofNat 16 k)).exists_ = false) q.toNat 65536) ∧
        v.queue q = { exists_ := true, cls := e.fieldN 11 1, prod := e.fieldN 10 1 / 4 % 4, evt := decide (e.fieldN 10 1 / 2 % 2 = 1)
                      prio := BitVec.ofNat 2 (e.fieldN 35 1), sqLog := e.fieldN 14 1, cqLog := e.fieldN 15 1, bid := bid e 12, sqBase := e.word 16
                      cqBase := e.word 24, flow := BitVec.ofNat 16 (e.fieldN 32 2), role := e.fieldN 34 1, slices := BitVec.ofNat 8 (e.fieldN 40 1)
                      src := BitVec.ofNat 12 (e.fieldN 38 2), maxInflight := e.fieldN 36 2 } ∧
        v.reg (Reg.qmQdisp q.toNat) = 0 ∧ v.reg (Reg.qmQdrop q.toNat) = 0 ∧ (∀ k, k ≠ q → v.queue k = t.queue k) ∧ v.booths = t.booths ∧ v.mem = t.mem)) ∧
    (∀ e t, runs 5 e t → ∃ u, exec (.destroyQueue src) s = .next u ∧ outcome e t u (fun e t => let q := BitVec.ofNat 16 (e.fieldN 8 2)
        let x := t.queue q
        [(q = 0 ∨ x.exists_ = false ∨ x.enable = true ∨ x.inflight ≠ 0 ∨ x.hold ≠ [], 0x0201)])
      (fun e t w v => w = 0 ∧ v.queue (BitVec.ofNat 16 (e.fieldN 8 2)) = {} ∧ (∀ k, k ≠ BitVec.ofNat 16 (e.fieldN 8 2) → v.queue k = t.queue k) ∧
        v.booths = t.booths ∧ v.mem = t.mem ∧ v.csr = t.csr)) ∧
    (∀ e t, runs 6 e t → ∃ u, exec (.setWindow src) s = .next u ∧ outcome e t u (fun e t => let base := e.fieldN 16 8
        let size := e.fieldN 24 8
        let g := t.winRegion (e.fieldN 32 8) size
        [(big e 8 ∨ 4 < e.fieldN 12 1 ∨ base % 65536 ≠ 0 ∨ size % 65536 ≠ 0 ∨ e.fieldN 32 8 % 65536 ≠ 0 ∨ size = 0 ∨ 2 ^ 48 < base + size ∨ g = none ∨
            (g = some .bell ∧ (e.fieldN 12 1 ≠ 3 ∨ e.fieldN 11 1 / 4 % 2 = 1)), 0x0401),
          (free t (bid e 8), 0x0201),
          (∃ w ∈ (t.booth (bid e 8)).windows, w.1 ≠ e.fieldN 10 1 ∧ w.2.valid = true ∧ w.2.base < base + size ∧ base < w.2.base + w.2.size, 0x0201)])
      (fun e t w v => w = 0 ∧ ∃ l, onlyBooth t v (bid e 8) { t.booth (bid e 8) with windows := l } ∧
        (∀ k, k ≠ e.fieldN 10 1 → Tab.get {} l k = Tab.get {} (t.booth (bid e 8)).windows k) ∧
        Tab.get {} l (e.fieldN 10 1) = { valid := true, base := e.fieldN 16 8, size := e.fieldN 24 8, target := e.fieldN 32 8
                                         r := decide (e.fieldN 11 1 % 2 = 1), w := decide (e.fieldN 11 1 / 2 % 2 = 1)
                                         x := decide (e.fieldN 11 1 / 4 % 2 = 1), attr := attrOf (e.fieldN 12 1) })) ∧
    (∀ e t, runs 7 e t → ∃ u, exec (.clearWindow src) s = .next u ∧ outcome e t u (fun e t => [(big e 8, 0x0401), (free t (bid e 8), 0x0201)])
      (fun e t w v => w = 0 ∧ ∃ l, onlyBooth t v (bid e 8) { t.booth (bid e 8) with windows := l } ∧
        ∀ k, Tab.get {} l k = if k = e.fieldN 10 1 then {} else Tab.get {} (t.booth (bid e 8)).windows k)) ∧
    (∀ e t, runs 8 e t → ∃ u, exec (.setQuota src) s = .next u ∧ outcome e t u (fun e t => [(big e 8 ∨ 7 < e.fieldN 10 1, 0x0401), (free t (bid e 8), 0x0201)])
      (fun e t w v => w = 0 ∧ ∃ l, onlyBooth t v (bid e 8) { t.booth (bid e 8) with quota := l } ∧
        ∀ r, v.quota (bid e 8) r = if r = e.fieldN 10 1 then e.fieldN 16 4 else t.quota (bid e 8) r)) ∧
    (∀ e t, runs 9 e t → ∃ u, exec (.setShare src) s = .next u ∧ outcome e t u (fun e t => let ways := BitVec.ofNat 16 (e.fieldN 12 2)
        [(t.mode = modeSealed, 0x0203), (big e 8 ∨ 7 < e.fieldN 10 1, 0x0401), (free t (bid e 8), 0x0201),
          (∃ y ∈ t.booths, y.1 ≠ (bid e 8).toNat ∧ y.2.st ≠ .free ∧ Tab.get 0 y.2.ways (e.fieldN 10 1) &&& ways ≠ 0, 0x0201)])
      (fun e t w v => w = 0 ∧ ∃ l m, onlyBooth t v (bid e 8) { t.booth (bid e 8) with ways := l, engines := m } ∧
        ∀ k, Tab.get 0 l k = (if k = e.fieldN 10 1 then BitVec.ofNat 16 (e.fieldN 12 2) else Tab.get 0 (t.booth (bid e 8)).ways k) ∧
          Tab.get 0xFFFF m k = (if k = e.fieldN 10 1 then BitVec.ofNat 16 (e.fieldN 14 2) else Tab.get 0xFFFF (t.booth (bid e 8)).engines k)))

/-- Programs, relocation, erase, table pages and open blocks (R300–R317). -/
def Obligations.AlmanacProgramsRelocatesAndErases : Prop :=
  ∀ (g : Fin 32) (stream : BitVec 4) (blk : BitVec 28) (steps : Nat) (weak okR okP : Bool) (s : State),
    let ge := s.alm.geom
    let loc (b p i : Nat) : Nat := locAt b (p + i / ge.spp) (i % ge.spp)
    let seq := (s.reg Reg.almSeq).toNat
    (∃ u, exec (.programComplete g okP) s = .next u ∧ (s.progOf g = none → u = s) ∧
      ∀ p, s.progOf g = some p → (16384 < s.alm.dirty.length + 3 * p.slots.length → u = s) ∧
        (s.alm.dirty.length + 3 * p.slots.length ≤ 16384 → ∃ w : State, u = (w.gcCheck g).almGo ∧
          (∀ o, okP = true → s.alm.opens.find? (fun o => o.blk = p.blk) = some o → s.openOf g o.stream = some o →
            o.page + (p.slots.length - 1) / ge.spp < 4096 →
            (∀ i, i < p.slots.length → w.nslot (loc o.blk o.page i) = p.slots.getD i {}) ∧ (∀ b ∈ w.alm.buf, b.id ∉ p.bufs) ∧
            (∀ b ∈ s.alm.buf, b.id ∉ p.bufs → b ∈ w.alm.buf) ∧ w.progOf g = none ∧
            (if o.page + ge.wlp < ge.ppb then { o with page := o.page + ge.wlp } ∈ w.alm.opens
             else o.blk ∈ w.alm.closed ∧ ∀ x ∈ w.alm.opens, x.blk ≠ o.blk)) ∧
          (okP = false → (∀ i, i < p.slots.length → (w.nslot (loc p.blk p.page i)).good = false) ∧ w.progOf g = none ∧
            (∀ x ∈ w.alm.opens, x.blk ≠ p.blk) ∧
            ∀ b ∈ s.alm.buf, b.id ∈ p.bufs → b.dead = false → (∀ c ∈ s.alm.buf, c.id = b.id → c = b) → { b with issued := false } ∈ w.alm.buf))) ∧
    (∃ u, exec (.programUnitFillTimeout g) s = .next u ∧
      let waited (st : Nat) : Prop := ∃ b ∈ s.pend st, b.prot = false ∨ (s.ns b.nsid).destroying = true ∨ (∃ c ∈ s.urgentBuf, c.id = b.id) ∨
        ∃ e ∈ s.alm.cmds, b.id ∈ e.2.waits
      (¬waited 0 → ¬waited 1 → u = s) ∧
      ∀ st o, (st = 1 ∨ (st = 0 ∧ ¬waited 1)) → waited st → s.openOf g st = some o → s.progOk = true → s.progOf g = none →
        let lun := lunOf o.blk
        let n := o.fits ge fun i => match (s.pend st)[i]? with | some b => if b.ext && b.lba % 16 == 0 then 16 else 0 | none => 0
        let first := s.urgentBuf.filter fun b => !b.issued
        (st = 0 → s.alm.follow = none ∨ s.alm.follow = some lun) →
        (st = 1 → ∀ e ∈ s.alm.progs, ∀ p, e.2 = some p → ∀ x ∈ p.slots, x.kind ≠ 4) →
        s.lunReads lun = false → s.relocFirst g lun = false → (first = [] ∨ ∃ b ∈ (s.pend st).take (max n 1), ∃ c ∈ first, c.id = b.id) →
        let l := (s.pend st).take n
        ∃ p, u.progOf g = some p ∧ p.blk = o.blk ∧ p.page = o.page ∧ p.bufs = l.map (fun b => b.id) ∧ p.slots.length = ge.unit ∧
          u.reg Reg.almSeq = s.reg Reg.almSeq + BitVec.ofNat 64 ge.unit ∧ (∀ b ∈ u.alm.buf, b.id ∈ p.bufs → b.issued = true) ∧
          (∀ i (h : i < l.length), p.slots.getD i {} = { l[i].slot with seq := seq + i }) ∧
          ∀ i, l.length ≤ i → i < ge.unit → p.slots.getD i {} = { written := true, kind := 3, seq := seq + i }) ∧
    (∃ u, exec (.relocationCopy g okR okP) s = .next u ∧ (s.relocOk = false ∨ s.victimOf g = none → u = s) ∧
      ∀ v, s.relocOk = true → s.victimOf g = some v →
        let tabs := ((s.liveSlots v).filter fun e => e.2.kind == 1).map fun e => e.2.lba
        let data := (s.liveSlots v).filter fun e => e.2.kind != 1
        let t := if s.dirtyRoom tabs.length then tabs.foldl (fun a p => a.dirtyAdd p a.lastSeq) s else s
        (data = [] → u = t.almGo) ∧
        ∀ e rest, data = e :: rest →
          let from_ := t.origin e.1
          let go := t.dirtyRoom (4 * ge.unit) = true ∧ t.lunIdle (lunOf from_) = true
          let bad := okR = false ∨ (t.nslot from_).good = false
          (¬go → u = t) ∧
          (go → bad → ∃ w : State, u = w.almGo ∧ w.regBit Reg.almStat 9 = true ∧ w.alm.nand = s.alm.nand) ∧
          (go → ¬bad → t.openOf g 2 = none → u = t) ∧
          (∀ o, go → ¬bad → t.openOf g 2 = some o → t.lunIdle (lunOf o.blk) = false → u = t) ∧
          (∀ o, go → ¬bad → t.openOf g 2 = some o → t.lunIdle (lunOf o.blk) = true → o.blk < 2 ^ 28 → o.page + (ge.unit - 1) / ge.spp < 4096 →
            let take := data.take (o.fits ge (extStart data))
            ∃ w : State, u = (w.gcCheck g).almGo ∧ (o.blk ≠ v → ∀ n, n % 2 ^ 28 = v → w.nslot n = s.nslot n) ∧
              ∀ i (h : i < take.length), if okP then w.nslot (loc o.blk o.page i) = { take[i].2 with copy := true, src := BitVec.ofNat 64 (1 + 4 * take[i].1), seq := seq + i }
                else (w.nslot (loc o.blk o.page i)).good = false)) ∧
    (∃ u, exec (.blockErase blk okP) s = .next u ∧ (s.erasable blk.toNat = false → u = s) ∧
      (s.erasable blk.toNat = true → ∃ w : State, u = (w.gcCheck (blk.toNat % 32)).almGo ∧
        (okP = true → (∀ n, w.nslot n = if n % 2 ^ 28 = blk.toNat then {} else s.nslot n) ∧ blk.toNat ∉ w.alm.closed) ∧
        (okP = false → w.alm.nand = s.alm.nand ∧ w.reg (Reg.flcCnt (blk.toNat % 32) 8) = s.reg (Reg.flcCnt (blk.toNat % 32) 8) + 1)) ∧
      (s.erasable blk.toNat = true → (∀ n, n % 2 ^ 28 = blk.toNat → (s.slotLive n (s.nslot n) = false ∨ s.nslot n = {})) ∧
        s.blkState blk.toNat = 2 ∧ Tab.get [] s.alm.dests blk.toNat = [] ∧ ∀ n, n % 2 ^ 28 = blk.toNat → s.nslot n = {} ∨ (s.nslot n).seq ≤ (s.reg Reg.almCkptSeq).toNat)) ∧
    (∃ u, exec (.patrolRead blk steps weak) s = .next u ∧
      let runs := s.relocOk = true ∧ s.regBit Reg.almCtl 1 = true ∧ blk.toNat ∈ s.alm.closed ∧ s.lunIdle (lunOf blk.toNat) = true ∧ s.dirtyRoom 1 = true
      let c := Reg.flcCnt (blk.toNat % 32) 0
      (¬runs → u = s) ∧ (runs → u.reg c = s.reg c + 1 ∧ u.alm.nand = s.alm.nand ∧
        (s.regBit Reg.almStat 4 = false → weak = true ∨ 0 < steps → blk.toNat ∈ u.alm.victims))) ∧
    (∃ u, exec .tablePageWrite s = .next u ∧
      let ps := (s.alm.dirty.take ge.unit).map Prod.fst
      let can (k : Nat) (o : OpenBlk) : Prop := k < 32 ∧ s.openOf k 3 = some o ∧ s.progOf k = none
      (s.progOk = false ∨ ps = [] ∨ (∀ k o, ¬can k o) → u = s.almGo) ∧
      (s.progOk = true → ps ≠ [] → (∃ k o, can k o) → ∃ (k : Nat) (o : OpenBlk) (w : State), can k o ∧ u = w.almGo ∧
        w.reg (Reg.almCnt 2) = s.reg (Reg.almCnt 2) + BitVec.ofNat 64 ps.length ∧
        (o.page + (ge.unit - 1) / ge.spp < 4096 → ∀ i (h : i < ps.length), let x := w.nslot (loc o.blk o.page i)
          x.written = true ∧ x.kind = 1 ∧ x.lba = ps[i] ∧ x.seq = seq + i ∧
          (s.regBit Reg.almStat 2 = false → x.data = unitOfBytes (s.peekN (s.mapBase + 4096 * ps[i]) 4096))))) ∧
    (∃ u, exec (.blockOpen g stream) s = .next u ∧
      let st := stream.toNat
      let free := s.freeBlks g
      let ro := s.regBit Reg.almStat 4
      let stays := 3 < st ∨ s.progOk = false ∨ (s.openOf g st).isSome = true ∨ 65536 < s.alm.jused + s.alm.jnext + 2 ∨ ge.blocks g = [] ∨ (st = 2 ∧ s.relocOk = false) ∨
        (st ≠ 3 ∧ s.dirtyRoom 1 = false)
      let whole := s.regBit Reg.almStat 2 = false
      (stays → u = s) ∧ (¬stays → free = [] → st ≠ 3 → ro = false → u = s.almReadonly) ∧
      (¬stays → whole → free = [] → (st = 3 ∧ ro = false) ∨ (ro = true ∧ s.rsvBlks g = []) → u.alm.opens = s.alm.opens) ∧
      (¬stays → whole → free ≠ [] → ∃ b ∈ free, u.alm.opens = s.alm.opens ++ [{ blk := b, stream := st, page := 0 }] ∧
        (st ≠ 0 ∨ s.alm.follow = none → ∀ c ∈ free, s.blkPe b ≤ s.blkPe c)) ∧
      (¬stays → whole → free = [] → ro = true → s.rsvBlks g ≠ [] → ∃ b ∈ s.rsvBlks g, u.alm.opens = s.alm.opens ++ [{ blk := b, stream := st, page := 0 }])) ∧
    (∃ u, exec .tablePageLoad s = .next u ∧ (s.regBit Reg.almStat 2 = false → u = s) ∧
      (s.regBit Reg.almStat 2 = true →
        ((∀ p, p < s.tabPages → p ∈ s.alm.loaded) → u.regBit Reg.almStat 2 = false ∧ u.alm = { s.alm with loaded := [] }) ∧
        ∀ p, p < s.tabPages → p ∉ s.alm.loaded → (∀ k, k < p → k ∈ s.alm.loaded) → u.alm = { s.alm with loaded := p :: s.alm.loaded } ∧
          u.regBit Reg.almStat 2 = true))

/-- FORMAT, namespaces, checkpoints, ledger registers and power states (R291–R323, R343). -/
def Obligations.AlmanacNamespacesCheckpointsAndLedger : Prop :=
  ∀ (marked failed : List Nat) (nsid : BitVec 11) (bid : BitVec 12) (size : BitVec 24) (ledger ordered : Bool) (v : BitVec 32) (s : State),
    let ready := s.regBit Reg.almStat 0 = true
    let hold := s.mode = modeHoldup
    let seals (a w : State) (n : Nat) : Prop := let x := a.ns n
      let d := unitOfBytes x.openData
      let c := sha256 (leBytes 32 x.head.toNat ++ leBytes 4096 d.toNat ++ leBytes 8 x.units ++ leBytes 2 x.openData.length ++ leBytes 2 n ++ leBytes 4 0)
      w.ns n = { x with units := x.units + 1, offset := 4096 * (x.units + 1), head := c, openData := [], openProt := false } ∧
        (∀ k, k ≠ n → w.ns k = a.ns k) ∧
        w.alm.buf = a.alm.buf ++ [{ id := a.alm.nextBuf, nsid := n, lba := x.units, kind := 4, data := d, prot := x.openProt
                                    used := x.openData.length, chain := c }]
    let began (a w : State) : Prop := (a.alm.ckpt = none → w.alm.ckpt = some ((a.reg Reg.almSeq).toNat - 1) ∧ w.regBit Reg.almStat 6 = true) ∧
      (a.alm.ckpt.isSome = true → w.alm.ckpt = a.alm.ckpt ∧ w.alm.ckptDue = true)
    (∃ u, exec .format s = .next u ∧
      let busy := s.regBit Reg.almStat 7 = true
      let some_ := ∃ e ∈ s.alm.ns, e.2.exists_ = true
      (busy → u = s) ∧ (¬busy → s.mode ≠ modeQuiesce → u = s.setReg Reg.almFmtRes 0x0203) ∧
      (¬busy → s.mode = modeQuiesce → some_ → u = s.setReg Reg.almFmtRes 0x0201) ∧
      (¬busy → s.mode = modeQuiesce → ¬some_ → s.fmtBad [] = true → u = s.setReg Reg.almFmtRes 0x0401) ∧
      (¬busy → s.mode = modeQuiesce → ¬some_ → s.fmtBad [] = false → u.regBit Reg.almStat 7 = true ∧ { u.alm with fmtOld := [] } = { s.alm with fmtOld := [] } ∧ u.queues = s.queues)) ∧
    (∃ u, exec (.formatComplete marked failed) s = .next u ∧
      let runs := s.regBit Reg.almStat 7 = true ∧ ¬hold
      (¬runs → u = s) ∧
      (runs → s.fmtBad (marked ++ failed) = true → ∃ w : State, u = w.almGo ∧ w.reg Reg.almFmtRes = 0x0401 ∧ w.regBit Reg.almStat 7 = false ∧
        { w.alm with fmtOld := [] } = { s.alm with fmtOld := [] }) ∧
      (runs → s.fmtBad (marked ++ failed) = false → ∃ w : State, u = w.nsCommitted.almGo ∧ w.reg Reg.almFmtRes = 0 ∧ w.regBit Reg.almStat 0 = true ∧ w.alm.ns = [] ∧ w.alm.buf = [] ∧
        w.reg Reg.almCap = BitVec.ofNat 64 (s.fmtCap (marked ++ failed)))) ∧
    (∃ u, exec (.nsCreate nsid bid size ledger ordered) s = .next u ∧
      let c : NsCmd := { op := 1, nsid := nsid.toNat, bid := bid, size := size.toNat, ledger := ledger, ordered := ordered }
      let w := ({ s with alm := { s.alm with nsq := s.alm.nsq ++ [c] } } : State).retireGo.pump.sweep
      let lowest (n : Nat) : Prop := 1 ≤ n ∧ n ≤ 1024 ∧ (w.ns n).exists_ = false ∧ ∀ k, 1 ≤ k → k < n → (w.ns k).exists_ = true
      let n := if c.nsid = 0 then (firstIdx 1025 fun i => i != 0 && !(w.ns i).exists_).getD 0 else c.nsid
      (∀ k r, s.alm.nsq = k :: r → 3 ≤ k.phase → u = w) ∧
      (s.alm.nsq = [] → w.alm.nsq = [c] → w.regBit Reg.almStat 7 = true → u = w) ∧
      (s.alm.nsq = [] → w.alm.nsq = [c] → w.regBit Reg.almStat 7 = false →
        let tests : List (Prop × BitVec 16) := [(w.mode = modeReadonly, 0x0203), (w.regBit Reg.almStat 0 = false, 0x0201), (c.size = 0 ∨ 1024 < c.nsid, 0x0401),
          ((c.nsid ≠ 0 ∧ (w.ns c.nsid).exists_ = true) ∨ (w.booth bid).st = .free, 0x0201), (c.nsid = 0 ∧ ∀ k, ¬lowest k, 0x0370),
          (w.quota bid 6 ≤ w.inUse6 bid, 0x0301), (w.freeRun c.size = none, 0x0302)]
        (∀ l p st r, tests = l ++ (p, st) :: r → p → (∀ z ∈ l, ¬z.1) →
          u.reg Reg.almNsRes = BitVec.ofNat 64 (st.toNat + n % 2048 * 65536) ∧ u.alm.ns = w.alm.ns ∧ u.alm.nsq = []) ∧
        ((∀ z ∈ tests, ¬z.1) → (c.nsid = 0 → lowest n) ∧ began w u ∧ u.alm.nsq = [{ c with nsid := n, phase := 3 }] ∧
          (∀ k, k ≠ n → u.ns k = w.ns k) ∧ ∃ r, w.freeRun c.size = some r ∧
          (u.ns n).exists_ = true ∧ (u.ns n).bid = bid ∧ (u.ns n).size = c.size ∧ (u.ns n).lbase = r * 262144 ∧ (u.ns n).ledger = ledger ∧
          (u.ns n).ordered = (ordered || ledger) ∧ (u.ns n).openData = [] ∧
          (ledger = true → (u.ns n).units = 0 ∧ (u.ns n).offset = 0 ∧ (u.ns n).gen = w.reg Reg.almSeq ∧
            (u.ns n).head = chainGenesis n (w.reg Reg.devSerial) (w.reg Reg.almSeq))))) ∧
    (∃ u, exec (.nsDestroy nsid) s = .next u ∧
      let n := nsid.toNat
      let c : NsCmd := { op := 2, nsid := n }
      let w := ({ s with alm := { s.alm with nsq := s.alm.nsq ++ [c] } } : State).retireGo.pump.sweep
      (∀ k r, s.alm.nsq = k :: r → 3 ≤ k.phase → u = w) ∧
      (s.alm.nsq = [] → w.alm.nsq = [c] → w.regBit Reg.almStat 7 = true → u = w) ∧
      (s.alm.nsq = [] → w.alm.nsq = [c] → w.regBit Reg.almStat 7 = false →
        let tests : List (Prop × BitVec 16) := [(w.mode = modeReadonly, 0x0203), (w.regBit Reg.almStat 0 = false, 0x0201), (1024 < n, 0x0401), ((w.ns n).exists_ = false, 0x0201)]
        (∀ l p st r, tests = l ++ (p, st) :: r → p → (∀ z ∈ l, ¬z.1) →
          u.reg Reg.almNsRes = BitVec.ofNat 64 (st.toNat + n % 2048 * 65536) ∧ u.alm.ns = w.alm.ns ∧ u.alm.nsq = []) ∧
        ((∀ z ∈ tests, ¬z.1) → (∀ k, k ≠ n → u.ns k = w.ns k) ∧
          ((w.ns n).ledger = true → w.nsSettled n = false → u.ns n = { w.ns n with destroying := true } ∧ u.alm.nsq = [{ c with phase := 1 }]) ∧
          ((w.ns n).ledger = false → w.nsQuiet n = false → u.ns n = { w.ns n with destroying := true } ∧ u.alm.nsq = [{ c with phase := 2 }]) ∧
          ((w.ns n).ledger = false → w.nsQuiet n = true → ((u.ns n).exists_ = false ∧ (u.ns n).destroying = false ∧ u.alm.nsq = [{ c with phase := 3 }]) ∨
            ((u.ns n).exists_ = true ∧ (u.ns n).destroying = true ∧ ∃ k, u.alm.nsq = [{ c with phase := 2, at_ := k }]))))) ∧
    (∃ u, exec .ckpt s = .next u ∧ let free := ready ∧ s.regBit Reg.almStat 7 = false
      (¬free → u = s) ∧ (free → began s u ∧ u.alm.ns = s.alm.ns ∧ u.mem = s.mem)) ∧
    (∃ u, exec .checkpointTimer s = .next u ∧
      let b := fld (s.reg Reg.almCkptCfg) 0 5
      let gib := if b = 0 ∨ 16 < b then 4 else b
      let ms := max 100 (min 10000 (fld (s.reg Reg.almCkptCfg) 16 16))
      let due := s.progOk = true ∧ s.alm.ckpt = none ∧ (gib * 262144 ≤ s.alm.programmed ∨ ms * 1000000 ≤ (s.mer.ns - s.alm.lastCkpt).toNat)
      (¬due → u = s) ∧ (due → began s u)) ∧
    (∃ u, exec .checkpointCommit s = .next u ∧ (s.alm.ckpt = none → u = s) ∧
      ∀ q, s.alm.ckpt = some q →
        let early := (∃ d ∈ s.alm.dirty, d.2 ≤ q) ∨ ∃ e ∈ s.alm.progs, ∃ p, e.2 = some p ∧ ∃ x ∈ p.slots, x.seq ≤ q
        let m := s.writeManifest ((s.reg Reg.almCkptNo).toNat + 1) q
        (early ∨ s.progOk = false ∨ m = none → u = s) ∧
        (¬early → s.progOk = true → m.isSome = true → u.reg Reg.almCkptNo = BitVec.ofNat 64 ((s.reg Reg.almCkptNo).toNat + 1) ∧ u.reg Reg.almCkptSeq = BitVec.ofNat 64 q ∧
          (s.alm.ckptDue = true → u.alm.ckpt.isSome = true ∧ u.alm.ckptDue = false) ∧
          (s.alm.ckptDue = false → s.alm.nsq = [] → u.alm.ckpt = none ∧ u.regBit Reg.almStat 6 = false))) ∧
    (∃ u, exec (.sealTimeout nsid) s = .next u ∧
      let x := s.ns nsid.toNat
      let due := x.exists_ = true ∧ x.ledger = true ∧ x.openData ≠ [] ∧ fld (s.reg Reg.almMediaCfg) 48 16 * 1000 ≤ (s.mer.ns - x.openAt).toNat
      (¬due → u = s) ∧ (due → ∃ w : State, u = w.almGo ∧ seals s w nsid.toNat)) ∧
    (let n := fld (s.reg Reg.almLgSel) 0 11
     let x := s.ns n
     let k := (s.reg Reg.almLgIdx).toNat
     let res (u : State) (op st : Nat) : Prop := fld (u.reg Reg.almLgCmd) 0 2 = op ∧ fld (u.reg Reg.almLgCmd) 16 16 = st
     let no := x.exists_ = false ∨ x.ledger = false
     (∃ u, exec .lgReadChain s = .next u ∧ (no → res u 1 0x0401) ∧ (¬no → x.units ≤ k → res u 1 0x0470) ∧
       (∀ st, ¬no → k < x.units → (s.unitRead n k).2 = .error st → res u 1 st.toNat) ∧
       (∀ c, ¬no → k < x.units → (s.unitRead n k).2 = .ok c → res u 1 0 ∧ ∀ i, i < 4 → u.reg (Reg.almLgCv0 i) = c.2.extractLsb' (64 * i) 64) ∧
       (∀ b, ¬no → k < x.units → s.bufNewest n k = some b → res u 1 0 ∧ ∀ i, i < 4 → u.reg (Reg.almLgCv0 i) = b.chain.extractLsb' (64 * i) 64) ∧
       (∀ a e, ¬no → k < x.units → s.bufNewest n k = none → s.entryRead n k = (a, none, e) →
         e % 4 = 2 ∨ (e % 2 = 1 ∧ lunOf (e / 4) ∉ a.alm.geom.luns) → res u 1 0x0501) ∧
       ((no ∨ x.units ≤ k) → u.alm = s.alm)) ∧
     (∃ u, exec .lgSeal s = .next u ∧ (no → res u 2 0x0401 ∧ u.alm = s.alm) ∧
       (¬no → ∃ w : State, u = w.almGo ∧ res w 2 0 ∧ (x.openData = [] → w.alm = s.alm) ∧ (x.openData ≠ [] → seals s w n))) ∧
     exec .lgHeadCapture s = .next { s with alm := { s.alm with capNs := some (x.head, x.units, x.offset) }, busReply := x.head.setWidth 64 } ∧
     (∃ u, exec (.lgSelWrite v) s = .next u ∧ u.reg Reg.almLgSel = (v &&& 0x7FF).setWidth 64 ∧ u.alm = { s.alm with capNs := none })) ∧
    (let scan := ∃ c ∈ s.scans, c.2.live = true
     let req (n : Nat) : Prop := n = min (v.toNat % 4) 2 ∨ ∃ h ∈ s.host, h.2.en = true ∧ n = min h.2.pstate 2
     ∃ u, exec (.almPsWrite v) s = .next u ∧ u.mem = s.mem ∧ u.alm = { s.alm with psOver := false } ∧
       let e := fld (u.reg Reg.almPs) 2 2
       fld (u.reg Reg.almPs) 0 2 = v.toNat % 4 ∧ (scan → e = 0) ∧ (¬scan → req e ∧ ∀ n, req n → e ≤ n) ∧
       (s.regBit Reg.almPs 4 = true ∨ e = s.alm.psCur → u.regBit Reg.almPs 4 = s.regBit Reg.almPs 4) ∧
       (s.regBit Reg.almPs 4 = false → e ≠ s.alm.psCur → u.regBit Reg.almPs 4 = true ∧ fld (u.reg Reg.almPs) 8 2 = e)) ∧
    (∃ u, exec .psTransitionEnd s = .next u ∧
      let t := fld (s.reg Reg.almPs) 8 2
      (s.regBit Reg.almPs 4 = false → s.flashOn = false → u = s) ∧
      (s.regBit Reg.almPs 4 = true → u.alm.psCur = t ∧ (t ≠ 2 → u.alm.psLast = t) ∧ (t = 2 → u.alm.psLast = s.alm.psLast)))

/-- Storage commands but SCAN (R326–R336), acceptance (R299, R302) and slot reads (R303). -/
def Obligations.StorageCommandsTestBeginAndComplete : Prop :=
  ∀ (q f : BitVec 16) (g : Fin 32) (steps : Nat) (ok : Bool) (s : State),
    let ro (t : State) : Prop := t.regBit Reg.devMode 7 = true
    let nsid (e : Item) : Nat := e.fieldN 8 4
    let unit (e : Item) : Nat := e.fieldN 40 8
    let count (e : Item) : Nat := e.fieldN 48 2 + 1
    let wr (op : Nat) : Prop := op = 0x01 ∨ op = 0x81
    let rd (op : Nat) : Prop := op = 0x02 ∨ op = 0x82
    let media (op : Nat) : Prop := wr op ∨ op = 0x09 ∨ op = 0x85
    let ordered (t : State) (e : Item) : Prop := e.opcode = 0x81 ∨ e.opcode = 0x82 ∨ e.opcode = 0x85 ∨ (nsid e ≤ 1024 ∧ (t.ns (nsid e)).ordered = true)
    let tests (t : State) (e : Item) : List (Prop × BitVec 16) :=
      let op := e.opcode
      let x := t.ns (nsid e)
      let m := e.fieldN 12 1
      [(¬((op = 0 ∧ nsid e = 0xFFFFFFFF) ∨ (1 ≤ nsid e ∧ nsid e ≤ 1024 ∧ x.exists_ = true ∧ x.destroying = false ∧ (x.bid = e.bid ∨ e.bid = 0))), 0x0471),
        (x.ledger = true ∧ (wr op ∨ op = 0x09), 0x0270), ((op = 0x85 ∨ op = 0x86) ∧ x.ledger = false, 0x0401), (ordered t e ∧ e.role ≠ 1, 0x0271),
        (media op ∧ ro t, 0x0202),
        (3 < m ∨ (2 ≤ m ∧ (t.queue e.q).prod ≠ 2) ∨ (op ≠ 0 ∧ m = 0 ∧ e.fieldN 32 8 ≠ 0) ∨
          (op ≠ 0 ∧ m = 1 ∧ (e.fieldN 24 8 % 16 ≠ 0 ∨ e.fieldN 36 4 ≠ 0 ∨ e.fieldN 32 4 = 0 ∨ 256 < e.fieldN 32 4)) ∨
          ((wr op ∨ rd op) ∧ 256 < count e) ∨ (op = 0x85 ∧ (e.fieldN 48 4 = 0 ∨ 1048576 < e.fieldN 48 4)), 0x0401),
        ((wr op ∨ rd op) ∧ 262144 * x.size < unit e + count e, 0x0470)]
    let begins (w : State) (id : Nat) (u : State) : Prop := ∀ c, w.stCmd id = some c →
      let x := w.ns (nsid c.item)
      let op := c.item.opcode
      let late : List (Prop × BitVec 16) := [(media op ∧ ro w, 0x0202), (op = 0x86 ∧ unit c.item ≠ 2 ^ 64 - 1 ∧ x.units ≤ unit c.item, 0x0470),
        (op = 0x85 ∧ 2 ^ 30 * x.size < x.offset + c.item.fieldN 48 4, 0x0302)]
      (∀ l p st r, late = l ++ (p, st) :: r → p → (∀ z ∈ l, ¬z.1) → u = (w.stDone id st).almGo) ∧
      ((∀ z ∈ late, ¬z.1) →
        let own (n : Nat) : Prop := if nsid c.item = 0xFFFFFFFF then ∃ e ∈ w.alm.ns, e.1 = n ∧ e.2.exists_ = true ∧ e.2.destroying = false ∧ e.2.bid = c.item.bid else n = nsid c.item
        (c.op = 0 → ∃ v : State, u = v.almGo ∧ (∀ n, own n → (v.ns n).ledger = true → (v.ns n).openData = []) ∧
          ∃ c', v.stCmd id = some c' ∧ c'.started = true ∧ c'.accepted = true ∧
            ∀ i, i ∈ c'.waits ↔ i ∈ c.waits ∨ (w.alm.nextBuf ≤ i ∧ i < v.alm.nextBuf)) ∧
        (rd c.op ∨ c.op = 0x86 → ∀ t r, w.extentList c.item = (t, r) →
          (∀ st, r = .error st → u = (t.stDone id st).almGo) ∧
          (∀ l st, r = .ok l → t.extentsFail c.item false l = some st →
            u = ((if st = 0x0402 then t else t.scatterFree c.item.bid l).stDone id st).almGo) ∧
          (∀ l, r = .ok l → t.extentsFail c.item false l = none →
            let x := t.setStCmd id { c with started := true }
            (c.op = 0x86 ∧ c.unit = 2 ^ 64 - 1 → u = ((x.setStCmd id { c with
              started := true, parts := Tab.ins c.parts 0 (leBytes 32 (t.ns c.nsid).head.toNat) }).readEnd id).almGo) ∧
            (¬(c.op = 0x86 ∧ c.unit = 2 ^ 64 - 1) → ∃ a : Nat → State, a 0 = x ∧ (∀ i, i < c.n → a (i + 1) = (a i).readUnit id c.op c.nsid i (c.unit + i)) ∧
              u = ((a c.n).readEnd id).almGo))) ∧
        (c.op = 0x09 → bitAt (c.item.word 44) 2 = false → u = (w.stDone id 0).almGo) ∧
        (wr c.op ∨ c.op = 0x85 ∨ (c.op = 0x09 ∧ bitAt (c.item.word 44) 2 = true) → ∀ t r, w.gather c.item = (t, r) →
          (∀ st, r = .error st → u = (t.stDone id st).almGo) ∧
          (∀ l, r = .ok l → let far := c.op = 0x09 ∧ ∃ z ∈ trimRanges l, 262144 * (t.ns c.nsid).size < z.1 + z.2
            (far → u = (t.stDone id 0x0470).almGo) ∧
            (¬far → ∃ v : State, u = v.almGo ∧ v.stCmd id = some { c with started := true, data := l } ∧ v.alm.accept = t.alm.accept ++ [id]))))
    let comes (op : Nat) (e : Item) (t : State) : Prop := s.dispatches 6 op q almReady e t
    let admits (op : Nat) (e : Item) (t₀ u : State) : Prop :=
      let t := t₀.psWake
      let id := t.alm.nextCmd
      (∀ l p st r, tests t e = l ++ (p, st) :: r → p → (∀ z ∈ l, ¬z.1) → u = t.complete e st) ∧
      ((∀ z ∈ tests t e, ¬z.1) → ∃ (w : State) (c : StCmd), w.stCmd id = some c ∧ c.item = e ∧ c.op = op ∧ c.nsid = nsid e ∧ c.unit = unit e ∧
        c.started = false ∧ c.parts = [] ∧ c.fail = 0 ∧ c.n = (if op % 128 = 1 ∨ op % 128 = 2 then count e else 1) ∧ (c.ordered = true ↔ ordered t e) ∧
        (op ≠ 0 → c.waits = []) ∧
        (op = 0 → ∀ i, i ∈ c.waits ↔ ∃ b ∈ t.alm.buf, b.id = i ∧ if nsid e = 0xFFFFFFFF then ∃ k ∈ t.alm.ns, k.1 = b.nsid ∧ k.2.exists_ = true ∧
          k.2.destroying = false ∧ k.2.bid = e.bid else b.nsid = nsid e) ∧
        w.alm.nextCmd = id + 1 ∧ w.mem = t.mem ∧ w.queues = t.queues ∧ w.alm.buf = t.alm.buf ∧
        (ordered t e ∨ t.flashOn = false → u = w) ∧ (¬ordered t e → t.flashOn = true → begins w id u))
    (∀ k ∈ [(0x00, Instr.flush q), (0x01, .write q), (0x02, .read q), (0x09, .trim q), (0x81, .orderedWrite q), (0x82, .orderedRead q), (0x85, .append q),
        (0x86, .readChain q)], (∀ e t, ¬comes k.1 e t) → exec k.2 s = .next s) ∧
    (∀ e t, comes 0x00 e t → ∃ u, exec (.flush q) s = .next u ∧ admits 0x00 e t u) ∧ (∀ e t, comes 0x01 e t → ∃ u, exec (.write q) s = .next u ∧ admits 0x01 e t u) ∧
    (∀ e t, comes 0x02 e t → ∃ u, exec (.read q) s = .next u ∧ admits 0x02 e t u) ∧ (∀ e t, comes 0x09 e t → ∃ u, exec (.trim q) s = .next u ∧ admits 0x09 e t u) ∧
    (∀ e t, comes 0x81 e t → ∃ u, exec (.orderedWrite q) s = .next u ∧ admits 0x81 e t u) ∧
    (∀ e t, comes 0x82 e t → ∃ u, exec (.orderedRead q) s = .next u ∧ admits 0x82 e t u) ∧
    (∀ e t, comes 0x85 e t → ∃ u, exec (.append q) s = .next u ∧ admits 0x85 e t u) ∧
    (∀ e t, comes 0x86 e t → ∃ u, exec (.readChain q) s = .next u ∧ admits 0x86 e t u) ∧
    (∀ (w : State) (id op n i lba : Nat) (c : StCmd), w.stCmd id = some c →
      let r := w.readUnit id op n i lba
      let gives (a : State) (d : BitVec 32768) (h : BitVec 256) : Prop :=
        r = a.setStCmd id { c with parts := Tab.ins c.parts i (if op = 0x86 then leBytes 32 h.toNat else leBytes 4096 d.toNat) }
      let fails (a : State) (st : BitVec 16) : Prop := r = a.setStCmd id { c with parts := Tab.ins c.parts i [], fail := st }
      (∀ b, w.bufNewest n lba = some b → gives w b.data b.chain) ∧
      (∀ a st e, w.bufNewest n lba = none → w.entryRead n lba = (a, st, e) → (∀ k, st = some k → fails a k) ∧
        (st = none → (e % 4 = 2 ∨ (e % 2 = 1 ∧ e / 4 % 1024 ∉ a.alm.geom.luns) → fails a 0x0501) ∧ (e % 4 = 0 → gives a 0 0) ∧
          (e % 2 = 1 → e / 4 % 1024 ∈ a.alm.geom.luns → r.stCmd id = some c ∧ r.mem = a.mem ∧ ∀ k, Tab.get [] r.alm.reads k =
            Tab.get [] a.alm.reads k ++ if k = e / 4 % 32 then [{ cmd := id, idx := i, nsid := n, unit := lba, loc := e / 4 }] else [])))) ∧
    (∀ (w : State) (id : Nat) (c : StCmd), w.stCmd id = some c →
      let x := w.ns c.nsid
      let l := if c.op = 0x86 then Tab.get [] c.parts 0 ++ leBytes 8 x.units ++ leBytes 8 x.offset ++ leBytes 8 x.gen.toNat ++ leBytes 8 0
        else c.parts.flatMap fun p => p.2
      (c.parts.length < c.n → w.readEnd id = w) ∧
      (c.n ≤ c.parts.length → c.fail ≠ 0 → ∃ v : State, w.readEnd id = v.stDone id c.fail) ∧
      (c.n ≤ c.parts.length → c.fail = 0 → w.readEnd id = (w.scatter c.item l).1.stDone id (w.scatter c.item l).2)) ∧
    (∃ u, exec (.orderedCommandStart f) s = .next u ∧
      let mine (e : Nat × StCmd) : Prop := e ∈ s.alm.cmds ∧ e.2.ordered = true ∧ e.2.item.flow = f ∧ e.2.op ≠ 0xF0
      let before (a b : BitVec 32) : Prop := 0 < (b - a).toNat ∧ (b - a).toNat < 2 ^ 31
      let turn (e : Nat × StCmd) : Prop := mine e ∧ e.2.started = false ∧ ∀ p, mine p → p.1 = e.1 ∨ p.2.point = true ∨ ¬before p.2.item.seq e.2.item.seq
      ((∀ e, ¬turn e) ∨ s.flashOn = false ∨ s.regBit Reg.almStat 0 = false → u = s) ∧
      ∀ l e r, s.alm.cmds = l ++ e :: r → turn e → (∀ z ∈ l, ¬turn z) → s.flashOn = true → s.regBit Reg.almStat 0 = true → begins s e.1 u) ∧
    (∃ u, exec .writeBufferAccept s = .next u ∧ (s.alm.accept = [] → u = s) ∧
      ∀ id r c, s.alm.accept = id :: r → s.stCmd id = some c →
        let need := s.acceptNeed c
        let prot := s.wbFill + 4096 * need.2 ≤ (s.reg Reg.almWbLimit).toNat
        let stop := s.regBit Reg.almStat 0 = false ∨ s.mode = modeHoldup
        let room := s.bufUnits + need.1 ≤ 131072 ∧ (prot ∨ 2 ^ 29 ≤ (s.reg Reg.almWbLimit).toNat ∨ (s.alm.buf.filter fun b => !b.prot).length + need.1 ≤ 16384)
        let dirt := s.dirtyRoom c.dirt = false ∧ (s.progOk = false ∨ s.tableGroups = [])
        let past := c.op = 0x85 ∧ 2 ^ 30 * (s.ns c.nsid).size < (s.ns c.nsid).offset + c.data.length
        (stop → u = s) ∧ (¬stop → ro s → u = (s.stDone id 0x0202).almGo) ∧ (¬stop → ¬ro s → past → u = (s.stDone id 0x0302).almGo) ∧
        (¬stop → ¬ro s → ¬past → ¬room ∨ dirt → u = s) ∧ (¬stop → ¬ro s → ¬past → room → ¬dirt → ∃ (w : State) (c' : StCmd), u = w.almGo ∧ w.stCmd id = some c' ∧ c'.accepted = true ∧ c'.point = true ∧
          (prot → c'.waits = []) ∧ id ∉ w.alm.accept ∧
          (wr c.op → need = (c.n, c.n) ∧ (¬prot → c'.waits = (List.range c.n).map (s.alm.nextBuf + ·)) ∧
            (∀ i, i < c.n → ∃ b ∈ w.alm.buf, b.id = s.alm.nextBuf + i ∧ b.nsid = c.nsid ∧ b.lba = c.unit + i ∧ b.kind = 0 ∧ b.issued = false ∧
              b.data = unitOfBytes ((c.data.drop (4096 * i)).take 4096) ∧ (b.prot = true ↔ prot)) ∧
            ∀ b ∈ w.alm.buf, b.nsid = c.nsid → c.unit ≤ b.lba → b.lba < c.unit + c.n → b.kind = 0 → b.id < s.alm.nextBuf → b.issued = true) ∧
          (c.op = 0x85 → c'.res = BitVec.ofNat 64 (s.ns c.nsid).offset ∧
            ((s.ns c.nsid).openData.length + c.data.length < 4096 → c.data ≠ [] → prot → (w.ns c.nsid).openData = (s.ns c.nsid).openData ++ c.data ∧
              (w.ns c.nsid).offset = (s.ns c.nsid).offset + c.data.length ∧ (w.ns c.nsid).openProt = true ∧ w.alm.buf = s.alm.buf)) ∧
          (c.op = 0x09 → ∀ i, i < ceilDiv (c.data.length / 16) 255 → ∃ b ∈ w.alm.buf, b.id = s.alm.nextBuf + i ∧ b.kind = 5 ∧ b.nsid = c.nsid))) ∧
    (∃ u, exec (.slotReadComplete g steps ok) s = .next u ∧
      (Tab.get [] s.alm.reads g = [] ∨ s.flashOn = false ∨ s.dirtyRoom 4 = false → u = s) ∧
      ∀ r t, Tab.get [] s.alm.reads g = r :: t → s.flashOn = true → s.dirtyRoom 4 = true →
        let x := s.nslot r.loc
        let good := ok = true ∧ x.good = true
        ∃ v : State, u = v.almGo ∧ Tab.get [] v.alm.reads g = t ∧ (¬good → v.regBit Reg.almStat 9 = true) ∧
          ∀ c, s.stCmd r.cmd = some c → ∃ d, (¬good → d = []) ∧ (good → d = if c.op = 0x86 then leBytes 32 x.chain.toNat else leBytes 4096 x.data.toNat) ∧
            ((Tab.ins c.parts r.idx d).length < c.n → ∃ c', v.stCmd r.cmd = some c' ∧ c'.parts = Tab.ins c.parts r.idx d ∧
              (good → c'.fail = c.fail) ∧ (¬good → c'.fail = 0x0501)) ∧
            (c.n ≤ (Tab.ins c.parts r.idx d).length → v.stCmd r.cmd = none))

/-- Host commands and the life of a function (R339, R342, R345, R415, R416). -/
def Obligations.HostQueuesDoorbellsAndFunctionLifecycle : Prop :=
  ∀ (fn : BitVec 8) (qid : BitVec 16) (sqe : BitVec 512) (isCq up : Bool) (v : BitVec 32) (w64 : W64) (s : State),
    let f := fn.toNat
    let n := qid.toNat
    let h := s.hostFn f
    let on := s.mode ≠ modeHoldup ∧ h.en = true ∧ h.rdy = true ∧ h.stopping = false
    let live := s.mode ≠ modeHoldup
    let noted (u : State) (bit : Nat) : Prop := u.regBit Reg.pciStat bit = true ∧ 81 ∈ u.orr.raised
    (∃ u, exec (.hostIoCommand fn qid sqe) s = .next u ∧
      let q := s.hostSq f n
      let x := s.queue q.shadow
      let go := on ∧ n ≠ 0 ∧ q.live = true ∧ q.del = none ∧ q.head ≠ q.tail ∧ (x.sqTail - x.sqHead).toNat + 4 ≤ 2 ^ x.sqLog
      let t := s.setHostSq f n { q with head := (q.head + 1) % q.size }
      let cid := fld (sqe.extractLsb' 0 64) 16 16
      let answer (a : State) (sc : Nat) (st : BitVec 16) : Prop := u = a.hostEnd f { cqid := q.cqid, cid := BitVec.ofNat 16 cid, sqid := n, sct := 0, sc := sc } st
      let psdt := fld (sqe.extractLsb' 0 64) 14 2
      let fused := fld (sqe.extractLsb' 0 64) 8 2
      let ty := (sqe.extractLsb' 312 8).toNat
      let odd := psdt ≠ 0 ∧ ty ≠ 0 ∧ ty ≠ 0x20 ∧ ty ≠ 0x30
      let skew := psdt ≠ 0 ∧ ((sqe.extractLsb' 192 64).toNat % 4 ≠ 0 ∨ (sqe.extractLsb' 256 32).toNat % 4 ≠ 0)
      (¬go → u = s) ∧ (go → psdt = 3 ∨ fused ≠ 0 → answer t 0x02 0x0401) ∧
      (go → psdt ≠ 3 → fused = 0 → odd → answer t 0x11 0x0401) ∧ (go → psdt ≠ 3 → fused = 0 → ¬odd → skew → answer t 0x1E 0x0401) ∧
      (go → psdt ≠ 3 → fused = 0 → ¬odd → ¬skew → ∃ e : List Byte, e.length = 64 ∧ leVal (e.take 8) = fld (sqe.extractLsb' 0 64) 0 8 + 3 * 2 ^ 8 + cid * 2 ^ 32 + n * 2 ^ 48 ∧
        leVal ((e.drop 8).take 4) = (sqe.extractLsb' 64 32).toNat ∧ leVal ((e.drop 12).take 1) = (if psdt = 0 then 2 else 3) ∧
        leVal (e.drop 13) = (sqe.extractLsb' 104 408).toNat ∧
        let test := structTest { q := q.shadow, cls := 6, bid := x.bid, data := e } x.role
        (∀ st, test = some st → answer t (if st = 0x0101 then 0x01 else 0x02) st) ∧
        (test = none → ∀ a r, State.ringWrite 4 t x x.sqTail e = (a, r) →
          (r = none → u = a.setQueue q.shadow { a.queue q.shadow with sqTail := x.sqTail + 4 }) ∧ (r.isSome = true → answer a 0x06 0x0602)))) ∧
    (∃ u, exec (.hostDoorbell fn qid isCq v) s = .next u ∧ (¬on → u = s) ∧
      (on → isCq = false → let q := s.hostSq f n
        (q.live = false → u = s.hostEvent f (aerDword 0 0 1)) ∧ (q.live = true → q.size ≤ v.toNat ∨ v.toNat = q.tail → u = s.hostEvent f (aerDword 0 1 1)) ∧
        (q.live = true → v.toNat < q.size → v.toNat ≠ q.tail → u = s.setHostSq f n { q with tail := v.toNat })) ∧
      (on → isCq = true → let c := s.hostCq f n
        let used := (c.tail + c.size - c.head) % c.size
        let k := (v.toNat + c.size - c.head) % c.size
        let bad := c.size ≤ v.toNat ∨ k = 0 ∨ used < k
        (c.live = false → u = s.hostEvent f (aerDword 0 0 1)) ∧ (c.live = true → bad → u = s.hostEvent f (aerDword 0 1 1)) ∧
        (c.live = true → ¬bad → (u.hostCq f n).head = v.toNat ∧ (u.hostCq f n).live = true ∧
          ((∀ e ∈ h.wait, e.cqid ≠ n) → (u.hostFn f).wait = h.wait ∧ (u.hostFn f).sent = consume n k h.sent)))) ∧
    (∃ u, exec (.interruptCoalescingTimer fn qid) s = .next u ∧ let c := s.hostCq f n
      (¬on ∨ c.coal = 0 → u = s) ∧
      (on → c.coal ≠ 0 → u.hostCq f n = { c with coal := 0 } ∧ Tab.get 0 (u.hostFn f).irq c.vec = Tab.get 0 h.irq c.vec + 1 ∧ u.mem = s.mem)) ∧
    (∃ u, exec (.pciFnWrite fn w64) s = .next u ∧ (h.en = true → u = s.setRegBit Reg.pciStat 0 true) ∧
      (h.en = false → u = s.setReg (Reg.pciFn f) (w64 &&& 0x0000FFFF0FFF0003))) ∧
    (∃ u, exec (.ccEnSet fn) s = .next u ∧
      let go := live ∧ h.en = false ∧ h.stopping = false
      (¬go → u = s) ∧ (go → noted u 1 ∧ (u.hostFn f).en = true ∧ (u.hostFn f).shst = 0 ∧ (u.hostFn f).cause = true ∧
        (s.regBit (Reg.pciFn f) 0 = true → (u.hostFn f).rdy = true ∧ (u.hostSq f 0).live = true ∧ (u.hostCq f 0).live = true ∧ (u.hostFn f).cfs = h.cfs) ∧
        (s.regBit (Reg.pciFn f) 0 = false → (u.hostFn f).cfs = true ∧ (u.hostFn f).rdy = h.rdy))) ∧
    (let mine (e : Item) : Prop := (s.queue e.q).prod = 2 ∧ (s.queue e.q).host = f
     let busy := (∃ e ∈ s.alm.cmds, e.2.op ≠ 0xF0 ∧ mine e.2.item) ∨ ∃ e ∈ s.scans, e.2.live = true ∧ mine e.2.item
     let stops (u : State) : Prop := (u.hostFn f).en = false ∧ (u.hostFn f).feats = [] ∧ (u.hostFn f).ordered = 0 ∧ (u.hostSq f 0).live = false ∧
       (u.hostFn f).cfs = false ∧ (u.hostFn f).shst = 0 ∧ (∀ e ∈ u.alm.cmds, e.2.op = 0xF0 → e.2.nsid ≠ f) ∧
       (∀ e ∈ h.sqs, e.1 ≠ 0 → e.2.live = true → s.hostSq f e.1 = e.2 → (u.queue e.2.shadow).enable = false ∧ (u.queue e.2.shadow).fetched = []) ∧
       (h.rdy = false → (u.hostFn f).rdy = false) ∧
       (h.rdy = true → (∀ e ∈ h.sqs, e.1 ≠ 0 → e.2.live = true → s.hostSq f e.1 = e.2 ∧ (s.queue e.2.shadow).inflight = 0) → ¬busy →
         (u.hostFn f).rdy = false ∧ (u.hostFn f).sqs = [] ∧ (u.hostFn f).sent = [] ∧ (u.hostFn f).wait = [] ∧ (u.hostFn f).stopping = false) ∧
       (h.rdy = true → busy → (u.hostFn f).rdy = true ∧ (u.hostFn f).stopping = true) ∧
       (∀ e ∈ h.sqs, h.rdy = true → e.1 ≠ 0 → e.2.live = true → s.hostSq f e.1 = e.2 → (s.queue e.2.shadow).inflight ≠ 0 → (s.queue e.2.shadow).role ≠ 2 →
         (u.hostFn f).rdy = true ∧ (u.hostFn f).stopping = true)
     (∃ u, exec (.ccEnClear fn) s = .next u ∧ (¬(live ∧ h.en = true) → u = s) ∧ (live → h.en = true → stops u ∧ noted u 1)) ∧
     (∃ u, exec (.functionLevelReset fn) s = .next u ∧ (¬live → u = s) ∧ (live → noted u 3 ∧ (u.hostFn f).en = false ∧ (h.en = true → stops u ∧ noted u 1))) ∧
     (∃ u, exec (.perstN up) s = .next u ∧ u.pins.perstN = up ∧ (up = true ∨ ¬live → u = { s with pins := { s.pins with perstN := up } }) ∧
       (up = false → live → u.pins.pcieUp = false ∧ (∀ k, k < 256 → (u.hostFn k).en = false) ∧ (∀ k, k < 256 → (s.hostFn k).en = true → noted u 1 ∧ (u.hostFn k).cause = true) ∧ (s.pins.pcieUp = true → noted u 4)))) ∧
    (∃ u, exec (.shutdownNotification fn) s = .next u ∧ (¬live → u = s) ∧ (live → h.stopping = true → u = s.pciCause f 2) ∧
      (live → h.stopping = false → ∃ (w : State) (id : Nat) (c : StCmd), u = w.almGo.pciCause f 2 ∧ (w.hostFn f).shst = 1 ∧ w.stCmd id = some c ∧ c.op = 0xF0 ∧ c.nsid = f ∧
        c.accepted = true ∧ ∀ i, i ∈ c.waits ↔ ∃ b ∈ w.alm.buf, b.id = i ∧ ∃ e ∈ s.alm.ns, e.1 = b.nsid ∧ s.regBit (Reg.pciFn f) 0 = true ∧ e.2.exists_ = true ∧ e.2.destroying = false ∧
          e.2.bid = (s.reg (Reg.pciFn f)).extractLsb' 16 12)) ∧
    (∀ id c st r, s.stCmd id = some c → c.op = 0xF0 → ((s.stDone id st r).hostFn c.nsid).shst = 2) ∧
    (∃ u, exec (.pcieLinkChange up) s = .next u ∧ (¬live → u = s) ∧ (live → u.pins = { s.pins with pcieUp := up } ∧ noted u 4)) ∧
    (∀ (e : HostCqe) (st : BitVec 16), let u := s.hostEnd f e st
      let c := s.hostCq f e.cqid
      let full := (c.tail + 1) % c.size = c.head ∨ ∃ w ∈ h.wait, w.cqid = e.cqid
      let good := e.sct = 0 ∧ e.sc = 0
      (full → (u.hostFn f).wait = h.wait ++ [e] ∧ (u.hostFn f).sent = h.sent) ∧
      (¬full → (u.hostFn f).sent = h.sent ++ [e] ∧ (u.hostFn f).wait = h.wait ∧ (u.hostCq f e.cqid).tail = (c.tail + 1) % c.size) ∧
      (good → (u.hostFn f).errLog = h.errLog) ∧ (¬good → (u.hostFn f).errors = h.errors + 1 ∧ (u.hostFn f).errLog.length ≤ 64 ∧
        ∃ r, (u.hostFn f).errLog.head? = some r ∧ r.n = h.errors + 1 ∧ r.internal = st ∧ r.sct = e.sct ∧ r.sc = e.sc ∧ r.cid = e.cid ∧ r.sqid = e.sqid)) ∧
    (∀ (q : BitVec 16) (c : Compl), let x := s.queue q
      let g := x.host
      let k := c.tag.toNat / 65536
      let t := s.setQueue q { x with cqHead := x.cqTail }
      let failed := c.tag ∈ (s.hostFn g).dmaBad
      let m := hostStatus c.status c.op
      let e : HostCqe := { cqid := (s.hostSq g k).cqid, cid := c.tag.setWidth 16, sqid := k, dw0 := c.res.setWidth 32, dw1 := c.res.extractLsb' 32 32,
                           sct := m.1, sc := m.2.1, dnr := m.2.2 }
      let taken := (s.hostSq g k).live = true ∧ (s.hostFn g).stopping = false
      (¬taken → s.hostCompl q c = t.hostSettle g) ∧
      let a := t.setHost g { s.hostFn g with dmaBad := (s.hostFn g).dmaBad.erase c.tag }
      (taken → ¬failed → s.hostCompl q c = (a.hostEnd g e c.status).hostSettle g) ∧
      (taken → failed → s.hostCompl q c = (a.hostEnd g { e with sct := 0, sc := 4, dnr := true } c.status).hostSettle g))

/-- NVM Express admin commands (R338, R340, R341, R343, R416). -/
def Obligations.HostAdminCommandsComplete : Prop :=
  ∀ (fn cns lid fid : BitVec 8) (cid qid cqid size vec a b : BitVec 16) (nsid v : BitVec 32) (ien : Bool) (s : State),
    let f := fn.toNat
    let n := qid.toNat
    let h := s.hostFn f
    let on := s.mode ≠ modeHoldup ∧ h.en = true ∧ h.rdy = true ∧ h.stopping = false
    let ends (t u : State) (sct sc dw : Nat) (st : BitVec 16) : Prop :=
      u = t.hostEnd f { cqid := 0, cid := cid, sqid := 0, dw0 := BitVec.ofNat 32 dw, sct := sct, sc := sc, dnr := decide (sc ≠ 0x82) } st
    let does (u : State) (p : Prop) : Prop := (¬on → u = s) ∧ (on → p)
    let tests (u : State) (l : List (Prop × Nat × Nat × BitVec 16)) (post : Prop) : Prop :=
      (∀ x p sct sc st y, l = x ++ (p, sct, sc, st) :: y → p → (∀ z ∈ x, ¬z.1) → ends s u sct sc 0 st) ∧ ((∀ z ∈ l, ¬z.1) → post)
    let returned (t : State) (k m x : Nat) : Prop := leVal (((t.hostFn f).reply.drop k).take m) = x
    let filled (u : State) (k : Nat) (post : State → Prop) : Prop := ∃ t : State, ends t u 0 0 0 0 ∧ (t.hostFn f).reply.length = k ∧ post t ∧
      t.csr = s.csr ∧ t.mem = s.mem ∧ (∀ j, j ≠ f → t.hostFn j = s.hostFn j)
    let sees (k : Nat) : Prop := (s.ns k).exists_ = true ∧ (s.ns k).destroying = false ∧ (s.ns k).bid = (s.reg (Reg.pciFn f)).extractLsb' 16 12
    let live (k : Nat) : Prop := (s.hostSq f k).live = true ∧ ∃ e ∈ h.sqs, e.1 = k ∧ e.2.live = true
    let keeps (t : State) : Prop := t.csr = s.csr ∧ t.mem = s.mem ∧ t.queues = s.queues
    (∃ u, exec (.createIoCq fn cid qid size vec ien) s = .next u ∧ does u (tests u
      [(n = 0 ∨ 64 < n ∨ (s.hostCq f n).live = true, 1, 0x01, 0), (size = 0 ∨ 4095 < size.toNat, 1, 0x02, 0), (ien = true ∧ 64 < vec.toNat, 1, 0x08, 0)]
      (∃ t : State, ends t u 0 0 0 0 ∧ keeps t ∧ t.hostCq f n = { live := true, size := size.toNat + 1, vec := vec.toNat, ien := ien } ∧
        ∀ k, k ≠ n → t.hostCq f k = s.hostCq f k))) ∧
    (∃ u, exec (.createIoSq fn cid qid cqid size) s = .next u ∧ does u (
      let flow : Option (BitVec 16) := if s.regBit (Reg.pciFn f) 1 then some ((s.reg (Reg.pciFn f)).extractLsb' 32 16) else none
      let stamped := h.ordered ≠ 0 ∧ h.ordered ≤ n
      let fl := s.flow (flow.getD 0)
      let bid : BitVec 12 := (s.reg (Reg.pciFn f)).extractLsb' 16 12
      let free (k : Nat) : Prop := 1 ≤ k ∧ k < 65536 ∧ (s.queue (BitVec.ofNat 16 k)).exists_ = false
      tests u
      [(n = 0 ∨ 64 < n ∨ (s.hostSq f n).live = true, 1, 0x01, 0), (cqid = 0 ∨ (s.hostCq f cqid.toNat).live = false, 1, 0x00, 0),
        (size = 0 ∨ 4095 < size.toNat, 1, 0x02, 0), (s.mode = modeInit ∨ s.mode = modeQuiesce ∨ s.mode = modeHoldup, 0, 0x82, 0x0203),
        (stamped ∧ fl.bid ≠ bid, 0, 0x02, 0x0401), ((s.booth bid).st = .free, 0, 0x0C, 0x0201), ((s.booth bid).st = .halted, 0, 0x06, 0x0220),
        (stamped ∧ fl.en = false, 0, 0x0C, 0x0201), (s.quota bid 0 ≤ s.inUse bid 0, 1, 0x01, 0x0301), (∀ k, ¬free k, 1, 0x01, 0x0320)]
      (∃ (t : State) (q : BitVec 16), ends t u 0 0 0 0 ∧ t.mem = s.mem ∧ free q.toNat ∧ (∀ k, free k → q.toNat ≤ k) ∧
        t.hostSq f n = { live := true, cqid := cqid.toNat, size := size.toNat + 1, shadow := q } ∧ (∀ k, k ≠ q → t.queue k = s.queue k) ∧
        let x := t.queue q
        x.exists_ = true ∧ x.cls = 6 ∧ x.prod = 2 ∧ x.sqLog = 10 ∧ x.cqLog = 8 ∧ x.bid = bid ∧ x.enable = false ∧ x.host = f ∧ x.sqHead = 0 ∧ x.sqTail = 0 ∧
        x.sqBase = s.reg Reg.pciShadowBase + BitVec.ofNat 64 (16384 * (64 * f + n - 1)) ∧
        x.cqBase = s.reg Reg.pciShadowBase + BitVec.ofNat 64 (2 ^ 28 + 4096 * (64 * f + n - 1)) ∧
        (stamped → x.role = 1 ∧ x.flow = flow.getD 0) ∧ (¬stamped → x.role = 0)))) ∧
    (∃ u, exec (.deleteIoSq fn cid qid) s = .next u ∧ does u (tests u [(n = 0 ∨ (s.hostSq f n).live = false ∨ (s.hostSq f n).del.isSome = true, 1, 0x01, 0)]
      (let q := (s.hostSq f n).shadow
       ∃ t : State, u = t.hostSettle f ∧ t.queue q = { (s.queue q).dropFetched with enable := false } ∧ t.hostSq f n = { s.hostSq f n with del := some cid } ∧
         t.mem = s.mem ∧ t.csr = s.csr))) ∧
    (∀ k c, (s.hostSq f k).del = some c → let q := (s.hostSq f k).shadow
      ((s.queue q).inflight ≠ 0 → s.hostDelEnd f k = s) ∧
      ((s.queue q).inflight = 0 → s.hostDelEnd f k = ((s.setQueue q {}).setHostSq f k {}).hostEnd f { cqid := 0, cid := c, sqid := 0 } 0)) ∧
    (∃ u, exec (.deleteIoCq fn cid qid) s = .next u ∧ does u (tests u [(n = 0 ∨ (s.hostCq f n).live = false, 1, 0x01, 0),
        (∃ k, k ≠ 0 ∧ (∃ e ∈ h.sqs, e.1 = k ∧ e.2.live = true) ∧ (s.hostSq f k).cqid = n, 1, 0x0C, 0)]
      (∃ t : State, ends t u 0 0 0 0 ∧ keeps t ∧ t.hostCq f n = {} ∧ (∀ k, k ≠ n → t.hostCq f k = s.hostCq f k) ∧
        (∀ e, e ∈ (t.hostFn f).sent ↔ e ∈ h.sent ∧ e.cqid ≠ n) ∧ ∀ e, e ∈ (t.hostFn f).wait ↔ e ∈ h.wait ∧ e.cqid ≠ n))) ∧
    (∃ u, exec (.identify fn cid cns nsid) s = .next u ∧ does u (
      let k := nsid.toNat
      (cns = 0 → (k = 0 ∨ 1024 < k → ends s u 0 0x0B 0 0) ∧
        (1 ≤ k → k ≤ 1024 → filled u 4096 fun t => (¬sees k → ∀ y ∈ (t.hostFn f).reply, y = 0) ∧
          (sees k → (s.ns k).size < 2 ^ 40 → returned t 0 8 (262144 * (s.ns k).size) ∧ returned t 8 8 (262144 * (s.ns k).size) ∧ returned t 25 1 0 ∧
            returned t 26 1 0 ∧ returned t 27 3 0 ∧ returned t 128 3 (12 * 65536) ∧ returned t 3072 1 ((s.ns k).ordered.toNat + 2 * (s.ns k).ledger.toNat)))) ∧
      (cns = 1 → filled u 4096 fun t => returned t 77 1 8 ∧ returned t 78 2 f ∧ returned t 80 4 0x00020000 ∧ returned t 256 2 0 ∧ returned t 259 1 3 ∧ returned t 262 1 63 ∧ returned t 263 1 2 ∧
        returned t 0 2 0x1D7A ∧ returned t 512 1 0x66 ∧ returned t 513 1 0x44 ∧ returned t 522 2 0 ∧ returned t 528 2 0 ∧ returned t 536 4 2 ∧
        returned t 516 4 1024 ∧ returned t 520 2 4 ∧ returned t 525 1 0 ∧ returned t 526 2 0 ∧
        returned t 2048 2 2800 ∧ returned t 2080 2 1600 ∧ returned t 2084 4 100 ∧ returned t 2088 4 100 ∧
        returned t 2112 2 300 ∧ returned t 2116 4 5000 ∧ returned t 2120 4 500) ∧
      (cns = 2 → (0xFFFFFFFE ≤ k → ends s u 0 0x0B 0 0) ∧ (k < 0xFFFFFFFE → filled u 4096 fun t =>
        ∃ l : List Nat, l.Pairwise (· < ·) ∧ (∀ j, j ∈ l ↔ 1 ≤ j ∧ j ≤ 1024 ∧ k < j ∧ sees j) ∧
          (∀ i (hi : i < l.length), returned t (4 * i) 4 l[i]) ∧ ∀ i, l.length ≤ i → i < 1024 → returned t (4 * i) 4 0)) ∧
      (cns = 3 → (¬sees k → ends s u 0 0x0B 0 0) ∧ (sees k → filled u 4096 fun _ => True)) ∧ (3 < cns.toNat → ends s u 0 0x02 0 0))) ∧
    (∃ u, exec (.getLogPage fn cid lid) s = .next u ∧ does u (
      (lid = 1 → filled u (64 * h.errLog.length) fun t => ∀ i (hi : i < h.errLog.length), let e := h.errLog[i]
        returned t (64 * i) 8 (e.n % 2 ^ 64) ∧ returned t (64 * i + 8) 2 (e.sqid % 2 ^ 16) ∧ returned t (64 * i + 10) 2 e.cid.toNat ∧
        returned t (64 * i + 12) 2 ((e.sc * 2 + e.sct * 512) % 2 ^ 16) ∧ returned t (64 * i + 32) 8 e.internal.toNat) ∧
      (lid = 2 → filled u 512 fun t => returned t 3 1 (s.spareLeft % 256) ∧ returned t 5 1 s.wearUsed ∧
        ∃ c, returned t 0 1 c ∧ (8 ≤ c ↔ s.regBit Reg.devMode 7 = true) ∧ (c % 2 = 1 ↔ s.spareLeft < Config.spareThreshold)) ∧
      (lid = 3 → filled u 512 fun _ => True) ∧
      (lid = 5 → filled u 4096 fun t => (∀ o ∈ [0x00, 0x01, 0x02, 0x04, 0x05, 0x06, 0x08, 0x09, 0x0A, 0x0C], returned t (4 * o) 1 1) ∧
        (∀ o ∈ [0x00, 0x01, 0x02, 0x09, 0x81, 0x82, 0x85, 0x86, 0x89], returned t (1024 + 4 * o) 1 1) ∧ returned t 2048 2048 0 ∧
        (∀ o, o < 256 → o ∉ [0x00, 0x01, 0x02, 0x04, 0x05, 0x06, 0x08, 0x09, 0x0A, 0x0C] → returned t (4 * o) 4 0) ∧
        ∀ o, o < 256 → o ∉ [0x00, 0x01, 0x02, 0x09, 0x81, 0x82, 0x85, 0x86, 0x89] → returned t (1024 + 4 * o) 4 0) ∧
      (lid = 0 ∨ lid = 4 ∨ 5 < lid.toNat → ends s u 0 0x02 0 0))) ∧
    (let select (w : Nat) (u : State) : Prop :=
       let no := s.regBit (Reg.pciFn f) 1 = false ∨ ∃ k, k ≠ 0 ∧ ∃ e ∈ h.sqs, e.1 = k ∧ e.2.live = true
       (no → ends s u 0 0x02 0 0) ∧ (¬no → ∃ t : State, ends t u 0 0 0 0 ∧ t.hostFn f = { h with ordered := w } ∧ keeps t)
     (∃ u, exec (.orderedQueueSelect fn cid a) s = .next u ∧ does u (select a.toNat u)) ∧
     (∃ u, exec (.setFeatures fn cid fid v) s = .next u ∧ does u (
       let keep (k : Nat) : Prop := ∃ t : State, ends t u 0 0 0 0 ∧ keeps t ∧ (t.hostFn f).feat k = v ∧ ∀ j, j ≠ k → (t.hostFn f).feat j = h.feat j
       let p := v.toNat % 32
       (fid = 0x01 ∨ fid = 0x04 ∨ fid = 0x08 ∨ fid = 0x0B → keep fid.toNat) ∧
       (fid = 0x02 → 2 < p → ends s u 0 0x02 0 0) ∧
       (fid = 0x02 → p ≤ 2 → ∃ t : State, (p = 2 → ends t.psRequest u 0 0 0 0) ∧ (p ≠ 2 → ends t.psEval u 0 0 0 0) ∧ (t.hostFn f).feat 2 = v ∧ (t.hostFn f).pstate = p ∧ (p ≠ 2 → (t.hostFn f).plast = p) ∧ keeps t) ∧
       (fid = 0x07 → let used := (∃ e ∈ h.sqs, e.1 ≠ 0 ∧ e.2.live = true) ∨ ∃ e ∈ h.cqs, e.1 ≠ 0 ∧ e.2.live = true
         let bad := v.toNat % 65536 = 65535 ∨ v.toNat / 65536 = 65535
         (used → ends s u 0 0x0C 0 0) ∧ (¬used → bad → ends s u 0 0x02 0 0) ∧ (¬used → ¬bad → ends s u 0 0 (63 + 63 * 65536) 0)) ∧
       (fid = 0x09 → (64 < v.toNat % 65536 → ends s u 0 0x02 0 0) ∧ (v.toNat % 65536 ≤ 64 → keep (0x900 + v.toNat % 65536))) ∧
       (fid = 0xC0 → select (v.toNat % 65536) u) ∧
       (fid ∉ ([0x01, 0x02, 0x04, 0x07, 0x08, 0x09, 0x0B, 0xC0] : List (BitVec 8)) → ends s u 0 0x02 0 0)))) ∧
    (∃ u, exec (.getFeatures fn cid ⟨fid, v⟩) s = .next u ∧ does u (
      (fid = 0x01 ∨ fid = 0x04 ∨ fid = 0x08 ∨ fid = 0x0B → ends s u 0 0 (h.feat fid.toNat).toNat 0) ∧ (fid = 0x02 → ends s u 0 0 h.pstate 0) ∧
      (fid = 0x07 → ends s u 0 0 (63 + 63 * 65536) 0) ∧ (fid = 0x09 → let k := v.toNat % 65536
        (64 < k → ends s u 0 0x02 0 0) ∧ (k ≤ 64 → ends s u 0 0 (k + (h.feat (0x900 + k)).toNat / 65536 % 2 * 65536) 0)) ∧ (fid = 0xC0 → ends s u 0 0 h.ordered 0) ∧
      (fid ∉ ([0x01, 0x02, 0x04, 0x07, 0x08, 0x09, 0x0B, 0xC0] : List (BitVec 8)) → ends s u 0 0x02 0 0))) ∧
    (∃ u, exec (.abort fn cid a b) s = .next u ∧ does u (ends s u 0 0 1 0)) ∧
    (∃ u, exec (.asyncEventRequest fn cid) s = .next u ∧ does u (
      (∀ e t, h.events = e :: t → ∃ w : State, ends w u 0 0 e 0 ∧ w.hostFn f = { h with events := t } ∧ keeps w) ∧
      (h.events = [] → 4 ≤ h.aer.length → ends s u 1 0x05 0 0) ∧ (h.events = [] → h.aer.length < 4 → u = s.setHost f { h with aer := h.aer ++ [cid] })))

/-- Mover channels (R347–R361). -/
def Obligations.MoversCopyFillHaltAndRunChains : Prop :=
  ∀ (ch : Fin 288) (mode : BitVec 2) (q : BitVec 16) (s : State),
    let n := ch.val
    let m := s.mover n
    let src := (s.reg (Reg.mvSrc n)).toNat
    let dst := (s.reg (Reg.mvDst n)).toNat
    let count := (s.reg (Reg.mvCount n)).toNat
    let busy := m.st = 1 ∧ (n < 128 ∨ m.active = true)
    let plain := m.pace = 0 ∧ m.rdDue = false ∧ m.bid = 0 ∧ m.moved = 0 ∧ count < 2 ^ 32 ∧ (n < 128 → m.total = 0)
    let mine := n < 128 ∧ m.kernel = false ∧ (s.ctx (n * 16 + m.ctx)).job = m.job ∧ (s.ctx (n * 16 + m.ctx)).kick.isSome = true
    (∃ u, exec (.transferComplete ch) s = .next u ∧ (¬busy → u = s) ∧
      (busy → plain → m.mode < 2 → m.op < 2 → dst + count ≤ hbmEnd → (m.op = 0 → src + count ≤ hbmEnd ∧ (dst ≤ src ∨ src + count ≤ dst)) →
        (∀ c, s.eccAt c = .good) → ∃ w : State,
          (∀ i, i < count → w.peek (dst + i) = if m.op = 0 then s.peek (src + i) else (s.reg (Reg.mvSrc n)).extractLsb' (8 * (i % 8)) 8) ∧
          (∀ a, a < dst ∨ dst + count ≤ a → w.peek a = s.peek a) ∧ w.mover n = { m with moved := count, total := m.total + count } ∧ w.ctxs = s.ctxs ∧
          (n < 128 → u = (w.kickEnd n false 0 false).mvIdle n) ∧
          (128 ≤ n → ∀ e, m.item = some e → let t := if m.evt ∧ (w.queue e.q).evt then w.raise (w.queue e.q).src.toNat else w
            (m.next ≠ 0 → u = t.setMover n { t.mover n with active := false }) ∧
            (m.next = 0 → u = (t.setMover n {}).complete e 0 (BitVec.ofNat 64 (m.total + count))))) ∧
      (busy → count = 0 → m.rdDue = false → n < 128 → m.mode < 2 ∨ m.moved = 0 → u = (s.kickEnd n false 0 false).mvIdle n)) ∧
    (∀ f st dir, let u := s.kickEnd n f st dir
      (¬mine → u = s) ∧ (mine → (s.ctx (n * 16 + m.ctx)).wait = .none →
        u = s.setCtx (n * 16 + m.ctx) { s.ctx (n * 16 + m.ctx) with kick := some { chan := n, dir := dir, status := st, failed := f, done := !f, bytes := m.moved } })) ∧
    (∃ u, exec (.moverHalt ch) s = .next u ∧
      let halts (a : State) (addr : W64) (wr : Bool) (st : BitVec 16) : Prop := (u.mover n).st = 4 ∧ (u.mover n).dir = wr ∧ (u.mover n).fstatus = st ∧
        (u.mover n).was = (a.mover n).st ∧ u.reg (Reg.mvErraddr n) = addr ∧ ∃ w : State, u = (w.kickEnd n true st wr).mvgoAgain n ∧ w.mem = a.mem ∧ w.ctxs = a.ctxs
      ((∀ f, (s.mvNext n).2 ≠ .fail f) → u = s) ∧
      (∀ a f, s.mvNext n = (a, .fail f) → halts a f.addr f.wr f.st) ∧
      (busy → plain → 0 < count → m.op = 0 → ∀ st, s.memStatus src (min count (min (64 - src % 64) (64 - dst % 64))) = some st →
        halts s (s.reg (Reg.mvSrc n)) false st) ∧
      (busy → plain → 0 < count → m.op = 1 → ∀ st, s.writeStatus .tenant dst (min count (min (64 - src % 64) (64 - dst % 64))) = some st → halts s (s.reg (Reg.mvDst n)) true st)) ∧
    (let t := s.setRegFld (Reg.mvCtrl n) 1 2 mode.toNat
     ∃ u, exec (.mvGo ch mode) s = .next u ∧ (128 ≤ n ∨ m.st ≠ 0 → u = t) ∧ (n < 128 → m.st = 0 → count = 0 → u = t.setReg (Reg.mvDone n) 0) ∧
       (n < 128 → m.st = 0 → count ≠ 0 → u = (t.setMover n { st := 1, kernel := true, mode := mode.toNat }).setReg (Reg.mvDone n) 0)) ∧
    (∃ u, exec (.mvResume ch) s = .next u ∧ (m.st ≠ 4 → u = s) ∧
      (m.st = 4 → let t := s.setMover n { m with st := m.was, dir := false, desc := false, fstatus := 0 }
        (¬mine → u = t) ∧ (mine → u = t.setCtx (n * 16 + m.ctx) { s.ctx (n * 16 + m.ctx) with kick := some { chan := n } }))) ∧
    (∃ u, exec (.mvAbort ch) s = .next u ∧ (m.st = 0 → u = s) ∧ (m.st = 4 → n < 128 → u = s.mvIdle n) ∧
      (m.st ≠ 0 → m.st ≠ 4 → n < 128 → ∃ (w : State) (st : BitVec 16) (dir : Bool), st ∈ [0x0601, 0x0602, 0x0701, 0x0702] ∧ u = (w.kickEnd n true st dir).mvIdle n) ∧
      (∀ e, m.item = some e → 128 ≤ n → (m.st = 4 → u = (s.setMover n {}).complete e m.fstatus (BitVec.ofNat 64 m.total)) ∧
        (m.st ≠ 0 → m.st ≠ 4 → ∃ (w : State) (k : Nat), m.total ≤ k ∧ u = (w.setMover n {}).complete e 0x0290 (BitVec.ofNat 64 k) ∧
          (m.st = 2 → w = s ∧ k = m.total)))) ∧
    (let ready (e : Item) (t : State) : Bool := (t.chainFail e).isSome || (t.freeChan e).isSome
     ((∀ e t, ¬s.dispatches 5 1 q ready e t) → exec (.runChain q) s = .next s) ∧
     ∀ e t, s.dispatches 5 1 q ready e t → ∃ u, exec (.runChain q) s = .next u ∧
      let kind := e.fieldN 17 1 % 4
      let site := e.fieldN 16 1
      let high := e.fieldN 32 8
      let low := e.fieldN 40 8
      let x := t.queue (BitVec.ofNat 16 (e.fieldN 24 8))
      let bad := e.fieldN 8 8 % 32 ≠ 0 ∨ (8 < site ∧ site ≠ 255) ∨ kind = 3 ∨ (kind ≠ 0 ∧ (high = 0 ∨ high < low)) ∨
        (kind = 1 ∧ e.fieldN 26 6 ≠ 0) ∨ (kind = 2 ∧ e.fieldN 24 8 % 64 ≠ 0)
      let denied := kind = 1 ∧ (x.exists_ = false ∨ (x.bid ≠ e.bid ∧ e.bid ≠ 0))
      let order (a b : Nat) : Prop := (256 ≤ a ∧ b < 256) ∨ ((256 ≤ a ↔ 256 ≤ b) ∧ a < b)
      let inSite (k : Nat) : Prop := (site < 8 → 128 + 16 * site ≤ k ∧ k < 144 + 16 * site) ∧ (site = 8 → 256 ≤ k ∧ k < 288) ∧ (site = 255 → 128 ≤ k ∧ k < 288)
      (bad → t.refuses u e 0x0401) ∧ (¬bad → denied → t.refuses u e 0x0701) ∧
      (¬bad → ¬denied → ∀ k, inSite k → (t.mover k).st = 0 → (∀ j, inSite j → (t.mover j).st = 0 → j = k ∨ order k j) →
        (kind = 0 → (u.mover k).st = 1 ∧ u.mem = t.mem) ∧
        (kind = 1 → (u.mover k).st = if high ≤ (x.sqTail - x.sqHead).toNat then 1 else 2) ∧
        (kind < 2 → (u.mover k).bid = e.bid ∧ (u.mover k).item = some e ∧ (u.mover k).next = e.word 8 ∧ (u.mover k).pace = kind ∧ (u.mover k).active = false ∧
          (u.mover k).moved = 0 ∧ (u.mover k).total = 0 ∧ (kind = 1 → (u.mover k).sized = true ∧ (u.mover k).high = high ∧ (u.mover k).low = low) ∧ (u.mover k).cls = (t.queue e.q).prio ∧
          u.reg (Reg.mvDone k) = 0 ∧ ∀ j, j ≠ k → u.mover j = t.mover j))) ∧
    (∃ u, exec (.descriptorStart ch) s = .next u ∧
      let go := 128 ≤ n ∧ m.st = 1 ∧ m.active = false
      (¬go → u = s) ∧
      (go → m.pace = 0 → ∀ a r l, s.dmaRead m.bid m.next 32 m.cls = (a, r, l) →
        let op := recFld l 20 1
        let ctl := recFld l 21 1
        let bad := 2 < op ∨ 8 ≤ ctl ∨ ctl % 4 = 3 ∨ recFld l 22 2 ≠ 0 ∨ recFld l 24 8 % 32 ≠ 0
        (r.isSome = true → u = s) ∧
        (r = none → bad → ∀ e, m.item = some e → ∃ w : State, u = w.haltBooth e.bid 0x0191 e.q e.slot.toNat ∧ w.mover n = {} ∧
          w.queue e.q = { a.queue e.q with inflight := (a.queue e.q).inflight - 1 } ∧ w.mem = a.mem) ∧
        (r = none → ¬bad → op ≠ 2 → u.reg (Reg.mvSrc n) = BitVec.ofNat 64 (recFld l 0 8) ∧ u.reg (Reg.mvDst n) = BitVec.ofNat 64 (recFld l 8 8) ∧
          u.reg (Reg.mvCount n) = BitVec.ofNat 64 (recFld l 16 4) ∧ u.reg (Reg.mvDesc n) = m.next ∧
          u.mover n = { m with mode := ctl % 4, evt := decide (4 ≤ ctl), op := op, next := BitVec.ofNat 64 (recFld l 24 8), active := true, moved := 0, rdv := none, rdDue := false }) ∧
        (r = none → ¬bad → op = 2 → ∀ e, m.item = some e → ∃ w : State, u = (w.setMover n {}).complete e 0x0401 (BitVec.ofNat 64 m.total) ∧ w.mem = a.mem))) ∧
    (∃ u, exec (.gatePoll ch) s = .next u ∧ (m.st ≠ 2 → u = s) ∧
      (m.st = 2 → m.pace = 1 → let y := s.queue (m.pobj.setWidth 16)
        u = s.setMover n { m with st := if m.high ≤ (y.sqTail - y.sqHead).toNat then 1 else 2, sized := true }) ∧
      (m.st = 2 → m.pace = 2 → ∀ a l, s.dmaReadW m.bid m.pobj 32 m.cls = (a, none, l) →
        let level := (recFld l 0 8 + 2 ^ 64 - recFld l 8 8) % 2 ^ 64
        let tooHigh := m.sized = false ∧ recFld l 16 8 < m.high
        (tooHigh → ∀ e, m.item = some e → u = (a.setMover n {}).complete e 0x0401 (BitVec.ofNat 64 m.total)) ∧
        (¬tooHigh → u = a.setMover n { m with st := if m.high ≤ level ∨ recFld l 26 1 % 2 = 1 then 1 else 2, sized := true })))

/-- The digest and compression engines (R362–R377). -/
def Obligations.DigestAndCompressionJobsRun : Prop :=
  ∀ (q : BitVec 16) (m : BitVec 12) (v : Fin 4) (s : State),
    let calm (t : State) : Prop := ∀ c, t.eccAt c = .good
    let en (t : State) : Prop := t.regBit Reg.dgCtl 0 = true
    let other (b : BitVec 12) (e : Item) : Prop := b ≠ e.bid ∧ e.bid ≠ 0
    let dg (e : Item) (t u : State) (bad : Prop) (eff : Nat → DgCtx → Prop) : Prop :=
        let n := e.fieldN 8 2
        let x := t.dg n
        let denied := n = 4095 ∨ x.alloc = false ∨ other x.bid e
        (¬en t → t.refuses u e 0x0201) ∧ (en t → 4095 < n ∨ bad → t.refuses u e 0x0401) ∧
        (en t → n ≤ 4095 → ¬bad → denied → t.refuses u e 0x0701) ∧ (en t → n ≤ 4095 → ¬bad → ¬denied → eff n x)
    let waits (e : Item) (t u : State) (n : Nat) (x : DgCtx) : Prop :=
      x.jobs ≠ [] → (∀ j ∈ x.jobs, j.active = true) → u = t.setDg n { x with jobs := x.jobs ++ [{ item := e }] }
    ((((∀ e t, ¬s.dispatches 3 1 q always e t) → exec (.dgAlloc q) s = .next s) ∧ ∀ e t, s.dispatches 3 1 q always e t → ∃ u, exec (.dgAlloc q) s = .next u ∧
      let alg := e.fieldN 8 1
      let bad := alg = 0 ∨ 6 < alg
      let full := t.quota e.bid 4 ≤ (t.eng.dg.filter fun x => x.2.alloc && x.2.bid == e.bid && x.1 != 4095).length
      let none' := ∀ n, n < 4095 → (t.dg n).alloc = true
      (¬en t → t.refuses u e 0x0201) ∧ (en t → bad → t.refuses u e 0x0401) ∧ (en t → ¬bad → full → t.refuses u e 0x0301) ∧
      (en t → ¬bad → ¬full → none' → t.refuses u e 0x0302) ∧
      (en t → ¬bad → ¬full → ¬none' → ∃ (n : Nat) (w : State), n < 4095 ∧ (t.dg n).alloc = false ∧ u = w.complete e 0 (BitVec.ofNat 64 n) ∧
        (w.dg n).alloc = true ∧ (w.dg n).alg = alg ∧ (w.dg n).bid = e.bid ∧ (w.dg n).st = algInit alg ∧ (w.dg n).len = 0 ∧ (w.dg n).buf = [] ∧
        (w.dg n).jobs = []))) ∧
    (((∀ e t, ¬s.dispatches 3 2 q always e t) → exec (.dgFree q) s = .next s) ∧ ∀ e t, s.dispatches 3 2 q always e t → ∃ u, exec (.dgFree q) s = .next u ∧ dg e t u (False) fun n x => waits e t u n x ∧
      (x.jobs = [] → x.resident = true → ∃ w : State, w.dg n = {} ∧ u = w.complete e 0)) ∧
    (((∀ e t, ¬s.dispatches 3 4 q always e t) → exec (.loadState q) s = .next s) ∧ ∀ e t, s.dispatches 3 4 q always e t → ∃ u, exec (.loadState q) s = .next u ∧ dg e t u (e.fieldN 16 8 % 64 ≠ 0) fun n x => waits e t u n x ∧
      (x.jobs = [] → x.resident = true → ∃ y : State, y = { t with eng := y.eng } ∧ ∀ a r l, y.dmaRead e.bid (e.word 16) 512 (y.queue e.q).prio = (a, r, l) →
        let ok := recFld l 0 1 = x.alg ∧ recFld l 2 2 < algBlock x.alg ∧ recFld l 8 8 % algBlock x.alg = recFld l 2 2 ∧ recFld l 1 1 = 0 ∧ recFld l 4 4 = 0 ∧
          recFld l (16 + algStateLen x.alg) (240 - algStateLen x.alg) = 0 ∧ recFld l (256 + recFld l 2 2) (256 - recFld l 2 2) = 0
        (∀ st, r = some st → u = a.complete e st) ∧ (r = none → ¬ok → u = a.complete e 0x0401) ∧
        (r = none → ok → ∃ w : State, u = w.complete e 0 ∧ (w.dg n).alg = x.alg ∧ (w.dg n).st = BitVec.ofNat 1600 (recFld l 16 200) ∧
          (w.dg n).len = recFld l 8 8 ∧ (w.dg n).buf = (l.drop 256).take (recFld l 2 2)))) ∧
    (((∀ e t, ¬s.dispatches 3 5 q always e t) → exec (.storeState q) s = .next s) ∧ ∀ e t, s.dispatches 3 5 q always e t → ∃ u, exec (.storeState q) s = .next u ∧ dg e t u (e.fieldN 16 8 % 64 ≠ 0) fun n x => waits e t u n x ∧
      (x.jobs = [] → x.resident = true → x.buf.length < algBlock x.alg → e.bid = 0 → e.fieldN 16 8 + 512 ≤ hbmEnd → calm t → ∃ w : State, u = w.complete e 0 ∧ w.dg n = { x with lru := (w.dg n).lru } ∧
        ∀ i, i < 512 → w.peek (e.fieldN 16 8 + i) = (dgImage x).getD i 0)) ∧
    (((∀ e t, ¬s.dispatches 3 3 q always e t) → exec (.dgUpdate q) s = .next s) ∧ ∀ e t, s.dispatches 3 3 q always e t → ∃ u, exec (.dgUpdate q) s = .next u ∧ dg e t u (65535 < e.fieldN 12 4 ∨ e.fieldN 16 8 % 16 ≠ 0) fun n x =>
      x.jobs = [] → x.resident = true → e.fieldN 12 4 ≠ 0 → u.queues = t.queues ∧ u.mem = t.mem ∧
        u.dg n = { x with lru := (u.dg n).lru, jobs := [{ item := e, active := true, snapSt := x.st, snapLen := x.len, snapBuf := x.buf, snapAt := x.tick }] }) ∧
    (∃ u, exec (.fragmentApply m) s = .next u ∧
      let n := m.toNat
      let x := s.dg n
      (x.jobs = [] → u = s) ∧
      ∀ j a r l, x.jobs = [j] → j.active = true → s.dmaRead j.item.bid (j.item.word 16 + BitVec.ofNat 64 (16 * j.frag)) 16 (s.queue j.item.q).prio = (a, r, l) →
        let e := j.item
        let len := recFld l 8 4
        let total := e.fieldN 24 8
        let decl := e.fieldN 10 1 / 2 % 2 = 1
        let finish := e.fieldN 10 1 % 2 = 1
        let back : DgCtx := { x with st := j.snapSt, len := j.snapLen, buf := j.snapBuf, jobs := [] }
        let fails (st : BitVec 16) : Prop := ∃ w : State, w.dg n = back ∧ u = w.complete e st
        let range := len = 0 ∨ 16777215 < len ∨ algLimit x.alg < x.len + len
        (∀ st, r = some st → fails st) ∧
        (r = none → recFld l 12 4 ≠ 0 → u.dg n = back ∧ (u.booth e.bid).st = .halted ∧ ((a.booth e.bid).st ≠ .halted → (u.booth e.bid).cause = 0x01A1)) ∧
        (r = none → recFld l 12 4 = 0 → range → fails 0x0401) ∧
        (r = none → recFld l 12 4 = 0 → ¬range → decl → total < j.sum + len → fails 0x0402) ∧
        (r = none → recFld l 12 4 = 0 → ¬range → (decl → j.sum + len ≤ total) → ∀ b r' z, a.dmaRead e.bid (BitVec.ofNat 64 (recFld l 0 8)) len (s.queue e.q).prio = (b, r', z) →
          let f := algFeed x.alg x.st x.buf z
          let fed : DgCtx := { x with st := f.1, buf := f.2, len := x.len + len, tick := x.tick + 1 }
          (∀ st, r' = some st → fails st) ∧
          (r' = none → j.frag + 1 < e.fieldN 12 4 →
            u.dg n = { fed with turn := 1, jobs := [{ j with frag := j.frag + 1, sum := j.sum + len, last := x.tick + 1 }] } ∧ u.queues = b.queues) ∧
          (r' = none → e.fieldN 12 4 ≤ j.frag + 1 → decl → j.sum + len < total → ∃ w : State, (w.dg n).st = j.snapSt ∧ (w.dg n).len = j.snapLen ∧
            (w.dg n).buf = j.snapBuf ∧ (w.dg n).jobs = [] ∧ u = w.complete e 0x0402) ∧
          (r' = none → e.fieldN 12 4 ≤ j.frag + 1 → (decl → j.sum + len = total) → ¬finish → ∃ w : State, w.dg n = { fed with turn := 0, jobs := [] } ∧
            u = w.complete e 0 (BitVec.ofNat 64 (x.len + len))) ∧
          (r' = none → e.fieldN 12 4 ≤ j.frag + 1 → (decl → j.sum + len = total) → finish → e.bid = 0 → e.fieldN 32 8 + 64 ≤ hbmEnd → calm s →
            let d := algFinish x.alg f.1 f.2 (x.len + len)
            ∃ w : State, u = w.complete e 0 (BitVec.ofNat 64 (x.len + len)) ∧ (∀ i, i < d.length → w.peek (e.fieldN 32 8 + i) = d.getD i 0) ∧
              w.dg n = { fed with st := algInit x.alg, len := 0, buf := [], turn := 0, jobs := [] }))) ∧
    (∀ (alg : Nat) (st : BitVec 1600) (buf l l' : List Byte), 1 ≤ alg → alg ≤ 6 → buf.length < algBlock alg →
      let f := algFeed alg st buf l
      f.2.length < algBlock alg ∧ f.2.length % algBlock alg = (buf.length + l.length) % algBlock alg ∧ algFeed alg f.1 f.2 l' = algFeed alg st buf (l ++ l')) ∧
    (let on (t : State) : Prop := t.regBit Reg.czCtl 0 = true
     let lowest (t : State) (k : Nat) : Prop := k < 4 ∧ t.czUnit k = none ∧ ∀ i, i < k → t.czUnit i ≠ none
     let job (e : Item) (t u : State) (op : Nat) : Prop :=
       let fmt := e.fieldN 10 1
       let lvl := e.fieldN 11 1
       let n := e.fieldN 8 2
       let single := n = 65535
       let x := t.cz n
       let level := if op = 1 then lvl = 0 ∨ 9 < lvl else lvl ≠ 0
       let bad := (single ∧ (3 < fmt ∨ level ∨ e.fieldN 12 1 ≠ 0)) ∨ (¬single ∧ (fmt ≠ 0 ∨ lvl ≠ 0))
       let denied := ¬single ∧ (x.open_ = false ∨ other x.bid e)
       let wrong := ¬single ∧ (x.dir = true ↔ op = 1)
       (¬on t → t.refuses u e 0x0201) ∧ (on t → bad → t.refuses u e 0x0401) ∧ (on t → ¬bad → denied → t.refuses u e 0x0701) ∧
       (on t → ¬bad → ¬denied → wrong → t.refuses u e 0x0401) ∧
       (on t → ¬bad → ¬denied → ¬wrong → ∀ k, lowest t k → (¬single → t.eng.wait = [] ∧ t.czBusy n = false) → u = t.czStart k e) ∧
       (on t → ¬bad → ¬denied → ¬wrong → ¬single → t.eng.wait = [] → t.czBusy n = true ∨ (∀ k, ¬lowest t k) → u = { t with eng := { t.eng with wait := [e] } })
     (((∀ e t, ¬s.dispatches 4 1 q czReady e t) → exec (.compress q) s = .next s) ∧ ∀ e t, s.dispatches 4 1 q czReady e t → ∃ u, exec (.compress q) s = .next u ∧ job e t u 1) ∧
     (((∀ e t, ¬s.dispatches 4 2 q czReady e t) → exec (.decompress q) s = .next s) ∧ ∀ e t, s.dispatches 4 2 q czReady e t → ∃ u, exec (.decompress q) s = .next u ∧ job e t u 2) ∧
     (((∀ e t, ¬s.dispatches 4 3 q always e t) → exec (.openCz q) s = .next s) ∧ ∀ e t, s.dispatches 4 3 q always e t → ∃ u, exec (.openCz q) s = .next u ∧
       let fmt := e.fieldN 8 1
       let lvl := e.fieldN 9 1
       let dir := e.fieldN 10 1
       let bad := 3 < fmt ∨ 1 < dir ∨ (dir = 0 ∧ (lvl = 0 ∨ 9 < lvl)) ∨ e.fieldN 16 8 % 4096 ≠ 0
       let full := t.quota e.bid 5 ≤ (t.eng.cz.filter fun x => x.2.open_ && x.2.bid == e.bid).length
       let none' := ∀ n, n < 256 → (t.cz n).open_ = true
       (¬on t → t.refuses u e 0x0201) ∧ (on t → bad → t.refuses u e 0x0401) ∧ (on t → ¬bad → full → t.refuses u e 0x0301) ∧
       (on t → ¬bad → ¬full → none' → t.refuses u e 0x0302) ∧
       (on t → ¬bad → ¬full → ¬none' → ∃ n, n < 256 ∧ (t.cz n).open_ = false ∧
         u = (t.fresh.2.setCz n { open_ := true, fmt := fmt, dir := dir == 1, level := lvl, bid := e.bid, save := e.word 16 }).complete e 0 (BitVec.ofNat 64 n))) ∧
     (((∀ e t, ¬s.dispatches 4 4 q always e t) → exec (.close q) s = .next s) ∧ ∀ e t, s.dispatches 4 4 q always e t → ∃ u, exec (.close q) s = .next u ∧
       let n := e.fieldN 8 2
       let x := t.cz n
       let denied := x.open_ = false ∨ other x.bid e
       (¬on t → t.refuses u e 0x0201) ∧ (on t → denied → t.refuses u e 0x0701) ∧
       (on t → ¬denied → t.eng.wait = [] → (t.czBusy n = false → u = (t.setCz n {}).complete e 0) ∧
         (t.czBusy n = true → u = { t with eng := { t.eng with wait := [e] } })))) ∧
    (∃ u, exec (.compressionJobEnd v) s = .next u ∧ (s.czUnit v.val = none → u = s) ∧
      ∀ e, s.czUnit v.val = some e → s.eng.wait = [] →
        let t : State := { s with eng := { s.eng with units := Tab.set none s.eng.units v.val none } }
        let size := e.fieldN 24 4
        let room := e.fieldN 28 4
        let dst := e.fieldN 32 8
        let fmt := e.fieldN 10 1
        let fails (st : BitVec 16) : Prop := ∃ w : State, w.eng = t.eng ∧ u = (w.bump Reg.czFails).complete e st
        let puts (out : List Byte) (used : Nat) : Prop := (room < out.length → fails 0x03B0) ∧
          (out.length ≤ room → e.bid = 0 → dst + out.length ≤ hbmEnd → calm t → ∃ w : State, (∀ i, i < out.length → w.peek (dst + i) = out.getD i 0) ∧
            w.eng = t.eng ∧ u = w.complete e 0 (BitVec.ofNat 64 (out.length + used * 2 ^ 32)))
        (e.opcode = 1 → e.fieldN 8 2 = 65535 → ∀ a r l, t.dmaRead e.bid (e.word 16) size (t.queue e.q).prio = (a, r, l) →
          (∀ st, r = some st → fails st) ∧
          (r = none → let body := czBody (fmt == 3) (e.fieldN 11 1) true (Config.deflate fmt (e.fieldN 11 1) true [] l) [] l
            body.length ≤ l.length + 5 * max 1 ((l.length + 65534) / 65535) + 1 ∧ puts (czHead fmt (e.fieldN 11 1) ++ body ++ czTail fmt l) l.length)) ∧
        (e.opcode = 2 → e.fieldN 8 2 = 65535 →
          let p := State.czRead (size + 1) t e (e.word 16) size
          let d := czDecode fmt room p.1
          (d.1 = .bad → fails 0x04B0) ∧ (d.1 = .check → fails 0x0403) ∧ (d.1 = .full → fails 0x03B0) ∧ (d.1 = .more → fails (p.2.getD 0x04B0)) ∧
          (d.1 = .ok → puts d.2.1 d.2.2)) ∧
        (e.opcode = 1 → e.fieldN 8 2 ≠ 65535 → (∃ st, fails st) ∨ ∃ (w : State) (l : List Byte) (res : W64), u = w.complete e 0 res ∧
          (w.cz (e.fieldN 8 2)).src = (if e.czLast then [] else (if e.czFirst then [] else (s.cz (e.fieldN 8 2)).src) ++ [l]) ∧
          ((w.cz (e.fieldN 8 2)).started = ((s.cz (e.fieldN 8 2)).started || e.czFirst))))

/-- The memory controllers (R387–R399). -/
def Obligations.MemoryControllersMergeScrubAndRecentre : Prop :=
  ∀ (k : Fin 13) (m : Fin 12) (lanes : List LaneRep) (s : State),
    let n := k.val
    let o := m.val
    let stat := s.reg Reg.mcScrStat
    let ended (u : State) (st : Nat) : Prop := fld (u.reg Reg.mcScrStat) 0 1 = 0 ∧ fld (u.reg Reg.mcScrStat) 1 1 = 1 ∧
      fld (u.reg Reg.mcScrStat) 2 1 = fld stat 2 1 ∧ fld (u.reg Reg.mcScrStat) 16 16 = st ∧ 36 ∈ u.orr.raised ∧ u.mem = s.mem ∧ u.merge = s.merge ∧ u.ecc = s.ecc
    let base := fld (s.reg Reg.mcScrBase) 6 42 * 64
    let len := fld (s.reg Reg.mcScrLen) 6 42 * 64
    let busy := fld stat 0 1 = 1
    (∃ u, exec (.mergeDrainTimeout k) s = .next u ∧ (∀ a, u.peek a = s.peek a) ∧
      ((∀ cw, cwBase cw = cw → s.ctlOf cw = n → (s.mergeAt cw).valid = false) → u = s) ∧
      ∀ cw, cwBase cw = cw → s.ctlOf cw = n → (s.mergeAt cw).valid = true →
        (∀ e ∈ s.merge, cwBase e.1 = e.1 → s.ctlOf e.1 = n → e.1 = cw ∨ (s.mergeAt cw).age < e.2.age) →
        let full := ∀ i, i < cwSize cw → (s.mergeAt cw).mask.getLsbD i = true
        let lost := s.eccAt cw = .ue ∨ s.eccAt cw = .poison
        u.mergeAt cw = {} ∧ (∀ c, c ≠ cw → u.mergeAt c = s.mergeAt c ∧ u.eccAt c = s.eccAt c) ∧
        (full → u.eccAt cw = .good ∧ u.csr = s.csr ∧ u.orr = s.orr) ∧
        (¬full → ¬lost → u.eccAt cw = .good) ∧ (¬full → lost → u.eccAt cw = .poison) ∧
        (¬full → n < 12 → u.reg (Reg.mcRmwCnt n) = s.reg (Reg.mcRmwCnt n) + 1 ∧
          (s.eccAt cw = .good → u.reg (Reg.mcCeCnt n) = s.reg (Reg.mcCeCnt n) ∧ u.reg (Reg.mcUeCnt n) = s.reg (Reg.mcUeCnt n) ∧ u.orr = s.orr) ∧
          (∀ y, s.eccAt cw = .ce y → u.reg (Reg.mcCeCnt n) = s.reg (Reg.mcCeCnt n) + 1 ∧ u.reg (Reg.mcCeAddr n) = BitVec.ofNat 64 cw) ∧
          (lost → u.reg (Reg.mcUeCnt n) = s.reg (Reg.mcUeCnt n) + 1 ∧ u.reg (Reg.mcErrAddr n) = BitVec.ofNat 64 cw ∧ fld (u.reg (Reg.mcErrInfo n)) 0 2 = 1 ∧
            u.regBit (Reg.mcStat n) 4 = true ∧ u.regBit (Reg.mcStat n) 5 = true ∧
            (s.regBit (Reg.mcEvt n) 0 = true ∨ s.regBit (Reg.mcEvt n) 1 = true → 24 + n ∈ u.orr.raised)))) ∧
    (∃ u, exec (.requestPromote m) s = .next u ∧ (fld (s.reg (Reg.mcAge o)) 0 16 = 0 → u = s) ∧
      (fld (s.reg (Reg.mcAge o)) 0 16 ≠ 0 → u = s.setReg (Reg.mcPromoteCnt o) (s.reg (Reg.mcPromoteCnt o) + 1))) ∧
    exec (.memoryRefresh m) s = .next s ∧
    (∃ u, exec .scrubGo s = .next u ∧ (busy → u = s.setRegBit Reg.mcScrStat 2 true) ∧
      (¬busy → let inside := len ≠ 0 ∧ ∃ r : Region, r.isMem = true ∧ s.region base = some r ∧ s.region (base + len - 1) = some r
        u.reg Reg.mcScrWords = 0 ∧ u.reg Reg.mcScrCe = 0 ∧ u.reg Reg.mcScrUe = 0 ∧ u.reg Reg.mcScrUeFirst = 0 ∧ u.reg Reg.mcScrUeLast = 0 ∧
        (inside → fld (u.reg Reg.mcScrStat) 0 2 = 1 ∧ fld (u.reg Reg.mcScrStat) 2 1 = fld stat 2 1 ∧ u.ctl = { s.ctl with scrub := false, scrubAt := base } ∧
          u.orr = s.orr ∧ u.mem = s.mem) ∧
        (¬inside → ended u 0x0401))) ∧
    (∃ u, exec .scrubWord s = .next u ∧ (∀ a, u.peek a = s.peek a) ∧
      let cw := s.ctl.scrubAt
      let c := s.ctlOf cw
      let go := busy ∧ s.ctl.scrub = false ∧ cw < base + len
      (¬go → u = s) ∧
      (go → cwBase cw = cw → (∀ g, g / 64 = cw / 64 → (s.mergeAt g).valid = false) →
        u.ctl = { s.ctl with scrubAt := cw + cwSize cw } ∧ u.reg Reg.mcScrWords = s.reg Reg.mcScrWords + 1 ∧
        (s.eccAt cw = .good → u.reg Reg.mcScrCe = s.reg Reg.mcScrCe ∧ u.reg Reg.mcScrUe = s.reg Reg.mcScrUe ∧ u.merge = s.merge ∧ u.ecc = s.ecc) ∧
        (∀ y, s.eccAt cw = .ce y → u.reg Reg.mcScrCe = s.reg Reg.mcScrCe + 1 ∧ u.reg Reg.mcScrUe = s.reg Reg.mcScrUe ∧
          (u.mergeAt cw).valid = true ∧ (u.mergeAt cw).mask = 0 ∧ (c < 12 → u.reg (Reg.mcCeCnt c) = s.reg (Reg.mcCeCnt c) + 1 ∨ 64 ≤ (s.mergeList c).length)) ∧
        (s.eccAt cw = .ue ∨ s.eccAt cw = .poison → u.reg Reg.mcScrUe = s.reg Reg.mcScrUe + 1 ∧ u.reg Reg.mcScrUeLast = BitVec.ofNat 64 cw ∧
          u.reg Reg.mcScrUeFirst = (if s.reg Reg.mcScrUe = 0 then BitVec.ofNat 64 cw else s.reg Reg.mcScrUeFirst) ∧ u.ecc = s.ecc ∧ u.merge = s.merge ∧
          (c < 12 → u.reg (Reg.mcUeCnt c) = s.reg (Reg.mcUeCnt c) + 1 ∧ fld (u.reg (Reg.mcErrInfo c)) 0 2 = 2 ∧ u.regBit (Reg.mcStat c) 4 = true)))) ∧
    (∃ u, exec .scrubAbort s = .next u ∧ (¬busy → u = s) ∧ (busy → u = { s with ctl := { s.ctl with scrub := true } })) ∧
    (∃ u, exec .scrubEnd s = .next u ∧ (¬busy → u = s) ∧ (busy → base + len ≤ s.ctl.scrubAt → ended u 0) ∧
      (busy → s.ctl.scrubAt < base + len → (s.ctl.scrub = true → ended u 0x02C0) ∧ (s.ctl.scrub = false → u = s))) ∧
    (∃ u, exec (.recenter m) s = .next u ∧ (s.mode ≠ modeQuiesce → u = s.setRegBit (Reg.mcStat o) 8 true) ∧
      (s.mode = modeQuiesce → u.regBit (Reg.mcStat o) 7 = true ∧ u.regBit (Reg.mcStat o) 8 = s.regBit (Reg.mcStat o) 8 ∧ u.mem = s.mem)) ∧
    (∃ u, exec (.recenterEnd m lanes) s = .next u ∧ (s.regBit (Reg.mcStat o) 7 = false → u = s) ∧
      (s.regBit (Reg.mcStat o) 7 = true → lanes.length = (if o < 8 then 10 else 160) →
        let min := fld (s.reg (Reg.mcTrainCtl o)) 8 7
        let wide (l r : BitVec 7) : Prop := l.toNat ≤ r.toNat ∧ min ≤ r.toNat - l.toNat + 1 ∨ min = 0
        let passes (r : LaneRep) : Prop := wide r.rdL r.rdR ∧ wide r.wrL r.wrR
        u.mem = s.mem ∧ u.regBit (Reg.mcStat o) 7 = false ∧ (s.regBit (Reg.mcEvt o) 3 = true → 24 + o ∈ u.orr.raised) ∧
        (s.regBit (Reg.mcEvt o) 3 = false → u.orr = s.orr) ∧
        (u.regBit (Reg.mcStat o) 9 = true ↔ s.regBit (Reg.mcStat o) 9 = true ∨ ∃ r ∈ lanes, ¬passes r) ∧
        ∀ l r, lanes[l]? = some r →
          let w := u.reg (Reg.mcTrain o l)
          let v := s.reg (Reg.mcTrain o l)
          fld w 0 7 = r.rdL.toNat ∧ fld w 7 7 = r.rdR.toNat ∧ fld w 22 7 = r.wrL.toNat ∧ fld w 29 7 = r.wrR.toNat ∧
          (passes r → fld w 14 7 = (r.rdL.toNat + r.rdR.toNat) / 2 ∧ fld w 36 7 = (r.wrL.toNat + r.wrR.toNat) / 2 ∧ fld w 21 1 = 1 ∧ fld w 43 1 = 1) ∧
          (¬passes r → fld w 14 7 = fld v 14 7 ∧ fld w 36 7 = fld v 36 7)))

/-- The Ethernet ports and Meridian's discipline (R29–R31, R401–R414). -/
def Obligations.NetworkReceivesSteersLandsAndSends : Prop :=
  ∀ (port : Fin 8) (frame : List (BitVec 8)) (fcs up : Bool) (b : BitVec 8) (v : W64) (rate : BitVec 32) (q : BitVec 16) (s : State),
    let p := port.val
    let cnt (u : State) (k : Nat) : W64 := u.reg (Reg.netCnt p k)
    let plus (k : Nat) (x : W64) (t : State) : State := t.setReg (Reg.netCnt p k) (cnt t k + x)
    let calm : Prop := ∀ c, s.eccAt c = .good
    let disc := s.regBit Reg.merCtl 0 = true
    let past (x : W64) := 2 ^ 64 ≤ s.mer.ns.toNat + x.toNat
    let stepped (x : W64) (u : State) : Prop := (past x → u = (s.setRegBit Reg.merStat 0 true).raise 45) ∧
      (¬past x → u = { s.fresh.2 with mer := u.mer } ∧ u.mer.ns = s.mer.ns + x ∧ ∀ k, k < 20 → u.merAt k = s.merAt k ∨ u.merAt k = s.merAt k + x)
    let near (t : State) (st : W64) : Prop := ∃ d : Int, -4 ≤ d ∧ d ≤ 4 ∧ st = BitVec.ofInt 64 (max 0 (((t.merAt islNet).toNat : Int) + d))
    (∃ u, exec (.frameReceive port frame fcs) s = .next u ∧
      let there := s.portUp p = true ∧ 60 ≤ frame.length ∧ frame.length ≤ 9216
      let x := parseFrame frame
      let key := x.key p
      let t := plus 1 (BitVec.ofNat 64 (frame.length + 4)) (plus 0 1 s)
      let tagged := beFld frame 12 2 = 0x8100
      let etype := if tagged then beFld frame 16 2 else beFld frame 12 2
      let pause := beFld frame 12 2 = 0x8808 ∧ beFld frame 14 2 = 1
      let tooMuch := 2 ^ 20 < ((s.rxq p).map fun f => f.data.length).sum + frame.length
      let steers := (s.spyTable 1023).exists_ = true ∧ s.regBit Reg.spyCtl 0 = true
      (¬there → u = s) ∧ (there → fcs = false → u = plus 2 1 s) ∧ (there → fcs = true → pause → u = t) ∧
      (there → fcs = true → ¬pause → tooMuch → u = plus 3 1 t) ∧ (there → fcs = true → ¬pause → ¬tooMuch → ¬steers → u = plus 4 1 t) ∧
      (there → fcs = true → ¬pause → ¬tooMuch → steers → u.csr = t.csr ∧ u.mem = s.mem ∧ u.queues = s.queues ∧ u.net.nextId = s.net.nextId + 1 ∧
        (∃ st, near s st ∧ u.rxq p = s.rxq p ++ [{ id := s.net.nextId, data := frame, stamp := st, key := key, l3 := x.l3, l4 := x.l4 }]) ∧
        (∃ r : SpyReq, u.spy.port = s.spy.port ++ [r] ∧ r.table = 1023 ∧ r.bid = 0 ∧ r.wide = false ∧ r.key = key.setWidth 288 ∧ r.who = .net p s.net.nextId 1) ∧
        fld key 0 3 = p ∧ (fld key 3 1 = 1 ↔ tagged) ∧ fld key 16 16 = etype ∧ (tagged → fld key 4 12 = beFld frame 14 2 % 4096) ∧ fld key 142 2 = 0)) ∧
    (∃ u, exec (.frameLanding port) s = .next u ∧ (s.rxq p = [] → u = s) ∧
      ∀ f r, s.rxq p = f :: r → (f.res = none → u = s) ∧ ∀ res pass, f.res = some (res, pass) →
        let t := s.setRxq p r
        let i := fld res 0 8
        let cfg := s.reg (Reg.netRxbCfg i)
        let q := s.rxbQid i
        let x := s.queue q
        let l := s.reg (Reg.netRxbLanded i)
        let gone := fld cfg 0 1 = 0 ∨ x.exists_ = false
        let halted := (s.booth x.bid).st = .halted
        let long := 2 ^ fld cfg 5 4 < f.data.length
        let full := 2 ^ x.sqLog < (x.sqTail - x.sqHead).toNat + 5 ∨ 2 ^ fld cfg 1 4 ≤ (l.setWidth 32 - x.cqTail).toNat
        let buf := (s.reg (Reg.netRxbBuf i)).toNat + l.toNat % 2 ^ fld cfg 1 4 * 2 ^ fld cfg 5 4
        let ring := x.sqBase.toNat
        let y := landEntry s p i f res pass buf
        let drop := fld res 8 1 = 1
        (drop → u = plus 5 1 t) ∧ (¬drop → gone → u = plus 6 1 t) ∧ (¬drop → ¬gone → halted → u = plus 7 1 t) ∧ (¬drop → ¬gone → ¬halted → long → u = plus 8 1 t) ∧
        (¬drop → ¬gone → ¬halted → ¬long → full → u = plus 9 1 t) ∧
        y.length = 80 ∧ y.take 4 = [1, 4, 0, 0] ∧ recFld y 4 4 = fld res 32 32 ∧ recFld y 16 8 = (s.reg (Reg.netRxbPc i)).toNat ∧ recFld y 48 8 = f.stamp.toNat ∧ recFld y 64 8 = l.toNat ∧
        (¬drop → ¬gone → ¬halted → ¬long → ¬full → calm → x.bid = 0 → x.prod ≠ 2 → buf + f.data.length ≤ hbmEnd → ring % 16 = 0 → ring + 16 * 2 ^ x.sqLog ≤ hbmEnd →
          (buf + f.data.length ≤ ring ∨ ring + 16 * 2 ^ x.sqLog ≤ buf) →
          u.rxq p = r ∧ u.queue q = { x with sqTail := x.sqTail + 5 } ∧ u.reg (Reg.netRxbLanded i) = l + 1 ∧ recFld y 32 8 = buf ∧
          (∀ k, k < f.data.length → u.peek (buf + k) = f.data.getD k 0) ∧
          ∀ k, k < 80 → u.peek (ring + 16 * ((x.sqTail + BitVec.ofNat 32 (k / 16)).toNat % 2 ^ x.sqLog) + k % 16) = y.getD k 0)) ∧
    (∃ u, exec (.rxbCfgWrite b v) s = .next u ∧
      let a := Reg.netRxbCfg b.toNat
      let x := s.queue (v.extractLsb' 16 16)
      let pc := (s.reg (Reg.netRxbPc b.toNat)).toNat
      let fit := x.exists_ = true ∧ x.cls = 1 ∧ x.prod = 1 ∧ pc % 4 = 0 ∧ pc < 2 ^ 48 ∧ (fld v 32 8 < 16 ∨ fld v 32 8 = 255) ∧ 11 ≤ fld v 5 4 ∧ fld v 5 4 ≤ 14
      let on := s.regBit a 0 = true
      (on → u = s.setRegBit a 0 (bitAt v 0)) ∧ (¬on → bitAt v 0 = true → ¬fit → u.regBit a 0 = false ∧ u.regBit Reg.netStat 0 = true) ∧
      (¬on → bitAt v 0 = true → fit → u.reg a = v &&& 0xFFFFFFFFFFFF01FF ∧ u.reg Reg.netStat = s.reg Reg.netStat) ∧
      (¬on → fld (u.reg a) 1 8 = fld v 1 8 ∧ fld (u.reg a) 16 48 = fld v 16 48)) ∧
    ((∀ e t, ¬s.dispatches 7 1 q always e t) → exec (.send q) s = .next s) ∧
    (∀ e t, s.dispatches 7 1 q always e t → ∃ u, exec (.send q) s = .next u ∧
      let p := e.fieldN 8 1
      let n := e.fieldN 24 4
      let bad := t.ports ≤ p ∨ n < 14 ∨ 9216 < n ∨ n < e.fieldN 10 2 ∨ n < e.fieldN 12 2
      let down := t.regBit Reg.netCtl (2 + p) = false
      (bad → t.refuses u e 0x0401) ∧ (¬bad → down → t.refuses u e 0x02D0) ∧
      (¬bad → ¬down → ∀ a r l, t.dmaRead e.bid (e.word 16) n (t.queue e.q).prio = (a, r, l) → (∀ st, r = some st → u = a.complete e st) ∧
        (r = none → ∃ (d : List Byte) (st : W64), near a st ∧ u = a.fresh.2.setTxq p (a.txq p ++ [{ item := e, data := d, ts := decide (e.fieldN 9 1 / 4 % 2 = 1), stamp := st }]) ∧
          d = e.txFrame l ∧
          (e.fieldN 9 1 % 4 = 0 → d = l ++ List.replicate (60 - l.length) 0)))) ∧
    (∃ u, exec (.frameTransmitDone port) s = .next u ∧ (s.txq p = [] → u = s) ∧ ∀ f r, s.txq p = f :: r →
      ∃ (w : State) (st : W64), near s st ∧ u = w.complete f.item 0 (if f.ts then f.stamp else 0) ∧ cnt w 11 = cnt s 11 + 1 ∧ (w.txq p).length = r.length ∧
        ∀ k g, r[k]? = some g → (w.txq p)[k]? = some (if k = 0 then { g with stamp := st } else g)) ∧
    (∃ u, exec (.linkChange port up) s = .next u ∧
      let same := s.ports ≤ p ∨ s.regBit Reg.netCtl (2 + p) = up ∨ s.mode = modeHoldup
      (same → u = s) ∧ (¬same → u.regBit Reg.netCtl (2 + p) = up ∧ u.regBit Reg.netStat 2 = true ∧ 80 ∈ u.orr.raised ∧ u.net = s.net ∧ u.mem = s.mem)) ∧
    (∃ u, exec (.ptpSample v) s = .next u ∧
      let w := s.reg Reg.netPtpServo
      let step := (fld w 0 16 : Int)
      let sum := s.net.sum + v.toInt
      let r := (fld w 32 16 : Int) * v.toInt + (fld w 16 16 : Int) * sum
      let trim (u : State) : Int := ((u.reg Reg.merRate).setWidth 32).toInt
      (¬disc → u = s) ∧ (disc → step < v.toInt → stepped v u) ∧ (disc → v.toInt < -step → trim u = -2147484 ∧ u.mer = s.mer ∧ u.net = s.net) ∧
      (disc → v.toInt ≤ step → -step ≤ v.toInt → u.net.sum = sum ∧ u.mer = s.mer ∧ trim u = max (-2147484) (min 2147484 r) ∧
        (2147484 < r ∨ r < -2147484 → u.regBit Reg.merStat 1 = true ∧ 45 ∈ u.orr.raised))) ∧
    (∃ u, exec (.merStepWrite v) s = .next u ∧ (disc → u = s) ∧ (¬disc → stepped v u)) ∧
    (∃ u, exec (.merRateWrite rate) s = .next u ∧ (disc → u = s) ∧ (¬disc → u.reg Reg.merRate = rate.setWidth 64 ∧ u.mer = s.mer ∧
      (2147484 < rate.toInt ∨ rate.toInt < -2147484 → u.regBit Reg.merStat 1 = true ∧ 45 ∈ u.orr.raised) ∧
      (rate.toInt ≤ 2147484 → -2147484 ≤ rate.toInt → u.reg Reg.merStat = s.reg Reg.merStat)))

/-- Stagehand and mode epochs (R417–R428); the order of a report's parts is the model's choice (notes/assumptions/46.md). -/
def Obligations.StagehandServesAndModeEpochsApplyOrRevert : Prop :=
  ∀ (v : W64) (words : List W64) (nonce : BitVec 256) (image : List Byte) (good : Bool) (m : BitVec 3) (k : Fin 17) (s : State),
    let on := s.stgOn = true
    let md (u : State) : W64 := u.reg Reg.devMode
    let ms (u : State) : W64 := u.reg Reg.devModeStat
    let meas (u : State) (i : Nat) : BitVec 384 := Tab.get 0 u.stg.meas i
    let busy := fld (md s) 6 1 = 1
    let ro := s.regBit Reg.almStat 4 = true
    let locked := s.regBit Reg.devInitStat 4 = true
    let asked (src : Nat) (u : State) : Prop :=
      let n := m.toNat
      let known := 1 ≤ n ∧ n ≤ 4
      let may := (s.mode = 1 ∧ (n = 2 ∨ n = 3 ∨ n = 4)) ∨ (s.mode = 2 ∧ n = 1) ∨ (s.mode = 3 ∧ ((n = 1 ∧ ¬locked) ∨ n = 4)) ∨
        (s.mode = 4 ∧ ((n = 1 ∧ ¬ro) ∨ n = 2 ∨ n = 3))
      let result (st : Nat) : Prop := fld (ms u) 0 16 = st
      let force : Prop := (n = 4 → fld (ms u) 17 1 = 1 ∧ fld (md u) 7 1 = 1) ∧ (n = 1 → fld (ms u) 17 1 = 0 ∧ (fld (md u) 7 1 = 1 ↔ ro))
      fld (ms u) 18 1 = src ∧ u.mode = s.mode ∧
      (¬known → result 0x0401 ∧ md u = md s) ∧ (known → busy → result 0x02E0 ∧ md u = md s) ∧
      (known → ¬busy → n = s.mode → result 0 ∧ force ∧ fld (md u) 6 1 = 0 ∧ fld (md u) 16 16 = fld (md s) 16 16) ∧
      (known → ¬busy → n ≠ s.mode → ¬may → result 0x0203 ∧ md u = md s) ∧
      (known → ¬busy → n ≠ s.mode → may → force ∧ fld (md u) 6 1 = 1 ∧ fld (md u) 32 17 = 0 ∧ fld (md u) 16 16 = (fld (md s) 16 16 + 1) % 65536 ∧
        u.ctl.epochAt = s.mer.ns ∧ (ro → n = 1 → fld (md u) 3 3 = 4) ∧ (¬(ro ∧ n = 1) → fld (md u) 3 3 = n))
    (∃ u, exec (.mboxSend v) s = .next u ∧ u.reg (Reg.stgMboxIn 7) = v ∧ u.regBit Reg.stgStat 3 = true ∧ u.stg = s.stg ∧ u.mem = s.mem) ∧
    (∃ u, exec (.mboxPost words) s = .next u ∧ (¬on → u = s) ∧
      (on → u.regBit Reg.stgStat 2 = true ∧ u.regBit Reg.stgStat 3 = false ∧ 82 ∈ u.orr.raised ∧ (∀ i, i < 4 → meas u i = meas s i) ∧
        (s.regBit Reg.stgStat 3 = false → u.stg = s.stg) ∧ ∀ i w, i < 8 → words[i]? = some w → u.reg (Reg.stgMboxOut i) = w)) ∧
    (∃ u, exec (.attestationRequest nonce) s = .next u ∧ (¬on → u = s) ∧
      (on → let r := u.stg.report
        u = { s with free := s.free + 1, stg := { s.stg with report := r } } ∧ r.length = 545 ∧ r.take 32 = leBytes 32 nonce.toNat ∧
        recFld r 32 8 = (s.reg Reg.devSerial).toNat ∧ (∀ i, i < 8 → recFld r (40 + 48 * i) 48 = (meas s i).toNat) ∧ recFld r 424 8 = s.stg.verA.toNat ∧
        recFld r 432 8 = s.stg.verB.toNat ∧ recFld r 440 1 = s.mode ∧ recFld r 441 8 = (s.merAt islStg).toNat)) ∧
    (∃ u, exec .telemetrySample s = .next u ∧ (¬on → u = s) ∧ (on → u = { s with stg := { s.stg with telem := u.stg.telem } } ∧
      ∀ i, i < 9 → u.stg.telem[i]? = some (s.reg (Reg.devTemp i)).toNat)) ∧
    (∃ u, exec (.firmwareUpdate v image good) s = .next u ∧ (¬on → u = s) ∧
      (on → u = { s with stg := u.stg } ∧ u.stg.verified = good ∧ u.stg.active = s.stg.active ∧ u.stg.answer = (if good then 0 else 0x04E0) ∧ u.stg.meas = s.stg.meas ∧
        (s.stg.active = true → u.stg.verA = v ∧ u.stg.imgA = image ∧ u.stg.validA = good ∧ u.stg.verB = s.stg.verB ∧ u.stg.imgB = s.stg.imgB ∧ u.stg.validB = s.stg.validB) ∧
        (s.stg.active = false → u.stg.verB = v ∧ u.stg.imgB = image ∧ u.stg.validB = good ∧ u.stg.verA = s.stg.verA ∧ u.stg.imgA = s.stg.imgA ∧ u.stg.validA = s.stg.validA))) ∧
    (∃ u, exec .firmwareCommit s = .next u ∧ (¬on → u = s) ∧ (on → s.mode ≠ modeQuiesce → u = { s with stg := { s.stg with answer := 0x0203 } }) ∧
      (on → s.mode = modeQuiesce → (s.stg.verified = true → ∃ p, u = { s.fresh.2 with stg := { s.stg with commit := true, answer := 0 }, ctl := { s.ctl with porAt := p } } ∧
        (p = s.ctl.porAt ∨ (s.ctl.porAt = none ∧ p = some s.mer.ns))) ∧
        (s.stg.verified = false → u = { s with stg := { s.stg with answer := 0x04E0 } }))) ∧
    (∃ u, exec (.modeRequest m) s = .next u ∧ asked 0 u ∧ u.mem = s.mem ∧ u.stg = s.stg) ∧
    (∃ u, exec (.stagehandModeRequest m) s = .next u ∧ (¬on → u = s) ∧ (on → asked 1 u ∧ u.regBit Reg.stgStat 2 = true ∧ 82 ∈ u.orr.raised)) ∧
    (∃ u, exec (.unitApply k) s = .next u ∧
      let t := fld (md s) 3 3
      let bit := 2 ^ k.val
      let one := ∀ e, e < 16 → (s.engineBids (16 * k.val + e)).length ≤ 1
      let able := (k.val < 8 → t = modeSealed → s.sclkIn = sclkNominal ∧ one) ∧ (k.val = 11 → t = modeSealed → s.mer.qclk % 200 = 0) ∧ (k.val = 12 → t = modeReadonly → fld (md s) 7 1 = 1)
      let go := busy ∧ fld (md s) (32 + k.val) 1 = 0 ∧ able
      let last := fld (md s) 32 17 + bit = 2 ^ 17 - 1
      (¬go → u = s) ∧ (∀ a, u.peek a = s.peek a) ∧
      (go → ¬last → fld (md u) 32 17 = fld (md s) 32 17 + bit ∧ fld (md u) 6 1 = 1 ∧ u.mode = s.mode ∧ fld (md u) 3 3 = t ∧ fld (md u) 16 16 = fld (md s) 16 16 ∧ ms u = ms s) ∧
      (go → last → s.ctl.almReq = false → u.mode = t ∧ fld (md u) 6 1 = 0 ∧ fld (md u) 16 16 = fld (md s) 16 16 ∧ fld (ms u) 0 16 = 0 ∧ 42 ∈ u.orr.raised ∧
        u.ctl.rwl = (if t = modeSealed then true else s.ctl.rwl)) ∧
      (go → k.val < 8 → t = modeSealed → ∀ e, e < 16 → let x := u.exe (16 * k.val + e)
        x.l1i = [] ∧ x.l1d = [] ∧ x.side = [] ∧ ∀ c p, c < 16 → (u.ctx ((16 * k.val + e) * 16 + c)).epi = some p → p.ended = true) ∧
      (go → k.val = 13 → t = modeQuiesce → ∀ cw, cwBase cw = cw → s.ctlOf cw < 13 → (u.mergeAt cw).valid = false)) ∧
    (∃ u, exec .epochTimeout s = .next u ∧
      let due := busy ∧ 1000000 ≤ (s.mer.ns - s.ctl.epochAt).toNat
      (¬due → u = s) ∧ (due → s.ctl.almReq = false → u.mode = s.mode ∧ fld (md u) 6 1 = 0 ∧ fld (md u) 16 16 = (fld (md s) 16 16 + 1) % 65536 ∧
        fld (ms u) 0 16 = 0x02E1 ∧ fld (ms u) 16 1 = 1 ∧ fld (ms u) 32 17 = 2 ^ 17 - 1 - fld (md s) 32 17 ∧ 42 ∈ u.orr.raised ∧ u.ctl.rwl = s.ctl.rwl ∧ u.mem = s.mem))

/-- Reset and INIT (R430–R437). -/
def Obligations.ResetAndInitRunTheirStepsInOrder : Prop :=
  ∀ (high okA okB pass okM okK : Bool) (v : BitVec 32) (rep : TrainRep) (mImg kImg body : List Byte) (s : State),
    let calm : Prop := ∀ c, s.eccAt c = .good
    let mram (a : Nat) : Prop := mramBase ≤ a ∧ a < mramBase + 0x10000000
    let bit (u : State) (k : Nat) : Prop := fld (u.reg Reg.devInitStat) k 1 = 1
    let meas (u : State) (i : Nat) : BitVec 384 := Tab.get 0 u.stg.meas i
    let extended (u : State) (i : Nat) (l : List Byte) : Prop := meas u i = BitVec.ofNat 384 (leVal (sha384 (leBytes 48 (meas s i).toNat ++ sha384 l)))
    let ready (k : Nat) (deps : List Nat) : Prop := s.pins.porN = true ∧ s.mode = modeInit ∧ s.ctl.failed = false ∧ k ∉ s.ctl.steps ∧ ∀ d ∈ deps, d ∈ s.ctl.steps
    let ran (u : State) (k : Nat) : Prop := u.ctl.steps = s.ctl.steps ++ [k]
    let pers := s.pers.getD []
    let word (k : Nat) : W64 := BitVec.ofNat 64 (recFld pers k 8)
    let isPor (u : State) : Prop := u.csr = [] ∧ u.merge = [] ∧ u.ctxs = [] ∧ u.queues = State.reset.queues ∧ u.booths = State.reset.booths ∧ u.jobs = [] ∧ u.flows = [] ∧
      u.host = [] ∧ u.movers = [] ∧ u.mer = {} ∧ u.ctl.steps = [] ∧ u.alm.nand = s.alm.nand ∧ u.alm.ns = [] ∧ u.pins.thermN = true ∧ u.pins.holdupDone = false ∧
      (∀ a, mram a → Tab.get 0 u.mem a = Tab.get 0 s.mem a) ∧ (∀ a, ¬mram a → u.peek a = 0) ∧ u.stg.imgA = s.stg.imgA ∧ u.stg.imgB = s.stg.imgB ∧
      u.stg.verA = s.stg.verA ∧ u.stg.verB = s.stg.verB ∧ (s.stg.commit = false → u.stg.active = s.stg.active) ∧ (s.stg.commit = true → u.stg.active = !s.stg.active)
    (∃ u, exec (.porN high) s = .next u ∧
      let held := s.mode = modeHoldup ∧ s.regBit Reg.huStat 5 = false
      (high = false → u.pins.porN = false ∧ (held → u = { s with pins := { s.pins with porN := false } }) ∧ (¬held → isPor u)) ∧
      (high = true → s.pins.porN = true → u = s) ∧ (high = true → s.pins.porN = false → s.mode = modeHoldup → u = { s with pins := { s.pins with porN := true } }) ∧
      (high = true → s.pins.porN = false → s.mode ≠ modeHoldup → u.pins.porN = true ∧ u.mer = {} ∧ u.mem = s.mem ∧ (s.pins.pfN = true → u.ctl = s.ctl) ∧
        (s.pins.pfN = false → u.ctl.failed = true ∧ u.ctxs = []))) ∧
    (∃ u, exec (.devRstWrite v) s = .next u ∧
      let key := fld v 0 1 = 1 ∧ fld v 8 8 = 0xA5 ∧ s.ctl.porAt = none
      (¬key → u = s) ∧ (key → u = { s with ctl := { s.ctl with porAt := some (s.mer.ns + 1000) } })) ∧
    (∃ u, exec .pllLock s = .next u ∧ (¬ready 1 [] → u = s) ∧
      (ready 1 [] → ran u 1 ∧ fld (u.reg Reg.devClkStat) 0 20 = 2 ^ 20 - 1 ∧ u.reg Reg.devSerial ≠ 0 ∧ fld (u.reg Reg.devPwrCtl) 1 10 = tdp ∧ u.sclkIn = sclkNominal ∧ u.mem = s.mem)) ∧
    (∃ u, exec (.stagehandBoot okA okB) s = .next u ∧
      let a := okA = true ∧ s.stg.validA = true
      let b := okB = true ∧ s.stg.validB = true
      let first := (s.stg.active = true ∧ b) ∨ (s.stg.active = false ∧ a)
      let inB := (s.stg.active = true ∧ b) ∨ (s.stg.active = false ∧ ¬a)
      (¬ready 2 [1] → u = s) ∧ (¬a → ¬b → u = s) ∧
      (ready 2 [1] → a ∨ b → ran u 2 ∧ (first → u.csr = s.csr) ∧ (¬first → fld (u.reg Reg.stgStat) 0 1 = 1) ∧ (inB → extended u 0 s.stg.imgB) ∧ (¬inB → extended u 0 s.stg.imgA))) ∧
    (∃ u, exec .recordRead s = .next u ∧
      let go := ready 6 [1] ∧ ¬bit s 3
      let t := (s.recTouch rootAddr).recTouch persAddr
      let root := t.recRead rootMagic rootAddr
      (¬go → u = s) ∧ (go → (∀ a, u.peek a = s.peek a) ∧ (bit u 5 ↔ t.recWinner rootMagic rootAddr = some true) ∧ (root = none → bit u 2 ∧ 42 ∈ u.orr.raised) ∧
        (∀ l, root = some l → u.reg Reg.huC = BitVec.ofNat 64 (recFld l 56 8) ∧ (u.regBit Reg.huStat 2 = true ↔ recFld l 56 4 ≠ 0) ∧
          fld (u.reg Reg.huLastHold) 0 32 = recFld l 72 4 ∧ fld (u.reg Reg.huLastHold) 32 3 = recFld l 76 1 % 8 ∧ (recFld l 48 1 % 2 = 0 → bit u 2 ∧ 42 ∈ u.orr.raised)) ∧
        (t.pers = none → bit u 3 ∧ 42 ∈ u.orr.raised ∧ u.ctl.steps = s.ctl.steps) ∧
        (∀ l, t.pers = some l → ran u 6 ∧ (bit u 6 ↔ t.recWinner persMagic persAddr = some true) ∧ (bit u 3 ↔ bit s 3) ∧ u.reg Reg.huCfg1 = BitVec.ofNat 64 (recFld l 56 8) ∧ fld (u.reg Reg.huCfg0) 0 50 = recFld l 48 8 % 2 ^ 50))) ∧
    (∃ u, exec (.sramInit pass) s = .next u ∧ (¬ready 3 [1, 6] → u = s) ∧
      (ready 3 [1, 6] → ran u 3 ∧ u.l2 = [] ∧ u.execs = [] ∧ u.ctl.sliceEn = BitVec.ofNat 8 (recFld pers 16 1) &&& Config.slices ∧ (pass = true → u.reg Reg.devInitStat = s.reg Reg.devInitStat) ∧
        (pass = false → bit u 1 ∧ 42 ∈ u.orr.raised ∧ (¬bit s 1 → fld (u.reg Reg.devInitStat) 8 8 = 1)))) ∧
    (∃ u, exec (.memoryTraining rep) s = .next u ∧ (¬ready 4 [1, 6] → u = s) ∧
      (ready 4 [1, 6] →
        let n := s.ddrSet rep.ctls
        let bad := ∃ i, 8 ≤ i ∧ i < 12 ∧ s.ctlTrained i (rep.ctls.getD i ctlNone) = false
        ran u 4 ∧ (n = 0 ∨ n = 1 ∨ n = 2 ∨ n = 4 ∨ n = 8) ∧ fld (u.reg Reg.mcDdrCap) 16 4 = n ∧ fld (u.reg Reg.netCtl) 0 2 = recFld pers 17 1 % 4 ∧ u.stg.basex = decide (recFld pers 18 1 = 1) ∧
        (¬bad → u.reg Reg.devInitStat = s.reg Reg.devInitStat) ∧ (bad → bit u 1 ∧ 42 ∈ u.orr.raised ∧ (¬bit s 1 → fld (u.reg Reg.devInitStat) 8 8 = 2)) ∧
        (∀ i, i < n → fld (u.reg (Reg.mcCfg i)) 2 1 = 1 ∧ s.ctlTrained i (rep.ctls.getD i ctlNone) = true ∧ modSupported (rep.ctls.getD i ctlNone) = true ∧ (rep.ctls.getD i ctlNone).size = (rep.ctls.getD 0 ctlNone).size) ∧
        (∀ i, n ≤ i → i < 8 → fld (u.reg (Reg.mcCfg i)) 2 1 = 0 ∧ (fld (u.reg (Reg.mcStat i)) 3 1 = 1 ↔ (rep.ctls.getD i ctlNone).present = true)))) ∧
    (∃ u, exec .powerOnFill s = .next u ∧ (¬ready 5 [3, 4] → u = s) ∧
      (ready 5 [3, 4] → ran u 5 ∧ (∀ a, ¬mram a → u.peek a = 0 ∧ u.eccAt a = .good) ∧ (∀ a, mram a → u.peek a = s.peek a) ∧ fld (u.reg Reg.spyStat) 0 1 = 1 ∧
        ∀ i, i < 12 → fld (u.reg (Reg.mcStat i)) 2 1 = 1)) ∧
    (∃ u, exec (.imageLoad mImg kImg okM okK) s = .next u ∧ (¬ready 7 [2, 5, 6] → u = s) ∧
      (ready 7 [2, 5, 6] → extended u 1 pers ∧ extended u 2 mImg ∧ extended u 3 kImg ∧
        (okM = false ∨ okK = false → u.ctxs = s.ctxs ∧ u.ctl = s.ctl ∧ u.mem = s.mem ∧ fld (u.reg Reg.stgStat) 1 1 = 1) ∧
        (okM = true → okK = true → ran u 7 ∧ fld (u.reg Reg.stgStat) 1 1 = 0 ∧
          (∀ h, h < 64 → let c := u.ctx (2048 + h)
            c.st = .ready ∧ c.priv = .m ∧ c.r.pc = word 32 &&& 0xFFFFFFFFFFFFFFFC ∧ c.r.npc = c.r.pc + 4) ∧
          (calm → (word 40).toNat + kImg.length ≤ hbmEnd → ∀ i, i < kImg.length → u.peek ((word 40).toNat + i) = kImg.getD i 0)))) ∧
    (∃ u, exec .almanacRecovery s = .next u ∧ (¬ready 8 [5, 6] ∨ s.ctl.recovered = true → u = s) ∧
      (ready 8 [5, 6] → s.ctl.recovered = false → u.ctl.recovered = true ∧
        let ends (r : State) : List Nat := if r.ctl.samples ≠ [] ∧ 8 ∉ r.ctl.steps then r.ctl.steps ++ [8] else r.ctl.steps
        let r := s.almRecover ((s.recRead rootMagic rootAddr).getD [])
        (bit s 2 → u.ctl.steps = ends s ∧ bit u 4 ∧ u.alm = s.alm ∧ u.mem = s.mem) ∧
        (¬bit s 2 → r.2 = false → bit u 4 ∧ bit u 2 ∧ 42 ∈ u.orr.raised ∧ u.alm = r.1.alm ∧ u.ctl.steps = ends r.1) ∧
        (¬bit s 2 → r.2 = true → u.alm = r.1.alm ∧ u.ctl.steps = ends r.1 ∧ u.reg Reg.almStat = r.1.reg Reg.almStat ∧
          (fld (u.reg Reg.devMode) 7 1 = 1 ↔ r.1.regBit Reg.almStat 4 = true ∨ r.1.regBit Reg.devModeStat 17 = true)))) ∧
    (∃ u, exec .initEnd s = .next u ∧
      let go := ready 9 [7, 8] ∧ ¬bit s 1
      (¬go → u = s) ∧ (go → ∃ w : State, u = w.almGo ∧ w.ctl.steps = s.ctl.steps ++ [9] ∧ bit w 0 ∧ 42 ∈ w.orr.raised ∧ w.mem = s.mem ∧ (bit s 4 → w.mode = 3) ∧
        (¬bit s 4 → s.regBit Reg.almStat 4 = true → w.mode = 4) ∧ (¬bit s 4 → s.regBit Reg.almStat 4 = false → w.mode = 1))) ∧
    (∃ u, exec (.personalityRecordReceive body) s = .next u ∧
      let go := s.stgOn = true ∧ s.mode = modeInit ∧ s.ctl.failed = false ∧ bit s 3
      let old := ((s.recTouch persAddr).recRead persMagic persAddr).getD []
      (¬go → u = s) ∧ (go → calm → body.length = 4076 → bankSeq old + 1 < 2 ^ 64 → ∃ l, u.recRead persMagic persAddr = some l ∧ bankSeq l = bankSeq old + 1 ∧
        (l.drop 16).take 4076 = body ∧ u.ctl = s.ctl))

/-- HOLDUP, the hold-up controller, the power limiter, the TAP, plain register writes (R10, R433–R459). -/
def Obligations.HoldUpPowerAndRegisterWrites : Prop :=
  ∀ (i : Fin 20) (sensor : Fin 9) (rail : Fin 14) (n ns w8 permille : Nat) (temps : List Nat) (who : Requester) (addr : BitVec 48) (size : CsrSize) (v : W64) (s : State),
    let calm : Prop := ∀ c, s.eccAt c = .good
    let locked (t : State) : Prop := fld (t.reg Reg.devClkStat) i.val 1 = 1
    let aReady (t : State) : Prop := fld (t.reg Reg.almStat) 0 1 = 1
    let long := 1000000 ≤ (s.mer.ns - Tab.get 0 s.ctl.lostAt i.val).toNat
    let low (t : State) (clk : Option Nat) (u : State) : Prop :=
      let needed := ∃ k, clk = some k ∧ (k = 9 ∨ (11 ≤ k ∧ k ≤ 16))
      let dry := needed ∨ ¬aReady t
      (t.mode = modeHoldup ∨ t.ctl.failed = true → u = t) ∧
      (t.mode ≠ modeHoldup → t.ctl.failed = false → t.mode = modeInit → ¬aReady t → u = { t with ctl := { t.ctl with failed := true }, ctxs := [], jobs := [] }) ∧
      (t.mode ≠ modeHoldup → t.ctl.failed = false → t.mode ≠ modeInit ∨ aReady t → ∃ w : State,
        (dry ∨ fld (t.reg Reg.almStat) 7 1 = 1 → u = w) ∧ (¬dry → fld (t.reg Reg.almStat) 7 1 = 0 → u = w.flush) ∧
        w.mode = modeHoldup ∧ fld (w.reg Reg.devMode) 6 1 = 0 ∧ w.ctxs = [] ∧ w.jobs = [] ∧ w.terms = [] ∧ w.scans = [] ∧ w.parts = [] ∧ w.evals = [] ∧ w.spy.port = [] ∧ w.spy.replies = [] ∧
        w.net.rx = [] ∧ w.net.tx = [] ∧ w.eng.units = [] ∧ (∀ k, k < 256 → (w.mover k).st = 0) ∧ w.alm = t.alm ∧ w.queues = t.queues ∧ (∀ a, w.peek a = t.peek a) ∧
        fld (w.reg Reg.huStat) 0 2 = 0 ∧ w.pins.huTest = false ∧ w.ctl.measuring = false ∧ w.ctl.holdAt = some t.mer.ns ∧ (w.ctl.holdDry = true ↔ dry) ∧ w.ctl.holdClk = clk.isSome)
    let rec' (u : State) (f : List Byte → Prop) : Prop := calm → bankSeq ((s.recRead rootMagic rootAddr).getD []) + 1 < 2 ^ 64 →
      ∃ l, u.recRead rootMagic rootAddr = some l ∧ f l ∧ bankSeq l = bankSeq ((s.recRead rootMagic rootAddr).getD []) + 1
    let limit (u : State) (x : Nat) : Prop := u.reg Reg.almWbLimit = BitVec.ofNat 64 (x * 2 ^ 20) ∧ fld (u.reg Reg.huLimit) 0 10 = x % 1024 ∧ 43 ∈ u.orr.raised
    (∃ u, exec (.pfN n) s = .next u ∧ (n < 50 → u = s) ∧
      (200 ≤ n → s.pins.porN = false → s.mode ≠ modeHoldup → u = { s with pins := { s.pins with pfN := false } }) ∧
      (200 ≤ n → s.pins.porN = true ∨ s.mode = modeHoldup → low s none u) ∧
      (50 ≤ n → n < 200 → s.pins.porN = true → u = { s with free := s.free + 1 } ∨ low { s with free := s.free + 1 } none u)) ∧
    (∃ u, exec (.thermalTrip sensor n) s = .next u ∧
      let k := sensor.val
      let trips := s.pins.porN = true ∧ (if 4 ≤ k ∧ k ≤ 7 then 760 else 840) ≤ n
      (¬trips → u = s) ∧ (trips → low { (s.setReg (Reg.devTemp k) (BitVec.ofNat 64 (min n 4095))).setRegBit Reg.devPwrStat 32 true with pins := { s.pins with thermN := false } } none u)) ∧
    (∃ u, exec (.clockLockLost i) s = .next u ∧ (¬locked s → u = s) ∧
      (locked s → ¬locked u ∧ fld (u.reg Reg.devClkStat) (32 + i.val) 1 = 1 ∧ 44 ∈ u.orr.raised ∧ Tab.get 0 u.ctl.lostAt i.val = s.mer.ns ∧ u.mem = s.mem)) ∧
    (∃ u, exec (.clockRelock i) s = .next u ∧
      let go := ¬locked s ∧ 1 ∈ s.ctl.steps ∧ ¬long
      (¬go → u = s) ∧ (go → locked u ∧ u.reg Reg.devClkStat = s.reg Reg.devClkStat + BitVec.ofNat 64 (2 ^ i.val) ∧ u.mem = s.mem ∧ u.mode = s.mode ∧
        ∀ x, x < 2112 → ((s.ctx x).wait = .clock → u.ctx x = { s.ctx x with st := .ready, wait := .none }) ∧ ((s.ctx x).wait ≠ .clock → u.ctx x = s.ctx x))) ∧
    (∃ u, exec (.clockLostTimeout i) s = .next u ∧
      let due := ¬locked s ∧ 1 ∈ s.ctl.steps ∧ long
      (¬due → u = s) ∧ (due → low s (some i.val) u)) ∧
    (∃ u, exec .holdupDone s = .next u ∧
      let go := s.mode = modeHoldup ∧ fld (s.reg Reg.huStat) 5 1 = 0
      let us := (s.mer.ns - s.ctl.holdAt.getD 0).toNat / 1000
      let b := fld (s.reg Reg.huCfg1) 16 8
      let budget := if b = 0 ∨ 40 < b then 40 else b
      let writes := fld (s.reg Reg.devClkStat) 9 1 = 1 ∧ (s.ctl.holdDry = false ∨ (s.ctl.holdClk = true ∧ aReady s))
      (¬go → u = s) ∧ (go → s.pins.porN = false → u.csr = [] ∧ u.ctl.steps = [] ∧ u.queues = State.reset.queues ∧ u.alm.nand = s.alm.nand) ∧
      (go → s.pins.porN = true → fld (u.reg Reg.huStat) 5 1 = 1 ∧ u.pins.holdupDone = true ∧ u.mode = modeHoldup ∧ (¬writes → u.mem = s.mem) ∧
        (writes → rec' u fun l => recFld l 72 4 = us % 2 ^ 32 ∧ (recFld l 76 1 % 2 = 1 ↔ s.ctl.holdDry = false) ∧ (recFld l 76 1 / 2 % 2 = 1 ↔ 1000 * budget < us) ∧
          (recFld l 76 1 / 4 = 1 ↔ s.ctl.holdClk = true)))) ∧
    (∃ u, exec (.voltageSample n) s = .next u ∧ (s.huOn = false → u = s) ∧
      (s.huOn = true →
        let x := min (n * fld (s.reg Reg.huCfg2) 32 32 / 1000) (2 ^ 20 - 1)
        let vmin := fld (s.reg Reg.huCfg0) 0 20
        let full := fld (s.reg Reg.huCfg0) 20 20
        let y := ((x :: s.ctl.samples).take 10).foldl min x
        let chg := fld (u.reg Reg.huStat) 0 1
        let off := s.ctl.measuring = true ∨ s.mode = modeHoldup
        u.reg Reg.huV = BitVec.ofNat 64 x ∧ (fld (u.reg Reg.huStat) 3 1 = 1 ↔ x ≤ vmin) ∧ u.mem = s.mem ∧
        u.ctl.steps = (if s.ctl.recovered = true ∧ 8 ∉ s.ctl.steps then s.ctl.steps ++ [8] else s.ctl.steps) ∧
        (y ≤ vmin → u.reg Reg.huE = 0) ∧
        (vmin < y → u.reg Reg.huE = BitVec.ofNat 64 (fld (s.reg Reg.huC) 0 32 * (y * y - vmin * vmin) * fld (s.reg Reg.huCfg0) 40 10 / (2 * 10 ^ 12) % 2 ^ 32)) ∧
        (off → chg = 0) ∧ (¬off → 100 * x < 98 * full → chg = 1) ∧ (¬off → 98 * full ≤ 100 * x → full ≤ x → chg = 0) ∧
        (¬off → 98 * full ≤ 100 * x → x < full → chg = fld (s.reg Reg.huStat) 0 1))) ∧
    (∃ u, exec .meas s = .next u ∧ (s.ctl.measuring = true → u = s) ∧ (s.ctl.measuring = false → u = { s with ctl := { s.ctl with measReq := true } })) ∧
    (∃ u, exec .measDue s = .next u ∧
      let t := s.recTouch rootAddr
      let last := ((t.recRead rootMagic rootAddr).map fun l => recFld l 64 8).getD 0
      let due := s.huOn = true ∧ last + 3600 * fld (s.reg Reg.huCfg2) 0 16 ≤ s.ctl.powered0 + s.mer.ns.toNat / 10 ^ 9
      (¬due → u = t) ∧ (due → s.ctl.measuring = true → u = t) ∧ (due → s.ctl.measuring = false → u = { t with ctl := { t.ctl with measReq := true } }) ∧ ∀ a, t.peek a = s.peek a) ∧
    (∃ u, exec .measStart s = .next u ∧
      let x := fld (s.reg Reg.huV) 0 20
      let go := s.huOn = true ∧ s.ctl.measReq = true ∧ s.ctl.measuring = false ∧ s.mode ≠ modeHoldup ∧ 98 * fld (s.reg Reg.huCfg0) 20 20 ≤ 100 * x
      let w := s.limitApply (s.limitFor (x * (100 - fld (s.reg Reg.huCfg2) 16 8) / 100))
      (¬go → u = s) ∧ (go → u.ctl = { w.ctl with measuring := true, measReq := false, measV1 := w.huV } ∧ u.pins = { w.pins with huTest := true } ∧
        fld (u.reg Reg.huStat) 0 2 = 2 ∧ u.mem = w.mem ∧ u.alm = w.alm)) ∧
    (∃ u, exec (.measEnd n) s = .next u ∧
      let c := capacitance n (fld (s.reg Reg.huCfg1) 32 32) s.ctl.measV1 s.huV % 2 ^ 32
      let m := (fld (s.reg Reg.huC) 32 32 + 1) % 2 ^ 32
      let bad := 2000000 ≤ n ∨ c < 1000
      let stop := s.ctl.measuring = true ∧ (2000000 ≤ n ∨ 100 * s.huV ≤ s.ctl.measV1 * (100 - fld (s.reg Reg.huCfg2) 16 8))
      (¬stop → u = s) ∧ (stop → u.ctl.measuring = false ∧ u.pins.huTest = false ∧ fld (u.reg Reg.huStat) 1 1 = 0 ∧
        (bad → fld (u.reg Reg.huStat) 4 1 = 1) ∧ (¬bad → fld (u.reg Reg.huStat) 2 1 = 1) ∧ let kept := if bad then fld (s.reg Reg.huC) 0 32 else c
        u.reg Reg.huC = BitVec.ofNat 64 (kept + m * 2 ^ 32) ∧
        rec' u fun l => recFld l 56 4 = kept ∧ recFld l 60 4 = m ∧ recFld l 64 8 = (s.ctl.powered0 + s.mer.ns.toNat / 10 ^ 9) % 2 ^ 64)) ∧
    (∃ u, exec .limitRecompute s = .next u ∧
      let go := s.huOn = true ∧ s.mode ≠ modeHoldup
      (¬go → u = s) ∧ (go → u = s.limitApply (s.limitFor s.vLow))) ∧
    s.limitFor n ≤ 512 ∧ (fld (s.reg Reg.huStat) 2 1 = 0 ∨ fld (s.reg Reg.huCtl) 1 1 = 1 ∨ ¬aReady s → s.limitFor n = 0) ∧
    (let now := (s.reg Reg.almWbLimit).toNat / 2 ^ 20
     ∃ w : State, fld (w.reg Reg.huLimit) 16 10 = n % 1024 ∧ w.mem = s.mem ∧
      (n < now → s.limitApply n = w.almGo ∧ limit w n ∧ w.ctl.riseAt = none) ∧
      (n = now → s.limitApply n = w ∧ w.reg Reg.almWbLimit = s.reg Reg.almWbLimit ∧ w.ctl.riseAt = none) ∧
      (now < n → s.ctl.riseAt = none → s.limitApply n = w ∧ w.reg Reg.almWbLimit = s.reg Reg.almWbLimit ∧ w.ctl.riseAt = some s.mer.ns ∧ w.ctl.riseTo = n) ∧
      (∀ t, now < n → s.ctl.riseAt = some t → (10 ^ 9 ≤ (s.mer.ns - t).toNat → s.limitApply n = w.almGo ∧ limit w (min s.ctl.riseTo n)) ∧
        ((s.mer.ns - t).toNat < 10 ^ 9 → s.limitApply n = w ∧ w.reg Reg.almWbLimit = s.reg Reg.almWbLimit ∧ w.ctl.riseTo = min s.ctl.riseTo n))) ∧
    (∃ u, exec (.railUndervoltage rail ns permille) s = .next u ∧
      let por := s.pins.porN = true ∧ 1000 < ns ∧ permille < 900
      (¬por → u = s) ∧ (por → u.csr = [] ∧ u.ctl.steps = [] ∧ u.queues = State.reset.queues ∧ u.ctxs = [] ∧ u.alm.nand = s.alm.nand)) ∧
    (∃ u, exec (.limiterEval w8 temps) s = .next u ∧
      let on := s.pins.porN = true ∧ 1 ∈ s.ctl.steps
      let lim := max 200 (min tdp (fld (s.reg Reg.devPwrCtl) 1 10))
      let temp (k : Nat) : Nat := min (temps.getD k 0) 4095
      let hot := ∃ k, k < 9 ∧ s.thrOf k ≤ temp k
      let cool := (∀ k, k < 9 → temp k + 24 ≤ s.thrOf k) ∧ ∃ t, s.ctl.below = some t ∧ 10 ^ 7 ≤ (s.mer.ns - t).toNat
      let clk (t : State) : Nat := fld (t.reg Reg.devPwrStat) 16 5
      let hold (t : State) : Nat := fld (t.reg Reg.devPwrStat) 11 4
      let down := fld (s.reg Reg.devPwrCtl) 0 1 = 1 ∧ (lim < w8 ∨ hot)
      let up := cool ∧ 100 * w8 < 95 * lim
      let sealed := s.limSealed = true
      (¬on → u = s) ∧ (on → temps.length = 9 → fld (u.reg Reg.devPwrStat) 0 10 = min w8 1023 ∧ (∀ k, k < 9 → u.reg (Reg.devTemp k) = BitVec.ofNat 64 (temp k)) ∧
        (lim < w8 → fld (u.reg Reg.devPwrStat) 33 1 = 1) ∧ u.mem = s.mem ∧ u.mer = s.mer ∧
        (s.mode = modeHoldup → clk u = clk s ∧ hold u = hold s) ∧
        (s.mode ≠ modeHoldup → (down → sealed → clk u = clk s ∧ hold u = min 15 (hold s + 1)) ∧
          (down → ¬sealed → clk u = max 10 (clk s - 1) ∧ hold u = hold s ∧ (fld (u.reg Reg.devPwrStat) 10 1 = 1 ↔ clk u < sclkNominal)) ∧
          (¬down → up → 0 < hold s → hold u = hold s - 1 ∧ clk u = clk s) ∧
          (¬down → up → hold s = 0 → hold u = 0 ∧ (sealed → clk u = clk s) ∧ (¬sealed → clk u = min sclkNominal (clk s + 1))) ∧
          (¬down → ¬up → clk u = clk s ∧ hold u = hold s)))) ∧
    (∃ u, exec .tapIdcode s = .next u ∧ u = { s with ctl := { s.ctl with tapIr := tapIdcode }, busReply := u.busReply } ∧ fld u.busReply 0 28 = 0x846076B ∧
      fld u.busReply 28 36 = Config.stepping.toNat / 16) ∧
    exec .tapBypass s = .next { s with ctl := { s.ctl with tapIr := tapBypass } } ∧
    (∃ u, exec .tapExtest s = .next u ∧ (s.pins.porN = true → u = s) ∧ (s.pins.porN = false → u = { s with ctl := { s.ctl with tapIr := tapExtest } })) ∧
    (let scans (u : State) (k : Nat) : Prop := (s.pins.porN = true → u = s) ∧
       (s.pins.porN = false → u = { s with free := s.free + 1, ctl := { s.ctl with tapIr := k, tapPads := u.ctl.tapPads } })
     (∃ u, exec .tapSample s = .next u ∧ scans u tapSample) ∧ (∃ u, exec .tapPreload s = .next u ∧ scans u tapPreload)) ∧
    (∃ u, exec (.registerWrite who addr size v) s = .next u ∧
      let a := addr.toNat
      let r := a / 8 * 8
      let opens := match who with
        | .core h => (s.ctx (2048 + h.val)).priv ≠ .u
        | .stagehand | .hardware => True
        | .other => False
      let out := s.pins.porN = false ∨ ¬opens ∨ s.region a ≠ some .csr
      (out → u = s) ∧ (csrForm a size = none → u = s) ∧ (regAt r = none → u = s) ∧
      ∀ f d, ¬out → csrForm a size = some f → regAt r = some d →
        let m := writeMask f
        let w := writeBits f v
        s.writeDevice who r f m w = none → s.writeCaches r f m w = none → s.writeSpy d r f m w = none → s.writeOrr d r f m w = none → s.writeQueue r f m w = none →
        s.writeAlm r f w = none → s.writeStream d r f m w = none → s.writeNet r f m w = none →
        (∃ x, u = s.setReg r x) ∧ ∀ k, k < 64 → (u.reg r).getLsbD k =
          ((if (d.rw.getLsbD k = true ∨ (d.rwl.getLsbD k = true ∧ s.ctl.rwl = false)) ∧ m.getLsbD k = true then w.getLsbD k else (s.reg r).getLsbD k) &&
            !(w.getLsbD k && d.w1c.getLsbD k)))
end

