-- ==== Sys2Proof/Laws/Tab.lean ====
section
/-! SUPPORT. Sys2Proof/Laws/Tab.lean: every operation on a sparse table keeps its canonical form, and a key reads as it was set. -/

namespace Sys2Proof

theorem Tab.sorted_cons {V : Type} (a : Nat) (v : V) (t : Tab V) :
    Tab.sorted ((a, v) :: t) = true ↔ (∀ e ∈ t, a < e.1) ∧ Tab.sorted t = true := by
  induction t generalizing a v with
  | nil => simp [Tab.sorted]
  | cons e t ih =>
    obtain ⟨b, y⟩ := e
    simp only [Tab.sorted, Bool.and_eq_true, decide_eq_true_eq, List.mem_cons, forall_eq_or_imp, ih]
    constructor
    · rintro ⟨h, h1, h2⟩; exact ⟨⟨h, fun e he => Nat.lt_trans h (h1 e he)⟩, h1, h2⟩
    · rintro ⟨⟨h, h0⟩, h1, h2⟩; exact ⟨h, h1, h2⟩
theorem Tab.wf_iff {V : Type} [DecidableEq V] (d : V) (t : Tab V) :
    Tab.wf d t = true ↔ Tab.sorted t = true ∧ ∀ e ∈ t, e.2 ≠ d := by
  simp [Tab.wf, List.all_eq_true]
theorem Tab.mem_erase {V : Type} (t : Tab V) (a : Nat) (e : Nat × V) (h : e ∈ Tab.erase t a) : e ∈ t ∧ e.1 ≠ a := by
  induction t with
  | nil => simp [Tab.erase] at h
  | cons x t ih =>
    obtain ⟨k, v⟩ := x
    simp only [Tab.erase] at h
    split at h
    · have := ih h; exact ⟨List.mem_cons_of_mem _ this.1, this.2⟩
    · rcases List.mem_cons.1 h with rfl | h
      · exact ⟨by simp, by assumption⟩
      · have := ih h; exact ⟨List.mem_cons_of_mem _ this.1, this.2⟩
theorem Tab.sorted_erase {V : Type} (t : Tab V) (a : Nat) (h : Tab.sorted t = true) : Tab.sorted (Tab.erase t a) = true := by
  induction t with
  | nil => simpa [Tab.erase] using h
  | cons x t ih =>
    obtain ⟨k, v⟩ := x
    have h' := (Tab.sorted_cons k v t).1 h
    simp only [Tab.erase]
    split
    · exact ih h'.2
    · exact (Tab.sorted_cons _ _ _).2 ⟨fun e he => h'.1 e (Tab.mem_erase _ _ _ he).1, ih h'.2⟩
theorem Tab.mem_ins {V : Type} (t : Tab V) (a : Nat) (x : V) (e : Nat × V) (h : e ∈ Tab.ins t a x) : e = (a, x) ∨ e ∈ t := by
  induction t with
  | nil => simpa [Tab.ins] using h
  | cons y t ih =>
    obtain ⟨k, v⟩ := y
    simp only [Tab.ins] at h
    split at h
    · simpa using h
    · split at h
      · rcases List.mem_cons.1 h with h | h
        · exact .inl h
        · exact .inr (List.mem_cons_of_mem _ h)
      · rcases List.mem_cons.1 h with rfl | h
        · exact .inr (by simp)
        · rcases ih h with h | h
          · exact .inl h
          · exact .inr (List.mem_cons_of_mem _ h)
theorem Tab.sorted_ins {V : Type} (t : Tab V) (a : Nat) (x : V) (h : Tab.sorted t = true) : Tab.sorted (Tab.ins t a x) = true := by
  induction t with
  | nil => simp [Tab.ins, Tab.sorted]
  | cons y t ih =>
    obtain ⟨k, v⟩ := y
    have h' := (Tab.sorted_cons k v t).1 h
    simp only [Tab.ins]
    split
    · rename_i hk
      refine (Tab.sorted_cons _ _ _).2 ⟨fun e he => ?_, h⟩
      rcases List.mem_cons.1 he with rfl | he
      · exact hk
      · exact Nat.lt_trans hk (h'.1 e he)
    · split
      · rename_i hk; subst hk; exact (Tab.sorted_cons _ _ _).2 h'
      · rename_i h1 h2
        refine (Tab.sorted_cons _ _ _).2 ⟨fun e he => ?_, ih h'.2⟩
        rcases Tab.mem_ins _ _ _ _ he with rfl | he
        · simp only; omega
        · exact h'.1 e he
theorem Tab.wf_set {V : Type} [DecidableEq V] (d : V) (t : Tab V) (a : Nat) (x : V) (h : Tab.wf d t = true) :
    Tab.wf d (Tab.set d t a x) = true := by
  rw [Tab.wf_iff] at *
  unfold Tab.set
  split
  · exact ⟨Tab.sorted_erase _ _ h.1, fun e he => h.2 e (Tab.mem_erase _ _ _ he).1⟩
  · rename_i hx
    refine ⟨Tab.sorted_ins _ _ _ h.1, fun e he => ?_⟩
    rcases Tab.mem_ins _ _ _ _ he with rfl | he
    · exact hx
    · exact h.2 e he
theorem Tab.sorted_filter {V : Type} (p : Nat × V → Bool) (t : Tab V) (h : Tab.sorted t = true) : Tab.sorted (List.filter p t) = true := by
  induction t with
  | nil => rfl
  | cons y t ih =>
    obtain ⟨k, v⟩ := y
    have h' := (Tab.sorted_cons k v t).1 h
    simp only [List.filter]
    split
    · exact (Tab.sorted_cons _ _ _).2 ⟨fun e he => h'.1 e (List.mem_filter.1 he).1, ih h'.2⟩
    · exact ih h'.2
theorem Tab.wf_filter {V : Type} [DecidableEq V] (d : V) (p : Nat × V → Bool) (t : Tab V) (h : Tab.wf d t = true) :
    Tab.wf d (List.filter p t) = true := by
  rw [Tab.wf_iff] at *
  exact ⟨Tab.sorted_filter _ _ h.1, fun e he => h.2 e (List.mem_filter.1 he).1⟩

/-! ### Reading after a change -/

theorem Tab.find?_erase_same {V : Type} (t : Tab V) (a : Nat) : Tab.find? (Tab.erase t a) a = none := by
  induction t with
  | nil => rfl
  | cons y t ih =>
    obtain ⟨k, v⟩ := y
    by_cases h : k = a <;> simp [Tab.erase, Tab.find?, h, ih]
theorem Tab.find?_erase_ne {V : Type} (t : Tab V) {a b : Nat} (h : b ≠ a) : Tab.find? (Tab.erase t a) b = Tab.find? t b := by
  induction t with
  | nil => rfl
  | cons y t ih =>
    obtain ⟨k, v⟩ := y
    by_cases hk : k = a
    · subst hk; simp [Tab.erase, Tab.find?, ih, Ne.symm h]
    · simp [Tab.erase, Tab.find?, hk, ih]
theorem Tab.find?_ins_same {V : Type} (t : Tab V) (a : Nat) (x : V) : Tab.find? (Tab.ins t a x) a = some x := by
  induction t with
  | nil => simp [Tab.ins, Tab.find?]
  | cons y t ih =>
    obtain ⟨k, v⟩ := y
    simp only [Tab.ins]
    split
    · simp [Tab.find?]
    · split
      · simp [Tab.find?]
      · rename_i h; simp [Tab.find?, Ne.symm h, ih]
theorem Tab.find?_ins_ne {V : Type} (t : Tab V) {a b : Nat} (x : V) (h : b ≠ a) : Tab.find? (Tab.ins t a x) b = Tab.find? t b := by
  induction t with
  | nil => simp [Tab.ins, Tab.find?, Ne.symm h]
  | cons y t ih =>
    obtain ⟨k, v⟩ := y
    simp only [Tab.ins]
    split
    · simp [Tab.find?, Ne.symm h]
    · split
      · rename_i hk; subst hk; simp [Tab.find?, Ne.symm h]
      · simp [Tab.find?, ih]
/-- A key reads as it was set. -/
@[simp] theorem Tab.get_set_same {V : Type} [DecidableEq V] (d : V) (t : Tab V) (a : Nat) (x : V) : Tab.get d (Tab.set d t a x) a = x := by
  unfold Tab.get Tab.set
  split
  · rename_i h; rw [Tab.find?_erase_same, h]; rfl
  · rw [Tab.find?_ins_same]; rfl
/-- Every other key reads as before. -/
theorem Tab.get_set_ne {V : Type} [DecidableEq V] (d d' : V) (t : Tab V) {a b : Nat} (x : V) (h : b ≠ a) :
    Tab.get d' (Tab.set d t a x) b = Tab.get d' t b := by
  unfold Tab.get Tab.set
  split
  · rw [Tab.find?_erase_ne _ h]
  · rw [Tab.find?_ins_ne _ _ h]
theorem Tab.get_set {V : Type} [DecidableEq V] (d : V) (t : Tab V) (a b : Nat) (x : V) :
    Tab.get d (Tab.set d t a x) b = if b = a then x else Tab.get d t b := by
  split
  · rename_i h; rw [h, Tab.get_set_same]
  · rename_i h; exact Tab.get_set_ne d d t x h

end Sys2Proof
end

