-- ==== Sys2Proof/Laws/State.lean ====
section
/-! SUPPORT. Sys2Proof/Laws/State.lean: each field of State under each elementary update, and each accessor under its own. -/

namespace Sys2Proof.Machine

/-! ### setReg -/

@[simp] theorem State.setReg_pending (s : State) (a : Nat) (v : W64) : (s.setReg a v).pending = s.pending := (rfl)
@[simp] theorem State.setReg_free (s : State) (a : Nat) (v : W64) : (s.setReg a v).free = s.free := (rfl)
@[simp] theorem State.setReg_mer (s : State) (a : Nat) (v : W64) : (s.setReg a v).mer = s.mer := (rfl)
@[simp] theorem State.setReg_csr (s : State) (a : Nat) (v : W64) : (s.setReg a v).csr = Tab.set (regDefault a) s.csr a v := (rfl)
@[simp] theorem State.setReg_mem (s : State) (a : Nat) (v : W64) : (s.setReg a v).mem = s.mem := (rfl)
@[simp] theorem State.setReg_merge (s : State) (a : Nat) (v : W64) : (s.setReg a v).merge = s.merge := (rfl)
@[simp] theorem State.setReg_ecc (s : State) (a : Nat) (v : W64) : (s.setReg a v).ecc = s.ecc := (rfl)
@[simp] theorem State.setReg_ctxs (s : State) (a : Nat) (v : W64) : (s.setReg a v).ctxs = s.ctxs := (rfl)
@[simp] theorem State.setReg_execs (s : State) (a : Nat) (v : W64) : (s.setReg a v).execs = s.execs := (rfl)
@[simp] theorem State.setReg_l2 (s : State) (a : Nat) (v : W64) : (s.setReg a v).l2 = s.l2 := (rfl)
@[simp] theorem State.setReg_l2todo (s : State) (a : Nat) (v : W64) : (s.setReg a v).l2todo = s.l2todo := (rfl)
@[simp] theorem State.setReg_tlb (s : State) (a : Nat) (v : W64) : (s.setReg a v).tlb = s.tlb := (rfl)
@[simp] theorem State.setReg_jobs (s : State) (a : Nat) (v : W64) : (s.setReg a v).jobs = s.jobs := (rfl)
@[simp] theorem State.setReg_queues (s : State) (a : Nat) (v : W64) : (s.setReg a v).queues = s.queues := (rfl)
@[simp] theorem State.setReg_booths (s : State) (a : Nat) (v : W64) : (s.setReg a v).booths = s.booths := (rfl)
@[simp] theorem State.setReg_flows (s : State) (a : Nat) (v : W64) : (s.setReg a v).flows = s.flows := (rfl)
@[simp] theorem State.setReg_domLast (s : State) (a : Nat) (v : W64) : (s.setReg a v).domLast = s.domLast := (rfl)
@[simp] theorem State.setReg_rr (s : State) (a : Nat) (v : W64) : (s.setReg a v).rr = s.rr := (rfl)
@[simp] theorem State.setReg_adm (s : State) (a : Nat) (v : W64) : (s.setReg a v).adm = s.adm := (rfl)
@[simp] theorem State.setReg_admGo (s : State) (a : Nat) (v : W64) : (s.setReg a v).admGo = s.admGo := (rfl)
@[simp] theorem State.setReg_terms (s : State) (a : Nat) (v : W64) : (s.setReg a v).terms = s.terms := (rfl)
@[simp] theorem State.setReg_busReply (s : State) (a : Nat) (v : W64) : (s.setReg a v).busReply = s.busReply := (rfl)
@[simp] theorem State.setReg_orr (s : State) (a : Nat) (v : W64) : (s.setReg a v).orr = s.orr := (rfl)
@[simp] theorem State.setReg_spy (s : State) (a : Nat) (v : W64) : (s.setReg a v).spy = s.spy := (rfl)
@[simp] theorem State.setReg_scans (s : State) (a : Nat) (v : W64) : (s.setReg a v).scans = s.scans := (rfl)
@[simp] theorem State.setReg_parts (s : State) (a : Nat) (v : W64) : (s.setReg a v).parts = s.parts := (rfl)
@[simp] theorem State.setReg_evals (s : State) (a : Nat) (v : W64) : (s.setReg a v).evals = s.evals := (rfl)
@[simp] theorem State.setReg_alm (s : State) (a : Nat) (v : W64) : (s.setReg a v).alm = s.alm := (rfl)
@[simp] theorem State.setReg_movers (s : State) (a : Nat) (v : W64) : (s.setReg a v).movers = s.movers := (rfl)
@[simp] theorem State.setReg_eng (s : State) (a : Nat) (v : W64) : (s.setReg a v).eng = s.eng := (rfl)
@[simp] theorem State.setReg_net (s : State) (a : Nat) (v : W64) : (s.setReg a v).net = s.net := (rfl)
@[simp] theorem State.setReg_host (s : State) (a : Nat) (v : W64) : (s.setReg a v).host = s.host := (rfl)
@[simp] theorem State.setReg_pins (s : State) (a : Nat) (v : W64) : (s.setReg a v).pins = s.pins := (rfl)
@[simp] theorem State.setReg_stg (s : State) (a : Nat) (v : W64) : (s.setReg a v).stg = s.stg := (rfl)
@[simp] theorem State.setReg_ctl (s : State) (a : Nat) (v : W64) : (s.setReg a v).ctl = s.ctl := (rfl)

/-! ### setCtx -/

@[simp] theorem State.setCtx_pending (s : State) (x : Nat) (c : Ctx) : (s.setCtx x c).pending = s.pending := (rfl)
@[simp] theorem State.setCtx_free (s : State) (x : Nat) (c : Ctx) : (s.setCtx x c).free = s.free := (rfl)
@[simp] theorem State.setCtx_mer (s : State) (x : Nat) (c : Ctx) : (s.setCtx x c).mer = s.mer := (rfl)
@[simp] theorem State.setCtx_csr (s : State) (x : Nat) (c : Ctx) : (s.setCtx x c).csr = s.csr := (rfl)
@[simp] theorem State.setCtx_mem (s : State) (x : Nat) (c : Ctx) : (s.setCtx x c).mem = s.mem := (rfl)
@[simp] theorem State.setCtx_merge (s : State) (x : Nat) (c : Ctx) : (s.setCtx x c).merge = s.merge := (rfl)
@[simp] theorem State.setCtx_ecc (s : State) (x : Nat) (c : Ctx) : (s.setCtx x c).ecc = s.ecc := (rfl)
@[simp] theorem State.setCtx_ctxs (s : State) (x : Nat) (c : Ctx) : (s.setCtx x c).ctxs = Tab.set {} s.ctxs x c := (rfl)
@[simp] theorem State.setCtx_execs (s : State) (x : Nat) (c : Ctx) : (s.setCtx x c).execs = s.execs := (rfl)
@[simp] theorem State.setCtx_l2 (s : State) (x : Nat) (c : Ctx) : (s.setCtx x c).l2 = s.l2 := (rfl)
@[simp] theorem State.setCtx_l2todo (s : State) (x : Nat) (c : Ctx) : (s.setCtx x c).l2todo = s.l2todo := (rfl)
@[simp] theorem State.setCtx_tlb (s : State) (x : Nat) (c : Ctx) : (s.setCtx x c).tlb = s.tlb := (rfl)
@[simp] theorem State.setCtx_jobs (s : State) (x : Nat) (c : Ctx) : (s.setCtx x c).jobs = s.jobs := (rfl)
@[simp] theorem State.setCtx_queues (s : State) (x : Nat) (c : Ctx) : (s.setCtx x c).queues = s.queues := (rfl)
@[simp] theorem State.setCtx_booths (s : State) (x : Nat) (c : Ctx) : (s.setCtx x c).booths = s.booths := (rfl)
@[simp] theorem State.setCtx_flows (s : State) (x : Nat) (c : Ctx) : (s.setCtx x c).flows = s.flows := (rfl)
@[simp] theorem State.setCtx_domLast (s : State) (x : Nat) (c : Ctx) : (s.setCtx x c).domLast = s.domLast := (rfl)
@[simp] theorem State.setCtx_rr (s : State) (x : Nat) (c : Ctx) : (s.setCtx x c).rr = s.rr := (rfl)
@[simp] theorem State.setCtx_adm (s : State) (x : Nat) (c : Ctx) : (s.setCtx x c).adm = s.adm := (rfl)
@[simp] theorem State.setCtx_admGo (s : State) (x : Nat) (c : Ctx) : (s.setCtx x c).admGo = s.admGo := (rfl)
@[simp] theorem State.setCtx_terms (s : State) (x : Nat) (c : Ctx) : (s.setCtx x c).terms = s.terms := (rfl)
@[simp] theorem State.setCtx_busReply (s : State) (x : Nat) (c : Ctx) : (s.setCtx x c).busReply = s.busReply := (rfl)
@[simp] theorem State.setCtx_orr (s : State) (x : Nat) (c : Ctx) : (s.setCtx x c).orr = s.orr := (rfl)
@[simp] theorem State.setCtx_spy (s : State) (x : Nat) (c : Ctx) : (s.setCtx x c).spy = s.spy := (rfl)
@[simp] theorem State.setCtx_scans (s : State) (x : Nat) (c : Ctx) : (s.setCtx x c).scans = s.scans := (rfl)
@[simp] theorem State.setCtx_parts (s : State) (x : Nat) (c : Ctx) : (s.setCtx x c).parts = s.parts := (rfl)
@[simp] theorem State.setCtx_evals (s : State) (x : Nat) (c : Ctx) : (s.setCtx x c).evals = s.evals := (rfl)
@[simp] theorem State.setCtx_alm (s : State) (x : Nat) (c : Ctx) : (s.setCtx x c).alm = s.alm := (rfl)
@[simp] theorem State.setCtx_movers (s : State) (x : Nat) (c : Ctx) : (s.setCtx x c).movers = s.movers := (rfl)
@[simp] theorem State.setCtx_eng (s : State) (x : Nat) (c : Ctx) : (s.setCtx x c).eng = s.eng := (rfl)
@[simp] theorem State.setCtx_net (s : State) (x : Nat) (c : Ctx) : (s.setCtx x c).net = s.net := (rfl)
@[simp] theorem State.setCtx_host (s : State) (x : Nat) (c : Ctx) : (s.setCtx x c).host = s.host := (rfl)
@[simp] theorem State.setCtx_pins (s : State) (x : Nat) (c : Ctx) : (s.setCtx x c).pins = s.pins := (rfl)
@[simp] theorem State.setCtx_stg (s : State) (x : Nat) (c : Ctx) : (s.setCtx x c).stg = s.stg := (rfl)
@[simp] theorem State.setCtx_ctl (s : State) (x : Nat) (c : Ctx) : (s.setCtx x c).ctl = s.ctl := (rfl)

/-! ### setExe -/

@[simp] theorem State.setExe_pending (s : State) (u : Nat) (e : Exec) : (s.setExe u e).pending = s.pending := (rfl)
@[simp] theorem State.setExe_free (s : State) (u : Nat) (e : Exec) : (s.setExe u e).free = s.free := (rfl)
@[simp] theorem State.setExe_mer (s : State) (u : Nat) (e : Exec) : (s.setExe u e).mer = s.mer := (rfl)
@[simp] theorem State.setExe_csr (s : State) (u : Nat) (e : Exec) : (s.setExe u e).csr = s.csr := (rfl)
@[simp] theorem State.setExe_mem (s : State) (u : Nat) (e : Exec) : (s.setExe u e).mem = s.mem := (rfl)
@[simp] theorem State.setExe_merge (s : State) (u : Nat) (e : Exec) : (s.setExe u e).merge = s.merge := (rfl)
@[simp] theorem State.setExe_ecc (s : State) (u : Nat) (e : Exec) : (s.setExe u e).ecc = s.ecc := (rfl)
@[simp] theorem State.setExe_ctxs (s : State) (u : Nat) (e : Exec) : (s.setExe u e).ctxs = s.ctxs := (rfl)
@[simp] theorem State.setExe_execs (s : State) (u : Nat) (e : Exec) : (s.setExe u e).execs = Tab.set {} s.execs u e := (rfl)
@[simp] theorem State.setExe_l2 (s : State) (u : Nat) (e : Exec) : (s.setExe u e).l2 = s.l2 := (rfl)
@[simp] theorem State.setExe_l2todo (s : State) (u : Nat) (e : Exec) : (s.setExe u e).l2todo = s.l2todo := (rfl)
@[simp] theorem State.setExe_tlb (s : State) (u : Nat) (e : Exec) : (s.setExe u e).tlb = s.tlb := (rfl)
@[simp] theorem State.setExe_jobs (s : State) (u : Nat) (e : Exec) : (s.setExe u e).jobs = s.jobs := (rfl)
@[simp] theorem State.setExe_queues (s : State) (u : Nat) (e : Exec) : (s.setExe u e).queues = s.queues := (rfl)
@[simp] theorem State.setExe_booths (s : State) (u : Nat) (e : Exec) : (s.setExe u e).booths = s.booths := (rfl)
@[simp] theorem State.setExe_flows (s : State) (u : Nat) (e : Exec) : (s.setExe u e).flows = s.flows := (rfl)
@[simp] theorem State.setExe_domLast (s : State) (u : Nat) (e : Exec) : (s.setExe u e).domLast = s.domLast := (rfl)
@[simp] theorem State.setExe_rr (s : State) (u : Nat) (e : Exec) : (s.setExe u e).rr = s.rr := (rfl)
@[simp] theorem State.setExe_adm (s : State) (u : Nat) (e : Exec) : (s.setExe u e).adm = s.adm := (rfl)
@[simp] theorem State.setExe_admGo (s : State) (u : Nat) (e : Exec) : (s.setExe u e).admGo = s.admGo := (rfl)
@[simp] theorem State.setExe_terms (s : State) (u : Nat) (e : Exec) : (s.setExe u e).terms = s.terms := (rfl)
@[simp] theorem State.setExe_busReply (s : State) (u : Nat) (e : Exec) : (s.setExe u e).busReply = s.busReply := (rfl)
@[simp] theorem State.setExe_orr (s : State) (u : Nat) (e : Exec) : (s.setExe u e).orr = s.orr := (rfl)
@[simp] theorem State.setExe_spy (s : State) (u : Nat) (e : Exec) : (s.setExe u e).spy = s.spy := (rfl)
@[simp] theorem State.setExe_scans (s : State) (u : Nat) (e : Exec) : (s.setExe u e).scans = s.scans := (rfl)
@[simp] theorem State.setExe_parts (s : State) (u : Nat) (e : Exec) : (s.setExe u e).parts = s.parts := (rfl)
@[simp] theorem State.setExe_evals (s : State) (u : Nat) (e : Exec) : (s.setExe u e).evals = s.evals := (rfl)
@[simp] theorem State.setExe_alm (s : State) (u : Nat) (e : Exec) : (s.setExe u e).alm = s.alm := (rfl)
@[simp] theorem State.setExe_movers (s : State) (u : Nat) (e : Exec) : (s.setExe u e).movers = s.movers := (rfl)
@[simp] theorem State.setExe_eng (s : State) (u : Nat) (e : Exec) : (s.setExe u e).eng = s.eng := (rfl)
@[simp] theorem State.setExe_net (s : State) (u : Nat) (e : Exec) : (s.setExe u e).net = s.net := (rfl)
@[simp] theorem State.setExe_host (s : State) (u : Nat) (e : Exec) : (s.setExe u e).host = s.host := (rfl)
@[simp] theorem State.setExe_pins (s : State) (u : Nat) (e : Exec) : (s.setExe u e).pins = s.pins := (rfl)
@[simp] theorem State.setExe_stg (s : State) (u : Nat) (e : Exec) : (s.setExe u e).stg = s.stg := (rfl)
@[simp] theorem State.setExe_ctl (s : State) (u : Nat) (e : Exec) : (s.setExe u e).ctl = s.ctl := (rfl)

/-! ### setJob -/

@[simp] theorem State.setJob_pending (s : State) (j : Nat) (x : Job) : (s.setJob j x).pending = s.pending := (rfl)
@[simp] theorem State.setJob_free (s : State) (j : Nat) (x : Job) : (s.setJob j x).free = s.free := (rfl)
@[simp] theorem State.setJob_mer (s : State) (j : Nat) (x : Job) : (s.setJob j x).mer = s.mer := (rfl)
@[simp] theorem State.setJob_csr (s : State) (j : Nat) (x : Job) : (s.setJob j x).csr = s.csr := (rfl)
@[simp] theorem State.setJob_mem (s : State) (j : Nat) (x : Job) : (s.setJob j x).mem = s.mem := (rfl)
@[simp] theorem State.setJob_merge (s : State) (j : Nat) (x : Job) : (s.setJob j x).merge = s.merge := (rfl)
@[simp] theorem State.setJob_ecc (s : State) (j : Nat) (x : Job) : (s.setJob j x).ecc = s.ecc := (rfl)
@[simp] theorem State.setJob_ctxs (s : State) (j : Nat) (x : Job) : (s.setJob j x).ctxs = s.ctxs := (rfl)
@[simp] theorem State.setJob_execs (s : State) (j : Nat) (x : Job) : (s.setJob j x).execs = s.execs := (rfl)
@[simp] theorem State.setJob_l2 (s : State) (j : Nat) (x : Job) : (s.setJob j x).l2 = s.l2 := (rfl)
@[simp] theorem State.setJob_l2todo (s : State) (j : Nat) (x : Job) : (s.setJob j x).l2todo = s.l2todo := (rfl)
@[simp] theorem State.setJob_tlb (s : State) (j : Nat) (x : Job) : (s.setJob j x).tlb = s.tlb := (rfl)
@[simp] theorem State.setJob_jobs (s : State) (j : Nat) (x : Job) : (s.setJob j x).jobs = Tab.set {} s.jobs j x := (rfl)
@[simp] theorem State.setJob_queues (s : State) (j : Nat) (x : Job) : (s.setJob j x).queues = s.queues := (rfl)
@[simp] theorem State.setJob_booths (s : State) (j : Nat) (x : Job) : (s.setJob j x).booths = s.booths := (rfl)
@[simp] theorem State.setJob_flows (s : State) (j : Nat) (x : Job) : (s.setJob j x).flows = s.flows := (rfl)
@[simp] theorem State.setJob_domLast (s : State) (j : Nat) (x : Job) : (s.setJob j x).domLast = s.domLast := (rfl)
@[simp] theorem State.setJob_rr (s : State) (j : Nat) (x : Job) : (s.setJob j x).rr = s.rr := (rfl)
@[simp] theorem State.setJob_adm (s : State) (j : Nat) (x : Job) : (s.setJob j x).adm = s.adm := (rfl)
@[simp] theorem State.setJob_admGo (s : State) (j : Nat) (x : Job) : (s.setJob j x).admGo = s.admGo := (rfl)
@[simp] theorem State.setJob_terms (s : State) (j : Nat) (x : Job) : (s.setJob j x).terms = s.terms := (rfl)
@[simp] theorem State.setJob_busReply (s : State) (j : Nat) (x : Job) : (s.setJob j x).busReply = s.busReply := (rfl)
@[simp] theorem State.setJob_orr (s : State) (j : Nat) (x : Job) : (s.setJob j x).orr = s.orr := (rfl)
@[simp] theorem State.setJob_spy (s : State) (j : Nat) (x : Job) : (s.setJob j x).spy = s.spy := (rfl)
@[simp] theorem State.setJob_scans (s : State) (j : Nat) (x : Job) : (s.setJob j x).scans = s.scans := (rfl)
@[simp] theorem State.setJob_parts (s : State) (j : Nat) (x : Job) : (s.setJob j x).parts = s.parts := (rfl)
@[simp] theorem State.setJob_evals (s : State) (j : Nat) (x : Job) : (s.setJob j x).evals = s.evals := (rfl)
@[simp] theorem State.setJob_alm (s : State) (j : Nat) (x : Job) : (s.setJob j x).alm = s.alm := (rfl)
@[simp] theorem State.setJob_movers (s : State) (j : Nat) (x : Job) : (s.setJob j x).movers = s.movers := (rfl)
@[simp] theorem State.setJob_eng (s : State) (j : Nat) (x : Job) : (s.setJob j x).eng = s.eng := (rfl)
@[simp] theorem State.setJob_net (s : State) (j : Nat) (x : Job) : (s.setJob j x).net = s.net := (rfl)
@[simp] theorem State.setJob_host (s : State) (j : Nat) (x : Job) : (s.setJob j x).host = s.host := (rfl)
@[simp] theorem State.setJob_pins (s : State) (j : Nat) (x : Job) : (s.setJob j x).pins = s.pins := (rfl)
@[simp] theorem State.setJob_stg (s : State) (j : Nat) (x : Job) : (s.setJob j x).stg = s.stg := (rfl)
@[simp] theorem State.setJob_ctl (s : State) (j : Nat) (x : Job) : (s.setJob j x).ctl = s.ctl := (rfl)

/-! ### setQueue -/

@[simp] theorem State.setQueue_pending (s : State) (q : BitVec 16) (x : Queue) : (s.setQueue q x).pending = s.pending := (rfl)
@[simp] theorem State.setQueue_free (s : State) (q : BitVec 16) (x : Queue) : (s.setQueue q x).free = s.free := (rfl)
@[simp] theorem State.setQueue_mer (s : State) (q : BitVec 16) (x : Queue) : (s.setQueue q x).mer = s.mer := (rfl)
@[simp] theorem State.setQueue_csr (s : State) (q : BitVec 16) (x : Queue) : (s.setQueue q x).csr = s.csr := (rfl)
@[simp] theorem State.setQueue_mem (s : State) (q : BitVec 16) (x : Queue) : (s.setQueue q x).mem = s.mem := (rfl)
@[simp] theorem State.setQueue_merge (s : State) (q : BitVec 16) (x : Queue) : (s.setQueue q x).merge = s.merge := (rfl)
@[simp] theorem State.setQueue_ecc (s : State) (q : BitVec 16) (x : Queue) : (s.setQueue q x).ecc = s.ecc := (rfl)
@[simp] theorem State.setQueue_ctxs (s : State) (q : BitVec 16) (x : Queue) : (s.setQueue q x).ctxs = s.ctxs := (rfl)
@[simp] theorem State.setQueue_execs (s : State) (q : BitVec 16) (x : Queue) : (s.setQueue q x).execs = s.execs := (rfl)
@[simp] theorem State.setQueue_l2 (s : State) (q : BitVec 16) (x : Queue) : (s.setQueue q x).l2 = s.l2 := (rfl)
@[simp] theorem State.setQueue_l2todo (s : State) (q : BitVec 16) (x : Queue) : (s.setQueue q x).l2todo = s.l2todo := (rfl)
@[simp] theorem State.setQueue_tlb (s : State) (q : BitVec 16) (x : Queue) : (s.setQueue q x).tlb = s.tlb := (rfl)
@[simp] theorem State.setQueue_jobs (s : State) (q : BitVec 16) (x : Queue) : (s.setQueue q x).jobs = s.jobs := (rfl)
@[simp] theorem State.setQueue_queues (s : State) (q : BitVec 16) (x : Queue) : (s.setQueue q x).queues = Tab.set {} s.queues q.toNat x := (rfl)
@[simp] theorem State.setQueue_booths (s : State) (q : BitVec 16) (x : Queue) : (s.setQueue q x).booths = s.booths := (rfl)
@[simp] theorem State.setQueue_flows (s : State) (q : BitVec 16) (x : Queue) : (s.setQueue q x).flows = s.flows := (rfl)
@[simp] theorem State.setQueue_domLast (s : State) (q : BitVec 16) (x : Queue) : (s.setQueue q x).domLast = s.domLast := (rfl)
@[simp] theorem State.setQueue_rr (s : State) (q : BitVec 16) (x : Queue) : (s.setQueue q x).rr = s.rr := (rfl)
@[simp] theorem State.setQueue_adm (s : State) (q : BitVec 16) (x : Queue) : (s.setQueue q x).adm = s.adm := (rfl)
@[simp] theorem State.setQueue_admGo (s : State) (q : BitVec 16) (x : Queue) : (s.setQueue q x).admGo = s.admGo := (rfl)
@[simp] theorem State.setQueue_terms (s : State) (q : BitVec 16) (x : Queue) : (s.setQueue q x).terms = s.terms := (rfl)
@[simp] theorem State.setQueue_busReply (s : State) (q : BitVec 16) (x : Queue) : (s.setQueue q x).busReply = s.busReply := (rfl)
@[simp] theorem State.setQueue_orr (s : State) (q : BitVec 16) (x : Queue) : (s.setQueue q x).orr = s.orr := (rfl)
@[simp] theorem State.setQueue_spy (s : State) (q : BitVec 16) (x : Queue) : (s.setQueue q x).spy = s.spy := (rfl)
@[simp] theorem State.setQueue_scans (s : State) (q : BitVec 16) (x : Queue) : (s.setQueue q x).scans = s.scans := (rfl)
@[simp] theorem State.setQueue_parts (s : State) (q : BitVec 16) (x : Queue) : (s.setQueue q x).parts = s.parts := (rfl)
@[simp] theorem State.setQueue_evals (s : State) (q : BitVec 16) (x : Queue) : (s.setQueue q x).evals = s.evals := (rfl)
@[simp] theorem State.setQueue_alm (s : State) (q : BitVec 16) (x : Queue) : (s.setQueue q x).alm = s.alm := (rfl)
@[simp] theorem State.setQueue_movers (s : State) (q : BitVec 16) (x : Queue) : (s.setQueue q x).movers = s.movers := (rfl)
@[simp] theorem State.setQueue_eng (s : State) (q : BitVec 16) (x : Queue) : (s.setQueue q x).eng = s.eng := (rfl)
@[simp] theorem State.setQueue_net (s : State) (q : BitVec 16) (x : Queue) : (s.setQueue q x).net = s.net := (rfl)
@[simp] theorem State.setQueue_host (s : State) (q : BitVec 16) (x : Queue) : (s.setQueue q x).host = s.host := (rfl)
@[simp] theorem State.setQueue_pins (s : State) (q : BitVec 16) (x : Queue) : (s.setQueue q x).pins = s.pins := (rfl)
@[simp] theorem State.setQueue_stg (s : State) (q : BitVec 16) (x : Queue) : (s.setQueue q x).stg = s.stg := (rfl)
@[simp] theorem State.setQueue_ctl (s : State) (q : BitVec 16) (x : Queue) : (s.setQueue q x).ctl = s.ctl := (rfl)

/-! ### setBooth -/

@[simp] theorem State.setBooth_pending (s : State) (b : BitVec 12) (x : Booth) : (s.setBooth b x).pending = s.pending := (rfl)
@[simp] theorem State.setBooth_free (s : State) (b : BitVec 12) (x : Booth) : (s.setBooth b x).free = s.free := (rfl)
@[simp] theorem State.setBooth_mer (s : State) (b : BitVec 12) (x : Booth) : (s.setBooth b x).mer = s.mer := (rfl)
@[simp] theorem State.setBooth_csr (s : State) (b : BitVec 12) (x : Booth) : (s.setBooth b x).csr = s.csr := (rfl)
@[simp] theorem State.setBooth_mem (s : State) (b : BitVec 12) (x : Booth) : (s.setBooth b x).mem = s.mem := (rfl)
@[simp] theorem State.setBooth_merge (s : State) (b : BitVec 12) (x : Booth) : (s.setBooth b x).merge = s.merge := (rfl)
@[simp] theorem State.setBooth_ecc (s : State) (b : BitVec 12) (x : Booth) : (s.setBooth b x).ecc = s.ecc := (rfl)
@[simp] theorem State.setBooth_ctxs (s : State) (b : BitVec 12) (x : Booth) : (s.setBooth b x).ctxs = s.ctxs := (rfl)
@[simp] theorem State.setBooth_execs (s : State) (b : BitVec 12) (x : Booth) : (s.setBooth b x).execs = s.execs := (rfl)
@[simp] theorem State.setBooth_l2 (s : State) (b : BitVec 12) (x : Booth) : (s.setBooth b x).l2 = s.l2 := (rfl)
@[simp] theorem State.setBooth_l2todo (s : State) (b : BitVec 12) (x : Booth) : (s.setBooth b x).l2todo = s.l2todo := (rfl)
@[simp] theorem State.setBooth_tlb (s : State) (b : BitVec 12) (x : Booth) : (s.setBooth b x).tlb = s.tlb := (rfl)
@[simp] theorem State.setBooth_jobs (s : State) (b : BitVec 12) (x : Booth) : (s.setBooth b x).jobs = s.jobs := (rfl)
@[simp] theorem State.setBooth_queues (s : State) (b : BitVec 12) (x : Booth) : (s.setBooth b x).queues = s.queues := (rfl)
@[simp] theorem State.setBooth_booths (s : State) (b : BitVec 12) (x : Booth) : (s.setBooth b x).booths = Tab.set {} s.booths b.toNat x := (rfl)
@[simp] theorem State.setBooth_flows (s : State) (b : BitVec 12) (x : Booth) : (s.setBooth b x).flows = s.flows := (rfl)
@[simp] theorem State.setBooth_domLast (s : State) (b : BitVec 12) (x : Booth) : (s.setBooth b x).domLast = s.domLast := (rfl)
@[simp] theorem State.setBooth_rr (s : State) (b : BitVec 12) (x : Booth) : (s.setBooth b x).rr = s.rr := (rfl)
@[simp] theorem State.setBooth_adm (s : State) (b : BitVec 12) (x : Booth) : (s.setBooth b x).adm = s.adm := (rfl)
@[simp] theorem State.setBooth_admGo (s : State) (b : BitVec 12) (x : Booth) : (s.setBooth b x).admGo = s.admGo := (rfl)
@[simp] theorem State.setBooth_terms (s : State) (b : BitVec 12) (x : Booth) : (s.setBooth b x).terms = s.terms := (rfl)
@[simp] theorem State.setBooth_busReply (s : State) (b : BitVec 12) (x : Booth) : (s.setBooth b x).busReply = s.busReply := (rfl)
@[simp] theorem State.setBooth_orr (s : State) (b : BitVec 12) (x : Booth) : (s.setBooth b x).orr = s.orr := (rfl)
@[simp] theorem State.setBooth_spy (s : State) (b : BitVec 12) (x : Booth) : (s.setBooth b x).spy = s.spy := (rfl)
@[simp] theorem State.setBooth_scans (s : State) (b : BitVec 12) (x : Booth) : (s.setBooth b x).scans = s.scans := (rfl)
@[simp] theorem State.setBooth_parts (s : State) (b : BitVec 12) (x : Booth) : (s.setBooth b x).parts = s.parts := (rfl)
@[simp] theorem State.setBooth_evals (s : State) (b : BitVec 12) (x : Booth) : (s.setBooth b x).evals = s.evals := (rfl)
@[simp] theorem State.setBooth_alm (s : State) (b : BitVec 12) (x : Booth) : (s.setBooth b x).alm = s.alm := (rfl)
@[simp] theorem State.setBooth_movers (s : State) (b : BitVec 12) (x : Booth) : (s.setBooth b x).movers = s.movers := (rfl)
@[simp] theorem State.setBooth_eng (s : State) (b : BitVec 12) (x : Booth) : (s.setBooth b x).eng = s.eng := (rfl)
@[simp] theorem State.setBooth_net (s : State) (b : BitVec 12) (x : Booth) : (s.setBooth b x).net = s.net := (rfl)
@[simp] theorem State.setBooth_host (s : State) (b : BitVec 12) (x : Booth) : (s.setBooth b x).host = s.host := (rfl)
@[simp] theorem State.setBooth_pins (s : State) (b : BitVec 12) (x : Booth) : (s.setBooth b x).pins = s.pins := (rfl)
@[simp] theorem State.setBooth_stg (s : State) (b : BitVec 12) (x : Booth) : (s.setBooth b x).stg = s.stg := (rfl)
@[simp] theorem State.setBooth_ctl (s : State) (b : BitVec 12) (x : Booth) : (s.setBooth b x).ctl = s.ctl := (rfl)

/-! ### setFlow -/

@[simp] theorem State.setFlow_pending (s : State) (f : BitVec 16) (x : Flow) : (s.setFlow f x).pending = s.pending := (rfl)
@[simp] theorem State.setFlow_free (s : State) (f : BitVec 16) (x : Flow) : (s.setFlow f x).free = s.free := (rfl)
@[simp] theorem State.setFlow_mer (s : State) (f : BitVec 16) (x : Flow) : (s.setFlow f x).mer = s.mer := (rfl)
@[simp] theorem State.setFlow_csr (s : State) (f : BitVec 16) (x : Flow) : (s.setFlow f x).csr = s.csr := (rfl)
@[simp] theorem State.setFlow_mem (s : State) (f : BitVec 16) (x : Flow) : (s.setFlow f x).mem = s.mem := (rfl)
@[simp] theorem State.setFlow_merge (s : State) (f : BitVec 16) (x : Flow) : (s.setFlow f x).merge = s.merge := (rfl)
@[simp] theorem State.setFlow_ecc (s : State) (f : BitVec 16) (x : Flow) : (s.setFlow f x).ecc = s.ecc := (rfl)
@[simp] theorem State.setFlow_ctxs (s : State) (f : BitVec 16) (x : Flow) : (s.setFlow f x).ctxs = s.ctxs := (rfl)
@[simp] theorem State.setFlow_execs (s : State) (f : BitVec 16) (x : Flow) : (s.setFlow f x).execs = s.execs := (rfl)
@[simp] theorem State.setFlow_l2 (s : State) (f : BitVec 16) (x : Flow) : (s.setFlow f x).l2 = s.l2 := (rfl)
@[simp] theorem State.setFlow_l2todo (s : State) (f : BitVec 16) (x : Flow) : (s.setFlow f x).l2todo = s.l2todo := (rfl)
@[simp] theorem State.setFlow_tlb (s : State) (f : BitVec 16) (x : Flow) : (s.setFlow f x).tlb = s.tlb := (rfl)
@[simp] theorem State.setFlow_jobs (s : State) (f : BitVec 16) (x : Flow) : (s.setFlow f x).jobs = s.jobs := (rfl)
@[simp] theorem State.setFlow_queues (s : State) (f : BitVec 16) (x : Flow) : (s.setFlow f x).queues = s.queues := (rfl)
@[simp] theorem State.setFlow_booths (s : State) (f : BitVec 16) (x : Flow) : (s.setFlow f x).booths = s.booths := (rfl)
@[simp] theorem State.setFlow_flows (s : State) (f : BitVec 16) (x : Flow) : (s.setFlow f x).flows = Tab.set {} s.flows f.toNat x := (rfl)
@[simp] theorem State.setFlow_domLast (s : State) (f : BitVec 16) (x : Flow) : (s.setFlow f x).domLast = s.domLast := (rfl)
@[simp] theorem State.setFlow_rr (s : State) (f : BitVec 16) (x : Flow) : (s.setFlow f x).rr = s.rr := (rfl)
@[simp] theorem State.setFlow_adm (s : State) (f : BitVec 16) (x : Flow) : (s.setFlow f x).adm = s.adm := (rfl)
@[simp] theorem State.setFlow_admGo (s : State) (f : BitVec 16) (x : Flow) : (s.setFlow f x).admGo = s.admGo := (rfl)
@[simp] theorem State.setFlow_terms (s : State) (f : BitVec 16) (x : Flow) : (s.setFlow f x).terms = s.terms := (rfl)
@[simp] theorem State.setFlow_busReply (s : State) (f : BitVec 16) (x : Flow) : (s.setFlow f x).busReply = s.busReply := (rfl)
@[simp] theorem State.setFlow_orr (s : State) (f : BitVec 16) (x : Flow) : (s.setFlow f x).orr = s.orr := (rfl)
@[simp] theorem State.setFlow_spy (s : State) (f : BitVec 16) (x : Flow) : (s.setFlow f x).spy = s.spy := (rfl)
@[simp] theorem State.setFlow_scans (s : State) (f : BitVec 16) (x : Flow) : (s.setFlow f x).scans = s.scans := (rfl)
@[simp] theorem State.setFlow_parts (s : State) (f : BitVec 16) (x : Flow) : (s.setFlow f x).parts = s.parts := (rfl)
@[simp] theorem State.setFlow_evals (s : State) (f : BitVec 16) (x : Flow) : (s.setFlow f x).evals = s.evals := (rfl)
@[simp] theorem State.setFlow_alm (s : State) (f : BitVec 16) (x : Flow) : (s.setFlow f x).alm = s.alm := (rfl)
@[simp] theorem State.setFlow_movers (s : State) (f : BitVec 16) (x : Flow) : (s.setFlow f x).movers = s.movers := (rfl)
@[simp] theorem State.setFlow_eng (s : State) (f : BitVec 16) (x : Flow) : (s.setFlow f x).eng = s.eng := (rfl)
@[simp] theorem State.setFlow_net (s : State) (f : BitVec 16) (x : Flow) : (s.setFlow f x).net = s.net := (rfl)
@[simp] theorem State.setFlow_host (s : State) (f : BitVec 16) (x : Flow) : (s.setFlow f x).host = s.host := (rfl)
@[simp] theorem State.setFlow_pins (s : State) (f : BitVec 16) (x : Flow) : (s.setFlow f x).pins = s.pins := (rfl)
@[simp] theorem State.setFlow_stg (s : State) (f : BitVec 16) (x : Flow) : (s.setFlow f x).stg = s.stg := (rfl)
@[simp] theorem State.setFlow_ctl (s : State) (f : BitVec 16) (x : Flow) : (s.setFlow f x).ctl = s.ctl := (rfl)

/-! ### setThread -/

@[simp] theorem State.setThread_pending (s : State) (t : Nat) (x : Thread) : (s.setThread t x).pending = s.pending := (rfl)
@[simp] theorem State.setThread_free (s : State) (t : Nat) (x : Thread) : (s.setThread t x).free = s.free := (rfl)
@[simp] theorem State.setThread_mer (s : State) (t : Nat) (x : Thread) : (s.setThread t x).mer = s.mer := (rfl)
@[simp] theorem State.setThread_csr (s : State) (t : Nat) (x : Thread) : (s.setThread t x).csr = s.csr := (rfl)
@[simp] theorem State.setThread_mem (s : State) (t : Nat) (x : Thread) : (s.setThread t x).mem = s.mem := (rfl)
@[simp] theorem State.setThread_merge (s : State) (t : Nat) (x : Thread) : (s.setThread t x).merge = s.merge := (rfl)
@[simp] theorem State.setThread_ecc (s : State) (t : Nat) (x : Thread) : (s.setThread t x).ecc = s.ecc := (rfl)
@[simp] theorem State.setThread_ctxs (s : State) (t : Nat) (x : Thread) : (s.setThread t x).ctxs = s.ctxs := (rfl)
@[simp] theorem State.setThread_execs (s : State) (t : Nat) (x : Thread) : (s.setThread t x).execs = s.execs := (rfl)
@[simp] theorem State.setThread_l2 (s : State) (t : Nat) (x : Thread) : (s.setThread t x).l2 = s.l2 := (rfl)
@[simp] theorem State.setThread_l2todo (s : State) (t : Nat) (x : Thread) : (s.setThread t x).l2todo = s.l2todo := (rfl)
@[simp] theorem State.setThread_tlb (s : State) (t : Nat) (x : Thread) : (s.setThread t x).tlb = s.tlb := (rfl)
@[simp] theorem State.setThread_jobs (s : State) (t : Nat) (x : Thread) : (s.setThread t x).jobs = s.jobs := (rfl)
@[simp] theorem State.setThread_queues (s : State) (t : Nat) (x : Thread) : (s.setThread t x).queues = s.queues := (rfl)
@[simp] theorem State.setThread_booths (s : State) (t : Nat) (x : Thread) : (s.setThread t x).booths = s.booths := (rfl)
@[simp] theorem State.setThread_flows (s : State) (t : Nat) (x : Thread) : (s.setThread t x).flows = s.flows := (rfl)
@[simp] theorem State.setThread_domLast (s : State) (t : Nat) (x : Thread) : (s.setThread t x).domLast = s.domLast := (rfl)
@[simp] theorem State.setThread_rr (s : State) (t : Nat) (x : Thread) : (s.setThread t x).rr = s.rr := (rfl)
@[simp] theorem State.setThread_adm (s : State) (t : Nat) (x : Thread) : (s.setThread t x).adm = s.adm := (rfl)
@[simp] theorem State.setThread_admGo (s : State) (t : Nat) (x : Thread) : (s.setThread t x).admGo = s.admGo := (rfl)
@[simp] theorem State.setThread_terms (s : State) (t : Nat) (x : Thread) : (s.setThread t x).terms = s.terms := (rfl)
@[simp] theorem State.setThread_busReply (s : State) (t : Nat) (x : Thread) : (s.setThread t x).busReply = s.busReply := (rfl)
@[simp] theorem State.setThread_orr (s : State) (t : Nat) (x : Thread) : (s.setThread t x).orr = { s.orr with thr := Tab.set {} s.orr.thr t x } := (rfl)
@[simp] theorem State.setThread_spy (s : State) (t : Nat) (x : Thread) : (s.setThread t x).spy = s.spy := (rfl)
@[simp] theorem State.setThread_scans (s : State) (t : Nat) (x : Thread) : (s.setThread t x).scans = s.scans := (rfl)
@[simp] theorem State.setThread_parts (s : State) (t : Nat) (x : Thread) : (s.setThread t x).parts = s.parts := (rfl)
@[simp] theorem State.setThread_evals (s : State) (t : Nat) (x : Thread) : (s.setThread t x).evals = s.evals := (rfl)
@[simp] theorem State.setThread_alm (s : State) (t : Nat) (x : Thread) : (s.setThread t x).alm = s.alm := (rfl)
@[simp] theorem State.setThread_movers (s : State) (t : Nat) (x : Thread) : (s.setThread t x).movers = s.movers := (rfl)
@[simp] theorem State.setThread_eng (s : State) (t : Nat) (x : Thread) : (s.setThread t x).eng = s.eng := (rfl)
@[simp] theorem State.setThread_net (s : State) (t : Nat) (x : Thread) : (s.setThread t x).net = s.net := (rfl)
@[simp] theorem State.setThread_host (s : State) (t : Nat) (x : Thread) : (s.setThread t x).host = s.host := (rfl)
@[simp] theorem State.setThread_pins (s : State) (t : Nat) (x : Thread) : (s.setThread t x).pins = s.pins := (rfl)
@[simp] theorem State.setThread_stg (s : State) (t : Nat) (x : Thread) : (s.setThread t x).stg = s.stg := (rfl)
@[simp] theorem State.setThread_ctl (s : State) (t : Nat) (x : Thread) : (s.setThread t x).ctl = s.ctl := (rfl)

/-! ### setSpyTable -/

@[simp] theorem State.setSpyTable_pending (s : State) (t : Nat) (x : SpyTable) : (s.setSpyTable t x).pending = s.pending := (rfl)
@[simp] theorem State.setSpyTable_free (s : State) (t : Nat) (x : SpyTable) : (s.setSpyTable t x).free = s.free := (rfl)
@[simp] theorem State.setSpyTable_mer (s : State) (t : Nat) (x : SpyTable) : (s.setSpyTable t x).mer = s.mer := (rfl)
@[simp] theorem State.setSpyTable_csr (s : State) (t : Nat) (x : SpyTable) : (s.setSpyTable t x).csr = s.csr := (rfl)
@[simp] theorem State.setSpyTable_mem (s : State) (t : Nat) (x : SpyTable) : (s.setSpyTable t x).mem = s.mem := (rfl)
@[simp] theorem State.setSpyTable_merge (s : State) (t : Nat) (x : SpyTable) : (s.setSpyTable t x).merge = s.merge := (rfl)
@[simp] theorem State.setSpyTable_ecc (s : State) (t : Nat) (x : SpyTable) : (s.setSpyTable t x).ecc = s.ecc := (rfl)
@[simp] theorem State.setSpyTable_ctxs (s : State) (t : Nat) (x : SpyTable) : (s.setSpyTable t x).ctxs = s.ctxs := (rfl)
@[simp] theorem State.setSpyTable_execs (s : State) (t : Nat) (x : SpyTable) : (s.setSpyTable t x).execs = s.execs := (rfl)
@[simp] theorem State.setSpyTable_l2 (s : State) (t : Nat) (x : SpyTable) : (s.setSpyTable t x).l2 = s.l2 := (rfl)
@[simp] theorem State.setSpyTable_l2todo (s : State) (t : Nat) (x : SpyTable) : (s.setSpyTable t x).l2todo = s.l2todo := (rfl)
@[simp] theorem State.setSpyTable_tlb (s : State) (t : Nat) (x : SpyTable) : (s.setSpyTable t x).tlb = s.tlb := (rfl)
@[simp] theorem State.setSpyTable_jobs (s : State) (t : Nat) (x : SpyTable) : (s.setSpyTable t x).jobs = s.jobs := (rfl)
@[simp] theorem State.setSpyTable_queues (s : State) (t : Nat) (x : SpyTable) : (s.setSpyTable t x).queues = s.queues := (rfl)
@[simp] theorem State.setSpyTable_booths (s : State) (t : Nat) (x : SpyTable) : (s.setSpyTable t x).booths = s.booths := (rfl)
@[simp] theorem State.setSpyTable_flows (s : State) (t : Nat) (x : SpyTable) : (s.setSpyTable t x).flows = s.flows := (rfl)
@[simp] theorem State.setSpyTable_domLast (s : State) (t : Nat) (x : SpyTable) : (s.setSpyTable t x).domLast = s.domLast := (rfl)
@[simp] theorem State.setSpyTable_rr (s : State) (t : Nat) (x : SpyTable) : (s.setSpyTable t x).rr = s.rr := (rfl)
@[simp] theorem State.setSpyTable_adm (s : State) (t : Nat) (x : SpyTable) : (s.setSpyTable t x).adm = s.adm := (rfl)
@[simp] theorem State.setSpyTable_admGo (s : State) (t : Nat) (x : SpyTable) : (s.setSpyTable t x).admGo = s.admGo := (rfl)
@[simp] theorem State.setSpyTable_terms (s : State) (t : Nat) (x : SpyTable) : (s.setSpyTable t x).terms = s.terms := (rfl)
@[simp] theorem State.setSpyTable_busReply (s : State) (t : Nat) (x : SpyTable) : (s.setSpyTable t x).busReply = s.busReply := (rfl)
@[simp] theorem State.setSpyTable_orr (s : State) (t : Nat) (x : SpyTable) : (s.setSpyTable t x).orr = s.orr := (rfl)
@[simp] theorem State.setSpyTable_spy (s : State) (t : Nat) (x : SpyTable) : (s.setSpyTable t x).spy = { s.spy with tables := Tab.set {} s.spy.tables t x } := (rfl)
@[simp] theorem State.setSpyTable_scans (s : State) (t : Nat) (x : SpyTable) : (s.setSpyTable t x).scans = s.scans := (rfl)
@[simp] theorem State.setSpyTable_parts (s : State) (t : Nat) (x : SpyTable) : (s.setSpyTable t x).parts = s.parts := (rfl)
@[simp] theorem State.setSpyTable_evals (s : State) (t : Nat) (x : SpyTable) : (s.setSpyTable t x).evals = s.evals := (rfl)
@[simp] theorem State.setSpyTable_alm (s : State) (t : Nat) (x : SpyTable) : (s.setSpyTable t x).alm = s.alm := (rfl)
@[simp] theorem State.setSpyTable_movers (s : State) (t : Nat) (x : SpyTable) : (s.setSpyTable t x).movers = s.movers := (rfl)
@[simp] theorem State.setSpyTable_eng (s : State) (t : Nat) (x : SpyTable) : (s.setSpyTable t x).eng = s.eng := (rfl)
@[simp] theorem State.setSpyTable_net (s : State) (t : Nat) (x : SpyTable) : (s.setSpyTable t x).net = s.net := (rfl)
@[simp] theorem State.setSpyTable_host (s : State) (t : Nat) (x : SpyTable) : (s.setSpyTable t x).host = s.host := (rfl)
@[simp] theorem State.setSpyTable_pins (s : State) (t : Nat) (x : SpyTable) : (s.setSpyTable t x).pins = s.pins := (rfl)
@[simp] theorem State.setSpyTable_stg (s : State) (t : Nat) (x : SpyTable) : (s.setSpyTable t x).stg = s.stg := (rfl)
@[simp] theorem State.setSpyTable_ctl (s : State) (t : Nat) (x : SpyTable) : (s.setSpyTable t x).ctl = s.ctl := (rfl)

/-! ### setScan -/

@[simp] theorem State.setScan_pending (s : State) (n : Nat) (x : Scan) : (s.setScan n x).pending = s.pending := (rfl)
@[simp] theorem State.setScan_free (s : State) (n : Nat) (x : Scan) : (s.setScan n x).free = s.free := (rfl)
@[simp] theorem State.setScan_mer (s : State) (n : Nat) (x : Scan) : (s.setScan n x).mer = s.mer := (rfl)
@[simp] theorem State.setScan_csr (s : State) (n : Nat) (x : Scan) : (s.setScan n x).csr = s.csr := (rfl)
@[simp] theorem State.setScan_mem (s : State) (n : Nat) (x : Scan) : (s.setScan n x).mem = s.mem := (rfl)
@[simp] theorem State.setScan_merge (s : State) (n : Nat) (x : Scan) : (s.setScan n x).merge = s.merge := (rfl)
@[simp] theorem State.setScan_ecc (s : State) (n : Nat) (x : Scan) : (s.setScan n x).ecc = s.ecc := (rfl)
@[simp] theorem State.setScan_ctxs (s : State) (n : Nat) (x : Scan) : (s.setScan n x).ctxs = s.ctxs := (rfl)
@[simp] theorem State.setScan_execs (s : State) (n : Nat) (x : Scan) : (s.setScan n x).execs = s.execs := (rfl)
@[simp] theorem State.setScan_l2 (s : State) (n : Nat) (x : Scan) : (s.setScan n x).l2 = s.l2 := (rfl)
@[simp] theorem State.setScan_l2todo (s : State) (n : Nat) (x : Scan) : (s.setScan n x).l2todo = s.l2todo := (rfl)
@[simp] theorem State.setScan_tlb (s : State) (n : Nat) (x : Scan) : (s.setScan n x).tlb = s.tlb := (rfl)
@[simp] theorem State.setScan_jobs (s : State) (n : Nat) (x : Scan) : (s.setScan n x).jobs = s.jobs := (rfl)
@[simp] theorem State.setScan_queues (s : State) (n : Nat) (x : Scan) : (s.setScan n x).queues = s.queues := (rfl)
@[simp] theorem State.setScan_booths (s : State) (n : Nat) (x : Scan) : (s.setScan n x).booths = s.booths := (rfl)
@[simp] theorem State.setScan_flows (s : State) (n : Nat) (x : Scan) : (s.setScan n x).flows = s.flows := (rfl)
@[simp] theorem State.setScan_domLast (s : State) (n : Nat) (x : Scan) : (s.setScan n x).domLast = s.domLast := (rfl)
@[simp] theorem State.setScan_rr (s : State) (n : Nat) (x : Scan) : (s.setScan n x).rr = s.rr := (rfl)
@[simp] theorem State.setScan_adm (s : State) (n : Nat) (x : Scan) : (s.setScan n x).adm = s.adm := (rfl)
@[simp] theorem State.setScan_admGo (s : State) (n : Nat) (x : Scan) : (s.setScan n x).admGo = s.admGo := (rfl)
@[simp] theorem State.setScan_terms (s : State) (n : Nat) (x : Scan) : (s.setScan n x).terms = s.terms := (rfl)
@[simp] theorem State.setScan_busReply (s : State) (n : Nat) (x : Scan) : (s.setScan n x).busReply = s.busReply := (rfl)
@[simp] theorem State.setScan_orr (s : State) (n : Nat) (x : Scan) : (s.setScan n x).orr = s.orr := (rfl)
@[simp] theorem State.setScan_spy (s : State) (n : Nat) (x : Scan) : (s.setScan n x).spy = s.spy := (rfl)
@[simp] theorem State.setScan_scans (s : State) (n : Nat) (x : Scan) : (s.setScan n x).scans = Tab.set {} s.scans n x := (rfl)
@[simp] theorem State.setScan_parts (s : State) (n : Nat) (x : Scan) : (s.setScan n x).parts = s.parts := (rfl)
@[simp] theorem State.setScan_evals (s : State) (n : Nat) (x : Scan) : (s.setScan n x).evals = s.evals := (rfl)
@[simp] theorem State.setScan_alm (s : State) (n : Nat) (x : Scan) : (s.setScan n x).alm = s.alm := (rfl)
@[simp] theorem State.setScan_movers (s : State) (n : Nat) (x : Scan) : (s.setScan n x).movers = s.movers := (rfl)
@[simp] theorem State.setScan_eng (s : State) (n : Nat) (x : Scan) : (s.setScan n x).eng = s.eng := (rfl)
@[simp] theorem State.setScan_net (s : State) (n : Nat) (x : Scan) : (s.setScan n x).net = s.net := (rfl)
@[simp] theorem State.setScan_host (s : State) (n : Nat) (x : Scan) : (s.setScan n x).host = s.host := (rfl)
@[simp] theorem State.setScan_pins (s : State) (n : Nat) (x : Scan) : (s.setScan n x).pins = s.pins := (rfl)
@[simp] theorem State.setScan_stg (s : State) (n : Nat) (x : Scan) : (s.setScan n x).stg = s.stg := (rfl)
@[simp] theorem State.setScan_ctl (s : State) (n : Nat) (x : Scan) : (s.setScan n x).ctl = s.ctl := (rfl)

/-! ### setPart -/

@[simp] theorem State.setPart_pending (s : State) (k : Nat) (x : Part) : (s.setPart k x).pending = s.pending := (rfl)
@[simp] theorem State.setPart_free (s : State) (k : Nat) (x : Part) : (s.setPart k x).free = s.free := (rfl)
@[simp] theorem State.setPart_mer (s : State) (k : Nat) (x : Part) : (s.setPart k x).mer = s.mer := (rfl)
@[simp] theorem State.setPart_csr (s : State) (k : Nat) (x : Part) : (s.setPart k x).csr = s.csr := (rfl)
@[simp] theorem State.setPart_mem (s : State) (k : Nat) (x : Part) : (s.setPart k x).mem = s.mem := (rfl)
@[simp] theorem State.setPart_merge (s : State) (k : Nat) (x : Part) : (s.setPart k x).merge = s.merge := (rfl)
@[simp] theorem State.setPart_ecc (s : State) (k : Nat) (x : Part) : (s.setPart k x).ecc = s.ecc := (rfl)
@[simp] theorem State.setPart_ctxs (s : State) (k : Nat) (x : Part) : (s.setPart k x).ctxs = s.ctxs := (rfl)
@[simp] theorem State.setPart_execs (s : State) (k : Nat) (x : Part) : (s.setPart k x).execs = s.execs := (rfl)
@[simp] theorem State.setPart_l2 (s : State) (k : Nat) (x : Part) : (s.setPart k x).l2 = s.l2 := (rfl)
@[simp] theorem State.setPart_l2todo (s : State) (k : Nat) (x : Part) : (s.setPart k x).l2todo = s.l2todo := (rfl)
@[simp] theorem State.setPart_tlb (s : State) (k : Nat) (x : Part) : (s.setPart k x).tlb = s.tlb := (rfl)
@[simp] theorem State.setPart_jobs (s : State) (k : Nat) (x : Part) : (s.setPart k x).jobs = s.jobs := (rfl)
@[simp] theorem State.setPart_queues (s : State) (k : Nat) (x : Part) : (s.setPart k x).queues = s.queues := (rfl)
@[simp] theorem State.setPart_booths (s : State) (k : Nat) (x : Part) : (s.setPart k x).booths = s.booths := (rfl)
@[simp] theorem State.setPart_flows (s : State) (k : Nat) (x : Part) : (s.setPart k x).flows = s.flows := (rfl)
@[simp] theorem State.setPart_domLast (s : State) (k : Nat) (x : Part) : (s.setPart k x).domLast = s.domLast := (rfl)
@[simp] theorem State.setPart_rr (s : State) (k : Nat) (x : Part) : (s.setPart k x).rr = s.rr := (rfl)
@[simp] theorem State.setPart_adm (s : State) (k : Nat) (x : Part) : (s.setPart k x).adm = s.adm := (rfl)
@[simp] theorem State.setPart_admGo (s : State) (k : Nat) (x : Part) : (s.setPart k x).admGo = s.admGo := (rfl)
@[simp] theorem State.setPart_terms (s : State) (k : Nat) (x : Part) : (s.setPart k x).terms = s.terms := (rfl)
@[simp] theorem State.setPart_busReply (s : State) (k : Nat) (x : Part) : (s.setPart k x).busReply = s.busReply := (rfl)
@[simp] theorem State.setPart_orr (s : State) (k : Nat) (x : Part) : (s.setPart k x).orr = s.orr := (rfl)
@[simp] theorem State.setPart_spy (s : State) (k : Nat) (x : Part) : (s.setPart k x).spy = s.spy := (rfl)
@[simp] theorem State.setPart_scans (s : State) (k : Nat) (x : Part) : (s.setPart k x).scans = s.scans := (rfl)
@[simp] theorem State.setPart_parts (s : State) (k : Nat) (x : Part) : (s.setPart k x).parts = Tab.set {} s.parts k x := (rfl)
@[simp] theorem State.setPart_evals (s : State) (k : Nat) (x : Part) : (s.setPart k x).evals = s.evals := (rfl)
@[simp] theorem State.setPart_alm (s : State) (k : Nat) (x : Part) : (s.setPart k x).alm = s.alm := (rfl)
@[simp] theorem State.setPart_movers (s : State) (k : Nat) (x : Part) : (s.setPart k x).movers = s.movers := (rfl)
@[simp] theorem State.setPart_eng (s : State) (k : Nat) (x : Part) : (s.setPart k x).eng = s.eng := (rfl)
@[simp] theorem State.setPart_net (s : State) (k : Nat) (x : Part) : (s.setPart k x).net = s.net := (rfl)
@[simp] theorem State.setPart_host (s : State) (k : Nat) (x : Part) : (s.setPart k x).host = s.host := (rfl)
@[simp] theorem State.setPart_pins (s : State) (k : Nat) (x : Part) : (s.setPart k x).pins = s.pins := (rfl)
@[simp] theorem State.setPart_stg (s : State) (k : Nat) (x : Part) : (s.setPart k x).stg = s.stg := (rfl)
@[simp] theorem State.setPart_ctl (s : State) (k : Nat) (x : Part) : (s.setPart k x).ctl = s.ctl := (rfl)

/-! ### setSv -/

@[simp] theorem State.setSv_pending (s : State) (k : Nat) (x : SvEval) : (s.setSv k x).pending = s.pending := (rfl)
@[simp] theorem State.setSv_free (s : State) (k : Nat) (x : SvEval) : (s.setSv k x).free = s.free := (rfl)
@[simp] theorem State.setSv_mer (s : State) (k : Nat) (x : SvEval) : (s.setSv k x).mer = s.mer := (rfl)
@[simp] theorem State.setSv_csr (s : State) (k : Nat) (x : SvEval) : (s.setSv k x).csr = s.csr := (rfl)
@[simp] theorem State.setSv_mem (s : State) (k : Nat) (x : SvEval) : (s.setSv k x).mem = s.mem := (rfl)
@[simp] theorem State.setSv_merge (s : State) (k : Nat) (x : SvEval) : (s.setSv k x).merge = s.merge := (rfl)
@[simp] theorem State.setSv_ecc (s : State) (k : Nat) (x : SvEval) : (s.setSv k x).ecc = s.ecc := (rfl)
@[simp] theorem State.setSv_ctxs (s : State) (k : Nat) (x : SvEval) : (s.setSv k x).ctxs = s.ctxs := (rfl)
@[simp] theorem State.setSv_execs (s : State) (k : Nat) (x : SvEval) : (s.setSv k x).execs = s.execs := (rfl)
@[simp] theorem State.setSv_l2 (s : State) (k : Nat) (x : SvEval) : (s.setSv k x).l2 = s.l2 := (rfl)
@[simp] theorem State.setSv_l2todo (s : State) (k : Nat) (x : SvEval) : (s.setSv k x).l2todo = s.l2todo := (rfl)
@[simp] theorem State.setSv_tlb (s : State) (k : Nat) (x : SvEval) : (s.setSv k x).tlb = s.tlb := (rfl)
@[simp] theorem State.setSv_jobs (s : State) (k : Nat) (x : SvEval) : (s.setSv k x).jobs = s.jobs := (rfl)
@[simp] theorem State.setSv_queues (s : State) (k : Nat) (x : SvEval) : (s.setSv k x).queues = s.queues := (rfl)
@[simp] theorem State.setSv_booths (s : State) (k : Nat) (x : SvEval) : (s.setSv k x).booths = s.booths := (rfl)
@[simp] theorem State.setSv_flows (s : State) (k : Nat) (x : SvEval) : (s.setSv k x).flows = s.flows := (rfl)
@[simp] theorem State.setSv_domLast (s : State) (k : Nat) (x : SvEval) : (s.setSv k x).domLast = s.domLast := (rfl)
@[simp] theorem State.setSv_rr (s : State) (k : Nat) (x : SvEval) : (s.setSv k x).rr = s.rr := (rfl)
@[simp] theorem State.setSv_adm (s : State) (k : Nat) (x : SvEval) : (s.setSv k x).adm = s.adm := (rfl)
@[simp] theorem State.setSv_admGo (s : State) (k : Nat) (x : SvEval) : (s.setSv k x).admGo = s.admGo := (rfl)
@[simp] theorem State.setSv_terms (s : State) (k : Nat) (x : SvEval) : (s.setSv k x).terms = s.terms := (rfl)
@[simp] theorem State.setSv_busReply (s : State) (k : Nat) (x : SvEval) : (s.setSv k x).busReply = s.busReply := (rfl)
@[simp] theorem State.setSv_orr (s : State) (k : Nat) (x : SvEval) : (s.setSv k x).orr = s.orr := (rfl)
@[simp] theorem State.setSv_spy (s : State) (k : Nat) (x : SvEval) : (s.setSv k x).spy = s.spy := (rfl)
@[simp] theorem State.setSv_scans (s : State) (k : Nat) (x : SvEval) : (s.setSv k x).scans = s.scans := (rfl)
@[simp] theorem State.setSv_parts (s : State) (k : Nat) (x : SvEval) : (s.setSv k x).parts = s.parts := (rfl)
@[simp] theorem State.setSv_evals (s : State) (k : Nat) (x : SvEval) : (s.setSv k x).evals = Tab.set {} s.evals k x := (rfl)
@[simp] theorem State.setSv_alm (s : State) (k : Nat) (x : SvEval) : (s.setSv k x).alm = s.alm := (rfl)
@[simp] theorem State.setSv_movers (s : State) (k : Nat) (x : SvEval) : (s.setSv k x).movers = s.movers := (rfl)
@[simp] theorem State.setSv_eng (s : State) (k : Nat) (x : SvEval) : (s.setSv k x).eng = s.eng := (rfl)
@[simp] theorem State.setSv_net (s : State) (k : Nat) (x : SvEval) : (s.setSv k x).net = s.net := (rfl)
@[simp] theorem State.setSv_host (s : State) (k : Nat) (x : SvEval) : (s.setSv k x).host = s.host := (rfl)
@[simp] theorem State.setSv_pins (s : State) (k : Nat) (x : SvEval) : (s.setSv k x).pins = s.pins := (rfl)
@[simp] theorem State.setSv_stg (s : State) (k : Nat) (x : SvEval) : (s.setSv k x).stg = s.stg := (rfl)
@[simp] theorem State.setSv_ctl (s : State) (k : Nat) (x : SvEval) : (s.setSv k x).ctl = s.ctl := (rfl)

/-! ### setNs -/

@[simp] theorem State.setNs_pending (s : State) (n : Nat) (x : Ns) : (s.setNs n x).pending = s.pending := (rfl)
@[simp] theorem State.setNs_free (s : State) (n : Nat) (x : Ns) : (s.setNs n x).free = s.free := (rfl)
@[simp] theorem State.setNs_mer (s : State) (n : Nat) (x : Ns) : (s.setNs n x).mer = s.mer := (rfl)
@[simp] theorem State.setNs_csr (s : State) (n : Nat) (x : Ns) : (s.setNs n x).csr = s.csr := (rfl)
@[simp] theorem State.setNs_mem (s : State) (n : Nat) (x : Ns) : (s.setNs n x).mem = s.mem := (rfl)
@[simp] theorem State.setNs_merge (s : State) (n : Nat) (x : Ns) : (s.setNs n x).merge = s.merge := (rfl)
@[simp] theorem State.setNs_ecc (s : State) (n : Nat) (x : Ns) : (s.setNs n x).ecc = s.ecc := (rfl)
@[simp] theorem State.setNs_ctxs (s : State) (n : Nat) (x : Ns) : (s.setNs n x).ctxs = s.ctxs := (rfl)
@[simp] theorem State.setNs_execs (s : State) (n : Nat) (x : Ns) : (s.setNs n x).execs = s.execs := (rfl)
@[simp] theorem State.setNs_l2 (s : State) (n : Nat) (x : Ns) : (s.setNs n x).l2 = s.l2 := (rfl)
@[simp] theorem State.setNs_l2todo (s : State) (n : Nat) (x : Ns) : (s.setNs n x).l2todo = s.l2todo := (rfl)
@[simp] theorem State.setNs_tlb (s : State) (n : Nat) (x : Ns) : (s.setNs n x).tlb = s.tlb := (rfl)
@[simp] theorem State.setNs_jobs (s : State) (n : Nat) (x : Ns) : (s.setNs n x).jobs = s.jobs := (rfl)
@[simp] theorem State.setNs_queues (s : State) (n : Nat) (x : Ns) : (s.setNs n x).queues = s.queues := (rfl)
@[simp] theorem State.setNs_booths (s : State) (n : Nat) (x : Ns) : (s.setNs n x).booths = s.booths := (rfl)
@[simp] theorem State.setNs_flows (s : State) (n : Nat) (x : Ns) : (s.setNs n x).flows = s.flows := (rfl)
@[simp] theorem State.setNs_domLast (s : State) (n : Nat) (x : Ns) : (s.setNs n x).domLast = s.domLast := (rfl)
@[simp] theorem State.setNs_rr (s : State) (n : Nat) (x : Ns) : (s.setNs n x).rr = s.rr := (rfl)
@[simp] theorem State.setNs_adm (s : State) (n : Nat) (x : Ns) : (s.setNs n x).adm = s.adm := (rfl)
@[simp] theorem State.setNs_admGo (s : State) (n : Nat) (x : Ns) : (s.setNs n x).admGo = s.admGo := (rfl)
@[simp] theorem State.setNs_terms (s : State) (n : Nat) (x : Ns) : (s.setNs n x).terms = s.terms := (rfl)
@[simp] theorem State.setNs_busReply (s : State) (n : Nat) (x : Ns) : (s.setNs n x).busReply = s.busReply := (rfl)
@[simp] theorem State.setNs_orr (s : State) (n : Nat) (x : Ns) : (s.setNs n x).orr = s.orr := (rfl)
@[simp] theorem State.setNs_spy (s : State) (n : Nat) (x : Ns) : (s.setNs n x).spy = s.spy := (rfl)
@[simp] theorem State.setNs_scans (s : State) (n : Nat) (x : Ns) : (s.setNs n x).scans = s.scans := (rfl)
@[simp] theorem State.setNs_parts (s : State) (n : Nat) (x : Ns) : (s.setNs n x).parts = s.parts := (rfl)
@[simp] theorem State.setNs_evals (s : State) (n : Nat) (x : Ns) : (s.setNs n x).evals = s.evals := (rfl)
@[simp] theorem State.setNs_alm (s : State) (n : Nat) (x : Ns) : (s.setNs n x).alm = { s.alm with ns := Tab.set {} s.alm.ns n x } := (rfl)
@[simp] theorem State.setNs_movers (s : State) (n : Nat) (x : Ns) : (s.setNs n x).movers = s.movers := (rfl)
@[simp] theorem State.setNs_eng (s : State) (n : Nat) (x : Ns) : (s.setNs n x).eng = s.eng := (rfl)
@[simp] theorem State.setNs_net (s : State) (n : Nat) (x : Ns) : (s.setNs n x).net = s.net := (rfl)
@[simp] theorem State.setNs_host (s : State) (n : Nat) (x : Ns) : (s.setNs n x).host = s.host := (rfl)
@[simp] theorem State.setNs_pins (s : State) (n : Nat) (x : Ns) : (s.setNs n x).pins = s.pins := (rfl)
@[simp] theorem State.setNs_stg (s : State) (n : Nat) (x : Ns) : (s.setNs n x).stg = s.stg := (rfl)
@[simp] theorem State.setNs_ctl (s : State) (n : Nat) (x : Ns) : (s.setNs n x).ctl = s.ctl := (rfl)

/-! ### setMover -/

@[simp] theorem State.setMover_pending (s : State) (n : Nat) (x : Mover) : (s.setMover n x).pending = s.pending := (rfl)
@[simp] theorem State.setMover_free (s : State) (n : Nat) (x : Mover) : (s.setMover n x).free = s.free := (rfl)
@[simp] theorem State.setMover_mer (s : State) (n : Nat) (x : Mover) : (s.setMover n x).mer = s.mer := (rfl)
@[simp] theorem State.setMover_csr (s : State) (n : Nat) (x : Mover) : (s.setMover n x).csr = s.csr := (rfl)
@[simp] theorem State.setMover_mem (s : State) (n : Nat) (x : Mover) : (s.setMover n x).mem = s.mem := (rfl)
@[simp] theorem State.setMover_merge (s : State) (n : Nat) (x : Mover) : (s.setMover n x).merge = s.merge := (rfl)
@[simp] theorem State.setMover_ecc (s : State) (n : Nat) (x : Mover) : (s.setMover n x).ecc = s.ecc := (rfl)
@[simp] theorem State.setMover_ctxs (s : State) (n : Nat) (x : Mover) : (s.setMover n x).ctxs = s.ctxs := (rfl)
@[simp] theorem State.setMover_execs (s : State) (n : Nat) (x : Mover) : (s.setMover n x).execs = s.execs := (rfl)
@[simp] theorem State.setMover_l2 (s : State) (n : Nat) (x : Mover) : (s.setMover n x).l2 = s.l2 := (rfl)
@[simp] theorem State.setMover_l2todo (s : State) (n : Nat) (x : Mover) : (s.setMover n x).l2todo = s.l2todo := (rfl)
@[simp] theorem State.setMover_tlb (s : State) (n : Nat) (x : Mover) : (s.setMover n x).tlb = s.tlb := (rfl)
@[simp] theorem State.setMover_jobs (s : State) (n : Nat) (x : Mover) : (s.setMover n x).jobs = s.jobs := (rfl)
@[simp] theorem State.setMover_queues (s : State) (n : Nat) (x : Mover) : (s.setMover n x).queues = s.queues := (rfl)
@[simp] theorem State.setMover_booths (s : State) (n : Nat) (x : Mover) : (s.setMover n x).booths = s.booths := (rfl)
@[simp] theorem State.setMover_flows (s : State) (n : Nat) (x : Mover) : (s.setMover n x).flows = s.flows := (rfl)
@[simp] theorem State.setMover_domLast (s : State) (n : Nat) (x : Mover) : (s.setMover n x).domLast = s.domLast := (rfl)
@[simp] theorem State.setMover_rr (s : State) (n : Nat) (x : Mover) : (s.setMover n x).rr = s.rr := (rfl)
@[simp] theorem State.setMover_adm (s : State) (n : Nat) (x : Mover) : (s.setMover n x).adm = s.adm := (rfl)
@[simp] theorem State.setMover_admGo (s : State) (n : Nat) (x : Mover) : (s.setMover n x).admGo = s.admGo := (rfl)
@[simp] theorem State.setMover_terms (s : State) (n : Nat) (x : Mover) : (s.setMover n x).terms = s.terms := (rfl)
@[simp] theorem State.setMover_busReply (s : State) (n : Nat) (x : Mover) : (s.setMover n x).busReply = s.busReply := (rfl)
@[simp] theorem State.setMover_orr (s : State) (n : Nat) (x : Mover) : (s.setMover n x).orr = s.orr := (rfl)
@[simp] theorem State.setMover_spy (s : State) (n : Nat) (x : Mover) : (s.setMover n x).spy = s.spy := (rfl)
@[simp] theorem State.setMover_scans (s : State) (n : Nat) (x : Mover) : (s.setMover n x).scans = s.scans := (rfl)
@[simp] theorem State.setMover_parts (s : State) (n : Nat) (x : Mover) : (s.setMover n x).parts = s.parts := (rfl)
@[simp] theorem State.setMover_evals (s : State) (n : Nat) (x : Mover) : (s.setMover n x).evals = s.evals := (rfl)
@[simp] theorem State.setMover_alm (s : State) (n : Nat) (x : Mover) : (s.setMover n x).alm = s.alm := (rfl)
@[simp] theorem State.setMover_movers (s : State) (n : Nat) (x : Mover) : (s.setMover n x).movers = Tab.set {} s.movers n x := (rfl)
@[simp] theorem State.setMover_eng (s : State) (n : Nat) (x : Mover) : (s.setMover n x).eng = s.eng := (rfl)
@[simp] theorem State.setMover_net (s : State) (n : Nat) (x : Mover) : (s.setMover n x).net = s.net := (rfl)
@[simp] theorem State.setMover_host (s : State) (n : Nat) (x : Mover) : (s.setMover n x).host = s.host := (rfl)
@[simp] theorem State.setMover_pins (s : State) (n : Nat) (x : Mover) : (s.setMover n x).pins = s.pins := (rfl)
@[simp] theorem State.setMover_stg (s : State) (n : Nat) (x : Mover) : (s.setMover n x).stg = s.stg := (rfl)
@[simp] theorem State.setMover_ctl (s : State) (n : Nat) (x : Mover) : (s.setMover n x).ctl = s.ctl := (rfl)

/-! ### setDg -/

@[simp] theorem State.setDg_pending (s : State) (n : Nat) (x : DgCtx) : (s.setDg n x).pending = s.pending := (rfl)
@[simp] theorem State.setDg_free (s : State) (n : Nat) (x : DgCtx) : (s.setDg n x).free = s.free := (rfl)
@[simp] theorem State.setDg_mer (s : State) (n : Nat) (x : DgCtx) : (s.setDg n x).mer = s.mer := (rfl)
@[simp] theorem State.setDg_csr (s : State) (n : Nat) (x : DgCtx) : (s.setDg n x).csr = s.csr := (rfl)
@[simp] theorem State.setDg_mem (s : State) (n : Nat) (x : DgCtx) : (s.setDg n x).mem = s.mem := (rfl)
@[simp] theorem State.setDg_merge (s : State) (n : Nat) (x : DgCtx) : (s.setDg n x).merge = s.merge := (rfl)
@[simp] theorem State.setDg_ecc (s : State) (n : Nat) (x : DgCtx) : (s.setDg n x).ecc = s.ecc := (rfl)
@[simp] theorem State.setDg_ctxs (s : State) (n : Nat) (x : DgCtx) : (s.setDg n x).ctxs = s.ctxs := (rfl)
@[simp] theorem State.setDg_execs (s : State) (n : Nat) (x : DgCtx) : (s.setDg n x).execs = s.execs := (rfl)
@[simp] theorem State.setDg_l2 (s : State) (n : Nat) (x : DgCtx) : (s.setDg n x).l2 = s.l2 := (rfl)
@[simp] theorem State.setDg_l2todo (s : State) (n : Nat) (x : DgCtx) : (s.setDg n x).l2todo = s.l2todo := (rfl)
@[simp] theorem State.setDg_tlb (s : State) (n : Nat) (x : DgCtx) : (s.setDg n x).tlb = s.tlb := (rfl)
@[simp] theorem State.setDg_jobs (s : State) (n : Nat) (x : DgCtx) : (s.setDg n x).jobs = s.jobs := (rfl)
@[simp] theorem State.setDg_queues (s : State) (n : Nat) (x : DgCtx) : (s.setDg n x).queues = s.queues := (rfl)
@[simp] theorem State.setDg_booths (s : State) (n : Nat) (x : DgCtx) : (s.setDg n x).booths = s.booths := (rfl)
@[simp] theorem State.setDg_flows (s : State) (n : Nat) (x : DgCtx) : (s.setDg n x).flows = s.flows := (rfl)
@[simp] theorem State.setDg_domLast (s : State) (n : Nat) (x : DgCtx) : (s.setDg n x).domLast = s.domLast := (rfl)
@[simp] theorem State.setDg_rr (s : State) (n : Nat) (x : DgCtx) : (s.setDg n x).rr = s.rr := (rfl)
@[simp] theorem State.setDg_adm (s : State) (n : Nat) (x : DgCtx) : (s.setDg n x).adm = s.adm := (rfl)
@[simp] theorem State.setDg_admGo (s : State) (n : Nat) (x : DgCtx) : (s.setDg n x).admGo = s.admGo := (rfl)
@[simp] theorem State.setDg_terms (s : State) (n : Nat) (x : DgCtx) : (s.setDg n x).terms = s.terms := (rfl)
@[simp] theorem State.setDg_busReply (s : State) (n : Nat) (x : DgCtx) : (s.setDg n x).busReply = s.busReply := (rfl)
@[simp] theorem State.setDg_orr (s : State) (n : Nat) (x : DgCtx) : (s.setDg n x).orr = s.orr := (rfl)
@[simp] theorem State.setDg_spy (s : State) (n : Nat) (x : DgCtx) : (s.setDg n x).spy = s.spy := (rfl)
@[simp] theorem State.setDg_scans (s : State) (n : Nat) (x : DgCtx) : (s.setDg n x).scans = s.scans := (rfl)
@[simp] theorem State.setDg_parts (s : State) (n : Nat) (x : DgCtx) : (s.setDg n x).parts = s.parts := (rfl)
@[simp] theorem State.setDg_evals (s : State) (n : Nat) (x : DgCtx) : (s.setDg n x).evals = s.evals := (rfl)
@[simp] theorem State.setDg_alm (s : State) (n : Nat) (x : DgCtx) : (s.setDg n x).alm = s.alm := (rfl)
@[simp] theorem State.setDg_movers (s : State) (n : Nat) (x : DgCtx) : (s.setDg n x).movers = s.movers := (rfl)
@[simp] theorem State.setDg_eng (s : State) (n : Nat) (x : DgCtx) : (s.setDg n x).eng = { s.eng with dg := Tab.set {} s.eng.dg n x } := (rfl)
@[simp] theorem State.setDg_net (s : State) (n : Nat) (x : DgCtx) : (s.setDg n x).net = s.net := (rfl)
@[simp] theorem State.setDg_host (s : State) (n : Nat) (x : DgCtx) : (s.setDg n x).host = s.host := (rfl)
@[simp] theorem State.setDg_pins (s : State) (n : Nat) (x : DgCtx) : (s.setDg n x).pins = s.pins := (rfl)
@[simp] theorem State.setDg_stg (s : State) (n : Nat) (x : DgCtx) : (s.setDg n x).stg = s.stg := (rfl)
@[simp] theorem State.setDg_ctl (s : State) (n : Nat) (x : DgCtx) : (s.setDg n x).ctl = s.ctl := (rfl)

/-! ### setCz -/

@[simp] theorem State.setCz_pending (s : State) (n : Nat) (x : CzCtx) : (s.setCz n x).pending = s.pending := (rfl)
@[simp] theorem State.setCz_free (s : State) (n : Nat) (x : CzCtx) : (s.setCz n x).free = s.free := (rfl)
@[simp] theorem State.setCz_mer (s : State) (n : Nat) (x : CzCtx) : (s.setCz n x).mer = s.mer := (rfl)
@[simp] theorem State.setCz_csr (s : State) (n : Nat) (x : CzCtx) : (s.setCz n x).csr = s.csr := (rfl)
@[simp] theorem State.setCz_mem (s : State) (n : Nat) (x : CzCtx) : (s.setCz n x).mem = s.mem := (rfl)
@[simp] theorem State.setCz_merge (s : State) (n : Nat) (x : CzCtx) : (s.setCz n x).merge = s.merge := (rfl)
@[simp] theorem State.setCz_ecc (s : State) (n : Nat) (x : CzCtx) : (s.setCz n x).ecc = s.ecc := (rfl)
@[simp] theorem State.setCz_ctxs (s : State) (n : Nat) (x : CzCtx) : (s.setCz n x).ctxs = s.ctxs := (rfl)
@[simp] theorem State.setCz_execs (s : State) (n : Nat) (x : CzCtx) : (s.setCz n x).execs = s.execs := (rfl)
@[simp] theorem State.setCz_l2 (s : State) (n : Nat) (x : CzCtx) : (s.setCz n x).l2 = s.l2 := (rfl)
@[simp] theorem State.setCz_l2todo (s : State) (n : Nat) (x : CzCtx) : (s.setCz n x).l2todo = s.l2todo := (rfl)
@[simp] theorem State.setCz_tlb (s : State) (n : Nat) (x : CzCtx) : (s.setCz n x).tlb = s.tlb := (rfl)
@[simp] theorem State.setCz_jobs (s : State) (n : Nat) (x : CzCtx) : (s.setCz n x).jobs = s.jobs := (rfl)
@[simp] theorem State.setCz_queues (s : State) (n : Nat) (x : CzCtx) : (s.setCz n x).queues = s.queues := (rfl)
@[simp] theorem State.setCz_booths (s : State) (n : Nat) (x : CzCtx) : (s.setCz n x).booths = s.booths := (rfl)
@[simp] theorem State.setCz_flows (s : State) (n : Nat) (x : CzCtx) : (s.setCz n x).flows = s.flows := (rfl)
@[simp] theorem State.setCz_domLast (s : State) (n : Nat) (x : CzCtx) : (s.setCz n x).domLast = s.domLast := (rfl)
@[simp] theorem State.setCz_rr (s : State) (n : Nat) (x : CzCtx) : (s.setCz n x).rr = s.rr := (rfl)
@[simp] theorem State.setCz_adm (s : State) (n : Nat) (x : CzCtx) : (s.setCz n x).adm = s.adm := (rfl)
@[simp] theorem State.setCz_admGo (s : State) (n : Nat) (x : CzCtx) : (s.setCz n x).admGo = s.admGo := (rfl)
@[simp] theorem State.setCz_terms (s : State) (n : Nat) (x : CzCtx) : (s.setCz n x).terms = s.terms := (rfl)
@[simp] theorem State.setCz_busReply (s : State) (n : Nat) (x : CzCtx) : (s.setCz n x).busReply = s.busReply := (rfl)
@[simp] theorem State.setCz_orr (s : State) (n : Nat) (x : CzCtx) : (s.setCz n x).orr = s.orr := (rfl)
@[simp] theorem State.setCz_spy (s : State) (n : Nat) (x : CzCtx) : (s.setCz n x).spy = s.spy := (rfl)
@[simp] theorem State.setCz_scans (s : State) (n : Nat) (x : CzCtx) : (s.setCz n x).scans = s.scans := (rfl)
@[simp] theorem State.setCz_parts (s : State) (n : Nat) (x : CzCtx) : (s.setCz n x).parts = s.parts := (rfl)
@[simp] theorem State.setCz_evals (s : State) (n : Nat) (x : CzCtx) : (s.setCz n x).evals = s.evals := (rfl)
@[simp] theorem State.setCz_alm (s : State) (n : Nat) (x : CzCtx) : (s.setCz n x).alm = s.alm := (rfl)
@[simp] theorem State.setCz_movers (s : State) (n : Nat) (x : CzCtx) : (s.setCz n x).movers = s.movers := (rfl)
@[simp] theorem State.setCz_eng (s : State) (n : Nat) (x : CzCtx) : (s.setCz n x).eng = { s.eng with cz := Tab.set {} s.eng.cz n x } := (rfl)
@[simp] theorem State.setCz_net (s : State) (n : Nat) (x : CzCtx) : (s.setCz n x).net = s.net := (rfl)
@[simp] theorem State.setCz_host (s : State) (n : Nat) (x : CzCtx) : (s.setCz n x).host = s.host := (rfl)
@[simp] theorem State.setCz_pins (s : State) (n : Nat) (x : CzCtx) : (s.setCz n x).pins = s.pins := (rfl)
@[simp] theorem State.setCz_stg (s : State) (n : Nat) (x : CzCtx) : (s.setCz n x).stg = s.stg := (rfl)
@[simp] theorem State.setCz_ctl (s : State) (n : Nat) (x : CzCtx) : (s.setCz n x).ctl = s.ctl := (rfl)

/-! ### setHost -/

@[simp] theorem State.setHost_pending (s : State) (f : Nat) (x : HostFn) : (s.setHost f x).pending = s.pending := (rfl)
@[simp] theorem State.setHost_free (s : State) (f : Nat) (x : HostFn) : (s.setHost f x).free = s.free := (rfl)
@[simp] theorem State.setHost_mer (s : State) (f : Nat) (x : HostFn) : (s.setHost f x).mer = s.mer := (rfl)
@[simp] theorem State.setHost_csr (s : State) (f : Nat) (x : HostFn) : (s.setHost f x).csr = s.csr := (rfl)
@[simp] theorem State.setHost_mem (s : State) (f : Nat) (x : HostFn) : (s.setHost f x).mem = s.mem := (rfl)
@[simp] theorem State.setHost_merge (s : State) (f : Nat) (x : HostFn) : (s.setHost f x).merge = s.merge := (rfl)
@[simp] theorem State.setHost_ecc (s : State) (f : Nat) (x : HostFn) : (s.setHost f x).ecc = s.ecc := (rfl)
@[simp] theorem State.setHost_ctxs (s : State) (f : Nat) (x : HostFn) : (s.setHost f x).ctxs = s.ctxs := (rfl)
@[simp] theorem State.setHost_execs (s : State) (f : Nat) (x : HostFn) : (s.setHost f x).execs = s.execs := (rfl)
@[simp] theorem State.setHost_l2 (s : State) (f : Nat) (x : HostFn) : (s.setHost f x).l2 = s.l2 := (rfl)
@[simp] theorem State.setHost_l2todo (s : State) (f : Nat) (x : HostFn) : (s.setHost f x).l2todo = s.l2todo := (rfl)
@[simp] theorem State.setHost_tlb (s : State) (f : Nat) (x : HostFn) : (s.setHost f x).tlb = s.tlb := (rfl)
@[simp] theorem State.setHost_jobs (s : State) (f : Nat) (x : HostFn) : (s.setHost f x).jobs = s.jobs := (rfl)
@[simp] theorem State.setHost_queues (s : State) (f : Nat) (x : HostFn) : (s.setHost f x).queues = s.queues := (rfl)
@[simp] theorem State.setHost_booths (s : State) (f : Nat) (x : HostFn) : (s.setHost f x).booths = s.booths := (rfl)
@[simp] theorem State.setHost_flows (s : State) (f : Nat) (x : HostFn) : (s.setHost f x).flows = s.flows := (rfl)
@[simp] theorem State.setHost_domLast (s : State) (f : Nat) (x : HostFn) : (s.setHost f x).domLast = s.domLast := (rfl)
@[simp] theorem State.setHost_rr (s : State) (f : Nat) (x : HostFn) : (s.setHost f x).rr = s.rr := (rfl)
@[simp] theorem State.setHost_adm (s : State) (f : Nat) (x : HostFn) : (s.setHost f x).adm = s.adm := (rfl)
@[simp] theorem State.setHost_admGo (s : State) (f : Nat) (x : HostFn) : (s.setHost f x).admGo = s.admGo := (rfl)
@[simp] theorem State.setHost_terms (s : State) (f : Nat) (x : HostFn) : (s.setHost f x).terms = s.terms := (rfl)
@[simp] theorem State.setHost_busReply (s : State) (f : Nat) (x : HostFn) : (s.setHost f x).busReply = s.busReply := (rfl)
@[simp] theorem State.setHost_orr (s : State) (f : Nat) (x : HostFn) : (s.setHost f x).orr = s.orr := (rfl)
@[simp] theorem State.setHost_spy (s : State) (f : Nat) (x : HostFn) : (s.setHost f x).spy = s.spy := (rfl)
@[simp] theorem State.setHost_scans (s : State) (f : Nat) (x : HostFn) : (s.setHost f x).scans = s.scans := (rfl)
@[simp] theorem State.setHost_parts (s : State) (f : Nat) (x : HostFn) : (s.setHost f x).parts = s.parts := (rfl)
@[simp] theorem State.setHost_evals (s : State) (f : Nat) (x : HostFn) : (s.setHost f x).evals = s.evals := (rfl)
@[simp] theorem State.setHost_alm (s : State) (f : Nat) (x : HostFn) : (s.setHost f x).alm = s.alm := (rfl)
@[simp] theorem State.setHost_movers (s : State) (f : Nat) (x : HostFn) : (s.setHost f x).movers = s.movers := (rfl)
@[simp] theorem State.setHost_eng (s : State) (f : Nat) (x : HostFn) : (s.setHost f x).eng = s.eng := (rfl)
@[simp] theorem State.setHost_net (s : State) (f : Nat) (x : HostFn) : (s.setHost f x).net = s.net := (rfl)
@[simp] theorem State.setHost_host (s : State) (f : Nat) (x : HostFn) : (s.setHost f x).host = Tab.set {} s.host f x := (rfl)
@[simp] theorem State.setHost_pins (s : State) (f : Nat) (x : HostFn) : (s.setHost f x).pins = s.pins := (rfl)
@[simp] theorem State.setHost_stg (s : State) (f : Nat) (x : HostFn) : (s.setHost f x).stg = s.stg := (rfl)
@[simp] theorem State.setHost_ctl (s : State) (f : Nat) (x : HostFn) : (s.setHost f x).ctl = s.ctl := (rfl)

/-! ### setEcc -/

@[simp] theorem State.setEcc_pending (s : State) (cw : Nat) (e : Ecc) : (s.setEcc cw e).pending = s.pending := (rfl)
@[simp] theorem State.setEcc_free (s : State) (cw : Nat) (e : Ecc) : (s.setEcc cw e).free = s.free := (rfl)
@[simp] theorem State.setEcc_mer (s : State) (cw : Nat) (e : Ecc) : (s.setEcc cw e).mer = s.mer := (rfl)
@[simp] theorem State.setEcc_csr (s : State) (cw : Nat) (e : Ecc) : (s.setEcc cw e).csr = s.csr := (rfl)
@[simp] theorem State.setEcc_mem (s : State) (cw : Nat) (e : Ecc) : (s.setEcc cw e).mem = s.mem := (rfl)
@[simp] theorem State.setEcc_merge (s : State) (cw : Nat) (e : Ecc) : (s.setEcc cw e).merge = s.merge := (rfl)
@[simp] theorem State.setEcc_ecc (s : State) (cw : Nat) (e : Ecc) : (s.setEcc cw e).ecc = Tab.set .good s.ecc cw e := (rfl)
@[simp] theorem State.setEcc_ctxs (s : State) (cw : Nat) (e : Ecc) : (s.setEcc cw e).ctxs = s.ctxs := (rfl)
@[simp] theorem State.setEcc_execs (s : State) (cw : Nat) (e : Ecc) : (s.setEcc cw e).execs = s.execs := (rfl)
@[simp] theorem State.setEcc_l2 (s : State) (cw : Nat) (e : Ecc) : (s.setEcc cw e).l2 = s.l2 := (rfl)
@[simp] theorem State.setEcc_l2todo (s : State) (cw : Nat) (e : Ecc) : (s.setEcc cw e).l2todo = s.l2todo := (rfl)
@[simp] theorem State.setEcc_tlb (s : State) (cw : Nat) (e : Ecc) : (s.setEcc cw e).tlb = s.tlb := (rfl)
@[simp] theorem State.setEcc_jobs (s : State) (cw : Nat) (e : Ecc) : (s.setEcc cw e).jobs = s.jobs := (rfl)
@[simp] theorem State.setEcc_queues (s : State) (cw : Nat) (e : Ecc) : (s.setEcc cw e).queues = s.queues := (rfl)
@[simp] theorem State.setEcc_booths (s : State) (cw : Nat) (e : Ecc) : (s.setEcc cw e).booths = s.booths := (rfl)
@[simp] theorem State.setEcc_flows (s : State) (cw : Nat) (e : Ecc) : (s.setEcc cw e).flows = s.flows := (rfl)
@[simp] theorem State.setEcc_domLast (s : State) (cw : Nat) (e : Ecc) : (s.setEcc cw e).domLast = s.domLast := (rfl)
@[simp] theorem State.setEcc_rr (s : State) (cw : Nat) (e : Ecc) : (s.setEcc cw e).rr = s.rr := (rfl)
@[simp] theorem State.setEcc_adm (s : State) (cw : Nat) (e : Ecc) : (s.setEcc cw e).adm = s.adm := (rfl)
@[simp] theorem State.setEcc_admGo (s : State) (cw : Nat) (e : Ecc) : (s.setEcc cw e).admGo = s.admGo := (rfl)
@[simp] theorem State.setEcc_terms (s : State) (cw : Nat) (e : Ecc) : (s.setEcc cw e).terms = s.terms := (rfl)
@[simp] theorem State.setEcc_busReply (s : State) (cw : Nat) (e : Ecc) : (s.setEcc cw e).busReply = s.busReply := (rfl)
@[simp] theorem State.setEcc_orr (s : State) (cw : Nat) (e : Ecc) : (s.setEcc cw e).orr = s.orr := (rfl)
@[simp] theorem State.setEcc_spy (s : State) (cw : Nat) (e : Ecc) : (s.setEcc cw e).spy = s.spy := (rfl)
@[simp] theorem State.setEcc_scans (s : State) (cw : Nat) (e : Ecc) : (s.setEcc cw e).scans = s.scans := (rfl)
@[simp] theorem State.setEcc_parts (s : State) (cw : Nat) (e : Ecc) : (s.setEcc cw e).parts = s.parts := (rfl)
@[simp] theorem State.setEcc_evals (s : State) (cw : Nat) (e : Ecc) : (s.setEcc cw e).evals = s.evals := (rfl)
@[simp] theorem State.setEcc_alm (s : State) (cw : Nat) (e : Ecc) : (s.setEcc cw e).alm = s.alm := (rfl)
@[simp] theorem State.setEcc_movers (s : State) (cw : Nat) (e : Ecc) : (s.setEcc cw e).movers = s.movers := (rfl)
@[simp] theorem State.setEcc_eng (s : State) (cw : Nat) (e : Ecc) : (s.setEcc cw e).eng = s.eng := (rfl)
@[simp] theorem State.setEcc_net (s : State) (cw : Nat) (e : Ecc) : (s.setEcc cw e).net = s.net := (rfl)
@[simp] theorem State.setEcc_host (s : State) (cw : Nat) (e : Ecc) : (s.setEcc cw e).host = s.host := (rfl)
@[simp] theorem State.setEcc_pins (s : State) (cw : Nat) (e : Ecc) : (s.setEcc cw e).pins = s.pins := (rfl)
@[simp] theorem State.setEcc_stg (s : State) (cw : Nat) (e : Ecc) : (s.setEcc cw e).stg = s.stg := (rfl)
@[simp] theorem State.setEcc_ctl (s : State) (cw : Nat) (e : Ecc) : (s.setEcc cw e).ctl = s.ctl := (rfl)

/-! ### setMerge -/

@[simp] theorem State.setMerge_pending (s : State) (cw : Nat) (e : MergeEntry) : (s.setMerge cw e).pending = s.pending := (rfl)
@[simp] theorem State.setMerge_free (s : State) (cw : Nat) (e : MergeEntry) : (s.setMerge cw e).free = s.free := (rfl)
@[simp] theorem State.setMerge_mer (s : State) (cw : Nat) (e : MergeEntry) : (s.setMerge cw e).mer = s.mer := (rfl)
@[simp] theorem State.setMerge_csr (s : State) (cw : Nat) (e : MergeEntry) : (s.setMerge cw e).csr = s.csr := (rfl)
@[simp] theorem State.setMerge_mem (s : State) (cw : Nat) (e : MergeEntry) : (s.setMerge cw e).mem = s.mem := (rfl)
@[simp] theorem State.setMerge_merge (s : State) (cw : Nat) (e : MergeEntry) : (s.setMerge cw e).merge = Tab.set {} s.merge cw e := (rfl)
@[simp] theorem State.setMerge_ecc (s : State) (cw : Nat) (e : MergeEntry) : (s.setMerge cw e).ecc = s.ecc := (rfl)
@[simp] theorem State.setMerge_ctxs (s : State) (cw : Nat) (e : MergeEntry) : (s.setMerge cw e).ctxs = s.ctxs := (rfl)
@[simp] theorem State.setMerge_execs (s : State) (cw : Nat) (e : MergeEntry) : (s.setMerge cw e).execs = s.execs := (rfl)
@[simp] theorem State.setMerge_l2 (s : State) (cw : Nat) (e : MergeEntry) : (s.setMerge cw e).l2 = s.l2 := (rfl)
@[simp] theorem State.setMerge_l2todo (s : State) (cw : Nat) (e : MergeEntry) : (s.setMerge cw e).l2todo = s.l2todo := (rfl)
@[simp] theorem State.setMerge_tlb (s : State) (cw : Nat) (e : MergeEntry) : (s.setMerge cw e).tlb = s.tlb := (rfl)
@[simp] theorem State.setMerge_jobs (s : State) (cw : Nat) (e : MergeEntry) : (s.setMerge cw e).jobs = s.jobs := (rfl)
@[simp] theorem State.setMerge_queues (s : State) (cw : Nat) (e : MergeEntry) : (s.setMerge cw e).queues = s.queues := (rfl)
@[simp] theorem State.setMerge_booths (s : State) (cw : Nat) (e : MergeEntry) : (s.setMerge cw e).booths = s.booths := (rfl)
@[simp] theorem State.setMerge_flows (s : State) (cw : Nat) (e : MergeEntry) : (s.setMerge cw e).flows = s.flows := (rfl)
@[simp] theorem State.setMerge_domLast (s : State) (cw : Nat) (e : MergeEntry) : (s.setMerge cw e).domLast = s.domLast := (rfl)
@[simp] theorem State.setMerge_rr (s : State) (cw : Nat) (e : MergeEntry) : (s.setMerge cw e).rr = s.rr := (rfl)
@[simp] theorem State.setMerge_adm (s : State) (cw : Nat) (e : MergeEntry) : (s.setMerge cw e).adm = s.adm := (rfl)
@[simp] theorem State.setMerge_admGo (s : State) (cw : Nat) (e : MergeEntry) : (s.setMerge cw e).admGo = s.admGo := (rfl)
@[simp] theorem State.setMerge_terms (s : State) (cw : Nat) (e : MergeEntry) : (s.setMerge cw e).terms = s.terms := (rfl)
@[simp] theorem State.setMerge_busReply (s : State) (cw : Nat) (e : MergeEntry) : (s.setMerge cw e).busReply = s.busReply := (rfl)
@[simp] theorem State.setMerge_orr (s : State) (cw : Nat) (e : MergeEntry) : (s.setMerge cw e).orr = s.orr := (rfl)
@[simp] theorem State.setMerge_spy (s : State) (cw : Nat) (e : MergeEntry) : (s.setMerge cw e).spy = s.spy := (rfl)
@[simp] theorem State.setMerge_scans (s : State) (cw : Nat) (e : MergeEntry) : (s.setMerge cw e).scans = s.scans := (rfl)
@[simp] theorem State.setMerge_parts (s : State) (cw : Nat) (e : MergeEntry) : (s.setMerge cw e).parts = s.parts := (rfl)
@[simp] theorem State.setMerge_evals (s : State) (cw : Nat) (e : MergeEntry) : (s.setMerge cw e).evals = s.evals := (rfl)
@[simp] theorem State.setMerge_alm (s : State) (cw : Nat) (e : MergeEntry) : (s.setMerge cw e).alm = s.alm := (rfl)
@[simp] theorem State.setMerge_movers (s : State) (cw : Nat) (e : MergeEntry) : (s.setMerge cw e).movers = s.movers := (rfl)
@[simp] theorem State.setMerge_eng (s : State) (cw : Nat) (e : MergeEntry) : (s.setMerge cw e).eng = s.eng := (rfl)
@[simp] theorem State.setMerge_net (s : State) (cw : Nat) (e : MergeEntry) : (s.setMerge cw e).net = s.net := (rfl)
@[simp] theorem State.setMerge_host (s : State) (cw : Nat) (e : MergeEntry) : (s.setMerge cw e).host = s.host := (rfl)
@[simp] theorem State.setMerge_pins (s : State) (cw : Nat) (e : MergeEntry) : (s.setMerge cw e).pins = s.pins := (rfl)
@[simp] theorem State.setMerge_stg (s : State) (cw : Nat) (e : MergeEntry) : (s.setMerge cw e).stg = s.stg := (rfl)
@[simp] theorem State.setMerge_ctl (s : State) (cw : Nat) (e : MergeEntry) : (s.setMerge cw e).ctl = s.ctl := (rfl)

/-! ### setL2 -/

@[simp] theorem State.setL2_pending (s : State) (k : Nat) (l : L2Line) : (s.setL2 k l).pending = s.pending := (rfl)
@[simp] theorem State.setL2_free (s : State) (k : Nat) (l : L2Line) : (s.setL2 k l).free = s.free := (rfl)
@[simp] theorem State.setL2_mer (s : State) (k : Nat) (l : L2Line) : (s.setL2 k l).mer = s.mer := (rfl)
@[simp] theorem State.setL2_csr (s : State) (k : Nat) (l : L2Line) : (s.setL2 k l).csr = s.csr := (rfl)
@[simp] theorem State.setL2_mem (s : State) (k : Nat) (l : L2Line) : (s.setL2 k l).mem = s.mem := (rfl)
@[simp] theorem State.setL2_merge (s : State) (k : Nat) (l : L2Line) : (s.setL2 k l).merge = s.merge := (rfl)
@[simp] theorem State.setL2_ecc (s : State) (k : Nat) (l : L2Line) : (s.setL2 k l).ecc = s.ecc := (rfl)
@[simp] theorem State.setL2_ctxs (s : State) (k : Nat) (l : L2Line) : (s.setL2 k l).ctxs = s.ctxs := (rfl)
@[simp] theorem State.setL2_execs (s : State) (k : Nat) (l : L2Line) : (s.setL2 k l).execs = s.execs := (rfl)
@[simp] theorem State.setL2_l2 (s : State) (k : Nat) (l : L2Line) : (s.setL2 k l).l2 = Tab.set {} s.l2 k l := (rfl)
@[simp] theorem State.setL2_l2todo (s : State) (k : Nat) (l : L2Line) : (s.setL2 k l).l2todo = s.l2todo := (rfl)
@[simp] theorem State.setL2_tlb (s : State) (k : Nat) (l : L2Line) : (s.setL2 k l).tlb = s.tlb := (rfl)
@[simp] theorem State.setL2_jobs (s : State) (k : Nat) (l : L2Line) : (s.setL2 k l).jobs = s.jobs := (rfl)
@[simp] theorem State.setL2_queues (s : State) (k : Nat) (l : L2Line) : (s.setL2 k l).queues = s.queues := (rfl)
@[simp] theorem State.setL2_booths (s : State) (k : Nat) (l : L2Line) : (s.setL2 k l).booths = s.booths := (rfl)
@[simp] theorem State.setL2_flows (s : State) (k : Nat) (l : L2Line) : (s.setL2 k l).flows = s.flows := (rfl)
@[simp] theorem State.setL2_domLast (s : State) (k : Nat) (l : L2Line) : (s.setL2 k l).domLast = s.domLast := (rfl)
@[simp] theorem State.setL2_rr (s : State) (k : Nat) (l : L2Line) : (s.setL2 k l).rr = s.rr := (rfl)
@[simp] theorem State.setL2_adm (s : State) (k : Nat) (l : L2Line) : (s.setL2 k l).adm = s.adm := (rfl)
@[simp] theorem State.setL2_admGo (s : State) (k : Nat) (l : L2Line) : (s.setL2 k l).admGo = s.admGo := (rfl)
@[simp] theorem State.setL2_terms (s : State) (k : Nat) (l : L2Line) : (s.setL2 k l).terms = s.terms := (rfl)
@[simp] theorem State.setL2_busReply (s : State) (k : Nat) (l : L2Line) : (s.setL2 k l).busReply = s.busReply := (rfl)
@[simp] theorem State.setL2_orr (s : State) (k : Nat) (l : L2Line) : (s.setL2 k l).orr = s.orr := (rfl)
@[simp] theorem State.setL2_spy (s : State) (k : Nat) (l : L2Line) : (s.setL2 k l).spy = s.spy := (rfl)
@[simp] theorem State.setL2_scans (s : State) (k : Nat) (l : L2Line) : (s.setL2 k l).scans = s.scans := (rfl)
@[simp] theorem State.setL2_parts (s : State) (k : Nat) (l : L2Line) : (s.setL2 k l).parts = s.parts := (rfl)
@[simp] theorem State.setL2_evals (s : State) (k : Nat) (l : L2Line) : (s.setL2 k l).evals = s.evals := (rfl)
@[simp] theorem State.setL2_alm (s : State) (k : Nat) (l : L2Line) : (s.setL2 k l).alm = s.alm := (rfl)
@[simp] theorem State.setL2_movers (s : State) (k : Nat) (l : L2Line) : (s.setL2 k l).movers = s.movers := (rfl)
@[simp] theorem State.setL2_eng (s : State) (k : Nat) (l : L2Line) : (s.setL2 k l).eng = s.eng := (rfl)
@[simp] theorem State.setL2_net (s : State) (k : Nat) (l : L2Line) : (s.setL2 k l).net = s.net := (rfl)
@[simp] theorem State.setL2_host (s : State) (k : Nat) (l : L2Line) : (s.setL2 k l).host = s.host := (rfl)
@[simp] theorem State.setL2_pins (s : State) (k : Nat) (l : L2Line) : (s.setL2 k l).pins = s.pins := (rfl)
@[simp] theorem State.setL2_stg (s : State) (k : Nat) (l : L2Line) : (s.setL2 k l).stg = s.stg := (rfl)
@[simp] theorem State.setL2_ctl (s : State) (k : Nat) (l : L2Line) : (s.setL2 k l).ctl = s.ctl := (rfl)

/-! ### setR -/

@[simp] theorem State.setR_pending (s : State) (x : Nat) (r : Regs) : (s.setR x r).pending = s.pending := (rfl)
@[simp] theorem State.setR_free (s : State) (x : Nat) (r : Regs) : (s.setR x r).free = s.free := (rfl)
@[simp] theorem State.setR_mer (s : State) (x : Nat) (r : Regs) : (s.setR x r).mer = s.mer := (rfl)
@[simp] theorem State.setR_csr (s : State) (x : Nat) (r : Regs) : (s.setR x r).csr = s.csr := (rfl)
@[simp] theorem State.setR_mem (s : State) (x : Nat) (r : Regs) : (s.setR x r).mem = s.mem := (rfl)
@[simp] theorem State.setR_merge (s : State) (x : Nat) (r : Regs) : (s.setR x r).merge = s.merge := (rfl)
@[simp] theorem State.setR_ecc (s : State) (x : Nat) (r : Regs) : (s.setR x r).ecc = s.ecc := (rfl)
@[simp] theorem State.setR_ctxs (s : State) (x : Nat) (r : Regs) : (s.setR x r).ctxs = Tab.set {} s.ctxs x { s.ctx x with r := r } := (rfl)
@[simp] theorem State.setR_execs (s : State) (x : Nat) (r : Regs) : (s.setR x r).execs = s.execs := (rfl)
@[simp] theorem State.setR_l2 (s : State) (x : Nat) (r : Regs) : (s.setR x r).l2 = s.l2 := (rfl)
@[simp] theorem State.setR_l2todo (s : State) (x : Nat) (r : Regs) : (s.setR x r).l2todo = s.l2todo := (rfl)
@[simp] theorem State.setR_tlb (s : State) (x : Nat) (r : Regs) : (s.setR x r).tlb = s.tlb := (rfl)
@[simp] theorem State.setR_jobs (s : State) (x : Nat) (r : Regs) : (s.setR x r).jobs = s.jobs := (rfl)
@[simp] theorem State.setR_queues (s : State) (x : Nat) (r : Regs) : (s.setR x r).queues = s.queues := (rfl)
@[simp] theorem State.setR_booths (s : State) (x : Nat) (r : Regs) : (s.setR x r).booths = s.booths := (rfl)
@[simp] theorem State.setR_flows (s : State) (x : Nat) (r : Regs) : (s.setR x r).flows = s.flows := (rfl)
@[simp] theorem State.setR_domLast (s : State) (x : Nat) (r : Regs) : (s.setR x r).domLast = s.domLast := (rfl)
@[simp] theorem State.setR_rr (s : State) (x : Nat) (r : Regs) : (s.setR x r).rr = s.rr := (rfl)
@[simp] theorem State.setR_adm (s : State) (x : Nat) (r : Regs) : (s.setR x r).adm = s.adm := (rfl)
@[simp] theorem State.setR_admGo (s : State) (x : Nat) (r : Regs) : (s.setR x r).admGo = s.admGo := (rfl)
@[simp] theorem State.setR_terms (s : State) (x : Nat) (r : Regs) : (s.setR x r).terms = s.terms := (rfl)
@[simp] theorem State.setR_busReply (s : State) (x : Nat) (r : Regs) : (s.setR x r).busReply = s.busReply := (rfl)
@[simp] theorem State.setR_orr (s : State) (x : Nat) (r : Regs) : (s.setR x r).orr = s.orr := (rfl)
@[simp] theorem State.setR_spy (s : State) (x : Nat) (r : Regs) : (s.setR x r).spy = s.spy := (rfl)
@[simp] theorem State.setR_scans (s : State) (x : Nat) (r : Regs) : (s.setR x r).scans = s.scans := (rfl)
@[simp] theorem State.setR_parts (s : State) (x : Nat) (r : Regs) : (s.setR x r).parts = s.parts := (rfl)
@[simp] theorem State.setR_evals (s : State) (x : Nat) (r : Regs) : (s.setR x r).evals = s.evals := (rfl)
@[simp] theorem State.setR_alm (s : State) (x : Nat) (r : Regs) : (s.setR x r).alm = s.alm := (rfl)
@[simp] theorem State.setR_movers (s : State) (x : Nat) (r : Regs) : (s.setR x r).movers = s.movers := (rfl)
@[simp] theorem State.setR_eng (s : State) (x : Nat) (r : Regs) : (s.setR x r).eng = s.eng := (rfl)
@[simp] theorem State.setR_net (s : State) (x : Nat) (r : Regs) : (s.setR x r).net = s.net := (rfl)
@[simp] theorem State.setR_host (s : State) (x : Nat) (r : Regs) : (s.setR x r).host = s.host := (rfl)
@[simp] theorem State.setR_pins (s : State) (x : Nat) (r : Regs) : (s.setR x r).pins = s.pins := (rfl)
@[simp] theorem State.setR_stg (s : State) (x : Nat) (r : Regs) : (s.setR x r).stg = s.stg := (rfl)
@[simp] theorem State.setR_ctl (s : State) (x : Nat) (r : Regs) : (s.setR x r).ctl = s.ctl := (rfl)

/-! ### Accessors: what was set is read, and every other one is as before -/

@[simp] theorem State.reg_setReg_same (s : State) (a : Nat) (v : W64) : (s.setReg a v).reg a = v := Tab.get_set_same _ _ _ _
theorem State.reg_setReg_ne (s : State) (a : Nat) (v : W64) {b : Nat} (h : b ≠ a) : (s.setReg a v).reg b = s.reg b := Tab.get_set_ne _ _ _ _ h
@[simp] theorem State.ctx_setCtx_same (s : State) (x : Nat) (c : Ctx) : (s.setCtx x c).ctx x = c := Tab.get_set_same _ _ _ _
theorem State.ctx_setCtx_ne (s : State) (x : Nat) (c : Ctx) {y : Nat} (h : y ≠ x) : (s.setCtx x c).ctx y = s.ctx y := Tab.get_set_ne _ _ _ _ h
@[simp] theorem State.exe_setExe_same (s : State) (u : Nat) (e : Exec) : (s.setExe u e).exe u = e := Tab.get_set_same _ _ _ _
theorem State.exe_setExe_ne (s : State) (u : Nat) (e : Exec) {y : Nat} (h : y ≠ u) : (s.setExe u e).exe y = s.exe y := Tab.get_set_ne _ _ _ _ h
@[simp] theorem State.job_setJob_same (s : State) (j : Nat) (x : Job) : (s.setJob j x).job j = x := Tab.get_set_same _ _ _ _
theorem State.job_setJob_ne (s : State) (j : Nat) (x : Job) {y : Nat} (h : y ≠ j) : (s.setJob j x).job y = s.job y := Tab.get_set_ne _ _ _ _ h
@[simp] theorem State.queue_setQueue_same (s : State) (q : BitVec 16) (x : Queue) : (s.setQueue q x).queue q = x := Tab.get_set_same _ _ _ _
theorem State.queue_setQueue_ne (s : State) (q : BitVec 16) (x : Queue) {y : BitVec 16} (h : y ≠ q) : (s.setQueue q x).queue y = s.queue y := Tab.get_set_ne _ _ _ _ (fun e => h (BitVec.eq_of_toNat_eq e))
@[simp] theorem State.booth_setBooth_same (s : State) (b : BitVec 12) (x : Booth) : (s.setBooth b x).booth b = x := Tab.get_set_same _ _ _ _
theorem State.booth_setBooth_ne (s : State) (b : BitVec 12) (x : Booth) {y : BitVec 12} (h : y ≠ b) : (s.setBooth b x).booth y = s.booth y := Tab.get_set_ne _ _ _ _ (fun e => h (BitVec.eq_of_toNat_eq e))
@[simp] theorem State.flow_setFlow_same (s : State) (f : BitVec 16) (x : Flow) : (s.setFlow f x).flow f = x := Tab.get_set_same _ _ _ _
theorem State.flow_setFlow_ne (s : State) (f : BitVec 16) (x : Flow) {y : BitVec 16} (h : y ≠ f) : (s.setFlow f x).flow y = s.flow y := Tab.get_set_ne _ _ _ _ (fun e => h (BitVec.eq_of_toNat_eq e))
@[simp] theorem State.thread_setThread_same (s : State) (t : Nat) (x : Thread) : (s.setThread t x).thread t = x := Tab.get_set_same _ _ _ _
theorem State.thread_setThread_ne (s : State) (t : Nat) (x : Thread) {y : Nat} (h : y ≠ t) : (s.setThread t x).thread y = s.thread y := Tab.get_set_ne _ _ _ _ h
@[simp] theorem State.spyTable_setSpyTable_same (s : State) (t : Nat) (x : SpyTable) : (s.setSpyTable t x).spyTable t = x := Tab.get_set_same _ _ _ _
theorem State.spyTable_setSpyTable_ne (s : State) (t : Nat) (x : SpyTable) {y : Nat} (h : y ≠ t) : (s.setSpyTable t x).spyTable y = s.spyTable y := Tab.get_set_ne _ _ _ _ h
@[simp] theorem State.scan_setScan_same (s : State) (n : Nat) (x : Scan) : (s.setScan n x).scan n = x := Tab.get_set_same _ _ _ _
theorem State.scan_setScan_ne (s : State) (n : Nat) (x : Scan) {y : Nat} (h : y ≠ n) : (s.setScan n x).scan y = s.scan y := Tab.get_set_ne _ _ _ _ h
@[simp] theorem State.part_setPart_same (s : State) (k : Nat) (x : Part) : (s.setPart k x).part k = x := Tab.get_set_same _ _ _ _
theorem State.part_setPart_ne (s : State) (k : Nat) (x : Part) {y : Nat} (h : y ≠ k) : (s.setPart k x).part y = s.part y := Tab.get_set_ne _ _ _ _ h
@[simp] theorem State.sv_setSv_same (s : State) (k : Nat) (x : SvEval) : (s.setSv k x).sv k = x := Tab.get_set_same _ _ _ _
theorem State.sv_setSv_ne (s : State) (k : Nat) (x : SvEval) {y : Nat} (h : y ≠ k) : (s.setSv k x).sv y = s.sv y := Tab.get_set_ne _ _ _ _ h
@[simp] theorem State.ns_setNs_same (s : State) (n : Nat) (x : Ns) : (s.setNs n x).ns n = x := Tab.get_set_same _ _ _ _
theorem State.ns_setNs_ne (s : State) (n : Nat) (x : Ns) {y : Nat} (h : y ≠ n) : (s.setNs n x).ns y = s.ns y := Tab.get_set_ne _ _ _ _ h
@[simp] theorem State.mover_setMover_same (s : State) (n : Nat) (x : Mover) : (s.setMover n x).mover n = x := Tab.get_set_same _ _ _ _
theorem State.mover_setMover_ne (s : State) (n : Nat) (x : Mover) {y : Nat} (h : y ≠ n) : (s.setMover n x).mover y = s.mover y := Tab.get_set_ne _ _ _ _ h
@[simp] theorem State.dg_setDg_same (s : State) (n : Nat) (x : DgCtx) : (s.setDg n x).dg n = x := Tab.get_set_same _ _ _ _
theorem State.dg_setDg_ne (s : State) (n : Nat) (x : DgCtx) {y : Nat} (h : y ≠ n) : (s.setDg n x).dg y = s.dg y := Tab.get_set_ne _ _ _ _ h
@[simp] theorem State.cz_setCz_same (s : State) (n : Nat) (x : CzCtx) : (s.setCz n x).cz n = x := Tab.get_set_same _ _ _ _
theorem State.cz_setCz_ne (s : State) (n : Nat) (x : CzCtx) {y : Nat} (h : y ≠ n) : (s.setCz n x).cz y = s.cz y := Tab.get_set_ne _ _ _ _ h
@[simp] theorem State.hostFn_setHost_same (s : State) (f : Nat) (x : HostFn) : (s.setHost f x).hostFn f = x := Tab.get_set_same _ _ _ _
theorem State.hostFn_setHost_ne (s : State) (f : Nat) (x : HostFn) {y : Nat} (h : y ≠ f) : (s.setHost f x).hostFn y = s.hostFn y := Tab.get_set_ne _ _ _ _ h
@[simp] theorem State.eccAt_setEcc_same (s : State) (cw : Nat) (e : Ecc) : (s.setEcc cw e).eccAt cw = e := Tab.get_set_same _ _ _ _
theorem State.eccAt_setEcc_ne (s : State) (cw : Nat) (e : Ecc) {y : Nat} (h : y ≠ cw) : (s.setEcc cw e).eccAt y = s.eccAt y := Tab.get_set_ne _ _ _ _ h
@[simp] theorem State.mergeAt_setMerge_same (s : State) (cw : Nat) (e : MergeEntry) : (s.setMerge cw e).mergeAt cw = e := Tab.get_set_same _ _ _ _
theorem State.mergeAt_setMerge_ne (s : State) (cw : Nat) (e : MergeEntry) {y : Nat} (h : y ≠ cw) : (s.setMerge cw e).mergeAt y = s.mergeAt y := Tab.get_set_ne _ _ _ _ h
@[simp] theorem State.l2At_setL2_same (s : State) (k : Nat) (l : L2Line) : (s.setL2 k l).l2At k = l := Tab.get_set_same _ _ _ _
theorem State.l2At_setL2_ne (s : State) (k : Nat) (l : L2Line) {y : Nat} (h : y ≠ k) : (s.setL2 k l).l2At y = s.l2At y := Tab.get_set_ne _ _ _ _ h

@[simp] theorem State.reg_setCtx (s : State) (x : Nat) (c : Ctx) (b : Nat) : (s.setCtx x c).reg b = s.reg b := (rfl)
@[simp] theorem State.reg_setExe (s : State) (u : Nat) (e : Exec) (b : Nat) : (s.setExe u e).reg b = s.reg b := (rfl)
@[simp] theorem State.reg_setJob (s : State) (j : Nat) (x : Job) (b : Nat) : (s.setJob j x).reg b = s.reg b := (rfl)
@[simp] theorem State.reg_setQueue (s : State) (q : BitVec 16) (x : Queue) (b : Nat) : (s.setQueue q x).reg b = s.reg b := (rfl)
@[simp] theorem State.reg_setFlow (s : State) (f : BitVec 16) (x : Flow) (b : Nat) : (s.setFlow f x).reg b = s.reg b := (rfl)
@[simp] theorem State.reg_setThread (s : State) (t : Nat) (x : Thread) (b : Nat) : (s.setThread t x).reg b = s.reg b := (rfl)
@[simp] theorem State.reg_setSpyTable (s : State) (t : Nat) (x : SpyTable) (b : Nat) : (s.setSpyTable t x).reg b = s.reg b := (rfl)
@[simp] theorem State.reg_setScan (s : State) (n : Nat) (x : Scan) (b : Nat) : (s.setScan n x).reg b = s.reg b := (rfl)
@[simp] theorem State.reg_setPart (s : State) (k : Nat) (x : Part) (b : Nat) : (s.setPart k x).reg b = s.reg b := (rfl)
@[simp] theorem State.reg_setSv (s : State) (k : Nat) (x : SvEval) (b : Nat) : (s.setSv k x).reg b = s.reg b := (rfl)
@[simp] theorem State.reg_setNs (s : State) (n : Nat) (x : Ns) (b : Nat) : (s.setNs n x).reg b = s.reg b := (rfl)
@[simp] theorem State.reg_setMover (s : State) (n : Nat) (x : Mover) (b : Nat) : (s.setMover n x).reg b = s.reg b := (rfl)
@[simp] theorem State.reg_setDg (s : State) (n : Nat) (x : DgCtx) (b : Nat) : (s.setDg n x).reg b = s.reg b := (rfl)
@[simp] theorem State.reg_setCz (s : State) (n : Nat) (x : CzCtx) (b : Nat) : (s.setCz n x).reg b = s.reg b := (rfl)
@[simp] theorem State.reg_setHost (s : State) (f : Nat) (x : HostFn) (b : Nat) : (s.setHost f x).reg b = s.reg b := (rfl)
@[simp] theorem State.reg_setEcc (s : State) (cw : Nat) (e : Ecc) (b : Nat) : (s.setEcc cw e).reg b = s.reg b := (rfl)
@[simp] theorem State.reg_setMerge (s : State) (cw : Nat) (e : MergeEntry) (b : Nat) : (s.setMerge cw e).reg b = s.reg b := (rfl)
@[simp] theorem State.reg_setL2 (s : State) (k : Nat) (l : L2Line) (b : Nat) : (s.setL2 k l).reg b = s.reg b := (rfl)
@[simp] theorem State.reg_setR (s : State) (x : Nat) (r : Regs) (b : Nat) : (s.setR x r).reg b = s.reg b := (rfl)
@[simp] theorem State.ctx_setReg (s : State) (a : Nat) (v : W64) (y : Nat) : (s.setReg a v).ctx y = s.ctx y := (rfl)
@[simp] theorem State.ctx_setExe (s : State) (u : Nat) (e : Exec) (y : Nat) : (s.setExe u e).ctx y = s.ctx y := (rfl)
@[simp] theorem State.ctx_setJob (s : State) (j : Nat) (x : Job) (y : Nat) : (s.setJob j x).ctx y = s.ctx y := (rfl)
@[simp] theorem State.ctx_setQueue (s : State) (q : BitVec 16) (x : Queue) (y : Nat) : (s.setQueue q x).ctx y = s.ctx y := (rfl)
@[simp] theorem State.ctx_setBooth (s : State) (b : BitVec 12) (x : Booth) (y : Nat) : (s.setBooth b x).ctx y = s.ctx y := (rfl)
@[simp] theorem State.ctx_setFlow (s : State) (f : BitVec 16) (x : Flow) (y : Nat) : (s.setFlow f x).ctx y = s.ctx y := (rfl)
@[simp] theorem State.ctx_setThread (s : State) (t : Nat) (x : Thread) (y : Nat) : (s.setThread t x).ctx y = s.ctx y := (rfl)
@[simp] theorem State.ctx_setSpyTable (s : State) (t : Nat) (x : SpyTable) (y : Nat) : (s.setSpyTable t x).ctx y = s.ctx y := (rfl)
@[simp] theorem State.ctx_setScan (s : State) (n : Nat) (x : Scan) (y : Nat) : (s.setScan n x).ctx y = s.ctx y := (rfl)
@[simp] theorem State.ctx_setPart (s : State) (k : Nat) (x : Part) (y : Nat) : (s.setPart k x).ctx y = s.ctx y := (rfl)
@[simp] theorem State.ctx_setSv (s : State) (k : Nat) (x : SvEval) (y : Nat) : (s.setSv k x).ctx y = s.ctx y := (rfl)
@[simp] theorem State.ctx_setNs (s : State) (n : Nat) (x : Ns) (y : Nat) : (s.setNs n x).ctx y = s.ctx y := (rfl)
@[simp] theorem State.ctx_setMover (s : State) (n : Nat) (x : Mover) (y : Nat) : (s.setMover n x).ctx y = s.ctx y := (rfl)
@[simp] theorem State.ctx_setDg (s : State) (n : Nat) (x : DgCtx) (y : Nat) : (s.setDg n x).ctx y = s.ctx y := (rfl)
@[simp] theorem State.ctx_setCz (s : State) (n : Nat) (x : CzCtx) (y : Nat) : (s.setCz n x).ctx y = s.ctx y := (rfl)
@[simp] theorem State.ctx_setHost (s : State) (f : Nat) (x : HostFn) (y : Nat) : (s.setHost f x).ctx y = s.ctx y := (rfl)
@[simp] theorem State.ctx_setEcc (s : State) (cw : Nat) (e : Ecc) (y : Nat) : (s.setEcc cw e).ctx y = s.ctx y := (rfl)
@[simp] theorem State.ctx_setMerge (s : State) (cw : Nat) (e : MergeEntry) (y : Nat) : (s.setMerge cw e).ctx y = s.ctx y := (rfl)
@[simp] theorem State.ctx_setL2 (s : State) (k : Nat) (l : L2Line) (y : Nat) : (s.setL2 k l).ctx y = s.ctx y := (rfl)
@[simp] theorem State.exe_setReg (s : State) (a : Nat) (v : W64) (y : Nat) : (s.setReg a v).exe y = s.exe y := (rfl)
@[simp] theorem State.exe_setCtx (s : State) (x : Nat) (c : Ctx) (y : Nat) : (s.setCtx x c).exe y = s.exe y := (rfl)
@[simp] theorem State.exe_setJob (s : State) (j : Nat) (x : Job) (y : Nat) : (s.setJob j x).exe y = s.exe y := (rfl)
@[simp] theorem State.exe_setQueue (s : State) (q : BitVec 16) (x : Queue) (y : Nat) : (s.setQueue q x).exe y = s.exe y := (rfl)
@[simp] theorem State.exe_setBooth (s : State) (b : BitVec 12) (x : Booth) (y : Nat) : (s.setBooth b x).exe y = s.exe y := (rfl)
@[simp] theorem State.exe_setFlow (s : State) (f : BitVec 16) (x : Flow) (y : Nat) : (s.setFlow f x).exe y = s.exe y := (rfl)
@[simp] theorem State.exe_setThread (s : State) (t : Nat) (x : Thread) (y : Nat) : (s.setThread t x).exe y = s.exe y := (rfl)
@[simp] theorem State.exe_setSpyTable (s : State) (t : Nat) (x : SpyTable) (y : Nat) : (s.setSpyTable t x).exe y = s.exe y := (rfl)
@[simp] theorem State.exe_setScan (s : State) (n : Nat) (x : Scan) (y : Nat) : (s.setScan n x).exe y = s.exe y := (rfl)
@[simp] theorem State.exe_setPart (s : State) (k : Nat) (x : Part) (y : Nat) : (s.setPart k x).exe y = s.exe y := (rfl)
@[simp] theorem State.exe_setSv (s : State) (k : Nat) (x : SvEval) (y : Nat) : (s.setSv k x).exe y = s.exe y := (rfl)
@[simp] theorem State.exe_setNs (s : State) (n : Nat) (x : Ns) (y : Nat) : (s.setNs n x).exe y = s.exe y := (rfl)
@[simp] theorem State.exe_setMover (s : State) (n : Nat) (x : Mover) (y : Nat) : (s.setMover n x).exe y = s.exe y := (rfl)
@[simp] theorem State.exe_setDg (s : State) (n : Nat) (x : DgCtx) (y : Nat) : (s.setDg n x).exe y = s.exe y := (rfl)
@[simp] theorem State.exe_setCz (s : State) (n : Nat) (x : CzCtx) (y : Nat) : (s.setCz n x).exe y = s.exe y := (rfl)
@[simp] theorem State.exe_setHost (s : State) (f : Nat) (x : HostFn) (y : Nat) : (s.setHost f x).exe y = s.exe y := (rfl)
@[simp] theorem State.exe_setEcc (s : State) (cw : Nat) (e : Ecc) (y : Nat) : (s.setEcc cw e).exe y = s.exe y := (rfl)
@[simp] theorem State.exe_setMerge (s : State) (cw : Nat) (e : MergeEntry) (y : Nat) : (s.setMerge cw e).exe y = s.exe y := (rfl)
@[simp] theorem State.exe_setL2 (s : State) (k : Nat) (l : L2Line) (y : Nat) : (s.setL2 k l).exe y = s.exe y := (rfl)
@[simp] theorem State.exe_setR (s : State) (x : Nat) (r : Regs) (y : Nat) : (s.setR x r).exe y = s.exe y := (rfl)
@[simp] theorem State.job_setReg (s : State) (a : Nat) (v : W64) (y : Nat) : (s.setReg a v).job y = s.job y := (rfl)
@[simp] theorem State.job_setCtx (s : State) (x : Nat) (c : Ctx) (y : Nat) : (s.setCtx x c).job y = s.job y := (rfl)
@[simp] theorem State.job_setExe (s : State) (u : Nat) (e : Exec) (y : Nat) : (s.setExe u e).job y = s.job y := (rfl)
@[simp] theorem State.job_setQueue (s : State) (q : BitVec 16) (x : Queue) (y : Nat) : (s.setQueue q x).job y = s.job y := (rfl)
@[simp] theorem State.job_setBooth (s : State) (b : BitVec 12) (x : Booth) (y : Nat) : (s.setBooth b x).job y = s.job y := (rfl)
@[simp] theorem State.job_setFlow (s : State) (f : BitVec 16) (x : Flow) (y : Nat) : (s.setFlow f x).job y = s.job y := (rfl)
@[simp] theorem State.job_setThread (s : State) (t : Nat) (x : Thread) (y : Nat) : (s.setThread t x).job y = s.job y := (rfl)
@[simp] theorem State.job_setSpyTable (s : State) (t : Nat) (x : SpyTable) (y : Nat) : (s.setSpyTable t x).job y = s.job y := (rfl)
@[simp] theorem State.job_setScan (s : State) (n : Nat) (x : Scan) (y : Nat) : (s.setScan n x).job y = s.job y := (rfl)
@[simp] theorem State.job_setPart (s : State) (k : Nat) (x : Part) (y : Nat) : (s.setPart k x).job y = s.job y := (rfl)
@[simp] theorem State.job_setSv (s : State) (k : Nat) (x : SvEval) (y : Nat) : (s.setSv k x).job y = s.job y := (rfl)
@[simp] theorem State.job_setNs (s : State) (n : Nat) (x : Ns) (y : Nat) : (s.setNs n x).job y = s.job y := (rfl)
@[simp] theorem State.job_setMover (s : State) (n : Nat) (x : Mover) (y : Nat) : (s.setMover n x).job y = s.job y := (rfl)
@[simp] theorem State.job_setDg (s : State) (n : Nat) (x : DgCtx) (y : Nat) : (s.setDg n x).job y = s.job y := (rfl)
@[simp] theorem State.job_setCz (s : State) (n : Nat) (x : CzCtx) (y : Nat) : (s.setCz n x).job y = s.job y := (rfl)
@[simp] theorem State.job_setHost (s : State) (f : Nat) (x : HostFn) (y : Nat) : (s.setHost f x).job y = s.job y := (rfl)
@[simp] theorem State.job_setEcc (s : State) (cw : Nat) (e : Ecc) (y : Nat) : (s.setEcc cw e).job y = s.job y := (rfl)
@[simp] theorem State.job_setMerge (s : State) (cw : Nat) (e : MergeEntry) (y : Nat) : (s.setMerge cw e).job y = s.job y := (rfl)
@[simp] theorem State.job_setL2 (s : State) (k : Nat) (l : L2Line) (y : Nat) : (s.setL2 k l).job y = s.job y := (rfl)
@[simp] theorem State.job_setR (s : State) (x : Nat) (r : Regs) (y : Nat) : (s.setR x r).job y = s.job y := (rfl)
@[simp] theorem State.queue_setReg (s : State) (a : Nat) (v : W64) (y : BitVec 16) : (s.setReg a v).queue y = s.queue y := (rfl)
@[simp] theorem State.queue_setCtx (s : State) (x : Nat) (c : Ctx) (y : BitVec 16) : (s.setCtx x c).queue y = s.queue y := (rfl)
@[simp] theorem State.queue_setExe (s : State) (u : Nat) (e : Exec) (y : BitVec 16) : (s.setExe u e).queue y = s.queue y := (rfl)
@[simp] theorem State.queue_setJob (s : State) (j : Nat) (x : Job) (y : BitVec 16) : (s.setJob j x).queue y = s.queue y := (rfl)
@[simp] theorem State.queue_setBooth (s : State) (b : BitVec 12) (x : Booth) (y : BitVec 16) : (s.setBooth b x).queue y = s.queue y := (rfl)
@[simp] theorem State.queue_setFlow (s : State) (f : BitVec 16) (x : Flow) (y : BitVec 16) : (s.setFlow f x).queue y = s.queue y := (rfl)
@[simp] theorem State.queue_setThread (s : State) (t : Nat) (x : Thread) (y : BitVec 16) : (s.setThread t x).queue y = s.queue y := (rfl)
@[simp] theorem State.queue_setSpyTable (s : State) (t : Nat) (x : SpyTable) (y : BitVec 16) : (s.setSpyTable t x).queue y = s.queue y := (rfl)
@[simp] theorem State.queue_setScan (s : State) (n : Nat) (x : Scan) (y : BitVec 16) : (s.setScan n x).queue y = s.queue y := (rfl)
@[simp] theorem State.queue_setPart (s : State) (k : Nat) (x : Part) (y : BitVec 16) : (s.setPart k x).queue y = s.queue y := (rfl)
@[simp] theorem State.queue_setSv (s : State) (k : Nat) (x : SvEval) (y : BitVec 16) : (s.setSv k x).queue y = s.queue y := (rfl)
@[simp] theorem State.queue_setNs (s : State) (n : Nat) (x : Ns) (y : BitVec 16) : (s.setNs n x).queue y = s.queue y := (rfl)
@[simp] theorem State.queue_setMover (s : State) (n : Nat) (x : Mover) (y : BitVec 16) : (s.setMover n x).queue y = s.queue y := (rfl)
@[simp] theorem State.queue_setDg (s : State) (n : Nat) (x : DgCtx) (y : BitVec 16) : (s.setDg n x).queue y = s.queue y := (rfl)
@[simp] theorem State.queue_setCz (s : State) (n : Nat) (x : CzCtx) (y : BitVec 16) : (s.setCz n x).queue y = s.queue y := (rfl)
@[simp] theorem State.queue_setHost (s : State) (f : Nat) (x : HostFn) (y : BitVec 16) : (s.setHost f x).queue y = s.queue y := (rfl)
@[simp] theorem State.queue_setEcc (s : State) (cw : Nat) (e : Ecc) (y : BitVec 16) : (s.setEcc cw e).queue y = s.queue y := (rfl)
@[simp] theorem State.queue_setMerge (s : State) (cw : Nat) (e : MergeEntry) (y : BitVec 16) : (s.setMerge cw e).queue y = s.queue y := (rfl)
@[simp] theorem State.queue_setL2 (s : State) (k : Nat) (l : L2Line) (y : BitVec 16) : (s.setL2 k l).queue y = s.queue y := (rfl)
@[simp] theorem State.queue_setR (s : State) (x : Nat) (r : Regs) (y : BitVec 16) : (s.setR x r).queue y = s.queue y := (rfl)
@[simp] theorem State.booth_setReg (s : State) (a : Nat) (v : W64) (y : BitVec 12) : (s.setReg a v).booth y = s.booth y := (rfl)
@[simp] theorem State.booth_setCtx (s : State) (x : Nat) (c : Ctx) (y : BitVec 12) : (s.setCtx x c).booth y = s.booth y := (rfl)
@[simp] theorem State.booth_setExe (s : State) (u : Nat) (e : Exec) (y : BitVec 12) : (s.setExe u e).booth y = s.booth y := (rfl)
@[simp] theorem State.booth_setJob (s : State) (j : Nat) (x : Job) (y : BitVec 12) : (s.setJob j x).booth y = s.booth y := (rfl)
@[simp] theorem State.booth_setQueue (s : State) (q : BitVec 16) (x : Queue) (y : BitVec 12) : (s.setQueue q x).booth y = s.booth y := (rfl)
@[simp] theorem State.booth_setFlow (s : State) (f : BitVec 16) (x : Flow) (y : BitVec 12) : (s.setFlow f x).booth y = s.booth y := (rfl)
@[simp] theorem State.booth_setThread (s : State) (t : Nat) (x : Thread) (y : BitVec 12) : (s.setThread t x).booth y = s.booth y := (rfl)
@[simp] theorem State.booth_setSpyTable (s : State) (t : Nat) (x : SpyTable) (y : BitVec 12) : (s.setSpyTable t x).booth y = s.booth y := (rfl)
@[simp] theorem State.booth_setScan (s : State) (n : Nat) (x : Scan) (y : BitVec 12) : (s.setScan n x).booth y = s.booth y := (rfl)
@[simp] theorem State.booth_setPart (s : State) (k : Nat) (x : Part) (y : BitVec 12) : (s.setPart k x).booth y = s.booth y := (rfl)
@[simp] theorem State.booth_setSv (s : State) (k : Nat) (x : SvEval) (y : BitVec 12) : (s.setSv k x).booth y = s.booth y := (rfl)
@[simp] theorem State.booth_setNs (s : State) (n : Nat) (x : Ns) (y : BitVec 12) : (s.setNs n x).booth y = s.booth y := (rfl)
@[simp] theorem State.booth_setMover (s : State) (n : Nat) (x : Mover) (y : BitVec 12) : (s.setMover n x).booth y = s.booth y := (rfl)
@[simp] theorem State.booth_setDg (s : State) (n : Nat) (x : DgCtx) (y : BitVec 12) : (s.setDg n x).booth y = s.booth y := (rfl)
@[simp] theorem State.booth_setCz (s : State) (n : Nat) (x : CzCtx) (y : BitVec 12) : (s.setCz n x).booth y = s.booth y := (rfl)
@[simp] theorem State.booth_setHost (s : State) (f : Nat) (x : HostFn) (y : BitVec 12) : (s.setHost f x).booth y = s.booth y := (rfl)
@[simp] theorem State.booth_setEcc (s : State) (cw : Nat) (e : Ecc) (y : BitVec 12) : (s.setEcc cw e).booth y = s.booth y := (rfl)
@[simp] theorem State.booth_setMerge (s : State) (cw : Nat) (e : MergeEntry) (y : BitVec 12) : (s.setMerge cw e).booth y = s.booth y := (rfl)
@[simp] theorem State.booth_setL2 (s : State) (k : Nat) (l : L2Line) (y : BitVec 12) : (s.setL2 k l).booth y = s.booth y := (rfl)
@[simp] theorem State.booth_setR (s : State) (x : Nat) (r : Regs) (y : BitVec 12) : (s.setR x r).booth y = s.booth y := (rfl)
@[simp] theorem State.flow_setReg (s : State) (a : Nat) (v : W64) (y : BitVec 16) : (s.setReg a v).flow y = s.flow y := (rfl)
@[simp] theorem State.flow_setCtx (s : State) (x : Nat) (c : Ctx) (y : BitVec 16) : (s.setCtx x c).flow y = s.flow y := (rfl)
@[simp] theorem State.flow_setExe (s : State) (u : Nat) (e : Exec) (y : BitVec 16) : (s.setExe u e).flow y = s.flow y := (rfl)
@[simp] theorem State.flow_setJob (s : State) (j : Nat) (x : Job) (y : BitVec 16) : (s.setJob j x).flow y = s.flow y := (rfl)
@[simp] theorem State.flow_setQueue (s : State) (q : BitVec 16) (x : Queue) (y : BitVec 16) : (s.setQueue q x).flow y = s.flow y := (rfl)
@[simp] theorem State.flow_setBooth (s : State) (b : BitVec 12) (x : Booth) (y : BitVec 16) : (s.setBooth b x).flow y = s.flow y := (rfl)
@[simp] theorem State.flow_setThread (s : State) (t : Nat) (x : Thread) (y : BitVec 16) : (s.setThread t x).flow y = s.flow y := (rfl)
@[simp] theorem State.flow_setSpyTable (s : State) (t : Nat) (x : SpyTable) (y : BitVec 16) : (s.setSpyTable t x).flow y = s.flow y := (rfl)
@[simp] theorem State.flow_setScan (s : State) (n : Nat) (x : Scan) (y : BitVec 16) : (s.setScan n x).flow y = s.flow y := (rfl)
@[simp] theorem State.flow_setPart (s : State) (k : Nat) (x : Part) (y : BitVec 16) : (s.setPart k x).flow y = s.flow y := (rfl)
@[simp] theorem State.flow_setSv (s : State) (k : Nat) (x : SvEval) (y : BitVec 16) : (s.setSv k x).flow y = s.flow y := (rfl)
@[simp] theorem State.flow_setNs (s : State) (n : Nat) (x : Ns) (y : BitVec 16) : (s.setNs n x).flow y = s.flow y := (rfl)
@[simp] theorem State.flow_setMover (s : State) (n : Nat) (x : Mover) (y : BitVec 16) : (s.setMover n x).flow y = s.flow y := (rfl)
@[simp] theorem State.flow_setDg (s : State) (n : Nat) (x : DgCtx) (y : BitVec 16) : (s.setDg n x).flow y = s.flow y := (rfl)
@[simp] theorem State.flow_setCz (s : State) (n : Nat) (x : CzCtx) (y : BitVec 16) : (s.setCz n x).flow y = s.flow y := (rfl)
@[simp] theorem State.flow_setHost (s : State) (f : Nat) (x : HostFn) (y : BitVec 16) : (s.setHost f x).flow y = s.flow y := (rfl)
@[simp] theorem State.flow_setEcc (s : State) (cw : Nat) (e : Ecc) (y : BitVec 16) : (s.setEcc cw e).flow y = s.flow y := (rfl)
@[simp] theorem State.flow_setMerge (s : State) (cw : Nat) (e : MergeEntry) (y : BitVec 16) : (s.setMerge cw e).flow y = s.flow y := (rfl)
@[simp] theorem State.flow_setL2 (s : State) (k : Nat) (l : L2Line) (y : BitVec 16) : (s.setL2 k l).flow y = s.flow y := (rfl)
@[simp] theorem State.flow_setR (s : State) (x : Nat) (r : Regs) (y : BitVec 16) : (s.setR x r).flow y = s.flow y := (rfl)
@[simp] theorem State.thread_setReg (s : State) (a : Nat) (v : W64) (y : Nat) : (s.setReg a v).thread y = s.thread y := (rfl)
@[simp] theorem State.thread_setCtx (s : State) (x : Nat) (c : Ctx) (y : Nat) : (s.setCtx x c).thread y = s.thread y := (rfl)
@[simp] theorem State.thread_setExe (s : State) (u : Nat) (e : Exec) (y : Nat) : (s.setExe u e).thread y = s.thread y := (rfl)
@[simp] theorem State.thread_setJob (s : State) (j : Nat) (x : Job) (y : Nat) : (s.setJob j x).thread y = s.thread y := (rfl)
@[simp] theorem State.thread_setQueue (s : State) (q : BitVec 16) (x : Queue) (y : Nat) : (s.setQueue q x).thread y = s.thread y := (rfl)
@[simp] theorem State.thread_setBooth (s : State) (b : BitVec 12) (x : Booth) (y : Nat) : (s.setBooth b x).thread y = s.thread y := (rfl)
@[simp] theorem State.thread_setFlow (s : State) (f : BitVec 16) (x : Flow) (y : Nat) : (s.setFlow f x).thread y = s.thread y := (rfl)
@[simp] theorem State.thread_setSpyTable (s : State) (t : Nat) (x : SpyTable) (y : Nat) : (s.setSpyTable t x).thread y = s.thread y := (rfl)
@[simp] theorem State.thread_setScan (s : State) (n : Nat) (x : Scan) (y : Nat) : (s.setScan n x).thread y = s.thread y := (rfl)
@[simp] theorem State.thread_setPart (s : State) (k : Nat) (x : Part) (y : Nat) : (s.setPart k x).thread y = s.thread y := (rfl)
@[simp] theorem State.thread_setSv (s : State) (k : Nat) (x : SvEval) (y : Nat) : (s.setSv k x).thread y = s.thread y := (rfl)
@[simp] theorem State.thread_setNs (s : State) (n : Nat) (x : Ns) (y : Nat) : (s.setNs n x).thread y = s.thread y := (rfl)
@[simp] theorem State.thread_setMover (s : State) (n : Nat) (x : Mover) (y : Nat) : (s.setMover n x).thread y = s.thread y := (rfl)
@[simp] theorem State.thread_setDg (s : State) (n : Nat) (x : DgCtx) (y : Nat) : (s.setDg n x).thread y = s.thread y := (rfl)
@[simp] theorem State.thread_setCz (s : State) (n : Nat) (x : CzCtx) (y : Nat) : (s.setCz n x).thread y = s.thread y := (rfl)
@[simp] theorem State.thread_setHost (s : State) (f : Nat) (x : HostFn) (y : Nat) : (s.setHost f x).thread y = s.thread y := (rfl)
@[simp] theorem State.thread_setEcc (s : State) (cw : Nat) (e : Ecc) (y : Nat) : (s.setEcc cw e).thread y = s.thread y := (rfl)
@[simp] theorem State.thread_setMerge (s : State) (cw : Nat) (e : MergeEntry) (y : Nat) : (s.setMerge cw e).thread y = s.thread y := (rfl)
@[simp] theorem State.thread_setL2 (s : State) (k : Nat) (l : L2Line) (y : Nat) : (s.setL2 k l).thread y = s.thread y := (rfl)
@[simp] theorem State.thread_setR (s : State) (x : Nat) (r : Regs) (y : Nat) : (s.setR x r).thread y = s.thread y := (rfl)
@[simp] theorem State.spyTable_setReg (s : State) (a : Nat) (v : W64) (y : Nat) : (s.setReg a v).spyTable y = s.spyTable y := (rfl)
@[simp] theorem State.spyTable_setCtx (s : State) (x : Nat) (c : Ctx) (y : Nat) : (s.setCtx x c).spyTable y = s.spyTable y := (rfl)
@[simp] theorem State.spyTable_setExe (s : State) (u : Nat) (e : Exec) (y : Nat) : (s.setExe u e).spyTable y = s.spyTable y := (rfl)
@[simp] theorem State.spyTable_setJob (s : State) (j : Nat) (x : Job) (y : Nat) : (s.setJob j x).spyTable y = s.spyTable y := (rfl)
@[simp] theorem State.spyTable_setQueue (s : State) (q : BitVec 16) (x : Queue) (y : Nat) : (s.setQueue q x).spyTable y = s.spyTable y := (rfl)
@[simp] theorem State.spyTable_setBooth (s : State) (b : BitVec 12) (x : Booth) (y : Nat) : (s.setBooth b x).spyTable y = s.spyTable y := (rfl)
@[simp] theorem State.spyTable_setFlow (s : State) (f : BitVec 16) (x : Flow) (y : Nat) : (s.setFlow f x).spyTable y = s.spyTable y := (rfl)
@[simp] theorem State.spyTable_setThread (s : State) (t : Nat) (x : Thread) (y : Nat) : (s.setThread t x).spyTable y = s.spyTable y := (rfl)
@[simp] theorem State.spyTable_setScan (s : State) (n : Nat) (x : Scan) (y : Nat) : (s.setScan n x).spyTable y = s.spyTable y := (rfl)
@[simp] theorem State.spyTable_setPart (s : State) (k : Nat) (x : Part) (y : Nat) : (s.setPart k x).spyTable y = s.spyTable y := (rfl)
@[simp] theorem State.spyTable_setSv (s : State) (k : Nat) (x : SvEval) (y : Nat) : (s.setSv k x).spyTable y = s.spyTable y := (rfl)
@[simp] theorem State.spyTable_setNs (s : State) (n : Nat) (x : Ns) (y : Nat) : (s.setNs n x).spyTable y = s.spyTable y := (rfl)
@[simp] theorem State.spyTable_setMover (s : State) (n : Nat) (x : Mover) (y : Nat) : (s.setMover n x).spyTable y = s.spyTable y := (rfl)
@[simp] theorem State.spyTable_setDg (s : State) (n : Nat) (x : DgCtx) (y : Nat) : (s.setDg n x).spyTable y = s.spyTable y := (rfl)
@[simp] theorem State.spyTable_setCz (s : State) (n : Nat) (x : CzCtx) (y : Nat) : (s.setCz n x).spyTable y = s.spyTable y := (rfl)
@[simp] theorem State.spyTable_setHost (s : State) (f : Nat) (x : HostFn) (y : Nat) : (s.setHost f x).spyTable y = s.spyTable y := (rfl)
@[simp] theorem State.spyTable_setEcc (s : State) (cw : Nat) (e : Ecc) (y : Nat) : (s.setEcc cw e).spyTable y = s.spyTable y := (rfl)
@[simp] theorem State.spyTable_setMerge (s : State) (cw : Nat) (e : MergeEntry) (y : Nat) : (s.setMerge cw e).spyTable y = s.spyTable y := (rfl)
@[simp] theorem State.spyTable_setL2 (s : State) (k : Nat) (l : L2Line) (y : Nat) : (s.setL2 k l).spyTable y = s.spyTable y := (rfl)
@[simp] theorem State.spyTable_setR (s : State) (x : Nat) (r : Regs) (y : Nat) : (s.setR x r).spyTable y = s.spyTable y := (rfl)
@[simp] theorem State.scan_setReg (s : State) (a : Nat) (v : W64) (y : Nat) : (s.setReg a v).scan y = s.scan y := (rfl)
@[simp] theorem State.scan_setCtx (s : State) (x : Nat) (c : Ctx) (y : Nat) : (s.setCtx x c).scan y = s.scan y := (rfl)
@[simp] theorem State.scan_setExe (s : State) (u : Nat) (e : Exec) (y : Nat) : (s.setExe u e).scan y = s.scan y := (rfl)
@[simp] theorem State.scan_setJob (s : State) (j : Nat) (x : Job) (y : Nat) : (s.setJob j x).scan y = s.scan y := (rfl)
@[simp] theorem State.scan_setQueue (s : State) (q : BitVec 16) (x : Queue) (y : Nat) : (s.setQueue q x).scan y = s.scan y := (rfl)
@[simp] theorem State.scan_setBooth (s : State) (b : BitVec 12) (x : Booth) (y : Nat) : (s.setBooth b x).scan y = s.scan y := (rfl)
@[simp] theorem State.scan_setFlow (s : State) (f : BitVec 16) (x : Flow) (y : Nat) : (s.setFlow f x).scan y = s.scan y := (rfl)
@[simp] theorem State.scan_setThread (s : State) (t : Nat) (x : Thread) (y : Nat) : (s.setThread t x).scan y = s.scan y := (rfl)
@[simp] theorem State.scan_setSpyTable (s : State) (t : Nat) (x : SpyTable) (y : Nat) : (s.setSpyTable t x).scan y = s.scan y := (rfl)
@[simp] theorem State.scan_setPart (s : State) (k : Nat) (x : Part) (y : Nat) : (s.setPart k x).scan y = s.scan y := (rfl)
@[simp] theorem State.scan_setSv (s : State) (k : Nat) (x : SvEval) (y : Nat) : (s.setSv k x).scan y = s.scan y := (rfl)
@[simp] theorem State.scan_setNs (s : State) (n : Nat) (x : Ns) (y : Nat) : (s.setNs n x).scan y = s.scan y := (rfl)
@[simp] theorem State.scan_setMover (s : State) (n : Nat) (x : Mover) (y : Nat) : (s.setMover n x).scan y = s.scan y := (rfl)
@[simp] theorem State.scan_setDg (s : State) (n : Nat) (x : DgCtx) (y : Nat) : (s.setDg n x).scan y = s.scan y := (rfl)
@[simp] theorem State.scan_setCz (s : State) (n : Nat) (x : CzCtx) (y : Nat) : (s.setCz n x).scan y = s.scan y := (rfl)
@[simp] theorem State.scan_setHost (s : State) (f : Nat) (x : HostFn) (y : Nat) : (s.setHost f x).scan y = s.scan y := (rfl)
@[simp] theorem State.scan_setEcc (s : State) (cw : Nat) (e : Ecc) (y : Nat) : (s.setEcc cw e).scan y = s.scan y := (rfl)
@[simp] theorem State.scan_setMerge (s : State) (cw : Nat) (e : MergeEntry) (y : Nat) : (s.setMerge cw e).scan y = s.scan y := (rfl)
@[simp] theorem State.scan_setL2 (s : State) (k : Nat) (l : L2Line) (y : Nat) : (s.setL2 k l).scan y = s.scan y := (rfl)
@[simp] theorem State.scan_setR (s : State) (x : Nat) (r : Regs) (y : Nat) : (s.setR x r).scan y = s.scan y := (rfl)
@[simp] theorem State.part_setReg (s : State) (a : Nat) (v : W64) (y : Nat) : (s.setReg a v).part y = s.part y := (rfl)
@[simp] theorem State.part_setCtx (s : State) (x : Nat) (c : Ctx) (y : Nat) : (s.setCtx x c).part y = s.part y := (rfl)
@[simp] theorem State.part_setExe (s : State) (u : Nat) (e : Exec) (y : Nat) : (s.setExe u e).part y = s.part y := (rfl)
@[simp] theorem State.part_setJob (s : State) (j : Nat) (x : Job) (y : Nat) : (s.setJob j x).part y = s.part y := (rfl)
@[simp] theorem State.part_setQueue (s : State) (q : BitVec 16) (x : Queue) (y : Nat) : (s.setQueue q x).part y = s.part y := (rfl)
@[simp] theorem State.part_setBooth (s : State) (b : BitVec 12) (x : Booth) (y : Nat) : (s.setBooth b x).part y = s.part y := (rfl)
@[simp] theorem State.part_setFlow (s : State) (f : BitVec 16) (x : Flow) (y : Nat) : (s.setFlow f x).part y = s.part y := (rfl)
@[simp] theorem State.part_setThread (s : State) (t : Nat) (x : Thread) (y : Nat) : (s.setThread t x).part y = s.part y := (rfl)
@[simp] theorem State.part_setSpyTable (s : State) (t : Nat) (x : SpyTable) (y : Nat) : (s.setSpyTable t x).part y = s.part y := (rfl)
@[simp] theorem State.part_setScan (s : State) (n : Nat) (x : Scan) (y : Nat) : (s.setScan n x).part y = s.part y := (rfl)
@[simp] theorem State.part_setSv (s : State) (k : Nat) (x : SvEval) (y : Nat) : (s.setSv k x).part y = s.part y := (rfl)
@[simp] theorem State.part_setNs (s : State) (n : Nat) (x : Ns) (y : Nat) : (s.setNs n x).part y = s.part y := (rfl)
@[simp] theorem State.part_setMover (s : State) (n : Nat) (x : Mover) (y : Nat) : (s.setMover n x).part y = s.part y := (rfl)
@[simp] theorem State.part_setDg (s : State) (n : Nat) (x : DgCtx) (y : Nat) : (s.setDg n x).part y = s.part y := (rfl)
@[simp] theorem State.part_setCz (s : State) (n : Nat) (x : CzCtx) (y : Nat) : (s.setCz n x).part y = s.part y := (rfl)
@[simp] theorem State.part_setHost (s : State) (f : Nat) (x : HostFn) (y : Nat) : (s.setHost f x).part y = s.part y := (rfl)
@[simp] theorem State.part_setEcc (s : State) (cw : Nat) (e : Ecc) (y : Nat) : (s.setEcc cw e).part y = s.part y := (rfl)
@[simp] theorem State.part_setMerge (s : State) (cw : Nat) (e : MergeEntry) (y : Nat) : (s.setMerge cw e).part y = s.part y := (rfl)
@[simp] theorem State.part_setL2 (s : State) (k : Nat) (l : L2Line) (y : Nat) : (s.setL2 k l).part y = s.part y := (rfl)
@[simp] theorem State.part_setR (s : State) (x : Nat) (r : Regs) (y : Nat) : (s.setR x r).part y = s.part y := (rfl)
@[simp] theorem State.sv_setReg (s : State) (a : Nat) (v : W64) (y : Nat) : (s.setReg a v).sv y = s.sv y := (rfl)
@[simp] theorem State.sv_setCtx (s : State) (x : Nat) (c : Ctx) (y : Nat) : (s.setCtx x c).sv y = s.sv y := (rfl)
@[simp] theorem State.sv_setExe (s : State) (u : Nat) (e : Exec) (y : Nat) : (s.setExe u e).sv y = s.sv y := (rfl)
@[simp] theorem State.sv_setJob (s : State) (j : Nat) (x : Job) (y : Nat) : (s.setJob j x).sv y = s.sv y := (rfl)
@[simp] theorem State.sv_setQueue (s : State) (q : BitVec 16) (x : Queue) (y : Nat) : (s.setQueue q x).sv y = s.sv y := (rfl)
@[simp] theorem State.sv_setBooth (s : State) (b : BitVec 12) (x : Booth) (y : Nat) : (s.setBooth b x).sv y = s.sv y := (rfl)
@[simp] theorem State.sv_setFlow (s : State) (f : BitVec 16) (x : Flow) (y : Nat) : (s.setFlow f x).sv y = s.sv y := (rfl)
@[simp] theorem State.sv_setThread (s : State) (t : Nat) (x : Thread) (y : Nat) : (s.setThread t x).sv y = s.sv y := (rfl)
@[simp] theorem State.sv_setSpyTable (s : State) (t : Nat) (x : SpyTable) (y : Nat) : (s.setSpyTable t x).sv y = s.sv y := (rfl)
@[simp] theorem State.sv_setScan (s : State) (n : Nat) (x : Scan) (y : Nat) : (s.setScan n x).sv y = s.sv y := (rfl)
@[simp] theorem State.sv_setPart (s : State) (k : Nat) (x : Part) (y : Nat) : (s.setPart k x).sv y = s.sv y := (rfl)
@[simp] theorem State.sv_setNs (s : State) (n : Nat) (x : Ns) (y : Nat) : (s.setNs n x).sv y = s.sv y := (rfl)
@[simp] theorem State.sv_setMover (s : State) (n : Nat) (x : Mover) (y : Nat) : (s.setMover n x).sv y = s.sv y := (rfl)
@[simp] theorem State.sv_setDg (s : State) (n : Nat) (x : DgCtx) (y : Nat) : (s.setDg n x).sv y = s.sv y := (rfl)
@[simp] theorem State.sv_setCz (s : State) (n : Nat) (x : CzCtx) (y : Nat) : (s.setCz n x).sv y = s.sv y := (rfl)
@[simp] theorem State.sv_setHost (s : State) (f : Nat) (x : HostFn) (y : Nat) : (s.setHost f x).sv y = s.sv y := (rfl)
@[simp] theorem State.sv_setEcc (s : State) (cw : Nat) (e : Ecc) (y : Nat) : (s.setEcc cw e).sv y = s.sv y := (rfl)
@[simp] theorem State.sv_setMerge (s : State) (cw : Nat) (e : MergeEntry) (y : Nat) : (s.setMerge cw e).sv y = s.sv y := (rfl)
@[simp] theorem State.sv_setL2 (s : State) (k : Nat) (l : L2Line) (y : Nat) : (s.setL2 k l).sv y = s.sv y := (rfl)
@[simp] theorem State.sv_setR (s : State) (x : Nat) (r : Regs) (y : Nat) : (s.setR x r).sv y = s.sv y := (rfl)
@[simp] theorem State.ns_setReg (s : State) (a : Nat) (v : W64) (y : Nat) : (s.setReg a v).ns y = s.ns y := (rfl)
@[simp] theorem State.ns_setCtx (s : State) (x : Nat) (c : Ctx) (y : Nat) : (s.setCtx x c).ns y = s.ns y := (rfl)
@[simp] theorem State.ns_setExe (s : State) (u : Nat) (e : Exec) (y : Nat) : (s.setExe u e).ns y = s.ns y := (rfl)
@[simp] theorem State.ns_setJob (s : State) (j : Nat) (x : Job) (y : Nat) : (s.setJob j x).ns y = s.ns y := (rfl)
@[simp] theorem State.ns_setQueue (s : State) (q : BitVec 16) (x : Queue) (y : Nat) : (s.setQueue q x).ns y = s.ns y := (rfl)
@[simp] theorem State.ns_setBooth (s : State) (b : BitVec 12) (x : Booth) (y : Nat) : (s.setBooth b x).ns y = s.ns y := (rfl)
@[simp] theorem State.ns_setFlow (s : State) (f : BitVec 16) (x : Flow) (y : Nat) : (s.setFlow f x).ns y = s.ns y := (rfl)
@[simp] theorem State.ns_setThread (s : State) (t : Nat) (x : Thread) (y : Nat) : (s.setThread t x).ns y = s.ns y := (rfl)
@[simp] theorem State.ns_setSpyTable (s : State) (t : Nat) (x : SpyTable) (y : Nat) : (s.setSpyTable t x).ns y = s.ns y := (rfl)
@[simp] theorem State.ns_setScan (s : State) (n : Nat) (x : Scan) (y : Nat) : (s.setScan n x).ns y = s.ns y := (rfl)
@[simp] theorem State.ns_setPart (s : State) (k : Nat) (x : Part) (y : Nat) : (s.setPart k x).ns y = s.ns y := (rfl)
@[simp] theorem State.ns_setSv (s : State) (k : Nat) (x : SvEval) (y : Nat) : (s.setSv k x).ns y = s.ns y := (rfl)
@[simp] theorem State.ns_setMover (s : State) (n : Nat) (x : Mover) (y : Nat) : (s.setMover n x).ns y = s.ns y := (rfl)
@[simp] theorem State.ns_setDg (s : State) (n : Nat) (x : DgCtx) (y : Nat) : (s.setDg n x).ns y = s.ns y := (rfl)
@[simp] theorem State.ns_setCz (s : State) (n : Nat) (x : CzCtx) (y : Nat) : (s.setCz n x).ns y = s.ns y := (rfl)
@[simp] theorem State.ns_setHost (s : State) (f : Nat) (x : HostFn) (y : Nat) : (s.setHost f x).ns y = s.ns y := (rfl)
@[simp] theorem State.ns_setEcc (s : State) (cw : Nat) (e : Ecc) (y : Nat) : (s.setEcc cw e).ns y = s.ns y := (rfl)
@[simp] theorem State.ns_setMerge (s : State) (cw : Nat) (e : MergeEntry) (y : Nat) : (s.setMerge cw e).ns y = s.ns y := (rfl)
@[simp] theorem State.ns_setL2 (s : State) (k : Nat) (l : L2Line) (y : Nat) : (s.setL2 k l).ns y = s.ns y := (rfl)
@[simp] theorem State.ns_setR (s : State) (x : Nat) (r : Regs) (y : Nat) : (s.setR x r).ns y = s.ns y := (rfl)
@[simp] theorem State.mover_setReg (s : State) (a : Nat) (v : W64) (y : Nat) : (s.setReg a v).mover y = s.mover y := (rfl)
@[simp] theorem State.mover_setCtx (s : State) (x : Nat) (c : Ctx) (y : Nat) : (s.setCtx x c).mover y = s.mover y := (rfl)
@[simp] theorem State.mover_setExe (s : State) (u : Nat) (e : Exec) (y : Nat) : (s.setExe u e).mover y = s.mover y := (rfl)
@[simp] theorem State.mover_setJob (s : State) (j : Nat) (x : Job) (y : Nat) : (s.setJob j x).mover y = s.mover y := (rfl)
@[simp] theorem State.mover_setQueue (s : State) (q : BitVec 16) (x : Queue) (y : Nat) : (s.setQueue q x).mover y = s.mover y := (rfl)
@[simp] theorem State.mover_setBooth (s : State) (b : BitVec 12) (x : Booth) (y : Nat) : (s.setBooth b x).mover y = s.mover y := (rfl)
@[simp] theorem State.mover_setFlow (s : State) (f : BitVec 16) (x : Flow) (y : Nat) : (s.setFlow f x).mover y = s.mover y := (rfl)
@[simp] theorem State.mover_setThread (s : State) (t : Nat) (x : Thread) (y : Nat) : (s.setThread t x).mover y = s.mover y := (rfl)
@[simp] theorem State.mover_setSpyTable (s : State) (t : Nat) (x : SpyTable) (y : Nat) : (s.setSpyTable t x).mover y = s.mover y := (rfl)
@[simp] theorem State.mover_setScan (s : State) (n : Nat) (x : Scan) (y : Nat) : (s.setScan n x).mover y = s.mover y := (rfl)
@[simp] theorem State.mover_setPart (s : State) (k : Nat) (x : Part) (y : Nat) : (s.setPart k x).mover y = s.mover y := (rfl)
@[simp] theorem State.mover_setSv (s : State) (k : Nat) (x : SvEval) (y : Nat) : (s.setSv k x).mover y = s.mover y := (rfl)
@[simp] theorem State.mover_setNs (s : State) (n : Nat) (x : Ns) (y : Nat) : (s.setNs n x).mover y = s.mover y := (rfl)
@[simp] theorem State.mover_setDg (s : State) (n : Nat) (x : DgCtx) (y : Nat) : (s.setDg n x).mover y = s.mover y := (rfl)
@[simp] theorem State.mover_setCz (s : State) (n : Nat) (x : CzCtx) (y : Nat) : (s.setCz n x).mover y = s.mover y := (rfl)
@[simp] theorem State.mover_setHost (s : State) (f : Nat) (x : HostFn) (y : Nat) : (s.setHost f x).mover y = s.mover y := (rfl)
@[simp] theorem State.mover_setEcc (s : State) (cw : Nat) (e : Ecc) (y : Nat) : (s.setEcc cw e).mover y = s.mover y := (rfl)
@[simp] theorem State.mover_setMerge (s : State) (cw : Nat) (e : MergeEntry) (y : Nat) : (s.setMerge cw e).mover y = s.mover y := (rfl)
@[simp] theorem State.mover_setL2 (s : State) (k : Nat) (l : L2Line) (y : Nat) : (s.setL2 k l).mover y = s.mover y := (rfl)
@[simp] theorem State.mover_setR (s : State) (x : Nat) (r : Regs) (y : Nat) : (s.setR x r).mover y = s.mover y := (rfl)
@[simp] theorem State.dg_setReg (s : State) (a : Nat) (v : W64) (y : Nat) : (s.setReg a v).dg y = s.dg y := (rfl)
@[simp] theorem State.dg_setCtx (s : State) (x : Nat) (c : Ctx) (y : Nat) : (s.setCtx x c).dg y = s.dg y := (rfl)
@[simp] theorem State.dg_setExe (s : State) (u : Nat) (e : Exec) (y : Nat) : (s.setExe u e).dg y = s.dg y := (rfl)
@[simp] theorem State.dg_setJob (s : State) (j : Nat) (x : Job) (y : Nat) : (s.setJob j x).dg y = s.dg y := (rfl)
@[simp] theorem State.dg_setQueue (s : State) (q : BitVec 16) (x : Queue) (y : Nat) : (s.setQueue q x).dg y = s.dg y := (rfl)
@[simp] theorem State.dg_setBooth (s : State) (b : BitVec 12) (x : Booth) (y : Nat) : (s.setBooth b x).dg y = s.dg y := (rfl)
@[simp] theorem State.dg_setFlow (s : State) (f : BitVec 16) (x : Flow) (y : Nat) : (s.setFlow f x).dg y = s.dg y := (rfl)
@[simp] theorem State.dg_setThread (s : State) (t : Nat) (x : Thread) (y : Nat) : (s.setThread t x).dg y = s.dg y := (rfl)
@[simp] theorem State.dg_setSpyTable (s : State) (t : Nat) (x : SpyTable) (y : Nat) : (s.setSpyTable t x).dg y = s.dg y := (rfl)
@[simp] theorem State.dg_setScan (s : State) (n : Nat) (x : Scan) (y : Nat) : (s.setScan n x).dg y = s.dg y := (rfl)
@[simp] theorem State.dg_setPart (s : State) (k : Nat) (x : Part) (y : Nat) : (s.setPart k x).dg y = s.dg y := (rfl)
@[simp] theorem State.dg_setSv (s : State) (k : Nat) (x : SvEval) (y : Nat) : (s.setSv k x).dg y = s.dg y := (rfl)
@[simp] theorem State.dg_setNs (s : State) (n : Nat) (x : Ns) (y : Nat) : (s.setNs n x).dg y = s.dg y := (rfl)
@[simp] theorem State.dg_setMover (s : State) (n : Nat) (x : Mover) (y : Nat) : (s.setMover n x).dg y = s.dg y := (rfl)
@[simp] theorem State.dg_setCz (s : State) (n : Nat) (x : CzCtx) (y : Nat) : (s.setCz n x).dg y = s.dg y := (rfl)
@[simp] theorem State.dg_setHost (s : State) (f : Nat) (x : HostFn) (y : Nat) : (s.setHost f x).dg y = s.dg y := (rfl)
@[simp] theorem State.dg_setEcc (s : State) (cw : Nat) (e : Ecc) (y : Nat) : (s.setEcc cw e).dg y = s.dg y := (rfl)
@[simp] theorem State.dg_setMerge (s : State) (cw : Nat) (e : MergeEntry) (y : Nat) : (s.setMerge cw e).dg y = s.dg y := (rfl)
@[simp] theorem State.dg_setL2 (s : State) (k : Nat) (l : L2Line) (y : Nat) : (s.setL2 k l).dg y = s.dg y := (rfl)
@[simp] theorem State.dg_setR (s : State) (x : Nat) (r : Regs) (y : Nat) : (s.setR x r).dg y = s.dg y := (rfl)
@[simp] theorem State.cz_setReg (s : State) (a : Nat) (v : W64) (y : Nat) : (s.setReg a v).cz y = s.cz y := (rfl)
@[simp] theorem State.cz_setCtx (s : State) (x : Nat) (c : Ctx) (y : Nat) : (s.setCtx x c).cz y = s.cz y := (rfl)
@[simp] theorem State.cz_setExe (s : State) (u : Nat) (e : Exec) (y : Nat) : (s.setExe u e).cz y = s.cz y := (rfl)
@[simp] theorem State.cz_setJob (s : State) (j : Nat) (x : Job) (y : Nat) : (s.setJob j x).cz y = s.cz y := (rfl)
@[simp] theorem State.cz_setQueue (s : State) (q : BitVec 16) (x : Queue) (y : Nat) : (s.setQueue q x).cz y = s.cz y := (rfl)
@[simp] theorem State.cz_setBooth (s : State) (b : BitVec 12) (x : Booth) (y : Nat) : (s.setBooth b x).cz y = s.cz y := (rfl)
@[simp] theorem State.cz_setFlow (s : State) (f : BitVec 16) (x : Flow) (y : Nat) : (s.setFlow f x).cz y = s.cz y := (rfl)
@[simp] theorem State.cz_setThread (s : State) (t : Nat) (x : Thread) (y : Nat) : (s.setThread t x).cz y = s.cz y := (rfl)
@[simp] theorem State.cz_setSpyTable (s : State) (t : Nat) (x : SpyTable) (y : Nat) : (s.setSpyTable t x).cz y = s.cz y := (rfl)
@[simp] theorem State.cz_setScan (s : State) (n : Nat) (x : Scan) (y : Nat) : (s.setScan n x).cz y = s.cz y := (rfl)
@[simp] theorem State.cz_setPart (s : State) (k : Nat) (x : Part) (y : Nat) : (s.setPart k x).cz y = s.cz y := (rfl)
@[simp] theorem State.cz_setSv (s : State) (k : Nat) (x : SvEval) (y : Nat) : (s.setSv k x).cz y = s.cz y := (rfl)
@[simp] theorem State.cz_setNs (s : State) (n : Nat) (x : Ns) (y : Nat) : (s.setNs n x).cz y = s.cz y := (rfl)
@[simp] theorem State.cz_setMover (s : State) (n : Nat) (x : Mover) (y : Nat) : (s.setMover n x).cz y = s.cz y := (rfl)
@[simp] theorem State.cz_setDg (s : State) (n : Nat) (x : DgCtx) (y : Nat) : (s.setDg n x).cz y = s.cz y := (rfl)
@[simp] theorem State.cz_setHost (s : State) (f : Nat) (x : HostFn) (y : Nat) : (s.setHost f x).cz y = s.cz y := (rfl)
@[simp] theorem State.cz_setEcc (s : State) (cw : Nat) (e : Ecc) (y : Nat) : (s.setEcc cw e).cz y = s.cz y := (rfl)
@[simp] theorem State.cz_setMerge (s : State) (cw : Nat) (e : MergeEntry) (y : Nat) : (s.setMerge cw e).cz y = s.cz y := (rfl)
@[simp] theorem State.cz_setL2 (s : State) (k : Nat) (l : L2Line) (y : Nat) : (s.setL2 k l).cz y = s.cz y := (rfl)
@[simp] theorem State.cz_setR (s : State) (x : Nat) (r : Regs) (y : Nat) : (s.setR x r).cz y = s.cz y := (rfl)
@[simp] theorem State.hostFn_setReg (s : State) (a : Nat) (v : W64) (y : Nat) : (s.setReg a v).hostFn y = s.hostFn y := (rfl)
@[simp] theorem State.hostFn_setCtx (s : State) (x : Nat) (c : Ctx) (y : Nat) : (s.setCtx x c).hostFn y = s.hostFn y := (rfl)
@[simp] theorem State.hostFn_setExe (s : State) (u : Nat) (e : Exec) (y : Nat) : (s.setExe u e).hostFn y = s.hostFn y := (rfl)
@[simp] theorem State.hostFn_setJob (s : State) (j : Nat) (x : Job) (y : Nat) : (s.setJob j x).hostFn y = s.hostFn y := (rfl)
@[simp] theorem State.hostFn_setQueue (s : State) (q : BitVec 16) (x : Queue) (y : Nat) : (s.setQueue q x).hostFn y = s.hostFn y := (rfl)
@[simp] theorem State.hostFn_setBooth (s : State) (b : BitVec 12) (x : Booth) (y : Nat) : (s.setBooth b x).hostFn y = s.hostFn y := (rfl)
@[simp] theorem State.hostFn_setFlow (s : State) (f : BitVec 16) (x : Flow) (y : Nat) : (s.setFlow f x).hostFn y = s.hostFn y := (rfl)
@[simp] theorem State.hostFn_setThread (s : State) (t : Nat) (x : Thread) (y : Nat) : (s.setThread t x).hostFn y = s.hostFn y := (rfl)
@[simp] theorem State.hostFn_setSpyTable (s : State) (t : Nat) (x : SpyTable) (y : Nat) : (s.setSpyTable t x).hostFn y = s.hostFn y := (rfl)
@[simp] theorem State.hostFn_setScan (s : State) (n : Nat) (x : Scan) (y : Nat) : (s.setScan n x).hostFn y = s.hostFn y := (rfl)
@[simp] theorem State.hostFn_setPart (s : State) (k : Nat) (x : Part) (y : Nat) : (s.setPart k x).hostFn y = s.hostFn y := (rfl)
@[simp] theorem State.hostFn_setSv (s : State) (k : Nat) (x : SvEval) (y : Nat) : (s.setSv k x).hostFn y = s.hostFn y := (rfl)
@[simp] theorem State.hostFn_setNs (s : State) (n : Nat) (x : Ns) (y : Nat) : (s.setNs n x).hostFn y = s.hostFn y := (rfl)
@[simp] theorem State.hostFn_setMover (s : State) (n : Nat) (x : Mover) (y : Nat) : (s.setMover n x).hostFn y = s.hostFn y := (rfl)
@[simp] theorem State.hostFn_setDg (s : State) (n : Nat) (x : DgCtx) (y : Nat) : (s.setDg n x).hostFn y = s.hostFn y := (rfl)
@[simp] theorem State.hostFn_setCz (s : State) (n : Nat) (x : CzCtx) (y : Nat) : (s.setCz n x).hostFn y = s.hostFn y := (rfl)
@[simp] theorem State.hostFn_setEcc (s : State) (cw : Nat) (e : Ecc) (y : Nat) : (s.setEcc cw e).hostFn y = s.hostFn y := (rfl)
@[simp] theorem State.hostFn_setMerge (s : State) (cw : Nat) (e : MergeEntry) (y : Nat) : (s.setMerge cw e).hostFn y = s.hostFn y := (rfl)
@[simp] theorem State.hostFn_setL2 (s : State) (k : Nat) (l : L2Line) (y : Nat) : (s.setL2 k l).hostFn y = s.hostFn y := (rfl)
@[simp] theorem State.hostFn_setR (s : State) (x : Nat) (r : Regs) (y : Nat) : (s.setR x r).hostFn y = s.hostFn y := (rfl)
@[simp] theorem State.eccAt_setReg (s : State) (a : Nat) (v : W64) (y : Nat) : (s.setReg a v).eccAt y = s.eccAt y := (rfl)
@[simp] theorem State.eccAt_setCtx (s : State) (x : Nat) (c : Ctx) (y : Nat) : (s.setCtx x c).eccAt y = s.eccAt y := (rfl)
@[simp] theorem State.eccAt_setExe (s : State) (u : Nat) (e : Exec) (y : Nat) : (s.setExe u e).eccAt y = s.eccAt y := (rfl)
@[simp] theorem State.eccAt_setJob (s : State) (j : Nat) (x : Job) (y : Nat) : (s.setJob j x).eccAt y = s.eccAt y := (rfl)
@[simp] theorem State.eccAt_setQueue (s : State) (q : BitVec 16) (x : Queue) (y : Nat) : (s.setQueue q x).eccAt y = s.eccAt y := (rfl)
@[simp] theorem State.eccAt_setBooth (s : State) (b : BitVec 12) (x : Booth) (y : Nat) : (s.setBooth b x).eccAt y = s.eccAt y := (rfl)
@[simp] theorem State.eccAt_setFlow (s : State) (f : BitVec 16) (x : Flow) (y : Nat) : (s.setFlow f x).eccAt y = s.eccAt y := (rfl)
@[simp] theorem State.eccAt_setThread (s : State) (t : Nat) (x : Thread) (y : Nat) : (s.setThread t x).eccAt y = s.eccAt y := (rfl)
@[simp] theorem State.eccAt_setSpyTable (s : State) (t : Nat) (x : SpyTable) (y : Nat) : (s.setSpyTable t x).eccAt y = s.eccAt y := (rfl)
@[simp] theorem State.eccAt_setScan (s : State) (n : Nat) (x : Scan) (y : Nat) : (s.setScan n x).eccAt y = s.eccAt y := (rfl)
@[simp] theorem State.eccAt_setPart (s : State) (k : Nat) (x : Part) (y : Nat) : (s.setPart k x).eccAt y = s.eccAt y := (rfl)
@[simp] theorem State.eccAt_setSv (s : State) (k : Nat) (x : SvEval) (y : Nat) : (s.setSv k x).eccAt y = s.eccAt y := (rfl)
@[simp] theorem State.eccAt_setNs (s : State) (n : Nat) (x : Ns) (y : Nat) : (s.setNs n x).eccAt y = s.eccAt y := (rfl)
@[simp] theorem State.eccAt_setMover (s : State) (n : Nat) (x : Mover) (y : Nat) : (s.setMover n x).eccAt y = s.eccAt y := (rfl)
@[simp] theorem State.eccAt_setDg (s : State) (n : Nat) (x : DgCtx) (y : Nat) : (s.setDg n x).eccAt y = s.eccAt y := (rfl)
@[simp] theorem State.eccAt_setCz (s : State) (n : Nat) (x : CzCtx) (y : Nat) : (s.setCz n x).eccAt y = s.eccAt y := (rfl)
@[simp] theorem State.eccAt_setHost (s : State) (f : Nat) (x : HostFn) (y : Nat) : (s.setHost f x).eccAt y = s.eccAt y := (rfl)
@[simp] theorem State.eccAt_setMerge (s : State) (cw : Nat) (e : MergeEntry) (y : Nat) : (s.setMerge cw e).eccAt y = s.eccAt y := (rfl)
@[simp] theorem State.eccAt_setL2 (s : State) (k : Nat) (l : L2Line) (y : Nat) : (s.setL2 k l).eccAt y = s.eccAt y := (rfl)
@[simp] theorem State.eccAt_setR (s : State) (x : Nat) (r : Regs) (y : Nat) : (s.setR x r).eccAt y = s.eccAt y := (rfl)
@[simp] theorem State.mergeAt_setReg (s : State) (a : Nat) (v : W64) (y : Nat) : (s.setReg a v).mergeAt y = s.mergeAt y := (rfl)
@[simp] theorem State.mergeAt_setCtx (s : State) (x : Nat) (c : Ctx) (y : Nat) : (s.setCtx x c).mergeAt y = s.mergeAt y := (rfl)
@[simp] theorem State.mergeAt_setExe (s : State) (u : Nat) (e : Exec) (y : Nat) : (s.setExe u e).mergeAt y = s.mergeAt y := (rfl)
@[simp] theorem State.mergeAt_setJob (s : State) (j : Nat) (x : Job) (y : Nat) : (s.setJob j x).mergeAt y = s.mergeAt y := (rfl)
@[simp] theorem State.mergeAt_setQueue (s : State) (q : BitVec 16) (x : Queue) (y : Nat) : (s.setQueue q x).mergeAt y = s.mergeAt y := (rfl)
@[simp] theorem State.mergeAt_setBooth (s : State) (b : BitVec 12) (x : Booth) (y : Nat) : (s.setBooth b x).mergeAt y = s.mergeAt y := (rfl)
@[simp] theorem State.mergeAt_setFlow (s : State) (f : BitVec 16) (x : Flow) (y : Nat) : (s.setFlow f x).mergeAt y = s.mergeAt y := (rfl)
@[simp] theorem State.mergeAt_setThread (s : State) (t : Nat) (x : Thread) (y : Nat) : (s.setThread t x).mergeAt y = s.mergeAt y := (rfl)
@[simp] theorem State.mergeAt_setSpyTable (s : State) (t : Nat) (x : SpyTable) (y : Nat) : (s.setSpyTable t x).mergeAt y = s.mergeAt y := (rfl)
@[simp] theorem State.mergeAt_setScan (s : State) (n : Nat) (x : Scan) (y : Nat) : (s.setScan n x).mergeAt y = s.mergeAt y := (rfl)
@[simp] theorem State.mergeAt_setPart (s : State) (k : Nat) (x : Part) (y : Nat) : (s.setPart k x).mergeAt y = s.mergeAt y := (rfl)
@[simp] theorem State.mergeAt_setSv (s : State) (k : Nat) (x : SvEval) (y : Nat) : (s.setSv k x).mergeAt y = s.mergeAt y := (rfl)
@[simp] theorem State.mergeAt_setNs (s : State) (n : Nat) (x : Ns) (y : Nat) : (s.setNs n x).mergeAt y = s.mergeAt y := (rfl)
@[simp] theorem State.mergeAt_setMover (s : State) (n : Nat) (x : Mover) (y : Nat) : (s.setMover n x).mergeAt y = s.mergeAt y := (rfl)
@[simp] theorem State.mergeAt_setDg (s : State) (n : Nat) (x : DgCtx) (y : Nat) : (s.setDg n x).mergeAt y = s.mergeAt y := (rfl)
@[simp] theorem State.mergeAt_setCz (s : State) (n : Nat) (x : CzCtx) (y : Nat) : (s.setCz n x).mergeAt y = s.mergeAt y := (rfl)
@[simp] theorem State.mergeAt_setHost (s : State) (f : Nat) (x : HostFn) (y : Nat) : (s.setHost f x).mergeAt y = s.mergeAt y := (rfl)
@[simp] theorem State.mergeAt_setEcc (s : State) (cw : Nat) (e : Ecc) (y : Nat) : (s.setEcc cw e).mergeAt y = s.mergeAt y := (rfl)
@[simp] theorem State.mergeAt_setL2 (s : State) (k : Nat) (l : L2Line) (y : Nat) : (s.setL2 k l).mergeAt y = s.mergeAt y := (rfl)
@[simp] theorem State.mergeAt_setR (s : State) (x : Nat) (r : Regs) (y : Nat) : (s.setR x r).mergeAt y = s.mergeAt y := (rfl)
@[simp] theorem State.l2At_setReg (s : State) (a : Nat) (v : W64) (y : Nat) : (s.setReg a v).l2At y = s.l2At y := (rfl)
@[simp] theorem State.l2At_setCtx (s : State) (x : Nat) (c : Ctx) (y : Nat) : (s.setCtx x c).l2At y = s.l2At y := (rfl)
@[simp] theorem State.l2At_setExe (s : State) (u : Nat) (e : Exec) (y : Nat) : (s.setExe u e).l2At y = s.l2At y := (rfl)
@[simp] theorem State.l2At_setJob (s : State) (j : Nat) (x : Job) (y : Nat) : (s.setJob j x).l2At y = s.l2At y := (rfl)
@[simp] theorem State.l2At_setQueue (s : State) (q : BitVec 16) (x : Queue) (y : Nat) : (s.setQueue q x).l2At y = s.l2At y := (rfl)
@[simp] theorem State.l2At_setBooth (s : State) (b : BitVec 12) (x : Booth) (y : Nat) : (s.setBooth b x).l2At y = s.l2At y := (rfl)
@[simp] theorem State.l2At_setFlow (s : State) (f : BitVec 16) (x : Flow) (y : Nat) : (s.setFlow f x).l2At y = s.l2At y := (rfl)
@[simp] theorem State.l2At_setThread (s : State) (t : Nat) (x : Thread) (y : Nat) : (s.setThread t x).l2At y = s.l2At y := (rfl)
@[simp] theorem State.l2At_setSpyTable (s : State) (t : Nat) (x : SpyTable) (y : Nat) : (s.setSpyTable t x).l2At y = s.l2At y := (rfl)
@[simp] theorem State.l2At_setScan (s : State) (n : Nat) (x : Scan) (y : Nat) : (s.setScan n x).l2At y = s.l2At y := (rfl)
@[simp] theorem State.l2At_setPart (s : State) (k : Nat) (x : Part) (y : Nat) : (s.setPart k x).l2At y = s.l2At y := (rfl)
@[simp] theorem State.l2At_setSv (s : State) (k : Nat) (x : SvEval) (y : Nat) : (s.setSv k x).l2At y = s.l2At y := (rfl)
@[simp] theorem State.l2At_setNs (s : State) (n : Nat) (x : Ns) (y : Nat) : (s.setNs n x).l2At y = s.l2At y := (rfl)
@[simp] theorem State.l2At_setMover (s : State) (n : Nat) (x : Mover) (y : Nat) : (s.setMover n x).l2At y = s.l2At y := (rfl)
@[simp] theorem State.l2At_setDg (s : State) (n : Nat) (x : DgCtx) (y : Nat) : (s.setDg n x).l2At y = s.l2At y := (rfl)
@[simp] theorem State.l2At_setCz (s : State) (n : Nat) (x : CzCtx) (y : Nat) : (s.setCz n x).l2At y = s.l2At y := (rfl)
@[simp] theorem State.l2At_setHost (s : State) (f : Nat) (x : HostFn) (y : Nat) : (s.setHost f x).l2At y = s.l2At y := (rfl)
@[simp] theorem State.l2At_setEcc (s : State) (cw : Nat) (e : Ecc) (y : Nat) : (s.setEcc cw e).l2At y = s.l2At y := (rfl)
@[simp] theorem State.l2At_setMerge (s : State) (cw : Nat) (e : MergeEntry) (y : Nat) : (s.setMerge cw e).l2At y = s.l2At y := (rfl)
@[simp] theorem State.l2At_setR (s : State) (x : Nat) (r : Regs) (y : Nat) : (s.setR x r).l2At y = s.l2At y := (rfl)

end Sys2Proof.Machine
end

