-- ==== Sys2Proof/Laws/Issue.lean ====
section
/-! SUPPORT. Sys2Proof/Laws/Issue.lean: how an instruction that executes ends, by what its effect answers: one lemma per way. -/

namespace Sys2Proof.Machine

theorem State.canIssue_sieve {s : State} {x : Nat} {p : Prof} {ns wide : Bool} (h : s.canIssue x p ns wide = true) (hx : 2112 ≤ x) :
    (s.ctx x).st = .ready ∧ (s.ctx x).epi = none ∧ (s.ctx x).r.annul = false ∧ p.s = true := by
  unfold State.canIssue at h
  simp only [hx, if_true, Bool.and_eq_true, decide_eq_true_eq, Option.isNone_iff_eq_none, Bool.not_eq_true'] at h
  exact ⟨h.1.1.1, h.1.1.2, h.1.2, h.2⟩

theorem State.canIssue_unit {s : State} {x : Nat} {p : Prof} {ns wide : Bool} (h : s.canIssue x p ns wide = true) (hx : ¬2112 ≤ x) :
    (s.ctx x).st = .ready ∧ (s.ctx x).epi = none ∧ (s.ctx x).r.annul = false ∧ (s.stopped (domOf (unitOf x)) = false ∧
    (isEng x && (s.job (s.ctx x).job).live && (s.job (s.ctx x).job).fault.isSome) = false) ∧ (s.ctx x).async = none ∧
    (if isEng x then p.e else p.k) = true ∧ (ns && (((s.turn x).fetch x wide).1.ctx x).r.slot) = false ∧
    ∃ b, ((s.turn x).fetch x wide).2 = .ok b := by
  unfold State.canIssue at h
  simp only [hx, if_false, Bool.and_eq_true, decide_eq_true_eq, Option.isNone_iff_eq_none, Bool.not_eq_true'] at h
  refine ⟨h.1.1.1, h.1.1.2, h.1.2, ⟨h.2.1.1.1.1.1, h.2.1.1.1.1.2⟩, h.2.1.1.1.2, h.2.1.1.2, h.2.1.2, ?_⟩
  have h' := h.2.2
  split at h'
  · rename_i b hb; exact ⟨b, hb⟩
  · cases h'

/-- What an answer of an effect makes of the machine, for an instruction issued in a state. -/
def Eff.end_ (s : State) (x : Nat) (wide : Bool) (e : Eff) : State :=
  if e.waits then s.waitFor x .waitMem .clock else
  match e with
  | .ok t => t.retire x wide
  | .trap t k => t.takeTrap x k
  | .jump t tk tg a => t.jumpTo x tk tg a
  | .block w => s.waitFor x .waitMem w
  | .wait t => t
  | .done t => t

theorem issueWith_unit {s : State} {x : Nat} {sg : Sig} {body : State → Eff} {ld : State → LoadOp → RaLoad}
    (h : s.canIssue x sg.prof sg.noSlot sg.wide = true) (hx : ¬2112 ≤ x) :
    issueWith x sg body ld s = (body (s.start x sg.wide)).end_ s x sg.wide := by
  obtain ⟨h1, h2, h3, ⟨h8, h9⟩, h4, h5, h6, b, h7⟩ := State.canIssue_unit h hx
  have hp : profTrap x sg = none := by
    unfold profTrap
    by_cases he : isEng x = true
    · simp only [he, if_true] at h5 ⊢
      simp [h5]
    · simp only [he] at h5 ⊢
      simp_all
  have ht : ((s.pmc (unitOf x) 1).setExe (unitOf x) { (s.pmc (unitOf x) 1).exe (unitOf x) with ptr := x % 16 }) = s.turn x := rfl
  have hd : s.drainReach x = s := by unfold State.drainReach; simp only [h9, Bool.false_eq_true, if_false]
  unfold issueWith issueGo
  simp only [h1, h2, h3, h4, h8, hd, hx, ht, if_true, if_false, true_or, and_false, ne_eq, not_true_eq_false, false_and, Option.map_none,
    Option.getD_none, Bool.false_eq_true]
  unfold issueNow
  simp only [h7, h6, Bool.false_eq_true, if_false, hp]
  unfold State.start Eff.end_
  rw [if_neg hx]
  all_goals (split <;> [rfl; (cases body _ <;> rfl)])

theorem issueWith_sieve {s : State} {x : Nat} {sg : Sig} {body : State → Eff} {ld : State → LoadOp → RaLoad}
    (h : s.canIssue x sg.prof sg.noSlot sg.wide = true) (hx : 2112 ≤ x) :
    issueWith x sg body ld s = issueSieve x sg body s := by
  obtain ⟨h1, h2, h3, _⟩ := State.canIssue_sieve h hx
  have hd : s.drainReach x = s := by unfold State.drainReach isEng; simp [Nat.not_lt.mpr (Nat.le_trans (by decide : 2048 ≤ 2112) hx)]
  unfold issueWith issueGo
  simp [h1, h2, h3, hd, hx, Nat.not_lt.mpr hx]

/-- An effect that completes retires. -/
theorem issueWith_ok {s t : State} {x : Nat} {sg : Sig} {body : State → Eff} {ld : State → LoadOp → RaLoad}
    (h : s.canIssue x sg.prof sg.noSlot sg.wide = true) (hb : body (s.start x sg.wide) = .ok t) :
    issueWith x sg body ld s = t.finish x sg.wide := by
  by_cases hx : 2112 ≤ x
  · rw [issueWith_sieve h hx]
    obtain ⟨_, _, _, h4⟩ := State.canIssue_sieve h hx
    have hs : s.start x sg.wide = s := by unfold State.start; rw [if_pos hx]
    rw [hs] at hb
    simp [issueSieve, h4, hb, State.finish, hx]
  · rw [issueWith_unit h hx, hb]
    simp [Eff.end_, Eff.waits, State.finish, hx]

/-- A branch or a jump goes to its slot, then to its target or past it. -/
theorem issueWith_jump {s t : State} {x : Nat} {sg : Sig} {body : State → Eff} {ld : State → LoadOp → RaLoad} {k a : Bool} {g : W64}
    (h : s.canIssue x sg.prof sg.noSlot sg.wide = true) (hb : body (s.start x sg.wide) = .jump t k g a) :
    issueWith x sg body ld s = t.jumpTo x k g a := by
  by_cases hx : 2112 ≤ x
  · rw [issueWith_sieve h hx]
    obtain ⟨_, _, _, h4⟩ := State.canIssue_sieve h hx
    have hs : s.start x sg.wide = s := by unfold State.start; rw [if_pos hx]
    rw [hs] at hb
    simp [issueSieve, h4, hb]
  · rw [issueWith_unit h hx, hb]; rfl

/-- An effect that says where the context goes by itself. -/
theorem issueWith_done {s t : State} {x : Nat} {sg : Sig} {body : State → Eff} {ld : State → LoadOp → RaLoad}
    (h : s.canIssue x sg.prof sg.noSlot sg.wide = true) (hb : body (s.start x sg.wide) = .done t) :
    issueWith x sg body ld s = t := by
  by_cases hx : 2112 ≤ x
  · rw [issueWith_sieve h hx]
    obtain ⟨_, _, _, h4⟩ := State.canIssue_sieve h hx
    have hs : s.start x sg.wide = s := by unfold State.start; rw [if_pos hx]
    rw [hs] at hb
    simp [issueSieve, h4, hb]
  · rw [issueWith_unit h hx, hb]; rfl

/-- An effect that waits leaves the instruction to be issued again. -/
theorem issueWith_wait {s t : State} {x : Nat} {sg : Sig} {body : State → Eff} {ld : State → LoadOp → RaLoad}
    (h : s.canIssue x sg.prof sg.noSlot sg.wide = true) (hx : ¬2112 ≤ x) (hb : body (s.start x sg.wide) = .wait t) :
    issueWith x sg body ld s = t := by
  rw [issueWith_unit h hx, hb]; rfl

/-- An effect that traps takes its trap, unless the trap is the model's sign that a transfer waits (R433). -/
theorem issueWith_trap {s t : State} {x : Nat} {sg : Sig} {body : State → Eff} {ld : State → LoadOp → RaLoad} {k : Trap}
    (h : s.canIssue x sg.prof sg.noSlot sg.wide = true) (hx : ¬2112 ≤ x) (hb : body (s.start x sg.wide) = .trap t k)
    (hk : k.status ≠ stWait) : issueWith x sg body ld s = t.takeTrap x k := by
  rw [issueWith_unit h hx, hb]
  simp [Eff.end_, Eff.waits, hk]

/-- An effect that cannot begin leaves its context blocked. -/
theorem issueWith_block {s : State} {x : Nat} {sg : Sig} {body : State → Eff} {ld : State → LoadOp → RaLoad} {w : Wait}
    (h : s.canIssue x sg.prof sg.noSlot sg.wide = true) (hx : ¬2112 ≤ x) (hb : body (s.start x sg.wide) = .block w) :
    issueWith x sg body ld s = s.waitFor x .waitMem w := by
  rw [issueWith_unit h hx, hb]; rfl

theorem issue_ok {s t : State} {x : Nat} {sg : Sig} {body : State → Eff} (h : s.canIssue x sg.prof sg.noSlot sg.wide = true)
    (hb : body (s.start x sg.wide) = .ok t) : issue x sg body s = t.finish x sg.wide := issueWith_ok h hb
theorem issue_jump {s t : State} {x : Nat} {sg : Sig} {body : State → Eff} {k a : Bool} {g : W64}
    (h : s.canIssue x sg.prof sg.noSlot sg.wide = true) (hb : body (s.start x sg.wide) = .jump t k g a) :
    issue x sg body s = t.jumpTo x k g a := issueWith_jump h hb
theorem issue_done {s t : State} {x : Nat} {sg : Sig} {body : State → Eff} (h : s.canIssue x sg.prof sg.noSlot sg.wide = true)
    (hb : body (s.start x sg.wide) = .done t) : issue x sg body s = t := issueWith_done h hb
theorem issue_wait {s t : State} {x : Nat} {sg : Sig} {body : State → Eff} (h : s.canIssue x sg.prof sg.noSlot sg.wide = true)
    (hx : ¬2112 ≤ x) (hb : body (s.start x sg.wide) = .wait t) : issue x sg body s = t := issueWith_wait h hx hb
theorem issue_trap {s t : State} {x : Nat} {sg : Sig} {body : State → Eff} {k : Trap}
    (h : s.canIssue x sg.prof sg.noSlot sg.wide = true) (hx : ¬2112 ≤ x) (hb : body (s.start x sg.wide) = .trap t k)
    (hk : k.status ≠ stWait) : issue x sg body s = t.takeTrap x k := issueWith_trap h hx hb hk

/-- A context of an engine or of a control core is no sieve. -/
theorem ctxIdx_unit {x : CtxId} (h : x.isSieve = false) : ¬2112 ≤ ctxIdx x := by
  cases x with
  | eng a b c => simp only [ctxIdx]; omega
  | ht h => simp only [ctxIdx]; omega
  | sieve c => simp [CtxId.isSieve] at h

end Sys2Proof.Machine
end

