-- ==== Sys2Proof/Laws/KeepCore.lean ====
section
/-! SUPPORT. Sys2Proof/Laws/KeepCore.lean: the memory keeps its canonical form under the accessors, memory, caches, operands and the issue of an instruction. -/

namespace Sys2Proof.Machine

@[simp] theorem Memory.wf_set {m : Tab Byte} (h : Memory.wf m = true) (a : Nat) (b : Byte) : Memory.wf (Tab.set 0 m a b) = true := Tab.wf_set 0 m a b h
@[simp] theorem Memory.wf_set' {m : Tab Byte} (h : Memory.wf m = true) (a : Nat) (b : Byte) : Memory.wf (Tab.set 0#8 m a b) = true := Tab.wf_set 0 m a b h
@[simp] theorem Memory.wf_filter {m : Tab Byte} (h : Memory.wf m = true) (p : Nat × Byte → Bool) : Memory.wf (List.filter p m) = true := Tab.wf_filter 0 p m h
def Eff.wf : Eff → Prop
  | .ok s => Memory.wf s.mem = true
  | .trap s _ => Memory.wf s.mem = true
  | .jump s _ _ _ => Memory.wf s.mem = true
  | .wait s => Memory.wf s.mem = true
  | .block _ => True
  | .done s => Memory.wf s.mem = true
def RaLoad.wf : RaLoad → Prop
  | .ends => True
  | .data s => Memory.wf s.mem = true
  | .poison s => Memory.wf s.mem = true
@[simp] theorem Eff.wf_ok (s : State) : Eff.wf (.ok s) ↔ (Memory.wf s.mem = true) := Iff.intro id id
@[simp] theorem Eff.wf_trap (s : State) (t) : Eff.wf (.trap s t) ↔ (Memory.wf s.mem = true) := Iff.intro id id
@[simp] theorem Eff.wf_jump (s : State) (a b c) : Eff.wf (.jump s a b c) ↔ (Memory.wf s.mem = true) := Iff.intro id id
@[simp] theorem Eff.wf_wait (s : State) : Eff.wf (.wait s) ↔ (Memory.wf s.mem = true) := Iff.intro id id
@[simp] theorem Eff.wf_block (w : Wait) : Eff.wf (.block w) ↔ True := Iff.intro id id
@[simp] theorem Eff.wf_done (s : State) : Eff.wf (.done s) ↔ (Memory.wf s.mem = true) := Iff.intro id id
@[simp] theorem RaLoad.wf_ends : RaLoad.wf .ends ↔ True := Iff.intro id id
@[simp] theorem RaLoad.wf_data (s : State) : RaLoad.wf (.data s) ↔ (Memory.wf s.mem = true) := Iff.intro id id
@[simp] theorem RaLoad.wf_poison (s : State) : RaLoad.wf (.poison s) ↔ (Memory.wf s.mem = true) := Iff.intro id id
def OutWf : Host.Outcome State Fault Refusal → Prop
  | .next s => Memory.wf s.mem = true
  | _ => True
@[simp] theorem OutWf_next (s : State) : OutWf (.next s) ↔ (Memory.wf s.mem = true) := Iff.intro id id
theorem foldl_wf {α : Type} (f : State → α → State) (l : List α) {s : State} (h : Memory.wf s.mem = true)
    (hf : ∀ s a, Memory.wf s.mem = true → Memory.wf (f s a).mem = true) : Memory.wf (l.foldl f s).mem = true := by
  induction l generalizing s with
  | nil => exact h
  | cons a t ih => exact ih (hf s a h)
@[simp] theorem foldl_wf' {α : Type} (f : State → α → State) (l : List α) {s : State} (h : Memory.wf s.mem = true)
    (hf : ∀ s a, Memory.wf s.mem = true → Memory.wf (f s a).mem = true) : Memory.wf (l.foldl f s).mem = true := foldl_wf f l h hf
theorem foldl_wf1 {α β : Type} (f : State × β → α → State × β) (l : List α) {s : State × β} (h : Memory.wf s.1.mem = true)
    (hf : ∀ s a, Memory.wf s.1.mem = true → Memory.wf (f s a).1.mem = true) : Memory.wf (l.foldl f s).1.mem = true := by
  induction l generalizing s with
  | nil => exact h
  | cons a t ih => exact ih (hf s a h)
@[simp] theorem ite_wf {c : Prop} [Decidable c] {a b : State} (ha : c → Memory.wf a.mem = true) (hb : ¬c → Memory.wf b.mem = true) :
    Memory.wf (if c then a else b).mem = true := by split <;> simp_all
@[simp] theorem ite_wf1 {β : Type} {c : Prop} [Decidable c] {a b : State × β} (ha : c → Memory.wf a.1.mem = true) (hb : ¬c → Memory.wf b.1.mem = true) :
    Memory.wf (if c then a else b).1.mem = true := by split <;> simp_all
@[simp] theorem State.setReg_wf (s : State) (a : Nat) (v : W64) (hs : Memory.wf s.mem = true) :
    Memory.wf (State.setReg s a v).mem = true := by
  unfold State.setReg; simp +contextual (maxDischargeDepth := 60) [*]
@[simp] theorem State.setCtx_wf (s : State) (x : Nat) (c : Ctx) (hs : Memory.wf s.mem = true) :
    Memory.wf (State.setCtx s x c).mem = true := by
  unfold State.setCtx; simp +contextual (maxDischargeDepth := 60) [*]
@[simp] theorem State.setExe_wf (s : State) (u : Nat) (e : Exec) (hs : Memory.wf s.mem = true) :
    Memory.wf (State.setExe s u e).mem = true := by
  unfold State.setExe; simp +contextual (maxDischargeDepth := 60) [*]
@[simp] theorem State.setJob_wf (s : State) (j : Nat) (x : Job) (hs : Memory.wf s.mem = true) :
    Memory.wf (State.setJob s j x).mem = true := by
  unfold State.setJob; simp +contextual (maxDischargeDepth := 60) [*]
@[simp] theorem State.setQueue_wf (s : State) (q : BitVec 16) (x : Queue) (hs : Memory.wf s.mem = true) :
    Memory.wf (State.setQueue s q x).mem = true := by
  unfold State.setQueue; simp +contextual (maxDischargeDepth := 60) [*]
@[simp] theorem State.setBooth_wf (s : State) (b : BitVec 12) (x : Booth) (hs : Memory.wf s.mem = true) :
    Memory.wf (State.setBooth s b x).mem = true := by
  unfold State.setBooth; simp +contextual (maxDischargeDepth := 60) [*]
@[simp] theorem State.setFlow_wf (s : State) (f : BitVec 16) (x : Flow) (hs : Memory.wf s.mem = true) :
    Memory.wf (State.setFlow s f x).mem = true := by
  unfold State.setFlow; simp +contextual (maxDischargeDepth := 60) [*]
@[simp] theorem State.setThread_wf (s : State) (t : Nat) (x : Thread) (hs : Memory.wf s.mem = true) :
    Memory.wf (State.setThread s t x).mem = true := by
  unfold State.setThread; simp +contextual (maxDischargeDepth := 60) [*]
@[simp] theorem State.setSpyTable_wf (s : State) (t : Nat) (x : SpyTable) (hs : Memory.wf s.mem = true) :
    Memory.wf (State.setSpyTable s t x).mem = true := by
  unfold State.setSpyTable; simp +contextual (maxDischargeDepth := 60) [*]
@[simp] theorem State.setScan_wf (s : State) (n : Nat) (x : Scan) (hs : Memory.wf s.mem = true) :
    Memory.wf (State.setScan s n x).mem = true := by
  unfold State.setScan; simp +contextual (maxDischargeDepth := 60) [*]
@[simp] theorem State.setPart_wf (s : State) (k : Nat) (x : Part) (hs : Memory.wf s.mem = true) :
    Memory.wf (State.setPart s k x).mem = true := by
  unfold State.setPart; simp +contextual (maxDischargeDepth := 60) [*]
@[simp] theorem State.setSv_wf (s : State) (k : Nat) (x : SvEval) (hs : Memory.wf s.mem = true) :
    Memory.wf (State.setSv s k x).mem = true := by
  unfold State.setSv; simp +contextual (maxDischargeDepth := 60) [*]
@[simp] theorem State.setNs_wf (s : State) (n : Nat) (x : Ns) (hs : Memory.wf s.mem = true) :
    Memory.wf (State.setNs s n x).mem = true := by
  unfold State.setNs; simp +contextual (maxDischargeDepth := 60) [*]
@[simp] theorem State.setMover_wf (s : State) (n : Nat) (x : Mover) (hs : Memory.wf s.mem = true) :
    Memory.wf (State.setMover s n x).mem = true := by
  unfold State.setMover; simp +contextual (maxDischargeDepth := 60) [*]
@[simp] theorem State.setDg_wf (s : State) (n : Nat) (x : DgCtx) (hs : Memory.wf s.mem = true) :
    Memory.wf (State.setDg s n x).mem = true := by
  unfold State.setDg; simp +contextual (maxDischargeDepth := 60) [*]
@[simp] theorem State.setCz_wf (s : State) (n : Nat) (x : CzCtx) (hs : Memory.wf s.mem = true) :
    Memory.wf (State.setCz s n x).mem = true := by
  unfold State.setCz; simp +contextual (maxDischargeDepth := 60) [*]
@[simp] theorem State.setHost_wf (s : State) (f : Nat) (x : HostFn) (hs : Memory.wf s.mem = true) :
    Memory.wf (State.setHost s f x).mem = true := by
  unfold State.setHost; simp +contextual (maxDischargeDepth := 60) [*]
@[simp] theorem State.reset_wf  :
    Memory.wf State.reset.mem = true := by
  rfl

@[simp] theorem putMem_wf {m : Tab Byte} (h : Memory.wf m = true) (a : Nat) (l : List Byte) : Memory.wf (putMem m a l) = true := by
  induction l generalizing m a with
  | nil => exact h
  | cons b t ih => exact ih (Memory.wf_set h a b) (a + 1)
theorem foldl_wfm {α : Type} (f : Tab Byte → α → Tab Byte) (l : List α) {m : Tab Byte} (h : Memory.wf m = true)
    (hf : ∀ m a, Memory.wf m = true → Memory.wf (f m a) = true) : Memory.wf (l.foldl f m) = true := by
  induction l generalizing m with
  | nil => exact h
  | cons a t ih => exact ih (hf m a h)
@[simp] theorem mergeInto_wf {m : Tab Byte} (h : Memory.wf m = true) (cw : Nat) (e : MergeEntry) (n : Nat) : Memory.wf (mergeInto m cw e n) = true := by
  unfold mergeInto
  refine foldl_wfm _ _ h (fun m a hm => ?_)
  split <;> simp [*]
@[simp] theorem State.fresh_wf (s : State) (hs : Memory.wf s.mem = true) :
    Memory.wf (State.fresh s).2.mem = true := by
  unfold State.fresh; simp +contextual (maxDischargeDepth := 60) [*]
@[simp] theorem State.bump_wf (s : State) (a : Nat) (hs : Memory.wf s.mem = true) :
    Memory.wf (State.bump s a).mem = true := by
  unfold State.bump; simp +contextual (maxDischargeDepth := 60) [*]
@[simp] theorem State.addReg_wf (s : State) (a : Nat) (n : Nat) (hs : Memory.wf s.mem = true) :
    Memory.wf (State.addReg s a n).mem = true := by
  unfold State.addReg; simp +contextual (maxDischargeDepth := 60) [*]
@[simp] theorem State.setRegBit_wf (s : State) (a : Nat) (i : Nat) (b : Bool) (hs : Memory.wf s.mem = true) :
    Memory.wf (State.setRegBit s a i b).mem = true := by
  unfold State.setRegBit; simp +contextual (maxDischargeDepth := 60) [*]
@[simp] theorem State.setRegFld_wf (s : State) (a : Nat) (lo : Nat) (w : Nat) (v : Nat) (hs : Memory.wf s.mem = true) :
    Memory.wf (State.setRegFld s a lo w v).mem = true := by
  unfold State.setRegFld; simp +contextual (maxDischargeDepth := 60) [*]
@[simp] theorem State.raise_wf (s : State) (n : Nat) (hs : Memory.wf s.mem = true) :
    Memory.wf (State.raise s n).mem = true := by
  unfold State.raise; simp +contextual (maxDischargeDepth := 60) [*]
@[simp] theorem State.raiseEvt_wf (s : State) (a : Nat) (hs : Memory.wf s.mem = true) :
    Memory.wf (State.raiseEvt s a).mem = true := by
  unfold State.raiseEvt; simp +contextual (maxDischargeDepth := 60) [*]
@[simp] theorem State.setEcc_wf (s : State) (cw : Nat) (e : Ecc) (hs : Memory.wf s.mem = true) :
    Memory.wf (State.setEcc s cw e).mem = true := by
  unfold State.setEcc; simp +contextual (maxDischargeDepth := 60) [*]
@[simp] theorem State.recordUE_wf (s : State) (cw : Nat) (k : Kind) (poison : Bool) (cls : BitVec 2) (hs : Memory.wf s.mem = true) :
    Memory.wf (State.recordUE s cw k poison cls).mem = true := by
  unfold State.recordUE; simp +contextual (maxDischargeDepth := 60) [*]
@[simp] theorem State.recordCE_wf (s : State) (cw : Nat) (k : Kind) (sym : BitVec 8) (hs : Memory.wf s.mem = true) :
    Memory.wf (State.recordCE s cw k sym).mem = true := by
  unfold State.recordCE; simp +contextual (maxDischargeDepth := 60) [*]
@[simp] theorem State.setMerge_wf (s : State) (cw : Nat) (e : MergeEntry) (hs : Memory.wf s.mem = true) :
    Memory.wf (State.setMerge s cw e).mem = true := by
  unfold State.setMerge; simp +contextual (maxDischargeDepth := 60) [*]
@[simp] theorem State.mergeDrain_wf (s : State) (cw : Nat) (hs : Memory.wf s.mem = true) :
    Memory.wf (State.mergeDrain s cw).mem = true := by
  unfold State.mergeDrain
  (repeat' split) <;> simp +contextual (maxDischargeDepth := 20) [*]
  all_goals ((repeat' split) <;> simp +contextual (maxDischargeDepth := 20) [*])
@[simp] theorem State.mergeDrainAll_wf (s : State) (n : Nat) (hs : Memory.wf s.mem = true) :
    Memory.wf (State.mergeDrainAll s n).mem = true := by
  unfold State.mergeDrainAll; simp +contextual (maxDischargeDepth := 60) [*]
@[simp] theorem State.writeCw_wf (s : State) (a : Nat) (l : List Byte) (hs : Memory.wf s.mem = true) :
    Memory.wf (State.writeCw s a l).mem = true := by
  unfold State.writeCw
  (repeat' split) <;> simp +contextual (maxDischargeDepth := 20) [*]
  all_goals ((repeat' split) <;> simp +contextual (maxDischargeDepth := 20) [*])
@[simp] theorem State.busWriteGo_wf (u1 : Nat) (u2 : State) (u3 : Nat) (u4 : List Byte) (hu2 : Memory.wf u2.mem = true) :
    Memory.wf (State.busWriteGo u1 u2 u3 u4).mem = true := by
  fun_induction State.busWriteGo <;> (try simp +contextual (maxDischargeDepth := 60) [*])
@[simp] theorem State.busWrite_wf (s : State) (a : Nat) (l : List Byte) (hs : Memory.wf s.mem = true) :
    Memory.wf (State.busWrite s a l).mem = true := by
  unfold State.busWrite; simp +contextual (maxDischargeDepth := 60) [*]
@[simp] theorem State.readCw_wf (s : State) (cw : Nat) (k : Kind) (cls : BitVec 2) (hs : Memory.wf s.mem = true) :
    Memory.wf (State.readCw s cw k cls).1.mem = true := by
  unfold State.readCw; (repeat' split) <;> (try simp +contextual (maxDischargeDepth := 60) [*])
@[simp] theorem State.busRead_wf (s : State) (a : Nat) (n : Nat) (cls : BitVec 2) (hs : Memory.wf s.mem = true) :
    Memory.wf (State.busRead s a n cls).1.mem = true := by
  unfold State.busRead
  refine foldl_wf1 _ _ ?_ ?_
  · exact foldl_wf _ _ hs (fun s a h => State.mergeDrain_wf s a h)
  · intro p a h; exact State.readCw_wf p.1 a 0 cls h
@[simp] theorem State.demandRead_wf (s : State) (a : Nat) (n : Nat) (cls : BitVec 2) (hs : Memory.wf s.mem = true) :
    Memory.wf (State.demandRead s a n cls).1.mem = true := by
  unfold State.demandRead; simp +contextual (maxDischargeDepth := 60) [*]
@[simp] theorem State.busWritePoison_wf (s : State) (a : Nat) (l : List Byte) (hs : Memory.wf s.mem = true) :
    Memory.wf (State.busWritePoison s a l).mem = true := by
  unfold State.busWritePoison; simp +contextual (maxDischargeDepth := 60) [*]
@[simp] theorem State.dmaReadGo_wf (wr : Bool) (k : Nat) (s : State) (bid : BitVec 12) (a : W64) (n : Nat) (cls : BitVec 2) (h : Memory.wf s.mem = true) :
    Memory.wf (State.dmaReadGo wr k s bid a n cls).1.mem = true := by
  induction k generalizing s a n with
  | zero => simpa [State.dmaReadGo] using h
  | succ k ih =>
    cases n with
    | zero => simpa [State.dmaReadGo] using h
    | succ n =>
      simp only [State.dmaReadGo]
      split
      · exact h
      · split
        · exact h
        · split
          · exact State.busRead_wf _ _ _ _ h
          · exact ih _ _ _ (State.busRead_wf _ _ _ _ h)
@[simp] theorem State.dmaRead_wf (s : State) (bid : BitVec 12) (a : W64) (n : Nat) (cls : BitVec 2) (hs : Memory.wf s.mem = true) :
    Memory.wf (State.dmaRead s bid a n cls).1.mem = true := by
  unfold State.dmaRead; simp +contextual (maxDischargeDepth := 60) [*]
@[simp] theorem State.dmaReadW_wf (s : State) (bid : BitVec 12) (a : W64) (n : Nat) (cls : BitVec 2) (hs : Memory.wf s.mem = true) :
    Memory.wf (State.dmaReadW s bid a n cls).1.mem = true := by
  unfold State.dmaReadW; simp +contextual (maxDischargeDepth := 60) [*]
@[simp] theorem State.dmaWriteGo_wf (u1 : Nat) (u2 : State) (u3 : BitVec 12) (u4 : W64) (u5 : List Byte) (hu2 : Memory.wf u2.mem = true) :
    Memory.wf (State.dmaWriteGo u1 u2 u3 u4 u5).1.mem = true := by
  fun_induction State.dmaWriteGo <;> (try simp +contextual (maxDischargeDepth := 60) [*])
@[simp] theorem State.dmaWrite_wf (s : State) (bid : BitVec 12) (a : W64) (l : List Byte) (hs : Memory.wf s.mem = true) :
    Memory.wf (State.dmaWrite s bid a l).1.mem = true := by
  unfold State.dmaWrite; simp +contextual (maxDischargeDepth := 60) [*]
@[simp] theorem State.setL2_wf (s : State) (k : Nat) (l : L2Line) (hs : Memory.wf s.mem = true) :
    Memory.wf (State.setL2 s k l).mem = true := by
  unfold State.setL2; simp +contextual (maxDischargeDepth := 60) [*]
@[simp] theorem State.l1dDrop_wf (s : State) (d : Nat) (line : Nat) (keep : Option Nat) (hs : Memory.wf s.mem = true) :
    Memory.wf (State.l1dDrop s d line keep).mem = true := by
  unfold State.l1dDrop; simp +contextual (maxDischargeDepth := 60) [*]
@[simp] theorem State.l1iDrop_wf (s : State) (d : Nat) (line : Nat) (hs : Memory.wf s.mem = true) :
    Memory.wf (State.l1iDrop s d line).mem = true := by
  unfold State.l1iDrop; simp +contextual (maxDischargeDepth := 60) [*]
@[simp] theorem State.sideDrop_wf (s : State) (d : Nat) (line : Nat) (hs : Memory.wf s.mem = true) :
    Memory.wf (State.sideDrop s d line).mem = true := by
  unfold State.sideDrop; simp +contextual (maxDischargeDepth := 60) [*]
@[simp] theorem State.sideStore_wf (s : State) (d : Nat) (line : Nat) (hs : Memory.wf s.mem = true) :
    Memory.wf (State.sideStore s d line).mem = true := by
  unfold State.sideStore; simp +contextual (maxDischargeDepth := 60) [*]
@[simp] theorem State.l2Ue_wf (s : State) (d : Nat) (line : Nat) (demand : Bool) (hs : Memory.wf s.mem = true) :
    Memory.wf (State.l2Ue s d line demand).mem = true := by
  unfold State.l2Ue; simp +contextual (maxDischargeDepth := 60) [*]
@[simp] theorem State.poisonLine_wf (s : State) (d : Nat) (l : L2Line) (demand : Bool) (hs : Memory.wf s.mem = true) :
    Memory.wf (State.poisonLine s d l demand).mem = true := by
  unfold State.poisonLine; simp +contextual (maxDischargeDepth := 60) [*]
@[simp] theorem State.writeBack_wf (s : State) (d : Nat) (l : L2Line) (hs : Memory.wf s.mem = true) :
    Memory.wf (State.writeBack s d l).1.mem = true := by
  unfold State.writeBack; (repeat' split) <;> (try simp +contextual (maxDischargeDepth := 60) [*])
@[simp] theorem State.l2Evict_wf (s : State) (d : Nat) (k : Nat) (hs : Memory.wf s.mem = true) :
    Memory.wf (State.l2Evict s d k).mem = true := by
  unfold State.l2Evict; simp +contextual (maxDischargeDepth := 60) [*]
@[simp] theorem State.l2Check_wf (s : State) (d : Nat) (line : Nat) (hs : Memory.wf s.mem = true) :
    Memory.wf (State.l2Check s d line).1.mem = true := by
  unfold State.l2Check; dsimp only; (repeat' split) <;> (try simp +contextual (maxDischargeDepth := 60) [*])
@[simp] theorem State.l2Victim_wf (s : State) (d : Nat) (line : Nat) (ways : List Nat) (hs : Memory.wf s.mem = true) :
    Memory.wf (State.l2Victim s d line ways).2.mem = true := by
  unfold State.l2Victim; dsimp only; (repeat' split) <;> (try simp +contextual (maxDischargeDepth := 60) [*])
@[simp] theorem State.l2Alloc_wf (s : State) (d : Nat) (line : Nat) (bid : BitVec 12) (data : Line) (dirty : Bool) (hs : Memory.wf s.mem = true) :
    Memory.wf (State.l2Alloc s d line bid data dirty).mem = true := by
  unfold State.l2Alloc; dsimp only; (repeat' split) <;> (try simp +contextual (maxDischargeDepth := 60) [*])
@[simp] theorem State.l1dAlloc_wf (s : State) (u : Nat) (line : Nat) (bid : BitVec 12) (hs : Memory.wf s.mem = true) :
    Memory.wf (State.l1dAlloc s u line bid).mem = true := by
  unfold State.l1dAlloc; simp +contextual (maxDischargeDepth := 60) [*]
@[simp] theorem State.pmc_wf (s : State) (u : Nat) (n : Nat) (hs : Memory.wf s.mem = true) :
    Memory.wf (State.pmc s u n).mem = true := by
  unfold State.pmc; simp +contextual (maxDischargeDepth := 60) [*]
@[simp] theorem State.l2Lookup_wf (s : State) (d : Nat) (hit : Bool) (hs : Memory.wf s.mem = true) :
    Memory.wf (State.l2Lookup s d hit).mem = true := by
  unfold State.l2Lookup; simp +contextual (maxDischargeDepth := 60) [*]
@[simp] theorem State.clearResv_wf (s : State) (d : Nat) (g : Nat) (by_ : Option Nat) (hs : Memory.wf s.mem = true) :
    Memory.wf (State.clearResv s d g by_).mem = true := by
  unfold State.clearResv; simp +contextual (maxDischargeDepth := 60) [*]
@[simp] theorem State.ctxBusWrite_wf (s : State) (x : Nat) (a : Nat) (l : List Byte) (hs : Memory.wf s.mem = true) :
    Memory.wf (State.ctxBusWrite s x a l).mem = true := by
  unfold State.ctxBusWrite; simp +contextual (maxDischargeDepth := 60) [*]
@[simp] theorem State.cleanLine_wf (s : State) (d : Nat) (line : Nat) (x : Option Nat) (hs : Memory.wf s.mem = true) :
    Memory.wf (State.cleanLine s d line x).mem = true := by
  unfold State.cleanLine; (repeat' split) <;> (try simp +contextual (maxDischargeDepth := 60) [*])
@[simp] theorem State.logLine_wf (s : State) (x : Nat) (d : Nat) (line : Nat) (hs : Memory.wf s.mem = true) :
    Memory.wf (State.logLine s x d line).mem = true := by
  unfold State.logLine; dsimp only; (repeat' split) <;> (try simp +contextual (maxDischargeDepth := 60) [*])
@[simp] theorem State.storeHit_wf (s : State) (u : Nat) (e : SbEntry) (w : Nat) (hs : Memory.wf s.mem = true) :
    Memory.wf (State.storeHit s u e w).mem = true := by
  unfold State.storeHit; simp +contextual (maxDischargeDepth := 60) [*]
@[simp] theorem State.sideOwn_wf (s : State) (u : Nat) (x : Nat) (line : Nat) (hs : Memory.wf s.mem = true) :
    Memory.wf (State.sideOwn s u x line).mem = true := by
  unfold State.sideOwn; simp +contextual (maxDischargeDepth := 60) [*]
@[simp] theorem State.performStore_wf (s : State) (u : Nat) (e : SbEntry) (hs : Memory.wf s.mem = true) :
    Memory.wf (State.performStore s u e).mem = true := by
  unfold State.performStore; dsimp only; (repeat' split) <;> (try simp +contextual (maxDischargeDepth := 60) [*])
@[simp] theorem State.wakeAll_wf (s : State) (xs : List Nat) (w : Wait) (hs : Memory.wf s.mem = true) :
    Memory.wf (State.wakeAll s xs w).mem = true := by
  unfold State.wakeAll; simp +contextual (maxDischargeDepth := 60) [*]
@[simp] theorem State.sbDrain1_wf (s : State) (u : Nat) (hs : Memory.wf s.mem = true) :
    Memory.wf (State.sbDrain1 s u).mem = true := by
  unfold State.sbDrain1; dsimp only; (repeat' split) <;> (try simp +contextual (maxDischargeDepth := 60) [*])
@[simp] theorem State.sbDrain_wf (s : State) (u : Nat) (hs : Memory.wf s.mem = true) :
    Memory.wf (State.sbDrain s u).mem = true := by
  unfold State.sbDrain; simp +contextual (maxDischargeDepth := 60) [*]
@[simp] theorem State.sbPush_wf (s : State) (u : Nat) (e : SbEntry) (hs : Memory.wf s.mem = true) :
    Memory.wf (State.sbPush s u e).mem = true := by
  unfold State.sbPush; simp +contextual (maxDischargeDepth := 60) [*]
@[simp] theorem State.demandFill_wf (s : State) (u : Nat) (x : Nat) (line : Nat) (hs : Memory.wf s.mem = true) :
    Memory.wf (State.demandFill s u x line).1.mem = true := by
  unfold State.demandFill; dsimp only; (repeat' split) <;> (try simp +contextual (maxDischargeDepth := 60) [*])
@[simp] theorem State.sideAdd_wf (s : State) (u : Nat) (e : SideEntry) (hs : Memory.wf s.mem = true) :
    Memory.wf (State.sideAdd s u e).mem = true := by
  unfold State.sideAdd; simp +contextual (maxDischargeDepth := 60) [*]
@[simp] theorem State.loadLine_direct_wf (x a n : Nat) (s : State) (hs : Memory.wf s.mem = true) :
    Memory.wf (State.loadLine.direct x a n s).1.mem = true := by
  unfold State.loadLine.direct
  extract_lets r
  have h : Memory.wf r.1.mem = true := State.demandRead_wf _ _ _ _ hs
  clear_value r
  split <;> exact h
@[simp] theorem State.loadLine_go_wf (u x a n : Nat) (attr : Attr) (fill : Bool) (s : State) (d l : Nat) (hs : Memory.wf s.mem = true) :
    Memory.wf (State.loadLine.go u x a n attr fill s d l).1.mem = true := by
  unfold State.loadLine.go
  split
  · exact State.loadLine_direct_wf _ _ _ _ hs
  · split
    · have h3 : ∀ t : State, Memory.wf t.mem = true → ∀ (q : Prop) [Decidable q] d l b v w u x y, Memory.wf (State.l1dAlloc (if q then t else State.l2Alloc t d l b v w) u x y).mem = true := by
        intro t ht q _ d l b v w u x y
        refine State.l1dAlloc_wf _ _ _ _ ?_
        split
        · exact ht
        · exact State.l2Alloc_wf _ _ _ _ _ _ ht
      have h1 := State.pmc_wf s u 10 hs
      dsimp only
      split
      · exact h1
      · exact State.setExe_wf _ _ _ (h3 _ h1 _ _ _ _ _ _ _ _ _)
    · split
      · split
        · exact State.loadLine_direct_wf _ _ _ _ hs
        · have h := State.demandRead_wf s (l * 64) 64 (s.ctxClass x) hs
          dsimp only
          split
          · exact h
          · exact State.sideAdd_wf _ _ _ h
      · split
        · exact State.loadLine_direct_wf _ _ _ _ hs
        · split
          · exact State.pmc_wf _ _ _ hs
          · have h1 := State.l2Check_wf s d l hs
            have h3 : ∀ t : State, Memory.wf t.mem = true → ∀ (q : Prop) [Decidable q] d w, Memory.wf (State.l2Lookup (if q then State.pmc t u 9 else t) d w).mem = true := by
              intro t ht q _ d w
              refine State.l2Lookup_wf _ _ _ ?_
              split
              · exact State.pmc_wf _ _ _ ht
              · exact ht
            dsimp only
            split
            · exact h1
            · split
              · exact State.l1dAlloc_wf _ _ _ _ (h3 _ h1 _ _ _)
              · split
                · exact h3 _ h1 _ _ _
                · split <;> exact State.demandFill_wf _ _ _ _ (h3 _ h1 _ _ _)
@[simp] theorem State.sideUse_wf (s : State) (u : Nat) (x : Nat) (line : Nat) (hs : Memory.wf s.mem = true) :
    Memory.wf (State.sideUse s u x line).mem = true := by
  unfold State.sideUse; simp +contextual (maxDischargeDepth := 60) [*]
@[simp] theorem State.loadLine_wf (s : State) (u : Nat) (x : Nat) (a : Nat) (n : Nat) (attr : Attr) (fill : Bool) (hs : Memory.wf s.mem = true) :
    Memory.wf (State.loadLine s u x a n attr fill).1.mem = true := by
  unfold State.loadLine
  dsimp only
  split
  · split
    · exact hs
    · exact State.loadLine_go_wf _ _ _ _ _ _ _ _ _ (State.sbDrain_wf _ _ hs)
  · refine State.loadLine_go_wf _ _ _ _ _ _ _ _ _ ?_
    split
    · exact State.sbDrain_wf _ _ hs
    · exact hs
@[simp] theorem State.loadLine.direct_wf (x : Nat) (a : Nat) (n : Nat) (s : State) (hs : Memory.wf s.mem = true) :
    Memory.wf (State.loadLine.direct x a n s).1.mem = true := by
  unfold State.loadLine.direct; dsimp only; (repeat' split) <;> (try simp +contextual (maxDischargeDepth := 60) [*])
@[simp] theorem State.loadLine.go_wf (u : Nat) (x : Nat) (a : Nat) (n : Nat) (attr : Attr) (fill : Bool) (s : State) (d : Nat) (line : Nat) (hs : Memory.wf s.mem = true) :
    Memory.wf (State.loadLine.go u x a n attr fill s d line).1.mem = true := by
  unfold State.loadLine.go; dsimp only; (repeat' split) <;> (try simp +contextual (maxDischargeDepth := 60) [*])
@[simp] theorem State.invLine_wf (s : State) (d : Nat) (line : Nat) (arr : Bool) (hs : Memory.wf s.mem = true) :
    Memory.wf (State.invLine s d line arr).mem = true := by
  unfold State.invLine; dsimp only; (repeat' split) <;> (try simp +contextual (maxDischargeDepth := 60) [*])
@[simp] theorem State.mopLine_wf (s : State) (m : Mop) (d : Nat) (line : Nat) (x : Option Nat) (hs : Memory.wf s.mem = true) :
    Memory.wf (State.mopLine s m d line x).mem = true := by
  unfold State.mopLine; (repeat' split) <;> (try simp +contextual (maxDischargeDepth := 60) [*])
@[simp] theorem State.mopSlot_wf (s : State) (m : Mop) (d : Nat) (set : Nat) (way : Nat) (x : Option Nat) (hs : Memory.wf s.mem = true) :
    Memory.wf (State.mopSlot s m d set way x).mem = true := by
  unfold State.mopSlot; simp +contextual (maxDischargeDepth := 60) [*]
@[simp] theorem State.mopAll_wf (s : State) (m : Mop) (d : Nat) (late : List Nat) (hs : Memory.wf s.mem = true) :
    Memory.wf (State.mopAll s m d late).mem = true := by
  unfold State.mopAll; simp +contextual (maxDischargeDepth := 60) [*]
@[simp] theorem State.lockFillLine_wf (s : State) (d : Nat) (way : Nat) (line : Nat) (hs : Memory.wf s.mem = true) :
    Memory.wf (State.lockFillLine s d way line).1.mem = true := by
  unfold State.lockFillLine; (repeat' split) <;> (try simp +contextual (maxDischargeDepth := 60) [*])
@[simp] theorem State.lockFill_wf (s : State) (d : Nat) (way : Nat) (lines : List Nat) (hs : Memory.wf s.mem = true) :
    Memory.wf (State.lockFill s d way lines).mem = true := by
  unfold State.lockFill; simp +contextual (maxDischargeDepth := 60) [*]
@[simp] theorem State.l1InvAll_wf (s : State) (u : Nat) (hs : Memory.wf s.mem = true) :
    Memory.wf (State.l1InvAll s u).mem = true := by
  unfold State.l1InvAll; simp +contextual (maxDischargeDepth := 60) [*]
@[simp] theorem State.setR_wf (s : State) (x : Nat) (r : Regs) (hs : Memory.wf s.mem = true) :
    Memory.wf (State.setR s x r).mem = true := by
  unfold State.setR; simp +contextual (maxDischargeDepth := 60) [*]
@[simp] theorem State.setG_wf (s : State) (x : Nat) (n : Nat) (v : W64) (hs : Memory.wf s.mem = true) :
    Memory.wf (State.setG s x n v).mem = true := by
  unfold State.setG; simp +contextual (maxDischargeDepth := 60) [*]
@[simp] theorem State.setV_wf (s : State) (x : Nat) (n : Nat) (v : W128) (hs : Memory.wf s.mem = true) :
    Memory.wf (State.setV s x n v).mem = true := by
  unfold State.setV; simp +contextual (maxDischargeDepth := 60) [*]
@[simp] theorem State.setF_wf (s : State) (x : Nat) (n : Nat) (w : W64) (hs : Memory.wf s.mem = true) :
    Memory.wf (State.setF s x n w).mem = true := by
  unfold State.setF; simp +contextual (maxDischargeDepth := 60) [*]
@[simp] theorem State.setP_wf (s : State) (x : Nat) (n : Nat) (v : W128) (hs : Memory.wf s.mem = true) :
    Memory.wf (State.setP s x n v).mem = true := by
  unfold State.setP; simp +contextual (maxDischargeDepth := 60) [*]
@[simp] theorem State.setXcsr_wf (s : State) (x : Nat) (n : Nat) (v : W64) (hs : Memory.wf s.mem = true) :
    Memory.wf (State.setXcsr s x n v).mem = true := by
  unfold State.setXcsr; simp +contextual (maxDischargeDepth := 60) [*]
@[simp] theorem State.setTime_wf (s : State) (x : Nat) (service : Nat) (sealed : Nat) (hs : Memory.wf s.mem = true) :
    Memory.wf (State.setTime s x service sealed).mem = true := by
  unfold State.setTime; simp +contextual (maxDischargeDepth := 60) [*]
@[simp] theorem State.ctxFence_wf (s : State) (x : Nat) (hs : Memory.wf s.mem = true) :
    Memory.wf (State.ctxFence s x).mem = true := by
  unfold State.ctxFence; simp +contextual (maxDischargeDepth := 60) [*]
@[simp] theorem State.squash_wf (s : State) (x : Nat) (hs : Memory.wf s.mem = true) :
    Memory.wf (State.squash s x).mem = true := by
  unfold State.squash; dsimp only; (repeat' split) <;> (try simp +contextual (maxDischargeDepth := 60) [*])
@[simp] theorem State.dropWait_wf (s : State) (x : Nat) (hs : Memory.wf s.mem = true) :
    Memory.wf (State.dropWait s x).mem = true := by
  unfold State.dropWait; simp +contextual (maxDischargeDepth := 60) [*]
@[simp] theorem State.mvIdle_wf (s : State) (n : Nat) (hs : Memory.wf s.mem = true) :
    Memory.wf (State.mvIdle s n).mem = true := by
  unfold State.mvIdle; simp +contextual (maxDischargeDepth := 60) [*]
@[simp] theorem State.mvJobEnd_wf (s : State) (x : Nat) (hs : Memory.wf s.mem = true) :
    Memory.wf (State.mvJobEnd s x).mem = true := by
  unfold State.mvJobEnd; simp +contextual (maxDischargeDepth := 60) [*]
@[simp] theorem State.stopStage_wf (s : State) (x : Nat) (hs : Memory.wf s.mem = true) :
    Memory.wf (State.stopStage s x).mem = true := by
  unfold State.stopStage; simp +contextual (maxDischargeDepth := 60) [*]
@[simp] theorem State.dropFlits_wf (s : State) (j : Nat) (hs : Memory.wf s.mem = true) :
    Memory.wf (State.dropFlits s j).mem = true := by
  unfold State.dropFlits
  refine State.setJob_wf _ _ _ (foldl_wf _ _ hs (fun s l h => ?_))
  split <;> simp [*]
@[simp] theorem State.drainJob_wf (s : State) (j : Nat) (hs : Memory.wf s.mem = true) :
    Memory.wf (State.drainJob s j).mem = true := by
  unfold State.drainJob; simp +contextual (maxDischargeDepth := 60) [*]
@[simp] theorem State.jobFault_wf (s : State) (j : Nat) (stage : Nat) (st : BitVec 16) (hs : Memory.wf s.mem = true) :
    Memory.wf (State.jobFault s j stage st).mem = true := by
  unfold State.jobFault; simp +contextual (maxDischargeDepth := 60) [*]
@[simp] theorem State.waitFor_wf (s : State) (x : Nat) (st : CState) (w : Wait) (hs : Memory.wf s.mem = true) :
    Memory.wf (State.waitFor s x st w).mem = true := by
  unfold State.waitFor; simp +contextual (maxDischargeDepth := 60) [*]
@[simp] theorem State.faultCtx_wf (s : State) (x : Nat) (t : Trap) (epc : W64) (enpc : W64) (hs : Memory.wf s.mem = true) :
    Memory.wf (State.faultCtx s x t epc enpc).mem = true := by
  unfold State.faultCtx; simp +contextual (maxDischargeDepth := 60) [*]
@[simp] theorem State.enterLevel_wf (s : State) (x : Nat) (b : Nat) (lvl : Priv) (t : Trap) (async : Bool) (epc : W64) (enpc : W64) (hs : Memory.wf s.mem = true) :
    Memory.wf (State.enterLevel s x b lvl t async epc enpc).mem = true := by
  unfold State.enterLevel; simp +contextual (maxDischargeDepth := 60) [*]
@[simp] theorem State.takeTrapAt_wf (s : State) (x : Nat) (t : Trap) (async : Bool) (epc : W64) (enpc : W64) (hs : Memory.wf s.mem = true) :
    Memory.wf (State.takeTrapAt s x t async epc enpc).mem = true := by
  unfold State.takeTrapAt; simp +contextual (maxDischargeDepth := 60) [*]
@[simp] theorem State.takeTrap_wf (s : State) (x : Nat) (t : Trap) (hs : Memory.wf s.mem = true) :
    Memory.wf (State.takeTrap s x t).mem = true := by
  unfold State.takeTrap; simp +contextual (maxDischargeDepth := 60) [*]
@[simp] theorem State.walkRead_wf (s : State) (x : Nat) (a : Nat) (hs : Memory.wf s.mem = true) :
    Memory.wf (State.walkRead s x a).1.mem = true := by
  unfold State.walkRead; dsimp only; (repeat' split) <;> (try simp +contextual (maxDischargeDepth := 60) [*])
@[simp] theorem State.walk_wf (x k : Nat) (s : State) (a b c : Nat) (hs : Memory.wf s.mem = true) :
    Memory.wf (State.walk x k s a b c).1.mem = true := by
  induction k generalizing s a b c with
  | zero => exact hs
  | succ k ih =>
    have h1 := State.walkRead_wf s x (a + 8 * (c / 2 ^ (12 + 9 * (3 - b)) % 512)) hs
    simp only [State.walk]
    repeat' split
    all_goals first | exact h1 | exact ih _ _ _ _ h1
@[simp] theorem State.xlateCore_wf (s : State) (x : Nat) (k : XKind) (a : W64) (hs : Memory.wf s.mem = true) :
    Memory.wf (State.xlateCore s x k a).1.mem = true := by
  unfold State.xlateCore; dsimp only; (repeat' split) <;> (try simp +contextual (maxDischargeDepth := 60) [*])
@[simp] theorem State.xlate_wf (s : State) (x : Nat) (k : XKind) (a : W64) (hs : Memory.wf s.mem = true) :
    Memory.wf (State.xlate s x k a).1.mem = true := by
  unfold State.xlate; simp +contextual (maxDischargeDepth := 60) [*]
@[simp] theorem State.setPoison_wf (s : State) (x : Nat) (ls : List Loc) (on : Bool) (hs : Memory.wf s.mem = true) :
    Memory.wf (State.setPoison s x ls on).mem = true := by
  unfold State.setPoison; dsimp only; (repeat' split) <;> (try simp +contextual (maxDischargeDepth := 60) [*])
@[simp] theorem State.poisonDsts_wf (s : State) (x : Nat) (ls : List Loc) (hs : Memory.wf s.mem = true) :
    Memory.wf (State.poisonDsts s x ls).mem = true := by
  unfold State.poisonDsts
  refine State.setPoison_wf _ _ _ _ (foldl_wf _ _ hs (fun s l h => ?_))
  dsimp only
  split <;> simp (maxDischargeDepth := 10) [*]
@[simp] theorem State.advance_wf (s : State) (x : Nat) (wide : Bool) (hs : Memory.wf s.mem = true) :
    Memory.wf (State.advance s x wide).mem = true := by
  unfold State.advance; simp +contextual (maxDischargeDepth := 60) [*]
@[simp] theorem State.retire_wf (s : State) (x : Nat) (wide : optParam Bool false) (hs : Memory.wf s.mem = true) :
    Memory.wf (State.retire s x wide).mem = true := by
  unfold State.retire; simp +contextual (maxDischargeDepth := 60) [*]
@[simp] theorem State.jumpTo_wf (s : State) (x : Nat) (taken : Bool) (target : W64) (a : Bool) (hs : Memory.wf s.mem = true) :
    Memory.wf (State.jumpTo s x taken target a).mem = true := by
  unfold State.jumpTo; simp +contextual (maxDischargeDepth := 60) [*]
@[simp] theorem State.fetchLine_wf (s : State) (x : Nat) (p : Nat) (at_ : Attr) (hs : Memory.wf s.mem = true) :
    Memory.wf (State.fetchLine s x p at_).1.mem = true := by
  unfold State.fetchLine; dsimp only; (repeat' split) <;> (try simp +contextual (maxDischargeDepth := 60) [*])
@[simp] theorem State.fetchAt_wf (s : State) (x : Nat) (a : W64) (hs : Memory.wf s.mem = true) :
    Memory.wf (State.fetchAt s x a).1.mem = true := by
  unfold State.fetchAt; dsimp only; (repeat' split) <;> (try simp +contextual (maxDischargeDepth := 60) [*])
@[simp] theorem State.fetch_wf (s : State) (x : Nat) (wide : Bool) (hs : Memory.wf s.mem = true) :
    Memory.wf (State.fetch s x wide).1.mem = true := by
  unfold State.fetch; dsimp only; (repeat' split) <;> (try simp +contextual (maxDischargeDepth := 60) [*])
@[simp] theorem State.endEpisode_wf (s : State) (x : Nat) (hs : Memory.wf s.mem = true) :
    Memory.wf (State.endEpisode s x).mem = true := by
  unfold State.endEpisode; dsimp only; (repeat' split) <;> (try simp +contextual (maxDischargeDepth := 60) [*])
@[simp] theorem State.raCount_wf (s : State) (x : Nat) (hs : Memory.wf s.mem = true) :
    Memory.wf (State.raCount s x).mem = true := by
  unfold State.raCount; simp +contextual (maxDischargeDepth := 60) [*]
@[simp] theorem State.sideReq_wf (s : State) (x : Nat) (line : Nat) (str : Bool) (hs : Memory.wf s.mem = true) :
    Memory.wf (State.sideReq s x line str).mem = true := by
  unfold State.sideReq; simp +contextual (maxDischargeDepth := 60) [*]
@[simp] theorem State.prefetch_wf (s : State) (x : Nat) (line : Nat) (str : Bool) (hs : Memory.wf s.mem = true) :
    Memory.wf (State.prefetch s x line str).mem = true := by
  unfold State.prefetch; simp +contextual (maxDischargeDepth := 60) [*]
@[simp] theorem issueRa_wf (x : Nat) (sg : Sig) (body : State → Eff) (ld : State → LoadOp → RaLoad) (s : State) (hbody : ∀ (y0 : State), Memory.wf y0.mem = true → Eff.wf (body y0)) (hld : ∀ (y0 : State) (y1 : LoadOp), Memory.wf y0.mem = true → RaLoad.wf (ld y0 y1)) (hs : Memory.wf s.mem = true) :
    Memory.wf (issueRa x sg body ld s).mem = true := by
  unfold issueRa
  dsimp only
  have h1 := State.fetch_wf s x sg.wide hs
  have h2 := hbody s hs
  have h3 := fun o => hld s o hs
  split
  · simp [hs]
  · split
    · simp [hs]
    · simp [hs]
    · refine ite_wf (fun _ => by simp [hs]) (fun _ => ?_)
      split
      · simp [hs]
      · split
        · simp [hs]
        · split <;> rename_i heq <;> (try rw [heq] at h2) <;> (try simp only [Eff.wf] at h2) <;> simp (maxDischargeDepth := 10) [*]
      · rename_i o _
        have h4 := h3 o
        split <;> rename_i heq <;> rw [heq] at h4 <;> (try simp only [RaLoad.wf] at h4) <;> simp (maxDischargeDepth := 10) [*]
      · split
        · simp (maxDischargeDepth := 10) [*]
        · split <;> simp (maxDischargeDepth := 10) [*]
      · repeat' split
        all_goals simp (maxDischargeDepth := 10) [*]
      · split
        · simp (maxDischargeDepth := 10) [*]
        · split <;> rename_i heq <;> (try rw [heq] at h2) <;> (try simp only [Eff.wf] at h2) <;> simp (maxDischargeDepth := 10) [*]
      · split
        · simp (maxDischargeDepth := 10) [*]
        · split <;> rename_i heq <;> (try rw [heq] at h2) <;> (try simp only [Eff.wf] at h2) <;> simp (maxDischargeDepth := 10) [*]
@[simp] theorem issueNow_wf (x : Nat) (sg : Sig) (body : State → Eff) (s0 s : State) (hbody : ∀ (y0 : State), Memory.wf y0.mem = true → Eff.wf (body y0)) (h0 : Memory.wf s0.mem = true) (hs : Memory.wf s.mem = true) :
    Memory.wf (issueNow x sg body s0 s).mem = true := by
  unfold issueNow
  dsimp only
  have h1 := State.fetch_wf s x sg.wide hs
  have h2 := hbody ((s.fetch x sg.wide).1.setCtx x { (s.fetch x sg.wide).1.ctx x with lastTime := 1 }) (by simp [h1])
  split
  · exact ite_wf (fun _ => State.waitFor_wf _ _ _ _ h0) (fun _ => State.takeTrap_wf _ _ _ h1)
  · refine ite_wf (fun _ => State.takeTrap_wf _ _ _ h1) (fun _ => ?_)
    split
    · exact State.takeTrap_wf _ _ _ h1
    · refine ite_wf (fun _ => State.waitFor_wf _ _ _ _ h0) (fun _ => ?_)
      split <;> rename_i heq <;> rw [heq] at h2 <;> first | (simp only [Eff.wf] at h2; simp [*]; done) | simpa using h0
@[simp] theorem issueSieve_wf (x : Nat) (sg : Sig) (body : State → Eff) (s : State) (hbody : ∀ (y0 : State), Memory.wf y0.mem = true → Eff.wf (body y0)) (hs : Memory.wf s.mem = true) :
    Memory.wf (issueSieve x sg body s).mem = true := by
  have hb := hbody s hs
  unfold issueSieve
  split
  · exact hs
  · split <;> rename_i heq <;> (try rw [heq] at hb) <;> (try simp only [Eff.wf] at hb) <;> simp [*]
@[simp] theorem State.drainReach_wf (s : State) (x : Nat) (hs : Memory.wf s.mem = true) :
    Memory.wf (State.drainReach s x).mem = true := by
  unfold State.drainReach; simp +contextual (maxDischargeDepth := 60) [*]
@[simp] theorem issueGo_wf (x : Nat) (sg : Sig) (body : State → Eff) (ld : State → LoadOp → RaLoad) (s : State) (hbody : ∀ (y0 : State), Memory.wf y0.mem = true → Eff.wf (body y0)) (hld : ∀ (y0 : State) (y1 : LoadOp), Memory.wf y0.mem = true → RaLoad.wf (ld y0 y1)) (hs : Memory.wf s.mem = true) :
    Memory.wf (issueGo x sg body ld s).mem = true := by
  unfold issueGo; dsimp only; (repeat' split) <;> (try simp +contextual (maxDischargeDepth := 60) [*])
@[simp] theorem issueWith_wf (x : Nat) (sg : Sig) (body : State → Eff) (ld : State → LoadOp → RaLoad) (s : State) (hbody : ∀ (y0 : State), Memory.wf y0.mem = true → Eff.wf (body y0)) (hld : ∀ (y0 : State) (y1 : LoadOp), Memory.wf y0.mem = true → RaLoad.wf (ld y0 y1)) (hs : Memory.wf s.mem = true) :
    Memory.wf (issueWith x sg body ld s).mem = true := by
  unfold issueWith
  refine issueGo_wf _ _ _ _ _ hbody hld ?_
  split
  · exact State.drainReach_wf _ _ hs
  · exact hs
@[simp] theorem issue_wf (x : Nat) (sg : Sig) (body : State → Eff) (s : State) (hbody : ∀ (y0 : State), Memory.wf y0.mem = true → Eff.wf (body y0)) (hs : Memory.wf s.mem = true) :
    Memory.wf (issue x sg body s).mem = true := by
  exact issueWith_wf _ _ _ _ _ hbody (fun _ _ _ => trivial) hs
@[simp] theorem gOp_wf (x : CtxId) (prof : Prof) (w : BitVec 32) (rd : Reg5) (rs1 : Reg5) (rs2 : Reg5) (fn : W64 → W64 → W64) (s : State) (hs : Memory.wf s.mem = true) :
    Memory.wf (gOp x prof w rd rs1 rs2 fn s).mem = true := by
  unfold gOp; simp +contextual (maxDischargeDepth := 60) [*]
@[simp] theorem gOp1_wf (x : CtxId) (prof : Prof) (w : BitVec 32) (rd : Reg5) (rs1 : Reg5) (fn : W64 → W64) (s : State) (hs : Memory.wf s.mem = true) :
    Memory.wf (gOp1 x prof w rd rs1 fn s).mem = true := by
  unfold gOp1; simp +contextual (maxDischargeDepth := 60) [*]
@[simp] theorem gOpX_wf (x : CtxId) (w : BitVec 32) (rd : Reg5) (rs1 : Reg5) (fn : W64 → W64) (s : State) (hs : Memory.wf s.mem = true) :
    Memory.wf (gOpX x w rd rs1 fn s).mem = true := by
  unfold gOpX; simp +contextual (maxDischargeDepth := 60) [*]
@[simp] theorem illegal_wf (x : CtxId) (w : BitVec 32) (prof : Prof) (s : State) (hs : Memory.wf s.mem = true) :
    Memory.wf (illegal x w prof s).mem = true := by
  unfold illegal; simp +contextual (maxDischargeDepth := 60) [*]
@[simp] theorem State.setVel_wf (s : State) (x : Nat) (n : Nat) (w : Nat) (i : Nat) (val : Nat) (hs : Memory.wf s.mem = true) :
    Memory.wf (State.setVel s x n w i val).mem = true := by
  unfold State.setVel; simp +contextual (maxDischargeDepth := 60) [*]
@[simp] theorem vecIssue_wf (x : CtxId) (w : BitVec 32) (o : VF) (kd : VKind) (k1 : VKind) (k2 : VKind) (pgOk : Bool) (vst : Bool) (body : Nat → State → Eff) (s : State) (prof : optParam Prof profE) (hbody : ∀ (y0 : Nat) (y1 : State), Memory.wf y1.mem = true → Eff.wf (body y0 y1)) (hs : Memory.wf s.mem = true) :
    Memory.wf (vecIssue x w o kd k1 k2 pgOk vst body s prof).mem = true := by
  unfold vecIssue
  refine issue_wf _ _ _ _ (fun s hs => ?_) hs
  dsimp only
  (repeat' split) <;> simp +contextual (maxDischargeDepth := 60) [*]
@[simp] theorem State.vwrite_wf (s : State) (x : Nat) (o : VF) (w : Nat) (fn : Nat → Nat) (hs : Memory.wf s.mem = true) :
    Memory.wf (State.vwrite s x o w fn).mem = true := by
  unfold State.vwrite; simp +contextual (maxDischargeDepth := 60) [*]
@[simp] theorem State.pwrite_wf (s : State) (x : Nat) (pd : Nat) (pg : Pred3) (vl : Nat) (fn : Nat → Bool) (hs : Memory.wf s.mem = true) :
    Memory.wf (State.pwrite s x pd pg vl fn).mem = true := by
  unfold State.pwrite; simp +contextual (maxDischargeDepth := 60) [*]
@[simp] theorem State.raiseFp_wf (s : State) (x : Nat) (fl : FFlags) (done : State → State) (hs : Memory.wf s.mem = true) (hdone : ∀ (y0 : State), Memory.wf y0.mem = true → Memory.wf (done y0).mem = true) :
    Eff.wf (State.raiseFp s x fl done) := by
  unfold State.raiseFp; dsimp only; (repeat' split) <;> (try simp +contextual (maxDischargeDepth := 60) [*])
@[simp] theorem State.raiseDec_wf (s : State) (x : Nat) (bit : Nat) (code : Nat) (els : State → Eff) (hs : Memory.wf s.mem = true) (hels : ∀ (y0 : State), Memory.wf y0.mem = true → Eff.wf (els y0)) :
    Eff.wf (State.raiseDec s x bit code els) := by
  unfold State.raiseDec; dsimp only; (repeat' split) <;> (try simp +contextual (maxDischargeDepth := 60) [*])
@[simp] theorem State.setSat_wf (s : State) (x : Nat) (sat : Bool) (hs : Memory.wf s.mem = true) :
    Memory.wf (State.setSat s x sat).mem = true := by
  unfold State.setSat; simp +contextual (maxDischargeDepth := 60) [*]

end Sys2Proof.Machine
end

