-- ==== Sys2Proof/Laws/KeepHub.lean ====
section
/-! SUPPORT. Sys2Proof/Laws/KeepHub.lean: the memory keeps its canonical form under queues, jobs, threads, ordering and the hub of the block. -/

namespace Sys2Proof.Machine

@[simp] theorem State.setHostCq_wf (s : State) (f : Nat) (n : Nat) (c : HostCq) (hs : Memory.wf s.mem = true) :
    Memory.wf (State.setHostCq s f n c).mem = true := by
  unfold State.setHostCq; simp +contextual (maxDischargeDepth := 60) [*]
@[simp] theorem State.setHostSq_wf (s : State) (f : Nat) (n : Nat) (q : HostSq) (hs : Memory.wf s.mem = true) :
    Memory.wf (State.setHostSq s f n q).mem = true := by
  unfold State.setHostSq; simp +contextual (maxDischargeDepth := 60) [*]
@[simp] theorem State.hostIrq_wf (s : State) (f : Nat) (vec : Nat) (hs : Memory.wf s.mem = true) :
    Memory.wf (State.hostIrq s f vec).mem = true := by
  unfold State.hostIrq; simp +contextual (maxDischargeDepth := 60) [*]
@[simp] theorem State.hostNotify_wf (s : State) (f : Nat) (n : Nat) (hs : Memory.wf s.mem = true) :
    Memory.wf (State.hostNotify s f n).mem = true := by
  unfold State.hostNotify; simp +contextual (maxDischargeDepth := 60) [*]
@[simp] theorem State.hostSend_wf (s : State) (f : Nat) (e : HostCqe) (hs : Memory.wf s.mem = true) :
    Memory.wf (State.hostSend s f e).mem = true := by
  unfold State.hostSend; simp +contextual (maxDischargeDepth := 60) [*]
@[simp] theorem State.hostError_wf (s : State) (f : Nat) (e : HostCqe) (internal : BitVec 16) (hs : Memory.wf s.mem = true) :
    Memory.wf (State.hostError s f e internal).mem = true := by
  unfold State.hostError; simp +contextual (maxDischargeDepth := 60) [*]
@[simp] theorem State.hostEnd_wf (s : State) (f : Nat) (e : HostCqe) (internal : BitVec 16) (hs : Memory.wf s.mem = true) :
    Memory.wf (State.hostEnd s f e internal).mem = true := by
  unfold State.hostEnd; simp +contextual (maxDischargeDepth := 60) [*]
@[simp] theorem State.hostEvent_wf (s : State) (f : Nat) (ev : Nat) (hs : Memory.wf s.mem = true) :
    Memory.wf (State.hostEvent s f ev).mem = true := by
  unfold State.hostEvent; dsimp only; (repeat' split) <;> (try simp +contextual (maxDischargeDepth := 60) [*])
@[simp] theorem State.hostEvents_wf (s : State) (p : BitVec 12 → Bool) (ev : Nat) (hs : Memory.wf s.mem = true) :
    Memory.wf (State.hostEvents s p ev).mem = true := by
  unfold State.hostEvents; simp +contextual (maxDischargeDepth := 60) [*]
@[simp] theorem State.hostDelEnd_wf (s : State) (f : Nat) (n : Nat) (hs : Memory.wf s.mem = true) :
    Memory.wf (State.hostDelEnd s f n).mem = true := by
  unfold State.hostDelEnd; dsimp only; (repeat' split) <;> (try simp +contextual (maxDischargeDepth := 60) [*])
@[simp] theorem State.hostSettle_wf (s : State) (f : Nat) (hs : Memory.wf s.mem = true) :
    Memory.wf (State.hostSettle s f).mem = true := by
  unfold State.hostSettle; simp +contextual (maxDischargeDepth := 60) [*]
@[simp] theorem State.hostEnded_wf (s : State) (e : Item) (hs : Memory.wf s.mem = true) :
    Memory.wf (State.hostEnded s e).mem = true := by
  unfold State.hostEnded; simp +contextual (maxDischargeDepth := 60) [*]
@[simp] theorem State.hostCompl_wf (s : State) (q : BitVec 16) (c : Compl) (hs : Memory.wf s.mem = true) :
    Memory.wf (State.hostCompl s q c).mem = true := by
  unfold State.hostCompl; simp +contextual (maxDischargeDepth := 60) [*]
@[simp] theorem State.haltBooth_wf (s : State) (bid : BitVec 12) (cause : BitVec 16) (q : BitVec 16) (slot : Nat) (detail : BitVec 16) (hs : Memory.wf s.mem = true) :
    Memory.wf (State.haltBooth s bid cause q slot detail).mem = true := by
  unfold State.haltBooth; simp +contextual (maxDischargeDepth := 60) [*]
@[simp] theorem State.ringRead_wf (u1 : Nat) (u2 : State) (u3 : Queue) (u4 : BitVec 32) (hu2 : Memory.wf u2.mem = true) :
    Memory.wf (State.ringRead u1 u2 u3 u4).1.mem = true := by
  fun_induction State.ringRead <;> simp_all +zetaDelta
@[simp] theorem State.dropCompl_wf (s : State) (q : BitVec 16) (hs : Memory.wf s.mem = true) :
    Memory.wf (State.dropCompl s q).mem = true := by
  unfold State.dropCompl; simp +contextual (maxDischargeDepth := 60) [*]
@[simp] theorem State.writeCompl_wf (s : State) (q : BitVec 16) (c : Compl) (hs : Memory.wf s.mem = true) :
    Memory.wf (State.writeCompl s q c).mem = true := by
  unfold State.writeCompl; dsimp only; (repeat' split) <;> (try simp +contextual (maxDischargeDepth := 60) [*])
@[simp] theorem State.post_wf (s : State) (q : BitVec 16) (c : Compl) (hs : Memory.wf s.mem = true) :
    Memory.wf (State.post s q c).mem = true := by
  unfold State.post; simp +contextual (maxDischargeDepth := 60) [*]
@[simp] theorem State.drainHold_wf (u1 : Nat) (u2 : State) (u3 : BitVec 16) (hu2 : Memory.wf u2.mem = true) :
    Memory.wf (State.drainHold u1 u2 u3).mem = true := by
  fun_induction State.drainHold <;> simp_all
@[simp] theorem State.complete_wf (s : State) (e : Item) (status : BitVec 16) (res : W64) (rang : List (BitVec 16 × BitVec 32)) (hs : Memory.wf s.mem = true) :
    Memory.wf (State.complete s e status res rang).mem = true := by
  unfold State.complete; simp +contextual (maxDischargeDepth := 60) [*]
@[simp] theorem State.cellWrite_wf (s : State) (f : BitVec 16) (sq : BitVec 32) (hs : Memory.wf s.mem = true) :
    Memory.wf (State.cellWrite s f sq).mem = true := by
  unfold State.cellWrite; simp +contextual (maxDischargeDepth := 60) [*]
@[simp] theorem State.takeFront_wf (s : State) (q : BitVec 16) (hs : Memory.wf s.mem = true) :
    Memory.wf (State.takeFront s q).1.mem = true := by
  unfold State.takeFront; dsimp only; (repeat' split) <;> (try simp +contextual (maxDischargeDepth := 60) [*])
@[simp] theorem dispatch_wf (cls : Nat) (op : Nat) (q : BitVec 16) (ready : Item → State → Bool) (body : Item → State → State) (s : State) (hbody : ∀ (y0 : Item) (y1 : State), Memory.wf y1.mem = true → Memory.wf (body y0 y1).mem = true) (hs : Memory.wf s.mem = true) :
    Memory.wf (dispatch cls op q ready body s).mem = true := by
  unfold dispatch; dsimp only; (repeat' split) <;> (try simp +contextual (maxDischargeDepth := 60) [*])
@[simp] theorem State.frontTest_wf (s : State) (q : BitVec 16) (hs : Memory.wf s.mem = true) :
    Memory.wf (State.frontTest s q).mem = true := by
  unfold State.frontTest; dsimp only; (repeat' split) <;> (try simp +contextual (maxDischargeDepth := 60) [*])
@[simp] theorem State.mopOne_wf (s : State) (m : Mop) (d : Nat) (set : Nat) (way : Nat) (late : List Nat) (hs : Memory.wf s.mem = true) :
    Memory.wf (State.mopOne s m d set way late).mem = true := by
  unfold State.mopOne; simp +contextual (maxDischargeDepth := 60) [*]
@[simp] theorem State.mopLater_wf (s : State) (d : Nat) (op : Nat) (way : Nat) (line : Nat) (hs : Memory.wf s.mem = true) :
    Memory.wf (State.mopLater s d op way line).mem = true := by
  unfold State.mopLater; simp +contextual (maxDischargeDepth := 60) [*]
@[simp] theorem execMergeDrainTimeout_wf (n : Fin 13) (s : State) (hs : Memory.wf s.mem = true) :
    OutWf (execMergeDrainTimeout n s) := by
  unfold execMergeDrainTimeout; (repeat' split) <;> (try simp +contextual (maxDischargeDepth := 60) [*])
@[simp] theorem execRequestPromote_wf (n : Fin 12) (s : State) (hs : Memory.wf s.mem = true) :
    OutWf (execRequestPromote n s) := by
  unfold execRequestPromote; simp +contextual (maxDischargeDepth := 60) [*]
@[simp] theorem execMemoryRefresh_wf (_n : Fin 12) (s : State) (hs : Memory.wf s.mem = true) :
    OutWf (execMemoryRefresh _n s) := by
  unfold execMemoryRefresh; simp +contextual (maxDischargeDepth := 60) [*]
@[simp] theorem recenter_wf (n : Nat) (s : State) (hs : Memory.wf s.mem = true) :
    Memory.wf (recenter n s).mem = true := by
  unfold recenter; simp +contextual (maxDischargeDepth := 60) [*]
@[simp] theorem execRecenter_wf (n : Fin 12) (s : State) (hs : Memory.wf s.mem = true) :
    OutWf (execRecenter n s) := by
  unfold execRecenter; simp +contextual (maxDischargeDepth := 60) [*]
@[simp] theorem State.recentreLane_wf (s : State) (n : Nat) (l : Nat) (r : LaneRep) (hs : Memory.wf s.mem = true) :
    Memory.wf (State.recentreLane s n l r).mem = true := by
  unfold State.recentreLane; simp +contextual (maxDischargeDepth := 60) [*]
@[simp] theorem execRecenterEnd_wf (n : Fin 12) (lanes : List LaneRep) (s : State) (hs : Memory.wf s.mem = true) :
    OutWf (execRecenterEnd n lanes s) := by
  unfold execRecenterEnd; simp +contextual (maxDischargeDepth := 60) [*]
@[simp] theorem State.scrubEnd_wf (s : State) (st : BitVec 16) (hs : Memory.wf s.mem = true) :
    Memory.wf (State.scrubEnd s st).mem = true := by
  unfold State.scrubEnd; simp +contextual (maxDischargeDepth := 60) [*]
@[simp] theorem scrubGo_wf (s : State) (hs : Memory.wf s.mem = true) :
    Memory.wf (scrubGo s).mem = true := by
  unfold scrubGo; simp +contextual (maxDischargeDepth := 60) [*]
@[simp] theorem execScrubGo_wf (s : State) (hs : Memory.wf s.mem = true) :
    OutWf (execScrubGo s) := by
  unfold execScrubGo; simp +contextual (maxDischargeDepth := 60) [*]
@[simp] theorem execScrubWord_wf (s : State) (hs : Memory.wf s.mem = true) :
    OutWf (execScrubWord s) := by
  unfold execScrubWord; dsimp only; (repeat' split) <;> (try simp +contextual (maxDischargeDepth := 60) [*])
@[simp] theorem scrubAbort_wf (s : State) (hs : Memory.wf s.mem = true) :
    Memory.wf (scrubAbort s).mem = true := by
  unfold scrubAbort; simp +contextual (maxDischargeDepth := 60) [*]
@[simp] theorem execScrubAbort_wf (s : State) (hs : Memory.wf s.mem = true) :
    OutWf (execScrubAbort s) := by
  unfold execScrubAbort; simp +contextual (maxDischargeDepth := 60) [*]
@[simp] theorem execScrubEnd_wf (s : State) (hs : Memory.wf s.mem = true) :
    OutWf (execScrubEnd s) := by
  unfold execScrubEnd; simp +contextual (maxDischargeDepth := 60) [*]
@[simp] theorem State.merStep_wf (s : State) (v : W64) (hs : Memory.wf s.mem = true) :
    Memory.wf (State.merStep s v).mem = true := by
  unfold State.merStep; simp +contextual (maxDischargeDepth := 60) [*]
@[simp] theorem merStepWrite_wf (v : W64) (s : State) (hs : Memory.wf s.mem = true) :
    Memory.wf (merStepWrite v s).mem = true := by
  unfold merStepWrite; simp +contextual (maxDischargeDepth := 60) [*]
@[simp] theorem execMerStepWrite_wf (v : W64) (s : State) (hs : Memory.wf s.mem = true) :
    OutWf (execMerStepWrite v s) := by
  unfold execMerStepWrite; simp +contextual (maxDischargeDepth := 60) [*]
@[simp] theorem State.rateCheck_wf (s : State) (v : Int) (hs : Memory.wf s.mem = true) :
    Memory.wf (State.rateCheck s v).mem = true := by
  unfold State.rateCheck; simp +contextual (maxDischargeDepth := 60) [*]
@[simp] theorem State.merRate_wf (s : State) (v : BitVec 32) (hs : Memory.wf s.mem = true) :
    Memory.wf (State.merRate s v).mem = true := by
  unfold State.merRate; simp +contextual (maxDischargeDepth := 60) [*]
@[simp] theorem merRateWrite_wf (v : BitVec 32) (s : State) (hs : Memory.wf s.mem = true) :
    Memory.wf (merRateWrite v s).mem = true := by
  unfold merRateWrite; simp +contextual (maxDischargeDepth := 60) [*]
@[simp] theorem execMerRateWrite_wf (v : BitVec 32) (s : State) (hs : Memory.wf s.mem = true) :
    OutWf (execMerRateWrite v s) := by
  unfold execMerRateWrite; simp +contextual (maxDischargeDepth := 60) [*]
@[simp] theorem State.setReadyList_wf (s : State) (p : Nat) (l : List Nat) (hs : Memory.wf s.mem = true) :
    Memory.wf (State.setReadyList s p l).mem = true := by
  unfold State.setReadyList; simp +contextual (maxDischargeDepth := 60) [*]
@[simp] theorem State.setCur_wf (s : State) (h : Nat) (t : Option Nat) (hs : Memory.wf s.mem = true) :
    Memory.wf (State.setCur s h t).mem = true := by
  unfold State.setCur; simp +contextual (maxDischargeDepth := 60) [*]
@[simp] theorem State.setOffer_wf (s : State) (h : Nat) (t : Option Nat) (hs : Memory.wf s.mem = true) :
    Memory.wf (State.setOffer s h t).mem = true := by
  unfold State.setOffer; simp +contextual (maxDischargeDepth := 60) [*]
@[simp] theorem State.unlist_wf (s : State) (t : Nat) (hs : Memory.wf s.mem = true) :
    Memory.wf (State.unlist s t).mem = true := by
  unfold State.unlist; simp +contextual (maxDischargeDepth := 60) [*]
@[simp] theorem State.toTail_wf (s : State) (t : Nat) (hs : Memory.wf s.mem = true) :
    Memory.wf (State.toTail s t).mem = true := by
  unfold State.toTail; simp +contextual (maxDischargeDepth := 60) [*]
@[simp] theorem State.toHead_wf (s : State) (t : Nat) (hs : Memory.wf s.mem = true) :
    Memory.wf (State.toHead s t).mem = true := by
  unfold State.toHead; simp +contextual (maxDischargeDepth := 60) [*]
@[simp] theorem State.withdraw_wf (s : State) (h : Nat) (hs : Memory.wf s.mem = true) :
    Memory.wf (State.withdraw s h).mem = true := by
  unfold State.withdraw; (repeat' split) <;> (try simp +contextual (maxDischargeDepth := 60) [*])
@[simp] theorem State.offer1_wf (s : State) (t : Nat) (hs : Memory.wf s.mem = true) :
    Memory.wf (State.offer1 s t).mem = true := by
  unfold State.offer1; (repeat' split) <;> (try simp +contextual (maxDischargeDepth := 60) [*])
@[simp] theorem State.scheduleGo_wf (u1 : Nat) (u2 : State) (hu2 : Memory.wf u2.mem = true) :
    Memory.wf (State.scheduleGo u1 u2).mem = true := by
  fun_induction State.scheduleGo <;> (try simp +contextual (maxDischargeDepth := 60) [*])
@[simp] theorem State.schedule_wf (s : State) (hs : Memory.wf s.mem = true) :
    Memory.wf (State.schedule s).mem = true := by
  unfold State.schedule; simp +contextual (maxDischargeDepth := 60) [*]
@[simp] theorem State.dropExpiry_wf (s : State) (t : Nat) (hs : Memory.wf s.mem = true) :
    Memory.wf (State.dropExpiry s t).mem = true := by
  unfold State.dropExpiry; simp +contextual (maxDischargeDepth := 60) [*]
@[simp] theorem State.testWait_wf (s : State) (t : Nat) (hs : Memory.wf s.mem = true) :
    Memory.wf (State.testWait s t).mem = true := by
  unfold State.testWait; simp +contextual (maxDischargeDepth := 60) [*]
@[simp] theorem State.setFlags_wf (s : State) (t : Nat) (m : BitVec 32) (hs : Memory.wf s.mem = true) :
    Memory.wf (State.setFlags s t m).mem = true := by
  unfold State.setFlags; simp +contextual (maxDischargeDepth := 60) [*]
@[simp] theorem State.orrRes_wf (s : State) (h : Nat) (st : BitVec 16) (blocked : Bool) (data : BitVec 32) (hs : Memory.wf s.mem = true) :
    Memory.wf (State.orrRes s h st blocked data).mem = true := by
  unfold State.orrRes; simp +contextual (maxDischargeDepth := 60) [*]
@[simp] theorem orrOp_wf (h : Fin 64) (body : State → State) (s : State) (hbody : ∀ (y0 : State), Memory.wf y0.mem = true → Memory.wf (body y0).mem = true) (hs : Memory.wf s.mem = true) :
    Memory.wf (orrOp h body s).mem = true := by
  unfold orrOp; simp +contextual (maxDischargeDepth := 60) [*]
@[simp] theorem State.blockCur_wf (s : State) (h : Nat) (hs : Memory.wf s.mem = true) :
    Memory.wf (State.blockCur s h).mem = true := by
  unfold State.blockCur; simp +contextual (maxDischargeDepth := 60) [*]
@[simp] theorem execOrrCreate_wf (h : Fin 64) (t : BitVec 14) (any : Bool) (prio : BitVec 8) (start : Bool) (s : State) (hs : Memory.wf s.mem = true) :
    OutWf (execOrrCreate h t any prio start s) := by
  unfold execOrrCreate
  refine orrOp_wf _ _ _ (fun s hs => ?_) hs
  dsimp only
  (repeat' split) <;> simp +contextual (maxDischargeDepth := 60) [*]
@[simp] theorem execOrrDestroy_wf (h : Fin 64) (t : BitVec 14) (s : State) (hs : Memory.wf s.mem = true) :
    OutWf (execOrrDestroy h t s) := by
  unfold execOrrDestroy; simp +contextual (maxDischargeDepth := 60) [*]
@[simp] theorem execSetf_wf (h : Fin 64) (t : BitVec 14) (s : State) (hs : Memory.wf s.mem = true) :
    OutWf (execSetf h t s) := by
  unfold execSetf; simp +contextual (maxDischargeDepth := 60) [*]
@[simp] theorem execClrf_wf (h : Fin 64) (t : BitVec 14) (s : State) (hs : Memory.wf s.mem = true) :
    OutWf (execClrf h t s) := by
  unfold execClrf; simp +contextual (maxDischargeDepth := 60) [*]
@[simp] theorem execOrrWait_wf (h : Fin 64) (modeAnd : Bool) (consume : Bool) (s : State) (hs : Memory.wf s.mem = true) :
    OutWf (execOrrWait h modeAnd consume s) := by
  unfold execOrrWait
  refine orrOp_wf _ _ _ (fun s hs => ?_) hs
  dsimp only
  (repeat' split) <;> simp +contextual (maxDischargeDepth := 60) [*]
@[simp] theorem execSleep_wf (h : Fin 64) (s : State) (hs : Memory.wf s.mem = true) :
    OutWf (execSleep h s) := by
  unfold execSleep
  refine orrOp_wf _ _ _ (fun s hs => ?_) hs
  dsimp only
  (repeat' split) <;> simp +contextual (maxDischargeDepth := 60) [*]
@[simp] theorem execYield_wf (h : Fin 64) (s : State) (hs : Memory.wf s.mem = true) :
    OutWf (execYield h s) := by
  unfold execYield
  refine orrOp_wf _ _ _ (fun s hs => ?_) hs
  dsimp only
  (repeat' split) <;> simp +contextual (maxDischargeDepth := 60) [*]
@[simp] theorem execSuspend_wf (h : Fin 64) (t : BitVec 14) (s : State) (hs : Memory.wf s.mem = true) :
    OutWf (execSuspend h t s) := by
  unfold execSuspend; simp +contextual (maxDischargeDepth := 60) [*]
@[simp] theorem execOrrResume_wf (h : Fin 64) (t : BitVec 14) (s : State) (hs : Memory.wf s.mem = true) :
    OutWf (execOrrResume h t s) := by
  unfold execOrrResume; simp +contextual (maxDischargeDepth := 60) [*]
@[simp] theorem execSetprio_wf (h : Fin 64) (t : BitVec 14) (prio : BitVec 8) (s : State) (hs : Memory.wf s.mem = true) :
    OutWf (execSetprio h t prio s) := by
  unfold execSetprio; simp +contextual (maxDischargeDepth := 60) [*]
@[simp] theorem execSetaff_wf (h : Fin 64) (t : BitVec 14) (s : State) (hs : Memory.wf s.mem = true) :
    OutWf (execSetaff h t s) := by
  unfold execSetaff; simp +contextual (maxDischargeDepth := 60) [*]
@[simp] theorem execWake_wf (h : Fin 64) (t : BitVec 14) (s : State) (hs : Memory.wf s.mem = true) :
    OutWf (execWake h t s) := by
  unfold execWake; simp +contextual (maxDischargeDepth := 60) [*]
@[simp] theorem execExit_wf (h : Fin 64) (s : State) (hs : Memory.wf s.mem = true) :
    OutWf (execExit h s) := by
  unfold execExit
  refine orrOp_wf _ _ _ (fun s hs => ?_) hs
  (repeat' split) <;> simp +contextual (maxDischargeDepth := 60) [*]
@[simp] theorem execDispatchCommit_wf (h : Fin 64) (s : State) (hs : Memory.wf s.mem = true) :
    OutWf (execDispatchCommit h s) := by
  unfold execDispatchCommit; (repeat' split) <;> (try simp +contextual (maxDischargeDepth := 60) [*])
@[simp] theorem execTick_wf (s : State) (hs : Memory.wf s.mem = true) :
    OutWf (execTick s) := by
  unfold execTick; simp +contextual (maxDischargeDepth := 60) [*]
@[simp] theorem execDelayExpiry_wf (s : State) (hs : Memory.wf s.mem = true) :
    OutWf (execDelayExpiry s) := by
  unfold execDelayExpiry; (repeat' split) <;> (try simp +contextual (maxDischargeDepth := 60) [*])
@[simp] theorem State.srcDeliver_wf (s : State) (n : Nat) (hs : Memory.wf s.mem = true) :
    Memory.wf (State.srcDeliver s n).mem = true := by
  unfold State.srcDeliver; simp +contextual (maxDischargeDepth := 60) [*]
@[simp] theorem execEventDelivery_wf (n : BitVec 12) (s : State) (hs : Memory.wf s.mem = true) :
    OutWf (execEventDelivery n s) := by
  unfold execEventDelivery; simp +contextual (maxDischargeDepth := 60) [*]
@[simp] theorem orrSrcWrite_wf (n : Nat) (v : W64) (s : State) (hs : Memory.wf s.mem = true) :
    Memory.wf (orrSrcWrite n v s).mem = true := by
  unfold orrSrcWrite; simp +contextual (maxDischargeDepth := 60) [*]
@[simp] theorem execOrrSrcWrite_wf (n : BitVec 12) (v : W64) (s : State) (hs : Memory.wf s.mem = true) :
    OutWf (execOrrSrcWrite n v s) := by
  unfold execOrrSrcWrite; simp +contextual (maxDischargeDepth := 60) [*]
@[simp] theorem orrHtEnWrite_wf (v : W64) (s : State) (hs : Memory.wf s.mem = true) :
    Memory.wf (orrHtEnWrite v s).mem = true := by
  unfold orrHtEnWrite; simp +contextual (maxDischargeDepth := 60) [*]
@[simp] theorem execOrrHtEnWrite_wf (v : W64) (s : State) (hs : Memory.wf s.mem = true) :
    OutWf (execOrrHtEnWrite v s) := by
  unfold execOrrHtEnWrite; simp +contextual (maxDischargeDepth := 60) [*]
@[simp] theorem orrOpWrite_wf (h : Fin 64) (v : W64) (s : State) (hs : Memory.wf s.mem = true) :
    Memory.wf (orrOpWrite h v s).mem = true := by
  have k : ∀ r : Out, OutWf r → Memory.wf (match r with | .next t => t | _ => s).mem = true := by
    intro r h
    cases r with
    | next t => exact h
    | _ => exact hs
  unfold orrOpWrite
  refine k _ ?_
  (repeat' split) <;> simp +contextual (maxDischargeDepth := 60) [*]
@[simp] theorem State.wpUpdate_wf (s : State) (hs : Memory.wf s.mem = true) :
    Memory.wf (State.wpUpdate s).mem = true := by
  unfold State.wpUpdate; simp +contextual (maxDischargeDepth := 60) [*]
@[simp] theorem State.startEpoch_wf (s : State) (target : Nat) (hs : Memory.wf s.mem = true) :
    Memory.wf (State.startEpoch s target).mem = true := by
  unfold State.startEpoch; simp +contextual (maxDischargeDepth := 60) [*]
@[simp] theorem State.almReadonly_wf (s : State) (hs : Memory.wf s.mem = true) :
    Memory.wf (State.almReadonly s).mem = true := by
  unfold State.almReadonly; simp +contextual (maxDischargeDepth := 60) [*]
@[simp] theorem State.bellTail_wf (s : State) (q : BitVec 16) (v : BitVec 32) (job : Option Nat) (hs : Memory.wf s.mem = true) :
    Memory.wf (State.bellTail s q v job).mem = true := by
  unfold State.bellTail; (repeat' split) <;> (try simp +contextual (maxDischargeDepth := 60) [*])
@[simp] theorem State.bellHead_wf (s : State) (q : BitVec 16) (v : BitVec 32) (hs : Memory.wf s.mem = true) :
    Memory.wf (State.bellHead s q v).mem = true := by
  unfold State.bellHead; simp +contextual (maxDischargeDepth := 60) [*]
@[simp] theorem State.bellStore_wf (s : State) (bid : BitVec 12) (q : BitVec 16) (form : DbForm) (v : W64) (job : Option Nat) (hs : Memory.wf s.mem = true) :
    Memory.wf (State.bellStore s bid q form v job).1.mem = true := by
  unfold State.bellStore; (repeat' split) <;> (try simp +contextual (maxDischargeDepth := 60) [*])
@[simp] theorem execDoorbellStore_wf (bid : BitVec 12) (q : BitVec 16) (form : DbForm) (v : W64) (s : State) (hs : Memory.wf s.mem = true) :
    OutWf (execDoorbellStore bid q form v s) := by
  unfold execDoorbellStore; simp +contextual (maxDischargeDepth := 60) [*]
@[simp] theorem execDoorbellLoad_wf (bid : BitVec 12) (q : BitVec 16) (form : DbForm) (s : State) (hs : Memory.wf s.mem = true) :
    OutWf (execDoorbellLoad bid q form s) := by
  unfold execDoorbellLoad; (repeat' split) <;> (try simp +contextual (maxDischargeDepth := 60) [*])
@[simp] theorem State.fetchRead_wf (s : State) (q : BitVec 16) (hs : Memory.wf s.mem = true) :
    Memory.wf (State.fetchRead s q).mem = true := by
  unfold State.fetchRead; dsimp only; (repeat' split) <;> (try simp +contextual (maxDischargeDepth := 60) [*])
@[simp] theorem State.storeOrdered_wf (s : State) (q : BitVec 16) (now : Bool) (hs : Memory.wf s.mem = true) :
    Memory.wf (State.storeOrdered s q now).mem = true := by
  unfold State.storeOrdered; dsimp only; (repeat' split) <;> (try simp +contextual (maxDischargeDepth := 60) [*])
@[simp] theorem State.fetchOne_wf (s : State) (q : BitVec 16) (now : Bool) (hs : Memory.wf s.mem = true) :
    Memory.wf (State.fetchOne s q now).mem = true := by
  unfold State.fetchOne; simp +contextual (maxDischargeDepth := 60) [*]
@[simp] theorem execEntryFetch_wf (q : BitVec 16) (s : State) (hs : Memory.wf s.mem = true) :
    OutWf (execEntryFetch q s) := by
  unfold execEntryFetch; simp +contextual (maxDischargeDepth := 60) [*]
@[simp] theorem State.fetchUpTo_wf (u1 : Nat) (u2 : State) (u3 : BitVec 16) (u4 : BitVec 32) (hu2 : Memory.wf u2.mem = true) :
    Memory.wf (State.fetchUpTo u1 u2 u3 u4).mem = true := by
  fun_induction State.fetchUpTo <;> simp_all +zetaDelta
@[simp] theorem qctlWrite_wf (q : BitVec 16) (v : BitVec 32) (s : State) (hs : Memory.wf s.mem = true) :
    Memory.wf (qctlWrite q v s).mem = true := by
  unfold qctlWrite; (repeat' split) <;> (try simp +contextual (maxDischargeDepth := 60) [*])
@[simp] theorem execQmQctlWrite_wf (q : BitVec 16) (v : BitVec 32) (s : State) (hs : Memory.wf s.mem = true) :
    OutWf (execQmQctlWrite q v s) := by
  unfold execQmQctlWrite; simp +contextual (maxDischargeDepth := 60) [*]
@[simp] theorem admGo_wf (s : State) (hs : Memory.wf s.mem = true) :
    Memory.wf (admGo s).mem = true := by
  unfold admGo; dsimp only; (repeat' split) <;> (try simp +contextual (maxDischargeDepth := 60) [*])
@[simp] theorem execAdminDirectGo_wf (s : State) (hs : Memory.wf s.mem = true) :
    OutWf (execAdminDirectGo s) := by
  unfold execAdminDirectGo; simp +contextual (maxDischargeDepth := 60) [*]
@[simp] theorem State.admDone_wf (s : State) (src : AdmSrc) (e : Item) (st : BitVec 16) (res : W64) (hs : Memory.wf s.mem = true) :
    Memory.wf (State.admDone s src e st res).mem = true := by
  have key : ∀ t : State, Memory.wf t.mem = true → Memory.wf { t with admGo := false }.mem = true := fun _ h => h
  unfold State.admDone
  cases src with
  | ring => exact State.complete_wf _ _ _ _ _ hs
  | direct => exact key _ (State.setReg_wf _ _ _ (State.setReg_wf _ _ _ hs))
@[simp] theorem adminCmd_wf (op : Nat) (src : AdmSrc) (body : Item → State → State) (s : State) (hbody : ∀ (y0 : Item) (y1 : State), Memory.wf y1.mem = true → Memory.wf (body y0 y1).mem = true) (hs : Memory.wf s.mem = true) :
    Memory.wf (adminCmd op src body s).mem = true := by
  unfold adminCmd; (repeat' split) <;> (try simp +contextual (maxDischargeDepth := 60) [*])
@[simp] theorem admin_wf (op : Nat) (src : AdmSrc) (tests : Item → State → List (Bool × BitVec 16)) (eff : Item → State → State × W64) (s : State) (heff : ∀ (y0 : Item) (y1 : State), Memory.wf y1.mem = true → Memory.wf (eff y0 y1).1.mem = true) (hs : Memory.wf s.mem = true) :
    Memory.wf (admin op src tests eff s).mem = true := by
  unfold admin
  refine adminCmd_wf _ _ _ _ (fun e s hs => ?_) hs
  split
  · exact State.admDone_wf _ _ _ _ _ hs
  · exact State.admDone_wf _ _ _ _ _ (heff _ _ hs)
@[simp] theorem execCreateBooth_wf (src : AdmSrc) (s : State) (hs : Memory.wf s.mem = true) :
    OutWf (execCreateBooth src s) := by
  unfold execCreateBooth; simp +contextual (maxDischargeDepth := 60) [*]
@[simp] theorem execDestroyBooth_wf (src : AdmSrc) (s : State) (hs : Memory.wf s.mem = true) :
    OutWf (execDestroyBooth src s) := by
  unfold execDestroyBooth; simp +contextual (maxDischargeDepth := 60) [*]
@[simp] theorem State.resetBooth_wf (s : State) (b : BitVec 12) (hs : Memory.wf s.mem = true) :
    Memory.wf (State.resetBooth s b).1.mem = true := by
  unfold State.resetBooth; simp +contextual (maxDischargeDepth := 60) [*]
@[simp] theorem execResetBooth_wf (src : AdmSrc) (s : State) (hs : Memory.wf s.mem = true) :
    OutWf (execResetBooth src s) := by
  unfold execResetBooth
  refine adminCmd_wf _ _ _ _ (fun e s hs => ?_) hs
  (repeat' split)
  · exact State.admDone_wf _ _ _ _ _ hs
  · exact State.admDone_wf _ _ _ _ _ (State.resetBooth_wf _ _ hs)
  · exact hs
@[simp] theorem execResetBoothDiscard_wf (s : State) (hs : Memory.wf s.mem = true) :
    OutWf (execResetBoothDiscard s) := by
  unfold execResetBoothDiscard; (repeat' split) <;> (try simp +contextual (maxDischargeDepth := 60) [*])
@[simp] theorem State.addQueue_wf (s : State) (q : BitVec 16) (x : Queue) (hs : Memory.wf s.mem = true) :
    Memory.wf (State.addQueue s q x).mem = true := by
  unfold State.addQueue; simp +contextual (maxDischargeDepth := 60) [*]
@[simp] theorem execCreateQueue_wf (src : AdmSrc) (s : State) (hs : Memory.wf s.mem = true) :
    OutWf (execCreateQueue src s) := by
  unfold execCreateQueue; simp +contextual (maxDischargeDepth := 60) [*]
@[simp] theorem execDestroyQueue_wf (src : AdmSrc) (s : State) (hs : Memory.wf s.mem = true) :
    OutWf (execDestroyQueue src s) := by
  unfold execDestroyQueue; simp +contextual (maxDischargeDepth := 60) [*]
@[simp] theorem execSetWindow_wf (src : AdmSrc) (s : State) (hs : Memory.wf s.mem = true) :
    OutWf (execSetWindow src s) := by
  unfold execSetWindow; simp +contextual (maxDischargeDepth := 60) [*]
@[simp] theorem execClearWindow_wf (src : AdmSrc) (s : State) (hs : Memory.wf s.mem = true) :
    OutWf (execClearWindow src s) := by
  unfold execClearWindow; simp +contextual (maxDischargeDepth := 60) [*]
@[simp] theorem execSetQuota_wf (src : AdmSrc) (s : State) (hs : Memory.wf s.mem = true) :
    OutWf (execSetQuota src s) := by
  unfold execSetQuota; simp +contextual (maxDischargeDepth := 60) [*]
@[simp] theorem execSetShare_wf (src : AdmSrc) (s : State) (hs : Memory.wf s.mem = true) :
    OutWf (execSetShare src s) := by
  unfold execSetShare; simp +contextual (maxDischargeDepth := 60) [*]
@[simp] theorem State.admitBooth_wf (s : State) (u : Nat) (bid : BitVec 12) (hs : Memory.wf s.mem = true) :
    Memory.wf (State.admitBooth s u bid).mem = true := by
  unfold State.admitBooth; simp +contextual (maxDischargeDepth := 60) [*]
@[simp] theorem State.startJob_wf (s : State) (e : Item) (sl : Nat) (cs : List Nat) (o : List ((Nat × Nat) × Nat)) (i : List ((Nat × Nat) × Nat)) (hs : Memory.wf s.mem = true) :
    Memory.wf (State.startJob s e sl cs o i).mem = true := by
  unfold State.startJob; simp +contextual (maxDischargeDepth := 60) [*]
@[simp] theorem execRunPipe_wf (q : BitVec 16) (s : State) (hs : Memory.wf s.mem = true) :
    OutWf (execRunPipe q s) := by
  unfold execRunPipe
  refine (OutWf_next _).2 (State.frontTest_wf _ _ (dispatch_wf _ _ _ _ _ _ (fun e s hs => ?_) hs))
  split
  · exact State.complete_wf _ _ _ _ _ hs
  · split
    · exact hs
    · exact State.startJob_wf _ _ _ _ _ _ hs
@[simp] theorem State.setLink_wf (s : State) (j : Nat) (k : Nat) (l : SLink) (hs : Memory.wf s.mem = true) :
    Memory.wf (State.setLink s j k l).mem = true := by
  unfold State.setLink; simp +contextual (maxDischargeDepth := 60) [*]
@[simp] theorem State.sendFlit_wf (s : State) (j : Nat) (k : Nat) (f : Flit) (hs : Memory.wf s.mem = true) :
    Memory.wf (State.sendFlit s j k f).mem = true := by
  unfold State.sendFlit; simp +contextual (maxDischargeDepth := 60) [*]
@[simp] theorem State.takeFlit_wf (s : State) (j : Nat) (k : Nat) (hs : Memory.wf s.mem = true) :
    Memory.wf (State.takeFlit s j k).1.mem = true := by
  unfold State.takeFlit; dsimp only; (repeat' split) <;> (try simp +contextual (maxDischargeDepth := 60) [*])
@[simp] theorem State.recvFlit_wf (s : State) (x : Nat) (rd : Reg5) (dst : Option (Nat × Attr)) (vb : Nat) (f : Flit) (hs : Memory.wf s.mem = true) :
    Memory.wf (State.recvFlit s x rd dst vb f).mem = true := by
  unfold State.recvFlit; (repeat' split) <;> (try simp +contextual (maxDischargeDepth := 60) [*])
@[simp] theorem State.unblock_wf (s : State) (x : Nat) (hs : Memory.wf s.mem = true) :
    Memory.wf (State.unblock s x).mem = true := by
  unfold State.unblock; simp +contextual (maxDischargeDepth := 60) [*]
@[simp] theorem execFlitDelivery_wf (sl : Fin 8) (e : Fin 16) (port : Fin 4) (s : State) (hs : Memory.wf s.mem = true) :
    OutWf (execFlitDelivery sl e port s) := by
  unfold execFlitDelivery; dsimp only; (repeat' split) <;> (try simp +contextual (maxDischargeDepth := 60) [*])
@[simp] theorem execCreditReturn_wf (sl : Fin 8) (e : Fin 16) (port : Fin 4) (s : State) (hs : Memory.wf s.mem = true) :
    OutWf (execCreditReturn sl e port s) := by
  unfold execCreditReturn; dsimp only; (repeat' split) <;> (try simp +contextual (maxDischargeDepth := 60) [*])
@[simp] theorem execTimeLimitExpiry_wf (sl : Fin 8) (e : Fin 16) (c : Fin 16) (s : State) (hs : Memory.wf s.mem = true) :
    OutWf (execTimeLimitExpiry sl e c s) := by
  unfold execTimeLimitExpiry; dsimp only; (repeat' split) <;> (try simp +contextual (maxDischargeDepth := 60) [*])
@[simp] theorem State.freeCtx_wf (s : State) (x : Nat) (hs : Memory.wf s.mem = true) :
    Memory.wf (State.freeCtx s x).mem = true := by
  unfold State.freeCtx; simp +contextual (maxDischargeDepth := 60) [*]
@[simp] theorem execJobCompletion_wf (sl : Fin 8) (e : Fin 16) (c : Fin 16) (s : State) (hs : Memory.wf s.mem = true) :
    OutWf (execJobCompletion sl e c s) := by
  unfold execJobCompletion; simp +contextual (maxDischargeDepth := 60) [*]
@[simp] theorem State.terminalStore_wf (s : State) (t : Terminal) (hs : Memory.wf s.mem = true) :
    Memory.wf (State.terminalStore s t).mem = true := by
  unfold State.terminalStore; simp +contextual (maxDischargeDepth := 60) [*]
@[simp] theorem execTerminal_wf (s : State) (hs : Memory.wf s.mem = true) :
    OutWf (execTerminal s) := by
  unfold execTerminal; (repeat' split) <;> (try simp +contextual (maxDischargeDepth := 60) [*])
@[simp] theorem State.discardEntry_wf (s : State) (e : Option Item) (st : BitVec 16) (hs : Memory.wf s.mem = true) :
    Memory.wf (State.discardEntry s e st).mem = true := by
  unfold State.discardEntry; (repeat' split) <;> (try simp +contextual (maxDischargeDepth := 60) [*])
@[simp] theorem State.release_wf (s : State) (f : BitVec 16) (hs : Memory.wf s.mem = true) :
    Memory.wf (State.release s f).mem = true := by
  unfold State.release; dsimp only; (repeat' split) <;> (try simp +contextual (maxDischargeDepth := 60) [*])
@[simp] theorem execItemRelease_wf (s : State) (hs : Memory.wf s.mem = true) :
    OutWf (execItemRelease s) := by
  unfold execItemRelease; (repeat' split) <;> (try simp +contextual (maxDischargeDepth := 60) [*])
@[simp] theorem State.domRes_wf (s : State) (st : BitVec 16) (hs : Memory.wf s.mem = true) :
    Memory.wf (State.domRes s st).mem = true := by
  unfold State.domRes; simp +contextual (maxDischargeDepth := 60) [*]
@[simp] theorem domSkip_wf (f : BitVec 16) (sq : BitVec 32) (s : State) (hs : Memory.wf s.mem = true) :
    Memory.wf (domSkip f sq s).mem = true := by
  unfold domSkip; simp +contextual (maxDischargeDepth := 60) [*]
@[simp] theorem execSkip_wf (f : BitVec 16) (sq : BitVec 32) (s : State) (hs : Memory.wf s.mem = true) :
    OutWf (execSkip f sq s) := by
  unfold execSkip; simp +contextual (maxDischargeDepth := 60) [*]
@[simp] theorem domFlush_wf (f : BitVec 16) (s : State) (hs : Memory.wf s.mem = true) :
    Memory.wf (domFlush f s).mem = true := by
  unfold domFlush; simp +contextual (maxDischargeDepth := 60) [*]
@[simp] theorem execDomFlush_wf (f : BitVec 16) (s : State) (hs : Memory.wf s.mem = true) :
    OutWf (execDomFlush f s) := by
  unfold execDomFlush; simp +contextual (maxDischargeDepth := 60) [*]
@[simp] theorem execStallDetect_wf (f : BitVec 16) (s : State) (hs : Memory.wf s.mem = true) :
    OutWf (execStallDetect f s) := by
  unfold execStallDetect; simp +contextual (maxDischargeDepth := 60) [*]
@[simp] theorem flowCfgWrite_wf (f : BitVec 16) (v : W64) (s : State) (hs : Memory.wf s.mem = true) :
    Memory.wf (flowCfgWrite f v s).mem = true := by
  unfold flowCfgWrite; simp +contextual (maxDischargeDepth := 60) [*]
@[simp] theorem execFlowCfgWrite_wf (f : BitVec 16) (v : W64) (s : State) (hs : Memory.wf s.mem = true) :
    OutWf (execFlowCfgWrite f v s) := by
  unfold execFlowCfgWrite; simp +contextual (maxDischargeDepth := 60) [*]
@[simp] theorem State.extendMeas_wf (s : State) (i : Nat) (d : List Byte) (hs : Memory.wf s.mem = true) :
    Memory.wf (State.extendMeas s i d).mem = true := by
  unfold State.extendMeas; simp +contextual (maxDischargeDepth := 60) [*]
@[simp] theorem mboxSend_wf (v : W64) (s : State) (hs : Memory.wf s.mem = true) :
    Memory.wf (mboxSend v s).mem = true := by
  unfold mboxSend; simp +contextual (maxDischargeDepth := 60) [*]
@[simp] theorem execMboxSend_wf (v : W64) (s : State) (hs : Memory.wf s.mem = true) :
    OutWf (execMboxSend v s) := by
  unfold execMboxSend; simp +contextual (maxDischargeDepth := 60) [*]
@[simp] theorem State.mboxEffect_wf (s : State) (hs : Memory.wf s.mem = true) :
    Memory.wf (State.mboxEffect s).mem = true := by
  unfold State.mboxEffect; simp +contextual (maxDischargeDepth := 60) [*]
@[simp] theorem State.mboxPost_wf (s : State) (words : List W64) (hs : Memory.wf s.mem = true) :
    Memory.wf (State.mboxPost s words).mem = true := by
  unfold State.mboxPost; simp +contextual (maxDischargeDepth := 60) [*]
@[simp] theorem execMboxPost_wf (words : List W64) (s : State) (hs : Memory.wf s.mem = true) :
    OutWf (execMboxPost words s) := by
  unfold execMboxPost; simp +contextual (maxDischargeDepth := 60) [*]
@[simp] theorem execAttestationRequest_wf (nonce : BitVec 256) (s : State) (hs : Memory.wf s.mem = true) :
    OutWf (execAttestationRequest nonce s) := by
  unfold execAttestationRequest; simp +contextual (maxDischargeDepth := 60) [*]
@[simp] theorem execTelemetrySample_wf (s : State) (hs : Memory.wf s.mem = true) :
    OutWf (execTelemetrySample s) := by
  unfold execTelemetrySample; simp +contextual (maxDischargeDepth := 60) [*]
@[simp] theorem execFirmwareUpdate_wf (version : W64) (image : List Byte) (sigOk : Bool) (s : State) (hs : Memory.wf s.mem = true) :
    OutWf (execFirmwareUpdate version image sigOk s) := by
  unfold execFirmwareUpdate; simp +contextual (maxDischargeDepth := 60) [*]
@[simp] theorem execFirmwareCommit_wf (s : State) (hs : Memory.wf s.mem = true) :
    OutWf (execFirmwareCommit s) := by
  unfold execFirmwareCommit; simp +contextual (maxDischargeDepth := 60) [*]
@[simp] theorem State.setSclk_wf (s : State) (n : Nat) (hs : Memory.wf s.mem = true) :
    Memory.wf (State.setSclk s n).mem = true := by
  unfold State.setSclk; simp +contextual (maxDischargeDepth := 60) [*]
@[simp] theorem State.beginEpoch_wf (s : State) (m : Nat) (hs : Memory.wf s.mem = true) :
    Memory.wf (State.beginEpoch s m).mem = true := by
  unfold State.beginEpoch; simp +contextual (maxDischargeDepth := 60) [*]
@[simp] theorem State.forceFor_wf (s : State) (m : Nat) (hs : Memory.wf s.mem = true) :
    Memory.wf (State.forceFor s m).mem = true := by
  unfold State.forceFor; simp +contextual (maxDischargeDepth := 60) [*]
@[simp] theorem State.modeResult_wf (s : State) (st : BitVec 16) (hs : Memory.wf s.mem = true) :
    Memory.wf (State.modeResult s st).mem = true := by
  unfold State.modeResult; simp +contextual (maxDischargeDepth := 60) [*]
@[simp] theorem modeRequest_wf (src : Bool) (m : Nat) (s : State) (hs : Memory.wf s.mem = true) :
    Memory.wf (modeRequest src m s).mem = true := by
  unfold modeRequest; simp +contextual (maxDischargeDepth := 60) [*]
@[simp] theorem execModeRequest_wf (m : BitVec 3) (s : State) (hs : Memory.wf s.mem = true) :
    OutWf (execModeRequest m s) := by
  unfold execModeRequest; simp +contextual (maxDischargeDepth := 60) [*]
@[simp] theorem execStagehandModeRequest_wf (m : BitVec 3) (s : State) (hs : Memory.wf s.mem = true) :
    OutWf (execStagehandModeRequest m s) := by
  unfold execStagehandModeRequest; simp +contextual (maxDischargeDepth := 60) [*]
@[simp] theorem State.sealEngine_wf (s : State) (u : Nat) (hs : Memory.wf s.mem = true) :
    Memory.wf (State.sealEngine s u).mem = true := by
  unfold State.sealEngine; simp +contextual (maxDischargeDepth := 60) [*]
@[simp] theorem State.applyUnit_wf (s : State) (u : Nat) (target : Nat) (hs : Memory.wf s.mem = true) :
    Memory.wf (State.applyUnit s u target).mem = true := by
  unfold State.applyUnit; simp +contextual (maxDischargeDepth := 60) [*]
@[simp] theorem State.almAfter_wf (s : State) (hs : Memory.wf s.mem = true) :
    Memory.wf (State.almAfter s).mem = true := by
  unfold State.almAfter; simp +contextual (maxDischargeDepth := 60) [*]
@[simp] theorem State.endEpoch_wf (s : State) (hs : Memory.wf s.mem = true) :
    Memory.wf (State.endEpoch s).mem = true := by
  unfold State.endEpoch; simp +contextual (maxDischargeDepth := 60) [*]
@[simp] theorem execUnitApply_wf (u : Fin 17) (s : State) (hs : Memory.wf s.mem = true) :
    OutWf (execUnitApply u s) := by
  unfold execUnitApply; simp +contextual (maxDischargeDepth := 60) [*]
@[simp] theorem execEpochTimeout_wf (s : State) (hs : Memory.wf s.mem = true) :
    OutWf (execEpochTimeout s) := by
  unfold execEpochTimeout; simp +contextual (maxDischargeDepth := 60) [*]
@[simp] theorem oeCfgWrite_wf (u : Nat) (v : W64) (s : State) (hs : Memory.wf s.mem = true) :
    Memory.wf (oeCfgWrite u v s).mem = true := by
  unfold oeCfgWrite; simp +contextual (maxDischargeDepth := 60) [*]
@[simp] theorem l1Invalidate_wf (u : Nat) (s : State) (hs : Memory.wf s.mem = true) :
    Memory.wf (l1Invalidate u s).mem = true := by
  unfold l1Invalidate; simp +contextual (maxDischargeDepth := 60) [*]
@[simp] theorem l1dDisable_wf (u : Nat) (s : State) (hs : Memory.wf s.mem = true) :
    Memory.wf (l1dDisable u s).mem = true := by
  unfold l1dDisable; simp +contextual (maxDischargeDepth := 60) [*]
@[simp] theorem sideBufferDisable_wf (u : Nat) (s : State) (hs : Memory.wf s.mem = true) :
    Memory.wf (sideBufferDisable u s).mem = true := by
  unfold sideBufferDisable; simp +contextual (maxDischargeDepth := 60) [*]
@[simp] theorem oeL1CtlWrite_wf (u : Nat) (v : W64) (s : State) (hs : Memory.wf s.mem = true) :
    Memory.wf (oeL1CtlWrite u v s).mem = true := by
  unfold oeL1CtlWrite; simp +contextual (maxDischargeDepth := 60) [*]
@[simp] theorem execOeCfgWrite_wf (sl : Fin 8) (e : Fin 16) (v : W64) (s : State) (hs : Memory.wf s.mem = true) :
    OutWf (execOeCfgWrite sl e v s) := by
  unfold execOeCfgWrite; simp +contextual (maxDischargeDepth := 60) [*]
@[simp] theorem execL1Invalidate_wf (sl : Fin 8) (e : Fin 16) (s : State) (hs : Memory.wf s.mem = true) :
    OutWf (execL1Invalidate sl e s) := by
  unfold execL1Invalidate; simp +contextual (maxDischargeDepth := 60) [*]
@[simp] theorem execL1dDisable_wf (sl : Fin 8) (e : Fin 16) (s : State) (hs : Memory.wf s.mem = true) :
    OutWf (execL1dDisable sl e s) := by
  unfold execL1dDisable; simp +contextual (maxDischargeDepth := 60) [*]
@[simp] theorem execSideBufferDisable_wf (sl : Fin 8) (e : Fin 16) (s : State) (hs : Memory.wf s.mem = true) :
    OutWf (execSideBufferDisable sl e s) := by
  unfold execSideBufferDisable; simp +contextual (maxDischargeDepth := 60) [*]
@[simp] theorem l2Disable_wf (d : Nat) (s : State) (hs : Memory.wf s.mem = true) :
    Memory.wf (l2Disable d s).mem = true := by
  unfold l2Disable; simp +contextual (maxDischargeDepth := 60) [*]
@[simp] theorem l2Enable_wf (d : Nat) (s : State) (hs : Memory.wf s.mem = true) :
    Memory.wf (l2Enable d s).mem = true := by
  unfold l2Enable; simp +contextual (maxDischargeDepth := 60) [*]
@[simp] theorem l2LockWrite_wf (d : Nat) (v : BitVec 32) (s : State) (hs : Memory.wf s.mem = true) :
    Memory.wf (l2LockWrite d v s).mem = true := by
  unfold l2LockWrite; simp +contextual (maxDischargeDepth := 60) [*]
@[simp] theorem execL2Disable_wf (d : Fin 9) (s : State) (hs : Memory.wf s.mem = true) :
    OutWf (execL2Disable d s) := by
  unfold execL2Disable; simp +contextual (maxDischargeDepth := 60) [*]
@[simp] theorem execL2Enable_wf (d : Fin 9) (s : State) (hs : Memory.wf s.mem = true) :
    OutWf (execL2Enable d s) := by
  unfold execL2Enable; simp +contextual (maxDischargeDepth := 60) [*]
@[simp] theorem execL2LockWrite_wf (d : Fin 9) (v : BitVec 32) (s : State) (hs : Memory.wf s.mem = true) :
    OutWf (execL2LockWrite d v s) := by
  unfold execL2LockWrite; simp +contextual (maxDischargeDepth := 60) [*]
@[simp] theorem State.mopRange_wf (s : State) (m : Mop) (d : Nat) (late : List Nat) (hs : Memory.wf s.mem = true) :
    Memory.wf (State.mopRange s m d late).mem = true := by
  unfold State.mopRange; simp +contextual (maxDischargeDepth := 60) [*]
@[simp] theorem State.mopStart_wf (s : State) (d : Nat) (op : Nat) (way : Nat) (set : Nat) (body : List Nat → State → State) (hs : Memory.wf s.mem = true) (hbody : ∀ (l : List Nat) (y0 : State), Memory.wf y0.mem = true → Memory.wf (body l y0).mem = true) :
    Memory.wf (State.mopStart s d op way set body).mem = true := by
  unfold State.mopStart; simp +contextual (maxDischargeDepth := 60) [*]
@[simp] theorem State.mopLock_wf (s : State) (d : Nat) (way : Nat) (late : List Nat) (hs : Memory.wf s.mem = true) :
    Memory.wf (State.mopLock s d way late).mem = true := by
  unfold State.mopLock; simp +contextual (maxDischargeDepth := 60) [*]
@[simp] theorem mopGo_wf (d : Nat) (op : Nat) (way : Nat) (set : Nat) (s : State) (hs : Memory.wf s.mem = true) :
    Memory.wf (mopGo d op way set s).mem = true := by
  unfold mopGo; (repeat' split) <;> (try simp +contextual (maxDischargeDepth := 60) [*])
@[simp] theorem mopCmdWrite_wf (d : Nat) (v : W64) (s : State) (hs : Memory.wf s.mem = true) :
    Memory.wf (mopCmdWrite d v s).mem = true := by
  unfold mopCmdWrite; simp +contextual (maxDischargeDepth := 60) [*]
@[simp] theorem execL2MopClnR_wf (d : Fin 9) (s : State) (hs : Memory.wf s.mem = true) :
    OutWf (execL2MopClnR d s) := by
  unfold execL2MopClnR; simp +contextual (maxDischargeDepth := 60) [*]
@[simp] theorem execL2MopInvR_wf (d : Fin 9) (s : State) (hs : Memory.wf s.mem = true) :
    OutWf (execL2MopInvR d s) := by
  unfold execL2MopInvR; simp +contextual (maxDischargeDepth := 60) [*]
@[simp] theorem execL2MopCliR_wf (d : Fin 9) (s : State) (hs : Memory.wf s.mem = true) :
    OutWf (execL2MopCliR d s) := by
  unfold execL2MopCliR; simp +contextual (maxDischargeDepth := 60) [*]
@[simp] theorem execL2MopClnAll_wf (d : Fin 9) (s : State) (hs : Memory.wf s.mem = true) :
    OutWf (execL2MopClnAll d s) := by
  unfold execL2MopClnAll; simp +contextual (maxDischargeDepth := 60) [*]
@[simp] theorem execL2MopInvAll_wf (d : Fin 9) (s : State) (hs : Memory.wf s.mem = true) :
    OutWf (execL2MopInvAll d s) := by
  unfold execL2MopInvAll; simp +contextual (maxDischargeDepth := 60) [*]
@[simp] theorem execL2MopCliAll_wf (d : Fin 9) (s : State) (hs : Memory.wf s.mem = true) :
    OutWf (execL2MopCliAll d s) := by
  unfold execL2MopCliAll; simp +contextual (maxDischargeDepth := 60) [*]
@[simp] theorem execL2MopClnSw_wf (d : Fin 9) (way : BitVec 4) (set : BitVec 13) (s : State) (hs : Memory.wf s.mem = true) :
    OutWf (execL2MopClnSw d way set s) := by
  unfold execL2MopClnSw; simp +contextual (maxDischargeDepth := 60) [*]
@[simp] theorem execL2MopInvSw_wf (d : Fin 9) (way : BitVec 4) (set : BitVec 13) (s : State) (hs : Memory.wf s.mem = true) :
    OutWf (execL2MopInvSw d way set s) := by
  unfold execL2MopInvSw; simp +contextual (maxDischargeDepth := 60) [*]
@[simp] theorem execL2MopCliSw_wf (d : Fin 9) (way : BitVec 4) (set : BitVec 13) (s : State) (hs : Memory.wf s.mem = true) :
    OutWf (execL2MopCliSw d way set s) := by
  unfold execL2MopCliSw; simp +contextual (maxDischargeDepth := 60) [*]
@[simp] theorem execL2MopLockfill_wf (d : Fin 9) (way : BitVec 4) (s : State) (hs : Memory.wf s.mem = true) :
    OutWf (execL2MopLockfill d way s) := by
  unfold execL2MopLockfill; simp +contextual (maxDischargeDepth := 60) [*]
@[simp] theorem execL2MopComplete_wf (d : Fin 9) (s : State) (hs : Memory.wf s.mem = true) :
    OutWf (execL2MopComplete d s) := by
  unfold execL2MopComplete; simp +contextual (maxDischargeDepth := 60) [*]

end Sys2Proof.Machine
end

