-- ==== Sys2Proof/Laws/KeepStream.lean ====
section
/-! SUPPORT. Sys2Proof/Laws/KeepStream.lean: the memory keeps its canonical form under streams, tables, links, movers and frames. -/

namespace Sys2Proof.Machine

@[simp] theorem State.czFail_wf (s : State) (e : Item) (st : BitVec 16) (hs : Memory.wf s.mem = true) :
    Memory.wf (State.czFail s e st).mem = true := by
  unfold State.czFail; simp +contextual (maxDischargeDepth := 60) [*]
@[simp] theorem State.czOk_wf (s : State) (e : Item) (out : List Byte) (used : Nat) (c : Option CzCtx) (hs : Memory.wf s.mem = true) :
    Memory.wf (State.czOk s e out used c).mem = true := by
  unfold State.czOk; dsimp only; (repeat' split) <;> (try simp +contextual (maxDischargeDepth := 60) [*])
@[simp] theorem State.czCompress_wf (s : State) (e : Item) (single : Bool) (fmt : Nat) (level : Nat) (c : CzCtx) (hs : Memory.wf s.mem = true) :
    Memory.wf (State.czCompress s e single fmt level c).mem = true := by
  unfold State.czCompress; dsimp only; (repeat' split) <;> (try simp +contextual (maxDischargeDepth := 60) [*])
@[simp] theorem State.czStream_wf (s : State) (e : Item) (c : CzCtx) (hs : Memory.wf s.mem = true) :
    Memory.wf (State.czStream s e c).mem = true := by
  unfold State.czStream; dsimp only; (repeat' split) <;> (try simp +contextual (maxDischargeDepth := 60) [*])
@[simp] theorem State.czSingleShot_wf (s : State) (e : Item) (fmt : Nat) (hs : Memory.wf s.mem = true) :
    Memory.wf (State.czSingleShot s e fmt).mem = true := by
  unfold State.czSingleShot; dsimp only; (repeat' split) <;> (try simp +contextual (maxDischargeDepth := 60) [*])
@[simp] theorem State.czRun_wf (s : State) (e : Item) (hs : Memory.wf s.mem = true) :
    Memory.wf (State.czRun s e).mem = true := by
  unfold State.czRun; dsimp only; (repeat' split) <;> (try simp +contextual (maxDischargeDepth := 60) [*])
@[simp] theorem State.czStart_wf (s : State) (u : Nat) (e : Item) (hs : Memory.wf s.mem = true) :
    Memory.wf (State.czStart s u e).mem = true := by
  unfold State.czStart; simp +contextual (maxDischargeDepth := 60) [*]
@[simp] theorem State.czGo_wf (u1 : Nat) (u2 : State) (hu2 : Memory.wf u2.mem = true) :
    Memory.wf (State.czGo u1 u2).mem = true := by
  fun_induction State.czGo <;> simp_all +zetaDelta
@[simp] theorem execCompressionJobEnd_wf (u : Fin 4) (s : State) (hs : Memory.wf s.mem = true) :
    OutWf (execCompressionJobEnd u s) := by
  unfold execCompressionJobEnd; (repeat' split) <;> (try simp +contextual (maxDischargeDepth := 60) [*])
@[simp] theorem State.czJob_wf (s : State) (e : Item) (hs : Memory.wf s.mem = true) :
    Memory.wf (State.czJob s e).mem = true := by
  unfold State.czJob; (repeat' split) <;> (try simp +contextual (maxDischargeDepth := 60) [*])
@[simp] theorem execCompress_wf (q : BitVec 16) (s : State) (hs : Memory.wf s.mem = true) :
    OutWf (execCompress q s) := by
  unfold execCompress; simp +contextual (maxDischargeDepth := 60) [*]
@[simp] theorem execDecompress_wf (q : BitVec 16) (s : State) (hs : Memory.wf s.mem = true) :
    OutWf (execDecompress q s) := by
  unfold execDecompress; simp +contextual (maxDischargeDepth := 60) [*]
@[simp] theorem State.czOpen_wf (s : State) (e : Item) (hs : Memory.wf s.mem = true) :
    Memory.wf (State.czOpen s e).mem = true := by
  unfold State.czOpen; dsimp only; (repeat' split) <;> (try simp +contextual (maxDischargeDepth := 60) [*])
@[simp] theorem execOpenCz_wf (q : BitVec 16) (s : State) (hs : Memory.wf s.mem = true) :
    OutWf (execOpenCz q s) := by
  unfold execOpenCz; simp +contextual (maxDischargeDepth := 60) [*]
@[simp] theorem State.czClose_wf (s : State) (e : Item) (hs : Memory.wf s.mem = true) :
    Memory.wf (State.czClose s e).mem = true := by
  unfold State.czClose; dsimp only; (repeat' split) <;> (try simp +contextual (maxDischargeDepth := 60) [*])
@[simp] theorem execClose_wf (q : BitVec 16) (s : State) (hs : Memory.wf s.mem = true) :
    OutWf (execClose q s) := by
  unfold execClose; simp +contextual (maxDischargeDepth := 60) [*]
@[simp] theorem State.dgUse_wf (s : State) (n : Nat) (hs : Memory.wf s.mem = true) :
    Memory.wf (State.dgUse s n).mem = true := by
  unfold State.dgUse; simp +contextual (maxDischargeDepth := 60) [*]
@[simp] theorem State.dgSpill_wf (s : State) (n : Nat) (hs : Memory.wf s.mem = true) :
    Memory.wf (State.dgSpill s n).mem = true := by
  unfold State.dgSpill
  exact State.busWrite_wf _ _ _ (State.setDg_wf _ _ _ (State.fresh_wf _ hs))
@[simp] theorem State.dgTouch_wf (s : State) (n : Nat) (hs : Memory.wf s.mem = true) :
    ∀ t, (State.dgTouch s n) = some t → Memory.wf t.mem = true := by
  unfold State.dgTouch; (repeat' split) <;> (try simp +contextual (maxDischargeDepth := 60) [*])
@[simp] theorem State.uncount_wf (s : State) (q : BitVec 16) (hs : Memory.wf s.mem = true) :
    Memory.wf (State.uncount s q).mem = true := by
  unfold State.uncount; simp +contextual (maxDischargeDepth := 60) [*]
@[simp] theorem State.dgDrop_wf (s : State) (n : Nat) (i : Nat) (hs : Memory.wf s.mem = true) :
    Memory.wf (State.dgDrop s n i).mem = true := by
  unfold State.dgDrop; simp +contextual (maxDischargeDepth := 60) [*]
@[simp] theorem State.dgRollback_wf (s : State) (n : Nat) (i : Nat) (hs : Memory.wf s.mem = true) :
    Memory.wf (State.dgRollback s n i).mem = true := by
  unfold State.dgRollback; dsimp only; (repeat' split) <;> (try simp +contextual (maxDischargeDepth := 60) [*])
@[simp] theorem State.dgFail_wf (s : State) (n : Nat) (i : Nat) (st : BitVec 16) (hs : Memory.wf s.mem = true) :
    Memory.wf (State.dgFail s n i st).mem = true := by
  unfold State.dgFail; (repeat' split) <;> (try simp +contextual (maxDischargeDepth := 60) [*])
@[simp] theorem State.dgEnd_wf (s : State) (n : Nat) (i : Nat) (hs : Memory.wf s.mem = true) :
    Memory.wf (State.dgEnd s n i).mem = true := by
  unfold State.dgEnd; dsimp only; (repeat' split) <;> (try simp +contextual (maxDischargeDepth := 60) [*])
@[simp] theorem State.dgHead_wf (s : State) (n : Nat) (e : Item) (hs : Memory.wf s.mem = true) :
    Memory.wf (State.dgHead s n e).mem = true := by
  unfold State.dgHead; dsimp only; (repeat' split) <;> (try simp +contextual (maxDischargeDepth := 60) [*])
@[simp] theorem State.dgSettle_wf (u1 : Nat) (u2 : State) (u3 : Nat) (hu2 : Memory.wf u2.mem = true) :
    Memory.wf (State.dgSettle u1 u2 u3).mem = true := by
  induction u1 generalizing u2 with
  | zero => exact hu2
  | succ k ih =>
    unfold State.dgSettle
    split
    · exact hu2
    · split
      · exact hu2
      · split
        · exact ih _ (State.complete_wf _ _ _ _ _ (State.dgDrop_wf _ _ _ hu2))
        · split
          · exact hu2
          · rename_i t ht
            have h := State.dgTouch_wf _ _ hu2 t ht
            split
            · exact ih _ (State.dgHead_wf _ _ _ h)
            · extract_lets c j s1
              have h1 : Memory.wf s1.mem = true := State.setDg_wf _ _ _ h
              clear_value s1
              refine ih _ ?_
              split
              · exact State.dgEnd_wf _ _ _ h1
              · exact h1
@[simp] theorem State.dgGo_wf (s : State) (n : Nat) (hs : Memory.wf s.mem = true) :
    Memory.wf (State.dgGo s n).mem = true := by
  unfold State.dgGo; simp +contextual (maxDischargeDepth := 60) [*]
@[simp] theorem State.dgFragment_wf (s : State) (n : Nat) (hs : Memory.wf s.mem = true) :
    Memory.wf (State.dgFragment s n).mem = true := by
  unfold State.dgFragment; dsimp only; (repeat' split) <;> (try simp +contextual (maxDischargeDepth := 60) [*])
@[simp] theorem execFragmentApply_wf (n : BitVec 12) (s : State) (hs : Memory.wf s.mem = true) :
    OutWf (execFragmentApply n s) := by
  unfold execFragmentApply; simp +contextual (maxDischargeDepth := 60) [*]
@[simp] theorem State.dgEnqueue_wf (s : State) (e : Item) (bad : Bool) (hs : Memory.wf s.mem = true) :
    Memory.wf (State.dgEnqueue s e bad).mem = true := by
  unfold State.dgEnqueue; (repeat' split) <;> (try simp +contextual (maxDischargeDepth := 60) [*])
@[simp] theorem State.dgAlloc_wf (s : State) (e : Item) (hs : Memory.wf s.mem = true) :
    Memory.wf (State.dgAlloc s e).mem = true := by
  unfold State.dgAlloc
  dsimp only
  split
  · simp [*]
  · refine State.complete_wf _ _ _ _ _ ?_
    cases hq : State.dgTouch _ _ with
    | none => simp [*]
    | some t => exact State.dgTouch_wf _ _ (by simp [*]) t hq
@[simp] theorem execDgAlloc_wf (q : BitVec 16) (s : State) (hs : Memory.wf s.mem = true) :
    OutWf (execDgAlloc q s) := by
  unfold execDgAlloc; simp +contextual (maxDischargeDepth := 60) [*]
@[simp] theorem execDgFree_wf (q : BitVec 16) (s : State) (hs : Memory.wf s.mem = true) :
    OutWf (execDgFree q s) := by
  unfold execDgFree; simp +contextual (maxDischargeDepth := 60) [*]
@[simp] theorem execDgUpdate_wf (q : BitVec 16) (s : State) (hs : Memory.wf s.mem = true) :
    OutWf (execDgUpdate q s) := by
  unfold execDgUpdate; simp +contextual (maxDischargeDepth := 60) [*]
@[simp] theorem execLoadState_wf (q : BitVec 16) (s : State) (hs : Memory.wf s.mem = true) :
    OutWf (execLoadState q s) := by
  unfold execLoadState; simp +contextual (maxDischargeDepth := 60) [*]
@[simp] theorem execStoreState_wf (q : BitVec 16) (s : State) (hs : Memory.wf s.mem = true) :
    OutWf (execStoreState q s) := by
  unfold execStoreState; simp +contextual (maxDischargeDepth := 60) [*]
@[simp] theorem State.netStamp_wf (s : State) (hs : Memory.wf s.mem = true) :
    Memory.wf (State.netStamp s).2.mem = true := by
  unfold State.netStamp; simp +contextual (maxDischargeDepth := 60) [*]
@[simp] theorem State.mvRing_wf (s : State) (n : Nat) (hs : Memory.wf s.mem = true) :
    Memory.wf (State.mvRing s n).1.mem = true := by
  unfold State.mvRing; dsimp only; (repeat' split) <;> (try simp +contextual (maxDischargeDepth := 60) [*])
@[simp] theorem State.mvLevel_wf (s : State) (n : Nat) (hs : Memory.wf s.mem = true) :
    Memory.wf (State.mvLevel s n).1.mem = true := by
  unfold State.mvLevel; simp +contextual (maxDischargeDepth := 60) [*]
@[simp] theorem State.mvGate_wf (s : State) (n : Nat) (hs : Memory.wf s.mem = true) :
    Memory.wf (State.mvGate s n).1.mem = true := by
  unfold State.mvGate; dsimp only; (repeat' split) <;> (try simp +contextual (maxDischargeDepth := 60) [*])
@[simp] theorem State.mvCount_wf (s : State) (n : Nat) (k : Nat) (hs : Memory.wf s.mem = true) :
    Memory.wf (State.mvCount s n k).mem = true := by
  unfold State.mvCount; simp +contextual (maxDischargeDepth := 60) [*]
@[simp] theorem State.mvPiece_wf (u1 : Nat) (u2 : State) (u3 : Nat) (u4 : Nat → Nat × Nat) (u5 : Nat) (hu2 : Memory.wf u2.mem = true) :
    Memory.wf (State.mvPiece u1 u2 u3 u4 u5).1.mem = true := by
  induction u1 generalizing u2 with
  | zero => exact hu2
  | succ k ih =>
    unfold State.mvPiece
    extract_lets m
    split
    · exact hu2
    · split
      rename_i a c he
      extract_lets z r q f w
      have hr : Memory.wf r.1.mem = true := by
        simp only [r]
        split
        · exact hu2
        · exact State.dmaRead_wf _ _ _ _ _ hu2
      clear_value r
      have hf : Memory.wf f.1.mem = true := by
        simp only [f]
        split
        · exact State.fresh_wf _ hr
        · exact hr
      clear_value f
      have hw : Memory.wf w.1.mem = true := State.dmaWrite_wf _ _ _ _ hf
      clear_value w
      split
      · exact hr
      · split
        · exact hw
        · exact ih _ (State.mvCount_wf _ _ _ hw)
@[simp] theorem State.mvStoreRd_wf (s : State) (n : Nat) (hs : Memory.wf s.mem = true) :
    Memory.wf (State.mvStoreRd s n).1.mem = true := by
  unfold State.mvStoreRd; dsimp only; (repeat' split) <;> (try simp +contextual (maxDischargeDepth := 60) [*])
@[simp] theorem State.mvDrain_wf (s : State) (n : Nat) (goal : Nat) (hs : Memory.wf s.mem = true) :
    Memory.wf (State.mvDrain s n goal).1.mem = true := by
  unfold State.mvDrain; dsimp only; (repeat' split) <;> (try simp +contextual (maxDischargeDepth := 60) [*])
@[simp] theorem State.mvEnd_wf (s : State) (n : Nat) (short : Bool) (hs : Memory.wf s.mem = true) :
    Memory.wf (State.mvEnd s n short).1.mem = true := by
  unfold State.mvEnd; dsimp only; (repeat' split) <;> (try simp +contextual (maxDischargeDepth := 60) [*])
@[simp] theorem State.mvRun_wf (u1 : Nat) (u2 : State) (u3 : Nat) (hu2 : Memory.wf u2.mem = true) :
    Memory.wf (State.mvRun u1 u2 u3).1.mem = true := by
  induction u1 generalizing u2 with
  | zero => exact hu2
  | succ k ih =>
    unfold State.mvRun
    extract_lets m count w g goal r src t
    have hw : Memory.wf w.1.mem = true := State.mvStoreRd_wf _ _ hu2
    clear_value w
    have hg : Memory.wf g.1.mem = true := by
      simp only [g]
      split
      · exact State.mvGate_wf _ _ hu2
      · exact hu2
    clear_value g
    have hr : Memory.wf r.1.mem = true := State.mvDrain_wf _ _ _ hg
    clear_value r
    have ht : Memory.wf t.1.mem = true := State.mvPiece_wf _ _ _ _ _ hg
    clear_value t
    split
    · split
      · exact hw
      · exact ih _ hw
    · split
      · exact State.mvEnd_wf _ _ _ hu2
      · split
        · exact hg
        · split
          · split
            · exact State.mvEnd_wf _ _ _ hr
            · exact hr
            · exact ih _ hr
          · split
            · exact ht
            · exact ih _ ht
@[simp] theorem State.mvLoad_wf (s : State) (n : Nat) (hs : Memory.wf s.mem = true) :
    Memory.wf (State.mvLoad s n).1.mem = true := by
  unfold State.mvLoad; dsimp only; (repeat' split) <;> (try simp +contextual (maxDischargeDepth := 60) [*])
@[simp] theorem State.mvTest_wf (s : State) (n : Nat) (start : Bool) (hs : Memory.wf s.mem = true) :
    Memory.wf (State.mvTest s n start).1.mem = true := by
  unfold State.mvTest; dsimp only; (repeat' split) <;> (try simp +contextual (maxDischargeDepth := 60) [*])
@[simp] theorem State.mvPoll_wf (s : State) (n : Nat) (hs : Memory.wf s.mem = true) :
    Memory.wf (State.mvPoll s n).1.mem = true := by
  unfold State.mvPoll; simp +contextual (maxDischargeDepth := 60) [*]
@[simp] theorem State.mvNext_wf (s : State) (n : Nat) (hs : Memory.wf s.mem = true) :
    Memory.wf (State.mvNext s n).1.mem = true := by
  unfold State.mvNext; simp +contextual (maxDischargeDepth := 60) [*]
@[simp] theorem State.mvWake_wf (s : State) (x : Nat) (hs : Memory.wf s.mem = true) :
    Memory.wf (State.mvWake s x).mem = true := by
  unfold State.mvWake; dsimp only; (repeat' split) <;> (try simp +contextual (maxDischargeDepth := 60) [*])
@[simp] theorem State.kickEnd_wf (s : State) (n : Nat) (failed : Bool) (st : BitVec 16) (dir : Bool) (hs : Memory.wf s.mem = true) :
    Memory.wf (State.kickEnd s n failed st dir).mem = true := by
  unfold State.kickEnd; simp +contextual (maxDischargeDepth := 60) [*]
@[simp] theorem State.mvgoAgain_wf (s : State) (n : Nat) (hs : Memory.wf s.mem = true) :
    Memory.wf (State.mvgoAgain s n).mem = true := by
  unfold State.mvgoAgain; simp +contextual (maxDischargeDepth := 60) [*]
@[simp] theorem State.mvHalt_wf (s : State) (n : Nat) (f : MvFail) (hs : Memory.wf s.mem = true) :
    Memory.wf (State.mvHalt s n f).mem = true := by
  unfold State.mvHalt; simp +contextual (maxDischargeDepth := 60) [*]
@[simp] theorem State.chainEnd_wf (s : State) (n : Nat) (st : BitVec 16) (hs : Memory.wf s.mem = true) :
    Memory.wf (State.chainEnd s n st).mem = true := by
  unfold State.chainEnd; dsimp only; (repeat' split) <;> (try simp +contextual (maxDischargeDepth := 60) [*])
@[simp] theorem State.mvSettle_wf (s : State) (n : Nat) (o : MvOut) (hs : Memory.wf s.mem = true) :
    Memory.wf (State.mvSettle s n o).mem = true := by
  unfold State.mvSettle
  extract_lets m q s1 t1
  have k1 : ∀ x, Memory.wf (State.mvIdle (State.kickEnd s n false 0 false) x).mem = true := fun x => State.mvIdle_wf _ _ (State.kickEnd_wf _ _ _ _ _ hs)
  have h1 : Memory.wf s1.mem = true := by
    simp only [s1]
    split
    · exact State.raise_wf _ _ hs
    · exact hs
  have h2 : Memory.wf t1.mem = true := State.setMover_wf _ _ _ hs
  clear_value s1 t1
  cases o with
  | done short =>
    dsimp only
    split
    · exact k1 _
    · split
      · exact State.chainEnd_wf _ _ _ h1
      · exact State.setMover_wf _ _ _ h1
  | stop st => exact State.chainEnd_wf _ _ _ hs
  | malformed =>
    dsimp only
    split
    · exact hs
    · exact State.haltBooth_wf _ _ _ _ _ _ (State.setQueue_wf _ _ _ h2)
  | fail _ => exact hs
  | wait => exact hs
@[simp] theorem execTransferComplete_wf (ch : Fin 288) (s : State) (hs : Memory.wf s.mem = true) :
    OutWf (execTransferComplete ch s) := by
  unfold execTransferComplete; dsimp only; (repeat' split) <;> (try simp +contextual (maxDischargeDepth := 60) [*])
@[simp] theorem execMoverHalt_wf (ch : Fin 288) (s : State) (hs : Memory.wf s.mem = true) :
    OutWf (execMoverHalt ch s) := by
  unfold execMoverHalt; dsimp only; (repeat' split) <;> (try simp +contextual (maxDischargeDepth := 60) [*])
@[simp] theorem execDescriptorStart_wf (ch : Fin 288) (s : State) (hs : Memory.wf s.mem = true) :
    OutWf (execDescriptorStart ch s) := by
  unfold execDescriptorStart; dsimp only; (repeat' split) <;> (try simp +contextual (maxDischargeDepth := 60) [*])
@[simp] theorem execGatePoll_wf (ch : Fin 288) (s : State) (hs : Memory.wf s.mem = true) :
    OutWf (execGatePoll ch s) := by
  unfold execGatePoll; dsimp only; (repeat' split) <;> (try simp +contextual (maxDischargeDepth := 60) [*])
@[simp] theorem mvGo_wf (n : Nat) (mode : Nat) (s : State) (hs : Memory.wf s.mem = true) :
    Memory.wf (mvGo n mode s).mem = true := by
  unfold mvGo; simp +contextual (maxDischargeDepth := 60) [*]
@[simp] theorem execMvGo_wf (ch : Fin 288) (mode : BitVec 2) (s : State) (hs : Memory.wf s.mem = true) :
    OutWf (execMvGo ch mode s) := by
  unfold execMvGo; simp +contextual (maxDischargeDepth := 60) [*]
@[simp] theorem mvResume_wf (n : Nat) (s : State) (hs : Memory.wf s.mem = true) :
    Memory.wf (mvResume n s).mem = true := by
  unfold mvResume; simp +contextual (maxDischargeDepth := 60) [*]
@[simp] theorem execMvResume_wf (ch : Fin 288) (s : State) (hs : Memory.wf s.mem = true) :
    OutWf (execMvResume ch s) := by
  unfold execMvResume; simp +contextual (maxDischargeDepth := 60) [*]
@[simp] theorem State.mvSome_wf (s : State) (n : Nat) (hs : Memory.wf s.mem = true) :
    Memory.wf (State.mvSome s n).mem = true := by
  unfold State.mvSome; simp +contextual (maxDischargeDepth := 60) [*]
@[simp] theorem mvAbort_wf (n : Nat) (s : State) (hs : Memory.wf s.mem = true) :
    Memory.wf (mvAbort n s).mem = true := by
  unfold mvAbort; simp +contextual (maxDischargeDepth := 60) [*]
@[simp] theorem execMvAbort_wf (ch : Fin 288) (s : State) (hs : Memory.wf s.mem = true) :
    OutWf (execMvAbort ch s) := by
  unfold execMvAbort; simp +contextual (maxDischargeDepth := 60) [*]
@[simp] theorem State.chainStart_wf (s : State) (e : Item) (hs : Memory.wf s.mem = true) :
    Memory.wf (State.chainStart s e).mem = true := by
  unfold State.chainStart; dsimp only; (repeat' split) <;> (try simp +contextual (maxDischargeDepth := 60) [*])
@[simp] theorem execRunChain_wf (q : BitVec 16) (s : State) (hs : Memory.wf s.mem = true) :
    OutWf (execRunChain q s) := by
  unfold execRunChain; simp +contextual (maxDischargeDepth := 60) [*]
@[simp] theorem State.mirWrite_wf (s : State) (p : Nat) (wide : Bool) (hs : Memory.wf s.mem = true) :
    Memory.wf (State.mirWrite s p wide).mem = true := by
  unfold State.mirWrite; simp +contextual (maxDischargeDepth := 60) [*]
@[simp] theorem State.spyWrite_wf (s : State) (t : Nat) (r : Nat) (v : SpyRow) (hs : Memory.wf s.mem = true) :
    Memory.wf (State.spyWrite s t r v).mem = true := by
  unfold State.spyWrite; simp +contextual (maxDischargeDepth := 60) [*]
@[simp] theorem State.spyCopy_wf (s : State) (t : Nat) (src : Nat) (dst : Nat) (hs : Memory.wf s.mem = true) :
    Memory.wf (State.spyCopy s t src dst).mem = true := by
  unfold State.spyCopy; simp +contextual (maxDischargeDepth := 60) [*]
@[simp] theorem State.spyMove_wf (s : State) (t : Nat) (first : Nat) (n : Nat) (delta : ℤ) (hs : Memory.wf s.mem = true) :
    Memory.wf (State.spyMove s t first n delta).mem = true := by
  unfold State.spyMove; simp +contextual (maxDischargeDepth := 60) [*]
@[simp] theorem State.cmdSearch_wf (s : State) (r : SpyReq) (e : Item) (hs : Memory.wf s.mem = true) :
    Memory.wf (State.cmdSearch s r e).mem = true := by
  unfold State.cmdSearch; dsimp only; (repeat' split) <;> (try simp +contextual (maxDischargeDepth := 60) [*])
@[simp] theorem State.steered_wf (s : State) (port : Nat) (id : Nat) (res : Option (W64 × Nat)) (hs : Memory.wf s.mem = true) :
    Memory.wf (State.steered s port id res).mem = true := by
  unfold State.steered; simp +contextual (maxDischargeDepth := 60) [*]
@[simp] theorem State.netSearch_wf (s : State) (r : SpyReq) (port : Nat) (id : Nat) (pass : Nat) (hs : Memory.wf s.mem = true) :
    Memory.wf (State.netSearch s r port id pass).mem = true := by
  unfold State.netSearch; (repeat' split) <;> (try simp +contextual (maxDischargeDepth := 60) [*])
@[simp] theorem execSearchAdmission_wf (s : State) (hs : Memory.wf s.mem = true) :
    OutWf (execSearchAdmission s) := by
  unfold execSearchAdmission; (repeat' split) <;> (try simp +contextual (maxDischargeDepth := 60) [*])
@[simp] theorem State.storeRecs_wf (s : State) (x : Nat) (addr : Nat) (at_ : Attr) (l : List W128) (hs : Memory.wf s.mem = true) :
    Memory.wf (State.storeRecs s x addr at_ l).mem = true := by
  unfold State.storeRecs; simp +contextual (maxDischargeDepth := 60) [*]
@[simp] theorem execSearchReply_wf (sl : Fin 8) (e : Fin 16) (c : Fin 16) (s : State) (hs : Memory.wf s.mem = true) :
    OutWf (execSearchReply sl e c s) := by
  unfold execSearchReply; dsimp only; (repeat' split) <;> (try simp +contextual (maxDischargeDepth := 60) [*])
@[simp] theorem State.rowCmd_wf (s : State) (e : Item) (op : SpyOp) (hs : Memory.wf s.mem = true) :
    Memory.wf (State.rowCmd s e op).mem = true := by
  unfold State.rowCmd; simp +contextual (maxDischargeDepth := 60) [*]
@[simp] theorem spyCmd_wf (op : Nat) (q : BitVec 16) (tests : Item → State → List (Bool × BitVec 16)) (eff : Item → State → State) (s : State) (heff : ∀ (y0 : Item) (y1 : State), Memory.wf y1.mem = true → Memory.wf (eff y0 y1).mem = true) (hs : Memory.wf s.mem = true) :
    Memory.wf (spyCmd op q tests eff s).mem = true := by
  unfold spyCmd
  refine dispatch_wf _ _ _ _ _ _ (fun e s hs => ?_) hs
  split
  · exact State.complete_wf _ _ _ _ _ hs
  · exact heff _ _ hs
@[simp] theorem execCreateTable_wf (q : BitVec 16) (s : State) (hs : Memory.wf s.mem = true) :
    OutWf (execCreateTable q s) := by
  unfold execCreateTable; simp +contextual (maxDischargeDepth := 60) [*]
@[simp] theorem execDestroyTable_wf (q : BitVec 16) (s : State) (hs : Memory.wf s.mem = true) :
    OutWf (execDestroyTable q s) := by
  unfold execDestroyTable; simp +contextual (maxDischargeDepth := 60) [*]
@[simp] theorem execInsert_wf (q : BitVec 16) (s : State) (hs : Memory.wf s.mem = true) :
    OutWf (execInsert q s) := by
  unfold execInsert; simp +contextual (maxDischargeDepth := 60) [*]
@[simp] theorem execDelete_wf (q : BitVec 16) (s : State) (hs : Memory.wf s.mem = true) :
    OutWf (execDelete q s) := by
  unfold execDelete; simp +contextual (maxDischargeDepth := 60) [*]
@[simp] theorem execSpyUpdate_wf (q : BitVec 16) (s : State) (hs : Memory.wf s.mem = true) :
    OutWf (execSpyUpdate q s) := by
  unfold execSpyUpdate; simp +contextual (maxDischargeDepth := 60) [*]
@[simp] theorem execSearch_wf (q : BitVec 16) (s : State) (hs : Memory.wf s.mem = true) :
    OutWf (execSearch q s) := by
  unfold execSearch; simp +contextual (maxDischargeDepth := 60) [*]
@[simp] theorem execMoveBlock_wf (q : BitVec 16) (s : State) (hs : Memory.wf s.mem = true) :
    OutWf (execMoveBlock q s) := by
  unfold execMoveBlock; simp +contextual (maxDischargeDepth := 60) [*]
@[simp] theorem State.rowRecord_wf (s : State) (t : Nat) (r : Nat) (hs : Memory.wf s.mem = true) :
    Memory.wf (State.rowRecord s t r).1.mem = true := by
  unfold State.rowRecord; simp +contextual (maxDischargeDepth := 60) [*]
@[simp] theorem State.spyRecord_wf (s : State) (e : Item) (l : List Byte) (hs : Memory.wf s.mem = true) :
    Memory.wf (State.spyRecord s e l).mem = true := by
  unfold State.spyRecord; simp +contextual (maxDischargeDepth := 60) [*]
@[simp] theorem execReadRow_wf (q : BitVec 16) (s : State) (hs : Memory.wf s.mem = true) :
    OutWf (execReadRow q s) := by
  unfold execReadRow; simp +contextual (maxDischargeDepth := 60) [*]
@[simp] theorem execTableInfo_wf (q : BitVec 16) (s : State) (hs : Memory.wf s.mem = true) :
    OutWf (execTableInfo q s) := by
  unfold execTableInfo; simp +contextual (maxDischargeDepth := 60) [*]
@[simp] theorem State.freeHandle_wf (s : State) (id : BitVec 32) (hs : Memory.wf s.mem = true) :
    Memory.wf (State.freeHandle s id).mem = true := by
  unfold State.freeHandle; simp +contextual (maxDischargeDepth := 60) [*]
@[simp] theorem State.newId_wf (s : State) (hs : Memory.wf s.mem = true) :
    Memory.wf (State.newId s).1.mem = true := by
  unfold State.newId; simp +contextual (maxDischargeDepth := 60) [*]
@[simp] theorem State.spyInsert_wf (s : State) (t : Nat) (prio : BitVec 16) (res : W64) (key : BitVec 288) (hs : Memory.wf s.mem = true) :
    Memory.wf (State.spyInsert s t prio res key).1.mem = true := by
  unfold State.spyInsert; dsimp only; (repeat' split) <;> (try simp +contextual (maxDischargeDepth := 60) [*])
@[simp] theorem State.spyMoveBlock_wf (s : State) (t : Nat) (first : Nat) (n : Nat) (delta : ℤ) (hs : Memory.wf s.mem = true) :
    Memory.wf (State.spyMoveBlock s t first n delta).1.mem = true := by
  unfold State.spyMoveBlock; simp +contextual (maxDischargeDepth := 60) [*]
@[simp] theorem State.spyDestroy_wf (s : State) (t : Nat) (hs : Memory.wf s.mem = true) :
    Memory.wf (State.spyDestroy s t).mem = true := by
  unfold State.spyDestroy; simp +contextual (maxDischargeDepth := 60) [*]
@[simp] theorem State.rowEffect_wf (s : State) (t : Nat) (op : SpyOp) (hs : Memory.wf s.mem = true) :
    Memory.wf (State.rowEffect s t op).1.mem = true := by
  cases op <;> unfold State.rowEffect <;> dsimp only <;> (repeat' split) <;> simp +contextual (maxDischargeDepth := 60) [*]

@[simp] theorem execRowCommandCompletion_wf (tb : BitVec 10) (s : State) (hs : Memory.wf s.mem = true) :
    OutWf (execRowCommandCompletion tb s) := by
  unfold execRowCommandCompletion
  refine (OutWf_next _).2 ?_
  dsimp only
  split
  · exact hs
  · split
    · exact hs
    · exact State.complete_wf _ _ _ _ _ (State.rowEffect_wf _ _ _ (State.setSpyTable_wf _ _ _ hs))

@[simp] theorem State.patrolOutcome_wf (s : State) (row : Nat) (t : Nat) (kind : Nat) (hs : Memory.wf s.mem = true) :
    Memory.wf (State.patrolOutcome s row t kind).mem = true := by
  unfold State.patrolOutcome; simp +contextual (maxDischargeDepth := 60) [*]
@[simp] theorem execPatrolVisit_wf (row : BitVec 19) (s : State) (hs : Memory.wf s.mem = true) :
    OutWf (execPatrolVisit row s) := by
  unfold execPatrolVisit; (repeat' split) <;> (try simp +contextual (maxDischargeDepth := 60) [*])
@[simp] theorem execRowRepairRelease_wf (row : BitVec 19) (s : State) (hs : Memory.wf s.mem = true) :
    OutWf (execRowRepairRelease row s) := by
  unfold execRowRepairRelease; simp +contextual (maxDischargeDepth := 60) [*]
@[simp] theorem execMirrorWriteFail_wf (s : State) (hs : Memory.wf s.mem = true) :
    OutWf (execMirrorWriteFail s) := by
  unfold execMirrorWriteFail; simp +contextual (maxDischargeDepth := 60) [*]
@[simp] theorem spyResync_wf (s : State) (hs : Memory.wf s.mem = true) :
    Memory.wf (spyResync s).mem = true := by
  unfold spyResync; simp +contextual (maxDischargeDepth := 60) [*]
@[simp] theorem execResync_wf (s : State) (hs : Memory.wf s.mem = true) :
    OutWf (execResync s) := by
  unfold execResync; simp +contextual (maxDischargeDepth := 60) [*]
@[simp] theorem State.mirrorRows_wf (s : State) (n : Nat) (hs : Memory.wf s.mem = true) :
    Memory.wf (State.mirrorRows s n).mem = true := by
  unfold State.mirrorRows
  exact foldl_wf _ _ hs fun s p hs => by simp +contextual [hs]

@[simp] theorem State.resynced_wf (s : State) (n : Nat) (hs : Memory.wf s.mem = true) :
    Memory.wf (State.resynced s n).mem = true := by
  have ht := State.mirrorRows_wf s n hs
  unfold State.resynced
  exact State.setRegBit_wf _ _ _ _ ht

@[simp] theorem execResyncDone_wf (s : State) (hs : Memory.wf s.mem = true) :
    OutWf (execResyncDone s) := by
  have ht := State.resynced_wf s 524288 hs
  unfold execResyncDone
  exact (OutWf_next _).2 (ite_wf (fun _ => hs) fun _ => ht)

@[simp] theorem State.setRxq_wf (s : State) (p : Nat) (l : List Frame) (hs : Memory.wf s.mem = true) :
    Memory.wf (State.setRxq s p l).mem = true := by
  unfold State.setRxq; simp +contextual (maxDischargeDepth := 60) [*]
@[simp] theorem State.setTxq_wf (s : State) (p : Nat) (l : List TxFrame) (hs : Memory.wf s.mem = true) :
    Memory.wf (State.setTxq s p l).mem = true := by
  unfold State.setTxq; simp +contextual (maxDischargeDepth := 60) [*]
@[simp] theorem State.netEvent_wf (s : State) (bit : Nat) (hs : Memory.wf s.mem = true) :
    Memory.wf (State.netEvent s bit).mem = true := by
  unfold State.netEvent; simp +contextual (maxDischargeDepth := 60) [*]
@[simp] theorem execFrameReceive_wf (port : Fin 8) (frame : List (BitVec 8)) (fcsOk : Bool) (s : State) (hs : Memory.wf s.mem = true) :
    OutWf (execFrameReceive port frame fcsOk s) := by
  unfold execFrameReceive; simp +contextual (maxDischargeDepth := 60) [*]
@[simp] theorem State.ringWrite_wf (u1 : Nat) (u2 : State) (u3 : Queue) (u4 : BitVec 32) (u5 : List Byte) (hu2 : Memory.wf u2.mem = true) :
    Memory.wf (State.ringWrite u1 u2 u3 u4 u5).1.mem = true := by
  fun_induction State.ringWrite <;> simp_all +zetaDelta
@[simp] theorem State.land_wf (s : State) (p : Nat) (i : Nat) (f : Frame) (res : W64) (pass : Nat) (hs : Memory.wf s.mem = true) :
    Memory.wf (State.land s p i f res pass).mem = true := by
  unfold State.land; dsimp only; (repeat' split) <;> (try simp +contextual (maxDischargeDepth := 60) [*])
@[simp] theorem execFrameLanding_wf (port : Fin 8) (s : State) (hs : Memory.wf s.mem = true) :
    OutWf (execFrameLanding port s) := by
  unfold execFrameLanding; dsimp only; (repeat' split) <;> (try simp +contextual (maxDischargeDepth := 60) [*])
@[simp] theorem rxbCfgWrite_wf (i : Nat) (v : W64) (s : State) (hs : Memory.wf s.mem = true) :
    Memory.wf (rxbCfgWrite i v s).mem = true := by
  unfold rxbCfgWrite; simp +contextual (maxDischargeDepth := 60) [*]
@[simp] theorem execRxbCfgWrite_wf (i : BitVec 8) (v : W64) (s : State) (hs : Memory.wf s.mem = true) :
    OutWf (execRxbCfgWrite i v s) := by
  unfold execRxbCfgWrite; simp +contextual (maxDischargeDepth := 60) [*]
@[simp] theorem State.sendStart_wf (s : State) (e : Item) (hs : Memory.wf s.mem = true) :
    Memory.wf (State.sendStart s e).mem = true := by
  unfold State.sendStart; dsimp only; (repeat' split) <;> (try simp +contextual (maxDischargeDepth := 60) [*])
@[simp] theorem execSend_wf (q : BitVec 16) (s : State) (hs : Memory.wf s.mem = true) :
    OutWf (execSend q s) := by
  unfold execSend; simp +contextual (maxDischargeDepth := 60) [*]
@[simp] theorem execFrameTransmitDone_wf (port : Fin 8) (s : State) (hs : Memory.wf s.mem = true) :
    OutWf (execFrameTransmitDone port s) := by
  unfold execFrameTransmitDone; dsimp only; (repeat' split) <;> (try simp +contextual (maxDischargeDepth := 60) [*])
@[simp] theorem execLinkChange_wf (port : Fin 8) (up : Bool) (s : State) (hs : Memory.wf s.mem = true) :
    OutWf (execLinkChange port up s) := by
  unfold execLinkChange; simp +contextual (maxDischargeDepth := 60) [*]
@[simp] theorem ptpSample_wf (o : W64) (s : State) (hs : Memory.wf s.mem = true) :
    Memory.wf (ptpSample o s).mem = true := by
  unfold ptpSample; simp +contextual (maxDischargeDepth := 60) [*]
@[simp] theorem execPtpSample_wf (o : W64) (s : State) (hs : Memory.wf s.mem = true) :
    OutWf (execPtpSample o s) := by
  unfold execPtpSample; simp +contextual (maxDischargeDepth := 60) [*]

end Sys2Proof.Machine
end

