-- ==== Sys2Proof/Laws/KeepAlu.lean ====
section
/-! SUPPORT. Sys2Proof/Laws/KeepAlu.lean: the memory keeps its canonical form under computation of Svanen. -/

namespace Sys2Proof.Machine

@[simp] theorem State.mvKick_wf (s : State) (x : Nat) (src : W64) (dst : W64) (count : Nat) (mode : Nat) (hs : Memory.wf s.mem = true) :
    Eff.wf (State.mvKick s x src dst count mode) := by
  unfold State.mvKick; dsimp only; (repeat' split) <;> (try simp +contextual (maxDischargeDepth := 60) [*])
@[simp] theorem execMvgo_wf (x : CtxId) (mode : BitVec 2) (rd : Reg5) (rs1 : Reg5) (rs2 : Reg5) (s : State) (hs : Memory.wf s.mem = true) :
    OutWf (execMvgo x mode rd rs1 rs2 s) := by
  unfold execMvgo
  refine issue_wf _ _ _ _ (fun s hs => ?_) hs
  dsimp only
  (repeat' split) <;> simp +contextual (maxDischargeDepth := 60) [*]
@[simp] theorem execMvstat_wf (x : CtxId) (rd : Reg5) (s : State) (hs : Memory.wf s.mem = true) :
    OutWf (execMvstat x rd s) := by
  unfold execMvstat; simp +contextual (maxDischargeDepth := 60) [*]
@[simp] theorem execMvwait_wf (x : CtxId) (rd : Reg5) (s : State) (hs : Memory.wf s.mem = true) :
    OutWf (execMvwait x rd s) := by
  unfold execMvwait
  refine issue_wf _ _ _ _ (fun s hs => ?_) hs
  dsimp only
  (repeat' split) <;> simp +contextual (maxDischargeDepth := 60) [*]

@[simp] theorem branchOp_wf (x : CtxId) (prof : Prof) (maj : Nat) (a : Bool) (rs : Reg5) (off : BitVec 20) (src : List Loc) (cond : State → Bool) (s : State) (hs : Memory.wf s.mem = true) :
    Memory.wf (branchOp x prof maj a rs off src cond s).mem = true := by
  unfold branchOp; simp +contextual (maxDischargeDepth := 60) [*]
@[simp] theorem execBeqz_wf (x : CtxId) (a : Bool) (rs : Reg5) (off : BitVec 20) (s : State) (hs : Memory.wf s.mem = true) :
    OutWf (execBeqz x a rs off s) := by
  unfold execBeqz; simp +contextual (maxDischargeDepth := 60) [*]
@[simp] theorem execBnez_wf (x : CtxId) (a : Bool) (rs : Reg5) (off : BitVec 20) (s : State) (hs : Memory.wf s.mem = true) :
    OutWf (execBnez x a rs off s) := by
  unfold execBnez; simp +contextual (maxDischargeDepth := 60) [*]
@[simp] theorem execBltz_wf (x : CtxId) (a : Bool) (rs : Reg5) (off : BitVec 20) (s : State) (hs : Memory.wf s.mem = true) :
    OutWf (execBltz x a rs off s) := by
  unfold execBltz; simp +contextual (maxDischargeDepth := 60) [*]
@[simp] theorem execBgez_wf (x : CtxId) (a : Bool) (rs : Reg5) (off : BitVec 20) (s : State) (hs : Memory.wf s.mem = true) :
    OutWf (execBgez x a rs off s) := by
  unfold execBgez; simp +contextual (maxDischargeDepth := 60) [*]
@[simp] theorem execBgtz_wf (x : CtxId) (a : Bool) (rs : Reg5) (off : BitVec 20) (s : State) (hs : Memory.wf s.mem = true) :
    OutWf (execBgtz x a rs off s) := by
  unfold execBgtz; simp +contextual (maxDischargeDepth := 60) [*]
@[simp] theorem execBlez_wf (x : CtxId) (a : Bool) (rs : Reg5) (off : BitVec 20) (s : State) (hs : Memory.wf s.mem = true) :
    OutWf (execBlez x a rs off s) := by
  unfold execBlez; simp +contextual (maxDischargeDepth := 60) [*]
@[simp] theorem execBpany_wf (x : CtxId) (a : Bool) (p : Pred3) (off : BitVec 20) (s : State) (hs : Memory.wf s.mem = true) :
    OutWf (execBpany x a p off s) := by
  unfold execBpany; simp +contextual (maxDischargeDepth := 60) [*]
@[simp] theorem execBpnone_wf (x : CtxId) (a : Bool) (p : Pred3) (off : BitVec 20) (s : State) (hs : Memory.wf s.mem = true) :
    OutWf (execBpnone x a p off s) := by
  unfold execBpnone; simp +contextual (maxDischargeDepth := 60) [*]
@[simp] theorem execBr_wf (x : CtxId) (a : Bool) (off : BitVec 20) (s : State) (hs : Memory.wf s.mem = true) :
    OutWf (execBr x a off s) := by
  unfold execBr; simp +contextual (maxDischargeDepth := 60) [*]
@[simp] theorem execBl_wf (x : CtxId) (a : Bool) (off : BitVec 20) (s : State) (hs : Memory.wf s.mem = true) :
    OutWf (execBl x a off s) := by
  unfold execBl; simp +contextual (maxDischargeDepth := 60) [*]
@[simp] theorem execJalr_wf (x : CtxId) (rd : Reg5) (rs1 : Reg5) (imm : BitVec 16) (s : State) (hs : Memory.wf s.mem = true) :
    OutWf (execJalr x rd rs1 imm s) := by
  unfold execJalr
  refine issue_wf _ _ _ _ (fun s hs => ?_) hs
  dsimp only
  split <;> simp [*]
@[simp] theorem execAdd_wf (x : CtxId) (rd : Reg5) (rs1 : Reg5) (rs2 : Reg5) (s : State) (hs : Memory.wf s.mem = true) :
    OutWf (execAdd x rd rs1 rs2 s) := by
  unfold execAdd; simp +contextual (maxDischargeDepth := 60) [*]
@[simp] theorem execSub_wf (x : CtxId) (rd : Reg5) (rs1 : Reg5) (rs2 : Reg5) (s : State) (hs : Memory.wf s.mem = true) :
    OutWf (execSub x rd rs1 rs2 s) := by
  unfold execSub; simp +contextual (maxDischargeDepth := 60) [*]
@[simp] theorem execAndG_wf (x : CtxId) (rd : Reg5) (rs1 : Reg5) (rs2 : Reg5) (s : State) (hs : Memory.wf s.mem = true) :
    OutWf (execAndG x rd rs1 rs2 s) := by
  unfold execAndG; simp +contextual (maxDischargeDepth := 60) [*]
@[simp] theorem execOrG_wf (x : CtxId) (rd : Reg5) (rs1 : Reg5) (rs2 : Reg5) (s : State) (hs : Memory.wf s.mem = true) :
    OutWf (execOrG x rd rs1 rs2 s) := by
  unfold execOrG; simp +contextual (maxDischargeDepth := 60) [*]
@[simp] theorem execXorG_wf (x : CtxId) (rd : Reg5) (rs1 : Reg5) (rs2 : Reg5) (s : State) (hs : Memory.wf s.mem = true) :
    OutWf (execXorG x rd rs1 rs2 s) := by
  unfold execXorG; simp +contextual (maxDischargeDepth := 60) [*]
@[simp] theorem execAndn_wf (x : CtxId) (rd : Reg5) (rs1 : Reg5) (rs2 : Reg5) (s : State) (hs : Memory.wf s.mem = true) :
    OutWf (execAndn x rd rs1 rs2 s) := by
  unfold execAndn; simp +contextual (maxDischargeDepth := 60) [*]
@[simp] theorem execOrn_wf (x : CtxId) (rd : Reg5) (rs1 : Reg5) (rs2 : Reg5) (s : State) (hs : Memory.wf s.mem = true) :
    OutWf (execOrn x rd rs1 rs2 s) := by
  unfold execOrn; simp +contextual (maxDischargeDepth := 60) [*]
@[simp] theorem execXnor_wf (x : CtxId) (rd : Reg5) (rs1 : Reg5) (rs2 : Reg5) (s : State) (hs : Memory.wf s.mem = true) :
    OutWf (execXnor x rd rs1 rs2 s) := by
  unfold execXnor; simp +contextual (maxDischargeDepth := 60) [*]
@[simp] theorem execShl_wf (x : CtxId) (rd : Reg5) (rs1 : Reg5) (rs2 : Reg5) (s : State) (hs : Memory.wf s.mem = true) :
    OutWf (execShl x rd rs1 rs2 s) := by
  unfold execShl; simp +contextual (maxDischargeDepth := 60) [*]
@[simp] theorem execShr_wf (x : CtxId) (rd : Reg5) (rs1 : Reg5) (rs2 : Reg5) (s : State) (hs : Memory.wf s.mem = true) :
    OutWf (execShr x rd rs1 rs2 s) := by
  unfold execShr; simp +contextual (maxDischargeDepth := 60) [*]
@[simp] theorem execSar_wf (x : CtxId) (rd : Reg5) (rs1 : Reg5) (rs2 : Reg5) (s : State) (hs : Memory.wf s.mem = true) :
    OutWf (execSar x rd rs1 rs2 s) := by
  unfold execSar; simp +contextual (maxDischargeDepth := 60) [*]
@[simp] theorem execRol_wf (x : CtxId) (rd : Reg5) (rs1 : Reg5) (rs2 : Reg5) (s : State) (hs : Memory.wf s.mem = true) :
    OutWf (execRol x rd rs1 rs2 s) := by
  unfold execRol; simp +contextual (maxDischargeDepth := 60) [*]
@[simp] theorem execRor_wf (x : CtxId) (rd : Reg5) (rs1 : Reg5) (rs2 : Reg5) (s : State) (hs : Memory.wf s.mem = true) :
    OutWf (execRor x rd rs1 rs2 s) := by
  unfold execRor; simp +contextual (maxDischargeDepth := 60) [*]
@[simp] theorem execSeq_wf (x : CtxId) (rd : Reg5) (rs1 : Reg5) (rs2 : Reg5) (s : State) (hs : Memory.wf s.mem = true) :
    OutWf (execSeq x rd rs1 rs2 s) := by
  unfold execSeq; simp +contextual (maxDischargeDepth := 60) [*]
@[simp] theorem execSne_wf (x : CtxId) (rd : Reg5) (rs1 : Reg5) (rs2 : Reg5) (s : State) (hs : Memory.wf s.mem = true) :
    OutWf (execSne x rd rs1 rs2 s) := by
  unfold execSne; simp +contextual (maxDischargeDepth := 60) [*]
@[simp] theorem execSlt_wf (x : CtxId) (rd : Reg5) (rs1 : Reg5) (rs2 : Reg5) (s : State) (hs : Memory.wf s.mem = true) :
    OutWf (execSlt x rd rs1 rs2 s) := by
  unfold execSlt; simp +contextual (maxDischargeDepth := 60) [*]
@[simp] theorem execSltu_wf (x : CtxId) (rd : Reg5) (rs1 : Reg5) (rs2 : Reg5) (s : State) (hs : Memory.wf s.mem = true) :
    OutWf (execSltu x rd rs1 rs2 s) := by
  unfold execSltu; simp +contextual (maxDischargeDepth := 60) [*]
@[simp] theorem execSle_wf (x : CtxId) (rd : Reg5) (rs1 : Reg5) (rs2 : Reg5) (s : State) (hs : Memory.wf s.mem = true) :
    OutWf (execSle x rd rs1 rs2 s) := by
  unfold execSle; simp +contextual (maxDischargeDepth := 60) [*]
@[simp] theorem execSleu_wf (x : CtxId) (rd : Reg5) (rs1 : Reg5) (rs2 : Reg5) (s : State) (hs : Memory.wf s.mem = true) :
    OutWf (execSleu x rd rs1 rs2 s) := by
  unfold execSleu; simp +contextual (maxDischargeDepth := 60) [*]
@[simp] theorem execMinG_wf (x : CtxId) (rd : Reg5) (rs1 : Reg5) (rs2 : Reg5) (s : State) (hs : Memory.wf s.mem = true) :
    OutWf (execMinG x rd rs1 rs2 s) := by
  unfold execMinG; simp +contextual (maxDischargeDepth := 60) [*]
@[simp] theorem execMaxG_wf (x : CtxId) (rd : Reg5) (rs1 : Reg5) (rs2 : Reg5) (s : State) (hs : Memory.wf s.mem = true) :
    OutWf (execMaxG x rd rs1 rs2 s) := by
  unfold execMaxG; simp +contextual (maxDischargeDepth := 60) [*]
@[simp] theorem execMinu_wf (x : CtxId) (rd : Reg5) (rs1 : Reg5) (rs2 : Reg5) (s : State) (hs : Memory.wf s.mem = true) :
    OutWf (execMinu x rd rs1 rs2 s) := by
  unfold execMinu; simp +contextual (maxDischargeDepth := 60) [*]
@[simp] theorem execMaxu_wf (x : CtxId) (rd : Reg5) (rs1 : Reg5) (rs2 : Reg5) (s : State) (hs : Memory.wf s.mem = true) :
    OutWf (execMaxu x rd rs1 rs2 s) := by
  unfold execMaxu; simp +contextual (maxDischargeDepth := 60) [*]
@[simp] theorem execAddw_wf (x : CtxId) (rd : Reg5) (rs1 : Reg5) (rs2 : Reg5) (s : State) (hs : Memory.wf s.mem = true) :
    OutWf (execAddw x rd rs1 rs2 s) := by
  unfold execAddw; simp +contextual (maxDischargeDepth := 60) [*]
@[simp] theorem execSubw_wf (x : CtxId) (rd : Reg5) (rs1 : Reg5) (rs2 : Reg5) (s : State) (hs : Memory.wf s.mem = true) :
    OutWf (execSubw x rd rs1 rs2 s) := by
  unfold execSubw; simp +contextual (maxDischargeDepth := 60) [*]
@[simp] theorem execShlw_wf (x : CtxId) (rd : Reg5) (rs1 : Reg5) (rs2 : Reg5) (s : State) (hs : Memory.wf s.mem = true) :
    OutWf (execShlw x rd rs1 rs2 s) := by
  unfold execShlw; simp +contextual (maxDischargeDepth := 60) [*]
@[simp] theorem execShrw_wf (x : CtxId) (rd : Reg5) (rs1 : Reg5) (rs2 : Reg5) (s : State) (hs : Memory.wf s.mem = true) :
    OutWf (execShrw x rd rs1 rs2 s) := by
  unfold execShrw; simp +contextual (maxDischargeDepth := 60) [*]
@[simp] theorem execSarw_wf (x : CtxId) (rd : Reg5) (rs1 : Reg5) (rs2 : Reg5) (s : State) (hs : Memory.wf s.mem = true) :
    OutWf (execSarw x rd rs1 rs2 s) := by
  unfold execSarw; simp +contextual (maxDischargeDepth := 60) [*]
@[simp] theorem execCmovnz_wf (x : CtxId) (rd : Reg5) (rs1 : Reg5) (rs2 : Reg5) (s : State) (hs : Memory.wf s.mem = true) :
    OutWf (execCmovnz x rd rs1 rs2 s) := by
  unfold execCmovnz; simp +contextual (maxDischargeDepth := 60) [*]
@[simp] theorem execCmovz_wf (x : CtxId) (rd : Reg5) (rs1 : Reg5) (rs2 : Reg5) (s : State) (hs : Memory.wf s.mem = true) :
    OutWf (execCmovz x rd rs1 rs2 s) := by
  unfold execCmovz; simp +contextual (maxDischargeDepth := 60) [*]
@[simp] theorem execClz_wf (x : CtxId) (rd : Reg5) (rs1 : Reg5) (s : State) (hs : Memory.wf s.mem = true) :
    OutWf (execClz x rd rs1 s) := by
  unfold execClz; simp +contextual (maxDischargeDepth := 60) [*]
@[simp] theorem execCtz_wf (x : CtxId) (rd : Reg5) (rs1 : Reg5) (s : State) (hs : Memory.wf s.mem = true) :
    OutWf (execCtz x rd rs1 s) := by
  unfold execCtz; simp +contextual (maxDischargeDepth := 60) [*]
@[simp] theorem execPopc_wf (x : CtxId) (rd : Reg5) (rs1 : Reg5) (s : State) (hs : Memory.wf s.mem = true) :
    OutWf (execPopc x rd rs1 s) := by
  unfold execPopc; simp +contextual (maxDischargeDepth := 60) [*]
@[simp] theorem execBswap_wf (x : CtxId) (rd : Reg5) (rs1 : Reg5) (s : State) (hs : Memory.wf s.mem = true) :
    OutWf (execBswap x rd rs1 s) := by
  unfold execBswap; simp +contextual (maxDischargeDepth := 60) [*]
@[simp] theorem execSextb_wf (x : CtxId) (rd : Reg5) (rs1 : Reg5) (s : State) (hs : Memory.wf s.mem = true) :
    OutWf (execSextb x rd rs1 s) := by
  unfold execSextb; simp +contextual (maxDischargeDepth := 60) [*]
@[simp] theorem execSexth_wf (x : CtxId) (rd : Reg5) (rs1 : Reg5) (s : State) (hs : Memory.wf s.mem = true) :
    OutWf (execSexth x rd rs1 s) := by
  unfold execSexth; simp +contextual (maxDischargeDepth := 60) [*]
@[simp] theorem execSextw_wf (x : CtxId) (rd : Reg5) (rs1 : Reg5) (s : State) (hs : Memory.wf s.mem = true) :
    OutWf (execSextw x rd rs1 s) := by
  unfold execSextw; simp +contextual (maxDischargeDepth := 60) [*]
@[simp] theorem execZexth_wf (x : CtxId) (rd : Reg5) (rs1 : Reg5) (s : State) (hs : Memory.wf s.mem = true) :
    OutWf (execZexth x rd rs1 s) := by
  unfold execZexth; simp +contextual (maxDischargeDepth := 60) [*]
@[simp] theorem execZextw_wf (x : CtxId) (rd : Reg5) (rs1 : Reg5) (s : State) (hs : Memory.wf s.mem = true) :
    OutWf (execZextw x rd rs1 s) := by
  unfold execZextw; simp +contextual (maxDischargeDepth := 60) [*]
@[simp] theorem execAddi_wf (x : CtxId) (rd : Reg5) (rs1 : Reg5) (imm : BitVec 16) (s : State) (hs : Memory.wf s.mem = true) :
    OutWf (execAddi x rd rs1 imm s) := by
  unfold execAddi; simp +contextual (maxDischargeDepth := 60) [*]
@[simp] theorem execAndi_wf (x : CtxId) (rd : Reg5) (rs1 : Reg5) (imm : BitVec 16) (s : State) (hs : Memory.wf s.mem = true) :
    OutWf (execAndi x rd rs1 imm s) := by
  unfold execAndi; simp +contextual (maxDischargeDepth := 60) [*]
@[simp] theorem execOri_wf (x : CtxId) (rd : Reg5) (rs1 : Reg5) (imm : BitVec 16) (s : State) (hs : Memory.wf s.mem = true) :
    OutWf (execOri x rd rs1 imm s) := by
  unfold execOri; simp +contextual (maxDischargeDepth := 60) [*]
@[simp] theorem execXori_wf (x : CtxId) (rd : Reg5) (rs1 : Reg5) (imm : BitVec 16) (s : State) (hs : Memory.wf s.mem = true) :
    OutWf (execXori x rd rs1 imm s) := by
  unfold execXori; simp +contextual (maxDischargeDepth := 60) [*]
@[simp] theorem execSlti_wf (x : CtxId) (rd : Reg5) (rs1 : Reg5) (imm : BitVec 16) (s : State) (hs : Memory.wf s.mem = true) :
    OutWf (execSlti x rd rs1 imm s) := by
  unfold execSlti; simp +contextual (maxDischargeDepth := 60) [*]
@[simp] theorem execSltiu_wf (x : CtxId) (rd : Reg5) (rs1 : Reg5) (imm : BitVec 16) (s : State) (hs : Memory.wf s.mem = true) :
    OutWf (execSltiu x rd rs1 imm s) := by
  unfold execSltiu; simp +contextual (maxDischargeDepth := 60) [*]
@[simp] theorem execAddhi_wf (x : CtxId) (rd : Reg5) (rs1 : Reg5) (imm : BitVec 16) (s : State) (hs : Memory.wf s.mem = true) :
    OutWf (execAddhi x rd rs1 imm s) := by
  unfold execAddhi; simp +contextual (maxDischargeDepth := 60) [*]
@[simp] theorem execShli_wf (x : CtxId) (rd : Reg5) (rs1 : Reg5) (amt : BitVec 6) (s : State) (hs : Memory.wf s.mem = true) :
    OutWf (execShli x rd rs1 amt s) := by
  unfold execShli; simp +contextual (maxDischargeDepth := 60) [*]
@[simp] theorem execShri_wf (x : CtxId) (rd : Reg5) (rs1 : Reg5) (amt : BitVec 6) (s : State) (hs : Memory.wf s.mem = true) :
    OutWf (execShri x rd rs1 amt s) := by
  unfold execShri; simp +contextual (maxDischargeDepth := 60) [*]
@[simp] theorem execSari_wf (x : CtxId) (rd : Reg5) (rs1 : Reg5) (amt : BitVec 6) (s : State) (hs : Memory.wf s.mem = true) :
    OutWf (execSari x rd rs1 amt s) := by
  unfold execSari; simp +contextual (maxDischargeDepth := 60) [*]
@[simp] theorem execRori_wf (x : CtxId) (rd : Reg5) (rs1 : Reg5) (amt : BitVec 6) (s : State) (hs : Memory.wf s.mem = true) :
    OutWf (execRori x rd rs1 amt s) := by
  unfold execRori; simp +contextual (maxDischargeDepth := 60) [*]
@[simp] theorem execLui_wf (x : CtxId) (rd : Reg5) (imm : BitVec 16) (s : State) (hs : Memory.wf s.mem = true) :
    OutWf (execLui x rd imm s) := by
  unfold execLui; simp +contextual (maxDischargeDepth := 60) [*]
@[simp] theorem execXli_wf (x : CtxId) (rd : Reg5) (imm : BitVec 32) (s : State) (hs : Memory.wf s.mem = true) :
    OutWf (execXli x rd imm s) := by
  unfold execXli; simp +contextual (maxDischargeDepth := 60) [*]
@[simp] theorem execXlih_wf (x : CtxId) (rd : Reg5) (rs1 : Reg5) (imm : BitVec 32) (s : State) (hs : Memory.wf s.mem = true) :
    OutWf (execXlih x rd rs1 imm s) := by
  unfold execXlih; simp +contextual (maxDischargeDepth := 60) [*]
@[simp] theorem execXaddi_wf (x : CtxId) (rd : Reg5) (rs1 : Reg5) (imm : BitVec 32) (s : State) (hs : Memory.wf s.mem = true) :
    OutWf (execXaddi x rd rs1 imm s) := by
  unfold execXaddi; simp +contextual (maxDischargeDepth := 60) [*]
@[simp] theorem execXandi_wf (x : CtxId) (rd : Reg5) (rs1 : Reg5) (imm : BitVec 32) (s : State) (hs : Memory.wf s.mem = true) :
    OutWf (execXandi x rd rs1 imm s) := by
  unfold execXandi; simp +contextual (maxDischargeDepth := 60) [*]
@[simp] theorem execXori32_wf (x : CtxId) (rd : Reg5) (rs1 : Reg5) (imm : BitVec 32) (s : State) (hs : Memory.wf s.mem = true) :
    OutWf (execXori32 x rd rs1 imm s) := by
  unfold execXori32; simp +contextual (maxDischargeDepth := 60) [*]
@[simp] theorem execXxori_wf (x : CtxId) (rd : Reg5) (rs1 : Reg5) (imm : BitVec 32) (s : State) (hs : Memory.wf s.mem = true) :
    OutWf (execXxori x rd rs1 imm s) := by
  unfold execXxori; simp +contextual (maxDischargeDepth := 60) [*]
@[simp] theorem execXslti_wf (x : CtxId) (rd : Reg5) (rs1 : Reg5) (imm : BitVec 32) (s : State) (hs : Memory.wf s.mem = true) :
    OutWf (execXslti x rd rs1 imm s) := by
  unfold execXslti; simp +contextual (maxDischargeDepth := 60) [*]
@[simp] theorem execXsltiu_wf (x : CtxId) (rd : Reg5) (rs1 : Reg5) (imm : BitVec 32) (s : State) (hs : Memory.wf s.mem = true) :
    OutWf (execXsltiu x rd rs1 imm s) := by
  unfold execXsltiu; simp +contextual (maxDischargeDepth := 60) [*]
@[simp] theorem State.setFop_wf (s : State) (x : Nat) (p : Bool) (r : Reg5) (b : Nat) (hs : Memory.wf s.mem = true) :
    Memory.wf (State.setFop s x p r b).mem = true := by
  unfold State.setFop; simp +contextual (maxDischargeDepth := 60) [*]
@[simp] theorem fpArith_wf (x : CtxId) (op : Nat) (rm : BitVec 3) (p : Bool) (rd : Reg5) (rs1 : Reg5) (rs2 : Reg5) (useRd : Bool) (t : Nat) (fn : Fmt → FEnv → Nat → Nat → Nat → FRes) (s : State) (hs : Memory.wf s.mem = true) :
    Memory.wf (fpArith x op rm p rd rs1 rs2 useRd t fn s).mem = true := by
  unfold fpArith
  refine issue_wf _ _ _ _ (fun s hs => ?_) hs
  dsimp only
  (repeat' split) <;> simp +contextual (maxDischargeDepth := 60) [*]
@[simp] theorem fpPlain_wf (x : CtxId) (op : Nat) (p : Bool) (rd : Reg5) (rs1 : Reg5) (rs2 : Reg5) (t : Nat) (fn : Fmt → FEnv → Nat → Nat → FRes) (s : State) (hs : Memory.wf s.mem = true) :
    Memory.wf (fpPlain x op p rd rs1 rs2 t fn s).mem = true := by
  unfold fpPlain; simp +contextual (maxDischargeDepth := 60) [*]
@[simp] theorem fpCmp_wf (x : CtxId) (op : Nat) (p : Bool) (rd : Reg5) (rs1 : Reg5) (rs2 : Reg5) (s : State) (hs : Memory.wf s.mem = true) :
    Memory.wf (fpCmp x op p rd rs1 rs2 s).mem = true := by
  unfold fpCmp; simp +contextual (maxDischargeDepth := 60) [*]
@[simp] theorem fpConv_wf (x : CtxId) (op : Nat) (rm : BitVec 3) (p : Bool) (rd rs1 : Reg5) (src dst : Loc)
    (fn : Nat → FEnv → State → FRes × Bool × (State → State)) (s : State) (hs : Memory.wf s.mem = true)
    (hfn : ∀ i v s, Memory.wf s.mem = true → ∀ t, Memory.wf t.mem = true → Memory.wf ((fn i v s).2.2 t).mem = true) :
    Memory.wf (fpConv x op rm p rd rs1 src dst fn s).mem = true := by
  unfold fpConv
  refine issue_wf _ _ _ _ (fun s hs => ?_) hs
  split
  · exact hs
  · exact State.raiseFp_wf _ _ _ _ (State.setTime_wf _ _ _ _ hs) (hfn _ _ _ hs)
@[simp] theorem execFadd_wf (x : CtxId) (rm : BitVec 3) (p : Bool) (rd : Reg5) (rs1 : Reg5) (rs2 : Reg5) (s : State) (hs : Memory.wf s.mem = true) :
    OutWf (execFadd x rm p rd rs1 rs2 s) := by
  unfold execFadd; simp +contextual (maxDischargeDepth := 60) [*]
@[simp] theorem execFsub_wf (x : CtxId) (rm : BitVec 3) (p : Bool) (rd : Reg5) (rs1 : Reg5) (rs2 : Reg5) (s : State) (hs : Memory.wf s.mem = true) :
    OutWf (execFsub x rm p rd rs1 rs2 s) := by
  unfold execFsub; simp +contextual (maxDischargeDepth := 60) [*]
@[simp] theorem execFmul_wf (x : CtxId) (rm : BitVec 3) (p : Bool) (rd : Reg5) (rs1 : Reg5) (rs2 : Reg5) (s : State) (hs : Memory.wf s.mem = true) :
    OutWf (execFmul x rm p rd rs1 rs2 s) := by
  unfold execFmul; simp +contextual (maxDischargeDepth := 60) [*]
@[simp] theorem execFma_wf (x : CtxId) (rm : BitVec 3) (p : Bool) (rd : Reg5) (rs1 : Reg5) (rs2 : Reg5) (s : State) (hs : Memory.wf s.mem = true) :
    OutWf (execFma x rm p rd rs1 rs2 s) := by
  unfold execFma; simp +contextual (maxDischargeDepth := 60) [*]
@[simp] theorem execFms_wf (x : CtxId) (rm : BitVec 3) (p : Bool) (rd : Reg5) (rs1 : Reg5) (rs2 : Reg5) (s : State) (hs : Memory.wf s.mem = true) :
    OutWf (execFms x rm p rd rs1 rs2 s) := by
  unfold execFms; simp +contextual (maxDischargeDepth := 60) [*]
@[simp] theorem execFnma_wf (x : CtxId) (rm : BitVec 3) (p : Bool) (rd : Reg5) (rs1 : Reg5) (rs2 : Reg5) (s : State) (hs : Memory.wf s.mem = true) :
    OutWf (execFnma x rm p rd rs1 rs2 s) := by
  unfold execFnma; simp +contextual (maxDischargeDepth := 60) [*]
@[simp] theorem execFnms_wf (x : CtxId) (rm : BitVec 3) (p : Bool) (rd : Reg5) (rs1 : Reg5) (rs2 : Reg5) (s : State) (hs : Memory.wf s.mem = true) :
    OutWf (execFnms x rm p rd rs1 rs2 s) := by
  unfold execFnms; simp +contextual (maxDischargeDepth := 60) [*]
@[simp] theorem execFmin_wf (x : CtxId) (p : Bool) (rd : Reg5) (rs1 : Reg5) (rs2 : Reg5) (s : State) (hs : Memory.wf s.mem = true) :
    OutWf (execFmin x p rd rs1 rs2 s) := by
  unfold execFmin; simp +contextual (maxDischargeDepth := 60) [*]
@[simp] theorem execFmax_wf (x : CtxId) (p : Bool) (rd : Reg5) (rs1 : Reg5) (rs2 : Reg5) (s : State) (hs : Memory.wf s.mem = true) :
    OutWf (execFmax x p rd rs1 rs2 s) := by
  unfold execFmax; simp +contextual (maxDischargeDepth := 60) [*]
@[simp] theorem execFsgnj_wf (x : CtxId) (p : Bool) (rd : Reg5) (rs1 : Reg5) (rs2 : Reg5) (s : State) (hs : Memory.wf s.mem = true) :
    OutWf (execFsgnj x p rd rs1 rs2 s) := by
  unfold execFsgnj; simp +contextual (maxDischargeDepth := 60) [*]
@[simp] theorem execFsgnjn_wf (x : CtxId) (p : Bool) (rd : Reg5) (rs1 : Reg5) (rs2 : Reg5) (s : State) (hs : Memory.wf s.mem = true) :
    OutWf (execFsgnjn x p rd rs1 rs2 s) := by
  unfold execFsgnjn; simp +contextual (maxDischargeDepth := 60) [*]
@[simp] theorem execFsgnjx_wf (x : CtxId) (p : Bool) (rd : Reg5) (rs1 : Reg5) (rs2 : Reg5) (s : State) (hs : Memory.wf s.mem = true) :
    OutWf (execFsgnjx x p rd rs1 rs2 s) := by
  unfold execFsgnjx; simp +contextual (maxDischargeDepth := 60) [*]
@[simp] theorem execFeq_wf (x : CtxId) (p : Bool) (rd : Reg5) (rs1 : Reg5) (rs2 : Reg5) (s : State) (hs : Memory.wf s.mem = true) :
    OutWf (execFeq x p rd rs1 rs2 s) := by
  unfold execFeq; simp +contextual (maxDischargeDepth := 60) [*]
@[simp] theorem execFlt_wf (x : CtxId) (p : Bool) (rd : Reg5) (rs1 : Reg5) (rs2 : Reg5) (s : State) (hs : Memory.wf s.mem = true) :
    OutWf (execFlt x p rd rs1 rs2 s) := by
  unfold execFlt; simp +contextual (maxDischargeDepth := 60) [*]
@[simp] theorem execFle_wf (x : CtxId) (p : Bool) (rd : Reg5) (rs1 : Reg5) (rs2 : Reg5) (s : State) (hs : Memory.wf s.mem = true) :
    OutWf (execFle x p rd rs1 rs2 s) := by
  unfold execFle; simp +contextual (maxDischargeDepth := 60) [*]
@[simp] theorem execFcvtsd_wf (x : CtxId) (rm : BitVec 3) (rd : Reg5) (rs1 : Reg5) (s : State) (hs : Memory.wf s.mem = true) :
    OutWf (execFcvtsd x rm rd rs1 s) := by
  unfold execFcvtsd; simp +contextual (maxDischargeDepth := 60) [*]
@[simp] theorem execFcvtds_wf (x : CtxId) (rd : Reg5) (rs1 : Reg5) (s : State) (hs : Memory.wf s.mem = true) :
    OutWf (execFcvtds x rd rs1 s) := by
  unfold execFcvtds; simp +contextual (maxDischargeDepth := 60) [*]
@[simp] theorem execFcvtlf_wf (x : CtxId) (rm : BitVec 3) (p : Bool) (rd : Reg5) (rs1 : Reg5) (s : State) (hs : Memory.wf s.mem = true) :
    OutWf (execFcvtlf x rm p rd rs1 s) := by
  unfold execFcvtlf; simp +contextual (maxDischargeDepth := 60) [*]
@[simp] theorem execFcvtluf_wf (x : CtxId) (rm : BitVec 3) (p : Bool) (rd : Reg5) (rs1 : Reg5) (s : State) (hs : Memory.wf s.mem = true) :
    OutWf (execFcvtluf x rm p rd rs1 s) := by
  unfold execFcvtluf; simp +contextual (maxDischargeDepth := 60) [*]
@[simp] theorem execFcvtfl_wf (x : CtxId) (rm : BitVec 3) (p : Bool) (rd : Reg5) (rs1 : Reg5) (s : State) (hs : Memory.wf s.mem = true) :
    OutWf (execFcvtfl x rm p rd rs1 s) := by
  unfold execFcvtfl; simp +contextual (maxDischargeDepth := 60) [*]
@[simp] theorem execFcvtflu_wf (x : CtxId) (rm : BitVec 3) (p : Bool) (rd : Reg5) (rs1 : Reg5) (s : State) (hs : Memory.wf s.mem = true) :
    OutWf (execFcvtflu x rm p rd rs1 s) := by
  unfold execFcvtflu; simp +contextual (maxDischargeDepth := 60) [*]
@[simp] theorem execFrint_wf (x : CtxId) (rm : BitVec 3) (p : Bool) (rd : Reg5) (rs1 : Reg5) (s : State) (hs : Memory.wf s.mem = true) :
    OutWf (execFrint x rm p rd rs1 s) := by
  unfold execFrint; simp +contextual (maxDischargeDepth := 60) [*]
@[simp] theorem execFmvgf_wf (x : CtxId) (p : Bool) (rd : Reg5) (rs1 : Reg5) (s : State) (hs : Memory.wf s.mem = true) :
    OutWf (execFmvgf x p rd rs1 s) := by
  unfold execFmvgf; simp +contextual (maxDischargeDepth := 60) [*]
@[simp] theorem execFmvfg_wf (x : CtxId) (p : Bool) (rd : Reg5) (rs1 : Reg5) (s : State) (hs : Memory.wf s.mem = true) :
    OutWf (execFmvfg x p rd rs1 s) := by
  unfold execFmvfg; simp +contextual (maxDischargeDepth := 60) [*]
@[simp] theorem execFclass_wf (x : CtxId) (p : Bool) (rd : Reg5) (rs1 : Reg5) (s : State) (hs : Memory.wf s.mem = true) :
    OutWf (execFclass x p rd rs1 s) := by
  unfold execFclass; simp +contextual (maxDischargeDepth := 60) [*]
@[simp] theorem State.setFpair_wf (s : State) (x : Nat) (rd : Reg5) (a : FPair) (hs : Memory.wf s.mem = true) :
    Memory.wf (State.setFpair s x rd a).mem = true := by
  unfold State.setFpair; simp +contextual (maxDischargeDepth := 60) [*]
@[simp] theorem fpStepOp_wf (x : CtxId) (op : Nat) (rm : BitVec 3) (p : Bool) (rd : Reg5) (rs1 : Reg5) (rs2 : Reg5) (srcs : List Reg5) (pairSrc : Bool) (pairDst : Bool) (body : Nat → BitVec 32 → State → Eff) (s : State) (hbody : ∀ (y0 : Nat) (y1 : BitVec 32) (y2 : State), Memory.wf y2.mem = true → Eff.wf (body y0 y1 y2)) (hs : Memory.wf s.mem = true) :
    Memory.wf (fpStepOp x op rm p rd rs1 rs2 srcs pairSrc pairDst body s).mem = true := by
  unfold fpStepOp; (repeat' split) <;> (try simp +contextual (maxDischargeDepth := 60) [*])
@[simp] theorem execFdsetup_wf (x : CtxId) (p : Bool) (rd : Reg5) (rs1 : Reg5) (rs2 : Reg5) (s : State) (hs : Memory.wf s.mem = true) :
    OutWf (execFdsetup x p rd rs1 rs2 s) := by
  unfold execFdsetup; simp +contextual (maxDischargeDepth := 60) [*]
@[simp] theorem execFdstep_wf (x : CtxId) (p : Bool) (rd : Reg5) (rs2 : Reg5) (s : State) (hs : Memory.wf s.mem = true) :
    OutWf (execFdstep x p rd rs2 s) := by
  unfold execFdstep; simp +contextual (maxDischargeDepth := 60) [*]
@[simp] theorem execFdfin_wf (x : CtxId) (rm : BitVec 3) (p : Bool) (rd : Reg5) (rs1 : Reg5) (rs2 : Reg5) (s : State) (hs : Memory.wf s.mem = true) :
    OutWf (execFdfin x rm p rd rs1 rs2 s) := by
  unfold execFdfin
  refine fpStepOp_wf _ _ _ _ _ _ _ _ _ _ _ _ (fun i w s hs => ?_) hs
  dsimp only
  (repeat' split) <;> simp +contextual (maxDischargeDepth := 60) [*]
@[simp] theorem execFssetup_wf (x : CtxId) (p : Bool) (rd : Reg5) (rs1 : Reg5) (s : State) (hs : Memory.wf s.mem = true) :
    OutWf (execFssetup x p rd rs1 s) := by
  unfold execFssetup; simp +contextual (maxDischargeDepth := 60) [*]
@[simp] theorem execFsstep_wf (x : CtxId) (p : Bool) (rd : Reg5) (s : State) (hs : Memory.wf s.mem = true) :
    OutWf (execFsstep x p rd s) := by
  unfold execFsstep; simp +contextual (maxDischargeDepth := 60) [*]
@[simp] theorem execFsfin_wf (x : CtxId) (rm : BitVec 3) (p : Bool) (rd : Reg5) (rs1 : Reg5) (s : State) (hs : Memory.wf s.mem = true) :
    OutWf (execFsfin x rm p rd rs1 s) := by
  unfold execFsfin
  refine fpStepOp_wf _ _ _ _ _ _ _ _ _ _ _ _ (fun i w s hs => ?_) hs
  dsimp only
  (repeat' split) <;> simp +contextual (maxDischargeDepth := 60) [*]
@[simp] theorem State.vtime_wf (s : State) (x : Nat) (service : Nat) (sealed : Nat) (hs : Memory.wf s.mem = true) :
    Memory.wf (State.vtime s x service sealed).mem = true := by
  unfold State.vtime; simp +contextual (maxDischargeDepth := 60) [*]
@[simp] theorem vecEl_wf (x : CtxId) (maj : Nat) (op : Nat) (ew : BitVec 2) (o : VF) (t : Nat) (fn : Nat → Nat → Nat → Nat) (s : State) (hs : Memory.wf s.mem = true) :
    Memory.wf (vecEl x maj op ew o t fn s).mem = true := by
  unfold vecEl; simp +contextual (maxDischargeDepth := 60) [*]
@[simp] theorem vecFix_wf (x : CtxId) (op : Nat) (ew : BitVec 2) (o : VF) (t : Nat) (s : State) (hs : Memory.wf s.mem = true) :
    Memory.wf (vecFix x op ew o t s).mem = true := by
  unfold vecFix; simp +contextual (maxDischargeDepth := 60) [*]
@[simp] theorem execVadd_wf (x : CtxId) (ew : BitVec 2) (o : VF) (s : State) (hs : Memory.wf s.mem = true) :
    OutWf (execVadd x ew o s) := by
  unfold execVadd; simp +contextual (maxDischargeDepth := 60) [*]
@[simp] theorem execVsub_wf (x : CtxId) (ew : BitVec 2) (o : VF) (s : State) (hs : Memory.wf s.mem = true) :
    OutWf (execVsub x ew o s) := by
  unfold execVsub; simp +contextual (maxDischargeDepth := 60) [*]
@[simp] theorem execVmul_wf (x : CtxId) (ew : BitVec 2) (o : VF) (s : State) (hs : Memory.wf s.mem = true) :
    OutWf (execVmul x ew o s) := by
  unfold execVmul; simp +contextual (maxDischargeDepth := 60) [*]
@[simp] theorem execVmulh_wf (x : CtxId) (ew : BitVec 2) (o : VF) (s : State) (hs : Memory.wf s.mem = true) :
    OutWf (execVmulh x ew o s) := by
  unfold execVmulh; simp +contextual (maxDischargeDepth := 60) [*]
@[simp] theorem execVmin_wf (x : CtxId) (ew : BitVec 2) (o : VF) (s : State) (hs : Memory.wf s.mem = true) :
    OutWf (execVmin x ew o s) := by
  unfold execVmin; simp +contextual (maxDischargeDepth := 60) [*]
@[simp] theorem execVmax_wf (x : CtxId) (ew : BitVec 2) (o : VF) (s : State) (hs : Memory.wf s.mem = true) :
    OutWf (execVmax x ew o s) := by
  unfold execVmax; simp +contextual (maxDischargeDepth := 60) [*]
@[simp] theorem execVminu_wf (x : CtxId) (ew : BitVec 2) (o : VF) (s : State) (hs : Memory.wf s.mem = true) :
    OutWf (execVminu x ew o s) := by
  unfold execVminu; simp +contextual (maxDischargeDepth := 60) [*]
@[simp] theorem execVmaxu_wf (x : CtxId) (ew : BitVec 2) (o : VF) (s : State) (hs : Memory.wf s.mem = true) :
    OutWf (execVmaxu x ew o s) := by
  unfold execVmaxu; simp +contextual (maxDischargeDepth := 60) [*]
@[simp] theorem execVand_wf (x : CtxId) (ew : BitVec 2) (o : VF) (s : State) (hs : Memory.wf s.mem = true) :
    OutWf (execVand x ew o s) := by
  unfold execVand; simp +contextual (maxDischargeDepth := 60) [*]
@[simp] theorem execVor_wf (x : CtxId) (ew : BitVec 2) (o : VF) (s : State) (hs : Memory.wf s.mem = true) :
    OutWf (execVor x ew o s) := by
  unfold execVor; simp +contextual (maxDischargeDepth := 60) [*]
@[simp] theorem execVxor_wf (x : CtxId) (ew : BitVec 2) (o : VF) (s : State) (hs : Memory.wf s.mem = true) :
    OutWf (execVxor x ew o s) := by
  unfold execVxor; simp +contextual (maxDischargeDepth := 60) [*]
@[simp] theorem execVandn_wf (x : CtxId) (ew : BitVec 2) (o : VF) (s : State) (hs : Memory.wf s.mem = true) :
    OutWf (execVandn x ew o s) := by
  unfold execVandn; simp +contextual (maxDischargeDepth := 60) [*]
@[simp] theorem execVshl_wf (x : CtxId) (ew : BitVec 2) (o : VF) (s : State) (hs : Memory.wf s.mem = true) :
    OutWf (execVshl x ew o s) := by
  unfold execVshl; simp +contextual (maxDischargeDepth := 60) [*]
@[simp] theorem execVshr_wf (x : CtxId) (ew : BitVec 2) (o : VF) (s : State) (hs : Memory.wf s.mem = true) :
    OutWf (execVshr x ew o s) := by
  unfold execVshr; simp +contextual (maxDischargeDepth := 60) [*]
@[simp] theorem execVsar_wf (x : CtxId) (ew : BitVec 2) (o : VF) (s : State) (hs : Memory.wf s.mem = true) :
    OutWf (execVsar x ew o s) := by
  unfold execVsar; simp +contextual (maxDischargeDepth := 60) [*]
@[simp] theorem execVsadd_wf (x : CtxId) (ew : BitVec 2) (o : VF) (s : State) (hs : Memory.wf s.mem = true) :
    OutWf (execVsadd x ew o s) := by
  unfold execVsadd; simp +contextual (maxDischargeDepth := 60) [*]
@[simp] theorem execVsaddu_wf (x : CtxId) (ew : BitVec 2) (o : VF) (s : State) (hs : Memory.wf s.mem = true) :
    OutWf (execVsaddu x ew o s) := by
  unfold execVsaddu; simp +contextual (maxDischargeDepth := 60) [*]
@[simp] theorem execVssub_wf (x : CtxId) (ew : BitVec 2) (o : VF) (s : State) (hs : Memory.wf s.mem = true) :
    OutWf (execVssub x ew o s) := by
  unfold execVssub; simp +contextual (maxDischargeDepth := 60) [*]
@[simp] theorem execVssubu_wf (x : CtxId) (ew : BitVec 2) (o : VF) (s : State) (hs : Memory.wf s.mem = true) :
    OutWf (execVssubu x ew o s) := by
  unfold execVssubu; simp +contextual (maxDischargeDepth := 60) [*]
@[simp] theorem execVqmule_wf (x : CtxId) (ew : BitVec 2) (o : VF) (s : State) (hs : Memory.wf s.mem = true) :
    OutWf (execVqmule x ew o s) := by
  unfold execVqmule; simp +contextual (maxDischargeDepth := 60) [*]
@[simp] theorem execVqmula_wf (x : CtxId) (ew : BitVec 2) (o : VF) (s : State) (hs : Memory.wf s.mem = true) :
    OutWf (execVqmula x ew o s) := by
  unfold execVqmula; simp +contextual (maxDischargeDepth := 60) [*]
@[simp] theorem execVrshre_wf (x : CtxId) (ew : BitVec 2) (o : VF) (s : State) (hs : Memory.wf s.mem = true) :
    OutWf (execVrshre x ew o s) := by
  unfold execVrshre; simp +contextual (maxDischargeDepth := 60) [*]
@[simp] theorem execVrshra_wf (x : CtxId) (ew : BitVec 2) (o : VF) (s : State) (hs : Memory.wf s.mem = true) :
    OutWf (execVrshra x ew o s) := by
  unfold execVrshra; simp +contextual (maxDischargeDepth := 60) [*]
@[simp] theorem execViota_wf (x : CtxId) (ew : BitVec 2) (o : VF) (s : State) (hs : Memory.wf s.mem = true) :
    OutWf (execViota x ew o s) := by
  unfold execViota; simp +contextual (maxDischargeDepth := 60) [*]
@[simp] theorem execVsplat_wf (x : CtxId) (ew : BitVec 2) (o : VF) (s : State) (hs : Memory.wf s.mem = true) :
    OutWf (execVsplat x ew o s) := by
  unfold execVsplat; simp +contextual (maxDischargeDepth := 60) [*]
@[simp] theorem execVext_wf (x : CtxId) (ew : BitVec 2) (o : VF) (s : State) (hs : Memory.wf s.mem = true) :
    OutWf (execVext x ew o s) := by
  unfold execVext; simp +contextual (maxDischargeDepth := 60) [*]
@[simp] theorem execVins_wf (x : CtxId) (ew : BitVec 2) (o : VF) (s : State) (hs : Memory.wf s.mem = true) :
    OutWf (execVins x ew o s) := by
  unfold execVins; simp +contextual (maxDischargeDepth := 60) [*]
@[simp] theorem execVperm_wf (x : CtxId) (ew : BitVec 2) (o : VF) (s : State) (hs : Memory.wf s.mem = true) :
    OutWf (execVperm x ew o s) := by
  unfold execVperm
  refine vecIssue_wf _ _ _ _ _ _ _ _ _ _ _ (fun i s hs => ?_) hs
  dsimp only
  (repeat' split) <;> simp +contextual (maxDischargeDepth := 60) [*]
@[simp] theorem execVcomp_wf (x : CtxId) (ew : BitVec 2) (o : VF) (s : State) (hs : Memory.wf s.mem = true) :
    OutWf (execVcomp x ew o s) := by
  unfold execVcomp
  refine vecIssue_wf _ _ _ _ _ _ _ _ _ _ _ (fun i s hs => ?_) hs
  dsimp only
  (repeat' split) <;> simp +contextual (maxDischargeDepth := 60) [*]
@[simp] theorem vecRed_wf (x : CtxId) (op : Nat) (ew : BitVec 2) (o : VF) (init : Nat → ℤ) (fn : ℤ → ℤ → ℤ) (s : State) (hs : Memory.wf s.mem = true) :
    Memory.wf (vecRed x op ew o init fn s).mem = true := by
  unfold vecRed; simp +contextual (maxDischargeDepth := 60) [*]
@[simp] theorem execVradd_wf (x : CtxId) (ew : BitVec 2) (o : VF) (s : State) (hs : Memory.wf s.mem = true) :
    OutWf (execVradd x ew o s) := by
  unfold execVradd; simp +contextual (maxDischargeDepth := 60) [*]
@[simp] theorem execVrmin_wf (x : CtxId) (ew : BitVec 2) (o : VF) (s : State) (hs : Memory.wf s.mem = true) :
    OutWf (execVrmin x ew o s) := by
  unfold execVrmin; simp +contextual (maxDischargeDepth := 60) [*]
@[simp] theorem execVrmax_wf (x : CtxId) (ew : BitVec 2) (o : VF) (s : State) (hs : Memory.wf s.mem = true) :
    OutWf (execVrmax x ew o s) := by
  unfold execVrmax; simp +contextual (maxDischargeDepth := 60) [*]
@[simp] theorem vecFp_wf (x : CtxId) (op : Nat) (p : Bool) (o : VF) (useD : Bool) (t : Nat) (fn : Fmt → FEnv → Nat → Nat → Nat → FRes) (s : State) (hs : Memory.wf s.mem = true) :
    Memory.wf (vecFp x op p o useD t fn s).mem = true := by
  unfold vecFp
  refine issue_wf _ _ _ _ (fun s hs => ?_) hs
  dsimp only
  (repeat' split) <;> simp +contextual (maxDischargeDepth := 60) [*]
@[simp] theorem vecFpMinmax_wf (x : CtxId) (op : Nat) (mx : Bool) (p : Bool) (o : VF) (s : State) (hs : Memory.wf s.mem = true) :
    Memory.wf (vecFpMinmax x op mx p o s).mem = true := by
  unfold vecFpMinmax; simp +contextual (maxDischargeDepth := 60) [*]
@[simp] theorem vecFpCmp_wf (x : CtxId) (func5 : Nat) (cop : Nat) (p : Bool) (o : VF) (s : State) (hs : Memory.wf s.mem = true) :
    Memory.wf (vecFpCmp x func5 cop p o s).mem = true := by
  unfold vecFpCmp; simp +contextual (maxDischargeDepth := 60) [*]
@[simp] theorem execVfadd_wf (x : CtxId) (p : Bool) (o : VF) (s : State) (hs : Memory.wf s.mem = true) :
    OutWf (execVfadd x p o s) := by
  unfold execVfadd; simp +contextual (maxDischargeDepth := 60) [*]
@[simp] theorem execVfsub_wf (x : CtxId) (p : Bool) (o : VF) (s : State) (hs : Memory.wf s.mem = true) :
    OutWf (execVfsub x p o s) := by
  unfold execVfsub; simp +contextual (maxDischargeDepth := 60) [*]
@[simp] theorem execVfmul_wf (x : CtxId) (p : Bool) (o : VF) (s : State) (hs : Memory.wf s.mem = true) :
    OutWf (execVfmul x p o s) := by
  unfold execVfmul; simp +contextual (maxDischargeDepth := 60) [*]
@[simp] theorem execVfma_wf (x : CtxId) (p : Bool) (o : VF) (s : State) (hs : Memory.wf s.mem = true) :
    OutWf (execVfma x p o s) := by
  unfold execVfma; simp +contextual (maxDischargeDepth := 60) [*]
@[simp] theorem execVfmin_wf (x : CtxId) (p : Bool) (o : VF) (s : State) (hs : Memory.wf s.mem = true) :
    OutWf (execVfmin x p o s) := by
  unfold execVfmin; simp +contextual (maxDischargeDepth := 60) [*]
@[simp] theorem execVfmax_wf (x : CtxId) (p : Bool) (o : VF) (s : State) (hs : Memory.wf s.mem = true) :
    OutWf (execVfmax x p o s) := by
  unfold execVfmax; simp +contextual (maxDischargeDepth := 60) [*]
@[simp] theorem execVflt_wf (x : CtxId) (p : Bool) (o : VF) (s : State) (hs : Memory.wf s.mem = true) :
    OutWf (execVflt x p o s) := by
  unfold execVflt; simp +contextual (maxDischargeDepth := 60) [*]
@[simp] theorem execVfle_wf (x : CtxId) (p : Bool) (o : VF) (s : State) (hs : Memory.wf s.mem = true) :
    OutWf (execVfle x p o s) := by
  unfold execVfle; simp +contextual (maxDischargeDepth := 60) [*]
@[simp] theorem execVfeqD_wf (x : CtxId) (o : VF) (s : State) (hs : Memory.wf s.mem = true) :
    OutWf (execVfeqD x o s) := by
  unfold execVfeqD; simp +contextual (maxDischargeDepth := 60) [*]
@[simp] theorem execVfeqS_wf (x : CtxId) (o : VF) (s : State) (hs : Memory.wf s.mem = true) :
    OutWf (execVfeqS x o s) := by
  unfold execVfeqS; simp +contextual (maxDischargeDepth := 60) [*]
@[simp] theorem vdFinish_wf (i : Nat) (valid : Bool) (vals : List ℤ) (lim : Nat) (out : State → State) (s : State) (hout : ∀ (y0 : State), Memory.wf y0.mem = true → Memory.wf (out y0).mem = true) (hs : Memory.wf s.mem = true) :
    Eff.wf (vdFinish i valid vals lim out s) := by
  unfold vdFinish; (repeat' split) <;> (try simp +contextual (maxDischargeDepth := 60) [*])
@[simp] theorem vecDec_wf (x : CtxId) (func5 : Nat) (o : VF) (k2 : VKind) (two : Bool) (n1 : Nat) (n2 : Nat) (tm : Nat → Nat → Nat) (sl : Nat) (fn : ℤ → Nat → ℤ) (s : State) (hs : Memory.wf s.mem = true) :
    Memory.wf (vecDec x func5 o k2 two n1 n2 tm sl fn s).mem = true := by
  unfold vecDec; simp +contextual (maxDischargeDepth := 60) [*]
@[simp] theorem execVdadd_wf (x : CtxId) (o : VF) (s : State) (hs : Memory.wf s.mem = true) :
    OutWf (execVdadd x o s) := by
  unfold execVdadd; simp +contextual (maxDischargeDepth := 60) [*]
@[simp] theorem execVdsub_wf (x : CtxId) (o : VF) (s : State) (hs : Memory.wf s.mem = true) :
    OutWf (execVdsub x o s) := by
  unfold execVdsub; simp +contextual (maxDischargeDepth := 60) [*]
@[simp] theorem execVdmul_wf (x : CtxId) (o : VF) (s : State) (hs : Memory.wf s.mem = true) :
    OutWf (execVdmul x o s) := by
  unfold execVdmul; simp +contextual (maxDischargeDepth := 60) [*]
@[simp] theorem execVdneg_wf (x : CtxId) (o : VF) (s : State) (hs : Memory.wf s.mem = true) :
    OutWf (execVdneg x o s) := by
  unfold execVdneg; simp +contextual (maxDischargeDepth := 60) [*]
@[simp] theorem execVdshl_wf (x : CtxId) (o : VF) (s : State) (hs : Memory.wf s.mem = true) :
    OutWf (execVdshl x o s) := by
  unfold execVdshl; simp +contextual (maxDischargeDepth := 60) [*]
@[simp] theorem execVdshr_wf (x : CtxId) (o : VF) (s : State) (hs : Memory.wf s.mem = true) :
    OutWf (execVdshr x o s) := by
  unfold execVdshr; simp +contextual (maxDischargeDepth := 60) [*]
@[simp] theorem execVdshre_wf (x : CtxId) (o : VF) (s : State) (hs : Memory.wf s.mem = true) :
    OutWf (execVdshre x o s) := by
  unfold execVdshre; simp +contextual (maxDischargeDepth := 60) [*]
@[simp] theorem execVdshra_wf (x : CtxId) (o : VF) (s : State) (hs : Memory.wf s.mem = true) :
    OutWf (execVdshra x o s) := by
  unfold execVdshra; simp +contextual (maxDischargeDepth := 60) [*]
@[simp] theorem execVdwiden_wf (x : CtxId) (o : VF) (s : State) (hs : Memory.wf s.mem = true) :
    OutWf (execVdwiden x o s) := by
  unfold execVdwiden; simp +contextual (maxDischargeDepth := 60) [*]
@[simp] theorem execVdnarrow_wf (x : CtxId) (o : VF) (s : State) (hs : Memory.wf s.mem = true) :
    OutWf (execVdnarrow x o s) := by
  unfold execVdnarrow; simp +contextual (maxDischargeDepth := 60) [*]
@[simp] theorem execVdrsum_wf (x : CtxId) (o : VF) (s : State) (hs : Memory.wf s.mem = true) :
    OutWf (execVdrsum x o s) := by
  unfold execVdrsum
  refine issue_wf _ _ _ _ (fun s hs => ?_) hs
  dsimp only
  (repeat' split) <;> simp +contextual (maxDischargeDepth := 60) [*]
@[simp] theorem predOp_wf (x : CtxId) (op : Nat) (pd : Pred3) (ps1 : Pred3) (ps2 : Pred3) (fn : W128 → W128 → W128) (s : State) (hs : Memory.wf s.mem = true) :
    Memory.wf (predOp x op pd ps1 ps2 fn s).mem = true := by
  unfold predOp; simp +contextual (maxDischargeDepth := 60) [*]
@[simp] theorem execPand_wf (x : CtxId) (pd : Pred3) (ps1 : Pred3) (ps2 : Pred3) (s : State) (hs : Memory.wf s.mem = true) :
    OutWf (execPand x pd ps1 ps2 s) := by
  unfold execPand; simp +contextual (maxDischargeDepth := 60) [*]
@[simp] theorem execPor_wf (x : CtxId) (pd : Pred3) (ps1 : Pred3) (ps2 : Pred3) (s : State) (hs : Memory.wf s.mem = true) :
    OutWf (execPor x pd ps1 ps2 s) := by
  unfold execPor; simp +contextual (maxDischargeDepth := 60) [*]
@[simp] theorem execPxor_wf (x : CtxId) (pd : Pred3) (ps1 : Pred3) (ps2 : Pred3) (s : State) (hs : Memory.wf s.mem = true) :
    OutWf (execPxor x pd ps1 ps2 s) := by
  unfold execPxor; simp +contextual (maxDischargeDepth := 60) [*]
@[simp] theorem execPandn_wf (x : CtxId) (pd : Pred3) (ps1 : Pred3) (ps2 : Pred3) (s : State) (hs : Memory.wf s.mem = true) :
    OutWf (execPandn x pd ps1 ps2 s) := by
  unfold execPandn; simp +contextual (maxDischargeDepth := 60) [*]
@[simp] theorem execPnot_wf (x : CtxId) (pd : Pred3) (ps1 : Pred3) (s : State) (hs : Memory.wf s.mem = true) :
    OutWf (execPnot x pd ps1 s) := by
  unfold execPnot; simp +contextual (maxDischargeDepth := 60) [*]
@[simp] theorem predG_wf (x : CtxId) (op : Nat) (pd : Pred3) (rs1 : Reg5) (rs2 : Reg5) (fn : W64 → W64 → W128) (s : State) (hs : Memory.wf s.mem = true) :
    Memory.wf (predG x op pd rs1 rs2 fn s).mem = true := by
  unfold predG; simp +contextual (maxDischargeDepth := 60) [*]
@[simp] theorem execPwhile_wf (x : CtxId) (pd : Pred3) (rs1 : Reg5) (rs2 : Reg5) (s : State) (hs : Memory.wf s.mem = true) :
    OutWf (execPwhile x pd rs1 rs2 s) := by
  unfold execPwhile; simp +contextual (maxDischargeDepth := 60) [*]
@[simp] theorem execPfromg_wf (x : CtxId) (pd : Pred3) (rs1 : Reg5) (rs2 : Reg5) (s : State) (hs : Memory.wf s.mem = true) :
    OutWf (execPfromg x pd rs1 rs2 s) := by
  unfold execPfromg; simp +contextual (maxDischargeDepth := 60) [*]
@[simp] theorem gFromP_wf (x : CtxId) (op : Nat) (t : Nat) (rd : Reg5) (ps1 : Pred3) (vs2 : BitVec 5) (fn : W128 → W64) (s : State) (hs : Memory.wf s.mem = true) :
    Memory.wf (gFromP x op t rd ps1 vs2 fn s).mem = true := by
  unfold gFromP; simp +contextual (maxDischargeDepth := 60) [*]
@[simp] theorem execPcnt_wf (x : CtxId) (rd : Reg5) (ps1 : Pred3) (s : State) (hs : Memory.wf s.mem = true) :
    OutWf (execPcnt x rd ps1 s) := by
  unfold execPcnt; simp +contextual (maxDischargeDepth := 60) [*]
@[simp] theorem execPffs_wf (x : CtxId) (rd : Reg5) (ps1 : Pred3) (s : State) (hs : Memory.wf s.mem = true) :
    OutWf (execPffs x rd ps1 s) := by
  unfold execPffs; simp +contextual (maxDischargeDepth := 60) [*]
@[simp] theorem execPtog_wf (x : CtxId) (rd : Reg5) (ps1 : Pred3) (hi : Bool) (s : State) (hs : Memory.wf s.mem = true) :
    OutWf (execPtog x rd ps1 hi s) := by
  unfold execPtog; simp +contextual (maxDischargeDepth := 60) [*]
@[simp] theorem vecDecCmp_wf (x : CtxId) (op : Nat) (o : VF) (fn : ℤ → ℤ → Bool) (s : State) (hs : Memory.wf s.mem = true) :
    Memory.wf (vecDecCmp x op o fn s).mem = true := by
  unfold vecDecCmp; simp +contextual (maxDischargeDepth := 60) [*]
@[simp] theorem execVdceq_wf (x : CtxId) (o : VF) (s : State) (hs : Memory.wf s.mem = true) :
    OutWf (execVdceq x o s) := by
  unfold execVdceq; simp +contextual (maxDischargeDepth := 60) [*]
@[simp] theorem execVdclt_wf (x : CtxId) (o : VF) (s : State) (hs : Memory.wf s.mem = true) :
    OutWf (execVdclt x o s) := by
  unfold execVdclt; simp +contextual (maxDischargeDepth := 60) [*]
@[simp] theorem execVdcle_wf (x : CtxId) (o : VF) (s : State) (hs : Memory.wf s.mem = true) :
    OutWf (execVdcle x o s) := by
  unfold execVdcle; simp +contextual (maxDischargeDepth := 60) [*]
@[simp] theorem execVdval_wf (x : CtxId) (o : VF) (s : State) (hs : Memory.wf s.mem = true) :
    OutWf (execVdval x o s) := by
  unfold execVdval; simp +contextual (maxDischargeDepth := 60) [*]
@[simp] theorem vecCmp_wf (x : CtxId) (cond : Nat) (ew : BitVec 2) (o : VF) (fn : Nat → Nat → Nat → Bool) (s : State) (hs : Memory.wf s.mem = true) :
    Memory.wf (vecCmp x cond ew o fn s).mem = true := by
  unfold vecCmp; simp +contextual (maxDischargeDepth := 60) [*]
@[simp] theorem execVcmpeq_wf (x : CtxId) (ew : BitVec 2) (o : VF) (s : State) (hs : Memory.wf s.mem = true) :
    OutWf (execVcmpeq x ew o s) := by
  unfold execVcmpeq; simp +contextual (maxDischargeDepth := 60) [*]
@[simp] theorem execVcmpne_wf (x : CtxId) (ew : BitVec 2) (o : VF) (s : State) (hs : Memory.wf s.mem = true) :
    OutWf (execVcmpne x ew o s) := by
  unfold execVcmpne; simp +contextual (maxDischargeDepth := 60) [*]
@[simp] theorem execVcmplt_wf (x : CtxId) (ew : BitVec 2) (o : VF) (s : State) (hs : Memory.wf s.mem = true) :
    OutWf (execVcmplt x ew o s) := by
  unfold execVcmplt; simp +contextual (maxDischargeDepth := 60) [*]
@[simp] theorem execVcmpltu_wf (x : CtxId) (ew : BitVec 2) (o : VF) (s : State) (hs : Memory.wf s.mem = true) :
    OutWf (execVcmpltu x ew o s) := by
  unfold execVcmpltu; simp +contextual (maxDischargeDepth := 60) [*]
@[simp] theorem decFinish_wf (i : Nat) (valid : Bool) (v : ℤ) (out : State → State) (s : State) (hout : ∀ (y0 : State), Memory.wf y0.mem = true → Memory.wf (out y0).mem = true) (hs : Memory.wf s.mem = true) :
    Eff.wf (decFinish i valid v out s) := by
  unfold decFinish; (repeat' split) <;> (try simp +contextual (maxDischargeDepth := 60) [*])
@[simp] theorem decOp_wf (x : CtxId) (func : Nat) (rd : Reg5) (rs1 : Reg5) (rs2 : Reg5) (two : Bool) (tm : Nat → Nat → Nat) (sl : Nat) (fn : ℤ → Nat → ℤ) (s : State) (hs : Memory.wf s.mem = true) :
    Memory.wf (decOp x func rd rs1 rs2 two tm sl fn s).mem = true := by
  unfold decOp; simp +contextual (maxDischargeDepth := 60) [*]
@[simp] theorem execDadd_wf (x : CtxId) (rd : Reg5) (rs1 : Reg5) (rs2 : Reg5) (s : State) (hs : Memory.wf s.mem = true) :
    OutWf (execDadd x rd rs1 rs2 s) := by
  unfold execDadd; simp +contextual (maxDischargeDepth := 60) [*]
@[simp] theorem execDsub_wf (x : CtxId) (rd : Reg5) (rs1 : Reg5) (rs2 : Reg5) (s : State) (hs : Memory.wf s.mem = true) :
    OutWf (execDsub x rd rs1 rs2 s) := by
  unfold execDsub; simp +contextual (maxDischargeDepth := 60) [*]
@[simp] theorem execDmul_wf (x : CtxId) (rd : Reg5) (rs1 : Reg5) (rs2 : Reg5) (s : State) (hs : Memory.wf s.mem = true) :
    OutWf (execDmul x rd rs1 rs2 s) := by
  unfold execDmul; simp +contextual (maxDischargeDepth := 60) [*]
@[simp] theorem execDshl_wf (x : CtxId) (rd : Reg5) (rs1 : Reg5) (rs2 : Reg5) (s : State) (hs : Memory.wf s.mem = true) :
    OutWf (execDshl x rd rs1 rs2 s) := by
  unfold execDshl; simp +contextual (maxDischargeDepth := 60) [*]
@[simp] theorem execDshr_wf (x : CtxId) (rd : Reg5) (rs1 : Reg5) (rs2 : Reg5) (s : State) (hs : Memory.wf s.mem = true) :
    OutWf (execDshr x rd rs1 rs2 s) := by
  unfold execDshr; simp +contextual (maxDischargeDepth := 60) [*]
@[simp] theorem execDshre_wf (x : CtxId) (rd : Reg5) (rs1 : Reg5) (rs2 : Reg5) (s : State) (hs : Memory.wf s.mem = true) :
    OutWf (execDshre x rd rs1 rs2 s) := by
  unfold execDshre; simp +contextual (maxDischargeDepth := 60) [*]
@[simp] theorem execDshra_wf (x : CtxId) (rd : Reg5) (rs1 : Reg5) (rs2 : Reg5) (s : State) (hs : Memory.wf s.mem = true) :
    OutWf (execDshra x rd rs1 rs2 s) := by
  unfold execDshra; simp +contextual (maxDischargeDepth := 60) [*]
@[simp] theorem execDcmp_wf (x : CtxId) (rd : Reg5) (rs1 : Reg5) (rs2 : Reg5) (s : State) (hs : Memory.wf s.mem = true) :
    OutWf (execDcmp x rd rs1 rs2 s) := by
  unfold execDcmp; simp +contextual (maxDischargeDepth := 60) [*]
@[simp] theorem execDneg_wf (x : CtxId) (rd : Reg5) (rs1 : Reg5) (s : State) (hs : Memory.wf s.mem = true) :
    OutWf (execDneg x rd rs1 s) := by
  unfold execDneg; simp +contextual (maxDischargeDepth := 60) [*]
@[simp] theorem execDtoi_wf (x : CtxId) (rd : Reg5) (rs1 : Reg5) (s : State) (hs : Memory.wf s.mem = true) :
    OutWf (execDtoi x rd rs1 s) := by
  unfold execDtoi; simp +contextual (maxDischargeDepth := 60) [*]
@[simp] theorem execItod_wf (x : CtxId) (rd : Reg5) (rs1 : Reg5) (s : State) (hs : Memory.wf s.mem = true) :
    OutWf (execItod x rd rs1 s) := by
  unfold execItod; simp +contextual (maxDischargeDepth := 60) [*]
@[simp] theorem execDval_wf (x : CtxId) (rd : Reg5) (rs1 : Reg5) (s : State) (hs : Memory.wf s.mem = true) :
    OutWf (execDval x rd rs1 s) := by
  unfold execDval; simp +contextual (maxDischargeDepth := 60) [*]
@[simp] theorem fixScalar_wf (x : CtxId) (op : Nat) (ew : BitVec 2) (rd : Reg5) (rs1 : Reg5) (rs2 : Reg5) (t : Nat) (s : State) (hs : Memory.wf s.mem = true) :
    Memory.wf (fixScalar x op ew rd rs1 rs2 t s).mem = true := by
  unfold fixScalar; simp +contextual (maxDischargeDepth := 60) [*]
@[simp] theorem execSadd_wf (x : CtxId) (ew : BitVec 2) (rd : Reg5) (rs1 : Reg5) (rs2 : Reg5) (s : State) (hs : Memory.wf s.mem = true) :
    OutWf (execSadd x ew rd rs1 rs2 s) := by
  unfold execSadd; simp +contextual (maxDischargeDepth := 60) [*]
@[simp] theorem execSaddu_wf (x : CtxId) (ew : BitVec 2) (rd : Reg5) (rs1 : Reg5) (rs2 : Reg5) (s : State) (hs : Memory.wf s.mem = true) :
    OutWf (execSaddu x ew rd rs1 rs2 s) := by
  unfold execSaddu; simp +contextual (maxDischargeDepth := 60) [*]
@[simp] theorem execSsub_wf (x : CtxId) (ew : BitVec 2) (rd : Reg5) (rs1 : Reg5) (rs2 : Reg5) (s : State) (hs : Memory.wf s.mem = true) :
    OutWf (execSsub x ew rd rs1 rs2 s) := by
  unfold execSsub; simp +contextual (maxDischargeDepth := 60) [*]
@[simp] theorem execSsubu_wf (x : CtxId) (ew : BitVec 2) (rd : Reg5) (rs1 : Reg5) (rs2 : Reg5) (s : State) (hs : Memory.wf s.mem = true) :
    OutWf (execSsubu x ew rd rs1 rs2 s) := by
  unfold execSsubu; simp +contextual (maxDischargeDepth := 60) [*]
@[simp] theorem execQmule_wf (x : CtxId) (ew : BitVec 2) (rd : Reg5) (rs1 : Reg5) (rs2 : Reg5) (s : State) (hs : Memory.wf s.mem = true) :
    OutWf (execQmule x ew rd rs1 rs2 s) := by
  unfold execQmule; simp +contextual (maxDischargeDepth := 60) [*]
@[simp] theorem execQmula_wf (x : CtxId) (ew : BitVec 2) (rd : Reg5) (rs1 : Reg5) (rs2 : Reg5) (s : State) (hs : Memory.wf s.mem = true) :
    OutWf (execQmula x ew rd rs1 rs2 s) := by
  unfold execQmula; simp +contextual (maxDischargeDepth := 60) [*]
@[simp] theorem execRshre_wf (x : CtxId) (ew : BitVec 2) (rd : Reg5) (rs1 : Reg5) (rs2 : Reg5) (s : State) (hs : Memory.wf s.mem = true) :
    OutWf (execRshre x ew rd rs1 rs2 s) := by
  unfold execRshre; simp +contextual (maxDischargeDepth := 60) [*]
@[simp] theorem execRshra_wf (x : CtxId) (ew : BitVec 2) (rd : Reg5) (rs1 : Reg5) (rs2 : Reg5) (s : State) (hs : Memory.wf s.mem = true) :
    OutWf (execRshra x ew rd rs1 rs2 s) := by
  unfold execRshra; simp +contextual (maxDischargeDepth := 60) [*]
@[simp] theorem mulOp_wf (x : CtxId) (func : Nat) (rd : Reg5) (rs1 : Reg5) (rs2 : Reg5) (mag : W64 → Nat) (sealed : Nat) (fn : W64 → W64 → W64) (s : State) (hs : Memory.wf s.mem = true) :
    Memory.wf (mulOp x func rd rs1 rs2 mag sealed fn s).mem = true := by
  unfold mulOp; simp +contextual (maxDischargeDepth := 60) [*]
@[simp] theorem execMul_wf (x : CtxId) (rd : Reg5) (rs1 : Reg5) (rs2 : Reg5) (s : State) (hs : Memory.wf s.mem = true) :
    OutWf (execMul x rd rs1 rs2 s) := by
  unfold execMul; simp +contextual (maxDischargeDepth := 60) [*]
@[simp] theorem execMulh_wf (x : CtxId) (rd : Reg5) (rs1 : Reg5) (rs2 : Reg5) (s : State) (hs : Memory.wf s.mem = true) :
    OutWf (execMulh x rd rs1 rs2 s) := by
  unfold execMulh; simp +contextual (maxDischargeDepth := 60) [*]
@[simp] theorem execMulhu_wf (x : CtxId) (rd : Reg5) (rs1 : Reg5) (rs2 : Reg5) (s : State) (hs : Memory.wf s.mem = true) :
    OutWf (execMulhu x rd rs1 rs2 s) := by
  unfold execMulhu; simp +contextual (maxDischargeDepth := 60) [*]
@[simp] theorem execMulhsu_wf (x : CtxId) (rd : Reg5) (rs1 : Reg5) (rs2 : Reg5) (s : State) (hs : Memory.wf s.mem = true) :
    OutWf (execMulhsu x rd rs1 rs2 s) := by
  unfold execMulhsu; simp +contextual (maxDischargeDepth := 60) [*]
@[simp] theorem execMulw_wf (x : CtxId) (rd : Reg5) (rs1 : Reg5) (rs2 : Reg5) (s : State) (hs : Memory.wf s.mem = true) :
    OutWf (execMulw x rd rs1 rs2 s) := by
  unfold execMulw; simp +contextual (maxDischargeDepth := 60) [*]
@[simp] theorem divSetup_wf (x : CtxId) (func : Nat) (rd : Reg5) (rs1 : Reg5) (rs2 : Reg5) (signed : Bool) (s : State) (hs : Memory.wf s.mem = true) :
    Memory.wf (divSetup x func rd rs1 rs2 signed s).mem = true := by
  unfold divSetup
  refine issue_wf _ _ _ _ (fun s hs => ?_) hs
  dsimp only
  (repeat' split) <;> simp +contextual (maxDischargeDepth := 60) [*]
@[simp] theorem execDsetup_wf (x : CtxId) (rd : Reg5) (rs1 : Reg5) (rs2 : Reg5) (s : State) (hs : Memory.wf s.mem = true) :
    OutWf (execDsetup x rd rs1 rs2 s) := by
  unfold execDsetup; simp +contextual (maxDischargeDepth := 60) [*]
@[simp] theorem execDsetupu_wf (x : CtxId) (rd : Reg5) (rs1 : Reg5) (rs2 : Reg5) (s : State) (hs : Memory.wf s.mem = true) :
    OutWf (execDsetupu x rd rs1 rs2 s) := by
  unfold execDsetupu; simp +contextual (maxDischargeDepth := 60) [*]
@[simp] theorem execDstep_wf (x : CtxId) (rd : Reg5) (rs2 : Reg5) (s : State) (hs : Memory.wf s.mem = true) :
    OutWf (execDstep x rd rs2 s) := by
  unfold execDstep; (repeat' split) <;> (try simp +contextual (maxDischargeDepth := 60) [*])
@[simp] theorem execDfix_wf (x : CtxId) (rd : Reg5) (rs1 : Reg5) (s : State) (hs : Memory.wf s.mem = true) :
    OutWf (execDfix x rd rs1 s) := by
  unfold execDfix; (repeat' split) <;> (try simp +contextual (maxDischargeDepth := 60) [*])
end Sys2Proof.Machine
end

