-- ==== Sys2Proof/Laws/KeepFlash.lean ====
section
/-! SUPPORT. Sys2Proof/Laws/KeepFlash.lean: the memory keeps its canonical form under flash, the ledger, storage commands and the host interface. -/

namespace Sys2Proof.Machine

@[simp] theorem State.onAlm_wf (s : State) (f : Almanac → Almanac) (hs : Memory.wf s.mem = true) :
    Memory.wf (State.onAlm s f).mem = true := by
  unfold State.onAlm; simp +contextual (maxDischargeDepth := 60) [*]
@[simp] theorem State.tabTouch_wf (s : State) (a : Nat) (hs : Memory.wf s.mem = true) :
    Memory.wf (State.tabTouch s a).mem = true := by
  unfold State.tabTouch; simp +contextual (maxDischargeDepth := 60) [*]
@[simp] theorem State.setNslot_wf (s : State) (loc : Nat) (x : NSlot) (hs : Memory.wf s.mem = true) :
    Memory.wf (State.setNslot s loc x).mem = true := by
  unfold State.setNslot; simp +contextual (maxDischargeDepth := 60) [*]
@[simp] theorem State.pageLoad_wf (s : State) (p : Nat) (hs : Memory.wf s.mem = true) :
    Memory.wf (State.pageLoad s p).mem = true := by
  unfold State.pageLoad; simp +contextual (maxDischargeDepth := 60) [*]
@[simp] theorem State.dirtyAdd_wf (s : State) (p : Nat) (sq : Nat) (hs : Memory.wf s.mem = true) :
    Memory.wf (State.dirtyAdd s p sq).mem = true := by
  unfold State.dirtyAdd; simp +contextual (maxDischargeDepth := 60) [*]
@[simp] theorem State.setTab64_wf (s : State) (a : Nat) (v : Nat) (sq : Nat) (hs : Memory.wf s.mem = true) :
    Memory.wf (State.setTab64 s a v sq).mem = true := by
  unfold State.setTab64; simp +contextual (maxDischargeDepth := 60) [*]
@[simp] theorem State.setBlkInfo_wf (s : State) (blk : Nat) (v : W64) (sq : Nat) (hs : Memory.wf s.mem = true) :
    Memory.wf (State.setBlkInfo s blk v sq).mem = true := by
  unfold State.setBlkInfo; simp +contextual (maxDischargeDepth := 60) [*]
@[simp] theorem State.setBlkState_wf (s : State) (blk : Nat) (st : Nat) (hs : Memory.wf s.mem = true) :
    Memory.wf (State.setBlkState s blk st).mem = true := by
  unfold State.setBlkState; simp +contextual (maxDischargeDepth := 60) [*]
@[simp] theorem State.liveAdd_wf (s : State) (e : Nat) (up : Bool) (sq : Nat) (hs : Memory.wf s.mem = true) :
    Memory.wf (State.liveAdd s e up sq).mem = true := by
  unfold State.liveAdd; simp +contextual (maxDischargeDepth := 60) [*]
@[simp] theorem State.mapSet_wf (s : State) (u : Nat) (e : Nat) (sq : Nat) (hs : Memory.wf s.mem = true) :
    Memory.wf (State.mapSet s u e sq).mem = true := by
  unfold State.mapSet; simp +contextual (maxDischargeDepth := 60) [*]
@[simp] theorem State.entryRead_wf (s : State) (nsid : Nat) (lba : Nat) (hs : Memory.wf s.mem = true) :
    Memory.wf (State.entryRead s nsid lba).1.mem = true := by
  unfold State.entryRead; simp +contextual (maxDischargeDepth := 60) [*]
@[simp] theorem State.queueRetire_wf (s : State) (blk : Nat) (cause : Nat) (ids : List Nat) (hs : Memory.wf s.mem = true) :
    Memory.wf (State.queueRetire s blk cause ids).mem = true := by
  unfold State.queueRetire; simp +contextual (maxDischargeDepth := 60) [*]
@[simp] theorem State.retireBlk_wf (s : State) (blk : Nat) (cause : Nat) (hs : Memory.wf s.mem = true) :
    Memory.wf (State.retireBlk s blk cause).mem = true := by
  unfold State.retireBlk; dsimp only; (repeat' split) <;> (try simp +contextual (maxDischargeDepth := 60) [*])
@[simp] theorem State.refresh_wf (s : State) (blk : Nat) (hs : Memory.wf s.mem = true) :
    Memory.wf (State.refresh s blk).mem = true := by
  unfold State.refresh; simp +contextual (maxDischargeDepth := 60) [*]
@[simp] theorem State.wearLevel_wf (s : State) (g : Nat) (hs : Memory.wf s.mem = true) :
    Memory.wf (State.wearLevel s g).mem = true := by
  unfold State.wearLevel; dsimp only; (repeat' split) <;> (try simp +contextual (maxDischargeDepth := 60) [*])
@[simp] theorem State.loadGroup_wf (s : State) (g : Nat) (hs : Memory.wf s.mem = true) :
    Memory.wf (State.loadGroup s g).mem = true := by
  unfold State.loadGroup; simp +contextual (maxDischargeDepth := 60) [*]
@[simp] theorem State.gcCheck_wf (s : State) (g : Nat) (hs : Memory.wf s.mem = true) :
    Memory.wf (State.gcCheck s g).mem = true := by
  unfold State.gcCheck; dsimp only; (repeat' split) <;> (try simp +contextual (maxDischargeDepth := 60) [*])
@[simp] theorem State.ckptBegin_wf (s : State) (hs : Memory.wf s.mem = true) :
    Memory.wf (State.ckptBegin s).mem = true := by
  unfold State.ckptBegin; simp +contextual (maxDischargeDepth := 60) [*]
@[simp] theorem State.openBlk_wf (s : State) (g : Nat) (stream : Nat) (deep : Bool) (hs : Memory.wf s.mem = true) :
    Memory.wf (State.openBlk s g stream deep).mem = true := by
  unfold State.openBlk; dsimp only; (repeat' split) <;> (try simp +contextual (maxDischargeDepth := 60) [*])
@[simp] theorem execBlockOpen_wf (g : Fin 32) (stream : BitVec 4) (s : State) (hs : Memory.wf s.mem = true) :
    OutWf (execBlockOpen g stream s) := by
  unfold execBlockOpen; simp +contextual (maxDischargeDepth := 60) [*]
@[simp] theorem State.programAt_wf (s : State) (o : OpenBlk) (slots : List NSlot) (hs : Memory.wf s.mem = true) :
    Memory.wf (State.programAt s o slots).1.mem = true := by
  unfold State.programAt; simp +contextual (maxDischargeDepth := 60) [*]
@[simp] theorem State.withSeq_wf (s : State) (l : List NSlot) (hs : Memory.wf s.mem = true) :
    Memory.wf (State.withSeq s l).1.mem = true := by
  unfold State.withSeq; simp +contextual (maxDischargeDepth := 60) [*]
@[simp] theorem State.setProg_wf (s : State) (g : Nat) (p : Option Prog) (hs : Memory.wf s.mem = true) :
    Memory.wf (State.setProg s g p).mem = true := by
  unfold State.setProg; simp +contextual (maxDischargeDepth := 60) [*]
@[simp] theorem State.issueIn_wf (s : State) (g : Nat) (stream : Nat) (fill : Bool) (hs : Memory.wf s.mem = true) :
    Memory.wf (State.issueIn s g stream fill).mem = true := by
  unfold State.issueIn; (repeat' split) <;> (try simp +contextual (maxDischargeDepth := 60) [*])
@[simp] theorem State.pump_wf (s : State) (hs : Memory.wf s.mem = true) :
    Memory.wf (State.pump s).mem = true := by
  unfold State.pump; simp +contextual (maxDischargeDepth := 60) [*]
@[simp] theorem State.setStCmd_wf (s : State) (id : Nat) (c : StCmd) (hs : Memory.wf s.mem = true) :
    Memory.wf (State.setStCmd s id c).mem = true := by
  unfold State.setStCmd; simp +contextual (maxDischargeDepth := 60) [*]
@[simp] theorem State.stDone_wf (s : State) (id : Nat) (st : BitVec 16) (res : W64) (hs : Memory.wf s.mem = true) :
    Memory.wf (State.stDone s id st res).mem = true := by
  unfold State.stDone; (repeat' split) <;> (try simp +contextual (maxDischargeDepth := 60) [*])
@[simp] theorem State.bufGone_wf (s : State) (id : Nat) (hs : Memory.wf s.mem = true) :
    Memory.wf (State.bufGone s id).mem = true := by
  unfold State.bufGone; simp +contextual (maxDischargeDepth := 60) [*]
@[simp] theorem State.sweep_wf (s : State) (hs : Memory.wf s.mem = true) :
    Memory.wf (State.sweep s).mem = true := by
  unfold State.sweep; simp +contextual (maxDischargeDepth := 60) [*]
@[simp] theorem State.rewait_wf (s : State) (id : Nat) (by_ : List Nat) (hs : Memory.wf s.mem = true) :
    Memory.wf (State.rewait s id by_).mem = true := by
  unfold State.rewait; simp +contextual (maxDischargeDepth := 60) [*]
@[simp] theorem State.sealUnit_wf (s : State) (nsid : Nat) (hs : Memory.wf s.mem = true) :
    Memory.wf (State.sealUnit s nsid).mem = true := by
  unfold State.sealUnit; simp +contextual (maxDischargeDepth := 60) [*]
@[simp] theorem State.recTouch_wf (s : State) (addr : Bool → Nat) (hs : Memory.wf s.mem = true) :
    Memory.wf (State.recTouch s addr).mem = true := by
  unfold State.recTouch; simp +contextual (maxDischargeDepth := 60) [*]
@[simp] theorem State.rootWrite_wf (s : State) (edit : List Byte → List Byte) (hs : Memory.wf s.mem = true) :
    Memory.wf (State.rootWrite s edit).mem = true := by
  unfold State.rootWrite
  exact State.busWrite_wf _ _ _ (State.busWrite_wf _ _ _ (State.recTouch_wf _ _ hs))

@[simp] theorem State.ensureOpen_wf (s : State) (g : Nat) (stream : Nat) (deep : Bool) (hs : Memory.wf s.mem = true) :
    Memory.wf (State.ensureOpen s g stream deep).1.mem = true := by
  unfold State.ensureOpen; (repeat' split) <;> (try simp +contextual (maxDischargeDepth := 60) [*])
@[simp] theorem State.writeSlots_wf (u1 : Nat) (u2 : State) (u3 : Nat) (u4 : Nat) (u5 : Bool) (u6 : List NSlot) (hu2 : Memory.wf u2.mem = true) :
    Memory.wf (State.writeSlots u1 u2 u3 u4 u5 u6).1.mem = true := by
  fun_induction State.writeSlots <;> simp_all +zetaDelta (maxDischargeDepth := 60)
theorem State.writeManifest_wf (s : State) (ckno : Nat) (seq : Nat) (r : State × Nat × Nat × List Nat) (hs : Memory.wf s.mem = true)
    (h : State.writeManifest s ckno seq = some r) : Memory.wf r.1.mem = true := by
  have key : ∀ (n : Nat) (a b : State × List Nat), Memory.wf b.1.mem = true →
      (if a.2.length < n ∨ b.2.length < n then none else some (b.1, a.2.headD 0, b.2.headD 0, (a.2 ++ b.2).map blkOf)) = some r →
      Memory.wf r.1.mem = true := by
    intro n a b hb h
    split at h
    · cases h
    · cases h; exact hb
  unfold State.writeManifest at h
  exact key _ _ _ (State.writeSlots_wf _ _ _ _ _ _ (State.writeSlots_wf _ _ _ _ _ _ (State.busRead_wf _ _ _ _ hs))) h

@[simp] theorem State.ckptRoot_wf (s : State) (ckno seq : Nat) (m : Nat × Nat × List Nat) (hs : Memory.wf s.mem = true) :
    Memory.wf (State.ckptRoot s ckno seq m).mem = true := by
  unfold State.ckptRoot
  exact State.onAlm_wf _ _ (State.setRegBit_wf _ _ _ _ (State.setRegBit_wf _ _ _ _ (State.bump_wf _ _ (State.setReg_wf _ _ _
    (State.setReg_wf _ _ _ (State.rootWrite_wf _ _ hs))))))

@[simp] theorem State.ckptCommit_wf (s : State) (seq : Nat) (hs : Memory.wf s.mem = true) :
    Memory.wf (State.ckptCommit s seq).mem = true := by
  have h := fun r => State.writeManifest_wf s ((s.reg Reg.almCkptNo).toNat + 1) seq r hs
  rw [State.ckptCommit]
  generalize s.writeManifest _ seq = o at h ⊢
  cases o with
  | none => exact hs
  | some m => exact State.ckptRoot_wf _ _ _ _ (h m rfl)

@[simp] theorem State.writePages_wf (s : State) (o : OpenBlk) (ps : List Nat) (hs : Memory.wf s.mem = true) :
    Memory.wf (State.writePages s o ps).mem = true := by
  unfold State.writePages; simp +contextual (maxDischargeDepth := 60) [*]
@[simp] theorem State.tableWrite_wf (s : State) (hs : Memory.wf s.mem = true) :
    Memory.wf (State.tableWrite s).mem = true := by
  unfold State.tableWrite
  dsimp only
  split
  · exact hs
  · split
    · exact hs
    · exact State.writePages_wf _ _ _ (State.fresh_wf _ hs)

@[simp] theorem State.makeRoomGo_wf (k : Nat) (s : State) (n : Nat) (hs : Memory.wf s.mem = true) :
    Memory.wf (State.makeRoomGo k s n).mem = true := by
  induction k generalizing s with
  | zero => exact hs
  | succ k ih =>
    unfold State.makeRoomGo
    split
    · exact hs
    · refine ih _ (State.tableWrite_wf _ ?_)
      split
      · exact State.openBlk_wf _ _ _ _ hs
      · exact hs

@[simp] theorem State.makeRoom_wf (s : State) (n : Nat) (hs : Memory.wf s.mem = true) :
    Memory.wf (State.makeRoom s n).mem = true := by
  unfold State.makeRoom; exact State.makeRoomGo_wf _ _ _ hs

@[simp] theorem State.nsDone_wf (s : State) (st : BitVec 16) (n : Nat) (hs : Memory.wf s.mem = true) :
    Memory.wf (State.nsDone s st n).mem = true := by
  unfold State.nsDone; simp +contextual (maxDischargeDepth := 60) [*]
@[simp] theorem State.nsPhase_wf (s : State) (c : NsCmd) (n : Nat) (hs : Memory.wf s.mem = true) :
    Memory.wf (State.nsPhase s c n).mem = true := by
  unfold State.nsPhase; simp +contextual (maxDischargeDepth := 60) [*]
@[simp] theorem State.nsMake_wf (s : State) (c : NsCmd) (n : Nat) (hs : Memory.wf s.mem = true) :
    Memory.wf (State.nsMake s c n).mem = true := by
  unfold State.nsMake; simp +contextual (maxDischargeDepth := 60) [*]
@[simp] theorem State.unmapGo_wf (k : Nat) (s : State) (base i n : Nat) (hs : Memory.wf s.mem = true) :
    Memory.wf (State.unmapGo k s base i n).1.mem = true := by
  induction k generalizing s i with
  | zero => exact hs
  | succ k ih =>
    unfold State.unmapGo
    have h := State.makeRoom_wf s 2 hs
    split
    · exact hs
    · dsimp only
      split
      · exact h
      · exact ih _ _ (State.mapSet_wf _ _ _ _ h)

@[simp] theorem State.nsUnmake_wf (s : State) (n : Nat) (hs : Memory.wf s.mem = true) :
    Memory.wf (State.nsUnmake s n).mem = true := by
  unfold State.nsUnmake
  refine State.hostEvents_wf _ _ _ (State.setNs_wf _ _ _ (State.onAlm_wf _ _ ?_))
  exact foldl_wf _ _ hs fun s a h => State.bufGone_wf _ _ h

@[simp] theorem State.nsAdvance_wf (u1 : Nat) (u2 : State) (hu2 : Memory.wf u2.mem = true) :
    Memory.wf (State.nsAdvance u1 u2).mem = true := by
  induction u1 generalizing u2 with
  | zero => exact hu2
  | succ k ih =>
    unfold State.nsAdvance
    split
    · exact hu2
    · rename_i c _ _
      have hr := State.unmapGo_wf (262144 * (u2.ns c.nsid).size) u2 (u2.ns c.nsid).lbase c.at_ (262144 * (u2.ns c.nsid).size) hu2
      split
      · split
        · exact hu2
        · split
          · exact ih _ (State.nsDone_wf _ _ _ hu2)
          · split
            · exact State.nsPhase_wf _ _ _ (State.ckptBegin_wf _ (State.nsMake_wf _ _ _ hu2))
            · exact ih _ (State.nsPhase_wf _ _ _ (State.setNs_wf _ _ _ hu2))
      · split
        · exact ih _ (State.nsPhase_wf _ _ _ hu2)
        · split
          · exact ih _ (State.nsPhase_wf _ _ _ (State.sealUnit_wf _ _ hu2))
          · exact hu2
      · split
        · exact hu2
        · dsimp only
          split
          · exact State.nsPhase_wf _ _ _ hr
          · exact State.nsPhase_wf _ _ _ (State.ckptBegin_wf _ (State.nsUnmake_wf _ _ hr))
      · exact hu2

@[simp] theorem State.retireStep_wf (s : State) (e : Nat × Nat × List Nat) (hs : Memory.wf s.mem = true) :
    Memory.wf (State.retireStep s e).mem = true := by
  unfold State.retireStep; simp +contextual (maxDischargeDepth := 60) [*]
@[simp] theorem State.retireGo_wf (s : State) (hs : Memory.wf s.mem = true) :
    Memory.wf (State.retireGo s).mem = true := by
  unfold State.retireGo; simp +contextual (maxDischargeDepth := 60) [*]
@[simp] theorem State.almGo_wf (s : State) (hs : Memory.wf s.mem = true) :
    Memory.wf (State.almGo s).mem = true := by
  unfold State.almGo; simp +contextual (maxDischargeDepth := 60) [*]
@[simp] theorem nsCmd_wf (c : NsCmd) (s : State) (hs : Memory.wf s.mem = true) :
    Memory.wf (nsCmd c s).mem = true := by
  unfold nsCmd; simp +contextual (maxDischargeDepth := 60) [*]
@[simp] theorem execNsCreate_wf (nsid : BitVec 11) (bid : BitVec 12) (size : BitVec 24) (ledger : Bool) (ordered : Bool) (s : State) (hs : Memory.wf s.mem = true) :
    OutWf (execNsCreate nsid bid size ledger ordered s) := by
  unfold execNsCreate; simp +contextual (maxDischargeDepth := 60) [*]
@[simp] theorem execNsDestroy_wf (nsid : BitVec 11) (s : State) (hs : Memory.wf s.mem = true) :
    OutWf (execNsDestroy nsid s) := by
  unfold execNsDestroy; simp +contextual (maxDischargeDepth := 60) [*]
@[simp] theorem State.progPass_wf (s : State) (g : Nat) (p : Prog) (hs : Memory.wf s.mem = true) :
    Memory.wf (State.progPass s g p).mem = true := by
  unfold State.progPass; (repeat' split) <;> (try simp +contextual (maxDischargeDepth := 60) [*])
@[simp] theorem State.badSlots_wf (s : State) (blk : Nat) (page : Nat) (l : List NSlot) (hs : Memory.wf s.mem = true) :
    Memory.wf (State.badSlots s blk page l).mem = true := by
  unfold State.badSlots; simp +contextual (maxDischargeDepth := 60) [*]
@[simp] theorem State.failBlk_wf (s : State) (blk : Nat) (ids : List Nat) (hs : Memory.wf s.mem = true) :
    Memory.wf (State.failBlk s blk ids).mem = true := by
  unfold State.failBlk; simp +contextual (maxDischargeDepth := 60) [*]
@[simp] theorem State.progFail_wf (s : State) (g : Nat) (p : Prog) (hs : Memory.wf s.mem = true) :
    Memory.wf (State.progFail s g p).mem = true := by
  unfold State.progFail; simp +contextual (maxDischargeDepth := 60) [*]
@[simp] theorem execProgramComplete_wf (g : Fin 32) (pass : Bool) (s : State) (hs : Memory.wf s.mem = true) :
    OutWf (execProgramComplete g pass s) := by
  unfold execProgramComplete; (repeat' split) <;> (try simp +contextual (maxDischargeDepth := 60) [*])
@[simp] theorem execProgramUnitFillTimeout_wf (g : Fin 32) (s : State) (hs : Memory.wf s.mem = true) :
    OutWf (execProgramUnitFillTimeout g s) := by
  unfold execProgramUnitFillTimeout; simp +contextual (maxDischargeDepth := 60) [*]
@[simp] theorem State.countRead_wf (s : State) (blk : Nat) (steps : Nat) (ok : Bool) (hs : Memory.wf s.mem = true) :
    Memory.wf (State.countRead s blk steps ok).mem = true := by
  unfold State.countRead; simp +contextual (maxDischargeDepth := 60) [*]
@[simp] theorem State.refreshDue_wf (s : State) (hs : Memory.wf s.mem = true) :
    Memory.wf (State.refreshDue s).mem = true := by
  unfold State.refreshDue; simp +contextual (maxDischargeDepth := 60) [*]
@[simp] theorem State.loseUnit_wf (s : State) (loc : Nat) (blk : Nat) (nsid : Nat) (lba : Nat) (hs : Memory.wf s.mem = true) :
    Memory.wf (State.loseUnit s loc blk nsid lba).mem = true := by
  unfold State.loseUnit; simp +contextual (maxDischargeDepth := 60) [*]
@[simp] theorem State.slotReadEnd_wf (s : State) (loc : Nat) (nsid : Nat) (lba : Nat) (steps : Nat) (ok : Bool) (hs : Memory.wf s.mem = true) :
    Memory.wf (State.slotReadEnd s loc nsid lba steps ok).1.mem = true := by
  unfold State.slotReadEnd
  dsimp only
  split
  · exact State.countRead_wf _ _ _ _ hs
  · exact State.loseUnit_wf _ _ _ _ _ (State.countRead_wf _ _ _ _ hs)

@[simp] theorem State.slotRead_wf (s : State) (loc : Nat) (nsid : Nat) (lba : Nat) (hs : Memory.wf s.mem = true) :
    Memory.wf (State.slotRead s loc nsid lba).1.mem = true := by
  unfold State.slotRead; simp +contextual (maxDischargeDepth := 60) [*]
@[simp] theorem State.copySlots_wf (s : State) (g : Nat) (v : Nat) (o : OpenBlk) (l : List (Nat × NSlot)) (pass : Bool) (hs : Memory.wf s.mem = true) :
    Memory.wf (State.copySlots s g v o l pass).mem = true := by
  unfold State.copySlots
  extract_lets t q u r v w
  have ht : Memory.wf t.mem = true := foldl_wf _ _ hs fun s e h => State.countRead_wf _ _ _ _ (State.fresh_wf _ h)
  clear_value t
  have hq : Memory.wf q.1.mem = true := State.withSeq_wf _ _ ht
  clear_value q
  have hu : Memory.wf u.mem = true := foldl_wf _ _ hq fun s e h => State.onAlm_wf _ _ h
  clear_value u
  have hr : Memory.wf r.1.mem = true := State.programAt_wf _ _ _ hu
  clear_value r
  split
  · refine foldl_wf _ _ (State.addReg_wf _ _ _ hr) fun s x h => ?_
    split
    · exact State.mapSet_wf _ _ _ _ h
    · exact h
  · have hz := State.failBlk_wf _ o.blk [] (State.badSlots_wf _ o.blk o.page q.2 (State.bump_wf _ (Reg.flcCnt g 7) hu))
    split
    · exact hz
    · refine foldl_wf _ _ hz fun s x h => ?_
      split
      · exact State.mapSet_wf _ _ _ _ h
      · exact h

@[simp] theorem execRelocationCopy_wf (g : Fin 32) (readOk : Bool) (progOk : Bool) (s : State) (hs : Memory.wf s.mem = true) :
    OutWf (execRelocationCopy g readOk progOk s) := by
  unfold execRelocationCopy
  refine (OutWf_next _).2 ?_
  split
  · exact hs
  · split
    · exact hs
    · extract_lets ge live tabs data t
      have ht : Memory.wf t.mem = true := by
        simp only [t]
        split
        · exact foldl_wf _ _ hs fun s a h => State.dirtyAdd_wf _ _ _ h
        · exact hs
      clear_value t
      clear_value data
      cases data with
      | nil => exact State.almGo_wf _ ht
      | cons e rest =>
        have hr := State.fresh_wf _ ht
        dsimp only
        split
        · exact ht
        · split
          · exact State.almGo_wf _ (State.loseUnit_wf _ _ _ _ _ (State.countRead_wf _ _ _ _ hr))
          · split
            · exact ht
            · split
              · exact ht
              · exact State.almGo_wf _ (State.gcCheck_wf _ _ (State.copySlots_wf _ _ _ _ _ _ ht))

@[simp] theorem State.eraseBlk_wf (s : State) (blk : Nat) (hs : Memory.wf s.mem = true) :
    Memory.wf (State.eraseBlk s blk).mem = true := by
  unfold State.eraseBlk; simp +contextual (maxDischargeDepth := 60) [*]
@[simp] theorem execBlockErase_wf (blk : BitVec 28) (pass : Bool) (s : State) (hs : Memory.wf s.mem = true) :
    OutWf (execBlockErase blk pass s) := by
  unfold execBlockErase; simp +contextual (maxDischargeDepth := 60) [*]
@[simp] theorem execPatrolRead_wf (blk : BitVec 28) (steps : Nat) (weak : Bool) (s : State) (hs : Memory.wf s.mem = true) :
    OutWf (execPatrolRead blk steps weak s) := by
  unfold execPatrolRead; simp +contextual (maxDischargeDepth := 60) [*]
@[simp] theorem execTablePageWrite_wf (s : State) (hs : Memory.wf s.mem = true) :
    OutWf (execTablePageWrite s) := by
  unfold execTablePageWrite; simp +contextual (maxDischargeDepth := 60) [*]
@[simp] theorem ckptReq_wf (s : State) (hs : Memory.wf s.mem = true) :
    Memory.wf (ckptReq s).mem = true := by
  unfold ckptReq; simp +contextual (maxDischargeDepth := 60) [*]
@[simp] theorem execCkpt_wf (s : State) (hs : Memory.wf s.mem = true) :
    OutWf (execCkpt s) := by
  unfold execCkpt; simp +contextual (maxDischargeDepth := 60) [*]
@[simp] theorem execCheckpointTimer_wf (s : State) (hs : Memory.wf s.mem = true) :
    OutWf (execCheckpointTimer s) := by
  unfold execCheckpointTimer; simp +contextual (maxDischargeDepth := 60) [*]
@[simp] theorem State.nsCommitted_wf (s : State) (hs : Memory.wf s.mem = true) :
    Memory.wf (State.nsCommitted s).mem = true := by
  unfold State.nsCommitted; (repeat' split) <;> (try simp +contextual (maxDischargeDepth := 60) [*])
@[simp] theorem execCheckpointCommit_wf (s : State) (hs : Memory.wf s.mem = true) :
    OutWf (execCheckpointCommit s) := by
  unfold execCheckpointCommit; (repeat' split) <;> (try simp +contextual (maxDischargeDepth := 60) [*])
@[simp] theorem execTablePageLoad_wf (s : State) (hs : Memory.wf s.mem = true) :
    OutWf (execTablePageLoad s) := by
  unfold execTablePageLoad; (repeat' split) <;> (try simp +contextual (maxDischargeDepth := 60) [*])
@[simp] theorem fmtStart_wf (s : State) (hs : Memory.wf s.mem = true) :
    Memory.wf (fmtStart s).mem = true := by
  unfold fmtStart; (repeat' split) <;> (try simp +contextual (maxDischargeDepth := 60) [*])
@[simp] theorem execFormat_wf (s : State) (hs : Memory.wf s.mem = true) :
    OutWf (execFormat s) := by
  unfold execFormat; simp +contextual (maxDischargeDepth := 60) [*]
@[simp] theorem State.fmtTable_wf (s : State) (marked : List Nat) (failed : List Nat) (pe : Nat → Nat) (hs : Memory.wf s.mem = true) :
    Memory.wf (State.fmtTable s marked failed pe).mem = true := by
  unfold State.fmtTable; simp +contextual (maxDischargeDepth := 60) [*]
@[simp] theorem State.fmtZero_wf (s : State) (c : Nat) (hs : Memory.wf s.mem = true) :
    Memory.wf (State.fmtZero s c).mem = true := by
  have kj : ∀ (a n : Nat) (t : State), Memory.wf t.mem = true → Memory.wf (t.busWrite a (List.replicate n 0)).mem = true :=
    fun a n t h => State.busWrite_wf _ _ _ h
  unfold State.fmtZero
  exact kj _ _ _ (foldl_wf _ _ hs fun s a h => State.busWrite_wf _ _ _ h)

@[simp] theorem execFormatComplete_wf (marked : List Nat) (failed : List Nat) (s : State) (hs : Memory.wf s.mem = true) :
    OutWf (execFormatComplete marked failed s) := by
  have kd : ∀ (l : List Nat) (f : Nat → Nat) (t : State), Memory.wf t.mem = true →
      Memory.wf (l.foldl (fun s p => s.dirtyAdd (f p) 0) t).mem = true :=
    fun l f t h => foldl_wf _ _ h (fun s a h => State.dirtyAdd_wf _ _ _ h)
  unfold execFormatComplete
  refine (OutWf_next _).2 ?_
  split
  · exact hs
  · extract_lets s1
    have h1 : Memory.wf s1.mem = true := State.setRegBit_wf _ _ _ _ hs
    clear_value s1
    refine ite_wf (fun _ => ?_) fun _ => ?_
    · exact State.almGo_wf _ (State.setReg_wf _ _ _ (State.onAlm_wf _ _ (State.rootWrite_wf _ _ h1)))
    · rename_i had old pe c s2 s3 s4 s5 s6 s7 s8 s9 bad s10 s11 s12 pages gs o u s13 s14 hn
      have h2 : Memory.wf s2.mem = true := foldl_wf _ _ h1 fun s a h => State.bufGone_wf _ _ h
      clear_value s2
      clear_value c
      have h3 : Memory.wf s3.mem = true := State.onAlm_wf _ _ h2
      clear_value s3
      have h4 : Memory.wf s4.mem = true := State.setReg_wf _ _ _ (State.setReg_wf _ _ _ h3)
      clear_value s4
      have h5 : Memory.wf s5.mem = true := State.setReg_wf _ _ _ (State.setReg_wf _ _ _ h4)
      clear_value s5
      have h6 : Memory.wf s6.mem = true := State.setReg_wf _ _ _ (State.setReg_wf _ _ _ h5)
      clear_value s6
      have h7 : Memory.wf s7.mem = true := State.fmtTable_wf _ _ _ _ (State.fmtZero_wf _ _ h6)
      clear_value s7
      have h8 : Memory.wf s8.mem = true := kd _ (fun p => 512 * c + p) _ h7
      clear_value s8
      have h9 : Memory.wf s9.mem = true := State.wpUpdate_wf _ (State.setRegBit_wf _ _ _ _ (State.setRegBit_wf _ _ _ _ (State.setRegBit_wf _ _ _ _ h8)))
      clear_value s9
      clear_value bad
      have h10 : Memory.wf s10.mem = true := State.addReg_wf _ _ _ h9
      clear_value s10
      have h11 : Memory.wf s11.mem = true := by
        simp only [s11]
        split
        · exact h10
        · exact State.raiseEvt_wf _ _ (State.setRegBit_wf _ _ _ _ h10)
      clear_value s11
      have h12 : Memory.wf s12.mem = true := State.setReg_wf _ _ _ h11
      clear_value s12
      have ho : Memory.wf o.1.mem = true := State.ensureOpen_wf _ _ _ _ h12
      clear_value o
      have h13 : Memory.wf s13.mem = true := by
        refine foldl_wf _ _ ho fun s a h => ?_
        have h' := State.ensureOpen_wf s (gs.getD (a % gs.length) 0) 3 true h
        dsimp only
        split
        · exact State.writePages_wf _ _ _ h'
        · exact h'
      clear_value s13
      exact State.almGo_wf _ (State.nsCommitted_wf _ (State.raiseEvt_wf _ _ (State.setRegBit_wf _ _ _ _ (State.setReg_wf _ _ _
        (State.ckptCommit_wf _ _ (State.onAlm_wf _ _ h13))))))

@[simp] theorem State.manLoad_wf (s : State) (l : List Byte) (hs : Memory.wf s.mem = true) :
    Memory.wf (State.manLoad s l).mem = true := by
  unfold State.manLoad; simp +contextual (maxDischargeDepth := 60) [*]
@[simp] theorem State.replaySlot_wf (s : State) (loc : Nat) (x : NSlot) (hs : Memory.wf s.mem = true) :
    Memory.wf (State.replaySlot s loc x).mem = true := by
  unfold State.replaySlot; simp +contextual (maxDischargeDepth := 60) [*]
@[simp] theorem State.replayLedger_wf (s : State) (l : List (Nat × NSlot)) (hs : Memory.wf s.mem = true) :
    Memory.wf (State.replayLedger s l).mem = true := by
  unfold State.replayLedger; simp +contextual (maxDischargeDepth := 60) [*]
@[simp] theorem State.replay_wf (s : State) (l : List Byte) (hs : Memory.wf s.mem = true) :
    Memory.wf (State.replay s l).mem = true := by
  unfold State.replay; simp +contextual (maxDischargeDepth := 60) [*]
@[simp] theorem State.manLost_wf (s : State) (hs : Memory.wf s.mem = true) :
    Memory.wf (State.manLost s).mem = true := by
  unfold State.manLost; simp +contextual (maxDischargeDepth := 60) [*]
@[simp] theorem State.almRecover_wf (s : State) (root : List Byte) (hs : Memory.wf s.mem = true) :
    Memory.wf (State.almRecover s root).1.mem = true := by
  unfold State.almRecover; (repeat' split) <;> (try simp +contextual (maxDischargeDepth := 60) [*])
@[simp] theorem State.por_wf (s : State) (hs : Memory.wf s.mem = true) :
    Memory.wf (State.por s).mem = true := by
  unfold State.por; simp +contextual (maxDischargeDepth := 60) [*]
@[simp] theorem State.porFalls_wf (s : State) (hs : Memory.wf s.mem = true) :
    Memory.wf (State.porFalls s).mem = true := by
  unfold State.porFalls; simp +contextual (maxDischargeDepth := 60) [*]
@[simp] theorem State.stopInit_wf (s : State) (hs : Memory.wf s.mem = true) :
    Memory.wf (State.stopInit s).mem = true := by
  unfold State.stopInit; simp +contextual (maxDischargeDepth := 60) [*]
@[simp] theorem execPorN_wf (level : Bool) (s : State) (hs : Memory.wf s.mem = true) :
    OutWf (execPorN level s) := by
  unfold execPorN; simp +contextual (maxDischargeDepth := 60) [*]
@[simp] theorem devRstWrite_wf (v : BitVec 32) (s : State) (hs : Memory.wf s.mem = true) :
    Memory.wf (devRstWrite v s).mem = true := by
  unfold devRstWrite; simp +contextual (maxDischargeDepth := 60) [*]
@[simp] theorem execDevRstWrite_wf (v : BitVec 32) (s : State) (hs : Memory.wf s.mem = true) :
    OutWf (execDevRstWrite v s) := by
  unfold execDevRstWrite; simp +contextual (maxDischargeDepth := 60) [*]
@[simp] theorem State.stepDone_wf (s : State) (k : Nat) (hs : Memory.wf s.mem = true) :
    Memory.wf (State.stepDone s k).mem = true := by
  unfold State.stepDone; simp +contextual (maxDischargeDepth := 60) [*]
@[simp] theorem State.initFail_wf (s : State) (bit : Nat) (hs : Memory.wf s.mem = true) :
    Memory.wf (State.initFail s bit).mem = true := by
  unfold State.initFail; simp +contextual (maxDischargeDepth := 60) [*]
@[simp] theorem State.initCause_wf (s : State) (c : Nat) (hs : Memory.wf s.mem = true) :
    Memory.wf (State.initCause s c).mem = true := by
  unfold State.initCause; simp +contextual (maxDischargeDepth := 60) [*]
@[simp] theorem execPllLock_wf (s : State) (hs : Memory.wf s.mem = true) :
    OutWf (execPllLock s) := by
  unfold execPllLock; simp +contextual (maxDischargeDepth := 60) [*]
@[simp] theorem execStagehandBoot_wf (okA : Bool) (okB : Bool) (s : State) (hs : Memory.wf s.mem = true) :
    OutWf (execStagehandBoot okA okB s) := by
  unfold execStagehandBoot; simp +contextual (maxDischargeDepth := 60) [*]
@[simp] theorem State.rootLoad_wf (s : State) (l : List Byte) (hs : Memory.wf s.mem = true) :
    Memory.wf (State.rootLoad s l).mem = true := by
  have key : ∀ (t : State) (v), Memory.wf t.mem = true → Memory.wf { t with ctl := { t.ctl with powered0 := v } }.mem = true := fun _ _ h => h
  unfold State.rootLoad
  exact key _ _ (State.setReg_wf _ _ _ (State.setRegBit_wf _ _ _ _ (State.setReg_wf _ _ _ hs)))
@[simp] theorem State.rootTake_wf (s : State) (hs : Memory.wf s.mem = true) : Memory.wf (State.rootTake s).mem = true := by
  rw [State.rootTake]
  generalize s.recRead rootMagic rootAddr = r
  generalize ((s.recWinner rootMagic rootAddr).getD false) = b
  cases r with
  | none => exact State.initFail_wf _ _ (State.setRegBit_wf _ _ _ _ hs)
  | some l =>
    have h := State.rootLoad_wf (s.setRegBit Reg.devInitStat 5 b) l (State.setRegBit_wf _ _ _ _ hs)
    exact ite_wf (fun _ => State.initFail_wf _ _ h) fun _ => h

@[simp] theorem State.persTake_wf (s : State) (hs : Memory.wf s.mem = true) : Memory.wf (State.persTake s).mem = true := by
  have key : ∀ (a b c : W64) (t : State), Memory.wf t.mem = true →
      Memory.wf ((((t.setReg Reg.huCfg0 a).setReg Reg.huCfg1 b).setReg Reg.huCfg2 c).stepDone 6).mem = true :=
    fun a b c t h => State.stepDone_wf _ _ (State.setReg_wf _ _ _ (State.setReg_wf _ _ _ (State.setReg_wf _ _ _ h)))
  unfold State.persTake
  cases s.pers with
  | none => exact State.initFail_wf _ _ hs
  | some l => exact key _ _ _ _ (State.setRegBit_wf _ _ _ _ hs)

@[simp] theorem execRecordRead_wf (s : State) (hs : Memory.wf s.mem = true) :
    OutWf (execRecordRead s) := by
  unfold execRecordRead
  exact (OutWf_next _).2 (ite_wf (fun _ => hs) fun _ => State.persTake_wf _ (State.rootTake_wf _ (State.recTouch_wf _ _ (State.recTouch_wf _ _ hs))))

@[simp] theorem execSramInit_wf (pass : Bool) (s : State) (hs : Memory.wf s.mem = true) :
    OutWf (execSramInit pass s) := by
  unfold execSramInit; simp +contextual (maxDischargeDepth := 60) [*]
@[simp] theorem State.ctlInit_wf (s : State) (n : Nat) (r : CtlRep) (inUse : Bool) (hs : Memory.wf s.mem = true) :
    Memory.wf (State.ctlInit s n r inUse).mem = true := by
  unfold State.ctlInit; simp +contextual (maxDischargeDepth := 60) [*]
@[simp] theorem State.flashInit_wf (s : State) (r : List ChanRep) (hs : Memory.wf s.mem = true) :
    Memory.wf (State.flashInit s r).mem = true := by
  unfold State.flashInit; dsimp only; (repeat' split) <;> (try simp +contextual (maxDischargeDepth := 60) [*])
@[simp] theorem execMemoryTraining_wf (r : TrainRep) (s : State) (hs : Memory.wf s.mem = true) :
    OutWf (execMemoryTraining r s) := by
  unfold execMemoryTraining; simp +contextual (maxDischargeDepth := 60) [*]
@[simp] theorem execPowerOnFill_wf (s : State) (hs : Memory.wf s.mem = true) :
    OutWf (execPowerOnFill s) := by
  unfold execPowerOnFill; simp +contextual (maxDischargeDepth := 60) [*]
@[simp] theorem loadGo_wf (k : Nat) (s : State) (a : Nat) (l : List Byte) (hs : Memory.wf s.mem = true) :
    Memory.wf (loadGo k s a l).mem = true := by
  induction k generalizing s a l with
  | zero => exact hs
  | succ k ih =>
    cases l with
    | nil => exact hs
    | cons b t =>
      unfold loadGo
      refine ih _ _ _ ?_
      split
      · exact hs
      · exact State.busWrite_wf _ _ _ hs

@[simp] theorem State.loadImage_wf (s : State) (a : Nat) (l : List Byte) (hs : Memory.wf s.mem = true) :
    Memory.wf (State.loadImage s a l).mem = true := by
  unfold State.loadImage; exact loadGo_wf _ _ _ _ hs

@[simp] theorem State.releaseCores_wf (s : State) (pc : W64) (hs : Memory.wf s.mem = true) :
    Memory.wf (State.releaseCores s pc).mem = true := by
  unfold State.releaseCores; simp +contextual (maxDischargeDepth := 60) [*]
@[simp] theorem execImageLoad_wf (m : List Byte) (k : List Byte) (mOk : Bool) (kOk : Bool) (s : State) (hs : Memory.wf s.mem = true) :
    OutWf (execImageLoad m k mOk kOk s) := by
  unfold execImageLoad; simp +contextual (maxDischargeDepth := 60) [*]
@[simp] theorem State.step8_wf (s : State) (hs : Memory.wf s.mem = true) :
    Memory.wf (State.step8 s).mem = true := by
  unfold State.step8
  split
  · exact State.stepDone_wf _ _ hs
  · exact hs

@[simp] theorem execAlmanacRecovery_wf (s : State) (hs : Memory.wf s.mem = true) :
    OutWf (execAlmanacRecovery s) := by
  unfold execAlmanacRecovery; simp +contextual (maxDischargeDepth := 60) [*]
@[simp] theorem execInitEnd_wf (s : State) (hs : Memory.wf s.mem = true) :
    OutWf (execInitEnd s) := by
  unfold execInitEnd; simp +contextual (maxDischargeDepth := 60) [*]
@[simp] theorem execPersonalityRecordReceive_wf (body : List Byte) (s : State) (hs : Memory.wf s.mem = true) :
    OutWf (execPersonalityRecordReceive body s) := by
  have key : ∀ (c : Prop) [Decidable c] (p : Bool → Nat) (a b : Nat) (l m : List Byte),
      OutWf (.next (if c then s else ((s.recTouch p).busWrite a l).busWrite b m)) := by
    intro c _ p a b l m
    refine (OutWf_next _).2 ?_
    split
    · exact hs
    · exact State.busWrite_wf _ _ _ (State.busWrite_wf _ _ _ (State.recTouch_wf _ _ hs))
  exact key _ _ _ _ _ _

@[simp] theorem State.dgAbandon_wf (s : State) (hs : Memory.wf s.mem = true) :
    Memory.wf (State.dgAbandon s).mem = true := by
  unfold State.dgAbandon; simp +contextual (maxDischargeDepth := 60) [*]
@[simp] theorem State.moversGate_wf (s : State) (hs : Memory.wf s.mem = true) :
    Memory.wf (State.moversGate s).mem = true := by
  unfold State.moversGate; simp +contextual (maxDischargeDepth := 60) [*]
@[simp] theorem State.domAbandon_wf (s : State) (hs : Memory.wf s.mem = true) :
    Memory.wf (State.domAbandon s).mem = true := by
  unfold State.domAbandon; simp +contextual (maxDischargeDepth := 60) [*]
@[simp] theorem State.rowsAbandon_wf (s : State) (hs : Memory.wf s.mem = true) :
    Memory.wf (State.rowsAbandon s).mem = true := by
  unfold State.rowsAbandon; simp +contextual (maxDischargeDepth := 60) [*]
@[simp] theorem State.gate_wf (s : State) (hs : Memory.wf s.mem = true) :
    Memory.wf (State.gate s).mem = true := by
  unfold State.gate; simp +contextual (maxDischargeDepth := 60) [*]
@[simp] theorem State.huOff_wf (s : State) (hs : Memory.wf s.mem = true) :
    Memory.wf (State.huOff s).mem = true := by
  unfold State.huOff; simp +contextual (maxDischargeDepth := 60) [*]
@[simp] theorem State.flushUnit_wf (s : State) (g : Nat) (stream : Nat) (l : List BufE) (hs : Memory.wf s.mem = true) :
    Memory.wf (State.flushUnit s g stream l).1.mem = true := by
  unfold State.flushUnit
  extract_lets o
  have ho : Memory.wf o.1.mem = true := State.ensureOpen_wf s g stream true hs
  clear_value o
  split
  · exact ho
  · extract_lets n d q p t u
    have hp : Memory.wf p.1.mem = true := State.programAt_wf _ _ _ (State.withSeq_wf _ _ ho)
    clear_value p
    have ht : Memory.wf t.mem = true := State.addReg_wf _ _ _ hp
    clear_value t
    have hu : Memory.wf u.mem = true := by
      refine foldl_wf _ _ ht fun s x h => ?_
      split
      · exact State.mapSet_wf _ _ _ _ h
      · exact h
    clear_value u
    exact foldl_wf _ _ hu fun s a h => State.bufGone_wf _ _ h

@[simp] theorem State.flushData_wf (u1 : Nat) (u2 : State) (u3 u4 : Nat) (u5 : List BufE) (hu2 : Memory.wf u2.mem = true) :
    Memory.wf (State.flushData u1 u2 u3 u4 u5).mem = true := by
  induction u1 generalizing u2 u3 u5 with
  | zero => exact hu2
  | succ k ih =>
    cases u5 with
    | nil => exact hu2
    | cons b t =>
      unfold State.flushData
      exact ih _ _ _ (State.flushUnit_wf _ _ _ _ hu2)

@[simp] theorem State.flushTables_wf (u1 : Nat) (u2 : State) (u3 : Nat) (u4 : List Nat) (hu2 : Memory.wf u2.mem = true) :
    Memory.wf (State.flushTables u1 u2 u3 u4).mem = true := by
  induction u1 generalizing u2 u3 u4 with
  | zero => exact hu2
  | succ k ih =>
    cases u4 with
    | nil => exact hu2
    | cons p t =>
      refine ih _ _ _ ?_
      have h := State.ensureOpen_wf u2 (u2.flushGroup u3 3) 3 true hu2
      split
      · exact State.writePages_wf _ _ _ h
      · exact h

@[simp] theorem State.flush_wf (s : State) (hs : Memory.wf s.mem = true) :
    Memory.wf (State.flush s).mem = true := by
  unfold State.flush
  extract_lets s1 s2 s3 r g b part b2 s4 seq s5 d
  have h1 : Memory.wf s1.mem = true := State.onAlm_wf _ _ hs
  clear_value s1
  have h2 : Memory.wf s2.mem = true := foldl_wf _ _ h1 (fun s a h => by split; exacts [State.progPass_wf _ _ _ h, h])
  clear_value s2
  have h3 : Memory.wf s3.mem = true := foldl_wf _ _ h2 (fun s a h => by split; exacts [State.sealUnit_wf _ _ h, h])
  clear_value s3
  have hr : Memory.wf r.2.mem = true := State.fresh_wf _ h3
  clear_value r
  clear_value b2
  have h4 : Memory.wf s4.mem = true := State.flushData_wf _ _ _ _ _ (State.flushData_wf _ _ _ _ _ hr)
  clear_value s4
  have h5 : Memory.wf s5.mem = true := State.onAlm_wf _ _ (State.setRegBit_wf _ _ _ _ h4)
  clear_value s5
  exact State.ckptCommit_wf _ _ (State.flushTables_wf _ _ _ _ h5)
@[simp] theorem State.powerFail_wf (s : State) (clk : Option Nat) (hs : Memory.wf s.mem = true) :
    Memory.wf (State.powerFail s clk).mem = true := by
  unfold State.powerFail; simp +contextual (maxDischargeDepth := 60) [*]
@[simp] theorem execPfN_wf (lowNs : Nat) (s : State) (hs : Memory.wf s.mem = true) :
    OutWf (execPfN lowNs s) := by
  unfold execPfN; simp +contextual (maxDischargeDepth := 60) [*]
@[simp] theorem State.holdRecord_wf (s : State) (hs : Memory.wf s.mem = true) :
    Memory.wf (State.holdRecord s).mem = true := by
  unfold State.holdRecord; simp +contextual (maxDischargeDepth := 60) [*]
@[simp] theorem execHoldupDone_wf (s : State) (hs : Memory.wf s.mem = true) :
    OutWf (execHoldupDone s) := by
  unfold execHoldupDone; simp +contextual (maxDischargeDepth := 60) [*]
@[simp] theorem execClockLockLost_wf (i : Fin 20) (s : State) (hs : Memory.wf s.mem = true) :
    OutWf (execClockLockLost i s) := by
  unfold execClockLockLost; simp +contextual (maxDischargeDepth := 60) [*]
@[simp] theorem execClockRelock_wf (i : Fin 20) (s : State) (hs : Memory.wf s.mem = true) :
    OutWf (execClockRelock i s) := by
  unfold execClockRelock; simp +contextual (maxDischargeDepth := 60) [*]
@[simp] theorem execClockLostTimeout_wf (i : Fin 20) (s : State) (hs : Memory.wf s.mem = true) :
    OutWf (execClockLostTimeout i s) := by
  unfold execClockLostTimeout; simp +contextual (maxDischargeDepth := 60) [*]
@[simp] theorem State.limitWrite_wf (s : State) (n : Nat) (hs : Memory.wf s.mem = true) :
    Memory.wf (State.limitWrite s n).mem = true := by
  unfold State.limitWrite; simp +contextual (maxDischargeDepth := 60) [*]
@[simp] theorem State.limitApply_wf (s : State) (n : Nat) (hs : Memory.wf s.mem = true) :
    Memory.wf (State.limitApply s n).mem = true := by
  have k1 : ∀ (t : State) v, Memory.wf t.mem = true → Memory.wf { t with ctl := { t.ctl with riseAt := v } }.mem = true := fun _ _ h => h
  have k2 : ∀ (t : State) v w, Memory.wf t.mem = true → Memory.wf { t with ctl := { t.ctl with riseAt := v, riseTo := w } }.mem = true := fun _ _ _ h => h
  have k3 : ∀ (t : State) w, Memory.wf t.mem = true → Memory.wf { t with ctl := { t.ctl with riseTo := w } }.mem = true := fun _ _ h => h
  have h := State.setRegFld_wf s Reg.huLimit 16 10 n hs
  generalize hq : s.setRegFld Reg.huLimit 16 10 n = q at h
  unfold State.limitApply
  rw [hq]
  dsimp only
  split
  · exact State.limitWrite_wf _ _ h
  · split
    · exact k1 _ _ h
    · split
      · exact k2 _ _ _ h
      · split
        · exact State.limitWrite_wf _ _ h
        · exact k3 _ _ h
@[simp] theorem execVoltageSample_wf (senseMv : Nat) (s : State) (hs : Memory.wf s.mem = true) :
    OutWf (execVoltageSample senseMv s) := by
  unfold execVoltageSample; simp +contextual (maxDischargeDepth := 60) [*]
@[simp] theorem measReq_wf (s : State) (hs : Memory.wf s.mem = true) :
    Memory.wf (measReq s).mem = true := by
  unfold measReq; simp +contextual (maxDischargeDepth := 60) [*]
@[simp] theorem execMeas_wf (s : State) (hs : Memory.wf s.mem = true) :
    OutWf (execMeas s) := by
  unfold execMeas; simp +contextual (maxDischargeDepth := 60) [*]
@[simp] theorem execMeasDue_wf (s : State) (hs : Memory.wf s.mem = true) :
    OutWf (execMeasDue s) := by
  unfold execMeasDue; simp +contextual (maxDischargeDepth := 60) [*]
@[simp] theorem execMeasStart_wf (s : State) (hs : Memory.wf s.mem = true) :
    OutWf (execMeasStart s) := by
  unfold execMeasStart; simp +contextual (maxDischargeDepth := 60) [*]
@[simp] theorem execMeasEnd_wf (dtUs : Nat) (s : State) (hs : Memory.wf s.mem = true) :
    OutWf (execMeasEnd dtUs s) := by
  unfold execMeasEnd; simp +contextual (maxDischargeDepth := 60) [*]
@[simp] theorem execLimitRecompute_wf (s : State) (hs : Memory.wf s.mem = true) :
    OutWf (execLimitRecompute s) := by
  unfold execLimitRecompute; simp +contextual (maxDischargeDepth := 60) [*]
@[simp] theorem State.placeBytes_wf (u1 : Nat) (u2 : State) (u3 : Nat) (u4 : Bool) (u5 : List Byte) (hu2 : Memory.wf u2.mem = true) :
    Memory.wf (State.placeBytes u1 u2 u3 u4 u5).mem = true := by
  fun_induction State.placeBytes <;> simp_all +zetaDelta (maxDischargeDepth := 60)
@[simp] theorem State.appendAt_wf (s : State) (nsid : Nat) (prot : Bool) (l : List Byte) (hs : Memory.wf s.mem = true) :
    Memory.wf (State.appendAt s nsid prot l).1.mem = true := by
  unfold State.appendAt; simp +contextual (maxDischargeDepth := 60) [*]
@[simp] theorem execSealTimeout_wf (nsid : BitVec 11) (s : State) (hs : Memory.wf s.mem = true) :
    OutWf (execSealTimeout nsid s) := by
  unfold execSealTimeout; simp +contextual (maxDischargeDepth := 60) [*]
@[simp] theorem State.lgDone_wf (s : State) (op : Nat) (st : BitVec 16) (hs : Memory.wf s.mem = true) :
    Memory.wf (State.lgDone s op st).mem = true := by
  unfold State.lgDone; simp +contextual (maxDischargeDepth := 60) [*]
@[simp] theorem State.unitRead_wf (s : State) (nsid : Nat) (lba : Nat) (hs : Memory.wf s.mem = true) :
    Memory.wf (State.unitRead s nsid lba).1.mem = true := by
  unfold State.unitRead
  split
  · exact hs
  · have h := State.entryRead_wf s nsid lba hs
    split <;> rename_i heq <;> rw [heq] at h
    · exact h
    · split
      · exact h
      · split
        · exact h
        · split
          · exact h
          · exact State.slotRead_wf _ _ _ _ h

@[simp] theorem State.setLgCv_wf (s : State) (v : BitVec 256) (hs : Memory.wf s.mem = true) :
    Memory.wf (State.setLgCv s v).mem = true := by
  unfold State.setLgCv; simp +contextual (maxDischargeDepth := 60) [*]
@[simp] theorem lgReadChain_wf (s : State) (hs : Memory.wf s.mem = true) :
    Memory.wf (lgReadChain s).mem = true := by
  unfold lgReadChain; dsimp only; (repeat' split) <;> (try simp +contextual (maxDischargeDepth := 60) [*])
@[simp] theorem execLgReadChain_wf (s : State) (hs : Memory.wf s.mem = true) :
    OutWf (execLgReadChain s) := by
  unfold execLgReadChain; simp +contextual (maxDischargeDepth := 60) [*]
@[simp] theorem lgSeal_wf (s : State) (hs : Memory.wf s.mem = true) :
    Memory.wf (lgSeal s).mem = true := by
  unfold lgSeal; simp +contextual (maxDischargeDepth := 60) [*]
@[simp] theorem execLgSeal_wf (s : State) (hs : Memory.wf s.mem = true) :
    OutWf (execLgSeal s) := by
  unfold execLgSeal; simp +contextual (maxDischargeDepth := 60) [*]
@[simp] theorem lgCapture_wf (s : State) (hs : Memory.wf s.mem = true) :
    Memory.wf (lgCapture s).mem = true := by
  unfold lgCapture; simp +contextual (maxDischargeDepth := 60) [*]
@[simp] theorem execLgHeadCapture_wf (s : State) (hs : Memory.wf s.mem = true) :
    OutWf (execLgHeadCapture s) := by
  unfold execLgHeadCapture; simp +contextual (maxDischargeDepth := 60) [*]
@[simp] theorem lgSelWrite_wf (v : BitVec 32) (s : State) (hs : Memory.wf s.mem = true) :
    Memory.wf (lgSelWrite v s).mem = true := by
  unfold lgSelWrite; simp +contextual (maxDischargeDepth := 60) [*]
@[simp] theorem execLgSelWrite_wf (v : BitVec 32) (s : State) (hs : Memory.wf s.mem = true) :
    OutWf (execLgSelWrite v s) := by
  unfold execLgSelWrite; simp +contextual (maxDischargeDepth := 60) [*]
@[simp] theorem State.psEval_wf (s : State) (hs : Memory.wf s.mem = true) :
    Memory.wf (State.psEval s).mem = true := by
  unfold State.psEval; simp +contextual (maxDischargeDepth := 60) [*]
@[simp] theorem State.psWake_wf (s : State) (hs : Memory.wf s.mem = true) :
    Memory.wf (State.psWake s).mem = true := by
  unfold State.psWake; simp +contextual (maxDischargeDepth := 60) [*]
@[simp] theorem State.psRequest_wf (s : State) (hs : Memory.wf s.mem = true) :
    Memory.wf (State.psRequest s).mem = true := by
  unfold State.psRequest; simp +contextual (maxDischargeDepth := 60) [*]
@[simp] theorem almPsWrite_wf (v : BitVec 32) (s : State) (hs : Memory.wf s.mem = true) :
    Memory.wf (almPsWrite v s).mem = true := by
  unfold almPsWrite; simp +contextual (maxDischargeDepth := 60) [*]
@[simp] theorem execAlmPsWrite_wf (v : BitVec 32) (s : State) (hs : Memory.wf s.mem = true) :
    OutWf (execAlmPsWrite v s) := by
  unfold execAlmPsWrite; simp +contextual (maxDischargeDepth := 60) [*]
@[simp] theorem State.psEnd_wf (s : State) (hs : Memory.wf s.mem = true) :
    Memory.wf (State.psEnd s).mem = true := by
  unfold State.psEnd; simp +contextual (maxDischargeDepth := 60) [*]
@[simp] theorem State.extentList_wf (s : State) (e : Item) (hs : Memory.wf s.mem = true) :
    Memory.wf (State.extentList s e).1.mem = true := by
  unfold State.extentList; dsimp only; (repeat' split) <;> (try simp +contextual (maxDischargeDepth := 60) [*])
@[simp] theorem State.extents_wf (s : State) (e : Item) (toDevice : Bool) (hs : Memory.wf s.mem = true) :
    Memory.wf (State.extents s e toDevice).1.mem = true := by
  unfold State.extents; dsimp only; (repeat' split) <;> (try simp +contextual (maxDischargeDepth := 60) [*])
@[simp] theorem State.hostBytes_wf (s : State) (n : Nat) (hs : Memory.wf s.mem = true) :
    Memory.wf (State.hostBytes s n).1.mem = true := by
  unfold State.hostBytes; simp +contextual (maxDischargeDepth := 60) [*]
@[simp] theorem State.hostDma_wf (s : State) (e : Item) (hs : Memory.wf s.mem = true) :
    Memory.wf (State.hostDma s e).1.mem = true := by
  unfold State.hostDma; simp +contextual (maxDischargeDepth := 60) [*]
@[simp] theorem State.gather_wf (s : State) (e : Item) (hs : Memory.wf s.mem = true) :
    Memory.wf (State.gather s e).1.mem = true := by
  unfold State.gather
  split
  · have h := State.hostDma_wf s e hs
    dsimp only
    split
    · exact h
    · exact State.hostBytes_wf _ e.xfer h
  · have h := State.extents_wf s e true hs
    dsimp only
    split
    · exact h
    · rename_i l hl
      have h2 : ∀ p : State × Option (BitVec 16) × List Byte, Memory.wf p.1.mem = true →
          Memory.wf (l.foldl (fun (p : State × Option (BitVec 16) × List Byte) y =>
            if p.2.1.isSome then p else
            ((p.1.dmaRead e.bid y.1 y.2 (p.1.queue e.q).prio).1, (p.1.dmaRead e.bid y.1 y.2 (p.1.queue e.q).prio).2.1, p.2.2 ++ (p.1.dmaRead e.bid y.1 y.2 (p.1.queue e.q).prio).2.2)) p).1.mem = true := by
        intro p hp
        refine foldl_wf1 _ _ hp (fun q a hq => ?_)
        split
        · exact hq
        · exact State.dmaRead_wf _ _ _ _ _ hq
      have h3 := h2 (_, none, []) h
      split <;> exact h3

@[simp] theorem State.scatterGo_wf (u1 : List (W64 × Nat)) (u2 : State) (u3 : BitVec 12) (u4 : List Byte) (hu2 : Memory.wf u2.mem = true) :
    Memory.wf (State.scatterGo u1 u2 u3 u4).1.mem = true := by
  fun_induction State.scatterGo <;> simp_all +zetaDelta (maxDischargeDepth := 60)
@[simp] theorem State.scatterFree_wf (s : State) (bid : BitVec 12) (l : List (W64 × Nat)) (hs : Memory.wf s.mem = true) :
    Memory.wf (State.scatterFree s bid l).mem = true := by
  unfold State.scatterFree; simp +contextual (maxDischargeDepth := 60) [*]
@[simp] theorem State.scatter_wf (s : State) (e : Item) (l : List Byte) (hs : Memory.wf s.mem = true) :
    Memory.wf (State.scatter s e l).1.mem = true := by
  unfold State.scatter; dsimp only; (repeat' split) <;> (try simp +contextual (maxDischargeDepth := 60) [*])
@[simp] theorem State.supersede_wf (s : State) (nsid : Nat) (lba : Nat) (by_ : List Nat) (trim_ : Bool) (hs : Memory.wf s.mem = true) :
    Memory.wf (State.supersede s nsid lba by_ trim_).mem = true := by
  unfold State.supersede; simp +contextual (maxDischargeDepth := 60) [*]
@[simp] theorem State.bufAdd_wf (s : State) (nsid : Nat) (lba : Nat) (kind : Nat) (data : BitVec 32768) (prot : Bool) (ext : Bool) (hs : Memory.wf s.mem = true) :
    Memory.wf (State.bufAdd s nsid lba kind data prot ext).mem = true := by
  unfold State.bufAdd; simp +contextual (maxDischargeDepth := 60) [*]
@[simp] theorem State.acceptWrite_wf (s : State) (c : StCmd) (prot : Bool) (hs : Memory.wf s.mem = true) :
    Memory.wf (State.acceptWrite s c prot).mem = true := by
  unfold State.acceptWrite; simp +contextual (maxDischargeDepth := 60) [*]
@[simp] theorem State.acceptTrim_wf (s : State) (c : StCmd) (prot : Bool) (hs : Memory.wf s.mem = true) :
    Memory.wf (State.acceptTrim s c prot).mem = true := by
  unfold State.acceptTrim; simp +contextual (maxDischargeDepth := 60) [*]
@[simp] theorem State.acceptCmd_wf (s : State) (id : Nat) (c : StCmd) (hs : Memory.wf s.mem = true) :
    Memory.wf (State.acceptCmd s id c).mem = true := by
  unfold State.acceptCmd; simp +contextual (maxDischargeDepth := 60) [*]
@[simp] theorem execWriteBufferAccept_wf (s : State) (hs : Memory.wf s.mem = true) :
    OutWf (execWriteBufferAccept s) := by
  unfold execWriteBufferAccept; (repeat' split) <;> (try simp +contextual (maxDischargeDepth := 60) [*])
@[simp] theorem State.readEnd_wf (s : State) (id : Nat) (hs : Memory.wf s.mem = true) :
    Memory.wf (State.readEnd s id).mem = true := by
  unfold State.readEnd; dsimp only; (repeat' split) <;> (try simp +contextual (maxDischargeDepth := 60) [*])
@[simp] theorem State.readPart_wf (s : State) (id : Nat) (i : Nat) (l : Except (BitVec 16) (List Byte)) (hs : Memory.wf s.mem = true) :
    Memory.wf (State.readPart s id i l).mem = true := by
  unfold State.readPart; (repeat' split) <;> (try simp +contextual (maxDischargeDepth := 60) [*])
@[simp] theorem State.readUnit_wf (s : State) (id : Nat) (op : Nat) (nsid : Nat) (i : Nat) (lba : Nat) (hs : Memory.wf s.mem = true) :
    Memory.wf (State.readUnit s id op nsid i lba).mem = true := by
  unfold State.readUnit
  split
  · exact State.readPart_wf _ _ _ _ hs
  · have h := State.entryRead_wf s nsid lba hs
    split <;> rename_i heq <;> rw [heq] at h
    · exact State.readPart_wf _ _ _ _ h
    · split
      · exact State.readPart_wf _ _ _ _ h
      · split
        · exact State.readPart_wf _ _ _ _ h
        · split
          · exact State.readPart_wf _ _ _ _ h
          · exact State.onAlm_wf _ _ h

@[simp] theorem execSlotReadComplete_wf (g : Fin 32) (steps : Nat) (ok : Bool) (s : State) (hs : Memory.wf s.mem = true) :
    OutWf (execSlotReadComplete g steps ok s) := by
  unfold execSlotReadComplete; (repeat' split) <;> (try simp +contextual (maxDischargeDepth := 60) [*])
@[simp] theorem State.flushBegin_wf (s : State) (id : Nat) (c : StCmd) (hs : Memory.wf s.mem = true) :
    Memory.wf (State.flushBegin s id c).mem = true := by
  unfold State.flushBegin; simp +contextual (maxDischargeDepth := 60) [*]
@[simp] theorem State.gatherBegin_wf (s : State) (id : Nat) (c : StCmd) (hs : Memory.wf s.mem = true) :
    Memory.wf (State.gatherBegin s id c).mem = true := by
  unfold State.gatherBegin; dsimp only; (repeat' split) <;> (try simp +contextual (maxDischargeDepth := 60) [*])
@[simp] theorem State.readBegin_wf (s : State) (id : Nat) (c : StCmd) (hs : Memory.wf s.mem = true) :
    Memory.wf (State.readBegin s id c).mem = true := by
  unfold State.readBegin; dsimp only; (repeat' split) <;> (try simp +contextual (maxDischargeDepth := 60) [*])
@[simp] theorem State.stStart_wf (s : State) (id : Nat) (hs : Memory.wf s.mem = true) :
    Memory.wf (State.stStart s id).mem = true := by
  unfold State.stStart; (repeat' split) <;> (try simp +contextual (maxDischargeDepth := 60) [*])
@[simp] theorem State.stAdmit_wf (e : Item) (s : State) (hs : Memory.wf s.mem = true) :
    Memory.wf (State.stAdmit e s).mem = true := by
  unfold State.stAdmit; dsimp only; (repeat' split) <;> (try simp +contextual (maxDischargeDepth := 60) [*])
@[simp] theorem execFlush_wf (q : BitVec 16) (s : State) (hs : Memory.wf s.mem = true) :
    OutWf (execFlush q s) := by
  unfold execFlush; simp +contextual (maxDischargeDepth := 60) [*]
@[simp] theorem execWrite_wf (q : BitVec 16) (s : State) (hs : Memory.wf s.mem = true) :
    OutWf (execWrite q s) := by
  unfold execWrite; simp +contextual (maxDischargeDepth := 60) [*]
@[simp] theorem execRead_wf (q : BitVec 16) (s : State) (hs : Memory.wf s.mem = true) :
    OutWf (execRead q s) := by
  unfold execRead; simp +contextual (maxDischargeDepth := 60) [*]
@[simp] theorem execTrim_wf (q : BitVec 16) (s : State) (hs : Memory.wf s.mem = true) :
    OutWf (execTrim q s) := by
  unfold execTrim; simp +contextual (maxDischargeDepth := 60) [*]
@[simp] theorem execOrderedWrite_wf (q : BitVec 16) (s : State) (hs : Memory.wf s.mem = true) :
    OutWf (execOrderedWrite q s) := by
  unfold execOrderedWrite; simp +contextual (maxDischargeDepth := 60) [*]
@[simp] theorem execOrderedRead_wf (q : BitVec 16) (s : State) (hs : Memory.wf s.mem = true) :
    OutWf (execOrderedRead q s) := by
  unfold execOrderedRead; simp +contextual (maxDischargeDepth := 60) [*]
@[simp] theorem execAppend_wf (q : BitVec 16) (s : State) (hs : Memory.wf s.mem = true) :
    OutWf (execAppend q s) := by
  unfold execAppend; simp +contextual (maxDischargeDepth := 60) [*]
@[simp] theorem execReadChain_wf (q : BitVec 16) (s : State) (hs : Memory.wf s.mem = true) :
    OutWf (execReadChain q s) := by
  unfold execReadChain; simp +contextual (maxDischargeDepth := 60) [*]
@[simp] theorem execOrderedCommandStart_wf (f : BitVec 16) (s : State) (hs : Memory.wf s.mem = true) :
    OutWf (execOrderedCommandStart f s) := by
  unfold execOrderedCommandStart; dsimp only; (repeat' split) <;> (try simp +contextual (maxDischargeDepth := 60) [*])
@[simp] theorem State.pciEvent_wf (s : State) (bit : Nat) (hs : Memory.wf s.mem = true) :
    Memory.wf (State.pciEvent s bit).mem = true := by
  unfold State.pciEvent; simp +contextual (maxDischargeDepth := 60) [*]
@[simp] theorem State.pciCause_wf (s : State) (f : Nat) (bit : Nat) (hs : Memory.wf s.mem = true) :
    Memory.wf (State.pciCause s f bit).mem = true := by
  unfold State.pciCause; simp +contextual (maxDischargeDepth := 60) [*]
@[simp] theorem pciFnWrite_wf (f : Nat) (v : W64) (s : State) (hs : Memory.wf s.mem = true) :
    Memory.wf (pciFnWrite f v s).mem = true := by
  unfold pciFnWrite; simp +contextual (maxDischargeDepth := 60) [*]
@[simp] theorem execPciFnWrite_wf (fn : BitVec 8) (v : W64) (s : State) (hs : Memory.wf s.mem = true) :
    OutWf (execPciFnWrite fn v s) := by
  unfold execPciFnWrite; simp +contextual (maxDischargeDepth := 60) [*]
@[simp] theorem execCcEnSet_wf (fn : BitVec 8) (s : State) (hs : Memory.wf s.mem = true) :
    OutWf (execCcEnSet fn s) := by
  unfold execCcEnSet; simp +contextual (maxDischargeDepth := 60) [*]
@[simp] theorem State.hostStop_wf (s : State) (f : Nat) (hs : Memory.wf s.mem = true) :
    Memory.wf (State.hostStop s f).mem = true := by
  unfold State.hostStop; simp +contextual (maxDischargeDepth := 60) [*]
@[simp] theorem execCcEnClear_wf (fn : BitVec 8) (s : State) (hs : Memory.wf s.mem = true) :
    OutWf (execCcEnClear fn s) := by
  unfold execCcEnClear; simp +contextual (maxDischargeDepth := 60) [*]
@[simp] theorem State.flr_wf (s : State) (f : Nat) (hs : Memory.wf s.mem = true) :
    Memory.wf (State.flr s f).mem = true := by
  unfold State.flr; simp +contextual (maxDischargeDepth := 60) [*]
@[simp] theorem execFunctionLevelReset_wf (fn : BitVec 8) (s : State) (hs : Memory.wf s.mem = true) :
    OutWf (execFunctionLevelReset fn s) := by
  unfold execFunctionLevelReset; simp +contextual (maxDischargeDepth := 60) [*]
@[simp] theorem execShutdownNotification_wf (fn : BitVec 8) (s : State) (hs : Memory.wf s.mem = true) :
    OutWf (execShutdownNotification fn s) := by
  unfold execShutdownNotification; simp +contextual (maxDischargeDepth := 60) [*]
@[simp] theorem execPcieLinkChange_wf (up : Bool) (s : State) (hs : Memory.wf s.mem = true) :
    OutWf (execPcieLinkChange up s) := by
  unfold execPcieLinkChange; simp +contextual (maxDischargeDepth := 60) [*]
@[simp] theorem execPerstN_wf (level : Bool) (s : State) (hs : Memory.wf s.mem = true) :
    OutWf (execPerstN level s) := by
  unfold execPerstN; simp +contextual (maxDischargeDepth := 60) [*]
@[simp] theorem execHostIoCommand_wf (fn : BitVec 8) (sqid : BitVec 16) (sqe : BitVec 512) (s : State) (hs : Memory.wf s.mem = true) :
    OutWf (execHostIoCommand fn sqid sqe s) := by
  unfold execHostIoCommand; dsimp only; (repeat' split) <;> (try simp +contextual (maxDischargeDepth := 60) [*])
@[simp] theorem State.hostRetry_wf (s : State) (f : Nat) (n : Nat) (hs : Memory.wf s.mem = true) :
    Memory.wf (State.hostRetry s f n).mem = true := by
  unfold State.hostRetry; simp +contextual (maxDischargeDepth := 60) [*]
@[simp] theorem execHostDoorbell_wf (fn : BitVec 8) (qid : BitVec 16) (isCq : Bool) (v : BitVec 32) (s : State) (hs : Memory.wf s.mem = true) :
    OutWf (execHostDoorbell fn qid isCq v s) := by
  unfold execHostDoorbell; simp +contextual (maxDischargeDepth := 60) [*]
@[simp] theorem execInterruptCoalescingTimer_wf (fn : BitVec 8) (cqid : BitVec 16) (s : State) (hs : Memory.wf s.mem = true) :
    OutWf (execInterruptCoalescingTimer fn cqid s) := by
  unfold execInterruptCoalescingTimer; simp +contextual (maxDischargeDepth := 60) [*]
@[simp] theorem hostAdmin_wf (fn : BitVec 8) (body : Nat → State → State) (s : State) (hbody : ∀ (y0 : Nat) (y1 : State), Memory.wf y1.mem = true → Memory.wf (body y0 y1).mem = true) (hs : Memory.wf s.mem = true) :
    OutWf (hostAdmin fn body s) := by
  unfold hostAdmin; simp +contextual (maxDischargeDepth := 60) [*]
@[simp] theorem State.admEnd_wf (s : State) (f : Nat) (cid : BitVec 16) (c : Nat × Nat) (dw0 : Nat) (internal : BitVec 16) (dnr : Bool) (hs : Memory.wf s.mem = true) :
    Memory.wf (State.admEnd s f cid c dw0 internal dnr).mem = true := by
  unfold State.admEnd; simp +contextual (maxDischargeDepth := 60) [*]
@[simp] theorem execCreateIoCq_wf (fn : BitVec 8) (cid : BitVec 16) (cqid : BitVec 16) (size : BitVec 16) (vec : BitVec 16) (ien : Bool) (s : State) (hs : Memory.wf s.mem = true) :
    OutWf (execCreateIoCq fn cid cqid size vec ien s) := by
  unfold execCreateIoCq; simp +contextual (maxDischargeDepth := 60) [*]
@[simp] theorem execCreateIoSq_wf (fn : BitVec 8) (cid : BitVec 16) (sqid : BitVec 16) (cqid : BitVec 16) (size : BitVec 16) (s : State) (hs : Memory.wf s.mem = true) :
    OutWf (execCreateIoSq fn cid sqid cqid size s) := by
  unfold execCreateIoSq
  refine hostAdmin_wf _ _ _ (fun f s hs => ?_) hs
  dsimp only
  split
  · exact State.admEnd_wf _ _ _ _ _ _ _ hs
  · split
    · exact State.admEnd_wf _ _ _ _ _ _ _ hs
    · split
      · exact State.admEnd_wf _ _ _ _ _ _ _ hs
      · split
        · exact State.admEnd_wf _ _ _ _ _ _ _ hs
        · split
          · exact State.admEnd_wf _ _ _ _ _ _ _ hs
          · split
            · exact State.admEnd_wf _ _ _ _ _ _ _ hs
            · exact State.admEnd_wf _ _ _ _ _ _ _ (State.setHostSq_wf _ _ _ _ (State.addQueue_wf _ _ _ hs))
@[simp] theorem execDeleteIoSq_wf (fn : BitVec 8) (cid : BitVec 16) (qid : BitVec 16) (s : State) (hs : Memory.wf s.mem = true) :
    OutWf (execDeleteIoSq fn cid qid s) := by
  unfold execDeleteIoSq; simp +contextual (maxDischargeDepth := 60) [*]
@[simp] theorem execDeleteIoCq_wf (fn : BitVec 8) (cid : BitVec 16) (qid : BitVec 16) (s : State) (hs : Memory.wf s.mem = true) :
    OutWf (execDeleteIoCq fn cid qid s) := by
  unfold execDeleteIoCq; simp +contextual (maxDischargeDepth := 60) [*]
@[simp] theorem State.hostReply_wf (s : State) (f : Nat) (n : Nat) (fs : List (Nat × List Byte)) (hs : Memory.wf s.mem = true) :
    Memory.wf (State.hostReply s f n fs).mem = true := by
  unfold State.hostReply; simp +contextual (maxDischargeDepth := 60) [*]
@[simp] theorem execIdentify_wf (fn : BitVec 8) (cid : BitVec 16) (cns : BitVec 8) (nsid : BitVec 32) (s : State) (hs : Memory.wf s.mem = true) :
    OutWf (execIdentify fn cid cns nsid s) := by
  unfold execIdentify; (repeat' split) <;> (try simp +contextual (maxDischargeDepth := 60) [*])
@[simp] theorem execGetLogPage_wf (fn : BitVec 8) (cid : BitVec 16) (lid : BitVec 8) (s : State) (hs : Memory.wf s.mem = true) :
    OutWf (execGetLogPage fn cid lid s) := by
  unfold execGetLogPage; (repeat' split) <;> (try simp +contextual (maxDischargeDepth := 60) [*])
@[simp] theorem State.orderedSelect_wf (s : State) (f : Nat) (cid : BitVec 16) (v : BitVec 16) (hs : Memory.wf s.mem = true) :
    Memory.wf (State.orderedSelect s f cid v).mem = true := by
  unfold State.orderedSelect; simp +contextual (maxDischargeDepth := 60) [*]
@[simp] theorem execOrderedQueueSelect_wf (fn : BitVec 8) (cid : BitVec 16) (v : BitVec 16) (s : State) (hs : Memory.wf s.mem = true) :
    OutWf (execOrderedQueueSelect fn cid v s) := by
  unfold execOrderedQueueSelect; simp +contextual (maxDischargeDepth := 60) [*]
@[simp] theorem State.setFeat_wf (s : State) (f : Nat) (k : Nat) (v : BitVec 32) (hs : Memory.wf s.mem = true) :
    Memory.wf (State.setFeat s f k v).mem = true := by
  unfold State.setFeat; simp +contextual (maxDischargeDepth := 60) [*]
@[simp] theorem execSetFeatures_wf (fn : BitVec 8) (cid : BitVec 16) (fid : BitVec 8) (v : BitVec 32) (s : State) (hs : Memory.wf s.mem = true) :
    OutWf (execSetFeatures fn cid fid v s) := by
  unfold execSetFeatures; (repeat' split) <;> (try simp +contextual (maxDischargeDepth := 60) [*])
@[simp] theorem execGetFeatures_wf (fn : BitVec 8) (cid : BitVec 16) (sel : FeatSel) (s : State) (hs : Memory.wf s.mem = true) :
    OutWf (execGetFeatures fn cid sel s) := by
  unfold execGetFeatures; (repeat' split) <;> (try simp +contextual (maxDischargeDepth := 60) [*])
@[simp] theorem execAbort_wf (fn : BitVec 8) (cid : BitVec 16) (_sqid : BitVec 16) (_acid : BitVec 16) (s : State) (hs : Memory.wf s.mem = true) :
    OutWf (execAbort fn cid _sqid _acid s) := by
  unfold execAbort; simp +contextual (maxDischargeDepth := 60) [*]
@[simp] theorem execAsyncEventRequest_wf (fn : BitVec 8) (cid : BitVec 16) (s : State) (hs : Memory.wf s.mem = true) :
    OutWf (execAsyncEventRequest fn cid s) := by
  unfold execAsyncEventRequest
  refine hostAdmin_wf _ _ _ (fun f s hs => ?_) hs
  dsimp only
  split
  · exact State.admEnd_wf _ _ _ _ _ _ _ (State.setHost_wf _ _ _ hs)
  · split
    · exact State.admEnd_wf _ _ _ _ _ _ _ hs
    · exact State.setHost_wf _ _ _ hs
@[simp] theorem pciStatWrite_wf (v : W64) (s : State) (hs : Memory.wf s.mem = true) :
    Memory.wf (pciStatWrite v s).mem = true := by
  unfold pciStatWrite; simp +contextual (maxDischargeDepth := 60) [*]
@[simp] theorem execRailUndervoltage_wf (_rail : Fin 14) (ns : Nat) (permille : Nat) (s : State) (hs : Memory.wf s.mem = true) :
    OutWf (execRailUndervoltage _rail ns permille s) := by
  unfold execRailUndervoltage; simp +contextual (maxDischargeDepth := 60) [*]
@[simp] theorem State.senseTemps_wf (s : State) (temps : List Nat) (hs : Memory.wf s.mem = true) :
    Memory.wf (State.senseTemps s temps).mem = true := by
  unfold State.senseTemps; simp +contextual (maxDischargeDepth := 60) [*]
@[simp] theorem State.stepDown_wf (s : State) (hs : Memory.wf s.mem = true) :
    Memory.wf (State.stepDown s).mem = true := by
  unfold State.stepDown; simp +contextual (maxDischargeDepth := 60) [*]
@[simp] theorem State.stepUp_wf (s : State) (hs : Memory.wf s.mem = true) :
    Memory.wf (State.stepUp s).mem = true := by
  unfold State.stepUp; simp +contextual (maxDischargeDepth := 60) [*]
@[simp] theorem execLimiterEval_wf (watts : Nat) (temps : List Nat) (s : State) (hs : Memory.wf s.mem = true) :
    OutWf (execLimiterEval watts temps s) := by
  have kb : ∀ (t : State) v, Memory.wf t.mem = true → Memory.wf { t with ctl := { t.ctl with below := v } }.mem = true := fun _ _ h => h
  unfold execLimiterEval
  refine (OutWf_next _).2 ?_
  split
  · exact hs
  · extract_lets s1 s2 lim hit s3 since src s4 cool
    have h2 : Memory.wf s2.mem = true := State.setRegFld_wf _ _ _ _ _ (State.senseTemps_wf _ _ hs)
    clear_value s2
    have h3 : Memory.wf s3.mem = true := by
      simp only [s3]
      split
      · exact State.raiseEvt_wf _ _ (State.setRegBit_wf _ _ _ _ h2)
      · exact h2
    clear_value s3
    have h4 : Memory.wf s4.mem = true := kb _ _ h3
    clear_value s4 cool
    split
    · exact h4
    · split
      · exact State.stepDown_wf _ h4
      · split
        · exact State.stepUp_wf _ h4
        · exact h4
@[simp] theorem execThermalTrip_wf (sensor : Fin 9) (eighths : Nat) (s : State) (hs : Memory.wf s.mem = true) :
    OutWf (execThermalTrip sensor eighths s) := by
  unfold execThermalTrip; simp +contextual (maxDischargeDepth := 60) [*]
@[simp] theorem State.tapTake_wf (s : State) (k : Nat) (hs : Memory.wf s.mem = true) :
    Memory.wf (State.tapTake s k).mem = true := by
  unfold State.tapTake; simp +contextual (maxDischargeDepth := 60) [*]
@[simp] theorem State.tapScan_wf (s : State) (k : Nat) (hs : Memory.wf s.mem = true) :
    Memory.wf (State.tapScan s k).mem = true := by
  unfold State.tapScan; simp +contextual (maxDischargeDepth := 60) [*]
@[simp] theorem execTapIdcode_wf (s : State) (hs : Memory.wf s.mem = true) :
    OutWf (execTapIdcode s) := by
  unfold execTapIdcode; simp +contextual (maxDischargeDepth := 60) [*]
@[simp] theorem execTapBypass_wf (s : State) (hs : Memory.wf s.mem = true) :
    OutWf (execTapBypass s) := by
  unfold execTapBypass; simp +contextual (maxDischargeDepth := 60) [*]
@[simp] theorem execTapExtest_wf (s : State) (hs : Memory.wf s.mem = true) :
    OutWf (execTapExtest s) := by
  unfold execTapExtest; simp +contextual (maxDischargeDepth := 60) [*]
@[simp] theorem State.tapLoad_wf (s : State) (k : Nat) (hs : Memory.wf s.mem = true) :
    Memory.wf (State.tapLoad s k).mem = true := by
  unfold State.tapLoad; simp +contextual (maxDischargeDepth := 60) [*]
@[simp] theorem execTapSample_wf (s : State) (hs : Memory.wf s.mem = true) :
    OutWf (execTapSample s) := by
  unfold execTapSample; simp +contextual (maxDischargeDepth := 60) [*]
@[simp] theorem execTapPreload_wf (s : State) (hs : Memory.wf s.mem = true) :
    OutWf (execTapPreload s) := by
  unfold execTapPreload; simp +contextual (maxDischargeDepth := 60) [*]

@[simp] theorem State.count_wf (s : State) (hs : Memory.wf s.mem = true) :
    Memory.wf (State.count s).mem = true := by
  unfold State.count; simp +contextual (maxDischargeDepth := 60) [*]
@[simp] theorem State.engCycles_wf (s : State) (u : Nat) (n : Nat) (hs : Memory.wf s.mem = true) :
    Memory.wf (State.engCycles s u n).mem = true := by
  unfold State.engCycles; simp +contextual (maxDischargeDepth := 60) [*]
@[simp] theorem State.clocks_wf (s : State) (hs : Memory.wf s.mem = true) :
    Memory.wf (State.clocks s).mem = true := by
  unfold State.clocks; simp +contextual (maxDischargeDepth := 60) [*]
@[simp] theorem State.portGain_wf (s : State) (hs : Memory.wf s.mem = true) :
    Memory.wf (State.portGain s).mem = true := by
  unfold State.portGain; simp +contextual (maxDischargeDepth := 60) [*]
@[simp] theorem State.tick_wf (s : State) (hs : Memory.wf s.mem = true) :
    Memory.wf (State.tick s).mem = true := by
  unfold State.tick; dsimp only; (repeat' split) <;> (try simp +contextual (maxDischargeDepth := 60) [*])
end Sys2Proof.Machine
end

