-- ==== Sys2Proof/Laws/KeepSieve.lean ====
section
/-! SUPPORT. Sys2Proof/Laws/KeepSieve.lean: the memory keeps its canonical form under sieves and scans. -/

namespace Sys2Proof.Machine

@[simp] theorem State.svAbort_wf (s : State) (ch : Nat) (hs : Memory.wf s.mem = true) :
    Memory.wf (State.svAbort s ch).mem = true := by
  unfold State.svAbort; simp +contextual (maxDischargeDepth := 60) [*]
@[simp] theorem slotTest_wf (x : CtxId) (w : BitVec 32) (pd : Pred3) (slot : Pred3) (consts : State → Nat → List Nat) (fn : Option ℤ → List (Option ℤ) → Bool) (s : State) (hs : Memory.wf s.mem = true) :
    Memory.wf (slotTest x w pd slot consts fn s).mem = true := by
  unfold slotTest
  refine issue_wf _ _ _ _ (fun s hs => ?_) hs
  dsimp only
  (repeat' split) <;> simp +contextual (maxDischargeDepth := 60) [*]
@[simp] theorem execScmp_wf (x : CtxId) (cond : BitVec 4) (pd : Pred3) (slot : Pred3) (rs2 : Reg5) (s : State) (hs : Memory.wf s.mem = true) :
    OutWf (execScmp x cond pd slot rs2 s) := by
  unfold execScmp; simp +contextual (maxDischargeDepth := 60) [*]
@[simp] theorem execSrng_wf (x : CtxId) (pd : Pred3) (slot : Pred3) (rs2 : Reg5) (s : State) (hs : Memory.wf s.mem = true) :
    OutWf (execSrng x pd slot rs2 s) := by
  unfold execSrng; simp +contextual (maxDischargeDepth := 60) [*]
@[simp] theorem execSnull_wf (x : CtxId) (pd : Pred3) (slot : Pred3) (s : State) (hs : Memory.wf s.mem = true) :
    OutWf (execSnull x pd slot s) := by
  unfold execSnull; simp +contextual (maxDischargeDepth := 60) [*]
@[simp] theorem execShdr_wf (x : CtxId) (fld : BitVec 4) (rd : Reg5) (slot : Pred3) (s : State) (hs : Memory.wf s.mem = true) :
    OutWf (execShdr x fld rd slot s) := by
  unfold execShdr
  refine issue_wf _ _ _ _ (fun s hs => ?_) hs
  dsimp only
  (repeat' split) <;> simp +contextual (maxDischargeDepth := 60) [*]
@[simp] theorem execEmit_wf (x : CtxId) (ps : Pred3) (s : State) (hs : Memory.wf s.mem = true) :
    OutWf (execEmit x ps s) := by
  unfold execEmit; simp +contextual (maxDischargeDepth := 60) [*]
@[simp] theorem execSdone_wf (x : CtxId) (s : State) (hs : Memory.wf s.mem = true) :
    OutWf (execSdone x s) := by
  unfold execSdone; simp +contextual (maxDischargeDepth := 60) [*]
@[simp] theorem execNop_wf (x : CtxId) (s : State) (hs : Memory.wf s.mem = true) :
    OutWf (execNop x s) := by
  unfold execNop; simp +contextual (maxDischargeDepth := 60) [*]
def RunWf (f : Option (CtxId → State → Out)) : Prop := ∀ r, f = some r → ∀ x s, Memory.wf s.mem = true → OutWf (r x s)
@[simp] theorem RunWf_none : RunWf none := by intro r h; cases h
@[simp] theorem RunWf_some (f : CtxId → State → Out) : RunWf (some f) ↔ ∀ x s, Memory.wf s.mem = true → OutWf (f x s) :=
  ⟨fun h => h f rfl, fun h r e => by cases e; exact h⟩
theorem svInt_wf (w : BitVec 32) : RunWf (svInt w) := by
  unfold svInt
  dsimp only
  (repeat' split) <;> simp +contextual
theorem svImm_wf (w : BitVec 32) : RunWf (svImm w) := by
  unfold svImm
  dsimp only
  (repeat' split) <;> simp +contextual
theorem svX_wf (w w1 : BitVec 32) : RunWf (svX w w1) := by
  unfold svX
  dsimp only
  (repeat' split) <;> simp +contextual
theorem svBranch_wf (w : BitVec 32) : RunWf (svBranch w) := by
  unfold svBranch
  dsimp only
  (repeat' split) <;> simp +contextual
theorem svPred_wf (w : BitVec 32) : RunWf (svPred w) := by
  unfold svPred
  dsimp only
  (repeat' split) <;> simp +contextual
theorem svCol_wf (n : Nat) (w : BitVec 32) : RunWf (svCol n w) := by
  unfold svCol
  dsimp only
  (repeat' split) <;> simp +contextual
theorem svWord_wf (n : Nat) (w w1 : BitVec 32) (v : SvWord) (h : svWord n w w1 = some v) (x : CtxId) (s : State)
    (hs : Memory.wf s.mem = true) : OutWf (v.run x s) := by
  have k : ∀ (f : Option (CtxId → State → Out)) (b : Bool), RunWf f → (f.map fun r => ({ run := r, wide := b } : SvWord)) = some v → OutWf (v.run x s) := by
    intro f b hf e
    cases f with
    | none => cases e
    | some r => cases e; exact hf r rfl x s hs
  unfold svWord at h
  dsimp only at h
  split at h
  · exact k _ _ (svInt_wf w) h
  · exact k _ _ (svPred_wf w) h
  · exact k _ _ (svCol_wf n w) h
  · split at h
    · exact k _ _ (by simp +contextual) h
    · cases h
  · exact k _ _ (svX_wf w w1) h
  · split at h
    · rename_i r hr
      cases h
      exact svBranch_wf w r hr x s hs
    · exact k _ _ (svImm_wf w) h

@[simp] theorem State.svRun_wf (u1 : Nat) (u2 : State) (u3 : Nat) (hu2 : Memory.wf u2.mem = true) :
    Memory.wf (State.svRun u1 u2 u3).mem = true := by
  induction u1 generalizing u2 with
  | zero => exact hu2
  | succ k ih =>
    unfold State.svRun
    dsimp only
    split
    · exact hu2
    · split
      · exact hu2
      · rename_i w hw
        have h := svWord_wf _ _ _ _ hw (.sieve (Fin.ofNat 32 u3)) u2 hu2
        split
        · rename_i t ht
          rw [ht] at h
          exact ih _ h
        · exact hu2
@[simp] theorem State.svBlock_wf (s : State) (ch : Nat) (n : Nat) (b : Nat) (hs : Memory.wf s.mem = true) :
    Memory.wf (State.svBlock s ch n b).1.mem = true := by
  unfold State.svBlock; simp +contextual (maxDischargeDepth := 60) [*]
@[simp] theorem State.ctrlWrite_wf (s : State) (ch : Nat) (n : Nat) (o : Nat) (l : List Byte) (hs : Memory.wf s.mem = true) :
    Memory.wf (State.ctrlWrite s ch n o l).mem = true := by
  unfold State.ctrlWrite; simp +contextual (maxDischargeDepth := 60) [*]
@[simp] theorem State.partStop_wf (s : State) (ch : Nat) (n : Nat) (st : BitVec 16) (lba : Option Nat) (hs : Memory.wf s.mem = true) :
    Memory.wf (State.partStop s ch n st lba).mem = true := by
  unfold State.partStop; (repeat' split) <;> (try simp +contextual (maxDischargeDepth := 60) [*])
@[simp] theorem State.rdPoll_wf (s : State) (ch : Nat) (n : Nat) (hs : Memory.wf s.mem = true) :
    Memory.wf (State.rdPoll s ch n).mem = true := by
  unfold State.rdPoll; dsimp only; (repeat' split) <;> (try simp +contextual (maxDischargeDepth := 60) [*])
@[simp] theorem State.scanOpen_wf (s : State) (n : Nat) (c : Scan) (hs : Memory.wf s.mem = true) :
    Memory.wf (State.scanOpen s n c).mem = true := by
  unfold State.scanOpen; simp +contextual (maxDischargeDepth := 60) [*]
@[simp] theorem State.scanStart_wf (s : State) (e : Item) (l : List Byte) (hs : Memory.wf s.mem = true) :
    Memory.wf (State.scanStart s e l).mem = true := by
  unfold State.scanStart; dsimp only; (repeat' split) <;> (try simp +contextual (maxDischargeDepth := 60) [*])
@[simp] theorem State.scanBegin_wf (e : Item) (s : State) (hs : Memory.wf s.mem = true) :
    Memory.wf (State.scanBegin e s).mem = true := by
  unfold State.scanBegin; dsimp only; (repeat' split) <;> (try simp +contextual (maxDischargeDepth := 60) [*])
@[simp] theorem State.scanAdmit_wf (e : Item) (s : State) (hs : Memory.wf s.mem = true) :
    Memory.wf (State.scanAdmit e s).mem = true := by
  unfold State.scanAdmit; dsimp only; (repeat' split) <;> (try simp +contextual (maxDischargeDepth := 60) [*])
@[simp] theorem execScan_wf (q : BitVec 16) (s : State) (hs : Memory.wf s.mem = true) :
    OutWf (execScan q s) := by
  unfold execScan; simp +contextual (maxDischargeDepth := 60) [*]
@[simp] theorem execPsTransitionEnd_wf (s : State) (hs : Memory.wf s.mem = true) :
    OutWf (execPsTransitionEnd s) := by
  unfold execPsTransitionEnd; simp +contextual (maxDischargeDepth := 60) [*]
@[simp] theorem execSievePageRead_wf (ch : Fin 32) (n : Fin 8) (s : State) (hs : Memory.wf s.mem = true) :
    OutWf (execSievePageRead ch n s) := by
  unfold execSievePageRead
  refine (OutWf_next _).2 ?_
  have h2 : ∀ (l : List Nat) (g : Nat → Nat) c (p : State × Except (BitVec 16) (List Byte)), Memory.wf p.1.mem = true →
      Memory.wf (l.foldl (fun (q : State × Except (BitVec 16) (List Byte)) j =>
        match q.2 with
        | .error _ => q
        | .ok l => ((q.1.unitRead c (g j)).1, (q.1.unitRead c (g j)).2.map fun d => l ++ leBytes 4096 d.1.toNat)) p).1.mem = true := by
    intro l g c p hp
    refine foldl_wf1 _ _ hp (fun q a hq => ?_)
    split
    · exact hq
    · exact State.unitRead_wf _ _ _ hq
  dsimp only
  split
  · exact hs
  · split
    · exact hs
    · split
      · exact State.partStop_wf _ _ _ _ _ (h2 _ (fun j => _ + j) _ (s, .ok []) hs)
      · exact State.setPart_wf _ _ _ (State.hostBytes_wf _ 8192 (h2 _ (fun j => _ + j) _ (s, .ok []) hs))

@[simp] theorem State.groupRec_wf (s : State) (m : List Byte) (ps : List (List Byte)) (pass : List Nat) (seq : Nat) (hs : Memory.wf s.mem = true) :
    Memory.wf (State.groupRec s m ps pass seq).1.mem = true := by
  unfold State.groupRec
  dsimp only
  split
  · exact hs
  · refine foldl_wf1 _ _ hs (fun q a hq => ?_)
    refine foldl_wf1 _ _ hq (fun q a hq => ?_)
    split
    · exact State.fresh_wf _ hq
    · exact hq
@[simp] theorem State.svBlocks_wf (u1 : Nat) (u2 : State) (u3 : Nat) (u4 : Nat) (u5 : Nat) (hu2 : Memory.wf u2.mem = true) :
    Memory.wf (State.svBlocks u1 u2 u3 u4 u5).1.mem = true := by
  fun_induction State.svBlocks <;> simp_all +zetaDelta (maxDischargeDepth := 60)
@[simp] theorem execGroupEvaluation_wf (ch : Fin 32) (n : Fin 8) (s : State) (hs : Memory.wf s.mem = true) :
    OutWf (execGroupEvaluation ch n s) := by
  unfold execGroupEvaluation; dsimp only; (repeat' split) <;> (try simp +contextual (maxDischargeDepth := 60) [*])
@[simp] theorem State.ringPut_wf (s : State) (ch : Nat) (n : Nat) (o : Nat) (l : List Byte) (hs : Memory.wf s.mem = true) :
    Memory.wf (State.ringPut s ch n o l).1.mem = true := by
  unfold State.ringPut
  have h := fun a d => State.dmaWrite_wf s (s.scan n).item.bid a d hs
  dsimp only
  split
  · exact h _ _
  · exact State.dmaWrite_wf _ _ _ _ (h _ _)

@[simp] theorem State.recPut_wf (s : State) (ch : Nat) (n : Nat) (l : List Byte) (hs : Memory.wf s.mem = true) :
    Memory.wf (State.recPut s ch n l).mem = true := by
  unfold State.recPut
  have h := State.ringPut_wf s ch n ((s.part (partKey ch n)).wr.toNat % (s.scan n).ringSize) l hs
  dsimp only
  split
  · exact State.setPart_wf _ _ _ (State.partStop_wf _ _ _ _ _ h)
  · exact State.ctrlWrite_wf _ _ _ _ _ (State.setPart_wf _ _ _ h)

@[simp] theorem execSieveRecordWrite_wf (ch : Fin 32) (n : Fin 8) (s : State) (hs : Memory.wf s.mem = true) :
    OutWf (execSieveRecordWrite ch n s) := by
  unfold execSieveRecordWrite; dsimp only; (repeat' split) <;> (try simp +contextual (maxDischargeDepth := 60) [*])
@[simp] theorem execSieveRdPoll_wf (ch : Fin 32) (n : Fin 8) (s : State) (hs : Memory.wf s.mem = true) :
    OutWf (execSieveRdPoll ch n s) := by
  unfold execSieveRdPoll; simp +contextual (maxDischargeDepth := 60) [*]
@[simp] theorem execSievePartEnd_wf (ch : Fin 32) (n : Fin 8) (s : State) (hs : Memory.wf s.mem = true) :
    OutWf (execSievePartEnd ch n s) := by
  unfold execSievePartEnd; simp +contextual (maxDischargeDepth := 60) [*]
@[simp] theorem execScanComplete_wf (n : Fin 8) (s : State) (hs : Memory.wf s.mem = true) :
    OutWf (execScanComplete n s) := by
  unfold execScanComplete; simp +contextual (maxDischargeDepth := 60) [*]

end Sys2Proof.Machine
end

