-- ==== Sys2Proof/Laws/KeepCsr.lean ====
section
/-! SUPPORT. Sys2Proof/Laws/KeepCsr.lean: the memory keeps its canonical form under register space, loads and stores, links, system instructions and what caches do by themselves. -/

namespace Sys2Proof.Machine

@[simp] theorem State.csrRead_wf (s : State) (a : Nat) (f : DbForm) (hs : Memory.wf s.mem = true) :
    Memory.wf (State.csrRead s a f).1.mem = true := by
  unfold State.csrRead; simp +contextual (maxDischargeDepth := 60) [*]
def OptWf (f : Option State) : Prop := ∀ t, f = some t → Memory.wf t.mem = true
@[simp] theorem OptWf_none : OptWf none := by intro r h; cases h
@[simp] theorem OptWf_some (s : State) : OptWf (some s) ↔ Memory.wf s.mem = true :=
  ⟨fun h => h s rfl, fun h t e => by cases e; exact h⟩
theorem OptWf_ite {c : Prop} [Decidable c] {a b : Option State} (ha : OptWf a) (hb : OptWf b) : OptWf (if c then a else b) := by
  split <;> assumption
theorem wf_ite {c : Prop} [Decidable c] {a b : State} (ha : Memory.wf a.mem = true) (hb : Memory.wf b.mem = true) : Memory.wf (if c then a else b).mem = true := by
  split <;> assumption
@[simp] theorem State.plainWrite_wf (s : State) (d : RegD) (a : Nat) (m : W64) (w : W64) (hs : Memory.wf s.mem = true) :
    Memory.wf (State.plainWrite s d a m w).mem = true := by
  unfold State.plainWrite; simp +contextual (maxDischargeDepth := 60) [*]
@[simp] theorem State.onHigh_wf (s : State) (a : Nat) (f : DbForm) (w : W64) (go : W64 → State → State) (hs : Memory.wf s.mem = true) (hgo : ∀ (y0 : W64) (y1 : State), Memory.wf y1.mem = true → Memory.wf (go y0 y1).mem = true) :
    Memory.wf (State.onHigh s a f w go).mem = true := by
  unfold State.onHigh; (repeat' split) <;> (try simp +contextual (maxDischargeDepth := 60) [*])
theorem State.writeDevice_wf (s : State) (who : Requester) (a : Nat) (f : DbForm) (m w : W64) (hs : Memory.wf s.mem = true) :
    OptWf (State.writeDevice s who a f m w) := by
  unfold State.writeDevice
  try dsimp only
  repeat' (first | refine OptWf_ite ?_ ?_ | exact OptWf_none | refine (OptWf_some _).2 ?_ | with_reducible refine wf_ite ?_ ?_ | with_reducible exact hs | refine State.onHigh_wf _ _ _ _ _ hs (fun v s hs => ?_) | split)
  all_goals simp (maxDischargeDepth := 60) [*]
theorem State.writeCaches_wf (s : State) (a : Nat) (f : DbForm) (m w : W64) (hs : Memory.wf s.mem = true) :
    OptWf (State.writeCaches s a f m w) := by
  unfold State.writeCaches
  try dsimp only
  repeat' (first | refine OptWf_ite ?_ ?_ | exact OptWf_none | refine (OptWf_some _).2 ?_ | with_reducible refine wf_ite ?_ ?_ | with_reducible exact hs | refine State.onHigh_wf _ _ _ _ _ hs (fun v s hs => ?_) | split)
  all_goals simp (maxDischargeDepth := 60) [*]
theorem State.writeSpy_wf (s : State) (d : RegD) (a : Nat) (f : DbForm) (m w : W64) (hs : Memory.wf s.mem = true) :
    OptWf (State.writeSpy s d a f m w) := by
  have k : ∀ b c, Memory.wf ((s.setRegBit a 0 b).setRegBit a 1 c).mem = true := fun b c => State.setRegBit_wf _ _ _ _ (State.setRegBit_wf _ _ _ _ hs)
  unfold State.writeSpy
  dsimp only
  refine OptWf_ite ((OptWf_some _).2 (wf_ite hs (wf_ite (spyResync_wf _ (k _ _)) (k _ _)))) (OptWf_ite ((OptWf_some _).2 (wf_ite hs (State.plainWrite_wf _ _ _ _ _ hs))) OptWf_none)
@[simp] theorem domCmd_wf (v : W64) (s : State) (hs : Memory.wf s.mem = true) :
    Memory.wf (domCmd v s).mem = true := by
  unfold domCmd
  split <;> simp [*]
theorem State.writeOrr_wf (s : State) (d : RegD) (a : Nat) (f : DbForm) (m w : W64) (hs : Memory.wf s.mem = true) :
    OptWf (State.writeOrr s d a f m w) := by
  unfold State.writeOrr
  try dsimp only
  repeat' (first | refine OptWf_ite ?_ ?_ | exact OptWf_none | refine (OptWf_some _).2 ?_ | with_reducible refine wf_ite ?_ ?_ | with_reducible exact hs | refine State.onHigh_wf _ _ _ _ _ hs (fun v s hs => ?_) | split)
  all_goals simp (maxDischargeDepth := 60) [*]
@[simp] theorem State.writeQ0_wf (s : State) (r : Nat) (v : W64) (hs : Memory.wf s.mem = true) :
    Memory.wf (State.writeQ0 s r v).mem = true := by
  unfold State.writeQ0
  extract_lets x clamp
  clear_value x clamp
  split
  · exact hs
  · split <;> first | exact State.setQueue_wf _ _ _ hs | exact hs
theorem State.writeQueue_wf (s : State) (a : Nat) (f : DbForm) (m w : W64) (hs : Memory.wf s.mem = true) :
    OptWf (State.writeQueue s a f m w) := by
  unfold State.writeQueue
  try dsimp only
  repeat' (first | refine OptWf_ite ?_ ?_ | exact OptWf_none | refine (OptWf_some _).2 ?_ | with_reducible refine wf_ite ?_ ?_ | with_reducible exact hs | refine State.onHigh_wf _ _ _ _ _ hs (fun v s hs => ?_) | split)
  all_goals simp (maxDischargeDepth := 60) [*]
@[simp] theorem lgCmdWrite_wf (v : W64) (s : State) (hs : Memory.wf s.mem = true) :
    Memory.wf (lgCmdWrite v s).mem = true := by
  unfold lgCmdWrite
  dsimp only
  (repeat' with_reducible refine wf_ite ?_ ?_) <;> simp [*]
theorem State.writeAlm_wf (s : State) (a : Nat) (f : DbForm) (w : W64) (hs : Memory.wf s.mem = true) :
    OptWf (State.writeAlm s a f w) := by
  unfold State.writeAlm
  try dsimp only
  repeat' (first | refine OptWf_ite ?_ ?_ | exact OptWf_none | refine (OptWf_some _).2 ?_ | with_reducible refine wf_ite ?_ ?_ | with_reducible exact hs | refine State.onHigh_wf _ _ _ _ _ hs (fun v s hs => ?_) | split)
  all_goals simp (maxDischargeDepth := 60) [*]
@[simp] theorem mvCtrlWrite_wf (n : Nat) (w : W64) (s : State) (hs : Memory.wf s.mem = true) :
    Memory.wf (mvCtrlWrite n w s).mem = true := by
  unfold mvCtrlWrite
  dsimp only
  have h1 : ∀ (c : Prop) [Decidable c] a b d e g, Memory.wf (if c then mvGo n a s else s.setRegFld b d e g).mem = true := by
    intros; refine wf_ite ?_ ?_ <;> simp [*]
  have h2 : ∀ (c : Prop) [Decidable c] (t : State), Memory.wf t.mem = true → Memory.wf (if c then mvResume n t else t).mem = true := by
    intros; refine wf_ite ?_ ?_ <;> simp [*]
  exact wf_ite (mvAbort_wf _ _ (h2 _ _ (h1 _ _ _ _ _ _))) (h2 _ _ (h1 _ _ _ _ _ _))
theorem State.writeStream_wf (s : State) (d : RegD) (a : Nat) (f : DbForm) (m w : W64) (hs : Memory.wf s.mem = true) :
    OptWf (State.writeStream s d a f m w) := by
  unfold State.writeStream
  try dsimp only
  repeat' (first | refine OptWf_ite ?_ ?_ | exact OptWf_none | refine (OptWf_some _).2 ?_ | with_reducible refine wf_ite ?_ ?_ | with_reducible exact hs | refine State.onHigh_wf _ _ _ _ _ hs (fun v s hs => ?_) | split)
  all_goals simp (maxDischargeDepth := 60) [*]
theorem State.writeNet_wf (s : State) (a : Nat) (f : DbForm) (m w : W64) (hs : Memory.wf s.mem = true) :
    OptWf (State.writeNet s a f m w) := by
  unfold State.writeNet
  try dsimp only
  repeat' (first | refine OptWf_ite ?_ ?_ | exact OptWf_none | refine (OptWf_some _).2 ?_ | with_reducible refine wf_ite ?_ ?_ | with_reducible exact hs | refine State.onHigh_wf _ _ _ _ _ hs (fun v s hs => ?_) | split)
  all_goals simp (maxDischargeDepth := 60) [*]
@[simp] theorem State.csrWrite_wf (s : State) (who : Requester) (a : Nat) (f : DbForm) (v : W64) (hs : Memory.wf s.mem = true) :
    Memory.wf (State.csrWrite s who a f v).mem = true := by
  unfold State.csrWrite
  extract_lets m w
  clear_value m w
  split
  · exact hs
  · rename_i d _
    have h : ∀ o ∈ [s.writeDevice who a f m w, s.writeCaches a f m w, s.writeSpy d a f m w, s.writeOrr d a f m w, s.writeQueue a f m w,
        s.writeAlm a f w, s.writeStream d a f m w, s.writeNet a f m w], OptWf o := by
      intro o ho
      simp only [List.mem_cons, List.not_mem_nil, or_false] at ho
      rcases ho with rfl | rfl | rfl | rfl | rfl | rfl | rfl | rfl
      · exact State.writeDevice_wf _ _ _ _ _ _ hs
      · exact State.writeCaches_wf _ _ _ _ _ hs
      · exact State.writeSpy_wf _ _ _ _ _ _ hs
      · exact State.writeOrr_wf _ _ _ _ _ _ hs
      · exact State.writeQueue_wf _ _ _ _ _ hs
      · exact State.writeAlm_wf _ _ _ _ hs
      · exact State.writeStream_wf _ _ _ _ _ _ hs
      · exact State.writeNet_wf _ _ _ _ _ hs
    split
    · rename_i t ht
      obtain ⟨o, ho, e⟩ := List.exists_of_findSome?_eq_some ht
      exact h o ho t e
    · exact State.plainWrite_wf _ _ _ _ _ hs
@[simp] theorem execRegisterWrite_wf (who : Requester) (addr : BitVec 48) (size : CsrSize) (v : W64) (s : State) (hs : Memory.wf s.mem = true) :
    OutWf (execRegisterWrite who addr size v s) := by
  unfold execRegisterWrite
  refine (OutWf_next _).2 ?_
  dsimp only
  split
  · exact hs
  · split
    · exact hs
    · exact State.csrWrite_wf _ _ _ _ _ hs
@[simp] theorem State.missWait_wf (s : State) (x : Nat) (o : LoadOp) (word : BitVec 32) (lines : List Nat) (hs : Memory.wf s.mem = true) :
    Memory.wf (State.missWait s x o word lines).mem = true := by
  unfold State.missWait; simp +contextual (maxDischargeDepth := 60) [*]
@[simp] theorem State.startEpisode_wf (s : State) (x : Nat) (o : LoadOp) (word : BitVec 32) (dsts : List Loc) (lines : List Nat) (hs : Memory.wf s.mem = true) :
    Memory.wf (State.startEpisode s x o word dsts lines).mem = true := by
  unfold State.startEpisode; simp +contextual (maxDischargeDepth := 60) [*]
@[simp] theorem State.settle_wf (s : State) (u : Nat) (a : Nat) (n : Nat) (at_ : Attr) (hs : Memory.wf s.mem = true) :
    Memory.wf (State.settle s u a n at_).mem = true := by
  unfold State.settle; (repeat' split) <;> (try simp +contextual (maxDischargeDepth := 60) [*])
def LdRes.wf : LdRes → Prop
  | .ok s _ => Memory.wf s.mem = true
  | .trap s _ => Memory.wf s.mem = true
  | .miss s _ _ => Memory.wf s.mem = true
  | .hold s => Memory.wf s.mem = true
theorem State.loadItem_wf (s : State) (x : Nat) (a : W64) (n : Nat) (fill : Bool) (hs : Memory.wf s.mem = true) :
    LdRes.wf (s.loadItem x a n fill) := by
  have hx := State.xlate_wf s x .read a hs
  unfold State.loadItem
  split
  · exact hs
  · dsimp only
    split
    · exact hx
    · split
      · split
        · exact hx
        · have hd := State.sbDrain_wf _ (unitOf x) hx
          split <;> exact hd
      · split
        · exact hx
        · split
          · exact hx
          · have hd := State.sbDrain_wf _ (unitOf x) hx
            split
            · exact hd
            · exact State.csrRead_wf _ _ _ hd
      · split
        · exact hx
        · rename_i p at_ _ _ _ _ _ _
          have hd := State.settle_wf _ (unitOf x) p n at_ hx
          have hl := fun f => State.loadLine_wf _ (unitOf x) x p n at_ f hd
          split
          · exact hd
          · split <;> first | exact hl _ | exact hd
@[simp] theorem State.setLoad_wf (s : State) (x : Nat) (op : Nat) (rt : Reg5) (v : Nat) (hs : Memory.wf s.mem = true) :
    Memory.wf (State.setLoad s x op rt v).mem = true := by
  unfold State.setLoad; simp +contextual (maxDischargeDepth := 60) [*]
@[simp] theorem State.scalarLoad_wf (s : State) (x : Nat) (op : Nat) (rt : Reg5) (a : W64) (o : LoadOp) (word : BitVec 32) (fill : Bool) (hs : Memory.wf s.mem = true) :
    Eff.wf (State.scalarLoad s x op rt a o word fill) := by
  have h := State.loadItem_wf s x a (opSize op) fill hs
  unfold State.scalarLoad
  split <;> rename_i heq <;> rw [heq] at h
  · exact State.setLoad_wf _ _ _ _ _ h
  · exact h
  · exact State.waitFor_wf _ _ _ _ h
  · rename_i t p at_
    have key : ∀ line, Eff.wf (if t.raOk x at_ then .done (t.startEpisode x o word [loadLoc op rt] line) else .wait (t.missWait x o word line)) := by
      intro line
      split
      · exact State.startEpisode_wf _ _ _ _ _ _ h
      · exact State.missWait_wf _ _ _ _ _ h
    exact key _

@[simp] theorem State.scalarRa_wf (s : State) (x : Nat) (op : Nat) (rt : Reg5) (a : W64) (clean : Bool) (hs : Memory.wf s.mem = true) :
    RaLoad.wf (State.scalarRa s x op rt a clean) := by
  unfold State.scalarRa; (repeat' split) <;> (try simp +contextual (maxDischargeDepth := 60) [*])
@[simp] theorem loadM_wf (x : CtxId) (op : Nat) (rt : Reg5) (rb : Reg5) (disp : BitVec 12) (s : State) (hs : Memory.wf s.mem = true) :
    OutWf (loadM x op rt rb disp s) := by
  unfold loadM; simp +contextual (maxDischargeDepth := 60) [*]
@[simp] theorem execLb_wf (x : CtxId) (rt : Reg5) (rb : Reg5) (disp : BitVec 12) (s : State) (hs : Memory.wf s.mem = true) :
    OutWf (execLb x rt rb disp s) := by
  unfold execLb; simp +contextual (maxDischargeDepth := 60) [*]
@[simp] theorem execLh_wf (x : CtxId) (rt : Reg5) (rb : Reg5) (disp : BitVec 12) (s : State) (hs : Memory.wf s.mem = true) :
    OutWf (execLh x rt rb disp s) := by
  unfold execLh; simp +contextual (maxDischargeDepth := 60) [*]
@[simp] theorem execLw_wf (x : CtxId) (rt : Reg5) (rb : Reg5) (disp : BitVec 12) (s : State) (hs : Memory.wf s.mem = true) :
    OutWf (execLw x rt rb disp s) := by
  unfold execLw; simp +contextual (maxDischargeDepth := 60) [*]
@[simp] theorem execLd_wf (x : CtxId) (rt : Reg5) (rb : Reg5) (disp : BitVec 12) (s : State) (hs : Memory.wf s.mem = true) :
    OutWf (execLd x rt rb disp s) := by
  unfold execLd; simp +contextual (maxDischargeDepth := 60) [*]
@[simp] theorem execLbu_wf (x : CtxId) (rt : Reg5) (rb : Reg5) (disp : BitVec 12) (s : State) (hs : Memory.wf s.mem = true) :
    OutWf (execLbu x rt rb disp s) := by
  unfold execLbu; simp +contextual (maxDischargeDepth := 60) [*]
@[simp] theorem execLhu_wf (x : CtxId) (rt : Reg5) (rb : Reg5) (disp : BitVec 12) (s : State) (hs : Memory.wf s.mem = true) :
    OutWf (execLhu x rt rb disp s) := by
  unfold execLhu; simp +contextual (maxDischargeDepth := 60) [*]
@[simp] theorem execLwu_wf (x : CtxId) (rt : Reg5) (rb : Reg5) (disp : BitVec 12) (s : State) (hs : Memory.wf s.mem = true) :
    OutWf (execLwu x rt rb disp s) := by
  unfold execLwu; simp +contextual (maxDischargeDepth := 60) [*]
@[simp] theorem execLdf_wf (x : CtxId) (rt : Reg5) (rb : Reg5) (disp : BitVec 12) (s : State) (hs : Memory.wf s.mem = true) :
    OutWf (execLdf x rt rb disp s) := by
  unfold execLdf; simp +contextual (maxDischargeDepth := 60) [*]
@[simp] theorem execLwf_wf (x : CtxId) (rt : Reg5) (rb : Reg5) (disp : BitVec 12) (s : State) (hs : Memory.wf s.mem = true) :
    OutWf (execLwf x rt rb disp s) := by
  unfold execLwf; simp +contextual (maxDischargeDepth := 60) [*]
@[simp] theorem State.storeCheck_wf (s : State) (u : Nat) (p : Nat) (at_ : Attr) (hs : Memory.wf s.mem = true) :
    Memory.wf (State.storeCheck s u p at_).1.mem = true := by
  unfold State.storeCheck; simp +contextual (maxDischargeDepth := 60) [*]
@[simp] theorem State.storeItem_wf (s : State) (x : Nat) (a : W64) (l : List Byte) (hs : Memory.wf s.mem = true) :
    Eff.wf (State.storeItem s x a l) := by
  unfold State.storeItem
  extract_lets n r t v b q c
  have hr : Memory.wf r.1.mem = true := State.xlate_wf s x .write a hs
  have ht : Memory.wf t.mem = true := hr
  have hb : Memory.wf b.mem = true := State.sbDrain_wf _ _ ht
  clear_value n v b t r
  split
  · exact hs
  · split
    · exact hr
    · split
      · split
        · exact ht
        · have hb' := fun p f j => State.bellStore_wf b (b.bellBid x) (bellQid p) f v j hb
          dsimp only
          split <;> exact hb' _ _ _
      · split
        · exact ht
        · split
          · exact ht
          · exact State.csrWrite_wf _ _ _ _ _ (State.sbDrain_wf _ _ ht)
      · split
        · exact ht
        · have hc := fun p a => State.storeCheck_wf t (unitOf x) p a ht
          dsimp only
          split
          · exact hc _ _
          · exact State.sbPush_wf _ _ _ (hc _ _)
@[simp] theorem State.storeWait_wf (s : State) (x : Nat) (stores : Bool) (r : Eff) (hr : Eff.wf r) :
    Eff.wf (State.storeWait s x stores r) := by
  unfold State.storeWait
  split
  · split
    · trivial
    · exact hr
  · exact hr

@[simp] theorem storeM_wf (x : CtxId) (op : Nat) (rt : Reg5) (rb : Reg5) (disp : BitVec 12) (s : State) (hs : Memory.wf s.mem = true) :
    OutWf (storeM x op rt rb disp s) := by
  unfold storeM; simp +contextual (maxDischargeDepth := 60) [*]
@[simp] theorem execSb_wf (x : CtxId) (rt : Reg5) (rb : Reg5) (disp : BitVec 12) (s : State) (hs : Memory.wf s.mem = true) :
    OutWf (execSb x rt rb disp s) := by
  unfold execSb; simp +contextual (maxDischargeDepth := 60) [*]
@[simp] theorem execSh_wf (x : CtxId) (rt : Reg5) (rb : Reg5) (disp : BitVec 12) (s : State) (hs : Memory.wf s.mem = true) :
    OutWf (execSh x rt rb disp s) := by
  unfold execSh; simp +contextual (maxDischargeDepth := 60) [*]
@[simp] theorem execSw_wf (x : CtxId) (rt : Reg5) (rb : Reg5) (disp : BitVec 12) (s : State) (hs : Memory.wf s.mem = true) :
    OutWf (execSw x rt rb disp s) := by
  unfold execSw; simp +contextual (maxDischargeDepth := 60) [*]
@[simp] theorem execSd_wf (x : CtxId) (rt : Reg5) (rb : Reg5) (disp : BitVec 12) (s : State) (hs : Memory.wf s.mem = true) :
    OutWf (execSd x rt rb disp s) := by
  unfold execSd; simp +contextual (maxDischargeDepth := 60) [*]
@[simp] theorem execSdf_wf (x : CtxId) (rt : Reg5) (rb : Reg5) (disp : BitVec 12) (s : State) (hs : Memory.wf s.mem = true) :
    OutWf (execSdf x rt rb disp s) := by
  unfold execSdf; simp +contextual (maxDischargeDepth := 60) [*]
@[simp] theorem execSwf_wf (x : CtxId) (rt : Reg5) (rb : Reg5) (disp : BitVec 12) (s : State) (hs : Memory.wf s.mem = true) :
    OutWf (execSwf x rt rb disp s) := by
  unfold execSwf; simp +contextual (maxDischargeDepth := 60) [*]
@[simp] theorem execIndexedLoad_wf (x : CtxId) (op : BitVec 4) (scale : BitVec 2) (rd : Reg5) (rs1 : Reg5) (rs2 : Reg5) (s : State) (hs : Memory.wf s.mem = true) :
    OutWf (execIndexedLoad x op scale rd rs1 rs2 s) := by
  unfold execIndexedLoad; (repeat' split) <;> (try simp +contextual (maxDischargeDepth := 60) [*])
@[simp] theorem execIndexedStore_wf (x : CtxId) (op : BitVec 4) (scale : BitVec 2) (rd : Reg5) (rs1 : Reg5) (rs2 : Reg5) (s : State) (hs : Memory.wf s.mem = true) :
    OutWf (execIndexedStore x op scale rd rs1 rs2 s) := by
  unfold execIndexedStore; (repeat' split) <;> (try simp +contextual (maxDischargeDepth := 60) [*])
@[simp] theorem State.atomicFence_wf (s : State) (x : Nat) (p : Nat) (at_ : Attr) (barr : BitVec 2) (hs : Memory.wf s.mem = true) :
    Memory.wf (State.atomicFence s x p at_ barr).mem = true := by
  unfold State.atomicFence; simp +contextual (maxDischargeDepth := 60) [*]
@[simp] theorem State.atomicRead_wf (s : State) (x : Nat) (p : Nat) (at_ : Attr) (hs : Memory.wf s.mem = true) :
    Memory.wf (State.atomicRead s x p at_).1.mem = true := by
  unfold State.atomicRead; dsimp only; (repeat' split) <;> (try simp +contextual (maxDischargeDepth := 60) [*])
@[simp] theorem State.atomicWrite_wf (s : State) (x : Nat) (p : Nat) (at_ : Attr) (w : Option Nat) (v : W64) (hs : Memory.wf s.mem = true) :
    Memory.wf (State.atomicWrite s x p at_ w v).mem = true := by
  unfold State.atomicWrite; (repeat' split) <;> (try simp +contextual (maxDischargeDepth := 60) [*])
@[simp] theorem State.atomicAt_wf (s : State) (x : Nat) (k : XKind) (barr : BitVec 2) (a : W64) (held : State → Nat → Bool) (fn : W64 → Option W64) (done : State → Nat → Option W64 → State) (hs : Memory.wf s.mem = true) (hdone : ∀ (y0 : State) (y1 : Nat) (y2 : Option W64), Memory.wf y0.mem = true → Memory.wf (done y0 y1 y2).mem = true) :
    Eff.wf (State.atomicAt s x k barr a held fn done) := by
  unfold State.atomicAt; dsimp only; (repeat' split) <;> (try simp +contextual (maxDischargeDepth := 60) [*])
@[simp] theorem amo_wf (x : CtxId) (fn : Nat) (barr : BitVec 2) (rd : Reg5) (rs1 : Reg5) (rs2 : Reg5) (srcs : List Loc) (new : W64 → W64 → W64 → Option W64) (s : State) (hs : Memory.wf s.mem = true) :
    OutWf (amo x fn barr rd rs1 rs2 srcs new s) := by
  unfold amo; simp +contextual (maxDischargeDepth := 60) [*]
@[simp] theorem execCas_wf (x : CtxId) (barr : BitVec 2) (rd : Reg5) (rs1 : Reg5) (rs2 : Reg5) (s : State) (hs : Memory.wf s.mem = true) :
    OutWf (execCas x barr rd rs1 rs2 s) := by
  unfold execCas; simp +contextual (maxDischargeDepth := 60) [*]
@[simp] theorem execSwap_wf (x : CtxId) (barr : BitVec 2) (rd : Reg5) (rs1 : Reg5) (rs2 : Reg5) (s : State) (hs : Memory.wf s.mem = true) :
    OutWf (execSwap x barr rd rs1 rs2 s) := by
  unfold execSwap; simp +contextual (maxDischargeDepth := 60) [*]
@[simp] theorem execAadd_wf (x : CtxId) (barr : BitVec 2) (rd : Reg5) (rs1 : Reg5) (rs2 : Reg5) (s : State) (hs : Memory.wf s.mem = true) :
    OutWf (execAadd x barr rd rs1 rs2 s) := by
  unfold execAadd; simp +contextual (maxDischargeDepth := 60) [*]
@[simp] theorem execAand_wf (x : CtxId) (barr : BitVec 2) (rd : Reg5) (rs1 : Reg5) (rs2 : Reg5) (s : State) (hs : Memory.wf s.mem = true) :
    OutWf (execAand x barr rd rs1 rs2 s) := by
  unfold execAand; simp +contextual (maxDischargeDepth := 60) [*]
@[simp] theorem execAor_wf (x : CtxId) (barr : BitVec 2) (rd : Reg5) (rs1 : Reg5) (rs2 : Reg5) (s : State) (hs : Memory.wf s.mem = true) :
    OutWf (execAor x barr rd rs1 rs2 s) := by
  unfold execAor; simp +contextual (maxDischargeDepth := 60) [*]
@[simp] theorem execAxor_wf (x : CtxId) (barr : BitVec 2) (rd : Reg5) (rs1 : Reg5) (rs2 : Reg5) (s : State) (hs : Memory.wf s.mem = true) :
    OutWf (execAxor x barr rd rs1 rs2 s) := by
  unfold execAxor; simp +contextual (maxDischargeDepth := 60) [*]
@[simp] theorem execAmin_wf (x : CtxId) (barr : BitVec 2) (rd : Reg5) (rs1 : Reg5) (rs2 : Reg5) (s : State) (hs : Memory.wf s.mem = true) :
    OutWf (execAmin x barr rd rs1 rs2 s) := by
  unfold execAmin; simp +contextual (maxDischargeDepth := 60) [*]
@[simp] theorem execAmax_wf (x : CtxId) (barr : BitVec 2) (rd : Reg5) (rs1 : Reg5) (rs2 : Reg5) (s : State) (hs : Memory.wf s.mem = true) :
    OutWf (execAmax x barr rd rs1 rs2 s) := by
  unfold execAmax; simp +contextual (maxDischargeDepth := 60) [*]
@[simp] theorem execAminu_wf (x : CtxId) (barr : BitVec 2) (rd : Reg5) (rs1 : Reg5) (rs2 : Reg5) (s : State) (hs : Memory.wf s.mem = true) :
    OutWf (execAminu x barr rd rs1 rs2 s) := by
  unfold execAminu; simp +contextual (maxDischargeDepth := 60) [*]
@[simp] theorem execAmaxu_wf (x : CtxId) (barr : BitVec 2) (rd : Reg5) (rs1 : Reg5) (rs2 : Reg5) (s : State) (hs : Memory.wf s.mem = true) :
    OutWf (execAmaxu x barr rd rs1 rs2 s) := by
  unfold execAmaxu; simp +contextual (maxDischargeDepth := 60) [*]
@[simp] theorem State.setResv_wf (s : State) (x : Nat) (g : Option Nat) (hs : Memory.wf s.mem = true) :
    Memory.wf (State.setResv s x g).mem = true := by
  unfold State.setResv; simp +contextual (maxDischargeDepth := 60) [*]
@[simp] theorem execLr_wf (x : CtxId) (barr : BitVec 2) (rd : Reg5) (rs1 : Reg5) (s : State) (hs : Memory.wf s.mem = true) :
    OutWf (execLr x barr rd rs1 s) := by
  unfold execLr; simp +contextual (maxDischargeDepth := 60) [*]
@[simp] theorem execSc_wf (x : CtxId) (barr : BitVec 2) (rd : Reg5) (rs1 : Reg5) (rs2 : Reg5) (s : State) (hs : Memory.wf s.mem = true) :
    OutWf (execSc x barr rd rs1 rs2 s) := by
  unfold execSc; simp +contextual (maxDischargeDepth := 60) [*]
def SendWf (r : Except (State × Trap) (State × Line)) : Prop :=
  match r with
  | .ok p => Memory.wf p.1.mem = true
  | .error p => Memory.wf p.1.mem = true
@[simp] theorem State.linkSend_wf (s : State) (x port : Nat) (tag : BitVec 16) (eos : Bool)
    (payload : State → Except (State × Trap) (State × Line)) (hs : Memory.wf s.mem = true)
    (hp : ∀ s, Memory.wf s.mem = true → SendWf (payload s)) : Eff.wf (s.linkSend x port tag eos payload) := by
  have h := hp s hs
  unfold State.linkSend
  split
  · exact hs
  · split
    · exact hs
    · split <;> rename_i heq <;> rw [heq] at h
      · exact h
      · have hd := State.sbDrain_wf _ (unitOf x) h
        dsimp only
        split
        · exact State.setCtx_wf _ _ _ hd
        · exact State.sendFlit_wf _ _ _ _ hd
theorem State.linkLoad_wf (s : State) (x : Nat) (a : W64) (hs : Memory.wf s.mem = true) : SendWf (s.linkLoad x a) := by
  have h := State.loadItem_wf s x a 64 true hs
  unfold State.linkLoad
  split <;> rename_i heq <;> rw [heq] at h <;> exact h
@[simp] theorem execLsend_wf (x : CtxId) (port : BitVec 2) (rs1 : Reg5) (rs2 : Reg5) (s : State) (hs : Memory.wf s.mem = true) :
    OutWf (execLsend x port rs1 rs2 s) := by
  unfold execLsend
  exact issue_wf _ _ _ _ (fun s hs => State.linkSend_wf _ _ _ _ _ _ hs (fun s hs => State.linkLoad_wf _ _ _ hs)) hs
@[simp] theorem execLsendv_wf (x : CtxId) (port : BitVec 2) (hi : BitVec 1) (rs1 : Reg5) (rs2 : Reg5) (s : State) (hs : Memory.wf s.mem = true) :
    OutWf (execLsendv x port hi rs1 rs2 s) := by
  unfold execLsendv
  refine issue_wf _ _ _ _ (fun s hs => ?_) hs
  split
  · exact hs
  · exact State.linkSend_wf _ _ _ _ _ _ hs (fun s hs => hs)
@[simp] theorem execLsende_wf (x : CtxId) (port : BitVec 2) (rs1 : Reg5) (s : State) (hs : Memory.wf s.mem = true) :
    OutWf (execLsende x port rs1 s) := by
  unfold execLsende
  exact issue_wf _ _ _ _ (fun s hs => State.linkSend_wf _ _ _ _ _ _ hs (fun s hs => hs)) hs
@[simp] theorem execLstat_wf (x : CtxId) (port : BitVec 2) (rd : Reg5) (s : State) (hs : Memory.wf s.mem = true) :
    OutWf (execLstat x port rd s) := by
  unfold execLstat; simp +contextual (maxDischargeDepth := 60) [*]
@[simp] theorem State.linkRecv_wf (s : State) (x : Nat) (port : Nat) (rd : Reg5) (vb : Nat) (addr : State → Except Trap (Option (Nat × Attr))) (hs : Memory.wf s.mem = true) :
    Eff.wf (State.linkRecv s x port rd vb addr) := by
  unfold State.linkRecv; dsimp only; (repeat' split) <;> (try simp +contextual (maxDischargeDepth := 60) [*])
@[simp] theorem execLrecv_wf (x : CtxId) (port : BitVec 2) (rd : Reg5) (rs1 : Reg5) (s : State) (hs : Memory.wf s.mem = true) :
    OutWf (execLrecv x port rd rs1 s) := by
  unfold execLrecv; simp +contextual (maxDischargeDepth := 60) [*]
@[simp] theorem execLrecvv_wf (x : CtxId) (port : BitVec 2) (hi : BitVec 1) (rd : Reg5) (rs2 : Reg5) (s : State) (hs : Memory.wf s.mem = true) :
    OutWf (execLrecvv x port hi rd rs2 s) := by
  unfold execLrecvv
  refine issue_wf _ _ _ _ (fun s hs => ?_) hs
  split
  · exact hs
  · exact State.linkRecv_wf _ _ _ _ _ _ hs
@[simp] theorem State.dropIbuf_wf (s : State) (xs : List Nat) (hs : Memory.wf s.mem = true) :
    Memory.wf (State.dropIbuf s xs).mem = true := by
  unfold State.dropIbuf; simp +contextual (maxDischargeDepth := 60) [*]
@[simp] theorem State.fenceStart_wf (s : State) (x : Nat) (arg : BitVec 6) (hs : Memory.wf s.mem = true) :
    Memory.wf (State.fenceStart s x arg).mem = true := by
  unfold State.fenceStart; dsimp only; (repeat' split) <;> (try simp +contextual (maxDischargeDepth := 60) [*])
@[simp] theorem execFence_wf (x : CtxId) (arg : BitVec 6) (s : State) (hs : Memory.wf s.mem = true) :
    OutWf (execFence x arg s) := by
  unfold execFence
  refine issue_wf _ _ _ _ (fun s hs => ?_) hs
  have ht := State.fenceStart_wf s (ctxIdx x) arg hs
  dsimp only
  split
  · exact State.waitFor_wf _ _ _ _ ht
  · exact ht
@[simp] theorem sysTrap_wf (x : CtxId) (op : Nat) (code : Nat) (s : State) (hs : Memory.wf s.mem = true) :
    Memory.wf (sysTrap x op code s).mem = true := by
  unfold sysTrap; simp +contextual (maxDischargeDepth := 60) [*]
@[simp] theorem execEcall_wf (x : CtxId) (s : State) (hs : Memory.wf s.mem = true) :
    OutWf (execEcall x s) := by
  unfold execEcall; simp +contextual (maxDischargeDepth := 60) [*]
@[simp] theorem execBreak_wf (x : CtxId) (s : State) (hs : Memory.wf s.mem = true) :
    OutWf (execBreak x s) := by
  unfold execBreak; simp +contextual (maxDischargeDepth := 60) [*]
@[simp] theorem State.retired_wf (s : State) (x : Nat) (hs : Memory.wf s.mem = true) :
    Memory.wf (State.retired s x).mem = true := by
  unfold State.retired; simp +contextual (maxDischargeDepth := 60) [*]
@[simp] theorem State.resumeAt_wf (s : State) (x : Nat) (epc : W64) (enpc : W64) (hs : Memory.wf s.mem = true) :
    Memory.wf (State.resumeAt s x epc enpc).mem = true := by
  unfold State.resumeAt; simp +contextual (maxDischargeDepth := 60) [*]
@[simp] theorem State.rettCore_wf (s : State) (x : Nat) (b : Nat) (hs : Memory.wf s.mem = true) :
    Memory.wf (State.rettCore s x b).mem = true := by
  unfold State.rettCore; simp +contextual (maxDischargeDepth := 60) [*]
@[simp] theorem State.rettEng_wf (s : State) (x : Nat) (hs : Memory.wf s.mem = true) :
    Memory.wf (State.rettEng s x).mem = true := by
  unfold State.rettEng; simp +contextual (maxDischargeDepth := 60) [*]
@[simp] theorem execRett_wf (x : CtxId) (s : State) (hs : Memory.wf s.mem = true) :
    OutWf (execRett x s) := by
  unfold execRett
  refine issue_wf _ _ _ _ (fun s hs => ?_) hs
  split
  · split
    · exact State.retired_wf _ _ (State.rettEng_wf _ _ hs)
    · exact hs
  · split
    · exact hs
    · exact State.retired_wf _ _ (State.rettCore_wf _ _ _ hs)
    · exact State.retired_wf _ _ (State.rettCore_wf _ _ _ hs)
@[simp] theorem execWait_wf (x : CtxId) (s : State) (hs : Memory.wf s.mem = true) :
    OutWf (execWait x s) := by
  unfold execWait
  refine issue_wf _ _ _ _ (fun s hs => ?_) hs
  have ht := State.retire_wf s (ctxIdx x) false hs
  split
  · exact hs
  · dsimp only
    split
    · exact ht
    · exact State.waitFor_wf _ _ _ _ ht
@[simp] theorem execWaitResume_wf (h : Fin 64) (s : State) (hs : Memory.wf s.mem = true) :
    OutWf (execWaitResume h s) := by
  unfold execWaitResume; simp +contextual (maxDischargeDepth := 60) [*]
@[simp] theorem execTlbinv_wf (x : CtxId) (arg : BitVec 2) (rs1 : Reg5) (rs2 : Reg5) (s : State) (hs : Memory.wf s.mem = true) :
    OutWf (execTlbinv x arg rs1 rs2 s) := by
  unfold execTlbinv
  refine issue_wf _ _ _ _ (fun s hs => ?_) hs
  split
  · exact hs
  · exact State.dropIbuf_wf _ _ (State.sbDrain_wf s (unitOf (ctxIdx x)) hs)

@[simp] theorem State.jendMarkers_wf (s : State) (j : Nat) (stage : Nat) (hs : Memory.wf s.mem = true) :
    Memory.wf (State.jendMarkers s j stage).mem = true := by
  unfold State.jendMarkers; simp +contextual (maxDischargeDepth := 60) [*]
@[simp] theorem State.jendDiscard_wf (s : State) (j : Nat) (stage : Nat) (hs : Memory.wf s.mem = true) :
    Memory.wf (State.jendDiscard s j stage).mem = true := by
  unfold State.jendDiscard; simp +contextual (maxDischargeDepth := 60) [*]
@[simp] theorem State.jendEnd_wf (s : State) (x : Nat) (v : W64) (hs : Memory.wf s.mem = true) :
    Memory.wf (State.jendEnd s x v).mem = true := by
  unfold State.jendEnd; simp +contextual (maxDischargeDepth := 60) [*]
@[simp] theorem execJend_wf (x : CtxId) (rs1 : Reg5) (s : State) (hs : Memory.wf s.mem = true) :
    OutWf (execJend x rs1 s) := by
  unfold execJend
  refine issue_wf _ _ _ _ (fun s hs => ?_) hs
  have ht := State.ctxFence_wf s (ctxIdx x) hs
  dsimp only
  split
  · exact State.waitFor_wf _ _ _ _ ht
  · exact State.jendEnd_wf _ _ _ ht
@[simp] theorem State.csrSet_wf (s : State) (x : Nat) (n : Nat) (v : W64) (hs : Memory.wf s.mem = true) :
    Memory.wf (State.csrSet s x n v).mem = true := by
  unfold State.csrSet; simp +contextual (maxDischargeDepth := 60) [*]
@[simp] theorem State.csrAccess_wf (s : State) (x : Nat) (n : Nat) (w : BitVec 32) (rd : Nat) (wr : Option (W64 → W64)) (hs : Memory.wf s.mem = true) :
    Eff.wf (State.csrAccess s x n w rd wr) := by
  unfold State.csrAccess; (repeat' split) <;> (try simp +contextual (maxDischargeDepth := 60) [*])
@[simp] theorem execCsrr_wf (x : CtxId) (rd : Reg5) (n : BitVec 12) (s : State) (hs : Memory.wf s.mem = true) :
    OutWf (execCsrr x rd n s) := by
  unfold execCsrr; simp +contextual (maxDischargeDepth := 60) [*]
@[simp] theorem csrWr_wf (x : CtxId) (op : Nat) (rd : Reg5) (rs1 : Reg5) (n : BitVec 12) (f : W64 → W64 → W64) (s : State) (hs : Memory.wf s.mem = true) :
    OutWf (csrWr x op rd rs1 n f s) := by
  unfold csrWr; simp +contextual (maxDischargeDepth := 60) [*]
@[simp] theorem execCsrw_wf (x : CtxId) (rd : Reg5) (rs1 : Reg5) (n : BitVec 12) (s : State) (hs : Memory.wf s.mem = true) :
    OutWf (execCsrw x rd rs1 n s) := by
  unfold execCsrw; simp +contextual (maxDischargeDepth := 60) [*]
@[simp] theorem execCsrs_wf (x : CtxId) (rd : Reg5) (rs1 : Reg5) (n : BitVec 12) (s : State) (hs : Memory.wf s.mem = true) :
    OutWf (execCsrs x rd rs1 n s) := by
  unfold execCsrs; simp +contextual (maxDischargeDepth := 60) [*]
@[simp] theorem execCsrc_wf (x : CtxId) (rd : Reg5) (rs1 : Reg5) (n : BitVec 12) (s : State) (hs : Memory.wf s.mem = true) :
    OutWf (execCsrc x rd rs1 n s) := by
  unfold execCsrc; simp +contextual (maxDischargeDepth := 60) [*]
@[simp] theorem State.setVstart_wf (s : State) (x : Nat) (k : Nat) (hs : Memory.wf s.mem = true) :
    Memory.wf (State.setVstart s x k).mem = true := by
  unfold State.setVstart; simp +contextual (maxDischargeDepth := 60) [*]
def VmRes.wf : VmRes → Prop
  | .ok s => Memory.wf s.mem = true
  | .trap s _ _ => Memory.wf s.mem = true
  | .miss _ _ => True
theorem vmLoadGo_wf (x op : Nat) (ew : BitVec 2) (o : VF) (fill : Bool) (l : List Nat) (s : State) (hs : Memory.wf s.mem = true) :
    VmRes.wf (vmLoadGo x op ew o fill l s) := by
  induction l generalizing s with
  | nil => exact hs
  | cons i t ih =>
    have h := State.loadItem_wf s x (s.vmAddr x op ew o i) (vmSize op ew) fill hs
    unfold vmLoadGo
    dsimp only
    split <;> rename_i heq <;> rw [heq] at h
    · exact ih _ (State.setVel_wf _ _ _ _ _ _ h)
    · exact h
    · trivial
    · trivial
@[simp] theorem State.vmLoad_wf (s : State) (x : Nat) (op : Nat) (ew : BitVec 2) (o : VF) (fill : Bool) (hs : Memory.wf s.mem = true) :
    Eff.wf (State.vmLoad s x op ew o fill) := by
  have h := vmLoadGo_wf x op ew o fill (s.vmElems x op ew o) s hs
  unfold State.vmLoad
  dsimp only
  split
  · exact hs
  · split <;> (try rename_i heq) <;> (try rw [heq] at h)
    · exact State.setVstart_wf _ _ _ h
    · exact State.setVstart_wf _ _ _ h
    · split
      · exact State.startEpisode_wf _ _ _ _ _ _ hs
      · exact State.missWait_wf _ _ _ _ _ hs
@[simp] theorem State.vmRaLoad_wf (s : State) (x : Nat) (op : Nat) (ew : BitVec 2) (o : VF) (hs : Memory.wf s.mem = true) :
    RaLoad.wf (State.vmRaLoad s x op ew o) := by
  unfold State.vmRaLoad
  split
  · trivial
  · split
    · exact hs
    · extract_lets rs lines
      clear_value rs lines
      split
      · trivial
      · split
        · refine (RaLoad.wf_data _).2 (foldl_wf _ _ hs (fun s a h => ?_))
          split
          · exact State.setVel_wf _ _ _ _ _ _ h
          · exact h
        · exact (RaLoad.wf_poison _).2 (foldl_wf _ _ hs (fun s a h => State.prefetch_wf _ _ _ _ h))
@[simp] theorem vmLoadCmd_wf (x : CtxId) (op : Nat) (ew : BitVec 2) (o : VF) (s : State) (hs : Memory.wf s.mem = true) :
    OutWf (vmLoadCmd x op ew o s) := by
  unfold vmLoadCmd; simp +contextual (maxDischargeDepth := 60) [*]
@[simp] theorem State.vmStoreItem_wf (s : State) (x : Nat) (a : W64) (l : List Byte) (hs : Memory.wf s.mem = true) :
    Eff.wf (State.vmStoreItem s x a l) := by
  unfold State.vmStoreItem; dsimp only; (repeat' split) <;> (try simp +contextual (maxDischargeDepth := 60) [*])
@[simp] theorem vmStoreGo_wf (x : Nat) (op : Nat) (ew : BitVec 2) (o : VF) (u1 : List Nat) (u2 : State) (hu2 : Memory.wf u2.mem = true) :
    Memory.wf (vmStoreGo x op ew o u1 u2).1.mem = true := by
  induction u1 generalizing u2 with
  | nil => exact hu2
  | cons i t ih =>
    have h := State.vmStoreItem_wf u2 x (u2.vmAddr x op ew o i) (leBytes (vmSize op ew) (u2.vel x (vnum o.xd o.vd) (8 * vmSize op ew) i)) hu2
    unfold vmStoreGo
    dsimp only
    split <;> (try rename_i heq) <;> (try rw [heq] at h)
    · exact ih _ h
    · exact h
    · exact hu2
@[simp] theorem State.vmStore_wf (s : State) (x : Nat) (op : Nat) (ew : BitVec 2) (o : VF) (hs : Memory.wf s.mem = true) :
    Eff.wf (State.vmStore s x op ew o) := by
  unfold State.vmStore; dsimp only; (repeat' split) <;> (try simp +contextual (maxDischargeDepth := 60) [*])
@[simp] theorem vmStoreCmd_wf (x : CtxId) (op : Nat) (ew : BitVec 2) (o : VF) (s : State) (hs : Memory.wf s.mem = true) :
    OutWf (vmStoreCmd x op ew o s) := by
  unfold vmStoreCmd; simp +contextual (maxDischargeDepth := 60) [*]
@[simp] theorem execVld_wf (x : CtxId) (ew : BitVec 2) (o : VF) (s : State) (hs : Memory.wf s.mem = true) :
    OutWf (execVld x ew o s) := by
  unfold execVld; simp +contextual (maxDischargeDepth := 60) [*]
@[simp] theorem execVst_wf (x : CtxId) (ew : BitVec 2) (o : VF) (s : State) (hs : Memory.wf s.mem = true) :
    OutWf (execVst x ew o s) := by
  unfold execVst; simp +contextual (maxDischargeDepth := 60) [*]
@[simp] theorem execVlds_wf (x : CtxId) (ew : BitVec 2) (o : VF) (s : State) (hs : Memory.wf s.mem = true) :
    OutWf (execVlds x ew o s) := by
  unfold execVlds; simp +contextual (maxDischargeDepth := 60) [*]
@[simp] theorem execVsts_wf (x : CtxId) (ew : BitVec 2) (o : VF) (s : State) (hs : Memory.wf s.mem = true) :
    OutWf (execVsts x ew o s) := by
  unfold execVsts; simp +contextual (maxDischargeDepth := 60) [*]
@[simp] theorem execVgath_wf (x : CtxId) (ew : BitVec 2) (o : VF) (s : State) (hs : Memory.wf s.mem = true) :
    OutWf (execVgath x ew o s) := by
  unfold execVgath; simp +contextual (maxDischargeDepth := 60) [*]
@[simp] theorem execVscat_wf (x : CtxId) (ew : BitVec 2) (o : VF) (s : State) (hs : Memory.wf s.mem = true) :
    OutWf (execVscat x ew o s) := by
  unfold execVscat; simp +contextual (maxDischargeDepth := 60) [*]
@[simp] theorem execVgathq_wf (x : CtxId) (ew : BitVec 2) (o : VF) (s : State) (hs : Memory.wf s.mem = true) :
    OutWf (execVgathq x ew o s) := by
  unfold execVgathq; simp +contextual (maxDischargeDepth := 60) [*]
@[simp] theorem execVscatq_wf (x : CtxId) (ew : BitVec 2) (o : VF) (s : State) (hs : Memory.wf s.mem = true) :
    OutWf (execVscatq x ew o s) := by
  unfold execVscatq; simp +contextual (maxDischargeDepth := 60) [*]
@[simp] theorem State.runLoad_wf (s : State) (x : Nat) (o : LoadOp) (word : BitVec 32) (fill : Bool) (hs : Memory.wf s.mem = true) :
    Eff.wf (State.runLoad s x o word fill) := by
  unfold State.runLoad; (repeat' split) <;> (try simp +contextual (maxDischargeDepth := 60) [*])
theorem Eff.finish_wf (s : State) (x : Nat) (e : Eff) (hs : Memory.wf s.mem = true) (h : Eff.wf e) : Memory.wf (e.finish s x).mem = true := by
  cases e with
  | ok t => exact State.retire_wf _ _ _ h
  | trap t k => exact State.takeTrap_wf _ _ _ h
  | jump t a b c => exact State.jumpTo_wf _ _ _ _ _ h
  | wait t => exact h
  | block w => exact hs
  | done t => exact h

@[simp] theorem State.wake_wf (s : State) (x : Nat) (hs : Memory.wf s.mem = true) :
    Memory.wf (State.wake s x).mem = true := by
  unfold State.wake; simp +contextual (maxDischargeDepth := 60) [*]
@[simp] theorem State.filled_wf (s : State) (x : Nat) (hs : Memory.wf s.mem = true) :
    Memory.wf (State.filled s x).mem = true := by
  unfold State.filled; simp +contextual (maxDischargeDepth := 60) [*]
@[simp] theorem execDemandMissFill_wf (x : CtxId) (s : State) (hs : Memory.wf s.mem = true) :
    OutWf (execDemandMissFill x s) := by
  unfold execDemandMissFill
  refine (OutWf_next _).2 ?_
  split
  · dsimp only
    split
    · exact hs
    · exact State.filled_wf _ _ (Eff.finish_wf _ _ _ hs (State.runLoad_wf _ _ _ _ _ (State.wake_wf _ _ hs)))
  · exact hs

@[simp] theorem execMissDataArrival_wf (x : CtxId) (s : State) (hs : Memory.wf s.mem = true) :
    OutWf (execMissDataArrival x s) := by
  unfold execMissDataArrival
  refine (OutWf_next _).2 ?_
  split
  · exact hs
  · rename_i e _
    have hw := State.wake_wf _ (ctxIdx x) (State.squash_wf s (ctxIdx x) hs)
    have h := State.runLoad_wf _ (ctxIdx x) e.load e.word true hw
    dsimp only
    split
    · exact hs
    · split
      · rename_i heq
        rw [heq] at h
        exact State.filled_wf _ _ (State.setCtx_wf _ _ _ h)
      · exact State.filled_wf _ _ (Eff.finish_wf _ _ _ hw h)

@[simp] theorem execMissingLoadReissue_wf (x : CtxId) (s : State) (hs : Memory.wf s.mem = true) :
    OutWf (execMissingLoadReissue x s) := by
  unfold execMissingLoadReissue
  refine (OutWf_next _).2 ?_
  split
  · have h := State.pmc_wf _ (unitOf (ctxIdx x)) 1 (State.wake_wf _ (ctxIdx x) hs)
    dsimp only
    split
    · exact hs
    · exact Eff.finish_wf _ _ _ h (State.runLoad_wf _ _ _ _ _ (State.setExe_wf _ _ _ h))
  · exact hs

@[simp] theorem State.sideLine_wf (s : State) (u : Nat) (f : SideFill) (hs : Memory.wf s.mem = true) :
    Memory.wf (State.sideLine s u f).1.mem = true := by
  unfold State.sideLine; dsimp only; (repeat' split) <;> (try simp +contextual (maxDischargeDepth := 60) [*])
@[simp] theorem execSideBufferFill_wf (sl : Fin 8) (e : Fin 16) (s : State) (hs : Memory.wf s.mem = true) :
    OutWf (execSideBufferFill sl e s) := by
  unfold execSideBufferFill; dsimp only; (repeat' split) <;> (try simp +contextual (maxDischargeDepth := 60) [*])
@[simp] theorem execStoreBufferDrain_wf (u : Fin 144) (s : State) (hs : Memory.wf s.mem = true) :
    OutWf (execStoreBufferDrain u s) := by
  unfold execStoreBufferDrain; simp +contextual (maxDischargeDepth := 60) [*]
@[simp] theorem State.acked_wf (s : State) (x : Nat) (hs : Memory.wf s.mem = true) :
    Memory.wf (State.acked s x).mem = true := by
  unfold State.acked
  generalize hw : (s.ctx x).wait = w
  cases w with
  | ack => exact State.unblock_wf _ _ hs
  | jend v => exact State.jendEnd_wf _ _ _ hs
  | drain => exact State.setCtx_wf _ _ _ hs
  | mvgo =>
    dsimp only
    split
    · exact State.wake_wf _ _ hs
    · exact hs
  | _ => exact hs
@[simp] theorem execWriteAcknowledge_wf (x : CtxId) (s : State) (hs : Memory.wf s.mem = true) :
    OutWf (execWriteAcknowledge x s) := by
  unfold execWriteAcknowledge
  refine (OutWf_next _).2 ?_
  dsimp only
  split
  · exact hs
  · split
    · exact State.acked_wf _ _ (State.setCtx_wf _ _ _ hs)
    · exact State.setCtx_wf _ _ _ hs

@[simp] theorem execIllegalEncoding_wf (x : CtxId) (w : BitVec 32) (s : State) (hs : Memory.wf s.mem = true) :
    OutWf (execIllegalEncoding x w s) := by
  unfold execIllegalEncoding; simp +contextual (maxDischargeDepth := 60) [*]
@[simp] theorem State.prefAt_wf (s : State) (x : Nat) (a : W64) (l1 : Bool) (hs : Memory.wf s.mem = true) :
    Memory.wf (State.prefAt s x a l1).mem = true := by
  unfold State.prefAt; dsimp only; (repeat' split) <;> (try simp +contextual (maxDischargeDepth := 60) [*])
@[simp] theorem execPref1_wf (x : CtxId) (rb : Reg5) (disp : BitVec 12) (s : State) (hs : Memory.wf s.mem = true) :
    OutWf (execPref1 x rb disp s) := by
  unfold execPref1; simp +contextual (maxDischargeDepth := 60) [*]
@[simp] theorem execPref2_wf (x : CtxId) (rb : Reg5) (disp : BitVec 12) (s : State) (hs : Memory.wf s.mem = true) :
    OutWf (execPref2 x rb disp s) := by
  unfold execPref2; simp +contextual (maxDischargeDepth := 60) [*]
@[simp] theorem State.mopAt_wf (s : State) (x : Nat) (m : Mop) (a : W64) (hs : Memory.wf s.mem = true) :
    Memory.wf (State.mopAt s x m a).1.mem = true := by
  unfold State.mopAt; dsimp only; (repeat' split) <;> (try simp +contextual (maxDischargeDepth := 60) [*])
@[simp] theorem lineRange_wf (f : State → W64 → State × Option Trap) (u1 : Nat) (u2 : State) (u3 : W64) (hf : ∀ (y0 : State) (y1 : W64), Memory.wf y0.mem = true → Memory.wf (f y0 y1).1.mem = true) (hu2 : Memory.wf u2.mem = true) :
    Memory.wf (lineRange f u1 u2 u3).1.mem = true := by
  induction u1 generalizing u2 u3 with
  | zero => exact hu2
  | succ k ih =>
    have h := hf u2 u3 hu2
    unfold lineRange
    dsimp only
    split
    · exact h
    · exact ih _ _ h
@[simp] theorem State.lineWait_wf (s : State) (x : Nat) (n : Nat) (a : W64) (run : Eff) (hr : Eff.wf run) :
    Eff.wf (State.lineWait s x n a run) := by
  unfold State.lineWait
  dsimp only
  split
  · trivial
  · exact hr

@[simp] theorem mopEnd_wf (x : Nat) (acks0 : Nat) (r : State × Option Trap) (hr : Memory.wf r.1.mem = true) :
    Eff.wf (mopEnd x acks0 r) := by
  unfold mopEnd; (repeat' split) <;> (try simp +contextual (maxDischargeDepth := 60) [*])
@[simp] theorem mopA_wf (x : CtxId) (m : Mop) (op : Nat) (rb : Reg5) (disp : BitVec 12) (s : State) (hs : Memory.wf s.mem = true) :
    Memory.wf (mopA x m op rb disp s).mem = true := by
  unfold mopA; simp +contextual (maxDischargeDepth := 60) [*]
@[simp] theorem mopR_wf (x : CtxId) (m : Mop) (op : Nat) (rt : Reg5) (rb : Reg5) (s : State) (hs : Memory.wf s.mem = true) :
    Memory.wf (mopR x m op rt rb s).mem = true := by
  unfold mopR; simp +contextual (maxDischargeDepth := 60) [*]
@[simp] theorem execClnA_wf (x : CtxId) (rb : Reg5) (disp : BitVec 12) (s : State) (hs : Memory.wf s.mem = true) :
    OutWf (execClnA x rb disp s) := by
  unfold execClnA; simp +contextual (maxDischargeDepth := 60) [*]
@[simp] theorem execInvA_wf (x : CtxId) (rb : Reg5) (disp : BitVec 12) (s : State) (hs : Memory.wf s.mem = true) :
    OutWf (execInvA x rb disp s) := by
  unfold execInvA; simp +contextual (maxDischargeDepth := 60) [*]
@[simp] theorem execCliA_wf (x : CtxId) (rb : Reg5) (disp : BitVec 12) (s : State) (hs : Memory.wf s.mem = true) :
    OutWf (execCliA x rb disp s) := by
  unfold execCliA; simp +contextual (maxDischargeDepth := 60) [*]
@[simp] theorem execClnR_wf (x : CtxId) (rt : Reg5) (rb : Reg5) (s : State) (hs : Memory.wf s.mem = true) :
    OutWf (execClnR x rt rb s) := by
  unfold execClnR; simp +contextual (maxDischargeDepth := 60) [*]
@[simp] theorem execInvR_wf (x : CtxId) (rt : Reg5) (rb : Reg5) (s : State) (hs : Memory.wf s.mem = true) :
    OutWf (execInvR x rt rb s) := by
  unfold execInvR; simp +contextual (maxDischargeDepth := 60) [*]
@[simp] theorem execCliR_wf (x : CtxId) (rt : Reg5) (rb : Reg5) (s : State) (hs : Memory.wf s.mem = true) :
    OutWf (execCliR x rt rb s) := by
  unfold execCliR; simp +contextual (maxDischargeDepth := 60) [*]
@[simp] theorem State.l1dSlot_wf (s : State) (u : Nat) (m : Mop) (set : Nat) (way : Nat) (hs : Memory.wf s.mem = true) :
    Memory.wf (State.l1dSlot s u m set way).mem = true := by
  unfold State.l1dSlot; dsimp only; (repeat' split) <;> (try simp +contextual (maxDischargeDepth := 60) [*])
@[simp] theorem mopPriv_wf (x : CtxId) (w : BitVec 32) (srcs : List Loc) (body : State → Eff) (s : State) (hbody : ∀ (y0 : State), Memory.wf y0.mem = true → Eff.wf (body y0)) (hs : Memory.wf s.mem = true) :
    Memory.wf (mopPriv x w srcs body s).mem = true := by
  unfold mopPriv
  refine issue_wf _ _ _ _ (fun s hs => ?_) hs
  split
  · exact hs
  · exact hbody _ hs
@[simp] theorem mopSw_wf (x : CtxId) (m : Mop) (op : Nat) (rb : Reg5) (s : State) (hs : Memory.wf s.mem = true) :
    Memory.wf (mopSw x m op rb s).mem = true := by
  unfold mopSw; simp +contextual (maxDischargeDepth := 60) [*]
@[simp] theorem execClnSw_wf (x : CtxId) (rb : Reg5) (s : State) (hs : Memory.wf s.mem = true) :
    OutWf (execClnSw x rb s) := by
  unfold execClnSw; simp +contextual (maxDischargeDepth := 60) [*]
@[simp] theorem execInvSw_wf (x : CtxId) (rb : Reg5) (s : State) (hs : Memory.wf s.mem = true) :
    OutWf (execInvSw x rb s) := by
  unfold execInvSw; simp +contextual (maxDischargeDepth := 60) [*]
@[simp] theorem execCliSw_wf (x : CtxId) (rb : Reg5) (s : State) (hs : Memory.wf s.mem = true) :
    OutWf (execCliSw x rb s) := by
  unfold execCliSw; simp +contextual (maxDischargeDepth := 60) [*]
@[simp] theorem State.lockFillAt_wf (s : State) (x : Nat) (way : Nat) (a : W64) (hs : Memory.wf s.mem = true) :
    Memory.wf (State.lockFillAt s x way a).1.mem = true := by
  unfold State.lockFillAt; dsimp only; (repeat' split) <;> (try simp +contextual (maxDischargeDepth := 60) [*])
@[simp] theorem execLockfill_wf (x : CtxId) (rt : Reg5) (rb : Reg5) (disp : BitVec 12) (s : State) (hs : Memory.wf s.mem = true) :
    OutWf (execLockfill x rt rb disp s) := by
  unfold execLockfill
  refine mopPriv_wf _ _ _ _ _ (fun s hs => ?_) hs
  dsimp only
  split
  · exact hs
  · split
    · exact State.setRegBit_wf _ _ _ _ hs
    · exact State.lineWait_wf _ _ _ _ _ (mopEnd_wf _ _ _ (lineRange_wf _ _ _ _ (fun s a h => State.lockFillAt_wf _ _ _ _ h) hs))

@[simp] theorem State.sendSearch_wf (s : State) (x : Nat) (n : Nat) (rd : Nat) (wide : Bool) (all : Bool) (t : W64) (h : W64) (addr : Nat) (at_ : Attr) (hs : Memory.wf s.mem = true) :
    Eff.wf (State.sendSearch s x n rd wide all t h addr at_) := by
  unfold State.sendSearch; simp +contextual (maxDischargeDepth := 60) [*]
@[simp] theorem State.search_wf (s : State) (x : Nat) (n : Nat) (w : BitVec 32) (wide : Bool) (all : Bool) (rd : Reg5) (rs1 : Reg5) (rs2 : Reg5) (hs : Memory.wf s.mem = true) :
    Eff.wf (State.search s x n w wide all rd rs1 rs2) := by
  unfold State.search; dsimp only; (repeat' split) <;> (try simp +contextual (maxDischargeDepth := 60) [*])
@[simp] theorem searchCmd_wf (x : CtxId) (wide : Bool) (all : Bool) (op : Nat) (n : BitVec 6) (rd : Reg5) (rs1 : Reg5) (rs2 : Reg5) (s : State) (hs : Memory.wf s.mem = true) :
    OutWf (searchCmd x wide all op n rd rs1 rs2 s) := by
  unfold searchCmd; simp +contextual (maxDischargeDepth := 60) [*]
@[simp] theorem execSrch_wf (x : CtxId) (n : BitVec 6) (rd : Reg5) (rs1 : Reg5) (rs2 : Reg5) (s : State) (hs : Memory.wf s.mem = true) :
    OutWf (execSrch x n rd rs1 rs2 s) := by
  unfold execSrch; simp +contextual (maxDischargeDepth := 60) [*]
@[simp] theorem execSrchw_wf (x : CtxId) (n : BitVec 6) (rd : Reg5) (rs1 : Reg5) (rs2 : Reg5) (s : State) (hs : Memory.wf s.mem = true) :
    OutWf (execSrchw x n rd rs1 rs2 s) := by
  unfold execSrchw; simp +contextual (maxDischargeDepth := 60) [*]
@[simp] theorem execSrcha_wf (x : CtxId) (n : BitVec 6) (rd : Reg5) (rs1 : Reg5) (rs2 : Reg5) (s : State) (hs : Memory.wf s.mem = true) :
    OutWf (execSrcha x n rd rs1 rs2 s) := by
  unfold execSrcha; simp +contextual (maxDischargeDepth := 60) [*]
@[simp] theorem execSrchaw_wf (x : CtxId) (n : BitVec 6) (rd : Reg5) (rs1 : Reg5) (rs2 : Reg5) (s : State) (hs : Memory.wf s.mem = true) :
    OutWf (execSrchaw x n rd rs1 rs2 s) := by
  unfold execSrchaw; simp +contextual (maxDischargeDepth := 60) [*]
end Sys2Proof.Machine
end

