-- ==== Sys2Proof/Tests/Slice0.lean ====
section
/-! SUPPORT. Sys2Proof/Tests/Slice0.lean: tests on small states, one step each. Expected values come from the worked examples and tables of
the spec or from hand calculation by its rules. A theorem named `wit_…` shows states and operands that meet the hypotheses of a statement
of Sys2Proof/Certificates/Slice0/Obligations.lean. -/

namespace Sys2Proof.Tests

set_option Elab.async false

open Sys2Proof Sys2Proof.Machine

/-- The state that a command answers. -/
def nxt (o : Out) : State := match o with | .next t => t | _ => State.reset
/-- A command's effect. -/
def run (c : Instr) (s : State) : State := nxt (exec c s)
/-- Registers at PC 0x1000. -/
def regs (g : Tab W64 := []) (v : Tab W128 := []) (p : Tab W128 := []) (csr : Tab W64 := []) : Regs :=
  { g := g, v := v, p := p, csr := csr, pc := 0x1000, npc := 0x1004 }
/-- Control-core thread 0 at privilege M, READY, its instruction in its buffer and in the L1I. -/
def core (r : Regs) : State := { ctxs := [(2048, { st := .ready, r := r, priv := .m, ibuf := some 0x100 })], execs := [(128, { l1i := [0x40] })] }
/-- Booth 1 with one window of 64 KiB onto HBM at 0x10000. -/
def booth1 : Tab Booth :=
  [(1, { st := .active, windows := [(0, { valid := true, base := 0, size := 0x10000, target := 0x10000, r := true, w := true, x := true })] })]
/-- Engine context 0 of engine 0 of slice 0 runs a job of Booth 1. -/
def eng (r : Regs) : State :=
  { ctxs := [(0, { st := .ready, r := r, priv := .u, bid := 1, ibuf := some 0x100 })], execs := [(0, { l1i := [0x440] })], booths := booth1 }
/-- The evaluator of sieve 0. -/
def siv (r : Regs) : State := { ctxs := [(2112, { st := .ready, r := r })] }
def H : CtxId := .ht 0
def E : CtxId := .eng 0 0 0
def V : CtxId := .sieve 0

/-! ### Well-formed commands -/

theorem test_wellFormed_sieve : (Instr.lb V 1 2 0).wellFormed = false ∧ (Instr.lb H 1 2 0).wellFormed = true ∧
    (Instr.add V 1 2 3).wellFormed = true ∧ (Instr.jend V 1).wellFormed = false := by decide +kernel
theorem test_wellFormed_lanes : (Instr.recenterEnd 0 []).wellFormed = false ∧
    (Instr.recenterEnd 0 (List.replicate 10 ⟨0, 0, 0, 0⟩)).wellFormed = true := by decide +kernel
theorem test_wellFormed_words : (Instr.mboxPost (List.replicate 9 0)).wellFormed = false ∧ (Instr.mboxPost [1]).wellFormed = true := by decide +kernel
theorem test_wellFormed_temps : (Instr.limiterEval 0 []).wellFormed = false := by decide +kernel
theorem test_wellFormed_record : (Instr.personalityRecordReceive (List.replicate 4077 0)).wellFormed = false := by decide +kernel
theorem test_wellFormed_blocks : (Instr.formatComplete [2 ^ 28] []).wellFormed = false ∧ (Instr.formatComplete [5] [6]).wellFormed = true := by decide +kernel
theorem test_wellFormed_training :
    (Instr.memoryTraining { ctls := [], flash := [] }).wellFormed = false := by decide +kernel

/-! ### The queue, reset, an idle step -/

theorem test_step_front : (nxt (step { core (regs [(1, 5), (2, 7)]) with pending := [.add H 3 1 2, .nop H] })).g 2048 3 = 12 ∧
    (nxt (step { core (regs [(1, 5), (2, 7)]) with pending := [.add H 3 1 2, .nop H] })).pending = [.nop H] := by decide +kernel
theorem wit_idle : State.reset.pending = [] ∧ State.reset.pins.porN = true ∧ State.reset.ctl.porAt = none := by decide +kernel
theorem test_idle : (nxt (step State.reset)).mer.ns = 1 ∧ (nxt (step State.reset)).spy.budget = 4 := by decide +kernel
theorem wit_canonical : Tab.wf 0 State.reset.mem = true ∧ Tab.sorted State.reset.csr = true ∧ State.reset.csr = [] := by decide +kernel

/-! ### Integer instructions (R41, R43, R44) -/

theorem wit_issue : (core (regs)).canIssue 2048 profKES false false = true ∧ (core (regs)).canIssue 2048 profKES true true = true ∧
    (core (regs)).canIssue 2048 profKE true false = true ∧ (eng (regs)).canIssue 0 profKE false false = true ∧ (eng (regs)).canIssue 0 profE false false = true ∧
    (eng (regs)).canIssue 0 profES true false = true ∧ (siv (regs)).canIssue 2112 profKES false false = true ∧ (siv (regs)).canIssue 2112 profES true false = true := by decide +kernel
theorem wit_quiet : (core (regs)).turn 2048 |>.fetch 2048 false |> (· = ((core (regs)).turn 2048, .ok false)) := by decide +kernel
theorem test_add_wraps : (run (.add H 3 1 2) (core (regs [(1, 0xFFFFFFFFFFFFFFFF), (2, 2)]))).g 2048 3 = 1 := by decide +kernel
theorem test_sub : (run (.sub E 3 1 2) (eng (regs [(1, 5), (2, 7)]))).g 0 3 = -2 := by decide +kernel
theorem test_g0_discards : (run (.add V 0 1 2) (siv (regs [(1, 5), (2, 7)]))).g 2112 0 = 0 := by decide +kernel
theorem test_sar : (run (.sar H 3 1 2) (core (regs [(1, 0x8000000000000000), (2, 67)]))).g 2048 3 = 0xF000000000000000 := by decide +kernel
theorem test_ror : (run (.ror H 3 1 2) (core (regs [(1, 3), (2, 1)]))).g 2048 3 = 0x8000000000000001 := by decide +kernel
theorem test_slt_sltu : (run (.slt H 3 1 2) (core (regs [(1, -1), (2, 1)]))).g 2048 3 = 1 ∧ (run (.sltu H 3 1 2) (core (regs [(1, -1), (2, 1)]))).g 2048 3 = 0 := by decide +kernel
theorem test_addw : (run (.addw H 3 1 2) (core (regs [(1, 0x7FFFFFFF), (2, 1)]))).g 2048 3 = 0xFFFFFFFF80000000 := by decide +kernel
theorem test_cmovz : (run (.cmovz H 3 1 2) (core (regs [(1, 9), (3, 4)]))).g 2048 3 = 9 ∧ (run (.cmovnz H 3 1 2) (core (regs [(1, 9), (3, 4)]))).g 2048 3 = 4 := by decide +kernel
theorem test_clz : (run (.clz H 3 1) (core (regs))).g 2048 3 = 64 ∧ (run (.ctz H 3 1) (core (regs [(1, 8)]))).g 2048 3 = 3 := by decide +kernel
theorem test_bswap : (run (.bswap H 3 1) (core (regs [(1, 0x0102030405060708)]))).g 2048 3 = 0x0807060504030201 := by decide +kernel
theorem test_addi : (run (.addi H 3 1 0xFFFF) (core (regs [(1, 5)]))).g 2048 3 = 4 ∧ (run (.lui H 3 0x8000) (core (regs))).g 2048 3 = 0xFFFFFFFF80000000 := by decide +kernel
theorem test_xlih : (run (.xlih H 3 1 0xAABBCCDD) (core (regs [(1, 0x11223344)]))).g 2048 3 = 0xAABBCCDD11223344 ∧
    ((run (.xlih H 3 1 0xAABBCCDD) (core (regs))).ctx 2048).r.pc = 0x1008 := by decide +kernel
theorem test_mulh : (run (.mulh H 3 1 2) (core (regs [(1, -1), (2, 2)]))).g 2048 3 = -1 ∧ (run (.mulhu H 3 1 2) (core (regs [(1, -1), (2, 2)]))).g 2048 3 = 1 := by decide +kernel

/-! ### Division (R85, R86: -100 divided by 7) -/

/-- The states of the sequence of R85 with the pair in g4 and the result in g8. -/
def divRun : Nat → State
  | 0 => core (regs [(1, -100), (2, 7)])
  | 1 => run (.dsetup H 4 1 2) (divRun 0)
  | 34 => run (.dfix H 8 4) (divRun 33)
  | k + 1 => run (.dstep H 4 2) (divRun k)
theorem test_dsetup : (divRun 1).g 2048 4 = 100 ∧ (divRun 1).g 2048 5 = 0 ∧ fld ((divRun 1).xcsr 2048 csrDcsr) 16 3 = 7 := by decide +kernel
theorem wit_division_first : (divRun 0).g 2048 1 = -100 ∧ (divRun 0).g 2048 2 = 7 ∧ exec (.dsetup H 4 1 2) (divRun 0) = .next (divRun 1) := ⟨by decide +kernel, by decide +kernel, rfl⟩
theorem wit_division_issue : ∀ k, k < 34 → (divRun k).canIssue 2048 profKE false false = true := by decide +kernel
theorem test_division : (divRun 34).g 2048 8 = -14 ∧ (divRun 34).g 2048 9 = -2 := by decide +kernel

/-! ### Branches, slots, traps and returns (R52–R56, R61–R67) -/

/-- A core thread at a delay slot of a branch at 0x1000 to 0x2000. -/
def slotted (annul : Bool) : State :=
  { core (regs [(1, 5)]) with ctxs := [(2048, { st := .ready, priv := .m, r := { regs [(1, 5)] with npc := 0x2000, slot := true, annul := annul } })] }
theorem test_branch_taken : ((run (.bnez H true 1 0x40) (core (regs [(1, 5)]))).ctx 2048).r.npc = 0x1100 ∧
    ((run (.bnez H true 1 0x40) (core (regs [(1, 5)]))).ctx 2048).r.annul = false := by decide +kernel
theorem test_branch_not_taken : ((run (.bltz H true 1 0xFFFFF) (core (regs [(1, 5)]))).ctx 2048).r.npc = 0x1008 ∧
    ((run (.bltz H true 1 0xFFFFF) (core (regs [(1, 5)]))).ctx 2048).r.annul = true := by decide +kernel
theorem test_branch_back : ((run (.br V false 0xFFFFE) (siv (regs))).ctx 2112).r.npc = 0xFF8 := by decide +kernel
theorem test_bpany : ((run (.bpany E false 1 4) (eng (regs (p := [(1, 2)])))).ctx 0).r.npc = 0x1010 ∧
    ((run (.bpnone E false 1 4) (eng (regs (p := [(1, 2)])))).ctx 0).r.npc = 0x1008 := by decide +kernel
theorem test_bl_links : (run (.bl H false 2) (core (regs))).g 2048 31 = 0x1008 := by decide +kernel
theorem test_jalr : ((run (.jalr H 1 1 0xFFFC) (core (regs [(1, 0x2004)]))).ctx 2048).r.npc = 0x2000 ∧
    (run (.jalr H 1 1 0xFFFC) (core (regs [(1, 0x2004)]))).g 2048 1 = 0x1008 := by decide +kernel
theorem test_jalr_misaligned : (run (.jalr H 1 1 2) (core (regs [(1, 0x2004)]))).xcsr 2048 0xC04 = 0x05 ∧
    (run (.jalr H 1 1 2) (core (regs [(1, 0x2004)]))).xcsr 2048 0xC05 = 0x2006 ∧ (run (.jalr H 1 1 2) (core (regs [(1, 0x2004)]))).g 2048 1 = 0x2004 := by decide +kernel
theorem wit_squashed : (Instr.illegalEncoding H 0).issuer = some H ∧ ((slotted true).ctx 2048).st = .ready ∧ ((slotted true).ctx 2048).r.annul = true ∧
    ((slotted true).ctx 2048).epi = none := by decide +kernel
theorem test_squashed : ((run (.add H 1 1 1) (slotted true)).ctx 2048).r.pc = 0x2000 ∧ (run (.add H 1 1 1) (slotted true)).g 2048 1 = 5 := by decide +kernel
theorem wit_slot_refuses : ((slotted false).ctx 2048).st = .ready ∧ ((slotted false).ctx 2048).epi = none ∧ ((slotted false).ctx 2048).async = none ∧
    ((slotted false).ctx 2048).r.annul = false ∧ ((slotted false).ctx 2048).r.slot = true ∧
    (((slotted false).turn 2048).fetch 2048 false).2 = .ok false ∧ (((slotted false).turn 2048).fetch 2048 true).2 = .ok false := by decide +kernel
theorem test_slot_refuses : (run (.ecall H) (slotted false)).xcsr 2048 0xC04 = 0x02 ∧ (run (.ecall H) (slotted false)).xcsr 2048 0xC03 = 0x2000 := by decide +kernel
theorem test_slot_refuses_jend : (run (.jend E 0) { eng (regs) with ctxs := [(0, { st := .ready, priv := .u, bid := 1, r := { regs (csr := [(0x10, 0x4001)]) with npc := 0x2000, slot := true } })] }).xcsr 0 csrUcause = 0x02 := by decide +kernel
/-- A thread at K or U with KTVEC at 0x8000, MTVEC at 0x9000 and the cause of ECALL routed to K. -/
def trapCore (p : Priv) (route : W64) : State :=
  { core (regs) with ctxs := [(2048, { st := .ready, priv := p, r := regs [(1, 7)] [] [] [(0x400, 1), (0x401, 0x8000), (0xC00, 1), (0xC01, 0x9000), (0xC07, route)] })] }
theorem wit_trap : (trapCore .u 0x10000).canIssue 2048 profKE true false = true ∧ ((trapCore .u 0).ctx 2048).priv = .u ∧
    ((trapCore .k 0).ctx 2048).priv ≠ .u := by decide +kernel
theorem test_ecall_to_k : ((run (.ecall H) (trapCore .u 0x10000)).ctx 2048).r.pc = 0x8000 ∧ (run (.ecall H) (trapCore .u 0x10000)).xcsr 2048 0x402 = 0x1004 ∧
    (run (.ecall H) (trapCore .u 0x10000)).xcsr 2048 0x400 = 0x2 ∧ ((run (.ecall H) (trapCore .u 0x10000)).ctx 2048).priv = .k := by decide +kernel
theorem test_ecall_to_m : ((run (.ecall H) (trapCore .k 0)).ctx 2048).r.pc = 0x9000 ∧ (run (.ecall H) (trapCore .k 0)).xcsr 2048 0xC04 = 0x10 ∧
    (run (.ecall H) (trapCore .k 0)).xcsr 2048 0xC00 = 0x6 := by decide +kernel
theorem test_break : (run (.brk H) (trapCore .m 0x20000)).xcsr 2048 0xC04 = 0x11 ∧ ((run (.brk H) (trapCore .m 0x20000)).ctx 2048).instret = 1 := by decide +kernel
theorem test_illegal : (run (.illegalEncoding H 0xFFFFFFFF) (trapCore .m 0)).xcsr 2048 0xC05 = 0xFFFFFFFF ∧
    (run (.illegalEncoding H 0xFFFFFFFF) (trapCore .m 0)).xcsr 2048 0xC02 = 0x1000 := by decide +kernel
theorem test_rett_user : (run (.rett H) (trapCore .u 0)).xcsr 2048 0xC04 = 0x03 := by decide +kernel
theorem test_rett : ((run (.rett H) (core (regs (csr := [(0xC00, 0x2), (0xC02, 0x3000), (0xC03, 0x3004)])))).ctx 2048).r.pc = 0x3000 ∧
    ((run (.rett H) (core (regs (csr := [(0xC00, 0x2), (0xC02, 0x3000), (0xC03, 0x3004)])))).ctx 2048).priv = .u ∧
    (run (.rett H) (core (regs (csr := [(0xC00, 0x2), (0xC02, 0x3000), (0xC03, 0x3004)])))).xcsr 2048 0xC00 = 0x3 := by decide +kernel
theorem test_rett_slot : ((run (.rett H) (core (regs (csr := [(0xC00, 0xA), (0xC02, 0x3000), (0xC03, 0x5000)])))).ctx 2048).r.slot = true ∧
    ((run (.rett H) (core (regs (csr := [(0xC00, 0xA), (0xC02, 0x3000), (0xC03, 0x5000)])))).ctx 2048).priv = .m := by decide +kernel

/-- The engine context of R67's example: code at 0x10400, no window for the address in g3. -/
def r67 (slot : Bool) : State :=
  { ctxs := [(0, { st := .ready, priv := .u, bid := 1, r := { regs [(3, 0x80000), (5, 1)] [] [] [(0x10, 0x10801)] with
      pc := if slot then 0x10404 else 0x10400, npc := if slot then 0x10500 else 0x10404, slot := slot } })],
    execs := [(0, { l1i := [0x810] })],
    booths := [(1, { st := .active, windows := [(0, { valid := true, base := 0x10000, size := 0x10000, target := 0x20000, r := true, w := true, x := true })] })] }
theorem test_r67_branch : ((run (.bnez E true 5 0x40) (r67 false)).ctx 0).r = ((r67 true).ctx 0).r := by decide +kernel
theorem test_r67_trap : let t := run (.ld E 7 3 2) (r67 true)
    t.xcsr 0 csrUepc = 0x10404 ∧ t.xcsr 0 csrUenpc = 0x10500 ∧ t.xcsr 0 csrUval = 0x80010 ∧ t.xcsr 0 csrUcause = 0x06 ∧ t.xcsr 0 csrUstat = 0x30 ∧
    (t.ctx 0).r.pc = 0x10800 := by decide +kernel
theorem test_r67_return : ((run (.rett E) { r67 false with ctxs := [(0, { (r67 false).ctx 0 with r := { ((r67 false).ctx 0).r with
      csr := [(0x10, 0x10801), (0x11, 0x10404), (0x12, 0x10500), (0x15, 0x30)] } })] }).ctx 0).r.npc = 0x10500 := by decide +kernel
/-- The same context without a handler, alone in its live job. -/
def noHandler : State :=
  { r67 false with ctxs := [(0, { (r67 false).ctx 0 with job := 1, r := { ((r67 false).ctx 0).r with csr := [] } })], jobs := [(1, { live := true, stages := [{ ctx := 0 }] })] }
theorem test_no_handler : ((run (.ecall E) noHandler).ctx 0).st = .faulted ∧ ((run (.ecall E) noHandler).job 1).fault = some (0, 0x0440) := by decide +kernel
theorem wit_no_handler : ((noHandler.start 0 false).exe 0).sb = [] ∧ ((noHandler.start 0 false).ctx 0).log = [] ∧ (({ noHandler with jobs := [] }.start 0 false).job 1).live = false ∧
    ((noHandler.start 0 false).job 1).live = true ∧ ((noHandler.start 0 false).job 1).fault = none ∧ noHandler.canIssue 0 profKE true false = true := by decide +kernel
theorem test_double_trap : ((run (.ecall E) { noHandler with ctxs := [(0, { noHandler.ctx 0 with r := { (noHandler.ctx 0).r with csr := [(0x10, 0x10801), (0x15, 0x20)] } })] }).job 1).fault =
    some (0, 0x0441) := by decide +kernel
theorem wit_frame : (core (regs)).quiet 2048 false ∧ (core (regs)).quiet 2048 true ∧ (eng (regs)).quiet 0 false ∧ (siv (regs)).quiet 2112 false ∧
    bitAt ((core (regs)).xcsr 2048 csrDcsr) 8 = false ∧ fld ((core (regs)).xcsr 2048 csrDcsr) 9 2 = 0 := by
  refine ⟨Or.inr (by decide +kernel), Or.inr (by decide +kernel), Or.inr (by decide +kernel), Or.inl (by decide), by decide +kernel, by decide +kernel⟩

/-! ### System instructions and context CSRs (R58–R60) -/

/-- A state whose L2 of a domain holds a line. -/
def withL2 (s : State) (d line : Nat) (data : Line) : State :=
  { s.setReg (Reg.l2Ctl d) 1 with l2 := [(l2Key d (line % l2Sets d) 0, { valid := true, line := line, data := data })], ctl := { s.ctl with sliceEn := 0xFF } }
/-- A state whose unit has stores buffered. -/
def withSb (s : State) (u : Nat) (l : List SbEntry) : State := s.setExe u { s.exe u with sb := l }
def st8 : SbEntry := { ctx := 2048, addr := 0x2000, data := [1, 2, 3, 4, 5, 6, 7, 8], attr := .wb }

theorem test_nop : ((run (.nop H) (core (regs))).ctx 2048).r.pc = 0x1004 ∧ ((run (.nop H) (core (regs))).ctx 2048).instret = 1 := by decide +kernel
theorem test_fence_stores : ((run (.fence H 6) (withSb (core (regs)) 128 [st8])).exe 128).sb = [] ∧
    ((run (.fence H 0) (withSb (core (regs)) 128 [st8])).exe 128).sb = [st8] := by decide +kernel
theorem test_fence_waits : ((run (.fence H 0x10) (withSb (core (regs)) 128 [{ st8 with attr := .uc }])).ctx 2048).st = .waitMem ∧
    ((run (.fence H 0x10) (core (regs))).ctx 2048).st = .ready := by decide +kernel
theorem test_fence_i : ((run (.fence H 0x20) (core (regs))).exe 128).l1i = [] := by decide +kernel
theorem test_wait : ((run (.wait H) (core (regs))).ctx 2048).st = .waitUnit ∧ (run (.wait H) (trapCore .u 0)).xcsr 2048 0xC04 = 0x03 := by decide +kernel
theorem test_wait_resume : ((run (.waitResume 0) { ctxs := [(2048, { st := .waitUnit, wait := .wfi })], orr := { offer := [(0, some 5)] } }).ctx 2048).st = .ready ∧
    ((run (.waitResume 0) { ctxs := [(2048, { st := .waitUnit, wait := .wfi })] }).ctx 2048).st = .waitUnit := by decide +kernel
/-- A core with a translation of page 5 at ASID 1, not global, and one of page 6, global. -/
def tlb0 : State := { core (regs [(1, 0x5000), (2, 1)]) with tlb := [(0, [⟨1, 5, 1, 3⟩, ⟨1, 6, 9, 3⟩])] }
theorem test_tlbinv : Tab.get [] (run (.tlbinv H 0 1 2) tlb0).tlb 0 = [⟨1, 6, 9, 3⟩] ∧ Tab.get [] (run (.tlbinv H 3 1 2) tlb0).tlb 0 = [] := by decide +kernel
theorem test_tlbinv_other_asid : Tab.get [] (run (.tlbinv H 2 1 1) tlb0).tlb 0 = [⟨1, 5, 1, 3⟩] := by decide +kernel
theorem test_tlbinv_user : (run (.tlbinv H 0 1 2) (trapCore .u 0)).xcsr 2048 0xC04 = 0x03 ∧ ((run (.tlbinv E 0 1 2) noHandler).job 1).fault = some (0, 0x0440) := by decide +kernel
theorem test_jend : ((run (.jend E 3) noHandler).ctx 0).st = .drain ∧ (((run (.jend E 3) noHandler).job 1).stageOf 0).jend = 0x80000 := by decide +kernel
theorem wit_jend_waits : noHandler.canIssue 0 profE true false = true ∧ (({ noHandler with ctxs := [(0, { noHandler.ctx 0 with acks := 1 })] }.ctxFence 0).ctx 0).acks ≠ 0 ∧
    ((noHandler.ctxFence 0).ctx 0).acks = 0 := by decide +kernel
theorem test_jend_waits : ((run (.jend E 3) { noHandler with ctxs := [(0, { noHandler.ctx 0 with acks := 1 })] }).ctx 0).wait = .jend 0x80000 := by decide +kernel

theorem test_csrs : (run (.csrs H 3 1 0x405) (core (regs [(1, 6)] [] [] [(0x405, 8)]))).g 2048 3 = 8 ∧
    (run (.csrs H 3 1 0x405) (core (regs [(1, 6)] [] [] [(0x405, 8)]))).xcsr 2048 0x405 = 14 := by decide +kernel
theorem test_csrc : (run (.csrc H 0 1 0x405) (core (regs [(1, 6)] [] [] [(0x405, 15)]))).xcsr 2048 0x405 = 9 := by decide +kernel
theorem test_csrw_read_only : (run (.csrw H 0 0 0x302) (core (regs))).xcsr 2048 0xC04 = 0x01 := by decide +kernel
theorem test_csrw_unknown : (run (.csrw H 0 0 0x002) (core (regs))).xcsr 2048 0xC04 = 0x01 ∧ (run (.csrr H 0 0x400) (trapCore .u 0)).xcsr 2048 0xC04 = 0x03 := by decide +kernel
theorem test_csrr_htid : (run (.csrr (.ht 7) 3 0x700) { ctxs := [(2055, { st := .ready, r := regs })], execs := [(129, { l1i := [0x40] })] }).g 2055 3 = 0x1C7 := by decide +kernel
theorem test_csrr_ctxid : (run (.csrr (.eng 2 3 4) 3 0x300) { ctxs := [(564, { st := .ready, r := regs, bid := 1 })], execs := [(35, { l1i := [0x440] })], booths := booth1 }).g 564 3 = 0x10234 := by decide +kernel
theorem test_csrr_mtvec : (run (.csrr H 3 0xC01) (core (regs))).g 2048 3 = 1 := by decide +kernel

/-! ### Loads, stores and atomics (R45–R50, R150–R152) -/

/-- A core whose L2 holds the line of 0x2000 with the bytes 0x00 to 0x3F. -/
def lineCount : Line := BitVec.ofNat 512 (leVal ((List.range 64).map fun n => BitVec.ofNat 8 n))
def memCore (g : Tab W64) : State := withL2 (core (regs g)) 8 0x80 lineCount
theorem test_load : (run (.ld H 3 1 1) (memCore [(1, 0x2000)])).g 2048 3 = 0x0F0E0D0C0B0A0908 := by decide +kernel
theorem test_load_signed : (run (.lb H 3 1 0xFFF) (withL2 (core (regs [(1, 0x2001)])) 8 0x80 0x80)).g 2048 3 = 0xFFFFFFFFFFFFFF80 ∧
    (run (.lbu H 3 1 0xFFF) (withL2 (core (regs [(1, 0x2001)])) 8 0x80 0x80)).g 2048 3 = 0x80 := by decide +kernel
theorem test_load_word : (run (.lw H 3 1 0xF) (memCore [(1, 0x2000)])).g 2048 3 = 0x3F3E3D3C ∧ (run (.lwf H 3 1 0) (memCore [(1, 0x2000)])).f 2048 3 = 0xFFFFFFFF03020100 := by decide +kernel
theorem test_indexed_load : (run (.indexedLoad H 5 1 3 1 2) (memCore [(1, 0x2000), (2, 3)])).g 2048 3 = 0x0706 := by decide +kernel
theorem test_load_g0 : (run (.ld H 0 1 0) (memCore [(1, 0x2000)])).g 2048 0 = 0 := by decide +kernel
theorem test_load_forwards : (run (.lh H 3 1 1) (withSb (memCore [(1, 0x2000)]) 128 [st8])).g 2048 3 = 0x0403 := by decide +kernel
theorem test_load_csr : (run (.ld H 3 1 0) { core (regs [(1, BitVec.ofNat 64 Reg.devMode)]) with csr := [(Reg.devMode, 3)] }).g 2048 3 = 3 := by decide +kernel
theorem test_store : ((run (.sh H 3 1 1) (memCore [(1, 0x2000), (3, 0x11223344)])).exe 128).sb = [{ ctx := 2048, addr := 0x2002, data := [0x44, 0x33], attr := .wb }] ∧
    (run (.sh H 3 1 1) (memCore [(1, 0x2000), (3, 0x11223344)])).domByte 8 0x2002 = 2 := by decide +kernel
theorem test_store_full : ((run (.sb H 3 1 0) (withSb (memCore [(1, 0x2010), (3, 9)]) 128 (List.replicate 16 st8))).exe 128).sb.length = 16 := by decide +kernel
theorem test_indexed_store : ((run (.indexedStore H 8 3 3 1 2) { core { regs [(1, 0x2000), (2, 1)] with f := [(3, 5)] } with execs := [(128, { l1i := [0x40] })] }).exe 128).sb =
    [{ ctx := 2048, addr := 0x2008, data := [5, 0, 0, 0, 0, 0, 0, 0], attr := .wb }] := by decide +kernel
theorem test_misaligned : (run (.ld H 3 1 0) (core (regs [(1, 0x2004)]))).xcsr 2048 0xC04 = 0x05 ∧ (run (.ld H 3 1 0) (core (regs [(1, 0x2004)]))).xcsr 2048 0xC05 = 0x2004 ∧
    (run (.sh H 3 1 0) (core (regs [(1, 0x2001)]))).xcsr 2048 0xC04 = 0x05 := by decide +kernel
theorem wit_load : let t := (memCore [(1, 0x2000)]).start 2048 false
    (t.xlate 2048 .read 0x2000).2 = .ok (0x2000, .wb) ∧ (t.xlate 2048 .write 0x2000).2 = .ok (0x2000, .wb) ∧ t.memStatus 0x2000 8 = none ∧
    t.accessStatus 2048 .write .wb 0x2000 8 = none ∧ t.sbNear 128 0x2000 8 = none ∧ t.sideHit 128 2048 0x80 = none ∧ t.raOk 2048 .wb = false ∧
    (t.exe 128).sb = [] := by decide +kernel
theorem wit_l2Holds : (memCore []).l2Holds 8 0x80 := ⟨by decide +kernel, 0, by decide +kernel, by decide +kernel⟩
theorem wit_forward : (withSb (memCore []) 128 [st8]).sbNear 128 0x2002 2 = some st8 ∧ st8.covers 0x2002 2 = true := by decide +kernel
/-- An engine context whose Booth's window is uncached. -/
def ucEng (g : Tab W64) : State :=
  { eng (regs g) with mem := [(0x12000, 0xAB)], booths := [(1, { st := .active, windows := [(0, { valid := true, base := 0, size := 0x10000, target := 0x10000, r := true, w := true, x := true, attr := .uc })] })] }
theorem test_load_uncached : (run (.lbu E 3 1 0) (ucEng [(1, 0x2000)])).g 0 3 = 0xAB := by decide +kernel
theorem wit_load_uncached : let t := (ucEng [(1, 0x2000)]).start 0 false
    (t.xlate 0 .read 0x2000).2 = .ok (0x12000, .uc) ∧ t.memStatus 0x12000 1 = none ∧ (t.exe 0).sb = [] ∧ (t.busRead 0x12000 1 (t.ctxClass 0)).2.1 = none := by decide +kernel
/-- A thread that holds the address of the doorbell of QID 5 (R263). -/
def bellCore : State :=
  { core (regs [(1, 0x90000000028), (3, 4), (5, 2)]) with queues := [(5, { exists_ := true, enable := true, cls := 8, sqTail := 3, sqHead := 1, cqTail := 2, cqHead := 1 })] }
theorem wit_doorbell : let t := bellCore.start 2048 false
    (t.xlate 2048 .read 0x90000000028).2 = .ok (0x90000000028, .uc) ∧ t.memStatus 0x90000000028 4 ≠ none ∧ t.region 0x90000000028 = some .bell ∧
    bellForm 0x90000000028 4 = some .lo ∧ bellQid 0x90000000028 = 5 ∧ (t.exe 128).sb = [] := by decide +kernel
theorem test_load_doorbell : (run (.lwu H 4 1 0) bellCore).g 2048 4 = 1 ∧ (run (.lwu H 4 1 1) bellCore).g 2048 4 = 2 := by decide +kernel
theorem test_store_doorbell : ((run (.sw H 3 1 0) bellCore).queue 5).sqTail = 4 ∧ ((run (.sw H 5 1 1) bellCore).queue 5).cqHead = 2 := by decide +kernel
theorem wit_regions : (memCore []).region Reg.devMode = some .csr ∧ csrForm Reg.devMode (csrSizeOf 8) = some .full := by decide +kernel
theorem test_drain : (run (.storeBufferDrain 128) (withSb (memCore []) 128 [st8])).domByte 8 0x2000 = 1 ∧
    (run (.storeBufferDrain 128) (withSb (memCore []) 128 [st8])).domByte 8 0x2008 = 8 ∧ (run (.storeBufferDrain 128) (withSb (memCore []) 128 [st8])).peek 0x2000 = 0 := by decide +kernel
theorem test_drain_off : (run (.storeBufferDrain 128) (withSb (core (regs)) 128 [st8])).peek 0x2007 = 8 ∧
    ((run (.storeBufferDrain 128) (withSb (core (regs)) 128 [st8])).ctx 2048).acks = 1 := by decide +kernel
theorem wit_drain : ((withSb (memCore []) 128 [st8]).exe 128).sb = st8 :: [] ∧ st8.addr % 64 + st8.data.length ≤ 64 ∧ st8.data ≠ [] ∧
    ((withSb (memCore []) 128 [st8]).ctx 2048).log.length < 32 ∧ (withSb (core (regs)) 128 [st8]).l2En 8 = false := by decide +kernel
theorem wit_atomic : let t := (memCore [(1, 0x2000), (2, 5)]).start 2048 false
    (t.xlate 2048 .readWrite 0x2000).2 = .ok (0x2000, .wb) ∧ t.accessStatus 2048 .readWrite .wb 0x2000 8 = none ∧ (t.ctx 2048).log.length < 32 ∧
    (t.ctx 2048).r.resv ≠ some 0x80 ∧ ((memCore [] |>.setCtx 2048 { st := .ready, r := { regs [(1, 0x2000)] with resv := some 0x80 } }).ctx 2048).r.resv = some 0x80 := by decide +kernel
theorem test_aadd : (run (.aadd H 0 3 1 2) (memCore [(1, 0x2000), (2, 1)])).g 2048 3 = 0x0706050403020100 ∧
    (run (.aadd H 0 3 1 2) (memCore [(1, 0x2000), (2, 1)])).domByte 8 0x2000 = 1 := by decide +kernel
theorem test_cas : (run (.cas H 0 3 1 2) (memCore [(1, 0x2000), (2, 0xFF), (3, 0x0706050403020100)])).domByte 8 0x2000 = 0xFF ∧
    (run (.cas H 0 3 1 2) (memCore [(1, 0x2000), (2, 0xFF), (3, 1)])).domByte 8 0x2000 = 0 := by decide +kernel
theorem test_amin_signed : (run (.amin H 0 3 1 2) (memCore [(1, 0x2000), (2, -1)])).domByte 8 0x2007 = 0xFF ∧
    (run (.aminu H 0 3 1 2) (memCore [(1, 0x2000), (2, -1)])).domByte 8 0x2007 = 7 := by decide +kernel
theorem test_swap_misaligned : (run (.swap H 0 3 1 2) (memCore [(1, 0x2004)])).xcsr 2048 0xC04 = 0x05 := by decide +kernel
theorem test_lr_sc : ((run (.lr H 0 3 1) (memCore [(1, 0x2000)])).ctx 2048).r.resv = some 0x80 ∧
    (run (.sc H 0 3 1 2) (memCore [(1, 0x2000), (2, 9)] |>.setCtx 2048 { st := .ready, priv := .m, r := { regs [(1, 0x2000), (2, 9)] with resv := some 0x80 } })).domByte 8 0x2000 = 9 := by decide +kernel
theorem test_sc_fails : (run (.sc H 0 3 1 2) (memCore [(1, 0x2000), (2, 9)])).g 2048 3 = 1 ∧ (run (.sc H 0 3 1 2) (memCore [(1, 0x2000), (2, 9)])).domByte 8 0x2000 = 0 := by decide +kernel

/-! ### Prefetch, maintenance, run-ahead, fills, configuration (R51, R135–R168) -/

/-- A core whose L2 is on and empty, memory holding a byte at 0x2040. -/
def pfCore (g : Tab W64) : State := { (core (regs g)).setReg (Reg.l2Ctl 8) 1 with mem := [(0x2041, 0x77)] }
theorem test_pref2 : (run (.pref2 H 1 0x40) (pfCore [(1, 0x2000)])).domByte 8 0x2041 = 0x77 ∧ ((run (.pref2 H 1 0x40) (pfCore [(1, 0x2000)])).l2Way 8 0x81).isSome = true := by decide +kernel
theorem test_pref1 : ((run (.pref1 H 1 0x40) (pfCore [(1, 0x2000)])).exe 128).hasL1d 0x81 = true := by decide +kernel
theorem test_pref_never_traps : ((run (.pref1 E 1 0) (eng (regs [(1, 0x80000)]))).ctx 0).r.pc = 0x1004 ∧ ((run (.pref2 E 1 0) (ucEng [(1, 0x2000)])).ctx 0).r.pc = 0x1004 := by decide +kernel
theorem wit_pref : let t := (pfCore [(1, 0x2000)]).start 2048 false
    (t.xlate 2048 .read 0x2040).2 = .ok (0x2040, .wb) ∧ t.memStatus 0x2040 1 = none ∧ t.l2En 8 = true ∧ t.l2Way 8 0x81 = none ∧ (t.exe 128).hasL1d 0x81 = false ∧
    15 ∈ t.fillWays 8 0 ∧ (t.l2At (l2Key 8 0x81 15)).valid = false ∧ (t.busRead 0x2040 64 1).2.1 = none := by decide +kernel

/-- A core at M whose L2 holds the line of 0x2000, dirty. -/
def dirtyCore (g : Tab W64) : State :=
  let s := memCore g
  { s with l2 := [(l2Key 8 0x80 0, { valid := true, line := 0x80, dirty := true, data := lineCount })] }
theorem test_cln : (run (.clnA H 1 0) (dirtyCore [(1, 0x2000)])).peek 0x203F = 0x3F ∧ ((run (.clnA H 1 0) (dirtyCore [(1, 0x2000)])).ctx 2048).wait = .ack ∧
    (run (.clnA H 1 0) (dirtyCore [(1, 0x2000)])).l2Way 8 0x80 = some 0 := by decide +kernel
theorem test_cln_clean : ((run (.clnR H 2 1) (memCore [(1, 0x2000), (2, 64)])).ctx 2048).r.pc = 0x1004 ∧ ((run (.cliR H 0 1) (dirtyCore [(1, 0x2000)])).l2Way 8 0x80) = some 0 := by decide +kernel
theorem test_inv : (run (.invR H 2 1) (dirtyCore [(1, 0x2000), (2, 1)])).l2Way 8 0x80 = none ∧ (run (.invA H 1 0) (dirtyCore [(1, 0x2000)])).peek 0x203F = 0 := by decide +kernel
theorem test_cli : (run (.cliA H 1 0) (dirtyCore [(1, 0x2000)])).l2Way 8 0x80 = none ∧ (run (.cliA H 1 0) (dirtyCore [(1, 0x2000)])).peek 0x203F = 0x3F := by decide +kernel
theorem test_by_slot : (run (.clnSw H 1) (dirtyCore [(1, 0x8000000000002000)])).peek 0x2001 = 1 ∧ (run (.invSw H 1) (dirtyCore [(1, 0x8000000000002000)])).l2Way 8 0x80 = none ∧
    (run (.cliSw H 1) (dirtyCore [(1, 0x2000)])).l2Way 8 0x80 = some 0 := by decide +kernel
theorem test_by_slot_user : (run (.cliSw H 1) (trapCore .u 0)).xcsr 2048 0xC04 = 0x03 := by decide +kernel
theorem test_lockfill : (run (.lockfill H 2 1 3) ((pfCore [(1, 0x2040), (2, 64)]).setReg (Reg.l2Lock 8) 8)).l2Way 8 0x81 = some 3 ∧
    (run (.lockfill H 2 1 3) (pfCore [(1, 0x2040), (2, 64)])).regBit (Reg.l2Stat 8) 3 = true := by decide +kernel
theorem wit_maintenance : let t := (dirtyCore [(1, 0x2000)]).start 2048 false
    (t.xlate 2048 .read 0x2000).2 = .ok (0x2000, .wb) ∧ t.memStatus 0x2000 1 = none ∧ t.mayWrite 2048 0x2000 = true ∧ t.wbStatus 8 0x80 = none ∧
    t.l2Holds 8 0x80 ∧ (t.exe 128).sb = [] ∧ (t.ctx 2048).priv ≠ .u := ⟨by decide +kernel, by decide +kernel, by decide +kernel, by decide +kernel,
      ⟨by decide +kernel, 0, by decide +kernel, by decide +kernel⟩, by decide +kernel, by decide +kernel⟩
theorem test_inv_permission : ((run (.invA E 1 0) { eng (regs [(1, 0x2000)] [] [] [(0x10, 0x4001)]) with
    booths := [(1, { st := .active, windows := [(0, { valid := true, base := 0, size := 0x10000, target := 0x10000, r := true, w := false, x := true })] })] }).xcsr 0 csrUcause) = 0x07 := by decide +kernel

/-- An engine context whose engine allows run-ahead for it, its slice's L2 on and empty. -/
def raEng (g : Tab W64) : State :=
  let s := ((eng (regs g)).setReg (Reg.oeCfg 0) 0x10045).setReg (Reg.oeL1Ctl 0) 7 |>.setReg (Reg.l2Ctl 0) 1
  { s with mem := [(0x12000, 0x55)], ctl := { s.ctl with sliceEn := 0xFF } }
theorem wit_ra : let t := (raEng [(1, 0x2000)]).start 0 false
    (t.xlate 0 .read 0x2000).2 = .ok (0x12000, .wb) ∧ t.memStatus 0x12000 8 = none ∧ t.sbNear 0 0x12000 8 = none ∧ t.sideHit 0 0 0x480 = none ∧
    (t.exe 0).hasL1d 0x480 = false ∧ t.raOk 0 .wb = true ∧ t.l2En 0 = true ∧ t.l2Way 0 0x480 = none ∧ ((raEng []).setReg (Reg.oeCfg 0) 5).raOk 0 .wb = false := by decide +kernel
theorem test_ra_starts : ((run (.ld E 3 1 0) (raEng [(1, 0x2000)])).ctx 0).st = .runAhead ∧ ((run (.ld E 3 1 0) (raEng [(1, 0x2000)])).ctx 0).r.pc = 0x1004 ∧
    (((run (.ld E 3 1 0) (raEng [(1, 0x2000)])).ctx 0).epi.map Episode.poison) = some [.g 3] := by decide +kernel
theorem test_ra_ends : ((run (.missDataArrival E) (run (.ld E 3 1 0) (raEng [(1, 0x2000)]))).ctx 0).r.pc = 0x1000 ∧
    ((run (.missDataArrival E) (run (.ld E 3 1 0) (raEng [(1, 0x2000)]))).ctx 0).st = .waitMem := by decide +kernel
theorem test_ra_reissues : (run (.missingLoadReissue E) (run (.missDataArrival E) (run (.ld E 3 1 0) (raEng [(1, 0x2000)])))).g 0 3 = 0x55 ∧
    ((run (.missingLoadReissue E) (run (.missDataArrival E) (run (.ld E 3 1 0) (raEng [(1, 0x2000)])))).ctx 0).r.pc = 0x1004 := by decide +kernel
theorem test_miss_waits : ((run (.ld E 3 1 0) ((raEng [(1, 0x2000)]).setReg (Reg.oeCfg 0) 5)).ctx 0).st = .waitMem ∧
    (run (.demandMissFill E) (run (.ld E 3 1 0) ((raEng [(1, 0x2000)]).setReg (Reg.oeCfg 0) 5))).g 0 3 = 0x55 := by decide +kernel
theorem wit_episode : ((raEng []).ctx 0).epi = none ∧ ((run (.ld E 3 1 0) (raEng [(1, 0x2000)])).ctx 0).epi.isSome = true := by decide +kernel
theorem test_no_episode : run (.missDataArrival E) (raEng []) = raEng [] ∧ run (.demandMissFill E) (raEng []) = raEng [] := by decide +kernel

/-- Engine 0 of slice 0 with a fill of the line of 0x12000 in flight, its side buffer on. -/
def fillEng (dead : Bool) : State := let s := raEng []; s.setExe 0 { s.exe 0 with fills := [{ line := 0x480, ctx := 0, str := false, dead := dead }] }
theorem test_side_fill : ((run (.sideBufferFill 0 0) (fillEng false)).exe 0).side = [{ line := 0x480, ctx := 0, data := 0x55, str := false }] ∧
    ((run (.sideBufferFill 0 0) (fillEng true)).exe 0).side = [] ∧ run (.sideBufferFill 0 0) (raEng []) = raEng [] := by decide +kernel
theorem wit_side_fill : (fillEng false).sbOn 0 = true ∧ ((fillEng false).sideLine 0 { line := 0x480, ctx := 0, str := false }).2 = some 0x55 ∧
    (fillEng false).sideHit 0 0 0x480 = none := by decide +kernel
/-- Context 0 of a live job with writes outstanding, waiting. -/
def ackEng (n : Nat) (w : Wait) : State := { noHandler with ctxs := [(0, { noHandler.ctx 0 with acks := n, wait := w, st := .waitMem })] }
theorem test_ack : ((run (.writeAcknowledge E) (ackEng 2 .ack)).ctx 0).acks = 1 ∧ ((run (.writeAcknowledge E) (ackEng 1 .ack)).ctx 0).st = .ready ∧
    ((run (.writeAcknowledge E) (ackEng 1 .ack)).ctx 0).r.pc = 0x10404 ∧ run (.writeAcknowledge E) (ackEng 0 .none) = ackEng 0 .none := by decide +kernel
theorem test_ack_jend : ((run (.writeAcknowledge E) (ackEng 1 (.jend 9))).ctx 0).st = .drain ∧ (((run (.writeAcknowledge E) (ackEng 1 (.jend 9))).job 1).stageOf 0).jend = 9 ∧
    ((run (.writeAcknowledge E) (ackEng 1 .drain)).ctx 0).st = .drain ∧ ((run (.writeAcknowledge E) (ackEng 1 .mvgo)).ctx 0).st = .ready := by decide +kernel

theorem test_oe_cfg : (run (.oeCfgWrite 0 0 0xF0012) State.reset).reg (Reg.oeCfg 0) = 0xF0012 ∧ bitAt ((run (.oeCfgWrite 0 0 0x10002) State.reset).reg (Reg.oeStat 0)) 1 = true := by decide +kernel
theorem test_oe_cfg_limit : (run (.oeCfgWrite 7 15 0x40) State.reset).reg (Reg.oeCfg 127) = 0x40 ∧ bitAt ((run (.oeCfgWrite 7 15 0x10040) State.reset).reg (Reg.oeStat 127)) 1 = true := by decide +kernel
theorem test_oe_cfg_busy : bitAt ((run (.oeCfgWrite 0 0 4) (eng (regs))).reg (Reg.oeStat 0)) 1 = true ∧ ((eng (regs)).ctx 0).st ≠ .free := by decide +kernel
theorem test_l1_invalidate : ((run (.l1Invalidate 0 0) (raEng [])).exe 0).l1i = [] ∧ (((run (.l1Invalidate 0 0) (fillEng false)).exe 0).fills.map SideFill.dead) = [true] := by decide +kernel
theorem test_disable : (run (.l1dDisable 0 0) (raEng [])).denOn 0 = false ∧ (run (.sideBufferDisable 0 0) (raEng [])).sbOn 0 = false ∧
    (((run (.sideBufferDisable 0 0) (fillEng false)).exe 0).fills.map SideFill.dead) = [true] := by decide +kernel
theorem test_l2_disable : (run (.l2Disable 8) (dirtyCore [])).l2En 8 = false ∧ bitAt ((run (.l2Disable 8) (dirtyCore [])).reg (Reg.l2Stat 8)) 1 = true ∧
    (run (.l2Disable 8) (dirtyCore [])).l2 = (dirtyCore []).l2 ∧ (run (.l2Enable 8) (run (.l2Disable 8) (dirtyCore []))).domByte 8 0x2001 = 1 := by decide +kernel
theorem test_l2_lock : (run (.l2LockWrite 8 0xFFF) State.reset).l2Locked 8 11 = true ∧ bitAt ((run (.l2LockWrite 8 0x1FFF) State.reset).reg (Reg.l2Stat 8)) 2 = true ∧
    (run (.l2LockWrite 8 0x1FFF) State.reset).l2Locked 8 0 = false := by decide +kernel
/-- The control complex's L2 with a range of one line programmed. -/
def mopCore (busy : Bool) : State := (((dirtyCore []).setReg (Reg.l2MopAddr 8) 0x2000).setReg (Reg.l2MopLen 8) 64).setRegBit (Reg.l2Stat 8) 4 busy
theorem test_mop : (run (.l2MopInvR 8) (mopCore false)).l2Way 8 0x80 = none ∧ (run (.l2MopInvR 8) (mopCore false)).regBit (Reg.l2Stat 8) 4 = true ∧
    (run (.l2MopInvR 8) (mopCore true)).l2Way 8 0x80 = some 0 ∧ (run (.l2MopInvR 8) (mopCore true)).regBit (Reg.l2Stat 8) 5 = true := by decide +kernel
theorem test_mop_clean : (run (.l2MopClnAll 8) (mopCore false)).peek 0x2005 = 5 ∧ (run (.l2MopCliSw 8 0 0x80) (mopCore false)).l2Way 8 0x80 = none ∧
    (run (.l2MopClnSw 8 1 0x80) (mopCore false)).peek 0x2005 = 0 := by decide +kernel
theorem test_mop_lockfill : (run (.l2MopLockfill 8 3) ((mopCore false).setReg (Reg.l2Lock 8) 8)).l2Way 8 0x80 = some 3 ∧
    bitAt ((run (.l2MopLockfill 8 3) (mopCore false)).reg (Reg.l2Stat 8)) 3 = true := by decide +kernel
theorem test_mop_complete : (run (.l2MopComplete 8) (mopCore true)).regBit (Reg.l2Stat 8) 4 = false := by decide +kernel
theorem wit_mop : (mopCore false).l2Way 8 0x80 = some 0 ∧ (mopCore false).wbStatus 8 0x80 = none ∧ Tab.sorted (mopCore false).l2 = true ∧
    l2Key 8 (0x80 % l2Sets 8) 0 / 131072 = 8 := by decide +kernel

/-! ### Floating point, decimal, fixed point (R87–R107, R120) -/

/-- A core thread with f registers and a value of FCSR. -/
def fpCore (f : Tab W64) (fcsr : W64 := 1) : State := core { regs (csr := [(0, fcsr)]) with f := f }
/-- The square root of 2.0 by the sequence of the worked example under R100, in a rounding mode. The words in which a pair is held are free
values, so the digits are followed here and not the registers. -/
def root2 (rm : Nat) : FRes :=
  fsFin false { rm := rm, ftz := false, ufEn := false } 0x4000000000000000
    ((List.range 27).foldl (fun q _ => fsStep false q) (fsSetup false { rm := rm, ftz := false, ufEn := false } 0x4000000000000000))
theorem test_root : [1, 2, 3, 4, 5].map (fun rm => (root2 rm).bits) = [0x3FF6A09E667F3BCD, 0x3FF6A09E667F3BCD, 0x3FF6A09E667F3BCC, 0x3FF6A09E667F3BCC, 0x3FF6A09E667F3BCD] ∧
    (root2 1).fl.nx = true := by decide +kernel
theorem test_fadd_overflow : (run (.fadd H 0 false 3 1 1) (fpCore [(1, 0x7FEFFFFFFFFFFFFF)])).f 2048 3 = 0x7FF0000000000000 ∧
    (run (.fadd H 3 false 3 1 1) (fpCore [(1, 0x7FEFFFFFFFFFFFFF)])).f 2048 3 = 0x7FEFFFFFFFFFFFFF := by decide +kernel
theorem test_fadd_trap : (run (.fadd H 0 false 3 1 1) (fpCore [(1, 0x7FEFFFFFFFFFFFFF)] 0x3E01)).xcsr 2048 0xC04 = 0x0B ∧
    (run (.fadd H 0 false 3 1 1) (fpCore [(1, 0x7FEFFFFFFFFFFFFF)] 0x3E01)).f 2048 3 = 0 := by decide +kernel
theorem test_reserved_rounding : (run (.fmul H 6 false 3 1 1) (fpCore [])).xcsr 2048 0xC04 = 0x01 ∧ (run (.fmul H 0 false 3 1 1) (fpCore [] 7)).xcsr 2048 0xC04 = 0x01 := by decide +kernel
theorem test_binary32 : (run (.fmul H 0 true 3 1 2) (fpCore [(1, 0x40400000), (2, 0x40000000)])).f 2048 3 = 0xFFFFFFFF40C00000 := by decide +kernel
theorem test_fma : (run (.fms H 3 false 3 1 2) (fpCore [(1, 0x7FEFFFFFFFFFFFFF), (2, 1), (3, 1)])).f 2048 3 = 0x3CCFFFFFFFFFFFFE := by decide +kernel
theorem test_fcvt : (run (.fcvtlf H 3 false 3 1) (fpCore [(1, 0xC004000000000000)])).g 2048 3 = -2 ∧
    (run (.fcvtfl H 0 false 3 1) (core (regs [(1, -2)]))).f 2048 3 = 0xC000000000000000 := by decide +kernel
theorem test_feq : (run (.feq H false 3 1 2) (fpCore [(2, 0x8000000000000000)])).g 2048 3 = 1 ∧ (run (.flt H false 3 1 2) (fpCore [(1, 0x7FF8000000000000)])).g 2048 3 = 0 := by decide +kernel
theorem test_fsgnj : (run (.fsgnjn H false 3 1 1) (fpCore [(1, 0x4000000000000000)])).f 2048 3 = 0xC000000000000000 := by decide +kernel
theorem test_fmv : (run (.fmvgf H true 3 1) (fpCore [(1, 0x80000000)])).g 2048 3 = 0xFFFFFFFF80000000 := by decide +kernel
theorem test_step_pair : (run (.fdsetup H false 7 1 2) (fpCore [])).xcsr 2048 0xC04 = 0x01 ∧ (run (.fdstep H false 8 9) (fpCore [])).xcsr 2048 0xC04 = 0x01 := by decide +kernel
theorem wit_rounds : (fmtOf false).finite 0x4000000000000000 = true ∧ (fmtOf true).finite 0x40400000 = true ∧ 0x4000000000000000 < 2 ^ (fmtOf false).width ∧
    0x40400000 < 2 ^ (fmtOf true).width := by decide +kernel

/-- A core thread with DCSR. -/
def decCore (a b : W64) (dcsr : W64 := 0) : State := core (regs [(1, a), (2, b)] [] [] [(1, dcsr)])
theorem test_dadd_overflow : (run (.dadd H 3 1 2) (decCore 0x999999999999999C 0x2C)).g 2048 3 = 0x1C ∧ (run (.dadd H 3 1 2) (decCore 0x999999999999999C 0x2C)).xcsr 2048 1 = 4 ∧
    ((run (.dadd H 3 1 2) (decCore 0x999999999999999C 0x2C)).ctx 2048).lastTime = 4 := by decide +kernel
theorem test_dadd_invalid : (run (.dadd H 3 1 2) (decCore 0x999999999999999C 0x2A)).xcsr 2048 1 = 2 ∧ (run (.dadd H 3 1 2) (decCore 0x999999999999999C 0x2A)).g 2048 3 = 0 := by decide +kernel
theorem test_decimal_traps : (run (.dadd H 3 1 2) (decCore 0x999999999999999C 0x2C 0x400)).xcsr 2048 0xC04 = 0x0D ∧ (run (.dtoi H 3 1) (decCore 0x2A 0 0x200)).xcsr 2048 0xC04 = 0x0C := by decide +kernel
theorem test_dsub_sign : (run (.dsub H 3 1 2) (decCore 0x2C 0x5C)).g 2048 3 = 0x3D ∧ (run (.dsub H 3 1 2) (decCore 0x5D 0x5D)).g 2048 3 = 0x0C := by decide +kernel
theorem test_dshre : (run (.dshre H 3 1 2) (decCore 0x25C 1)).g 2048 3 = 0x2C ∧ (run (.dshra H 3 1 2) (decCore 0x25C 1)).g 2048 3 = 0x3C ∧ (run (.dshr H 3 1 2) (decCore 0x29D 1)).g 2048 3 = 0x2D := by decide +kernel
theorem test_dshift_ends : (run (.dshra H 3 1 2) (decCore 0x999999999999999C 16)).g 2048 3 = 0x0C ∧ (run (.dshl H 3 1 2) (decCore 0x7D 2)).g 2048 3 = 0x700D := by decide +kernel
theorem test_itod : (run (.itod H 3 1) (decCore (-123) 0)).g 2048 3 = 0x123D ∧ (run (.dtoi H 3 1) (decCore 0x123D 0)).g 2048 3 = -123 ∧ (run (.dcmp H 3 1 2) (decCore 0x5D 0x1C)).g 2048 3 = -1 ∧
    (run (.dval H 3 1) (decCore 0xAC 0)).g 2048 3 = 0 := by decide +kernel
theorem test_sadd : (run (.sadd E 1 3 1 2) (eng (regs [(1, 0x7FFF), (2, 1)]))).g 0 3 = 0x7FFF ∧ (run (.sadd E 1 3 1 2) (eng (regs [(1, 0x7FFF), (2, 1)]))).xcsr 0 1 = 8 := by decide +kernel
theorem test_ssubu : (run (.ssubu E 0 3 1 2) (eng (regs [(1, 1), (2, 2)]))).g 0 3 = 0 ∧ (run (.saddu E 0 3 1 2) (eng (regs [(1, 0xFF), (2, 0)]))).g 0 3 = 0xFF := by decide +kernel
theorem test_qmul : (run (.qmule E 1 3 1 2) (eng (regs [(1, 0x4000), (2, 0x8000)]))).g 0 3 = 0xFFFFFFFFFFFFC000 ∧ (run (.qmule E 1 3 1 1) (eng (regs [(1, 0x8000)]))).g 0 3 = 0x7FFF := by decide +kernel
theorem test_rshr : (run (.rshre E 1 3 1 2) (eng (regs [(1, -10), (2, 2)]))).g 0 3 = -2 ∧ (run (.rshra E 1 3 1 2) (eng (regs [(1, -10), (2, 2)]))).g 0 3 = -3 := by decide +kernel

/-! ### Vectors and predicates (R108–R132) -/

def vf (vd vs1 vs2 : Reg5) (pg : Pred3 := 0) : VF := ⟨vd, vs1, vs2, false, false, false, pg⟩
/-- Elements 5, 6, 10 and -10 of 16 bits against 2. -/
def shiftEng : State := eng (regs (v := [(1, 0xFFF6000A00060005), (2, 0x0002000200020002)]))
theorem test_vrshre : (run (.vrshre E 1 (vf 3 1 2)) shiftEng).v 0 3 = 0xFFFE000200020001 ∧ (run (.vrshra E 1 (vf 3 1 2)) shiftEng).v 0 3 = 0xFFFD000300020001 ∧
    (run (.vrshra E 1 (vf 3 1 2)) shiftEng).xcsr 0 1 = 0 := by decide +kernel
theorem test_vqmule : (run (.vqmule E 1 (vf 3 1 1)) (eng (regs (v := [(1, 0x8000)])))).v 0 3 = 0x7FFF ∧ (run (.vqmule E 1 (vf 3 1 1)) (eng (regs (v := [(1, 0x8000)])))).xcsr 0 1 = 8 := by decide +kernel
theorem test_vadd_inactive : (run (.vadd E 0 (vf 3 1 2 1)) (eng (regs [] [(1, 0x0102), (2, 0x01FF), (3, 0x7777)] [(1, 1)]))).v 0 3 = 0x7701 := by decide +kernel
theorem test_viota : (run (.viota E 3 (vf 3 0 0)) (eng (regs))).v 0 3 = 0x00000000000000010000000000000000 := by decide +kernel
theorem test_vext_vins : (run (.vext E 2 (vf 4 1 2)) (eng (regs [(2, 3)] [(1, 0x80000000000000000000000000000000)]))).g 0 4 = 0x80000000 ∧
    (run (.vins E 2 (vf 3 1 2)) (eng (regs [(1, 0x99), (2, 1)] [(3, 0x1)]))).v 0 3 = 0x9900000001 := by decide +kernel
theorem test_vcomp : (run (.vcomp E 0 (vf 3 1 0 1)) (eng (regs [] [(1, 0x44332211)] [(1, 10)]))).v 0 3 = 0x4422 := by decide +kernel
theorem test_vperm : (run (.vperm E 0 (vf 3 1 2)) (eng (regs [] [(1, 0x44332211), (2, 0xFF0203)]))).v 0 3 = 0x11111111111111111111111111003344 := by decide +kernel
theorem test_vradd : (run (.vradd E 1 (vf 4 1 0 1)) (eng (regs [] [(1, 0xFFFF0005FFFE)] [(1, 5)]))).g 0 4 = -3 ∧ (run (.vrmin E 1 (vf 4 1 0 1)) (eng (regs [] [(1, 5)] []))).g 0 4 = 0x7FFF := by decide +kernel
theorem test_vector_illegal : (run (.vext E 2 (vf 4 1 2 1)) (eng (regs (csr := [(0x10, 0x4001)])))).xcsr 0 csrUcause = 0x01 ∧ (run (.vadd E 0 (vf 3 1 2)) (eng (regs (csr := [(2, 1), (0x10, 0x4001)])))).xcsr 0 csrUcause = 0x01 := by decide +kernel
theorem wit_vector : (eng (regs)).vl 0 8 = 16 ∧ (eng (regs)).vl 0 64 = 2 ∧ (eng (regs)).fieldOk 0 .v false 31 = true ∧ (eng (regs)).fieldOk 0 .v true 0 = false ∧
    (eng (regs)).active 0 0 0 = true ∧ (eng (regs)).active 0 1 0 = false := by decide +kernel
/-- A class-C context with groups of eight registers. -/
def wideEng (r : Regs) : State := (eng r).setReg (Reg.oeCfg 0) 0x12
theorem test_vl_group : (wideEng (regs (csr := [(3, 3)]))).vl 0 32 = 32 ∧ (run (.vadd E 2 ⟨8, 16, 24, true, false, false, 0⟩) (wideEng (regs (v := [(17, 7), (25, 8)]) (csr := [(3, 3)])))).v 0 41 = 15 := by decide +kernel
theorem test_vfadd : (run (.vfadd E true (vf 3 1 2 1)) (eng (regs [] [(1, 0x3F8000003F800000), (2, 0x4000000040000000)] [(1, 2)]))).v 0 3 = 0x4040000000000000 := by decide +kernel
theorem test_vflt : (run (.vflt E false (vf 2 1 2)) (eng (regs [] [(1, 0x3FF0000000000000), (2, 0x4000000000000000)] []))).p 0 2 = 1 := by decide +kernel
theorem test_vfadd_trap : (run (.vfadd E false (vf 3 1 1)) (eng (regs [] [(1, 0x7FEFFFFFFFFFFFFF)] [] [(0, 0x3E01), (0x10, 0x4001)]))).xcsr 0 csrUcause = 0x0B := by decide +kernel
theorem test_vdadd : (run (.vdadd E (vf 3 1 2)) (eng (regs [] [(1, 0x7D), (2, 0x12C)]))).v 0 3 = 0x5C ∧ (run (.vdadd E (vf 3 1 2)) (eng (regs [] [(1, 0x7A), (2, 0x12C)]))).xcsr 0 1 = 2 := by decide +kernel
theorem test_vdnarrow : (run (.vdnarrow E (vf 3 1 0)) (eng (regs [] [(1, 0x12345678901234567D)]))).v 0 3 = 0x345678901234567D ∧ (run (.vdnarrow E (vf 3 1 0)) (eng (regs [] [(1, 0x12345678901234567D)]))).xcsr 0 1 = 4 := by decide +kernel
theorem test_vdrsum : (run (.vdrsum E (vf 3 1 0)) (eng (regs [] [(1, 0x7D), (3, 0x10C)]))).v 0 3 = 0x3C := by decide +kernel
theorem test_pwhile : (run (.pwhile E 1 1 2) (eng (regs [(1, 64), (2, 70)]))).p 0 1 = 0x3F ∧ (run (.pwhile V 1 1 2) (siv (regs [(1, -1), (2, 5)]))).p 2112 1 = 0 := by decide +kernel
theorem test_predicates : (run (.pandn V 1 2 3) (siv (regs (p := [(2, 7), (3, 2)])))).p 2112 1 = 5 ∧ (run (.pnot E 0 2) (eng (regs))).p 0 0 = BitVec.allOnes 128 := by decide +kernel
theorem test_pffs : (run (.pffs E 4 1) (eng (regs (p := [(1, 0x80)])))).g 0 4 = 7 ∧ (run (.pffs E 4 1) (eng (regs))).g 0 4 = 128 ∧ (run (.pcnt E 4 1) (eng (regs (p := [(1, 0x81)])))).g 0 4 = 2 := by decide +kernel
theorem test_ptog : (run (.ptog E 4 1 true) (eng (regs (p := [(1, 0x50000000000000000)])))).g 0 4 = 5 ∧ (run (.pfromg E 1 1 2) (eng (regs [(1, 3), (2, 4)]))).p 0 1 = 0x40000000000000003 := by decide +kernel
theorem test_vcmp : (run (.vcmplt E 0 (vf 1 1 2)) (eng (regs [] [(1, 0x80), (2, 0x01)]))).p 0 1 = 1 ∧ (run (.vcmpltu E 0 (vf 1 1 2)) (eng (regs [] [(1, 0x80), (2, 0x01)]))).p 0 1 = 0 := by decide +kernel
theorem test_vdclt : (run (.vdclt E (vf 1 1 2)) (eng (regs [] [(1, 0x7D), (2, 0x1C)]))).p 0 1 = 1 ∧ (run (.vdval E (vf 1 1 0)) (eng (regs [] [(1, 0x7A)]))).p 0 1 = 0 := by decide +kernel

/-- An engine context whose L2 and L1D hold the line of 0x12000, which its window shows at 0x2000. -/
def vmEng (r : Regs) : State :=
  let s := withL2 (eng r) 0 0x480 lineCount |>.setReg (Reg.oeL1Ctl 0) 7
  s.setExe 0 ((s.exe 0).putL1d 0x480 (l1Sets 0 false) 0)
theorem test_vld : (run (.vld E 1 (vf 3 1 0 1)) (vmEng (regs [(1, 0x2000)] [(3, 0x99999999)] [(1, 2)]))).v 0 3 = 0x03029999 := by decide +kernel
theorem test_vgath : (run (.vgath E 0 (vf 3 1 2)) (vmEng (regs [(1, 0x2000)] [(2, 0x3F)]))).v 0 3 = 0x3F := by decide +kernel
theorem test_vlds_start : (run (.vlds E 3 (vf 3 1 2)) (vmEng (regs [(1, 0x2000), (2, 16)] [(3, 0x55)] [] [(2, 1)]))).v 0 3 = 0x17161514131211100000000000000055 ∧
    (run (.vlds E 3 (vf 3 1 2)) (vmEng (regs [(1, 0x2000), (2, 16)] [(3, 0x55)] [] [(2, 1)]))).xcsr 0 2 = 0 := by decide +kernel
theorem test_vst : ((run (.vst E 3 (vf 3 1 0)) (vmEng (regs [(1, 0x2000)] [(3, 0x77)]))).exe 0).sb.map SbEntry.addr = [0x12000, 0x12008] := by decide +kernel
theorem test_vscat_misaligned : (run (.vsts E 3 (vf 3 1 2)) (vmEng (regs [(1, 0x2000), (2, 4)] [] [] [(2, 1), (0x10, 0x4001)]))).xcsr 0 csrUcause = 0x05 ∧
    (run (.vsts E 3 (vf 3 1 2)) (vmEng (regs [(1, 0x2000), (2, 4)] [] [] [(2, 1), (0x10, 0x4001)]))).xcsr 0 2 = 1 ∧
    (run (.vsts E 3 (vf 3 1 2)) (vmEng (regs [(1, 0x2000), (2, 4)] [] [] [(2, 1), (0x10, 0x4001)]))).xcsr 0 csrUval = 0x2004 := by decide +kernel
theorem wit_vmem : let t := (vmEng (regs [(1, 0x2000)])).start 0 false
    t.xlateEng 0 .read 0x2000 = .ok (0x12000, .wb) ∧ t.xlateEng 0 .write 0x2008 = .ok (0x12008, .wb) ∧ t.denOn 0 = true ∧ t.l2En 0 = true ∧
    t.memStatus 0x12000 8 = none ∧ t.sbNear 0 0x12000 8 = none ∧ t.sideHit 0 0 0x480 = none ∧ (t.exe 0).hasL1d 0x480 = true ∧ t.region 0x12000 = some .hbm ∧
    t.accessStatus 0 .write .wb 0x12000 8 = none := by decide +kernel
theorem test_vmem_illegal : (run (.vgathq E 1 (vf 3 1 2)) (eng (regs (csr := [(0x10, 0x4001)])))).xcsr 0 csrUcause = 0x01 ∧ (run (.vgath E 1 (vf 3 1 3)) (eng (regs (csr := [(0x10, 0x4001)])))).xcsr 0 csrUcause = 0x01 := by decide +kernel

/-! ### Stream links, local movers (R176–R185, R350–R352) -/

/-- A live job of two stages, contexts 0 (engine 0) and 16 (engine 1) of slice 0, with one link from port 0 to port 1. -/
def linkJob (l : SLink) (r0 r1 : Regs) (w0 : Wait := .none) (w1 : Wait := .none) : State :=
  { ctxs := [(0, { st := if w0 = .none then .ready else .waitUnit, wait := w0, r := r0, priv := .u, bid := 1, job := 1 }),
             (16, { st := if w1 = .none then .ready else .waitUnit, wait := w1, r := r1, priv := .u, bid := 1, job := 1, stage := 1 })],
    execs := [(0, { l1i := [0x440] }), (1, { l1i := [0x440] })], booths := booth1,
    jobs := [(1, { live := true, bid := 1, stages := [{ ctx := 0 }, { ctx := 16 }], links := [l] })] }
def l0 : SLink := { src := 0, srcPort := 0, dst := 1, dstPort := 1, outPhys := 0, inPhys := 2 }
def E1 : CtxId := .eng 0 1 0
def fl5 : Flit := { data := 0x55, tag := 0x1234 }
theorem test_lsendv : ((run (.lsendv E 0 0 1 4) (linkJob l0 (regs [(1, 0x7001)] [(4, 9), (7, 3)]) regs)).link 1 0).fly = [{ data := 9 + 3 <<< 384, tag := 0x7001 }] ∧
    ((run (.lsendv E 0 0 1 4) (linkJob l0 (regs [(1, 0x7001)] [(4, 9)]) regs)).link 1 0).credits = 7 := by decide +kernel
theorem test_lsende : ((run (.lsende E 0 1) (linkJob l0 (regs [(1, 5)]) regs)).link 1 0).fly = [{ tag := 5, eos := true }] ∧
    ((run (.lsende E 0 1) (linkJob { l0 with credits := 0 } (regs [(1, 5)]) regs)).ctx 0).wait = .linkSend 0 5 true 0 := by decide +kernel
theorem test_link_fault : (run (.lsende E 1 1) (linkJob l0 (regs (csr := [(0x10, 0x4001)])) regs)).xcsr 0 csrUcause = 0x15 ∧
    (run (.lsende E 0 1) (linkJob { l0 with eosSent := true } (regs (csr := [(0x10, 0x4001)])) regs)).xcsr 0 csrUcause = 0x15 ∧
    (run (.lsendv E 0 0 1 5) (linkJob l0 (regs (csr := [(0x10, 0x4001)])) regs)).xcsr 0 csrUcause = 0x01 := by decide +kernel
theorem test_lsend : let s := linkJob l0 (regs [(1, 0x2000), (2, 3)]) regs
    ((run (.lsend E 0 1 2) { s with mem := [(0x12000, 0x77)] }).link 1 0).fly = [{ data := 0x77, tag := 3 }] := by decide +kernel
theorem test_lrecvv : let s := linkJob { l0 with buf := [fl5] } regs regs
    (run (.lrecvv E1 1 0 3 8) s).v 16 8 = 0x55 ∧ (run (.lrecvv E1 1 0 3 8) s).g 16 3 = 0x1234 ∧ ((run (.lrecvv E1 1 0 3 8) s).link 1 0).back = 1 := by decide +kernel
theorem test_lrecv : ((run (.lrecv E1 1 3 1) (linkJob { l0 with buf := [fl5] } regs (regs [(1, 0x2000)]))).exe 1).sb.map SbEntry.addr = [0x12000] ∧
    (run (.lrecv E1 1 3 1) (linkJob l0 regs (regs [(1, 0x2010)] [] [] [(0x10, 0x4001)]))).xcsr 16 csrUcause = 0x05 ∧
    ((run (.lrecv E1 1 3 1) (linkJob l0 regs (regs [(1, 0x2000)]))).ctx 16).wait = .linkRecv 1 3 (some (0x12000, .wb)) 0 ∧
    (run (.lrecv E1 1 3 1) (linkJob { l0 with eosTaken := true } regs (regs [(1, 0x2000)]))).g 16 3 = 0x10000 := by decide +kernel
theorem test_lstat : (run (.lstat E 0 3) (linkJob { l0 with credits := 5, eosSent := true } regs regs)).g 0 3 = 0x25 ∧
    (run (.lstat E1 1 3) (linkJob { l0 with buf := [{ fl5 with eos := true }] } regs regs)).g 16 3 = 0x1100 := by decide +kernel
theorem wit_link : (linkJob l0 regs regs).canIssue 0 profE false false = true ∧ (linkJob l0 regs regs).canIssue 16 profE false false = true ∧
    ((linkJob l0 regs regs).job 1).linkAt 0 0 true = some 0 ∧ ((linkJob l0 regs regs).job 1).linkAt 1 1 false = some 0 ∧ (linkJob l0 regs regs).physLink 1 2 false = some (1, 0) ∧
    (linkJob l0 regs regs).physLink 0 0 true = some (1, 0) ∧ (linkJob l0 regs regs).physLink 0 3 true = none := by decide +kernel
theorem test_flit_delivery : ((run (.flitDelivery 0 1 2) (linkJob { l0 with fly := [fl5] } regs regs)).link 1 0).buf = [fl5] ∧
    (run (.flitDelivery 0 1 2) (linkJob { l0 with fly := [fl5] } regs regs .none (.linkRecv 1 3 none 8))).v 16 8 = 0x55 ∧
    run (.flitDelivery 0 1 2) (linkJob l0 regs regs) = linkJob l0 regs regs := by decide +kernel
theorem test_credit_return : ((run (.creditReturn 0 0 0) (linkJob { l0 with back := 1, credits := 7 } regs regs)).link 1 0).credits = 8 ∧
    ((run (.creditReturn 0 0 0) (linkJob { l0 with back := 1, credits := 0 } regs regs (.linkSend 0 5 true 0))).link 1 0).fly = [{ tag := 5, eos := true }] ∧
    ((run (.creditReturn 0 0 0) (linkJob { l0 with back := 1, credits := 0 } regs regs (.linkSend 0 5 true 0))).ctx 0).st = .ready := by decide +kernel

theorem test_mvgo : ((run (.mvgo E 1 3 1 2) (eng (regs [(1, 0x2000), (2, 0x3000), (3, 64)]))).mover 0).st = 1 ∧
    (run (.mvgo E 1 3 1 2) (eng (regs [(1, 0x2000), (2, 0x3000), (3, 64)]))).reg (Reg.mvDst 0) = 0x3000 ∧
    ((run (.mvgo E 1 3 1 2) (eng (regs))).mover 0).st = 0 := by decide +kernel
theorem test_mvgo_traps : (run (.mvgo E 3 3 1 2) (eng (regs (csr := [(0x10, 0x4001)])))).xcsr 0 csrUcause = 0x01 ∧
    (run (.mvgo E 0 3 1 2) (eng (regs [(3, 0x100000000)] [] [] [(0x10, 0x4001)]))).xcsr 0 csrUcause = 0x16 := by decide +kernel
theorem test_mvgo_waits : ((run (.mvgo E 0 3 1 2) { eng (regs [(3, 64)]) with movers := [(0, { st := 1, ctx := 4 })] }).ctx 0).wait = .mvgo ∧
    ((run (.mvgo E 0 3 1 2) (withSb (eng (regs [(3, 64)])) 0 [{ st8 with ctx := 0, addr := 0x12000, attr := .uc }])).ctx 0).st = .waitMem := by decide +kernel
/-- An engine context whose last kick is k. -/
def kicked (k : Kick) : State := { eng (regs) with ctxs := [(0, { (eng (regs)).ctx 0 with kick := some k })], movers := [(0, { st := 1, moved := 16 })] }
theorem test_mvstat : (run (.mvstat E 3) (kicked { chan := 0 })).g 0 3 = 0x1000000001 ∧ (run (.mvstat E 3) (kicked { chan := 0, done := true, bytes := 64 })).g 0 3 = 0x4000000002 ∧
    (run (.mvstat E 3) (kicked { chan := 0, failed := true, dir := true, status := 0x701, bytes := 8 })).g 0 3 = 0x807010007 ∧ (run (.mvstat E 3) (eng (regs [(3, 9)]))).g 0 3 = 0 := by decide +kernel
theorem test_mvwait : ((run (.mvwait E 3) (kicked { chan := 0 })).ctx 0).wait = .mover 3 ∧ (run (.mvwait E 3) (kicked { chan := 0, done := true, bytes := 64 })).g 0 3 = 0x4000000002 := by decide +kernel

/-! ### Sieves and scans (R186–R200, R333, R334) -/

/-- A column page of four U8 rows, 5, 9, 3 and 7 (R186), up to its last value. -/
def page4 : List Byte :=
  leBytes 4 0x3C6C5A91 ++ [1, 0, 4, 0] ++ leBytes 4 4 ++ leBytes 2 0 ++ leBytes 2 64 ++ leBytes 4 4 ++ List.replicate 20 0 ++ leBytes 8 100 ++ List.replicate 16 0 ++ [5, 9, 3, 7]
/-- An image with one slot, g1 = 6 and the program SCMP p1, slot 0, g1; EMIT p1 (R191, R194). -/
def image1 (cond : Nat) : List Byte :=
  leBytes 4 0x3C6C5A93 ++ [1, 0] ++ leBytes 2 2 ++ [1, 1, 1] ++ List.replicate 21 0 ++ [0, 0xFF] ++ List.replicate 62 0 ++ leBytes 8 6 ++ List.replicate 248 0 ++
    leBytes 4 (encS 1 0 1 0 cond).toNat ++ leBytes 4 (encS 0 1 0 4 0).toNat
/-- A scan of one group in slot 0, its part in sieve 0 with the group loaded. -/
def scan1 (cond : Nat) (p : Part) : State :=
  { siv (regs [(1, 6)]) with
    scans := [(0, { live := true, item := { q := 9, cls := 6, bid := 1, data := List.replicate 64 0 }, nsid := 1, ngroup := 1, rlog := 16, image := image1 cond, mbase := [0] })]
    parts := [(0, p)], booths := [(1, { st := .active, windows := [(0, { valid := true, base := 0, size := 0x400000, target := 0x400000, r := true, w := true, x := true })] })] }
def part1 : Part := { st := .running, bid := 1, todo := [0], pages := some [page4] }
theorem test_scmp : (run (.scmp V 5 1 0 1) (scan1 5 part1)).p 2112 1 = 0b1010 ∧ (run (.scmp V 0 1 0 2) (scan1 5 part1)).p 2112 1 = 0 ∧ (run (.scmp V 1 1 0 1) (scan1 5 part1)).p 2112 1 = 0b1111 := by decide +kernel
theorem test_srng : (run (.srng V 1 0 1) { scan1 5 part1 with ctxs := [(2112, { st := .ready, r := regs [(1, 5), (2, 7)] })] }).p 2112 1 = 0b1001 ∧
    (run (.snull V 1 0) (scan1 5 part1)).p 2112 1 = 0 := by decide +kernel
theorem test_shdr : (run (.shdr V 0 3 0) (scan1 5 part1)).g 2112 3 = 4 ∧ (run (.shdr V 1 3 0) (scan1 5 part1)).g 2112 3 = 100 ∧ (run (.shdr V 3 3 0) (scan1 5 part1)).g 2112 3 = 255 := by decide +kernel
theorem test_emit : ((run (.emit V 1) { scan1 5 part1 with ctxs := [(2112, { st := .ready, r := regs (p := [(1, 6)]) })] }).sv 0).emit = 6 ∧ ((run (.sdone V) (scan1 5 part1)).sv 0).done = true := by decide +kernel
theorem wit_sieve : (scan1 5 part1).canIssue 2112 profS false false = true ∧ slotTy (image1 5) [page4] 0 = 4 ∧ pageStatus page4 = none := by decide +kernel
theorem test_group_rows : ((run (.groupEvaluation 0 0) (scan1 5 part1)).part 0).passed = 2 ∧ ((run (.groupEvaluation 0 0) (scan1 5 part1)).part 0).pages = none ∧
    (((run (.groupEvaluation 0 0) (scan1 5 part1)).part 0).outRec.map fun l => l.drop 32) = some [1, 0, 3, 0, 0, 0, 0, 0, 9, 7, 0, 0, 0, 0, 0, 0] := by decide +kernel
theorem test_group_empty : ((run (.groupEvaluation 0 0) (scan1 0 part1)).part 0).outRec = none ∧ ((run (.groupEvaluation 0 0) (scan1 0 part1)).part 0).evald = 1 := by decide +kernel
theorem test_group_bad_page : ((run (.groupEvaluation 0 0) (scan1 5 { part1 with pages := some [page4.set 4 2] })).part 0).status = 0x0444 := by decide +kernel
/-- A part with a record of 40 bytes waiting and n bytes in its ring. -/
def partRec (n : Nat) : Part := { part1 with pages := none, todo := [], outRec := some (List.replicate 40 1), wr := BitVec.ofNat 64 n }
theorem test_record_write : ((run (.sieveRecordWrite 0 0) (scan1 5 (partRec 65496))).part 0).wr = 65536 ∧ ((run (.sieveRecordWrite 0 0) (scan1 5 (partRec 65497))).part 0).st = .stalled := by decide +kernel
theorem test_rd_poll : ((run (.sieveRdPoll 0 0) (scan1 5 { partRec 65536 with st := .stalled })).part 0).rd = 0 ∧
    run (.sieveRdPoll 0 0) (scan1 5 (partRec 0)) = scan1 5 (partRec 0) := by decide +kernel
theorem test_part_end : ((run (.sievePartEnd 0 0) (scan1 5 { part1 with pages := none, todo := [] })).part 0).st = .ended ∧ ((run (.sievePartEnd 0 0) (scan1 5 { part1 with pages := none, todo := [] })).part 0).wr = 32 ∧
    ((run (.sievePartEnd 0 0) (scan1 5 { part1 with pages := none, todo := [], wr := 65505 })).part 0).st = .stalled ∧ run (.sievePartEnd 0 0) (scan1 5 part1) = scan1 5 part1 := by decide +kernel
theorem test_scan_complete : ((run (.scanComplete 0) { scan1 5 part1 with parts := (List.range 32).map fun ch => (8 * ch, { st := .ended, passed := 1 }) }).scan 0).live = false ∧
    run (.scanComplete 0) (scan1 5 part1) = scan1 5 part1 := by decide +kernel
theorem wit_page_read : run (.sievePageRead 0 0) (scan1 5 { part1 with pages := none }) = scan1 5 { part1 with pages := none } ∧ imgMembers (image1 5) = 1 ∧ imgFault (image1 5) = none ∧
    imgFault ((image1 5).set 8 0) = some 0xFFFF := by decide +kernel

/-! ### Queue entries and pipeline jobs (R169–R185, R258–R277) -/

def opener : Booth := { booth1.find? 1 |>.getD {} with quota := (List.range 8).map fun r => (r, 0xFFFFFFFF) }
/-- An entry of QID 9. -/
def ent (cls : Nat) (data : List Byte) (bid : BitVec 12 := 1) : Item := { q := 9, cls := cls, bid := bid, tag := 0x77, data := data }
/-- A device in SERVICE with QID 9 of Booth 1, of a class, an entry fetched. Its completion ring starts at 0x14000. -/
def hub (cls : Nat) (data : List Byte) : State :=
  { booths := [(0, Booth.kernel), (1, opener)], ctl := { sliceEn := 0xFF }, csr := [(Reg.devMode, 1)]
    queues := [(9, { exists_ := true, enable := true, cls := cls, bid := 1, sqBase := 0x3000, cqBase := 0x4000, slices := 0xFF, maxInflight := 8, fetched := [ent cls data] })] }
/-- The status and the result posted for the entry. -/
def posted (s : State) : Nat × Nat := (leVal ((List.range 2).map fun k => s.peek (0x14000 + k)), leVal ((List.range 8).map fun k => s.peek (0x14008 + k)))
def pad (n : Nat) (l : List Byte) : List Byte := l ++ List.replicate (n - l.length) 0
/-- A pipeline entry of one stage that starts at 0x1000 with g1 = 0x42 (R170, R171). -/
def pipe1 (sl : Byte) : List Byte := pad 80 ([1, 4, 0, 0, 0x77, 0, 0, 0, 1, 0, sl, 0, 0, 0, 0, 0] ++ leBytes 8 0x1000 ++ [0xFF, 0] ++ List.replicate 6 0 ++ leBytes 8 0x42)
theorem wit_entry : testPipe (ent 1 (pipe1 0xFF)) = none ∧ (hub 1 (pipe1 0xFF)).winner 1 (fun e s => (s.neverPlaced e).isSome || (s.placeNow e).isSome) = some 9 := by decide +kernel
theorem test_run_pipe : let t := run (.runPipe 9) ((hub 1 (pipe1 0xFF)).setReg (Reg.oeCfg 35) 5)
    (t.ctx 560).st = .ready ∧ (t.ctx 560).r.pc = 0x1000 ∧ t.g 560 1 = 0x42 ∧ (t.ctx 560).bid = 1 ∧ (t.job 0).live = true ∧ (t.queue 9).inflight = 1 := by decide +kernel
theorem test_run_pipe_never : (posted (run (.runPipe 9) (hub 1 (pipe1 0xFF)))).1 = 0x0340 ∧ (posted (run (.runPipe 9) ((hub 1 (pipe1 3)).setQueue 9 { (hub 1 (pipe1 3)).queue 9 with slices := 1 }))).1 = 0x0701 := by decide +kernel
theorem test_run_pipe_quota : (posted (run (.runPipe 9) ((hub 1 (pipe1 0xFF)).setBooth 1 { opener with quota := [(7, 9)] }))).1 = 0x0301 := by decide +kernel
/-- A running job of one stage with a limit of 2 µs, 2 µs after its start. -/
def timed (st : CState) : State :=
  { noHandler with ctxs := [(0, { noHandler.ctx 0 with st := st })], mer := { ns := 5000 }
                   jobs := [(1, { live := true, item := ent 1 [], stages := [{ ctx := 0 }], tlimit := 2, start := 3000 })] }
theorem test_time_limit : ((run (.timeLimitExpiry 0 0 0) (timed .ready)).job 1).fault = some (0, 0x0442) ∧ ((run (.timeLimitExpiry 0 0 0) (timed .ready)).ctx 0).st = .drain ∧
    run (.timeLimitExpiry 0 0 0) { timed .ready with mer := { ns := 4999 } } = { timed .ready with mer := { ns := 4999 } } := by decide +kernel
theorem test_job_completion : ((run (.jobCompletion 0 0 0) (timed .drain)).ctx 0).st = .free ∧ ((run (.jobCompletion 0 0 0) (timed .drain)).job 1).live = false ∧
    run (.jobCompletion 0 0 0) (timed .ready) = timed .ready := by decide +kernel

/-- QID 9 with nothing fetched, counters and ring of R274's example. -/
def ringQ (h t : BitVec 32) : State :=
  let s := hub 1 []
  s.setQueue 9 { s.queue 9 with fetched := [], sqHead := h, sqTail := t }
theorem test_doorbell : ((run (.doorbellStore 1 9 .lo 2) (ringQ 0xFFFFFFFA 0xFFFFFFFA)).queue 9).sqTail = 2 ∧
    ((run (.doorbellStore 1 9 .lo 0xA) (ringQ 0xFFFFFFFA 2)).queue 9).sqTail = 0xA ∧ run (.doorbellStore 1 9 .lo 0xA) (ringQ 0xFFFFFFFA 0xA) = ringQ 0xFFFFFFFA 0xA := by decide +kernel
theorem test_doorbell_bad : ((run (.doorbellStore 1 9 .lo 0x1E) (ringQ 0xA 0xA)).booth 1).cause = 0x0120 ∧ (run (.doorbellStore 1 9 .lo 0x1E) (ringQ 0xA 0xA)).reg (Reg.boothHaltSlot 1) = 0x1E ∧
    ((run (.doorbellStore 1 9 .hi 1) (ringQ 0 0)).booth 1).cause = 0x0121 ∧ run (.doorbellStore 2 9 .lo 1) (ringQ 0 0) = ringQ 0 0 := by decide +kernel
theorem test_doorbell_load : (run (.doorbellLoad 0 9 .full) ((ringQ 3 4).setQueue 9 { (ringQ 3 4).queue 9 with cqTail := 5 })).busReply = 0x500000003 := by decide +kernel
theorem test_fetch_length : ((run (.entryFetch 9) { ringQ 0xA 0x16 with mem := [(0x130A0, 1), (0x130A1, 0x13)] }).booth 1).cause = 0x0102 ∧
    (run (.entryFetch 9) { ringQ 0xA 0x16 with mem := [(0x130A0, 1), (0x130A1, 0x13)] }).reg (Reg.boothHaltSlot 1) = 0xA := by decide +kernel
theorem test_fetch : ((run (.entryFetch 9) { (hub 2 []).setQueue 9 { (hub 2 []).queue 9 with fetched := [], sqTail := 1 } with mem := [(0x13000, 2), (0x13004, 0x33)] }).queue 9).fetched.map Item.tag = [0x33] ∧
    ((run (.entryFetch 9) { (hub 2 []).setQueue 9 { (hub 2 []).queue 9 with fetched := [], sqTail := 1 } with mem := [(0x13000, 0x22)] }).booth 1).cause = 0x0101 := by decide +kernel
theorem test_qctl : ((run (.qmQctlWrite 9 0) (hub 2 [])).queue 9).fetched = [] ∧ ((run (.qmQctlWrite 9 1) (hub 2 [])).queue 9).enable = true := by decide +kernel
theorem test_hold : (((ringQ 0 0).setQueue 9 { (ringQ 0 0).queue 9 with cqTail := 16, inflight := 1 }).post 9 { status := 5 } |>.queue 9).hold = [{ status := 5 }] ∧
    complBytes { status := 0x0401, tag := 0x77, res := 9 } 16 4 = [1, 4, 0, 0, 0x77, 0, 0, 0, 9, 0, 0, 0, 0, 0, 0, 0] := by decide +kernel
/-- A release-ordered queue 9 of flow 42 with an entry for item 1001 at its front. -/
def ordered (used : Bool) : State :=
  { ((ringQ 0 0).setQueue 9 { (ringQ 0 0).queue 9 with role := 2, cls := 7, flow := 42, fetched := [{ ent 7 (pad 48 [1, 2]) with tag := 1001, role := 2, flow := 42 }] }).setReg Reg.domCtl 1 with
    flows := [(42, { en := true, base := 0x20000000, nextRel := 1000, nextStamp := if used then 1005 else 1001 })] }
theorem test_ordered : (((run (.entryFetch 9) (ordered true)).flow 42).cell 1001).entry.isSome = true ∧ (posted (run (.entryFetch 9) (ordered false))).1 = 0x0460 ∧
    (ordered true).mayDispatch 9 (ent 7 (pad 48 [1, 2])) = true := by decide +kernel

/-! ### Domino (R245–R253): flow 42 of the worked example -/

def flow42 (cells : Tab Cell) (rel stamp : BitVec 32) : State :=
  { (ringQ 0 0).setReg Reg.domCtl 1 with flows := [(42, { en := true, bid := 1, base := 0x20000000, nextRel := rel, nextStamp := stamp, cells := cells })], mer := { ns := 300000 } }
/-- Item 1000 stamped, without a terminal. -/
def stuck : State := flow42 [(8, { used := true, seq := 1000, q := 9, tag := 0x77 })] 1000 1005
def term1000 : Terminal := { item := { ent 1 [] with role := 1, flow := 42, seq := 1000 }, compl := { status := 0x0440, tag := 0x77 } }
theorem test_terminal : (((run .terminal { stuck with terms := [term1000] }).flow 42).cell 1000).term = some term1000.compl ∧
    (run .terminal { flow42 [] 1005 1005 with terms := [term1000] }).reg Reg.domLateCnt = 1 := by decide +kernel
theorem test_release : ((run .itemRelease (run .terminal { stuck with terms := [term1000] })).flow 42).nextRel = 1001 ∧ (posted (run .itemRelease (run .terminal { stuck with terms := [term1000] }))).1 = 0x0440 ∧
    run .itemRelease stuck = stuck := by decide +kernel
theorem test_skip : (((run (.skip 42 1000) stuck).flow 42).cell 1000).skipped = true ∧ (posted (run .itemRelease (run (.skip 42 1000) stuck))).1 = 0x0260 ∧
    (run (.skip 42 1000) (run .terminal { stuck with terms := [term1000] })).reg Reg.domCmdRes = 0x0262 := by decide +kernel
theorem test_skip_refused : (run (.skip 42 1005) stuck).reg Reg.domCmdRes = 0x0401 ∧ (run (.skip 42 999) stuck).reg Reg.domCmdRes = 0x0201 ∧ (run (.skip 43 0) stuck).reg Reg.domCmdRes = 0x0401 := by decide +kernel
theorem test_flush : ((run (.domFlush 42) (flow42 [(8, { used := true, seq := 1000, q := 9, tag := 0x77 })] 1000 1001)).flow 42).nextRel = 1001 ∧ (posted (run (.domFlush 42) (flow42 [(8, { used := true, seq := 1000, q := 9, tag := 0x77 })] 1000 1001))).1 = 0x0661 := by decide +kernel
theorem test_stall : (run (.stallDetect 42) (stuck.setReg Reg.domStall 200)).reg Reg.domStallLast = 0x3E80000002A ∧ 18 ∈ (run (.stallDetect 42) (stuck.setReg Reg.domStall 200)).orr.raised ∧
    run (.stallDetect 42) (stuck.setReg Reg.domStall 301) = stuck.setReg Reg.domStall 301 := by decide +kernel
theorem test_flow_cfg : ((run (.flowCfgWrite 7 0x20000111) State.reset).flow 7) = { en := true, log2w := 4, bid := 1, base := 0x20000000 } ∧ (run (.flowCfgWrite 7 0x20000105) State.reset).regBit Reg.domStat 2 = true ∧
    (run (.flowCfgWrite 42 0) stuck).regBit Reg.domStat 2 = true ∧ ((run (.flowCfgWrite 42 0) (flow42 [] 5 5)).flow 42).en = false := by decide +kernel

/-! ### Admin commands (R278–R284) -/

/-- The direct port holds an entry of the words given and has been told to go. -/
def direct (w : List W64) : State :=
  let s := (w.zip (List.range 8)).foldl (fun s p => s.setReg (Reg.qmAdmEntry p.2) p.1) (hub 1 [])
  { s with admGo := true }
def admRes (s : State) : W64 × W64 := (s.reg Reg.qmAdmRes0, s.reg Reg.qmAdmRes1)
theorem test_direct_go : (run .adminDirectGo { direct [0x7700000001, 5] with admGo := false }).admGo = true ∧ ((run .adminDirectGo { direct [0x7700000201, 5] with admGo := false }).booth 0).st = .halted ∧
    ((run .adminDirectGo { direct [0x7700000201, 5] with admGo := false }).booth 0).cause = 0x0123 := by decide +kernel
theorem test_create_booth : ((run (.createBooth .direct) (direct [0x7700000001, 5])).booth 5).st = .active ∧ admRes (run (.createBooth .direct) (direct [0x7700000001, 5])) = (0x7700000000, 5) ∧
    admRes (run (.createBooth .direct) (direct [0x7700000001, 1])) = (0x7700000201, 0) ∧ admRes (run (.createBooth .direct) (direct [0x7700000001, 0x10000])) = (0x7700000000, 2) := by decide +kernel
theorem test_destroy_booth : admRes (run (.destroyBooth .direct) (direct [0x7700000002, 1])) = (0x7700000201, 0) ∧ ((run (.destroyBooth .direct) { direct [0x7700000002, 1] with queues := [] }).booth 1).st = .free := by decide +kernel
/-- Booth 1 HALTED with twelve slots of QID 9 not taken. -/
def haltedB (f : Nat) : State :=
  let s := (direct [0x7700000003, 1]).setBooth 1 { opener with st := .halted }
  s.setQueue 9 { s.queue 9 with sqHead := 0xA, sqTail := 0x16, inflight := f, fetched := [] }
theorem test_reset_booth : admRes (run (.resetBooth .direct) (haltedB 0)) = (0x7700000000, 12) ∧ ((run (.resetBooth .direct) (haltedB 0)).queue 9).sqHead = 0x16 ∧ ((run (.resetBooth .direct) (haltedB 0)).queue 9).enable = false ∧
    ((run (.resetBooth .direct) (haltedB 0)).booth 1).st = .active := by decide +kernel
theorem test_reset_booth_waits : (run (.resetBooth .direct) (haltedB 1)).adm = some (1, .direct, 0x77) ∧ admRes (run (.resetBooth .direct) (direct [0x7700000003, 1])) = (0x7700000201, 0) ∧
    admRes (run .resetBoothDiscard { haltedB 0 with adm := some (1, .direct, 0x77) }) = (0x7700000000, 12) := by decide +kernel
/-- CREATE_QUEUE for Booth 1: class 2, rings of 16 slots at 0x100 and 0x200, MAX_INFLIGHT 8. -/
def mkq (q cls : W64) : List W64 := [0x7700000304, q + cls <<< 24 + 0x0404000100000000, 0x100, 0x200, 0x800000000, 0]
theorem test_create_queue : ((run (.createQueue .direct) (direct (mkq 10 2))).queue 10).cls = 2 ∧ admRes (run (.createQueue .direct) (direct (mkq 10 2))) = (0x7700000000, 10) ∧
    admRes (run (.createQueue .direct) (direct (mkq 9 2))) = (0x7700000201, 0) ∧ admRes (run (.createQueue .direct) (direct (mkq 10 8))) = (0x7700000401, 0) := by decide +kernel
theorem test_destroy_queue : admRes (run (.destroyQueue .direct) (direct [0x7700000005, 9])) = (0x7700000201, 0) ∧
    ((run (.destroyQueue .direct) ((direct [0x7700000005, 9]).setQueue 9 { (hub 1 []).queue 9 with enable := false })).queue 9).exists_ = false := by decide +kernel
theorem test_set_window : Tab.get {} ((run (.setWindow .direct) (direct [0x7700000206, 0x3020001, 0x100000, 0x10000, 0x40000, 0])).booth 1).windows 2 =
      { valid := true, base := 0x100000, size := 0x10000, target := 0x40000, r := true, w := true } ∧
    admRes (run (.setWindow .direct) (direct [0x7700000206, 0x3020001, 0x8000, 0x10000, 0x40000, 0])) = (0x7700000401, 0) ∧
    admRes (run (.setWindow .direct) (direct [0x7700000206, 0x3020001, 0, 0x10000, 0x40000, 0])) = (0x7700000201, 0) := by decide +kernel
theorem test_clear_window : ((run (.clearWindow .direct) (direct [0x7700000007, 1])).booth 1).windows = [] := by decide +kernel
theorem test_quota : (run (.setQuota .direct) (direct [0x7700000108, 0x30001, 99])).quota 1 3 = 99 ∧ admRes (run (.setQuota .direct) (direct [0x7700000108, 0x80001, 99])) = (0x7700000401, 0) := by decide +kernel
theorem test_share : Tab.get 0 ((run (.setShare .direct) (direct [0x7700000109, 0xAA000F00020001])).booth 1).ways 2 = 0x000F ∧ Tab.get 0xFFFF ((run (.setShare .direct) (direct [0x7700000109, 0xAA000F00020001])).booth 1).engines 2 = 0xAA := by decide +kernel

/-! ### Searches and Spyglass (R202–R230) -/

/-- Table 3 of Booth 1, narrow, one segment: rows 0 and 1 at priority 10, row 5 at priority 30, all with key 7 and results 0xA, 0xB, 0xC. -/
def spy3 : Spyglass :=
  { tables := [(3, { exists_ := true, owner := 1, segs := [0], dflt := 0xD })], segs := [(0, 4)], budget := 160
    rows := [(0, { valid := true, prio := 10, id := 1, res := 0xA, key := 7 }), (1, { valid := true, prio := 10, id := 2, res := 0xB, key := 7 }),
             (5, { valid := true, prio := 30, id := 3, res := 0xC, key := 7 })]
    mir := [(0, { valid := true, prio := 10, id := 1, res := 0xA, key := 7 }), (1, { valid := true, prio := 10, id := 2, res := 0xB, key := 7 }),
             (5, { valid := true, prio := 30, id := 3, res := 0xC, key := 7 })] }
/-- Context 0 searches table 3 for a key under a whole mask. -/
def srchEng (key : W128) : State := { (eng (regs [(1, 3), (2, 0xFFFF0000)] [(4, key), (5, BitVec.allOnes 128)])).setReg Reg.spyCtl 3 with spy := spy3 }
noncomputable def searched (key : W128) : State := run .searchAdmission (run (.srch E 4 6 1 2) (srchEng key))
theorem test_srch : ((run (.srch E 4 6 1 2) (srchEng 7)).ctx 0).wait = .search ∧ (run (.srch E 4 6 1 2) (srchEng 7)).spy.port.map SpyReq.key = [7] := by decide +kernel
theorem test_admission : (searched 7).spy.replies.map SpyReply.w0 = [0xA] ∧ (searched 7).spy.budget = 155 ∧ (searched 8).spy.replies.map SpyReply.w0 = [0xD] := by decide +kernel
theorem test_reply : (run (.searchReply 0 0 0) (searched 7)).g 0 6 = 0xA ∧ (run (.searchReply 0 0 0) (searched 7)).g 0 7 = 0x1000A00000001 ∧ ((run (.searchReply 0 0 0) (searched 7)).ctx 0).r.pc = 0x1004 := by decide +kernel
theorem test_srch_illegal : (run (.srch E 4 7 1 2) ((srchEng 7).setXcsr 0 0x10 0x4001)).xcsr 0 csrUcause = 0x01 ∧ (run (.srchw E 6 6 1 2) ((srchEng 7).setXcsr 0 0x10 0x4001)).xcsr 0 csrUcause = 0x01 ∧
    (run (.srcha E 4 1 1 2) ((srchEng 7).setXcsr 0 0x10 0x4001)).xcsr 0 csrUcause = 0x05 := by decide +kernel
/-- An all-matches search whose records go to 0x2000. -/
def srchAll : State := { srchEng 7 with ctxs := [(0, { (srchEng 7).ctx 0 with r := { ((srchEng 7).ctx 0).r with g := [(1, 3), (2, 0xFFFF0000), (7, 0x2000)] } })] }
theorem test_srcha : (run .searchAdmission (run (.srcha E 4 7 1 2) srchAll)).spy.replies.map SpyReply.recs =
    [[0x0000000A00000001000000000000000A, 0x0000000A00000002000000000000000B, 0x0000001E00000003000000000000000C]] ∧
    (run (.searchReply 0 0 0) (run .searchAdmission (run (.srcha E 4 7 1 2) srchAll))).g 0 7 = 3 := by decide +kernel
theorem test_srchw_width : (run .searchAdmission (run (.srchw E 4 6 1 2) (srchEng 7))).spy.replies.map SpyReply.w1 = [0x0100000000000000] ∧
    ((run (.searchReply 0 0 0) (run .searchAdmission (run (.srch E 4 6 0 2) ((srchEng 7).setXcsr 0 0x10 0x4001)))).xcsr 0 csrUcause) = 0x14 := by decide +kernel
theorem wit_search : run .searchAdmission (srchEng 7) = srchEng 7 ∧ run (.searchReply 0 0 0) (srchEng 7) = srchEng 7 ∧
    run .searchAdmission { run (.srch E 4 6 1 2) (srchEng 7) with spy := { (run (.srch E 4 6 1 2) (srchEng 7)).spy with budget := 4 } } =
      { run (.srch E 4 6 1 2) (srchEng 7) with spy := { (run (.srch E 4 6 1 2) (srchEng 7)).spy with budget := 4 } } := by decide +kernel

/-- QID 9 has a Spyglass command fetched for table 3. -/
def spyQ (data : List Byte) : State := { (hub 2 data).setReg Reg.spyCtl 3 with spy := spy3 }
theorem test_create_table : ((run (.createTable 9) (spyQ (pad 32 [1, 1, 0, 0, 0x77, 0, 0, 0, 0xFF, 0xFF, 1, 0, 2, 0, 0, 0, 9]))).spyTable 0) = { exists_ := true, wide := true, owner := 1, segs := [1, 2], dflt := 9 } ∧
    posted (run (.createTable 9) (spyQ (pad 32 [1, 1, 0, 0, 0x77, 0, 0, 0, 3, 0, 1, 0, 2, 0, 0, 0, 9]))) = (0x0201, 0) ∧ (posted (run (.createTable 9) (spyQ (pad 32 [1, 1, 0, 0, 0x77, 0, 0, 0, 4, 0, 2])))).1 = 0x0401 := by decide +kernel
theorem test_spy_foreign : (posted (run (.delete 9) (spyQ (pad 16 [4, 0, 0, 0, 0x77, 0, 0, 0, 2, 0])))).1 = 0x0701 ∧ (posted (run (.delete 9) ((spyQ (pad 16 [4, 0, 0, 0, 0x77, 0, 0, 0, 3, 0])).setReg Reg.spyCtl 0))).1 = 0x0201 := by decide +kernel
theorem test_insert_width : (posted (run (.insert 9) (spyQ (pad 64 [3, 3, 0, 0, 0x77, 0, 0, 0, 3, 0])))).1 = 0x0250 ∧ (posted (run (.search 9) (spyQ (pad 112 [6, 6, 0, 0, 0x77, 0, 0, 0, 3, 0, 1])))).1 = 0x0250 := by decide +kernel
/-- INSERT of key 7 with priority 20 and result 0xE, then its turn. -/
noncomputable def inserted : State := run (.rowCommandCompletion 3) (run (.insert 9) (spyQ (pad 48 ([3, 2, 0, 0, 0x77, 0, 0, 0, 3, 0, 20, 0, 0, 0, 0, 0, 0xE, 0, 0, 0, 0, 0, 0, 0, 7]))))
theorem test_insert : (inserted.trow 3 2).res = 0xE ∧ (inserted.trow 3 2).prio = 20 ∧ (inserted.trow 3 5).res = 0xC := by decide +kernel
theorem test_delete : ((run (.rowCommandCompletion 3) (run (.delete 9) (spyQ (pad 16 [4, 0, 0, 0, 0x77, 0, 0, 0, 3, 0, 0, 0, 2])))).trow 3 1).valid = false ∧
    (posted (run (.rowCommandCompletion 3) (run (.delete 9) (spyQ (pad 16 [4, 0, 0, 0, 0x77, 0, 0, 0, 3, 0, 0, 0, 9]))))).1 = 0x0251 := by decide +kernel
theorem test_update : ((run (.rowCommandCompletion 3) (run (.spyUpdate 9) (spyQ (pad 32 [5, 1, 0, 0, 0x77, 0, 0, 0, 3, 0, 0, 0, 2, 0, 0, 0, 0x55])))).trow 3 1).res = 0x55 := by decide +kernel
theorem test_move_block : ((run (.rowCommandCompletion 3) (run (.moveBlock 9) (spyQ (pad 32 [7, 1, 0, 0, 0x77, 0, 0, 0, 3, 0, 0, 0, 5, 0, 0, 0, 1, 0, 0, 0, 3])))).trow 3 8).res = 0xC ∧
    (posted (run (.rowCommandCompletion 3) (run (.moveBlock 9) (spyQ (pad 32 [7, 1, 0, 0, 0x77, 0, 0, 0, 3, 0, 0, 0, 1, 0, 0, 0, 1, 0, 0, 0, 4]))))).1 = 0x0201 ∧
    (posted (run (.moveBlock 9) (spyQ (pad 32 [7, 1, 0, 0, 0x77, 0, 0, 0, 3, 0, 0, 0, 1, 0, 0, 0, 0])))).1 = 0x0401 := by decide +kernel
theorem test_queue_search : posted (run .searchAdmission (run (.search 9) (spyQ (pad 80 ([6, 4, 0, 0, 0x77, 0, 0, 0, 3, 0, 2, 0, 0, 0, 0, 0] ++ leBytes 8 0x8000 ++ List.replicate 8 0 ++ leBytes 18 7 ++ List.replicate 18 0xFF))))) = (0, 0x22) := by decide +kernel
theorem test_read_row : (run (.readRow 9) (spyQ (pad 32 ([8, 1, 0, 0, 0x77, 0, 0, 0, 3, 0, 1, 0, 5, 0, 0, 0] ++ leBytes 8 0x8000)))).peek 0x18030 = 0xC ∧
    (posted (run (.readRow 9) (spyQ (pad 32 ([8, 1, 0, 0, 0x77, 0, 0, 0, 3, 0, 0, 0, 9, 0, 0, 0] ++ leBytes 8 0x8000))))).1 = 0x0251 := by decide +kernel
theorem test_table_info : (run (.tableInfo 9) (spyQ (pad 32 ([9, 1, 0, 0, 0x77, 0, 0, 0, 3, 0, 0, 0, 0, 0, 0, 0] ++ leBytes 8 0x8000)))).peek 0x1800C = 3 ∧
    (run (.tableInfo 9) (spyQ (pad 32 ([9, 1, 0, 0, 0x77, 0, 0, 0, 3, 0, 0, 0, 0, 0, 0, 0] ++ leBytes 8 0x8000)))).peek 0x18014 = 2 := by decide +kernel
theorem test_destroy_table : ((run (.destroyTable 9) (spyQ (pad 16 [2, 0, 0, 0, 0x77, 0, 0, 0, 3]))).spyTable 3).destroying = true ∧
    (run (.rowCommandCompletion 3) (run (.destroyTable 9) (spyQ (pad 16 [2, 0, 0, 0, 0x77, 0, 0, 0, 3])))).spy.tables = [] := by decide +kernel
theorem wit_rows : Tab.wf {} spy3.rows = true ∧ (spy3.tables.map fun e => e.2.segs) = [[0]] ∧ run (.rowCommandCompletion 3) (spyQ []) = spyQ [] := by decide +kernel
theorem test_patrol : ((run (.patrolVisit 0) { spyQ [] with spy := { spy3 with rows := spy3.rows.map fun e => (e.1, { e.2 with res := 0x99 }) } }).spyRow 0).res = 0xA ∧
    (run (.patrolVisit 0) (spyQ [])).spy = spy3 ∧ run (.patrolVisit 4000) (spyQ []) = spyQ [] := by decide +kernel
theorem test_repair_release : ((run (.rowRepairRelease 0) { spyQ [] with spy := { spy3 with rows := [(0, { valid := true, quar := true })] } }).spyRow 0).quar = false := by decide +kernel
theorem test_resync : (run .mirrorWriteFail (spyQ [])).spy.stop = true ∧ (run .resync (spyQ [])).regBit Reg.spyCtl 2 = true ∧ (run .resyncDone (run .resync (run .mirrorWriteFail (spyQ [])))).spy.stop = false := by decide +kernel

/-! ### Orrery (R232–R244): the worked example of dispatch -/

/-- h8 runs thread 1 (A) at 40, h9 runs thread 2 (B) at 100; thread 3 (C, priority 20) waits for flag 3, thread 4 (D, priority 10) sleeps. -/
def orr0 : State :=
  let s := (((State.reset.setReg Reg.orrCtl 1).setReg Reg.orrHtEn 0x300).setReg (Reg.orrSrc 16) (1 + 3 * 4 + 3 * 65536))
  { s with
    ctxs := [(2056, { st := .ready, priv := .u, r := regs (csr := [(0x401, 0x8000), (0xC07, 0x100000000)]) }), (2057, { st := .ready, priv := .k, r := regs (csr := [(0xC07, 0x100000000)]) })]
    orr := { thr := [(1, { st := .running, prio := 40, ht := 8, aff := 0x300 }), (2, { st := .running, prio := 100, ht := 9, aff := 0x300 }),
                     (3, { st := .waiting, prio := 20, mask := 8, aff := 0x300 }), (4, { st := .sleeping, prio := 10, aff := 0x300, due := some 1 })]
             cur := [(8, some 1), (9, some 2)], raised := [16], expiring := [4], tick := 1 } }
noncomputable def orr1 : State := run (.eventDelivery 16) orr0
noncomputable def orr2 : State := run .delayExpiry orr1
noncomputable def orr3 : State := run (.dispatchCommit 8) orr2
theorem test_event_offers : orr1.htOffer 9 = some 3 ∧ (orr1.thread 3).reason = .event ∧ fld (orr1.reg (Reg.orrSrc 16)) 32 32 = 1 := by decide +kernel
theorem test_expiry_offers : orr2.htOffer 8 = some 4 ∧ (orr2.thread 4).reason = .slept := by decide +kernel
theorem test_commit : orr3.htCur 8 = some 4 ∧ orr3.xcsr 2056 0x404 = 0xA0 ∧ orr3.xcsr 2056 0x405 = 4 ∧ orr3.readyList 40 = [1] ∧ orr3.reg Reg.orrPreemptCnt = 1 ∧ (orr3.ctx 2056).r.pc = 0x8000 := by decide +kernel
theorem test_commit_waits : run (.dispatchCommit 9) orr2 = orr2 ∧ (orr2.ctx 2057).priv = .k := by decide +kernel
theorem test_suspend_withdraws : (run (.suspend 8 3) orr1).htOffer 9 = none ∧ ((run (.suspend 8 3) orr1).thread 3).st = .ready := by decide +kernel
theorem test_tick : (run .tick { orr0 with mer := { ns := 1000000 } }).orr.tick = 2 ∧ run .tick orr0 = orr0 := by decide +kernel
theorem test_orr_create : (run (.orrCreate 8 5 false 200 true) orr0).reg (Reg.orrRes 8) = 0x500000000 ∧ ((run (.orrCreate 8 5 false 200 true) orr0).thread 5).st = .ready ∧
    (run (.orrCreate 8 4 false 200 true) orr0).reg (Reg.orrRes 8) = 0x0201 ∧ (run (.orrCreate 8 0 true 200 false) orr0).reg (Reg.orrRes 8) = 0 := by decide +kernel
theorem test_orr_destroy : ((run (.orrDestroy 8 3) orr0).thread 3).st = .free ∧ (run (.orrDestroy 8 2) orr0).reg (Reg.orrRes 8) = 0x0201 ∧ (run (.orrDestroy 8 1) orr0).reg (Reg.orrRes 8) = 0x10000 := by decide +kernel
theorem test_setf_clrf : ((run (.setf 8 1) (orr0.setReg (Reg.orrArg0 8) 6)).thread 1).flags = 6 ∧ (run (.setf 8 7) orr0).reg (Reg.orrRes 8) = 0x0201 ∧ ((run (.clrf 8 1) (orr0.setReg (Reg.orrArg0 8) 6)).thread 1).flags = 0 := by decide +kernel
theorem test_orr_wait : ((run (.orrWait 8 false false) (orr0.setReg (Reg.orrArg0 8) 1)).thread 1).st = .waiting ∧ (run (.orrWait 8 false false) orr0).reg (Reg.orrRes 8) = 0x0401 ∧
    (run (.orrWait 10 false false) (orr0.setReg (Reg.orrArg0 10) 1)).reg (Reg.orrRes 10) = 0x0261 := by decide +kernel
theorem test_sleep : ((run (.sleep 8) (orr0.setReg (Reg.orrArg0 8) 5)).thread 1).due = some 6 ∧ (run (.sleep 8) orr0).reg (Reg.orrRes 8) = 0x0401 := by decide +kernel
theorem test_yield_exit : (run (.yield 8) orr0).reg (Reg.orrRes 8) = 0 ∧ (run (.yield 10) orr0).reg (Reg.orrRes 10) = 0x0261 ∧ ((run (.exit 8) orr0).thread 1).st = .free := by decide +kernel
theorem test_wake : ((run (.wake 8 4) orr0).thread 4).reason = .woken ∧ (run (.wake 8 1) orr0).reg (Reg.orrRes 8) = 0x0201 := by decide +kernel
theorem test_prio_aff : ((run (.setprio 8 3 5) orr0).thread 3).prio = 5 ∧ ((run (.setaff 8 3) (orr0.setReg (Reg.orrArg1 8) 0x100)).thread 3).aff = 0x100 ∧ (run (.setaff 8 3) orr0).reg (Reg.orrRes 8) = 0x0401 ∧
    ((run (.orrResume 8 3) orr0).thread 3).susp = false := by decide +kernel
theorem test_orr_off : (run (.exit 8) (orr0.setReg Reg.orrCtl 0)).reg (Reg.orrRes 8) = 0x0201 := by decide +kernel
theorem test_ht_en : (run (.orrHtEnWrite 0x100) orr1).htOffer 9 = none ∧ (run (.orrHtEnWrite 0x100) orr1).htOffer 8 = some 3 := by decide +kernel
theorem test_src_write : (run (.orrSrcWrite 16 0x2000F) (orr0.setReg (Reg.orrSrc 16) 2)).regBit (Reg.orrSrc 16) 1 = false ∧
    ((run (.orrSrcWrite 16 0x1000D) (orr0.setReg (Reg.orrSrc 16) 2)).thread 1).flags = 8 := by decide +kernel

/-! ### Almanac (R287–R323) -/

/-- One LUN of four blocks of four pages of four slots. Namespace 5 of Booth 1 has the first GiB; its unit 7 is in block 0, page 0, slot 1. -/
def alm0 : State :=
  let s := ((((((hub 6 []).setReg Reg.almStat 3).setReg Reg.almCap 1).setReg Reg.almMapBase 0x10000000000).setReg Reg.almSeq 100).setReg Reg.almWbLimit 0x100000).setReg Reg.almGcCfg 0 |>.setReg Reg.almMediaCfg 0x640BB8
  { s with alm := { s.alm with geom := { spp := 4, planes := 1, wlp := 1, ppb := 4, bpp := 4, luns := [0] }, ns := [(5, { exists_ := true, bid := 1, size := 1 })]
                               nand := [(locAt 0 0 1, { written := true, data := 0xAB, lba := 7, nsid := 5, seq := 50 })], closed := [0] }
           mem := [(0x10000000038, 1), (0x1000000003D, 4), (0x10000200000, 2), (0x10000200006, 1)] }
def wb (id lba : Nat) (prot issued : Bool) : BufE := { id := id, nsid := 5, lba := lba, kind := 0, data := 0x11, prot := prot, issued := issued }
/-- Block 4096 is open for a stream. -/
def opened (st : Nat) (s : State) : State := { s with alm := { s.alm with opens := [{ blk := 4096, stream := st, page := 0 }] } }
theorem wit_alm : alm0.mapOf 5 7 = entryOf (locAt 0 0 1) ∧ alm0.blkState 0 = 2 ∧ alm0.blkLive 0 = 1 ∧ alm0.freeBlks 0 = [4096, 8192, 12288] ∧ alm0.slotLive (locAt 0 0 1) (alm0.nslot (locAt 0 0 1)) = true := by decide +kernel
/-- A program unit of one host unit (7) and three FILL slots is in flight. -/
def inFlight : State := { opened 0 alm0 with alm := { (opened 0 alm0).alm with buf := [wb 3 7 false true], progs := [(0, some { blk := 4096, page := 0, bufs := [3], slots :=
  [{ written := true, data := 0x11, lba := 7, nsid := 5, seq := 90 }, { written := true, kind := 3, seq := 91 }, { written := true, kind := 3, seq := 92 }, { written := true, kind := 3, seq := 93 }] })] } }
noncomputable def passed : State := run (.programComplete 0 true) inFlight
theorem test_program_pass : passed.mapOf 5 7 = entryOf (locAt 4096 0 0) ∧ (passed.nslot (locAt 4096 0 0)).data = 0x11 ∧ passed.alm.buf = [] ∧ passed.blkLive 0 = 0 ∧ passed.blkLive 4096 = 1 := by decide +kernel
theorem test_program_pass_block : passed.alm.opens.map OpenBlk.page = [1] ∧ passed.reg (Reg.almCnt 3) = 3 ∧ passed.reg (Reg.almCnt 0) = 1 := by decide +kernel
noncomputable def failed : State := run (.programComplete 0 false) inFlight
theorem test_program_fail : (failed.nslot (locAt 4096 0 0)).good = false ∧ failed.alm.retiring.map Prod.fst = [4096] ∧ failed.alm.opens = [] ∧ failed.alm.buf.map BufE.issued = [false] ∧ failed.reg (Reg.flcCnt 0 7) = 1 := by decide +kernel
theorem wit_program : run (.programComplete 1 true) inFlight = inFlight ∧ (failed.mapOf 5 7) = entryOf (locAt 0 0 1) := by decide +kernel
/-- A unit that is not protected waits. -/
def waiting : State := { opened 0 alm0 with alm := { (opened 0 alm0).alm with buf := [wb 3 7 false false] } }
theorem test_fill_timeout : (run (.programUnitFillTimeout 0) waiting).progOf 0 = some { blk := 4096, page := 0, bufs := [3], slots :=
    [{ written := true, data := 0x11, lba := 7, nsid := 5, seq := 100 }, { written := true, kind := 3, seq := 101 }, { written := true, kind := 3, seq := 102 }, { written := true, kind := 3, seq := 103 }] } ∧
    (run (.programUnitFillTimeout 0) waiting).reg Reg.almSeq = 104 := by decide +kernel
theorem wit_fill_timeout : run (.programUnitFillTimeout 0) { waiting with alm := { waiting.alm with buf := [wb 3 7 true false] } } = { waiting with alm := { waiting.alm with buf := [wb 3 7 true false] } } ∧
    run (.programUnitFillTimeout 1) waiting = waiting := by decide +kernel
/-- Block 0 is a victim, and block 4096 is open for relocation. -/
def victim : State := { opened 2 alm0 with alm := { (opened 2 alm0).alm with victims := [0] } }
/-- The victim holds a TABLE slot of page 0. -/
def tabVictim : State := { victim with mem := [(0x10000200000, 2), (0x10000201000, 1), (0x10000201005, 4)], alm := { victim.alm with nand := [(locAt 0 0 1, { written := true, kind := 1, lba := 0, seq := 50 })] } }
theorem test_copy_table : (run (.relocationCopy 0 true true) tabVictim).alm.dirty.map Prod.fst = [0] := by decide +kernel
theorem wit_copy : run (.relocationCopy 1 true true) victim = victim ∧ run (.relocationCopy 0 true true) (victim.setReg Reg.almStat 1 |>.setReg Reg.almStat 0) = victim.setReg Reg.almStat 0 ∧
    run (.relocationCopy 0 true true) { victim with alm := { victim.alm with opens := [] } } = { victim with alm := { victim.alm with opens := [] } } := by decide +kernel
/-- Block 0 without live data, older than the last checkpoint. -/
def stale : State := { alm0 with mem := [(0x10000200000, 2)], csr := Tab.set 0 alm0.csr Reg.almCkptSeq 60 }
theorem test_erase : stale.erasable 0 = true ∧ (run (.blockErase 0 true) stale).alm.nand = [] ∧ (run (.blockErase 0 true) stale).blkState 0 = 0 ∧ (run (.blockErase 0 true) stale).blkPe 0 = 1 := by decide +kernel
theorem test_erase_fails : (run (.blockErase 0 false) stale).blkState 0 = 3 ∧ (run (.blockErase 0 false) stale).reg (Reg.flcCnt 0 8) = 1 ∧ run (.blockErase 0 true) alm0 = alm0 := by decide +kernel
theorem test_patrol_read : run (.patrolRead 0 1 true) (alm0.setReg Reg.almCtl 0) = alm0.setReg Reg.almCtl 0 ∧ run (.patrolRead 4096 1 true) (alm0.setReg Reg.almCtl 2) = alm0.setReg Reg.almCtl 2 := by decide +kernel
theorem test_open : ((run (.blockOpen 0 3) alm0).openOf 0 3) = some { blk := 4096, stream := 3, page := 0 } ∧ (run (.blockOpen 0 3) alm0).blkState 4096 = 1 ∧ run (.blockOpen 1 3) alm0 = alm0 ∧ run (.blockOpen 0 4) alm0 = alm0 := by decide +kernel
theorem test_open_none : (run (.blockOpen 0 0) { alm0 with alm := { alm0.alm with geom := { alm0.alm.geom with bpp := 1 } } }).regBit Reg.almStat 4 = true := by decide +kernel
theorem test_page_load : (run .tablePageLoad (alm0.setReg Reg.almStat 7)).alm.loaded = [0] ∧ run .tablePageLoad alm0 = alm0 ∧
    (run .tablePageLoad { (alm0.setReg Reg.almStat 7).setReg Reg.almCap 0 with alm := { alm0.alm with loaded := [0] } }).regBit Reg.almStat 2 = false := by decide +kernel
theorem test_table_write : run .tablePageWrite alm0 = alm0 ∧ (opened 3 { alm0 with alm := { alm0.alm with dirty := [(0, 90)] } }).tableGroups = [0] := by decide +kernel

theorem test_format : (run .format alm0).reg Reg.almFmtRes = 0x0203 ∧ (run .format (alm0.setReg Reg.devMode 3)).reg Reg.almFmtRes = 0x0201 ∧
    (run .format ({ alm0 with alm := { alm0.alm with ns := [] } }.setReg Reg.devMode 3)).reg Reg.almFmtRes = 0x0401 ∧ run .format (alm0.setReg Reg.almStat 0x83) = alm0.setReg Reg.almStat 0x83 := by decide +kernel
theorem test_format_complete : run (.formatComplete [] []) alm0 = alm0 ∧ alm0.fmtBad [] = true := by decide +kernel
/-- Two GiB, of which namespace 5 has the first; Booth 1 has its quotas. -/
def roomy : State := { alm0.setReg Reg.almCap 2 with booths := [(0, Booth.kernel), (1, opener)] }
theorem wit_ns_create : roomy.nsFail { op := 1, nsid := 0, bid := 1, size := 1 } = (none, 1) ∧ roomy.freeRun 1 = some 1 := by decide +kernel
theorem test_ns_create_fails : (run (.nsCreate 0 1 0 false false) alm0).reg Reg.almNsRes = 0x10401 ∧ (run (.nsCreate 5 1 1 false false) alm0).reg Reg.almNsRes = 0x50201 ∧ (run (.nsCreate 6 1 1 false false) alm0).reg Reg.almNsRes = 0x60302 ∧
    (run (.nsCreate 6 1 1 false false) (alm0.setReg Reg.almStat 0)).reg Reg.almNsRes = 0x60201 := by decide +kernel
theorem test_ns_destroy : ((run (.nsDestroy 5) { alm0 with alm := { alm0.alm with cmds := [(0, { item := ent 6 [], op := 1, nsid := 5 })] } }).ns 5).destroying = true ∧ (run (.nsDestroy 6) alm0).reg Reg.almNsRes = 0x60201 := by decide +kernel
theorem test_ckpt : (run .ckpt alm0).alm.ckpt = some 99 ∧ (run .ckpt (run .ckpt alm0)).alm.ckptDue = true ∧ run .ckpt (alm0.setReg Reg.almStat 0) = alm0.setReg Reg.almStat 0 := by decide +kernel
theorem test_ckpt_timer : (run .checkpointTimer { alm0 with mer := { ns := 1000000000 } }).alm.ckpt = some 99 ∧ run .checkpointTimer { alm0 with mer := { ns := 999999999 } } = { alm0 with mer := { ns := 999999999 } } ∧
    (run .checkpointTimer { alm0 with alm := { alm0.alm with programmed := 1048576 } }).alm.ckpt = some 99 := by decide +kernel
theorem test_ckpt_commit_waits : run .checkpointCommit alm0 = alm0 ∧ let s := { alm0 with alm := { alm0.alm with ckpt := some 99, dirty := [(0, 99)] } }
    run .checkpointCommit s = s := by decide +kernel
/-- Namespace 6 is a ledger with two sealed units and an open one of three bytes; unit 1's chain value is in the buffer. -/
def ledger : State := { alm0.setReg Reg.almLgSel 6 with alm := { alm0.alm with
  ns := [(6, { exists_ := true, bid := 1, size := 1, ledger := true, ordered := true, units := 2, offset := 8195, head := 0x77, openData := [1, 2, 3] })]
  nextBuf := 1
  buf := [{ id := 0, nsid := 6, lba := 1, kind := 4, data := 0, prot := true, issued := true, chain := 0x0123456789ABCDEF00000000000000000000000000000000FEDCBA9876543210 }] } }
theorem test_lg_chain : (run .lgReadChain (ledger.setReg Reg.almLgIdx 1)).reg (Reg.almLgCv0 3) = 0x0123456789ABCDEF ∧ (run .lgReadChain (ledger.setReg Reg.almLgIdx 1)).reg (Reg.almLgCv0 0) = 0xFEDCBA9876543210 ∧
    fld ((run .lgReadChain (ledger.setReg Reg.almLgIdx 2)).reg Reg.almLgCmd) 16 16 = 0x0470 := by decide +kernel
theorem test_lg_none : fld ((run .lgReadChain (ledger.setReg Reg.almLgSel 5)).reg Reg.almLgCmd) 16 16 = 0x0401 ∧ fld ((run .lgSeal (ledger.setReg Reg.almLgSel 5)).reg Reg.almLgCmd) 16 16 = 0x0401 := by decide +kernel
theorem test_lg_capture : (run .lgHeadCapture ledger).busReply = 0x77 ∧ (run .lgHeadCapture ledger).alm.capNs = some (0x77, 2, 8195) ∧ (run (.lgSelWrite 0xFFFF) (run .lgHeadCapture ledger)).alm.capNs = none ∧
    (run (.lgSelWrite 0xFFFF) ledger).reg Reg.almLgSel = 0x7FF := by decide +kernel
theorem test_lg_seal_empty : let s := { ledger with alm := { ledger.alm with ns := [(6, { exists_ := true, ledger := true })] } }
    fld ((run .lgSeal s).reg Reg.almLgCmd) 16 16 = 0 ∧ run (.sealTimeout 6) s = s ∧ run (.sealTimeout 6) (ledger.setReg Reg.almMediaCfg (1 <<< 48)) = ledger.setReg Reg.almMediaCfg (1 <<< 48) := by decide +kernel
theorem test_ps : (run (.almPsWrite 2) alm0).reg Reg.almPs = 0x21A ∧ (run .psTransitionEnd (run (.almPsWrite 2) alm0)).alm.psCur = 2 ∧ (run .psTransitionEnd (run (.almPsWrite 2) alm0)).alm.psLast = 0 ∧
    (run (.almPsWrite 1) { alm0 with host := [(0, { en := true, pstate := 0 })] }).reg Reg.almPs = 1 := by decide +kernel

/-! ### Storage commands (R325–R336) on namespace 5 of `alm0` -/

/-- A storage entry: opcode, NSID, unit, and CDW12's field; its buffer is at 0x8000. -/
def stEnt (op : Byte) (nsid unit n : Nat) : List Byte :=
  [op, 3, 0, 0, 0x77, 0, 0, 0] ++ leBytes 4 nsid ++ leBytes 12 0 ++ leBytes 8 0x8000 ++ leBytes 8 0 ++ leBytes 8 unit ++ leBytes 16 n
/-- The entry has been fetched to QID 9. -/
def stQ (e : List Byte) (s : State := alm0) : State := s.setQueue 9 { s.queue 9 with fetched := [ent 6 e] }
theorem test_write_begins : ((run (.write 9) (stQ (stEnt 1 5 7 0))).stCmd 0).map (fun c => (c.op, c.unit, c.n, c.started, c.data.length)) = some (1, 7, 1, true, 4096) ∧
    (run (.write 9) (stQ (stEnt 1 5 7 0))).alm.accept = [0] := by decide +kernel
theorem test_storage_tests : (posted (run (.write 9) (stQ (stEnt 1 6 7 0)))).1 = 0x0471 ∧ (posted (run (.write 9) (stQ (stEnt 1 6 7 0) ledger))).1 = 0x0270 ∧ (posted (run (.append 9) (stQ (stEnt 0x85 5 0 8)))).1 = 0x0401 ∧
    (posted (run (.orderedWrite 9) (stQ (stEnt 0x81 5 7 0)))).1 = 0x0271 ∧ (posted (run (.write 9) (stQ (stEnt 1 5 262144 0)))).1 = 0x0470 ∧ (posted (run (.read 9) (stQ (stEnt 2 5 7 256)))).1 = 0x0401 := by decide +kernel
theorem test_storage_readonly : (posted (run (.write 9) (stQ (stEnt 1 5 7 0) (alm0.setReg Reg.devMode 0x81)))).1 = 0x0202 ∧ run (.read 9) (stQ (stEnt 2 5 7 0) (alm0.setReg Reg.almStat 0)) = stQ (stEnt 2 5 7 0) (alm0.setReg Reg.almStat 0) := by decide +kernel
/-- A WRITE of two units waits for its acceptance; unit 7 has older data in the buffer. -/
def accepting (limit : W64) : State := { alm0.setReg Reg.almWbLimit limit with alm := { alm0.alm with accept := [0], nextBuf := 4, buf := [wb 3 7 true false], cmds := [(0, { item := ent 6 (stEnt 1 5 7 1), op := 1, nsid := 5, unit := 7, n := 2, started := true, data := [1, 2] })] } }
theorem test_accept : (run .writeBufferAccept (accepting 0x100000)).alm.buf.map (fun b => (b.id, b.lba, b.prot)) = [(4, 7, true), (5, 8, true)] ∧ (posted (run .writeBufferAccept (accepting 0x100000))).1 = 0 ∧
    (run .writeBufferAccept (accepting 0x100000)).stCmd 0 = none := by decide +kernel
theorem test_accept_unprotected : ((run .writeBufferAccept (accepting 0)).stCmd 0).map StCmd.waits = some [4, 5] ∧ (run .writeBufferAccept (accepting 0)).alm.buf.map BufE.prot = [false, false] := by decide +kernel
theorem wit_accept : run .writeBufferAccept ((accepting 0).setReg Reg.almStat 0) = (accepting 0).setReg Reg.almStat 0 ∧ (posted (run .writeBufferAccept ((accepting 0).setReg Reg.devMode 0x81))).1 = 0x0202 ∧ run .writeBufferAccept alm0 = alm0 := by decide +kernel
theorem test_read_queues : (run (.read 9) (stQ (stEnt 2 5 7 0))).alm.reads = [(0, [{ cmd := 0, idx := 0, nsid := 5, unit := 7, loc := locAt 0 0 1 }])] := by decide +kernel
theorem test_read_units : ((run (.read 9) (stQ (stEnt 2 5 7 1))).stCmd 0).map (fun c => c.parts.map fun p => (p.1, p.2.length, leVal (p.2.take 8))) = some [(1, 4096, 0)] ∧
    ((run (.read 9) (stQ (stEnt 2 5 6 1) { alm0 with alm := { alm0.alm with buf := [wb 3 6 true true], nextBuf := 4 } })).stCmd 0).map (fun c => c.parts.map fun p => (p.1, leVal (p.2.take 8))) = some [(0, 0x11)] := by decide +kernel
theorem wit_slot_read : run (.slotReadComplete 0 0 true) alm0 = alm0 ∧ ({ alm0 with alm := { alm0.alm with psCur := 2 } } : State).flashOn = false := by decide +kernel
theorem test_trim : (posted (run (.trim 9) (stQ (stEnt 9 5 0 0)))).1 = 0 ∧ trimRanges (leBytes 4 0 ++ leBytes 4 3 ++ leBytes 8 7) = [(7, 3)] := by decide +kernel
theorem test_trim_gathers : let t := run (.trim 9) (stQ (stEnt 9 5 (4 * 2 ^ 32) 0) { alm0 with mem := (0x18004, 3) :: (0x18008, 7) :: alm0.mem })
    t.alm.accept = [0] ∧ (t.stCmd 0).map (fun c => trimRanges c.data) = some [(7, 3)] := by decide +kernel
theorem test_trim_accepts : let t := run .writeBufferAccept { alm0 with alm := { alm0.alm with accept := [0], cmds := [(0, { item := ent 6 (stEnt 9 5 0 0), op := 9, nsid := 5, n := 1, started := true, data := leBytes 4 0 ++ leBytes 4 1 ++ leBytes 8 7 })] } }
    t.mapOf 5 7 = 0 ∧ t.blkLive 0 = 0 ∧ t.alm.buf.map BufE.kind = [5] ∧ (posted t).1 = 0 := by decide +kernel
theorem test_st_flush : (posted (run (.flush 9) (stQ (stEnt 0 5 0 0)))).1 = 0 ∧
    ((run (.flush 9) (stQ (stEnt 0 5 0 0) { alm0 with alm := { alm0.alm with buf := [wb 3 7 true true] } })).stCmd 0).map StCmd.waits = some [3] := by decide +kernel
theorem test_append_accepts : let t := run .writeBufferAccept { ledger with alm := { ledger.alm with accept := [0], cmds := [(0, { item := ent 6 (stEnt 0x85 6 0 2), op := 0x85, nsid := 6, n := 1, started := true, data := [4, 5] })] } }
    (t.ns 6).openData = [1, 2, 3, 4, 5] ∧ (t.ns 6).offset = 8197 ∧ (posted t) = (0, 8195) := by decide +kernel
/-- QID 9 stamps for flow 3. -/
def stamped (e : List Byte) (s : State) : State :=
  let s := (s.setReg Reg.domCtl 1).setQueue 9 { s.queue 9 with role := 1, flow := 3, fetched := [{ ent 6 e with role := 1, flow := 3 }] }
  { s with flows := [(3, { en := true, bid := 1, base := 0x20000000 })] }
theorem test_stamped_admit : ((run (.append 9) (stamped (stEnt 0x85 6 0 2) ledger)).stCmd 0).map (fun c => (c.ordered, c.started)) = some (true, false) ∧
    ((run (.orderedWrite 9) (stamped (stEnt 0x81 5 7 0) alm0)).stCmd 0).map StCmd.started = some false ∧ ((run (.orderedRead 9) (stamped (stEnt 0x82 5 7 0) alm0)).stCmd 0).map StCmd.ordered = some true ∧
    ((run (.readChain 9) (stamped (stEnt 0x86 6 1 0) ledger)).stCmd 0).map StCmd.op = some 0x86 := by decide +kernel
/-- Two ordered writes of flow 3 with stamps 2 and 1; the second has not reached its point. -/
def twoOrdered : State := { alm0 with alm := { alm0.alm with cmds := [(0, { item := { ent 6 (stEnt 0x81 5 7 0) with flow := 3, seq := 2, role := 1 }, op := 0x81, nsid := 5, unit := 7, n := 1, ordered := true }),
                                                                         (1, { item := { ent 6 (stEnt 0x82 5 8 0) with flow := 3, seq := 1, role := 1 }, op := 0x82, nsid := 5, unit := 8, n := 1, ordered := true })], nextCmd := 2 } }
theorem test_ordered_start : (run (.orderedCommandStart 3) twoOrdered).stCmd 1 = none ∧ ((run (.orderedCommandStart 3) twoOrdered).stCmd 0).map StCmd.started = some false ∧
    run (.orderedCommandStart 4) twoOrdered = twoOrdered := by decide +kernel
theorem test_read_chain : let t := run (.orderedCommandStart 3) { ledger with alm := { ledger.alm with cmds := [(0, { item := { ent 6 (stEnt 0x86 6 1 0) with flow := 3, role := 1 }, op := 0x86, nsid := 6, unit := 1, n := 1, ordered := true })] } }
    leVal (t.peekN 0x18000 8) = 0xFEDCBA9876543210 ∧ leVal (t.peekN 0x18020 8) = 2 ∧ leVal (t.peekN 0x18028 8) = 8195 := by decide +kernel
theorem test_read_chain_range : (posted (run (.orderedCommandStart 3) { ledger with alm := { ledger.alm with cmds := [(0, { item := { ent 6 (stEnt 0x86 6 2 0) with flow := 3 }, op := 0x86, nsid := 6, unit := 2, n := 1, ordered := true })] } })).1 = 0x0470 := by decide +kernel
theorem test_standby : let s := { (stQ (stEnt 1 5 7 0)).setReg Reg.almPs 0x0A with alm := { alm0.alm with psCur := 2 } }
    (run (.write 9) s).reg Reg.almPs = 0x12 ∧ ((run (.write 9) s).stCmd 0).map StCmd.started = some false ∧ ((run .psTransitionEnd (run (.write 9) s)).stCmd 0).map StCmd.started = some true := by decide +kernel

/-! ### NVM Express over PCIe (R338–R345, R415, R416) -/

/-- Function 0 of Booth 1 is on; its submission queue 1 (4 entries, one command waits) has shadow QID 9 and completion queue 1. -/
def host0 : State :=
  let s := (alm0.setReg (Reg.pciFn 0) 0x10001).setQueue 9 { alm0.queue 9 with prod := 2, sqLog := 10, host := 0, fetched := [] }
  { s with host := [(0, { en := true, rdy := true, sqs := [(0, { live := true, size := 8 }), (1, { live := true, cqid := 1, size := 4, tail := 1, shadow := 9 })]
                          cqs := [(0, { live := true, size := 8, ien := true }), (1, { live := true, size := 4, ien := true, vec := 1 })] })] }
def fn0 (s : State) : HostFn := s.hostFn 0
/-- The completions in host memory: queue, command, SCT, SC and Dword 0. -/
def sent0 (s : State) : List (Nat × BitVec 16 × Nat × Nat × BitVec 32) := (fn0 s).sent.map fun e => (e.cqid, e.cid, e.sct, e.sc, e.dw0)
/-- The one completion sent answers an admin command. -/
def adm0 (s : State) (cid : BitVec 16) (sct sc : Nat) (dw : BitVec 32 := 0) : Bool := sent0 s == [(0, cid, sct, sc, dw)]
/-- A READ with CID 0x33 of NSID 5, PRP pointers, unit 7, one block. -/
def sqe (op flags : Nat) : BitVec 512 := BitVec.ofNat 512 (op + flags * 2 ^ 8 + 0x33 * 2 ^ 16 + 5 * 2 ^ 64 + 7 * 2 ^ 320)
theorem test_host_io : let t := run (.hostIoCommand 0 1 (sqe 2 0)) host0
    (t.hostSq 0 1).head = 1 ∧ (t.queue 9).sqTail = 4 ∧ leVal (t.peekN 0x3000 8) = 0x0001003300000302 ∧ leVal (t.peekN 0x3008 8) = 0x200000005 ∧ t.peek 0x3028 = 7 := by decide +kernel
theorem test_host_io_bad : sent0 (run (.hostIoCommand 0 1 (sqe 2 1)) host0) = [(1, 0x33, 0, 2, 0)] ∧ sent0 (run (.hostIoCommand 0 1 (sqe 3 0)) host0) = [(1, 0x33, 0, 1, 0)] ∧
    run (.hostIoCommand 0 0 (sqe 2 0)) host0 = host0 ∧ run (.hostIoCommand 1 1 (sqe 2 0)) host0 = host0 := by decide +kernel
theorem test_host_doorbell : ((run (.hostDoorbell 0 1 false 3) host0).hostSq 0 1).tail = 3 ∧ (fn0 (run (.hostDoorbell 0 1 false 4) host0)).events = [0x10100] ∧ (fn0 (run (.hostDoorbell 0 2 false 1) host0)).events = [0x10000] ∧
    (fn0 (run (.hostDoorbell 0 1 true 0) host0)).events = [0x10100] := by decide +kernel
/-- One entry of completion queue 1 has been sent; one interrupt waits for aggregation. -/
def sentOne : State := { host0 with host := [(0, { fn0 host0 with cqs := [(1, { live := true, size := 4, tail := 1, vec := 1, ien := true, coal := 1 })], sent := [{ cqid := 1, cid := 5, sqid := 1 }] })] }
theorem test_host_cq_doorbell : (fn0 (run (.hostDoorbell 0 1 true 1) sentOne)).sent = [] ∧ ((run (.hostDoorbell 0 1 true 1) sentOne).hostCq 0 1).head = 1 := by decide +kernel
theorem test_coalescing : Tab.get 0 (fn0 (run (.interruptCoalescingTimer 0 1) sentOne)).irq 1 = 1 ∧ ((run (.interruptCoalescingTimer 0 1) sentOne).hostCq 0 1).coal = 0 ∧ run (.interruptCoalescingTimer 0 1) host0 = host0 := by decide +kernel
theorem test_pci_fn : (run (.pciFnWrite 0 1) host0).regBit Reg.pciStat 0 = true ∧ (run (.pciFnWrite 3 0xFFFFFFFFFFFFFFFF) host0).reg (Reg.pciFn 3) = 0xFFFF0FFF0003 := by decide +kernel
theorem test_cc_en : let s := { host0 with host := [] }
    (fn0 (run (.ccEnSet 0) s)).rdy = true ∧ ((run (.ccEnSet 0) s).hostSq 0 0).live = true ∧ ((run (.ccEnSet 2) s).hostFn 2).cfs = true ∧ 81 ∈ (run (.ccEnSet 2) s).orr.raised ∧ run (.ccEnSet 0) host0 = host0 := by decide +kernel
theorem test_cc_clear : (fn0 (run (.ccEnClear 0) host0)).rdy = false ∧ (fn0 (run (.ccEnClear 0) host0)).sqs = [] ∧ let s := host0.setQueue 9 { host0.queue 9 with inflight := 1 }
    (fn0 (run (.ccEnClear 0) s)).rdy = true ∧ (fn0 (run (.ccEnClear 0) s)).stopping = true ∧ ((run (.ccEnClear 0) s).queue 9).enable = false := by decide +kernel
theorem test_flr : (fn0 (run (.functionLevelReset 0) host0)).en = false ∧ (run (.functionLevelReset 0) host0).regBit Reg.pciStat 3 = true ∧ run (.ccEnClear 1) host0 = host0 := by decide +kernel
theorem test_perst : (fn0 (run (.perstN false) { host0 with pins := { host0.pins with pcieUp := true } })).en = false ∧ (run (.perstN false) { host0 with pins := { host0.pins with pcieUp := true } }).regBit Reg.pciStat 4 = true ∧
    (run (.perstN true) host0).pins.perstN = true := by decide +kernel
theorem test_shutdown : (fn0 (run (.shutdownNotification 0) host0)).shst = 2 ∧ let s := { host0 with alm := { host0.alm with buf := [wb 3 7 true true] } }
    (fn0 (run (.shutdownNotification 0) s)).shst = 1 ∧ ((run (.shutdownNotification 0) s).stCmd 0).map StCmd.waits = some [3] := by decide +kernel
theorem test_link_change : (run (.pcieLinkChange true) host0).pins.pcieUp = true ∧ (run (.pcieLinkChange true) host0).regBit Reg.pciStat 4 = true := by decide +kernel
theorem test_host_end : let t := host0.hostEnd 0 { cqid := 1, cid := 7, sqid := 1, sct := 2, sc := 0x81 } 0x0501
    sent0 t = [(1, 7, 2, 0x81, 0)] ∧ (fn0 t).errLog = [{ n := 1, sqid := 1, cid := 7, sct := 2, sc := 0x81, internal := 0x0501 }] ∧ Tab.get 0 (fn0 t).irq 1 = 1 := by decide +kernel
theorem wit_full : let s := { host0 with host := [(0, { fn0 host0 with cqs := [(1, { live := true, size := 2, tail := 1 })] })] }
    (fn0 (s.hostEnd 0 { cqid := 1, cid := 7, sqid := 1 })).wait.length = 1 ∧ (fn0 (s.hostEnd 0 { cqid := 1, cid := 7, sqid := 1 })).sent = [] := by decide +kernel

theorem test_create_cq : adm0 (run (.createIoCq 0 0x40 2 15 3 true) host0) 0x40 0 0 ∧ (run (.createIoCq 0 0x40 2 15 3 true) host0).hostCq 0 2 = { live := true, size := 16, vec := 3, ien := true } ∧
    adm0 (run (.createIoCq 0 0x40 1 15 3 true) host0) 0x40 1 1 ∧ adm0 (run (.createIoCq 0 0x40 2 4096 3 true) host0) 0x40 1 2 ∧ adm0 (run (.createIoCq 0 0x40 2 15 65 true) host0) 0x40 1 8 := by decide +kernel
theorem test_create_sq : let t := run (.createIoSq 0 0x41 2 1 15) (host0.setReg Reg.pciShadowBase 0x20000000)
    t.hostSq 0 2 = { live := true, cqid := 1, size := 16, shadow := 1 } ∧ (t.queue 1).sqBase = 0x20004000 ∧ (t.queue 1).cqBase = 0x30001000 ∧ (t.queue 1).cls = 6 := by decide +kernel
theorem test_create_sq_bad : adm0 (run (.createIoSq 0 0x41 1 1 15) host0) 0x41 1 1 ∧ adm0 (run (.createIoSq 0 0x41 2 2 15) host0) 0x41 1 0 ∧
    adm0 (run (.createIoSq 0 0x41 2 1 15) (host0.setReg Reg.devMode 3)) 0x41 0 0x82 ∧ adm0 (run (.createIoSq 0 0x41 2 1 15) (host0.setBooth 1 { opener with st := .halted })) 0x41 0 6 := by decide +kernel
theorem test_delete_sq : adm0 (run (.deleteIoSq 0 0x42 1) host0) 0x42 0 0 ∧ ((run (.deleteIoSq 0 0x42 1) host0).queue 9).exists_ = false ∧ let s := host0.setQueue 9 { host0.queue 9 with inflight := 1 }
    ((run (.deleteIoSq 0 0x42 1) s).hostSq 0 1).del = some 0x42 ∧ sent0 (run (.deleteIoSq 0 0x42 1) s) = [] ∧ adm0 (run (.deleteIoSq 0 0x42 2) s) 0x42 1 1 := by decide +kernel
theorem test_delete_cq : adm0 (run (.deleteIoCq 0 0x43 1) host0) 0x43 1 0x0C ∧ adm0 (run (.deleteIoCq 0 0x43 2) host0) 0x43 1 1 ∧
    ((run (.deleteIoCq 0 0x43 1) { host0 with host := [(0, { fn0 host0 with sqs := [] })] }).hostCq 0 1).live = false := by decide +kernel
theorem test_identify_list : (fn0 (run (.identify 0 0x44 2 0) host0)).reply.take 8 = [5, 0, 0, 0, 0, 0, 0, 0] ∧ adm0 (run (.identify 0 0x44 2 0xFFFFFFFE) host0) 0x44 0 0x0B ∧
    adm0 (run (.identify 0 0x44 0 0) host0) 0x44 0 0x0B ∧ adm0 (run (.identify 0 0x44 4 0) host0) 0x44 0 2 := by decide +kernel
theorem test_log_page : adm0 (run (.getLogPage 0 0x45 4) host0) 0x45 0 2 ∧ leVal ((fn0 (run (.getLogPage 0 0x45 1) (host0.hostEnd 0 { cqid := 1, cid := 7, sqid := 1, sct := 2, sc := 0x81 } 0x0501))).reply.drop 32 |>.take 8) = 0x0501 := by decide +kernel
theorem test_features : (fn0 (run (.setFeatures 0 0x46 0x0B 0x100) host0)).feat 0x0B = 0x100 ∧ (sent0 (run (.getFeatures 0 0x47 ⟨0x0B, 0⟩) (run (.setFeatures 0 0x46 0x0B 0x100) host0))).getLast? = some (0, 0x47, 0, 0, 0x100) ∧
    adm0 (run (.setFeatures 0 0x46 2 3) host0) 0x46 0 2 ∧ (run (.setFeatures 0 0x46 2 1) (host0.setReg Reg.almPs 1)).reg Reg.almPs = 0x115 := by decide +kernel
theorem test_features_queues : adm0 (run (.setFeatures 0 0x46 7 0) host0) 0x46 0 0x0C ∧ adm0 (run (.getFeatures 0 0x47 ⟨7, 0⟩) host0) 0x47 0 0 0x3F003F ∧ adm0 (run (.setFeatures 0 0x46 5 0) host0) 0x46 0 2 := by decide +kernel
theorem test_ordered_select : let s := { host0.setReg (Reg.pciFn 0) 0x10003 with host := [(0, { fn0 host0 with sqs := [] })] }
    (fn0 (run (.orderedQueueSelect 0 0x48 3) s)).ordered = 3 ∧ adm0 (run (.orderedQueueSelect 0 0x48 3) host0) 0x48 0 2 := by decide +kernel
theorem test_host_abort : adm0 (run (.abort 0 0x49 1 0x33) host0) 0x49 0 0 1 ∧ run (.abort 1 0x49 1 0x33) host0 = host0 := by decide +kernel
theorem test_aer : (fn0 (run (.asyncEventRequest 0 0x4A) host0)).aer = [0x4A] ∧ adm0 (run (.asyncEventRequest 0 0x4A) (run (.hostDoorbell 0 1 false 4) host0)) 0x4A 0 0 0x10100 ∧
    adm0 (run (.asyncEventRequest 0 0x4A) { host0 with host := [(0, { fn0 host0 with aer := [1, 2, 3, 4] })] }) 0x4A 1 5 := by decide +kernel

/-! ### Data movers (R347–R361) -/

/-- QID 9 of Booth 0 of a class has an entry fetched; rings at physical addresses. -/
def kq (cls : Nat) (data : List Byte) (s : State := State.reset) : State :=
  let s := (s.setReg Reg.devMode 1).setQueue 9 { exists_ := true, enable := true, cls := cls, sqBase := 0x3000, cqBase := 0x4000, maxInflight := 8, fetched := [ent cls data 0] }
  { s with booths := [(0, { opener with windows := [] })], ctl := { s.ctl with sliceEn := 0xFF } }
def kposted (s : State) : Nat × Nat := (leVal (s.peekN 0x4000 2), leVal (s.peekN 0x4008 8))
/-- Channel 256 runs a COPY of 12 bytes from 0x2000 to 0x2100 for QID 9's chain job. -/
def copying (op : Nat) (src : W64) : State :=
  let s := (((kq 5 []).setReg (Reg.mvSrc 256) src).setReg (Reg.mvDst 256) 0x2100).setReg (Reg.mvCount 256) 12
  { s with mem := [(0x2000, 1), (0x2001, 2), (0x200B, 3)], movers := [(256, { st := 1, active := true, item := some (ent 5 [] 0), op := op })] }
theorem test_transfer : let t := run (.transferComplete 256) (copying 0 0x2000)
    t.peekN 0x2100 13 = [1, 2, 0, 0, 0, 0, 0, 0, 0, 0, 0, 3, 0] ∧ kposted t = (0, 12) ∧ (t.mover 256).st = 0 := by decide +kernel
theorem test_fill : (run (.transferComplete 256) (copying 1 0x0807060504030201)).peekN 0x2100 13 = [1, 2, 3, 4, 5, 6, 7, 8, 1, 2, 3, 4, 0] := by decide +kernel
theorem test_mover_halt : let t := run (.moverHalt 256) (copying 0 0x0F0000000000)
    (t.mover 256).st = 4 ∧ (t.mover 256).dir = false ∧ t.reg (Reg.mvErraddr 256) = 0x0F0000000000 ∧ run (.moverHalt 256) (copying 0 0x2000) = copying 0 0x2000 ∧ run (.transferComplete 255) (copying 0 0x2000) = copying 0 0x2000 := by decide +kernel
/-- Local channel 3 runs context 5's kick of no bytes left. -/
def local3 (st : Nat) : State := { kq 5 [] with movers := [(3, { st := st, was := 1, ctx := 5, job := 9 })], ctxs := [(53, { job := 9, kick := some { chan := 3 } })] }
theorem test_kick_end : ((run (.transferComplete 3) (local3 1)).mover 3).st = 0 ∧ ((run (.transferComplete 3) (local3 1)).ctx 53).kick = some { chan := 3, done := true } := by decide +kernel
theorem test_mv_abort : ((run (.mvAbort 3) (local3 4)).mover 3).st = 0 ∧ run (.mvAbort 4) (local3 4) = local3 4 ∧
    kposted (run (.mvAbort 256) { copying 0 0x2000 with movers := [(256, { st := 2, total := 100, item := some (ent 5 [] 0) })] }) = (0x0290, 100) := by decide +kernel
theorem test_mv_resume : ((run (.mvResume 3) (local3 4)).mover 3).st = 1 ∧ run (.mvResume 3) (local3 1) = local3 1 := by decide +kernel
theorem test_mv_go : ((run (.mvGo 7 1) ((kq 5 []).setReg (Reg.mvCount 7) 64)).mover 7) = { st := 1, kernel := true, mode := 1 } ∧ ((run (.mvGo 7 1) (kq 5 [])).mover 7).st = 0 ∧ ((run (.mvGo 200 1) ((kq 5 []).setReg (Reg.mvCount 200) 64)).mover 200).st = 0 := by decide +kernel
/-- A RUN_CHAIN: descriptor pointer, site, kind, object, HIGH and LOW. -/
def chain (ptr site kind obj high low : Nat) : List Byte := [1, 2, 0, 0, 0x77, 0, 0, 0] ++ leBytes 8 ptr ++ leBytes 1 site ++ leBytes 1 kind ++ leBytes 6 0 ++ leBytes 8 obj ++ leBytes 8 high ++ leBytes 8 low
/-- The worked example of R361: site 3, RING, HIGH 262,144, LOW 65,536; WR − RD is 40,000 at first, then 262,144. -/
def ringed (wr : Nat) : State := { kq 5 (chain 0x5000 3 2 0x6000 262144 65536) with mem := [(0x6000, wr % 256), (0x6001, wr / 256 % 256), (0x6002, wr / 65536), (0x6012, 16)].filterMap fun e => if e.2 = 0 then none else some (e.1, BitVec.ofNat 8 e.2) }
theorem test_run_chain_ring : ((run (.runChain 9) (ringed 40000)).mover 176).st = 2 ∧ ((run (.runChain 9) (ringed 262144)).mover 176).st = 1 ∧
    ((run (.gatePoll 176) { run (.runChain 9) (ringed 40000) with mem := (ringed 262144).mem }).mover 176).st = 1 ∧ ((run (.gatePoll 176) (run (.runChain 9) (ringed 40000))).mover 176).st = 2 := by decide +kernel
theorem test_run_chain : ((run (.runChain 9) (kq 5 (chain 0x5000 255 0 0 0 0))).mover 256).st = 1 ∧ ((run (.runChain 9) (kq 5 (chain 0x5000 255 0 0 0 0))).mover 256).next = 0x5000 ∧
    (kposted (run (.runChain 9) (kq 5 (chain 0x5010 255 0 0 0 0)))).1 = 0x0401 ∧ (kposted (run (.runChain 9) (kq 5 (chain 0x5000 9 0 0 0 0)))).1 = 0x0401 ∧ (kposted (run (.runChain 9) (kq 5 (chain 0x5000 0 1 7 1 0)))).1 = 0x0701 := by decide +kernel
/-- A chain at 0x5000 whose descriptor has an operation and a control byte. -/
def described (op ctl : Byte) : State := { kq 5 [] with mem := [(0x5001, 0x20), (0x5009, 0x21), (0x5010, 12), (0x5014, op), (0x5015, ctl), (0x5019, 0x60)].filter (fun e => e.2 != 0), movers := [(256, { st := 1, item := some (ent 5 [] 0), next := 0x5000 })] }
theorem test_descriptor : let t := run (.descriptorStart 256) (described 0 5)
    t.reg (Reg.mvSrc 256) = 0x2000 ∧ t.reg (Reg.mvDst 256) = 0x2100 ∧ t.reg (Reg.mvCount 256) = 12 ∧ (t.mover 256).mode = 1 ∧ (t.mover 256).evt = true ∧ (t.mover 256).next = 0x6000 ∧ (t.mover 256).active = true := by decide +kernel
theorem test_descriptor_bad : ((run (.descriptorStart 256) (described 3 0)).booth 0).cause = 0x0191 ∧ kposted (run (.descriptorStart 256) (described 2 0)) = (0x0401, 0) ∧ run (.descriptorStart 255) (described 0 0) = described 0 0 := by decide +kernel

/-! ### Digest engine (R362–R369) -/

/-- Context 7 has an algorithm, a length and pending bytes. -/
def dg7 (alg len : Nat) (buf : List Byte) (data : List Byte) : State :=
  let s := (kq 3 data).setReg Reg.dgCtl 1
  { s with eng := { s.eng with dg := [(7, { alloc := true, alg := alg, resident := true, st := algInit alg, len := len, buf := buf })] } }
/-- A digest entry: opcode, context, flags, and the fields from byte 12. -/
def dgEnt (op : Byte) (ctx flags nfrag w16 total out : Nat) : List Byte := [op, 2, 0, 0, 0x77, 0, 0, 0] ++ leBytes 2 ctx ++ leBytes 2 flags ++ leBytes 4 nfrag ++ leBytes 8 w16 ++ leBytes 8 total ++ leBytes 8 out ++ leBytes 8 0
/-- An UPDATE of context 7 over the fragment list at 0x5000: three bytes "abc" at 0x2000. -/
noncomputable def abc (alg flags total : Nat) : State := { run (.dgUpdate 9) (dg7 alg 0 [] (dgEnt 3 7 flags 1 0x5000 total 0x6000)) with mem := [(0x2000, 0x61), (0x2001, 0x62), (0x2002, 0x63), (0x5001, 0x20), (0x5008, 3)] }
theorem test_sha256 : (run (.fragmentApply 7) (abc 1 1 0)).peekN 0x6000 8 = [0xBA, 0x78, 0x16, 0xBF, 0x8F, 0x01, 0xCF, 0xEA] ∧ kposted (run (.fragmentApply 7) (abc 1 1 0)) = (0, 3) ∧ ((run (.fragmentApply 7) (abc 1 1 0)).dg 7).len = 0 := by decide +kernel
theorem test_sha512 : (run (.fragmentApply 7) (abc 3 1 0)).peekN 0x6000 8 = [0xDD, 0xAF, 0x35, 0xA1, 0x93, 0x61, 0x7A, 0xBA] := by decide +kernel
theorem test_sha3 : (run (.fragmentApply 7) (abc 5 1 0)).peekN 0x6000 8 = [0x3A, 0x98, 0x5D, 0xA7, 0x4F, 0xE2, 0x25, 0xB2] := by decide +kernel
theorem test_fragment_more : ((run (.fragmentApply 7) (abc 1 0 0)).dg 7).buf = [0x61, 0x62, 0x63] ∧ ((run (.fragmentApply 7) (abc 1 0 0)).dg 7).len = 3 ∧ (kposted (run (.fragmentApply 7) (abc 1 2 4))).1 = 0x0402 ∧
    (kposted (run (.fragmentApply 7) (abc 1 2 2))).1 = 0x0402 ∧ ((run (.fragmentApply 7) (abc 1 2 2)).dg 7).len = 0 := by decide +kernel
theorem test_fragment_reserved : ((run (.fragmentApply 7) { abc 1 0 0 with mem := [(0x500C, 1)] }).booth 0).cause = 0x01A1 := by decide +kernel
theorem test_fragment_bad : (kposted (run (.fragmentApply 7) { abc 1 0 0 with mem := [] })).1 = 0x0401 := by decide +kernel
theorem wit_fragment : run (.fragmentApply 6) (abc 1 0 0) = abc 1 0 0 := by decide +kernel
theorem test_dg_refuse : (kposted (run (.dgFree 9) ((dg7 1 0 [] (dgEnt 2 7 0 0 0 0 0)).setReg Reg.dgCtl 0))).1 = 0x0201 ∧ (kposted (run (.dgFree 9) (dg7 1 0 [] (dgEnt 2 6 0 0 0 0 0)))).1 = 0x0701 ∧
    (kposted (run (.dgUpdate 9) (dg7 1 0 [] (dgEnt 3 7 0 1 0x5008 0 0)))).1 = 0x0401 ∧ (kposted (run (.dgAlloc 9) (dg7 1 0 [] (dgEnt 1 7 0 0 0 0 0)))).1 = 0x0401 := by decide +kernel
theorem test_dg_free : ((run (.dgFree 9) (dg7 1 0 [] (dgEnt 2 7 0 0 0 0 0))).dg 7).alloc = false ∧ (kposted (run (.dgAlloc 9) { dg7 1 0 [] (dgEnt 1 1 0 0 0 0 0) with booths := [(0, { opener with quota := [(7, 9)] })] })).1 = 0x0301 := by decide +kernel
theorem test_store_state : let t := run (.storeState 9) (dg7 1 67 [1, 2, 3] (dgEnt 5 7 0 0 0x6000 0 0))
    t.peekN 0x6000 9 = [1, 0, 3, 0, 0, 0, 0, 0, 67] ∧ t.peekN 0x6100 3 = [1, 2, 3] ∧ (kposted t).1 = 0 := by decide +kernel
theorem test_load_state : let s := { dg7 1 0 [] (dgEnt 4 7 0 0 0x6000 0 0) with mem := [(0x6000, 1), (0x6002, 3), (0x6008, 67), (0x6010, 0xAA), (0x6100, 1), (0x6101, 2), (0x6102, 3)] }
    ((run (.loadState 9) s).dg 7).buf = [1, 2, 3] ∧ ((run (.loadState 9) s).dg 7).len = 67 ∧ ((run (.loadState 9) s).dg 7).st = 0xAA ∧ (kposted (run (.loadState 9) { s with mem := [(0x6000, 2)] })).1 = 0x0401 := by decide +kernel
theorem test_dg_waits : ((run (.dgFree 9) { dg7 1 0 [] (dgEnt 2 7 0 0 0 0 0) with eng := (abc 1 0 0).eng }).dg 7).jobs.length = 2 := by decide +kernel

/-! ### Compression engine (R370–R377) -/

/-- A compression job: opcode, context, format, level, flags, source and its size, room, destination. -/
def czEnt (op : Byte) (ctx fmt lvl flags src size room dst : Nat) : List Byte := [op, 2, 0, 0, 0x77, 0, 0, 0] ++ leBytes 2 ctx ++ leBytes 1 fmt ++ leBytes 1 lvl ++ leBytes 4 flags ++ leBytes 8 src ++ leBytes 4 size ++ leBytes 4 room ++ leBytes 8 dst ++ leBytes 8 0
def czQ (e : List Byte) : State := (kq 4 e).setReg Reg.czCtl 1
/-- A raw stored block of "abc" at 0x2000, then its job at unit 0. -/
noncomputable def stored (room : Nat) : State := { run (.decompress 9) (czQ (czEnt 2 0xFFFF 0 0 0 0x2000 8 room 0x6000)) with mem := [(0x2000, 1), (0x2001, 3), (0x2003, 0xFC), (0x2004, 0xFF), (0x2005, 0x61), (0x2006, 0x62), (0x2007, 0x63)] }
theorem test_decompress : (stored 16).czUnit 0 ≠ none ∧ (run (.compressionJobEnd 0) (stored 16)).peekN 0x6000 4 = [0x61, 0x62, 0x63, 0] ∧ kposted (run (.compressionJobEnd 0) (stored 16)) = (0, 0x800000003) := by decide +kernel
theorem test_decompress_fails : (kposted (run (.compressionJobEnd 0) (stored 2))).1 = 0x03B0 ∧ (kposted (run (.compressionJobEnd 0) { stored 16 with mem := [(0x2000, 7)] })).1 = 0x04B0 ∧ run (.compressionJobEnd 1) (stored 16) = stored 16 := by decide +kernel
/-- The fixed block 4B 04 00 codes "a" (RFC 1951). -/
theorem test_fixed_block : (czDecode 0 16 [0x4B, 0x04, 0x00]).2 = ([0x61], 3) := by decide +kernel
theorem test_compress : (run (.compress 9) (czQ (czEnt 1 0xFFFF 0 6 0 0x2000 8 16 0x6000))).czUnit 0 ≠ none ∧ (kposted (run (.compressionJobEnd 0) (run (.compress 9) (czQ (czEnt 1 0xFFFF 0 6 0 0x0F0000000000 8 16 0x6000))))).1 = 0x0602 := by decide +kernel
theorem test_cz_refuse : (kposted (run (.compress 9) (czQ (czEnt 1 0xFFFF 0 0 0 0x2000 8 16 0x6000)))).1 = 0x0401 ∧ (kposted (run (.compress 9) (czQ (czEnt 1 3 0 0 0 0x2000 8 16 0x6000)))).1 = 0x0701 ∧ (kposted (run (.decompress 9) ((czQ (czEnt 2 0xFFFF 0 0 0 0x2000 8 16 0x6000)).setReg Reg.czCtl 0))).1 = 0x0201 := by decide +kernel
theorem test_cz_open : (run (.openCz 9) (czQ (pad 32 [3, 1, 0, 0, 0x77, 0, 0, 0, 1, 6, 0]))).eng.cz.map (fun e => (e.2.fmt, e.2.level, e.2.dir)) = [(1, 6, false)] ∧ (kposted (run (.openCz 9) (czQ (pad 32 [3, 1, 0, 0, 0x77, 0, 0, 0, 4, 6, 0])))).1 = 0x0401 := by decide +kernel
theorem test_cz_close : let s := { czQ (pad 16 [4, 0, 0, 0, 0x77, 0, 0, 0, 3, 0]) with eng := { cz := [(3, { open_ := true, started := true })] } }
    (run (.close 9) s).eng.cz = [] ∧ (kposted (run (.close 9) s)).1 = 0 ∧ (run (.close 9) { s with eng := { s.eng with units := [(2, some (ent 4 (czEnt 1 3 0 0 0 0 0 0 0)))] } }).eng.wait.length = 1 := by decide +kernel

/-! ### Memory controllers (R386–R399) -/

/-- The entry of the worked example of R389: bytes 8–23 of the code word at 0x1000 of MEMH0 (instance 8). -/
def merging (e : Ecc) : State :=
  { State.reset with mem := [(0x1002, 0x55), (0x1008, 0xEE)], ecc := if e = .good then [] else [(0x1000, e)]
                     merge := [(0x1000, { valid := true, mask := 0xFFFF00, data := 0x11 <<< 64, age := 1 })] }
theorem test_merge_ce : let t := run (.mergeDrainTimeout 8) (merging (.ce 2))
    t.reg (Reg.mcCeCnt 8) = 1 ∧ t.reg (Reg.mcRmwCnt 8) = 1 ∧ t.eccAt 0x1000 = .good ∧ t.peek 0x1002 = 0x55 ∧ t.peek 0x1008 = 0x11 ∧ t.merge = [] := by decide +kernel
theorem test_merge_ue : let t := run (.mergeDrainTimeout 8) ((merging .ue).setReg (Reg.mcEvt 8) 1)
    t.eccAt 0x1000 = .poison ∧ t.regBit (Reg.mcStat 8) 5 = true ∧ t.regBit (Reg.mcStat 8) 4 = true ∧ t.reg (Reg.mcUeCnt 8) = 1 ∧ t.reg (Reg.mcErrAddr 8) = 0x1000 ∧ fld (t.reg (Reg.mcErrInfo 8)) 0 2 = 1 ∧ 32 ∈ t.orr.raised := by decide +kernel
theorem test_merge_full : let s := { merging .ue with merge := [(0x1000, { valid := true, mask := 0xFFFFFFFF, data := 0, age := 1 })] }
    (run (.mergeDrainTimeout 8) s).eccAt 0x1000 = .good ∧ (run (.mergeDrainTimeout 8) s).reg (Reg.mcRmwCnt 8) = 0 ∧ (run (.mergeDrainTimeout 8) s).peek 0x1002 = 0 ∧ run (.mergeDrainTimeout 9) s = s := by decide +kernel
theorem test_promote : (run (.requestPromote 8) (State.reset.setReg (Reg.mcAge 8) 5)).reg (Reg.mcPromoteCnt 8) = 1 ∧ run (.requestPromote 8) (State.reset.setReg (Reg.mcAge 8) 0) = State.reset.setReg (Reg.mcAge 8) 0 ∧ run (.memoryRefresh 0) State.reset = State.reset := by decide +kernel
/-- A scrub of 128 bytes at 0x1000; the second code word has an error. -/
def scrubbed (e : Ecc) : State := { ((State.reset.setReg Reg.mcScrBase 0x1000).setReg Reg.mcScrLen 128) with ecc := [(0x1020, e)] }
noncomputable def scrub2 (e : Ecc) : State := run .scrubWord (run .scrubWord (run .scrubGo (scrubbed e)))
theorem test_scrub_ce : (scrub2 (.ce 1)).reg Reg.mcScrWords = 2 ∧ (scrub2 (.ce 1)).reg Reg.mcScrCe = 1 ∧ (scrub2 (.ce 1)).reg (Reg.mcCeCnt 8) = 1 ∧ ((scrub2 (.ce 1)).mergeAt 0x1020).valid = true ∧ ((scrub2 (.ce 1)).mergeAt 0x1020).mask = 0 := by decide +kernel
theorem test_scrub_ue : (scrub2 .ue).reg Reg.mcScrUe = 1 ∧ (scrub2 .ue).reg Reg.mcScrUeFirst = 0x1020 ∧ (scrub2 .ue).reg Reg.mcScrUeLast = 0x1020 ∧ fld ((scrub2 .ue).reg (Reg.mcErrInfo 8)) 0 2 = 2 := by decide +kernel
theorem test_scrub_abort : (run .scrubEnd (run .scrubAbort (scrub2 .ue))).reg Reg.mcScrStat = 0x02C00002 ∧ run .scrubEnd (scrub2 .ue) = scrub2 .ue ∧ run .scrubAbort State.reset = State.reset := by decide +kernel
theorem test_scrub_end : (run .scrubEnd (run .scrubWord (run .scrubWord (scrub2 (.ce 1))))).reg Reg.mcScrStat = 2 ∧ 36 ∈ (run .scrubEnd (run .scrubWord (run .scrubWord (scrub2 (.ce 1))))).orr.raised := by decide +kernel
theorem test_scrub_go_bad : (run .scrubGo (State.reset.setReg Reg.mcScrBase 0x1000)).reg Reg.mcScrStat = 0x04010002 ∧ (run .scrubGo (run .scrubGo (scrubbed .ue))).regBit Reg.mcScrStat 2 = true := by decide +kernel
/-- Re-centring: lane 0 passes with windows 10–20 and 30–41, lane 1 fails MIN_WIN 8. -/
def lanes2 : List LaneRep := { rdL := 10, rdR := 20, wrL := 30, wrR := 41 } :: { rdL := 10, rdR := 12, wrL := 30, wrR := 41 } :: List.replicate 8 { rdL := 0, rdR := 60, wrL := 0, wrR := 60 }
noncomputable def recentred : State := run (.recenterEnd 0 lanes2) (run (.recenter 0) (((State.reset.setReg Reg.devMode 3).setReg (Reg.mcTrainCtl 0) 0x800).setReg (Reg.mcTrain 0 1) (33 * 2 ^ 14)))
theorem test_recenter : fld (recentred.reg (Reg.mcTrain 0 0)) 14 7 = 15 ∧ fld (recentred.reg (Reg.mcTrain 0 0)) 36 7 = 35 ∧ fld (recentred.reg (Reg.mcTrain 0 1)) 14 7 = 33 ∧ recentred.regBit (Reg.mcStat 0) 9 = true ∧ recentred.regBit (Reg.mcStat 0) 7 = false := by decide +kernel
theorem test_recenter_mode : (run (.recenter 0) State.reset).regBit (Reg.mcStat 0) 8 = true ∧ run (.recenterEnd 0 lanes2) State.reset = State.reset := by decide +kernel

/-! ### NET and Meridian (R29–R31, R401–R414) -/

/-- A frame of 60 bytes tagged with VLAN 100, of a type. -/
def frame (etype : List Byte) : List Byte := pad 60 ([2, 0, 0, 0, 0, 1, 2, 0, 0, 0, 0, 2, 0x81, 0x00, 0x00, 0x64] ++ etype)
/-- Port 2 is up and table 1023 exists. -/
def net2 : State := { (State.reset.setReg Reg.netCtl 0x10).setReg Reg.spyCtl 1 with spy := { State.reset.spy with tables := [(1023, { exists_ := true })] }, mer := { ns := 777 } }
theorem test_receive : let t := run (.frameReceive 2 (frame [0x88, 0xB5]) true) net2
    t.reg (Reg.netCnt 2 0) = 1 ∧ t.reg (Reg.netCnt 2 1) = 64 ∧ (t.rxq 2).map (fun f => (fld f.key 0 4, fld f.key 4 12, fld f.key 16 16)) = [(10, 100, 0x88B5)] ∧ t.spy.port.map SpyReq.table = [1023] := by decide +kernel
theorem test_receive_drops : (run (.frameReceive 2 (frame [0x88, 0xB5]) false) net2).reg (Reg.netCnt 2 2) = 1 ∧ (run (.frameReceive 2 (pad 60 ([1, 0x80, 0xC2, 0, 0, 1, 2, 0, 0, 0, 0, 2, 0x88, 0x08, 0, 1])) true) net2).rxq 2 = [] ∧ run (.frameReceive 3 (frame [0x88, 0xB5]) true) net2 = net2 ∧
    (run (.frameReceive 2 (frame [0x88, 0xB5]) true) (net2.setReg Reg.spyCtl 0)).reg (Reg.netCnt 2 4) = 1 := by decide +kernel
/-- The worked example of R412: binding 3 feeds QID 1,200; a frame of a length. -/
def land3 (l : W64) (h : BitVec 32) (res : W64) (len : Nat := 700) : State :=
  let s := (((net2.setReg (Reg.netRxbCfg 3) (1 + 7 * 2 + 11 * 32 + 1200 * 65536 + 0xFF00000000)).setReg (Reg.netRxbBuf 3) 0x100000).setReg (Reg.netRxbLanded 3) l).setQueue 1200
    { exists_ := true, enable := true, cls := 1, prod := 1, sqLog := 10, sqBase := 0x20000, sqTail := 600, sqHead := h, cqTail := 380 }
  { s with net := { s.net with rx := [(2, [{ id := 0, data := List.replicate len 1, stamp := 5, key := 0, l3 := 14, l4 := 0, res := some (res, 1) }])] }, booths := [(0, Booth.kernel)] }
noncomputable def landed3 : State := run (.frameLanding 2) (land3 500 0 0x7700000003 64)
theorem test_landing : (landed3.queue 1200).sqTail = 605 ∧ landed3.reg (Reg.netRxbLanded 3) = 501 ∧ landed3.peek 0x13A000 = 1 ∧ landed3.peek 0x13A040 = 0 ∧ landed3.rxq 2 = [] := by decide +kernel
theorem test_landing_entry : landed3.peekN (0x20000 + 9600) 8 = [1, 4, 0, 0, 0x77, 0, 0, 0] ∧ leVal (landed3.peekN (0x20000 + 9632) 8) = 0x13A000 ∧ leVal (landed3.peekN (0x20000 + 9664) 8) = 500 := by decide +kernel
theorem test_landing_drops : (run (.frameLanding 2) (land3 508 0 0x7700000003)).reg (Reg.netCnt 2 9) = 1 ∧ (run (.frameLanding 2) (land3 500 0xFFFFFE54 0x7700000003)).reg (Reg.netCnt 2 9) = 1 ∧ (run (.frameLanding 2) (land3 500 0 0x7700000103)).reg (Reg.netCnt 2 5) = 1 ∧
    (run (.frameLanding 2) (land3 500 0 0x7700000004)).reg (Reg.netCnt 2 6) = 1 ∧ run (.frameLanding 1) (land3 500 0 3) = land3 500 0 3 := by decide +kernel
theorem test_landing_halted : (run (.frameLanding 2) { land3 500 0 0x7700000003 with booths := [(0, { Booth.kernel with st := .halted })] }).reg (Reg.netCnt 2 7) = 1 ∧
    (run (.frameLanding 2) ((land3 500 0 0x7700000003).setReg (Reg.netRxbCfg 3) (1 + 7 * 2 + 9 * 32 + 1200 * 65536))).reg (Reg.netCnt 2 8) = 1 := by decide +kernel
theorem test_rxb_cfg : (run (.rxbCfgWrite 3 0) (land3 0 0 0)).regBit (Reg.netRxbCfg 3) 0 = false ∧ (run (.rxbCfgWrite 4 (1 + 11 * 32 + 1200 * 65536 + 0xFF00000000)) (land3 0 0 0)).regBit (Reg.netRxbCfg 4) 0 = true ∧
    (run (.rxbCfgWrite 4 (1 + 10 * 32 + 1200 * 65536 + 0xFF00000000)) (land3 0 0 0)).regBit Reg.netStat 0 = true := by decide +kernel
/-- A SEND of some bytes at 0x2000 from a port. -/
def sendE (port flags len : Nat) : List Byte := [1, 1, 0, 0, 0x77, 0, 0, 0] ++ leBytes 1 port ++ leBytes 1 flags ++ leBytes 6 0 ++ leBytes 8 0x2000 ++ leBytes 4 len ++ leBytes 4 0
theorem test_send : let t := run (.send 9) (kq 7 (sendE 2 4 14) net2)
    (t.txq 2).map (fun f => (f.data.length, f.ts)) = [(60, true)] ∧ (run (.frameTransmitDone 2) t).reg (Reg.netCnt 2 11) = 1 := by decide +kernel
theorem test_send_bad : (kposted (run (.send 9) (kq 7 (sendE 8 0 14) net2))).1 = 0x0401 ∧ (kposted (run (.send 9) (kq 7 (sendE 3 0 14) net2))).1 = 0x02D0 ∧ run (.frameTransmitDone 2) net2 = net2 := by decide +kernel
theorem test_net_link : (run (.linkChange 3 true) net2).reg Reg.netCtl = 0x30 ∧ (run (.linkChange 3 true) net2).regBit Reg.netStat 2 = true ∧ run (.linkChange 2 true) net2 = net2 := by decide +kernel
/-- DISC_EN with STEP 1000, KI 1, KP 2. -/
def ptp0 : State := (net2.setReg Reg.merCtl 1).setReg Reg.netPtpServo (1000 + 65536 + 2 * 2 ^ 32)
theorem test_ptp : (run (.ptpSample 1001) ptp0).mer.ns = 1778 ∧ (run (.ptpSample 100) ptp0).reg Reg.merRate = 300 ∧ (run (.ptpSample 100) ptp0).net.sum = 100 ∧ (run (.ptpSample (0 - 1001)) ptp0).reg Reg.merRate = 0xFFDF3B64 ∧ run (.ptpSample 5) net2 = net2 := by decide +kernel
theorem test_mer : (run (.merStepWrite 3) net2).mer.ns = 780 ∧ (run (.merStepWrite 0xFFFFFFFFFFFFFFFF) net2).regBit Reg.merStat 0 = true ∧ (run (.merRateWrite 2147485) net2).regBit Reg.merStat 1 = true ∧ (run (.merRateWrite 2147484) net2).reg Reg.merStat = 0 ∧
    run (.merStepWrite 3) ptp0 = ptp0 ∧ run (.merRateWrite 3) ptp0 = ptp0 := by decide +kernel

/-! ### Stagehand and mode epochs (R417–R428) -/

/-- SERVICE mode with Stagehand booted. -/
def svc : State := let s := State.reset.setReg Reg.devMode 1; { s with ctl := { s.ctl with steps := [1, 6, 2] } }
theorem test_mbox : (run (.mboxSend 5) svc).reg (Reg.stgMboxIn 7) = 5 ∧ (run (.mboxSend 5) svc).regBit Reg.stgStat 3 = true ∧ (run (.mboxPost [1, 2]) svc).reg (Reg.stgMboxOut 1) = 2 ∧ 82 ∈ (run (.mboxPost [1, 2]) svc).orr.raised ∧
    run (.mboxPost [1]) State.reset = State.reset := by decide +kernel
theorem test_report : (run (.attestationRequest 7) svc).stg.report.take 40 = leBytes 32 7 ++ leBytes 8 0 ∧ recFld (run (.attestationRequest 7) svc).stg.report 440 1 = 1 := by decide +kernel
theorem test_telemetry : (run .telemetrySample (svc.setReg (Reg.devTemp 3) 700)).stg.telem.take 9 = [0, 0, 0, 700, 0, 0, 0, 0, 0] ∧ run .telemetrySample State.reset = State.reset := by decide +kernel
theorem test_firmware : (run (.firmwareUpdate 9 [1] true) svc).stg.verB = 9 ∧ (run (.firmwareUpdate 9 [1] true) svc).stg.verA = 0 ∧ (run (.firmwareUpdate 9 [1] false) svc).stg.answer = 0x04E0 := by decide +kernel
theorem test_commit_image : (run .firmwareCommit svc).stg.answer = 0x0203 ∧ (run .firmwareCommit (svc.setReg Reg.devMode 3)).stg.answer = 0x04E0 := by decide +kernel
theorem test_mode_request : (run (.modeRequest 3) svc).reg Reg.devMode = 1 + 3 * 8 + 64 + 65536 ∧ fld ((run (.modeRequest 3) (run (.modeRequest 3) svc)).reg Reg.devModeStat) 0 16 = 0x02E0 ∧ fld ((run (.modeRequest 5) svc).reg Reg.devModeStat) 0 16 = 0x0401 ∧
    fld ((run (.modeRequest 4) (svc.setReg Reg.devMode 2)).reg Reg.devModeStat) 0 16 = 0x0203 ∧ (run (.modeRequest 1) svc).reg Reg.devMode = 1 := by decide +kernel
theorem test_mode_force : fld ((run (.modeRequest 4) svc).reg Reg.devModeStat) 17 1 = 1 ∧ (run (.modeRequest 4) svc).regBit Reg.devMode 7 = true ∧ (run (.stagehandModeRequest 3) { svc with mer := { ns := 5 } }).ctl.epochAt = 5 ∧
    run (.stagehandModeRequest 3) State.reset = State.reset := by decide +kernel
/-- An epoch to QUIESCE in which every unit but two has applied. -/
def epoch (applied : W64) : State := svc.setReg Reg.devMode (1 + 3 * 8 + 64 + 65536 + applied * 2 ^ 32)
theorem test_apply : (run (.unitApply 5) (epoch 0x1FFDE)).reg Reg.devMode = 1 + 3 * 8 + 64 + 65536 + 0x1FFFE * 2 ^ 32 ∧ run (.unitApply 4) (epoch 0x1FFDE) = epoch 0x1FFDE ∧ run (.unitApply 5) svc = svc := by decide +kernel
theorem test_apply_last : (run (.unitApply 5) (epoch 0x1FFDF)).mode = 3 ∧ (run (.unitApply 5) (epoch 0x1FFDF)).regBit Reg.devMode 6 = false ∧ fld ((run (.unitApply 5) (epoch 0x1FFDF)).reg Reg.devModeStat) 0 16 = 0 ∧ 42 ∈ (run (.unitApply 5) (epoch 0x1FFDF)).orr.raised := by decide +kernel
theorem test_apply_drains : ((run (.unitApply 13) { epoch 0 with merge := (merging .good).merge }).mergeAt 0x1000).valid = false := by decide +kernel
theorem test_epoch_timeout : let t := run .epochTimeout { epoch 0x1FFDF with mer := { ns := 1000000 } }
    t.mode = 1 ∧ t.reg Reg.devModeStat = 0x02E1 + 65536 + 0x20 * 2 ^ 32 ∧ fld (t.reg Reg.devMode) 16 16 = 2 ∧ run .epochTimeout { epoch 0 with mer := { ns := 999999 } } = { epoch 0 with mer := { ns := 999999 } } := by decide +kernel

/-! ### Reset and INIT (R430–R437) -/

theorem test_por : let t := run (.porN false) { svc with mem := [(0x1000, 1), (mramBase, 2)], stg := { svc.stg with commit := true } }
    t.csr = [] ∧ t.mem = [(mramBase, 2)] ∧ t.stg.active = true ∧ t.ctl.steps = [] ∧ t.pins.porN = false := by decide +kernel
theorem test_por_holdup : (run (.porN false) (svc.setReg Reg.devMode 5)).mode = 5 ∧ (run (.porN true) { State.reset with pins := { State.reset.pins with porN := false } }).pins.porN = true ∧
    (run (.porN true) { State.reset with pins := { State.reset.pins with porN := false, pfN := false } }).ctl.failed = true ∧ run (.porN true) svc = svc := by decide +kernel
theorem test_dev_rst : (run (.devRstWrite 0xA501) { svc with mer := { ns := 5 } }).ctl.porAt = some 1005 ∧ run (.devRstWrite 0xA401) svc = svc ∧ run (.devRstWrite 0xA500) svc = svc := by decide +kernel
/-- The INIT steps given have run. -/
def inited (l : List Nat) : State := { State.reset with ctl := { State.reset.ctl with steps := l } }
theorem test_pll : (run .pllLock State.reset).ctl.steps = [1] ∧ run .pllLock (inited [1]) = inited [1] := by decide +kernel
theorem test_boot : (run (.stagehandBoot true true) (inited [1])).ctl.steps = [1, 2] ∧ (run (.stagehandBoot true true) (inited [1])).reg Reg.stgStat = 0 ∧ (run (.stagehandBoot false true) (inited [1])).regBit Reg.stgStat 0 = true ∧
    run (.stagehandBoot false false) (inited [1]) = inited [1] ∧ run (.stagehandBoot true true) State.reset = State.reset := by decide +kernel
theorem test_record_read : run .recordRead State.reset = State.reset := by decide +kernel
theorem test_sram : (run (.sramInit true) { inited [1, 6] with l2 := [(0, { valid := true })] }).l2 = [] ∧ (run (.sramInit false) (inited [1, 6])).reg Reg.devInitStat = 0x102 ∧ run (.sramInit true) (inited [1]) = inited [1] := by decide +kernel
/-- One DDR5 channel of 64 GiB, four trained HBM stacks, no flash. -/
def ctls1 : List CtlRep := { present := true, rdimm := true, x4 := true, check := true, stacked := false, ranks := 1, density := 2, size := 64, rate := 64, lanes := List.replicate 10 { rdL := 0, rdR := 60, wrL := 0, wrR := 60 } } :: List.replicate 11 ctlNone
def rep1 : TrainRep := { ctls := ctls1, flash := [] }
theorem test_training : (run (.memoryTraining rep1) (inited [1, 6])).reg Reg.mcDdrCap = 64 + 65536 ∧ fld ((run (.memoryTraining rep1) (inited [1, 6])).reg (Reg.mcCfg 0)) 2 1 = 1 ∧ fld ((run (.memoryTraining rep1) (inited [1, 6])).reg (Reg.mcCfg 1)) 2 1 = 0 := by decide +kernel
theorem test_training_fails : fld ((run (.memoryTraining rep1) (inited [1, 6])).reg Reg.devInitStat) 8 8 = 2 ∧ run (.memoryTraining rep1) (inited [1]) = inited [1] := by decide +kernel
theorem test_fill_memory : (run .powerOnFill { inited [1, 6, 3, 4] with mem := [(0x1000, 1), (mramBase, 2)], ecc := [(0x1000, .ue)] }).mem = [(mramBase, 2)] ∧ (run .powerOnFill (inited [1, 6, 3, 4])).regBit Reg.spyStat 0 = true ∧ run .powerOnFill (inited [1, 6, 3]) = inited [1, 6, 3] := by decide +kernel
theorem test_image : let t := run (.imageLoad [] [1, 2, 3] true true) (inited [1, 6, 2, 3, 4, 5])
    t.peekN 0 4 = [1, 2, 3, 0] ∧ (t.ctx 2048).st = .ready ∧ (t.ctx 2111).priv = .m ∧ t.ctl.steps = [1, 6, 2, 3, 4, 5, 7] := by decide +kernel
theorem test_image_refused : (run (.imageLoad [] [1] true false) (inited [1, 6, 2, 3, 4, 5])).regBit Reg.stgStat 1 = true ∧ (run (.imageLoad [] [1] true false) (inited [1, 6, 2, 3, 4, 5])).ctxs = [] ∧ run (.imageLoad [] [] true true) (inited [1]) = inited [1] := by decide +kernel
theorem test_recovery_lost : let s := { (inited [1, 6, 3, 4, 5]).setReg Reg.devInitStat 4 with ctl := { (inited [1, 6, 3, 4, 5]).ctl with samples := [9000] } }
    (run .almanacRecovery s).regBit Reg.devInitStat 4 = true ∧ 8 ∈ (run .almanacRecovery s).ctl.steps ∧ run .almanacRecovery (inited [1]) = inited [1] := by decide +kernel
theorem test_init_end : (run .initEnd (inited [1, 7, 8])).mode = 1 ∧ (run .initEnd (inited [1, 7, 8])).regBit Reg.devInitStat 0 = true ∧ (run .initEnd ((inited [1, 7, 8]).setReg Reg.devInitStat 16)).mode = 3 ∧
    (run .initEnd ((inited [1, 7, 8]).setReg Reg.almStat 16)).mode = 4 ∧ run .initEnd ((inited [1, 7, 8]).setReg Reg.devInitStat 2) = (inited [1, 7, 8]).setReg Reg.devInitStat 2 := by decide +kernel
theorem test_personality : run (.personalityRecordReceive []) svc = svc := by decide +kernel

/-! ### HOLDUP, the hold-up controller, power, the TAP, register writes (R433–R459, R10–R22) -/

/-- The board of R440's worked example: VMIN 8 V, η 0.900, P_HOLD 125 W, MARGIN 20, R 20,000 MB/s, VFULL 12 V, divider 1:1; a bank of c µF. -/
def board (c : Nat) : State :=
  let s := ((((inited [1, 6, 5]).setReg Reg.huCfg0 (BitVec.ofNat 64 (8000 + 12000 * 2 ^ 20 + 900 * 2 ^ 40))).setReg Reg.huCfg1 (125 + 20 * 2 ^ 24)).setReg Reg.huFlushRate 20000).setReg Reg.huCfg2 (24 + 3 * 2 ^ 16 + 1000 * 2 ^ 32)
  ((s.setReg Reg.huC (BitVec.ofNat 64 c)).setReg Reg.huStat 4).setReg Reg.almStat 1 |>.setReg Reg.devMode 1
/-- The four rows of R440's table. -/
theorem test_limits : (board 400000).limitFor 12000 = 512 ∧ (board 400000).limitFor 9000 = 172 ∧ (board 100000).limitFor 12000 = 238 ∧ (board 100000).limitFor 8500 = 0 ∧
    (board 400000).limitFor 11640 = 512 ∧ ((board 400000).setReg Reg.huCtl 2).limitFor 12000 = 0 := by decide +kernel
theorem test_sample : (run (.voltageSample 9000) (board 400000)).reg Reg.huE = 3060 ∧ (run (.voltageSample 9000) (board 400000)).regBit Reg.huStat 0 = true ∧ (run (.voltageSample 8000) (board 400000)).regBit Reg.huStat 3 = true ∧
    run (.voltageSample 9000) State.reset = State.reset := by decide +kernel
theorem test_limit_apply : ((board 400000).limitApply 172).reg Reg.almWbLimit = 0 ∧ (((board 400000).limitApply 172).ctl.riseTo = 172) ∧
    (({ (board 400000).limitApply 172 with mer := { ns := 1000000000 } }).limitApply 200).reg Reg.almWbLimit = 172 * 2 ^ 20 ∧
    (((board 400000).setReg Reg.almWbLimit 0x20000000).limitApply 172).reg Reg.almWbLimit = 172 * 2 ^ 20 := by decide +kernel
theorem test_limit_recompute : ((run .limitRecompute { board 400000 with ctl := { (board 400000).ctl with samples := [9100, 9000] } }).ctl.riseTo = 172) ∧ run .limitRecompute State.reset = State.reset := by decide +kernel
theorem test_meas : (run .meas (board 400000)).ctl.measReq = true := by decide +kernel
/-- A measurement at 12 V. -/
def measuring : State := run .measStart { (board 400000).setReg Reg.huV 12000 with ctl := { (board 400000).ctl with measReq := true } }
theorem test_meas_start : measuring.ctl.measuring = true ∧ measuring.ctl.measV1 = 12000 ∧ measuring.pins.huTest = true ∧ measuring.regBit Reg.huStat 1 = true ∧ run .measStart (board 400000) = board 400000 := by decide +kernel
theorem test_meas_end : run (.measEnd 1) (board 1) = board 1 := by decide +kernel
/-- The measurement of the example of R440: 121.8 ms from 12.000 V to 11.640 V over 10 Ω is 0.400 F, to the digits given. -/
theorem test_capacitance : capacitance 121837 10000 12000 11640 = 400000 ∧ measuring.measOver 121837 = false ∧ (measuring.setReg Reg.huV 11640).measOver 121837 = true := by decide +kernel
theorem test_pf_init : (run (.pfN 200) (inited [1])).ctl.failed = true ∧ run (.pfN 49) (board 1) = board 1 ∧ (run (.pfN 200) { inited [1] with pins := { porN := false } }).pins.pfN = false := by decide +kernel
/-- SERVICE without READY: HOLDUP is dry. -/
def dry : State := { svc with ctxs := [(0, { st := .ready })], mer := { ns := 1000 } }
theorem test_pf_dry : (run (.pfN 200) dry).mode = 5 ∧ (run (.pfN 200) dry).ctxs = [] ∧ (run (.pfN 200) dry).ctl.holdDry = true ∧ (run (.pfN 200) dry).ctl.holdAt = some 1000 ∧ run (.pfN 200) (run (.pfN 200) dry) = run (.pfN 200) dry := by decide +kernel
theorem test_holdup_done : (run .holdupDone (run (.pfN 200) dry)).pins.holdupDone = true ∧ (run .holdupDone (run (.pfN 200) dry)).regBit Reg.huStat 5 = true ∧ run .holdupDone dry = dry ∧
    (run .holdupDone { run (.pfN 200) dry with pins := { porN := false } }).mode = 0 := by decide +kernel
theorem test_thermal : (run (.thermalTrip 0 840) dry).mode = 5 ∧ (run (.thermalTrip 0 840) dry).pins.thermN = false ∧ run (.thermalTrip 0 839) dry = dry ∧ (run (.thermalTrip 4 760) dry).mode = 5 ∧ run (.thermalTrip 8 839) dry = dry := by decide +kernel
/-- Island 3 locked. -/
def locked : State := { (dry.setReg Reg.devClkStat 8) with ctxs := [] }
theorem test_clock : (run (.clockLockLost 3) locked).reg Reg.devClkStat = 8 * 2 ^ 32 ∧ 44 ∈ (run (.clockLockLost 3) locked).orr.raised ∧
    run (.clockLockLost 4) locked = locked ∧ run (.clockRelock 3) locked = locked := by decide +kernel
theorem test_clock_timeout : run (.clockLostTimeout 3) (run (.clockLockLost 3) locked) = run (.clockLockLost 3) locked ∧ (run (.clockLostTimeout 3) { run (.clockLockLost 3) locked with mer := { ns := 1001000 } }).mode = 5 := by decide +kernel
theorem test_rail : (run (.railUndervoltage 2 1001 899) dry).mode = 0 ∧ run (.railUndervoltage 2 1000 899) dry = dry ∧ run (.railUndervoltage 2 1001 900) dry = dry := by decide +kernel
/-- SEALED mode, the limiter enabled at 300 W and 95 °C, HOLD at 4. -/
def sealed7 : State := ((svc.setReg Reg.devMode 2).setReg Reg.devPwrCtl (BitVec.ofNat 64 (1 + 600 + 95 * 2 ^ 11))).setReg Reg.devPwrStat (BitVec.ofNat 64 (4 * 2 ^ 11 + 17 * 2 ^ 16))
theorem test_sealed_mode : sealed7.mode = 2 ∧ sealed7.limSealed = true ∧ sealed7.holdIn = 4 := by decide +kernel
theorem test_limiter : ∀ g : Bool, (max 200 (min (if g then 550 else 480) (fld (sealed7.reg Reg.devPwrCtl) 1 10)) = 300) := by decide +kernel
theorem test_step_hold : sealed7.stepDown.holdIn = 5 ∧ sealed7.stepUp.holdIn = 3 ∧ (sealed7.setReg Reg.devPwrStat (BitVec.ofNat 64 (15 * 2 ^ 11))).stepDown.holdIn = 15 := by decide +kernel
theorem test_sense : (sealed7.senseTemps [800, 1, 2, 3, 4, 5, 6, 7, 8]).reg (Reg.devTemp 0) = 800 ∧ (sealed7.senseTemps [800, 1, 2, 3, 4, 5, 6, 7, 8]).tooHot = true ∧ fld ((sealed7.senseTemps [800, 1, 2, 3, 4, 5, 6, 7, 8]).reg Reg.devPwrStat) 24 8 = 100 := by decide +kernel
theorem test_tap : (run .tapBypass dry).ctl.tapIr = 0 ∧ (run .tapIdcode dry).ctl.tapIr = 1 ∧ run .tapExtest dry = dry ∧ (run .tapExtest { dry with pins := { porN := false } }).ctl.tapIr = 2 ∧
    (run .tapSample { dry with pins := { porN := false } }).ctl.tapIr = 3 ∧ run .tapPreload dry = dry := by decide +kernel
/-- A control-core thread at M writes HU_CTL (RW) and the upper half of DEV_CLK_STAT's W1C LOST bits; one at U is refused. -/
def kernelM : State := { locked with ctxs := [(2048, { st := .ready, priv := .m })] }
theorem test_register_write : (run (.registerWrite (.core 0) (BitVec.ofNat 48 Reg.huCtl) .w64 3) kernelM).reg Reg.huCtl = 2 ∧ run (.registerWrite .other (BitVec.ofNat 48 Reg.huCtl) .w64 3) kernelM = kernelM ∧
    run (.registerWrite (.core 0) (BitVec.ofNat 48 Reg.huCtl) .other 3) kernelM = kernelM ∧ run (.registerWrite (.core 0) 0 .w64 3) kernelM = kernelM ∧
    (run (.registerWrite (.core 0) (BitVec.ofNat 48 (Reg.devClkStat + 4)) .w32 8) (run (.clockLockLost 3) kernelM)).reg Reg.devClkStat = 0 := by decide +kernel
theorem test_register_priv : run (.registerWrite (.core 0) (BitVec.ofNat 48 Reg.huCtl) .w64 2) { kernelM with ctxs := [(2048, { st := .ready, priv := .u })] } = { kernelM with ctxs := [(2048, { st := .ready, priv := .u })] } ∧
    (run (.registerWrite .stagehand (BitVec.ofNat 48 Reg.huCtl) .w32 2) kernelM).reg Reg.huCtl = 2 := by decide +kernel

/-! ### SCAN (R333) -/

/-- A SCAN entry of namespace 5: one group, rings of 2^16 bytes from 2^21, a parameter block and an image of two words. -/
def scEnt (nsid ngroup dlen : Nat) : List Byte :=
  [0x89, 3, 0, 0, 0x77, 0, 0, 0] ++ leBytes 4 nsid ++ leBytes 12 0 ++ leBytes 8 0x8000 ++ leBytes 8 0 ++ leBytes 4 ngroup ++ leBytes 4 16 ++ leBytes 8 dlen ++ leBytes 8 0x200000
/-- Its data at 0x18000, and a second window for the rings. -/
def scQ (e : List Byte) (m : List Byte) : State :=
  let s := stQ e
  { s with
    booths := [(0, Booth.kernel), (1, { opener with windows := opener.windows ++ [(1, { valid := true, base := 0x200000, size := 0x400000, target := 0x200000, r := true, w := true })] })]
    mem := ((List.range m.length).map fun i => (0x18000 + i, m.getD i 0)).filter (fun x => x.2 != 0) ++ s.mem }
def scParam (mbase : Nat) : List Byte := leBytes 8 mbase ++ List.replicate 56 0
theorem test_scan_refuse : (posted (run (.scan 9) (stQ (scEnt 6 1 424)))).1 = 0x0471 ∧ (posted (run (.scan 9) (stQ (scEnt 5 0 424)))).1 = 0x0401 ∧ (posted (run (.scan 9) (stQ (scEnt 5 1 424)))).1 = 0x0401 := by decide +kernel
theorem test_scan_length : (posted (run (.scan 9) (scQ (scEnt 5 1 64) (scParam 0)))).1 = 0x0402 := by decide +kernel
theorem test_scan_mbase : (posted (run (.scan 9) (scQ (scEnt 5 1 128) (scParam 8 ++ (image1 5).take 64)))).1 = 0x0401 := by decide +kernel
theorem test_scan_image : let t := (stQ []).scanStart (ent 6 (scEnt 5 1 424)) (scParam 0 ++ (image1 5).set 0 0)
    posted t = (0x0443, 0xFFFF) ∧ t.reg (Reg.svScanErr 3 0) = 0xFFFF0443 ∧ t.scans = [] := by decide +kernel
/-- The only group, whose units the map reads as zeros, goes to sieve 0. -/
theorem wit_scan : let t := run (.scan 9) (scQ (scEnt 5 1 424) (scParam 0 ++ image1 5))
    (t.scan 0).live = true ∧ (t.part 0).todo = [0] ∧ (t.part 8).todo = [] ∧ (t.part 8).st = .running ∧ (t.part 8).ring = 0x210000 ∧ t.peek 0x400052 = 1 := by decide +kernel

/-! ### Hypotheses about clocks, room, lines in flight and writes that fail -/

theorem wit_clocks : (core (regs)).stopped 8 = false ∧ (eng (regs)).stopped 0 = false ∧ (slotted true).stopped 8 = false ∧ (slotted false).stopped 8 = false ∧
    ((ucEng [(1, 0x2000)]).start 0 false).stopped (((ucEng [(1, 0x2000)]).start 0 false).memIsland 0x12000) = false ∧
    ((pfCore [(1, 0x2000)]).start 2048 false).stopped (((pfCore [(1, 0x2000)]).start 2048 false).memIsland 0x2040) = false := by decide +kernel
theorem wit_room : let t := (memCore [(1, 0x2000)]).start 2048 false
    t.l2Way 8 0x80 = some 0 ∧ (t.l2At (l2Key 8 (0x80 % l2Sets 8) 0)).ecc = .good ∧ (t.exe 128).sb.length < 16 ∧
    16 ≤ (((withSb (memCore [(1, 0x2000)]) 128 (List.replicate 16 st8)).start 2048 false).exe 128).sb.length ∧
    ((run (.sb H 3 1 0) (withSb (memCore [(1, 0x2010)]) 128 (List.replicate 16 st8))).ctx 2048).wait = .room := by decide +kernel
theorem wit_csr_access : ((core (regs)).sbDrain 128).csrWaits (Reg.devMode / 8 * 8) .full = false ∧
    (bellCore.start 2048 false).bellLoad ((bellCore.start 2048 false).bellBid 2048) 5 .lo = .ok 1 := by decide +kernel
theorem wit_line_op : (dirtyCore [(1, 0x2000)]).inFlight 8 0x80 = false ∧ (∀ w, w < 16 → ((dirtyCore [(1, 0x2000)]).l2At (l2Key 8 (0x80 % l2Sets 8) w)).valid = true → w = 0) ∧
    ((mopCore false).l2At (l2Key 8 0x80 0)).ecc = .good ∧ (mopCore false).missLines 8 = [] ∧ (mopCore false).inFlight 8 0x80 = false := by decide +kernel
/-- Context 0 of an engine waits for the line of 0x12000, as its L2_MOP does. -/
def fillWaits : State := { raEng [] with ctxs := [(0, { (raEng []).ctx 0 with miss := [0x480] })], l2todo := [(0, (0, [0x480]))] }
theorem wit_mop_waits : fillWaits.inFlight 0 0x480 = true ∧ run (.l2MopComplete 0) fillWaits = fillWaits := by decide +kernel
/-- Whether a result is an effect that goes on. -/
def goesOn : Eff → Bool | .ok _ => true | _ => false
noncomputable def arrived : State := run (.missDataArrival E) (run (.ld E 3 1 0) (raEng [(1, 0x2000)]))
theorem wit_arrival : (let s := run (.ld E 3 1 0) (raEng [(1, 0x2000)]); (s.ctx 0).epi.any fun e => goesOn (((s.squash 0).wake 0).runLoad 0 e.load e.word true)) = true ∧
    (match (arrived.ctx 0).wait with | .reissue (.m 3 3 1 0) _ => true | _ => false) = true := by decide +kernel
theorem wit_record_fails : ((scan1 5 part1).ringPut 0 0 0 [1]).2 = none ∧ ((scan1 5 part1).ringPut 31 0 65535 [1, 1]).2 = none ∧
    (({ scan1 5 part1 with booths := booth1 } : State).ringPut 1 0 0 [1]).2.isSome = true := by decide +kernel
theorem wit_steering_off : let s : State := { net2.setReg Reg.spyCtl 0 with spy := { net2.spy with port := [{ who := .net 2 0 0, table := 1023, bid := 0, wide := true, key := 0, mask := 0, all := false }] } }
    (run .searchAdmission s).spy.port = [] := by decide +kernel

end Sys2Proof.Tests
end

section
/-! SUPPORT. Bit fields: what `fld` reads after `setFld` and `setBit`, and single bits as fields of width 1. -/

namespace Sys2Proof

variable {n : Nat}

theorem fld_lt (v : BitVec n) (lo w : Nat) : fld v lo w < 2 ^ w := Nat.mod_lt _ (Nat.two_pow_pos w)

theorem testBit_fld (v : BitVec n) (lo w i : Nat) : (fld v lo w).testBit i = (decide (i < w) && v.getLsbD (lo + i)) := by
  simp [fld, Nat.testBit_mod_two_pow, Nat.testBit_div_two_pow, BitVec.getLsbD, Nat.add_comm]

theorem getLsbD_setFld (v : BitVec n) (lo w x i : Nat) :
    (setFld v lo w x).getLsbD i = (decide (i < n) && if lo ≤ i ∧ i < lo + w then x.testBit (i - lo) else v.getLsbD i) := by
  have hw (hl : lo ≤ i) : i - lo < w ↔ i < lo + w := by omega
  simp only [setFld, BitVec.getLsbD_or, BitVec.getLsbD_and, BitVec.getLsbD_not, BitVec.getLsbD_ofNat, Nat.testBit_mul_two_pow,
    Nat.testBit_mod_two_pow, Nat.testBit_two_pow_sub_one]
  by_cases hi : i < n
  · by_cases hl : lo ≤ i
    · by_cases h : i < lo + w <;> simp [hi, hl, hw hl, h]
    · simp [hi, hl]
  · simp [hi]

/-- A field reads as it was set. -/
theorem fld_setFld_same (v : BitVec n) {lo w : Nat} (x : Nat) (h : lo + w ≤ n) : fld (setFld v lo w x) lo w = x % 2 ^ w := by
  refine Nat.eq_of_testBit_eq fun i => ?_
  rw [testBit_fld, getLsbD_setFld, Nat.testBit_mod_two_pow]
  by_cases hi : i < w
  · have : lo + i < n ∧ lo + i < lo + w := by omega
    simp [hi, this]
  · simp [hi]

/-- A field reads as before where another one, apart from it, was set. -/
theorem fld_setFld_ne (v : BitVec n) {lo w lo' w' : Nat} (x : Nat) (h : lo' + w' ≤ lo ∨ lo + w ≤ lo') :
    fld (setFld v lo w x) lo' w' = fld v lo' w' := by
  refine Nat.eq_of_testBit_eq fun i => ?_
  rw [testBit_fld, testBit_fld, getLsbD_setFld]
  by_cases hi : i < w'
  · have hout : ¬(lo ≤ lo' + i ∧ lo' + i < lo + w) := by omega
    by_cases hn : lo' + i < n
    · simp [hn, hout]
    · simp [hn, BitVec.getLsbD_of_ge _ _ (Nat.le_of_not_lt hn)]
  · simp [hi]

theorem fld_bit (v : BitVec n) (i : Nat) : fld v i 1 = (bitAt v i).toNat := by
  refine Nat.eq_of_testBit_eq fun k => ?_
  rw [testBit_fld, Nat.testBit_bool_toNat, bitAt]
  by_cases hk : k = 0
  · simp [hk]
  · simp [hk]

theorem bitAt_eq_true_iff (v : BitVec n) (i : Nat) : bitAt v i = true ↔ fld v i 1 = 1 := by
  rw [fld_bit]; cases bitAt v i <;> simp

theorem bitAt_eq_false_iff (v : BitVec n) (i : Nat) : bitAt v i = false ↔ fld v i 1 = 0 := by
  rw [fld_bit]; cases bitAt v i <;> simp

theorem fld_setBit_same (v : BitVec n) {i : Nat} (b : Bool) (h : i < n) : fld (setBit v i b) i 1 = b.toNat := by
  rw [setBit, fld_setFld_same v _ h]; cases b <;> rfl

theorem fld_setBit_ne (v : BitVec n) {i lo w : Nat} (b : Bool) (h : lo + w ≤ i ∨ i + 1 ≤ lo) : fld (setBit v i b) lo w = fld v lo w :=
  fld_setFld_ne v _ h

/-- A field splits into its lower bits and the bits above them. -/
theorem fld_add (v : BitVec n) (lo w w' : Nat) : fld v lo (w + w') = fld v lo w + 2 ^ w * fld v (lo + w) w' := by
  simp only [fld, Nat.pow_add, ← Nat.div_div_eq_div_mul, Nat.mod_mul]

theorem fld_two (v : BitVec n) (lo : Nat) : fld v lo 2 = fld v lo 1 + 2 * fld v (lo + 1) 1 := fld_add v lo 1 1

/-- A bit that is clear sets by adding its weight. -/
theorem setBit_true_eq_add (v : BitVec n) {i : Nat} (hi : i < n) (h : bitAt v i = false) : setBit v i true = v + BitVec.ofNat n (2 ^ i) := by
  have hbit (k : Nat) : (BitVec.ofNat n (2 ^ i)).getLsbD k = (decide (k < n) && decide (i = k)) := by
    rw [BitVec.getLsbD_ofNat, Nat.testBit_two_pow]
  have hd : v &&& BitVec.ofNat n (2 ^ i) = 0#n := by
    refine BitVec.eq_of_getLsbD_eq fun k _ => ?_
    rw [BitVec.getLsbD_and, hbit, BitVec.getLsbD_zero]
    by_cases hk : i = k
    · subst hk; rw [← bitAt, h]; rfl
    · simp [hk]
  rw [BitVec.add_eq_or_of_and_eq_zero _ _ hd]
  refine BitVec.eq_of_getLsbD_eq fun k hk => ?_
  rw [setBit, getLsbD_setFld, BitVec.getLsbD_or, hbit]
  by_cases hki : i = k
  · subst hki; simp [hi]
  · have : ¬(i ≤ k ∧ k < i + 1) := by omega
    rw [if_neg this]; simp [hk, hki]

end Sys2Proof
end

section
/-! SUPPORT. Bytes: numbers spelled little-endian, records with bytes replaced, the bytes of a line, and bytes stored in a table. -/

namespace Sys2Proof

theorem length_leBytes (n v : Nat) : (leBytes n v).length = n := by
  induction n generalizing v with
  | zero => rfl
  | succ n ih => simp [leBytes, ih]

/-- The bytes of a number spell it, as far as there are bytes. -/
theorem leVal_leBytes (n v : Nat) : leVal (leBytes n v) = v % 256 ^ n := by
  induction n generalizing v with
  | zero => simp [leBytes, leVal, Nat.mod_one]
  | succ n ih =>
    rw [leBytes, leVal, ih, BitVec.toNat_ofNat, show 256 ^ (n + 1) = 256 * 256 ^ n from Nat.pow_succ']
    exact (Nat.mod_mul (a := 256)).symm

theorem leVal_replicate_zero (n : Nat) : leVal (List.replicate n 0) = 0 := by
  induction n with
  | zero => rfl
  | succ n ih => rw [List.replicate_succ, leVal, ih]; rfl

/-- A field of a record depends on its own bytes alone. -/
theorem recFld_congr {l l' : List Byte} {k k' n : Nat} (h : ∀ i, i < n → l[k + i]? = l'[k' + i]?) : recFld l k n = recFld l' k' n := by
  have he : (l.drop k).take n = (l'.drop k').take n := by
    refine List.ext_getElem? fun i => ?_
    by_cases hi : i < n
    · simpa [List.getElem?_drop, hi] using h i hi
    · simp [hi]
  rw [recFld, recFld, he]

theorem recFld_all (l : List Byte) : recFld l 0 l.length = leVal l := by simp [recFld]

theorem recFld_leBytes (n v : Nat) : recFld (leBytes n v) 0 n = v % 256 ^ n := by
  have h := recFld_all (leBytes n v)
  rwa [length_leBytes, leVal_leBytes] at h

/-- A field of two records in a row lies in the first, or in the second. -/
theorem recFld_append_left (l r : List Byte) {k n : Nat} (h : k + n ≤ l.length) : recFld (l ++ r) k n = recFld l k n :=
  recFld_congr fun _ _ => List.getElem?_append_left (by omega)
theorem recFld_append_right (l r : List Byte) {k n : Nat} (h : l.length ≤ k) : recFld (l ++ r) k n = recFld r (k - l.length) n :=
  recFld_congr fun i _ => by rw [List.getElem?_append_right (by omega), Nat.sub_add_comm h]

theorem recFld_take (l : List Byte) {k n m : Nat} (h : k + n ≤ m) : recFld (l.take m) k n = recFld l k n :=
  recFld_congr fun _ _ => List.getElem?_take_of_lt (by omega)

/-! ### Lines -/

theorem lineByte_lineSet (d : Line) {i j : Nat} (b : Byte) (hj : j < 64) :
    lineByte (lineSet d i b) j = if i = j then b else lineByte d j := by
  refine BitVec.eq_of_getLsbD_eq fun k hk => ?_
  have h255 (m : Nat) : (255 : Line).getLsbD m = decide (m < 8) := by
    have : (255 : Line) = BitVec.ofNat 512 (2 ^ 8 - 1) := rfl
    rw [this, BitVec.getLsbD_ofNat, Nat.testBit_two_pow_sub_one]
    by_cases hm : m < 8
    · have : m < 512 := by omega
      simp [hm, this]
    · simp [hm]
  simp only [lineByte, lineSet, BitVec.getLsbD_extractLsb', BitVec.getLsbD_or, BitVec.getLsbD_and, BitVec.getLsbD_not,
    BitVec.getLsbD_shiftLeft, BitVec.getLsbD_setWidth, h255]
  have hlt : 8 * j + k < 512 := by omega
  by_cases hij : i = j
  · subst hij
    have h1 : ¬(8 * i + k < 8 * i) := by omega
    have h2 : 8 * i + k - 8 * i = k := by omega
    have h3 : k < 512 := by omega
    simp [hk, hlt, h1, h2, h3]
  · by_cases hlo : 8 * j + k < 8 * i
    · simp [hk, hlt, hij, hlo]
    · have h2 : ¬(8 * j + k - 8 * i < 8) := by omega
      have h3 : b.getLsbD (8 * j + k - 8 * i) = false := BitVec.getLsbD_of_ge _ _ (by omega)
      simp [hk, hlt, hij, hlo, h2, h3]

theorem lineByte_linePut (d : Line) (i : Nat) (l : List Byte) {j : Nat} (hi : i + l.length ≤ 64) (hj : j < 64) :
    lineByte (linePut d i l) j = if i ≤ j ∧ j < i + l.length then l.getD (j - i) 0 else lineByte d j := by
  induction l generalizing d i with
  | nil => simp only [linePut, List.length_nil, Nat.add_zero]; rw [if_neg (by omega)]
  | cons b t ih =>
    rw [List.length_cons] at hi
    rw [linePut, ih _ _ (by omega), lineByte_lineSet d b hj, List.length_cons]
    by_cases hij : i = j
    · subst hij; rw [if_neg (by omega), if_pos rfl, if_pos (by omega)]; simp
    · by_cases hin : i + 1 ≤ j ∧ j < i + 1 + t.length
      · rw [if_pos hin, if_pos (by omega), show j - i = (j - (i + 1)) + 1 by omega, List.getD_cons_succ]
      · rw [if_neg hin, if_neg hij, if_neg (by omega)]

end Sys2Proof

namespace Sys2Proof.Machine

/-! ### Records -/

theorem getElem?_putAt (l v : List Byte) {o : Nat} (h : o + v.length ≤ l.length) (i : Nat) :
    (putAt l o v)[i]? = if i < o then l[i]? else if i < o + v.length then v[i - o]? else l[i]? := by
  have hlen : (l.take o).length = o := List.length_take_of_le (by omega)
  have hlen2 : (l.take o ++ v).length = o + v.length := by rw [List.length_append, hlen]
  rw [putAt]
  by_cases h1 : i < o
  · rw [if_pos h1, List.getElem?_append_left (by omega), List.getElem?_append_left (by omega), List.getElem?_take_of_lt h1]
  · rw [if_neg h1]
    by_cases h2 : i < o + v.length
    · rw [if_pos h2, List.getElem?_append_left (by omega), List.getElem?_append_right (by omega), hlen]
    · rw [if_neg h2, List.getElem?_append_right (by omega), hlen2, List.getElem?_drop]
      congr 1; omega

theorem length_putAt (l v : List Byte) {o : Nat} (h : o + v.length ≤ l.length) : (putAt l o v).length = l.length := by
  simp only [putAt, List.length_append, List.length_take, List.length_drop]; omega

/-- A field of the bytes that were put in. -/
theorem recFld_putAt_in (l v : List Byte) {o k n : Nat} (h : o + v.length ≤ l.length) (hk : o ≤ k) (hn : k + n ≤ o + v.length) :
    recFld (putAt l o v) k n = recFld v (k - o) n :=
  recFld_congr fun i hi => by
    rw [getElem?_putAt l v h, if_neg (by omega), if_pos (by omega), Nat.sub_add_comm hk]

/-- A field apart from the bytes that were put in. -/
theorem recFld_putAt_ne (l v : List Byte) {o k n : Nat} (h : o + v.length ≤ l.length) (hk : k + n ≤ o ∨ o + v.length ≤ k) :
    recFld (putAt l o v) k n = recFld l k n :=
  recFld_congr fun i hi => by
    rw [getElem?_putAt l v h]
    rcases hk with hk | hk
    · rw [if_pos (by omega)]
    · rw [if_neg (by omega), if_neg (by omega)]

/-! ### Bytes in a table -/

theorem get_putMem (m : Tab Byte) (a : Nat) (l : List Byte) (x : Nat) :
    Tab.get 0 (putMem m a l) x = if a ≤ x ∧ x < a + l.length then l.getD (x - a) 0 else Tab.get 0 m x := by
  induction l generalizing m a with
  | nil => simp only [putMem, List.length_nil, Nat.add_zero]; rw [if_neg (by omega)]
  | cons b t ih =>
    rw [putMem, ih, List.length_cons]
    by_cases hax : a = x
    · subst hax; rw [if_neg (by omega), Tab.get_set_same, if_pos (by omega)]; simp
    · rw [Tab.get_set_ne _ _ _ _ (Ne.symm hax)]
      by_cases hin : a + 1 ≤ x ∧ x < a + 1 + t.length
      · rw [if_pos hin, if_pos (by omega), show x - a = (x - (a + 1)) + 1 by omega, List.getD_cons_succ]
      · rw [if_neg hin, if_neg (by omega)]

theorem get_mergeInto (m : Tab Byte) (cw : Nat) (e : MergeEntry) (n x : Nat) :
    Tab.get 0 (mergeInto m cw e n) x =
      if (cw ≤ x ∧ x < cw + n) ∧ e.mask.getLsbD (x - cw) = true then lineByte e.data (x - cw) else Tab.get 0 m x := by
  unfold mergeInto
  induction n with
  | zero => rw [List.range_zero, List.foldl_nil, if_neg (by omega)]
  | succ n ih =>
    rw [List.range_succ, List.foldl_append, List.foldl_cons, List.foldl_nil]
    by_cases hx : x = cw + n
    · subst hx
      have hn : cw + n - cw = n := by omega
      rw [hn] at ih ⊢
      rw [if_neg (by omega)] at ih
      by_cases hm : e.mask.getLsbD n = true
      · rw [if_pos hm, Tab.get_set_same, if_pos ⟨by omega, hm⟩]
      · rw [if_neg hm, ih, if_neg (fun h => hm h.2)]
    · have hr : (cw ≤ x ∧ x < cw + (n + 1)) ↔ (cw ≤ x ∧ x < cw + n) := by omega
      simp only [hr]
      rw [← ih]
      split
      · exact Tab.get_set_ne _ _ _ _ hx
      · rfl

theorem getLsbD_byteMask (i n k : Nat) : (byteMask i n).getLsbD k = (decide (k < 64) && (decide (i ≤ k) && decide (k < i + n))) := by
  rw [byteMask, BitVec.getLsbD_ofNat, Nat.testBit_mul_two_pow, Nat.testBit_two_pow_sub_one]
  by_cases h : i ≤ k
  · have : k - i < n ↔ k < i + n := by omega
    simp [h, this]
  · simp [h]

end Sys2Proof.Machine
end

section
/-! SUPPORT. What the memory controllers do (R385–R393): every drain, read and write changes memory, merge buffers, error states, the
controllers' own registers and the raised sources, and nothing else; drains and reads change no byte that a read returns. -/

namespace Sys2Proof.Machine

/-- The registers of the memory controllers, MRAM's and the scrubber's among them. -/
abbrev IsMcReg (a : Nat) : Prop := 0x80000a00000 ≤ a ∧ a < 0x80000b00000

/-- `t` is `s` after work of the memory controllers. -/
structure McStep (s t : State) : Prop where
  eq : t = { s with csr := t.csr, mem := t.mem, merge := t.merge, ecc := t.ecc, orr := { s.orr with raised := t.orr.raised } }
  reg : ∀ a, ¬IsMcReg a → t.reg a = s.reg a

/-- `t` is `s` after an error record: no byte and no error state has changed. -/
structure McRecord (s t : State) : Prop extends McStep s t where
  mem : t.mem = s.mem
  merge : t.merge = s.merge
  ecc : t.ecc = s.ecc

namespace McStep
variable {s t u : State}

theorem refl (s : State) : McStep s s := ⟨rfl, fun _ _ => rfl⟩
theorem trans (h : McStep s t) (k : McStep t u) : McStep s u :=
  ⟨by have e := k.eq; rw [h.eq] at e; exact e, fun a ha => (k.reg a ha).trans (h.reg a ha)⟩
theorem setReg (h : McStep s t) {a : Nat} (ha : IsMcReg a) (v : W64) : McStep s (t.setReg a v) :=
  h.trans ⟨rfl, fun _ hb => State.reg_setReg_ne _ _ _ fun e => hb (e ▸ ha)⟩
theorem raise (h : McStep s t) (n : Nat) : McStep s (t.raise n) := h.trans ⟨rfl, fun _ _ => rfl⟩
theorem setMerge (h : McStep s t) (cw : Nat) (e : MergeEntry) : McStep s (t.setMerge cw e) := h.trans ⟨rfl, fun _ _ => rfl⟩
theorem setEcc (h : McStep s t) (cw : Nat) (e : Ecc) : McStep s (t.setEcc cw e) := h.trans ⟨rfl, fun _ _ => rfl⟩
theorem setMem (h : McStep s t) (m : Tab Byte) : McStep s { t with mem := m } := h.trans ⟨rfl, fun _ _ => rfl⟩

theorem foldl {α : Type} (l : List α) (f : State → α → State) (hf : ∀ t x, McStep t (f t x)) (h : McStep s t) : McStep s (l.foldl f t) :=
  List.foldlRecOn (motive := McStep s) l f h fun t ht x _ => ht.trans (hf t x)

theorem mer (h : McStep s t) : t.mer = s.mer := by rw [h.eq]
theorem ctl (h : McStep s t) : t.ctl = s.ctl := by rw [h.eq]
theorem pins (h : McStep s t) : t.pins = s.pins := by rw [h.eq]
theorem alm (h : McStep s t) : t.alm = s.alm := by rw [h.eq]

end McStep

namespace McRecord
variable {s t u : State}

theorem refl (s : State) : McRecord s s := ⟨.refl s, rfl, rfl, rfl⟩
theorem setReg (h : McRecord s t) {a : Nat} (ha : IsMcReg a) (v : W64) : McRecord s (t.setReg a v) :=
  ⟨h.toMcStep.setReg ha v, h.mem, h.merge, h.ecc⟩
theorem raise (h : McRecord s t) (n : Nat) : McRecord s (t.raise n) := ⟨h.toMcStep.raise n, h.mem, h.merge, h.ecc⟩
theorem ite {c : Prop} [Decidable c] (h : McRecord s t) (k : McRecord s u) : McRecord s (if c then t else u) := by
  split <;> assumption
theorem raiseEvt (h : McRecord s t) (a : Nat) : McRecord s (t.raiseEvt a) := ite (h.raise _) h

end McRecord

theorem State.ctlOf_lt (s : State) (a : Nat) : s.ctlOf a < 15 := by
  have hn : s.ddrN < 16 := fld_lt _ 16 4
  have hmod (x : Nat) : x % max s.ddrN 1 < 15 := Nat.lt_of_lt_of_le (Nat.mod_lt _ (by omega)) (by omega)
  unfold State.ctlOf hbmEnd
  split
  · omega
  · split
    · exact hmod _
    · decide

/-- A controller's own register at an offset below 64 KiB. -/
theorem isMcReg_ctl {n o : Nat} (hn : n < 15) (ho : o < 0x10000) : IsMcReg (0x80000a00000 + o + n * 0x10000) := by
  unfold IsMcReg; omega

theorem State.recordUE_record (s : State) (cw : Nat) (k : Kind) (p : Bool) (cls : BitVec 2) : McRecord s (s.recordUE cw k p cls) := by
  have hn := s.ctlOf_lt cw
  unfold State.recordUE
  refine .ite ?_ (.ite (.raise ?_ _) ?_)
  · exact .raiseEvt (((McRecord.refl s).setReg (a := Reg.mcMrStat) (by decide) _).setReg (a := Reg.mcMrUeCnt) (by decide) _ |>.setReg
      (a := Reg.mcMrErrAddr) (by decide) _) _
  all_goals
    exact ((McRecord.refl s).setReg (isMcReg_ctl (o := 0x8) hn (by decide)) _ |>.setReg (isMcReg_ctl (o := 0x30) hn (by decide)) _ |>.setReg
      (isMcReg_ctl (o := 0x50) hn (by decide)) _).setReg (isMcReg_ctl (o := 0x58) hn (by decide)) _

theorem State.recordCE_record (s : State) (cw : Nat) (k : Kind) (sym : BitVec 8) : McRecord s (s.recordCE cw k sym) := by
  have hn := s.ctlOf_lt cw
  have hcnt (v w x : W64) := ((McRecord.refl s).setReg (isMcReg_ctl (o := 0x28) hn (by decide)) v).setReg
    (isMcReg_ctl (o := 0x60) hn (by decide)) w |>.setReg (isMcReg_ctl (o := 0x68) hn (by decide)) x
  unfold State.recordCE
  refine .ite ?_ (.ite (.ite (.raise ?_ _) ?_) ?_)
  · exact .raiseEvt (((McRecord.refl s).setReg (a := Reg.mcMrStat) (by decide) _).setReg (a := Reg.mcMrCeCnt) (by decide) _) _
  · exact (hcnt _ _ _).setReg (isMcReg_ctl (o := 0x8) hn (by decide)) _
  · exact (hcnt _ _ _).setReg (isMcReg_ctl (o := 0x8) hn (by decide)) _
  · exact hcnt _ _ _

theorem State.readCw_record (s : State) (cw : Nat) (k : Kind) (cls : BitVec 2) : McRecord s (s.readCw cw k cls).1 := by
  unfold State.readCw
  split
  · exact .refl s
  · exact s.recordCE_record _ _ _
  · exact s.recordUE_record _ _ _ _
  · exact s.recordUE_record _ _ _ _

/-! ### Code words -/

theorem cwSize_pos (a : Nat) : 0 < cwSize a := by unfold cwSize; split <;> [decide; (split <;> decide)]
theorem cwSize_le (a : Nat) : cwSize a ≤ 64 := by unfold cwSize; split <;> [decide; (split <;> decide)]

/-- The bytes of a code word lie in it, and no others do. -/
theorem cwBase_add {cw i : Nat} (h : cwBase cw = cw) (hi : i < cwSize cw) : cwBase (cw + i) = cw := by
  unfold cwBase cwSize hbmEnd mramBase at *
  split at h <;> [skip; split at h] <;> (split <;> [skip; split]) <;> grind

theorem cwBase_le (a : Nat) : cwBase a ≤ a := Nat.div_mul_le_self _ _

theorem lt_cwBase_add (a : Nat) : a < cwBase a + cwSize a := Nat.lt_div_mul_add (cwSize_pos a)

theorem cwSize_cwBase (a : Nat) : cwSize (cwBase a) = cwSize a := by
  unfold cwBase cwSize hbmEnd mramBase
  grind

theorem cwBase_cwBase (a : Nat) : cwBase (cwBase a) = cwBase a := by
  rw [cwBase, cwSize_cwBase, cwBase, Nat.mul_div_cancel _ (cwSize_pos a)]

/-- An address lies in a code word just if its bytes begin there. -/
theorem cwBase_eq_iff {cw : Nat} (h : cwBase cw = cw) (a : Nat) : cwBase a = cw ↔ cw ≤ a ∧ a < cw + cwSize cw := by
  constructor
  · rintro rfl
    rw [cwSize_cwBase]
    exact ⟨cwBase_le a, lt_cwBase_add a⟩
  · rintro ⟨hl, hr⟩
    obtain ⟨i, rfl⟩ := Nat.exists_eq_add_of_le hl
    exact cwBase_add h (by omega)

/-! ### Drains -/

/-- No code word holds an error. -/
def State.Calm (s : State) : Prop := ∀ c, s.eccAt c = .good

theorem State.Calm.setEcc_good {s : State} (h : s.Calm) (cw : Nat) : (s.setEcc cw .good).Calm := fun c => by
  by_cases hc : c = cw
  · rw [hc, State.eccAt_setEcc_same]
  · rw [State.eccAt_setEcc_ne _ _ _ hc, h c]

theorem State.Calm.congr {s t : State} (h : s.Calm) (he : t.ecc = s.ecc) : t.Calm := fun c => by
  rw [State.eccAt, he]; exact h c

theorem State.peek_congr {s t : State} (hm : t.mem = s.mem) (hg : t.merge = s.merge) (a : Nat) : t.peek a = s.peek a := by
  unfold State.peek State.mergeAt; rw [hm, hg]

theorem State.peekN_congr {s t : State} (h : ∀ a, t.peek a = s.peek a) (a n : Nat) : t.peekN a n = s.peekN a n := by
  unfold State.peekN; simp only [h]

theorem State.mergeDrain_of_invalid {s : State} {cw : Nat} (h : (s.mergeAt cw).valid = false) : s.mergeDrain cw = s := by
  unfold State.mergeDrain; simp [h]

/-- What a drain leaves of a merge entry: its bytes in memory. -/
theorem State.mergeDrain_of_valid {s : State} {cw : Nat} (h : (s.mergeAt cw).valid = true) :
    McStep s (s.mergeDrain cw) ∧ (s.mergeDrain cw).mem = mergeInto s.mem cw (s.mergeAt cw) (cwSize cw) ∧
      (s.mergeDrain cw).merge = Tab.set {} s.merge cw {} ∧ (s.Calm → (s.mergeDrain cw).Calm) := by
  have hn := s.ctlOf_lt cw
  generalize hs1 : ({ s.setMerge cw {} with mem := mergeInto s.mem cw (s.mergeAt cw) (cwSize cw) } : State) = s1
  have h1 : McStep s s1 := hs1 ▸ ((McStep.refl s).setMerge cw {}).setMem _
  have hmem : s1.mem = mergeInto s.mem cw (s.mergeAt cw) (cwSize cw) := by simp only [← hs1]
  have hmerge : s1.merge = Tab.set {} s.merge cw {} := by simp only [← hs1, State.setMerge_merge]
  have hcalm (hc : s.Calm) : s1.Calm := hc.congr (by simp only [← hs1, State.setMerge_ecc])
  generalize hs2 : (if s.ctlOf cw = 12 then s1 else s1.bump (Reg.mcRmwCnt (s.ctlOf cw))) = s2
  have h2 : McRecord s1 s2 := hs2 ▸ .ite (.refl s1) ((McRecord.refl s1).setReg (isMcReg_ctl (o := 0x38) hn (by decide)) _)
  have poisoned (t : State) (e : Ecc) (ht : McRecord s2 t) (hbad : s.eccAt cw ≠ .good) :
      McStep s (t.setEcc cw e) ∧ (t.setEcc cw e).mem = mergeInto s.mem cw (s.mergeAt cw) (cwSize cw) ∧
        (t.setEcc cw e).merge = Tab.set {} s.merge cw {} ∧ (s.Calm → (t.setEcc cw e).Calm) :=
    ⟨((h1.trans h2.toMcStep).trans ht.toMcStep).setEcc cw e, (ht.mem.trans h2.mem).trans hmem, (ht.merge.trans h2.merge).trans hmerge,
      fun hc => absurd (hc cw) hbad⟩
  unfold State.mergeDrain
  simp only [h, Bool.not_true, Bool.false_eq_true, if_false, hs1, hs2]
  split
  · exact ⟨h1.setEcc cw .good, hmem, hmerge, fun hc => (hcalm hc).setEcc_good cw⟩
  · split
    · exact ⟨h1.trans h2.toMcStep, h2.mem.trans hmem, h2.merge.trans hmerge, fun hc => (hcalm hc).congr h2.ecc⟩
    · rename_i e; exact poisoned _ _ (s2.recordCE_record _ _ _) (by rw [e]; simp)
    · rename_i e; exact poisoned _ _ (s2.recordUE_record _ _ _ _) (by rw [e]; simp)
    · rename_i e; exact poisoned _ _ (s2.recordUE_record _ _ _ _) (by rw [e]; simp)

theorem State.mergeDrain_step (s : State) (cw : Nat) : McStep s (s.mergeDrain cw) := by
  cases h : (s.mergeAt cw).valid
  · rw [State.mergeDrain_of_invalid h]; exact .refl s
  · exact (State.mergeDrain_of_valid h).1

theorem State.Calm.mergeDrain {s : State} (hc : s.Calm) (cw : Nat) : (s.mergeDrain cw).Calm := by
  cases h : (s.mergeAt cw).valid
  · rwa [State.mergeDrain_of_invalid h]
  · exact (State.mergeDrain_of_valid h).2.2.2 hc

theorem State.mergeAt_of_merge {s t : State} {cw : Nat} {e : MergeEntry} (h : t.merge = Tab.set {} s.merge cw e) (y : Nat) :
    t.mergeAt y = if y = cw then e else s.mergeAt y := by
  rw [State.mergeAt, h]
  split
  · rename_i hy; rw [hy, Tab.get_set_same]
  · rename_i hy; exact Tab.get_set_ne _ _ _ _ hy

/-- A drained code word has no entry, and every other one has the entry it had. -/
theorem State.mergeAt_mergeDrain (s : State) (cw y : Nat) :
    (s.mergeDrain cw).mergeAt y = s.mergeAt y ∨ (y = cw ∧ (s.mergeDrain cw).mergeAt y = {}) := by
  cases h : (s.mergeAt cw).valid
  · rw [State.mergeDrain_of_invalid h]; exact .inl rfl
  · rw [State.mergeAt_of_merge (State.mergeDrain_of_valid h).2.2.1]
    split
    · exact .inr ⟨‹_›, rfl⟩
    · exact .inl rfl

/-- A drain changes no byte that a read returns (R387). -/
theorem State.peek_mergeDrain (s : State) {cw : Nat} (hcw : cwBase cw = cw) (a : Nat) : (s.mergeDrain cw).peek a = s.peek a := by
  cases h : (s.mergeAt cw).valid
  · rw [State.mergeDrain_of_invalid h]
  · obtain ⟨-, hmem, hmerge, -⟩ := State.mergeDrain_of_valid h
    unfold State.peek
    rw [State.mergeAt_of_merge hmerge, hmem, get_mergeInto]
    by_cases ha : cwBase a = cw
    · have hin := (cwBase_eq_iff hcw a).1 ha
      simp [ha, h, hin]
    · have hout : ¬(cw ≤ a ∧ a < cw + cwSize cw) := fun hin => ha ((cwBase_eq_iff hcw a).2 hin)
      simp [ha, hout]

theorem State.foldl_mergeDrain_step (s : State) (l : List Nat) : McStep s (l.foldl State.mergeDrain s) :=
  .foldl l _ State.mergeDrain_step (.refl s)

theorem State.Calm.foldl_mergeDrain {s : State} (hc : s.Calm) (l : List Nat) : (l.foldl State.mergeDrain s).Calm :=
  List.foldlRecOn (motive := State.Calm) l _ hc fun _ ht x _ => ht.mergeDrain x

theorem State.peek_foldl_mergeDrain (s : State) (l : List Nat) (hl : ∀ cw ∈ l, cwBase cw = cw) (a : Nat) :
    (l.foldl State.mergeDrain s).peek a = s.peek a :=
  List.foldlRecOn (motive := fun t : State => t.peek a = s.peek a) l _ rfl fun (t : State) ht cw hcw => (t.peek_mergeDrain (hl cw hcw) a).trans ht

theorem State.cwBase_of_mem_mergeList {s : State} {n cw : Nat} (h : cw ∈ s.mergeList n) : cwBase cw = cw := by
  obtain ⟨e, he, rfl⟩ := List.mem_map.1 h
  exact (of_decide_eq_true (List.mem_filter.1 ((List.mem_insertionSort _).1 he)).2).1

theorem State.mergeDrainAll_step (s : State) (n : Nat) : McStep s (s.mergeDrainAll n) := s.foldl_mergeDrain_step _
theorem State.peek_mergeDrainAll (s : State) (n a : Nat) : (s.mergeDrainAll n).peek a = s.peek a :=
  s.peek_foldl_mergeDrain _ (fun _ h => State.cwBase_of_mem_mergeList h) a

end Sys2Proof.Machine
end

section
/-! SUPPORT. Reads and writes at the memory controllers (R387–R393): what they change, the bytes a read returns after a write, and the
records of MRAM (R435). -/

namespace Sys2Proof.Machine

/-! ### Reads -/

/-- What the reads of code words leave behind. -/
def readCws (l : List Nat) (cls : BitVec 2) (p : State × Bool) : State × Bool :=
  l.foldl (fun p cw => let q := p.1.readCw cw 0 cls; (q.1, p.2 || q.2)) p

theorem State.busRead_eq (s : State) (a n : Nat) (cls : BitVec 2) :
    s.busRead a n cls = (let r := readCws (cwsOf a n) cls ((granuleCws a n).foldl State.mergeDrain s, false)
      (r.1, if r.2 then some 0x0601 else none, r.1.peekN a n)) := rfl

theorem readCws_record (l : List Nat) (cls : BitVec 2) (p : State × Bool) :
    McStep p.1 (readCws l cls p).1 ∧ ∀ a, (readCws l cls p).1.peek a = p.1.peek a :=
  List.foldlRecOn (motive := fun q : State × Bool => McStep p.1 q.1 ∧ ∀ a, q.1.peek a = p.1.peek a) l _ ⟨.refl _, fun _ => rfl⟩
    fun q hq cw _ => by
      have hr := q.1.readCw_record cw 0 cls
      exact ⟨hq.1.trans hr.toMcStep, fun a => (State.peek_congr hr.mem hr.merge a).trans (hq.2 a)⟩

theorem readCws_calm {s : State} (hc : s.Calm) (l : List Nat) (cls : BitVec 2) : readCws l cls (s, false) = (s, false) :=
  List.foldlRecOn (motive := fun q : State × Bool => q = (s, false)) l _ rfl fun q hq cw _ => by
    simp only [hq, State.readCw, hc cw, Bool.or_self]

theorem State.busRead_step (s : State) (a n : Nat) (cls : BitVec 2) : McStep s (s.busRead a n cls).1 :=
  (s.foldl_mergeDrain_step (granuleCws a n)).trans (readCws_record (cwsOf a n) cls (_, false)).1

/-- The code words of the granules of a read in MRAM are aligned. -/
theorem cwBase_of_mem_granuleCws {a n cw : Nat} (ha : mramBase ≤ a) (h : cw ∈ granuleCws a n) : cwBase cw = cw := by
  obtain ⟨i, -, rfl⟩ := List.mem_map.1 h
  have hs : cwSize a = 16 := by unfold cwSize hbmEnd mramBase at *; grind
  have hs' : cwSize (a / 64 * 64 + i * 16) = 16 := by unfold cwSize hbmEnd mramBase at *; grind
  rw [hs, cwBase, hs']
  omega

theorem State.peek_busRead (s : State) {a : Nat} (n : Nat) (cls : BitVec 2) (ha : mramBase ≤ a) (b : Nat) :
    (s.busRead a n cls).1.peek b = s.peek b :=
  ((readCws_record _ _ _).2 b).trans (s.peek_foldl_mergeDrain _ (fun _ h => cwBase_of_mem_granuleCws ha h) b)

/-- Where no code word holds an error, a read of MRAM returns its bytes, and no error. -/
theorem State.Calm.busRead {s : State} (hc : s.Calm) {a : Nat} (n : Nat) (cls : BitVec 2) (ha : mramBase ≤ a) :
    (s.busRead a n cls).1.Calm ∧ (s.busRead a n cls).2 = (none, s.peekN a n) := by
  have hd := hc.foldl_mergeDrain (granuleCws a n)
  rw [State.busRead_eq, readCws_calm hd]
  refine ⟨hd, ?_⟩
  simp only [Bool.false_eq_true, if_false]
  rw [State.peekN_congr fun b => s.peek_foldl_mergeDrain _ (fun _ h => cwBase_of_mem_granuleCws ha h) b]

theorem State.Calm.bankRead {s : State} (hc : s.Calm) {a : Nat} (ha : mramBase ≤ a) : s.bankRead a = s.peekN a 4096 := by
  unfold State.bankRead
  simp only [(hc.busRead 4096 2 ha).2, Option.isSome_none, Bool.false_eq_true, if_false]

theorem mramBase_le_rootAddr (b : Bool) : mramBase ≤ rootAddr b := Nat.le_add_right _ _

theorem State.recTouch_step (s : State) (addr : Bool → Nat) : McStep s (s.recTouch addr) := by
  unfold State.recTouch
  exact (s.busRead_step _ _ _).trans (State.busRead_step _ _ _ _)
theorem State.peek_recTouch (s : State) {addr : Bool → Nat} (ha : ∀ b, mramBase ≤ addr b) (a : Nat) : (s.recTouch addr).peek a = s.peek a := by
  unfold State.recTouch
  rw [State.peek_busRead _ _ _ (ha true), State.peek_busRead _ _ _ (ha false)]
theorem State.Calm.recTouch {s : State} (hc : s.Calm) {addr : Bool → Nat} (ha : ∀ b, mramBase ≤ addr b) : (s.recTouch addr).Calm := by
  unfold State.recTouch
  have h1 := (hc.busRead 4096 2 (ha false)).1
  exact (h1.busRead 4096 2 (ha true)).1

/-! ### Writes -/

/-- The byte that a read returns once bytes are written. -/
def putPeek (s : State) (a : Nat) (l : List Byte) (x : Nat) : Byte := if a ≤ x ∧ x < a + l.length then l.getD (x - a) 0 else s.peek x

/-- The controller before it takes a new merge entry: a full buffer drains its oldest one (R388). -/
def State.mergeRoom (s : State) (n : Nat) : State :=
  let held := s.mergeList n
  let s1 := if 64 ≤ held.length then (match held.head? with | some o => s.mergeDrain o | none => s) else s
  if 64 ≤ held.length ∧ n ≠ 12 then s1.bump (Reg.mcMbFullCnt n) else s1

theorem State.mergeRoom_spec (s : State) {n : Nat} (hn : n < 15) : McStep s (s.mergeRoom n) ∧ (s.Calm → (s.mergeRoom n).Calm) ∧
    (∀ a, (s.mergeRoom n).peek a = s.peek a) ∧
    ∀ y, (s.mergeAt y).valid = false → ((s.mergeRoom n).mergeAt y).valid = false := by
  unfold State.mergeRoom
  dsimp only
  generalize hs1 : (if 64 ≤ (s.mergeList n).length then (match (s.mergeList n).head? with | some o => s.mergeDrain o | none => s) else s) = s1
  have h1 : McStep s s1 ∧ (s.Calm → s1.Calm) ∧ (∀ a, s1.peek a = s.peek a) ∧
      ∀ y, (s.mergeAt y).valid = false → (s1.mergeAt y).valid = false := by
    subst hs1
    split
    · split
      · rename_i o ho
        refine ⟨s.mergeDrain_step o, fun hc => hc.mergeDrain o,
          s.peek_mergeDrain (State.cwBase_of_mem_mergeList (List.mem_of_head? ho)), fun y hy => ?_⟩
        rcases s.mergeAt_mergeDrain o y with he | ⟨-, he⟩
        · rw [he, hy]
        · rw [he]
      · exact ⟨.refl s, id, fun _ => rfl, fun _ => id⟩
    · exact ⟨.refl s, id, fun _ => rfl, fun _ => id⟩
  obtain ⟨hstep, hcalm, hpeek, hinv⟩ := h1
  split
  · exact ⟨hstep.setReg (isMcReg_ctl (o := 0x40) hn (by decide)) _, hcalm, hpeek, hinv⟩
  · exact ⟨hstep, hcalm, hpeek, hinv⟩

/-- A code word's merge entry that holds bytes written at offset `i`, and whatever a read returned before at the other offsets. -/
theorem State.peek_setMerge_put (s : State) {cw i : Nat} (e : MergeEntry) (l : List Byte) (hcw : cwBase cw = cw) (hl : i + l.length ≤ cwSize cw)
    (he : e.valid = true)
    (hd : ∀ j, j < cwSize cw → (if e.mask.getLsbD j then lineByte e.data j else Tab.get 0 s.mem (cw + j)) = putPeek s (cw + i) l (cw + j))
    (x : Nat) : (s.setMerge cw e).peek x = putPeek s (cw + i) l x := by
  unfold State.peek
  by_cases hx : cwBase x = cw
  · obtain ⟨hlo, hhi⟩ := (cwBase_eq_iff hcw x).1 hx
    obtain ⟨j, rfl⟩ := Nat.exists_eq_add_of_le hlo
    simp only [hx, State.mergeAt_setMerge_same, Nat.add_sub_cancel_left, he, Bool.true_and]
    exact hd j (by omega)
  · have hout : ¬(cw + i ≤ x ∧ x < cw + i + l.length) := fun h => hx ((cwBase_eq_iff hcw x).2 (by omega))
    rw [State.mergeAt_setMerge_ne _ _ _ hx, putPeek, if_neg hout]
    rfl

theorem putPeek_in (s : State) (cw : Nat) {i j : Nat} (l : List Byte) (h : i ≤ j ∧ j < i + l.length) : putPeek s (cw + i) l (cw + j) = l.getD (j - i) 0 := by
  rw [putPeek, if_pos (by omega), show cw + j - (cw + i) = j - i by omega]
theorem putPeek_out (s : State) (cw : Nat) {i j : Nat} (l : List Byte) (h : ¬(i ≤ j ∧ j < i + l.length)) :
    putPeek s (cw + i) l (cw + j) = s.peek (cw + j) := by
  rw [putPeek, if_neg (by omega)]

/-- The byte of a code word that a read returns. -/
theorem State.peek_add (s : State) {cw j : Nat} (hcw : cwBase cw = cw) (hj : j < cwSize cw) : s.peek (cw + j) =
    if (s.mergeAt cw).valid && (s.mergeAt cw).mask.getLsbD j then lineByte (s.mergeAt cw).data j else Tab.get 0 s.mem (cw + j) := by
  unfold State.peek
  rw [cwBase_add hcw hj, Nat.add_sub_cancel_left]

/-- Bytes join a code word's merge entry. -/
theorem State.peek_setMerge_join (s : State) {cw i : Nat} (l : List Byte) (hcw : cwBase cw = cw) (hl : i + l.length ≤ cwSize cw)
    (hv : (s.mergeAt cw).valid = true) (x : Nat) :
    (s.setMerge cw { s.mergeAt cw with mask := (s.mergeAt cw).mask ||| byteMask i l.length, data := linePut (s.mergeAt cw).data i l }).peek x =
      putPeek s (cw + i) l x := by
  refine s.peek_setMerge_put _ l hcw hl (by exact hv) (fun j hj => ?_) x
  have hj64 : j < 64 := Nat.lt_of_lt_of_le hj (cwSize_le cw)
  rw [BitVec.getLsbD_or, getLsbD_byteMask, lineByte_linePut _ _ _ (Nat.le_trans hl (cwSize_le cw)) hj64]
  by_cases hin : i ≤ j ∧ j < i + l.length
  · rw [putPeek_in s cw l hin]; simp [hj64, hin]
  · rw [putPeek_out s cw l hin, s.peek_add hcw hj, hv, if_neg hin, ← Bool.decide_and, decide_eq_false hin]; simp

/-- Bytes make a new merge entry of a code word that has none. -/
theorem State.peek_setMerge_new (s : State) {cw i : Nat} (l : List Byte) (age : Nat) (hcw : cwBase cw = cw) (hl : i + l.length ≤ cwSize cw)
    (hv : (s.mergeAt cw).valid = false) (x : Nat) :
    (s.setMerge cw { valid := true, mask := byteMask i l.length, data := linePut 0 i l, age := age }).peek x = putPeek s (cw + i) l x := by
  refine s.peek_setMerge_put _ l hcw hl rfl (fun j hj => ?_) x
  have hj64 : j < 64 := Nat.lt_of_lt_of_le hj (cwSize_le cw)
  rw [getLsbD_byteMask, lineByte_linePut _ _ _ (Nat.le_trans hl (cwSize_le cw)) hj64]
  by_cases hin : i ≤ j ∧ j < i + l.length
  · rw [putPeek_in s cw l hin]; simp [hj64, hin]
  · rw [putPeek_out s cw l hin, s.peek_add hcw hj, hv, ← Bool.decide_and, decide_eq_false hin]; simp

/-- A whole code word is stored. -/
theorem State.peek_putMem (s : State) {cw : Nat} (l : List Byte) (hcw : cwBase cw = cw) (hl : l.length = cwSize cw)
    (hv : (s.mergeAt cw).valid = false) (x : Nat) : ({ s.setEcc cw .good with mem := putMem s.mem cw l } : State).peek x = putPeek s cw l x := by
  show (if (s.mergeAt (cwBase x)).valid && (s.mergeAt (cwBase x)).mask.getLsbD (x - cwBase x) then lineByte (s.mergeAt (cwBase x)).data (x - cwBase x)
    else Tab.get 0 (putMem s.mem cw l) x) = _
  rw [get_putMem, hl, putPeek, hl]
  by_cases hx : cwBase x = cw
  · rw [if_pos ((cwBase_eq_iff hcw x).1 hx), if_pos ((cwBase_eq_iff hcw x).1 hx), hx, hv]; rfl
  · rw [if_neg fun h => hx ((cwBase_eq_iff hcw x).2 h), if_neg fun h => hx ((cwBase_eq_iff hcw x).2 h)]; rfl

/-- What a write within one code word does (R388). -/
theorem State.writeCw_spec (s : State) {a : Nat} {l : List Byte} (hl : a - cwBase a + l.length ≤ cwSize a) :
    McStep s (s.writeCw a l) ∧ (s.Calm → (s.writeCw a l).Calm) ∧ ∀ x, (s.writeCw a l).peek x = putPeek s a l x := by
  have hcw := cwBase_cwBase a
  have hadd : cwBase a + (a - cwBase a) = a := Nat.add_sub_cancel' (cwBase_le a)
  have hroom := s.mergeRoom_spec (s.ctlOf_lt (cwBase a))
  unfold State.writeCw
  rw [← cwSize_cwBase] at hl ⊢
  generalize a - cwBase a = i at *
  generalize cwBase a = cw at *
  subst hadd
  simp only [Nat.add_sub_cancel_left]
  split
  · rename_i hv
    generalize hs1 : s.setMerge cw { s.mergeAt cw with mask := (s.mergeAt cw).mask ||| byteMask i l.length, data := linePut (s.mergeAt cw).data i l } = s1
    have hstep : McStep s s1 := hs1 ▸ (McStep.refl s).setMerge cw _
    have hcalm (hc : s.Calm) : s1.Calm := hs1 ▸ hc
    have hpeek (x : Nat) : s1.peek x = putPeek s (cw + i) l x := hs1 ▸ s.peek_setMerge_join l hcw hl hv x
    split
    · exact ⟨hstep.trans (s1.mergeDrain_step cw), fun hc => (hcalm hc).mergeDrain cw, fun x => (s1.peek_mergeDrain hcw x).trans (hpeek x)⟩
    · exact ⟨hstep, hcalm, hpeek⟩
  · rename_i hv
    have hv : (s.mergeAt cw).valid = false := by simpa using hv
    split
    · rename_i hfull
      have hi : i = 0 := by omega
      subst hi
      exact ⟨((McStep.refl s).setEcc cw .good).setMem _, fun hc => hc.setEcc_good cw, s.peek_putMem l hcw hfull hv⟩
    · obtain ⟨hstep, hcalm, hpeek, hinv⟩ := hroom
      refine ⟨hstep.setMerge cw _, hcalm, fun x => ?_⟩
      refine ((s.mergeRoom (s.ctlOf cw)).peek_setMerge_new l _ hcw hl (hinv cw hv) x).trans ?_
      rw [putPeek, putPeek, hpeek]

theorem State.busWriteGo_spec (k : Nat) (s : State) (a : Nat) (l : List Byte) (hk : l.length < k) :
    McStep s (State.busWriteGo k s a l) ∧ (s.Calm → (State.busWriteGo k s a l).Calm) ∧ ∀ x, (State.busWriteGo k s a l).peek x = putPeek s a l x := by
  induction k generalizing s a l with
  | zero => omega
  | succ k ih =>
    match l with
    | [] => exact ⟨.refl s, id, fun x => by rw [putPeek, if_neg (by simp only [List.length_nil]; omega)]; rfl⟩
    | b :: t =>
      generalize hl : b :: t = l at *
      have hpos : 0 < l.length := by rw [← hl]; simp
      have hroom := lt_cwBase_add a
      have hle := cwBase_le a
      generalize hn : min (cwBase a + cwSize a - a) l.length = n
      have hgo : State.busWriteGo (k + 1) s a l = State.busWriteGo k (s.writeCw a (l.take n)) (a + n) (l.drop n) := by
        rw [← hl] at hn ⊢; rw [State.busWriteGo, hn]; exact nofun
      obtain ⟨hs, hc, hp⟩ := s.writeCw_spec (a := a) (l := l.take n) (by rw [List.length_take]; omega)
      obtain ⟨hs', hc', hp'⟩ := ih (s.writeCw a (l.take n)) (a + n) (l.drop n) (by rw [List.length_drop]; omega)
      rw [hgo]
      refine ⟨hs.trans hs', hc' ∘ hc, fun x => ?_⟩
      rw [hp', putPeek, putPeek, hp, putPeek, List.length_take, List.length_drop]
      by_cases h1 : a ≤ x ∧ x < a + n
      · rw [if_neg (by omega), if_pos (by omega), if_pos (by omega), List.getD_eq_getElem?_getD, List.getD_eq_getElem?_getD,
          List.getElem?_take_of_lt (by omega)]
      · by_cases h2 : a + n ≤ x ∧ x < a + n + (l.length - n)
        · rw [if_pos h2, if_pos (by omega), List.getD_eq_getElem?_getD, List.getD_eq_getElem?_getD, List.getElem?_drop]
          congr 2; omega
        · rw [if_neg h2, if_neg (by omega), if_neg (by omega)]

/-- What a write at the memory controllers does (R387, R388). -/
theorem State.busWrite_step (s : State) (a : Nat) (l : List Byte) : McStep s (s.busWrite a l) := (State.busWriteGo_spec _ s a l (Nat.lt_succ_self _)).1
theorem State.Calm.busWrite {s : State} (hc : s.Calm) (a : Nat) (l : List Byte) : (s.busWrite a l).Calm :=
  (State.busWriteGo_spec _ s a l (Nat.lt_succ_self _)).2.1 hc
theorem State.peek_busWrite (s : State) (a : Nat) (l : List Byte) (x : Nat) : (s.busWrite a l).peek x = putPeek s a l x :=
  (State.busWriteGo_spec _ s a l (Nat.lt_succ_self _)).2.2 x

end Sys2Proof.Machine
end

section
/-! SUPPORT. The root record (R435, R436): a write of it leaves the bank that did not win with the edited contents and the next sequence
number, and that bank wins. -/

namespace Sys2Proof.Machine

theorem State.length_peekN (s : State) (a n : Nat) : (s.peekN a n).length = n := by simp [State.peekN]

theorem State.peekN_eq {s : State} {a n : Nat} {l : List Byte} (hl : l.length = n) (h : ∀ i, i < n → s.peek (a + i) = l.getD i 0) :
    s.peekN a n = l := by
  refine List.ext_getElem ((s.length_peekN a n).trans hl.symm) fun i h1 h2 => ?_
  simp only [State.peekN, List.getElem_map, List.getElem_range]
  rw [h i (hl ▸ h2), List.getD_eq_getElem?_getD, List.getElem?_eq_getElem h2, Option.getD_some]

theorem rootAddr_apart (b : Bool) {x : Nat} (h : rootAddr (!b) ≤ x ∧ x < rootAddr (!b) + 4096) : ¬(rootAddr b ≤ x ∧ x < rootAddr b + 4096) := by
  cases b <;> simp only [rootAddr, mramBase, Bool.not_false, Bool.not_true, if_true, Bool.false_eq_true, if_false] at h ⊢ <;> omega

/-! ### Banks -/

/-- A valid bank, by its fields. -/
theorem bankOk_iff (magic : Nat) {l : List Byte} (hl : l.length = 4096) : bankOk magic l = true ↔
    recFld l 0 4 = magic ∧ recFld l 4 1 = 1 ∧ recFld l 5 3 = 0 ∧ recFld l 4092 4 = (crc32c (l.take 4092)).toNat := by
  have hd : (l.drop 4092).take 4 = l.drop 4092 := List.take_of_length_le (by rw [List.length_drop, hl])
  simp only [bankOk, recFld, List.drop_zero, hd, Bool.and_eq_true, beq_iff_eq, and_assoc]

theorem bankSeq_eq (l : List Byte) : bankSeq l = recFld l 8 8 := rfl

theorem State.bankOk_of_recWinner {s : State} {magic : Nat} {addr : Bool → Nat} {b : Bool} (h : s.recWinner magic addr = some b) :
    bankOk magic (s.bankRead (addr b)) = true := by
  unfold State.recWinner at h
  cases ha : bankOk magic (s.bankRead (addr false)) <;> cases hb : bankOk magic (s.bankRead (addr true)) <;> simp [ha, hb] at h <;> cases b <;>
    simp_all

theorem State.bankOk_of_no_recWinner {s : State} {magic : Nat} {addr : Bool → Nat} (h : s.recWinner magic addr = none) (b : Bool) :
    bankOk magic (s.bankRead (addr b)) = false := by
  unfold State.recWinner at h
  cases ha : bankOk magic (s.bankRead (addr false)) <;> cases hb : bankOk magic (s.bankRead (addr true)) <;> simp [ha, hb] at h
  cases b <;> assumption

/-- A valid bank wins over one that is invalid or older. -/
theorem State.recWinner_of_newer {s : State} {magic : Nat} {addr : Bool → Nat} {b : Bool} (h : bankOk magic (s.bankRead (addr b)) = true)
    (ho : bankOk magic (s.bankRead (addr !b)) = true → bankSeq (s.bankRead (addr !b)) < bankSeq (s.bankRead (addr b))) :
    s.recWinner magic addr = some b := by
  unfold State.recWinner
  dsimp only
  cases b <;> simp only [Bool.not_false, Bool.not_true] at ho
  · rw [h]
    cases hb : bankOk magic (s.bankRead (addr true))
    · rfl
    · simp [Nat.le_of_lt (ho hb)]
  · rw [h]
    cases ha : bankOk magic (s.bankRead (addr false))
    · rfl
    · simp [ho ha]

/-! ### The write -/

/-- A record's magic number and version, and zeros. -/
def blankRecord (magic n : Nat) : List Byte := leBytes 4 magic ++ [1] ++ List.replicate n 0
/-- The contents that a write of the root record edits. -/
def State.rootOld (s : State) : List Byte := (s.recRead rootMagic rootAddr).getD (blankRecord rootMagic 4091)
theorem blankRecord_fields (magic n : Nat) : (blankRecord magic n).length = 5 + n ∧ recFld (blankRecord magic n) 0 4 = magic % 256 ^ 4 ∧
    recFld (blankRecord magic n) 4 1 = 1 ∧
    ∀ o k, 5 ≤ o → recFld (blankRecord magic n) o k = 0 := by
  have h4 := length_leBytes 4 magic
  have h5 : (leBytes 4 magic ++ [(1 : Byte)]).length = 5 := by rw [List.length_append, h4]; rfl
  unfold blankRecord
  refine ⟨by rw [List.length_append, h5, List.length_replicate], ?_, ?_, fun o k ho => ?_⟩
  · rw [List.append_assoc, recFld_append_left _ _ (by omega), recFld_leBytes]
  · rw [recFld_append_left _ _ (by omega), recFld_append_right _ _ (by omega), h4]; rfl
  · rw [recFld_append_right _ _ (by omega), recFld, List.drop_replicate, List.take_replicate]
    exact leVal_replicate_zero _
/-- The bank that it writes. -/
def State.rootBank (s : State) : Bool := ((s.recWinner rootMagic rootAddr).map fun b => !b).getD false
/-- The contents that it writes, up to their check value. -/
def State.rootNew (s : State) (edit : List Byte → List Byte) : List Byte :=
  (putAt (edit s.rootOld) 8 (leBytes 8 (bankSeq s.rootOld + 1))).take 4092

theorem State.rootWrite_eq (s : State) (edit : List Byte → List Byte) : s.rootWrite edit =
    ((s.recTouch rootAddr).busWrite (rootAddr s.rootBank) (s.rootNew edit)).busWrite (rootAddr s.rootBank + 4092)
      (leBytes 4 (crc32c (s.rootNew edit)).toNat) := by
  unfold State.rootWrite State.rootNew State.rootOld State.rootBank
  cases s.recRead rootMagic rootAddr <;> cases s.recWinner rootMagic rootAddr <;> rfl

theorem State.rootWrite_step (s : State) (edit : List Byte → List Byte) : McStep s (s.rootWrite edit) := by
  rw [State.rootWrite_eq]
  exact ((s.recTouch_step _).trans (State.busWrite_step _ _ _)).trans (State.busWrite_step _ _ _)

theorem State.Calm.rootWrite {s : State} (hc : s.Calm) (edit : List Byte → List Byte) : (s.rootWrite edit).Calm := by
  rw [State.rootWrite_eq]; exact ((hc.recTouch mramBase_le_rootAddr).busWrite _ _).busWrite _ _

/-- An edit that leaves a record's header to the write. -/
def KeepsHeader (edit : List Byte → List Byte) : Prop :=
  ∀ l : List Byte, l.length = 4096 → (edit l).length = 4096 ∧ ∀ k n, k + n ≤ 8 → recFld (edit l) k n = recFld l k n

theorem State.recRead_eq_some {s : State} {magic : Nat} {addr : Bool → Nat} {l : List Byte} (h : s.recRead magic addr = some l) :
    ∃ b, s.recWinner magic addr = some b ∧ s.bankRead (addr b) = l := Option.map_eq_some_iff.1 h

section
variable {s : State}

/-- What the edit starts from has a record's length and header. -/
theorem State.Calm.rootOld_header (hc : s.Calm) : s.rootOld.length = 4096 ∧ recFld s.rootOld 0 4 = rootMagic ∧ recFld s.rootOld 4 1 = 1 ∧
    recFld s.rootOld 5 3 = 0 := by
  unfold State.rootOld
  cases h : s.recRead rootMagic rootAddr with
  | none =>
    obtain ⟨hl, h0, h4, h5⟩ := blankRecord_fields rootMagic 4091
    exact ⟨hl, h0, h4, h5 5 3 (Nat.le_refl _)⟩
  | some l =>
    obtain ⟨b, hb, rfl⟩ := State.recRead_eq_some h
    have hl : (s.bankRead (rootAddr b)).length = 4096 := by rw [hc.bankRead (mramBase_le_rootAddr b), State.length_peekN]
    obtain ⟨h0, h4, h5, -⟩ := (bankOk_iff _ hl).1 (State.bankOk_of_recWinner hb)
    exact ⟨hl, h0, h4, h5⟩

theorem State.Calm.rootNew_fields (hc : s.Calm) {edit : List Byte → List Byte} (he : KeepsHeader edit) :
    (s.rootNew edit).length = 4092 ∧ recFld (s.rootNew edit) 0 4 = rootMagic ∧ recFld (s.rootNew edit) 4 1 = 1 ∧ recFld (s.rootNew edit) 5 3 = 0 ∧
    recFld (s.rootNew edit) 8 8 = (bankSeq s.rootOld + 1) % 256 ^ 8 ∧
    ∀ k n, 16 ≤ k → k + n ≤ 4092 → recFld (s.rootNew edit) k n = recFld (edit s.rootOld) k n := by
  obtain ⟨hl, h0, h4, h5⟩ := hc.rootOld_header
  obtain ⟨hel, hek⟩ := he _ hl
  have hput : 8 + (leBytes 8 (bankSeq s.rootOld + 1)).length ≤ (edit s.rootOld).length := by rw [length_leBytes, hel]; decide
  have hout {k n : Nat} (hk : k + n ≤ 4092) (ho : k + n ≤ 8 ∨ 16 ≤ k) : recFld (s.rootNew edit) k n = recFld (edit s.rootOld) k n := by
    rw [State.rootNew, recFld_take _ hk, recFld_putAt_ne _ _ hput (by rw [length_leBytes]; omega)]
  refine ⟨?_, ?_, ?_, ?_, ?_, fun k n h1 h2 => hout h2 (.inr h1)⟩
  · rw [State.rootNew, List.length_take, length_putAt _ _ hput, hel]; rfl
  · rw [hout (by decide) (by decide), hek _ _ (by decide), h0]
  · rw [hout (by decide) (by decide), hek _ _ (by decide), h4]
  · rw [hout (by decide) (by decide), hek _ _ (by decide), h5]
  · rw [State.rootNew, recFld_take _ (by decide), recFld_putAt_in _ _ hput (by decide) (by rw [length_leBytes]), recFld_leBytes]

/-- The banks after the write. -/
theorem State.Calm.bankRead_rootWrite (hc : s.Calm) {edit : List Byte → List Byte} (he : KeepsHeader edit) :
    (s.rootWrite edit).bankRead (rootAddr s.rootBank) = s.rootNew edit ++ leBytes 4 (crc32c (s.rootNew edit)).toNat ∧
    (s.rootWrite edit).bankRead (rootAddr !s.rootBank) = s.bankRead (rootAddr !s.rootBank) := by
  have hlen := (hc.rootNew_fields he).1
  have hcalm := hc.rootWrite edit
  have hpeek (x : Nat) : (s.rootWrite edit).peek x =
      if rootAddr s.rootBank + 4092 ≤ x ∧ x < rootAddr s.rootBank + 4092 + 4 then (leBytes 4 (crc32c (s.rootNew edit)).toNat).getD (x - (rootAddr s.rootBank + 4092)) 0
      else if rootAddr s.rootBank ≤ x ∧ x < rootAddr s.rootBank + 4092 then (s.rootNew edit).getD (x - rootAddr s.rootBank) 0 else s.peek x := by
    rw [State.rootWrite_eq, State.peek_busWrite, putPeek, State.peek_busWrite, putPeek, s.peek_recTouch mramBase_le_rootAddr, hlen, length_leBytes]
  have hc4 := length_leBytes 4 (crc32c (s.rootNew edit)).toNat
  rw [hcalm.bankRead (mramBase_le_rootAddr _), hcalm.bankRead (mramBase_le_rootAddr _), hc.bankRead (mramBase_le_rootAddr _)]
  generalize leBytes 4 (crc32c (s.rootNew edit)).toNat = c at *
  constructor
  · refine State.peekN_eq (by rw [List.length_append, hlen, hc4]) fun i hi => ?_
    rw [hpeek]
    by_cases h1 : i < 4092
    · rw [if_neg (by omega), if_pos (by omega), Nat.add_sub_cancel_left, List.getD_append _ _ _ _ (by omega)]
    · rw [if_pos (by omega), List.getD_append_right _ _ _ _ (by omega), hlen, Nat.add_sub_add_left]
  · refine State.peekN_eq (State.length_peekN _ _ _) fun i hi => ?_
    have hout := rootAddr_apart s.rootBank (x := rootAddr (!s.rootBank) + i) (by omega)
    rw [hpeek, if_neg (by omega), if_neg (by omega), State.peekN, List.getD_eq_getElem?_getD, List.getElem?_map, List.getElem?_range hi]
    rfl

/-- After a write of the root record the record reads as it was edited, with the next sequence number. -/
theorem State.Calm.recRead_rootWrite (hc : s.Calm) {edit : List Byte → List Byte} (he : KeepsHeader edit)
    (hseq : bankSeq ((s.recRead rootMagic rootAddr).getD []) + 1 < 2 ^ 64) :
    ∃ l, (s.rootWrite edit).recRead rootMagic rootAddr = some l ∧ bankSeq l = bankSeq ((s.recRead rootMagic rootAddr).getD []) + 1 ∧
      ∀ k n, 16 ≤ k → k + n ≤ 4092 → recFld l k n = recFld (edit s.rootOld) k n := by
  obtain ⟨hlen, h0, h4, h5, h8, hf⟩ := hc.rootNew_fields he
  obtain ⟨hbank, hother⟩ := hc.bankRead_rootWrite he
  have hlast := recFld_leBytes 4 (crc32c (s.rootNew edit)).toNat
  have hc4 := length_leBytes 4 (crc32c (s.rootNew edit)).toNat
  rw [show 256 ^ 4 = 2 ^ 32 from rfl, Nat.mod_eq_of_lt (crc32c (s.rootNew edit)).isLt] at hlast
  have htake := List.take_append_of_le_length (l₂ := leBytes 4 (crc32c (s.rootNew edit)).toNat) (Nat.le_of_eq hlen.symm)
  rw [List.take_of_length_le (Nat.le_of_eq hlen)] at htake
  generalize leBytes 4 (crc32c (s.rootNew edit)).toNat = c at *
  have hfld {k n : Nat} (h : k + n ≤ 4092) : recFld (s.rootNew edit ++ c) k n = recFld (s.rootNew edit) k n :=
    recFld_append_left _ _ (hlen ▸ h)
  have hold : bankSeq s.rootOld = bankSeq ((s.recRead rootMagic rootAddr).getD []) := by
    unfold State.rootOld
    cases s.recRead rootMagic rootAddr with
    | some l => rfl
    | none =>
      obtain ⟨-, -, -, hz⟩ := blankRecord_fields rootMagic 4091
      exact hz 8 8 (by decide)
  have hnew : bankSeq (s.rootNew edit ++ c) = bankSeq s.rootOld + 1 := by
    rw [bankSeq_eq, hfld (by decide), h8, hold]; exact Nat.mod_eq_of_lt hseq
  have hok : bankOk rootMagic (s.rootNew edit ++ c) = true := by
    refine (bankOk_iff _ (by rw [List.length_append, hlen, hc4])).2 ⟨?_, ?_, ?_, ?_⟩
    · rw [hfld (by decide), h0]
    · rw [hfld (by decide), h4]
    · rw [hfld (by decide), h5]
    · rw [htake, recFld_append_right _ _ (Nat.le_of_eq hlen), hlen, hlast]
  have hwin : (s.rootWrite edit).recWinner rootMagic rootAddr = some s.rootBank := by
    refine State.recWinner_of_newer (hbank ▸ hok) ?_
    rw [hother, hbank, hnew]
    intro hvalid
    cases hw : s.recWinner rootMagic rootAddr with
    | none => rw [State.bankOk_of_no_recWinner hw] at hvalid; cases hvalid
    | some b =>
      have hb : (!s.rootBank) = b := by simp [State.rootBank, hw]
      have hr : s.rootOld = s.bankRead (rootAddr b) := by simp [State.rootOld, State.recRead, hw]
      rw [hb, hr]; exact Nat.lt_succ_self _
  refine ⟨_, by rw [State.recRead, hwin, Option.map_some, hbank], by rw [hnew, hold], fun k n h1 h2 => ?_⟩
  rw [hfld h2, hf k n h1 h2]

end

end Sys2Proof.Machine
end

section
/-! SUPPORT. Registers by their fields; and what a power failure does (R316, R433, R441, R442): the blocks it gates, and what it keeps. -/

namespace Sys2Proof.Machine

/-! ### Registers -/

theorem State.reg_congr {s t : State} (h : t.csr = s.csr) (a : Nat) : t.reg a = s.reg a := by unfold State.reg; rw [h]

@[simp] theorem State.reg_setRegBit_same (s : State) (a i : Nat) (b : Bool) : (s.setRegBit a i b).reg a = setBit (s.reg a) i b :=
  State.reg_setReg_same _ _ _
theorem State.reg_setRegBit_ne (s : State) (a i : Nat) (b : Bool) {c : Nat} (h : c ≠ a) : (s.setRegBit a i b).reg c = s.reg c :=
  State.reg_setReg_ne _ _ _ h
@[simp] theorem State.reg_setRegFld_same (s : State) (a lo w v : Nat) : (s.setRegFld a lo w v).reg a = setFld (s.reg a) lo w v :=
  State.reg_setReg_same _ _ _
theorem State.reg_setRegFld_ne (s : State) (a lo w v : Nat) {c : Nat} (h : c ≠ a) : (s.setRegFld a lo w v).reg c = s.reg c :=
  State.reg_setReg_ne _ _ _ h

theorem State.regBit_iff (s : State) (a i : Nat) : s.regBit a i = true ↔ fld (s.reg a) i 1 = 1 := bitAt_eq_true_iff _ _
theorem State.regBit_eq_false_iff (s : State) (a i : Nat) : s.regBit a i = false ↔ fld (s.reg a) i 1 = 0 := bitAt_eq_false_iff _ _

/-! ### Gating (R441) -/

theorem State.domAbandon_eq (s : State) : ∃ f, s.domAbandon = { s with flows := f } :=
  List.foldlRecOn (motive := fun t : State => ∃ f, t = { s with flows := f }) _ _ ⟨_, rfl⟩ fun _ ⟨_, ht⟩ _ _ => ht ▸ ⟨_, rfl⟩

theorem State.rowsAbandon_eq (s : State) : ∃ x, s.rowsAbandon = { s with spy := { s.spy with tables := x } } :=
  List.foldlRecOn (motive := fun t : State => ∃ x, t = { s with spy := { s.spy with tables := x } }) _ _ ⟨_, rfl⟩
    fun _ ⟨_, ht⟩ _ _ => ht ▸ ⟨_, rfl⟩

theorem State.dgAbandon_eq (s : State) : ∃ x, s.dgAbandon = { s with eng := { s.eng with dg := x } } :=
  List.foldlRecOn (motive := fun t : State => ∃ x, t = { s with eng := { s.eng with dg := x } }) _ _ ⟨_, rfl⟩ fun _ ⟨_, ht⟩ e _ => by
    subst ht
    split
    · exact ⟨_, rfl⟩
    · exact ⟨_, rfl⟩

/-- The gating of one mover. -/
theorem State.moverGate_spec (s : State) (n : Nat) : ∃ m, (if (s.mover n).st = 0 then s else s.setMover n {}) = { s with movers := m } ∧
    (Tab.get {} m n).st = 0 ∧ ∀ k, (s.mover k).st = 0 → (Tab.get {} m k).st = 0 := by
  split
  · exact ⟨s.movers, rfl, ‹_›, fun _ => id⟩
  · refine ⟨_, rfl, by rw [Tab.get_set_same], fun k hk => ?_⟩
    by_cases hkn : k = n
    · rw [hkn, Tab.get_set_same]
    · rwa [Tab.get_set_ne _ _ _ _ hkn]

theorem State.moversGate_spec (s : State) : ∃ m, s.moversGate = { s with movers := m } ∧ ∀ k, k < 256 → (Tab.get {} m k).st = 0 := by
  unfold State.moversGate
  induction 256 with
  | zero => exact ⟨s.movers, rfl, fun _ h => absurd h (Nat.not_lt_zero _)⟩
  | succ n ih =>
    obtain ⟨m, hm, hz⟩ := ih
    rw [List.range_succ, List.foldl_append, List.foldl_cons, List.foldl_nil, hm]
    obtain ⟨m', he, hn, hk⟩ := ({ s with movers := m } : State).moverGate_spec n
    refine ⟨m', he, fun k hlt => ?_⟩
    rcases Nat.lt_succ_iff_lt_or_eq.1 hlt with hlt | rfl
    · exact hk k (hz k hlt)
    · exact hn

/-- What gating keeps and what it empties, but for the movers and the compression units. -/
structure GateFrame (s t : State) : Prop where
  ctxs : t.ctxs = []
  jobs : t.jobs = []
  terms : t.terms = []
  scans : t.scans = []
  parts : t.parts = []
  evals : t.evals = []
  port : t.spy.port = []
  replies : t.spy.replies = []
  rx : t.net.rx = []
  tx : t.net.tx = []
  alm : t.alm = s.alm
  queues : t.queues = s.queues
  pins : t.pins = s.pins
  ctl : t.ctl = { s.ctl with scrub := t.ctl.scrub }
  peek : ∀ a, t.peek a = s.peek a
  reg : ∀ a, ¬IsMcReg a → t.reg a = s.reg a

/-- The first part of gating: contexts, pipelines, scans, searches, frames and Orrery. -/
def State.gateFront (s : State) : State :=
  let s := { s with ctxs := [], execs := [], l2todo := [], jobs := [], terms := [], scans := [], parts := [], evals := [] }
  let s := { s with spy := { s.spy with port := [], replies := [], stop := true }, net := { s.net with rx := [], tx := [] } }
  { s with orr := { s.orr with thr := [], lists := [], cur := [], offer := [], expiring := [], raised := [] } }
/-- The engines lose the jobs of their compression units. -/
def State.unitsGate (s : State) : State := { s with eng := { s.eng with units := [], wait := [] } }
/-- A scrub ends. -/
def State.scrubGate (s : State) : State := if s.scrBusy then s.scrubEnd 0x02C0 else s

theorem State.gate_eq (s : State) :
    s.gate = ((List.range 13).foldl State.mergeDrainAll (s.gateFront.domAbandon.rowsAbandon.unitsGate.dgAbandon.moversGate)).scrubGate := rfl

theorem State.raise_setReg_scrub (s : State) (a : Nat) (v : W64) (b : Bool) (n : Nat) :
    ({ s.setReg a v with ctl := { (s.setReg a v).ctl with scrub := b } } : State).raise n =
      { s with csr := (s.setReg a v).csr, orr := { s.orr with raised := s.orr.raised ++ [n] }, ctl := { s.ctl with scrub := b } } := rfl

theorem State.scrubGate_eq (s : State) : ∃ c o b, s.scrubGate = { s with csr := c, orr := o, ctl := { s.ctl with scrub := b } } ∧
    ∀ a, ¬IsMcReg a → ({ s with csr := c } : State).reg a = s.reg a := by
  have hreg (v : W64) (a : Nat) (ha : ¬IsMcReg a) : ({ s with csr := (s.setReg Reg.mcScrStat v).csr } : State).reg a = s.reg a :=
    (State.reg_congr rfl a).trans (State.reg_setReg_ne s _ v fun e => ha (by rw [e]; decide))
  unfold State.scrubGate
  split
  · exact ⟨_, _, _, s.raise_setReg_scrub Reg.mcScrStat _ false 36, hreg _⟩
  · exact ⟨s.csr, s.orr, s.ctl.scrub, rfl, fun _ _ => rfl⟩

namespace GateFrame
variable {s t : State}

theorem gateFront (s : State) : GateFrame s s.gateFront :=
  ⟨rfl, rfl, rfl, rfl, rfl, rfl, rfl, rfl, rfl, rfl, rfl, rfl, rfl, rfl, fun _ => rfl, fun _ _ => rfl⟩

theorem domAbandon (h : GateFrame s t) : GateFrame s t.domAbandon := by
  obtain ⟨f, hf⟩ := t.domAbandon_eq
  rw [hf]; exact { h with }
theorem rowsAbandon (h : GateFrame s t) : GateFrame s t.rowsAbandon := by
  obtain ⟨f, hf⟩ := t.rowsAbandon_eq
  rw [hf]; exact { h with }
theorem unitsGate (h : GateFrame s t) : GateFrame s t.unitsGate := { h with }
theorem dgAbandon (h : GateFrame s t) : GateFrame s t.dgAbandon := by
  obtain ⟨f, hf⟩ := t.dgAbandon_eq
  rw [hf]; exact { h with }
theorem moversGate (h : GateFrame s t) : GateFrame s t.moversGate := by
  obtain ⟨f, hf, -⟩ := t.moversGate_spec
  rw [hf]; exact { h with }

theorem mcStep {u : State} (h : GateFrame s t) (k : McStep t u) (hp : ∀ a, u.peek a = t.peek a) : GateFrame s u where
  ctxs := by rw [k.eq]; exact h.ctxs
  jobs := by rw [k.eq]; exact h.jobs
  terms := by rw [k.eq]; exact h.terms
  scans := by rw [k.eq]; exact h.scans
  parts := by rw [k.eq]; exact h.parts
  evals := by rw [k.eq]; exact h.evals
  port := by rw [k.eq]; exact h.port
  replies := by rw [k.eq]; exact h.replies
  rx := by rw [k.eq]; exact h.rx
  tx := by rw [k.eq]; exact h.tx
  alm := by rw [k.eq]; exact h.alm
  queues := by rw [k.eq]; exact h.queues
  pins := by rw [k.eq]; exact h.pins
  ctl := by rw [k.eq]; exact h.ctl
  peek a := (hp a).trans (h.peek a)
  reg a ha := (k.reg a ha).trans (h.reg a ha)

theorem scrubGate (h : GateFrame s t) : GateFrame s t.scrubGate := by
  obtain ⟨c, o, b, he, hc⟩ := t.scrubGate_eq
  rw [he]
  exact { h with
    ctl := congrArg (fun x : Control => { x with scrub := b }) h.ctl
    reg := fun a ha => (hc a ha).trans (h.reg a ha) }

end GateFrame

/-- What gating does: everything in progress is abandoned, and what Almanac, the queues and the memories hold stays. -/
theorem State.gate_spec (s : State) : GateFrame s s.gate ∧ s.gate.eng.units = [] ∧ ∀ k, k < 256 → (s.gate.mover k).st = 0 := by
  have h0 := ((GateFrame.gateFront s).domAbandon).rowsAbandon.unitsGate.dgAbandon.moversGate
  obtain ⟨d, hd⟩ := s.gateFront.domAbandon.rowsAbandon.unitsGate.dgAbandon_eq
  obtain ⟨m, hm, hz⟩ := s.gateFront.domAbandon.rowsAbandon.unitsGate.dgAbandon.moversGate_spec
  rw [State.gate_eq]
  have hunits : (s.gateFront.domAbandon.rowsAbandon.unitsGate.dgAbandon.moversGate).eng.units = [] := by rw [hm, hd]; rfl
  have hmovers : (s.gateFront.domAbandon.rowsAbandon.unitsGate.dgAbandon.moversGate).movers = m := by rw [hm]
  generalize s.gateFront.domAbandon.rowsAbandon.unitsGate.dgAbandon.moversGate = t at *
  have hstep : McStep t ((List.range 13).foldl State.mergeDrainAll t) := .foldl _ _ State.mergeDrainAll_step (.refl t)
  have hpeek (a : Nat) : ((List.range 13).foldl State.mergeDrainAll t).peek a = t.peek a :=
    List.foldlRecOn (motive := fun u : State => u.peek a = t.peek a) _ _ rfl fun (u : State) hu n _ => (u.peek_mergeDrainAll n a).trans hu
  refine ⟨(h0.mcStep hstep hpeek).scrubGate, ?_, fun k hk => ?_⟩
  · obtain ⟨c, o, b, he, -⟩ := State.scrubGate_eq ((List.range 13).foldl State.mergeDrainAll t)
    rw [he, hstep.eq]; exact hunits
  · obtain ⟨c, o, b, he, -⟩ := State.scrubGate_eq ((List.range 13).foldl State.mergeDrainAll t)
    rw [he, hstep.eq]
    show (Tab.get {} t.movers k).st = 0
    rw [hmovers]; exact hz k hk

/-! ### The start of HOLDUP -/

theorem State.reg_huOff (s : State) {a : Nat} (h : a ≠ Reg.huStat) : s.huOff.reg a = s.reg a :=
  ((s.setRegBit Reg.huStat 0 false).reg_setRegBit_ne _ _ _ h).trans (s.reg_setRegBit_ne _ _ _ h)

theorem State.huStat_huOff (s : State) : fld (s.huOff.reg Reg.huStat) 0 2 = 0 := by
  have h : s.huOff.reg Reg.huStat = setBit (setBit (s.reg Reg.huStat) 0 false) 1 false := by
    refine ((s.setRegBit Reg.huStat 0 false).reg_setRegBit_same _ _ _).trans ?_
    rw [State.reg_setRegBit_same]
  rw [h, fld_two, fld_setBit_ne _ _ (by decide), fld_setBit_same _ _ (by decide), fld_setBit_same _ _ (by decide)]
  rfl

/-- What a power failure does, with the island whose clock was lost where that led to it (R433, R441, R442). -/
def PowerFails (t : State) (clk : Option Nat) (u : State) : Prop :=
  let ready := fld (t.reg Reg.almStat) 0 1 = 1
  let dry := (∃ k, clk = some k ∧ (k = 9 ∨ (11 ≤ k ∧ k ≤ 16))) ∨ ¬ready
  (t.mode = modeHoldup ∨ t.ctl.failed = true → u = t) ∧
  (t.mode ≠ modeHoldup → t.ctl.failed = false → t.mode = modeInit → ¬ready → u = { t with ctl := { t.ctl with failed := true }, ctxs := [], jobs := [] }) ∧
  (t.mode ≠ modeHoldup → t.ctl.failed = false → t.mode ≠ modeInit ∨ ready → ∃ w : State,
    (dry ∨ fld (t.reg Reg.almStat) 7 1 = 1 → u = w) ∧ (¬dry → fld (t.reg Reg.almStat) 7 1 = 0 → u = w.flush) ∧
    w.mode = modeHoldup ∧ fld (w.reg Reg.devMode) 6 1 = 0 ∧ w.ctxs = [] ∧ w.jobs = [] ∧ w.terms = [] ∧ w.scans = [] ∧ w.parts = [] ∧ w.evals = [] ∧
    w.spy.port = [] ∧ w.spy.replies = [] ∧ w.net.rx = [] ∧ w.net.tx = [] ∧ w.eng.units = [] ∧ (∀ k, k < 256 → (w.mover k).st = 0) ∧ w.alm = t.alm ∧
    w.queues = t.queues ∧ (∀ a, w.peek a = t.peek a) ∧ fld (w.reg Reg.huStat) 0 2 = 0 ∧ w.pins.huTest = false ∧ w.ctl.measuring = false ∧
    w.ctl.holdAt = some t.mer.ns ∧ (w.ctl.holdDry = true ↔ dry) ∧ w.ctl.holdClk = clk.isSome)

/-- DEV_MODE, and the record of how HOLDUP began. -/
def State.enterHoldup (s : State) (clk : Option Nat) : State :=
  let s := s.setReg Reg.devMode (setBit (setFld (s.reg Reg.devMode) 0 3 modeHoldup) 6 false)
  { s with ctl := { s.ctl with holdAt := some s.mer.ns, holdDry := (clk.map flushNeeds).getD false || !s.regBit Reg.almStat 0
                               holdClk := clk.isSome, almReq := false } }

theorem State.powerFail_eq (s : State) (clk : Option Nat) : s.powerFail clk =
    if s.mode = modeHoldup ∨ s.ctl.failed then s
    else if s.mode = modeInit ∧ !s.regBit Reg.almStat 0 then s.stopInit
    else
      let w := (s.enterHoldup clk).gate.huOff
      if (s.enterHoldup clk).ctl.holdDry || w.regBit Reg.almStat 7 then w else w.flush := rfl

/-- The clock whose loss leads to HOLDUP is one that the flush needs. -/
theorem flushNeeds_iff (clk : Option Nat) : (clk.map flushNeeds).getD false = true ↔ ∃ k, clk = some k ∧ (k = 9 ∨ (11 ≤ k ∧ k ≤ 16)) := by
  cases clk with
  | none => simp
  | some k => simp [flushNeeds]

theorem State.powerFail_spec (t : State) (clk : Option Nat) : PowerFails t clk (t.powerFail clk) := by
  have hready : t.regBit Reg.almStat 0 = false ↔ ¬fld (t.reg Reg.almStat) 0 1 = 1 := by rw [← State.regBit_iff]; simp
  have hdry : (t.enterHoldup clk).ctl.holdDry = true ↔ (∃ k, clk = some k ∧ (k = 9 ∨ (11 ≤ k ∧ k ≤ 16))) ∨ ¬fld (t.reg Reg.almStat) 0 1 = 1 := by
    have hreg : ({ t with csr := (t.enterHoldup clk).csr } : State).regBit Reg.almStat 0 = t.regBit Reg.almStat 0 :=
      congrArg (bitAt · 0) (State.reg_setReg_ne t Reg.devMode _ (by decide))
    rw [← flushNeeds_iff, ← hready, ← hreg, ← Bool.not_eq_true', ← Bool.or_eq_true]
    rfl
  rw [State.powerFail_eq]
  refine ⟨fun h => if_pos h, fun h1 h2 h3 h4 => ?_, fun h1 h2 h3 => ?_⟩
  · rw [if_neg (by simp [h1, h2]), if_pos ⟨h3, by simp [hready.2 h4]⟩]; rfl
  · have hgo : ¬(t.mode = modeInit ∧ (!t.regBit Reg.almStat 0) = true) := by
      rintro ⟨hi, hn⟩; simp only [Bool.not_eq_true'] at hn; exact h3.elim (· hi) (hready.1 hn)
    rw [if_neg (by simp [h1, h2]), if_neg hgo]
    generalize hw : (t.enterHoldup clk).gate.huOff = w
    obtain ⟨hg, hunits, hmovers⟩ := (t.enterHoldup clk).gate_spec
    have hreg (a : Nat) (ha : ¬IsMcReg a) (hs : a ≠ Reg.huStat) (hm : a ≠ Reg.devMode) : w.reg a = t.reg a := by
      rw [← hw, State.reg_huOff _ hs, hg.reg a ha]
      exact State.reg_setReg_ne _ _ _ hm
    have hmode : w.reg Reg.devMode = setBit (setFld (t.reg Reg.devMode) 0 3 modeHoldup) 6 false := by
      rw [← hw, State.reg_huOff _ (by decide), hg.reg _ (by decide)]
      exact State.reg_setReg_same _ _ _
    have halm : w.reg Reg.almStat = t.reg Reg.almStat := hreg _ (by decide) (by decide) (by decide)
    have hflush : (w.regBit Reg.almStat 7 = true) ↔ fld (t.reg Reg.almStat) 7 1 = 1 := by rw [State.regBit_iff, halm]
    have hctl : w.ctl = { (t.enterHoldup clk).ctl with measuring := false, scrub := w.ctl.scrub } := by
      rw [← hw]; exact congrArg (fun c : Control => { c with measuring := false }) hg.ctl
    refine ⟨w, fun h => ?_, fun h h0 => ?_, ?_⟩
    · refine if_pos ?_
      rw [Bool.or_eq_true, hdry, hflush]; exact h
    · refine if_neg ?_
      rw [Bool.or_eq_true, hdry, hflush, h0]; simpa using h
    refine ⟨?_, ?_, ?_⟩
    · rw [State.mode, hmode, fld_setBit_ne _ _ (by decide), fld_setFld_same _ _ (by decide)]; rfl
    · rw [hmode, fld_setBit_same _ _ (by decide)]; rfl
    have hpeek (a : Nat) : w.peek a = t.peek a := by rw [← hw]; exact (hg.peek a).trans rfl
    rw [hctl]
    subst hw
    exact ⟨hg.ctxs, hg.jobs, hg.terms, hg.scans, hg.parts, hg.evals, hg.port, hg.replies, hg.rx, hg.tx, hunits, hmovers, hg.alm, hg.queues, hpeek,
      State.huStat_huOff _, rfl, rfl, rfl, hdry, rfl⟩

end Sys2Proof.Machine
end

section
/-! PF_N, THERMAL_TRIP and the clocks (R433, R441, R453, R459). -/

namespace Sys2Proof.Machine

/-- PF_N: a pulse below 50 ns is ignored, one of 200 ns registers, and between the two either may happen (R453). -/
theorem exec_pfN (n : Nat) (s : State) : ∃ u, exec (.pfN n) s = .next u ∧ (n < 50 → u = s) ∧
    (200 ≤ n → s.pins.porN = false → s.mode ≠ modeHoldup → u = { s with pins := { s.pins with pfN := false } }) ∧
    (200 ≤ n → s.pins.porN = true ∨ s.mode = modeHoldup → PowerFails s none u) ∧
    (50 ≤ n → n < 200 → s.pins.porN = true → u = { s with free := s.free + 1 } ∨ PowerFails { s with free := s.free + 1 } none u) := by
  refine ⟨_, rfl, fun h => if_pos h, fun h hp hm => ?_, fun h hp => ?_, fun h h' hp => ?_⟩
  · rw [if_neg (by omega)]
    simp only [show ¬n < 200 by omega, false_and, if_false]
    rw [if_pos (by simp [hp, hm])]
  · rw [if_neg (by omega)]
    simp only [show ¬n < 200 by omega, false_and, if_false]
    rw [if_neg (by rcases hp with hp | hp <;> simp [hp])]
    exact s.powerFail_spec none
  · rw [if_neg (by omega)]
    simp only [h', true_and, if_true]
    split
    · exact .inl rfl
    · rw [if_neg (by simp [State.fresh, hp])]
      exact .inr (State.powerFail_spec _ none)

/-- THERMAL_TRIP: an HBM sensor at 95 °C, or another at 105 °C, asserts therm_n and is a power failure (R459). -/
theorem exec_thermalTrip (sensor : Fin 9) (n : Nat) (s : State) : ∃ u, exec (.thermalTrip sensor n) s = .next u ∧
    let k := sensor.val
    let trips := s.pins.porN = true ∧ (if 4 ≤ k ∧ k ≤ 7 then 760 else 840) ≤ n
    (¬trips → u = s) ∧ (trips → PowerFails { (s.setReg (Reg.devTemp k) (BitVec.ofNat 64 (min n 4095))).setRegBit Reg.devPwrStat 32 true with
      pins := { s.pins with thermN := false } } none u) := by
  refine ⟨_, rfl, fun h => if_pos ?_, fun ⟨hp, ht⟩ => ?_⟩
  · rw [Bool.or_eq_true, Bool.not_eq_true', decide_eq_true_eq]
    by_cases hp : s.pins.porN = true
    · exact .inr (Nat.lt_of_not_le fun ht => h ⟨hp, ht⟩)
    · exact .inl (by simpa using hp)
  · rw [if_neg (by rw [hp, Bool.not_true, Bool.false_or, decide_eq_true_eq]; exact Nat.not_lt.2 ht)]
    exact State.powerFail_spec _ none

/-! ### Clocks (R433) -/

theorem State.not_regBit_iff (s : State) (a i : Nat) : (!s.regBit a i) = true ↔ ¬fld (s.reg a) i 1 = 1 := by
  rw [← State.regBit_iff, Bool.not_eq_true', Bool.not_eq_true]

theorem exec_clockLockLost (i : Fin 20) (s : State) : ∃ u, exec (.clockLockLost i) s = .next u ∧
    (¬fld (s.reg Reg.devClkStat) i.val 1 = 1 → u = s) ∧
    (fld (s.reg Reg.devClkStat) i.val 1 = 1 → ¬fld (u.reg Reg.devClkStat) i.val 1 = 1 ∧ fld (u.reg Reg.devClkStat) (32 + i.val) 1 = 1 ∧
      44 ∈ u.orr.raised ∧ Tab.get 0 u.ctl.lostAt i.val = s.mer.ns ∧ u.mem = s.mem) := by
  have hi := i.isLt
  refine ⟨_, rfl, fun h => if_pos ((s.not_regBit_iff _ _).2 h), fun h => ?_⟩
  rw [if_neg (fun hn => (s.not_regBit_iff _ _).1 hn h)]
  have hreg : ((s.setRegBit Reg.devClkStat i.val false).setRegBit Reg.devClkStat (32 + i.val) true).reg Reg.devClkStat =
      setBit (setBit (s.reg Reg.devClkStat) i.val false) (32 + i.val) true := by simp
  generalize hs1 : (s.setRegBit Reg.devClkStat i.val false).setRegBit Reg.devClkStat (32 + i.val) true = s1 at *
  have hmer : s1.mer = s.mer := by rw [← hs1]; rfl
  have hmem : s1.mem = s.mem := by rw [← hs1]; rfl
  refine ⟨?_, ?_, List.mem_append_right _ (List.mem_singleton.2 rfl), ?_, hmem⟩
  · show ¬fld (s1.reg Reg.devClkStat) i.val 1 = 1
    rw [hreg, fld_setBit_ne _ _ (by omega), fld_setBit_same _ _ (by omega)]
    decide
  · show fld (s1.reg Reg.devClkStat) (32 + i.val) 1 = 1
    rw [hreg, fld_setBit_same _ _ (by omega)]
    rfl
  · exact (Tab.get_set_same _ _ _ _).trans (congrArg Meridian.ns hmer)

theorem State.stopped_iff (s : State) (i : Nat) : s.stopped i = true ↔ 1 ∈ s.ctl.steps ∧ ¬fld (s.reg Reg.devClkStat) i 1 = 1 := by
  rw [State.stopped, Bool.and_eq_true, decide_eq_true_eq, State.not_regBit_iff]
theorem State.lostLong_iff (s : State) (i : Nat) : s.lostLong i = true ↔ 1000000 ≤ (s.mer.ns - Tab.get 0 s.ctl.lostAt i).toNat := decide_eq_true_iff

/-- A context that has waited and may issue again. -/
def Ctx.woken (c : Ctx) : Ctx := { c with st := .ready, wait := .none }

/-- Waking changes contexts alone: each that waits as told becomes ready. -/
theorem State.wakeAll_spec (s : State) (xs : List Nat) (w : Wait) (hw : w ≠ .none) : ∃ c, s.wakeAll xs w = { s with ctxs := c } ∧
    ∀ y, Tab.get {} c y = if y ∈ xs ∧ (s.ctx y).wait = w then (s.ctx y).woken else s.ctx y := by
  unfold State.wakeAll
  induction xs using List.reverseRecOn with
  | nil => exact ⟨s.ctxs, rfl, fun y => by simp [State.ctx]⟩
  | append_singleton xs x ih =>
    obtain ⟨c, hc, hg⟩ := ih
    have hx := hg x
    rw [List.foldl_append, List.foldl_cons, List.foldl_nil, hc]
    simp only [List.mem_append, List.mem_singleton]
    by_cases hin : x ∈ xs ∧ (s.ctx x).wait = w
    · refine ⟨c, if_neg ?_, fun y => ?_⟩
      · show ¬(Tab.get {} c x).wait = w
        rw [hx, if_pos hin]; exact Ne.symm hw
      · by_cases hy : y = x
        · subst hy; rw [hx, if_pos hin, if_pos ⟨.inl hin.1, hin.2⟩]
        · rw [hg y]; simp only [hy, or_false]
    · rw [if_neg hin] at hx
      by_cases hwait : (s.ctx x).wait = w
      · refine ⟨Tab.set {} c x (s.ctx x).woken, (if_pos ?_).trans ?_, fun y => ?_⟩
        · show (Tab.get {} c x).wait = w
          rw [hx, hwait]
        · show ({ s with ctxs := c } : State).setCtx x { Tab.get {} c x with st := .ready, wait := .none } = _
          rw [hx]; rfl
        · by_cases hy : y = x
          · subst hy; rw [Tab.get_set_same, if_pos ⟨.inr rfl, hwait⟩]
          · rw [Tab.get_set_ne _ _ _ _ hy, hg y]; simp only [hy, or_false]
      · refine ⟨c, if_neg ?_, fun y => ?_⟩
        · show ¬(Tab.get {} c x).wait = w
          rwa [hx]
        · by_cases hy : y = x
          · subst hy; rw [hx, if_neg fun h => hwait h.2]
          · rw [hg y]; simp only [hy, or_false]

/-- CLOCK_RELOCK: within 1 ms operation goes on, and contexts whose transfers waited may issue. -/
theorem exec_clockRelock (i : Fin 20) (s : State) : ∃ u, exec (.clockRelock i) s = .next u ∧
    let locked (t : State) : Prop := fld (t.reg Reg.devClkStat) i.val 1 = 1
    let go := ¬locked s ∧ 1 ∈ s.ctl.steps ∧ ¬1000000 ≤ (s.mer.ns - Tab.get 0 s.ctl.lostAt i.val).toNat
    (¬go → u = s) ∧ (go → locked u ∧ u.reg Reg.devClkStat = s.reg Reg.devClkStat + BitVec.ofNat 64 (2 ^ i.val) ∧ u.mem = s.mem ∧ u.mode = s.mode ∧
      ∀ x, x < 2112 → ((s.ctx x).wait = .clock → u.ctx x = { s.ctx x with st := .ready, wait := .none }) ∧
        ((s.ctx x).wait ≠ .clock → u.ctx x = s.ctx x)) := by
  have hi := i.isLt
  have hgo : (!s.stopped i.val || s.lostLong i.val) = true ↔
      ¬(¬fld (s.reg Reg.devClkStat) i.val 1 = 1 ∧ 1 ∈ s.ctl.steps ∧ ¬1000000 ≤ (s.mer.ns - Tab.get 0 s.ctl.lostAt i.val).toNat) := by
    rw [Bool.or_eq_true, Bool.not_eq_true', ← Bool.not_eq_true, s.stopped_iff, s.lostLong_iff]; tauto
  refine ⟨_, rfl, fun h => if_pos (hgo.2 h), fun h => ?_⟩
  rw [if_neg fun h' => hgo.1 h' h]
  have hclk : (s.setRegBit Reg.devClkStat i.val true).reg Reg.devClkStat = setBit (s.reg Reg.devClkStat) i.val true := by simp
  have hmode : (s.setRegBit Reg.devClkStat i.val true).mode = s.mode := congrArg (fld · 0 3) (State.reg_setRegBit_ne _ _ _ _ (by decide))
  have hmem : (s.setRegBit Reg.devClkStat i.val true).mem = s.mem := rfl
  have hctx (x : Nat) : (s.setRegBit Reg.devClkStat i.val true).ctx x = s.ctx x := rfl
  generalize s.setRegBit Reg.devClkStat i.val true = s1 at *
  obtain ⟨c, hc, hg⟩ := State.wakeAll_spec { s1 with ctl := { s1.ctl with lostAt := Tab.set 0 s1.ctl.lostAt i.val 0 } } (List.range 2112) .clock nofun
  dsimp only
  rw [hc]
  refine ⟨?_, hclk.trans (setBit_true_eq_add _ (by omega) ((bitAt_eq_false_iff _ _).2 ?_)), hmem, hmode, fun x hx => ?_⟩
  · show fld (s1.reg Reg.devClkStat) i.val 1 = 1
    rw [hclk, fld_setBit_same _ _ (by omega)]; rfl
  · have := fld_lt (s.reg Reg.devClkStat) i.val 1
    have := h.1
    omega
  · have hgx : Tab.get {} c x = if x ∈ List.range 2112 ∧ (s.ctx x).wait = .clock then (s.ctx x).woken else s.ctx x := by
      rw [← hctx]; exact hg x
    exact ⟨fun hw => hgx.trans (if_pos ⟨List.mem_range.2 hx, hw⟩), fun hw => hgx.trans (if_neg fun h' => hw h'.2)⟩

/-- CLOCK_LOST_TIMEOUT: without a relock in 1 ms the device proceeds as if power had failed. -/
theorem exec_clockLostTimeout (i : Fin 20) (s : State) : ∃ u, exec (.clockLostTimeout i) s = .next u ∧
    let due := ¬fld (s.reg Reg.devClkStat) i.val 1 = 1 ∧ 1 ∈ s.ctl.steps ∧ 1000000 ≤ (s.mer.ns - Tab.get 0 s.ctl.lostAt i.val).toNat
    (¬due → u = s) ∧ (due → PowerFails s (some i.val) u) := by
  have hdue : (!s.stopped i.val || !s.lostLong i.val) = true ↔
      ¬(¬fld (s.reg Reg.devClkStat) i.val 1 = 1 ∧ 1 ∈ s.ctl.steps ∧ 1000000 ≤ (s.mer.ns - Tab.get 0 s.ctl.lostAt i.val).toNat) := by
    rw [Bool.or_eq_true, Bool.not_eq_true', Bool.not_eq_true', ← Bool.not_eq_true, ← Bool.not_eq_true, s.stopped_iff, s.lostLong_iff]; tauto
  refine ⟨_, rfl, fun h => if_pos (hdue.2 h), fun h => ?_⟩
  rw [if_neg fun h' => hdue.1 h' h]
  exact s.powerFail_spec _

end Sys2Proof.Machine
end

section
/-! The end of HOLDUP, and the hold-up controller (R436, R438–R441). -/

namespace Sys2Proof.Machine

/-! ### Writes of the root record -/

theorem State.Calm.recRead_congr {s t : State} (hs : s.Calm) (ht : t.Calm) (h : ∀ a, t.peek a = s.peek a) :
    t.recRead rootMagic rootAddr = s.recRead rootMagic rootAddr := by
  have hb (b : Bool) : t.bankRead (rootAddr b) = s.bankRead (rootAddr b) := by
    rw [hs.bankRead (mramBase_le_rootAddr b), ht.bankRead (mramBase_le_rootAddr b), State.peekN_congr h]
  unfold State.recRead State.recWinner
  simp only [hb]

/-- The root record of `u` is that of `s` rewritten: its contents are as told, and its sequence number is the next (R435). It says so of
states in which no code word holds an error and the sequence number has room. -/
def RootRewritten (s u : State) (f : List Byte → Prop) : Prop :=
  s.Calm → bankSeq ((s.recRead rootMagic rootAddr).getD []) + 1 < 2 ^ 64 →
    ∃ l, u.recRead rootMagic rootAddr = some l ∧ f l ∧ bankSeq l = bankSeq ((s.recRead rootMagic rootAddr).getD []) + 1

/-- Two states hold the same bytes and error states. -/
def SameMemory (s t : State) : Prop := t.mem = s.mem ∧ t.merge = s.merge ∧ t.ecc = s.ecc

theorem SameMemory.calm {s t : State} (h : SameMemory s t) (hc : s.Calm) : t.Calm := hc.congr h.2.2
theorem SameMemory.recRead {s t : State} (h : SameMemory s t) (hc : s.Calm) : t.recRead rootMagic rootAddr = s.recRead rootMagic rootAddr :=
  hc.recRead_congr (h.calm hc) (State.peek_congr h.1 h.2.1)

theorem rootRewritten {s t u : State} {edit : List Byte → List Byte} {f : List Byte → Prop} (he : KeepsHeader edit) (ht : SameMemory s t)
    (hu : SameMemory (t.rootWrite edit) u)
    (hf : ∀ old l : List Byte, old.length = 4096 → (∀ k n, 16 ≤ k → k + n ≤ 4092 → recFld l k n = recFld (edit old) k n) → f l) :
    RootRewritten s u f := by
  intro hc hseq
  have hct := ht.calm hc
  rw [← ht.recRead hc] at hseq ⊢
  obtain ⟨l, hl, hs, hfld⟩ := hct.recRead_rootWrite he hseq
  exact ⟨l, (hu.recRead (hct.rootWrite edit)).trans hl, hf _ l hct.rootOld_header.1 hfld, hs⟩

theorem keepsHeader_putAt {o : Nat} {v : List Byte} (ho : 8 ≤ o) (hv : o + v.length ≤ 4096) : KeepsHeader fun l => putAt l o v := fun l hl =>
  ⟨(length_putAt l v (hl ▸ hv)).trans hl, fun _ _ h => recFld_putAt_ne l v (hl ▸ hv) (.inl (by omega))⟩

theorem KeepsHeader.comp {f g : List Byte → List Byte} (hg : KeepsHeader g) (hf : KeepsHeader f) : KeepsHeader fun l => g (f l) := fun l hl =>
  have ⟨hfl, hfk⟩ := hf l hl
  have ⟨hgl, hgk⟩ := hg (f l) hfl
  ⟨hgl, fun k n h => (hgk k n h).trans (hfk k n h)⟩

/-! ### HOLDUP_DONE -/

/-- Three flags packed in a byte. -/
theorem flags_packed (a b c : Bool) : let x := (a.toNat + b.toNat * 2 + c.toNat * 4) % 256 ^ 1
    (x % 2 = 1 ↔ a = true) ∧ (x / 2 % 2 = 1 ↔ b = true) ∧ (x / 4 = 1 ↔ c = true) := by
  cases a <;> cases b <;> cases c <;> decide

/-- The budget of HU_CFG1 in ms, 40 where the field is 0 or above it. -/
def State.holdBudget (s : State) : Nat := let b := fld (s.reg Reg.huCfg1) 16 8; if b = 0 ∨ 40 < b then 40 else b

/-- The HOLDUP fields of the root record as HOLDUP_DONE leaves them (R436). -/
def State.HoldFields (s : State) (l : List Byte) : Prop :=
  let us := (s.mer.ns - s.ctl.holdAt.getD 0).toNat / 1000
  recFld l 72 4 = us % 2 ^ 32 ∧ (recFld l 76 1 % 2 = 1 ↔ s.ctl.holdDry = false) ∧ (recFld l 76 1 / 2 % 2 = 1 ↔ 1000 * s.holdBudget < us) ∧
    (recFld l 76 1 / 4 = 1 ↔ s.ctl.holdClk = true)

theorem State.holdRecord_written (s u : State) (hu : SameMemory s.holdRecord u) : RootRewritten s u s.HoldFields := by
  have h72 (v : Nat) : 72 + (leBytes 4 v).length ≤ 4096 := by rw [length_leBytes]; decide
  have h76 (v : Nat) : 76 + (leBytes 1 v).length ≤ 4096 := by rw [length_leBytes]; decide
  refine rootRewritten ((keepsHeader_putAt (by decide) (h76 _)).comp (keepsHeader_putAt (by decide) (h72 _))) ⟨rfl, rfl, rfl⟩ hu
    fun old l hold hfld => ?_
  unfold State.HoldFields
  dsimp only at hfld ⊢
  generalize (s.mer.ns - s.ctl.holdAt.getD 0).toNat / 1000 = us at *
  have hlen : (putAt old 72 (leBytes 4 us)).length = 4096 := by rw [length_putAt _ _ (hold ▸ h72 us), hold]
  obtain ⟨hdone, hover, hclk⟩ := flags_packed (!s.ctl.holdDry) (decide (1000 * s.holdBudget < us)) s.ctl.holdClk
  rw [hfld 72 4 (by decide) (by decide), hfld 76 1 (by decide) (by decide), recFld_putAt_ne _ _ (hlen ▸ h76 _) (.inl (by decide)),
    recFld_putAt_in _ _ (hold ▸ h72 us) (by decide) (by rw [length_leBytes]), recFld_leBytes,
    recFld_putAt_in _ _ (hlen ▸ h76 _) (by decide) (by rw [length_leBytes]), recFld_leBytes]
  rw [Bool.not_eq_true'] at hdone
  rw [decide_eq_true_eq] at hover
  exact ⟨rfl, hdone, hover, hclk⟩

theorem State.holdRecord_step (s : State) : McStep s s.holdRecord := by
  unfold State.holdRecord
  exact s.rootWrite_step _

/-- Whether HOLDUP_DONE writes the root record (R433, R442). -/
def State.holdWrites (s : State) : Bool := s.regBit Reg.devClkStat 9 && (!s.ctl.holdDry || (s.ctl.holdClk && s.regBit Reg.almStat 0))
/-- HOLD_DONE and holdup_done rise. -/
def State.holdEnd (s : State) : State := { s.setRegBit Reg.huStat 5 true with pins := { (s.setRegBit Reg.huStat 5 true).pins with holdupDone := true } }

theorem State.reg_holdEnd (s : State) (a : Nat) : s.holdEnd.reg a = (s.setRegBit Reg.huStat 5 true).reg a := rfl
theorem State.holdEnd_sameMemory (s : State) : SameMemory s s.holdEnd := ⟨rfl, rfl, rfl⟩

theorem exec_holdupDone_eq (s : State) : exec .holdupDone s = .next (if s.mode ≠ modeHoldup ∨ s.holdDone then s else
    let t := (if s.holdWrites then s.holdRecord else s).holdEnd
    if t.pins.porN then t else t.por) := rfl

/-- HOLDUP_DONE: the root record takes the HOLDUP fields where R433 and R442 let it, HOLD_DONE and holdup_done rise, and a POR that por_n held
takes effect (R441, R450). -/
theorem exec_holdupDone (s : State) : ∃ u, exec .holdupDone s = .next u ∧
    let go := s.mode = modeHoldup ∧ fld (s.reg Reg.huStat) 5 1 = 0
    let writes := fld (s.reg Reg.devClkStat) 9 1 = 1 ∧ (s.ctl.holdDry = false ∨ (s.ctl.holdClk = true ∧ fld (s.reg Reg.almStat) 0 1 = 1))
    (¬go → u = s) ∧ (go → s.pins.porN = false → u.csr = [] ∧ u.ctl.steps = [] ∧ u.queues = State.reset.queues ∧ u.alm.nand = s.alm.nand) ∧
    (go → s.pins.porN = true → fld (u.reg Reg.huStat) 5 1 = 1 ∧ u.pins.holdupDone = true ∧ u.mode = modeHoldup ∧ (¬writes → u.mem = s.mem) ∧
      (writes → RootRewritten s u s.HoldFields)) := by
  have hgo : (s.mode ≠ modeHoldup ∨ s.holdDone = true) ↔ ¬(s.mode = modeHoldup ∧ fld (s.reg Reg.huStat) 5 1 = 0) := by
    rw [← State.regBit_eq_false_iff, State.holdDone, Decidable.not_and_iff_or_not, Bool.not_eq_false]
  have hwrites : s.holdWrites = true ↔
      fld (s.reg Reg.devClkStat) 9 1 = 1 ∧ (s.ctl.holdDry = false ∨ (s.ctl.holdClk = true ∧ fld (s.reg Reg.almStat) 0 1 = 1)) := by
    simp only [State.holdWrites, Bool.and_eq_true, Bool.or_eq_true, Bool.not_eq_true', State.regBit_iff]
  generalize hs0 : (if s.holdWrites then s.holdRecord else s) = s0
  have hstep : McStep s s0 := by rw [← hs0]; split <;> [exact s.holdRecord_step; exact .refl s]
  have hpin : s0.holdEnd.pins.porN = s.pins.porN := show s0.pins.porN = s.pins.porN by rw [hstep.pins]
  refine ⟨_, exec_holdupDone_eq s, fun h => if_pos (hgo.2 h), fun h hp => ?_, fun h hp => ?_⟩
  · simp only [if_neg fun h' => hgo.1 h' h, hs0, hpin, hp, Bool.false_eq_true, if_false]
    exact ⟨rfl, rfl, rfl, show s0.alm.nand = s.alm.nand by rw [hstep.alm]⟩
  · simp only [if_neg fun h' => hgo.1 h' h, hs0, hpin, hp, if_true]
    refine ⟨?_, rfl, ?_, fun hw => ?_, fun hw => ?_⟩
    · rw [State.reg_holdEnd, State.reg_setRegBit_same, fld_setBit_same _ _ (by decide)]; rfl
    · rw [State.mode, State.reg_holdEnd, State.reg_setRegBit_ne _ _ _ _ (by decide), hstep.reg _ (by decide)]; exact h.1
    · have : s0 = s := by rw [← hs0]; exact if_neg fun h' => hw (hwrites.1 h')
      rw [this]; rfl
    · have : s0 = s.holdRecord := by rw [← hs0]; exact if_pos (hwrites.2 hw)
      exact s.holdRecord_written _ (this ▸ s0.holdEnd_sameMemory)

end Sys2Proof.Machine
end

section
/-! VOLTAGE_SAMPLE and the requests of a measurement (R438, R439). -/

namespace Sys2Proof.Machine

/-! ### VOLTAGE_SAMPLE -/

/-- V and LOW, and the sample among the last ten. -/
def State.takeSample (s : State) (v : Nat) : State :=
  let t := (s.setReg Reg.huV (BitVec.ofNat 64 v)).setRegBit Reg.huStat 3 (decide (v ≤ s.vMin))
  { t with ctl := { t.ctl with samples := (v :: t.ctl.samples).take 10 } }
/-- E for the lowest sample. -/
def State.setEnergy (s : State) : State := s.setReg Reg.huE (BitVec.ofNat 64 (s.energy s.vLow / (2 * 10 ^ 12) % 2 ^ 32))
/-- Whether the charger is switched on or off at a voltage, or stays. -/
def State.chargeFor (s : State) (v : Nat) : Option Bool :=
  if s.ctl.measuring ∨ s.mode = modeHoldup then some false
  else if 100 * v < 98 * s.vFull then some true else if s.vFull ≤ v then some false else none
/-- CHG as chosen. -/
def State.charge (s : State) : Option Bool → State
  | some b => s.setRegBit Reg.huStat 0 b
  | none => s

theorem State.charge_chargeFor (t : State) (v : Nat) : t.charge (t.chargeFor v) =
    if t.ctl.measuring ∨ t.mode = modeHoldup then t.setRegBit Reg.huStat 0 false
    else if 100 * v < 98 * t.vFull then t.setRegBit Reg.huStat 0 true
    else if t.vFull ≤ v then t.setRegBit Reg.huStat 0 false else t := by
  unfold State.chargeFor
  split_ifs <;> rfl

theorem exec_voltageSample_eq (n : Nat) (s : State) : exec (.voltageSample n) s = .next (if !s.huOn then s else
    let v := min (n * fld (s.reg Reg.huCfg2) 32 32 / 1000) (2 ^ 20 - 1)
    let t := (s.takeSample v).step8.setEnergy
    t.charge (t.chargeFor v)) := by
  simp only [State.charge_chargeFor]
  rfl

theorem State.step8_eq (s : State) : s.step8 = { s with ctl := { s.ctl with
    steps := if s.ctl.recovered ∧ s.ctl.samples ≠ [] ∧ 8 ∉ s.ctl.steps then s.ctl.steps ++ [8] else s.ctl.steps } } := by
  unfold State.step8 State.stepDone
  split <;> rfl

section
variable (s : State) (v : Nat)

/-- What a sample changes but for the charger. -/
theorem State.sampled_spec : let t := (s.takeSample v).step8.setEnergy
    t.reg Reg.huV = BitVec.ofNat 64 v ∧ t.reg Reg.huStat = setBit (s.reg Reg.huStat) 3 (decide (v ≤ s.vMin)) ∧
    t.reg Reg.huE = BitVec.ofNat 64 ((s.takeSample v).step8.energy (s.takeSample v).step8.vLow / (2 * 10 ^ 12) % 2 ^ 32) ∧
    (∀ a, a ≠ Reg.huV → a ≠ Reg.huStat → a ≠ Reg.huE → t.reg a = s.reg a) ∧ t.mem = s.mem ∧
    t.ctl = { s.ctl with samples := (v :: s.ctl.samples).take 10
                         steps := if s.ctl.recovered ∧ 8 ∉ s.ctl.steps then s.ctl.steps ++ [8] else s.ctl.steps } := by
  have hreg (a : Nat) : (s.takeSample v).step8.reg a =
      ((s.setReg Reg.huV (BitVec.ofNat 64 v)).setRegBit Reg.huStat 3 (decide (v ≤ s.vMin))).reg a := by rw [State.step8_eq]; rfl
  have hne : (v :: s.ctl.samples).take 10 ≠ [] := by rw [List.take_succ_cons]; exact List.cons_ne_nil _ _
  refine ⟨?_, ?_, State.reg_setReg_same _ _ _, fun a h1 h2 h3 => ?_, ?_, ?_⟩
  · rw [State.setEnergy, State.reg_setReg_ne _ _ _ (by decide), hreg, State.reg_setRegBit_ne _ _ _ _ (by decide), State.reg_setReg_same]
  · rw [State.setEnergy, State.reg_setReg_ne _ _ _ (by decide), hreg, State.reg_setRegBit_same, State.reg_setReg_ne _ _ _ (by decide)]
  · rw [State.setEnergy, State.reg_setReg_ne _ _ _ h3, hreg, State.reg_setRegBit_ne _ _ _ _ h2, State.reg_setReg_ne _ _ _ h1]
  · rw [State.setEnergy, State.setReg_mem, State.step8_eq]; rfl
  · rw [State.setEnergy, State.setReg_ctl, State.step8_eq]
    simp [State.takeSample, State.setRegBit]

/-- E for the lowest of the last ten samples (R439). -/
theorem State.huE_sampled : let y := ((v :: s.ctl.samples).take 10).foldl min v
    (y ≤ s.vMin → (s.takeSample v).step8.setEnergy.reg Reg.huE = 0) ∧
    (s.vMin < y → (s.takeSample v).step8.setEnergy.reg Reg.huE =
      BitVec.ofNat 64 (s.huC * (y * y - s.vMin * s.vMin) * s.eta / (2 * 10 ^ 12) % 2 ^ 32)) := by
  have hreg (a : Nat) (h1 : a ≠ Reg.huV) (h2 : a ≠ Reg.huStat) : (s.takeSample v).step8.reg a = s.reg a := by
    rw [State.step8_eq]
    exact (State.reg_setRegBit_ne _ _ _ _ h2).trans (State.reg_setReg_ne _ _ _ h1)
  have hlow : (s.takeSample v).step8.vLow = ((v :: s.ctl.samples).take 10).foldl min v := by rw [State.step8_eq]; rfl
  have hmin : (s.takeSample v).step8.vMin = s.vMin := congrArg (fld · 0 20) (hreg _ (by decide) (by decide))
  have hc : (s.takeSample v).step8.huC = s.huC := congrArg (fld · 0 32) (hreg _ (by decide) (by decide))
  have heta : (s.takeSample v).step8.eta = s.eta := congrArg (fld · 40 10) (hreg _ (by decide) (by decide))
  obtain ⟨-, -, hE, -⟩ := s.sampled_spec v
  dsimp only at hE ⊢
  rw [hE, hlow, State.energy, hmin, hc, heta]
  generalize ((v :: s.ctl.samples).take 10).foldl min v = y
  refine ⟨fun h => ?_, fun h => ?_⟩
  · rw [if_pos h, Nat.zero_div, Nat.zero_mod]; rfl
  · rw [if_neg (Nat.not_le.2 h)]

end

/-! What the charger's switch changes. -/

theorem State.reg_charge_ne (t : State) (c : Option Bool) {a : Nat} (h : a ≠ Reg.huStat) : (t.charge c).reg a = t.reg a := by
  cases c with
  | none => rfl
  | some b => exact t.reg_setRegBit_ne _ _ _ h
theorem State.charge_mem (t : State) (c : Option Bool) : (t.charge c).mem = t.mem := by cases c <;> rfl
theorem State.charge_ctl (t : State) (c : Option Bool) : (t.charge c).ctl = t.ctl := by
  cases c with
  | none => rfl
  | some b => exact State.setReg_ctl _ _ _
theorem State.fld_charge_ne (t : State) (c : Option Bool) {lo w : Nat} (h : 1 ≤ lo) :
    fld ((t.charge c).reg Reg.huStat) lo w = fld (t.reg Reg.huStat) lo w := by
  cases c with
  | none => rfl
  | some b => rw [State.charge, State.reg_setRegBit_same, fld_setBit_ne _ _ (.inr h)]
theorem State.chg_charge (t : State) (c : Option Bool) :
    fld ((t.charge c).reg Reg.huStat) 0 1 = (c.map Bool.toNat).getD (fld (t.reg Reg.huStat) 0 1) := by
  cases c with
  | none => rfl
  | some b => rw [State.charge, State.reg_setRegBit_same, fld_setBit_same _ _ (by decide)]; rfl

/-- VOLTAGE_SAMPLE: V, LOW, E for the lowest of the last ten samples, and the charger (R438, R439). -/
theorem exec_voltageSample (n : Nat) (s : State) : ∃ u, exec (.voltageSample n) s = .next u ∧ (s.huOn = false → u = s) ∧
    (s.huOn = true →
      let x := min (n * fld (s.reg Reg.huCfg2) 32 32 / 1000) (2 ^ 20 - 1)
      let y := ((x :: s.ctl.samples).take 10).foldl min x
      let chg := fld (u.reg Reg.huStat) 0 1
      let off := s.ctl.measuring = true ∨ s.mode = modeHoldup
      u.reg Reg.huV = BitVec.ofNat 64 x ∧ (fld (u.reg Reg.huStat) 3 1 = 1 ↔ x ≤ s.vMin) ∧ u.mem = s.mem ∧
      u.ctl.steps = (if s.ctl.recovered = true ∧ 8 ∉ s.ctl.steps then s.ctl.steps ++ [8] else s.ctl.steps) ∧
      (y ≤ s.vMin → u.reg Reg.huE = 0) ∧
      (s.vMin < y → u.reg Reg.huE = BitVec.ofNat 64 (s.huC * (y * y - s.vMin * s.vMin) * s.eta / (2 * 10 ^ 12) % 2 ^ 32)) ∧
      (off → chg = 0) ∧ (¬off → 100 * x < 98 * s.vFull → chg = 1) ∧ (¬off → 98 * s.vFull ≤ 100 * x → s.vFull ≤ x → chg = 0) ∧
      (¬off → 98 * s.vFull ≤ 100 * x → x < s.vFull → chg = fld (s.reg Reg.huStat) 0 1)) := by
  refine ⟨_, exec_voltageSample_eq n s, fun h => if_pos (by rw [h]; rfl), fun h => ?_⟩
  rw [if_neg (by rw [h]; decide)]
  generalize min (n * fld (s.reg Reg.huCfg2) 32 32 / 1000) (2 ^ 20 - 1) = x
  obtain ⟨hE0, hE1⟩ := s.huE_sampled x
  obtain ⟨hV, hstat, -, hreg, hmem, hctl⟩ := s.sampled_spec x
  dsimp only at *
  generalize (s.takeSample x).step8.setEnergy = t at *
  have hfull : t.vFull = s.vFull := congrArg (fld · 20 20) (hreg _ (by decide) (by decide) (by decide))
  have hmode : t.mode = s.mode := congrArg (fld · 0 3) (hreg _ (by decide) (by decide) (by decide))
  have hmeas : t.ctl.measuring = s.ctl.measuring := by rw [hctl]
  have hchg0 : fld (t.reg Reg.huStat) 0 1 = fld (s.reg Reg.huStat) 0 1 := by rw [hstat, fld_setBit_ne _ _ (by decide)]
  rw [State.reg_charge_ne (a := Reg.huV) _ _ (by decide), State.reg_charge_ne (a := Reg.huE) _ _ (by decide), State.fld_charge_ne _ _ (by decide), State.charge_mem,
    State.charge_ctl, State.chg_charge, State.chargeFor, hmeas, hmode, hfull, hchg0]
  refine ⟨hV, ?_, hmem, by rw [hctl], hE0, hE1, fun ho => ?_, fun ho h1 => ?_, fun ho h1 h2 => ?_, fun ho h1 h2 => ?_⟩
  · rw [hstat, fld_setBit_same _ _ (by decide)]
    simp
  · rw [if_pos ho]; rfl
  · rw [if_neg ho, if_pos h1]; rfl
  · rw [if_neg ho, if_neg (Nat.not_lt.2 h1), if_pos h2]; rfl
  · rw [if_neg ho, if_neg (Nat.not_lt.2 h1), if_neg (Nat.not_le.2 h2)]; rfl

/-! ### MEAS and MEAS_DUE -/

theorem measReq_of_measuring {s : State} (h : s.ctl.measuring = true) : measReq s = s := if_pos h
theorem measReq_of_not_measuring {s : State} (h : s.ctl.measuring = false) : measReq s = { s with ctl := { s.ctl with measReq := true } } :=
  if_neg (by rw [h]; decide)

theorem exec_meas (s : State) : ∃ u, exec .meas s = .next u ∧ (s.ctl.measuring = true → u = s) ∧
    (s.ctl.measuring = false → u = { s with ctl := { s.ctl with measReq := true } }) :=
  ⟨measReq s, rfl, measReq_of_measuring, measReq_of_not_measuring⟩

/-- MEAS_DUE: a measurement is requested MEAS_H hours of powered time after the last (R438); the record is read, which changes no byte. -/
theorem exec_measDue (s : State) : ∃ u, exec .measDue s = .next u ∧
    let t := s.recTouch rootAddr
    let last := ((t.recRead rootMagic rootAddr).map fun l => recFld l 64 8).getD 0
    let due := s.huOn = true ∧ last + 3600 * fld (s.reg Reg.huCfg2) 0 16 ≤ s.ctl.powered0 + s.mer.ns.toNat / 10 ^ 9
    (¬due → u = t) ∧ (due → s.ctl.measuring = true → u = t) ∧
      (due → s.ctl.measuring = false → u = { t with ctl := { t.ctl with measReq := true } }) ∧ ∀ a, t.peek a = s.peek a := by
  have hstep := s.recTouch_step rootAddr
  have hpeek := s.peek_recTouch mramBase_le_rootAddr
  refine ⟨_, rfl, ?_⟩
  generalize s.recTouch rootAddr = t at *
  have hon : t.huOn = s.huOn := by unfold State.huOn; rw [hstep.pins, hstep.ctl]
  have hpow : t.powered = s.ctl.powered0 + s.mer.ns.toNat / 10 ^ 9 := by unfold State.powered; rw [hstep.ctl, hstep.mer]
  have hmeas : t.ctl.measuring = s.ctl.measuring := by rw [hstep.ctl]
  dsimp only
  rw [hon, hpow, hstep.reg Reg.huCfg2 (by decide), ← hmeas]
  generalize ((t.recRead rootMagic rootAddr).map fun l => recFld l 64 8).getD 0 = last
  refine ⟨fun h => if_neg fun h' => h ?_, fun h hm => ?_, fun h hm => ?_, hpeek⟩
  · simpa using h'
  · rw [if_pos (by simpa using h), measReq_of_measuring hm]
  · rw [if_pos (by simpa using h), measReq_of_not_measuring hm]

end Sys2Proof.Machine
end

section
/-! The limit of the write buffer, and the start and the end of a measurement (R438–R440). -/

namespace Sys2Proof.Machine

/-! ### The limit (R439, R440) -/

/-- The limit in MiB is 512 from 592 MiB per `t` on, and what exceeds 144 MiB below that. -/
theorem limit_le (t x : Nat) : (if 592 * 2 ^ 20 * t ≤ x then 512 else if 144 * 2 ^ 20 * t ≤ x then (x - 144 * 2 ^ 20 * t) / (2 ^ 20 * t) else 0) ≤ 512 := by
  split_ifs with h512 h144
  · exact Nat.le_refl _
  · exact Nat.div_le_of_le_mul (by omega)
  · exact Nat.zero_le _

theorem State.limitFor_le (s : State) (v : Nat) : s.limitFor v ≤ 512 := by
  unfold State.limitFor
  dsimp only
  split
  · exact Nat.zero_le _
  · exact limit_le _ _

/-- Without a measured C, with the override or before READY no byte may be buffered. -/
theorem State.limitFor_zero (s : State) (v : Nat) (h : fld (s.reg Reg.huStat) 2 1 = 0 ∨ fld (s.reg Reg.huCtl) 1 1 = 1 ∨ ¬fld (s.reg Reg.almStat) 0 1 = 1) :
    s.limitFor v = 0 := by
  have hoff : (!s.regBit Reg.huStat 2 || s.regBit Reg.huCtl 1 || !s.regBit Reg.almStat 0) = true := by
    rw [Bool.or_eq_true, Bool.or_eq_true, State.not_regBit_iff, State.not_regBit_iff, State.regBit_iff, or_assoc]
    exact h.imp (fun h => by rw [h]; decide) id
  unfold State.limitFor
  exact if_pos hoff

/-- The registers of the limit in force. -/
def State.limitRegs (s : State) (n : Nat) : State :=
  ((s.setReg Reg.almWbLimit (BitVec.ofNat 64 (n * 2 ^ 20))).setRegBit Reg.almStat 3 (decide (n = 0))).setRegFld Reg.huLimit 0 10 n
/-- The limit in force as written, before Almanac acts on it. -/
def State.limitSet (s : State) (n : Nat) : State :=
  let s := (s.limitRegs n).raise 43
  { s with ctl := { s.ctl with riseAt := none } }

theorem State.limitWrite_eq (s : State) (n : Nat) : s.limitWrite n = (s.limitSet n).almGo := rfl

/-- The limit shows in both registers, and source 43 is raised. -/
def LimitShown (w : State) (x : Nat) : Prop :=
  w.reg Reg.almWbLimit = BitVec.ofNat 64 (x * 2 ^ 20) ∧ fld (w.reg Reg.huLimit) 0 10 = x % 1024 ∧ 43 ∈ w.orr.raised

theorem State.limitRegs_limit (s : State) (n : Nat) : (s.limitRegs n).reg Reg.almWbLimit = BitVec.ofNat 64 (n * 2 ^ 20) := by
  rw [State.limitRegs, State.reg_setRegFld_ne _ _ _ _ _ (by decide), State.reg_setRegBit_ne _ _ _ _ (by decide), State.reg_setReg_same]

theorem State.limitRegs_huLimit (s : State) (n : Nat) : (s.limitRegs n).reg Reg.huLimit = setFld (s.reg Reg.huLimit) 0 10 n := by
  rw [State.limitRegs, State.reg_setRegFld_same, State.reg_setRegBit_ne _ _ _ _ (by decide), State.reg_setReg_ne _ _ _ (by decide)]

theorem State.limitRegs_mem (s : State) (n : Nat) : (s.limitRegs n).mem = s.mem := by
  simp only [State.limitRegs, State.setRegFld, State.setRegBit, State.setReg_mem]

theorem State.limitSet_of_regs (t : State) : let u : State := { t.raise 43 with ctl := { (t.raise 43).ctl with riseAt := none } }
    43 ∈ u.orr.raised ∧ u.ctl.riseAt = none ∧ u.mem = t.mem ∧ ∀ a, u.reg a = t.reg a :=
  ⟨List.mem_append_right _ (List.mem_singleton.2 rfl), rfl, rfl, fun _ => rfl⟩

theorem State.limitSet_spec (s : State) (n : Nat) : LimitShown (s.limitSet n) n ∧ (s.limitSet n).ctl.riseAt = none ∧ (s.limitSet n).mem = s.mem ∧
    fld ((s.limitSet n).reg Reg.huLimit) 16 10 = fld (s.reg Reg.huLimit) 16 10 := by
  obtain ⟨hraised, hrise, hmem, hreg⟩ := (s.limitRegs n).limitSet_of_regs
  have hlim : (s.limitSet n).reg Reg.huLimit = setFld (s.reg Reg.huLimit) 0 10 n := (hreg _).trans (s.limitRegs_huLimit n)
  refine ⟨⟨(hreg _).trans (s.limitRegs_limit n), ?_, hraised⟩, hrise, hmem.trans (s.limitRegs_mem n), ?_⟩
  · rw [hlim, fld_setFld_same _ _ (by decide)]; rfl
  · rw [hlim, fld_setFld_ne _ _ (by decide)]

theorem State.limitApply_spec (s : State) (n : Nat) : let now := (s.reg Reg.almWbLimit).toNat / 2 ^ 20
    ∃ w : State, fld (w.reg Reg.huLimit) 16 10 = n % 1024 ∧ w.mem = s.mem ∧
      (n < now → s.limitApply n = w.almGo ∧ LimitShown w n ∧ w.ctl.riseAt = none) ∧
      (n = now → s.limitApply n = w ∧ w.reg Reg.almWbLimit = s.reg Reg.almWbLimit ∧ w.ctl.riseAt = none) ∧
      (now < n → s.ctl.riseAt = none → s.limitApply n = w ∧ w.reg Reg.almWbLimit = s.reg Reg.almWbLimit ∧ w.ctl.riseAt = some s.mer.ns ∧
        w.ctl.riseTo = n) ∧
      (∀ t, now < n → s.ctl.riseAt = some t → (10 ^ 9 ≤ (s.mer.ns - t).toNat → s.limitApply n = w.almGo ∧ LimitShown w (min s.ctl.riseTo n)) ∧
        ((s.mer.ns - t).toNat < 10 ^ 9 → s.limitApply n = w ∧ w.reg Reg.almWbLimit = s.reg Reg.almWbLimit ∧ w.ctl.riseTo = min s.ctl.riseTo n)) := by
  have hwb : (s.setRegFld Reg.huLimit 16 10 n).reg Reg.almWbLimit = s.reg Reg.almWbLimit := State.reg_setRegFld_ne _ _ _ _ _ (by decide)
  have hnew : fld ((s.setRegFld Reg.huLimit 16 10 n).reg Reg.huLimit) 16 10 = n % 1024 := by
    rw [State.reg_setRegFld_same, fld_setFld_same _ _ (by decide)]; rfl
  have hctl : (s.setRegFld Reg.huLimit 16 10 n).ctl = s.ctl := State.setReg_ctl _ _ _
  have hmer : (s.setRegFld Reg.huLimit 16 10 n).mer = s.mer := State.setReg_mer _ _ _
  have hmem : (s.setRegFld Reg.huLimit 16 10 n).mem = s.mem := State.setReg_mem _ _ _
  unfold State.limitApply State.limitNow
  dsimp only
  generalize s.setRegFld Reg.huLimit 16 10 n = s1 at *
  rw [hwb, ← hctl, ← hmer]
  simp only [State.limitWrite_eq]
  generalize (s.reg Reg.almWbLimit).toNat / 2 ^ 20 = now
  rcases Nat.lt_trichotomy n now with hlt | rfl | hgt
  · obtain ⟨hshown, hrise, hm, hl⟩ := s1.limitSet_spec n
    refine ⟨s1.limitSet n, hl.trans hnew, hm.trans hmem, fun _ => ⟨if_pos hlt, hshown, hrise⟩, ?_, ?_, ?_⟩ <;> intros <;> omega
  · refine ⟨{ s1 with ctl := { s1.ctl with riseAt := none } }, hnew, hmem, ?_, fun _ => ?_, ?_, ?_⟩
    · intro; omega
    · rw [if_neg (Nat.lt_irrefl _), if_pos rfl]; exact ⟨rfl, hwb, rfl⟩
    all_goals intros; omega
  · have hlt : ¬n < now := Nat.not_lt.2 (Nat.le_of_lt hgt)
    have hne : n ≠ now := Nat.ne_of_gt hgt
    rw [if_neg hlt, if_neg hne]
    cases hr : s1.ctl.riseAt with
    | none =>
      exact ⟨{ s1 with ctl := { s1.ctl with riseAt := some s1.mer.ns, riseTo := n } }, hnew, hmem, fun h => absurd h hlt, fun h => absurd h hne,
        fun _ _ => ⟨rfl, hwb, rfl, rfl⟩, fun _ _ h => nomatch h⟩
    | some t =>
      obtain ⟨hshown, -, hm, hl⟩ := s1.limitSet_spec (min s1.ctl.riseTo n)
      by_cases hlong : 10 ^ 9 ≤ (s1.mer.ns - t).toNat
      · refine ⟨s1.limitSet (min s1.ctl.riseTo n), hl.trans hnew, hm.trans hmem, fun h => absurd h hlt, fun h => absurd h hne,
          nofun, fun t' _ ht => ?_⟩
        obtain rfl := Option.some.inj ht
        exact ⟨fun _ => ⟨if_pos hlong, hshown⟩, fun h => absurd hlong (Nat.not_le.2 h)⟩
      · refine ⟨{ s1 with ctl := { s1.ctl with riseAt := some t, riseTo := min s1.ctl.riseTo n } }, hnew, hmem, fun h => absurd h hlt, fun h => absurd h hne,
          nofun, fun t' _ ht => ?_⟩
        obtain rfl := Option.some.inj ht
        exact ⟨fun h => absurd h hlong, fun _ => ⟨if_neg hlong, hwb, rfl⟩⟩

theorem exec_limitRecompute (s : State) : ∃ u, exec .limitRecompute s = .next u ∧
    let go := s.huOn = true ∧ s.mode ≠ modeHoldup
    (¬go → u = s) ∧ (go → u = s.limitApply (s.limitFor s.vLow)) := by
  have hgo : (!s.huOn || s.mode == modeHoldup) = true ↔ ¬(s.huOn = true ∧ s.mode ≠ modeHoldup) := by
    rw [Bool.or_eq_true, Bool.not_eq_true', beq_iff_eq, Decidable.not_and_iff_or_not, Bool.not_eq_true, not_not]
  exact ⟨_, rfl, fun h => if_pos (hgo.2 h), fun h => if_neg fun h' => hgo.1 h' h⟩

/-! ### Measurements (R438) -/

/-- A measurement under way: the charger disconnects and the test load is applied. -/
def State.measuringFrom (s : State) : State :=
  let s := (s.setRegBit Reg.huStat 0 false).setRegBit Reg.huStat 1 true
  { s with ctl := { s.ctl with measuring := true, measReq := false, measV1 := s.huV }, pins := { s.pins with huTest := true } }

theorem State.measuringFrom_spec (w : State) : let u := w.measuringFrom
    u.ctl = { w.ctl with measuring := true, measReq := false, measV1 := w.huV } ∧ u.pins = { w.pins with huTest := true } ∧
    fld (u.reg Reg.huStat) 0 2 = 2 ∧ u.mem = w.mem ∧ u.alm = w.alm := by
  have hV : ((w.setRegBit Reg.huStat 0 false).setRegBit Reg.huStat 1 true).huV = w.huV := by
    unfold State.huV
    rw [State.reg_setRegBit_ne _ _ _ _ (by decide), State.reg_setRegBit_ne _ _ _ _ (by decide)]
  have hstat : w.measuringFrom.reg Reg.huStat = setBit (setBit (w.reg Reg.huStat) 0 false) 1 true := by
    show ((w.setRegBit Reg.huStat 0 false).setRegBit Reg.huStat 1 true).reg Reg.huStat = _
    rw [State.reg_setRegBit_same, State.reg_setRegBit_same]
  refine ⟨?_, rfl, ?_, rfl, rfl⟩
  · rw [← hV]; rfl
  · rw [hstat, fld_two, fld_setBit_ne _ _ (by decide), fld_setBit_same _ _ (by decide), fld_setBit_same _ _ (by decide)]
    rfl

/-- MEAS_START: at 0.98 VFULL the limit is set for V2, and the measurement begins (R438). -/
theorem exec_measStart (s : State) : ∃ u, exec .measStart s = .next u ∧
    let x := fld (s.reg Reg.huV) 0 20
    let go := s.huOn = true ∧ s.ctl.measReq = true ∧ s.ctl.measuring = false ∧ s.mode ≠ modeHoldup ∧ 98 * fld (s.reg Reg.huCfg0) 20 20 ≤ 100 * x
    let w := s.limitApply (s.limitFor (x * (100 - fld (s.reg Reg.huCfg2) 16 8) / 100))
    (¬go → u = s) ∧ (go → u.ctl = { w.ctl with measuring := true, measReq := false, measV1 := w.huV } ∧ u.pins = { w.pins with huTest := true } ∧
      fld (u.reg Reg.huStat) 0 2 = 2 ∧ u.mem = w.mem ∧ u.alm = w.alm) := by
  have hgo : (!s.huOn || !s.ctl.measReq || s.ctl.measuring || s.mode == modeHoldup || decide (100 * s.huV < 98 * s.vFull)) = true ↔
      ¬(s.huOn = true ∧ s.ctl.measReq = true ∧ s.ctl.measuring = false ∧ s.mode ≠ modeHoldup ∧
        98 * fld (s.reg Reg.huCfg0) 20 20 ≤ 100 * fld (s.reg Reg.huV) 0 20) := by
    unfold State.huV State.vFull
    simp only [Bool.or_eq_true, Bool.not_eq_true', beq_iff_eq, decide_eq_true_eq, ← Bool.not_eq_true, ← Nat.not_le]
    tauto
  refine ⟨_, rfl, fun h => if_pos (hgo.2 h), fun h => ?_⟩
  rw [if_neg fun h' => hgo.1 h' h]
  exact State.measuringFrom_spec _

end Sys2Proof.Machine
end

section
/-! The end of a measurement of C (R436, R438). -/

namespace Sys2Proof.Machine

/-- The test load is removed. -/
def State.measStop (s : State) : State :=
  let s := s.setRegBit Reg.huStat 1 false
  { s with ctl := { s.ctl with measuring := false }, pins := { s.pins with huTest := false } }

/-- What the root record takes of a measurement: C, the number of measurements and the powered time. -/
def State.measBytes (t : State) (c m : Nat) : List Byte := leBytes 4 c ++ leBytes 4 m ++ leBytes 8 t.powered

/-- C, the number of measurements and the outcome, in the root record and in the registers. -/
def State.measStore (t : State) (fails : Bool) (c m : Nat) : State :=
  ((t.rootWrite fun l => putAt l 56 (t.measBytes c m)).setReg Reg.huC (BitVec.ofNat 64 (c + m * 2 ^ 32))).setRegBit Reg.huStat (if fails then 4 else 2) true

theorem exec_measEnd_eq (n : Nat) (s : State) : exec (.measEnd n) s = .next (if !s.ctl.measuring || !s.measOver n then s else
    let t := s.measStop
    let c := capacitance n (fld (t.reg Reg.huCfg1) 32 32) t.ctl.measV1 t.huV % 2 ^ 32
    let fails := decide (2000000 ≤ n ∨ c < 1000)
    t.measStore fails (if fails then t.huC else c) ((fld (t.reg Reg.huC) 32 32 + 1) % 2 ^ 32)) := rfl

theorem State.reg_measStop (s : State) {a : Nat} (h : a ≠ Reg.huStat) : s.measStop.reg a = s.reg a := State.reg_setRegBit_ne _ _ _ _ h

theorem State.huStat_measStop (s : State) : fld (s.measStop.reg Reg.huStat) 1 1 = 0 := by
  show fld ((s.setRegBit Reg.huStat 1 false).reg Reg.huStat) 1 1 = 0
  rw [State.reg_setRegBit_same, fld_setBit_same _ _ (by decide)]
  rfl

theorem RootRewritten.of_sameMemory {s t u : State} {f : List Byte → Prop} (h : RootRewritten t u f) (hst : SameMemory s t) : RootRewritten s u f := by
  intro hc hseq
  rw [← hst.recRead hc] at hseq ⊢
  exact h (hst.calm hc) hseq

theorem SameMemory.setReg {s t : State} (h : SameMemory s t) (a : Nat) (v : W64) : SameMemory s (t.setReg a v) := h
theorem SameMemory.setRegBit {s t : State} (h : SameMemory s t) (a i : Nat) (b : Bool) : SameMemory s (t.setRegBit a i b) := h

theorem State.length_measBytes (t : State) (c m : Nat) : (t.measBytes c m).length = 16 := by
  simp only [State.measBytes, List.length_append, length_leBytes]

theorem State.measBytes_fields (t : State) (c m : Nat) : recFld (t.measBytes c m) 0 4 = c % 2 ^ 32 ∧ recFld (t.measBytes c m) 4 4 = m % 2 ^ 32 ∧
    recFld (t.measBytes c m) 8 8 = t.powered % 2 ^ 64 := by
  unfold State.measBytes
  have h8 : (leBytes 4 c ++ leBytes 4 m).length = 8 := by rw [List.length_append, length_leBytes, length_leBytes]
  refine ⟨?_, ?_, ?_⟩
  · rw [recFld_append_left _ _ (by rw [h8]; decide), recFld_append_left _ _ (by rw [length_leBytes]), recFld_leBytes]
    rfl
  · rw [recFld_append_left _ _ (by rw [h8]), recFld_append_right _ _ (by rw [length_leBytes]), length_leBytes, recFld_leBytes]
    rfl
  · rw [recFld_append_right _ _ (by rw [h8]), h8, recFld_leBytes]
    rfl

theorem State.measStore_written (t : State) (fails : Bool) (c m : Nat) : RootRewritten t (t.measStore fails c m) fun l =>
    recFld l 56 4 = c % 2 ^ 32 ∧ recFld l 60 4 = m % 2 ^ 32 ∧ recFld l 64 8 = t.powered % 2 ^ 64 := by
  have hlen := t.length_measBytes c m
  refine rootRewritten (keepsHeader_putAt (by decide) (by rw [hlen]; decide)) ⟨rfl, rfl, rfl⟩
    (SameMemory.setRegBit (SameMemory.setReg ⟨rfl, rfl, rfl⟩ _ _) _ _ _) fun old l hold hfld => ?_
  have hin : 56 + (t.measBytes c m).length ≤ old.length := by rw [hlen, hold]; decide
  obtain ⟨hc, hm, hp⟩ := t.measBytes_fields c m
  rw [hfld 56 4 (by decide) (by decide), hfld 60 4 (by decide) (by decide), hfld 64 8 (by decide) (by decide),
    recFld_putAt_in _ _ hin (by decide) (by rw [hlen]; decide), recFld_putAt_in _ _ hin (by decide) (by rw [hlen]; decide),
    recFld_putAt_in _ _ hin (by decide) (by rw [hlen])]
  exact ⟨hc, hm, hp⟩

theorem State.measStore_regs (t : State) (fails : Bool) (c m : Nat) : let u := t.measStore fails c m
    u.ctl = t.ctl ∧ u.pins = t.pins ∧ u.reg Reg.huC = BitVec.ofNat 64 (c + m * 2 ^ 32) ∧
      u.reg Reg.huStat = setBit (t.reg Reg.huStat) (if fails then 4 else 2) true := by
  have hstep := t.rootWrite_step fun l => putAt l 56 (t.measBytes c m)
  unfold State.measStore
  generalize t.rootWrite _ = r at *
  refine ⟨?_, ?_, ?_, ?_⟩
  · rw [State.setRegBit, State.setReg_ctl, State.setReg_ctl, hstep.ctl]
  · rw [State.setRegBit, State.setReg_pins, State.setReg_pins, hstep.pins]
  · rw [State.reg_setRegBit_ne _ _ _ _ (by decide), State.reg_setReg_same]
  · rw [State.reg_setRegBit_same, State.reg_setReg_ne _ _ _ (by decide), hstep.reg _ (by decide)]

/-- MEAS_END: at V2 or after 2 s the test load is removed, and C or the failure is recorded, in the root record too (R438). -/
theorem exec_measEnd (n : Nat) (s : State) : ∃ u, exec (.measEnd n) s = .next u ∧
    let c := capacitance n (fld (s.reg Reg.huCfg1) 32 32) s.ctl.measV1 s.huV % 2 ^ 32
    let m := (fld (s.reg Reg.huC) 32 32 + 1) % 2 ^ 32
    let bad := 2000000 ≤ n ∨ c < 1000
    let stop := s.ctl.measuring = true ∧ (2000000 ≤ n ∨ 100 * s.huV ≤ s.ctl.measV1 * (100 - fld (s.reg Reg.huCfg2) 16 8))
    (¬stop → u = s) ∧ (stop → u.ctl.measuring = false ∧ u.pins.huTest = false ∧ fld (u.reg Reg.huStat) 1 1 = 0 ∧
      (bad → fld (u.reg Reg.huStat) 4 1 = 1) ∧ (¬bad → fld (u.reg Reg.huStat) 2 1 = 1) ∧ let kept := if bad then fld (s.reg Reg.huC) 0 32 else c
      u.reg Reg.huC = BitVec.ofNat 64 (kept + m * 2 ^ 32) ∧
      RootRewritten s u fun l => recFld l 56 4 = kept ∧ recFld l 60 4 = m ∧ recFld l 64 8 = (s.ctl.powered0 + s.mer.ns.toNat / 10 ^ 9) % 2 ^ 64) := by
  have hstop : (!s.ctl.measuring || !s.measOver n) = true ↔
      ¬(s.ctl.measuring = true ∧ (2000000 ≤ n ∨ 100 * s.huV ≤ s.ctl.measV1 * (100 - fld (s.reg Reg.huCfg2) 16 8))) := by
    rw [State.measOver, ← Bool.not_and, Bool.not_eq_true', ← Bool.not_eq_true, Bool.and_eq_true, Bool.or_eq_true, decide_eq_true_eq, decide_eq_true_eq]
  refine ⟨_, exec_measEnd_eq n s, fun h => if_pos (hstop.2 h), fun h => ?_⟩
  rw [if_neg fun h' => hstop.1 h' h]
  have hsame : SameMemory s s.measStop := ⟨rfl, rfl, rfl⟩
  have hstat := s.huStat_measStop
  have hV : s.measStop.huV = s.huV := congrArg (fld · 0 20) (s.reg_measStop (by decide))
  have hC : s.measStop.huC = fld (s.reg Reg.huC) 0 32 := congrArg (fld · 0 32) (s.reg_measStop (by decide))
  have hV1 : s.measStop.ctl.measV1 = s.ctl.measV1 := rfl
  have hpow : s.measStop.powered = s.ctl.powered0 + s.mer.ns.toNat / 10 ^ 9 := rfl
  have hmeas : s.measStop.ctl.measuring = false := rfl
  have htest : s.measStop.pins.huTest = false := rfl
  dsimp only
  rw [s.reg_measStop (a := Reg.huCfg1) (by decide), s.reg_measStop (a := Reg.huC) (by decide), hV, hC, hV1]
  generalize s.measStop = t at *
  generalize hc : capacitance n (fld (s.reg Reg.huCfg1) 32 32) s.ctl.measV1 s.huV % 2 ^ 32 = c
  generalize hm : (fld (s.reg Reg.huC) 32 32 + 1) % 2 ^ 32 = m
  simp only [decide_eq_true_eq]
  generalize hk : (if 2000000 ≤ n ∨ c < 1000 then fld (s.reg Reg.huC) 0 32 else c) = kept
  have hk32 : kept % 2 ^ 32 = kept := by
    rw [← hk, ← hc]
    split
    · exact Nat.mod_eq_of_lt (fld_lt _ _ _)
    · exact Nat.mod_mod _ _
  have hm32 : m % 2 ^ 32 = m := by rw [← hm, Nat.mod_mod]
  obtain ⟨hctl, hpins, hreg, hst⟩ := t.measStore_regs (decide (2000000 ≤ n ∨ c < 1000)) kept m
  have hw := t.measStore_written (decide (2000000 ≤ n ∨ c < 1000)) kept m
  rw [hpow, hk32, hm32] at hw
  refine ⟨by rw [hctl, hmeas], by rw [hpins, htest], ?_, fun hbad => ?_, fun hbad => ?_, hreg, hw.of_sameMemory hsame⟩
  · rw [hst, fld_setBit_ne _ _ (by split <;> decide), hstat]
  · rw [hst, if_pos (decide_eq_true hbad), fld_setBit_same _ _ (by decide)]; rfl
  · rw [hst, if_neg (by simpa using hbad), fld_setBit_same _ _ (by decide)]; rfl

end Sys2Proof.Machine
end

section
/-! The rails, the power limiter and the test access port (R448, R454, R457, R458). -/

namespace Sys2Proof.Machine

/-! ### The rails (R448) -/

/-- A rail below 90% of nominal for more than 1 µs is a POR. -/
theorem exec_railUndervoltage (rail : Fin 14) (ns permille : Nat) (s : State) : ∃ u, exec (.railUndervoltage rail ns permille) s = .next u ∧
    let por := s.pins.porN = true ∧ 1000 < ns ∧ permille < 900
    (¬por → u = s) ∧ (por → u.csr = [] ∧ u.ctl.steps = [] ∧ u.queues = State.reset.queues ∧ u.ctxs = [] ∧ u.alm.nand = s.alm.nand) := by
  have hpor : (s.pins.porN && decide (1000 < ns) && decide (permille < 900)) = true ↔ s.pins.porN = true ∧ 1000 < ns ∧ permille < 900 := by
    rw [Bool.and_eq_true, Bool.and_eq_true, decide_eq_true_eq, decide_eq_true_eq, and_assoc]
  refine ⟨_, rfl, fun h => if_neg fun h' => h (hpor.1 h'), fun h => ?_⟩
  rw [if_pos (hpor.2 h)]
  exact ⟨rfl, rfl, rfl, rfl, rfl⟩

/-! ### The test access port (R454) -/

theorem toNat_stepMajor_add {x : Nat} (h : x < 16) : (BitVec.ofNat 64 (0x0846076B + x * 2 ^ 28)).toNat = 0x0846076B + x * 2 ^ 28 := by
  rw [BitVec.toNat_ofNat]
  exact Nat.mod_eq_of_lt (by omega)

theorem fld_of_toNat_eq_add {v : W64} {x : Nat} (hx : x < 16) (hv : v.toNat = 0x0846076B + x * 2 ^ 28) :
    fld v 0 28 = 0x846076B ∧ fld v 28 36 = x := by
  rw [fld, fld, hv]
  constructor <;> omega

theorem fld_idcode : fld idcode 0 28 = 0x846076B ∧ fld idcode 28 36 = Config.stepping.toNat / 16 :=
  have hmajor : Config.stepping.toNat / 16 < 16 := Nat.div_lt_of_lt_mul Config.stepping.isLt
  fld_of_toNat_eq_add hmajor (toNat_stepMajor_add hmajor)

theorem exec_tapIdcode (s : State) : ∃ u, exec .tapIdcode s = .next u ∧ u = { s with ctl := { s.ctl with tapIr := tapIdcode }, busReply := u.busReply } ∧
    fld u.busReply 0 28 = 0x846076B ∧ fld u.busReply 28 36 = Config.stepping.toNat / 16 :=
  ⟨_, rfl, rfl, fld_idcode⟩

theorem exec_tapBypass (s : State) : exec .tapBypass s = .next { s with ctl := { s.ctl with tapIr := tapBypass } } := rfl

theorem exec_tapExtest (s : State) : ∃ u, exec .tapExtest s = .next u ∧ (s.pins.porN = true → u = s) ∧
    (s.pins.porN = false → u = { s with ctl := { s.ctl with tapIr := tapExtest } }) :=
  ⟨s.tapScan tapExtest, rfl, fun h => if_pos h, fun h => if_neg (by rw [h]; decide)⟩

/-- SAMPLE and PRELOAD load the boundary register, only while por_n is low. -/
theorem State.tapLoad_spec (s : State) (k : Nat) : let u := s.tapLoad k
    (s.pins.porN = true → u = s) ∧
      (s.pins.porN = false → u = { s with free := s.free + 1, ctl := { s.ctl with tapIr := k, tapPads := u.ctl.tapPads } }) := by
  refine ⟨fun h => if_pos h, fun h => ?_⟩
  have hload : s.tapLoad k = { s with free := s.free + 1, ctl := { s.ctl with tapIr := k, tapPads := Config.freeValue s.free } } :=
    if_neg (by rw [h]; decide)
  rw [hload]

/-! ### What the limiter changes -/

/-- `t` is `s` but for the registers of P, events raised, and the time since which every sensor is cool. -/
structure LimStep (P : Nat → Prop) (s t : State) : Prop where
  eq : t = { s with csr := t.csr, orr := { s.orr with raised := t.orr.raised }, ctl := { s.ctl with below := t.ctl.below } }
  reg : ∀ a, ¬P a → t.reg a = s.reg a

/-- DEV_PWR_STAT alone. -/
abbrev IsPwrStat (a : Nat) : Prop := a = Reg.devPwrStat
/-- DEV_PWR_STAT and the sensors' registers. -/
abbrev IsLimReg (a : Nat) : Prop := a = Reg.devPwrStat ∨ (Reg.devTemp 0 ≤ a ∧ a < Reg.devTemp 9)

namespace LimStep
variable {P Q : Nat → Prop} {s t u : State}

theorem refl (s : State) : LimStep P s s := ⟨rfl, fun _ _ => rfl⟩
theorem trans (h : LimStep P s t) (k : LimStep P t u) : LimStep P s u :=
  ⟨by have e := k.eq; rw [h.eq] at e; exact e, fun a ha => (k.reg a ha).trans (h.reg a ha)⟩
theorem mono (h : LimStep P s t) (hPQ : ∀ a, P a → Q a) : LimStep Q s t := ⟨h.eq, fun a ha => h.reg a fun hp => ha (hPQ a hp)⟩
theorem setReg (h : LimStep P s t) {a : Nat} (ha : P a) (v : W64) : LimStep P s (t.setReg a v) :=
  h.trans ⟨rfl, fun _ hb => State.reg_setReg_ne _ _ _ fun e => hb (e ▸ ha)⟩
theorem setPwrStat (h : LimStep IsPwrStat s t) (v : W64) : LimStep IsPwrStat s (t.setReg Reg.devPwrStat v) := h.setReg (P := IsPwrStat) rfl v
theorem raiseEvt (h : LimStep P s t) (a : Nat) : LimStep P s (t.raiseEvt a) := by
  unfold State.raiseEvt
  split
  · exact h.trans ⟨rfl, fun _ _ => rfl⟩
  · exact h
theorem setBelow (h : LimStep P s t) (b : Option W64) : LimStep P s { t with ctl := { t.ctl with below := b } } :=
  h.trans ⟨rfl, fun _ _ => rfl⟩

theorem mem (h : LimStep P s t) : t.mem = s.mem := by rw [h.eq]
theorem mer (h : LimStep P s t) : t.mer = s.mer := by rw [h.eq]

end LimStep
end Sys2Proof.Machine
end

section
/-! The power limiter (R457, R458). -/

namespace Sys2Proof.Machine

/-! ### What the limiter goes by, and does not change -/

namespace LimStep
variable {P : Nat → Prop} {s t : State}

theorem mode (h : LimStep IsLimReg s t) : t.mode = s.mode := congrArg (fld · 0 3) (h.reg Reg.devMode (by decide))
theorem pwrLimit (h : LimStep IsLimReg s t) : t.pwrLimit = s.pwrLimit := by
  unfold State.pwrLimit
  rw [h.reg Reg.devPwrCtl (by decide)]
theorem thrOf (h : LimStep IsLimReg s t) (k : Nat) : t.thrOf k = s.thrOf k := by
  unfold State.thrOf
  rw [h.reg Reg.devPwrCtl (by decide)]
theorem limSealed (h : LimStep IsLimReg s t) : t.limSealed = s.limSealed := by
  have hsealed : t.sealed = s.sealed := by
    funext i
    unfold State.sealed State.unitMode State.regBit
    rw [h.reg Reg.devMode (by decide), h.mode]
  unfold State.limSealed
  rw [h.mode, hsealed]

end LimStep

theorem isLimReg_of_isPwrStat (a : Nat) (h : IsPwrStat a) : IsLimReg a := .inl h
theorem devTemp_ne_devPwrStat (k : Nat) : Reg.devTemp k ≠ Reg.devPwrStat := by
  unfold Reg.devTemp Reg.devPwrStat
  omega
theorem devTemp_inj {j k : Nat} (h : Reg.devTemp j = Reg.devTemp k) : j = k := by
  unfold Reg.devTemp at h
  omega

/-! ### The sensors -/

/-- The first n sensors take readings. -/
def State.setTemps (s : State) (x : Nat → Nat) (n : Nat) : State :=
  (List.range n).foldl (fun s k => s.setReg (Reg.devTemp k) (BitVec.ofNat 64 (min (x k) 4095))) s

theorem State.setTemps_succ (s : State) (x : Nat → Nat) (n : Nat) :
    s.setTemps x (n + 1) = (s.setTemps x n).setReg (Reg.devTemp n) (BitVec.ofNat 64 (min (x n) 4095)) := by
  unfold State.setTemps
  rw [List.range_succ, List.foldl_append]
  rfl

theorem State.reg_setTemps (s : State) (x : Nat → Nat) {n k : Nat} (h : k < n) :
    (s.setTemps x n).reg (Reg.devTemp k) = BitVec.ofNat 64 (min (x k) 4095) := by
  induction n with
  | zero => exact absurd h (Nat.not_lt_zero _)
  | succ n ih =>
    rw [State.setTemps_succ]
    by_cases hk : k = n
    · rw [hk, State.reg_setReg_same]
    · rw [State.reg_setReg_ne _ _ _ fun e => hk (devTemp_inj e), ih (by omega)]

theorem range_zip {l : List Nat} {n : Nat} (h : l.length = n) : (List.range n).zip l = (List.range n).map fun k => (k, l.getD k 0) := by
  refine List.ext_getElem (by simp [h]) fun k hk _ => ?_
  have hl : k < l.length := by simp [h] at hk; omega
  simp [hl]

/-- The sensors' readings as they stand before TJ_MAX shows the hottest. -/
def State.senseRaw (s : State) (temps : List Nat) : State :=
  ((List.range 9).zip temps).foldl (fun s p => s.setReg (Reg.devTemp p.1) (BitVec.ofNat 64 (min p.2 4095))) s

theorem State.senseRaw_eq (s : State) {temps : List Nat} (h : temps.length = 9) : s.senseRaw temps = s.setTemps (fun k => temps.getD k 0) 9 := by
  unfold State.senseRaw State.setTemps
  rw [range_zip h, List.foldl_map]

theorem State.senseRaw_step (s : State) (temps : List Nat) : LimStep (fun a => Reg.devTemp 0 ≤ a ∧ a < Reg.devTemp 9) s (s.senseRaw temps) := by
  refine List.foldlRecOn (motive := LimStep _ s) _ _ (.refl s) fun t ht p hp => ht.setReg ?_ _
  have hk : p.1 < 9 := List.mem_range.1 (List.of_mem_zip hp).1
  unfold Reg.devTemp
  omega

theorem State.senseRaw_ctl (s : State) (temps : List Nat) : (s.senseRaw temps).ctl = s.ctl :=
  List.foldlRecOn (motive := fun t : State => t.ctl = s.ctl) _ _ rfl fun _ ht _ _ => ht

/-- DEV_PWR_STAT with POWER and TJ_MAX; the sensors as read. -/
def State.limSense (s : State) (watts : Nat) (temps : List Nat) : State := (s.senseTemps temps).setRegFld Reg.devPwrStat 0 10 (min watts 1023)

theorem State.limSense_spec (s : State) (watts : Nat) (temps : List Nat) : let t := s.limSense watts temps
    LimStep IsLimReg s t ∧ t.ctl = s.ctl ∧
      (temps.length = 9 → ∀ k, k < 9 → t.reg (Reg.devTemp k) = BitVec.ofNat 64 (min (temps.getD k 0) 4095)) ∧
      ∃ j, t.reg Reg.devPwrStat = setFld (setFld (s.reg Reg.devPwrStat) 24 8 j) 0 10 (min watts 1023) := by
  have hraw := s.senseRaw_step temps
  have htemp (h : temps.length = 9) (k : Nat) (hk : k < 9) := s.senseRaw_eq h ▸ s.reg_setTemps (fun k => temps.getD k 0) hk
  have hstat : (s.senseRaw temps).reg Reg.devPwrStat = s.reg Reg.devPwrStat := hraw.reg _ (by decide)
  have hctl := s.senseRaw_ctl temps
  have hsense : s.senseTemps temps = (s.senseRaw temps).setRegFld Reg.devPwrStat 24 8
    (((List.range 9).map fun i => ((s.senseRaw temps).reg (Reg.devTemp i)).toNat / 8).foldl max 0) := rfl
  dsimp only
  rw [State.limSense, hsense]
  generalize s.senseRaw temps = r at *
  generalize ((List.range 9).map fun i => (r.reg (Reg.devTemp i)).toNat / 8).foldl max 0 = j
  refine ⟨((hraw.mono fun _ h => .inr h).setReg (.inl rfl) _).setReg (.inl rfl) _, ?_, fun h k hk => ?_, j, ?_⟩
  · rw [State.setRegFld, State.setRegFld, State.setReg_ctl, State.setReg_ctl, hctl]
  · rw [State.reg_setRegFld_ne _ _ _ _ _ (devTemp_ne_devPwrStat k), State.reg_setRegFld_ne _ _ _ _ _ (devTemp_ne_devPwrStat k), htemp h k hk]
  · rw [State.reg_setRegFld_same, State.reg_setRegFld_same, hstat]

end Sys2Proof.Machine
end

section
/-! The power limiter's evaluation: its record of the limit and of cool sensors, its steps (R457, R458). -/

namespace Sys2Proof.Machine

theorem State.reg_raiseEvt (s : State) (a b : Nat) : (s.raiseEvt a).reg b = s.reg b := by
  unfold State.raiseEvt
  split <;> rfl

/-- LIMIT_HIT where the power exceeds the limit. -/
def State.limHit (s : State) (hit : Bool) : State :=
  if hit && !s.regBit Reg.devPwrStat 33 then (s.setRegBit Reg.devPwrStat 33 true).raiseEvt Reg.devPwrEvt else s
/-- The time since which every sensor is cool. -/
def State.limBelow (s : State) : State :=
  { s with ctl := { s.ctl with below := if s.allCool then some (s.ctl.below.getD s.mer.ns) else none } }
/-- Whether every sensor has been cool for 10 ms. -/
def State.limCool (s : State) : Bool := match s.ctl.below with | some t => decide (10 ^ 7 ≤ (s.mer.ns - t).toNat) | none => false
/-- The limiter's records, before it acts on them. -/
def State.limRecord (s : State) (watts : Nat) (temps : List Nat) : State :=
  let t := s.limSense watts temps
  (t.limHit (decide (t.pwrLimit < watts))).limBelow

theorem State.limHit_spec (s : State) (hit : Bool) : let t := s.limHit hit
    LimStep IsPwrStat s t ∧ (hit = true → fld (t.reg Reg.devPwrStat) 33 1 = 1) ∧ t.ctl = s.ctl ∧
      ∀ lo w, lo + w ≤ 33 → fld (t.reg Reg.devPwrStat) lo w = fld (s.reg Reg.devPwrStat) lo w := by
  dsimp only
  unfold State.limHit
  split
  · refine ⟨((LimStep.refl s).setPwrStat _).raiseEvt _, fun _ => ?_, ?_, fun lo w h => ?_⟩
    · rw [State.reg_raiseEvt, State.reg_setRegBit_same, fld_setBit_same _ _ (by decide)]; rfl
    · unfold State.raiseEvt; split <;> rfl
    · rw [State.reg_raiseEvt, State.reg_setRegBit_same, fld_setBit_ne _ _ (.inl h)]
  · rename_i hno
    refine ⟨.refl s, fun h => ?_, rfl, fun _ _ _ => rfl⟩
    rw [← State.regBit_iff]
    simpa [h] using hno

theorem State.limBelow_step (s : State) : LimStep IsPwrStat s s.limBelow := (LimStep.refl s).setBelow _
theorem State.reg_limBelow (s : State) (a : Nat) : s.limBelow.reg a = s.reg a := rfl

/-- The registers after the records: the readings, and DEV_PWR_STAT but for POWER, TJ_MAX and LIMIT_HIT as it was. -/
theorem State.limRecord_spec (s : State) (w : Nat) (temps : List Nat) : let t := s.limRecord w temps
    LimStep IsLimReg s t ∧ (temps.length = 9 → ∀ k, k < 9 → t.reg (Reg.devTemp k) = BitVec.ofNat 64 (min (temps.getD k 0) 4095)) ∧
      fld (t.reg Reg.devPwrStat) 0 10 = min w 1023 ∧ (s.pwrLimit < w → fld (t.reg Reg.devPwrStat) 33 1 = 1) ∧
      (∀ lo k, 10 ≤ lo → lo + k ≤ 24 → fld (t.reg Reg.devPwrStat) lo k = fld (s.reg Reg.devPwrStat) lo k) ∧
      t.ctl.below = if t.allCool then some (s.ctl.below.getD s.mer.ns) else none := by
  obtain ⟨hstep, hctls, htemp, j, hstat⟩ := s.limSense_spec w temps
  dsimp only at *
  unfold State.limRecord
  generalize s.limSense w temps = t at *
  dsimp only
  simp only [hstep.pwrLimit]
  obtain ⟨hhit, hbit, hctl, hfld⟩ := t.limHit_spec (decide (s.pwrLimit < w))
  rw [hctls] at hctl
  generalize t.limHit (decide (s.pwrLimit < w)) = u at *
  have hmer : u.mer = s.mer := hhit.mer.trans hstep.mer
  simp only [State.reg_limBelow]
  refine ⟨hstep.trans ((hhit.trans u.limBelow_step).mono isLimReg_of_isPwrStat), fun h k hk => ?_, ?_, fun h => hbit (decide_eq_true h),
    fun lo k h1 h2 => ?_, ?_⟩
  · rw [hhit.reg _ (devTemp_ne_devPwrStat k), htemp h k hk]
  · rw [hfld 0 10 (by decide), hstat, fld_setFld_same _ _ (by decide)]
    omega
  · rw [hfld lo k (by omega), hstat, fld_setFld_ne _ _ (.inr h1), fld_setFld_ne _ _ (.inl h2)]
  · rw [← hmer, ← hctl]; rfl

end Sys2Proof.Machine
end

section
/-! The steps of the power limiter, and LIMITER_EVAL (R457, R458). -/

namespace Sys2Proof.Machine

/-! ### Steps of sclk and of HOLD -/

/-- What a step of the limiter keeps: every register but DEV_PWR_STAT, and POWER and LIMIT_HIT in it. -/
structure PwrKept (s t : State) : Prop where
  step : LimStep IsPwrStat s t
  power : fld (t.reg Reg.devPwrStat) 0 10 = fld (s.reg Reg.devPwrStat) 0 10
  limitHit : fld (t.reg Reg.devPwrStat) 33 1 = fld (s.reg Reg.devPwrStat) 33 1

theorem PwrKept.refl (s : State) : PwrKept s s := ⟨.refl s, rfl, rfl⟩
theorem PwrKept.raiseEvt {s t : State} (h : PwrKept s t) (a : Nat) : PwrKept s (t.raiseEvt a) :=
  ⟨h.step.raiseEvt a, by rw [State.reg_raiseEvt, h.power], by rw [State.reg_raiseEvt, h.limitHit]⟩

theorem State.setHold_spec (s : State) {n : Nat} (hn : n < 16) : let t := s.setRegFld Reg.devPwrStat 11 4 n
    PwrKept s t ∧ t.sclkIn = s.sclkIn ∧ t.holdIn = n := by
  have hstat := s.reg_setRegFld_same Reg.devPwrStat 11 4 n
  have hstep : LimStep IsPwrStat s (s.setRegFld Reg.devPwrStat 11 4 n) := (LimStep.refl s).setPwrStat _
  unfold State.sclkIn State.holdIn
  generalize s.setRegFld Reg.devPwrStat 11 4 n = t at *
  refine ⟨⟨hstep, ?_, ?_⟩, ?_, ?_⟩ <;> rw [hstat]
  · exact fld_setFld_ne _ _ (by decide)
  · exact fld_setFld_ne _ _ (by decide)
  · exact fld_setFld_ne _ _ (by decide)
  · exact (fld_setFld_same _ _ (by decide)).trans (Nat.mod_eq_of_lt hn)

theorem State.setSclk_spec (s : State) {n : Nat} (hn : n < 32) : let t := s.setSclk n
    PwrKept s t ∧ t.sclkIn = n ∧ t.holdIn = s.holdIn ∧ (fld (t.reg Reg.devPwrStat) 10 1 = 1 ↔ n < sclkNominal) := by
  have hstat : (s.setSclk n).reg Reg.devPwrStat = setBit (setFld (s.reg Reg.devPwrStat) 16 5 n) 10 (decide (n < sclkNominal)) := by
    rw [State.setSclk, State.reg_setRegBit_same, State.reg_setRegFld_same]
  have hstep : LimStep IsPwrStat s (s.setSclk n) := ((LimStep.refl s).setPwrStat _).setPwrStat _
  unfold State.sclkIn State.holdIn
  generalize s.setSclk n = t at *
  refine ⟨⟨hstep, ?_, ?_⟩, ?_, ?_, ?_⟩ <;> rw [hstat]
  · rw [fld_setBit_ne _ _ (by decide), fld_setFld_ne _ _ (by decide)]
  · rw [fld_setBit_ne _ _ (by decide), fld_setFld_ne _ _ (by decide)]
  · rw [fld_setBit_ne _ _ (by decide), fld_setFld_same _ _ (by decide)]
    exact Nat.mod_eq_of_lt hn
  · rw [fld_setBit_ne _ _ (by decide), fld_setFld_ne _ _ (by decide)]
  · rw [fld_setBit_same _ _ (by decide), Bool.toNat_eq_one, decide_eq_true_eq]

theorem State.sclkIn_raiseEvt (s : State) (a : Nat) : (s.raiseEvt a).sclkIn = s.sclkIn := congrArg (fld · 16 5) (s.reg_raiseEvt a _)
theorem State.holdIn_raiseEvt (s : State) (a : Nat) : (s.raiseEvt a).holdIn = s.holdIn := congrArg (fld · 11 4) (s.reg_raiseEvt a _)
theorem State.holdIn_lt (s : State) : s.holdIn < 16 := fld_lt _ 11 4
theorem State.sclkIn_lt (s : State) : s.sclkIn < 32 := fld_lt _ 16 5

theorem State.stepDown_sealed {s : State} (h : s.limSealed = true) : PwrKept s s.stepDown ∧ s.stepDown.sclkIn = s.sclkIn ∧
    s.stepDown.holdIn = min 15 (s.holdIn + 1) := by
  have hlt := s.holdIn_lt
  rw [State.stepDown, if_pos h]
  split
  · exact ⟨.refl s, rfl, by omega⟩
  · obtain ⟨hkept, hclk, hhold⟩ := s.setHold_spec (n := s.holdIn + 1) (by omega)
    rw [State.sclkIn_raiseEvt, State.holdIn_raiseEvt, hclk, hhold]
    exact ⟨hkept.raiseEvt _, rfl, by omega⟩

theorem State.stepDown_unsealed {s : State} (h : ¬s.limSealed = true) : PwrKept s s.stepDown ∧ s.stepDown.sclkIn = max 10 (s.sclkIn - 1) ∧
    s.stepDown.holdIn = s.holdIn ∧ (fld (s.stepDown.reg Reg.devPwrStat) 10 1 = 1 ↔ s.stepDown.sclkIn < sclkNominal) := by
  have hlt := s.sclkIn_lt
  obtain ⟨hkept, hclk, hhold, hthr⟩ := s.setSclk_spec (n := max 10 (s.sclkIn - 1)) (by omega)
  rw [State.stepDown, if_neg h]
  dsimp only
  generalize s.setSclk (max 10 (s.sclkIn - 1)) = t at *
  split
  · exact ⟨hkept, hclk, hhold, by rw [hclk]; exact hthr⟩
  · rw [State.sclkIn_raiseEvt, State.holdIn_raiseEvt, State.reg_raiseEvt, hclk]
    exact ⟨hkept.raiseEvt _, rfl, hhold, hthr⟩

theorem State.stepUp_held {s : State} (h : 0 < s.holdIn) : PwrKept s s.stepUp ∧ s.stepUp.holdIn = s.holdIn - 1 ∧ s.stepUp.sclkIn = s.sclkIn := by
  have hlt := s.holdIn_lt
  obtain ⟨hkept, hclk, hhold⟩ := s.setHold_spec (n := s.holdIn - 1) (by omega)
  rw [State.stepUp, if_pos h]
  exact ⟨hkept, hhold, hclk⟩

theorem State.stepUp_free {s : State} (h : s.holdIn = 0) : PwrKept s s.stepUp ∧ s.stepUp.holdIn = 0 ∧
    (s.limSealed = true → s.stepUp.sclkIn = s.sclkIn) ∧ (¬s.limSealed = true → s.stepUp.sclkIn = min sclkNominal (s.sclkIn + 1)) := by
  have hnominal : sclkNominal ≤ 20 := by unfold sclkNominal; split <;> decide
  rw [State.stepUp, if_neg (by omega)]
  split
  · exact ⟨.refl s, h, fun _ => rfl, fun h' => absurd ‹_› h'⟩
  · obtain ⟨hkept, hclk, hhold, -⟩ := s.setSclk_spec (n := min sclkNominal (s.sclkIn + 1)) (by omega)
    exact ⟨hkept, hhold.trans h, fun h' => absurd h' ‹_›, fun _ => hclk⟩

/-! ### LIMITER_EVAL -/

/-- What the limiter does with its records, told whether the power or a temperature asks for a step down, and whether they allow one up. -/
def State.limAct (s : State) (down up : Bool) : State :=
  if s.mode = modeHoldup then s else if down then s.stepDown else if up then s.stepUp else s

theorem State.limAct_kept (s : State) (down up : Bool) : PwrKept s (s.limAct down up) := by
  unfold State.limAct
  have hdown : PwrKept s s.stepDown := by
    by_cases h : s.limSealed = true
    · exact (State.stepDown_sealed h).1
    · exact (State.stepDown_unsealed h).1
  have hup : PwrKept s s.stepUp := by
    rcases Nat.eq_zero_or_pos s.holdIn with h | h
    · exact (State.stepUp_free h).1
    · exact (State.stepUp_held h).1
  split_ifs
  · exact .refl s
  · exact hdown
  · exact hup
  · exact .refl s

theorem State.limAct_spec (s : State) (down up : Bool) : let u := s.limAct down up
    (s.mode = modeHoldup → u.sclkIn = s.sclkIn ∧ u.holdIn = s.holdIn) ∧
    (s.mode ≠ modeHoldup → (down = true → s.limSealed = true → u.sclkIn = s.sclkIn ∧ u.holdIn = min 15 (s.holdIn + 1)) ∧
      (down = true → ¬s.limSealed = true → u.sclkIn = max 10 (s.sclkIn - 1) ∧ u.holdIn = s.holdIn ∧
        (fld (u.reg Reg.devPwrStat) 10 1 = 1 ↔ u.sclkIn < sclkNominal)) ∧
      (¬down = true → up = true → 0 < s.holdIn → u.holdIn = s.holdIn - 1 ∧ u.sclkIn = s.sclkIn) ∧
      (¬down = true → up = true → s.holdIn = 0 → u.holdIn = 0 ∧ (s.limSealed = true → u.sclkIn = s.sclkIn) ∧
        (¬s.limSealed = true → u.sclkIn = min sclkNominal (s.sclkIn + 1))) ∧
      (¬down = true → ¬up = true → u.sclkIn = s.sclkIn ∧ u.holdIn = s.holdIn)) := by
  dsimp only
  unfold State.limAct
  refine ⟨fun h => by rw [if_pos h]; exact ⟨rfl, rfl⟩, fun h => ?_⟩
  rw [if_neg h]
  refine ⟨fun hd hs => ?_, fun hd hs => ?_, fun hd hu hh => ?_, fun hd hu hh => ?_, fun hd hu => ?_⟩
  · rw [if_pos hd]; exact (State.stepDown_sealed hs).2
  · rw [if_pos hd]; exact (State.stepDown_unsealed hs).2
  · rw [if_neg hd, if_pos hu]; exact (State.stepUp_held hh).2
  · rw [if_neg hd, if_pos hu]; exact (State.stepUp_free hh).2
  · rw [if_neg hd, if_neg hu]; exact ⟨rfl, rfl⟩

end Sys2Proof.Machine
end

section
/-! LIMITER_EVAL as a whole (R457, R458). -/

namespace Sys2Proof.Machine

theorem exec_limiterEval_act (w : Nat) (temps : List Nat) (s : State) : exec (.limiterEval w temps) s = .next (
    if !s.pins.porN || !decide (1 ∈ s.ctl.steps) then s else
    let t := s.limRecord w temps
    let lim := (s.limSense w temps).pwrLimit
    t.limAct (t.regBit Reg.devPwrCtl 0 && (decide (lim < w) || t.tooHot)) (t.limCool && decide (100 * w < 95 * lim))) := rfl

/-- The sensors' registers hold the readings x, each below 4096. -/
def State.TempsRead (t : State) (x : Nat → Nat) : Prop := ∀ k, k < 9 → t.reg (Reg.devTemp k) = BitVec.ofNat 64 (min (x k) 4095)

theorem State.TempsRead.toNat {t : State} {x : Nat → Nat} (h : t.TempsRead x) {k : Nat} (hk : k < 9) : (t.reg (Reg.devTemp k)).toNat = min (x k) 4095 := by
  rw [h k hk, BitVec.toNat_ofNat]
  exact Nat.mod_eq_of_lt (by omega)

theorem State.tooHot_iff {s t : State} {x : Nat → Nat} (hs : LimStep IsLimReg s t) (h : t.TempsRead x) :
    t.tooHot = true ↔ ∃ k, k < 9 ∧ s.thrOf k ≤ min (x k) 4095 := by
  simp only [State.tooHot, List.any_eq_true, List.mem_range, decide_eq_true_eq, hs.thrOf]
  exact exists_congr fun k => and_congr_right fun hk => by rw [h.toNat hk]

theorem State.allCool_iff {s t : State} {x : Nat → Nat} (hs : LimStep IsLimReg s t) (h : t.TempsRead x) :
    t.allCool = true ↔ ∀ k, k < 9 → min (x k) 4095 + 24 ≤ s.thrOf k := by
  simp only [State.allCool, List.all_eq_true, List.mem_range, decide_eq_true_eq, hs.thrOf]
  exact forall_congr' fun k => imp_congr_right fun hk => by rw [h.toNat hk]

/-- Cool for 10 ms: every sensor is cool now, and was at an evaluation 10 ms or more before. -/
theorem State.limCool_iff {s t : State} (hmer : t.mer = s.mer) (hbelow : t.ctl.below = if t.allCool then some (s.ctl.below.getD s.mer.ns) else none) :
    t.limCool = true ↔ t.allCool = true ∧ ∃ b, s.ctl.below = some b ∧ 10 ^ 7 ≤ (s.mer.ns - b).toNat := by
  unfold State.limCool
  rw [hbelow, hmer]
  cases t.allCool with
  | false => exact ⟨nofun, nofun⟩
  | true =>
    cases s.ctl.below with
    | none => simp
    | some b => simp

/-- LIMITER_EVAL: the records, and the step of sclk or HOLD that they ask for. -/
theorem exec_limiterEval (w8 : Nat) (temps : List Nat) (s : State) : ∃ u, exec (.limiterEval w8 temps) s = .next u ∧
    let on := s.pins.porN = true ∧ 1 ∈ s.ctl.steps
    let lim := max 200 (min tdp (fld (s.reg Reg.devPwrCtl) 1 10))
    let temp (k : Nat) : Nat := min (temps.getD k 0) 4095
    let hot := ∃ k, k < 9 ∧ s.thrOf k ≤ temp k
    let cool := (∀ k, k < 9 → temp k + 24 ≤ s.thrOf k) ∧ ∃ t, s.ctl.below = some t ∧ 10 ^ 7 ≤ (s.mer.ns - t).toNat
    let down := fld (s.reg Reg.devPwrCtl) 0 1 = 1 ∧ (lim < w8 ∨ hot)
    let up := cool ∧ 100 * w8 < 95 * lim
    let sealed := s.limSealed = true
    (¬on → u = s) ∧ (on → temps.length = 9 → fld (u.reg Reg.devPwrStat) 0 10 = min w8 1023 ∧ (∀ k, k < 9 → u.reg (Reg.devTemp k) = BitVec.ofNat 64 (temp k)) ∧
      (lim < w8 → fld (u.reg Reg.devPwrStat) 33 1 = 1) ∧ u.mem = s.mem ∧ u.mer = s.mer ∧
      (s.mode = modeHoldup → u.sclkIn = s.sclkIn ∧ u.holdIn = s.holdIn) ∧
      (s.mode ≠ modeHoldup → (down → sealed → u.sclkIn = s.sclkIn ∧ u.holdIn = min 15 (s.holdIn + 1)) ∧
        (down → ¬sealed → u.sclkIn = max 10 (s.sclkIn - 1) ∧ u.holdIn = s.holdIn ∧ (fld (u.reg Reg.devPwrStat) 10 1 = 1 ↔ u.sclkIn < sclkNominal)) ∧
        (¬down → up → 0 < s.holdIn → u.holdIn = s.holdIn - 1 ∧ u.sclkIn = s.sclkIn) ∧
        (¬down → up → s.holdIn = 0 → u.holdIn = 0 ∧ (sealed → u.sclkIn = s.sclkIn) ∧ (¬sealed → u.sclkIn = min sclkNominal (s.sclkIn + 1))) ∧
        (¬down → ¬up → u.sclkIn = s.sclkIn ∧ u.holdIn = s.holdIn))) := by
  have hon : (!s.pins.porN || !decide (1 ∈ s.ctl.steps)) = true ↔ ¬(s.pins.porN = true ∧ 1 ∈ s.ctl.steps) := by
    rw [← Bool.not_and, Bool.not_eq_true', ← Bool.not_eq_true, Bool.and_eq_true, decide_eq_true_eq]
  refine ⟨_, exec_limiterEval_act w8 temps s, fun h => if_pos (hon.2 h), fun h hlen => ?_⟩
  rw [if_neg fun h' => hon.1 h' h]
  obtain ⟨hstep, htemps, hpower, hhit, hfld, hbelow⟩ := s.limRecord_spec w8 temps
  have hlim : (s.limSense w8 temps).pwrLimit = max 200 (min tdp (fld (s.reg Reg.devPwrCtl) 1 10)) := (s.limSense_spec w8 temps).1.pwrLimit
  dsimp only at *
  rw [hlim]
  replace hhit : max 200 (min tdp (fld (s.reg Reg.devPwrCtl) 1 10)) < w8 → _ := hhit
  generalize max 200 (min tdp (fld (s.reg Reg.devPwrCtl) 1 10)) = lim at *
  generalize s.limRecord w8 temps = t at *
  have hread : t.TempsRead fun k => temps.getD k 0 := htemps hlen
  have hclk : t.sclkIn = s.sclkIn := hfld 16 5 (by decide) (by decide)
  have hhold : t.holdIn = s.holdIn := hfld 11 4 (by decide) (by decide)
  have hdown : (t.regBit Reg.devPwrCtl 0 && (decide (lim < w8) || t.tooHot)) = true ↔
      fld (s.reg Reg.devPwrCtl) 0 1 = 1 ∧ (lim < w8 ∨ ∃ k, k < 9 ∧ s.thrOf k ≤ min (temps.getD k 0) 4095) := by
    rw [Bool.and_eq_true, Bool.or_eq_true, State.regBit_iff, hstep.reg Reg.devPwrCtl (by decide), decide_eq_true_eq, State.tooHot_iff hstep hread]
  have hup : (t.limCool && decide (100 * w8 < 95 * lim)) = true ↔ ((∀ k, k < 9 → min (temps.getD k 0) 4095 + 24 ≤ s.thrOf k) ∧
      ∃ t, s.ctl.below = some t ∧ 10 ^ 7 ≤ (s.mer.ns - t).toNat) ∧ 100 * w8 < 95 * lim := by
    rw [Bool.and_eq_true, decide_eq_true_eq, State.limCool_iff hstep.mer hbelow, State.allCool_iff hstep hread]
  rw [← hdown, ← hup, ← hclk, ← hhold, ← hstep.mode, ← hstep.limSealed]
  generalize (t.regBit Reg.devPwrCtl 0 && (decide (lim < w8) || t.tooHot)) = down
  generalize (t.limCool && decide (100 * w8 < 95 * lim)) = up
  have hkept := t.limAct_kept down up
  have hact := t.limAct_spec down up
  generalize t.limAct down up = u at *
  refine ⟨hkept.power.trans hpower, fun k hk => ?_, fun h => hkept.limitHit.trans (hhit h), hkept.step.mem.trans hstep.mem,
    hkept.step.mer.trans hstep.mer, hact⟩
  rw [hkept.step.reg _ (devTemp_ne_devPwrStat k), hread k hk]

end Sys2Proof.Machine
end

section
/-! REGISTER_WRITE: the field types of R10 under the requesters, places and widths of R21 and R22. -/

namespace Sys2Proof.Machine

/-- A bit is written where the write reaches it and its field takes values. -/
theorem State.getLsbD_plainWrite (s : State) (d : RegD) (r : Nat) (m w : W64) {k : Nat} (hk : k < 64) : ((s.plainWrite d r m w).reg r).getLsbD k =
    ((if (d.rw.getLsbD k = true ∨ (d.rwl.getLsbD k = true ∧ s.ctl.rwl = false)) ∧ m.getLsbD k = true then w.getLsbD k else (s.reg r).getLsbD k) &&
      !(w.getLsbD k && d.w1c.getLsbD k)) := by
  have hrw : ((d.rw ||| (if s.ctl.rwl then 0 else d.rwl)) &&& m).getLsbD k =
      decide ((d.rw.getLsbD k = true ∨ (d.rwl.getLsbD k = true ∧ s.ctl.rwl = false)) ∧ m.getLsbD k = true) := by
    cases s.ctl.rwl <;> simp
  unfold State.plainWrite
  dsimp only
  rw [State.reg_setReg_same]
  generalize (d.rw ||| (if s.ctl.rwl then 0 else d.rwl)) &&& m = rw' at *
  rw [BitVec.getLsbD_and, BitVec.getLsbD_or, BitVec.getLsbD_and, BitVec.getLsbD_and, BitVec.getLsbD_not, BitVec.getLsbD_not, BitVec.getLsbD_and, hrw, decide_eq_true hk]
  split
  · next h => rw [decide_eq_true h]; simp
  · next h => rw [decide_eq_false h]; simp

theorem State.csrWrite_of_unassigned (s : State) (who : Requester) {r : Nat} (f : DbForm) (v : W64) (h : regAt r = none) : s.csrWrite who r f v = s := by
  unfold State.csrWrite
  rw [h]

/-- Where no action is attached to a register, a write is one by field types. -/
theorem State.csrWrite_of_plain (s : State) (who : Requester) {r : Nat} (f : DbForm) (v : W64) {d : RegD} (hd : regAt r = some d)
    (h1 : s.writeDevice who r f (writeMask f) (writeBits f v) = none) (h2 : s.writeCaches r f (writeMask f) (writeBits f v) = none)
    (h3 : s.writeSpy d r f (writeMask f) (writeBits f v) = none) (h4 : s.writeOrr d r f (writeMask f) (writeBits f v) = none)
    (h5 : s.writeQueue r f (writeMask f) (writeBits f v) = none) (h6 : s.writeAlm r f (writeBits f v) = none)
    (h7 : s.writeStream d r f (writeMask f) (writeBits f v) = none) (h8 : s.writeNet r f (writeMask f) (writeBits f v) = none) :
    s.csrWrite who r f v = s.plainWrite d r (writeMask f) (writeBits f v) := by
  unfold State.csrWrite
  rw [hd]
  dsimp only
  rw [h1, h2, h3, h4, h5, h6, h7, h8]
  rfl

/-- The requesters that CSR space answers (R21). -/
def State.CsrOpens (s : State) (who : Requester) : Prop := match who with
  | .core h => (s.ctx (2048 + h.val)).priv ≠ .u
  | .stagehand | .hardware => True
  | .other => False

theorem State.csrOpen_iff (s : State) (who : Requester) : s.csrOpen who = true ↔ s.CsrOpens who := by
  cases who with
  | core h => exact bne_iff_ne
  | stagehand => exact iff_of_true rfl trivial
  | hardware => exact iff_of_true rfl trivial
  | other => exact iff_of_false Bool.false_ne_true id

theorem exec_registerWrite_eq (who : Requester) (addr : BitVec 48) (size : CsrSize) (v : W64) (s : State) :
    exec (.registerWrite who addr size v) s = .next (
      if !s.pins.porN || !s.csrOpen who || s.region addr.toNat != some .csr then s
      else match csrForm addr.toNat size with
        | none => s
        | some f => s.csrWrite who (addr.toNat / 8 * 8) f v) := rfl

/-- REGISTER_WRITE: nothing outside what R21 and R22 let through; else a write by field types where no action is attached (R10). -/
theorem exec_registerWrite (who : Requester) (addr : BitVec 48) (size : CsrSize) (v : W64) (s : State) :
    ∃ u, exec (.registerWrite who addr size v) s = .next u ∧
      let a := addr.toNat
      let r := a / 8 * 8
      let out := s.pins.porN = false ∨ ¬s.CsrOpens who ∨ s.region a ≠ some .csr
      (out → u = s) ∧ (csrForm a size = none → u = s) ∧ (regAt r = none → u = s) ∧
      ∀ f d, ¬out → csrForm a size = some f → regAt r = some d →
        let m := writeMask f
        let w := writeBits f v
        s.writeDevice who r f m w = none → s.writeCaches r f m w = none → s.writeSpy d r f m w = none → s.writeOrr d r f m w = none → s.writeQueue r f m w = none →
        s.writeAlm r f w = none → s.writeStream d r f m w = none → s.writeNet r f m w = none →
        (∃ x, u = s.setReg r x) ∧ ∀ k, k < 64 → (u.reg r).getLsbD k =
          ((if (d.rw.getLsbD k = true ∨ (d.rwl.getLsbD k = true ∧ s.ctl.rwl = false)) ∧ m.getLsbD k = true then w.getLsbD k else (s.reg r).getLsbD k) &&
            !(w.getLsbD k && d.w1c.getLsbD k)) := by
  have hout : (!s.pins.porN || !s.csrOpen who || s.region addr.toNat != some .csr) = true ↔
      (s.pins.porN = false ∨ ¬s.CsrOpens who ∨ s.region addr.toNat ≠ some .csr) := by
    rw [Bool.or_eq_true, Bool.or_eq_true, Bool.not_eq_true', ← s.csrOpen_iff, Bool.not_eq_true, Bool.not_eq_true', bne_iff_ne, or_assoc]
  refine ⟨_, exec_registerWrite_eq who addr size v s, ?_⟩
  dsimp only
  refine ⟨fun h => if_pos (hout.2 h), fun hf => ?_, fun hr => ?_, fun f d hin hf hd h1 h2 h3 h4 h5 h6 h7 h8 => ?_⟩
  · rw [hf, ite_self]
  · cases csrForm addr.toNat size with
    | none => exact ite_self _
    | some f => exact (congrArg (ite _ s) (s.csrWrite_of_unassigned who f v hr)).trans (ite_self _)
  · rw [if_neg fun h => hin (hout.1 h), hf]
    dsimp only
    rw [s.csrWrite_of_plain who f v hd h1 h2 h3 h4 h5 h6 h7 h8]
    exact ⟨⟨_, rfl⟩, fun k hk => s.getLsbD_plainWrite d _ _ _ hk⟩

end Sys2Proof.Machine
end

section
/-! The obligation of HOLDUP, the hold-up controller, the limiter, the TAP and plain register writes, from the commands' theorems. -/

namespace Sys2Proof

open Machine

/-- Settles O60: each command by the theorem that says what exec answers for it. -/
theorem holdUpPowerAndRegisterWrites : Obligations.HoldUpPowerAndRegisterWrites := by
  unfold Obligations.HoldUpPowerAndRegisterWrites
  intro i sensor rail n ns w8 permille temps who addr size v s
  exact ⟨exec_pfN n s, exec_thermalTrip sensor n s, exec_clockLockLost i s, exec_clockRelock i s, exec_clockLostTimeout i s,
    exec_holdupDone s, exec_voltageSample n s, exec_meas s, exec_measDue s, exec_measStart s, exec_measEnd n s, exec_limitRecompute s,
    s.limitFor_le n, s.limitFor_zero n, s.limitApply_spec n, exec_railUndervoltage rail ns permille s, exec_limiterEval w8 temps s,
    exec_tapIdcode s, exec_tapBypass s, exec_tapExtest s,
    ⟨⟨_, rfl, s.tapLoad_spec tapSample⟩, ⟨_, rfl, s.tapLoad_spec tapPreload⟩⟩, exec_registerWrite who addr size v s⟩

end Sys2Proof
end

section
/-! The obligation of the reset state: the tables that hold an entry are read at it, and every other key reads its table's reset value. -/

namespace Sys2Proof.Machine

theorem State.reset_reg (a : Nat) : State.reset.reg a = regDefault a := rfl

/-- A table with an entry at 0 alone reads as empty at every other key. -/
theorem Tab.get_singleton_zero {V : Type} (d v : V) {k : Nat} (h : k ≠ 0) : Tab.get d [(0, v)] k = d := by
  simp [Tab.get, Tab.find?, Ne.symm h]

theorem State.reset_booth_of_ne_zero {b : BitVec 12} (h : b ≠ 0) : State.reset.booth b = {} :=
  Tab.get_singleton_zero _ _ fun e => h (BitVec.eq_of_toNat_eq e)

theorem State.reset_queue_of_ne_zero {q : BitVec 16} (h : q ≠ 0) : State.reset.queue q = {} :=
  Tab.get_singleton_zero _ _ fun e => h (BitVec.eq_of_toNat_eq e)

theorem ctxCsrDefault_of_ne {n : Nat} (h : n ≠ csrFcsr) : ctxCsrDefault n = 0 := if_neg h

end Sys2Proof.Machine

namespace Sys2Proof

open Machine

/-- Settles O3: each clause by what the reset state reads there. -/
theorem resetGivesTheValuesOfTheTables : Obligations.ResetGivesTheValuesOfTheTables := by
  unfold Obligations.ResetGivesTheValuesOfTheTables
  refine ⟨rfl, by decide +kernel, rfl, fun x => ⟨rfl, rfl, rfl, rfl, fun n hn => ?_⟩, State.reset_reg, rfl, by decide, fun b hb => ?_, rfl, rfl, rfl,
    fun q hq => ?_⟩
  · exact ctxCsrDefault_of_ne hn
  · rw [State.reset_booth_of_ne_zero hb]
  · rw [State.reset_queue_of_ne_zero hq]

end Sys2Proof
end

section
/-! The obligation of the idle step: what each part of a nanosecond changes (R28, R29, R168, R214). -/

namespace Sys2Proof.Machine

/-! ### Meridian -/

theorem State.trim_bounds (s : State) : -trimMax ≤ s.trim ∧ s.trim ≤ trimMax := by
  unfold State.trim trimMax
  omega

/-- The units of 2^-32 ns that Meridian shows after a nanosecond, below 2^34. -/
def Meridian.units (m : Meridian) (trim : Int) : Nat := ((m.frac.toNat : Int) + 2 ^ 32 + trim).toNat

theorem Meridian.units_eq (m : Meridian) {trim : Int} (h : -trimMax ≤ trim) : (m.units trim : Int) = m.frac.toNat + 2 ^ 32 + trim := by
  unfold Meridian.units
  unfold trimMax at h
  omega

theorem Meridian.count_ns (m : Meridian) (trim : Int) : (m.count trim).ns = m.ns + BitVec.ofNat 64 (m.units trim / 2 ^ 32) := rfl
theorem Meridian.count_frac (m : Meridian) (trim : Int) : (m.count trim).frac = BitVec.ofNat 32 (m.units trim) := rfl

/-- Nanoseconds and fraction as one number. -/
theorem toNat_ns_append_frac (a : W64) (b : BitVec 32) : (a ++ b : BitVec 96).toNat = a.toNat * 2 ^ 32 + b.toNat := by
  rw [BitVec.toNat_append, ← Nat.shiftLeft_add_eq_or_of_lt b.isLt, Nat.shiftLeft_eq]

/-- Meridian gains 2^32 units and its trim. -/
theorem Meridian.count_units (m : Meridian) {trim : Int} (h : -trimMax ≤ trim) :
    ((m.count trim).ns ++ (m.count trim).frac : BitVec 96) = (m.ns ++ m.frac) + BitVec.ofInt 96 (2 ^ 32 + trim) := by
  have hu := m.units_eq h
  have hpos : 0 ≤ 2 ^ 32 + trim := by unfold trimMax at h; omega
  obtain ⟨g, hg⟩ := Int.eq_ofNat_of_zero_le hpos
  have hug : m.units trim = m.frac.toNat + g := by omega
  rw [hg]
  refine BitVec.eq_of_toNat_eq ?_
  rw [BitVec.toNat_add, toNat_ns_append_frac, toNat_ns_append_frac, Meridian.count_ns, Meridian.count_frac, hug, BitVec.toNat_add,
    BitVec.toNat_ofNat, BitVec.toNat_ofNat, BitVec.ofInt_natCast, BitVec.toNat_ofNat]
  omega

theorem Meridian.count_zero (m : Meridian) : (m.count 0).ns = m.ns + 1 ∧ (m.count 0).frac = m.frac := by
  have hu : m.units 0 = m.frac.toNat + 2 ^ 32 := by have := m.units_eq (trim := 0) (by decide); omega
  rw [Meridian.count_ns, Meridian.count_frac, hu]
  constructor
  · rw [Nat.add_div_right _ (Nat.two_pow_pos 32), Nat.div_eq_of_lt m.frac.isLt]
    rfl
  · refine BitVec.eq_of_toNat_eq ?_
    rw [BitVec.toNat_ofNat, Nat.add_mod_right, Nat.mod_eq_of_lt m.frac.isLt]

/-! ### What else a nanosecond changes -/

theorem State.engCycles_csr (s : State) (u n : Nat) : ∃ c, s.engCycles u n = { s with csr := c } := by
  have addReg_ite (t : State) (b : Prop) [Decidable b] (a : Nat) (ht : ∃ c, t = { s with csr := c }) :
      ∃ c, (if b then t.addReg a n else t) = { s with csr := c } := by
    obtain ⟨c, rfl⟩ := ht
    split
    · exact ⟨_, rfl⟩
    · exact ⟨c, rfl⟩
  exact addReg_ite _ _ _ (addReg_ite _ _ _ (addReg_ite _ _ _ ⟨s.csr, rfl⟩))

/-- The clocks step registers and Meridian's cycle counts only. -/
theorem State.clocks_eq (s : State) :
    ∃ c k1 k2 k3, s.clocks = { s with csr := c, mer := { s.mer with sclk := k1, cclk := k2, qclk := k3 } } := by
  have foldl_csr (l : List Nat) (n : Nat) (t : State) : ∃ c, l.foldl (fun s u => s.engCycles u n) t = { t with csr := c } := by
    induction l generalizing t with
    | nil => exact ⟨t.csr, rfl⟩
    | cons u l ih =>
      obtain ⟨c, hc⟩ := t.engCycles_csr u n
      obtain ⟨c', hc'⟩ := ih (t.engCycles u n)
      exact ⟨c', by rw [List.foldl_cons, hc', hc]⟩
  unfold State.clocks
  dsimp only
  split
  · exact ⟨_, _, _, _, rfl⟩
  · obtain ⟨c, hc⟩ := foldl_csr (List.range 128) _ _
    exact ⟨c, _, _, _, hc⟩

/-- A nanosecond as a whole, while the device runs and no POR is asked for. -/
theorem State.tick_eq {s : State} (hp : s.pins.porN = true) (ha : s.ctl.porAt = none) : s.tick = s.count.clocks.portGain := by
  obtain ⟨c, k1, k2, k3, hc⟩ := s.count.clocks_eq
  unfold State.tick
  rw [if_neg (by simp [hp])]
  dsimp only
  rw [show s.count.clocks.portGain.ctl.porAt = none by rw [hc]; exact ha]

theorem step_idle {s : State} (h : s.pending = []) : step s = .next s.tick := by
  unfold step; rw [h]

end Sys2Proof.Machine

namespace Sys2Proof

open Machine

/-- Settles O2: the step is the tick, which is Meridian's count, the cycle counts and the search port's gain. -/
theorem idleStepCountsOneNanosecond : Obligations.IdleStepCountsOneNanosecond := by
  unfold Obligations.IdleStepCountsOneNanosecond
  intro s hq hp ha
  obtain ⟨c, k1, k2, k3, hc⟩ := s.count.clocks_eq
  obtain ⟨hlo, -⟩ := s.trim_bounds
  refine ⟨_, step_idle hq, ?_⟩
  rw [State.tick_eq hp ha, hc]
  refine ⟨fun h0 => ?_, ⟨s.mer.count_units hlo, ?_⟩, rfl, rfl, rfl, fun _ => rfl, rfl, rfl, hq⟩
  · have h := s.mer.count_zero
    rw [← h0] at h
    exact h
  · unfold trimMax at hlo
    omega

end Sys2Proof
end

section
/-! SUPPORT. The dispatch of a queue entry (R269, R270): a command of a class and opcode acts just where `State.dispatches` holds. -/

namespace Sys2Proof.Machine

variable {cls op : Nat} {q : BitVec 16} {ready : Item → State → Bool} {body : Item → State → State} {s : State}

theorem dispatch_of_released {e : Item} {r : List Item} (hx : (s.queue q).exists_ = true) (hc : (s.queue q).cls = cls)
    (hr : (s.queue q).role = 2) (hl : (s.queue q).released = e :: r) (ho : e.opcode = op) (hy : ready e s = true) :
    dispatch cls op q ready body s = body e (s.setQueue q { s.queue q with released := r }) := by
  simp [dispatch, hx, hc, hr, hl, ho, hy]

theorem dispatch_of_front {e : Item} {u : State} (hx : (s.queue q).exists_ = true) (hc : (s.queue q).cls = cls)
    (hr : (s.queue q).role ≠ 2) (hw : s.winner cls ready = some q.toNat) (hf : s.takeFront q = (u, some e)) (ho : e.opcode = op) :
    dispatch cls op q ready body s = body e { u with rr := Tab.set 65535 u.rr (cls * 4 + (s.queue q).prio.toNat) q.toNat } := by
  simp [dispatch, hx, hc, hr, hw, hf, ho]

/-- The entry that is dispatched is handed on in the state in which it has left its queue. -/
theorem dispatch_of_dispatches {e : Item} {t : State} (h : s.dispatches cls op q ready e t) : dispatch cls op q ready body s = body e t := by
  obtain ⟨hx, hc, ho, h⟩ := h
  by_cases hr : (s.queue q).role = 2
  · rw [if_pos hr] at h
    obtain ⟨r, hl, hy, rfl⟩ := h
    exact dispatch_of_released hx hc hr hl ho hy
  · rw [if_neg hr] at h
    obtain ⟨hw, u, hf, rfl⟩ := h
    exact dispatch_of_front hx hc hr hw hf ho

theorem State.dispatches_released {e : Item} {r : List Item} (hx : (s.queue q).exists_ = true) (hc : (s.queue q).cls = cls)
    (hr : (s.queue q).role = 2) (hl : (s.queue q).released = e :: r) (ho : e.opcode = op) (hy : ready e s = true) :
    s.dispatches cls op q ready e (s.setQueue q { s.queue q with released := r }) :=
  ⟨hx, hc, ho, by rw [if_pos hr]; exact ⟨r, hl, hy, rfl⟩⟩

theorem State.dispatches_front {e : Item} {u : State} (hx : (s.queue q).exists_ = true) (hc : (s.queue q).cls = cls)
    (hr : (s.queue q).role ≠ 2) (hw : s.winner cls ready = some q.toNat) (hf : s.takeFront q = (u, some e)) (ho : e.opcode = op) :
    s.dispatches cls op q ready e { u with rr := Tab.set 65535 u.rr (cls * 4 + (s.queue q).prio.toNat) q.toNat } :=
  ⟨hx, hc, ho, by rw [if_neg hr]; exact ⟨hw, u, hf, rfl⟩⟩

/-- Where nothing is dispatched the command changes nothing. -/
theorem dispatch_of_not_dispatches (h : ∀ e t, ¬s.dispatches cls op q ready e t) : dispatch cls op q ready body s = s := by
  unfold dispatch
  dsimp only
  split
  · rfl
  · rename_i hx
    obtain ⟨hx, hc⟩ : (s.queue q).exists_ = true ∧ (s.queue q).cls = cls := by simpa using hx
    split
    · rename_i hr
      split
      · rfl
      · rename_i e r hl
        exact if_neg fun ⟨ho, hy⟩ => h e _ (State.dispatches_released hx hc hr hl ho hy)
    · rename_i hr
      split
      · rfl
      · rename_i hw
        split
        · rfl
        · rename_i e he
          exact if_pos fun ho => h e _ (State.dispatches_front hx hc hr (not_not.1 hw) (Prod.ext rfl he) ho)

end Sys2Proof.Machine
end

section
/-! SUPPORT. What Booth 0 writes in HBM (R19, R257, R260): every byte lands, and a ring's slots take theirs. -/

namespace Sys2Proof.Machine

/-! ### HBM admits every access -/

theorem State.region_of_hbm (s : State) {a : Nat} (h : a < hbmEnd) : s.region a = some .hbm := if_pos h

theorem State.memStatus_of_hbm (s : State) {a n : Nat} (hn : 0 < n) (h : a + n ≤ hbmEnd) : s.memStatus a n = none := by
  rw [State.memStatus, s.region_of_hbm (a := a) (by omega), s.region_of_hbm (a := a + n - 1) (by omega)]
  rfl

theorem State.writeStatus_of_hbm (s : State) (w : Who) {a n : Nat} (hn : 0 < n) (h : a + n ≤ hbmEnd) : s.writeStatus w a n = none := by
  rw [State.writeStatus, s.memStatus_of_hbm hn h, s.region_of_hbm (a := a) (by omega)]
  rfl

theorem State.dmaAddr_zero (s : State) (wr : Bool) (a : W64) : s.dmaAddr 0 wr a = .ok a.toNat := rfl

/-! ### Bytes written in pieces -/

theorem putPeek_nil (s : State) (a x : Nat) : putPeek s a [] x = s.peek x := if_neg (by simp only [List.length_nil]; omega)

/-- Bytes written behind others. -/
theorem putPeek_append {s t : State} {a : Nat} {l : List Byte} (h : ∀ x, t.peek x = putPeek s a l x) (r : List Byte) (x : Nat) :
    putPeek t (a + l.length) r x = putPeek s a (l ++ r) x := by
  rw [putPeek, putPeek, h, putPeek, List.length_append]
  by_cases hl : a ≤ x ∧ x < a + l.length
  · rw [if_neg (by omega), if_pos hl, if_pos (by omega), List.getD_eq_getElem?_getD, List.getD_eq_getElem?_getD,
      List.getElem?_append_left (by omega)]
  · by_cases hr : a + l.length ≤ x ∧ x < a + l.length + r.length
    · rw [if_pos hr, if_pos (by omega), List.getD_eq_getElem?_getD, List.getD_eq_getElem?_getD, List.getElem?_append_right (by omega),
        Nat.sub_sub]
    · rw [if_neg hr, if_neg hl, if_neg (by omega)]

theorem State.dmaWriteGo_nil (k : Nat) (s : State) (bid : BitVec 12) (a : W64) : State.dmaWriteGo k s bid a [] = (s, none) := by
  cases k <;> rfl

/-- The pieces of a write of Booth 0 in HBM: one for each granule of 64 KiB, as many as the fuel allows. -/
theorem State.dmaWriteGo_hbm (k : Nat) (s : State) (a : W64) (l : List Byte) (hk : l = [] ∨ a.toNat % 65536 + l.length ≤ k * 65536)
    (h : a.toNat + l.length ≤ hbmEnd) : (State.dmaWriteGo k s 0 a l).2 = none ∧ McStep s (State.dmaWriteGo k s 0 a l).1 ∧
      ∀ x, (State.dmaWriteGo k s 0 a l).1.peek x = putPeek s a.toNat l x := by
  induction k generalizing s a l with
  | zero =>
    have hl : l = [] := hk.elim id fun hk => List.eq_nil_of_length_eq_zero (by omega)
    rw [hl, State.dmaWriteGo_nil]
    exact ⟨rfl, .refl s, fun x => (putPeek_nil s _ x).symm⟩
  | succ k ih =>
    by_cases hl : l = []
    · rw [hl, State.dmaWriteGo_nil]
      exact ⟨rfl, .refl s, fun x => (putPeek_nil s _ x).symm⟩
    · have hpos := List.length_pos_iff.2 hl
      replace hk := hk.resolve_left hl
      generalize hm : min l.length (65536 - a.toNat % 65536) = m
      have hmpos : 0 < m := by omega
      have hgo : State.dmaWriteGo (k + 1) s 0 a l =
          State.dmaWriteGo k (s.busWrite a.toNat (l.take m)) 0 (a + BitVec.ofNat 64 m) (l.drop m) := by
        obtain ⟨b, t, rfl⟩ := List.exists_cons_of_ne_nil hl
        rw [State.dmaWriteGo]
        simp only [hm, State.dmaAddr_zero, s.writeStatus_of_hbm .tenant hmpos (a := a.toNat) (by omega)]
        exact nofun
      have ha : (a + BitVec.ofNat 64 m).toNat = a.toNat + m := by
        unfold hbmEnd at h
        rw [BitVec.toNat_add, BitVec.toNat_ofNat]
        omega
      have htake : (l.take m).length = m := by rw [List.length_take]; omega
      have hrest : l.drop m = [] ∨ (a.toNat + m) % 65536 + (l.drop m).length ≤ k * 65536 := by
        rw [List.drop_eq_nil_iff, List.length_drop]
        omega
      obtain ⟨hnone, hstep, hpeek⟩ := ih (s.busWrite a.toNat (l.take m)) (a + BitVec.ofNat 64 m) (l.drop m)
        (by rw [ha]; exact hrest) (by rw [ha, List.length_drop]; omega)
      rw [hgo]
      refine ⟨hnone, (s.busWrite_step _ _).trans hstep, fun x => ?_⟩
      have happ := putPeek_append (s.peek_busWrite a.toNat (l.take m)) (l.drop m) x
      rw [List.take_append_drop, htake] at happ
      rw [hpeek, ha, happ]

/-- A write of Booth 0 in HBM. -/
theorem State.dmaWrite_hbm (s : State) {a : W64} {l : List Byte} (h : a.toNat + l.length ≤ hbmEnd) :
    (s.dmaWrite 0 a l).2 = none ∧ McStep s (s.dmaWrite 0 a l).1 ∧ ∀ x, (s.dmaWrite 0 a l).1.peek x = putPeek s a.toNat l x :=
  State.dmaWriteGo_hbm _ s a l (.inr (by omega)) h

/-! ### Slots of a ring -/

/-- Where the slot of a counter lies (R260). -/
def slotPos (base : W64) (lg : Nat) (n : BitVec 32) : Nat := base.toNat + 16 * (n.toNat % 2 ^ lg)

theorem slotPos_add_lt (base : W64) (lg : Nat) (n : BitVec 32) : slotPos base lg n + 16 ≤ base.toNat + 16 * 2 ^ lg := by
  have := Nat.mod_lt n.toNat (Nat.two_pow_pos lg)
  unfold slotPos
  omega

theorem toNat_slotAddr {base : W64} {lg : Nat} (h : base.toNat + 16 * 2 ^ lg ≤ hbmEnd) (n : BitVec 32) :
    (slotAddr base lg n).toNat = slotPos base lg n := by
  have := slotPos_add_lt base lg n
  unfold slotPos hbmEnd at *
  rw [slotAddr, BitVec.toNat_add, BitVec.toNat_ofNat]
  omega

/-- Counters less than a ring apart name different slots. -/
theorem slotPos_inj {base : W64} {lg i j : Nat} (hlg : lg ≤ 32) (n : BitVec 32) (hi : i < 2 ^ lg) (hj : j < 2 ^ lg)
    (h : slotPos base lg (n + BitVec.ofNat 32 i) = slotPos base lg (n + BitVec.ofNat 32 j)) : i = j := by
  have hmod (k : Nat) : (n + BitVec.ofNat 32 k).toNat % 2 ^ lg = (n.toNat + k) % 2 ^ lg := by
    rw [BitVec.toNat_add, BitVec.toNat_ofNat, Nat.add_mod_mod, Nat.mod_mod_of_dvd _ (Nat.pow_dvd_pow 2 hlg)]
  have he : n.toNat + i ≡ n.toNat + j [MOD 2 ^ lg] := by
    unfold slotPos at h
    rw [hmod, hmod] at h
    unfold Nat.ModEq
    omega
  exact (Nat.ModEq.add_left_cancel' _ he).eq_of_lt_of_lt hi hj

/-- An address lies in one of the first `k` slots from a counter on. -/
def InSlots (base : W64) (lg : Nat) (n : BitVec 32) (k y : Nat) : Prop :=
  ∃ j, j < k ∧ slotPos base lg (n + BitVec.ofNat 32 j) ≤ y ∧ y < slotPos base lg (n + BitVec.ofNat 32 j) + 16

theorem InSlots.in_ring {base : W64} {lg : Nat} {n : BitVec 32} {k y : Nat} (h : InSlots base lg n k y) :
    base.toNat ≤ y ∧ y < base.toNat + 16 * 2 ^ lg := by
  obtain ⟨j, -, hlo, hhi⟩ := h
  have := slotPos_add_lt base lg (n + BitVec.ofNat 32 j)
  have : base.toNat ≤ slotPos base lg (n + BitVec.ofNat 32 j) := Nat.le_add_right _ _
  omega

/-- The slots after the first are those from the next counter on. -/
theorem slot_succ (n : BitVec 32) (j : Nat) : n + 1 + BitVec.ofNat 32 j = n + BitVec.ofNat 32 (j + 1) := by
  rw [BitVec.add_assoc, BitVec.ofNat_add, BitVec.add_comm (1 : BitVec 32)]
  rfl

/-- Slots that Booth 0 writes to a ring in HBM hold their bytes, and no other byte changes. -/
theorem State.ringWrite_hbm (k : Nat) (s : State) (x : Queue) (n : BitVec 32) (l : List Byte) (hb : x.ringBid = 0) (hl : l.length = 16 * k)
    (hlg : x.sqLog ≤ 32) (hk : k ≤ 2 ^ x.sqLog) (h : x.sqBase.toNat + 16 * 2 ^ x.sqLog ≤ hbmEnd) :
    (State.ringWrite k s x n l).2 = none ∧ McStep s (State.ringWrite k s x n l).1 ∧
      (∀ j i, j < k → i < 16 →
        (State.ringWrite k s x n l).1.peek (slotPos x.sqBase x.sqLog (n + BitVec.ofNat 32 j) + i) = l.getD (16 * j + i) 0) ∧
      ∀ y, ¬InSlots x.sqBase x.sqLog n k y → (State.ringWrite k s x n l).1.peek y = s.peek y := by
  induction k generalizing s n l with
  | zero => exact ⟨rfl, .refl s, fun _ _ hj => absurd hj (Nat.not_lt_zero _), fun _ _ => rfl⟩
  | succ k ih =>
    have hpos := toNat_slotAddr h n
    have hend := slotPos_add_lt x.sqBase x.sqLog n
    have htake : (l.take 16).length = 16 := by rw [List.length_take]; omega
    obtain ⟨hnone, hstep, hpeek⟩ := s.dmaWrite_hbm (a := slotAddr x.sqBase x.sqLog n) (l := l.take 16) (by omega)
    generalize hw : s.dmaWrite 0 (slotAddr x.sqBase x.sqLog n) (l.take 16) = w at hnone hstep hpeek
    rw [hpos] at hpeek
    have hgo : State.ringWrite (k + 1) s x n l = State.ringWrite k w.1 x (n + 1) (l.drop 16) := by
      rw [State.ringWrite, hb, hw, hnone]
    obtain ⟨hnone', hstep', hin, hout⟩ := ih w.1 (n + 1) (l.drop 16) (by rw [List.length_drop]; omega) (by omega)
    rw [hgo]
    have hzero : n + BitVec.ofNat 32 0 = n := BitVec.add_zero n
    refine ⟨hnone', hstep.trans hstep', fun j i hj hi => ?_, fun y hy => ?_⟩
    · cases j with
      | zero =>
        rw [hzero, hout _ ?_, hpeek, putPeek, if_pos (by omega), Nat.add_sub_cancel_left, List.getD_eq_getElem?_getD,
          List.getD_eq_getElem?_getD, List.getElem?_take_of_lt hi]
        · simp
        · rintro ⟨j, hj, hlo, hhi⟩
          rw [slot_succ] at hlo hhi
          have hne : slotPos x.sqBase x.sqLog n ≠ slotPos x.sqBase x.sqLog (n + BitVec.ofNat 32 (j + 1)) := fun e => by
            have := slotPos_inj hlg n (i := 0) (j := j + 1) (by omega) (by omega) (by rw [hzero]; exact e)
            omega
          unfold slotPos at hne hlo hhi
          omega
      | succ j =>
        rw [← slot_succ, hin j i (by omega) hi, List.getD_eq_getElem?_getD, List.getD_eq_getElem?_getD, List.getElem?_drop]
        congr 2
        omega
    · rw [hout y fun ⟨j, hj, hlo, hhi⟩ => hy ⟨j + 1, by omega, by rw [← slot_succ]; exact ⟨hlo, hhi⟩⟩, hpeek, putPeek, if_neg]
      exact fun hin => hy ⟨0, by omega, by rw [hzero]; omega⟩

end Sys2Proof.Machine
end

section
/-! SUPPORT. The key of a received frame (R402, R406): every part that the parser finds fits its field, so each field of the key reads as its part. -/

namespace Sys2Proof

theorem beVal_lt (l : List Byte) : beVal l < 256 ^ l.length := by
  induction l using List.reverseRecOn with
  | nil => decide
  | append_singleton l b ih =>
    have hb : beVal (l ++ [b]) = beVal l * 256 + b.toNat := by simp [beVal]
    have := b.isLt
    rw [hb, List.length_append, List.length_singleton, Nat.pow_succ]
    omega

theorem beFld_lt (l : List Byte) (k n : Nat) : beFld l k n < 256 ^ n :=
  Nat.lt_of_lt_of_le (beVal_lt _) (Nat.pow_le_pow_right (by decide) (List.length_take_le _ _))

theorem xor4_lt (l : List Byte) (k : Nat) : xor4 l k < 2 ^ 32 :=
  Nat.xor_lt_two_pow (Nat.xor_lt_two_pow (beFld_lt l k 4) (beFld_lt l _ 4)) (Nat.xor_lt_two_pow (beFld_lt l _ 4) (beFld_lt l _ 4))

/-- The parts that a frame's payload gives fit their fields. -/
structure Parsed.Fits (p : Parsed) : Prop where
  proto : p.proto < 2 ^ 8
  dport : p.dport < 2 ^ 16
  sport : p.sport < 2 ^ 16
  dst : p.dst < 2 ^ 32
  src : p.src < 2 ^ 32

/-- Two results of the parser agree on what the Ethernet header gives. -/
def Parsed.SameHeader (p r : Parsed) : Prop := r.vlan = p.vlan ∧ r.vid = p.vid ∧ r.etype = p.etype

theorem parseL4_spec {p : Parsed} (h : p.Fits) (l addrs : List Byte) (l4 len : Nat) :
    (parseL4 p l addrs l4 len).Fits ∧ p.SameHeader (parseL4 p l addrs l4 len) := by
  unfold parseL4
  dsimp only
  generalize (if p.proto = protoTcp then 20 else 8) = need
  split
  · exact ⟨h, rfl, rfl, rfl⟩
  · split
    · exact ⟨⟨h.proto, beFld_lt l _ 2, beFld_lt l _ 2, h.dst, h.src⟩, rfl, rfl, rfl⟩
    · exact ⟨⟨h.proto, h.dport, h.sport, h.dst, h.src⟩, rfl, rfl, rfl⟩

theorem parseV4_spec {p : Parsed} (h : p.Fits) (l : List Byte) : (parseV4 p l).Fits ∧ p.SameHeader (parseV4 p l) := by
  unfold parseV4
  dsimp only
  split
  · exact ⟨h, rfl, rfl, rfl⟩
  · split
    · exact ⟨⟨beFld_lt l _ 1, h.dport, h.sport, beFld_lt l _ 4, beFld_lt l _ 4⟩, rfl, rfl, rfl⟩
    · exact parseL4_spec (p := { p with ipv4 := true, proto := _, frag := _, badIp := _, src := _, dst := _ })
        ⟨beFld_lt l _ 1, h.dport, h.sport, beFld_lt l _ 4, beFld_lt l _ 4⟩ _ _ _ _

/-- The protocol behind IPv6's extension headers is a byte. -/
theorem ipv6Ext_lt (l : List Byte) (base k : Nat) {nh o : Nat} {frag : Bool} (h : nh < 2 ^ 8) {r : Nat × Nat × Bool}
    (hr : ipv6Ext l base k nh o frag = some r) : r.1 < 2 ^ 8 := by
  induction k generalizing nh o frag with
  | zero => simp [ipv6Ext] at hr
  | succ k ih =>
    rw [ipv6Ext] at hr
    dsimp only at hr
    have hb := beFld_lt l o 1
    split at hr
    · split at hr
      · simp at hr
      · exact ih hb hr
    · split at hr
      · split at hr
        · simp at hr
        · exact ih hb hr
      · split at hr
        · split at hr
          · simp at hr
          · exact ih hb hr
        · rw [← Option.some.inj hr]
          exact h

theorem parseV6_spec {p : Parsed} (h : p.Fits) (l : List Byte) : (parseV6 p l).Fits ∧ p.SameHeader (parseV6 p l) := by
  unfold parseV6
  dsimp only
  split
  · exact ⟨h, rfl, rfl, rfl⟩
  · split
    · exact ⟨⟨h.proto, h.dport, h.sport, xor4_lt l _, xor4_lt l _⟩, rfl, rfl, rfl⟩
    · rename_i nh l4 frag he
      have hnh := ipv6Ext_lt l _ _ (beFld_lt l _ 1) he
      split
      · exact ⟨⟨hnh, h.dport, h.sport, xor4_lt l _, xor4_lt l _⟩, rfl, rfl, rfl⟩
      · exact parseL4_spec (p := { p with ipv6 := true, src := _, dst := _, proto := _, frag := _ })
          ⟨hnh, h.dport, h.sport, xor4_lt l _, xor4_lt l _⟩ _ _ _ _

/-- What the parser takes from the Ethernet header. -/
def headerOf (l : List Byte) : Parsed :=
  let tag := decide (beFld l 12 2 = 0x8100)
  { vlan := tag, vid := if tag then beFld l 14 2 % 4096 else 0, etype := if tag then beFld l 16 2 else beFld l 12 2, l3 := if tag then 18 else 14 }

theorem parseFrame_eq (l : List Byte) : parseFrame l = if (headerOf l).etype = 0x0800 then parseV4 (headerOf l) l
    else if (headerOf l).etype = 0x86DD then parseV6 (headerOf l) l else headerOf l := rfl

theorem headerOf_fits (l : List Byte) : (headerOf l).Fits := ⟨Nat.two_pow_pos 8, Nat.two_pow_pos 16, Nat.two_pow_pos 16, Nat.two_pow_pos 32, Nat.two_pow_pos 32⟩

theorem parseFrame_spec (l : List Byte) : (parseFrame l).Fits ∧ (headerOf l).SameHeader (parseFrame l) := by
  rw [parseFrame_eq]
  split
  · exact parseV4_spec (headerOf_fits l) l
  · split
    · exact parseV6_spec (headerOf_fits l) l
    · exact ⟨headerOf_fits l, rfl, rfl, rfl⟩

theorem headerOf_bounds (l : List Byte) : (headerOf l).vid < 2 ^ 12 ∧ (headerOf l).etype < 2 ^ 16 := by
  unfold headerOf
  dsimp only
  split
  · exact ⟨Nat.mod_lt _ (by decide), beFld_lt l 16 2⟩
  · exact ⟨by decide, beFld_lt l 12 2⟩

/-- Each part of a key has its own field. -/
theorem Parsed.key_fields {x : Parsed} (h : x.Fits) (hvid : x.vid < 2 ^ 12) (het : x.etype < 2 ^ 16) (port : Nat) :
    fld (x.key port) 0 3 = port % 8 ∧ fld (x.key port) 3 1 = x.vlan.toNat ∧ fld (x.key port) 4 12 = x.vid ∧
      fld (x.key port) 16 16 = x.etype ∧ fld (x.key port) 142 2 = 0 := by
  obtain ⟨hproto, hdport, hsport, hdst, hsrc⟩ := h
  have hp : port % 8 < 8 := Nat.mod_lt _ (by decide)
  have h0 := Bool.toNat_lt x.vlan
  have h1 := Bool.toNat_lt x.ipv4
  have h2 := Bool.toNat_lt x.ipv6
  have h3 := Bool.toNat_lt x.frag
  have h4 := Bool.toNat_lt x.badIp
  have h5 := Bool.toNat_lt x.badL4
  have h6 := Bool.toNat_lt x.ptp
  unfold Parsed.key fld
  rw [BitVec.toNat_ofNat]
  refine ⟨?_, ?_, ?_, ?_, ?_⟩ <;> omega

/-- The fields that the key of a frame shows of its Ethernet header. -/
theorem parseFrame_key (l : List Byte) {p : Nat} (hp : p < 8) : let key := (parseFrame l).key p
    let tagged := beFld l 12 2 = 0x8100
    fld key 0 3 = p ∧ (fld key 3 1 = 1 ↔ tagged) ∧ fld key 16 16 = (if tagged then beFld l 16 2 else beFld l 12 2) ∧
      (tagged → fld key 4 12 = beFld l 14 2 % 4096) ∧ fld key 142 2 = 0 := by
  obtain ⟨hf, hvlan, hvid, het⟩ := parseFrame_spec l
  obtain ⟨hv, he⟩ := headerOf_bounds l
  obtain ⟨h0, h3, h4, h16, h142⟩ := Parsed.key_fields hf (hvid ▸ hv) (het ▸ he) p
  rw [hvlan] at h3
  rw [hvid] at h4
  rw [het] at h16
  unfold headerOf at h3 h4 h16
  by_cases ht : beFld l 12 2 = 0x8100
  · simp only [ht, decide_true, if_true] at h3 h4 h16 ⊢
    exact ⟨h0.trans (Nat.mod_eq_of_lt hp), iff_of_true h3 trivial, h16, fun _ => h4, h142⟩
  · simp only [ht, decide_false, if_false, Bool.false_eq_true] at h3 h4 h16 ⊢
    exact ⟨h0.trans (Nat.mod_eq_of_lt hp), iff_of_false (by rw [h3]; decide) id, h16, False.elim, h142⟩

end Sys2Proof
end

section
/-! SUPPORT. The ports of NET: counters, stamps and received frames (R402–R407, R412). -/

namespace Sys2Proof.Machine

/-! ### Counters and stamps -/

/-- Counter `k` of a port gains `x`. -/
def State.addCnt (s : State) (p k : Nat) (x : W64) : State := s.setReg (Reg.netCnt p k) (s.reg (Reg.netCnt p k) + x)

theorem netCnt_ne {p : Nat} (hp : p < 8) {k : Nat} (hk : k < 16) {a : Nat} (ha : a < 0x80000b02000 ∨ 0x80000b03000 ≤ a) : a ≠ Reg.netCnt p k := by
  unfold Reg.netCnt; omega

theorem State.reg_addCnt_ne (s : State) {p : Nat} (hp : p < 8) {k : Nat} (hk : k < 16) (x : W64) {a : Nat}
    (ha : a < 0x80000b02000 ∨ 0x80000b03000 ≤ a) : (s.addCnt p k x).reg a = s.reg a :=
  State.reg_setReg_ne _ _ _ (netCnt_ne hp hk ha)

/-- A stamp lies within 4 ns of the NET island's copy of Meridian (R404). -/
def State.Near (s : State) (st : W64) : Prop :=
  ∃ d : Int, -4 ≤ d ∧ d ≤ 4 ∧ st = BitVec.ofInt 64 (max 0 (((s.merAt islNet).toNat : Int) + d))

theorem State.netStamp_near (s : State) : s.Near s.netStamp.1 := ⟨((s.fresh.1 % 9 : Nat) : Int) - 4, by omega, by omega, rfl⟩

/-! ### FRAME_RECEIVE (R402, R406, R407, R412) -/

/-- A frame whose length a port takes arrives where it is up. -/
def State.FrameThere (s : State) (p : Nat) (frame : List Byte) : Prop := s.portUp p = true ∧ 60 ≤ frame.length ∧ frame.length ≤ 9216

/-- A pause frame. -/
def IsPause (frame : List Byte) : Prop := beFld frame 12 2 = 0x8808 ∧ beFld frame 14 2 = 1

/-- The frame that joins its port's queue. -/
def State.arrived (s : State) (p : Nat) (frame : List Byte) (st : W64) : Frame :=
  { id := s.net.nextId, data := frame, stamp := st, key := (parseFrame frame).key p, l3 := (parseFrame frame).l3, l4 := (parseFrame frame).l4 }

/-- The search that steers it. -/
def State.steerReq (s : State) (p : Nat) (frame : List Byte) : SpyReq :=
  { who := .net p s.net.nextId 1, table := 1023, bid := 0, wide := false, key := ((parseFrame frame).key p).setWidth 288, mask := s.steerMask 1
    all := false, issued := s.mer.ns, sealed := s.sealed 14 }

/-- A frame that is steered has joined its port's queue, with the search of table 1023. -/
def State.queueFrame (s : State) (p : Nat) (frame : List Byte) : State :=
  let t := s.netStamp.2.setRxq p (s.rxq p ++ [s.arrived p frame s.netStamp.1])
  { t with net := { t.net with nextId := s.net.nextId + 1 }, spy := { t.spy with port := t.spy.port ++ [s.netStamp.2.steerReq p frame] } }

/-- The two counters that every frame of good FCS steps. -/
def State.counted (s : State) (p : Nat) (frame : List Byte) : State := (s.addCnt p 0 1).addCnt p 1 (BitVec.ofNat 64 (frame.length + 4))

/-- What FRAME_RECEIVE makes of a state. -/
def State.receive (s : State) (p : Nat) (frame : List Byte) (fcs : Bool) : State :=
  if !s.portUp p || decide (frame.length < 60) || decide (9216 < frame.length) then s
  else if !fcs then s.addCnt p 2 1
  else
    let t := s.counted p frame
    if beFld frame 12 2 = 0x8808 ∧ beFld frame 14 2 = 1 then t
    else if 2 ^ 20 < ((t.rxq p).map fun f => f.data.length).sum + frame.length then t.addCnt p 3 1
    else if !(t.spyTable 1023).exists_ || !t.regBit Reg.spyCtl 0 then t.addCnt p 4 1
    else t.queueFrame p frame

theorem exec_frameReceive_eq (port : Fin 8) (frame : List Byte) (fcs : Bool) (s : State) :
    exec (.frameReceive port frame fcs) s = .next (s.receive port.val frame fcs) := rfl

theorem State.queueFrame_spec (s : State) {p : Nat} (hp : p < 8) (frame : List Byte) : let u := s.queueFrame p frame
    let key := (parseFrame frame).key p
    let tagged := beFld frame 12 2 = 0x8100
    u.csr = s.csr ∧ u.mem = s.mem ∧ u.queues = s.queues ∧ u.net.nextId = s.net.nextId + 1 ∧
      (∃ st, s.Near st ∧ u.rxq p = s.rxq p ++ [s.arrived p frame st]) ∧
      (∃ r : SpyReq, u.spy.port = s.spy.port ++ [r] ∧ r.table = 1023 ∧ r.bid = 0 ∧ r.wide = false ∧ r.key = key.setWidth 288 ∧
        r.who = .net p s.net.nextId 1) ∧
      fld key 0 3 = p ∧ (fld key 3 1 = 1 ↔ tagged) ∧ fld key 16 16 = (if tagged then beFld frame 16 2 else beFld frame 12 2) ∧
      (tagged → fld key 4 12 = beFld frame 14 2 % 4096) ∧ fld key 142 2 = 0 :=
  ⟨rfl, rfl, rfl, rfl, ⟨_, s.netStamp_near, Tab.get_set_same _ _ _ _⟩, ⟨s.netStamp.2.steerReq p frame, rfl, rfl, rfl, rfl, rfl, rfl⟩,
    parseFrame_key frame hp⟩

/-- The frames that wait at a port leave no room for another. -/
def State.RxFull (s : State) (p : Nat) (frame : List Byte) : Prop := 2 ^ 20 < ((s.rxq p).map fun f => f.data.length).sum + frame.length

/-- Frames can be steered: table 1023 is there, and Spyglass is on. -/
def State.Steers (s : State) : Prop := (s.spyTable 1023).exists_ = true ∧ s.regBit Reg.spyCtl 0 = true

theorem State.frameThere_iff (s : State) (p : Nat) (frame : List Byte) :
    (!s.portUp p || decide (frame.length < 60) || decide (9216 < frame.length)) = true ↔ ¬s.FrameThere p frame := by
  rw [State.FrameThere, Bool.or_eq_true, Bool.or_eq_true, decide_eq_true_iff, decide_eq_true_iff, Bool.not_eq_true', ← Bool.not_eq_true]
  rw [not_and_or, not_and_or, Nat.not_le, Nat.not_le, or_assoc]

theorem State.steers_iff (s : State) {p : Nat} (hp : p < 8) (frame : List Byte) :
    (!((s.counted p frame).spyTable 1023).exists_ || !(s.counted p frame).regBit Reg.spyCtl 0) = true ↔ ¬s.Steers := by
  have hreg : (s.counted p frame).reg Reg.spyCtl = s.reg Reg.spyCtl := by
    rw [State.counted, State.reg_addCnt_ne _ hp (by decide) _ (by decide), State.reg_addCnt_ne _ hp (by decide) _ (by decide)]
  rw [State.regBit, hreg, Bool.or_eq_true, Bool.not_eq_true', Bool.not_eq_true', State.Steers, not_and_or, Bool.not_eq_true, Bool.not_eq_true]
  rfl

section
variable {s : State} {p : Nat} {frame : List Byte}

theorem State.receive_of_not_there (fcs : Bool) (h : ¬s.FrameThere p frame) : s.receive p frame fcs = s :=
  if_pos ((s.frameThere_iff p frame).2 h)

theorem State.receive_of_badFcs (h : s.FrameThere p frame) : s.receive p frame false = s.addCnt p 2 1 :=
  if_neg (mt (s.frameThere_iff p frame).1 (not_not.2 h))

theorem State.receive_of_good (h : s.FrameThere p frame) : s.receive p frame true =
    let t := s.counted p frame
    if beFld frame 12 2 = 0x8808 ∧ beFld frame 14 2 = 1 then t
    else if 2 ^ 20 < ((s.rxq p).map fun f => f.data.length).sum + frame.length then t.addCnt p 3 1
    else if !(t.spyTable 1023).exists_ || !t.regBit Reg.spyCtl 0 then t.addCnt p 4 1
    else t.queueFrame p frame :=
  if_neg (mt (s.frameThere_iff p frame).1 (not_not.2 h))

theorem State.receive_of_pause (h : s.FrameThere p frame) (hz : IsPause frame) : s.receive p frame true = s.counted p frame :=
  (State.receive_of_good h).trans (if_pos hz)

theorem State.receive_of_full (h : s.FrameThere p frame) (hz : ¬IsPause frame) (hf : s.RxFull p frame) :
    s.receive p frame true = (s.counted p frame).addCnt p 3 1 :=
  (State.receive_of_good h).trans ((if_neg hz).trans (if_pos hf))

theorem State.receive_of_not_steers (hp : p < 8) (h : s.FrameThere p frame) (hz : ¬IsPause frame) (hf : ¬s.RxFull p frame) (hs : ¬s.Steers) :
    s.receive p frame true = (s.counted p frame).addCnt p 4 1 :=
  (State.receive_of_good h).trans ((if_neg hz).trans ((if_neg hf).trans (if_pos ((s.steers_iff hp frame).2 hs))))

theorem State.receive_of_steers (hp : p < 8) (h : s.FrameThere p frame) (hz : ¬IsPause frame) (hf : ¬s.RxFull p frame) (hs : s.Steers) :
    s.receive p frame true = (s.counted p frame).queueFrame p frame :=
  (State.receive_of_good h).trans ((if_neg hz).trans ((if_neg hf).trans (if_neg (mt (s.steers_iff hp frame).1 (not_not.2 hs)))))

end

theorem exec_frameReceive (port : Fin 8) (frame : List Byte) (fcs : Bool) (s : State) : ∃ u, exec (.frameReceive port frame fcs) s = .next u ∧
    let p := port.val
    let there := s.FrameThere p frame
    let key := (parseFrame frame).key p
    let t := s.counted p frame
    let tagged := beFld frame 12 2 = 0x8100
    (¬there → u = s) ∧ (there → fcs = false → u = s.addCnt p 2 1) ∧ (there → fcs = true → IsPause frame → u = t) ∧
      (there → fcs = true → ¬IsPause frame → s.RxFull p frame → u = t.addCnt p 3 1) ∧
      (there → fcs = true → ¬IsPause frame → ¬s.RxFull p frame → ¬s.Steers → u = t.addCnt p 4 1) ∧
      (there → fcs = true → ¬IsPause frame → ¬s.RxFull p frame → s.Steers → u.csr = t.csr ∧ u.mem = s.mem ∧ u.queues = s.queues ∧
        u.net.nextId = s.net.nextId + 1 ∧ (∃ st, s.Near st ∧ u.rxq p = s.rxq p ++ [s.arrived p frame st]) ∧
        (∃ r : SpyReq, u.spy.port = s.spy.port ++ [r] ∧ r.table = 1023 ∧ r.bid = 0 ∧ r.wide = false ∧ r.key = key.setWidth 288 ∧
          r.who = .net p s.net.nextId 1) ∧
        fld key 0 3 = p ∧ (fld key 3 1 = 1 ↔ tagged) ∧ fld key 16 16 = (if tagged then beFld frame 16 2 else beFld frame 12 2) ∧
        (tagged → fld key 4 12 = beFld frame 14 2 % 4096) ∧ fld key 142 2 = 0) := by
  refine ⟨_, exec_frameReceive_eq port frame fcs s, State.receive_of_not_there fcs, ?_, ?_, ?_, ?_, ?_⟩
  · rintro h rfl
    exact State.receive_of_badFcs h
  · rintro h rfl hz
    exact State.receive_of_pause h hz
  · rintro h rfl hz hf
    exact State.receive_of_full h hz hf
  · rintro h rfl hz hf hs
    exact State.receive_of_not_steers port.isLt h hz hf hs
  · rintro h rfl hz hf hs
    rw [State.receive_of_steers port.isLt h hz hf hs]
    exact (s.counted port.val frame).queueFrame_spec port.isLt frame

end Sys2Proof.Machine
end

section
/-! SUPPORT. Meridian's step and trim (R29–R31), the PTP servo (R405), links and the end of a transmission (R402, R404, R413). -/

namespace Sys2Proof.Machine

/-! ### MER_STEP (R30, R31) -/

/-- A step by `x` would carry Meridian past 2^64 - 1. -/
def State.PastEnd (s : State) (x : W64) : Prop := 2 ^ 64 ≤ s.mer.ns.toNat + x.toNat

/-- `u` is `s` after a step of Meridian by `x`, or after its refusal. -/
def State.Stepped (s : State) (x : W64) (u : State) : Prop :=
  (s.PastEnd x → u = (s.setRegBit Reg.merStat 0 true).raise 45) ∧
  (¬s.PastEnd x → u = { s.fresh.2 with mer := u.mer } ∧ u.mer.ns = s.mer.ns + x ∧ ∀ k, k < 20 → u.merAt k = s.merAt k ∨ u.merAt k = s.merAt k + x)

/-- The islands that still show the value from before a step each differ from the master by the step more. -/
theorem get_lagging (t : Tab Int) (v : Nat) (r : Nat) (l : List Nat) (hl : l.Nodup) (k : Nat) :
    Tab.get 0 (l.foldl (fun t k => if r.testBit k then t else Tab.set 0 t k (Tab.get 0 t k - (v : Int))) t) k =
      if k ∈ l ∧ r.testBit k = false then Tab.get 0 t k - v else Tab.get 0 t k := by
  induction l generalizing t with
  | nil => simp
  | cons j l ih =>
    obtain ⟨hj, hl⟩ := List.nodup_cons.1 hl
    rw [List.foldl_cons, ih _ hl]
    by_cases hkj : k = j
    · subst hkj
      cases hb : r.testBit k <;> simp [hj]
    · have hget : Tab.get 0 (if r.testBit j then t else Tab.set 0 t j (Tab.get 0 t j - (v : Int))) k = Tab.get 0 t k := by
        split
        · rfl
        · exact Tab.get_set_ne _ _ _ _ hkj
      rw [hget]
      simp [hkj]

theorem State.merStep_stepped (s : State) (x : W64) : s.Stepped x (s.merStep x) := by
  refine ⟨fun h => if_pos h, fun h => ?_⟩
  have he : s.merStep x = { s.fresh.2 with mer := s.mer.step x s.fresh.1 } := if_neg h
  rw [he]
  refine ⟨rfl, rfl, fun k hk => ?_⟩
  have hisl := get_lagging s.mer.isl x.toNat s.fresh.1 (List.range 20) List.nodup_range k
  have hat : ({ s.fresh.2 with mer := s.mer.step x s.fresh.1 } : State).merAt k =
      s.mer.ns + x + BitVec.ofInt 64 (Tab.get 0 (s.mer.step x s.fresh.1).isl k) := rfl
  rw [hat, show Tab.get 0 (s.mer.step x s.fresh.1).isl k = _ from hisl, State.merAt]
  by_cases hb : s.fresh.1.testBit k = false
  · left
    rw [if_pos ⟨List.mem_range.2 hk, hb⟩, Int.sub_eq_add_neg, BitVec.ofInt_add, BitVec.ofInt_neg, BitVec.ofInt_natCast, BitVec.ofNat_toNat,
      BitVec.setWidth_eq, BitVec.add_assoc, BitVec.add_comm x, BitVec.add_assoc, BitVec.add_comm (-x), BitVec.add_right_neg, BitVec.add_zero]
  · right
    rw [if_neg fun h => hb h.2, BitVec.add_assoc, BitVec.add_comm x, ← BitVec.add_assoc]

theorem exec_merStepWrite (v : W64) (s : State) : ∃ u, exec (.merStepWrite v) s = .next u ∧ (s.regBit Reg.merCtl 0 = true → u = s) ∧
    (¬s.regBit Reg.merCtl 0 = true → s.Stepped v u) := by
  refine ⟨merStepWrite v s, rfl, fun h => if_pos h, fun h => ?_⟩
  rw [show merStepWrite v s = s.merStep v from if_neg h]
  exact s.merStep_stepped v

/-! ### MER_RATE (R29, R31) -/

/-- A rate beyond ±500 ppm. -/
def RateOver (r : Int) : Prop := 2147484 < r ∨ r < -2147484

/-- An excess is marked, which nothing else shows. -/
theorem State.rateCheck_spec (s : State) (r : Int) : (s.rateCheck r).mer = s.mer ∧ (s.rateCheck r).net = s.net ∧
    (∀ a, a ≠ Reg.merStat → (s.rateCheck r).reg a = s.reg a) ∧
    (RateOver r → (s.rateCheck r).regBit Reg.merStat 1 = true ∧ 45 ∈ (s.rateCheck r).orr.raised) ∧ (¬RateOver r → s.rateCheck r = s) := by
  by_cases h : RateOver r
  · have he : s.rateCheck r = (s.setRegBit Reg.merStat 1 true).raise 45 := if_pos h
    rw [he]
    refine ⟨rfl, rfl, fun a ha => State.reg_setRegBit_ne _ _ _ _ ha, fun _ => ⟨?_, List.mem_append_right _ (List.mem_singleton_self _)⟩, fun hn => absurd h hn⟩
    rw [State.regBit_iff]
    exact (congrArg (fld · 1 1) (State.reg_setRegBit_same s _ _ _)).trans (fld_setBit_same _ true (by decide))
  · have he : s.rateCheck r = s := if_neg h
    rw [he]
    exact ⟨rfl, rfl, fun _ _ => rfl, fun hr => absurd hr h, fun _ => rfl⟩

/-- MER_RATE as a number. -/
def State.rate (s : State) : Int := ((s.reg Reg.merRate).setWidth 32).toInt

theorem State.merRate_spec (s : State) (v : BitVec 32) : (s.merRate v).reg Reg.merRate = v.setWidth 64 ∧ (s.merRate v).mer = s.mer ∧
    (s.merRate v).net = s.net ∧ (RateOver v.toInt → (s.merRate v).regBit Reg.merStat 1 = true ∧ 45 ∈ (s.merRate v).orr.raised) ∧
    (¬RateOver v.toInt → (s.merRate v).reg Reg.merStat = s.reg Reg.merStat) := by
  obtain ⟨hmer, hnet, hreg, hover, hin⟩ := (s.setReg Reg.merRate (v.setWidth 64)).rateCheck_spec v.toInt
  refine ⟨(hreg _ (by decide)).trans (State.reg_setReg_same _ _ _), hmer, hnet, hover, fun h => ?_⟩
  rw [State.merRate, hin h, State.reg_setReg_ne _ _ _ (by decide)]

theorem State.rate_of_reg {s : State} {v : BitVec 32} (h : s.reg Reg.merRate = v.setWidth 64) : s.rate = v.toInt := by
  rw [State.rate, h, BitVec.setWidth_setWidth_of_le _ (by decide), BitVec.setWidth_eq]

theorem exec_merRateWrite (rate : BitVec 32) (s : State) : ∃ u, exec (.merRateWrite rate) s = .next u ∧ (s.regBit Reg.merCtl 0 = true → u = s) ∧
    (¬s.regBit Reg.merCtl 0 = true → u.reg Reg.merRate = rate.setWidth 64 ∧ u.mer = s.mer ∧
      (RateOver rate.toInt → u.regBit Reg.merStat 1 = true ∧ 45 ∈ u.orr.raised) ∧
      (rate.toInt ≤ 2147484 → -2147484 ≤ rate.toInt → u.reg Reg.merStat = s.reg Reg.merStat)) := by
  refine ⟨merRateWrite rate s, rfl, fun h => if_pos h, fun h => ?_⟩
  rw [show merRateWrite rate s = s.merRate rate from if_neg h]
  obtain ⟨hrate, hmer, -, hover, hin⟩ := s.merRate_spec rate
  exact ⟨hrate, hmer, hover, fun h1 h2 => hin fun h => h.elim (Int.not_lt.2 h1) (Int.not_lt.2 h2)⟩

/-! ### PTP_SAMPLE (R405) -/

/-- The sum of offsets, the sample's included. -/
def State.ptpSum (s : State) (v : W64) : Int := s.net.sum + v.toInt
/-- The offset above which the servo steps, or slews. -/
def State.ptpLimit (s : State) : Int := fld (s.reg Reg.netPtpServo) 0 16
/-- The servo's rate. -/
def State.ptpRate (s : State) (v : W64) : Int :=
  (fld (s.reg Reg.netPtpServo) 32 16 : Int) * v.toInt + (fld (s.reg Reg.netPtpServo) 16 16 : Int) * s.ptpSum v
/-- The rate within the limits of R29. -/
def clampRate (r : Int) : Int := max (-2147484) (min 2147484 r)

theorem toInt_clampRate (r : Int) : (BitVec.ofInt 32 (clampRate r)).toInt = clampRate r := by
  unfold clampRate
  rw [BitVec.toInt_ofInt, Int.bmod_eq_of_le]
  · omega
  · omega

theorem ptpSample_eq (v : W64) (s : State) : ptpSample v s = if !s.regBit Reg.merCtl 0 then s
    else if s.ptpLimit < v.toInt then s.merStep v
    else if v.toInt < -s.ptpLimit then s.merRate (BitVec.ofInt 32 (-2147484))
    else (({ s with net := { s.net with sum := s.ptpSum v } } : State).merRate (BitVec.ofInt 32 (clampRate (s.ptpRate v)))).rateCheck (s.ptpRate v) :=
  rfl

theorem exec_ptpSample (v : W64) (s : State) : ∃ u, exec (.ptpSample v) s = .next u ∧
    let disc := s.regBit Reg.merCtl 0 = true
    (¬disc → u = s) ∧ (disc → s.ptpLimit < v.toInt → s.Stepped v u) ∧
      (disc → v.toInt < -s.ptpLimit → u.rate = -2147484 ∧ u.mer = s.mer ∧ u.net = s.net) ∧
      (disc → v.toInt ≤ s.ptpLimit → -s.ptpLimit ≤ v.toInt → u.net.sum = s.ptpSum v ∧ u.mer = s.mer ∧ u.rate = clampRate (s.ptpRate v) ∧
        (RateOver (s.ptpRate v) → u.regBit Reg.merStat 1 = true ∧ 45 ∈ u.orr.raised)) := by
  refine ⟨ptpSample v s, rfl, fun h => ?_, fun h hv => ?_, fun h hv => ?_, fun h hv hv' => ?_⟩
  · rw [ptpSample_eq, if_pos (by simpa using h)]
  · rw [ptpSample_eq, if_neg (by simp [h]), if_pos hv]
    exact s.merStep_stepped v
  · have hpos : 0 ≤ s.ptpLimit := Int.natCast_nonneg _
    rw [ptpSample_eq, if_neg (by simp [h]), if_neg (by omega), if_pos hv]
    obtain ⟨hrate, hmer, hnet, -⟩ := s.merRate_spec (BitVec.ofInt 32 (-2147484))
    exact ⟨(State.rate_of_reg hrate).trans (by decide), hmer, hnet⟩
  · rw [ptpSample_eq, if_neg (by simp [h]), if_neg (by omega), if_neg (by omega)]
    obtain ⟨hrate, hmer, hnet, -⟩ :=
      ({ s with net := { s.net with sum := s.ptpSum v } } : State).merRate_spec (BitVec.ofInt 32 (clampRate (s.ptpRate v)))
    obtain ⟨hmer', hnet', hreg, hover, -⟩ :=
      (({ s with net := { s.net with sum := s.ptpSum v } } : State).merRate (BitVec.ofInt 32 (clampRate (s.ptpRate v)))).rateCheck_spec (s.ptpRate v)
    exact ⟨by rw [hnet', hnet], hmer'.trans hmer, (State.rate_of_reg ((hreg _ (by decide)).trans hrate)).trans (toInt_clampRate _), hover⟩

/-! ### LINK_CHANGE (R402) -/

theorem bitAt_setBit_same {n : Nat} (v : BitVec n) {i : Nat} (b : Bool) (hi : i < n) : bitAt (setBit v i b) i = b := by
  have h := fld_setBit_same v b hi
  rw [fld_bit] at h
  generalize bitAt (setBit v i b) i = c at h
  cases b <;> cases c <;> simp_all

theorem State.regBit_setRegBit_same (s : State) (a : Nat) {i : Nat} (b : Bool) (hi : i < 64) : (s.setRegBit a i b).regBit a i = b := by
  rw [State.regBit, State.reg_setRegBit_same, bitAt_setBit_same _ _ hi]

theorem State.regBit_setRegBit_ne (s : State) {a c : Nat} (i j : Nat) (b : Bool) (h : c ≠ a) : (s.setRegBit a i b).regBit c j = s.regBit c j :=
  congrArg (bitAt · j) (s.reg_setRegBit_ne a i b h)

/-- An event of NET is marked and raises source 80. -/
theorem State.netEvent_spec (s : State) {i : Nat} (hi : i < 64) : (s.netEvent i).regBit Reg.netStat i = true ∧ 80 ∈ (s.netEvent i).orr.raised ∧
    ∀ a k, a ≠ Reg.netStat → (s.netEvent i).regBit a k = s.regBit a k :=
  ⟨s.regBit_setRegBit_same Reg.netStat true hi, List.mem_append_right _ (List.mem_singleton_self _), fun _ k ha => s.regBit_setRegBit_ne i k true ha⟩

/-- The link bit of a port as LINK_CHANGE sets it. -/
def State.linkSet (s : State) (p : Nat) (up : Bool) : State := (s.setRegBit Reg.netCtl (2 + p) up).netEvent 2

theorem exec_linkChange_eq (port : Fin 8) (up : Bool) (s : State) : exec (.linkChange port up) s = .next (
    if decide (s.ports ≤ port.val) || s.regBit Reg.netCtl (2 + port.val) == up || s.mode == modeHoldup then s else s.linkSet port.val up) := rfl

theorem State.linkSet_spec (s : State) {p : Nat} (hp : p < 8) (up : Bool) : let u := s.linkSet p up
    u.regBit Reg.netCtl (2 + p) = up ∧ u.regBit Reg.netStat 2 = true ∧ 80 ∈ u.orr.raised ∧ u.net = s.net ∧ u.mem = s.mem := by
  obtain ⟨hstat, hraised, hreg⟩ := (s.setRegBit Reg.netCtl (2 + p) up).netEvent_spec (i := 2) (by decide)
  exact ⟨(hreg _ _ (by decide)).trans (s.regBit_setRegBit_same _ up (by omega)), hstat, hraised, rfl, rfl⟩

theorem exec_linkChange (port : Fin 8) (up : Bool) (s : State) : ∃ u, exec (.linkChange port up) s = .next u ∧
    let same := s.ports ≤ port.val ∨ s.regBit Reg.netCtl (2 + port.val) = up ∨ s.mode = modeHoldup
    (same → u = s) ∧ (¬same → u.regBit Reg.netCtl (2 + port.val) = up ∧ u.regBit Reg.netStat 2 = true ∧ 80 ∈ u.orr.raised ∧
      u.net = s.net ∧ u.mem = s.mem) := by
  have hsame : (decide (s.ports ≤ port.val) || s.regBit Reg.netCtl (2 + port.val) == up || s.mode == modeHoldup) = true ↔
      (s.ports ≤ port.val ∨ s.regBit Reg.netCtl (2 + port.val) = up ∨ s.mode = modeHoldup) := by
    rw [Bool.or_eq_true, Bool.or_eq_true, decide_eq_true_iff, beq_iff_eq, beq_iff_eq, or_assoc]
  refine ⟨_, exec_linkChange_eq port up s, fun h => if_pos (hsame.2 h), fun h => ?_⟩
  rw [if_neg (mt hsame.1 h)]
  exact s.linkSet_spec port.isLt up

/-! ### FRAME_TRANSMIT_DONE (R404, R413) -/

/-- The frames of a port behind the one that has left: the next one has its stamp. -/
def stampHead (st : W64) : List TxFrame → List TxFrame
  | [] => []
  | g :: r => { g with stamp := st } :: r

theorem length_stampHead (st : W64) (l : List TxFrame) : (stampHead st l).length = l.length := by cases l <;> rfl

theorem getElem?_stampHead (st : W64) {l : List TxFrame} {k : Nat} {g : TxFrame} (h : l[k]? = some g) :
    (stampHead st l)[k]? = some (if k = 0 then { g with stamp := st } else g) := by
  cases l with
  | nil => simp at h
  | cons a l =>
    cases k with
    | zero => rw [Option.some.inj ((List.getElem?_cons_zero).symm.trans h)]; rfl
    | succ k => exact h

/-- The port once its first frame has left. -/
def State.txNext (s : State) (p : Nat) (r : List TxFrame) : State := (s.netStamp.2.setTxq p (stampHead s.netStamp.1 r)).addCnt p 11 1

theorem exec_frameTransmitDone_of_nil {port : Fin 8} {s : State} (h : s.txq port.val = []) : exec (.frameTransmitDone port) s = .next s := by
  show execFrameTransmitDone port s = _
  unfold execFrameTransmitDone
  simp only [h]

theorem exec_frameTransmitDone_of_cons {port : Fin 8} {s : State} {f : TxFrame} {r : List TxFrame} (h : s.txq port.val = f :: r) :
    exec (.frameTransmitDone port) s = .next ((s.txNext port.val r).complete f.item 0 (if f.ts then f.stamp else 0)) := by
  show execFrameTransmitDone port s = _
  unfold execFrameTransmitDone
  simp only [h]
  cases r <;> rfl

theorem exec_frameTransmitDone (port : Fin 8) (s : State) : ∃ u, exec (.frameTransmitDone port) s = .next u ∧
    let p := port.val
    (s.txq p = [] → u = s) ∧ ∀ f r, s.txq p = f :: r → ∃ (w : State) (st : W64), s.Near st ∧
      u = w.complete f.item 0 (if f.ts then f.stamp else 0) ∧ w.reg (Reg.netCnt p 11) = s.reg (Reg.netCnt p 11) + 1 ∧
      (w.txq p).length = r.length ∧ ∀ k g, r[k]? = some g → (w.txq p)[k]? = some (if k = 0 then { g with stamp := st } else g) := by
  rcases hl : s.txq port.val with _ | ⟨f, r⟩
  · exact ⟨s, exec_frameTransmitDone_of_nil hl, fun _ => rfl, fun _ _ h => absurd (hl.symm.trans h) (by simp)⟩
  · refine ⟨_, exec_frameTransmitDone_of_cons hl, fun h => absurd (hl.symm.trans h) (by simp), fun f' r' h => ?_⟩
    obtain ⟨rfl, rfl⟩ := List.cons.inj (hl.symm.trans h)
    have hq : (s.txNext port.val r).txq port.val = stampHead s.netStamp.1 r := Tab.get_set_same _ _ _ _
    refine ⟨s.txNext port.val r, s.netStamp.1, s.netStamp_near, rfl, State.reg_setReg_same _ _ _, ?_, fun k g hk => ?_⟩
    · rw [hq, length_stampHead]
    · rw [hq, getElem?_stampHead _ hk]

end Sys2Proof.Machine
end

section
/-! SUPPORT. Where a frame lands (R408–R411): the entry it leaves, the causes that drop it, and what lands in HBM for Booth 0. -/

namespace Sys2Proof.Machine

/-! ### The entry of a landed frame (R411) -/

theorem landEntry_fields (s : State) (p i : Nat) (f : Frame) (res : W64) (pass buf : Nat) : let y := landEntry s p i f res pass buf
    y.length = 80 ∧ y.take 4 = [1, 4, 0, 0] ∧ recFld y 4 4 = fld res 32 32 ∧ recFld y 16 8 = (s.reg (Reg.netRxbPc i)).toNat ∧
    recFld y 48 8 = f.stamp.toNat ∧ recFld y 64 8 = (s.reg (Reg.netRxbLanded i)).toNat ∧ recFld y 32 8 = buf % 256 ^ 8 := by
  have hw (v : W64) : v.toNat % 256 ^ 8 = v.toNat := Nat.mod_eq_of_lt v.isLt
  have htag : fld res 32 32 % 256 ^ 4 = fld res 32 32 := Nat.mod_eq_of_lt (fld_lt res 32 32)
  intro y
  refine ⟨by simp [y, landEntry, length_leBytes], rfl, ?_, ?_, ?_, ?_, ?_⟩
  all_goals
    unfold y landEntry
    simp (disch := simp [length_leBytes]) only [recFld_append_left, recFld_append_right, List.length_append, List.length_cons, List.length_nil,
      length_leBytes, recFld_leBytes, hw, htag, Nat.reduceAdd, Nat.reduceSub]

/-- The entry reads the registers of its binding and no other part of the state. -/
theorem landEntry_congr {s t : State} {i : Nat} (h : ∀ a, 0x80000b10000 ≤ a → t.reg a = s.reg a) (p : Nat) (f : Frame) (res : W64) (pass buf : Nat) :
    landEntry t p i f res pass buf = landEntry s p i f res pass buf := by
  unfold landEntry
  rw [h (Reg.netRxbCfg i) (by unfold Reg.netRxbCfg; omega), h (Reg.netRxbPc i) (by unfold Reg.netRxbPc; omega),
    h (Reg.netRxbLanded i) (by unfold Reg.netRxbLanded; omega), h (Reg.netRxbG6 i) (by unfold Reg.netRxbG6; omega)]

/-! ### The causes that drop a frame (R410) -/

/-- The binding is off or its queue is gone. -/
def State.LandGone (s : State) (i : Nat) : Prop := fld (s.reg (Reg.netRxbCfg i)) 0 1 = 0 ∨ (s.queue (s.rxbQid i)).exists_ = false

/-- The Booth of the binding's queue is HALTED. -/
def State.LandHalted (s : State) (i : Nat) : Prop := (s.booth (s.queue (s.rxbQid i)).bid).st = .halted

/-- The frame is longer than a buffer of the binding. -/
def State.LandLong (s : State) (i : Nat) (f : Frame) : Prop := 2 ^ fld (s.reg (Reg.netRxbCfg i)) 5 4 < f.data.length

/-- The ring has no room for an entry, or every buffer of the binding is taken. -/
def State.LandFull (s : State) (i : Nat) : Prop :=
  let x := s.queue (s.rxbQid i)
  2 ^ x.sqLog < (x.sqTail - x.sqHead).toNat + 5 ∨
    2 ^ fld (s.reg (Reg.netRxbCfg i)) 1 4 ≤ ((s.reg (Reg.netRxbLanded i)).setWidth 32 - x.cqTail).toNat

theorem State.landGone_iff (s : State) (i : Nat) :
    (!bitAt (s.reg (Reg.netRxbCfg i)) 0 || !(s.queue (s.rxbQid i)).exists_) = true ↔ s.LandGone i := by
  rw [State.LandGone, fld_bit]
  cases bitAt (s.reg (Reg.netRxbCfg i)) 0 <;> simp

theorem State.landDrop_spec (s : State) (i : Nat) (f : Frame) :
    (s.LandGone i → s.landDrop i f = some 6) ∧ (¬s.LandGone i → s.LandHalted i → s.landDrop i f = some 7) ∧
    (¬s.LandGone i → ¬s.LandHalted i → s.LandLong i f → s.landDrop i f = some 8) ∧
    (¬s.LandGone i → ¬s.LandHalted i → ¬s.LandLong i f → s.LandFull i → s.landDrop i f = some 9) ∧
    (¬s.LandGone i → ¬s.LandHalted i → ¬s.LandLong i f → ¬s.LandFull i → s.landDrop i f = none) := by
  have hhalt : ((s.booth (s.queue (s.rxbQid i)).bid).st == .halted) = true ↔ s.LandHalted i := beq_iff_eq
  have gone {α : Type} {a b : α} (h : ¬s.LandGone i) : (if (!bitAt (s.reg (Reg.netRxbCfg i)) 0 || !(s.queue (s.rxbQid i)).exists_) = true then a else b) = b :=
    if_neg (mt (s.landGone_iff i).1 h)
  have halted {α : Type} {a b : α} (h : ¬s.LandHalted i) : (if ((s.booth (s.queue (s.rxbQid i)).bid).st == .halted) = true then a else b) = b :=
    if_neg (mt hhalt.1 h)
  unfold State.landDrop
  refine ⟨fun hg => if_pos ((s.landGone_iff i).2 hg), fun hg hh => ?_, fun hg hh hl => ?_, fun hg hh hl hf => ?_, fun hg hh hl hf => ?_⟩
  · exact (gone hg).trans (if_pos (hhalt.2 hh))
  · exact (gone hg).trans ((halted hh).trans (if_pos hl))
  · exact (gone hg).trans ((halted hh).trans ((if_neg hl).trans (if_pos hf)))
  · exact (gone hg).trans ((halted hh).trans ((if_neg hl).trans (if_neg hf)))

theorem State.land_of_drop {s : State} {i : Nat} {f : Frame} {n : Nat} (h : s.landDrop i f = some n) (p : Nat) (res : W64) (pass : Nat) :
    s.land p i f res pass = s.addCnt p n 1 := by
  unfold State.land
  rw [h]
  rfl

/-! ### A frame lands (R410) -/

/-- Where the next frame of a binding goes. -/
def State.landBuf (s : State) (i : Nat) : Nat :=
  (s.reg (Reg.netRxbBuf i)).toNat + (s.reg (Reg.netRxbLanded i)).toNat % 2 ^ fld (s.reg (Reg.netRxbCfg i)) 1 4 * 2 ^ fld (s.reg (Reg.netRxbCfg i)) 5 4

/-- A frame of a Booth 0 queue, with its buffer and its ring in HBM. -/
structure State.LandsInHbm (s : State) (i : Nat) (f : Frame) : Prop where
  bid : (s.queue (s.rxbQid i)).bid = 0
  prod : (s.queue (s.rxbQid i)).prod ≠ 2
  buf : s.landBuf i + f.data.length ≤ hbmEnd
  ring : (s.queue (s.rxbQid i)).sqBase.toNat + 16 * 2 ^ (s.queue (s.rxbQid i)).sqLog ≤ hbmEnd
  apart : s.landBuf i + f.data.length ≤ (s.queue (s.rxbQid i)).sqBase.toNat ∨
    (s.queue (s.rxbQid i)).sqBase.toNat + 16 * 2 ^ (s.queue (s.rxbQid i)).sqLog ≤ s.landBuf i

theorem State.LandsInHbm.sqLog_le {s : State} {i : Nat} {f : Frame} (h : s.LandsInHbm i f) : (s.queue (s.rxbQid i)).sqLog ≤ 32 := by
  by_contra hlt
  have : 2 ^ 33 ≤ 2 ^ (s.queue (s.rxbQid i)).sqLog := Nat.pow_le_pow_right (by decide) (by omega)
  have := h.ring
  unfold hbmEnd at this
  omega

/-- The address of that buffer, the state behind the frame's bytes, and the state behind its entry. -/
def State.landAddr (s : State) (i : Nat) : W64 :=
  s.reg (Reg.netRxbBuf i) + BitVec.ofNat 64 ((s.reg (Reg.netRxbLanded i)).toNat % 2 ^ fld (s.reg (Reg.netRxbCfg i)) 1 4 * 2 ^ fld (s.reg (Reg.netRxbCfg i)) 5 4)
def State.landData (s : State) (i : Nat) (f : Frame) : State × Option (BitVec 16) := s.dmaWrite (s.queue (s.rxbQid i)).bid (s.landAddr i) f.data
def State.landRing (s : State) (p i : Nat) (f : Frame) (res : W64) (pass : Nat) : State × Option (BitVec 32 × BitVec 16) :=
  let x := s.queue (s.rxbQid i)
  let w := (s.landData i f).1
  State.ringWrite 5 w x x.sqTail (landEntry w p i f res pass (s.landAddr i).toNat)

theorem State.land_of_written {s : State} {p i : Nat} {f : Frame} {res : W64} {pass : Nat} (hd : s.landDrop i f = none) (hw : (s.landData i f).2 = none)
    (hr : (s.landRing p i f res pass).2 = none) : let u := (s.landRing p i f res pass).1
    s.land p i f res pass =
      (u.setQueue (s.rxbQid i) { u.queue (s.rxbQid i) with sqTail := (s.queue (s.rxbQid i)).sqTail + 5 }).bump (Reg.netRxbLanded i) := by
  unfold State.landRing at hr ⊢
  unfold State.landData at hw hr ⊢
  unfold State.landAddr at hw hr ⊢
  unfold State.land
  dsimp only at hw hr ⊢
  rw [hd]
  dsimp only
  rw [hw]
  dsimp only
  rw [hr]

/-- What the last step of a landing changes, and leaves. -/
theorem State.landed_spec (w : State) (q : BitVec 16) (x : Queue) (a : Nat) : let u := (w.setQueue q x).bump a
    u.net = w.net ∧ u.queue q = x ∧ u.reg a = w.reg a + 1 ∧ ∀ y, u.peek y = w.peek y :=
  ⟨rfl, Tab.get_set_same _ _ _ _, State.reg_setReg_same _ _ _, fun _ => rfl⟩

theorem State.toNat_landAddr {s : State} {i : Nat} (h : s.landBuf i ≤ hbmEnd) : (s.landAddr i).toNat = s.landBuf i := by
  unfold State.landBuf hbmEnd at h
  unfold State.landAddr State.landBuf
  rw [BitVec.toNat_add, BitVec.toNat_ofNat, Nat.add_mod_mod]
  exact Nat.mod_eq_of_lt (by omega)

theorem McStep.net {s t : State} (h : McStep s t) : t.net = s.net := (congrArg State.net h.eq).trans rfl
theorem McStep.queues {s t : State} (h : McStep s t) : t.queues = s.queues := (congrArg State.queues h.eq).trans rfl

theorem State.land_hbm {s : State} {i : Nat} {f : Frame} (hd : s.landDrop i f = none) (hfull : ¬s.LandFull i) (h : s.LandsInHbm i f) (p : Nat)
    (res : W64) (pass : Nat) : let u := s.land p i f res pass
    let x := s.queue (s.rxbQid i)
    let y := landEntry s p i f res pass (s.landBuf i)
    u.net = s.net ∧ u.queue (s.rxbQid i) = { x with sqTail := x.sqTail + 5 } ∧ u.reg (Reg.netRxbLanded i) = s.reg (Reg.netRxbLanded i) + 1 ∧
    (∀ k, k < f.data.length → u.peek (s.landBuf i + k) = f.data.getD k 0) ∧
    ∀ k, k < 80 → u.peek (slotPos x.sqBase x.sqLog (x.sqTail + BitVec.ofNat 32 (k / 16)) + k % 16) = y.getD k 0 := by
  have hroom : 5 ≤ 2 ^ (s.queue (s.rxbQid i)).sqLog := by
    have : ¬2 ^ (s.queue (s.rxbQid i)).sqLog < _ := fun hf => hfull (.inl hf)
    omega
  have ha : (s.landAddr i).toNat = s.landBuf i := State.toNat_landAddr (Nat.le_of_add_right_le h.buf)
  obtain ⟨hw, hstep, hdata⟩ : (s.landData i f).2 = none ∧ McStep s (s.landData i f).1 ∧ ∀ x, (s.landData i f).1.peek x = putPeek s (s.landBuf i) f.data x := by
    rw [← ha, State.landData, h.bid]
    exact s.dmaWrite_hbm (by rw [ha]; exact h.buf)
  have hreg (a : Nat) (ha : 0x80000b10000 ≤ a) : (s.landData i f).1.reg a = s.reg a := hstep.reg a (by unfold IsMcReg; omega)
  have hentry : landEntry (s.landData i f).1 p i f res pass (s.landAddr i).toNat = landEntry s p i f res pass (s.landBuf i) := by
    rw [ha, landEntry_congr hreg]
  obtain ⟨hr, hstep', hin, hout⟩ := State.ringWrite_hbm 5 (s.landData i f).1 (s.queue (s.rxbQid i)) (s.queue (s.rxbQid i)).sqTail
    (landEntry s p i f res pass (s.landBuf i)) (by rw [Queue.ringBid, if_neg h.prod, h.bid]) (landEntry_fields s p i f res pass _).1 h.sqLog_le hroom h.ring
  have hring : s.landRing p i f res pass = State.ringWrite 5 (s.landData i f).1 (s.queue (s.rxbQid i)) (s.queue (s.rxbQid i)).sqTail
    (landEntry s p i f res pass (s.landBuf i)) := by rw [← hentry]; rfl
  rw [← hring] at hr hstep' hin hout
  have hall := hstep.trans hstep'
  have hqueue : (s.landRing p i f res pass).1.queue (s.rxbQid i) = s.queue (s.rxbQid i) := by
    rw [State.queue, hall.queues]; rfl
  have hlanded : (s.landRing p i f res pass).1.reg (Reg.netRxbLanded i) = s.reg (Reg.netRxbLanded i) :=
    hall.reg _ (by unfold IsMcReg Reg.netRxbLanded; omega)
  rw [State.land_of_written hd hw hr, hqueue]
  generalize (s.landRing p i f res pass).1 = w at *
  obtain ⟨hnet', hqueue', hreg', hpeek⟩ := w.landed_spec (s.rxbQid i) { s.queue (s.rxbQid i) with sqTail := (s.queue (s.rxbQid i)).sqTail + 5 } (Reg.netRxbLanded i)
  refine ⟨hnet'.trans hall.net, hqueue', by rw [hreg', hlanded], fun k hk => ?_, fun k hk => ?_⟩
  · rw [hpeek, hout, hdata, putPeek, if_pos (by omega), Nat.add_sub_cancel_left]
    intro hin
    have := hin.in_ring
    have := h.apart
    omega
  · rw [hpeek, hin (k / 16) (k % 16) (by omega) (by omega), Nat.div_add_mod]

/-! ### FRAME_LANDING -/

theorem exec_frameLanding_of_nil {port : Fin 8} {s : State} (h : s.rxq port.val = []) : exec (.frameLanding port) s = .next s := by
  show execFrameLanding port s = _
  unfold execFrameLanding
  simp only [h]

theorem exec_frameLanding_of_unsteered {port : Fin 8} {s : State} {f : Frame} {r : List Frame} (h : s.rxq port.val = f :: r) (hf : f.res = none) :
    exec (.frameLanding port) s = .next s := by
  show execFrameLanding port s = _
  unfold execFrameLanding
  simp only [h, hf]

theorem exec_frameLanding_of_steered {port : Fin 8} {s : State} {f : Frame} {r : List Frame} {res : W64} {pass : Nat} (h : s.rxq port.val = f :: r)
    (hf : f.res = some (res, pass)) : exec (.frameLanding port) s = .next (
      if bitAt res 8 then (s.setRxq port.val r).addCnt port.val 5 1 else (s.setRxq port.val r).land port.val (fld res 0 8) f res pass) := by
  show execFrameLanding port s = _
  unfold execFrameLanding
  simp only [h, hf]
  rfl

theorem exec_frameLanding (port : Fin 8) (s : State) : ∃ u, exec (.frameLanding port) s = .next u ∧
    let p := port.val
    (s.rxq p = [] → u = s) ∧ ∀ f r, s.rxq p = f :: r → (f.res = none → u = s) ∧ ∀ res pass, f.res = some (res, pass) →
      let t := s.setRxq p r
      let i := fld res 0 8
      let x := s.queue (s.rxbQid i)
      let l := s.reg (Reg.netRxbLanded i)
      let buf := s.landBuf i
      let ring := x.sqBase.toNat
      let y := landEntry s p i f res pass buf
      let drop := fld res 8 1 = 1
      (drop → u = t.addCnt p 5 1) ∧ (¬drop → s.LandGone i → u = t.addCnt p 6 1) ∧ (¬drop → ¬s.LandGone i → s.LandHalted i → u = t.addCnt p 7 1) ∧
      (¬drop → ¬s.LandGone i → ¬s.LandHalted i → s.LandLong i f → u = t.addCnt p 8 1) ∧
      (¬drop → ¬s.LandGone i → ¬s.LandHalted i → ¬s.LandLong i f → s.LandFull i → u = t.addCnt p 9 1) ∧
      y.length = 80 ∧ y.take 4 = [1, 4, 0, 0] ∧ recFld y 4 4 = fld res 32 32 ∧ recFld y 16 8 = (s.reg (Reg.netRxbPc i)).toNat ∧ recFld y 48 8 = f.stamp.toNat ∧
      recFld y 64 8 = l.toNat ∧
      (¬drop → ¬s.LandGone i → ¬s.LandHalted i → ¬s.LandLong i f → ¬s.LandFull i → (∀ c, s.eccAt c = .good) → x.bid = 0 → x.prod ≠ 2 →
        buf + f.data.length ≤ hbmEnd → ring % 16 = 0 → ring + 16 * 2 ^ x.sqLog ≤ hbmEnd → (buf + f.data.length ≤ ring ∨ ring + 16 * 2 ^ x.sqLog ≤ buf) →
        u.rxq p = r ∧ u.queue (s.rxbQid i) = { x with sqTail := x.sqTail + 5 } ∧ u.reg (Reg.netRxbLanded i) = l + 1 ∧ recFld y 32 8 = buf ∧
        (∀ k, k < f.data.length → u.peek (buf + k) = f.data.getD k 0) ∧
        ∀ k, k < 80 → u.peek (ring + 16 * ((x.sqTail + BitVec.ofNat 32 (k / 16)).toNat % 2 ^ x.sqLog) + k % 16) = y.getD k 0) := by
  rcases hl : s.rxq port.val with _ | ⟨f, r⟩
  · exact ⟨s, exec_frameLanding_of_nil hl, fun _ => rfl, fun _ _ h => absurd (hl.symm.trans h) (by simp)⟩
  rcases hf : f.res with _ | ⟨res, pass⟩
  · refine ⟨s, exec_frameLanding_of_unsteered hl hf, fun _ => rfl, fun f' r' h => ⟨fun _ => rfl, fun res pass hres => ?_⟩⟩
    obtain ⟨rfl, rfl⟩ := List.cons.inj (hl.symm.trans h)
    exact absurd (hf.symm.trans hres) (by simp)
  refine ⟨_, exec_frameLanding_of_steered hl hf, fun h => absurd (hl.symm.trans h) (by simp), fun f' r' h => ?_⟩
  obtain ⟨rfl, rfl⟩ := List.cons.inj (hl.symm.trans h)
  refine ⟨fun hres => absurd (hf.symm.trans hres) (by simp), fun res' pass' hres => ?_⟩
  obtain ⟨rfl, rfl⟩ : res = res' ∧ pass = pass' := by simpa using hf.symm.trans hres
  intro t i x l buf ring y drop
  have hdrop : bitAt res 8 = true ↔ drop := by
    unfold drop
    rw [fld_bit]
    cases bitAt res 8 <;> simp
  have hland (hd : ¬drop) : (if bitAt res 8 then t.addCnt port.val 5 1 else t.land port.val i f res pass) = t.land port.val i f res pass :=
    if_neg (mt hdrop.1 hd)
  obtain ⟨hgone, hhalted, hlong, hfull, hnone⟩ := t.landDrop_spec i f
  obtain ⟨hlen, htake, htag, hpc, hstamp, hcount, hbuf⟩ := landEntry_fields s port.val i f res pass buf
  refine ⟨fun hd => if_pos (hdrop.2 hd), fun hd hg => (hland hd).trans (State.land_of_drop (hgone hg) ..),
    fun hd hg hh => (hland hd).trans (State.land_of_drop (hhalted hg hh) ..),
    fun hd hg hh hl => (hland hd).trans (State.land_of_drop (hlong hg hh hl) ..),
    fun hd hg hh hl hf => (hland hd).trans (State.land_of_drop (hfull hg hh hl hf) ..), hlen, htake, htag, hpc, hstamp, hcount, ?_⟩
  intro hd hg hh hl hf _ hbid hprod hend _ hring hapart
  obtain ⟨hnet, hqueue, hlanded, hdata, hentry⟩ := State.land_hbm (hnone hg hh hl hf) hf ⟨hbid, hprod, hend, hring, hapart⟩ port.val res pass
  rw [hland hd]
  refine ⟨?_, hqueue, hlanded, ?_, hdata, hentry⟩
  · rw [State.rxq, hnet]
    exact Tab.get_set_same _ _ _ _
  · exact hbuf.trans (Nat.mod_eq_of_lt (by unfold hbmEnd at hend; omega))

end Sys2Proof.Machine
end

section
/-! SUPPORT. The bindings of NET (R409), SEND (R413), and the obligation of the ports. -/

namespace Sys2Proof.Machine

/-! ### NET_RXB_CFG (R409) -/

/-- A binding that may be enabled. -/
def State.BindingFit (s : State) (i : Nat) (v : W64) : Prop :=
  let x := s.queue (v.extractLsb' 16 16)
  let pc := (s.reg (Reg.netRxbPc i)).toNat
  x.exists_ = true ∧ x.cls = 1 ∧ x.prod = 1 ∧ pc % 4 = 0 ∧ pc < 2 ^ 48 ∧ (fld v 32 8 < 16 ∨ fld v 32 8 = 255) ∧ 11 ≤ fld v 5 4 ∧ fld v 5 4 ≤ 14

/-- The model's test of a binding. -/
def State.bindingOk (s : State) (i : Nat) (v : W64) : Bool :=
  let x := s.queue (v.extractLsb' 16 16)
  x.exists_ && x.cls == 1 && x.prod == 1 && pcOk (s.reg (Reg.netRxbPc i)) && (decide (fld v 32 8 < 16) || fld v 32 8 == 255) &&
    decide (11 ≤ fld v 5 4) && decide (fld v 5 4 ≤ 14)

theorem State.bindingOk_iff (s : State) (i : Nat) (v : W64) : s.bindingOk i v = true ↔ s.BindingFit i v := by
  unfold State.bindingOk State.BindingFit pcOk
  simp [and_assoc]

theorem rxbCfgWrite_eq (i : Nat) (v : W64) (s : State) : rxbCfgWrite i v s =
    if s.regBit (Reg.netRxbCfg i) 0 then s.setRegBit (Reg.netRxbCfg i) 0 (bitAt v 0)
    else if bitAt v 0 && !s.bindingOk i v then
      (s.setReg (Reg.netRxbCfg i) (setBit (v &&& 0xFFFFFFFFFFFF01FF) 0 false)).setRegBit Reg.netStat 0 true
    else s.setReg (Reg.netRxbCfg i) (v &&& 0xFFFFFFFFFFFF01FF) := rfl

theorem netStat_ne_netRxbCfg (i : Nat) : Reg.netStat ≠ Reg.netRxbCfg i := by unfold Reg.netStat Reg.netRxbCfg; omega

theorem rxbMask_bit : ∀ j : Fin 64, (j.val < 9 ∨ 16 ≤ j.val) → (0xFFFFFFFFFFFF01FF : W64).getLsbD j.val = true := by decide

theorem fld_rxbMask (v : W64) : fld (v &&& 0xFFFFFFFFFFFF01FF) 1 8 = fld v 1 8 ∧ fld (v &&& 0xFFFFFFFFFFFF01FF) 16 48 = fld v 16 48 := by
  have hmask (lo w : Nat) (h : lo + w ≤ 9 ∨ 16 ≤ lo ∧ lo + w ≤ 64) : fld (v &&& 0xFFFFFFFFFFFF01FF) lo w = fld v lo w := by
    refine Nat.eq_of_testBit_eq fun k => ?_
    rw [testBit_fld, testBit_fld, BitVec.getLsbD_and]
    by_cases hk : k < w
    · rw [show (0xFFFFFFFFFFFF01FF : W64).getLsbD (lo + k) = true from rxbMask_bit ⟨lo + k, by omega⟩ (by simp; omega), Bool.and_true]
    · simp [hk]
  exact ⟨hmask 1 8 (by decide), hmask 16 48 (by decide)⟩

theorem exec_rxbCfgWrite (b : BitVec 8) (v : W64) (s : State) : ∃ u, exec (.rxbCfgWrite b v) s = .next u ∧
    let a := Reg.netRxbCfg b.toNat
    let on := s.regBit a 0 = true
    (on → u = s.setRegBit a 0 (bitAt v 0)) ∧ (¬on → bitAt v 0 = true → ¬s.BindingFit b.toNat v → u.regBit a 0 = false ∧ u.regBit Reg.netStat 0 = true) ∧
    (¬on → bitAt v 0 = true → s.BindingFit b.toNat v → u.reg a = v &&& 0xFFFFFFFFFFFF01FF ∧ u.reg Reg.netStat = s.reg Reg.netStat) ∧
    (¬on → fld (u.reg a) 1 8 = fld v 1 8 ∧ fld (u.reg a) 16 48 = fld v 16 48) := by
  refine ⟨rxbCfgWrite b.toNat v s, rfl, ?_⟩
  generalize b.toNat = i
  intro a on
  have hne := netStat_ne_netRxbCfg i
  rw [rxbCfgWrite_eq]
  refine ⟨fun h => if_pos h, fun h hv hf => ?_, fun h hv hf => ?_, fun h => ?_⟩
  · have hok : s.bindingOk i v = false := by simpa [← s.bindingOk_iff] using hf
    rw [if_neg h, if_pos (by simp [hv, hok])]
    refine ⟨?_, State.regBit_setRegBit_same _ _ _ (by decide)⟩
    rw [State.regBit_setRegBit_ne _ _ _ _ hne.symm, State.regBit, State.reg_setReg_same, bitAt_setBit_same _ _ (by decide)]
  · have hok := (s.bindingOk_iff i v).2 hf
    rw [if_neg h, if_neg (by simp [hok])]
    exact ⟨State.reg_setReg_same _ _ _, State.reg_setReg_ne _ _ _ hne⟩
  · rw [if_neg h]
    split
    · rw [State.reg_setRegBit_ne _ _ _ _ hne.symm, State.reg_setReg_same, fld_setBit_ne _ _ (.inr (by decide)), fld_setBit_ne _ _ (.inr (by decide))]
      exact fld_rxbMask v
    · rw [State.reg_setReg_same]
      exact fld_rxbMask v

/-! ### SEND (R413) -/

/-- What a SEND must not ask for. -/
def State.SendBad (s : State) (e : Item) : Prop :=
  s.ports ≤ e.fieldN 8 1 ∨ e.fieldN 24 4 < 14 ∨ 9216 < e.fieldN 24 4 ∨ e.fieldN 24 4 < e.fieldN 10 2 ∨ e.fieldN 24 4 < e.fieldN 12 2

/-- The frame of a SEND that joins its port's queue behind its read. -/
def State.queueSend (s : State) (e : Item) (l : List Byte) : State :=
  s.netStamp.2.setTxq (e.fieldN 8 1) (s.txq (e.fieldN 8 1) ++
    [{ item := e, data := e.txFrame l, ts := decide (e.fieldN 9 1 / 4 % 2 = 1), stamp := s.netStamp.1 }])

theorem State.sendStart_bad {s : State} {e : Item} (h : s.SendBad e) : s.sendStart e = s.complete e 0x0401 := by
  unfold State.sendStart
  have hb : (decide (s.ports ≤ e.fieldN 8 1) || decide (e.fieldN 24 4 < 14) || decide (9216 < e.fieldN 24 4) || decide (e.fieldN 24 4 < e.fieldN 10 2) ||
      decide (e.fieldN 24 4 < e.fieldN 12 2)) = true := by simpa [State.SendBad, or_assoc] using h
  simp only [firstFail, hb, if_true]

theorem State.sendStart_good {s : State} {e : Item} (h : ¬s.SendBad e) : s.sendStart e =
    if s.regBit Reg.netCtl (2 + e.fieldN 8 1) = false then s.complete e 0x02D0
    else
      let r := s.dmaRead e.bid (e.word 16) (e.fieldN 24 4) (s.queue e.q).prio
      match r.2.1 with
      | some st => r.1.complete e st
      | none => r.1.queueSend e r.2.2 := by
  unfold State.sendStart
  have hb : (decide (s.ports ≤ e.fieldN 8 1) || decide (e.fieldN 24 4 < 14) || decide (9216 < e.fieldN 24 4) || decide (e.fieldN 24 4 < e.fieldN 10 2) ||
      decide (e.fieldN 24 4 < e.fieldN 12 2)) = false := by simpa [State.SendBad, and_assoc] using h
  cases hl : s.regBit Reg.netCtl (2 + e.fieldN 8 1) <;> simp only [firstFail, hb, hl] <;> rfl

/-- Without the checksum flags a frame is only padded. -/
theorem Item.txFrame_plain {e : Item} (h : e.fieldN 9 1 % 4 = 0) (l : List Byte) : e.txFrame l = l ++ List.replicate (60 - l.length) 0 := by
  unfold Item.txFrame
  have h1 : ¬e.fieldN 9 1 % 2 = 1 := by omega
  have h2 : ¬e.fieldN 9 1 / 2 % 2 = 1 := by omega
  simp only [h1, h2, if_false]

theorem State.sendStart_spec (t : State) (e : Item) : let u := t.sendStart e
    let p := e.fieldN 8 1
    let down := t.regBit Reg.netCtl (2 + p) = false
    (t.SendBad e → u = t.complete e 0x0401) ∧ (¬t.SendBad e → down → u = t.complete e 0x02D0) ∧
    (¬t.SendBad e → ¬down → ∀ a r l, t.dmaRead e.bid (e.word 16) (e.fieldN 24 4) (t.queue e.q).prio = (a, r, l) →
      (∀ st, r = some st → u = a.complete e st) ∧
      (r = none → ∃ (d : List Byte) (st : W64), a.Near st ∧
        u = a.fresh.2.setTxq p (a.txq p ++ [{ item := e, data := d, ts := decide (e.fieldN 9 1 / 4 % 2 = 1), stamp := st }]) ∧
        d = e.txFrame l ∧ (e.fieldN 9 1 % 4 = 0 → d = l ++ List.replicate (60 - l.length) 0))) := by
  refine ⟨State.sendStart_bad, fun hb hd => ?_, fun hb hd a r l hr => ?_⟩
  · rw [State.sendStart_good hb, if_pos hd]
  · rw [State.sendStart_good hb, if_neg hd, hr]
    refine ⟨fun st hst => by rw [hst], fun hn => ?_⟩
    rw [hn]
    exact ⟨_, _, a.netStamp_near, rfl, rfl, fun h => Item.txFrame_plain h l⟩

theorem exec_send_eq (q : BitVec 16) (s : State) : exec (.send q) s = .next (dispatch 7 1 q always (fun e s => s.sendStart e) s) := rfl

end Sys2Proof.Machine

namespace Sys2Proof
open Machine

/-- Settles O57: what each command of the ports does, command by command. -/
theorem networkReceivesSteersLandsAndSends : Obligations.NetworkReceivesSteersLandsAndSends := by
  unfold Obligations.NetworkReceivesSteersLandsAndSends
  intro port frame fcs up b v rate q s
  exact ⟨exec_frameReceive port frame fcs s, exec_frameLanding port s, exec_rxbCfgWrite b v s,
    fun h => by rw [exec_send_eq, dispatch_of_not_dispatches h],
    fun e t h => ⟨t.sendStart e, by rw [exec_send_eq, dispatch_of_dispatches h], t.sendStart_spec e⟩,
    exec_frameTransmitDone port s, exec_linkChange port up s, exec_ptpSample v s, exec_merStepWrite v s, exec_merRateWrite rate s⟩

end Sys2Proof
end

section
/-! The obligation of the scalar loads, which fails at a doorbell: such a load performs the earlier stores of its unit first (R151, R263), and
the statement's clause leaves every byte as it was whatever the store buffer holds. -/

namespace Sys2Proof.Machine

/-- Thread 0 of core 0 at privilege M with the address of the doorbell of QID 0 in g1, and a buffered store of the byte 1 to address 0. -/
def bufferedBeforeBell : State :=
  { ctxs := [(2048, { st := .ready, priv := .m, ibuf := some 0x100, r := { g := [(1, 0x090000000000)], pc := 0x1000, npc := 0x1004 } })]
    execs := [(128, { l1i := [0x40], sb := [{ ctx := 2048, addr := 0, data := [1], attr := .uc }] })]
    queues := [(0, { exists_ := true })] }

/-- The load of that doorbell, LD g2, 0(g1). -/
def bellLd : Instr := .ld (.ht 0) 2 1 0

/-- Its address, and what translation answers there. -/
def bellLdAddr : W64 := (bufferedBeforeBell.start 2048 false).g 2048 1 + (0 : BitVec 12).signExtend 64 * BitVec.ofNat 64 8
def bellXlate : State × Except Trap (Nat × Attr) := (bufferedBeforeBell.start 2048 false).xlate 2048 .read bellLdAddr

/-- The byte at 0 in the state that a command answers. -/
def byte0 : Out → Option Byte
  | .next u => some (u.peek 0)
  | _ => none

/-- The load performs the buffered store: the byte at 0 changes. -/
theorem byte0_bellLd : byte0 (exec bellLd bufferedBeforeBell) = some 1 ∧ bellXlate.1.peek 0 = 0 := by decide +kernel

theorem bufferedBeforeBell_canIssue : bufferedBeforeBell.canIssue 2048 profKE false false = true := by decide +kernel

/-- The load reaches the doorbell of QID 0, which answers. -/
theorem bellXlate_spec : bellLdAddr.toNat % 8 = 0 ∧ bellXlate.2 = .ok (0x090000000000, .uc) ∧ bellXlate.1.region 0x090000000000 = some .bell ∧
    bellXlate.1.bellLoad (bellXlate.1.bellBid 2048) (bellQid 0x090000000000) .full = .ok 0 := by decide +kernel

end Sys2Proof.Machine

namespace Sys2Proof
open Machine

/-- Refutes O18: a load of a doorbell performs the earlier stores of its unit, so the byte that one of them holds changes, where the
statement has every byte as it was. -/
theorem not_loadsReturnTheBytesInForce : ¬Obligations.LoadsReturnTheBytesInForce := by
  unfold Obligations.LoadsReturnTheBytesInForce
  intro h
  have hload := h (.ht 0) 7 0 2 1 0 0 bufferedBeforeBell bufferedBeforeBell_canIssue (bellLd, 3, _)
    (List.mem_append_left _ (.tail _ (.tail _ (.tail _ (.head _)))))
  obtain ⟨haligned, hok, hregion, hbell⟩ := bellXlate_spec
  obtain ⟨-, hclause, -⟩ := hload 0x090000000000 .uc haligned hok
  obtain ⟨u, ⟨hu, -⟩, hpeek, -⟩ := hclause hregion .full 0 rfl hbell
  obtain ⟨hone, hzero⟩ := byte0_bellLd
  have hsame : u.peek 0 = 0 := (hpeek 0).trans hzero
  rw [show exec bellLd bufferedBeforeBell = .next u from hu] at hone
  exact absurd (Option.some.inj hone) (by rw [hsame]; decide)

end Sys2Proof
end

section
/-! SUPPORT. What leaves the execution units alone: the operations of memory, the hub and the stream units, up to a write of CSR space
outside the caches, change no store buffer, cache or side buffer of any unit. -/

namespace Sys2Proof.Machine

@[simp] theorem State.execs_ite (c : Prop) [Decidable c] (s t : State) : (if c then s else t).execs = if c then s.execs else t.execs :=
  apply_ite _ _ _ _
@[simp] theorem State.execs_fst_ite {α : Type} (c : Prop) [Decidable c] (s t : State × α) :
    (if c then s else t).1.execs = if c then s.1.execs else t.1.execs := apply_ite (fun p : State × α => p.1.execs) _ _ _
@[simp] theorem State.execs_foldl {α : Type} (l : List α) (f : State → α → State) (s : State) (h : ∀ t x, (f t x).execs = t.execs) :
    (l.foldl f s).execs = s.execs :=
  List.foldlRecOn (motive := fun t => t.execs = s.execs) l f rfl fun t ht x _ => (h t x).trans ht

/-! ### Registers, the memory controllers and the bus -/

@[simp] theorem State.fresh_execs (s : State) : s.fresh.2.execs = s.execs := (rfl)
@[simp] theorem State.bump_execs (s : State) (a : Nat) : (s.bump a).execs = s.execs := (rfl)
@[simp] theorem State.addReg_execs (s : State) (a n : Nat) : (s.addReg a n).execs = s.execs := (rfl)
@[simp] theorem State.setRegBit_execs (s : State) (a i : Nat) (b : Bool) : (s.setRegBit a i b).execs = s.execs := (rfl)
@[simp] theorem State.setRegFld_execs (s : State) (a lo w v : Nat) : (s.setRegFld a lo w v).execs = s.execs := (rfl)
@[simp] theorem State.raise_execs (s : State) (n : Nat) : (s.raise n).execs = s.execs := (rfl)
@[simp] theorem State.raiseEvt_execs (s : State) (a : Nat) : (s.raiseEvt a).execs = s.execs := by simp [State.raiseEvt]
@[simp] theorem State.recordUE_execs (s : State) (cw : Nat) (k : Kind) (poison : Bool) (cls : BitVec 2) :
    (s.recordUE cw k poison cls).execs = s.execs := by simp [State.recordUE]
@[simp] theorem State.recordCE_execs (s : State) (cw : Nat) (k : Kind) (sym : BitVec 8) : (s.recordCE cw k sym).execs = s.execs := by
  unfold State.recordCE
  simp
@[simp] theorem State.mergeDrain_execs (s : State) (cw : Nat) : (s.mergeDrain cw).execs = s.execs := by
  unfold State.mergeDrain
  split <;> simp
@[simp] theorem State.writeCw_execs (s : State) (a : Nat) (l : List Byte) : (s.writeCw a l).execs = s.execs := by
  unfold State.writeCw
  dsimp only
  (repeat' split) <;> simp [*]
@[simp] theorem State.busWriteGo_execs (k : Nat) (s : State) (a : Nat) (l : List Byte) : (State.busWriteGo k s a l).execs = s.execs := by
  induction k generalizing s a l with
  | zero => rfl
  | succ k ih =>
    cases l with
    | nil => rfl
    | cons b l => exact (ih ..).trans (State.writeCw_execs ..)
@[simp] theorem State.busWrite_execs (s : State) (a : Nat) (l : List Byte) : (s.busWrite a l).execs = s.execs := by simp [State.busWrite]
@[simp] theorem State.readCw_execs (s : State) (cw : Nat) (k : Kind) (cls : BitVec 2) : (s.readCw cw k cls).1.execs = s.execs := by
  unfold State.readCw
  split <;> simp
@[simp] theorem State.busRead_execs (s : State) (a n : Nat) (cls : BitVec 2) : (s.busRead a n cls).1.execs = s.execs := by
  have hread : ∀ (l : List Nat) (p : State × Bool),
      (l.foldl (fun p cw => ((p.1.readCw cw 0 cls).1, p.2 || (p.1.readCw cw 0 cls).2)) p).1.execs = p.1.execs := fun l p =>
    List.foldlRecOn (motive := fun r : State × Bool => r.1.execs = p.1.execs) l _ rfl fun r hr cw _ => (State.readCw_execs ..).trans hr
  exact (hread _ _).trans (State.execs_foldl _ _ _ fun t x => t.mergeDrain_execs x)
@[simp] theorem State.dmaReadGo_execs (wr : Bool) (k : Nat) (s : State) (bid : BitVec 12) (a : W64) (n : Nat) (cls : BitVec 2) :
    (State.dmaReadGo wr k s bid a n cls).1.execs = s.execs := by
  induction k generalizing s a n with
  | zero => rfl
  | succ k ih =>
    cases n with
    | zero => rfl
    | succ n =>
      simp only [State.dmaReadGo]
      (repeat' split) <;> simp [ih]
@[simp] theorem State.dmaRead_execs (s : State) (bid : BitVec 12) (a : W64) (n : Nat) (cls : BitVec 2) :
    (s.dmaRead bid a n cls).1.execs = s.execs := by simp [State.dmaRead]
@[simp] theorem State.dmaWriteGo_execs (k : Nat) (s : State) (bid : BitVec 12) (a : W64) (l : List Byte) :
    (State.dmaWriteGo k s bid a l).1.execs = s.execs := by
  induction k generalizing s a l with
  | zero => rfl
  | succ k ih =>
    cases l with
    | nil => rfl
    | cons b l =>
      simp only [State.dmaWriteGo]
      (repeat' split) <;> simp [ih]
@[simp] theorem State.dmaWrite_execs (s : State) (bid : BitVec 12) (a : W64) (l : List Byte) : (s.dmaWrite bid a l).1.execs = s.execs := by
  unfold State.dmaWrite
  simp
@[simp] theorem State.pmc_execs (s : State) (u n : Nat) : (s.pmc u n).execs = s.execs := by simp [State.pmc]
@[simp] theorem State.setG_execs (s : State) (x n : Nat) (v : W64) : (s.setG x n v).execs = s.execs := by simp [State.setG]
@[simp] theorem State.mvIdle_execs (s : State) (n : Nat) : (s.mvIdle n).execs = s.execs := by simp [State.mvIdle]
@[simp] theorem State.advance_execs (s : State) (x : Nat) (wide : Bool) : (s.advance x wide).execs = s.execs := by simp [State.advance]
@[simp] theorem State.retire_execs (s : State) (x : Nat) (wide : optParam Bool false) : (s.retire x wide).execs = s.execs := by simp [State.retire]

/-! ### Completions, the host and Booths -/

@[simp] theorem State.setHostCq_execs (s : State) (f n : Nat) (c : HostCq) : (s.setHostCq f n c).execs = s.execs := (rfl)
@[simp] theorem State.setHostSq_execs (s : State) (f n : Nat) (q : HostSq) : (s.setHostSq f n q).execs = s.execs := (rfl)
@[simp] theorem State.hostIrq_execs (s : State) (f vec : Nat) : (s.hostIrq f vec).execs = s.execs := (rfl)
@[simp] theorem State.hostNotify_execs (s : State) (f n : Nat) : (s.hostNotify f n).execs = s.execs := by simp [State.hostNotify]
@[simp] theorem State.hostSend_execs (s : State) (f : Nat) (e : HostCqe) : (s.hostSend f e).execs = s.execs := by simp [State.hostSend]
@[simp] theorem State.hostError_execs (s : State) (f : Nat) (e : HostCqe) (internal : BitVec 16) : (s.hostError f e internal).execs = s.execs := (rfl)
@[simp] theorem State.hostEnd_execs (s : State) (f : Nat) (e : HostCqe) (internal : BitVec 16) : (s.hostEnd f e internal).execs = s.execs := by
  unfold State.hostEnd
  simp
@[simp] theorem State.hostEvent_execs (s : State) (f ev : Nat) : (s.hostEvent f ev).execs = s.execs := by
  unfold State.hostEvent
  dsimp only
  (repeat' split) <;> simp [*]
@[simp] theorem State.hostEvents_execs (s : State) (p : BitVec 12 → Bool) (ev : Nat) : (s.hostEvents p ev).execs = s.execs := by
  unfold State.hostEvents
  simp
@[simp] theorem State.hostDelEnd_execs (s : State) (f n : Nat) : (s.hostDelEnd f n).execs = s.execs := by
  unfold State.hostDelEnd
  dsimp only
  (repeat' split) <;> simp [*]
@[simp] theorem State.hostSettle_execs (s : State) (f : Nat) : (s.hostSettle f).execs = s.execs := by simp [State.hostSettle]
@[simp] theorem State.hostEnded_execs (s : State) (e : Item) : (s.hostEnded e).execs = s.execs := by simp [State.hostEnded]
@[simp] theorem State.hostCompl_execs (s : State) (q : BitVec 16) (c : Compl) : (s.hostCompl q c).execs = s.execs := by simp [State.hostCompl]
@[simp] theorem State.haltBooth_execs (s : State) (bid : BitVec 12) (cause q : BitVec 16) (slot : Nat) (detail : BitVec 16) :
    (s.haltBooth bid cause q slot detail).execs = s.execs := by simp [State.haltBooth]
@[simp] theorem State.dropCompl_execs (s : State) (q : BitVec 16) : (s.dropCompl q).execs = s.execs := (rfl)
@[simp] theorem State.writeCompl_execs (s : State) (q : BitVec 16) (c : Compl) : (s.writeCompl q c).execs = s.execs := by
  unfold State.writeCompl
  dsimp only
  (repeat' split) <;> simp [*]
@[simp] theorem State.post_execs (s : State) (q : BitVec 16) (c : Compl) : (s.post q c).execs = s.execs := by simp [State.post]
@[simp] theorem State.complete_execs (s : State) (e : Item) (status : BitVec 16) (res : W64) (rang : List (BitVec 16 × BitVec 32)) :
    (s.complete e status res rang).execs = s.execs := by simp [State.complete]
@[simp] theorem State.cellWrite_execs (s : State) (f : BitVec 16) (sq : BitVec 32) : (s.cellWrite f sq).execs = s.execs := by simp [State.cellWrite]

/-! ### Scrubbing and Meridian -/

@[simp] theorem recenter_execs (n : Nat) (s : State) : (recenter n s).execs = s.execs := by simp [recenter]
@[simp] theorem State.scrubEnd_execs (s : State) (st : BitVec 16) : (s.scrubEnd st).execs = s.execs := (rfl)
@[simp] theorem scrubGo_execs (s : State) : (scrubGo s).execs = s.execs := by simp [scrubGo]
@[simp] theorem scrubAbort_execs (s : State) : (scrubAbort s).execs = s.execs := by simp [scrubAbort]
@[simp] theorem State.merStep_execs (s : State) (v : W64) : (s.merStep v).execs = s.execs := by simp [State.merStep]
@[simp] theorem State.rateCheck_execs (s : State) (v : Int) : (s.rateCheck v).execs = s.execs := by simp [State.rateCheck]
@[simp] theorem State.merRate_execs (s : State) (v : BitVec 32) : (s.merRate v).execs = s.execs := by simp [State.merRate]

/-! ### Orrery -/

@[simp] theorem State.setOffer_execs (s : State) (h : Nat) (t : Option Nat) : (s.setOffer h t).execs = s.execs := (rfl)
@[simp] theorem State.unlist_execs (s : State) (t : Nat) : (s.unlist t).execs = s.execs := (rfl)
@[simp] theorem State.toTail_execs (s : State) (t : Nat) : (s.toTail t).execs = s.execs := (rfl)
@[simp] theorem State.toHead_execs (s : State) (t : Nat) : (s.toHead t).execs = s.execs := (rfl)
@[simp] theorem State.withdraw_execs (s : State) (h : Nat) : (s.withdraw h).execs = s.execs := by
  unfold State.withdraw
  split <;> simp
@[simp] theorem State.offer1_execs (s : State) (t : Nat) : (s.offer1 t).execs = s.execs := by
  unfold State.offer1
  split <;> simp
@[simp] theorem State.scheduleGo_execs (k : Nat) (s : State) : (State.scheduleGo k s).execs = s.execs := by
  induction k generalizing s with
  | zero => rfl
  | succ k ih =>
    unfold State.scheduleGo
    split <;> simp [ih]
@[simp] theorem State.schedule_execs (s : State) : s.schedule.execs = s.execs := by simp [State.schedule]
@[simp] theorem State.dropExpiry_execs (s : State) (t : Nat) : (s.dropExpiry t).execs = s.execs := (rfl)
@[simp] theorem State.testWait_execs (s : State) (t : Nat) : (s.testWait t).execs = s.execs := by simp [State.testWait]
@[simp] theorem State.setFlags_execs (s : State) (t : Nat) (m : BitVec 32) : (s.setFlags t m).execs = s.execs := by simp [State.setFlags]
@[simp] theorem State.orrRes_execs (s : State) (h : Nat) (st : BitVec 16) (blocked : Bool) (data : BitVec 32) :
    (s.orrRes h st blocked data).execs = s.execs := by simp [State.orrRes]
@[simp] theorem orrOp_execs (h : Fin 64) (body : State → State) (s : State) (hbody : ∀ t, (body t).execs = t.execs) :
    (orrOp h body s).execs = s.execs := by
  unfold orrOp
  (repeat' split) <;> simp [*]
@[simp] theorem State.blockCur_execs (s : State) (h : Nat) : (s.blockCur h).execs = s.execs := (rfl)
@[simp] theorem State.srcDeliver_execs (s : State) (n : Nat) : (s.srcDeliver n).execs = s.execs := by simp [State.srcDeliver]
@[simp] theorem orrSrcWrite_execs (n : Nat) (v : W64) (s : State) : (orrSrcWrite n v s).execs = s.execs := by simp [orrSrcWrite]
@[simp] theorem orrHtEnWrite_execs (v : W64) (s : State) : (orrHtEnWrite v s).execs = s.execs := by simp [orrHtEnWrite]

/-- A command of Orrery whose body leaves the units alone. -/
theorem next_orrOp_execs {h : Fin 64} {body : State → State} {s t : State} (hb : ∀ y, (body y).execs = y.execs)
    (ht : (.next (orrOp h body s) : Out) = .next t) : t.execs = s.execs := by
  cases ht
  exact orrOp_execs h body s hb

@[simp] theorem orrOpWrite_execs (h : Fin 64) (v : W64) (s : State) : (orrOpWrite h v s).execs = s.execs := by
  have key : ∀ r : Out, (∀ t, r = .next t → t.execs = s.execs) → (match r with | .next t => t | _ => s).execs = s.execs := by
    intro r hr
    cases r with
    | next t => exact hr t rfl
    | _ => rfl
  unfold orrOpWrite
  refine key _ fun t ht => ?_
  split at ht
  all_goals
    refine next_orrOp_execs (fun y => ?_) ht
    dsimp -failIfUnchanged only
    (repeat' split) <;> simp

/-! ### Epochs of the write path, queues -/

@[simp] theorem State.wpUpdate_execs (s : State) : s.wpUpdate.execs = s.execs := by simp [State.wpUpdate]
@[simp] theorem State.startEpoch_execs (s : State) (target : Nat) : (s.startEpoch target).execs = s.execs := (rfl)
@[simp] theorem State.almReadonly_execs (s : State) : s.almReadonly.execs = s.execs := by simp [State.almReadonly]
@[simp] theorem qctlWrite_execs (q : BitVec 16) (v : BitVec 32) (s : State) : (qctlWrite q v s).execs = s.execs := by simp [qctlWrite]
@[simp] theorem admGo_execs (s : State) : (admGo s).execs = s.execs := by
  unfold admGo
  dsimp only
  (repeat' split) <;> simp [*]

/-! ### Domino, the mailbox and modes -/

@[simp] theorem State.discardEntry_execs (s : State) (e : Option Item) (st : BitVec 16) : (s.discardEntry e st).execs = s.execs := by
  unfold State.discardEntry
  split <;> simp
@[simp] theorem State.domRes_execs (s : State) (st : BitVec 16) : (s.domRes st).execs = s.execs := (rfl)
@[simp] theorem domSkip_execs (f : BitVec 16) (sq : BitVec 32) (s : State) : (domSkip f sq s).execs = s.execs := by simp [domSkip]
@[simp] theorem domFlush_execs (f : BitVec 16) (s : State) : (domFlush f s).execs = s.execs := by simp [domFlush]
@[simp] theorem flowCfgWrite_execs (f : BitVec 16) (v : W64) (s : State) : (flowCfgWrite f v s).execs = s.execs := by simp [flowCfgWrite]
@[simp] theorem mboxSend_execs (v : W64) (s : State) : (mboxSend v s).execs = s.execs := (rfl)
@[simp] theorem State.setSclk_execs (s : State) (n : Nat) : (s.setSclk n).execs = s.execs := (rfl)
@[simp] theorem State.beginEpoch_execs (s : State) (m : Nat) : (s.beginEpoch m).execs = s.execs := by simp [State.beginEpoch]
@[simp] theorem State.forceFor_execs (s : State) (m : Nat) : (s.forceFor m).execs = s.execs := by simp [State.forceFor]
@[simp] theorem State.modeResult_execs (s : State) (st : BitVec 16) : (s.modeResult st).execs = s.execs := (rfl)
@[simp] theorem modeRequest_execs (src : Bool) (m : Nat) (s : State) : (modeRequest src m s).execs = s.execs := by simp [modeRequest]

/-! ### Movers -/

@[simp] theorem State.mvCount_execs (s : State) (n k : Nat) : (s.mvCount n k).execs = s.execs := (rfl)
@[simp] theorem State.mvPiece_execs (k : Nat) (s : State) (n : Nat) (src : Nat → Nat × Nat) (goal : Nat) :
    (State.mvPiece k s n src goal).1.execs = s.execs := by
  induction k generalizing s with
  | zero => rfl
  | succ k ih =>
    unfold State.mvPiece
    dsimp only
    (repeat' split) <;> simp [ih]
@[simp] theorem State.mvWake_execs (s : State) (x : Nat) : (s.mvWake x).execs = s.execs := by
  unfold State.mvWake
  dsimp only
  (repeat' split) <;> simp [*]
@[simp] theorem State.kickEnd_execs (s : State) (n : Nat) (failed : Bool) (st : BitVec 16) (dir : Bool) :
    (s.kickEnd n failed st dir).execs = s.execs := by simp [State.kickEnd]
@[simp] theorem State.chainEnd_execs (s : State) (n : Nat) (st : BitVec 16) : (s.chainEnd n st).execs = s.execs := by
  unfold State.chainEnd
  dsimp only
  (repeat' split) <;> simp [*]
@[simp] theorem mvGo_execs (n mode : Nat) (s : State) : (mvGo n mode s).execs = s.execs := by simp [mvGo]
@[simp] theorem mvResume_execs (n : Nat) (s : State) : (mvResume n s).execs = s.execs := by simp [mvResume]
@[simp] theorem State.mvSome_execs (s : State) (n : Nat) : (s.mvSome n).execs = s.execs := by simp [State.mvSome]
@[simp] theorem mvAbort_execs (n : Nat) (s : State) : (mvAbort n s).execs = s.execs := by simp [mvAbort]

/-! ### Spyglass and the ports -/

@[simp] theorem spyResync_execs (s : State) : (spyResync s).execs = s.execs := (rfl)
@[simp] theorem rxbCfgWrite_execs (i : Nat) (v : W64) (s : State) : (rxbCfgWrite i v s).execs = s.execs := by simp [rxbCfgWrite]
@[simp] theorem ptpSample_execs (o : W64) (s : State) : (ptpSample o s).execs = s.execs := by simp [ptpSample]

/-! ### The Almanac -/

@[simp] theorem State.onAlm_execs (s : State) (f : Almanac → Almanac) : (s.onAlm f).execs = s.execs := (rfl)
@[simp] theorem State.tabTouch_execs (s : State) (a : Nat) : (s.tabTouch a).execs = s.execs := by simp [State.tabTouch]
@[simp] theorem State.setNslot_execs (s : State) (loc : Nat) (x : NSlot) : (s.setNslot loc x).execs = s.execs := (rfl)
@[simp] theorem State.pageLoad_execs (s : State) (p : Nat) : (s.pageLoad p).execs = s.execs := by simp [State.pageLoad]
@[simp] theorem State.dirtyAdd_execs (s : State) (p sq : Nat) : (s.dirtyAdd p sq).execs = s.execs := (rfl)
@[simp] theorem State.setTab64_execs (s : State) (a v sq : Nat) : (s.setTab64 a v sq).execs = s.execs := by simp [State.setTab64]
@[simp] theorem State.setBlkInfo_execs (s : State) (blk : Nat) (v : W64) (sq : Nat) : (s.setBlkInfo blk v sq).execs = s.execs := by
  unfold State.setBlkInfo
  simp
@[simp] theorem State.setBlkState_execs (s : State) (blk st : Nat) : (s.setBlkState blk st).execs = s.execs := by simp [State.setBlkState]
@[simp] theorem State.liveAdd_execs (s : State) (e : Nat) (up : Bool) (sq : Nat) : (s.liveAdd e up sq).execs = s.execs := by simp [State.liveAdd]
@[simp] theorem State.mapSet_execs (s : State) (u e sq : Nat) : (s.mapSet u e sq).execs = s.execs := by simp [State.mapSet]
@[simp] theorem State.entryRead_execs (s : State) (nsid lba : Nat) : (s.entryRead nsid lba).1.execs = s.execs := by simp [State.entryRead]
@[simp] theorem State.queueRetire_execs (s : State) (blk cause : Nat) (ids : List Nat) : (s.queueRetire blk cause ids).execs = s.execs := by
  unfold State.queueRetire
  simp
@[simp] theorem State.retireBlk_execs (s : State) (blk cause : Nat) : (s.retireBlk blk cause).execs = s.execs := by
  unfold State.retireBlk
  dsimp only
  (repeat' split) <;> simp [*]
@[simp] theorem State.refresh_execs (s : State) (blk : Nat) : (s.refresh blk).execs = s.execs := by simp [State.refresh]
@[simp] theorem State.loadGroup_execs (s : State) (g : Nat) : (s.loadGroup g).execs = s.execs := by simp [State.loadGroup]
@[simp] theorem State.ckptBegin_execs (s : State) : s.ckptBegin.execs = s.execs := by simp [State.ckptBegin]
@[simp] theorem State.openBlk_execs (s : State) (g stream : Nat) (deep : Bool) : (s.openBlk g stream deep).execs = s.execs := by
  unfold State.openBlk
  dsimp only
  (repeat' split) <;> simp [*]
@[simp] theorem State.programAt_execs (s : State) (o : OpenBlk) (slots : List NSlot) : (s.programAt o slots).1.execs = s.execs := by
  unfold State.programAt
  simp
@[simp] theorem State.withSeq_execs (s : State) (l : List NSlot) : (s.withSeq l).1.execs = s.execs := (rfl)
@[simp] theorem State.setProg_execs (s : State) (g : Nat) (p : Option Prog) : (s.setProg g p).execs = s.execs := (rfl)
@[simp] theorem State.issueIn_execs (s : State) (g stream : Nat) (fill : Bool) : (s.issueIn g stream fill).execs = s.execs := by
  unfold State.issueIn
  split <;> simp
@[simp] theorem State.pump_execs (s : State) : s.pump.execs = s.execs := by simp [State.pump]
@[simp] theorem State.stDone_execs (s : State) (id : Nat) (st : BitVec 16) (res : W64) : (s.stDone id st res).execs = s.execs := by
  unfold State.stDone
  split <;> simp
@[simp] theorem State.bufGone_execs (s : State) (id : Nat) : (s.bufGone id).execs = s.execs := (rfl)
@[simp] theorem State.sweep_execs (s : State) : s.sweep.execs = s.execs := by simp [State.sweep]
@[simp] theorem State.sealUnit_execs (s : State) (nsid : Nat) : (s.sealUnit nsid).execs = s.execs := by simp [State.sealUnit]
@[simp] theorem State.recTouch_execs (s : State) (addr : Bool → Nat) : (s.recTouch addr).execs = s.execs := by simp [State.recTouch]
@[simp] theorem State.rootWrite_execs (s : State) (edit : List Byte → List Byte) : (s.rootWrite edit).execs = s.execs := by
  exact (State.busWrite_execs ..).trans ((State.busWrite_execs ..).trans (State.recTouch_execs ..))
@[simp] theorem State.writePages_execs (s : State) (o : OpenBlk) (ps : List Nat) : (s.writePages o ps).execs = s.execs := by simp [State.writePages]
@[simp] theorem State.tableWrite_execs (s : State) : s.tableWrite.execs = s.execs := by
  unfold State.tableWrite
  dsimp only
  (repeat' split) <;> simp [*]
@[simp] theorem State.makeRoomGo_execs (k : Nat) (s : State) (n : Nat) : (State.makeRoomGo k s n).execs = s.execs := by
  induction k generalizing s with
  | zero => rfl
  | succ k ih =>
    unfold State.makeRoomGo
    split <;> simp [ih]
@[simp] theorem State.makeRoom_execs (s : State) (n : Nat) : (s.makeRoom n).execs = s.execs := by simp [State.makeRoom]
@[simp] theorem State.nsDone_execs (s : State) (st : BitVec 16) (n : Nat) : (s.nsDone st n).execs = s.execs := (rfl)
@[simp] theorem State.nsPhase_execs (s : State) (c : NsCmd) (n : Nat) : (s.nsPhase c n).execs = s.execs := (rfl)
@[simp] theorem State.nsMake_execs (s : State) (c : NsCmd) (n : Nat) : (s.nsMake c n).execs = s.execs := by simp [State.nsMake]
@[simp] theorem State.unmapGo_execs (k : Nat) (s : State) (base i n : Nat) : (State.unmapGo k s base i n).1.execs = s.execs := by
  induction k generalizing s i with
  | zero => rfl
  | succ k ih =>
    unfold State.unmapGo
    split
    · rfl
    · dsimp only
      split <;> simp [ih]
@[simp] theorem State.nsUnmake_execs (s : State) (n : Nat) : (s.nsUnmake n).execs = s.execs := by simp [State.nsUnmake]
@[simp] theorem State.nsAdvance_execs (k : Nat) (s : State) : (State.nsAdvance k s).execs = s.execs := by
  induction k generalizing s with
  | zero => rfl
  | succ k ih =>
    unfold State.nsAdvance
    dsimp only
    (repeat' split) <;> simp [ih]
@[simp] theorem State.retireStep_execs (s : State) (e : Nat × Nat × List Nat) : (s.retireStep e).execs = s.execs := by simp [State.retireStep]
@[simp] theorem State.retireGo_execs (s : State) : s.retireGo.execs = s.execs := by simp [State.retireGo]
@[simp] theorem State.almGo_execs (s : State) : s.almGo.execs = s.execs := by simp [State.almGo]
@[simp] theorem nsCmd_execs (c : NsCmd) (s : State) : (nsCmd c s).execs = s.execs := by simp [nsCmd]
@[simp] theorem State.countRead_execs (s : State) (blk steps : Nat) (ok : Bool) : (s.countRead blk steps ok).execs = s.execs := by
  unfold State.countRead
  simp
@[simp] theorem State.refreshDue_execs (s : State) : s.refreshDue.execs = s.execs := by simp [State.refreshDue]
@[simp] theorem State.loseUnit_execs (s : State) (loc blk nsid lba : Nat) : (s.loseUnit loc blk nsid lba).execs = s.execs := by simp [State.loseUnit]
@[simp] theorem State.slotReadEnd_execs (s : State) (loc nsid lba steps : Nat) (ok : Bool) :
    (s.slotReadEnd loc nsid lba steps ok).1.execs = s.execs := by simp [State.slotReadEnd]
@[simp] theorem State.slotRead_execs (s : State) (loc nsid lba : Nat) : (s.slotRead loc nsid lba).1.execs = s.execs := by simp [State.slotRead]
@[simp] theorem ckptReq_execs (s : State) : (ckptReq s).execs = s.execs := by simp [ckptReq]
@[simp] theorem fmtStart_execs (s : State) : (fmtStart s).execs = s.execs := by
  unfold fmtStart
  (repeat' split) <;> simp
@[simp] theorem devRstWrite_execs (v : BitVec 32) (s : State) : (devRstWrite v s).execs = s.execs := by simp [devRstWrite]

/-! ### The measurement, ledgers and power states -/

@[simp] theorem measReq_execs (s : State) : (measReq s).execs = s.execs := by simp [measReq]
@[simp] theorem State.lgDone_execs (s : State) (op : Nat) (st : BitVec 16) : (s.lgDone op st).execs = s.execs := (rfl)
@[simp] theorem State.unitRead_execs (s : State) (nsid lba : Nat) : (s.unitRead nsid lba).1.execs = s.execs := by
  unfold State.unitRead
  split
  · rfl
  · have h := s.entryRead_execs nsid lba
    (repeat' split) <;> simp_all
@[simp] theorem State.setLgCv_execs (s : State) (v : BitVec 256) : (s.setLgCv v).execs = s.execs := (rfl)
@[simp] theorem lgReadChain_execs (s : State) : (lgReadChain s).execs = s.execs := by
  unfold lgReadChain
  dsimp only
  (repeat' split) <;> simp [*]
@[simp] theorem lgSeal_execs (s : State) : (lgSeal s).execs = s.execs := by simp [lgSeal]
@[simp] theorem lgSelWrite_execs (v : BitVec 32) (s : State) : (lgSelWrite v s).execs = s.execs := (rfl)
@[simp] theorem State.psEval_execs (s : State) : s.psEval.execs = s.execs := by simp [State.psEval]
@[simp] theorem State.psRequest_execs (s : State) : s.psRequest.execs = s.execs := by simp [State.psRequest]
@[simp] theorem almPsWrite_execs (v : BitVec 32) (s : State) : (almPsWrite v s).execs = s.execs := by simp [almPsWrite]

/-! ### Host functions -/

@[simp] theorem pciFnWrite_execs (f : Nat) (v : W64) (s : State) : (pciFnWrite f v s).execs = s.execs := by simp [pciFnWrite]
@[simp] theorem pciStatWrite_execs (v : W64) (s : State) : (pciStatWrite v s).execs = s.execs := by simp [pciStatWrite]

/-! ### CSR space -/

@[simp] theorem State.plainWrite_execs (s : State) (d : RegD) (a : Nat) (m w : W64) : (s.plainWrite d a m w).execs = s.execs := (rfl)
@[simp] theorem State.onHigh_execs (s : State) (a : Nat) (f : DbForm) (w : W64) (go : W64 → State → State) (hgo : ∀ v t, (go v t).execs = t.execs) :
    (s.onHigh a f w go).execs = s.execs := by
  unfold State.onHigh
  (repeat' split) <;> simp [*]
theorem State.writeDevice_execs (s : State) (who : Requester) (a : Nat) (f : DbForm) (m w : W64) :
    ∀ t, State.writeDevice s who a f m w = some t → t.execs = s.execs := by
  unfold State.writeDevice
  (repeat' split) <;> simp +contextual
theorem State.writeSpy_execs (s : State) (d : RegD) (a : Nat) (f : DbForm) (m w : W64) :
    ∀ t, State.writeSpy s d a f m w = some t → t.execs = s.execs := by
  unfold State.writeSpy
  (repeat' split) <;> simp +contextual
@[simp] theorem domCmd_execs (v : W64) (s : State) : (domCmd v s).execs = s.execs := by
  unfold domCmd
  split <;> simp
theorem State.writeOrr_execs (s : State) (d : RegD) (a : Nat) (f : DbForm) (m w : W64) :
    ∀ t, State.writeOrr s d a f m w = some t → t.execs = s.execs := by
  unfold State.writeOrr
  (repeat' split) <;> simp +contextual
@[simp] theorem State.writeQ0_execs (s : State) (r : Nat) (v : W64) : (s.writeQ0 r v).execs = s.execs := by
  unfold State.writeQ0
  split <;> simp
theorem State.writeQueue_execs (s : State) (a : Nat) (f : DbForm) (m w : W64) : ∀ t, State.writeQueue s a f m w = some t → t.execs = s.execs := by
  unfold State.writeQueue
  dsimp only
  (repeat' split) <;> simp +contextual
@[simp] theorem lgCmdWrite_execs (v : W64) (s : State) : (lgCmdWrite v s).execs = s.execs := by simp [lgCmdWrite]
theorem State.writeAlm_execs (s : State) (a : Nat) (f : DbForm) (w : W64) : ∀ t, State.writeAlm s a f w = some t → t.execs = s.execs := by
  unfold State.writeAlm
  (repeat' split) <;> simp +contextual
@[simp] theorem mvCtrlWrite_execs (n : Nat) (w : W64) (s : State) : (mvCtrlWrite n w s).execs = s.execs := by simp [mvCtrlWrite]
theorem State.writeStream_execs (s : State) (d : RegD) (a : Nat) (f : DbForm) (m w : W64) :
    ∀ t, State.writeStream s d a f m w = some t → t.execs = s.execs := by
  unfold State.writeStream
  (repeat' split) <;> simp +contextual
theorem State.writeNet_execs (s : State) (a : Nat) (f : DbForm) (m w : W64) : ∀ t, State.writeNet s a f m w = some t → t.execs = s.execs := by
  unfold State.writeNet
  (repeat' split) <;> simp +contextual

/-! ### Doorbells (R263–R265) -/

@[simp] theorem State.drainHold_execs (k : Nat) (s : State) (q : BitVec 16) : (State.drainHold k s q).execs = s.execs := by
  induction k generalizing s with
  | zero => rfl
  | succ k ih =>
    unfold State.drainHold
    dsimp only
    (repeat' split) <;> simp [ih]
@[simp] theorem State.bellTail_execs (s : State) (q : BitVec 16) (v : BitVec 32) (job : Option Nat) : (s.bellTail q v job).execs = s.execs := by
  unfold State.bellTail
  dsimp only
  (repeat' split) <;> simp
@[simp] theorem State.bellHead_execs (s : State) (q : BitVec 16) (v : BitVec 32) : (s.bellHead q v).execs = s.execs := by simp [State.bellHead]
@[simp] theorem State.bellStore_execs (s : State) (bid : BitVec 12) (q : BitVec 16) (form : DbForm) (v : W64) (job : Option Nat) :
    (s.bellStore bid q form v job).1.execs = s.execs := by
  unfold State.bellStore
  cases form <;> simp

end Sys2Proof.Machine
end

section
/-! SUPPORT. What the caches do between the issue and the drain of stores: fetches, translations, fills, write-backs and maintenance move no
store into or out of a store buffer, and no context changes its Booth, job or privilege, or enters or leaves an episode by them. -/

namespace Sys2Proof.Machine

/-- What an access to the caches leaves of a context. -/
def Ctx.core (c : Ctx) : BitVec 12 × Nat × Priv × Bool := (c.bid, c.job, c.priv, c.epi.isNone)

/-- From `s` to `t` no store has entered or left a store buffer, and every context has kept its core. -/
structure Steady (s t : State) : Prop where
  sb : ∀ u, (t.exe u).sb = (s.exe u).sb
  core : ∀ x, (t.ctx x).core = (s.ctx x).core

namespace Steady
variable {s t : State}

theorem refl (s : State) : Steady s s := ⟨fun _ => rfl, fun _ => rfl⟩
theorem trans {u : State} (h : Steady s t) (k : Steady t u) : Steady s u :=
  ⟨fun n => (k.sb n).trans (h.sb n), fun x => (k.core x).trans (h.core x)⟩

/-- A change of anything but the units and the contexts. -/
theorem same (h : Steady s t) {u : State} (he : u.execs = t.execs) (hc : u.ctxs = t.ctxs) : Steady s u :=
  h.trans ⟨fun n => by rw [State.exe, he]; rfl, fun x => by rw [State.ctx, hc]; rfl⟩

theorem of_mcStep (h : McStep s t) : Steady s t := (refl s).same (by rw [h.eq]) (by rw [h.eq])

theorem ite {c : Prop} [Decidable c] {u : State} (h : Steady s t) (k : Steady s u) : Steady s (if c then t else u) := by
  split
  · exact h
  · exact k

theorem foldl {α : Type} (h : Steady s t) (l : List α) (f : State → α → State) (hf : ∀ t x, Steady t (f t x)) : Steady s (l.foldl f t) :=
  List.foldlRecOn (motive := Steady s) l f h fun t ht x _ => ht.trans (hf t x)

theorem setExe (h : Steady s t) (u : Nat) {e : Exec} (he : e.sb = (t.exe u).sb) : Steady s (t.setExe u e) := by
  refine h.trans ⟨fun n => ?_, fun _ => rfl⟩
  by_cases hn : n = u
  · rw [hn, State.exe_setExe_same, he]
  · rw [State.exe_setExe_ne _ _ _ hn]

theorem setCtx (h : Steady s t) (x : Nat) {c : Ctx} (hc : c.core = (t.ctx x).core) : Steady s (t.setCtx x c) := by
  refine h.trans ⟨fun _ => rfl, fun y => ?_⟩
  by_cases hy : y = x
  · rw [hy, State.ctx_setCtx_same, hc]
  · rw [State.ctx_setCtx_ne _ _ _ hy]

theorem setReg (h : Steady s t) (a : Nat) (v : W64) : Steady s (t.setReg a v) := h.same rfl rfl
theorem bump (h : Steady s t) (a : Nat) : Steady s (t.bump a) := h.same rfl rfl
theorem addReg (h : Steady s t) (a n : Nat) : Steady s (t.addReg a n) := h.same rfl rfl
theorem setRegBit (h : Steady s t) (a i : Nat) (b : Bool) : Steady s (t.setRegBit a i b) := h.same rfl rfl
theorem setL2 (h : Steady s t) (k : Nat) (l : L2Line) : Steady s (t.setL2 k l) := h.same rfl rfl
theorem pmc (h : Steady s t) (u n : Nat) : Steady s (t.pmc u n) := by unfold State.pmc; exact (h.bump _).ite h
theorem busRead (h : Steady s t) (a n : Nat) (cls : BitVec 2) : Steady s (t.busRead a n cls).1 := h.trans (of_mcStep (t.busRead_step a n cls))
theorem busWrite (h : Steady s t) (a : Nat) (l : List Byte) : Steady s (t.busWrite a l) := h.trans (of_mcStep (t.busWrite_step a l))

/-! ### The L2 and its error state (R149–R165) -/

theorem busWritePoison (h : Steady s t) (a : Nat) (l : List Byte) : Steady s (t.busWritePoison a l) :=
  (h.busWrite a l).foldl _ _ fun t cw => of_mcStep ((t.mergeDrain_step cw).setEcc cw .poison)

theorem l2Ue (h : Steady s t) (d line : Nat) (demand : Bool) : Steady s (t.l2Ue d line demand) := by
  have hreg := ((h.setRegBit (Reg.l2Stat d) 6 true).setReg (Reg.l2Erraddr d) (BitVec.ofNat 64 (line * 64))).same
    (u := ((t.setRegBit (Reg.l2Stat d) 6 true).setReg (Reg.l2Erraddr d) (BitVec.ofNat 64 (line * 64))).raise d) rfl rfl
  exact hreg.ite (hreg.foldl _ _ fun t x => (refl t).ite ((refl t).setCtx _ rfl))

theorem poisonLine (h : Steady s t) (d : Nat) (l : L2Line) (demand : Bool) : Steady s (t.poisonLine d l demand) :=
  (h.ite (h.busWritePoison ..)).l2Ue ..

theorem writeBack (h : Steady s t) (d : Nat) (l : L2Line) : Steady s (t.writeBack d l).1 := by
  have hb := h.bump (Reg.l2Pmc d 3)
  have hw := hb.ite (c := l.ecc = .good) (hb.bump (Reg.l2Pmc d 7))
  have hout (c : Prop) [Decidable c] (u : State) (hu : Steady s u) :
      Steady s (if c then (u.l2Ue d l.line false, false) else (u.busWrite (l.line * 64) (lineBytes l.data 0 64), true)).1 := by
    split <;> dsimp only
    · exact hu.l2Ue ..
    · exact hu.busWrite ..
  unfold State.writeBack
  dsimp only
  split
  · exact hout _ _ hw
  · exact hout _ _ hw
  · exact hb.poisonLine ..

theorem l1dDrop (h : Steady s t) (d line : Nat) (keep : Option Nat) : Steady s (t.l1dDrop d line keep) :=
  h.foldl _ _ fun t u => by
    dsimp only
    exact (((refl t).setExe u (by rfl)).bump _).ite (refl t)
theorem l1iDrop (h : Steady s t) (d line : Nat) : Steady s (t.l1iDrop d line) := h.foldl _ _ fun t u => (refl t).setExe u rfl
theorem sideDrop (h : Steady s t) (d line : Nat) : Steady s (t.sideDrop d line) := h.ite (h.foldl _ _ fun t u => (refl t).setExe u rfl)
theorem sideOwn (h : Steady s t) (u x line : Nat) : Steady s (t.sideOwn u x line) := by
  unfold State.sideOwn
  dsimp only
  exact (h.setExe u (by rfl)).ite ((h.setExe u (by rfl)).addReg ..)
theorem sideStore (h : Steady s t) (d line : Nat) : Steady s (t.sideStore d line) := (h.sideDrop d line).ite ((h.sideDrop d line).addReg ..)
theorem l2Lookup (h : Steady s t) (d : Nat) (hit : Bool) : Steady s (t.l2Lookup d hit) := (h.bump _).bump _
theorem fresh (h : Steady s t) : Steady s t.fresh.2 := h.same rfl rfl

theorem l2Check (h : Steady s t) (d line : Nat) : Steady s (t.l2Check d line).1 := by
  unfold State.l2Check
  dsimp only
  split
  · exact h
  · split
    · exact h
    · exact (h.setL2 ..).bump _
    · exact (((h.poisonLine ..).ite h).l1dDrop ..).setL2 ..

theorem l2Evict (h : Steady s t) (d k : Nat) : Steady s (t.l2Evict d k) := by
  unfold State.l2Evict
  exact h.ite ((((h.writeBack ..).ite h).l1dDrop ..).setL2 ..)

theorem l2Victim (h : Steady s t) (d line : Nat) (ways : List Nat) : Steady s (t.l2Victim d line ways).2 := by
  unfold State.l2Victim
  dsimp only
  split
  · exact h
  · split
    · exact h
    · exact h.fresh

theorem l2Alloc (h : Steady s t) (d line : Nat) (bid : BitVec 12) (data : Line) (dirty : Bool) : Steady s (t.l2Alloc d line bid data dirty) := by
  unfold State.l2Alloc
  have hv := h.l2Victim d line (t.fillWays d bid)
  split
  · exact h
  · dsimp only
    split
    · exact hv
    · exact (hv.l2Evict ..).setL2 ..

theorem cleanLine (h : Steady s t) (d line : Nat) (x : Option Nat) : Steady s (t.cleanLine d line x) := by
  unfold State.cleanLine
  have hb (l : L2Line) := h.writeBack d l
  dsimp only
  (repeat' split)
  · exact h
  · exact h
  · exact ((hb _).l1dDrop ..).setL2 ..
  · exact (hb _).setL2 ..
  · exact ((hb _).setL2 ..).setCtx _ rfl

theorem invLine (h : Steady s t) (d line : Nat) (arr : Bool) : Steady s (t.invLine d line arr) := by
  unfold State.invLine
  have hd := ((h.l1iDrop d line).l1dDrop d line none).sideDrop d line
  dsimp only
  split
  · exact hd
  · exact hd.setL2 ..

/-! ### Cache maintenance and the registers of the caches (R138, R154–R163) -/

theorem lockFillLine (h : Steady s t) (d way line : Nat) : Steady s (t.lockFillLine d way line).1 := by
  unfold State.lockFillLine
  dsimp only
  split
  · split
    · exact h
    · exact ((h.l2Evict ..).setL2 ..).setL2 ..
  · split
    · exact (h.l2Evict ..).busRead ..
    · exact (((h.l2Evict ..).busRead ..).setL2 ..).bump _

theorem lockFill (h : Steady s t) (d way : Nat) (lines : List Nat) : Steady s (t.lockFill d way lines) :=
  (h.setRegBit ..).ite (h.foldl _ _ fun t l => (refl t).lockFillLine d way l)

theorem mopLine (h : Steady s t) (m : Mop) (d line : Nat) (x : Option Nat) : Steady s (t.mopLine m d line x) := by
  cases m with
  | cln => exact h.cleanLine ..
  | inv => exact h.invLine ..
  | cli => exact (h.cleanLine ..).invLine ..

theorem mopRange (h : Steady s t) (m : Mop) (d : Nat) (late : List Nat) : Steady s (t.mopRange m d late) :=
  h.ite (h.foldl _ _ fun t l => (refl t).mopLine m d l none)

theorem mopAll (h : Steady s t) (m : Mop) (d : Nat) (late : List Nat) : Steady s (t.mopAll m d late) :=
  have hl := h.foldl ((t.validLines d).filter (· ∉ late)) _ fun t l => (refl t).mopLine m d l none
  hl.ite (hl.foldl _ _ fun t u => (refl t).setExe u rfl)

theorem mopOne (h : Steady s t) (m : Mop) (d set way : Nat) (late : List Nat) : Steady s (t.mopOne m d set way late) :=
  ((h.mopLine ..).ite h).ite h

theorem setTodo (h : Steady s t) (l : Tab (Nat × List Nat)) : Steady s { t with l2todo := l } := h.same rfl rfl

theorem mopStart (h : Steady s t) (d op way set : Nat) {body : List Nat → State → State} (hb : ∀ l t, Steady t (body l t)) :
    Steady s (t.mopStart d op way set body) := by
  unfold State.mopStart
  exact (h.setRegBit ..).ite ((((h.setReg ..).setRegBit ..).setTodo _).trans (hb _ _))

theorem mopGo (h : Steady s t) (d op way set : Nat) : Steady s (mopGo d op way set t) := by
  unfold Machine.mopGo
  dsimp only
  split
  case h_11 => exact (h.setRegBit ..).ite (h.setReg ..)
  all_goals refine h.mopStart _ _ _ _ fun l t => ?_
  iterate 3 exact (refl t).mopRange ..
  iterate 3 exact (refl t).mopAll ..
  iterate 3 exact (refl t).mopOne ..
  exact (refl t).lockFill ..

theorem l1dDisable (h : Steady s t) (u : Nat) : Steady s (l1dDisable u t) := (h.setRegBit ..).setExe u (by rw [State.setRegBit, State.exe_setReg])
theorem sideBufferDisable (h : Steady s t) (u : Nat) : Steady s (sideBufferDisable u t) :=
  (h.setRegBit ..).setExe u (by rw [State.setRegBit, State.exe_setReg])

theorem oeL1CtlWrite (h : Steady s t) (u : Nat) (v : W64) : Steady s (oeL1CtlWrite u v t) := by
  have hd := h.setRegBit (Reg.oeL1Ctl u) 0 (bitAt v 0)
  have hl := (hd.setRegBit (Reg.oeL1Ctl u) 1 true).ite (c := bitAt v 1 = true) (hd.l1dDisable u)
  have hs := (hl.setRegBit (Reg.oeL1Ctl u) 2 true).ite (c := bitAt v 2 = true) (hl.sideBufferDisable u)
  unfold Machine.oeL1CtlWrite
  exact (hs.setExe u (by rfl)).ite hs

theorem l2Disable (h : Steady s t) (d : Nat) : Steady s (l2Disable d t) := by
  have hd := h.setRegBit (Reg.l2Ctl d) 0 false
  refine h.ite (Steady.foldl ?_ _ _ fun t u => (refl t).setExe u rfl)
  exact (hd.setRegBit ..).ite hd

/-! ### Walks and fetches (R70–R72, R135) -/

theorem demandRead (h : Steady s t) (a n : Nat) (cls : BitVec 2) : Steady s (t.demandRead a n cls).1 := by
  unfold State.demandRead
  split
  · exact h
  · exact h.busRead ..

theorem walkRead (h : Steady s t) (x a : Nat) : Steady s (t.walkRead x a).1 := by
  have hq : Steady s (if t.l2En 8 then t.l2Check 8 (a / 64) else (t, false)).1 := by
    split
    · exact h.l2Check ..
    · exact h
  unfold State.walkRead
  split
  · exact h.fresh
  split
  · exact h
  dsimp only
  generalize (if t.l2En 8 then t.l2Check 8 (a / 64) else (t, false)) = q at hq
  have hl := (hq.l2Lookup 8 (q.1.l2Way 8 (a / 64)).isSome).ite (c := q.1.l2En 8 = true) hq
  generalize (if q.1.l2En 8 = true then q.1.l2Lookup 8 (q.1.l2Way 8 (a / 64)).isSome else q.1) = w at hl
  split
  · exact hq
  split
  · exact hl
  · exact hl.demandRead ..

theorem walk (k : Nat) (h : Steady s t) (x table lvl va : Nat) : Steady s (State.walk x k t table lvl va).1 := by
  induction k generalizing t table lvl with
  | zero => exact h
  | succ k ih =>
    have hr := h.walkRead x (table + 8 * (va / 2 ^ (12 + 9 * (3 - lvl)) % 512))
    unfold State.walk
    dsimp only
    split
    · exact hr
    (repeat' split)
    · exact hr
    · exact hr
    · exact hr
    · exact hr
    · exact ih hr _ _

theorem fetchLine (h : Steady s t) (x p : Nat) (at_ : Attr) : Steady s (t.fetchLine x p at_).1 := by
  have hq := h.l2Check (domOf (unitOf x)) (p / 64)
  have hl (hit : Bool) := hq.l2Lookup (domOf (unitOf x)) hit
  unfold State.fetchLine
  dsimp only
  (repeat' split) <;> dsimp only
  · exact h.demandRead ..
  · exact h.demandRead ..
  · exact hq
  · exact hl _
  · exact (hl _).demandRead ..
  · exact ((hl _).demandRead ..).l2Alloc ..

theorem setTlb (h : Steady s t) (l : Tab (List TlbEntry)) : Steady s { t with tlb := l } := h.same rfl rfl

theorem xlateCore (h : Steady s t) (x : Nat) (k : XKind) (a : W64) : Steady s (t.xlateCore x k a).1 := by
  unfold State.xlateCore
  extract_lets c ptbr w u look v
  split
  · exact h
  split
  · exact h
  have hw : Steady s w.1 := h.walk 4 x _ 0 _
  have hl : Steady s look.1 := by
    unfold look
    split
    · exact h
    · split
      · exact hw
      · exact hw
      · split
        · exact hw
        · exact hw.setTlb _
  clear_value look
  split
  · exact hl
  · (repeat' split) <;> exact hl

theorem xlate (h : Steady s t) (x : Nat) (k : XKind) (a : W64) : Steady s (t.xlate x k a).1 := by
  unfold State.xlate
  split
  · exact h
  · exact h.xlateCore x k a

theorem setIbuf (h : Steady s t) (x : Nat) (b : Option Nat) : Steady s (t.setCtx x { t.ctx x with ibuf := b }) := h.setCtx x rfl

theorem fetchAt (h : Steady s t) (x : Nat) (a : W64) : Steady s (t.fetchAt x a).1 := by
  unfold State.fetchAt
  split
  · exact h
  extract_lets filled r u d
  have hr : Steady s r.1 := h.xlate x .fetch a
  have hfill {u : State} (hu : Steady s u) : Steady s (filled u) := hu.setIbuf x _
  clear_value filled r
  split
  · exact hr
  split
  · exact hr
  extract_lets line cached held q f e
  split
  · exact hfill hr
  have hq : Steady s q.1 := ((hr.pmc u 7).ite hr).fetchLine ..
  split
  · exact hq
  split
  · exact hfill hq
  · exact hfill (hq.fresh.setExe u (by rfl))

theorem fetch (h : Steady s t) (x : Nat) (wide : Bool) : Steady s (t.fetch x wide).1 := by
  unfold State.fetch
  extract_lets pc r q
  have hr : Steady s r.1 := h.fetchAt x pc
  have hq : Steady s q.1 := hr.fetchAt x _
  clear_value q r
  split
  · exact hr
  split
  · exact hr
  split <;> exact hq

theorem turn (h : Steady s t) (x : Nat) : Steady s (t.turn x) := by
  unfold State.turn
  exact (h.pmc (unitOf x) 1).setExe (unitOf x) (by rfl)

theorem setLastTime (h : Steady s t) (x n : Nat) : Steady s (t.setCtx x { t.ctx x with lastTime := n }) := h.setCtx x rfl

theorem start (h : Steady s t) (x : Nat) (wide : Bool) : Steady s (t.start x wide) := by
  unfold State.start
  split
  · exact h
  · exact ((h.turn x).fetch x wide).setLastTime x 1

/-! ### Stores reach the L2 or memory (R150–R153) -/

theorem ctxBusWrite (h : Steady s t) (x a : Nat) (l : List Byte) : Steady s (t.ctxBusWrite x a l) := (h.busWrite a l).setCtx x rfl

theorem clearResv (h : Steady s t) (d g : Nat) (by_ : Option Nat) : Steady s (t.clearResv d g by_) :=
  h.foldl _ _ fun t x => (refl t).ite ((refl t).setCtx x (by simp [Ctx.core]))

theorem logLine (h : Steady s t) (x d line : Nat) : Steady s (t.logLine x d line) := by
  unfold State.logLine
  dsimp only
  (repeat' split)
  · exact h
  · exact h.setCtx x rfl
  · exact (h.cleanLine ..).setCtx x rfl
  · exact h.setCtx x rfl

theorem storeHit (h : Steady s t) (u : Nat) (e : SbEntry) (w : Nat) : Steady s (t.storeHit u e w) := by
  unfold State.storeHit
  dsimp only
  split
  · exact ((h.l1dDrop ..).setL2 ..).ctxBusWrite ..
  · exact ((h.l1dDrop ..).setL2 ..).logLine ..

theorem performStore (h : Steady s t) (u : Nat) (e : SbEntry) : Steady s (t.performStore u e) := by
  have hr := h.clearResv (domOf u) (e.addr / 64) (some e.ctx)
  have ho := hr.ctxBusWrite e.ctx e.addr e.data
  have hl (hit : Bool) := (((hr.sideStore (domOf u) (e.addr / 64)).l2Check (domOf u) (e.addr / 64)).l2Lookup (domOf u) hit)
  unfold State.performStore
  dsimp only
  (repeat' split)
  · exact ho
  · exact ho.sideOwn ..
  · exact ho
  · exact (hl _).storeHit ..
  · exact ((hl _).busRead ..).ctxBusWrite ..
  · exact (((hl _).busRead ..).l2Alloc ..).logLine ..
  · exact (hl _).ctxBusWrite ..

theorem wakeAll (h : Steady s t) (xs : List Nat) (w : Wait) : Steady s (t.wakeAll xs w) :=
  h.foldl _ _ fun t x => by
    dsimp only
    split
    · exact (refl t).setCtx x rfl
    · exact refl t

end Steady

end Sys2Proof.Machine
end

section
/-! SUPPORT. What a drain and a write of CSR space leave in the store buffers (R22, R151). -/

namespace Sys2Proof.Machine

/-! ### A unit's store buffer drains (R151) -/

/-- The oldest entry leaves the buffer of its unit; every context keeps its core. -/
theorem State.sbDrain1_spec (s : State) (u : Nat) : ((s.sbDrain1 u).exe u).sb = (s.exe u).sb.tail ∧ ∀ x, ((s.sbDrain1 u).ctx x).core = (s.ctx x).core := by
  unfold State.sbDrain1
  dsimp only
  split
  · rename_i h
    rw [h]
    exact ⟨rfl, fun _ => rfl⟩
  · rename_i e l h
    have hs := ((Steady.refl (s.setExe u { s.exe u with sb := l })).performStore u e).wakeAll (ctxsOf u) .room
    exact ⟨by rw [hs.sb, State.exe_setExe_same, h]; rfl, hs.core⟩

theorem State.foldl_sbDrain1_spec {α : Type} (l : List α) (s : State) (u : Nat) :
    ((l.foldl (fun s _ => s.sbDrain1 u) s).exe u).sb = (s.exe u).sb.drop l.length ∧
      ∀ x, ((l.foldl (fun s _ => s.sbDrain1 u) s).ctx x).core = (s.ctx x).core := by
  induction l generalizing s with
  | nil => exact ⟨rfl, fun _ => rfl⟩
  | cons a l ih =>
    obtain ⟨hsb, hcore⟩ := s.sbDrain1_spec u
    obtain ⟨hsb', hcore'⟩ := ih (s.sbDrain1 u)
    refine ⟨?_, fun x => (hcore' x).trans (hcore x)⟩
    rw [List.foldl_cons, hsb', hsb, List.drop_tail, List.length_cons]

theorem State.sbDrain_sb (s : State) (u : Nat) : ((s.sbDrain u).exe u).sb = [] := by
  rw [State.sbDrain, (s.foldl_sbDrain1_spec (u := u) _).1, List.length_range, List.drop_length]

theorem State.sbDrain_core (s : State) (u x : Nat) : ((s.sbDrain u).ctx x).core = (s.ctx x).core := (s.foldl_sbDrain1_spec _ u).2 x

/-! ### A write of CSR space -/

theorem State.exe_of_execs {s t : State} (h : t.execs = s.execs) (u : Nat) : t.exe u = s.exe u := by rw [State.exe, h]; rfl

theorem oeCfgWrite_steady (u : Nat) (v : W64) (s : State) : Steady s (oeCfgWrite u v s) :=
  ((Steady.refl s).setReg ..).ite ((Steady.refl s).setRegBit ..)
theorem l2LockWrite_steady (d : Nat) (v : BitVec 32) (s : State) : Steady s (l2LockWrite d v s) :=
  ((Steady.refl s).setRegBit ..).ite ((Steady.refl s).setReg ..)
theorem l2Enable_steady (d : Nat) (s : State) : Steady s (l2Enable d s) := (Steady.refl s).setRegBit ..

theorem State.writeCaches_steady {s t : State} {a : Nat} {f : DbForm} {m w : W64} (h : s.writeCaches a f m w = some t) : Steady s t := by
  have hs := Steady.refl s
  unfold State.writeCaches at h
  extract_lets lo eng dom at h
  generalize eng 0 = cfg, eng 0x10 = l1, dom Reg.l2Ctl = ctl, dom Reg.l2Lock = lock, dom Reg.l2MopCmd = mop at h
  rw [Option.ite_none_left_eq_some] at h
  replace h := h.2
  rcases cfg with _ | u
  · rcases l1 with _ | u
    · rcases ctl with _ | d
      · rcases lock with _ | d
        · rcases mop with _ | d
          · cases h
          · cases h
            exact ((hs.mopGo ..).ite (hs.setReg ..)).ite hs
        · cases h
          exact (l2LockWrite_steady ..).ite hs
      · cases h
        exact hs.ite ((l2Enable_steady ..).ite (hs.l2Disable _))
    · cases h
      exact (hs.oeL1CtlWrite ..).ite hs
  · cases h
    exact oeCfgWrite_steady ..

/-- A write of CSR space moves no store into or out of a buffer. -/
theorem State.csrWrite_sb (s : State) (who : Requester) (a : Nat) (f : DbForm) (v : W64) (u : Nat) :
    ((s.csrWrite who a f v).exe u).sb = (s.exe u).sb := by
  have keep {t : State} (h : t.execs = s.execs) : (t.exe u).sb = (s.exe u).sb := congrArg Exec.sb (State.exe_of_execs h u)
  unfold State.csrWrite
  extract_lets m w
  split
  · rfl
  split
  · rename_i d _ t ht
    obtain ⟨o, ho, hot⟩ := List.exists_of_findSome?_eq_some ht
    subst hot
    simp only [List.mem_cons, List.not_mem_nil, or_false] at ho
    rcases ho with h | h | h | h | h | h | h | h
    · exact keep (State.writeDevice_execs _ _ _ _ _ _ _ h.symm)
    · exact (State.writeCaches_steady h.symm).sb u
    · exact keep (State.writeSpy_execs _ _ _ _ _ _ _ h.symm)
    · exact keep (State.writeOrr_execs _ _ _ _ _ _ _ h.symm)
    · exact keep (State.writeQueue_execs _ _ _ _ _ _ h.symm)
    · exact keep (State.writeAlm_execs _ _ _ _ _ h.symm)
    · exact keep (State.writeStream_execs _ _ _ _ _ _ _ h.symm)
    · exact keep (State.writeNet_execs _ _ _ _ _ _ h.symm)
  · exact keep (State.plainWrite_execs ..)

end Sys2Proof.Machine
end

section
/-! SUPPORT. Stores (R45–R47, R151): what a store does at memory, at a doorbell and in CSR space, and what its completion leaves. -/

namespace Sys2Proof.Machine

/-! ### What memory and the domains read from -/

/-- The address of a performance counter of an L2 or of an engine. -/
def IsPmc (a : Nat) : Prop := (∃ d n, n < 8 ∧ a = Reg.l2Pmc d n) ∨ ∃ u n, n < 16 ∧ a = Reg.oePmc u n

theorem l2Ctl_not_isPmc {d : Nat} (_ : d < 9) : ¬IsPmc (Reg.l2Ctl d) := by
  rintro (⟨e, n, hn, h⟩ | ⟨u, n, hn, h⟩)
  · unfold Reg.l2Ctl Reg.l2Pmc at h
    split at h <;> split at h <;> omega
  · unfold Reg.l2Ctl Reg.oePmc at h
    split at h <;> omega

theorem oeCfg_not_isPmc (u : Nat) : ¬IsPmc (Reg.oeCfg u) := by
  rintro (⟨e, n, hn, h⟩ | ⟨v, n, hn, h⟩)
  · unfold Reg.oeCfg Reg.l2Pmc at h
    split at h <;> omega
  · unfold Reg.oeCfg Reg.oePmc at h
    omega

/-- From `s` to `t` nothing has changed that a byte of memory or of a coherence domain is read from, and no register but performance counters. -/
structure SameSources (s t : State) : Prop where
  mem : t.mem = s.mem
  merge : t.merge = s.merge
  l2 : t.l2 = s.l2
  ctl : t.ctl = s.ctl
  reg : ∀ a, ¬IsPmc a → t.reg a = s.reg a

theorem SameSources.refl (s : State) : SameSources s s := ⟨rfl, rfl, rfl, rfl, fun _ _ => rfl⟩
theorem SameSources.trans {s t u : State} (h : SameSources s t) (k : SameSources t u) : SameSources s u :=
  ⟨k.mem.trans h.mem, k.merge.trans h.merge, k.l2.trans h.l2, k.ctl.trans h.ctl, fun a ha => (k.reg a ha).trans (h.reg a ha)⟩

theorem SameSources.setReg (s : State) {a : Nat} (v : W64) (ha : IsPmc a) : SameSources s (s.setReg a v) :=
  ⟨rfl, rfl, rfl, rfl, fun _ hb => State.reg_setReg_ne _ _ _ fun e => hb (e ▸ ha)⟩

theorem SameSources.sameBytes {s t : State} (h : SameSources s t) : s.sameBytes t := by
  have hpeek (a : Nat) : t.peek a = s.peek a := by rw [State.peek, State.peek, State.mergeAt, State.mergeAt, h.mem, h.merge]
  have hat (k : Nat) : t.l2At k = s.l2At k := by rw [State.l2At, State.l2At, h.l2]
  refine ⟨hpeek, fun d a hd => ?_⟩
  have hen : t.l2En d = s.l2En d := by rw [State.l2En, State.l2En, State.regBit, State.regBit, h.reg _ (l2Ctl_not_isPmc hd), h.ctl]
  have hway : t.l2Way d (a / 64) = s.l2Way d (a / 64) := by simp only [State.l2Way, hat]
  simp only [State.domByte, hen, hway, hat, hpeek]

theorem SameSources.classT {s t : State} (h : SameSources s t) (x : Nat) : t.classT x = s.classT x := by
  rw [State.classT, State.classT, State.regBit, State.regBit, h.reg _ (oeCfg_not_isPmc _)]

/-! ### An instruction of one word completes (R53, R60) -/

/-- The context behind an instruction of one word. -/
def Ctx.moved (c : Ctx) : Ctx :=
  { c with r := { c.r with pc := c.r.npc, npc := c.r.npc + 4, slot := false }, instret := c.instret + 1 }

theorem State.pmc_spec (s : State) (u : Nat) {n : Nat} (hn : n < 16) : SameSources s (s.pmc u n) ∧ (s.pmc u n).execs = s.execs ∧
    (s.pmc u n).ctxs = s.ctxs := by
  unfold State.pmc
  split
  · exact ⟨SameSources.setReg _ _ (.inr ⟨u, n, hn, rfl⟩), State.setReg_execs .., State.setReg_ctxs ..⟩
  · exact ⟨.refl s, rfl, rfl⟩

theorem State.finish_spec {s : State} {x : Nat} (hx : x < 2112) (he : (s.ctx x).epi.isNone = true) : SameSources s (s.finish x false) ∧
    (s.finish x false).execs = s.execs ∧ (s.finish x false).ctx x = (s.ctx x).moved ∧ ∀ y, y ≠ x → (s.finish x false).ctx y = s.ctx y := by
  have hadv : (s.advance x false).ctx x = { s.ctx x with r := (s.ctx x).moved.r } := State.ctx_setCtx_same _ _ _
  have hother {y : Nat} (hy : y ≠ x) : (s.advance x false).ctx y = s.ctx y := State.ctx_setCtx_ne _ _ _ hy
  have hset (c : Ctx) : SameSources s ((s.advance x false).setCtx x c) := ⟨rfl, rfl, rfl, rfl, fun _ _ => rfl⟩
  have hepi : ¬((s.advance x false).ctx x).epi.isSome = true := by
    rw [hadv]
    simpa using he
  have hfin : s.finish x false = ((s.advance x false).setCtx x (s.ctx x).moved).pmc (unitOf x) 2 := by
    rw [State.finish, if_neg (by omega), State.retire, if_neg hepi, hadv]
    rfl
  obtain ⟨hsame, hexecs, hctxs⟩ := ((s.advance x false).setCtx x (s.ctx x).moved).pmc_spec (unitOf x) (n := 2) (by decide)
  have hctx (y : Nat) : (s.finish x false).ctx y = ((s.advance x false).setCtx x (s.ctx x).moved).ctx y := by
    rw [hfin, State.ctx, hctxs]
    rfl
  refine ⟨hfin ▸ (hset _).trans hsame, hfin ▸ hexecs.trans rfl, ?_, fun y hy => ?_⟩
  · rw [hctx, State.ctx_setCtx_same]
  · rw [hctx, State.ctx_setCtx_ne _ _ _ hy, hother hy]

/-! ### A store enters the buffer of its unit (R151) -/

theorem State.sbPush_eq {s : State} {u : Nat} (h : (s.exe u).sb.length < 16) (e : SbEntry) :
    s.sbPush u e = (s.sideOwn u e.ctx (e.addr / 64)).setExe u
      { (s.sideOwn u e.ctx (e.addr / 64)).exe u with sb := ((s.sideOwn u e.ctx (e.addr / 64)).exe u).sb ++ [e] } := by
  unfold State.sbPush State.sbFull
  simp only [decide_eq_true_eq, Nat.not_le.2 h, if_false]

theorem State.sbPush_ne_nil (s : State) (u : Nat) (e : SbEntry) : ((s.sbPush u e).exe u).sb ≠ [] := by
  unfold State.sbPush
  rw [State.exe_setExe_same]
  exact List.append_ne_nil_of_right_ne_nil _ (List.cons_ne_nil _ _)

theorem State.sideOwn_spec (s : State) (u x line : Nat) : SameSources s (s.sideOwn u x line) ∧ (s.sideOwn u x line).ctxs = s.ctxs ∧
    ((s.sideOwn u x line).exe u).sb = (s.exe u).sb ∧ ∀ w, w ≠ u → (s.sideOwn u x line).exe w = s.exe w := by
  have hset (e : Exec) : SameSources s (s.setExe u e) := ⟨rfl, rfl, rfl, rfl, fun _ _ => rfl⟩
  refine ⟨?_, ?_, ((Steady.refl s).sideOwn u x line).sb u, fun w hw => ?_⟩
  all_goals
    unfold State.sideOwn
    dsimp only
    split
  · exact hset _
  · exact (hset _).trans (SameSources.setReg _ _ (.inl ⟨_, 6, by decide, rfl⟩))
  · rfl
  · rfl
  · exact State.exe_setExe_ne _ _ _ hw
  · exact State.exe_setExe_ne _ _ _ hw

theorem State.sbPush_spec {s : State} {u : Nat} (h : (s.exe u).sb.length < 16) (e : SbEntry) : SameSources s (s.sbPush u e) ∧
    (s.sbPush u e).ctxs = s.ctxs ∧ ((s.sbPush u e).exe u).sb = (s.exe u).sb ++ [e] ∧ ∀ w, w ≠ u → (s.sbPush u e).exe w = s.exe w := by
  obtain ⟨hsame, hctxs, hsb, hexe⟩ := s.sideOwn_spec u e.ctx (e.addr / 64)
  rw [State.sbPush_eq h]
  refine ⟨⟨hsame.mem, hsame.merge, hsame.l2, hsame.ctl, hsame.reg⟩, hctxs, ?_, fun w hw => ?_⟩
  · rw [State.exe_setExe_same, hsb]
  · rw [State.exe_setExe_ne _ _ _ hw, hexe w hw]

/-- A store with room in the buffer has completed. -/
theorem State.sbPush_finish_spec {s : State} {x : Nat} (hx : x < 2112) (he : (s.ctx x).epi.isNone = true) {u : Nat}
    (h : (s.exe u).sb.length < 16) (e : SbEntry) : let t := (s.sbPush u e).finish x false
    (t.exe u).sb = (s.exe u).sb ++ [e] ∧ s.sameBytes t ∧ s.keeps t x [] [] ∧ s.movedOn t x ∧ ∀ w, w ≠ u → t.exe w = s.exe w := by
  obtain ⟨hsame, hctxs, hsb, hexe⟩ := State.sbPush_spec h e
  have hctx (y : Nat) : (s.sbPush u e).ctx y = s.ctx y := by rw [State.ctx, hctxs]; rfl
  obtain ⟨hsame', hexecs, hown, hother⟩ := State.finish_spec (s := s.sbPush u e) hx (by rw [hctx]; exact he)
  have hexe' (w : Nat) := State.exe_of_execs hexecs w
  rw [hctx] at hown
  intro t
  refine ⟨by rw [hexe', hsb], (hsame.trans hsame').sameBytes, ⟨fun y hy => (hother y hy).trans (hctx y), ?_, ?_⟩, ?_, fun w hw => by rw [hexe', hexe w hw]⟩
  · unfold State.keepsRegs State.g State.f State.v State.p State.xcsr
    rw [hown, (hsame.trans hsame').classT]
    exact ⟨fun _ _ => rfl, fun _ _ _ => ⟨rfl, rfl⟩, fun _ _ => rfl, fun _ _ => rfl⟩
  · rw [hown]
    exact ⟨rfl, rfl, rfl, rfl, rfl, rfl, rfl, rfl, rfl, rfl, rfl, rfl, rfl, rfl⟩
  · unfold State.movedOn
    rw [hown]
    exact ⟨rfl, rfl, rfl, rfl⟩

/-! ### Where a store goes (R22, R78, R151, R263) -/

section
variable {s : State} {x : Nat} {a : W64} {l : List Byte} {p : Nat} {attr : Attr}

theorem State.region_of_memStatus {n : Nat} (h : s.memStatus p n = none) : s.region p ≠ some .bell ∧ s.region p ≠ some .csr := by
  unfold State.memStatus at h
  refine ⟨fun hr => ?_, fun hr => ?_⟩
  · rw [hr] at h
    cases he : s.region (p + n - 1) <;> simp [he, Region.isMem] at h
  · rw [hr] at h
    cases h

theorem State.l2Check_of_good {d line : Nat} (h : ∀ w, s.l2Way d line = some w → (s.l2At (l2Key d (line % l2Sets d) w)).ecc = .good) :
    s.l2Check d line = (s, false) := by
  unfold State.l2Check
  split
  · rfl
  · rename_i w hw
    dsimp only
    rw [h w hw]

theorem State.storeCheck_of_good {u : Nat}
    (h : ∀ w, s.l2Way (domOf u) (p / 64) = some w → (s.l2At (l2Key (domOf u) (p / 64 % l2Sets (domOf u)) w)).ecc = .good) :
    s.storeCheck u p attr = (s, false) := by
  unfold State.storeCheck
  split
  · exact State.l2Check_of_good h
  · rfl

section
variable (hn : a.toNat % l.length = 0) (hx : (s.xlate x .write a).2 = .ok (p, attr))
include hn hx

/-- At memory that the context may write the store enters the buffer. -/
theorem State.storeItem_mem (hm : (s.xlate x .write a).1.memStatus p l.length = none)
    (hs : (s.xlate x .write a).1.accessStatus x .write attr p l.length = none)
    (hg : ∀ w, (s.xlate x .write a).1.l2Way (domOf (unitOf x)) (p / 64) = some w →
      ((s.xlate x .write a).1.l2At (l2Key (domOf (unitOf x)) (p / 64 % l2Sets (domOf (unitOf x))) w)).ecc = .good) :
    s.storeItem x a l = .ok ((s.xlate x .write a).1.sbPush (unitOf x)
      { ctx := x, addr := p, data := l, attr := attr, bid := ((s.xlate x .write a).1.ctx x).bid }) := by
  obtain ⟨hbell, hcsr⟩ := State.region_of_memStatus hm
  unfold State.storeItem
  simp only [hn, hx, hs, State.storeCheck_of_good hg, ne_eq, not_true_eq_false, if_false, Bool.false_eq_true]

/-- At a doorbell the earlier stores are performed and the doorbell is rung. -/
theorem State.storeItem_bell {f : DbForm} (hr : (s.xlate x .write a).1.region p = some .bell) (hf : bellForm p l.length = some f) :
    let b := (s.xlate x .write a).1.sbDrain (unitOf x)
    let q := b.bellStore (b.bellBid x) (bellQid p) f (BitVec.ofNat 64 (leVal l)) (if isEng x then some (b.ctx x).job else none)
    q.2 = none → s.storeItem x a l = .ok q.1 := by
  intro b q hq
  unfold State.storeItem
  simp only [hn, hx, hr, hf, ne_eq, not_true_eq_false, if_false]
  rw [show (State.bellStore _ _ _ _ _ _).2 = none from hq]

/-- In CSR space the earlier stores are performed and the register is written. -/
theorem State.storeItem_csr {f : DbForm} (hr : (s.xlate x .write a).1.region p = some .csr) (hreach : (s.xlate x .write a).1.csrReach x = true)
    (hf : csrForm p (csrSizeOf l.length) = some f) : s.storeItem x a l = .ok (((s.xlate x .write a).1.sbDrain (unitOf x)).csrWrite
      (.core (Fin.ofNat 64 (x - 2048))) (p / 8 * 8) f (BitVec.ofNat 64 (leVal l))) := by
  unfold State.storeItem
  simp only [hn, hx, hr, hf, hreach, ne_eq, not_true_eq_false, if_false, Bool.not_true, Bool.false_eq_true]

end
end

/-! ### Whether a store waits for room (R151) -/

theorem State.storeWait_of_room {s : State} {x : Nat} (h : (s.exe (unitOf x)).sb.length < 16) (t : State) : s.storeWait x true (.ok t) = .ok t := by
  simp [State.storeWait, State.sbFull, Nat.not_le.2 h]

theorem State.storeWait_of_drained {t : State} {x : Nat} (h : (t.exe (unitOf x)).sb = []) (s : State) : s.storeWait x true (.ok t) = .ok t := by
  simp [State.storeWait, h]

theorem State.storeWait_of_full {s t : State} {x : Nat} (h : 16 ≤ (s.exe (unitOf x)).sb.length) (ht : (t.exe (unitOf x)).sb ≠ []) :
    s.storeWait x true (.ok t) = .block .room := by
  simp [State.storeWait, State.sbFull, h, ht]

end Sys2Proof.Machine
end

section
/-! SUPPORT. The scalar stores (R45, R47): each is one access with its bytes, and the obligation of the stores. -/

namespace Sys2Proof.Machine

/-! ### The bytes and the size of a store -/

theorem leBytes_eq_map (n m : Nat) : leBytes n m = (List.range n).map fun k => BitVec.ofNat 8 (m / 256 ^ k) := by
  induction n generalizing m with
  | zero => rfl
  | succ n ih =>
    rw [leBytes, ih, List.range_succ_eq_map, List.map_cons, List.map_map, Nat.pow_zero, Nat.div_one]
    congr 2
    funext k
    rw [Function.comp_apply, Nat.pow_succ', Nat.div_div_eq_div_mul]

theorem leBytes_toNat (n : Nat) (v : W64) : leBytes n v.toNat = (List.range n).map fun k => v.extractLsb' (8 * k) 8 := by
  rw [leBytes_eq_map]
  congr 1
  funext k
  rw [BitVec.extractLsb', Nat.shiftRight_eq_div_pow, Nat.pow_mul]

/-- The op of a store that R45 assigns. -/
abbrev IsStoreOp (op : Nat) : Prop := op ≤ 3 ∨ op = 8 ∨ op = 9

theorem IsStoreOp.opSize_eq {op : Nat} (h : IsStoreOp op) : opSize op = if op = 0 then 1 else if op = 1 then 2 else if op = 2 ∨ op = 9 then 4 else 8 := by
  have : op = 0 ∨ op = 1 ∨ op = 2 ∨ op = 3 ∨ op = 8 ∨ op = 9 := by unfold IsStoreOp at h; omega
  rcases this with rfl | rfl | rfl | rfl | rfl | rfl <;> rfl

theorem State.storeData_eq (s : State) (x op : Nat) (rt : Reg5) :
    s.storeData x op rt = (List.range (opSize op)).map fun k => (if 8 ≤ op then s.f x rt.toNat else s.g x rt.toNat).extractLsb' (8 * k) 8 :=
  leBytes_toNat _ _

theorem State.length_storeData (s : State) (x op : Nat) (rt : Reg5) : (s.storeData x op rt).length = opSize op := length_leBytes _ _

/-! ### The forms of a store -/

/-- The effect of a store by its op, at the address that a state gives. -/
def storeBody (x op : Nat) (rt : Reg5) (ea : State → W64) (s : State) : Eff := s.storeWait x true (s.storeItem x (ea s) (s.storeData x op rt))

/-- A command issues as a store of an op. -/
def IssuesStore (c : Instr) (x op : Nat) (rt : Reg5) (ea : State → W64) : Prop :=
  IsStoreOp op ∧ ∃ sg : Sig, sg.prof = profKE ∧ sg.noSlot = false ∧ sg.wide = false ∧ ∀ s, exec c s = .next (issue x sg (storeBody x op rt ea) s)

/-- The address of an M-format store (R45). -/
def State.mAddr (s : State) (x op : Nat) (rb : Reg5) (disp : BitVec 12) : W64 := s.g x rb.toNat + dispOf disp (opSize op)

theorem storeM_issues {c : Instr} {x : CtxId} {op : Nat} {rt rb : Reg5} {disp : BitVec 12} (hop : IsStoreOp op)
    (hc : ∀ s, exec c s = storeM x op rt rb disp s) : IssuesStore c (ctxIdx x) op rt fun s => s.mAddr (ctxIdx x) op rb disp :=
  ⟨hop, { word := encM 0x11 rt rb op disp, srcs := [lg rb, loadLoc op rt], tsrcs := some [lg rb], ra := .noEffect }, rfl, rfl, rfl, fun s => hc s⟩

theorem indexedStore_issues (x : CtxId) {op : BitVec 4} (sc : BitVec 2) (rt rb ri : Reg5) (h : op.toNat ≤ 3 ∨ op = 8 ∨ op = 9) :
    IssuesStore (.indexedStore x op sc rt rb ri) (ctxIdx x) op.toNat rt fun s => s.ixAddr (ctxIdx x) sc rb ri := by
  have hop : storeOp? op.toNat = true := by
    rcases h with h | rfl | rfl
    · simp [storeOp?, h]
    · rfl
    · rfl
  refine ⟨by rcases h with h | rfl | rfl <;> simp [IsStoreOp, *],
    { word := encIx true op sc rt rb ri, srcs := [lg rb, lg ri, loadLoc op.toNat rt], tsrcs := some [lg rb, lg ri], ra := .noEffect },
    rfl, rfl, rfl, fun s => ?_⟩
  show execIndexedStore x op sc rt rb ri s = _
  unfold execIndexedStore
  simp only [hop]
  rfl

/-! ### What a store does -/

section
variable {x op : Nat} {rt : Reg5} {ea : State → W64} {c : Instr} {s : State}

/-- A store that completes. -/
theorem IssuesStore.exec_ok (hc : IssuesStore c x op rt ea) (hi : s.canIssue x profKE false false = true) {u : State}
    (h : storeBody x op rt ea (s.start x false) = .ok u) : exec c s = .next (u.finish x false) := by
  obtain ⟨-, sg, hprof, hslot, hwide, hexec⟩ := hc
  rw [hexec, issue_ok (by rw [hprof, hslot, hwide]; exact hi) (by rw [hwide]; exact h), hwide]

theorem State.canIssue_lt (hi : s.canIssue x profKE false false = true) : x < 2112 := by
  by_contra hx
  obtain ⟨-, -, -, h⟩ := State.canIssue_sieve hi (Nat.not_lt.1 hx)
  cases h

/-- A store that finds no room. -/
theorem IssuesStore.exec_block (hc : IssuesStore c x op rt ea) (hi : s.canIssue x profKE false false = true)
    (h : storeBody x op rt ea (s.start x false) = .block .room) : exec c s = .next (s.waitFor x .waitMem .room) := by
  obtain ⟨-, sg, hprof, hslot, hwide, hexec⟩ := hc
  rw [hexec, issue, issueWith_block (by rw [hprof, hslot, hwide]; exact hi) (Nat.not_le.2 (State.canIssue_lt hi)) (by rw [hwide]; exact h)]

/-- The context is in no episode when its store starts. -/
theorem State.epi_start (hi : s.canIssue x profKE false false = true) (k : XKind) (a : W64) :
    ((((s.start x false).xlate x k a).1).ctx x).epi.isNone = true := by
  have hcore := (((Steady.refl s).start x false).xlate x k a).core x
  obtain ⟨-, hepi, -⟩ := State.canIssue_unit hi (Nat.not_le.2 (State.canIssue_lt hi))
  have := congrArg (·.2.2.2) hcore
  simpa [Ctx.core, hepi] using this

/-- What the state behind the translation of a store keeps of the one before it. -/
theorem State.xlate_start_sb (s : State) (x : Nat) (k : XKind) (a : W64) (u : Nat) : ((s.xlate x k a).1.exe u).sb = (s.exe u).sb :=
  ((Steady.refl s).xlate x k a).sb u

/-- What a store does at memory, at a doorbell and in CSR space. -/
theorem IssuesStore.spec (hc : IssuesStore c x op rt ea) (hi : s.canIssue x profKE false false = true) {a : W64} (ha : ea (s.start x false) = a)
    {n : Nat} (hop : opSize op = n) {data : List Byte} (hdata : (s.start x false).storeData x op rt = data) : let un := unitOf x
    let d := domOf un
    let t := s.start x false
    let q := t.xlate x .write a
    ∀ p attr, a.toNat % n = 0 → q.2 = .ok (p, attr) →
      let e : SbEntry := { ctx := x, addr := p, data := data, attr := attr, bid := (q.1.ctx x).bid }
      (q.1.memStatus p n = none → q.1.accessStatus x .write attr p n = none →
        (∀ w, q.1.l2Way d (p / 64) = some w → (q.1.l2At (l2Key d (p / 64 % l2Sets d) w)).ecc = .good) →
        ((t.exe un).sb.length < 16 →
          ∃ u, exec c s = .next u ∧ (u.exe un).sb = (q.1.exe un).sb ++ [e] ∧ q.1.sameBytes u ∧ q.1.keeps u x [] [] ∧ q.1.movedOn u x ∧
            ∀ w, w ≠ un → u.exe w = q.1.exe w) ∧
        (16 ≤ (t.exe un).sb.length → exec c s = .next (s.waitFor x .waitMem .room))) ∧
      (q.1.region p = some .bell → ∀ f, bellForm p n = some f →
        let r := (q.1.sbDrain un).bellStore (q.1.bellBid x) (bellQid p) f (BitVec.ofNat 64 (leVal data))
          (if isEng x then some ((q.1.sbDrain un).ctx x).job else none)
        r.2 = none → exec c s = .next (r.1.finish x false)) ∧
      (q.1.region p = some .csr → isEng x = false → (t.ctx x).priv ≠ .u → ∀ f, csrForm p (csrSizeOf n) = some f →
        exec c s = .next (((q.1.sbDrain un).csrWrite (.core (Fin.ofNat 64 (x - 2048))) (p / 8 * 8) f
          (BitVec.ofNat 64 (leVal data))).finish x false)) := by
  intro un d t q p attr hn hx e
  obtain rfl : data.length = n := by rw [← hdata, ← hop, State.length_storeData]
  have hbody : storeBody x op rt ea t = t.storeWait x true (t.storeItem x a data) := by rw [storeBody, ha, hdata]
  have hsb : (q.1.exe un).sb = (t.exe un).sb := t.xlate_start_sb x .write a un
  refine ⟨fun hm hs hg => ?_, fun hr f hf => ?_, fun hr he hp f hf => ?_⟩
  · rw [State.storeItem_mem hn hx hm hs hg] at hbody
    refine ⟨fun hroom => ?_, fun hfull => ?_⟩
    · rw [State.storeWait_of_room hroom] at hbody
      exact ⟨_, hc.exec_ok hi hbody, State.sbPush_finish_spec (State.canIssue_lt hi) (State.epi_start hi .write a) (by rw [hsb]; exact hroom) e⟩
    · rw [State.storeWait_of_full hfull (State.sbPush_ne_nil _ _ _)] at hbody
      exact hc.exec_block hi hbody
  · intro r hok
    have hbid : (q.1.sbDrain un).bellBid x = q.1.bellBid x := by
      have := congrArg (·.1) (q.1.sbDrain_core un x)
      unfold State.bellBid
      rw [show ((q.1.sbDrain un).ctx x).bid = (q.1.ctx x).bid from this]
    have hempty : (r.1.exe (unitOf x)).sb = [] := by
      rw [State.exe_of_execs (State.bellStore_execs ..)]
      exact State.sbDrain_sb _ _
    rw [State.storeItem_bell hn hx hr hf (by rw [hbid]; exact hok), hbid] at hbody
    rw [State.storeWait_of_drained hempty] at hbody
    exact hc.exec_ok hi hbody
  · have hpriv : (q.1.ctx x).priv = (t.ctx x).priv := congrArg (·.2.2.1) (((Steady.refl t).xlate x .write a).core x)
    have hreach : q.1.csrReach x = true := by simpa [State.csrReach, he, hpriv] using hp
    rw [State.storeItem_csr hn hx hr hreach hf, State.storeWait_of_drained (by rw [State.csrWrite_sb]; exact State.sbDrain_sb _ _)] at hbody
    exact hc.exec_ok hi hbody

end

end Sys2Proof.Machine

namespace Sys2Proof
open Machine

/-- Settles O19: every form of a store is one access with its bytes, and what that access does depends on where it goes. -/
theorem storesEnterTheStoreBuffer : Obligations.StoresEnterTheStoreBuffer := by
  unfold Obligations.StoresEnterTheStoreBuffer
  intro x bop sc rt rb ri disp s hi i un d t at_ ix l hl
  obtain ⟨ea, hc, hea⟩ : ∃ ea, IssuesStore l.1 i l.2.1 rt ea ∧ ea t = l.2.2 := by
    rcases List.mem_append.1 hl with hl | hl
    · simp only [List.mem_cons, List.not_mem_nil, or_false] at hl
      rcases hl with rfl | rfl | rfl | rfl | rfl | rfl
      all_goals exact ⟨_, storeM_issues (by simp [IsStoreOp]) fun _ => rfl, rfl⟩
    · split at hl
      · rename_i hop
        obtain rfl := List.mem_singleton.1 hl
        exact ⟨_, indexedStore_issues x sc rt rb ri hop, rfl⟩
      · cases hl
  exact hc.spec hi hea hc.1.opSize_eq (by rw [State.storeData_eq, hc.1.opSize_eq])

end Sys2Proof
end

section
/-! SUPPORT. Integer results (R41, R43): the arithmetic of the operations whose definition in the model differs in form from the rule. -/

namespace Sys2Proof.Machine

/-! ### Rotations, minima and maxima -/

theorem rotateLeft_eq_or (u : W64) {k : Nat} (h : k < 64) : u.rotateLeft k = (u <<< k) ||| (u >>> (64 - k)) := by
  rw [BitVec.rotateLeft_eq_rotateLeftAux_of_lt h]
  rfl
theorem rotateRight_eq_or (u : W64) {k : Nat} (h : k < 64) : u.rotateRight k = (u >>> k) ||| (u <<< (64 - k)) := by
  rw [BitVec.rotateRight_eq_rotateRightAux_of_lt h]
  rfl

theorem smin_eq (u v : W64) : smin u v = BitVec.ofInt 64 (min u.toInt v.toInt) := by
  unfold smin
  rw [BitVec.slt_eq_decide, min_def]
  split <;> split <;> simp_all [BitVec.ofInt_toInt] <;> exact BitVec.eq_of_toInt_eq (by omega)
theorem smax_eq (u v : W64) : smax u v = BitVec.ofInt 64 (max u.toInt v.toInt) := by
  unfold smax
  rw [BitVec.slt_eq_decide, max_def]
  split <;> split <;> simp_all [BitVec.ofInt_toInt] <;> exact BitVec.eq_of_toInt_eq (by omega)
theorem umin_eq (u v : W64) : umin u v = BitVec.ofNat 64 (min u.toNat v.toNat) := by
  unfold umin
  rw [BitVec.ult_eq_decide, min_def]
  split <;> split <;> simp_all [BitVec.ofNat_toNat] <;> exact BitVec.eq_of_toNat_eq (by omega)
theorem umax_eq (u v : W64) : umax u v = BitVec.ofNat 64 (max u.toNat v.toNat) := by
  unfold umax
  rw [BitVec.ult_eq_decide, max_def]
  split <;> split <;> simp_all [BitVec.ofNat_toNat] <;> exact BitVec.eq_of_toNat_eq (by omega)

/-! ### Counts of bits -/

theorem toNat_lt_pow_bitLen (u : W64) : u.toNat < 2 ^ bitLen u.toNat := by
  unfold bitLen
  split
  · simp_all
  · exact Nat.lt_log2_self
theorem bitLen_le (u : W64) : bitLen u.toNat ≤ 64 := by
  unfold bitLen
  split
  · exact Nat.zero_le _
  · rename_i h
    exact (Nat.log2_lt h).2 u.isLt
theorem pow_pred_bitLen_le {u : W64} (h : u ≠ 0) : 2 ^ (bitLen u.toNat - 1) ≤ u.toNat := by
  have h0 : u.toNat ≠ 0 := fun e => h (BitVec.eq_of_toNat_eq e)
  rw [bitLen, if_neg h0, Nat.add_sub_cancel]
  exact Nat.log2_self_le h0

theorem toNat_clz64 (u : W64) : (clz64 u).toNat = 64 - bitLen u.toNat := by
  rw [clz64, BitVec.toNat_ofNat, Nat.mod_eq_of_lt (by omega)]

/-- CLZ counts the leading zeros. -/
theorem clz64_spec (u : W64) :
    (clz64 u).toNat ≤ 64 ∧ u.toNat < 2 ^ (64 - (clz64 u).toNat) ∧ (u ≠ 0 → 2 ^ (63 - (clz64 u).toNat) ≤ u.toNat) := by
  have hle := bitLen_le u
  rw [toNat_clz64]
  refine ⟨Nat.sub_le _ _, ?_, fun h => ?_⟩
  · rw [show 64 - (64 - bitLen u.toNat) = bitLen u.toNat by omega]
    exact toNat_lt_pow_bitLen u
  · have hpos : bitLen u.toNat ≠ 0 := by
      intro e
      have := toNat_lt_pow_bitLen u
      rw [e] at this
      exact h (BitVec.eq_of_toNat_eq (by simpa using this))
    rw [show 63 - (64 - bitLen u.toNat) = bitLen u.toNat - 1 by omega]
    exact pow_pred_bitLen_le h

/-- CTZ counts the trailing zeros. -/
theorem ctz64_spec (u : W64) : (∀ n, n < (ctz64 u).toNat → u.getLsbD n = false) ∧ (u.getLsbD (ctz64 u).toNat = true ∨ (ctz64 u = 64 ∧ u = 0)) := by
  unfold ctz64 firstIdx
  cases hf : (List.range 64).find? (bitAt u) with
  | none =>
    have hclear : ∀ n, n < 64 → u.getLsbD n = false := by simpa [bitAt] using hf
    refine ⟨fun n hn => hclear n hn, .inr ⟨rfl, BitVec.eq_of_getLsbD_eq fun n hn => ?_⟩⟩
    rw [hclear n hn]
    exact BitVec.getLsbD_zero.symm
  | some k =>
    obtain ⟨hk, hmem, hbelow⟩ := List.find?_range_eq_some.1 hf
    have hlt : k < 64 := List.mem_range.1 hmem
    rw [Option.getD_some, BitVec.toNat_ofNat, Nat.mod_eq_of_lt (by omega)]
    exact ⟨fun n hn => by simpa [bitAt] using hbelow n hn, .inl hk⟩

theorem popc_eq_countP (u : W64) : popc 64 u.toNat = (List.range 64).countP fun n => u.getLsbD n :=
  List.countP_eq_length_filter.symm

/-! ### Bytes and extensions -/

/-- The byte of a number that bytes spell. -/
theorem leVal_div_mod (l : List Byte) (k : Nat) : leVal l / 256 ^ k % 256 = (l.getD k 0).toNat := by
  induction l generalizing k with
  | nil => simp [leVal]
  | cons b l ih =>
    have hb : b.toNat < 256 := b.isLt
    cases k with
    | zero => rw [leVal, Nat.pow_zero, Nat.div_one, List.getD_cons_zero]; omega
    | succ k =>
      rw [List.getD_cons_succ, ← ih, leVal, Nat.pow_succ', ← Nat.div_div_eq_div_mul]
      congr 2
      omega

/-- BSWAP turns the bytes round. -/
theorem bswap64_spec (u : W64) {n : Nat} (hn : n < 8) : (bswap64 u).extractLsb' (8 * n) 8 = u.extractLsb' (8 * (7 - n)) 8 := by
  have hlen : (leBytes 8 u.toNat).reverse.length = 8 := by rw [List.length_reverse, length_leBytes]
  refine BitVec.eq_of_toNat_eq ?_
  rw [BitVec.extractLsb'_toNat, Nat.shiftRight_eq_div_pow, bswap64, BitVec.toNat_ofNat, Nat.pow_mul]
  have hget : (leBytes 8 u.toNat).reverse.getD n 0 = u.extractLsb' (8 * (7 - n)) 8 := by
    rw [leBytes_toNat, List.getD_eq_getElem?_getD, List.getElem?_reverse (by simpa using hn), List.length_map, List.length_range,
      List.getElem?_map, List.getElem?_range (by omega), Option.map_some, Option.getD_some, show 8 - 1 - n = 7 - n by omega]
  have hmod : leVal (leBytes 8 u.toNat).reverse % 2 ^ 64 / (2 ^ 8) ^ n % 2 ^ 8 = leVal (leBytes 8 u.toNat).reverse / 256 ^ n % 256 := by
    rw [show (2 : Nat) ^ 64 = 256 ^ n * 256 ^ (8 - n) by rw [← Nat.pow_add, Nat.add_sub_cancel' (Nat.le_of_lt hn)]; rfl,
      show (2 ^ 8) ^ n = 256 ^ n from rfl, Nat.mod_mul_right_div_self]
    exact Nat.mod_mod_of_dvd _ (dvd_pow_self 256 (by omega))
  rw [hmod, leVal_div_mod, hget]

theorem setWidth_setWidth_eq_and (u : W64) (n : Nat) : (u.setWidth n).setWidth 64 = u &&& BitVec.ofNat 64 (2 ^ n - 1) := by
  refine BitVec.eq_of_getLsbD_eq fun i hi => ?_
  rw [BitVec.getLsbD_setWidth, BitVec.getLsbD_setWidth, BitVec.getLsbD_and, BitVec.getLsbD_ofNat, Nat.testBit_two_pow_sub_one]
  simp [hi, Bool.and_comm]

/-- A half above another. -/
theorem append_low_eq_or (h : BitVec 32) (u : W64) : h ++ u.setWidth 32 = (u &&& (0xFFFFFFFF : W64)) ||| (h.setWidth 64 <<< 32) := by
  refine BitVec.eq_of_getLsbD_eq fun i hi => ?_
  rw [show (0xFFFFFFFF : W64) = BitVec.ofNat 64 (2 ^ 32 - 1) from rfl, ← setWidth_setWidth_eq_and u _]
  rw [BitVec.getLsbD_append, BitVec.getLsbD_or, BitVec.getLsbD_shiftLeft, BitVec.getLsbD_setWidth, BitVec.getLsbD_setWidth, BitVec.getLsbD_setWidth]
  by_cases hlo : i < 32
  · simp [hlo, hi]
  · simp [hlo, hi, show i - 32 < 64 by omega]

/-! ### The register forms (R41, R43) -/

section
variable {x : CtxId} {prof : Prof} {w : BitVec 32} {rd a b : Reg5} {s : State}

/-- A form of two sources completes with its result. -/
theorem gOp_next (fn : W64 → W64 → W64) (h : s.canIssue (ctxIdx x) prof false false = true) : let t := s.start (ctxIdx x) false
    gOp x prof w rd a b fn s = (t.setG (ctxIdx x) rd.toNat (fn (t.g (ctxIdx x) a.toNat) (t.g (ctxIdx x) b.toNat))).finish (ctxIdx x) false :=
  issue_ok h rfl

/-- A form of one source, or of one source and an immediate, completes with its result. -/
theorem gOp1_next (fn : W64 → W64) (h : s.canIssue (ctxIdx x) prof false false = true) : let t := s.start (ctxIdx x) false
    gOp1 x prof w rd a fn s = (t.setG (ctxIdx x) rd.toNat (fn (t.g (ctxIdx x) a.toNat))).finish (ctxIdx x) false :=
  issue_ok h rfl

/-- An X-format form completes with its result. -/
theorem gOpX_next (fn : W64 → W64) (h : s.canIssue (ctxIdx x) profKES true true = true) : let t := s.start (ctxIdx x) true
    gOpX x w rd a fn s = (t.setG (ctxIdx x) rd.toNat (fn (t.g (ctxIdx x) a.toNat))).finish (ctxIdx x) true :=
  issue_ok h rfl

/-- A command of such a form answers what its form does, with the result spelled as its rule has it. -/
theorem exec_gOp {c : Instr} {fn : W64 → W64 → W64} (hc : exec c s = .next (gOp x prof w rd a b fn s)) (h : s.canIssue (ctxIdx x) prof false false = true)
    {r : W64} (hr : fn ((s.start (ctxIdx x) false).g (ctxIdx x) a.toNat) ((s.start (ctxIdx x) false).g (ctxIdx x) b.toNat) = r) :
    exec c s = .next (((s.start (ctxIdx x) false).setG (ctxIdx x) rd.toNat r).finish (ctxIdx x) false) := by
  rw [hc, gOp_next fn h, hr]
theorem exec_gOp1 {c : Instr} {fn : W64 → W64} (hc : exec c s = .next (gOp1 x prof w rd a fn s)) (h : s.canIssue (ctxIdx x) prof false false = true)
    {r : W64} (hr : fn ((s.start (ctxIdx x) false).g (ctxIdx x) a.toNat) = r) :
    exec c s = .next (((s.start (ctxIdx x) false).setG (ctxIdx x) rd.toNat r).finish (ctxIdx x) false) := by
  rw [hc, gOp1_next fn h, hr]
theorem exec_gOpX {c : Instr} {fn : W64 → W64} (hc : exec c s = .next (gOpX x w rd a fn s)) (h : s.canIssue (ctxIdx x) profKES true true = true)
    {r : W64} (hr : fn ((s.start (ctxIdx x) true).g (ctxIdx x) a.toNat) = r) :
    exec c s = .next (((s.start (ctxIdx x) true).setG (ctxIdx x) rd.toNat r).finish (ctxIdx x) true) := by
  rw [hc, gOpX_next fn h, hr]

/-- A conditional move writes just if its test holds. -/
theorem exec_cmov {c : Instr} (test : W64 → Prop) [DecidablePred test] (h : s.canIssue (ctxIdx x) profKES false false = true)
    (hc : exec c s = .next (issue (ctxIdx x) { word := w, prof := profKES, srcs := [lg a, lg b, lg rd], dsts := [lg rd] } (fun s =>
      .ok (if test (s.g (ctxIdx x) b.toNat) then s.setG (ctxIdx x) rd.toNat (s.g (ctxIdx x) a.toNat) else s)) s)) :
    let t := s.start (ctxIdx x) false
    exec c s = .next (if test (t.g (ctxIdx x) b.toNat) then (t.setG (ctxIdx x) rd.toNat (t.g (ctxIdx x) a.toNat)).finish (ctxIdx x) false
      else t.finish (ctxIdx x) false) := by
  intro t
  rw [hc]
  split
  · rename_i ht
    exact congrArg _ (issue_ok h (congrArg Eff.ok (if_pos ht)))
  · rename_i ht
    exact congrArg _ (issue_ok h (congrArg Eff.ok (if_neg ht)))

end

theorem ofBool64_decide (p : Prop) [Decidable p] : ofBool64 (decide p) = if p then 1 else 0 := by simp [ofBool64]

end Sys2Proof.Machine

namespace Sys2Proof
open Machine

/-- Settles O6: each form answers what its result says. -/
theorem integerAndImmediateResults : Obligations.IntegerAndImmediateResults := by
  unfold Obligations.IntegerAndImmediateResults
  refine ⟨?_, ?_, ?_⟩
  · intro x rd a b s h i t u v k k32 one sx u32 v32 w
    have hk : k < 64 := Nat.mod_lt _ (by decide)
    refine ⟨exec_gOp rfl h rfl, exec_gOp rfl h rfl, exec_gOp rfl h rfl, exec_gOp rfl h rfl, exec_gOp rfl h rfl, exec_gOp rfl h rfl,
      exec_gOp rfl h rfl, exec_gOp rfl h rfl, exec_gOp rfl h rfl, exec_gOp rfl h rfl, exec_gOp rfl h rfl,
      exec_gOp rfl h (rotateLeft_eq_or u hk), exec_gOp rfl h (rotateRight_eq_or u hk), exec_gOp rfl h rfl, exec_gOp rfl h rfl,
      exec_gOp rfl h rfl, exec_gOp rfl h rfl, exec_gOp rfl h rfl, exec_gOp rfl h rfl, exec_gOp rfl h (smin_eq u v), exec_gOp rfl h (smax_eq u v),
      exec_gOp rfl h (umin_eq u v), exec_gOp rfl h (umax_eq u v), exec_gOp rfl h rfl, exec_gOp rfl h rfl, exec_gOp rfl h rfl,
      exec_gOp rfl h rfl, exec_gOp rfl h rfl, ?_, ?_⟩
    · exact (exec_cmov (· ≠ 0) h rfl).trans ((apply_ite _ _ _ _).trans (ite_not _ _ _))
    · exact (exec_cmov (· = 0) h rfl).trans (apply_ite _ _ _ _)
  · intro x rd a s h i t u w
    refine ⟨⟨_, exec_gOp1 rfl h rfl, clz64_spec u⟩, ⟨_, exec_gOp1 rfl h rfl, ctz64_spec u⟩, exec_gOp1 rfl h (congrArg _ (popc_eq_countP u)),
      ⟨_, exec_gOp1 rfl h rfl, fun n hn => bswap64_spec u hn⟩, exec_gOp1 rfl h rfl, exec_gOp1 rfl h rfl, exec_gOp1 rfl h rfl,
      exec_gOp1 rfl h (setWidth_setWidth_eq_and u _), exec_gOp1 rfl h (setWidth_setWidth_eq_and u _)⟩
  · intro x rd a imm n imm32 s
    refine ⟨?_, ?_, ?_⟩
    · intro h i t u m w
      refine ⟨exec_gOp1 rfl h rfl, exec_gOp1 rfl h rfl, exec_gOp1 rfl h rfl, exec_gOp1 rfl h rfl, exec_gOp1 rfl h ?_, exec_gOp1 rfl h ?_,
        exec_gOp1 rfl h rfl, exec_gOp1 rfl h rfl, exec_gOp1 rfl h rfl, exec_gOp1 rfl h (rotateRight_eq_or u n.isLt), exec_gOp1 rfl h rfl⟩
      · exact ofBool64_decide _
      · exact ofBool64_decide _
    · intro h i t
      refine exec_gOp1 rfl h ?_
      simp only [i, t]
    · intro h i t u m w
      refine ⟨exec_gOpX rfl h rfl, exec_gOpX rfl h (append_low_eq_or imm32 u), exec_gOpX rfl h rfl, exec_gOpX rfl h rfl, exec_gOpX rfl h rfl,
        exec_gOpX rfl h rfl, exec_gOpX rfl h ?_, exec_gOpX rfl h ?_⟩
      · exact ofBool64_decide _
      · exact ofBool64_decide _


end Sys2Proof
end

section
/-! Scalar accesses that are misaligned (R46): a load or store whose address is not a multiple of its size traps before anything is translated. -/

namespace Sys2Proof.Machine

/-! ### The forms of a load (R45, R47) -/

/-- A command issues as a scalar load of an op, which names itself `o` with word `w` while it waits. -/
def IssuesLoad (c : Instr) (x op : Nat) (rt : Reg5) (ea : State → W64) (o : LoadOp) (w : BitVec 32) : Prop :=
  ∃ (sg : Sig) (ld : State → LoadOp → RaLoad), sg.prof = profKE ∧ sg.noSlot = false ∧ sg.wide = false ∧
    ∀ s, exec c s = .next (issueWith x sg (fun s => s.scalarLoad x op rt (ea s) o w false) ld s)

theorem loadM_issues {c : Instr} {x : CtxId} {op : Nat} {rt rb : Reg5} {disp : BitVec 12} (hc : ∀ s, exec c s = loadM x op rt rb disp s) :
    IssuesLoad c (ctxIdx x) op rt (fun s => s.mAddr (ctxIdx x) op rb disp) (.m (BitVec.ofNat 4 op) rt rb disp) (encM 0x10 rt rb op disp) :=
  ⟨loadSig (encM 0x10 rt rb op disp) op rt [lg rb] (.m (BitVec.ofNat 4 op) rt rb disp), _, rfl, rfl, rfl, fun s => hc s⟩

theorem loadOp?_of_assigned {op : BitVec 4} (h : ¬(op = 7 ∨ 9 < op.toNat)) : loadOp? op.toNat = true := by
  have h7 : op.toNat ≠ 7 := fun e => h (.inl (BitVec.eq_of_toNat_eq e))
  have h9 : op.toNat ≤ 9 := Nat.not_lt.1 fun e => h (.inr e)
  have : op.toNat ≤ 6 ∨ op.toNat = 8 ∨ op.toNat = 9 := by omega
  simpa [loadOp?, or_assoc] using this

theorem indexedLoad_issues (x : CtxId) {op : BitVec 4} (sc : BitVec 2) (rt rb ri : Reg5) (h : ¬(op = 7 ∨ 9 < op.toNat)) :
    IssuesLoad (.indexedLoad x op sc rt rb ri) (ctxIdx x) op.toNat rt (fun s => s.ixAddr (ctxIdx x) sc rb ri) (.ix op sc rt rb ri)
      (encIx false op sc rt rb ri) := by
  refine ⟨loadSig (encIx false op sc rt rb ri) op.toNat rt [lg rb, lg ri] (.ix op sc rt rb ri),
    fun s _ => s.scalarRa (ctxIdx x) op.toNat rt (s.ixAddr (ctxIdx x) sc rb ri) (!s.poisoned (ctxIdx x) (lg rb) && !s.poisoned (ctxIdx x) (lg ri)),
    rfl, rfl, rfl, fun s => ?_⟩
  show execIndexedLoad x op sc rt rb ri s = _
  unfold execIndexedLoad
  rw [loadOp?_of_assigned h]
  rfl

/-! ### Misaligned accesses -/

theorem trapAlign_status (a : W64) : (trapAlign a).status ≠ stWait := by
  show (0 : BitVec 16) ≠ stWait
  decide

section
variable {x op : Nat} {rt : Reg5} {ea : State → W64} {c : Instr} {s : State}

theorem IssuesLoad.exec_misaligned {o : LoadOp} {w : BitVec 32} (hc : IssuesLoad c x op rt ea o w) (hi : s.canIssue x profKE false false = true)
    (ha : (ea (s.start x false)).toNat % opSize op ≠ 0) : exec c s = .next ((s.start x false).takeTrap x (trapAlign (ea (s.start x false)))) := by
  obtain ⟨sg, ld, hprof, hslot, hwide, hexec⟩ := hc
  have hbody : (s.start x sg.wide).scalarLoad x op rt (ea (s.start x sg.wide)) o w false =
      .trap (s.start x false) (trapAlign (ea (s.start x false))) := by
    rw [hwide, State.scalarLoad, State.loadItem, if_pos ha]
  rw [hexec, issueWith_trap (by rw [hprof, hslot, hwide]; exact hi) (Nat.not_le.2 (State.canIssue_lt hi)) hbody (trapAlign_status _)]

theorem IssuesStore.exec_misaligned (hc : IssuesStore c x op rt ea) (hi : s.canIssue x profKE false false = true)
    (ha : (ea (s.start x false)).toNat % opSize op ≠ 0) : exec c s = .next ((s.start x false).takeTrap x (trapAlign (ea (s.start x false)))) := by
  obtain ⟨-, sg, hprof, hslot, hwide, hexec⟩ := hc
  have hbody : storeBody x op rt ea (s.start x sg.wide) = .trap (s.start x false) (trapAlign (ea (s.start x false))) := by
    rw [hwide, storeBody, State.storeItem, State.length_storeData, if_pos ha]
    rfl
  rw [hexec, issue_trap (by rw [hprof, hslot, hwide]; exact hi) (Nat.not_le.2 (State.canIssue_lt hi)) hbody (trapAlign_status _)]

end

/-- A command accesses memory by a load or a store of an op, at the address that a state gives. -/
def Accesses (c : Instr) (x op : Nat) (ea : State → W64) : Prop := (∃ rt o w, IssuesLoad c x op rt ea o w) ∨ ∃ rt, IssuesStore c x op rt ea

theorem loadM_accesses {c : Instr} {x : CtxId} (op : Nat) {rt rb : Reg5} {disp : BitVec 12} (hc : ∀ s, exec c s = loadM x op rt rb disp s) :
    Accesses c (ctxIdx x) op fun s => s.mAddr (ctxIdx x) op rb disp := .inl ⟨_, _, _, loadM_issues hc⟩
theorem storeM_accesses {c : Instr} {x : CtxId} (op : Nat) {rt rb : Reg5} {disp : BitVec 12} (hop : IsStoreOp op)
    (hc : ∀ s, exec c s = storeM x op rt rb disp s) : Accesses c (ctxIdx x) op fun s => s.mAddr (ctxIdx x) op rb disp :=
  .inr ⟨_, storeM_issues hop hc⟩

theorem Accesses.exec_misaligned {c : Instr} {x op : Nat} {ea : State → W64} {s : State} (hc : Accesses c x op ea)
    (hi : s.canIssue x profKE false false = true) {n : Nat} (hop : opSize op = n) {a : W64} (ha : ea (s.start x false) = a) (hn : a.toNat % n ≠ 0) :
    exec c s = .next ((s.start x false).takeTrap x (trapAlign a)) := by
  subst hop ha
  rcases hc with ⟨rt, o, w, hc⟩ | ⟨rt, hc⟩
  · exact hc.exec_misaligned hi hn
  · exact hc.exec_misaligned hi hn

end Sys2Proof.Machine

namespace Sys2Proof
open Machine

/-- Settles O20: every form issues as a load or as a store of its op, whose size the address must be a multiple of. -/
theorem misalignedAccessesTrap : Obligations.MisalignedAccessesTrap := by
  unfold Obligations.MisalignedAccessesTrap
  intro x bop sc rt rb ri disp s hi i t at_ ix size l hl hn
  obtain ⟨op, ea, hc, hop, ha⟩ : ∃ op ea, Accesses l.1 i op ea ∧ opSize op = l.2.1 ∧ ea t = l.2.2 := by
    rcases List.mem_append.1 hl with hl | hl
    · rcases List.mem_append.1 hl with hl | hl
      · simp only [List.mem_cons, List.not_mem_nil, or_false] at hl
        rcases hl with rfl | rfl | rfl | rfl | rfl | rfl | rfl | rfl | rfl | rfl | rfl | rfl
        · exact ⟨1, _, loadM_accesses 1 fun _ => rfl, rfl, rfl⟩
        · exact ⟨2, _, loadM_accesses 2 fun _ => rfl, rfl, rfl⟩
        · exact ⟨3, _, loadM_accesses 3 fun _ => rfl, rfl, rfl⟩
        · exact ⟨5, _, loadM_accesses 5 fun _ => rfl, rfl, rfl⟩
        · exact ⟨6, _, loadM_accesses 6 fun _ => rfl, rfl, rfl⟩
        · exact ⟨8, _, loadM_accesses 8 fun _ => rfl, rfl, rfl⟩
        · exact ⟨9, _, loadM_accesses 9 fun _ => rfl, rfl, rfl⟩
        · exact ⟨1, _, storeM_accesses 1 (by decide) fun _ => rfl, rfl, rfl⟩
        · exact ⟨2, _, storeM_accesses 2 (by decide) fun _ => rfl, rfl, rfl⟩
        · exact ⟨3, _, storeM_accesses 3 (by decide) fun _ => rfl, rfl, rfl⟩
        · exact ⟨8, _, storeM_accesses 8 (by decide) fun _ => rfl, rfl, rfl⟩
        · exact ⟨9, _, storeM_accesses 9 (by decide) fun _ => rfl, rfl, rfl⟩
      · split at hl
        · cases hl
        · rename_i hassigned
          obtain rfl := List.mem_singleton.1 hl
          exact ⟨_, _, .inl ⟨_, _, _, indexedLoad_issues x sc rt rb ri hassigned⟩, rfl, rfl⟩
    · split at hl
      · rename_i hassigned
        obtain rfl := List.mem_singleton.1 hl
        exact ⟨_, _, .inr ⟨_, indexedStore_issues x sc rt rb ri hassigned⟩, rfl, rfl⟩
      · cases hl
  exact hc.exec_misaligned hi hop ha hn

end Sys2Proof
end

section
/-! SUPPORT. What a lookup in the caches changes: demand reads, fills, evictions, walks and fetches change caches, memory controllers and their
registers, and of a context nothing but a machine check that an uncorrectable line leaves pending (R165). -/

namespace Sys2Proof.Machine

/-- The registers that caches and memory controllers write by themselves. -/
def IsCacheReg (a : Nat) : Prop := IsMcReg a ∨ IsPmc a ∨ ∃ d, a = Reg.l2Stat d ∨ a = Reg.l2Erraddr d

theorem isCacheReg_l2Pmc (d : Nat) {n : Nat} (hn : n < 8) : IsCacheReg (Reg.l2Pmc d n) := .inr (.inl (.inl ⟨d, n, hn, rfl⟩))
theorem isCacheReg_oePmc (u : Nat) {n : Nat} (hn : n < 16) : IsCacheReg (Reg.oePmc u n) := .inr (.inl (.inr ⟨u, n, hn, rfl⟩))
theorem isCacheReg_l2Stat (d : Nat) : IsCacheReg (Reg.l2Stat d) := .inr (.inr ⟨d, .inl rfl⟩)
theorem isCacheReg_l2Erraddr (d : Nat) : IsCacheReg (Reg.l2Erraddr d) := .inr (.inr ⟨d, .inr rfl⟩)

/-- A context but for a pending machine check. -/
def Ctx.sansAsync (c : Ctx) : Ctx := { c with async := none }
/-- A unit but for its turn and its L1 line sets. -/
def Exec.sansL1 (e : Exec) : Exec := { e with ptr := 0, l1i := [], l1d := [] }

/-- `t` is `s` after lookups in the caches; `tr` says whether they may have cached translations too. -/
structure CacheLook (tr : Bool) (s t : State) : Prop where
  eq : t = { s with free := t.free, csr := t.csr, mem := t.mem, merge := t.merge, ecc := t.ecc, ctxs := t.ctxs, execs := t.execs, l2 := t.l2,
                    tlb := t.tlb, orr := { s.orr with raised := t.orr.raised } }
  ctx : ∀ x, (t.ctx x).sansAsync = (s.ctx x).sansAsync
  exe : ∀ u, (t.exe u).sansL1 = (s.exe u).sansL1
  l1d : ∀ u, ∀ l ∈ ((t.exe u).l1d : List (Nat × Nat)), l ∈ ((s.exe u).l1d : List (Nat × Nat))
  reg : ∀ a, ¬IsCacheReg a → t.reg a = s.reg a
  tlb : tr = false → t.tlb = s.tlb

namespace CacheLook
variable {tr : Bool} {s t : State}

theorem refl (s : State) : CacheLook tr s s := ⟨rfl, fun _ => rfl, fun _ => rfl, fun _ _ h => h, fun _ _ => rfl, fun _ => rfl⟩
theorem trans {u : State} (h : CacheLook tr s t) (k : CacheLook tr t u) : CacheLook tr s u :=
  ⟨by have e := k.eq; rw [h.eq] at e; exact e, fun x => (k.ctx x).trans (h.ctx x), fun n => (k.exe n).trans (h.exe n),
    fun n l hl => h.l1d n l (k.l1d n l hl), fun a ha => (k.reg a ha).trans (h.reg a ha), fun e => (k.tlb e).trans (h.tlb e)⟩

theorem of_mcStep (h : McStep s t) : CacheLook tr s t := by
  have hctx (x : Nat) : t.ctx x = s.ctx x := by rw [h.eq]; rfl
  have hexe (u : Nat) : t.exe u = s.exe u := by rw [h.eq]; rfl
  exact ⟨by have := h.eq; rw [this], fun x => by rw [hctx], fun u => by rw [hexe], fun u l hl => by rwa [hexe] at hl,
    fun a ha => h.reg a fun hm => ha (.inl hm), fun _ => by rw [h.eq]⟩

theorem ite {c : Prop} [Decidable c] {u : State} (h : CacheLook tr s t) (k : CacheLook tr s u) : CacheLook tr s (if c then t else u) := by
  split
  · exact h
  · exact k

theorem foldl {α : Type} (h : CacheLook tr s t) (l : List α) (f : State → α → State) (hf : ∀ t x, CacheLook tr t (f t x)) :
    CacheLook tr s (l.foldl f t) := List.foldlRecOn (motive := CacheLook tr s) l f h fun t ht x _ => ht.trans (hf t x)

theorem setExe (h : CacheLook tr s t) (u : Nat) {e : Exec} (he : e.sansL1 = (t.exe u).sansL1)
    (hl : ∀ l ∈ (e.l1d : List (Nat × Nat)), l ∈ ((t.exe u).l1d : List (Nat × Nat))) : CacheLook tr s (t.setExe u e) := by
  refine h.trans ⟨rfl, fun _ => rfl, fun n => ?_, fun n => ?_, fun _ _ => rfl, fun _ => rfl⟩
  all_goals by_cases hn : n = u
  · rw [hn, State.exe_setExe_same, he]
  · rw [State.exe_setExe_ne _ _ _ hn]
  · rw [hn, State.exe_setExe_same]
    exact hl
  · rw [State.exe_setExe_ne _ _ _ hn]
    exact fun _ => id

theorem setCtx (h : CacheLook tr s t) (x : Nat) {c : Ctx} (hc : c.sansAsync = (t.ctx x).sansAsync) : CacheLook tr s (t.setCtx x c) := by
  refine h.trans ⟨rfl, fun y => ?_, fun _ => rfl, fun _ _ => id, fun _ _ => rfl, fun _ => rfl⟩
  by_cases hy : y = x
  · rw [hy, State.ctx_setCtx_same, hc]
  · rw [State.ctx_setCtx_ne _ _ _ hy]

theorem setReg (h : CacheLook tr s t) {a : Nat} (ha : IsCacheReg a) (v : W64) : CacheLook tr s (t.setReg a v) :=
  h.trans ⟨rfl, fun _ => rfl, fun _ => rfl, fun _ _ => id, fun _ hb => State.reg_setReg_ne _ _ _ fun e => hb (e ▸ ha), fun _ => rfl⟩
theorem raise (h : CacheLook tr s t) (n : Nat) : CacheLook tr s (t.raise n) :=
  h.trans ⟨rfl, fun _ => rfl, fun _ => rfl, fun _ _ => id, fun _ _ => rfl, fun _ => rfl⟩
theorem setL2 (h : CacheLook tr s t) (k : Nat) (l : L2Line) : CacheLook tr s (t.setL2 k l) :=
  h.trans ⟨rfl, fun _ => rfl, fun _ => rfl, fun _ _ => id, fun _ _ => rfl, fun _ => rfl⟩
theorem fresh (h : CacheLook tr s t) : CacheLook tr s t.fresh.2 :=
  h.trans ⟨rfl, fun _ => rfl, fun _ => rfl, fun _ _ => id, fun _ _ => rfl, fun _ => rfl⟩
theorem bump (h : CacheLook tr s t) {a : Nat} (ha : IsCacheReg a) : CacheLook tr s (t.bump a) := h.setReg ha _
theorem l2Pmc (h : CacheLook tr s t) (d : Nat) {n : Nat} (hn : n < 8) : CacheLook tr s (t.bump (Reg.l2Pmc d n)) := h.bump (isCacheReg_l2Pmc d hn)
theorem pmc (h : CacheLook tr s t) (u : Nat) {n : Nat} (hn : n < 16) : CacheLook tr s (t.pmc u n) := (h.bump (isCacheReg_oePmc u hn)).ite h
theorem busRead (h : CacheLook tr s t) (a n : Nat) (cls : BitVec 2) : CacheLook tr s (t.busRead a n cls).1 :=
  h.trans (of_mcStep (t.busRead_step a n cls))
theorem busWrite (h : CacheLook tr s t) (a : Nat) (l : List Byte) : CacheLook tr s (t.busWrite a l) := h.trans (of_mcStep (t.busWrite_step a l))

/-! ### The L2 and its error state (R149–R165) -/

theorem busWritePoison (h : CacheLook tr s t) (a : Nat) (l : List Byte) : CacheLook tr s (t.busWritePoison a l) :=
  (h.busWrite a l).foldl _ _ fun t cw => of_mcStep ((t.mergeDrain_step cw).setEcc cw .poison)

theorem l2Ue (h : CacheLook tr s t) (d line : Nat) (demand : Bool) : CacheLook tr s (t.l2Ue d line demand) := by
  have hreg : CacheLook tr s (((t.setRegBit (Reg.l2Stat d) 6 true).setReg (Reg.l2Erraddr d) (BitVec.ofNat 64 (line * 64))).raise d) :=
    ((h.setReg (isCacheReg_l2Stat d) _).setReg (isCacheReg_l2Erraddr d) _).raise d
  exact hreg.ite (hreg.foldl _ _ fun t x => (refl t).ite ((refl t).setCtx _ rfl))

theorem poisonLine (h : CacheLook tr s t) (d : Nat) (l : L2Line) (demand : Bool) : CacheLook tr s (t.poisonLine d l demand) :=
  (h.ite (h.busWritePoison ..)).l2Ue ..

theorem writeBack (h : CacheLook tr s t) (d : Nat) (l : L2Line) : CacheLook tr s (t.writeBack d l).1 := by
  have hb := h.l2Pmc d (n := 3) (by decide)
  have hw := hb.ite (c := l.ecc = .good) (hb.l2Pmc d (n := 7) (by decide))
  have hout (c : Prop) [Decidable c] (u : State) (hu : CacheLook tr s u) :
      CacheLook tr s (if c then (u.l2Ue d l.line false, false) else (u.busWrite (l.line * 64) (lineBytes l.data 0 64), true)).1 := by
    split <;> dsimp only
    · exact hu.l2Ue ..
    · exact hu.busWrite ..
  unfold State.writeBack
  dsimp only
  split
  · exact hout _ _ hw
  · exact hout _ _ hw
  · exact hb.poisonLine ..

theorem l1dDrop (h : CacheLook tr s t) (d line : Nat) (keep : Option Nat) : CacheLook tr s (t.l1dDrop d line keep) :=
  h.foldl _ _ fun t u => by
    dsimp only
    exact (((refl t).setExe u (by rfl) fun _ hl => List.mem_of_mem_filter hl).l2Pmc d (by decide)).ite (refl t)

theorem l2Lookup (h : CacheLook tr s t) (d : Nat) (hit : Bool) : CacheLook tr s (t.l2Lookup d hit) :=
  (h.l2Pmc d (by decide)).l2Pmc d (by cases hit <;> decide)

theorem l2Check (h : CacheLook tr s t) (d line : Nat) : CacheLook tr s (t.l2Check d line).1 := by
  unfold State.l2Check
  dsimp only
  split
  · exact h
  · split
    · exact h
    · exact (h.setL2 ..).l2Pmc d (by decide)
    · exact (((h.poisonLine ..).ite h).l1dDrop ..).setL2 ..

theorem l2Evict (h : CacheLook tr s t) (d k : Nat) : CacheLook tr s (t.l2Evict d k) := by
  unfold State.l2Evict
  exact h.ite ((((h.writeBack ..).ite h).l1dDrop ..).setL2 ..)

theorem l2Victim (h : CacheLook tr s t) (d line : Nat) (ways : List Nat) : CacheLook tr s (t.l2Victim d line ways).2 := by
  unfold State.l2Victim
  dsimp only
  split
  · exact h
  · split
    · exact h
    · exact h.fresh

theorem l2Alloc (h : CacheLook tr s t) (d line : Nat) (bid : BitVec 12) (data : Line) (dirty : Bool) :
    CacheLook tr s (t.l2Alloc d line bid data dirty) := by
  unfold State.l2Alloc
  have hv := h.l2Victim d line (t.fillWays d bid)
  split
  · exact h
  · dsimp only
    split
    · exact hv
    · exact (hv.l2Evict ..).setL2 ..

/-! ### Walks and translations (R70–R72) -/

theorem demandRead (h : CacheLook tr s t) (a n : Nat) (cls : BitVec 2) : CacheLook tr s (t.demandRead a n cls).1 := by
  unfold State.demandRead
  split
  · exact h
  · exact h.busRead ..

theorem walkRead (h : CacheLook tr s t) (x a : Nat) : CacheLook tr s (t.walkRead x a).1 := by
  have hq : CacheLook tr s (if t.l2En 8 then t.l2Check 8 (a / 64) else (t, false)).1 := by
    split
    · exact h.l2Check ..
    · exact h
  unfold State.walkRead
  split
  · exact h.fresh
  split
  · exact h
  dsimp only
  generalize (if t.l2En 8 then t.l2Check 8 (a / 64) else (t, false)) = q at hq
  have hl := (hq.l2Lookup 8 (q.1.l2Way 8 (a / 64)).isSome).ite (c := q.1.l2En 8 = true) hq
  generalize (if q.1.l2En 8 = true then q.1.l2Lookup 8 (q.1.l2Way 8 (a / 64)).isSome else q.1) = w at hl
  split
  · exact hq
  split
  · exact hl
  · exact hl.demandRead ..

theorem walk (k : Nat) (h : CacheLook tr s t) (x table lvl va : Nat) : CacheLook tr s (State.walk x k t table lvl va).1 := by
  induction k generalizing t table lvl with
  | zero => exact h
  | succ k ih =>
    have hr := h.walkRead x (table + 8 * (va / 2 ^ (12 + 9 * (3 - lvl)) % 512))
    unfold State.walk
    dsimp only
    split
    · exact hr
    (repeat' split)
    · exact hr
    · exact hr
    · exact hr
    · exact hr
    · exact ih hr _ _

theorem setTlb (h : CacheLook true s t) (l : Tab (List TlbEntry)) : CacheLook true s { t with tlb := l } :=
  h.trans ⟨rfl, fun _ => rfl, fun _ => rfl, fun _ _ => id, fun _ _ => rfl, nofun⟩

theorem xlateCore (h : CacheLook true s t) (x : Nat) (k : XKind) (a : W64) : CacheLook true s (t.xlateCore x k a).1 := by
  unfold State.xlateCore
  extract_lets c ptbr w u look v
  split
  · exact h
  split
  · exact h
  have hw : CacheLook true s w.1 := h.walk 4 x _ 0 _
  have hl : CacheLook true s look.1 := by
    unfold look
    split
    · exact h
    · split
      · exact hw
      · exact hw
      · split
        · exact hw
        · exact hw.setTlb _
  clear_value look
  split
  · exact hl
  · (repeat' split) <;> exact hl

theorem xlate (h : CacheLook true s t) (x : Nat) (k : XKind) (a : W64) : CacheLook true s (t.xlate x k a).1 := by
  unfold State.xlate
  split
  · exact h
  · exact h.xlateCore x k a

/-! ### The line of a fetch (R135) -/

theorem fetchLine (h : CacheLook tr s t) (x p : Nat) (at_ : Attr) : CacheLook tr s (t.fetchLine x p at_).1 := by
  have hq := h.l2Check (domOf (unitOf x)) (p / 64)
  have hl (hit : Bool) := hq.l2Lookup (domOf (unitOf x)) hit
  unfold State.fetchLine
  dsimp only
  (repeat' split) <;> dsimp only
  · exact h.demandRead ..
  · exact h.demandRead ..
  · exact hq
  · exact hl _
  · exact (hl _).demandRead ..
  · exact ((hl _).demandRead ..).l2Alloc ..

/-! ### What is read of the state behind a lookup -/

theorem pending (h : CacheLook tr s t) : t.pending = s.pending := by rw [h.eq]
theorem spy (h : CacheLook tr s t) : t.spy = s.spy := by rw [h.eq]
theorem alm (h : CacheLook tr s t) : t.alm = s.alm := by rw [h.eq]
theorem queues (h : CacheLook tr s t) : t.queues = s.queues := by rw [h.eq]
theorem booths (h : CacheLook tr s t) : t.booths = s.booths := by rw [h.eq]
theorem jobs (h : CacheLook tr s t) : t.jobs = s.jobs := by rw [h.eq]
theorem ctl (h : CacheLook tr s t) : t.ctl = s.ctl := by rw [h.eq]
theorem mer (h : CacheLook tr s t) : t.mer = s.mer := by rw [h.eq]
theorem thr (h : CacheLook tr s t) : t.orr.thr = s.orr.thr := by rw [h.eq]
theorem offer (h : CacheLook tr s t) : t.orr.offer = s.orr.offer := by rw [h.eq]

end CacheLook

/-! ### The fetch of an instruction -/

/-- A context but for a pending machine check, its instruction buffer and the time of its instruction. -/
def Ctx.sansFetch (c : Ctx) : Ctx := { c with async := none, lastTime := 0, ibuf := none }

theorem Ctx.sansFetch_of_sansAsync {c d : Ctx} (h : c.sansAsync = d.sansAsync) : c.sansFetch = d.sansFetch :=
  congrArg (fun e : Ctx => { e with lastTime := 0, ibuf := none }) h

/-- `t` is `s` after fetches of a context: lookups that fill its instruction buffer and note its time. -/
structure Fetched (x : Nat) (s t : State) : Prop where
  eq : t = { s with free := t.free, csr := t.csr, mem := t.mem, merge := t.merge, ecc := t.ecc, ctxs := t.ctxs, execs := t.execs, l2 := t.l2,
                    tlb := t.tlb, orr := { s.orr with raised := t.orr.raised } }
  own : (t.ctx x).sansFetch = (s.ctx x).sansFetch
  ctx : ∀ y, y ≠ x → (t.ctx y).sansAsync = (s.ctx y).sansAsync
  exe : ∀ u, (t.exe u).sansL1 = (s.exe u).sansL1
  l1d : ∀ u, ∀ l ∈ ((t.exe u).l1d : List (Nat × Nat)), l ∈ ((s.exe u).l1d : List (Nat × Nat))
  reg : ∀ a, ¬IsCacheReg a → t.reg a = s.reg a

namespace Fetched
variable {x : Nat} {s t : State}

theorem of_look {tr : Bool} (h : CacheLook tr s t) : Fetched x s t :=
  ⟨h.eq, Ctx.sansFetch_of_sansAsync (h.ctx x), fun y _ => h.ctx y, h.exe, h.l1d, h.reg⟩
theorem refl (s : State) : Fetched x s s := of_look (.refl (tr := true) s)
theorem trans {u : State} (h : Fetched x s t) (k : Fetched x t u) : Fetched x s u :=
  ⟨by have e := k.eq; rw [h.eq] at e; exact e, k.own.trans h.own, fun y hy => (k.ctx y hy).trans (h.ctx y hy),
    fun n => (k.exe n).trans (h.exe n), fun n l hl => h.l1d n l (k.l1d n l hl), fun a ha => (k.reg a ha).trans (h.reg a ha)⟩
theorem look {tr : Bool} {u : State} (h : Fetched x s t) (k : CacheLook tr t u) : Fetched x s u := h.trans (of_look k)
theorem ite {c : Prop} [Decidable c] {u : State} (h : Fetched x s t) (k : Fetched x s u) : Fetched x s (if c then t else u) := by
  split
  · exact h
  · exact k
theorem setOwn (h : Fetched x s t) {c : Ctx} (hc : c.sansFetch = (t.ctx x).sansFetch) : Fetched x s (t.setCtx x c) :=
  h.trans ⟨rfl, by rw [State.ctx_setCtx_same, hc], fun _ hy => by rw [State.ctx_setCtx_ne _ _ _ hy], fun _ => rfl, fun _ _ => id, fun _ _ => rfl⟩
theorem setIbuf (h : Fetched x s t) (b : Option Nat) : Fetched x s (t.setCtx x { t.ctx x with ibuf := b }) := h.setOwn rfl
theorem setLastTime (h : Fetched x s t) (n : Nat) : Fetched x s (t.setCtx x { t.ctx x with lastTime := n }) := h.setOwn rfl

theorem fetchAt (h : Fetched x s t) (a : W64) : Fetched x s (t.fetchAt x a).1 := by
  unfold State.fetchAt
  split
  · exact h
  extract_lets filled r u d
  have hr : CacheLook true t r.1 := (CacheLook.refl t).xlate x .fetch a
  have hfill {u : State} (hu : CacheLook true t u) : Fetched x s (filled u) := (h.look hu).setIbuf _
  clear_value filled r
  split
  · exact h.look hr
  split
  · exact h.look hr
  extract_lets line cached held q f e
  split
  · exact hfill hr
  have hq : CacheLook true t q.1 := ((hr.pmc u (n := 7) (by decide)).ite hr).fetchLine ..
  split
  · exact h.look hq
  split
  · exact hfill hq
  · exact hfill (hq.fresh.setExe u (by rfl) fun _ => id)

theorem fetch (h : Fetched x s t) (wide : Bool) : Fetched x s (t.fetch x wide).1 := by
  unfold State.fetch
  extract_lets pc r q
  have hr : Fetched x s r.1 := h.fetchAt pc
  have hq : Fetched x s q.1 := hr.fetchAt _
  clear_value q r
  split
  · exact hr
  split
  · exact hr
  split <;> exact hq

theorem turn (h : Fetched x s t) (y : Nat) : Fetched x s (t.turn y) :=
  h.look (((CacheLook.refl (tr := true) t).pmc (unitOf y) (n := 1) (by decide)).setExe (unitOf y) (by rfl) fun _ => id)

/-- The state in which an instruction's effect starts is the state after its fetch. -/
theorem start (h : Fetched x s t) (wide : Bool) : Fetched x s (t.start x wide) := by
  unfold State.start
  split
  · exact h
  · exact ((h.turn x).fetch wide).setLastTime 1

theorem ctx_sansFetch (h : Fetched x s t) (y : Nat) : (t.ctx y).sansFetch = (s.ctx y).sansFetch := by
  by_cases hy : y = x
  · rw [hy, h.own]
  · exact Ctx.sansFetch_of_sansAsync (h.ctx y hy)

/-- A fetch leaves the register state of every context. -/
theorem r (h : Fetched x s t) (y : Nat) : (t.ctx y).r = (s.ctx y).r := (congrArg Ctx.r (h.ctx_sansFetch y) :)
theorem sb (h : Fetched x s t) (u : Nat) : (t.exe u).sb = (s.exe u).sb := (congrArg Exec.sb (h.exe u) :)
theorem side (h : Fetched x s t) (u : Nat) : (t.exe u).side = (s.exe u).side := (congrArg Exec.side (h.exe u) :)

end Fetched

/-- Settles O9: a fetch is a chain of lookups, each of which keeps what the statement names. -/
theorem fetchKeepsTheRegisters : Obligations.FetchKeepsTheRegisters := by
  unfold Obligations.FetchKeepsTheRegisters
  intro s x wide t
  have h : Fetched x s t := (Fetched.refl s).start wide
  clear_value t
  have hub : t.pending = s.pending ∧ t.spy = s.spy ∧ t.alm = s.alm ∧ t.queues = s.queues ∧ t.booths = s.booths ∧ t.jobs = s.jobs ∧
      t.orr.thr = s.orr.thr := by
    rw [h.eq]
    exact ⟨rfl, rfl, rfl, rfl, rfl, rfl, rfl⟩
  refine ⟨h.ctx_sansFetch, fun y hy => ?_, fun u => ⟨h.sb u, h.side u, h.l1d u⟩, hub⟩
  exact ⟨(congrArg Ctx.lastTime (h.ctx y hy) :), (congrArg Ctx.ibuf (h.ctx y hy) :)⟩

end Sys2Proof.Machine
end

section
/-! SUPPORT. Control transfers: an instruction that an executed delay slot may not hold traps there (R54). -/

namespace Sys2Proof.Machine

/-- An instruction of a context that a delay slot may not hold: one word, or two. -/
def NoSlotOp (i : Nat) (wide : Bool) (c : Instr) : Prop :=
  ∃ (sg : Sig) (body : State → Eff), (∀ s, exec c s = .next (issue i sg body s)) ∧ sg.noSlot = true ∧ sg.wide = wide

theorem noSlotOp_branch (x : CtxId) (annul : Bool) (rs : Reg5) (off : BitVec 20) :
    ∀ c ∈ [Instr.beqz x annul rs off, .bnez x annul rs off, .bltz x annul rs off, .bgez x annul rs off, .bgtz x annul rs off,
      .blez x annul rs off, .br x annul off, .bl x annul off], NoSlotOp (ctxIdx x) false c := by
  simp only [List.forall_mem_cons]
  exact ⟨⟨_, _, fun _ => rfl, rfl, rfl⟩, ⟨_, _, fun _ => rfl, rfl, rfl⟩, ⟨_, _, fun _ => rfl, rfl, rfl⟩, ⟨_, _, fun _ => rfl, rfl, rfl⟩,
    ⟨_, _, fun _ => rfl, rfl, rfl⟩, ⟨_, _, fun _ => rfl, rfl, rfl⟩, ⟨_, _, fun _ => rfl, rfl, rfl⟩, ⟨_, _, fun _ => rfl, rfl, rfl⟩, List.forall_mem_nil _⟩

theorem noSlotOp_system (x : CtxId) (rd rs : Reg5) (imm : BitVec 16) :
    ∀ c ∈ [Instr.jalr x rd rs imm, .rett x, .ecall x, .brk x], NoSlotOp (ctxIdx x) false c := by
  simp only [List.forall_mem_cons]
  exact ⟨⟨_, _, fun _ => rfl, rfl, rfl⟩, ⟨_, _, fun _ => rfl, rfl, rfl⟩, ⟨_, _, fun _ => rfl, rfl, rfl⟩, ⟨_, _, fun _ => rfl, rfl, rfl⟩, List.forall_mem_nil _⟩

theorem noSlotOp_engine (x : CtxId) (annul : Bool) (rs : Reg5) (p : Pred3) (off : BitVec 20) :
    ∀ c ∈ [Instr.bpany x annul p off, .bpnone x annul p off, .jend x rs], NoSlotOp (ctxIdx x) false c := by
  simp only [List.forall_mem_cons]
  exact ⟨⟨_, _, fun _ => rfl, rfl, rfl⟩, ⟨_, _, fun _ => rfl, rfl, rfl⟩, ⟨_, _, fun _ => rfl, rfl, rfl⟩, List.forall_mem_nil _⟩

theorem noSlotOp_twoWords (x : CtxId) (rd rs : Reg5) (imm : BitVec 32) :
    ∀ c ∈ [Instr.xli x rd imm, .xlih x rd rs imm, .xaddi x rd rs imm, .xandi x rd rs imm, .xori32 x rd rs imm, .xxori x rd rs imm,
      .xslti x rd rs imm, .xsltiu x rd rs imm], NoSlotOp (ctxIdx x) true c := by
  simp only [List.forall_mem_cons]
  exact ⟨⟨_, _, fun _ => rfl, rfl, rfl⟩, ⟨_, _, fun _ => rfl, rfl, rfl⟩, ⟨_, _, fun _ => rfl, rfl, rfl⟩, ⟨_, _, fun _ => rfl, rfl, rfl⟩,
    ⟨_, _, fun _ => rfl, rfl, rfl⟩, ⟨_, _, fun _ => rfl, rfl, rfl⟩, ⟨_, _, fun _ => rfl, rfl, rfl⟩, ⟨_, _, fun _ => rfl, rfl, rfl⟩, List.forall_mem_nil _⟩

/-- A context at an executed delay slot with nothing in its way: outside run-ahead, with no machine check pending, its clock running and
no stage of its job faulted. -/
structure State.AtSlot (s : State) (x : Nat) : Prop where
  unit : ¬2112 ≤ x
  ready : (s.ctx x).st = .ready
  epi : (s.ctx x).epi = none
  async : (s.ctx x).async = none
  annul : (s.ctx x).r.annul = false
  slot : (s.ctx x).r.slot = true
  clock : s.stopped (domOf (unitOf x)) = false
  drain : (isEng x && (s.job (s.ctx x).job).live && (s.job (s.ctx x).job).fault.isSome) = false

theorem issue_atSlot {s : State} {x : Nat} {sg : Sig} (h : s.AtSlot x) (hn : sg.noSlot = true) {m : Bool}
    (hf : ((s.turn x).fetch x sg.wide).2 = .ok m) (body : State → Eff) :
    issue x sg body s = (((s.turn x).fetch x sg.wide).1).takeTrap x (trapSlot sg.word) := by
  have hslot : ((((s.turn x).fetch x sg.wide).1).ctx x).r.slot = true := by
    rw [(((Fetched.refl s).turn x).fetch sg.wide).r, h.slot]
  have hd : s.drainReach x = s := by
    unfold State.drainReach
    simp only [h.drain, Bool.false_eq_true, if_false]
  have ht : (s.pmc (unitOf x) 1).setExe (unitOf x) { (s.pmc (unitOf x) 1).exe (unitOf x) with ptr := x % 16 } = s.turn x := rfl
  unfold issue issueWith issueGo
  simp only [h.ready, h.epi, h.async, h.annul, h.clock, h.unit, hd, ht, true_or, if_true, if_false, ne_eq, not_true_eq_false, false_and,
    and_false, Option.map_none, Option.getD_none, Bool.false_eq_true]
  unfold issueNow
  simp only [hf, hn, hslot, Bool.and_self, if_true]

/-- Settles O13: the slot is tested after the fetch, which keeps the context's registers, and before anything else. -/
theorem slotRefusesControlTransfers : Obligations.SlotRefusesControlTransfers := by
  unfold Obligations.SlotRefusesControlTransfers
  intro x annul rd rs p off imm imm32 s i hunit hready hepi hasync hannul hslot hclock hdrain slot
  have h : s.AtSlot i := by
    refine ⟨ctxIdx_unit hunit, hready, hepi, hasync, hannul, hslot, hclock, ?_⟩
    cases he : isEng i <;> cases hl : (s.job (s.ctx i).job).live <;> simp_all
  have hslotOp {wide : Bool} {c : Instr} (hc : NoSlotOp i wide c) : slot wide c := by
    obtain ⟨sg, body, hc, hn, rfl⟩ := hc
    rintro ⟨m, hm⟩
    have hr := (((Fetched.refl (x := i) s).turn i).fetch sg.wide).r i
    refine ⟨_, sg.word, rfl, hr, ?_⟩
    rw [hc, issue_atSlot h hn hm]
    unfold State.takeTrap trapSlot
    rw [hr]
  refine ⟨fun c hc => hslotOp ?_, fun c hc => hslotOp (noSlotOp_twoWords x rd rs imm32 c hc), fun _ c hc => hslotOp (noSlotOp_engine x annul rs p off c hc)⟩
  rcases (List.mem_append (s := [_, _, _, _, _, _, _, _])).1 hc with hb | hs
  · exact noSlotOp_branch x annul rs off c hb
  · exact noSlotOp_system x rd rs imm c hs

end Sys2Proof.Machine
end

section
/-! SUPPORT. The frame of an instruction that acts on the registers of its own context: what its effect, its retirement and a jump leave. -/

namespace Sys2Proof.Machine

/-! ### A step in a context's own registers -/

/-- A context but for its register files, its PC, its counts and the time of its instruction. -/
def Ctx.sansRegs (c : Ctx) : Ctx := { c with r := { resv := c.r.resv }, instret := 0, lastTime := 0 }

/-- `t` is `s` after writes to the named registers and context CSRs of a context, which may have moved on; its unit's counters may count. -/
structure OwnStep (x : Nat) (dst : List Loc) (csrs : List Nat) (s t : State) : Prop where
  eq : t = { s with csr := t.csr, ctxs := t.ctxs, execs := t.execs, free := t.free }
  other : ∀ y, y ≠ x → t.ctx y = s.ctx y
  core : (t.ctx x).sansRegs = (s.ctx x).sansRegs
  g : ∀ n, .g n ∉ dst → Tab.get 0 (t.ctx x).r.g n = Tab.get 0 (s.ctx x).r.g n
  fv : ∀ n, .f n ∉ dst → .v n ∉ dst →
    Tab.get 0 (t.ctx x).r.f n = Tab.get 0 (s.ctx x).r.f n ∧ Tab.get 0 (t.ctx x).r.v n = Tab.get 0 (s.ctx x).r.v n
  p : ∀ n, .p n ∉ dst → Tab.get 0 (t.ctx x).r.p n = Tab.get 0 (s.ctx x).r.p n
  csr : ∀ n, n ∉ csrs → t.xcsr x n = s.xcsr x n
  exe : ∀ u, { t.exe u with ptr := 0 } = { s.exe u with ptr := 0 }
  reg : ∀ a, (∀ n, n < 16 → a ≠ Reg.oePmc (unitOf x) n) → t.reg a = s.reg a

/-- The PC, its successor, the squashed slot and the count of a context. -/
def Ctx.flow (c : Ctx) : W64 × W64 × Bool × Bool × W64 := (c.r.pc, c.r.npc, c.r.slot, c.r.annul, c.instret)

/-- A step in a context's registers after which the instruction has not moved on. -/
structure RegStep (x : Nat) (dst : List Loc) (csrs : List Nat) (s t : State) : Prop extends OwnStep x dst csrs s t where
  flow : (t.ctx x).flow = (s.ctx x).flow

variable {x : Nat} {dst : List Loc} {csrs : List Nat} {s t u : State}

namespace OwnStep

theorem refl (s : State) : OwnStep x dst csrs s s :=
  ⟨rfl, fun _ _ => rfl, rfl, fun _ _ => rfl, fun _ _ _ => ⟨rfl, rfl⟩, fun _ _ => rfl, fun _ _ => rfl, fun _ => rfl, fun _ _ => rfl⟩

theorem trans (h : OwnStep x dst csrs s t) (k : OwnStep x dst csrs t u) : OwnStep x dst csrs s u where
  eq := by have e := k.eq; rw [h.eq] at e; exact e
  other y hy := (k.other y hy).trans (h.other y hy)
  core := k.core.trans h.core
  g n hn := (k.g n hn).trans (h.g n hn)
  fv n hf hv := ⟨(k.fv n hf hv).1.trans (h.fv n hf hv).1, (k.fv n hf hv).2.trans (h.fv n hf hv).2⟩
  p n hn := (k.p n hn).trans (h.p n hn)
  csr n hn := (k.csr n hn).trans (h.csr n hn)
  exe w := (k.exe w).trans (h.exe w)
  reg a ha := (k.reg a ha).trans (h.reg a ha)

theorem mono {dst' : List Loc} {csrs' : List Nat} (h : OwnStep x dst csrs s t) (hd : dst ⊆ dst') (hc : csrs ⊆ csrs') : OwnStep x dst' csrs' s t :=
  ⟨h.eq, h.other, h.core, fun n hn => h.g n fun m => hn (hd m), fun n hf hv => h.fv n (fun m => hf (hd m)) fun m => hv (hd m),
    fun n hn => h.p n fun m => hn (hd m), fun n hn => h.csr n fun m => hn (hc m), h.exe, h.reg⟩

/-- A write to the context alone. -/
theorem of_setCtx {c : Ctx} (hcore : c.sansRegs = (s.ctx x).sansRegs) (hg : ∀ n, .g n ∉ dst → Tab.get 0 c.r.g n = Tab.get 0 (s.ctx x).r.g n)
    (hfv : ∀ n, .f n ∉ dst → .v n ∉ dst → Tab.get 0 c.r.f n = Tab.get 0 (s.ctx x).r.f n ∧ Tab.get 0 c.r.v n = Tab.get 0 (s.ctx x).r.v n)
    (hp : ∀ n, .p n ∉ dst → Tab.get 0 c.r.p n = Tab.get 0 (s.ctx x).r.p n)
    (hcsr : ∀ n, n ∉ csrs → Tab.get (ctxCsrDefault n) c.r.csr n = Tab.get (ctxCsrDefault n) (s.ctx x).r.csr n) :
    OwnStep x dst csrs s (s.setCtx x c) := by
  have hx : (s.setCtx x c).ctx x = c := State.ctx_setCtx_same _ _ _
  refine ⟨rfl, fun y hy => State.ctx_setCtx_ne _ _ _ hy, ?_, ?_, ?_, ?_, ?_, fun _ => rfl, fun _ _ => rfl⟩
  · rwa [hx]
  · rwa [hx]
  · rwa [hx]
  · rwa [hx]
  · unfold State.xcsr
    rwa [hx]

/-- A step of the PC and the counts. -/
theorem of_setFlow {c : Ctx} (hcore : c.sansRegs = (s.ctx x).sansRegs) (hg : c.r.g = (s.ctx x).r.g) (hf : c.r.f = (s.ctx x).r.f)
    (hv : c.r.v = (s.ctx x).r.v) (hp : c.r.p = (s.ctx x).r.p) (hcsr : c.r.csr = (s.ctx x).r.csr) : OwnStep x dst csrs s (s.setCtx x c) :=
  of_setCtx hcore (fun _ _ => by rw [hg]) (fun _ _ _ => by rw [hf, hv]; exact ⟨rfl, rfl⟩) (fun _ _ => by rw [hp]) fun _ _ => by rw [hcsr]

theorem of_execs {e : Tab Exec} (h : ∀ u, { Tab.get {} e u with ptr := 0 } = { s.exe u with ptr := 0 }) : OwnStep x dst csrs s { s with execs := e } :=
  ⟨rfl, fun _ _ => rfl, rfl, fun _ _ => rfl, fun _ _ _ => ⟨rfl, rfl⟩, fun _ _ => rfl, fun _ _ => rfl, h, fun _ _ => rfl⟩

theorem of_setReg {a : Nat} (ha : ∃ n, n < 16 ∧ a = Reg.oePmc (unitOf x) n) (v : W64) : OwnStep x dst csrs s (s.setReg a v) := by
  obtain ⟨n, hn, ha⟩ := ha
  exact ⟨rfl, fun _ _ => rfl, rfl, fun _ _ => rfl, fun _ _ _ => ⟨rfl, rfl⟩, fun _ _ => rfl, fun _ _ => rfl, fun _ => rfl,
    fun b hb => State.reg_setReg_ne _ _ _ (ha ▸ hb n hn)⟩

theorem of_pmc (s : State) {n : Nat} (hn : n < 16) : OwnStep x dst csrs s (s.pmc (unitOf x) n) := by
  unfold State.pmc
  split
  · exact of_setReg ⟨n, hn, rfl⟩ _
  · exact refl s

theorem pmc (h : OwnStep x dst csrs s t) {n : Nat} (hn : n < 16) : OwnStep x dst csrs s (t.pmc (unitOf x) n) := h.trans (of_pmc t hn)

theorem advance (h : OwnStep x dst csrs s t) (wide : Bool) : OwnStep x dst csrs s (t.advance x wide) := by
  unfold State.advance
  cases wide
  · exact h.trans (of_setFlow rfl rfl rfl rfl rfl rfl)
  · exact h.trans (of_setFlow rfl rfl rfl rfl rfl rfl)

theorem count (h : OwnStep x dst csrs s t) : OwnStep x dst csrs s
    (if (t.ctx x).epi.isSome then t else (t.setCtx x { t.ctx x with instret := (t.ctx x).instret + 1 }).pmc (unitOf x) 2) := by
  split
  · exact h
  · refine pmc (h.trans ?_) (n := 2) (by decide)
    exact of_setFlow rfl rfl rfl rfl rfl rfl

/-- An instruction that completes keeps what its effect keeps. -/
theorem finish (h : OwnStep x dst csrs s t) (wide : Bool) : OwnStep x dst csrs s (t.finish x wide) := by
  unfold State.finish State.retire
  split
  · exact h.advance wide
  · exact (h.advance wide).count

/-- A branch or JALR keeps what its effect keeps. -/
theorem jumpTo (h : OwnStep x dst csrs s t) (taken : Bool) (target : W64) (a : Bool) : OwnStep x dst csrs s (t.jumpTo x taken target a) := by
  unfold State.jumpTo
  refine count ((h.pmc (n := if taken then 4 else 5) (by cases taken <;> decide)).trans ?_)
  exact of_setFlow rfl rfl rfl rfl rfl rfl

theorem sameSources (h : OwnStep x dst csrs s t) : SameSources s t :=
  ⟨by rw [h.eq], by rw [h.eq], by rw [h.eq], by rw [h.eq], fun a ha => h.reg a fun n hn e => ha (.inr ⟨unitOf x, n, hn, e⟩)⟩

theorem sameBeyond (h : OwnStep x dst csrs s t) : s.sameBeyond t := by
  unfold State.sameBeyond
  rw [h.eq]
  exact ⟨rfl, rfl, rfl, rfl, rfl, rfl, rfl, rfl, rfl, rfl, rfl, rfl, rfl, rfl, rfl, rfl, rfl, rfl, rfl, rfl, rfl, rfl, rfl, rfl, rfl, rfl, rfl, rfl, rfl, rfl, rfl⟩

theorem keepsMemory (h : OwnStep x dst csrs s t) : s.keepsMemory t x :=
  have hb := h.sameSources.sameBytes
  ⟨hb.1, hb.2, h.exe, h.reg, h.sameBeyond⟩

theorem keepsRegs (h : OwnStep x dst csrs s t) : s.keepsRegs t x dst csrs := by
  refine ⟨fun n hn => ?_, fun n hf hv => ?_, fun n hn => ?_, h.csr⟩
  · unfold State.g
    rw [h.g n hn]
  · obtain ⟨hf, hv⟩ := h.fv n hf hv
    have hv : t.v x n = s.v x n := hv
    unfold State.f
    rw [h.sameSources.classT, hf, hv]
    exact ⟨rfl, rfl⟩
  · unfold State.p
    rw [h.p n hn]

theorem keeps (h : OwnStep x dst csrs s t) : s.keeps t x dst csrs :=
  have of {α : Type} (f : Ctx → α) (e : f (t.ctx x).sansRegs = f (s.ctx x).sansRegs) := e
  have c := h.core
  ⟨h.other, h.keepsRegs, of Ctx.st (by rw [c]), of Ctx.priv (by rw [c]), of (·.r.resv) (by rw [c]), of Ctx.epi (by rw [c]),
    of Ctx.wait (by rw [c]), of Ctx.acks (by rw [c]), of Ctx.log (by rw [c]), of Ctx.kick (by rw [c]), of Ctx.async (by rw [c]),
    of Ctx.bid (by rw [c]), of Ctx.qid (by rw [c]), of Ctx.job (by rw [c]), of Ctx.stage (by rw [c]), of Ctx.seq (by rw [c])⟩

theorem epi (h : OwnStep x dst csrs s t) : (t.ctx x).epi = (s.ctx x).epi := (congrArg Ctx.epi h.core :)

end OwnStep

/-! ### Writes of registers -/

namespace RegStep

theorem refl (s : State) : RegStep x dst csrs s s := ⟨.refl s, rfl⟩
theorem trans (h : RegStep x dst csrs s t) (k : RegStep x dst csrs t u) : RegStep x dst csrs s u :=
  ⟨h.toOwnStep.trans k.toOwnStep, k.flow.trans h.flow⟩
theorem mono {dst' : List Loc} {csrs' : List Nat} (h : RegStep x dst csrs s t) (hd : dst ⊆ dst') (hc : csrs ⊆ csrs') : RegStep x dst' csrs' s t :=
  ⟨h.toOwnStep.mono hd hc, h.flow⟩

theorem ite {c : Prop} [Decidable c] (h : RegStep x dst csrs s t) (k : RegStep x dst csrs s u) : RegStep x dst csrs s (if c then t else u) := by
  split
  · exact h
  · exact k

theorem of_setR {r : Regs} (hp : (r.pc, r.npc, r.slot, r.annul, r.resv) = ((s.ctx x).r.pc, (s.ctx x).r.npc, (s.ctx x).r.slot, (s.ctx x).r.annul, (s.ctx x).r.resv))
    (hg : ∀ n, .g n ∉ dst → Tab.get 0 r.g n = Tab.get 0 (s.ctx x).r.g n)
    (hfv : ∀ n, .f n ∉ dst → .v n ∉ dst → Tab.get 0 r.f n = Tab.get 0 (s.ctx x).r.f n ∧ Tab.get 0 r.v n = Tab.get 0 (s.ctx x).r.v n)
    (hpr : ∀ n, .p n ∉ dst → Tab.get 0 r.p n = Tab.get 0 (s.ctx x).r.p n)
    (hcsr : ∀ n, n ∉ csrs → Tab.get (ctxCsrDefault n) r.csr n = Tab.get (ctxCsrDefault n) (s.ctx x).r.csr n) :
    RegStep x dst csrs s (s.setR x r) := by
  simp only [Prod.mk.injEq] at hp
  obtain ⟨hpc, hnpc, hslot, hannul, hresv⟩ := hp
  refine ⟨.of_setCtx ?_ hg hfv hpr hcsr, ?_⟩
  · unfold Ctx.sansRegs
    rw [hresv]
  · unfold State.setR Ctx.flow
    rw [State.ctx_setCtx_same, hpc, hnpc, hslot, hannul]

theorem setG (h : RegStep x dst csrs s t) {n : Nat} (hn : .g n ∈ dst) (v : W64) : RegStep x dst csrs s (t.setG x n v) := by
  unfold State.setG
  split
  · exact h
  · exact h.trans (of_setR rfl (fun m hm => Tab.get_set_ne _ _ _ _ fun e => hm (e ▸ hn)) (fun _ _ _ => ⟨rfl, rfl⟩) (fun _ _ => rfl) fun _ _ => rfl)

theorem setV (h : RegStep x dst csrs s t) {n : Nat} (hn : .v n ∈ dst) (v : W128) : RegStep x dst csrs s (t.setV x n v) :=
  h.trans (of_setR rfl (fun _ _ => rfl) (fun _ _ hm => ⟨rfl, Tab.get_set_ne _ _ _ _ fun e => hm (e ▸ hn)⟩) (fun _ _ => rfl) fun _ _ => rfl)

theorem setF (h : RegStep x dst csrs s t) {n : Nat} (hn : .f n ∈ dst) (v : W64) : RegStep x dst csrs s (t.setF x n v) := by
  unfold State.setF
  split
  · exact h.trans (of_setR rfl (fun _ _ => rfl) (fun _ hm _ => ⟨rfl, Tab.get_set_ne _ _ _ _ fun e => hm (e ▸ hn)⟩) (fun _ _ => rfl) fun _ _ => rfl)
  · exact h.trans (of_setR rfl (fun _ _ => rfl) (fun _ hm _ => ⟨Tab.get_set_ne _ _ _ _ fun e => hm (e ▸ hn), rfl⟩) (fun _ _ => rfl) fun _ _ => rfl)

theorem setP (h : RegStep x dst csrs s t) {n : Nat} (hn : .p n ∈ dst) (v : W128) : RegStep x dst csrs s (t.setP x n v) := by
  unfold State.setP
  split
  · exact h
  · exact h.trans (of_setR rfl (fun _ _ => rfl) (fun _ _ _ => ⟨rfl, rfl⟩) (fun _ hm => Tab.get_set_ne _ _ _ _ fun e => hm (e ▸ hn)) fun _ _ => rfl)

theorem setXcsr (h : RegStep x dst csrs s t) {n : Nat} (hn : n ∈ csrs) (v : W64) : RegStep x dst csrs s (t.setXcsr x n v) :=
  h.trans (of_setR rfl (fun _ _ => rfl) (fun _ _ _ => ⟨rfl, rfl⟩) (fun _ _ => rfl) fun _ hm => Tab.get_set_ne _ _ _ _ fun e => hm (e ▸ hn))

theorem setLastTime (h : RegStep x dst csrs s t) (n : Nat) : RegStep x dst csrs s (t.setCtx x { t.ctx x with lastTime := n }) :=
  h.trans ⟨.of_setFlow rfl rfl rfl rfl rfl rfl, by rw [State.ctx_setCtx_same]; rfl⟩

theorem foldl {α : Type} (h : RegStep x dst csrs s t) (l : List α) (f : State → α → State) (hf : ∀ t x', RegStep x dst csrs t (f t x')) :
    RegStep x dst csrs s (l.foldl f t) := List.foldlRecOn (motive := RegStep x dst csrs s) l f h fun _ ht y _ => ht.trans (hf _ y)

end RegStep

/-! ### The start of an instruction whose fetch changes nothing -/

theorem State.turn_flow (s : State) (x y : Nat) : (s.turn y).ctx x = s.ctx x := by
  have h := (s.pmc_spec (unitOf y) (n := 1) (by decide)).2.2
  show Tab.get {} (s.turn y).ctxs x = _
  rw [show (s.turn y).ctxs = (s.pmc (unitOf y) 1).ctxs from rfl, h]
  rfl

theorem RegStep.start (h : s.quiet x wide) : RegStep x dst csrs s (s.start x wide) := by
  unfold State.start
  split
  · exact .refl s
  · have hf : (s.turn x).fetch x wide = (s.turn x, .ok false) := by simpa only [State.quiet, *, false_or] using h
    rw [hf]
    refine RegStep.setLastTime ⟨(OwnStep.of_pmc s (n := 1) (by decide)).trans ?_, by rw [State.turn_flow]⟩ 1
    refine OwnStep.of_execs fun u => ?_
    show { State.exe ((s.pmc (unitOf x) 1).setExe (unitOf x) _) u with ptr := 0 } = _
    by_cases hu : u = unitOf x
    · rw [hu, State.exe_setExe_same]
    · rw [State.exe_setExe_ne _ _ _ hu]

end Sys2Proof.Machine
end

section
/-! SUPPORT. Branches and JALR (R52, R53, R56): where each goes, what it writes, and what it leaves. -/

namespace Sys2Proof.Machine

variable {x : Nat} {dst : List Loc} {csrs : List Nat} {s t u : State}

/-! ### A jump -/

theorem State.ctx_pmc (s : State) (u : Nat) {n : Nat} (hn : n < 16) (y : Nat) : (s.pmc u n).ctx y = s.ctx y := by
  rw [State.ctx, (s.pmc_spec u hn).2.2]
  rfl

/-- The count of an instruction leaves the registers of its context. -/
theorem State.ctx_count (t : State) (x : Nat) : ((if (t.ctx x).epi.isSome then t else
    (t.setCtx x { t.ctx x with instret := (t.ctx x).instret + 1 }).pmc (unitOf x) 2).ctx x).r = (t.ctx x).r := by
  split
  · rfl
  · rw [State.ctx_pmc _ _ (by decide), State.ctx_setCtx_same]

theorem State.jumpTo_r (t : State) (x : Nat) (taken : Bool) (target : W64) (a : Bool) :
    ((t.jumpTo x taken target a).ctx x).r =
      { (t.ctx x).r with pc := (t.ctx x).r.pc + 4, npc := if taken then target else (t.ctx x).r.pc + 8, slot := true, annul := a && !taken } := by
  have hp := t.ctx_pmc (unitOf x) (n := if taken then 4 else 5) (by cases taken <;> decide) x
  unfold State.jumpTo
  rw [State.ctx_count, State.setR, State.ctx_setCtx_same, hp]

/-- An instruction has gone to its slot, and then goes to a target or past the slot; it has written the named registers alone. -/
def State.goesTo (t u : State) (x : Nat) (taken a : Bool) (target : W64) (dst : List Loc) : Prop :=
  (u.ctx x).r.pc = (t.ctx x).r.pc + 4 ∧ (u.ctx x).r.slot = true ∧ (u.ctx x).r.npc = (if taken then target else (t.ctx x).r.pc + 8) ∧
    (u.ctx x).r.annul = (a && !taken) ∧ t.keeps u x dst [] ∧ t.keepsMemory u x

theorem RegStep.goesTo (h : RegStep x dst [] s t) (taken a : Bool) (target : W64) : s.goesTo (t.jumpTo x taken target a) x taken a target dst := by
  have hpc : (t.ctx x).r.pc = (s.ctx x).r.pc := congrArg (·.1) h.flow
  have hown := h.toOwnStep.jumpTo taken target a
  unfold State.goesTo
  rw [State.jumpTo_r, hpc]
  exact ⟨rfl, rfl, rfl, rfl, hown.keeps, hown.keepsMemory⟩

theorem State.g_setG_same {n : Nat} (hn : n ≠ 0) (s : State) (x : Nat) (v : W64) : (s.setG x n v).g x n = v := by
  unfold State.g State.setG State.setR
  simp only [if_neg hn, State.ctx_setCtx_same, Tab.get_set_same]

theorem State.g_jumpTo (t : State) (x n : Nat) (taken : Bool) (target : W64) (a : Bool) : (t.jumpTo x taken target a).g x n = t.g x n :=
  ((OwnStep.refl (dst := []) (csrs := []) t).jumpTo taken target a).keepsRegs.1 n (List.not_mem_nil)

/-! ### The branches -/

theorem bTarget_eq (pc : W64) (off : BitVec 20) : bTarget pc off = pc + off.signExtend 64 * 4 := by
  rw [bTarget, BitVec.shiftLeft_eq_mul_twoPow]
  rfl

/-- A branch whose condition is known goes where it says. -/
theorem branch_goes {x : CtxId} {c : Instr} {prof : Prof} {maj : Nat} {a : Bool} {rs : Reg5} {off : BitVec 20} {src : List Loc} {cond : State → Bool}
    (hc : ∀ s, exec c s = .next (branchOp x prof maj a rs off src cond s)) (hi : s.canIssue (ctxIdx x) prof true false = true) {taken : Bool}
    (hk : cond (s.start (ctxIdx x) false) = taken) : ∃ u, exec c s = .next u ∧ (s.start (ctxIdx x) false).goesTo u (ctxIdx x) taken a
      (((s.start (ctxIdx x) false).ctx (ctxIdx x)).r.pc + off.signExtend 64 * 4) [] := by
  refine ⟨(s.start (ctxIdx x) false).jumpTo (ctxIdx x) taken (bTarget ((s.start (ctxIdx x) false).ctx (ctxIdx x)).r.pc off) a, ?_, ?_⟩
  · rw [hc, branchOp]
    exact congrArg _ (issue_jump hi (by rw [← hk]))
  · rw [bTarget_eq]
    exact (RegStep.refl _).goesTo ..

theorem beq_zero_eq (v : W64) : (v == 0) = decide (v.toInt = 0) := by
  rw [Bool.eq_iff_iff, beq_iff_eq, decide_eq_true_iff, ← BitVec.toInt_inj]
  rfl
theorem bne_zero_eq (v : W64) : (v != 0) = decide (v.toInt ≠ 0) := by rw [bne, beq_zero_eq, decide_not]
theorem slt_zero_eq (v : W64) : v.slt 0 = decide (v.toInt < 0) := rfl
theorem not_slt_zero_eq (v : W64) : (!v.slt 0) = decide (0 ≤ v.toInt) := by rw [slt_zero_eq, ← decide_not, decide_eq_decide, not_lt]
theorem fld_two_ne_zero_iff (v : W64) : fld v 0 2 ≠ 0 ↔ v.toNat % 4 ≠ 0 := by
  rw [fld, Nat.pow_zero, Nat.div_one]
  exact Iff.rfl

/-- Settles O11: each condition is the rule's, BL and JALR write the link before the jump, and a jump keeps everything else. -/
theorem branchesSetTheirSlotAndTarget : Obligations.BranchesSetTheirSlotAndTarget := by
  unfold Obligations.BranchesSetTheirSlotAndTarget
  intro x annul rs rd p off imm s i t pc v goes target
  refine ⟨fun hi => ?_, fun hi => ?_, fun hi => ?_⟩
  · exact ⟨branch_goes (fun _ => rfl) hi (beq_zero_eq v), branch_goes (fun _ => rfl) hi (bne_zero_eq v), branch_goes (fun _ => rfl) hi (slt_zero_eq v),
      branch_goes (fun _ => rfl) hi (not_slt_zero_eq v), branch_goes (fun _ => rfl) hi rfl, branch_goes (fun _ => rfl) hi rfl,
      branch_goes (fun _ => rfl) hi rfl⟩
  · exact ⟨branch_goes (fun _ => rfl) hi rfl, branch_goes (fun _ => rfl) hi rfl⟩
  · have hbl : exec (.bl x annul off) s = .next ((t.setG i 31 (pc + 8)).jumpTo i true target annul) := by
      show Host.Outcome.next (issue _ _ _ s) = _
      rw [issue_jump hi rfl, bTarget_eq]
    refine ⟨⟨_, hbl, ((RegStep.refl t).setG (List.mem_singleton_self _) _).goesTo ..⟩, fun u hu => ?_, ?_⟩
    · rw [hbl, Host.Outcome.next.injEq] at hu
      rw [← hu, State.g_jumpTo, State.g_setG_same (by decide)]
    · intro dest
      have hx : ¬2112 ≤ i := fun hx => by cases (State.canIssue_sieve hi hx).2.2.2
      split
      case isTrue h =>
        have hj : exec (.jalr x rd rs imm) s = .next ((t.setG i rd.toNat (pc + 8)).jumpTo i true dest false) :=
          congrArg _ (issue_jump hi (if_neg ((fld_two_ne_zero_iff dest).not.2 (not_not.2 h))))
        refine ⟨⟨_, hj, ((RegStep.refl t).setG (List.mem_singleton_self _) _).goesTo ..⟩, fun u hu hrd => ?_⟩
        rw [hj, Host.Outcome.next.injEq] at hu
        rw [← hu, State.g_jumpTo, State.g_setG_same fun e => hrd (BitVec.eq_of_toNat_eq e)]
      case isFalse h =>
        exact congrArg _ (issue_trap hi hx (if_pos ((fld_two_ne_zero_iff dest).2 h)) (trapAlign_status _))

end Sys2Proof.Machine
end

section
/-! SUPPORT. The scalar register forms write their destinations and nothing else: the obligation of their frame. -/

namespace Sys2Proof.Machine

variable {x : Nat} {dst : List Loc} {csrs : List Nat} {s t u : State}

theorem RegStep.setTime (h : RegStep x dst csrs s t) (service sealed : Nat) : RegStep x dst csrs s (t.setTime x service sealed) := h.setLastTime _

theorem RegStep.setSat (h : RegStep x dst csrs s t) (hc : csrDcsr ∈ csrs) (sat : Bool) : RegStep x dst csrs s (t.setSat x sat) := by
  cases sat
  · exact h
  · exact h.setXcsr hc _

/-- A command issues with an effect that completes, in the states that meet a condition, and writes the named registers alone. -/
def ActsOn (x : Nat) (prof : Prof) (noSlot wide : Bool) (dst : List Loc) (csrs : List Nat) (C : State → Prop) (c : Instr) : Prop :=
  ∃ (sg : Sig) (body : State → Eff), (∀ s, exec c s = .next (issue x sg body s)) ∧ sg.prof = prof ∧ sg.noSlot = noSlot ∧ sg.wide = wide ∧
    ∀ s, C s → ∃ t, body s = .ok t ∧ RegStep x dst csrs s t

/-- What such a command keeps, when its fetch changes nothing. -/
theorem ActsOn.keeps {prof : Prof} {noSlot wide : Bool} {C : State → Prop} {c : Instr} (h : ActsOn x prof noSlot wide dst csrs C c)
    (hi : s.canIssue x prof noSlot wide = true) (hq : s.quiet x wide) (hC : C (s.start x wide)) (ht : exec c s = .next t) :
    s.keeps t x dst csrs ∧ s.keepsMemory t x := by
  obtain ⟨sg, body, hc, rfl, rfl, rfl, hbody⟩ := h
  obtain ⟨u, hu, hstep⟩ := hbody _ hC
  rw [hc, issue_ok hi hu, Host.Outcome.next.injEq] at ht
  have hown := ((RegStep.start hq).trans hstep).toOwnStep.finish sg.wide
  rw [ht] at hown
  exact ⟨hown.keeps, hown.keepsMemory⟩

section
variable {x : CtxId} {prof : Prof} {w : BitVec 32} {rd a b : Reg5} {c : Instr} {C : State → Prop}

theorem actsOn_gOp {fn : W64 → W64 → W64} (hc : ∀ s, exec c s = .next (gOp x prof w rd a b fn s)) :
    ActsOn (ctxIdx x) prof false false [.g rd.toNat] [] (fun _ => True) c :=
  ⟨_, _, hc, rfl, rfl, rfl, fun s _ => ⟨_, rfl, (RegStep.refl s).setG (List.mem_singleton_self _) _⟩⟩
theorem actsOn_gOp1 {fn : W64 → W64} (hc : ∀ s, exec c s = .next (gOp1 x prof w rd a fn s)) :
    ActsOn (ctxIdx x) prof false false [.g rd.toNat] csrs C c :=
  ⟨_, _, hc, rfl, rfl, rfl, fun s _ => ⟨_, rfl, (RegStep.refl s).setG (List.mem_singleton_self _) _⟩⟩
theorem actsOn_gOpX {fn : W64 → W64} (hc : ∀ s, exec c s = .next (gOpX x w rd a fn s)) :
    ActsOn (ctxIdx x) profKES true true [.g rd.toNat] [] (fun _ => True) c :=
  ⟨_, _, hc, rfl, rfl, rfl, fun s _ => ⟨_, rfl, (RegStep.refl s).setG (List.mem_singleton_self _) _⟩⟩
theorem actsOn_cmov (test : W64 → Prop) [DecidablePred test]
    (hc : ∀ s, exec c s = .next (issue (ctxIdx x) { word := w, prof := profKES, srcs := [lg a, lg b, lg rd], dsts := [lg rd] } (fun s =>
      .ok (if test (s.g (ctxIdx x) b.toNat) then s.setG (ctxIdx x) rd.toNat (s.g (ctxIdx x) a.toNat) else s)) s)) :
    ActsOn (ctxIdx x) profKES false false [.g rd.toNat] [] (fun _ => True) c :=
  ⟨_, _, hc, rfl, rfl, rfl, fun s _ => ⟨_, rfl, ((RegStep.refl s).setG (List.mem_singleton_self _) _).ite (.refl s)⟩⟩
theorem actsOn_mulOp {func : Nat} {mag : W64 → Nat} {sealed : Nat} {fn : W64 → W64 → W64}
    (hc : ∀ s, exec c s = .next (mulOp x func rd a b mag sealed fn s)) : ActsOn (ctxIdx x) profKE false false [.g rd.toNat] [] (fun _ => True) c :=
  ⟨_, _, hc, rfl, rfl, rfl, fun s _ => ⟨_, rfl, ((RegStep.refl s).setTime ..).setG (List.mem_singleton_self _) _⟩⟩
theorem actsOn_fixScalar {op : Nat} {ew : BitVec 2} {time : Nat} (hc : ∀ s, exec c s = .next (fixScalar x op ew rd a b time s)) :
    ActsOn (ctxIdx x) profE false false [.g rd.toNat] [csrDcsr] (fun _ => True) c :=
  ⟨_, _, hc, rfl, rfl, rfl, fun s _ =>
    ⟨_, rfl, (((RegStep.refl s).setTime ..).setSat (List.mem_singleton_self _) _).setG (List.mem_singleton_self _) _⟩⟩

end

/-! ### Flags of DCSR (R81) -/

theorem State.raiseDec_of_disabled {bit : Nat} (h : bitAt (s.xcsr x csrDcsr) (bit + 8) = false) (code : Nat) (els : State → Eff) :
    s.raiseDec x bit code els = els (s.setXcsr x csrDcsr (setBit (s.xcsr x csrDcsr) bit true)) := by
  unfold State.raiseDec
  dsimp only
  rw [h]
  rfl

theorem bitAt_of_fld_eq_zero {n : Nat} {v : BitVec n} {lo w k : Nat} (h : fld v lo w = 0) (hk : lo ≤ k) (hk' : k < lo + w) : bitAt v k = false := by
  have := testBit_fld v lo w (k - lo)
  rw [h, Nat.zero_testBit, decide_eq_true (by omega), Bool.true_and, Nat.add_sub_cancel' hk] at this
  exact this.symm

theorem decFinish_spec (h : fld (s.xcsr x csrDcsr) 9 2 = 0) {out : State → State} (hout : ∀ t, RegStep x dst [csrDcsr] t (out t)) (valid : Bool) (v : Int) :
    ∃ t, decFinish x valid v out s = .ok t ∧ RegStep x dst [csrDcsr] s t := by
  have hflag (n : Nat) : RegStep x dst [csrDcsr] s (s.setXcsr x csrDcsr (setBit (s.xcsr x csrDcsr) n true)) :=
    (RegStep.refl s).setXcsr (List.mem_singleton_self _) _
  unfold decFinish
  split
  · exact ⟨_, State.raiseDec_of_disabled (bit := dcsrDi) (bitAt_of_fld_eq_zero h (by decide) (by decide)) _ _, hflag _⟩
  split
  · exact ⟨_, State.raiseDec_of_disabled (bit := dcsrDo) (bitAt_of_fld_eq_zero h (by decide) (by decide)) _ _, (hflag _).trans (hout _)⟩
  · exact ⟨_, rfl, hout s⟩

theorem State.xcsr_setTime (s : State) (x n service sealed : Nat) : (s.setTime x service sealed).xcsr x n = s.xcsr x n :=
  ((RegStep.refl s).setTime (dst := []) (csrs := []) service sealed).csr n List.not_mem_nil

/-- An end of a decimal operation in which DIE and DOE are clear. -/
theorem decFinish_setTime_spec (h : fld (s.xcsr x csrDcsr) 9 2 = 0) {n : Nat} (r : W64) (service sealed : Nat) (valid : Bool) (v : Int) :
    ∃ t, decFinish x valid v (fun s => s.setG x n r) (s.setTime x service sealed) = .ok t ∧ RegStep x [.g n] [csrDcsr] s t := by
  obtain ⟨t, ht, hstep⟩ := decFinish_spec (dst := [.g n]) (out := fun s => s.setG x n r) (s := s.setTime x service sealed)
    (by rwa [State.xcsr_setTime]) (fun t => (RegStep.refl t).setG (List.mem_singleton_self _) r) valid v
  exact ⟨t, ht, ((RegStep.refl s).setTime service sealed).trans hstep⟩

section
variable {x : CtxId} {rd a b : Reg5} {c : Instr}

/-- DIE and DOE are clear. -/
abbrev DecQuiet (x : CtxId) (s : State) : Prop := fld (s.xcsr (ctxIdx x) csrDcsr) 9 2 = 0

theorem actsOn_decOp {func : Nat} {two : Bool} {tm : Nat → Nat → Nat} {sl : Nat} {fn : Int → Nat → Int}
    (hc : ∀ s, exec c s = .next (decOp x func rd a b two tm sl fn s)) :
    ActsOn (ctxIdx x) profKE false false [.g rd.toNat] [csrDcsr] (DecQuiet x) c :=
  ⟨_, _, hc, rfl, rfl, rfl, fun _ h => decFinish_setTime_spec h _ _ _ _ _⟩

theorem actsOn_decimal (x : CtxId) (rd a b : Reg5) :
    ∀ c ∈ [Instr.dadd x rd a b, .dsub x rd a b, .dmul x rd a b, .dcmp x rd a b, .dneg x rd a, .dshl x rd a b, .dshr x rd a b, .dshre x rd a b,
      .dshra x rd a b, .dtoi x rd a, .itod x rd a, .dval x rd a], ActsOn (ctxIdx x) profKE false false [.g rd.toNat] [csrDcsr] (DecQuiet x) c := by
  simp only [List.forall_mem_cons]
  exact ⟨actsOn_decOp fun _ => rfl, actsOn_decOp fun _ => rfl, actsOn_decOp fun _ => rfl,
    ⟨_, _, fun _ => rfl, rfl, rfl, rfl, fun _ h => decFinish_setTime_spec h _ _ _ _ _⟩, actsOn_decOp fun _ => rfl, actsOn_decOp fun _ => rfl,
    actsOn_decOp fun _ => rfl, actsOn_decOp fun _ => rfl, actsOn_decOp fun _ => rfl,
    ⟨_, _, fun _ => rfl, rfl, rfl, rfl, fun _ h => decFinish_setTime_spec h _ _ _ _ _⟩,
    ⟨_, _, fun _ => rfl, rfl, rfl, rfl, fun _ h => decFinish_setTime_spec h _ _ _ _ _⟩, actsOn_gOp1 fun _ => rfl, List.forall_mem_nil _⟩

/-! ### Division steps (R83, R84) -/

/-- DZE is clear. -/
abbrev DivQuiet (x : CtxId) (s : State) : Prop := bitAt (s.xcsr (ctxIdx x) csrDcsr) 8 = false

theorem pairOk_of (he : rd.toNat % 2 = 0) (h0 : rd ≠ 0) : pairOk rd = true := by
  rw [pairOk, decide_eq_true he, Bool.true_and, bne_iff_ne]
  exact h0
theorem outPair_of (h : b ≠ rd) (h' : b.toNat ≠ rd.toNat + 1) : outPair b rd = true := by simp [outPair, h, h']

theorem setPair {i : Nat} {t : State} (h : RegStep i [.g rd.toNat, .g (rd.toNat + 1)] csrs s t) (q r : W64) :
    RegStep i [.g rd.toNat, .g (rd.toNat + 1)] csrs s ((t.setG i rd.toNat q).setG i (rd.toNat + 1) r) :=
  (h.setG (by simp) q).setG (by simp) r

theorem actsOn_divSetup {func : Nat} {signed : Bool} (hp : pairOk rd = true) (ho : outPair b rd = true)
    (hc : ∀ s, exec c s = .next (divSetup x func rd a b signed s)) :
    ActsOn (ctxIdx x) profKE false false [.g rd.toNat, .g (rd.toNat + 1)] [csrDcsr] (DivQuiet x) c := by
  refine ⟨_, _, hc, rfl, rfl, rfl, fun s h => ?_⟩
  have hput (t : State) (q d : W64) : RegStep (ctxIdx x) [.g rd.toNat, .g (rd.toNat + 1)] [csrDcsr] t
      (((t.setXcsr (ctxIdx x) csrDcsr d).setG (ctxIdx x) rd.toNat q).setG (ctxIdx x) (rd.toNat + 1) 0) :=
    setPair ((RegStep.refl t).setXcsr (List.mem_singleton_self _) d) q 0
  simp only [hp, ho, Bool.and_self, Bool.not_true, Bool.false_eq_true, if_false]
  split
  · exact ⟨_, State.raiseDec_of_disabled (bit := dcsrDz) h _ _, ((RegStep.refl s).setXcsr (List.mem_singleton_self _) _).trans (hput _ _ _)⟩
  · exact ⟨_, rfl, hput _ _ _⟩

theorem actsOn_division (x : CtxId) (hp : pairOk rd = true) (ho : outPair b rd = true) (ha : pairOk a = true) :
    ∀ c ∈ [Instr.dsetup x rd a b, .dsetupu x rd a b, .dstep x rd b, .dfix x rd a],
      ActsOn (ctxIdx x) profKE false false [.g rd.toNat, .g (rd.toNat + 1)] [csrDcsr] (DivQuiet x) c := by
  simp only [List.forall_mem_cons]
  refine ⟨actsOn_divSetup hp ho fun _ => rfl, actsOn_divSetup hp ho fun _ => rfl, ⟨_, _, fun _ => rfl, rfl, rfl, rfl, fun s _ => ?_⟩,
    ⟨_, _, fun _ => rfl, rfl, rfl, rfl, fun s _ => ?_⟩, List.forall_mem_nil _⟩
  · simp only [hp, ho, Bool.and_self, Bool.not_true, Bool.false_eq_true, if_false]
    exact ⟨_, rfl, setPair (.refl s) _ _⟩
  · simp only [hp, ha, Bool.and_self, Bool.not_true, Bool.false_eq_true, if_false]
    exact ⟨_, rfl, setPair (.refl s) _ _⟩

end

/-! ### The lists of the obligation -/

theorem actsOn_integer (x : CtxId) (rd a b : Reg5) (imm : BitVec 16) (n : BitVec 6) :
    ∀ c ∈ [Instr.add x rd a b, .sub x rd a b, .andG x rd a b, .orG x rd a b, .xorG x rd a b, .andn x rd a b, .orn x rd a b,
      .xnor x rd a b, .shl x rd a b, .shr x rd a b, .sar x rd a b, .rol x rd a b, .ror x rd a b, .seq x rd a b, .sne x rd a b,
      .slt x rd a b, .sltu x rd a b, .sle x rd a b, .sleu x rd a b, .minG x rd a b, .maxG x rd a b, .minu x rd a b, .maxu x rd a b,
      .clz x rd a, .ctz x rd a, .popc x rd a, .bswap x rd a, .sextb x rd a, .sexth x rd a, .sextw x rd a, .zexth x rd a,
      .zextw x rd a, .addw x rd a b, .subw x rd a b, .shlw x rd a b, .shrw x rd a b, .sarw x rd a b, .cmovnz x rd a b,
      .cmovz x rd a b, .addi x rd a imm, .andi x rd a imm, .ori x rd a imm, .xori x rd a imm, .slti x rd a imm, .sltiu x rd a imm,
      .shli x rd a n, .shri x rd a n, .sari x rd a n, .rori x rd a n, .lui x rd imm],
      ActsOn (ctxIdx x) profKES false false [.g rd.toNat] [] (fun _ => True) c := by
  simp only [List.forall_mem_cons]
  exact ⟨actsOn_gOp fun _ => rfl, actsOn_gOp fun _ => rfl, actsOn_gOp fun _ => rfl, actsOn_gOp fun _ => rfl, actsOn_gOp fun _ => rfl,
    actsOn_gOp fun _ => rfl, actsOn_gOp fun _ => rfl, actsOn_gOp fun _ => rfl, actsOn_gOp fun _ => rfl, actsOn_gOp fun _ => rfl,
    actsOn_gOp fun _ => rfl, actsOn_gOp fun _ => rfl, actsOn_gOp fun _ => rfl, actsOn_gOp fun _ => rfl, actsOn_gOp fun _ => rfl,
    actsOn_gOp fun _ => rfl, actsOn_gOp fun _ => rfl, actsOn_gOp fun _ => rfl, actsOn_gOp fun _ => rfl, actsOn_gOp fun _ => rfl,
    actsOn_gOp fun _ => rfl, actsOn_gOp fun _ => rfl, actsOn_gOp fun _ => rfl, actsOn_gOp1 fun _ => rfl, actsOn_gOp1 fun _ => rfl,
    actsOn_gOp1 fun _ => rfl, actsOn_gOp1 fun _ => rfl, actsOn_gOp1 fun _ => rfl, actsOn_gOp1 fun _ => rfl, actsOn_gOp1 fun _ => rfl,
    actsOn_gOp1 fun _ => rfl, actsOn_gOp1 fun _ => rfl, actsOn_gOp fun _ => rfl, actsOn_gOp fun _ => rfl, actsOn_gOp fun _ => rfl,
    actsOn_gOp fun _ => rfl, actsOn_gOp fun _ => rfl, actsOn_cmov (· ≠ 0) fun _ => rfl, actsOn_cmov (· = 0) fun _ => rfl,
    actsOn_gOp1 fun _ => rfl, actsOn_gOp1 fun _ => rfl, actsOn_gOp1 fun _ => rfl, actsOn_gOp1 fun _ => rfl, actsOn_gOp1 fun _ => rfl,
    actsOn_gOp1 fun _ => rfl, actsOn_gOp1 fun _ => rfl, actsOn_gOp1 fun _ => rfl, actsOn_gOp1 fun _ => rfl, actsOn_gOp1 fun _ => rfl,
    actsOn_gOp1 fun _ => rfl, List.forall_mem_nil _⟩

theorem actsOn_twoWords (x : CtxId) (rd a : Reg5) (imm : BitVec 32) :
    ∀ c ∈ [Instr.xli x rd imm, .xlih x rd a imm, .xaddi x rd a imm, .xandi x rd a imm, .xori32 x rd a imm, .xxori x rd a imm, .xslti x rd a imm,
      .xsltiu x rd a imm], ActsOn (ctxIdx x) profKES true true [.g rd.toNat] [] (fun _ => True) c := by
  simp only [List.forall_mem_cons]
  exact ⟨actsOn_gOpX fun _ => rfl, actsOn_gOpX fun _ => rfl, actsOn_gOpX fun _ => rfl, actsOn_gOpX fun _ => rfl, actsOn_gOpX fun _ => rfl,
    actsOn_gOpX fun _ => rfl, actsOn_gOpX fun _ => rfl, actsOn_gOpX fun _ => rfl, List.forall_mem_nil _⟩

theorem actsOn_multiply (x : CtxId) (rd a b : Reg5) (imm : BitVec 16) :
    ∀ c ∈ [Instr.addhi x rd a imm, .mul x rd a b, .mulh x rd a b, .mulhu x rd a b, .mulhsu x rd a b, .mulw x rd a b],
      ActsOn (ctxIdx x) profKE false false [.g rd.toNat] [] (fun _ => True) c := by
  simp only [List.forall_mem_cons]
  exact ⟨actsOn_gOp1 fun _ => rfl, actsOn_mulOp fun _ => rfl, actsOn_mulOp fun _ => rfl, actsOn_mulOp fun _ => rfl,
    actsOn_mulOp fun _ => rfl, actsOn_mulOp fun _ => rfl, List.forall_mem_nil _⟩

theorem actsOn_fixed (x : CtxId) (ew : BitVec 2) (rd a b : Reg5) :
    ∀ c ∈ [Instr.sadd x ew rd a b, .saddu x ew rd a b, .ssub x ew rd a b, .ssubu x ew rd a b, .qmule x ew rd a b, .qmula x ew rd a b,
      .rshre x ew rd a b, .rshra x ew rd a b], ActsOn (ctxIdx x) profE false false [.g rd.toNat] [csrDcsr] (fun _ => True) c := by
  simp only [List.forall_mem_cons]
  exact ⟨actsOn_fixScalar fun _ => rfl, actsOn_fixScalar fun _ => rfl, actsOn_fixScalar fun _ => rfl, actsOn_fixScalar fun _ => rfl,
    actsOn_fixScalar fun _ => rfl, actsOn_fixScalar fun _ => rfl, actsOn_fixScalar fun _ => rfl, actsOn_fixScalar fun _ => rfl,
    List.forall_mem_nil _⟩

/-- Settles O10: each form writes its destinations alone, and so does the retirement behind it. -/
theorem registerInstructionsKeepTheRest : Obligations.RegisterInstructionsKeepTheRest := by
  unfold Obligations.RegisterInstructionsKeepTheRest
  intro x rd a b imm n imm32 ew s t i
  have hcsr (wide : Bool) (hq : s.quiet i wide) (k : Nat) : (s.start i wide).xcsr i k = s.xcsr i k :=
    (RegStep.start (dst := []) (csrs := []) hq).csr k List.not_mem_nil
  refine ⟨fun c hc hi hq => (actsOn_integer x rd a b imm n c hc).keeps hi hq trivial,
    fun c hc hi hq => (actsOn_twoWords x rd a imm32 c hc).keeps hi hq trivial,
    fun c hc hi hq => (actsOn_multiply x rd a b imm c hc).keeps hi hq trivial, ?_, ?_,
    fun c hc hi hq => (actsOn_fixed x ew rd a b c hc).keeps hi hq trivial⟩
  · intro he h0 hb hb' hae ha0 hz c hc hi hq
    refine (actsOn_division x (pairOk_of he h0) (outPair_of hb hb') (pairOk_of hae ha0) c hc).keeps hi hq ?_
    rwa [DivQuiet, hcsr false hq]
  · intro hz c hc hi hq
    refine (actsOn_decimal x rd a b c hc).keeps hi hq ?_
    rwa [DecQuiet, hcsr false hq]

end Sys2Proof.Machine
end

section
/-! SUPPORT. Accesses of context CSRs (R59, R60): the tests in their order, the value read, the bits written. -/

namespace Sys2Proof.Machine

variable {x n rd : Nat} {dst : List Loc} {csrs : List Nat} {s t u : State} {w : BitVec 32} {wr : Option (W64 → W64)}

/-! ### Which CSRs R60 assigns -/

/-- The CSRs of both profiles, those of engine contexts, and those of control-core threads. -/
def csrBoth : List Nat := [0x000, 0x001, 0x302, 0x303, 0x304]
def csrEng : List Nat := [0x002, 0x003, 0x010, 0x011, 0x012, 0x013, 0x014, 0x015, 0x016, 0x300, 0x301]
def csrCore : List Nat :=
  [0x400, 0x401, 0x402, 0x403, 0x404, 0x405, 0x406, 0x410, 0x700, 0xC00, 0xC01, 0xC02, 0xC03, 0xC04, 0xC05, 0xC06, 0xC07]

/-- A profile assigns a CSR number. -/
abbrev CsrKnown (eng : Bool) (n : Nat) : Prop := n ∈ csrBoth ∨ (if eng then n ∈ csrEng else n ∈ csrCore)

/-- The lowest privilege and the access of a CSR follow from its number. -/
def csrLevel (n : Nat) : Priv := if 0xC00 ≤ n then .m else if 0x400 ≤ n then .k else .u
abbrev CsrReadOnly (n : Nat) : Prop := (0x300 ≤ n ∧ n ≤ 0x304) ∨ n = 0x700

theorem csrInfo_of_mem : (∀ e, ∀ n ∈ csrBoth, csrInfo e n = some (csrLevel n, decide (CsrReadOnly n))) ∧
    (∀ n ∈ csrEng, csrInfo true n = some (csrLevel n, decide (CsrReadOnly n))) ∧
    ∀ n ∈ csrCore, csrInfo false n = some (csrLevel n, decide (CsrReadOnly n)) := by decide

theorem csrInfo_of_known {eng : Bool} (h : CsrKnown eng n) : csrInfo eng n = some (csrLevel n, decide (CsrReadOnly n)) := by
  obtain ⟨hboth, heng, hcore⟩ := csrInfo_of_mem
  rcases h with h | h
  · exact hboth _ _ h
  · cases eng
    · exact hcore _ h
    · exact heng _ h

theorem csrInfo_of_not_known {eng : Bool} (h : ¬CsrKnown eng n) : csrInfo eng n = none := by
  unfold csrInfo
  cases eng
  all_goals
    simp only [CsrKnown, csrBoth, csrEng, csrCore, List.mem_cons, List.not_mem_nil, or_false, Bool.false_eq_true, if_false, if_true] at h ⊢
    rw [if_neg (by omega), if_neg (by omega), if_neg (by omega), if_neg (by omega)]
  rw [if_neg (by omega)]

theorem privCode_csrLevel (n : Nat) : privCode (csrLevel n) = if 0xC00 ≤ n then 3 else if 0x400 ≤ n then 1 else 0 := by
  unfold csrLevel
  split
  · rfl
  split <;> rfl

/-! ### The tests of an access -/

/-- The state behind an access that is allowed. -/
def State.csrPut (s : State) (x n rd : Nat) (wr : Option (W64 → W64)) : State :=
  (match wr with | some f => s.csrSet x n (f (s.csrGet x n)) | none => s).setG x rd (s.csrGet x n)

theorem State.csrAccess_unknown (h : ¬CsrKnown (isEng x) n) : s.csrAccess x n w rd wr = .trap s (trapIllegal w) := by
  unfold State.csrAccess
  rw [csrInfo_of_not_known h]

theorem State.csrAccess_low (h : CsrKnown (isEng x) n) (hp : isEng x = false ∧ privCode (s.ctx x).priv < privCode (csrLevel n)) :
    s.csrAccess x n w rd wr = .trap s (trapPriv w) := by
  unfold State.csrAccess
  rw [csrInfo_of_known h]
  exact if_pos (by simpa [Priv.reaches] using hp)

theorem State.csrAccess_readOnly (h : CsrKnown (isEng x) n) (hp : ¬(isEng x = false ∧ privCode (s.ctx x).priv < privCode (csrLevel n)))
    (hr : CsrReadOnly n ∧ wr.isSome) : s.csrAccess x n w rd wr = .trap s (trapIllegal w) := by
  unfold State.csrAccess
  rw [csrInfo_of_known h]
  exact (if_neg (by simpa [Priv.reaches] using hp)).trans (if_pos (by simpa using hr))

theorem State.csrAccess_ok (h : CsrKnown (isEng x) n) (hp : ¬(isEng x = false ∧ privCode (s.ctx x).priv < privCode (csrLevel n)))
    (hr : ¬(CsrReadOnly n ∧ wr.isSome)) : s.csrAccess x n w rd wr = .ok (s.csrPut x n rd wr) := by
  unfold State.csrAccess
  rw [csrInfo_of_known h]
  exact (if_neg (by simpa [Priv.reaches] using hp)).trans (if_neg (by simpa using hr))

theorem trapIllegal_status (w : BitVec 32) : (trapIllegal w).status ≠ stWait := by
  show (0 : BitVec 16) ≠ stWait
  decide
theorem trapPriv_status (w : BitVec 32) : (trapPriv w).status ≠ stWait := by
  show (0 : BitVec 16) ≠ stWait
  decide

/-! ### What an access changes -/

theorem State.ctx_setR_same (s : State) (x : Nat) (r : Regs) : ((s.setR x r).ctx x).r = r := by rw [State.setR, State.ctx_setCtx_same]

@[simp] theorem State.xcsr_setXcsr_same (s : State) (x n : Nat) (v : W64) : (s.setXcsr x n v).xcsr x n = v := by
  unfold State.xcsr State.setXcsr
  rw [State.ctx_setR_same, Tab.get_set_same]

@[simp] theorem State.xcsr_setG (s : State) (x n m : Nat) (v : W64) : (s.setG x m v).xcsr x n = s.xcsr x n :=
  ((RegStep.refl s).setG (dst := [.g m]) (csrs := []) (List.mem_singleton_self _) v).csr n List.not_mem_nil

theorem RegStep.csrPut (s : State) : RegStep x [.g rd] [n] s (s.csrPut x n rd wr) := by
  refine RegStep.setG ?_ (List.mem_singleton_self _) _
  cases wr with
  | none => exact .refl s
  | some f =>
    show RegStep x [.g rd] [n] s (s.csrSet x n _)
    unfold State.csrSet
    exact (RegStep.refl s).ite ((RegStep.refl s).setXcsr (List.mem_singleton_self _) _)

theorem State.xcsr_csrPut (s : State) : (s.csrPut x n rd wr).xcsr x n = (match wr with
    | none => s.xcsr x n
    | some f => if n = 0x003 ∧ s.classT x = true then s.xcsr x n else (s.xcsr x n &&& ~~~(csrMask n)) ||| (f (s.csrGet x n) &&& csrMask n)) := by
  unfold State.csrPut
  rw [State.xcsr_setG]
  cases wr with
  | none => rfl
  | some f =>
    show (s.csrSet x n _).xcsr x n = _
    unfold State.csrSet
    split
    · rfl
    · exact State.xcsr_setXcsr_same ..

/-! ### The values that other state shows (R60) -/

theorem State.canIssue_range {noSlot wide : Bool} (h : s.canIssue x profKE noSlot wide = true) : x < 2112 := by
  by_contra hx
  obtain ⟨-, -, -, hp⟩ := State.canIssue_sieve h (Nat.not_lt.1 hx)
  cases hp

theorem fld_ofNat_of_lt {n N : Nat} (h : N < 2 ^ n) (lo w : Nat) : fld (BitVec.ofNat n N) lo w = N / 2 ^ lo % 2 ^ w := by
  rw [fld, BitVec.toNat_ofNat, Nat.mod_eq_of_lt h]

theorem State.ctxid_fields (s : State) (h : isEng x = true) : fld (s.ctxid x) 0 4 = x % 16 ∧ fld (s.ctxid x) 4 4 = x / 16 % 16 ∧
    fld (s.ctxid x) 8 3 = x / 256 ∧ (bitAt (s.ctxid x) 11 = true ↔ s.classC x = true) ∧ fld (s.ctxid x) 12 4 = 0 ∧
    fld (s.ctxid x) 16 12 = (s.ctx x).bid.toNat ∧ fld (s.ctxid x) 28 36 = 0 := by
  have hx : x < 2048 := of_decide_eq_true h
  have hb : (s.ctx x).bid.toNat < 4096 := (s.ctx x).bid.isLt
  have hbit : fld (s.ctxid x) 11 1 = (bitAt (s.ctxid x) 11).toNat := fld_bit _ _
  have hc : (s.classC x).toNat ≤ 1 := Bool.toNat_le _
  have hfld (lo w : Nat) : fld (s.ctxid x) lo w =
      (x % 16 + x / 16 % 16 * 16 + x / 256 * 256 + (s.classC x).toNat * 2048 + (s.ctx x).bid.toNat * 65536) / 2 ^ lo % 2 ^ w :=
    fld_ofNat_of_lt (by omega) lo w
  have h11 : (bitAt (s.ctxid x) 11).toNat = (s.classC x).toNat := by
    rw [← hbit, hfld]
    omega
  have hclass : bitAt (s.ctxid x) 11 = s.classC x := by
    cases hb : bitAt (s.ctxid x) 11 <;> cases hc : s.classC x <;> simp [hb, hc] at h11 ⊢
  refine ⟨?_, ?_, ?_, by rw [hclass], ?_, ?_, ?_⟩
  all_goals
    rw [hfld]
    omega

theorem htid_fields : ∀ {h : Nat}, h < 64 →
    fld (htid h) 0 6 = h ∧ fld (htid h) 6 2 = h % 4 ∧ fld (htid h) 8 4 = h / 4 ∧ fld (htid h) 12 52 = 0 := by decide

theorem State.jobid_fields (c : Ctx) : let v : W64 := BitVec.ofNat 64 (c.seq.toNat + c.qid.toNat * 2 ^ 32)
    fld v 0 32 = c.seq.toNat ∧ fld v 32 16 = c.qid.toNat ∧ fld v 48 16 = 0 := by
  have hs : c.seq.toNat < 2 ^ 32 := c.seq.isLt
  have hq : c.qid.toNat < 2 ^ 16 := c.qid.isLt
  intro v
  have hfld (lo w : Nat) : fld v lo w = (c.seq.toNat + c.qid.toNat * 2 ^ 32) / 2 ^ lo % 2 ^ w :=
    fld_ofNat_of_lt (by omega) lo w
  refine ⟨?_, ?_, ?_⟩
  all_goals
    rw [hfld]
    omega

theorem State.csrGet_time (s : State) (x : Nat) :
    s.csrGet x 0x302 = s.mer.ns + BitVec.ofInt 64 (Tab.get 0 s.mer.isl (if isEng x then x / 256 else 8)) := by
  show s.merAt (if isEng x then unitOf x / 16 else islCtl) = _
  unfold State.merAt
  cases he : isEng x
  · rfl
  · have hx : unitOf x / 16 = x / 256 := by
      rw [unitOf, if_pos (of_decide_eq_true he), Nat.div_div_eq_div_mul]
    simp only [if_true, hx]

/-- A CSR with no view of its own reads as it was written. -/
theorem State.csrGet_stored (s : State) (x : Nat) : ∀ n ∈ [0x000, 0x001, 0x002, 0x010, 0x011, 0x012, 0x013, 0x014, 0x015, 0x016, 0x400, 0x402,
    0x403, 0x404, 0x405, 0x406, 0x410, 0xC00, 0xC02, 0xC03, 0xC04, 0xC05, 0xC06, 0xC07], s.csrGet x n = s.xcsr x n := by
  intro n hn
  have hne : n ≠ 0x300 ∧ n ≠ 0x301 ∧ n ≠ 0x302 ∧ n ≠ 0x303 ∧ n ≠ 0x304 ∧ n ≠ 0x700 ∧ ¬(n = 0x401 ∨ n = 0xC01) ∧ n ≠ 0x003 := by
    revert n
    decide
  obtain ⟨h1, h2, h3, h4, h5, h6, h7, h8⟩ := hne
  unfold State.csrGet
  simp only [h1, h2, h3, h4, h5, h6, h7, h8, if_false, false_and]

/-! ### The obligation -/

/-- A CSR instruction: the access it makes, and the function of the old value it writes. -/
def CsrInstr (x n rd : Nat) (c : Instr) (f : State → Option (W64 → W64)) : Prop :=
  ∃ (sg : Sig) (w : BitVec 32), (∀ s, exec c s = .next (issue x sg (fun s => s.csrAccess x n w rd (f s)) s)) ∧
    sg.prof = profKE ∧ sg.noSlot = false ∧ sg.wide = false

/-- Settles O17: the tests come in the order of the statement, and what is read is the CSR's own view. -/
theorem contextCsrAccesses : Obligations.ContextCsrAccesses := by
  unfold Obligations.ContextCsrAccesses
  intro x rd rs1 num s hi i t c n both eng core known low ro old traps reads
  have hlt : i < 2112 := State.canIssue_range hi
  have hreads {c : Instr} {f : State → Option (W64 → W64)} (hc : CsrInstr i n rd.toNat c f) : reads c (f t) := by
    obtain ⟨sg, w, hexec, hprof, hslot, hwide⟩ := hc
    have hi' : s.canIssue i sg.prof sg.noSlot sg.wide = true := by rwa [hprof, hslot, hwide]
    have ht : s.start i sg.wide = t := by rw [hwide]
    have htrap {k : Trap} (hk : t.csrAccess i n w rd.toNat (f t) = .trap t k) (hst : k.status ≠ stWait) : exec c s = .next (t.takeTrap i k) := by
      rw [hexec, issue_trap hi' (Nat.not_le.2 hlt) (by rw [ht]; exact hk) hst]
    have hlow : privCode (csrLevel n) = low := privCode_csrLevel n
    by_cases hk : known
    case neg => exact (if_pos hk).mpr ⟨w, htrap (State.csrAccess_unknown hk) (trapIllegal_status w)⟩
    by_cases hp : isEng i = false ∧ privCode (t.ctx i).priv < low
    case pos =>
      exact (if_neg (not_not.2 hk)).mpr ((if_pos hp).mpr ⟨w, htrap (State.csrAccess_low hk (by rwa [hlow])) (trapPriv_status w)⟩)
    by_cases hr : ro ∧ (f t).isSome
    case pos =>
      exact (if_neg (not_not.2 hk)).mpr ((if_neg hp).mpr ((if_pos hr).mpr
        ⟨w, htrap (State.csrAccess_readOnly hk (by rwa [hlow]) hr) (trapIllegal_status w)⟩))
    refine (if_neg (not_not.2 hk)).mpr ((if_neg hp).mpr ((if_neg hr).mpr ⟨t.csrPut i n rd.toNat (f t), ?_, ?_, ?_, ?_, ?_⟩))
    · rw [hexec, issue_ok hi' (by rw [ht]; exact State.csrAccess_ok hk (by rwa [hlow]) hr), hwide]
    · exact fun h => State.g_setG_same (fun e => h (BitVec.eq_of_toNat_eq e)) _ _ _
    · exact fun r hne => (RegStep.csrPut t).keepsRegs.1 r (by simpa using hne)
    · exact fun m hm => (RegStep.csrPut t).csr m (by simpa using hm)
    · exact t.xcsr_csrPut
  refine ⟨hreads (f := fun _ => none) ⟨_, _, fun _ => rfl, rfl, rfl, rfl⟩,
    hreads (f := fun s => some fun _ => s.g i rs1.toNat) ⟨_, _, fun _ => rfl, rfl, rfl, rfl⟩,
    hreads (f := fun s => some fun o => o ||| s.g i rs1.toNat) ⟨_, _, fun _ => rfl, rfl, rfl, rfl⟩,
    hreads (f := fun s => some fun o => o &&& ~~~(s.g i rs1.toNat)) ⟨_, _, fun _ => rfl, rfl, rfl, rfl⟩, ?_⟩
  have hold {k : Nat} (h : n = k) : old = t.csrGet i k := by rw [← h]
  refine ⟨fun h he => ?_, fun h => ?_, fun h => (hold h).trans (t.csrGet_time i), fun h => hold h, fun h he => ?_, fun h => ?_, fun h hT => ?_,
    fun h => t.csrGet_stored i n h⟩
  · rw [hold h]
    exact t.ctxid_fields he
  · rw [hold h]
    exact State.jobid_fields c
  · rw [hold h]
    exact htid_fields (by omega)
  · rcases h with h | h
    all_goals
      rw [hold h, h]
      rfl
  · rw [hold h]
    unfold State.csrGet
    simp [hT]

end Sys2Proof.Machine
end

section
/-! SUPPORT. The scalar floating-point instructions (R87–R97): each computes a result and flags, which are set, or trap. -/

namespace Sys2Proof.Machine

variable {i : Nat} {s t : State} {c : Instr} {sg : Sig} {body : State → Eff}

/-! ### The end of an operation (R89, R107) -/

/-- What an operation with a time, flags and a result answers (R89): the result with the flags set, or the trap with every raised flag. -/
def FpEnds (i : Nat) (s t : State) (c : Instr) (fast slow : Nat) (fl : FFlags) (out : State → State) : Prop :=
  let fc := t.xcsr i csrFcsr
  let t := t.setTime i fast slow
  let set := fc ||| BitVec.ofNat 64 (fl.bits * 16)
  exec c s = .next (if fl.bits &&& fld fc 9 5 ≠ 0 then (t.setXcsr i csrFcsr (setFld set 14 5 fl.bits)).takeTrap i { code := 0x0B }
    else (out (if fl.bits = 0 then t else t.setXcsr i csrFcsr set)).finish i false)

/-- A command that issues as a scalar instruction of an engine or a control core. -/
structure FpIssues (i : Nat) (s : State) (c : Instr) (sg : Sig) (body : State → Eff) : Prop where
  exec : exec c s = .next (issue i sg body s)
  can : s.canIssue i sg.prof sg.noSlot sg.wide = true
  unit : ¬2112 ≤ i

theorem FpIssues.ok (h : FpIssues i s c sg body) (hw : sg.wide = false) (hb : body (s.start i false) = .ok t) :
    Machine.exec c s = .next (t.finish i false) := by
  rw [h.exec, issue_ok h.can (by rw [hw]; exact hb), hw]

theorem FpIssues.illegal (h : FpIssues i s c sg body) (hw : sg.wide = false) {w : BitVec 32}
    (hb : body (s.start i false) = .trap (s.start i false) (trapIllegal w)) :
    Machine.exec c s = .next ((s.start i false).takeTrap i (trapIllegal w)) := by
  rw [h.exec, issue_trap h.can h.unit (by rw [hw]; exact hb) (trapIllegal_status w)]

theorem FpIssues.ends (h : FpIssues i s c sg body) (hw : sg.wide = false) {fast slow : Nat} {fl : FFlags} {out : State → State}
    (hb : body (s.start i false) = ((s.start i false).setTime i fast slow).raiseFp i fl out) : FpEnds i s (s.start i false) c fast slow fl out := by
  unfold State.raiseFp at hb
  dsimp only at hb
  rw [State.xcsr_setTime] at hb
  unfold FpEnds
  dsimp only
  split
  case isTrue hx =>
    rw [if_pos hx] at hb
    rw [h.exec, issue_trap h.can h.unit (by rw [hw]; exact hb)]
    show (0 : BitVec 16) ≠ stWait
    decide
  case isFalse hx =>
    rw [if_neg hx] at hb
    exact h.ok hw hb

theorem State.raiseFp_none (s : State) (x : Nat) (out : State → State) : s.raiseFp x {} out = .ok (out s) := by
  unfold State.raiseFp
  dsimp only
  rw [show FFlags.bits {} = 0 from rfl, Nat.zero_and, if_neg (not_not.2 rfl), if_pos rfl]

/-- An operation that raises no flag. -/
theorem FpIssues.whole (h : FpIssues i s c sg body) (hw : sg.wide = false) {fast slow : Nat} (out : State → State)
    (hb : body (s.start i false) = .ok (out ((s.start i false).setTime i fast slow))) : FpEnds i s (s.start i false) c fast slow {} out :=
  h.ends hw (hb.trans (State.raiseFp_none ..).symm)

/-! ### The rounding direction (R88) -/

/-- The direction that an rm field names, DYN that of FCSR. -/
def State.rmDir (s : State) (x : Nat) (rm : BitVec 3) : Nat := if rm = 0 then fld (s.xcsr x csrFcsr) 0 3 else rm.toNat

/-- An operation that rounds ends with its direction, or a reserved direction raises ILLEGAL_INSN. -/
theorem FpIssues.rounds (h : FpIssues i s c sg body) (hw : sg.wide = false) {rm : BitVec 3} {w : BitVec 32} {e : Nat → Eff}
    (hb : body (s.start i false) = match (s.start i false).rmOf i rm with | none => .trap (s.start i false) (trapIllegal w) | some r => e r)
    {fast slow : Nat} {fl : FFlags} {out : State → State}
    (he : e ((s.start i false).rmDir i rm) = ((s.start i false).setTime i fast slow).raiseFp i fl out) :
    if 1 ≤ (s.start i false).rmDir i rm ∧ (s.start i false).rmDir i rm ≤ 5 then FpEnds i s (s.start i false) c fast slow fl out
    else Machine.exec c s = .next ((s.start i false).takeTrap i (trapIllegal w)) := by
  have hrm : (s.start i false).rmOf i rm = if 1 ≤ (s.start i false).rmDir i rm ∧ (s.start i false).rmDir i rm ≤ 5 then
    some ((s.start i false).rmDir i rm) else none := rfl
  split
  case isTrue hr =>
    rw [hrm, if_pos hr] at hb
    exact h.ends hw (hb.trans he)
  case isFalse hr =>
    rw [hrm, if_neg hr] at hb
    exact h.illegal hw hb

/-! ### The forms -/

section
variable {x : CtxId} {rm : BitVec 3} {p : Bool} {rd a b : Reg5}

/-- A context that issues a scalar floating-point instruction. -/
theorem fpIssues (hi : s.canIssue (ctxIdx x) profKE false false = true)
    (hc : exec c s = .next (issue (ctxIdx x) sg body s)) (hsg : (sg.prof, sg.noSlot, sg.wide) = (profKE, false, false)) : FpIssues (ctxIdx x) s c sg body := by
  simp only [Prod.mk.injEq] at hsg
  obtain ⟨hp, hn, hw⟩ := hsg
  exact ⟨hc, by rwa [hp, hn, hw], Nat.not_le.2 (State.canIssue_lt hi)⟩

theorem fpArith_spec (hi : s.canIssue (ctxIdx x) profKE false false = true) {op k : Nat} {useD : Bool} {fn : Fmt → FEnv → Nat → Nat → Nat → FRes}
    (hc : exec c s = .next (fpArith x op rm p rd a b useD k fn s)) : let i := ctxIdx x
    let t := s.start i false
    let f := fmtOf p
    let v := t.fenv i (t.rmDir i rm)
    let A := t.fop i p a
    let B := t.fop i p b
    let D := t.fop i p rd
    let q := fn f v A B D
    if 1 ≤ t.rmDir i rm ∧ t.rmDir i rm ≤ 5 then
      FpEnds i s t c (if f.subOp v A || f.subOp v B || (useD && f.subOp v D) || q.sub then k + 2 else k) (k + 2) q.fl (fun t => t.setFop i p rd q.bits)
    else exec c s = .next (t.takeTrap i (trapIllegal (encA 0x24 rd a b (fpFunc rm p op)))) :=
  (fpIssues hi hc rfl).rounds rfl rfl rfl

theorem fpPlain_spec (hi : s.canIssue (ctxIdx x) profKE false false = true) {op k : Nat} {fn : Fmt → FEnv → Nat → Nat → FRes}
    (hc : exec c s = .next (fpPlain x op p rd a b k fn s)) : let i := ctxIdx x
    let t := s.start i false
    let q := fn (fmtOf p) (t.fenv i 1) (t.fop i p a) (t.fop i p b)
    FpEnds i s t c k k q.fl (fun t => t.setFop i p rd q.bits) :=
  (fpIssues hi hc rfl).ends rfl rfl

theorem fpCmp_spec (hi : s.canIssue (ctxIdx x) profKE false false = true) {op : Nat} (hc : exec c s = .next (fpCmp x op p rd a b s)) :
    let i := ctxIdx x
    let t := s.start i false
    let q := (fmtOf p).cmp (t.fenv i 1) op (t.fop i p a) (t.fop i p b)
    FpEnds i s t c 2 2 q.2 (fun t => t.setG i rd.toNat (ofBool64 q.1)) :=
  (fpIssues hi hc rfl).ends rfl rfl

theorem fpConv_spec (hi : s.canIssue (ctxIdx x) profKE false false = true) {op : Nat} {src dst : Loc} {fn : Nat → FEnv → State → FRes × Bool × (State → State)}
    (hc : exec c s = .next (fpConv x op rm p rd a src dst fn s)) : let i := ctxIdx x
    let t := s.start i false
    let q := fn i (t.fenv i (t.rmDir i rm)) t
    if 1 ≤ t.rmDir i rm ∧ t.rmDir i rm ≤ 5 then FpEnds i s t c (if q.2.1 || q.1.sub then 5 else 3) 5 q.1.fl q.2.2
    else exec c s = .next (t.takeTrap i (trapIllegal (encA 0x26 rd a 0 (fpFunc rm p op)))) :=
  (fpIssues hi hc rfl).rounds rfl rfl rfl

/-! ### Steps (R97) -/

theorem any_inPair (rd : Reg5) (srcs : List Reg5) : (srcs.any fun r => r == rd || decide (r.toNat = rd.toNat + 1)) =
    srcs.any fun r => decide (r.toNat = rd.toNat) || decide (r.toNat = rd.toNat + 1) := by
  congr 1
  funext r
  rw [Bool.beq_eq_decide_eq, decide_eq_decide.2 BitVec.toNat_inj.symm]

/-- A step instruction acts, or its register restrictions raise ILLEGAL_INSN. -/
theorem fpStepOp_spec (hi : s.canIssue (ctxIdx x) profKE false false = true) {op : Nat} {srcs : List Reg5} {ps pd : Bool}
    {act : Nat → BitVec 32 → State → Eff} (hc : exec c s = .next (fpStepOp x op rm p rd a b srcs ps pd act s)) {good : Prop}
    (hgood : ∀ sg, sg.wide = false → FpIssues (ctxIdx x) s c sg (fun s => act (ctxIdx x) (encA 0x25 rd a b (fpFunc rm p op)) s) → good) :
    if rd.toNat % 2 ≠ 0 ∨ (srcs.any fun r => decide (r.toNat = rd.toNat) || decide (r.toNat = rd.toNat + 1)) = true then
      exec c s = .next ((s.start (ctxIdx x) false).takeTrap (ctxIdx x) (trapIllegal (encA 0x25 rd a b (fpFunc rm p op))))
    else good := by
  unfold fpStepOp at hc
  dsimp only at hc
  rw [any_inPair] at hc
  split
  case isTrue h =>
    exact (fpIssues hi hc rfl).illegal rfl (if_pos h)
  case isFalse h =>
    simp only [if_neg h] at hc
    exact hgood _ rfl (fpIssues hi hc rfl)

end

/-- Settles O29: each form's operands, time, flags and result are the ones of its definition, and its end is the end of R89. -/
theorem floatingPointOperationsCompleteOrTrap : Obligations.FloatingPointOperationsCompleteOrTrap := by
  unfold Obligations.FloatingPointOperationsCompleteOrTrap
  intro x rm p rd a b s hi i t fc r f env v low A B D put ends rounds ar plain cv sgnBit withSign e1
  refine ⟨(fpArith_spec (c := .fadd x rm p rd a b) hi rfl :), (fpArith_spec (c := .fsub x rm p rd a b) hi rfl :),
    (fpArith_spec (c := .fmul x rm p rd a b) hi rfl :), (fpArith_spec (c := .fma x rm p rd a b) hi rfl :),
    (fpArith_spec (c := .fms x rm p rd a b) hi rfl :), (fpArith_spec (c := .fnma x rm p rd a b) hi rfl :),
    (fpArith_spec (c := .fnms x rm p rd a b) hi rfl :), (fpPlain_spec (c := .fmin x p rd a b) hi rfl :),
    (fpPlain_spec (c := .fmax x p rd a b) hi rfl :), (fpPlain_spec (c := .fsgnj x p rd a b) hi rfl :),
    (fpPlain_spec (c := .fsgnjn x p rd a b) hi rfl :), (fpPlain_spec (c := .fsgnjx x p rd a b) hi rfl :), ?_, ?_,
    (fpConv_spec (c := .fcvtsd x rm rd a) hi rfl :), ?_, (fpConv_spec (c := .fcvtlf x rm p rd a) hi rfl :),
    (fpConv_spec (c := .fcvtluf x rm p rd a) hi rfl :), (fpConv_spec (c := .fcvtfl x rm p rd a) hi rfl :),
    (fpConv_spec (c := .fcvtflu x rm p rd a) hi rfl :), (fpConv_spec (c := .frint x rm p rd a) hi rfl :), ?_, ?_, ?_⟩
  · simp only [List.forall_mem_cons]
    exact ⟨(fpCmp_spec (c := .feq x p rd a b) hi rfl :), (fpCmp_spec (c := .flt x p rd a b) hi rfl :), (fpCmp_spec (c := .fle x p rd a b) hi rfl :),
      List.forall_mem_nil _⟩
  · exact (fpIssues (c := .fclass x p rd a) hi rfl rfl :).ok rfl rfl
  · exact (fpIssues (c := .fcvtds x rd a) hi rfl rfl :).ends rfl rfl
  · exact (fpIssues (c := .fmvgf x p rd a) hi rfl rfl :).ok rfl rfl
  · exact (fpIssues (c := .fmvfg x p rd a) hi rfl rfl :).ok rfl rfl
  · intro inPair pair putPair step whole fin one
    refine ⟨?_, ?_, ?_, ?_, ?_, ?_⟩
    · exact fpStepOp_spec (c := .fdsetup x p rd a b) hi rfl fun sg hw h => h.whole hw (putPair _) rfl
    · exact fpStepOp_spec (c := .fdstep x p rd b) hi rfl fun sg hw h => h.ok hw rfl
    · exact fpStepOp_spec (c := .fdfin x rm p rd a b) hi rfl fun sg hw h => h.rounds hw rfl rfl
    · exact fpStepOp_spec (c := .fssetup x p rd a) hi rfl fun sg hw h => h.whole hw (putPair _) rfl
    · exact fpStepOp_spec (c := .fsstep x p rd) hi rfl fun sg hw h => h.ok hw rfl
    · exact fpStepOp_spec (c := .fsfin x rm p rd a) hi rfl fun sg hw h => h.rounds hw rfl rfl

end Sys2Proof.Machine
end

section
/-! SUPPORT. What the service of loads and stores changes: caches, memory controllers and their registers, and of a context only whether it
waits, its acknowledgements and log, a reservation, and a machine check. -/

namespace Sys2Proof.Machine

theorem l2Ctl_not_isCacheReg (d : Nat) : ¬IsCacheReg (Reg.l2Ctl d) := by
  unfold IsCacheReg IsMcReg IsPmc Reg.l2Ctl Reg.l2Pmc Reg.oePmc Reg.l2Stat Reg.l2Erraddr
  rintro (h | (⟨e, n, hn, h⟩ | ⟨u, n, hn, h⟩) | ⟨e, h | h⟩)
  all_goals
    repeat' split at h
    all_goals omega

theorem oeCfg_not_isCacheReg (u : Nat) : ¬IsCacheReg (Reg.oeCfg u) := by
  unfold IsCacheReg IsMcReg IsPmc Reg.oeCfg Reg.l2Pmc Reg.oePmc Reg.l2Stat Reg.l2Erraddr
  rintro (h | (⟨e, n, hn, h⟩ | ⟨v, n, hn, h⟩) | ⟨e, h | h⟩)
  all_goals
    repeat' split at h
    all_goals omega

/-- Registers but for the reservation. -/
def Regs.sansResv (r : Regs) : Regs := { r with resv := none }
/-- An episode but for the reservation of its checkpoint. -/
def Episode.sansResv (e : Episode) : Episode := { e with chk := e.chk.sansResv }
/-- A context but for what the service of an access may change of it. -/
def Ctx.sansStore (c : Ctx) : Ctx :=
  { c with st := .free, wait := .none, acks := 0, log := [], async := none, miss := [], r := c.r.sansResv, epi := c.epi.map Episode.sansResv }

theorem Ctx.sansStore_of_sansAsync {c d : Ctx} (h : c.sansAsync = d.sansAsync) : c.sansStore = d.sansStore := (congrArg Ctx.sansStore h :)

/-- `t` is `s` after accesses have been served; with `load` they may have been loads, which fill the L1D and cache translations. -/
structure CacheStep (load : Bool) (s t : State) : Prop where
  eq : t = { s with free := t.free, csr := t.csr, mem := t.mem, merge := t.merge, ecc := t.ecc, ctxs := t.ctxs, execs := t.execs, l2 := t.l2,
                    tlb := t.tlb, orr := { s.orr with raised := t.orr.raised } }
  ctx : ∀ x, (t.ctx x).sansStore = (s.ctx x).sansStore
  blocked : ∀ x, ((t.ctx x).st = (s.ctx x).st ∧ (t.ctx x).wait = (s.ctx x).wait) ∨
    ((s.ctx x).wait = .room ∧ (t.ctx x).st = .ready ∧ (t.ctx x).wait = .none)
  resv : ∀ x g, (t.ctx x).r.resv = some g → (s.ctx x).r.resv = some g
  reg : ∀ a, ¬IsCacheReg a → t.reg a = s.reg a
  tlb : load = false → t.tlb = s.tlb
  l1i : load = false → ∀ u, ∀ l ∈ (t.exe u).l1i, l ∈ (s.exe u).l1i
  l1d : load = false → ∀ u, ∀ l ∈ ((t.exe u).l1d : List (Nat × Nat)), l ∈ ((s.exe u).l1d : List (Nat × Nat))

namespace CacheStep
variable {load : Bool} {s t : State}

theorem refl (s : State) : CacheStep load s s :=
  ⟨rfl, fun _ => rfl, fun _ => .inl ⟨rfl, rfl⟩, fun _ _ h => h, fun _ _ => rfl, fun _ => rfl, fun _ _ _ h => h, fun _ _ _ h => h⟩
theorem blocked_trans {u : State} (h : CacheStep load s t)
    (k : ∀ x, ((u.ctx x).st = (t.ctx x).st ∧ (u.ctx x).wait = (t.ctx x).wait) ∨
      ((t.ctx x).wait = .room ∧ (u.ctx x).st = .ready ∧ (u.ctx x).wait = .none)) (x : Nat) :
    ((u.ctx x).st = (s.ctx x).st ∧ (u.ctx x).wait = (s.ctx x).wait) ∨ ((s.ctx x).wait = .room ∧ (u.ctx x).st = .ready ∧ (u.ctx x).wait = .none) := by
  rcases h.blocked x with ⟨hst, hw⟩ | ⟨hw, hst, hn⟩
  · rw [← hst, ← hw]
    exact k x
  · rcases k x with ⟨kst, kw⟩ | ⟨kw, -⟩
    · exact .inr ⟨hw, kst.trans hst, kw.trans hn⟩
    · exact absurd (hn.symm.trans kw) nofun
theorem trans {u : State} (h : CacheStep load s t) (k : CacheStep load t u) : CacheStep load s u :=
  ⟨by have e := k.eq; rw [h.eq] at e; exact e, fun x => (k.ctx x).trans (h.ctx x), h.blocked_trans k.blocked,
    fun x g hg => h.resv x g (k.resv x g hg), fun a ha => (k.reg a ha).trans (h.reg a ha), fun e => (k.tlb e).trans (h.tlb e), fun e n l hl => h.l1i e n l (k.l1i e n l hl),
    fun e n l hl => h.l1d e n l (k.l1d e n l hl)⟩

/-- A change of neither contexts nor units. -/
theorem of_same (heq : t = { s with
      free := t.free, csr := t.csr, mem := t.mem, merge := t.merge, ecc := t.ecc, l2 := t.l2, orr := { s.orr with raised := t.orr.raised } }) (hreg : ∀ a, ¬IsCacheReg a → t.reg a = s.reg a) : CacheStep load s t := by
  have hctx (x : Nat) : t.ctx x = s.ctx x := by rw [heq]; rfl
  have hexe (u : Nat) : t.exe u = s.exe u := by rw [heq]; rfl
  exact ⟨by rw [heq], fun x => by rw [hctx], fun x => .inl (by rw [hctx]; exact ⟨rfl, rfl⟩), fun x g h => by rwa [hctx] at h, hreg, fun _ => by rw [heq], fun _ u l hl => by rwa [hexe] at hl,
    fun _ u l hl => by rwa [hexe] at hl⟩

theorem of_mcStep (h : McStep s t) : CacheStep load s t := of_same (by have := h.eq; rw [this]) fun a ha => h.reg a fun hm => ha (.inl hm)

theorem of_setReg {a : Nat} (ha : IsCacheReg a) (v : W64) : CacheStep load s (s.setReg a v) :=
  of_same rfl fun _ hb => State.reg_setReg_ne _ _ _ fun e => hb (e ▸ ha)

theorem ite {c : Prop} [Decidable c] {u : State} (h : CacheStep load s t) (k : CacheStep load s u) : CacheStep load s (if c then t else u) := by
  split
  · exact h
  · exact k

theorem foldl {α : Type} (h : CacheStep load s t) (l : List α) (f : State → α → State) (hf : ∀ t x, CacheStep load t (f t x)) :
    CacheStep load s (l.foldl f t) := List.foldlRecOn (motive := CacheStep load s) l f h fun t ht x _ => ht.trans (hf t x)

theorem setExe (h : CacheStep load s t) (u : Nat) {e : Exec} (hi : load = false → ∀ l ∈ e.l1i, l ∈ (t.exe u).l1i)
    (hd : load = false → ∀ l ∈ (e.l1d : List (Nat × Nat)), l ∈ ((t.exe u).l1d : List (Nat × Nat))) : CacheStep load s (t.setExe u e) := by
  refine h.trans ⟨rfl, fun _ => rfl, fun _ => .inl ⟨rfl, rfl⟩, fun _ _ h => h, fun _ _ => rfl, fun _ => rfl, fun hl n => ?_, fun hl n => ?_⟩
  all_goals by_cases hn : n = u
  · rw [hn, State.exe_setExe_same]
    exact hi hl
  · rw [State.exe_setExe_ne _ _ _ hn]
    exact fun _ => id
  · rw [hn, State.exe_setExe_same]
    exact hd hl
  · rw [State.exe_setExe_ne _ _ _ hn]
    exact fun _ => id

theorem setCtx (h : CacheStep load s t) (x : Nat) {c : Ctx} (hc : c.sansStore = (t.ctx x).sansStore) (hg : ∀ g, c.r.resv = some g → (t.ctx x).r.resv = some g)
    (hw : (c.st = (t.ctx x).st ∧ c.wait = (t.ctx x).wait) ∨ ((t.ctx x).wait = .room ∧ c.st = .ready ∧ c.wait = .none)) :
    CacheStep load s (t.setCtx x c) := by
  refine h.trans ⟨rfl, fun y => ?_, fun y => ?_, fun y => ?_, fun _ _ => rfl, fun _ => rfl, fun _ _ _ h => h, fun _ _ _ h => h⟩
  all_goals by_cases hy : y = x
  · rw [hy, State.ctx_setCtx_same, hc]
  · rw [State.ctx_setCtx_ne _ _ _ hy]
  · rw [hy, State.ctx_setCtx_same]
    exact hw
  · rw [State.ctx_setCtx_ne _ _ _ hy]
    exact .inl ⟨rfl, rfl⟩
  · rw [hy, State.ctx_setCtx_same]
    exact hg
  · rw [State.ctx_setCtx_ne _ _ _ hy]
    exact fun _ => id

theorem setReg (h : CacheStep load s t) {a : Nat} (ha : IsCacheReg a) (v : W64) : CacheStep load s (t.setReg a v) := h.trans (of_setReg ha v)
theorem raise (h : CacheStep load s t) (n : Nat) : CacheStep load s (t.raise n) := h.trans (of_same rfl fun _ _ => rfl)
theorem setL2 (h : CacheStep load s t) (k : Nat) (l : L2Line) : CacheStep load s (t.setL2 k l) := h.trans (of_same rfl fun _ _ => rfl)
theorem fresh (h : CacheStep load s t) : CacheStep load s t.fresh.2 := h.trans (of_same rfl fun _ _ => rfl)
theorem l2Pmc (h : CacheStep load s t) (d : Nat) {n : Nat} (hn : n < 8) : CacheStep load s (t.bump (Reg.l2Pmc d n)) := h.setReg (isCacheReg_l2Pmc d hn) _
theorem pmc (h : CacheStep load s t) (u : Nat) {n : Nat} (hn : n < 16) : CacheStep load s (t.pmc u n) := by
  unfold State.pmc
  exact (h.setReg (isCacheReg_oePmc u hn) _).ite h
theorem busRead (h : CacheStep load s t) (a n : Nat) (cls : BitVec 2) : CacheStep load s (t.busRead a n cls).1 :=
  h.trans (of_mcStep (t.busRead_step a n cls))
theorem busWrite (h : CacheStep load s t) (a : Nat) (l : List Byte) : CacheStep load s (t.busWrite a l) := h.trans (of_mcStep (t.busWrite_step a l))

/-! ### The L2 and its error state (R149–R165) -/

theorem busWritePoison (h : CacheStep load s t) (a : Nat) (l : List Byte) : CacheStep load s (t.busWritePoison a l) :=
  (h.busWrite a l).foldl _ _ fun t cw => of_mcStep ((t.mergeDrain_step cw).setEcc cw .poison)

theorem l2Ue (h : CacheStep load s t) (d line : Nat) (demand : Bool) : CacheStep load s (t.l2Ue d line demand) := by
  have hreg : CacheStep load s (((t.setRegBit (Reg.l2Stat d) 6 true).setReg (Reg.l2Erraddr d) (BitVec.ofNat 64 (line * 64))).raise d) :=
    ((h.setReg (isCacheReg_l2Stat d) _).setReg (isCacheReg_l2Erraddr d) _).raise d
  exact hreg.ite (hreg.foldl _ _ fun t x => (refl t).ite ((refl t).setCtx _ rfl (fun _ => id) (.inl ⟨rfl, rfl⟩)))

theorem poisonLine (h : CacheStep load s t) (d : Nat) (l : L2Line) (demand : Bool) : CacheStep load s (t.poisonLine d l demand) :=
  (h.ite (h.busWritePoison ..)).l2Ue ..

theorem writeBack (h : CacheStep load s t) (d : Nat) (l : L2Line) : CacheStep load s (t.writeBack d l).1 := by
  have hb := h.l2Pmc d (n := 3) (by decide)
  have hw := hb.ite (c := l.ecc = .good) (hb.l2Pmc d (n := 7) (by decide))
  have hout (c : Prop) [Decidable c] (u : State) (hu : CacheStep load s u) :
      CacheStep load s (if c then (u.l2Ue d l.line false, false) else (u.busWrite (l.line * 64) (lineBytes l.data 0 64), true)).1 := by
    split <;> dsimp only
    · exact hu.l2Ue ..
    · exact hu.busWrite ..
  unfold State.writeBack
  dsimp only
  split
  · exact hout _ _ hw
  · exact hout _ _ hw
  · exact hb.poisonLine ..

theorem l1dDrop (h : CacheStep load s t) (d line : Nat) (keep : Option Nat) : CacheStep load s (t.l1dDrop d line keep) :=
  h.foldl _ _ fun t u => by
    dsimp only
    exact (((refl t).setExe u (e := (t.exe u).dropL1d line) (fun _ _ h => h) fun _ _ hl => (List.mem_filter.1 hl).1).l2Pmc d (n := 4) (by decide)).ite (refl t)
theorem l1iDrop (h : CacheStep load s t) (d line : Nat) : CacheStep load s (t.l1iDrop d line) :=
  h.foldl _ _ fun t u => (refl t).setExe u (fun _ _ hl => List.mem_of_mem_filter hl) fun _ _ h => h
theorem sideDrop (h : CacheStep load s t) (d line : Nat) : CacheStep load s (t.sideDrop d line) :=
  h.ite (h.foldl _ _ fun t u => (refl t).setExe u (fun _ _ h => h) fun _ _ h => h)
theorem sideOwn (h : CacheStep load s t) (u x line : Nat) : CacheStep load s (t.sideOwn u x line) := by
  unfold State.sideOwn
  extract_lets e mine n v
  have hv : CacheStep load s v := h.setExe u (fun _ _ h => h) fun _ _ h => h
  exact hv.ite (hv.setReg (isCacheReg_l2Pmc (domOf u) (n := 6) (by decide)) _)
theorem sideStore (h : CacheStep load s t) (d line : Nat) : CacheStep load s (t.sideStore d line) :=
  (h.sideDrop d line).ite ((h.sideDrop d line).setReg (isCacheReg_l2Pmc d (n := 6) (by decide)) _)
theorem l2Lookup (h : CacheStep load s t) (d : Nat) (hit : Bool) : CacheStep load s (t.l2Lookup d hit) :=
  (h.l2Pmc d (by decide)).l2Pmc d (by cases hit <;> decide)

theorem l2Check (h : CacheStep load s t) (d line : Nat) : CacheStep load s (t.l2Check d line).1 := by
  unfold State.l2Check
  dsimp only
  split
  · exact h
  · split
    · exact h
    · exact (h.setL2 ..).l2Pmc d (by decide)
    · exact (((h.poisonLine ..).ite h).l1dDrop ..).setL2 ..

theorem l2Evict (h : CacheStep load s t) (d k : Nat) : CacheStep load s (t.l2Evict d k) := by
  unfold State.l2Evict
  exact h.ite ((((h.writeBack ..).ite h).l1dDrop ..).setL2 ..)

theorem l2Victim (h : CacheStep load s t) (d line : Nat) (ways : List Nat) : CacheStep load s (t.l2Victim d line ways).2 := by
  unfold State.l2Victim
  dsimp only
  split
  · exact h
  · split
    · exact h
    · exact h.fresh

theorem l2Alloc (h : CacheStep load s t) (d line : Nat) (bid : BitVec 12) (data : Line) (dirty : Bool) :
    CacheStep load s (t.l2Alloc d line bid data dirty) := by
  unfold State.l2Alloc
  have hv := h.l2Victim d line (t.fillWays d bid)
  split
  · exact h
  · dsimp only
    split
    · exact hv
    · exact (hv.l2Evict ..).setL2 ..

theorem cleanLine (h : CacheStep load s t) (d line : Nat) (x : Option Nat) : CacheStep load s (t.cleanLine d line x) := by
  unfold State.cleanLine
  have hb (l : L2Line) := h.writeBack d l
  dsimp only
  (repeat' split)
  · exact h
  · exact h
  · exact ((hb _).l1dDrop ..).setL2 ..
  · exact (hb _).setL2 ..
  · exact ((hb _).setL2 ..).setCtx _ rfl (fun _ => id) (.inl ⟨rfl, rfl⟩)

theorem invLine (h : CacheStep load s t) (d line : Nat) (arr : Bool) : CacheStep load s (t.invLine d line arr) := by
  unfold State.invLine
  have hd := ((h.l1iDrop d line).l1dDrop d line none).sideDrop d line
  dsimp only
  split
  · exact hd
  · exact hd.setL2 ..

theorem mopLine (h : CacheStep load s t) (m : Mop) (d line : Nat) (x : Option Nat) : CacheStep load s (t.mopLine m d line x) := by
  cases m with
  | cln => exact h.cleanLine ..
  | inv => exact h.invLine ..
  | cli => exact (h.cleanLine ..).invLine ..

theorem mopSlot (h : CacheStep load s t) (m : Mop) (d set way : Nat) (x : Option Nat) : CacheStep load s (t.mopSlot m d set way x) := by
  unfold State.mopSlot
  exact (h.mopLine ..).ite h

theorem lockFillLine (h : CacheStep load s t) (d way line : Nat) : CacheStep load s (t.lockFillLine d way line).1 := by
  unfold State.lockFillLine
  dsimp only
  split
  · split
    · exact h
    · exact ((h.l2Evict ..).setL2 ..).setL2 ..
  · split
    · exact (h.l2Evict ..).busRead ..
    · exact (((h.l2Evict ..).busRead ..).setL2 ..).l2Pmc d (by decide)

/-! ### Stores reach the L2 or memory (R150–R153) -/

theorem ctxBusWrite (h : CacheStep load s t) (x a : Nat) (l : List Byte) : CacheStep load s (t.ctxBusWrite x a l) := (h.busWrite a l).setCtx x rfl (fun _ => id) (.inl ⟨rfl, rfl⟩)

theorem sansStore_dropResv (c : Ctx) (g : Nat) : let drop (r : Regs) : Regs := if r.resv = some g then { r with resv := none } else r
    ({ c with r := drop c.r, epi := c.epi.map fun e => { e with chk := drop e.chk } } : Ctx).sansStore = c.sansStore := by
  intro drop
  have hdrop (r : Regs) : (drop r).sansResv = r.sansResv := by
    unfold drop
    split <;> rfl
  unfold Ctx.sansStore
  cases c.epi <;> simp [Episode.sansResv, hdrop]

theorem resv_of_dropResv (r : Regs) (g : Nat) {g' : Nat} (h : (if r.resv = some g then { r with resv := none } else r).resv = some g') :
    r.resv = some g' := by
  split at h
  · cases h
  · exact h

theorem clearResv (h : CacheStep load s t) (d g : Nat) (by_ : Option Nat) : CacheStep load s (t.clearResv d g by_) :=
  h.foldl _ _ fun t x => (refl t).ite ((refl t).setCtx x (sansStore_dropResv _ g) (fun _ => resv_of_dropResv _ g) (.inl ⟨rfl, rfl⟩))

theorem logLine (h : CacheStep load s t) (x d line : Nat) : CacheStep load s (t.logLine x d line) := by
  unfold State.logLine
  dsimp only
  (repeat' split)
  · exact h
  · exact h.setCtx x rfl (fun _ => id) (.inl ⟨rfl, rfl⟩)
  · exact (h.cleanLine ..).setCtx x rfl (fun _ => id) (.inl ⟨rfl, rfl⟩)
  · exact h.setCtx x rfl (fun _ => id) (.inl ⟨rfl, rfl⟩)

theorem storeHit (h : CacheStep load s t) (u : Nat) (e : SbEntry) (w : Nat) : CacheStep load s (t.storeHit u e w) := by
  unfold State.storeHit
  dsimp only
  split
  · exact ((h.l1dDrop ..).setL2 ..).ctxBusWrite ..
  · exact ((h.l1dDrop ..).setL2 ..).logLine ..

theorem performStore_of_clearResv {u : Nat} {e : SbEntry} (hr : CacheStep load s (t.clearResv (domOf u) (e.addr / 64) (some e.ctx))) :
    CacheStep load s (t.performStore u e) := by
  have ho := hr.ctxBusWrite e.ctx e.addr e.data
  have hl (hit : Bool) := (((hr.sideStore (domOf u) (e.addr / 64)).l2Check (domOf u) (e.addr / 64)).l2Lookup (domOf u) hit)
  unfold State.performStore
  dsimp only
  (repeat' split)
  · exact ho
  · exact ho.sideOwn ..
  · exact ho
  · exact (hl _).storeHit ..
  · exact ((hl _).busRead ..).ctxBusWrite ..
  · exact (((hl _).busRead ..).l2Alloc ..).logLine ..
  · exact (hl _).ctxBusWrite ..
theorem performStore (h : CacheStep load s t) (u : Nat) (e : SbEntry) : CacheStep load s (t.performStore u e) :=
  performStore_of_clearResv (h.clearResv ..)

theorem wakeAll (h : CacheStep load s t) (xs : List Nat) : CacheStep load s (t.wakeAll xs .room) :=
  h.foldl _ _ fun t x => by
    dsimp only
    split
    · rename_i hw
      exact (refl t).setCtx x rfl (fun _ => id) (.inr ⟨hw, rfl, rfl⟩)
    · exact refl t

theorem sbDrain1 (h : CacheStep load s t) (u : Nat) : CacheStep load s (t.sbDrain1 u) := by
  unfold State.sbDrain1
  dsimp only
  split
  · exact h
  · rename_i e l _
    have hs : CacheStep load s (t.setExe u { t.exe u with sb := l }) := h.setExe u (fun _ _ h => h) fun _ _ h => h
    exact (hs.performStore u e).wakeAll (ctxsOf u)

theorem sbDrain (h : CacheStep load s t) (u : Nat) : CacheStep load s (t.sbDrain u) := h.foldl _ _ fun t _ => (refl t).sbDrain1 u

theorem ctxFence (h : CacheStep load s t) (x : Nat) : CacheStep load s (t.ctxFence x) := by
  unfold State.ctxFence
  extract_lets u v w
  have hw : CacheStep load s w := (h.sbDrain u).foldl _ _ fun t l => (refl t).cleanLine ..
  clear_value w
  exact hw.setCtx x rfl (fun _ => id) (.inl ⟨rfl, rfl⟩)

/-! ### Loads (R135, R146–R153) and translations (R70–R72) -/

theorem of_look {tr : Bool} (h : CacheLook tr s t) : CacheStep true s t :=
  ⟨h.eq, fun x => Ctx.sansStore_of_sansAsync (h.ctx x),
    fun x => .inl ⟨(congrArg Ctx.st (h.ctx x) :), (congrArg Ctx.wait (h.ctx x) :)⟩,
    fun x g hg => by rwa [show (t.ctx x).r = (s.ctx x).r from (congrArg Ctx.r (h.ctx x) :)] at hg, h.reg, nofun, nofun, nofun⟩

theorem demandRead (h : CacheStep load s t) (a n : Nat) (cls : BitVec 2) : CacheStep load s (t.demandRead a n cls).1 := by
  unfold State.demandRead
  split
  · exact h
  · exact h.busRead ..

theorem xlate (h : CacheStep true s t) (x : Nat) (k : XKind) (a : W64) : CacheStep true s (t.xlate x k a).1 :=
  h.trans (of_look ((CacheLook.refl t).xlate x k a))

theorem setExeLoad (h : CacheStep true s t) (u : Nat) (e : Exec) : CacheStep true s (t.setExe u e) := h.setExe u nofun nofun

theorem l1dAlloc (h : CacheStep true s t) (u line : Nat) (bid : BitVec 12) : CacheStep true s (t.l1dAlloc u line bid) := by
  unfold State.l1dAlloc
  exact h.ite (h.fresh.setExeLoad ..)

theorem demandFill (h : CacheStep true s t) (u x line : Nat) : CacheStep true s (t.demandFill u x line).1 := by
  have hq := h.l2Check (domOf u) line
  unfold State.demandFill
  dsimp only
  (repeat' split) <;> dsimp only
  · exact hq
  · exact hq.l1dAlloc ..
  · exact hq.demandRead ..
  · exact ((hq.demandRead ..).l2Alloc ..).l1dAlloc ..

theorem sideUse (h : CacheStep true s t) (u x line : Nat) : CacheStep true s (t.sideUse u x line) := h.setExeLoad ..
theorem sideAdd (h : CacheStep true s t) (u : Nat) (e : SideEntry) : CacheStep true s (t.sideAdd u e) := by
  unfold State.sideAdd
  exact h.ite (((h.pmc u (by decide)).ite h).setExeLoad ..)

theorem loadDirect (h : CacheStep true s t) (x a n : Nat) : CacheStep true s (State.loadLine.direct x a n t).1 := by
  unfold State.loadLine.direct
  dsimp only
  split <;> exact h.demandRead ..

theorem sideServe (h : CacheStep true s t) (u x line : Nat) (f : List SideEntry → List SideEntry) (d : Nat) (data : Line) :
    let v := if (t.l2Way d line).isSome then t else t.l2Alloc d line (t.ctx x).bid data false
    let w := v.l1dAlloc u line (v.ctx x).bid
    CacheStep true s (w.setExe u { w.exe u with side := f (w.exe u).side }) :=
  CacheStep.setExeLoad ((h.ite (h.l2Alloc ..)).l1dAlloc ..) _ _

theorem loadGo (h : CacheStep true s t) (u x a n : Nat) (attr : Attr) (fill : Bool) (d line : Nat) :
    CacheStep true s (State.loadLine.go u x a n attr fill t d line).1 := by
  unfold State.loadLine.go
  split
  · exact h.loadDirect ..
  split
  · extract_lets v
    have hv : CacheStep true s v := h.pmc u (by decide)
    split
    · exact hv.sideUse ..
    · exact hv.sideServe ..
  split
  · split
    · exact h.loadDirect ..
    · extract_lets r
      have hr : CacheStep true s r.1 := h.demandRead ..
      split
      · exact hr
      · exact hr.sideAdd ..
  split
  · exact h.loadDirect ..
  split
  · exact h.pmc u (by decide)
  extract_lets q v hit w z r
  have hq : CacheStep true s q.1 := h.l2Check d line
  have hz : CacheStep true s z := ((hq.pmc u (n := 9) (by decide)).ite hq).l2Lookup d _
  have hr : CacheStep true s r.1 := hz.demandFill ..
  clear_value r z w hit
  split
  · exact hq
  split
  · exact hz.l1dAlloc ..
  split
  · exact hz
  split
  · exact hr
  · exact hr

theorem loadLine (h : CacheStep true s t) (u x a n : Nat) (attr : Attr) (fill : Bool) : CacheStep true s (t.loadLine u x a n attr fill).1 := by
  unfold State.loadLine
  dsimp only
  split
  · split
    · exact h
    · exact (h.sbDrain u).loadGo ..
  · exact ((h.sbDrain u).ite h).loadGo ..

/-! ### What is read of the state behind a service -/

variable (h : CacheStep load s t)
include h

theorem live {x : Nat} (hx : (s.ctx x).st ≠ .free) : (t.ctx x).st ≠ .free := by
  rcases h.blocked x with ⟨hst, -⟩ | ⟨-, hst, -⟩
  · rwa [hst]
  · rw [hst]
    exact nofun
theorem wait (x : Nat) : (t.ctx x).wait = (s.ctx x).wait ∨ (t.ctx x).wait = .none := (h.blocked x).imp (·.2) (·.2.2)
theorem r (x : Nat) : (t.ctx x).r.sansResv = (s.ctx x).r.sansResv := (congrArg Ctx.r (h.ctx x) :)
theorem pc (x : Nat) : (t.ctx x).r.pc = (s.ctx x).r.pc := (congrArg (·.r.pc) (h.ctx x) :)
theorem npc (x : Nat) : (t.ctx x).r.npc = (s.ctx x).r.npc := (congrArg (·.r.npc) (h.ctx x) :)
theorem instret (x : Nat) : (t.ctx x).instret = (s.ctx x).instret := (congrArg Ctx.instret (h.ctx x) :)
theorem bid (x : Nat) : (t.ctx x).bid = (s.ctx x).bid := (congrArg Ctx.bid (h.ctx x) :)
theorem priv (x : Nat) : (t.ctx x).priv = (s.ctx x).priv := (congrArg Ctx.priv (h.ctx x) :)
theorem job (x : Nat) : (t.ctx x).job = (s.ctx x).job := (congrArg Ctx.job (h.ctx x) :)
theorem epi_isNone (x : Nat) : (t.ctx x).epi.isNone = (s.ctx x).epi.isNone := by
  have := congrArg (fun c : Ctx => c.epi.isNone) (h.ctx x)
  simpa [Ctx.sansStore] using this
theorem jobs : t.jobs = s.jobs := by rw [h.eq]
theorem ctl : t.ctl = s.ctl := by rw [h.eq]

theorem g (x n : Nat) : t.g x n = s.g x n := by
  unfold State.g
  rw [show (t.ctx x).r.g = (s.ctx x).r.g from (congrArg (·.r.g) (h.ctx x) :)]
theorem v (x n : Nat) : t.v x n = s.v x n := by
  unfold State.v
  rw [show (t.ctx x).r.v = (s.ctx x).r.v from (congrArg (·.r.v) (h.ctx x) :)]
theorem p (x n : Nat) : t.p x n = s.p x n := by
  unfold State.p
  rw [show (t.ctx x).r.p = (s.ctx x).r.p from (congrArg (·.r.p) (h.ctx x) :)]
theorem xcsr (x n : Nat) : t.xcsr x n = s.xcsr x n := by
  unfold State.xcsr
  rw [show (t.ctx x).r.csr = (s.ctx x).r.csr from (congrArg (·.r.csr) (h.ctx x) :)]

theorem classT (x : Nat) : t.classT x = s.classT x := by
  unfold State.classT State.regBit
  rw [h.reg _ (oeCfg_not_isCacheReg _)]
theorem f (x n : Nat) : t.f x n = s.f x n := by
  unfold State.f
  rw [h.classT, h.v, show (t.ctx x).r.f = (s.ctx x).r.f from (congrArg (·.r.f) (h.ctx x) :)]
theorem l2En (d : Nat) : t.l2En d = s.l2En d := by
  unfold State.l2En State.regBit
  rw [h.reg _ (l2Ctl_not_isCacheReg d), h.ctl]
theorem keepsRegs (x : Nat) (dst : List Loc) (csrs : List Nat) : s.keepsRegs t x dst csrs :=
  ⟨fun n _ => h.g x n, fun n _ _ => ⟨h.f x n, h.v x n⟩, fun n _ => h.p x n, fun n _ => h.xcsr x n⟩

end CacheStep

end Sys2Proof.Machine
end

section
/-! SUPPORT. System instructions (R58, R72, R76, R181): fences, WAIT, TLBINV and JEND. -/

namespace Sys2Proof.Machine

variable {x : Nat} {s t : State}

/-! ### Registers behind a completion -/

theorem State.g_finish (t : State) (x n : Nat) (wide : Bool) : (t.finish x wide).g x n = t.g x n :=
  ((OwnStep.refl (dst := []) (csrs := []) t).finish wide).keepsRegs.1 n List.not_mem_nil

theorem State.sb_finish (t : State) (x u : Nat) (wide : Bool) : ((t.finish x wide).exe u).sb = (t.exe u).sb :=
  (congrArg Exec.sb (((OwnStep.refl (x := x) (dst := []) (csrs := []) t).finish wide).exe u) :)

theorem State.tlb_finish (t : State) (x : Nat) (wide : Bool) : (t.finish x wide).tlb = t.tlb := by
  rw [((OwnStep.refl (x := x) (dst := []) (csrs := []) t).finish wide).eq]

theorem State.finish_unit (hx : ¬2112 ≤ x) (t : State) (wide : Bool) : t.finish x wide = t.retire x wide := if_neg hx

/-! ### Fences (R76, R151) -/

theorem State.ctxFence_sb (s : State) (x : Nat) : ((s.ctxFence x).exe (unitOf x)).sb = [] := by
  have h : Steady (s.sbDrain (unitOf x)) (s.ctxFence x) := by
    unfold State.ctxFence
    extract_lets u v w
    have hw : Steady v w := (Steady.refl v).foldl _ _ fun t l => (Steady.refl t).cleanLine ..
    clear_value w
    exact hw.setCtx x rfl
  rw [h.sb, State.sbDrain_sb]

theorem State.ctxFence_log (s : State) (x : Nat) : ((s.ctxFence x).ctx x).log = [] := by
  unfold State.ctxFence
  dsimp only
  rw [State.ctx_setCtx_same]

/-- Behind the buffers of instructions, nothing has changed but that contexts fetch again. -/
theorem State.dropIbuf_spec (s : State) (xs : List Nat) : (s.dropIbuf xs).execs = s.execs ∧ (s.dropIbuf xs).tlb = s.tlb ∧
    ∀ y, ((s.dropIbuf xs).ctx y).r = (s.ctx y).r := by
  refine List.foldlRecOn (motive := fun t : State => t.execs = s.execs ∧ t.tlb = s.tlb ∧ ∀ y, (t.ctx y).r = (s.ctx y).r) xs _
    ⟨rfl, rfl, fun _ => rfl⟩ fun t ⟨he, ht, hr⟩ z _ => ⟨he, ht, fun y => ?_⟩
  by_cases hy : y = z
  · rw [hy, State.ctx_setCtx_same]
    exact hr z
  · rw [State.ctx_setCtx_ne _ _ _ hy, hr]

theorem State.g_dropIbuf (s : State) (xs : List Nat) (x n : Nat) : (s.dropIbuf xs).g x n = s.g x n := by
  unfold State.g
  rw [(s.dropIbuf_spec xs).2.2]

/-- What a fence has done before its acknowledgements. -/
theorem State.fenceStart_spec (t : State) (x : Nat) (arg : BitVec 6) : let f := t.fenceStart x arg
    let orders := arg.getLsbD 5 || arg.getLsbD 4 || (arg.getLsbD 1 && (arg.getLsbD 2 || arg.getLsbD 3))
    (orders = true → (f.exe (unitOf x)).sb = []) ∧ (arg.getLsbD 5 = true → (f.exe (unitOf x)).l1i = []) ∧
      (arg.getLsbD 4 = true → (f.ctx x).log = []) ∧ (orders = false → f = t) ∧ ∀ n, f.g x n = t.g x n := by
  intro f orders
  let a := if orders then t.sbDrain (unitOf x) else t
  let b := if arg.getLsbD 5 then (a.setExe (unitOf x) { a.exe (unitOf x) with l1i := [] }).dropIbuf [x] else a
  have hf : f = if arg.getLsbD 4 then b.ctxFence x else b := rfl
  have ha : orders = true → (a.exe (unitOf x)).sb = [] := fun h => by
    unfold a
    rw [if_pos h, State.sbDrain_sb]
  have hag (n : Nat) : a.g x n = t.g x n := (((CacheStep.refl (load := true) t).sbDrain (unitOf x)).ite (.refl t)).g x n
  have hexe (h : arg.getLsbD 5 = true) : b.exe (unitOf x) = { a.exe (unitOf x) with l1i := [] } := by
    unfold b
    rw [if_pos h, State.exe_of_execs (State.dropIbuf_spec _ _).1, State.exe_setExe_same]
  have hb : orders = true → (b.exe (unitOf x)).sb = [] := fun h => by
    cases h5 : arg.getLsbD 5
    · unfold b
      rw [if_neg (by rw [h5]; decide), ha h]
    · rw [hexe h5]
      exact ha h
  have hbg (n : Nat) : b.g x n = t.g x n := by
    unfold b
    split
    · rw [State.g_dropIbuf]
      exact hag n
    · exact hag n
  have hstep := (CacheStep.refl (load := false) b).ctxFence x
  rw [hf]
  refine ⟨fun h => ?_, fun h => ?_, fun h => ?_, fun h => ?_, fun n => ?_⟩
  · split
    · exact State.ctxFence_sb ..
    · exact hb h
  · have hnil : (b.exe (unitOf x)).l1i = [] := by rw [hexe h]
    split
    · exact List.eq_nil_iff_forall_not_mem.2 fun l hl => by simpa [hnil] using hstep.l1i rfl (unitOf x) l hl
    · exact hnil
  · rw [if_pos h, State.ctxFence_log]
  · have h5 : arg.getLsbD 5 = false := by unfold orders at h; simp_all
    have h4 : arg.getLsbD 4 = false := by unfold orders at h; simp_all
    unfold b a
    simp only [h, h4, h5, Bool.false_eq_true, if_false]
  · split
    · rw [hstep.g, hbg]
    · exact hbg n

/-! ### An instruction that its profile refuses (R34) -/

theorem issue_profTrap {prof : Prof} {sg : Sig} {body : State → Eff} {k : Trap} (h : s.canIssue x prof false sg.wide = true) (hx : ¬2112 ≤ x)
    (hn : sg.noSlot = false) (hk : profTrap x sg = some k) : issue x sg body s = (((s.turn x).fetch x sg.wide).1).takeTrap x k := by
  obtain ⟨hst, hepi, hannul, ⟨hclock, hdrain⟩, hasync, -, -, m, hf⟩ := State.canIssue_unit h hx
  have hd : s.drainReach x = s := by
    unfold State.drainReach
    simp only [hdrain, Bool.false_eq_true, if_false]
  have ht : (s.pmc (unitOf x) 1).setExe (unitOf x) { (s.pmc (unitOf x) 1).exe (unitOf x) with ptr := x % 16 } = s.turn x := rfl
  unfold issue issueWith issueGo
  simp only [hst, hepi, hasync, hannul, hclock, hx, hd, ht, true_or, if_true, if_false, ne_eq, not_true_eq_false, false_and,
    and_false, Option.map_none, Option.getD_none, Bool.false_eq_true]
  unfold issueNow
  simp only [hf, hn, hk, Bool.false_and, Bool.false_eq_true, if_false]

/-! ### TLBINV (R72) -/

/-- A translation that TLBINV keeps differs from what it names. -/
theorem not_tlbHit_iff (arg : BitVec 2) (va : W64) (asid : BitVec 16) (e : TlbEntry) : (!tlbHit arg va asid e) = true ↔
    (arg.getLsbD 0 = false ∧ e.asid ≠ asid ∧ bitAt e.entry 3 = false) ∨ (arg.getLsbD 1 = false ∧ va.toNat / pageSize e.level ≠ e.vpn) := by
  rw [tlbHit, Bool.not_and, Bool.or_eq_true, Bool.not_or, Bool.not_or, Bool.not_or]
  simp [and_assoc]

/-! ### JEND (R181) -/

theorem State.job_setLink (s : State) (j k : Nat) (l : SLink) : (s.setLink j k l).job j = { s.job j with links := (s.job j).links.set k l } :=
  State.job_setJob_same ..

/-- A step in a job's links alone: its stages, its number of links and every context stay. -/
structure LinkStep (j : Nat) (s t : State) : Prop where
  ctxs : t.ctxs = s.ctxs
  stages : (t.job j).stages = (s.job j).stages
  links : (t.job j).links.length = (s.job j).links.length

namespace LinkStep
variable {j : Nat} {u : State}

theorem refl (s : State) : LinkStep j s s := ⟨rfl, rfl, rfl⟩
theorem trans (h : LinkStep j s t) (k : LinkStep j t u) : LinkStep j s u := ⟨k.ctxs.trans h.ctxs, k.stages.trans h.stages, k.links.trans h.links⟩
theorem setLink (h : LinkStep j s t) (k : Nat) (l : SLink) : LinkStep j s (t.setLink j k l) :=
  h.trans ⟨rfl, by rw [State.job_setLink], by rw [State.job_setLink]; exact List.length_set⟩
theorem addReg (h : LinkStep j s t) (a n : Nat) : LinkStep j s (t.addReg a n) := h.trans ⟨rfl, rfl, rfl⟩

theorem jendMarkers (h : LinkStep j s t) (stage : Nat) : LinkStep j s (t.jendMarkers j stage) :=
  List.foldlRecOn (motive := LinkStep j s) _ _ h fun v hv k _ => by
    dsimp only
    split
    · exact hv.setLink _ _
    · exact hv

end LinkStep

theorem foldl_credit_dst (fs : List Flit) (l : SLink) : (fs.foldl SLink.credit l).dst = l.dst :=
  List.foldlRecOn (motive := fun m : SLink => m.dst = l.dst) fs _ rfl fun m hm f _ => by
    unfold SLink.credit
    split
    · exact hm
    · exact hm

theorem State.link_eq_getElem {j k : Nat} (h : k < (s.job j).links.length) : s.link j k = (s.job j).links[k] := by
  rw [State.link, List.getD_eq_getElem _ _ h]

/-- What a link into a stage becomes when its flits are discarded. -/
def SLink.drained (l : SLink) : SLink := { l.buf.foldl SLink.credit l with buf := [] }

theorem SLink.drained_dst (l : SLink) : l.drained.dst = l.dst := foldl_credit_dst l.buf l

/-- The flits waiting for a stage are gone from its links. -/
theorem State.jendDiscard_spec (s : State) (j stage : Nat) : LinkStep j s (s.jendDiscard j stage) ∧
    ∀ l ∈ ((s.jendDiscard j stage).job j).links, l.dst = stage → l.buf = [] := by
  have key (n : Nat) (hn : n ≤ (s.job j).links.length) : let t := (List.range n).foldl (fun s k =>
      let l := s.link j k
      if l.dst = stage then (s.setLink j k { l.buf.foldl SLink.credit l with buf := [] }).addReg
        (Reg.oeLinkDrop (unitOf ((s.job j).stageOf l.src).ctx)) l.buf.length else s) s
      LinkStep j s t ∧ ∀ m, m < n → (t.link j m).dst = stage → (t.link j m).buf = [] := by
    induction n with
    | zero => exact ⟨.refl s, nofun⟩
    | succ n ih =>
      rw [List.range_succ, List.foldl_append, List.foldl_cons, List.foldl_nil]
      obtain ⟨hstep, hbuf⟩ := ih (by omega)
      generalize (List.range n).foldl _ s = t at hstep hbuf
      dsimp only
      split
      · refine ⟨(hstep.setLink _ _).addReg _ _, fun m hm hdst => ?_⟩
        have hlink : ∀ (a c : Nat) (l : SLink), ((t.setLink j n l).addReg a c).link j m = ((t.job j).links.set n l).getD m
            { src := 0, srcPort := 0, dst := 0, dstPort := 0, outPhys := 0, inPhys := 0 } := fun a c l => by
          show (State.setLink t j n l).link j m = _
          rw [State.link, State.job_setLink]
        rw [hlink] at hdst ⊢
        by_cases h : m = n
        · rw [h, List.getD_eq_getElem?_getD, List.getElem?_set_self (by rw [hstep.links]; omega)]
          rfl
        · rw [List.getD_eq_getElem?_getD, List.getElem?_set_ne (Ne.symm h), ← List.getD_eq_getElem?_getD] at hdst ⊢
          exact hbuf m (by omega) hdst
      · rename_i hne
        refine ⟨hstep, fun m hm hdst => ?_⟩
        by_cases h : m = n
        · exact absurd (h ▸ hdst) hne
        · exact hbuf m (by omega) hdst
  obtain ⟨hstep, hbuf⟩ := key _ (Nat.le_refl _)
  refine ⟨hstep, fun l hl hdst => ?_⟩
  obtain ⟨m, hm, rfl⟩ := List.getElem_of_mem hl
  rw [← State.link_eq_getElem hm] at hdst ⊢
  exact hbuf m (hm.trans_eq hstep.links) hdst

/-- A stage of a job with its JEND value. -/
def Job.endStage (b : Job) (n : Nat) (w : W64) : Job := { b with stages := b.stages.set n { b.stageOf n with ended := true, jend := w } }
/-- What JEND leaves behind its markers and discards. -/
def State.closeStage (s : State) (x j n : Nat) (w : W64) : State :=
  let t := s.setJob j ((s.job j).endStage n w)
  t.setCtx x { t.ctx x with st := .drain, wait := .none }

theorem State.jendEnd_eq (s : State) (x : Nat) (w : W64) : let r := s.retire x
    s.jendEnd x w = ((r.jendMarkers (r.ctx x).job (r.ctx x).stage).jendDiscard (r.ctx x).job (r.ctx x).stage).closeStage x (r.ctx x).job (r.ctx x).stage w := rfl

theorem State.job_closeStage (s : State) (x j n : Nat) (w : W64) : (s.closeStage x j n w).job j = (s.job j).endStage n w :=
  State.job_setJob_same s j _
theorem State.ctx_closeStage (s : State) (x j n : Nat) (w : W64) : (s.closeStage x j n w).ctx x = { s.ctx x with st := .drain, wait := .none } :=
  State.ctx_setCtx_same _ _ _

theorem Job.stageOf_endStage {b : Job} {n : Nat} (h : n < b.stages.length) (w : W64) :
    ((b.endStage n w).stageOf n).ended = true ∧ ((b.endStage n w).stageOf n).jend = w := by
  unfold Job.endStage
  rw [Job.stageOf, List.getD_eq_getElem?_getD, List.getElem?_set_self h]
  exact ⟨rfl, rfl⟩

/-- The end of a stage: the context, its stage and the links into it. -/
theorem State.jendEnd_spec (hx : x < 2112) (he : (s.ctx x).epi.isNone = true) (w : W64) : let c := s.ctx x
    let v := s.jendEnd x w
    (v.ctx x).st = .drain ∧ (v.ctx x).instret = c.instret + 1 ∧
      (c.stage < (s.job c.job).stages.length → ((v.job c.job).stageOf c.stage).ended = true ∧ ((v.job c.job).stageOf c.stage).jend = w) ∧
      ∀ l ∈ (v.job c.job).links, l.dst = c.stage → l.buf = [] := by
  intro c v
  have hctx : (s.retire x).ctx x = (s.ctx x).moved := by
    rw [← State.finish_unit (Nat.not_le.2 hx)]
    exact (State.finish_spec hx he).2.2.1
  have hjobs : (s.retire x).jobs = s.jobs := by
    rw [← State.finish_unit (Nat.not_le.2 hx), ((OwnStep.refl (x := x) (dst := []) (csrs := []) s).finish false).eq]
  have hv : v = (((s.retire x).jendMarkers c.job c.stage).jendDiscard c.job c.stage).closeStage x c.job c.stage w := by
    unfold v
    rw [State.jendEnd_eq, hctx]
    rfl
  obtain ⟨hstep, hbuf⟩ := ((s.retire x).jendMarkers c.job c.stage).jendDiscard_spec c.job c.stage
  replace hstep := ((LinkStep.refl (s.retire x)).jendMarkers (j := c.job) c.stage).trans hstep
  clear_value v
  generalize ((s.retire x).jendMarkers c.job c.stage).jendDiscard c.job c.stage = d at hv hstep hbuf
  have hd : d.ctx x = (s.ctx x).moved := by
    rw [State.ctx, hstep.ctxs]
    exact hctx
  have hlen : (d.job c.job).stages.length = (s.job c.job).stages.length := by
    rw [hstep.stages, State.job, hjobs]
    rfl
  rw [hv, State.job_closeStage, State.ctx_closeStage, hd]
  exact ⟨rfl, rfl, fun h => Job.stageOf_endStage (by rwa [hlen]) w, hbuf⟩

/-! ### The obligation -/

/-- A context of an engine or a control core that may issue is in no run-ahead episode when its effect starts. -/
theorem State.epi_start_unit {prof : Prof} {noSlot wide : Bool} (h : s.canIssue x prof noSlot wide = true) (hx : ¬2112 ≤ x) :
    ((s.start x wide).ctx x).epi = none := by
  have he := (congrArg Ctx.epi (((Fetched.refl s).start wide).own (x := x)) :)
  exact he.trans (State.canIssue_unit h hx).2.1

theorem encSys_wait : ((encSys 5 0 0 0).setWidth 64 : W64) = 0xE0000140 := by decide

theorem State.profK_lt (h : s.canIssue x profK false false = true) : x < 2112 := by
  by_contra hx
  obtain ⟨-, -, -, hp⟩ := State.canIssue_sieve h (Nat.not_lt.1 hx)
  cases hp

/-- WAIT at K or M (R58). -/
theorem wait_spec {x : CtxId} (h : s.canIssue (ctxIdx x) profK false false = true) (hp : ((s.start (ctxIdx x) false).ctx (ctxIdx x)).priv ≠ .u) :
    let i := ctxIdx x
    let f := (s.start i false).finish i false
    exec (.wait x) s = .next (if (f.ctx i).async.isSome || (f.htOffer (i - 2048)).isSome then f
      else f.setCtx i { f.ctx i with st := .waitUnit, wait := .wfi }) := by
  intro i f
  have hf : f = (s.start i false).retire i := State.finish_unit (Nat.not_le.2 (State.profK_lt h)) _ _
  rw [hf]
  exact congrArg _ (issue_done h (if_neg hp))

/-- TLBINV at K or M (R58, R72). -/
theorem tlbinv_spec {x : CtxId} (arg : BitVec 2) (rs1 rs2 : Reg5) (h : s.canIssue (ctxIdx x) profK false false = true)
    (hp : ((s.start (ctxIdx x) false).ctx (ctxIdx x)).priv ≠ .u) : let i := ctxIdx x
    let t := s.start i false
    let k := coreOf i
    ∃ v : State, exec (.tlbinv x arg rs1 rs2) s = .next v ∧ (v.exe (unitOf i)).sb = [] ∧
      (∀ e, e ∈ Tab.get [] v.tlb k ↔ e ∈ Tab.get [] t.tlb k ∧ (!tlbHit arg (t.g i rs1.toNat) ((t.g i rs2.toNat).setWidth 16) e) = true) ∧
      (∀ j, j ≠ k → Tab.get [] v.tlb j = Tab.get [] t.tlb j) ∧ ∀ n, v.g i n = t.g i n := by
  intro i t k
  let keep (l : List TlbEntry) : List TlbEntry := l.filter fun e => !tlbHit arg (t.g i rs1.toNat) ((t.g i rs2.toNat).setWidth 16) e
  let b := t.sbDrain (unitOf i)
  have hb := (CacheStep.refl (load := false) t).sbDrain (unitOf i)
  let c : State := { b with tlb := Tab.set [] b.tlb k (keep (Tab.get [] b.tlb k)) }
  obtain ⟨hexecs, htlb, -⟩ := c.dropIbuf_spec (ctxsOf (unitOf i))
  have hv : ((c.dropIbuf (ctxsOf (unitOf i))).finish i false).tlb = Tab.set [] t.tlb k (keep (Tab.get [] t.tlb k)) := by
    rw [State.tlb_finish, htlb]
    show Tab.set [] b.tlb k (keep (Tab.get [] b.tlb k)) = _
    rw [hb.tlb rfl]
  refine ⟨(c.dropIbuf (ctxsOf (unitOf i))).finish i false, congrArg _ (issue_ok h (if_neg hp)), ?_, fun e => ?_, fun j hj => ?_, fun n => ?_⟩
  · rw [State.sb_finish, State.exe_of_execs hexecs]
    exact State.sbDrain_sb t _
  · rw [hv, Tab.get_set_same, List.mem_filter]
  · rw [hv, Tab.get_set_ne _ _ _ _ hj]
  · rw [State.g_finish, State.g_dropIbuf]
    exact hb.g i n

/-- WAIT and TLBINV at U, and on an engine, are privileged. -/
theorem waitTlbinv_priv {x : CtxId} (arg : BitVec 2) (rs1 rs2 : Reg5) {f : State} (hi : ∀ sg : Sig, ∀ body, (sg.prof, sg.noSlot, sg.wide) = (profK, false, false) →
      (∀ t, (t.ctx (ctxIdx x)).priv = .u → body t = .trap t (trapPriv sg.word)) → issue (ctxIdx x) sg body s = f.takeTrap (ctxIdx x) (trapPriv sg.word)) :
    exec (.wait x) s = .next (f.takeTrap (ctxIdx x) { code := 0x03, val := 0xE0000140 }) ∧
      ∃ w : BitVec 32, exec (.tlbinv x arg rs1 rs2) s = .next (f.takeTrap (ctxIdx x) { code := 0x03, val := w.setWidth 64 }) := by
  refine ⟨?_, encSys 6 arg.toNat rs1 rs2, ?_⟩
  · rw [← encSys_wait]
    exact congrArg _ (hi { word := encSys 5 0 0 0, prof := profK, ra := .noEffect } _ rfl fun t ht => if_pos ht)
  · exact congrArg _ (hi { word := encSys 6 arg.toNat rs1 rs2, prof := profK, srcs := [lg rs1, lg rs2], ra := .noEffect } _ rfl fun t ht => if_pos ht)

/-- Settles O16: each instruction's effect is the one its rule names, and a fence leaves the registers of its context. -/
theorem systemInstructionsComplete : Obligations.SystemInstructionsComplete := by
  unfold Obligations.SystemInstructionsComplete
  intro x h arg a2 rs1 rs2 s i t u orders
  refine ⟨fun hi => congrArg _ (issue_ok hi rfl), fun hi => ?_, fun hi => ⟨fun hp => ?_, fun hp => ⟨wait_spec hi hp, ?_⟩⟩, fun he hi => ?_, ?_, fun hi => ?_⟩
  · have hx : ¬2112 ≤ i := Nat.not_le.2 (State.canIssue_lt hi)
    obtain ⟨hsb, hl1i, hlog, hsame, hg⟩ := t.fenceStart_spec i arg
    refine ⟨t.fenceStart i arg, hsb, hl1i, hlog, hsame, hg, ?_⟩
    split
    case isTrue hw => exact congrArg _ (issue_wait hi hx (if_pos hw))
    case isFalse hw => exact congrArg _ (issue_ok hi (if_neg hw))
  · refine waitTlbinv_priv a2 rs1 rs2 fun sg body hsg hbody => ?_
    simp only [Prod.mk.injEq] at hsg
    obtain ⟨hprof, hslot, hwide⟩ := hsg
    rw [issue_trap (by rwa [hprof, hslot, hwide]) (Nat.not_le.2 (State.profK_lt hi)) (by rw [hwide]; exact hbody t hp) (trapPriv_status _)]
  · obtain ⟨v, hv, hsb, hin, hout, hg⟩ := tlbinv_spec a2 rs1 rs2 hi hp
    exact ⟨v, hv, hsb, fun e => (hin e).trans (and_congr_right fun _ => not_tlbHit_iff ..), hout, hg⟩
  · intro f
    refine waitTlbinv_priv a2 rs1 rs2 fun sg body hsg _ => ?_
    simp only [Prod.mk.injEq] at hsg
    obtain ⟨hprof, hslot, hwide⟩ := hsg
    have hk : profTrap i sg = some (trapPriv sg.word) := by
      unfold profTrap
      rw [he, hprof]
      rfl
    rw [issue_profTrap (prof := profKE) (by rwa [hwide]) (Nat.not_le.2 (State.canIssue_lt hi)) hslot hk, hwide]
  · intro y
    rw [show s.htOffer h.val = s.htOffer (y - 2048) from congrArg _ (Nat.add_sub_cancel_left 2048 h.val).symm]
    rfl
  · intro f c
    have hx : i < 2112 := by
      by_contra hx
      obtain ⟨-, -, -, hp⟩ := State.canIssue_sieve hi (Nat.not_lt.1 hx)
      cases hp
    have he : (f.ctx i).epi.isNone = true := by
      rw [((CacheStep.refl (load := false) t).ctxFence i).epi_isNone, State.epi_start_unit hi (Nat.not_le.2 hx)]
      rfl
    refine ⟨t.ctxFence_log i, t.ctxFence_sb i, fun ha => ?_, fun ha => ⟨f.jendEnd i (t.g i rs1.toNat), ?_, State.jendEnd_spec hx he _⟩⟩
    · exact congrArg _ (issue_wait hi (Nat.not_le.2 hx) (if_pos ha))
    · have hne : ¬(f.ctx i).acks ≠ 0 := not_not.2 ha
      show Host.Outcome.next (issue i _ _ s) = _
      rw [issue_done hi (if_neg hne)]

end Sys2Proof.Machine
end

section
/-! SUPPORT. What memory and the domains' bytes are read from stays, or changes in one slot of an L2; copies and reservations that go. -/

namespace Sys2Proof.Machine

/-! ### Steps that leave every source of bytes -/

namespace SameSources
variable {s t : State}

theorem l2At (h : SameSources s t) (k : Nat) : t.l2At k = s.l2At k := by rw [State.l2At, State.l2At, h.l2]
theorem l2Way (h : SameSources s t) (d line : Nat) : t.l2Way d line = s.l2Way d line := by simp only [State.l2Way, h.l2At]
theorem peek (h : SameSources s t) (a : Nat) : t.peek a = s.peek a := h.sameBytes.1 a
theorem l2En (h : SameSources s t) {d : Nat} (hd : d < 9) : t.l2En d = s.l2En d := by
  rw [State.l2En, State.l2En, State.regBit, State.regBit, h.reg _ (l2Ctl_not_isPmc hd), h.ctl]

theorem ite {c : Prop} [Decidable c] {u : State} (h : SameSources s t) (k : SameSources s u) : SameSources s (if c then t else u) := by
  split
  · exact h
  · exact k
theorem foldl {α : Type} (h : SameSources s t) (l : List α) (f : State → α → State) (hf : ∀ t x, SameSources t (f t x)) :
    SameSources s (l.foldl f t) := List.foldlRecOn (motive := SameSources s) l f h fun t ht x _ => ht.trans (hf t x)
theorem setExe (h : SameSources s t) (u : Nat) (e : Exec) : SameSources s (t.setExe u e) := h.trans ⟨rfl, rfl, rfl, rfl, fun _ _ => rfl⟩
theorem setCtx (h : SameSources s t) (x : Nat) (c : Ctx) : SameSources s (t.setCtx x c) := h.trans ⟨rfl, rfl, rfl, rfl, fun _ _ => rfl⟩
theorem l2Pmc (h : SameSources s t) (d : Nat) {n : Nat} (hn : n < 8) : SameSources s (t.bump (Reg.l2Pmc d n)) :=
  h.trans (setReg _ _ (.inl ⟨d, n, hn, rfl⟩))
theorem l1dDrop (h : SameSources s t) (d line : Nat) (keep : Option Nat) : SameSources s (t.l1dDrop d line keep) :=
  h.foldl _ _ fun t u => (((refl t).setExe u _).l2Pmc d (n := 4) (by decide)).ite (refl t)
theorem l1iDrop (h : SameSources s t) (d line : Nat) : SameSources s (t.l1iDrop d line) := h.foldl _ _ fun t u => (refl t).setExe u _
theorem sideDrop (h : SameSources s t) (d line : Nat) : SameSources s (t.sideDrop d line) :=
  h.ite (h.foldl _ _ fun t u => (refl t).setExe u _)
theorem sideStore (h : SameSources s t) (d line : Nat) : SameSources s (t.sideStore d line) :=
  (h.sideDrop d line).ite ((h.sideDrop d line).trans (setReg _ _ (.inl ⟨d, 6, by decide, rfl⟩)))
theorem sideOwn (h : SameSources s t) (u x line : Nat) : SameSources s (t.sideOwn u x line) := h.trans (t.sideOwn_spec u x line).1
theorem l2Lookup (h : SameSources s t) (d : Nat) (hit : Bool) : SameSources s (t.l2Lookup d hit) :=
  (h.l2Pmc d (by decide)).l2Pmc d (by cases hit <;> decide)
theorem clearResv (h : SameSources s t) (d g : Nat) (by_ : Option Nat) : SameSources s (t.clearResv d g by_) :=
  h.foldl _ _ fun t x => (refl t).ite ((refl t).setCtx x _)
theorem wakeAll (h : SameSources s t) (xs : List Nat) (w : Wait) : SameSources s (t.wakeAll xs w) :=
  h.foldl _ _ fun t x => ((refl t).setCtx x _).ite (refl t)
theorem finish (h : SameSources s t) {x : Nat} (hx : x < 2112) (he : (t.ctx x).epi.isNone = true) : SameSources s (t.finish x false) :=
  h.trans (State.finish_spec hx he).1

end SameSources

/-! ### The contexts behind a step that touches the caches alone -/

theorem State.foldl_ctxs {α : Type} (l : List α) (f : State → α → State) (hf : ∀ t x, (f t x).ctxs = t.ctxs) (s : State) :
    (l.foldl f s).ctxs = s.ctxs := List.foldlRecOn (motive := fun t : State => t.ctxs = s.ctxs) l f rfl fun t ht x _ => (hf t x).trans ht

theorem State.l1dDrop_ctxs (s : State) (d line : Nat) (keep : Option Nat) : (s.l1dDrop d line keep).ctxs = s.ctxs :=
  State.foldl_ctxs (unitsOf d) _ (fun t u => by
    dsimp only
    split
    · exact State.setReg_ctxs ..
    · rfl) s
theorem State.sideDrop_ctxs (s : State) (d line : Nat) : (s.sideDrop d line).ctxs = s.ctxs := by
  unfold State.sideDrop
  split
  · rfl
  · exact State.foldl_ctxs (unitsOf d) _ (fun _ _ => State.setExe_ctxs ..) s
theorem State.sideStore_ctxs (s : State) (d line : Nat) : (s.sideStore d line).ctxs = s.ctxs := by
  unfold State.sideStore
  extract_lets n t
  have ht : t.ctxs = s.ctxs := s.sideDrop_ctxs d line
  clear_value t n
  split
  · exact ht
  · exact (State.setReg_ctxs ..).trans ht
theorem State.l2Lookup_ctxs (s : State) (d : Nat) (hit : Bool) : (s.l2Lookup d hit).ctxs = s.ctxs := rfl

theorem State.ctx_of_ctxs {s t : State} (h : t.ctxs = s.ctxs) (x : Nat) : t.ctx x = s.ctx x := by
  unfold State.ctx
  rw [h]

/-! ### Lines of an L2 -/

theorem firstIdx_eq_some {n w : Nat} {p : Nat → Bool} (h : firstIdx n p = some w) : w < n ∧ p w = true :=
  ⟨List.mem_range.1 (List.mem_of_find?_eq_some h), List.find?_some h⟩

theorem firstIdx_isSome {n w : Nat} {p : Nat → Bool} (hw : w < n) (h : p w = true) : (firstIdx n p).isSome = true :=
  List.find?_isSome.2 ⟨w, List.mem_range.2 hw, h⟩

theorem State.l2Way_eq_some {s : State} {d line w : Nat} (h : s.l2Way d line = some w) :
    w < 16 ∧ (s.l2At (l2Key d (line % l2Sets d) w)).valid = true ∧ (s.l2At (l2Key d (line % l2Sets d) w)).line = line := by
  obtain ⟨hw, hp⟩ := firstIdx_eq_some h
  obtain ⟨hv, hl⟩ := Bool.and_eq_true_iff.1 hp
  exact ⟨hw, hv, of_decide_eq_true hl⟩

theorem State.l2Way_setL2 {s : State} {k : Nat} {l : L2Line} (hv : l.valid = (s.l2At k).valid) (hl : l.line = (s.l2At k).line) (d line : Nat) :
    (s.setL2 k l).l2Way d line = s.l2Way d line := by
  unfold State.l2Way
  congr 1
  funext w
  by_cases h : l2Key d (line % l2Sets d) w = k
  · dsimp only
    rw [h, State.l2At_setL2_same, hv, hl]
  · rw [State.l2At_setL2_ne _ _ _ h]

theorem l2Key_domain {c d set w set' w' : Nat} (hs : set < 8192) (hs' : set' < 8192) (hw : w < 16) (hw' : w' < 16)
    (h : l2Key c set w = l2Key d set' w') : c = d ∧ set = set' ∧ w = w' := by
  unfold l2Key at h
  omega

theorem mod_l2Sets_lt (line d : Nat) : line % l2Sets d < 8192 := by
  have h : l2Sets d = 4096 ∨ l2Sets d = 8192 := by
    unfold l2Sets
    split <;> simp
  rcases h with h | h
  all_goals
    rw [h]
    omega

theorem State.domByte_of_way {s : State} {d a w : Nat} (hen : s.l2En d = true) (hw : s.l2Way d (a / 64) = some w) :
    s.domByte d a = lineByte (s.l2At (l2Key d (a / 64 % l2Sets d) w)).data (a % 64) := by
  unfold State.domByte
  rw [hen, if_pos rfl, hw]

theorem State.domByte_of_none {s : State} {d a : Nat} (h : (if s.l2En d then s.l2Way d (a / 64) else none) = none) : s.domByte d a = s.peek a := by
  unfold State.domByte
  rw [h]

/-- A line's slot receives other bytes: they are those of the line in the domain, every other byte stays. -/
theorem State.domByte_setL2 {s : State} {d line w : Nat} {l : L2Line} (hen : s.l2En d = true) (hw : s.l2Way d line = some w)
    (hv : l.valid = true) (hl : l.line = line) (c a : Nat) : (s.setL2 (l2Key d (line % l2Sets d) w) l).domByte c a =
      if c = d ∧ a / 64 = line then lineByte l.data (a % 64) else s.domByte c a := by
  obtain ⟨hw16, hsv, hsl⟩ := State.l2Way_eq_some hw
  have hway := State.l2Way_setL2 (s := s) (hv.trans hsv.symm) (hl.trans hsl.symm) c (a / 64)
  generalize hk : l2Key d (line % l2Sets d) w = k at *
  by_cases hc : c = d ∧ a / 64 = line
  · obtain ⟨rfl, rfl⟩ := hc
    rw [if_pos ⟨rfl, rfl⟩, State.domByte_of_way (s := s.setL2 k l) hen (hway.trans hw), hk, State.l2At_setL2_same]
  · rw [if_neg hc]
    unfold State.domByte
    rw [hway, show (s.setL2 k l).l2En c = s.l2En c from rfl]
    cases hf : (if s.l2En c then s.l2Way c (a / 64) else none) with
    | none => rfl
    | some v =>
      obtain ⟨-, hsome⟩ := Option.ite_none_right_eq_some.1 hf
      obtain ⟨hv16, -, hvl⟩ := State.l2Way_eq_some hsome
      have hne : l2Key c (a / 64 % l2Sets c) v ≠ k := fun e => hc
        ⟨(l2Key_domain (mod_l2Sets_lt _ _) (mod_l2Sets_lt _ _) hv16 hw16 (e.trans hk.symm)).1, by rw [← hvl, e, hsl]⟩
      dsimp only
      rw [State.l2At_setL2_ne _ _ _ hne]

/-! ### Copies and reservations that go (R50, R150) -/

theorem Exec.hasL1d_eq_false_iff (e : Exec) (line : Nat) : e.hasL1d line = false ↔ ∀ p ∈ (e.l1d : List (Nat × Nat)), p.2 ≠ line + 1 := by
  unfold Exec.hasL1d
  simp [List.any_eq_false]

theorem Exec.hasL1d_dropL1d (e : Exec) (line : Nat) : (e.dropL1d line).hasL1d line = false := by
  rw [Exec.hasL1d_eq_false_iff]
  intro p hp
  exact bne_iff_ne.1 (List.mem_filter.1 hp).2

theorem CacheStep.hasL1d {s t : State} (h : CacheStep false s t) {u line : Nat} (hn : (s.exe u).hasL1d line = false) : (t.exe u).hasL1d line = false := by
  rw [Exec.hasL1d_eq_false_iff] at hn ⊢
  exact fun p hp => hn p (h.l1d rfl u p hp)

/-- What one step of a fold establishes, and every step keeps, holds at its end. -/
theorem List.foldl_establishes {α : Type} {P : State → Prop} {f : State → α → State} {l : List α} {v : α} (hv : v ∈ l) (s : State)
    (hest : ∀ t, P (f t v)) (hkeep : ∀ t x, P t → P (f t x)) : P (l.foldl f s) := by
  obtain ⟨l1, l2, rfl⟩ := List.append_of_mem hv
  rw [List.foldl_append, List.foldl_cons]
  exact List.foldlRecOn (motive := P) l2 f (hest _) fun t ht x _ => hkeep t x ht

theorem mem_unitsOf {d v : Nat} (h : v / 16 = d) : v ∈ unitsOf d := List.mem_map.2 ⟨v % 16, List.mem_range.2 (by omega), by omega⟩

theorem State.hasL1d_l1dDrop (s : State) {d v : Nat} (line : Nat) {keep : Option Nat} (hv : v / 16 = d) (hk : some v ≠ keep) :
    ((s.l1dDrop d line keep).exe v).hasL1d line = false := by
  refine List.foldl_establishes (P := fun t => (t.exe v).hasL1d line = false) (mem_unitsOf hv) s (fun t => ?_) fun t u ht => ?_
  · dsimp only
    split
    · refine (congrArg (Exec.hasL1d · line) (State.exe_setExe_same t v _)).trans (Exec.hasL1d_dropL1d _ line)
    · rename_i h
      simpa [hk] using h
  · have hd : CacheStep false t (t.setExe u ((t.exe u).dropL1d line)) :=
      (CacheStep.refl t).setExe u (fun _ _ h => h) fun _ _ hl => (List.mem_filter.1 hl).1
    exact CacheStep.hasL1d (CacheStep.ite (hd.l2Pmc d (n := 4) (by decide)) (.refl t)) ht

theorem Tab.mem_keys_of_get_ne {V : Type} {d : V} {l : Tab V} {a : Nat} (h : Tab.get d l a ≠ d) : a ∈ (l : List (Nat × V)).map Prod.fst := by
  induction l with
  | nil => exact absurd rfl h
  | cons e l ih =>
    obtain ⟨k, v⟩ := e
    rw [List.map_cons, List.mem_cons]
    by_cases hk : k = a
    · exact .inl hk.symm
    · refine .inr (ih fun he => h ?_)
      rwa [Tab.get, Tab.find?, if_neg hk]

theorem State.mem_domCtxs {s : State} {d y g : Nat} (hg : (s.ctx y).r.resv = some g) (hy : y < 2112) (hd : y / 256 = d ∨ (d = 8 ∧ 2048 ≤ y)) :
    y ∈ s.domCtxs d := by
  refine List.mem_filter.2 ⟨Tab.mem_keys_of_get_ne (d := {}) (l := s.ctxs) fun he => ?_, ?_⟩
  · rw [State.ctx, he] at hg
    cases hg
  · split
    · exact decide_eq_true (by omega)
    · exact decide_eq_true (by omega)

theorem State.resv_clearResv (s : State) {d y g x : Nat} (hx : y ≠ x) (hy : y < 2112) (hd : y / 256 = d ∨ (d = 8 ∧ 2048 ≤ y)) :
    ((s.clearResv d g (some x)).ctx y).r.resv ≠ some g := by
  intro hg
  have hs : (s.ctx y).r.resv = some g := ((CacheStep.refl (load := false) s).clearResv d g (some x)).resv y g hg
  refine List.foldl_establishes (P := fun t => (t.ctx y).r.resv ≠ some g) (State.mem_domCtxs hs hy hd) s (fun t => ?_) (fun t z ht h => ?_) hg
  · dsimp only
    rw [if_neg (by simpa using hx), State.ctx_setCtx_same]
    dsimp only
    split
    · simp
    · assumption
  · refine ht (CacheStep.resv (load := false) ?_ y g h)
    exact (CacheStep.refl t).ite ((CacheStep.refl t).setCtx z (CacheStep.sansStore_dropResv _ g) (fun _ => CacheStep.resv_of_dropResv _ g) (.inl ⟨rfl, rfl⟩))

/-- The storing context itself is not touched. -/
theorem State.ctx_clearResv (s : State) (d g x : Nat) : (s.clearResv d g (some x)).ctx x = s.ctx x := by
  refine List.foldlRecOn (motive := fun t : State => t.ctx x = s.ctx x) _ _ rfl fun t ht z _ => ?_
  dsimp only
  split
  · exact ht
  · rename_i h
    rw [State.ctx_setCtx_ne _ _ _ fun e => h (by rw [e]), ht]

end Sys2Proof.Machine
end

section
/-! SUPPORT. A store that hits its L2, one that goes to memory, and the one obligation on a drain (R50, R150–R152). -/

namespace Sys2Proof.Machine

/-- A context logs a line where its log has room, or lists the line already. -/
theorem State.logLine_spec {s : State} {x d line : Nat} (h : line ∈ (s.ctx x).log ∨ (s.ctx x).log.length < 32) :
    SameSources s (s.logLine x d line) ∧ (s.logLine x d line).execs = s.execs ∧ line ∈ ((s.logLine x d line).ctx x).log := by
  unfold State.logLine
  dsimp only
  split
  · rename_i hin
    exact ⟨.refl s, rfl, hin⟩
  · rename_i hout
    rw [if_pos (h.resolve_left hout)]
    refine ⟨(SameSources.refl s).setCtx .., State.setCtx_execs .., ?_⟩
    rw [State.ctx_setCtx_same]
    exact List.mem_append_right _ (List.mem_singleton_self line)

/-- A line of an L2 after a store to it. -/
def L2Line.put (l : L2Line) (e : SbEntry) : L2Line := { l with data := linePut l.data (e.addr % 64) e.data, dirty := true }

section
variable {s : State} {u : Nat} {e : SbEntry} {w : Nat} (hen : s.l2En (domOf u) = true) (hw : s.l2Way (domOf u) (e.addr / 64) = some w)
  (hdata : e.addr % 64 + e.data.length ≤ 64)
include hen hw hdata

/-- The slot of a store that hits receives its bytes and is dirty; no byte beside them changes. -/
theorem State.setL2_store_spec : let d := domOf u
    let k := l2Key d (e.addr / 64 % l2Sets d) w
    let t := s.setL2 k ((s.l2At k).put e)
    (∀ a, t.domByte d a = if e.addr ≤ a ∧ a < e.addr + e.data.length then e.data.getD (a - e.addr) 0 else s.domByte d a) ∧
      (∀ c a, c ≠ d → t.domByte c a = s.domByte c a) ∧ (∀ a, t.peek a = s.peek a) ∧
      t.l2Way d (e.addr / 64) = some w ∧ (t.l2At k).dirty = true := by
  intro d k t
  obtain ⟨-, hv, hl⟩ := State.l2Way_eq_some hw
  have hd : d = domOf u := rfl
  have hk : k = l2Key d (e.addr / 64 % l2Sets d) w := rfl
  have ht : t = s.setL2 k ((s.l2At k).put e) := rfl
  rw [← hd] at hen hw
  rw [← hd, ← hk] at hv hl
  have hbyte (c a : Nat) : t.domByte c a =
      if c = d ∧ a / 64 = e.addr / 64 then lineByte (linePut (s.l2At k).data (e.addr % 64) e.data) (a % 64) else s.domByte c a :=
    State.domByte_setL2 (l := (s.l2At k).put e) hen hw hv hl c a
  have hway : t.l2Way d (e.addr / 64) = some w := (State.l2Way_setL2 (s := s) (l := (s.l2At k).put e) rfl rfl d _).trans hw
  clear_value d t
  refine ⟨fun a => ?_, fun c a hc => ?_, fun _ => ?_, hway, ?_⟩
  · rw [hbyte]
    by_cases ha : a / 64 = e.addr / 64
    · rw [if_pos ⟨rfl, ha⟩, lineByte_linePut _ _ _ hdata (Nat.mod_lt _ (by decide))]
      by_cases hin : e.addr ≤ a ∧ a < e.addr + e.data.length
      · rw [if_pos hin, if_pos (by omega), show a % 64 - e.addr % 64 = a - e.addr by omega]
      · rw [if_neg hin, if_neg (by omega), State.domByte_of_way (w := w) hen (by rw [ha]; exact hw), ha, hk]
    · rw [if_neg fun h => ha h.2, if_neg (by omega)]
  · rw [hbyte, if_neg fun h => hc h.1]
  · rw [ht]
    rfl
  · rw [ht, State.l2At_setL2_same]
    rfl

omit hen hw hdata in
theorem State.storeHit_back (hattr : e.attr ≠ .wt) {d : Nat} (hd : d = domOf u) {q : State} (hq : q = s.l1dDrop d (e.addr / 64) (some u)) :
    s.storeHit u e w = (q.setL2 (l2Key d (e.addr / 64 % l2Sets d) w)
      ((q.l2At (l2Key d (e.addr / 64 % l2Sets d) w)).put e)).logLine e.ctx d (e.addr / 64) := by
  unfold State.storeHit
  dsimp only
  rw [if_neg hattr, ← hd, ← hq]
  rfl

/-- A store that hits its L2 and goes no further (R150–R152). -/
theorem State.storeHit_spec (hd : domOf u < 9) (hattr : e.attr ≠ .wt)
    (hroom : e.addr / 64 ∈ (s.ctx e.ctx).log ∨ (s.ctx e.ctx).log.length < 32) : let d := domOf u
    let t := s.storeHit u e w
    (∀ a, t.domByte d a = if e.addr ≤ a ∧ a < e.addr + e.data.length then e.data.getD (a - e.addr) 0 else s.domByte d a) ∧
      (∀ c a, c < 9 → c ≠ d → t.domByte c a = s.domByte c a) ∧ (∀ a, t.peek a = s.peek a) ∧ e.addr / 64 ∈ (t.ctx e.ctx).log ∧
      (t.l2Way d (e.addr / 64) = some w ∧ (t.l2At (l2Key d (e.addr / 64 % l2Sets d) w)).dirty = true) ∧
      ∀ v, v / 16 = d → v ≠ u → (t.exe v).hasL1d (e.addr / 64) = false := by
  intro d t
  have hsame : SameSources s (s.l1dDrop d (e.addr / 64) (some u)) := (SameSources.refl s).l1dDrop ..
  have hctx (y : Nat) : (s.l1dDrop d (e.addr / 64) (some u)).ctx y = s.ctx y := State.ctx_of_ctxs (State.l1dDrop_ctxs ..) y
  have hgone (v : Nat) (hv : v / 16 = d) (hne : v ≠ u) : ((s.l1dDrop d (e.addr / 64) (some u)).exe v).hasL1d (e.addr / 64) = false :=
    s.hasL1d_l1dDrop _ hv fun h => hne (Option.some.inj h)
  have hback := State.storeHit_back (s := s) (u := u) (w := w) hattr rfl rfl
  have ht : t = s.storeHit u e w := rfl
  rw [hback] at ht
  clear_value t
  generalize s.l1dDrop d (e.addr / 64) (some u) = q at *
  obtain ⟨hown, hother, hpeek, hway, hdirty⟩ := State.setL2_store_spec (s := q) (u := u) ((hsame.l2En hd).trans hen) ((hsame.l2Way ..).trans hw) hdata
  generalize hz : q.setL2 _ _ = z at hown hother hpeek hway hdirty ht
  obtain ⟨hlog, hexecs, hin⟩ := State.logLine_spec (s := z) (x := e.ctx) (d := d) (line := e.addr / 64)
    (by rwa [← hz, State.ctx_setL2, hctx])
  rw [ht]
  obtain ⟨hsp, hsd⟩ := hlog.sameBytes
  refine ⟨fun a => ?_, fun c a hc hne => ?_, fun a => ?_, hin, ⟨(hlog.l2Way ..).trans hway, by rw [hlog.l2At]; exact hdirty⟩, fun v hv hne => ?_⟩
  · rw [hsd d a hd, hown, hsame.sameBytes.2 d a hd]
  · rw [hsd c a hc, hother c a hne, hsame.sameBytes.2 c a hc]
  · rw [hsp, hpeek, hsame.peek]
  · rw [State.exe_of_execs hexecs, ← hz, State.exe_setL2]
    exact hgone v hv hne

end

/-! ### A buffered store is performed (R151, R387) -/

/-- A context's write goes to the memory controllers. -/
theorem State.ctxBusWrite_spec (s : State) (x a : Nat) (l : List Byte) : (∀ b, (s.ctxBusWrite x a l).peek b = putPeek s a l b) ∧
    ((s.ctxBusWrite x a l).ctx x).acks = (s.ctx x).acks + 1 := by
  refine ⟨s.peek_busWrite a l, ?_⟩
  unfold State.ctxBusWrite
  rw [State.ctx_setCtx_same, State.ctx_of_ctxs (s := s) (by rw [(s.busWrite_step a l).eq])]

theorem State.performStore_memory {s : State} {u : Nat} {e : SbEntry} (h : e.attr = .uc ∨ e.attr = .str ∨ s.l2En (domOf u) = false) :
    let out := (s.clearResv (domOf u) (e.addr / 64) (some e.ctx)).ctxBusWrite e.ctx e.addr e.data
    SameSources out (s.performStore u e) ∧ (s.performStore u e).ctxs = out.ctxs := by
  intro out
  unfold State.performStore
  extract_lets d line c o
  have hen : c.l2En d = s.l2En d := ((CacheStep.refl (load := false) s).clearResv ..).l2En d
  split
  · exact ⟨.refl _, rfl⟩
  split
  · exact ⟨(SameSources.refl _).sideOwn .., (State.sideOwn_spec ..).2.1⟩
  · rename_i huc hstr
    rw [if_pos (by rw [hen, (h.resolve_left huc).resolve_left hstr]; rfl)]
    exact ⟨.refl _, rfl⟩

theorem State.performStore_hit {s : State} {u : Nat} {e : SbEntry} (hd : domOf u < 9) (hattr : e.attr = .wb ∨ e.attr = .wna)
    (h : s.l2Holds (domOf u) (e.addr / 64)) : let q := s.clearResv (domOf u) (e.addr / 64) (some e.ctx)
    ∃ w, s.l2Way (domOf u) (e.addr / 64) = some w ∧
      s.performStore u e = ((q.sideStore (domOf u) (e.addr / 64)).l2Lookup (domOf u) true).storeHit u e w := by
  intro q
  obtain ⟨hen, w, hw, hecc⟩ := h
  refine ⟨w, hw, ?_⟩
  have hq : SameSources s q := (SameSources.refl s).clearResv ..
  have hz : SameSources s (q.sideStore (domOf u) (e.addr / 64)) := hq.sideStore ..
  have hcheck : (q.sideStore (domOf u) (e.addr / 64)).l2Check (domOf u) (e.addr / 64) = (q.sideStore (domOf u) (e.addr / 64), false) :=
    State.l2Check_of_good fun v hv => by
      rw [hz.l2Way, hw] at hv
      rw [hz.l2At, ← Option.some.inj hv, hecc]
  have hway : (q.sideStore (domOf u) (e.addr / 64)).l2Way (domOf u) (e.addr / 64) = some w := (hz.l2Way ..).trans hw
  have hqen : q.l2En (domOf u) = true := (hq.l2En hd).trans hen
  unfold State.performStore
  dsimp only
  rw [if_neg (by rcases hattr with h | h <;> rw [h] <;> decide), if_neg (by rcases hattr with h | h <;> rw [h] <;> decide),
    if_neg (by rw [hqen]; decide), hcheck, hway]
  rfl

theorem State.wakeAll_ctx (s : State) (xs : List Nat) (w : Wait) (y : Nat) :
    ((s.wakeAll xs w).ctx y).log = (s.ctx y).log ∧ ((s.wakeAll xs w).ctx y).acks = (s.ctx y).acks := by
  refine List.foldlRecOn (motive := fun t : State => (t.ctx y).log = (s.ctx y).log ∧ (t.ctx y).acks = (s.ctx y).acks) xs _ ⟨rfl, rfl⟩
    fun t ht x _ => ?_
  dsimp only
  split
  · by_cases hy : y = x
    · rw [← hy, State.ctx_setCtx_same]
      exact ht
    · rw [State.ctx_setCtx_ne _ _ _ hy]
      exact ht
  · exact ht

theorem State.sbDrain1_cons {s : State} {u : Nat} {e : SbEntry} {rest : List SbEntry} (h : (s.exe u).sb = e :: rest) :
    s.sbDrain1 u = ((s.setExe u { s.exe u with sb := rest }).performStore u e).wakeAll (ctxsOf u) .room := by
  unfold State.sbDrain1
  dsimp only
  rw [h]

/-- Settles O21. -/
theorem drainedStoresChangeTheirBytesOnly : Obligations.DrainedStoresChangeTheirBytesOnly := by
  unfold Obligations.DrainedStoresChangeTheirBytesOnly
  intro un s u d
  have hexec : exec (.storeBufferDrain un) s = .next (s.sbDrain1 u) := rfl
  have hd : d < 9 := by
    have := un.isLt
    unfold d domOf u
    omega
  refine ⟨fun h => ?_, ?_⟩
  · rw [hexec]
    unfold State.sbDrain1
    dsimp only
    rw [h]
  intro e rest h hdata _ line stored
  have htail := (s.sbDrain1_spec u).1
  rw [h] at htail
  have ht := State.sbDrain1_cons h
  generalize hq : s.setExe u { s.exe u with sb := rest } = q at ht
  have hqs : SameSources s q := hq ▸ (SameSources.refl s).setExe ..
  have hqc : CacheStep false s q := hq ▸ (CacheStep.refl s).setExe u (fun _ _ h => h) fun _ _ h => h
  have hqx (y : Nat) : q.ctx y = s.ctx y := by rw [← hq, State.ctx_setExe]
  clear hq
  rw [hexec, ht]
  have hwake : SameSources (q.performStore u e) ((q.performStore u e).wakeAll (ctxsOf u) .room) := (SameSources.refl _).wakeAll ..
  have hwctx := (q.performStore u e).wakeAll_ctx (ctxsOf u) .room e.ctx
  refine ⟨⟨_, rfl, ht ▸ htail, fun y hy hlt hdom hg => ?_, ?_⟩, fun hattr hh hroom => ?_, fun hmem => ?_⟩
  · have hc : CacheStep false (q.clearResv d line (some e.ctx)) ((q.performStore u e).wakeAll (ctxsOf u) .room) :=
      (CacheStep.performStore_of_clearResv (.refl _)).wakeAll ..
    exact q.resv_clearResv hy hlt hdom (hc.resv y line hg)
  · exact ((hqc.performStore u e).wakeAll (ctxsOf u)).keepsRegs ..
  · obtain ⟨w, hw, hp⟩ := State.performStore_hit (s := q) (u := u) (e := e) hd hattr
      ⟨(hqs.l2En hd).trans hh.1, hh.2.imp fun w hw => ⟨(hqs.l2Way ..).trans hw.1, by rw [hqs.l2At]; exact hw.2⟩⟩
    have hz : SameSources q (((q.clearResv d line (some e.ctx)).sideStore d line).l2Lookup d true) :=
      (((SameSources.refl q).clearResv ..).sideStore ..).l2Lookup ..
    have hzx : (((q.clearResv d line (some e.ctx)).sideStore d line).l2Lookup d true).ctx e.ctx = s.ctx e.ctx :=
      (State.ctx_of_ctxs (State.sideStore_ctxs _ d line) e.ctx).trans ((q.ctx_clearResv d line e.ctx).trans (hqx e.ctx))
    rw [hp] at hwake hwctx ⊢
    clear hp ht htail
    generalize ((q.clearResv d line (some e.ctx)).sideStore d line).l2Lookup d true = z at *
    have hsz := hqs.trans hz
    obtain ⟨hown, hother, hpeek, hlog, hdirty, hgone⟩ := State.storeHit_spec (s := z) (u := u) (e := e) (w := w)
      ((hsz.l2En hd).trans hh.1) ((hz.l2Way ..).trans hw) hdata hd (by rcases hattr with h | h <;> rw [h] <;> decide) (by rwa [hzx])
    obtain ⟨hwp, hwd⟩ := hwake.sameBytes
    refine ⟨_, rfl, fun a => ?_, fun a => ?_, fun c a hc hne => ?_, hwctx.1 ▸ hlog, ⟨w, (hwake.l2Way ..).trans hdirty.1, ?_⟩, fun v hv hne => ?_⟩
    · rw [hwd d a hd, hown, hsz.sameBytes.2 d a hd]
    · rw [hwp, hpeek, hsz.peek]
    · rw [hwd c a hc, hother c a hc hne, hsz.sameBytes.2 c a hc]
    · rw [hwake.l2At]
      exact hdirty.2
    · exact ((CacheStep.refl (load := false) _).wakeAll ..).hasL1d (hgone v hv hne)
  · obtain ⟨hout, hctxs⟩ := State.performStore_memory (s := q) (u := u) (e := e) (by rwa [hqs.l2En hd])
    obtain ⟨hpeek, hacks⟩ := (q.clearResv d line (some e.ctx)).ctxBusWrite_spec e.ctx e.addr e.data
    refine ⟨_, rfl, fun a => ?_, ?_⟩
    · rw [hwake.peek, hout.peek, hpeek, putPeek, (hqs.trans ((SameSources.refl q).clearResv ..)).peek]
    · rw [hwctx.2, State.ctx_of_ctxs hctxs, hacks, q.ctx_clearResv, hqx]

end Sys2Proof.Machine
end

section
/-! SUPPORT. The obligation on atomics: a window whose target is aligned to nothing (R49, R68). -/

namespace Sys2Proof.Machine
open Sys2Proof.Tests

/-- An engine context whose Booth's window of 64 KiB is placed at 0x1003C, so that the doubleword at 0x2000 begins in the last word of the
line of 0x12000, which its L2 holds. -/
def crossEng : State :=
  { withL2 (eng (regs [(1, 0x2000), (2, -1)])) 0 0x480 0 with
    booths := [(1, { st := .active, windows := [(0, { valid := true, base := 0, size := 0x10000, target := 0x1003C, r := true, w := true, x := true })] })] }

theorem crossEng_canIssue : crossEng.canIssue (ctxIdx E) profKE false false = true := by decide +kernel

theorem crossEng_xlate : ((crossEng.start (ctxIdx E) false).xlate (ctxIdx E) .readWrite 0x2000).2 = .ok (0x1203C, .wb) := by decide +kernel

theorem crossEng_ready : let q := ((crossEng.start (ctxIdx E) false).xlate (ctxIdx E) .readWrite 0x2000).1
    q.memStatus 0x1203C 8 = none ∧ q.l2En 0 = true ∧ q.l2Way 0 0x480 = some 0 ∧ (q.l2At (l2Key 0 (0x480 % l2Sets 0) 0)).ecc = .good ∧
      q.sbNear 0 0x1203C 8 = none ∧ (q.exe 0).sb = [] ∧ (q.ctx (ctxIdx E)).log.length < 32 ∧
      q.accessStatus (ctxIdx E) .readWrite .wb 0x1203C 8 = none := by decide +kernel

/-- The bytes of the doubleword that lie in the next line are not written. -/
theorem crossEng_swap : (run (.swap E 0 3 1 2) crossEng).domByte 0 0x12040 = 0 := by decide +kernel

/-- Refutes O22: at an aligned engine address whose window's target is aligned to nothing the doubleword crosses a line, and SWAP writes no
byte of the second one. -/
theorem not_atomicsReadModifyAndWrite : ¬ Obligations.AtomicsReadModifyAndWrite := by
  unfold Obligations.AtomicsReadModifyAndWrite
  intro h
  obtain ⟨-, hswap, -⟩ := h E 0 3 1 2 crossEng crossEng_canIssue
  obtain ⟨hm, hen, hway, hecc, hnear, hsb, hlog, hst⟩ := crossEng_ready
  have ha : (crossEng.start (ctxIdx E) false).g (ctxIdx E) (1 : Reg5).toNat = 0x2000 := by decide +kernel
  have hb : (crossEng.start (ctxIdx E) false).g (ctxIdx E) (2 : Reg5).toNat = -1 := by decide +kernel
  dsimp only at hswap
  rw [ha, hb, if_neg (by decide)] at hswap
  obtain ⟨u, hu, -, ⟨hbyte, -⟩, -⟩ := hswap 0x1203C .wb crossEng_xlate
    ⟨hm, .inl rfl, ⟨hen, 0, hway, hecc⟩, hnear, fun _ => hsb, .inr hlog⟩ hst
  have hrun : run (.swap E 0 3 1 2) crossEng = u := by rw [run, hu, nxt]
  have hlast := hbyte 0x12040
  rw [← hrun] at hlast
  exact absurd (crossEng_swap.symm.trans hlast) (by decide)

end Sys2Proof.Machine
end

section
/-! SUPPORT. A line read from memory and placed in an L2, and the obligation on prefetches (R51, R152, R154). -/

namespace Sys2Proof.Machine

/-! ### Registers that no service of an access changes -/

theorem l2Lock_not_isCacheReg (d : Nat) : ¬IsCacheReg (Reg.l2Lock d) := by
  unfold IsCacheReg IsMcReg IsPmc Reg.l2Lock Reg.l2Pmc Reg.oePmc Reg.l2Stat Reg.l2Erraddr
  rintro (h | (⟨e, n, hn, h⟩ | ⟨u, n, hn, h⟩) | ⟨e, h | h⟩)
  all_goals
    repeat' split at h
    all_goals omega

theorem not_isCacheReg_of_lt {a : Nat} (ha : a < 0x80000040000) : ¬IsCacheReg a := by
  unfold IsCacheReg IsMcReg IsPmc Reg.l2Pmc Reg.oePmc Reg.l2Stat Reg.l2Erraddr
  rintro (h | (⟨e, n, hn, h⟩ | ⟨u, n, hn, h⟩) | ⟨e, h | h⟩)
  all_goals
    repeat' split at h
    all_goals omega

theorem not_isPmc_of_isMcReg {a : Nat} (ha : IsMcReg a) : ¬IsPmc a := by
  unfold IsMcReg at ha
  unfold IsPmc Reg.l2Pmc Reg.oePmc
  rintro (⟨e, n, hn, h⟩ | ⟨u, n, hn, h⟩)
  all_goals
    repeat' split at h
    all_goals omega

theorem CacheStep.sealed {load : Bool} {s t : State} (h : CacheStep load s t) (i : Nat) : t.sealed i = s.sealed i := by
  have hm : t.reg Reg.devMode = s.reg Reg.devMode := h.reg _ (not_isCacheReg_of_lt (by decide))
  unfold State.sealed State.unitMode State.mode State.regBit
  rw [hm]

theorem CacheStep.fillWays {load : Bool} {s t : State} (h : CacheStep load s t) (d : Nat) (bid : BitVec 12) : t.fillWays d bid = s.fillWays d bid := by
  have hb : t.booth bid = s.booth bid := by rw [State.booth, h.eq]; rfl
  unfold State.fillWays State.l2Locked State.regBit
  rw [h.reg _ (l2Lock_not_isCacheReg d), h.sealed, hb]

/-- The clock of an address's memory, and whether it has stopped, are not read from performance counters. -/
theorem SameSources.stopped {s t : State} (h : SameSources s t) (a : Nat) : t.stopped (t.memIsland a) = s.stopped (s.memIsland a) := by
  have hm : t.reg Reg.mcDdrCap = s.reg Reg.mcDdrCap := h.reg _ (not_isPmc_of_isMcReg (by decide))
  have hc : t.reg Reg.devClkStat = s.reg Reg.devClkStat := h.reg _ fun hp => not_isCacheReg_of_lt (by decide) (.inr (.inl hp))
  have hi : t.memIsland a = s.memIsland a := by
    unfold State.memIsland State.ctlOf State.ddrN
    rw [hm]
  unfold State.stopped State.regBit
  rw [hi, hc, h.ctl]

/-! ### A line of memory is read (R387, R391) -/

/-- The same bytes and error states of code words. -/
structure SameWords (s t : State) : Prop where
  mem : t.mem = s.mem
  merge : t.merge = s.merge
  ecc : t.ecc = s.ecc

namespace SameWords
variable {s t : State}

theorem record {s' t' : State} (h : SameWords s t) (hs : McRecord s s') (ht : McRecord t t') : SameWords s' t' :=
  ⟨by rw [ht.mem, h.mem, hs.mem], by rw [ht.merge, h.merge, hs.merge], by rw [ht.ecc, h.ecc, hs.ecc]⟩
theorem setEcc (h : SameWords s t) (cw : Nat) (e : Ecc) : SameWords (s.setEcc cw e) (t.setEcc cw e) :=
  ⟨h.mem, h.merge, by rw [State.setEcc_ecc, State.setEcc_ecc, h.ecc]⟩
theorem eccAt (h : SameWords s t) (cw : Nat) : t.eccAt cw = s.eccAt cw := by rw [State.eccAt, State.eccAt, h.ecc]
theorem mergeAt (h : SameWords s t) (cw : Nat) : t.mergeAt cw = s.mergeAt cw := by rw [State.mergeAt, State.mergeAt, h.merge]

/-- A state whose counter of read-modify-writes at a controller has stepped, the MRAM controller having none. -/
theorem countRmw (h : SameWords s t) (n m : Nat) :
    SameWords (if n = 12 then s else s.bump (Reg.mcRmwCnt n)) (if m = 12 then t else t.bump (Reg.mcRmwCnt m)) := by
  have hc (u : State) (k : Nat) : SameWords u (if k = 12 then u else u.bump (Reg.mcRmwCnt k)) := by
    split
    · exact ⟨rfl, rfl, rfl⟩
    · exact ⟨rfl, rfl, rfl⟩
  obtain ⟨hs1, hs2, hs3⟩ := hc s n
  obtain ⟨ht1, ht2, ht3⟩ := hc t m
  exact ⟨by rw [ht1, h.mem, hs1], by rw [ht2, h.merge, hs2], by rw [ht3, h.ecc, hs3]⟩

theorem dropMerge (h : SameWords s t) (cw : Nat) {m m' : Tab Byte} (hm : m' = m) :
    SameWords { s.setMerge cw {} with mem := m } { t.setMerge cw {} with mem := m' } := 
  ⟨hm, by simp only [State.setMerge_merge, h.merge], by simp only [State.setMerge_ecc, h.ecc]⟩

theorem mergeDrain (h : SameWords s t) (cw : Nat) : SameWords (s.mergeDrain cw) (t.mergeDrain cw) := by
  have h1 := h.dropMerge cw (m := mergeInto s.mem cw (s.mergeAt cw) (cwSize cw)) (m' := mergeInto t.mem cw (t.mergeAt cw) (cwSize cw))
    (by rw [h.mem, h.mergeAt])
  unfold State.mergeDrain
  dsimp only
  rw [h.mergeAt, h.eccAt] at *
  generalize hs1 : ({ s.setMerge cw {} with mem := mergeInto s.mem cw (s.mergeAt cw) (cwSize cw) } : State) = s1 at *
  generalize ht1 : ({ t.setMerge cw {} with mem := mergeInto t.mem cw (s.mergeAt cw) (cwSize cw) } : State) = t1 at *
  split
  · exact h
  split
  · exact h1.setEcc cw .good
  have h2 := h1.countRmw (s.ctlOf cw) (t.ctlOf cw)
  split
  · exact h2
  · exact (h2.record (State.recordCE_record ..) (State.recordCE_record ..)).setEcc ..
  · exact (h2.record (State.recordUE_record ..) (State.recordUE_record ..)).setEcc ..
  · exact (h2.record (State.recordUE_record ..) (State.recordUE_record ..)).setEcc ..

theorem foldl_mergeDrain (h : SameWords s t) (l : List Nat) : SameWords (l.foldl State.mergeDrain s) (l.foldl State.mergeDrain t) := by
  induction l generalizing s t with
  | nil => exact h
  | cons cw l ih => exact ih (h.mergeDrain cw)

theorem readCw (h : SameWords s t) (cw : Nat) (k : Kind) (cls cls' : BitVec 2) :
    SameWords (s.readCw cw k cls).1 (t.readCw cw k cls').1 ∧ (t.readCw cw k cls').2 = (s.readCw cw k cls).2 := by
  refine ⟨h.record (s.readCw_record ..) (t.readCw_record ..), ?_⟩
  unfold State.readCw
  rw [h.eccAt]
  cases s.eccAt cw <;> rfl

theorem readCws (h : SameWords s t) (l : List Nat) (cls cls' : BitVec 2) (b : Bool) :
    (Machine.readCws l cls' (t, b)).2 = (Machine.readCws l cls (s, b)).2 := by
  induction l generalizing s t b with
  | nil => rfl
  | cons cw l ih =>
    obtain ⟨hw, hb⟩ := h.readCw cw 0 cls cls'
    show (Machine.readCws l cls' ((t.readCw cw 0 cls').1, b || (t.readCw cw 0 cls').2)).2 = _
    rw [hb]
    exact ih hw _

theorem busRead_status (h : SameWords s t) (a n : Nat) (cls cls' : BitVec 2) : (t.busRead a n cls').2.1 = (s.busRead a n cls).2.1 := by
  rw [State.busRead_eq, State.busRead_eq]
  dsimp only
  rw [(h.foldl_mergeDrain (granuleCws a n)).readCws]

end SameWords

theorem cwBase_of_mem_lineCws {line cw : Nat} (h : cw ∈ granuleCws (line * 64) 64) : cwBase cw = cw := by
  unfold granuleCws at h
  obtain ⟨i, hi, rfl⟩ := List.mem_map.1 h
  rw [List.mem_range] at hi
  unfold cwBase
  unfold cwSize hbmEnd mramBase at *
  (repeat' split at *) <;> omega

theorem State.busRead_line_spec (s : State) (line : Nat) (cls : BitVec 2) :
    (∀ a, (s.busRead (line * 64) 64 cls).1.peek a = s.peek a) ∧ (s.busRead (line * 64) 64 cls).2.2 = s.peekN (line * 64) 64 := by
  have hpeek (a : Nat) : (s.busRead (line * 64) 64 cls).1.peek a = s.peek a := by
    rw [State.busRead_eq]
    exact ((readCws_record _ cls _).2 a).trans (s.peek_foldl_mergeDrain _ (fun _ h => cwBase_of_mem_lineCws h) a)
  refine ⟨hpeek, ?_⟩
  rw [State.busRead_eq] at hpeek ⊢
  exact List.map_congr_left fun i _ => hpeek (line * 64 + i)

theorem lineByte_lineOf (l : List Byte) {k : Nat} (hk : k < 64) : lineByte (lineOf l) k = l.getD k 0 := by
  refine BitVec.eq_of_toNat_eq ?_
  rw [← leVal_div_mod, lineByte, lineOf, BitVec.extractLsb'_toNat, BitVec.toNat_ofNat, Nat.shiftRight_eq_div_pow]
  have h512 : (2 : Nat) ^ 512 = 2 ^ (8 * k) * (2 ^ 8 * 2 ^ (504 - 8 * k)) := by
    rw [← Nat.pow_add, ← Nat.pow_add]
    congr 1
    omega
  rw [h512, Nat.mod_mul_right_div_self, Nat.mod_mod_of_dvd _ (Dvd.intro _ rfl), show (256 : Nat) = 2 ^ 8 from rfl, ← Nat.pow_mul]

/-! ### A line is placed in an L2 (R152) -/

/-- A line that the L2 does not hold takes an empty way that the fill may use. -/
theorem State.l2Alloc_spec {s : State} {d line way : Nat} {bid : BitVec 12} (hen : s.l2En d = true) (hnone : s.l2Way d line = none)
    (hmem : way ∈ s.fillWays d bid) (hempty : (s.l2At (l2Key d (line % l2Sets d) way)).valid = false) (data : Line) (dirty : Bool) :
    ((s.l2Alloc d line bid data dirty).l2Way d line).isSome = true ∧
      ∀ k, k < 64 → (s.l2Alloc d line bid data dirty).domByte d (line * 64 + k) = lineByte data k := by
  obtain ⟨w, hfind⟩ : ∃ w, (s.fillWays d bid).find? (fun w => !(s.l2At (l2Key d (line % l2Sets d) w)).valid) = some w :=
    Option.isSome_iff_exists.1 (List.find?_isSome.2 ⟨way, hmem, by rw [hempty]; rfl⟩)
  have hw : w < 16 := List.mem_range.1 (List.mem_filter.1 (List.mem_of_find?_eq_some hfind)).1
  have hinv : (s.l2At (l2Key d (line % l2Sets d) w)).valid = false := by simpa using List.find?_some hfind
  generalize hl : ({ valid := true, line := line, dirty := dirty, data := data } : L2Line) = l
  have hput : s.l2Alloc d line bid data dirty = s.setL2 (l2Key d (line % l2Sets d) w) l := by
    unfold State.l2Alloc State.l2Victim
    dsimp only
    rw [if_neg (by rw [hen]; decide), hfind]
    dsimp only
    unfold State.l2Evict
    dsimp only
    rw [hinv, hl]
    rfl
  rw [hput]
  have hat : (s.setL2 (l2Key d (line % l2Sets d) w) l).l2At (l2Key d (line % l2Sets d) w) = l := State.l2At_setL2_same ..
  have hway : ((s.setL2 (l2Key d (line % l2Sets d) w) l).l2Way d line).isSome = true :=
    firstIdx_isSome hw (by rw [hat, ← hl]; simp)
  refine ⟨hway, fun k hk => ?_⟩
  obtain ⟨v, hv⟩ := Option.isSome_iff_exists.1 hway
  obtain ⟨-, hvalid, hline⟩ := State.l2Way_eq_some hv
  have hvw : l2Key d (line % l2Sets d) v = l2Key d (line % l2Sets d) w := by
    by_contra hne
    rw [State.l2At_setL2_ne _ _ _ hne] at hvalid hline
    have := firstIdx_isSome (p := fun w => (s.l2At (l2Key d (line % l2Sets d) w)).valid && decide ((s.l2At (l2Key d (line % l2Sets d) w)).line = line))
      (State.l2Way_eq_some hv).1 (by rw [hvalid, hline]; simp)
    have hn : (s.l2Way d line).isSome = true := this
    rw [hnone] at hn
    cases hn
  have hdiv : (line * 64 + k) / 64 = line := by omega
  rw [State.domByte_of_way (s := s.setL2 _ l) (w := v) hen (by rw [hdiv]; exact hv), hdiv, hvw, hat, ← hl, show (line * 64 + k) % 64 = k by omega]

end Sys2Proof.Machine
end

section
/-! SUPPORT. The obligation on prefetches (R51, R152, R154). -/

namespace Sys2Proof.Machine

theorem SameSources.l1dAlloc {s t : State} (h : SameSources s t) (u line : Nat) (bid : BitVec 12) : SameSources s (t.l1dAlloc u line bid) := by
  unfold State.l1dAlloc
  have hf : SameSources s t.fresh.2 := h.trans ⟨rfl, rfl, rfl, rfl, fun _ _ => rfl⟩
  exact h.ite (hf.setExe ..)

theorem SameWords.l2Lookup (s : State) (d : Nat) (hit : Bool) : SameWords s (s.l2Lookup d hit) := by
  unfold State.l2Lookup State.bump
  exact ⟨by simp only [State.setReg_mem], by simp only [State.setReg_merge], by simp only [State.setReg_ecc]⟩

/-- A context whose access has been served completes its instruction. -/
theorem CacheStep.finish_spec {load : Bool} {s t : State} {x : Nat} (h : CacheStep load s t) (hx : x < 2112) (he : (s.ctx x).epi.isNone = true) :
    s.keepsRegs (t.finish x false) x [] [] ∧ s.movedOn (t.finish x false) x := by
  obtain ⟨hsame, -, hown, -⟩ := State.finish_spec (s := t) hx (by rw [h.epi_isNone]; exact he)
  obtain ⟨hg, hf, hp, hc⟩ := h.keepsRegs x [] []
  have hkeep : t.keepsRegs (t.finish x false) x [] [] := by
    unfold State.keepsRegs State.g State.f State.v State.p State.xcsr
    rw [hown, hsame.classT]
    exact ⟨fun _ _ => rfl, fun _ _ _ => ⟨rfl, rfl⟩, fun _ _ => rfl, fun _ _ => rfl⟩
  refine ⟨⟨fun n hn => (hkeep.1 n hn).trans (hg n hn), fun n hn hn' => ?_, fun n hn => (hkeep.2.2.1 n hn).trans (hp n hn),
    fun n hn => (hkeep.2.2.2 n hn).trans (hc n hn)⟩, ?_⟩
  · obtain ⟨h1, h2⟩ := hkeep.2.1 n hn hn'
    exact ⟨h1.trans (hf n hn hn').1, h2.trans (hf n hn hn').2⟩
  · unfold State.movedOn
    rw [hown, ← h.npc x, ← h.instret x]
    exact ⟨rfl, rfl, rfl, rfl⟩

theorem CacheStep.prefAt {s t : State} (h : CacheStep true s t) (x : Nat) (a : W64) (l1 : Bool) : CacheStep true s (t.prefAt x a l1) := by
  have hr := h.xlate x .read a
  unfold State.prefAt
  dsimp only
  split
  · exact hr
  rename_i p attr _
  have hl (hit : Bool) := (hr.l2Check (domOf (unitOf x)) (p / 64)).l2Lookup (domOf (unitOf x)) hit
  split
  · exact hr
  split
  · exact (hr.setExeLoad ..).ite hr
  split
  · exact hr
  split
  · exact (hl _).demandFill ..
  split
  · exact hl _
  split
  · exact (hl _).demandRead ..
  · exact ((hl _).demandRead ..).l2Alloc ..

section
variable {q z : State} {d line way : Nat} {cls : BitVec 2} {bid : BitVec 12} (hs : SameSources q z) (hw : SameWords q z)
  (hc : CacheStep true q z) (hrun : q.stopped (q.memIsland (line * 64)) = false) (hok : (q.busRead (line * 64) 64 cls).2.1 = none)
include hs hw hrun hok

/-- A line read without an error, its memory's clock running. -/
theorem State.demandRead_line (cls' : BitVec 2) :
    z.demandRead (line * 64) 64 cls' = z.busRead (line * 64) 64 cls' ∧ (z.demandRead (line * 64) 64 cls').2.1 = none := by
  have hread : z.demandRead (line * 64) 64 cls' = z.busRead (line * 64) 64 cls' := by
    unfold State.demandRead
    rw [hs.stopped, hrun]
    rfl
  exact ⟨hread, by rw [hread, hw.busRead_status (cls := cls), hok]⟩

include hc
/-- The line then takes an empty way of the L2, with the bytes of memory. -/
theorem State.demandRead_l2Alloc (hen : q.l2En d = true) (hnone : q.l2Way d line = none) (hmem : way ∈ q.fillWays d bid)
    (hempty : (q.l2At (l2Key d (line % l2Sets d) way)).valid = false) (cls' : BitVec 2) : let r := z.demandRead (line * 64) 64 cls'
    let t := r.1.l2Alloc d line bid (lineOf r.2.2) false
    (t.l2Way d line).isSome = true ∧ ∀ k, k < 64 → t.domByte d (line * 64 + k) = q.peek (line * 64 + k) := by
  intro r
  obtain ⟨hread, -⟩ := State.demandRead_line hs hw hrun hok cls'
  have hr : r = z.busRead (line * 64) 64 cls' := hread
  have hstep := z.busRead_step (line * 64) 64 cls'
  have hqr : CacheStep true q r.1 := hr ▸ hc.busRead ..
  have hl2 : r.1.l2 = q.l2 := by
    rw [hr, hstep.eq]
    exact hs.l2
  have hat (k : Nat) : r.1.l2At k = q.l2At k := by rw [State.l2At, State.l2At, hl2]
  obtain ⟨hsome, hbytes⟩ := State.l2Alloc_spec (s := r.1) (line := line) (way := way) (bid := bid) (by rw [hqr.l2En, hen])
    (by rw [← hnone]; simp only [State.l2Way, hat]) (by rwa [hqr.fillWays]) (by rwa [hat]) (lineOf r.2.2) false
  refine ⟨hsome, fun k hk => ?_⟩
  rw [hbytes k hk, lineByte_lineOf _ hk, hr, (z.busRead_line_spec line cls').2, State.peekN, List.getD_eq_getElem?_getD]
  simp [hk, hs.peek]

end

/-- A prefetch of a cached line that the L2 does not hold reads it, and places it in the L2, and PREF1 in the L1D. -/
theorem State.prefAt_miss {t q z r : State} {x p d : Nat} {a : W64} {attr : Attr} {l1 : Bool} {l : List Byte}
    (hx : t.xlate x .read a = (q, .ok (p, attr))) (hm : q.memStatus p 1 = none) (hattr : attr.cached = true) (hd : domOf (unitOf x) = d)
    (hen : q.l2En d = true) (hnone : q.l2Way d (p / 64) = none)
    (hl1 : l1 = true → q.denOn (unitOf x) = false ∨ (q.exe (unitOf x)).hasL1d (p / 64) = false) (hz : q.l2Lookup d false = z)
    (hr : z.demandRead (p / 64 * 64) 64 (z.ctxClass x) = (r, none, l)) :
    SameSources (r.l2Alloc d (p / 64) (z.ctx x).bid (lineOf l) false) (t.prefAt x a l1) := by
  have hcheck (v : State) (hv : v.l2Way d (p / 64) = none) : v.l2Check d (p / 64) = (v, false) :=
    State.l2Check_of_good fun w hw => by rw [hv] at hw; cases hw
  have hzn : z.l2Way d (p / 64) = none := by
    rw [← hz, ((SameSources.refl q).l2Lookup d false).l2Way]
    exact hnone
  have hskip : ¬(!q.l2En d || (l1 && q.denOn (unitOf x) && (q.exe (unitOf x)).hasL1d (p / 64))) = true := by
    rw [hen]
    cases l1
    · simp
    · rcases hl1 rfl with h | h <;> simp [h]
  unfold State.prefAt
  rw [hx]
  dsimp only
  rw [hd, hm, if_neg (by cases attr <;> simp [Attr.cached] at hattr ⊢), if_neg (by cases attr <;> simp [Attr.cached] at hattr ⊢),
    if_neg hskip, hcheck _ hnone]
  dsimp only
  rw [hnone, Option.isSome_none, hz]
  cases l1
  · rw [if_neg (by decide), if_neg (by decide), hr]
    exact .refl _
  · unfold State.demandFill
    rw [if_pos rfl, hd]
    dsimp only
    rw [hcheck z hzn]
    dsimp only
    rw [if_neg (by decide), hzn]
    dsimp only
    rw [hr]
    exact (SameSources.refl _).l1dAlloc ..

/-- Settles O23. -/
theorem prefetchesNeverTrap : Obligations.PrefetchesNeverTrap := by
  unfold Obligations.PrefetchesNeverTrap
  intro x rb disp l1 s hi i d t a c q
  have hlt : i < 2112 := State.canIssue_lt hi
  have hd : d < 9 := by
    unfold d domOf unitOf
    split <;> omega
  have hexec : exec c s = .next ((t.prefAt i a l1).finish i false) := by
    have ha (z : State) : z.mopAddr i rb disp = z.g i rb.toNat + disp.signExtend 64 := by
      unfold State.mopAddr dispOf
      rw [show BitVec.ofNat 64 1 = 1#64 from rfl, BitVec.mul_one]
    cases l1
    · exact congrArg _ (issue_ok (sg := { word := encMop 1 0 rb disp, srcs := [lg rb], ra := .noEffect }) hi
        (congrArg (fun a => Eff.ok (t.prefAt i a false)) (ha t)))
    · exact congrArg _ (issue_ok (sg := { word := encMop 0 0 rb disp, srcs := [lg rb], ra := .pref1 (s.mopAddr i rb disp) }) hi
        (congrArg (fun a => Eff.ok (t.prefAt i a true)) (ha t)))
  have hepi : (t.ctx i).epi.isNone = true := Option.isNone_iff_eq_none.2 (State.epi_start_unit hi (Nat.not_le.2 hlt))
  have hstep : CacheStep true t (t.prefAt i a l1) := (CacheStep.refl t).prefAt i a l1
  obtain ⟨hkeep, hmoved⟩ := hstep.finish_spec hlt hepi
  refine ⟨_, hexec, hkeep, hmoved, fun p attr hq hm => ⟨fun hattr => ?_, fun hattr hen hnone hl1 hrun way hway hempty hok => ?_⟩⟩
  · congr 1
    unfold State.prefAt
    dsimp only
    rw [show (t.xlate i .read a).2 = .ok (p, attr) from hq]
    exact if_pos (.inl hattr)
  · obtain ⟨z, hz⟩ : ∃ z, q.1.l2Lookup d false = z := ⟨_, rfl⟩
    have hs : SameSources q.1 z := hz ▸ (SameSources.refl _).l2Lookup ..
    have hw : SameWords q.1 z := hz ▸ SameWords.l2Lookup ..
    have hc : CacheStep true q.1 z := hz ▸ (CacheStep.refl _).l2Lookup ..
    have hread := (State.demandRead_line hs hw hrun hok (z.ctxClass i)).2
    obtain ⟨hsome, hbytes⟩ := State.demandRead_l2Alloc hs hw hc hrun hok hen hnone hway hempty (z.ctxClass i)
    have hsame := State.prefAt_miss (t := t) (l1 := l1) (Prod.ext rfl hq) hm hattr rfl hen hnone hl1 hz (Prod.ext rfl (Prod.ext hread rfl))
    rw [hc.bid] at hsame
    obtain ⟨hfin, -⟩ := State.finish_spec (s := t.prefAt i a l1) hlt (by rw [hstep.epi_isNone]; exact hepi)
    have hall := hsame.trans hfin
    exact ⟨by rw [hall.l2Way]; exact hsome, fun k hk => by rw [hall.sameBytes.2 d _ hd]; exact hbytes k hk⟩

end Sys2Proof.Machine
end

section
/-! SUPPORT. The obligation on maintenance: INV_SW on the array of an L2 that is off (R158, R163). -/

namespace Sys2Proof.Machine
open Sys2Proof.Tests

/-- A thread at M whose L2 is off, its array holding the line of 0x1000 at set 0x40 and way 0, which g1 names; its L1I holds that line too. -/
def offCore : State :=
  { Tests.core (regs [(1, 0x8000000000001000)]) with l2 := [(l2Key 8 0x40 0, { valid := true, line := 0x40 })] }

theorem offCore_canIssue : offCore.canIssue (ctxIdx H) profK false false = true := by decide +kernel

/-- The line is in one way alone, and its slot is the one that g1 names. -/
theorem offCore_slot : let t := offCore.start (ctxIdx H) false
    t.g (ctxIdx H) (1 : Reg5).toNat = 0x8000000000001000 ∧ (t.ctx (ctxIdx H)).priv = .m ∧
      (t.l2At (l2Key 8 (fld (0x8000000000001000 : W64) 6 12 % 4096) (fld (0x8000000000001000 : W64) 0 4))).valid = true ∧
      (t.l2At (l2Key 8 (fld (0x8000000000001000 : W64) 6 12 % 4096) (fld (0x8000000000001000 : W64) 0 4))).line = 0x40 ∧
      t.l2Way 8 0x40 = some (fld (0x8000000000001000 : W64) 0 4) ∧
      (t.l2At (l2Key 8 (fld (0x8000000000001000 : W64) 6 12 % 4096) (fld (0x8000000000001000 : W64) 0 4))).ecc = .good ∧
      ∀ w, w < 16 → (t.l2At (l2Key 8 (0x40 % l2Sets 8) w)).valid = true → w = 0 := by decide +kernel

/-- The line stays in the L1I. -/
theorem offCore_invSw : 0x40 ∈ ((run (.invSw H 1) offCore).exe 128).l1i := by decide +kernel

/-- Refutes O24: with the L2 off, INV_SW of a slot whose way still names a line does nothing, and the line stays in the L1I. -/
theorem not_maintenanceActsOnItsLines : ¬ Obligations.MaintenanceActsOnItsLines := by
  unfold Obligations.MaintenanceActsOnItsLines
  intro h
  obtain ⟨-, hcore⟩ := h H 0 1 0 0 offCore
  obtain ⟨-, hpriv⟩ := hcore offCore_canIssue
  obtain ⟨hb, hm, hvalid, hline, hway, hecc, honce⟩ := offCore_slot
  dsimp only at hpriv
  rw [hb, hm, hline] at hpriv
  obtain ⟨-, hslot, -⟩ := hpriv (by decide)
  obtain ⟨-, ⟨u, hu, -, -, hinv, -⟩, -⟩ := hslot (by decide) hvalid hway hecc
  obtain ⟨-, ⟨-, hgone⟩, -⟩ := hinv rfl fun w v hw hv hwv hvv _ _ => (honce w hw hwv).trans (honce v hv hvv).symm
  have hrun : run (.invSw H 1) offCore = u := by rw [run, hu, nxt]
  exact (hgone 128 (by decide)).1 (hrun ▸ offCore_invSw)

end Sys2Proof.Machine
end

section
/-! SUPPORT. Run-ahead: the start of an episode, and the contexts that wait for a load (R135, R140–R143). -/

namespace Sys2Proof.Machine

/-! ### What a load that completes leaves of a wait -/

theorem State.pageLoad_ctxs (s : State) (p : Nat) : (s.pageLoad p).ctxs = s.ctxs := by
  have hread (s : State) (a n : Nat) (cls : BitVec 2) : (s.busRead a n cls).1.ctxs = s.ctxs := by rw [(s.busRead_step a n cls).eq]
  have hwrite (s : State) (a : Nat) (l : List Byte) : (s.busWrite a l).ctxs = s.ctxs := by rw [(s.busWrite_step a l).eq]
  unfold State.pageLoad
  dsimp only
  split
  · rfl
  · rw [show ∀ (q : State) f, (q.onAlm f).ctxs = q.ctxs from fun _ _ => rfl, hwrite, State.tabTouch, hread]

theorem State.csrRead_ctxs (s : State) (a : Nat) (f : DbForm) : (s.csrRead a f).1.ctxs = s.ctxs := by
  unfold State.csrRead
  dsimp only
  (repeat' split)
  · rfl
  · exact State.pageLoad_ctxs ..
  · rfl

/-- A load that completes leaves every context waiting for what it waited for, or for nothing. -/
theorem State.loadItem_wait {s t : State} {x n v : Nat} {a : W64} {fill : Bool} (h : s.loadItem x a n fill = .ok t v) (y : Nat) :
    (t.ctx y).wait = (s.ctx y).wait ∨ (t.ctx y).wait = .none := by
  have hx := (CacheStep.refl s).xlate x .read a
  unfold State.loadItem at h
  split at h
  · cases h
  dsimp only at h
  split at h
  · cases h
  rename_i p attr _
  split at h
  · split at h
    · cases h
    · split at h
      · cases h
      · cases h
        exact (hx.sbDrain ..).wait y
  · split at h
    · cases h
    · split at h
      · cases h
      · split at h
        · cases h
        · cases h
          rw [State.ctx_of_ctxs (State.csrRead_ctxs ..)]
          exact (hx.sbDrain ..).wait y
  · split at h
    · cases h
    · have hs : CacheStep true s ((s.xlate x .read a).1.settle (unitOf x) p n attr) := by
        unfold State.settle
        (repeat' split)
        · exact hx.sbDrain ..
        · exact hx
        · exact hx.sbDrain ..
        · exact hx
      split at h
      · cases h
      · split at h
        · cases h
          exact (hs.loadLine ..).wait y
        · cases h
        · cases h

/-! ### An episode starts (R140, R141) -/

theorem State.sameBytes_of {s t : State} (hmem : t.mem = s.mem) (hmerge : t.merge = s.merge) (hl2 : t.l2 = s.l2) (hctl : t.ctl = s.ctl)
    (hreg : ∀ d, d < 9 → t.reg (Reg.l2Ctl d) = s.reg (Reg.l2Ctl d)) : s.sameBytes t := by
  have hpeek (a : Nat) : t.peek a = s.peek a := by rw [State.peek, State.peek, State.mergeAt, State.mergeAt, hmem, hmerge]
  have hat (k : Nat) : t.l2At k = s.l2At k := by rw [State.l2At, State.l2At, hl2]
  refine ⟨hpeek, fun d a hd => ?_⟩
  have hen : t.l2En d = s.l2En d := by rw [State.l2En, State.l2En, State.regBit, State.regBit, hreg d hd, hctl]
  simp only [State.domByte, hen, State.l2Way, hat, hpeek]

/-- A context that runs ahead of a load, from its checkpoint. -/
def Ctx.ahead (c : Ctx) (o : LoadOp) (w : BitVec 32) (lines : List Nat) : Ctx :=
  { c with st := .runAhead, miss := lines, epi := some { chk := c.r, poison := [], load := o, word := w } }

/-- A context that has entered an episode at a load to g register n, whose undefined value is `v`. -/
def Ctx.enter (c : Ctx) (o : LoadOp) (w : BitVec 32) (lines : List Nat) (n : Nat) (v : W64) : Ctx :=
  { c with
    st := .runAhead, miss := lines
    epi := some { chk := c.r, poison := if n = 0 then [] else [.g n], load := o, word := w }
    r := { c.r with g := if n = 0 then c.r.g else Tab.set 0 c.r.g n v, pc := c.r.npc, npc := c.r.npc + 4, slot := false } }

theorem State.ctx_setG_same (s : State) (x n : Nat) (v : W64) : (s.setG x n v).ctx x =
    { s.ctx x with r := { (s.ctx x).r with g := if n = 0 then (s.ctx x).r.g else Tab.set 0 (s.ctx x).r.g n v } } := by
  unfold State.setG
  split
  · rfl
  · exact State.ctx_setCtx_same ..

theorem State.setPoison_g {s : State} {x : Nat} {e : Episode} (he : (s.ctx x).epi = some e) (hp : e.poison = []) (n : Nat) :
    s.setPoison x [.g n] true = s.setCtx x { s.ctx x with epi := some { e with poison := if n = 0 then [] else [.g n] } } := by
  unfold State.setPoison
  dsimp only
  rw [he]
  by_cases hn : n = 0
  · simp [hn, State.canon, hp]
  · simp [hn, State.canon, hp]

theorem State.startEpisode_ctx (s : State) (x : Nat) (o : LoadOp) (w : BitVec 32) (n : Nat) (lines : List Nat) :
    ∃ v, (s.startEpisode x o w [.g n] lines).ctx x = (s.ctx x).enter o w lines n v := by
  obtain ⟨t, ht⟩ : ∃ t, (s.setCtx x ((s.ctx x).ahead o w lines)).fresh.2 = t := ⟨_, rfl⟩
  obtain ⟨v, hv⟩ : ∃ v, BitVec.ofNat 64 (s.setCtx x ((s.ctx x).ahead o w lines)).fresh.1 = v := ⟨_, rfl⟩
  have hctx : t.ctx x = (s.ctx x).ahead o w lines := by
    rw [← ht, show ∀ q : State, q.fresh.2.ctx x = q.ctx x from fun _ => rfl, State.ctx_setCtx_same]
  have hrun : s.startEpisode x o w [.g n] lines =
      (((t.setG x n v).setPoison x [.g n] true).bump (Reg.oeRaEpis (unitOf x) (x % 16))).advance x false := by
    rw [← ht, ← hv]
    rfl
  refine ⟨v, ?_⟩
  have hg := t.ctx_setG_same x n v
  rw [hctx] at hg
  rw [hrun, State.setPoison_g (e := { chk := (s.ctx x).r, poison := [], load := o, word := w }) (by rw [hg]; rfl) rfl, hg]
  unfold State.advance State.setR State.bump
  rw [if_neg (by decide), State.ctx_setCtx_same, State.ctx_setReg, State.ctx_setCtx_same]
  rfl

theorem State.startEpisode_eq (s : State) (x : Nat) (o : LoadOp) (w : BitVec 32) (n : Nat) (lines : List Nat) :
    let t := s.startEpisode x o w [.g n] lines
    t = { s with ctxs := t.ctxs, csr := t.csr, free := t.free } ∧ ∀ a, a ≠ Reg.oeRaEpis (unitOf x) (x % 16) → t.reg a = s.reg a := by
  intro t
  have hg (t : State) (v : W64) : t.setG x n v = { t with ctxs := (t.setG x n v).ctxs } := by
    unfold State.setG
    split <;> rfl
  have hp (t : State) : t.setPoison x [.g n] true = { t with ctxs := (t.setPoison x [.g n] true).ctxs } := by
    unfold State.setPoison
    dsimp only
    split <;> rfl
  obtain ⟨u, v, c, hu, ht⟩ : ∃ (u : State) (v : W64) (c : Ctx), u = { s.setCtx x c with free := s.free + 1 } ∧
    t = (((u.setG x n v).setPoison x [.g n] true).bump (Reg.oeRaEpis (unitOf x) (x % 16))).advance x false := ⟨_, _, _, rfl, rfl⟩
  clear_value t
  subst ht
  rw [hp, hg, hu]
  exact ⟨rfl, fun a ha => State.reg_setReg_ne _ _ _ ha⟩

/-! ### A load of memory (R135, R140, R151) -/

section
variable {t q : State} {x n p : Nat} {a : W64} {attr : Attr} (hn : a.toNat % n = 0) (hx : t.xlate x .read a = (q, .ok (p, attr)))
  (hm : q.memStatus p n = none) (hattr : attr.cached = true) (hnear : q.sbNear (unitOf x) p n = none)
include hn hx hm hattr hnear

theorem State.loadItem_mem : t.loadItem x a n false =
    if q.raOk x attr && (q.nearHit (unitOf x) x p n attr).isNone then .miss q p attr
    else match (q.loadLine (unitOf x) x p n attr false).2 with
      | .hit b => .ok (q.loadLine (unitOf x) x p n attr false).1 (leVal b)
      | .err e => .trap (q.loadLine (unitOf x) x p n attr false).1 (trapData a e false)
      | .miss => .miss q p attr := by
  obtain ⟨hbell, hcsr⟩ := State.region_of_memStatus hm
  have hsettle : q.settle (unitOf x) p n attr = q := by
    unfold State.settle
    rw [if_neg (by cases attr <;> simp [Attr.cached] at hattr ⊢), show List.getLast? _ = none from hnear]
  unfold State.loadItem
  rw [if_neg (by rw [hn]; simp), hx]
  dsimp only
  split
  · rename_i h
    exact absurd h hbell
  · rename_i h
    exact absurd h hcsr
  · rw [hm]
    dsimp only
    rw [hsettle]
    rfl

variable (hside : q.sideHit (unitOf x) x (p / 64) = none) (hl1 : q.denOn (unitOf x) = false ∨ (q.exe (unitOf x)).hasL1d (p / 64) = false)
include hside hl1

/-- Where run-ahead is allowed a load that the caches beside the L2 do not serve misses. -/
theorem State.loadItem_miss_raOk (hra : q.raOk x attr = true) : t.loadItem x a n false = .miss q p attr := by
  have hhit : q.nearHit (unitOf x) x p n attr = none := by
    unfold State.nearHit
    rw [show List.getLast? _ = none from hnear]
    dsimp only
    rw [hside]
    dsimp only
    exact if_neg (by rcases hl1 with h | h <;> simp [h])
  rw [State.loadItem_mem hn hx hm hattr hnear, hra, hhit]
  rfl

/-- Where it is not, it misses when the L2 does not hold the line. -/
theorem State.loadItem_miss_l2 (hra : q.raOk x attr = false) (hen : q.l2En (domOf (unitOf x)) = true)
    (hnone : q.l2Way (domOf (unitOf x)) (p / 64) = none) : t.loadItem x a n false = .miss q p attr := by
  have huc : attr ≠ .uc := fun h => by simp [h, Attr.cached] at hattr
  have hstr : attr ≠ .str := fun h => by simp [h, Attr.cached] at hattr
  have hline : (q.loadLine (unitOf x) x p n attr false).2 = .miss := by
    unfold State.loadLine
    dsimp only
    rw [show List.getLast? _ = none from hnear]
    dsimp only
    rw [if_neg huc]
    unfold State.loadLine.go
    rw [if_neg huc, hside]
    dsimp only
    rw [if_neg hstr, if_neg (by simp [hen]), if_neg (by rcases hl1 with h | h <;> simp [h]),
      State.l2Check_of_good (d := domOf (unitOf x)) (line := p / 64) fun w hw => by rw [hnone] at hw; cases hw]
    dsimp only
    rw [if_neg (by decide), hnone]
    rfl
  rw [State.loadItem_mem hn hx hm hattr hnear, hra, hline]
  rfl

end

theorem IssuesLoad.exec_miss {c : Instr} {x op p : Nat} {rt : Reg5} {ea : State → W64} {o : LoadOp} {w : BitVec 32} {s q : State} {attr : Attr}
    (hc : IssuesLoad c x op rt ea o w) (hi : s.canIssue x profKE false false = true)
    (hmiss : (s.start x false).loadItem x (ea (s.start x false)) (opSize op) false = .miss q p attr) (hattr : attr.cached = true) : exec c s =
      .next (if q.raOk x attr then q.startEpisode x o w [loadLoc op rt] [p / 64] else q.missWait x o w [p / 64]) := by
  obtain ⟨sg, ld, hprof, hslot, hwide, hexec⟩ := hc
  have hbody : (s.start x sg.wide).scalarLoad x op rt (ea (s.start x sg.wide)) o w false =
      if q.raOk x attr then .done (q.startEpisode x o w [loadLoc op rt] [p / 64]) else .wait (q.missWait x o w [p / 64]) := by
    rw [hwide, State.scalarLoad, hmiss]
    dsimp only
    rw [if_pos hattr]
  have hi' : s.canIssue x sg.prof sg.noSlot sg.wide = true := by rw [hprof, hslot, hwide]; exact hi
  rw [hexec]
  split
  · rename_i hra
    rw [if_pos hra] at hbody
    rw [issueWith_done hi' hbody]
  · rename_i hra
    rw [if_neg hra] at hbody
    rw [issueWith_wait hi' (Nat.not_le.2 (State.canIssue_lt hi)) hbody]

/-! ### A load that runs again (R143) -/

/-- A step in a context's own registers, and then the instruction completes. -/
theorem RegStep.finish_movedOn {x : Nat} {dst : List Loc} {csrs : List Nat} {s t : State} (h : RegStep x dst csrs s t) (hx : x < 2112)
    (he : (s.ctx x).epi.isNone = true) : s.movedOn (t.finish x false) x := by
  obtain ⟨-, -, hown, -⟩ := State.finish_spec (s := t) hx (by rw [h.epi]; exact he)
  have hflow := h.flow
  unfold Ctx.flow at hflow
  simp only [Prod.mk.injEq] at hflow
  obtain ⟨-, hnpc, -, -, hins⟩ := hflow
  unfold State.movedOn
  rw [hown]
  exact ⟨hnpc, congrArg (· + 4) hnpc, rfl, congrArg (· + 1) hins⟩

/-- A completed load of an integer op writes its destination and moves on. -/
theorem State.setLoad_finish_spec {r : State} {x op : Nat} {rt : Reg5} {v : Nat} (hop : op ≤ 6) (hx : x < 2112) (he : (r.ctx x).epi = none) :
    let u := (r.setLoad x op rt v).retire x
    ((u.ctx x).st = (r.ctx x).st ∧ (u.ctx x).wait = (r.ctx x).wait) ∧ (rt ≠ 0 → u.g x rt.toNat = loadVal op v) ∧
      r.keepsRegs u x [.g rt.toNat] [] ∧ r.movedOn u x := by
  intro u
  have hset : r.setLoad x op rt v = r.setG x rt.toNat (loadVal op v) := if_neg (by omega)
  have hstep : RegStep x [.g rt.toNat] [] r (r.setLoad x op rt v) := by
    rw [hset]
    exact (RegStep.refl r).setG (List.mem_singleton_self _) _
  have hu : u = (r.setLoad x op rt v).finish x false := (State.finish_unit (by omega) _ false).symm
  have hfin := hstep.toOwnStep.finish false
  have he' : (r.ctx x).epi.isNone = true := Option.isNone_iff_eq_none.2 he
  rw [hu]
  refine ⟨⟨(congrArg Ctx.st hfin.core :), (congrArg Ctx.wait hfin.core :)⟩, fun hrt => ?_, hfin.keepsRegs, hstep.finish_movedOn hx he'⟩
  rw [State.g_finish, hset]
  exact State.g_setG_same (fun h => hrt (BitVec.eq_of_toNat_eq h)) _ _ _

end Sys2Proof.Machine
end

section
/-! SUPPORT. The obligation on run-ahead (R50, R135, R140–R143). -/

namespace Sys2Proof.Machine

/-- A context that waits for something else is not woken. -/
theorem State.ctx_wakeAll {s : State} {y : Nat} {w : Wait} (h : (s.ctx y).wait ≠ w) (xs : List Nat) : (s.wakeAll xs w).ctx y = s.ctx y := by
  refine List.foldlRecOn (motive := fun t : State => t.ctx y = s.ctx y) xs _ rfl fun t ht x _ => ?_
  dsimp only
  split
  · rename_i hx
    rw [State.ctx_setCtx_ne _ _ _ fun e => h (by rw [← ht, e, hx]), ht]
  · exact ht

theorem State.missWait_ctx (s : State) (x : Nat) (o : LoadOp) (w : BitVec 32) (lines : List Nat) :
    (s.missWait x o w lines).ctx x = { s.ctx x with st := .waitMem, wait := .load o w, miss := lines } := by
  unfold State.missWait State.waitFor
  rw [State.ctx_setCtx_same, State.ctx_setCtx_same]

/-- The loads of an integer op, run again, end as the item's load does. -/
theorem State.runLoad_ok {s r : State} {x v : Nat} {op : BitVec 4} {rt rb : Reg5} {disp : BitVec 12} {w : BitVec 32} {fill : Bool}
    (h : s.loadItem x (s.g x rb.toNat + dispOf disp (opSize op.toNat)) (opSize op.toNat) fill = .ok r v) :
    s.runLoad x (.m op rt rb disp) w fill = .ok (r.setLoad x op.toNat rt v) := by
  unfold State.runLoad
  dsimp only
  unfold State.scalarLoad
  rw [h]

section
variable {x : CtxId} {s : State} {i : Nat} (hi : ctxIdx x = i)
include hi

theorem exec_missDataArrival {e : Episode} {t : State} (he : (s.ctx i).epi = some e)
    (ht : ((s.squash i).wake i).runLoad i e.load e.word true = .ok t) : exec (.missDataArrival x) s =
      .next ((t.setCtx i { t.ctx i with
        r := { e.chk with resv := (t.ctx i).r.resv }, st := .waitMem, wait := .reissue e.load e.word }).filled i) := by
  show execMissDataArrival x s = _
  unfold execMissDataArrival
  dsimp only
  rw [hi, he]
  dsimp only
  rw [ht]
  rfl

theorem exec_missingLoadReissue {o : LoadOp} {w : BitVec 32} {t r : State} (hw : (s.ctx i).wait = .reissue o w)
    (ht : ((s.wake i).pmc (unitOf i) 1).setExe (unitOf i) { ((s.wake i).pmc (unitOf i) 1).exe (unitOf i) with ptr := i % 16 } = t)
    (hr : t.runLoad i o w false = .ok r) : exec (.missingLoadReissue x) s = .next (r.retire i) := by
  show execMissingLoadReissue x s = _
  unfold execMissingLoadReissue
  dsimp only
  rw [hi, hw]
  dsimp only
  rw [ht, hr]
  rfl

theorem exec_demandMissFill {o : LoadOp} {w : BitVec 32} {r : State} (hw : (s.ctx i).wait = .load o w)
    (hr : (s.wake i).runLoad i o w true = .ok r) : exec (.demandMissFill x) s = .next ((r.retire i).filled i) := by
  show execDemandMissFill x s = _
  unfold execDemandMissFill
  dsimp only
  rw [hi, hw]
  dsimp only
  rw [hr]
  rfl

end

/-- What an LD that starts an episode leaves. -/
theorem State.startEpisode_spec (s : State) (x : Nat) (o : LoadOp) (w : BitVec 32) (rt : Reg5) (lines : List Nat) :
    let u := s.startEpisode x o w [.g rt.toNat] lines
    (u.ctx x).st = .runAhead ∧
      (∃ e, (u.ctx x).epi = some e ∧ e.chk = (s.ctx x).r ∧ e.ended = false ∧ (rt ≠ 0 → .g rt.toNat ∈ e.poison)) ∧
      (u.ctx x).r.pc = (s.ctx x).r.npc ∧ s.sameBytes u ∧ s.keepsRegs u x [.g rt.toNat] [] := by
  intro u
  obtain ⟨v, hctx⟩ := s.startEpisode_ctx x o w rt.toNat lines
  obtain ⟨heq, hreg⟩ := s.startEpisode_eq x o w rt.toNat lines
  have hclass : u.classT x = s.classT x := by
    unfold State.classT State.regBit
    rw [hreg]
    unfold Reg.oeCfg Reg.oeRaEpis
    omega
  have hu : u = s.startEpisode x o w [.g rt.toNat] lines := rfl
  rw [← hu] at hctx heq
  clear_value u
  refine ⟨by rw [hctx]; rfl, ⟨_, by rw [hctx]; rfl, rfl, rfl, fun h => ?_⟩, by rw [hctx]; rfl,
    State.sameBytes_of (by rw [heq]) (by rw [heq]) (by rw [heq]) (by rw [heq]) fun d _ => ?_, fun n hn => ?_, fun n _ _ => ⟨?_, ?_⟩, fun n _ => ?_,
    fun n _ => ?_⟩
  · dsimp only
    rw [if_neg fun e : rt.toNat = 0 => h (BitVec.eq_of_toNat_eq e)]
    exact List.mem_singleton_self _
  · rw [hu]
    refine hreg _ ?_
    unfold Reg.l2Ctl Reg.oeRaEpis
    split <;> omega
  · have hne : n ≠ rt.toNat := fun e => hn (by rw [e]; exact List.mem_singleton_self _)
    unfold State.g Ctx.enter at *
    rw [hctx]
    dsimp only
    split
    · rfl
    · split
      · rfl
      · exact Tab.get_set_ne _ _ _ _ hne
  · unfold State.f State.v
    rw [hclass, hctx]
    rfl
  · unfold State.v
    rw [hctx]
    rfl
  · unfold State.p
    rw [hctx]
    rfl
  · unfold State.xcsr
    rw [hctx]
    rfl

/-- Settles O25. -/
theorem runAheadLeavesNoTrace : Obligations.RunAheadLeavesNoTrace := by
  unfold Obligations.RunAheadLeavesNoTrace
  intro x rt rb disp w s i un hsv
  have hx : i < 2112 := Nat.not_le.1 (ctxIdx_unit hsv)
  have hi : ctxIdx x = i := rfl
  refine ⟨fun hc => ?_, fun e he t ht => ?_, fun h => ?_, ?_, fun h => ?_, ?_, fun h => ?_⟩
  · intro t a q p attr hn hq hm hattr hnear hside hl1
    have hld : IssuesLoad (.ld x rt rb disp) i 3 rt (fun s => s.mAddr i 3 rb disp) (.m 3 rt rb disp) (encM 0x10 rt rb 3 disp) :=
      loadM_issues (op := 3) fun _ => rfl
    have hxl : t.xlate i .read a = (q.1, .ok (p, attr)) := Prod.ext rfl hq
    have hstep : CacheStep true t q.1 := (CacheStep.refl t).xlate i .read a
    refine ⟨fun hra => ?_, fun hra hen hnone => ?_⟩
    · have hexec := hld.exec_miss hc (State.loadItem_miss_raOk hn hxl hm hattr hnear hside hl1 hra) hattr
      rw [if_pos hra] at hexec
      obtain ⟨hst, hepi, hpc, hbytes, hregs⟩ := q.1.startEpisode_spec i (.m 3 rt rb disp) (encM 0x10 rt rb 3 disp) rt [p / 64]
      exact ⟨_, hexec, hst, hepi, hpc.trans (hstep.npc i), hbytes, hregs⟩
    · have hexec := hld.exec_miss hc (State.loadItem_miss_l2 hn hxl hm hattr hnear hside hl1 hra hen hnone) hattr
      rw [if_neg (by rw [hra]; decide)] at hexec
      have hctx := q.1.missWait_ctx i (.m 3 rt rb disp) (encM 0x10 rt rb 3 disp) [p / 64]
      exact ⟨_, _, hexec, by rw [hctx], rfl, ⟨_, _, by rw [hctx]⟩, by rw [hctx],
        State.sameBytes_of rfl rfl rfl rfl fun _ _ => rfl⟩
  · have hctx := (t.setCtx i { t.ctx i with
        r := { e.chk with resv := (t.ctx i).r.resv }, st := .waitMem, wait := .reissue e.load e.word }).ctx_wakeAll (y := i) (w := .fill)
      (by rw [State.ctx_setCtx_same]; simp) ((t.setCtx i { t.ctx i with
        r := { e.chk with resv := (t.ctx i).r.resv }, st := .waitMem, wait := .reissue e.load e.word }).domCtxs (domOf (unitOf i)))
    rw [State.ctx_setCtx_same] at hctx
    refine ⟨_, exec_missDataArrival hi he ht, ?_⟩
    unfold State.filled
    dsimp only
    rw [hctx]
    exact ⟨rfl, rfl, rfl, rfl⟩
  · show execMissDataArrival x s = _
    unfold execMissDataArrival
    dsimp only
    rw [hi, h]
  · intro op hop hw t n a r v hr he
    obtain ⟨⟨hst, -⟩, hg, hkeep, hmoved⟩ := State.setLoad_finish_spec (rt := rt) (v := v) hop hx he
    exact ⟨_, exec_missingLoadReissue hi hw rfl (State.runLoad_ok hr), hst, hg, hkeep, hmoved⟩
  · show execMissingLoadReissue x s = _
    unfold execMissingLoadReissue
    dsimp only
    rw [hi]
    split
    · rename_i hw
      exact absurd hw (h _ _)
    · rfl
  · intro op hop hw t n a r v hr he
    obtain ⟨⟨hst, hwait⟩, hg, hkeep, hmoved⟩ := State.setLoad_finish_spec (rt := rt) (v := v) hop hx he
    generalize hu : (r.setLoad i op.toNat rt v).retire i = u at *
    have hnf : (u.ctx i).wait ≠ .fill := by
      have ht : (t.ctx i).wait = .none := congrArg Ctx.wait (State.ctx_setCtx_same s i _)
      rw [hwait]
      rcases State.loadItem_wait hr i with h | h
      · rw [h, ht]
        exact nofun
      · rw [h]
        exact nofun
    have hctx : (u.filled i).ctx i = u.ctx i := State.ctx_wakeAll hnf _
    have hexec := exec_demandMissFill hi hw (State.runLoad_ok hr)
    rw [hu] at hexec
    have hsame : SameSources u (u.filled i) := (SameSources.refl u).wakeAll ..
    refine ⟨_, hexec, by rw [hctx, hst], by rw [hctx, hwait], fun h => ?_, ?_, ?_⟩
    · unfold State.g at hg ⊢
      rw [hctx]
      exact hg h
    · unfold State.keepsRegs State.g State.f State.v State.p State.xcsr at hkeep ⊢
      rw [hctx, hsame.classT]
      exact hkeep
    · unfold State.movedOn at hmoved ⊢
      rw [hctx]
      exact hmoved
  · show execDemandMissFill x s = _
    unfold execDemandMissFill
    dsimp only
    rw [hi]
    split
    · rename_i hw
      exact absurd hw (h _ _)
    · rfl

end Sys2Proof.Machine
end

section
/-! SUPPORT. The obligation on pipeline jobs: a completion whose ring faults halts the Booth, and a release-ordered queue then counts down
its fetched entries too (R269, R276). -/

namespace Sys2Proof.Machine
open Sys2Proof.Tests

/-- A job of one stage that has ended, from a release-ordered queue with an entry fetched; the Booth has no window for the completion ring. -/
def haltJob : State :=
  { ctxs := [(0, { st := .drain, bid := 1, qid := 5 })]
    jobs := [(0, { live := true, item := { q := 5, role := 2 }, bid := 1, stages := [{ ctx := 0 }] })]
    queues := [(5, { exists_ := true, cls := 1, role := 2, bid := 1, fetched := [{}], inflight := 5 })]
    booths := [(1, { st := .active })] }

theorem haltJob_completes : ((run (.jobCompletion 0 0 0) haltJob).queue 5).inflight = 3 := by decide +kernel

/-- Refutes O40: JOB_COMPLETION counts the job's queue down by two, since the write of the completion fails, the Booth halts, and the entry
fetched from the release-ordered queue is dropped. -/
theorem not_pipelineJobsStartExpireAndComplete : ¬ Obligations.PipelineJobsStartExpireAndComplete := by
  unfold Obligations.PipelineJobsStartExpireAndComplete
  intro h
  obtain ⟨-, -, -, -, u, hu, -, hdone⟩ := h 0 0 0 0 haltJob
  obtain ⟨-, -, -, hflight, -⟩ := hdone (by decide +kernel)
  have hrun : run (.jobCompletion 0 0 0) haltJob = u := by rw [run, hu, nxt]
  have hf := hflight (by decide +kernel)
  rw [← hrun] at hf
  exact absurd (haltJob_completes.symm.trans hf) (by decide +kernel)

end Sys2Proof.Machine
end

section
/-! SUPPORT. Memory controllers and the caches of a slice read no context and change none: their operations commute with a change of
the contexts (R146–R166, R385–R393). -/

namespace Sys2Proof.Machine

/-- The state with other contexts. -/
def State.withCtxs (s : State) (k : Tab Ctx) : State := { s with ctxs := k }

namespace State
variable (s : State) (k : Tab Ctx)

theorem withCtxs_ite (c : Prop) [Decidable c] (a b : State) : (if c then a else b).withCtxs k = if c then a.withCtxs k else b.withCtxs k :=
  apply_ite (fun z : State => z.withCtxs k) c a b

/-- A run over a list of steps that each commute with a change of the contexts commutes with it. -/
theorem foldl_withCtxs {α : Type} {f : State → α → State} (hf : ∀ s x, f (s.withCtxs k) x = (f s x).withCtxs k) (l : List α) :
    l.foldl f (s.withCtxs k) = (l.foldl f s).withCtxs k := by
  induction l generalizing s with
  | nil => rfl
  | cons x l ih => rw [List.foldl_cons, List.foldl_cons, hf, ih]

/-! ### Reads and single writes -/

@[simp] theorem reg_withCtxs (a : Nat) : (s.withCtxs k).reg a = s.reg a := rfl
@[simp] theorem regBit_withCtxs (a n : Nat) : (s.withCtxs k).regBit a n = s.regBit a n := rfl
@[simp] theorem ctlOf_withCtxs (a : Nat) : (s.withCtxs k).ctlOf a = s.ctlOf a := rfl
@[simp] theorem locOf_withCtxs (a : Nat) : (s.withCtxs k).locOf a = s.locOf a := rfl
@[simp] theorem eccAt_withCtxs (a : Nat) : (s.withCtxs k).eccAt a = s.eccAt a := rfl
@[simp] theorem mergeAt_withCtxs (a : Nat) : (s.withCtxs k).mergeAt a = s.mergeAt a := rfl
@[simp] theorem mergeList_withCtxs (n : Nat) : (s.withCtxs k).mergeList n = s.mergeList n := rfl
@[simp] theorem setReg_withCtxs (a : Nat) (v : W64) : (s.withCtxs k).setReg a v = (s.setReg a v).withCtxs k := rfl
@[simp] theorem bump_withCtxs (a : Nat) : (s.withCtxs k).bump a = (s.bump a).withCtxs k := rfl
@[simp] theorem setRegBit_withCtxs (a n : Nat) (b : Bool) : (s.withCtxs k).setRegBit a n b = (s.setRegBit a n b).withCtxs k := rfl
@[simp] theorem raise_withCtxs (n : Nat) : (s.withCtxs k).raise n = (s.raise n).withCtxs k := rfl
@[simp] theorem setEcc_withCtxs (a : Nat) (e : Ecc) : (s.withCtxs k).setEcc a e = (s.setEcc a e).withCtxs k := rfl
@[simp] theorem setMerge_withCtxs (a : Nat) (e : MergeEntry) : (s.withCtxs k).setMerge a e = (s.setMerge a e).withCtxs k := rfl

/-! ### Memory controllers -/

@[simp] theorem raiseEvt_withCtxs (a : Nat) : (s.withCtxs k).raiseEvt a = (s.raiseEvt a).withCtxs k := by
  simp only [raiseEvt, reg_withCtxs, raise_withCtxs, withCtxs_ite]
  rfl

@[simp] theorem recordUE_withCtxs (cw kd : Nat) (p : Bool) (cls : BitVec 2) :
    (s.withCtxs k).recordUE cw kd p cls = (s.recordUE cw kd p cls).withCtxs k := by
  simp [recordUE, withCtxs_ite]

@[simp] theorem recordCE_withCtxs (cw kd : Nat) (sym : BitVec 8) : (s.withCtxs k).recordCE cw kd sym = (s.recordCE cw kd sym).withCtxs k := by
  simp only [recordCE, ctlOf_withCtxs, reg_withCtxs, setReg_withCtxs, bump_withCtxs, raiseEvt_withCtxs, locOf_withCtxs, setRegBit_withCtxs,
    raise_withCtxs, withCtxs_ite]
  rfl

/-- The state with other bytes of memory. -/
def withMem (s : State) (m : Tab Byte) : State := { s with mem := m }
theorem withMem_withCtxs (m : Tab Byte) : (s.withCtxs k).withMem m = (s.withMem m).withCtxs k := rfl
theorem mem_withCtxs : (s.withCtxs k).mem = s.mem := rfl
theorem merge_withCtxs : (s.withCtxs k).merge = s.merge := rfl

/-- A valid merge entry out of the buffer: in memory, whose code word counts as written whole, or as read and modified (R388, R389). -/
theorem mergeDrain_eq (cw : Nat) : s.mergeDrain cw =
    if !(s.mergeAt cw).valid then s
    else
      let s1 := (s.setMerge cw {}).withMem (mergeInto s.mem cw (s.mergeAt cw) (cwSize cw))
      if (s.mergeAt cw).mask &&& byteMask 0 (cwSize cw) = byteMask 0 (cwSize cw) then s1.setEcc cw .good
      else
        let s2 := if s.ctlOf cw = 12 then s1 else s1.bump (Reg.mcRmwCnt (s.ctlOf cw))
        match s.eccAt cw with
        | .good => s2
        | .ce sym => (s2.recordCE cw 1 sym).setEcc cw .good
        | .ue => (s2.recordUE cw 1 false 0).setEcc cw .poison
        | .poison => (s2.recordUE cw 1 true 0).setEcc cw .poison := rfl

@[simp] theorem mergeDrain_withCtxs (cw : Nat) : (s.withCtxs k).mergeDrain cw = (s.mergeDrain cw).withCtxs k := by
  rw [mergeDrain_eq, mergeDrain_eq]
  by_cases hv : (s.mergeAt cw).valid = true
  · by_cases hm : (s.mergeAt cw).mask &&& byteMask 0 (cwSize cw) = byteMask 0 (cwSize cw)
    · simp only [mergeAt_withCtxs, hv, hm, Bool.not_true, Bool.false_eq_true, if_true, if_false, mem_withCtxs, setMerge_withCtxs,
        withMem_withCtxs, setEcc_withCtxs]
    · simp only [mergeAt_withCtxs, hv, hm, Bool.not_true, Bool.false_eq_true, if_false, eccAt_withCtxs, ctlOf_withCtxs, mem_withCtxs,
        setMerge_withCtxs, withMem_withCtxs, bump_withCtxs]
      by_cases hn : s.ctlOf cw = 12 <;> simp only [hn, if_true, if_false]
      · cases s.eccAt cw <;> simp only [recordCE_withCtxs, recordUE_withCtxs, setEcc_withCtxs]
      · cases s.eccAt cw <;> simp only [recordCE_withCtxs, recordUE_withCtxs, setEcc_withCtxs]
  · simp only [mergeAt_withCtxs, hv, Bool.not_false, if_true]

theorem mergeRoom_withCtxs (n : Nat) : (s.withCtxs k).mergeRoom n = (s.mergeRoom n).withCtxs k := by
  unfold mergeRoom
  dsimp only
  rw [mergeList_withCtxs]
  generalize s.mergeList n = held
  by_cases hl : 64 ≤ held.length
  · by_cases hn : n = 12 <;> cases held.head? <;>
      simp only [hl, hn, ne_eq, not_true_eq_false, not_false_eq_true, and_true, and_false, if_true, if_false, mergeDrain_withCtxs, bump_withCtxs]
  · simp only [hl, false_and, if_false]

/-- A write within one code word: into its merge entry, of the whole code word, or into a new entry (R388). -/
theorem writeCw_eq (a : Nat) (l : List Byte) : s.writeCw a l =
    if (s.mergeAt (cwBase a)).valid then
      let e := { s.mergeAt (cwBase a) with mask := (s.mergeAt (cwBase a)).mask ||| byteMask (a - cwBase a) l.length
                                           data := linePut (s.mergeAt (cwBase a)).data (a - cwBase a) l }
      if e.mask &&& byteMask 0 (cwSize a) = byteMask 0 (cwSize a) then (s.setMerge (cwBase a) e).mergeDrain (cwBase a)
      else s.setMerge (cwBase a) e
    else if l.length = cwSize a then (s.setEcc (cwBase a) .good).withMem (putMem s.mem (cwBase a) l)
    else (s.mergeRoom (s.ctlOf (cwBase a))).setMerge (cwBase a)
      { valid := true, mask := byteMask (a - cwBase a) l.length, data := linePut 0 (a - cwBase a) l
        age := ((s.mergeRoom (s.ctlOf (cwBase a))).merge.map fun x => x.2.age).foldl max 0 + 1 } := rfl

@[simp] theorem writeCw_withCtxs (a : Nat) (l : List Byte) : (s.withCtxs k).writeCw a l = (s.writeCw a l).withCtxs k := by
  rw [writeCw_eq, writeCw_eq]
  dsimp only
  rw [mergeAt_withCtxs, ctlOf_withCtxs, mergeRoom_withCtxs, mem_withCtxs, merge_withCtxs, setEcc_withCtxs, withMem_withCtxs, setMerge_withCtxs,
    setMerge_withCtxs, mergeDrain_withCtxs]
  simp only [withCtxs_ite]

@[simp] theorem busWriteGo_withCtxs (n a : Nat) (l : List Byte) : busWriteGo n (s.withCtxs k) a l = (busWriteGo n s a l).withCtxs k := by
  induction n generalizing s a l with
  | zero => cases l <;> rfl
  | succ n ih =>
    cases l with
    | nil => rfl
    | cons b l => simp [busWriteGo, ih]

@[simp] theorem busWrite_withCtxs (a : Nat) (l : List Byte) : (s.withCtxs k).busWrite a l = (s.busWrite a l).withCtxs k :=
  busWriteGo_withCtxs s k _ a l

@[simp] theorem readCw_withCtxs (cw kd : Nat) (cls : BitVec 2) :
    (s.withCtxs k).readCw cw kd cls = ((s.readCw cw kd cls).1.withCtxs k, (s.readCw cw kd cls).2) := by
  cases h : s.eccAt cw <;> simp [readCw, h]

/-- A fold of reads or writes with a further result that commutes with a change of the contexts. -/
theorem foldl_withCtxs' {α β : Type} {f : State × β → α → State × β}
    (hf : ∀ s b x, f (s.withCtxs k, b) x = ((f (s, b) x).1.withCtxs k, (f (s, b) x).2)) (l : List α) (b : β) :
    l.foldl f (s.withCtxs k, b) = ((l.foldl f (s, b)).1.withCtxs k, (l.foldl f (s, b)).2) := by
  induction l generalizing s b with
  | nil => rfl
  | cons x l ih => rw [List.foldl_cons, List.foldl_cons, hf, ih]

@[simp] theorem busRead_withCtxs (a n : Nat) (cls : BitVec 2) :
    (s.withCtxs k).busRead a n cls = ((s.busRead a n cls).1.withCtxs k, (s.busRead a n cls).2) := by
  rw [busRead_eq, busRead_eq, foldl_withCtxs s k fun s x => mergeDrain_withCtxs s k x]
  unfold readCws
  rw [foldl_withCtxs' _ k fun s b x => by rw [readCw_withCtxs]]
  rfl

@[simp] theorem busWritePoison_withCtxs (a : Nat) (l : List Byte) :
    (s.withCtxs k).busWritePoison a l = (s.busWritePoison a l).withCtxs k := by
  unfold busWritePoison
  dsimp only
  rw [busWrite_withCtxs]
  exact foldl_withCtxs _ k (fun s x => by rw [mergeDrain_withCtxs, setEcc_withCtxs]) _

/-! ### Caches of a slice -/

@[simp] theorem exe_withCtxs (u : Nat) : (s.withCtxs k).exe u = s.exe u := rfl
@[simp] theorem l2At_withCtxs (n : Nat) : (s.withCtxs k).l2At n = s.l2At n := rfl
@[simp] theorem l2Way_withCtxs (d line : Nat) : (s.withCtxs k).l2Way d line = s.l2Way d line := rfl
@[simp] theorem l2En_withCtxs (d : Nat) : (s.withCtxs k).l2En d = s.l2En d := rfl
@[simp] theorem fillWays_withCtxs (d : Nat) (bid : BitVec 12) : (s.withCtxs k).fillWays d bid = s.fillWays d bid := rfl
@[simp] theorem wbStatus_withCtxs (d line : Nat) : (s.withCtxs k).wbStatus d line = s.wbStatus d line := rfl
@[simp] theorem setExe_withCtxs (u : Nat) (e : Exec) : (s.withCtxs k).setExe u e = (s.setExe u e).withCtxs k := rfl
@[simp] theorem setL2_withCtxs (n : Nat) (l : L2Line) : (s.withCtxs k).setL2 n l = (s.setL2 n l).withCtxs k := rfl
@[simp] theorem addReg_withCtxs (a n : Nat) : (s.withCtxs k).addReg a n = (s.addReg a n).withCtxs k := rfl
@[simp] theorem l2Lookup_withCtxs (d : Nat) (hit : Bool) : (s.withCtxs k).l2Lookup d hit = (s.l2Lookup d hit).withCtxs k := by
  rw [l2Lookup, l2Lookup, bump_withCtxs, bump_withCtxs]

@[simp] theorem l1dDrop_withCtxs (d line : Nat) (keep : Option Nat) : (s.withCtxs k).l1dDrop d line keep = (s.l1dDrop d line keep).withCtxs k := by
  refine foldl_withCtxs s k (fun s u => ?_) _
  dsimp only
  rw [exe_withCtxs, setExe_withCtxs, bump_withCtxs, withCtxs_ite]

@[simp] theorem sideDrop_withCtxs (d line : Nat) : (s.withCtxs k).sideDrop d line = (s.sideDrop d line).withCtxs k := by
  unfold sideDrop
  rw [foldl_withCtxs s k fun s u => rfl, withCtxs_ite]

@[simp] theorem sideStore_withCtxs (d line : Nat) : (s.withCtxs k).sideStore d line = (s.sideStore d line).withCtxs k := by
  simp only [sideStore, sideDrop_withCtxs, exe_withCtxs, addReg_withCtxs, withCtxs_ite]

@[simp] theorem sideOwn_withCtxs (u x line : Nat) : (s.withCtxs k).sideOwn u x line = (s.sideOwn u x line).withCtxs k := by
  unfold sideOwn
  dsimp only
  rw [exe_withCtxs, setExe_withCtxs, addReg_withCtxs, withCtxs_ite]

/-- An uncorrectable line of a slice makes no machine check (R165). -/
theorem l2Ue_withCtxs {d : Nat} (hd : d ≠ 8) (line : Nat) (demand : Bool) : (s.withCtxs k).l2Ue d line demand = (s.l2Ue d line demand).withCtxs k := by
  simp only [l2Ue, hd, ne_eq, not_false_eq_true, true_or, if_true, setRegBit_withCtxs, setReg_withCtxs, raise_withCtxs]

theorem poisonLine_withCtxs {d : Nat} (hd : d ≠ 8) (l : L2Line) (demand : Bool) :
    (s.withCtxs k).poisonLine d l demand = (s.poisonLine d l demand).withCtxs k := by
  unfold poisonLine
  rw [wbStatus_withCtxs, busWritePoison_withCtxs, ← withCtxs_ite, l2Ue_withCtxs _ k hd]

theorem writeBack_withCtxs {d : Nat} (hd : d ≠ 8) (l : L2Line) :
    (s.withCtxs k).writeBack d l = ((s.writeBack d l).1.withCtxs k, (s.writeBack d l).2) := by
  have hp (t : State) : (if (t.wbStatus d l.line).isSome then ((t.withCtxs k).l2Ue d l.line false, false)
      else ((t.withCtxs k).busWrite (l.line * 64) (lineBytes l.data 0 64), true)) =
      (fun z : State × Bool => (z.1.withCtxs k, z.2)) (if (t.wbStatus d l.line).isSome then (t.l2Ue d l.line false, false)
        else (t.busWrite (l.line * 64) (lineBytes l.data 0 64), true)) := by
    rw [l2Ue_withCtxs _ k hd, busWrite_withCtxs]
    by_cases h : (t.wbStatus d l.line).isSome
    · rw [if_pos h, if_pos h]
    · rw [if_neg h, if_neg h]
  unfold writeBack
  dsimp only
  rw [bump_withCtxs]
  generalize s.bump (Reg.l2Pmc d 3) = t
  cases l.ecc with
  | good => exact hp t
  | ce sym => exact hp (t.bump (Reg.l2Pmc d 7))
  | ue => exact Prod.ext (poisonLine_withCtxs t k hd l false) rfl
  | poison => exact Prod.ext (poisonLine_withCtxs t k hd l false) rfl

theorem l2Evict_withCtxs {d : Nat} (hd : d ≠ 8) (n : Nat) : (s.withCtxs k).l2Evict d n = (s.l2Evict d n).withCtxs k := by
  unfold l2Evict
  dsimp only
  rw [l2At_withCtxs, writeBack_withCtxs s k hd, ← withCtxs_ite, l1dDrop_withCtxs, setL2_withCtxs, withCtxs_ite]

theorem l2Check_withCtxs {d : Nat} (hd : d ≠ 8) (line : Nat) :
    (s.withCtxs k).l2Check d line = ((s.l2Check d line).1.withCtxs k, (s.l2Check d line).2) := by
  unfold l2Check
  rw [l2Way_withCtxs]
  cases s.l2Way d line with
  | none => rfl
  | some w =>
    dsimp only
    rw [l2At_withCtxs]
    generalize s.l2At (l2Key d (line % l2Sets d) w) = l
    have hbad : ((((if l.dirty then (s.withCtxs k).poisonLine d l true else s.withCtxs k).l1dDrop d line none).setL2
        (l2Key d (line % l2Sets d) w) {}) : State) =
        (((if l.dirty then s.poisonLine d l true else s).l1dDrop d line none).setL2 (l2Key d (line % l2Sets d) w) {}).withCtxs k := by
      rw [poisonLine_withCtxs s k hd, ← withCtxs_ite, l1dDrop_withCtxs, setL2_withCtxs]
    cases l.ecc with
    | good => rfl
    | ce sym => rfl
    | ue => exact Prod.ext hbad rfl
    | poison => exact Prod.ext hbad rfl

theorem l2Victim_withCtxs (d line : Nat) (ways : List Nat) :
    (s.withCtxs k).l2Victim d line ways = ((s.l2Victim d line ways).1, (s.l2Victim d line ways).2.withCtxs k) := by
  have hf : (fun w => !((s.withCtxs k).l2At (l2Key d (line % l2Sets d) w)).valid) = fun w => !(s.l2At (l2Key d (line % l2Sets d) w)).valid := rfl
  unfold l2Victim
  dsimp only
  rw [hf]
  cases ways.find? fun w => !(s.l2At (l2Key d (line % l2Sets d) w)).valid with
  | some w => rfl
  | none => cases ways <;> rfl

theorem l2Alloc_withCtxs {d : Nat} (hd : d ≠ 8) (line : Nat) (bid : BitVec 12) (data : Line) (dirty : Bool) :
    (s.withCtxs k).l2Alloc d line bid data dirty = (s.l2Alloc d line bid data dirty).withCtxs k := by
  unfold l2Alloc
  rw [l2En_withCtxs, fillWays_withCtxs, l2Victim_withCtxs]
  generalize s.l2Victim d line (s.fillWays d bid) = r
  dsimp only
  cases r.1 with
  | none => rw [withCtxs_ite]
  | some n => dsimp only; rw [l2Evict_withCtxs _ k hd, setL2_withCtxs, withCtxs_ite]

end State
end Sys2Proof.Machine
end

section
/-! SUPPORT. The time recorded for a context's last instruction (R81) shows nowhere: two states alike but for it stay so through a store
buffer's drain, a fence and a trap of the context. -/

namespace Sys2Proof.Machine

/-- The trap record of a context that faults (R67). -/
def State.faultRecord (s : State) (x : Nat) (t : Trap) (epc enpc : W64) : State :=
  let u := unitOf x
  let k := x % 16
  let inh := bitAt (s.xcsr x csrUstat) 5
  let slot := (s.ctx x).r.slot
  let s := s.setReg (Reg.oeTrapEpc u k) epc
  let s := s.setReg (Reg.oeTrapEnpc u k) enpc
  let s := s.setReg (Reg.oeTrapVal u k) t.val
  let s := s.setReg (Reg.oeTrapCause u k) (causeWord t false)
  let s := s.setReg (Reg.oeTrapInfo u k) (BitVec.ofNat 64 (slot.toNat + inh.toNat * 2 + t.wr.toNat * 4 + inh.toNat * 8 +
    fld (s.xcsr x csrVstart) 0 16 * 65536))
  s.setRegBit (Reg.oeCtxState u k) 3 true

/-- The context itself, faulted (R67). -/
def State.contextFaulted (s : State) (x : Nat) : State :=
  s.setCtx x { s.ctx x with st := .faulted, wait := .none, epi := none, r := { (s.ctx x).r with resv := none } }

/-- A job learns that one of its contexts has faulted (R67, R184). -/
def State.stageFaulted (s : State) (x j stage : Nat) (st : BitVec 16) (epc : W64) : State :=
  if !(s.job j).live then s else
  (s.setJob j { s.job j with
    stages := (s.job j).stages.map fun g => if g.ctx = x then { g with faulted := true, epc := epc } else g }).jobFault j stage st

theorem State.faultCtx_eq (s : State) (x : Nat) (t : Trap) (epc enpc : W64) : s.faultCtx x t epc enpc =
    ((((s.faultRecord x t epc enpc).mvJobEnd x).ctxFence x).contextFaulted x).stageFaulted x (s.ctx x).job (s.ctx x).stage
      (if bitAt (s.xcsr x csrUstat) 5 then 0x0441 else trapStatus t) epc := by
  generalize hz : ((s.faultRecord x t epc enpc).mvJobEnd x).ctxFence x = z
  unfold State.faultRecord at hz
  unfold State.faultCtx
  dsimp only at hz ⊢
  simp only [hz]
  unfold State.stageFaulted State.contextFaulted
  dsimp only

/-- Context x in two states: the same, or for context i, not free, the same but for the time of its last instruction. -/
def CtxTwin (i x : Nat) (c c' : Ctx) : Prop := c' = c ∨ x = i ∧ c.st ≠ .free ∧ ∃ n, c' = { c with lastTime := n }

theorem CtxTwin.default_iff {i x : Nat} {c c' : Ctx} (h : CtxTwin i x c c') : c' = {} ↔ c = {} := by
  rcases h with rfl | ⟨-, hst, n, rfl⟩
  · rfl
  · exact ⟨fun e => absurd (congrArg Ctx.st e) hst, fun e => absurd (congrArg Ctx.st e) hst⟩

/-- An update that neither reads nor sets the time, and frees no context. -/
structure Timeless (g : Ctx → Ctx) : Prop where
  time : ∀ c n, g { c with lastTime := n } = { g c with lastTime := n }
  live : ∀ c, c.st ≠ .free → (g c).st ≠ .free

theorem CtxTwin.map {i x : Nat} {c c' : Ctx} (h : CtxTwin i x c c') {g : Ctx → Ctx} (hg : Timeless g) : CtxTwin i x (g c) (g c') := by
  rcases h with rfl | ⟨hx, hst, n, rfl⟩
  · exact .inl rfl
  · exact .inr ⟨hx, hg.live c hst, n, hg.time c n⟩

theorem CtxTwin.read {α : Type} {i x : Nat} {c c' : Ctx} (h : CtxTwin i x c c') {v : Ctx → α} (hv : ∀ c n, v { c with lastTime := n } = v c) :
    v c' = v c := by
  rcases h with rfl | ⟨-, -, n, rfl⟩
  · rfl
  · exact hv c n

/-- Two tables of contexts alike but, past smaller keys, for the time in the entry of context i. -/
inductive TabTwin (i : Nat) : Tab Ctx → Tab Ctx → Prop
  | same (k : Tab Ctx) : TabTwin i k k
  | here {c c' : Ctx} (h : CtxTwin i i c c') (k : Tab Ctx) : TabTwin i ((i, c) :: k) ((i, c') :: k)
  | past {y : Nat} (hy : y < i) (c : Ctx) {k k' : Tab Ctx} (h : TabTwin i k k') : TabTwin i ((y, c) :: k) ((y, c) :: k')

namespace TabTwin
variable {i : Nat} {k k' : Tab Ctx}

theorem keys (h : TabTwin i k k') : k'.map Prod.fst = k.map Prod.fst := by
  induction h with
  | same => rfl
  | here => rfl
  | past hy c _ ih => rw [List.map_cons, List.map_cons, ih]

theorem get (h : TabTwin i k k') (x : Nat) : CtxTwin i x (Tab.get {} k x) (Tab.get {} k' x) := by
  have hcons (y : Nat) (c : Ctx) (l : Tab Ctx) : Tab.get {} ((y, c) :: l) x = if y = x then c else Tab.get {} l x := by
    unfold Tab.get
    rw [Tab.find?]
    split <;> rfl
  induction h with
  | same => exact .inl rfl
  | here h =>
    rw [hcons, hcons]
    split
    · next hx => exact hx ▸ h
    · exact .inl rfl
  | past hy c _ ih =>
    rw [hcons, hcons]
    split
    · exact .inl rfl
    · exact ih

theorem erase (h : TabTwin i k k') (x : Nat) : TabTwin i (Tab.erase k x) (Tab.erase k' x) := by
  induction h with
  | same => exact .same _
  | here h =>
    rw [Tab.erase, Tab.erase]
    split
    · exact .same _
    · exact .here h _
  | past hy c _ ih =>
    rw [Tab.erase, Tab.erase]
    split
    · exact ih
    · exact .past hy c ih

theorem ins_self (k : Tab Ctx) {c c' : Ctx} (hc : CtxTwin i i c c') : TabTwin i (Tab.ins k i c) (Tab.ins k i c') := by
  induction k with
  | nil => exact .here hc []
  | cons e k ih =>
    obtain ⟨y, d⟩ := e
    rw [Tab.ins, Tab.ins]
    by_cases hy : i < y
    · rw [if_pos hy, if_pos hy]
      exact .here hc _
    · rw [if_neg hy, if_neg hy]
      by_cases he : i = y
      · rw [if_pos he, if_pos he]
        exact .here hc k
      · rw [if_neg he, if_neg he]
        exact .past (by omega) d ih

theorem ins (h : TabTwin i k k') (x : Nat) {c c' : Ctx} (hc : CtxTwin i x c c') : TabTwin i (Tab.ins k x c) (Tab.ins k' x c') := by
  by_cases hx : x = i
  · subst hx
    induction h with
    | same k => exact ins_self k hc
    | here h k =>
      rw [Tab.ins, Tab.ins, if_neg (Nat.lt_irrefl x), if_pos rfl, if_neg (Nat.lt_irrefl x), if_pos rfl]
      exact .here hc k
    | past hy d _ ih =>
      rw [Tab.ins, Tab.ins, if_neg (by omega), if_neg (by omega), if_neg (by omega), if_neg (by omega)]
      exact .past hy d ih
  · obtain rfl : c' = c := hc.resolve_right fun h => hx h.1
    induction h with
    | same k => exact .same _
    | here h k =>
      rw [Tab.ins, Tab.ins]
      by_cases hlt : x < i
      · rw [if_pos hlt, if_pos hlt]
        exact .past hlt c' (.here h k)
      · rw [if_neg hlt, if_neg hlt, if_neg hx, if_neg hx]
        exact .here h _
    | @past y hy d k k' h ih =>
      rw [Tab.ins, Tab.ins]
      by_cases hlt : x < y
      · rw [if_pos hlt, if_pos hlt]
        exact .past (hlt.trans hy) c' (.past hy d h)
      · rw [if_neg hlt, if_neg hlt]
        by_cases he : x = y
        · rw [if_pos he, if_pos he]
          exact .past (he ▸ hy) c' h
        · rw [if_neg he, if_neg he]
          exact .past hy d ih

theorem set (h : TabTwin i k k') (x : Nat) {c c' : Ctx} (hc : CtxTwin i x c c') : TabTwin i (Tab.set {} k x c) (Tab.set {} k' x c') := by
  unfold Tab.set
  by_cases hd : c = {}
  · rw [if_pos hd, if_pos (hc.default_iff.2 hd)]
    exact h.erase x
  · rw [if_neg hd, if_neg fun e => hd (hc.default_iff.1 e)]
    exact h.ins x hc

/-- One value for context i makes the two tables one. -/
theorem set_self (h : TabTwin i k k') (c : Ctx) : Tab.set {} k' i c = Tab.set {} k i c := by
  have herase : Tab.erase k' i = Tab.erase k i := by
    induction h with
    | same => rfl
    | here => rw [Tab.erase, Tab.erase, if_pos rfl, if_pos rfl]
    | past hy d _ ih => rw [Tab.erase, Tab.erase, ih]
  have hins : Tab.ins k' i c = Tab.ins k i c := by
    clear herase
    induction h with
    | same => rfl
    | here => rw [Tab.ins, Tab.ins, if_neg (Nat.lt_irrefl i), if_pos rfl, if_neg (Nat.lt_irrefl i), if_pos rfl]
    | past hy d _ ih => rw [Tab.ins, Tab.ins, if_neg (by omega), if_neg (by omega), if_neg (by omega), if_neg (by omega), ih]
  rw [Tab.set, Tab.set, herase, hins]

end TabTwin

/-- Two states alike but for the time of the last instruction of context i. -/
structure Twin (i : Nat) (s t : State) : Prop where
  rest : t = s.withCtxs t.ctxs
  ctxs : TabTwin i s.ctxs t.ctxs

namespace Twin
variable {i : Nat} {s t : State}

theorem refl (s : State) : Twin i s s := ⟨rfl, .same _⟩

theorem ctx (h : Twin i s t) (x : Nat) : CtxTwin i x (s.ctx x) (t.ctx x) := h.ctxs.get x

/-- What neither reads nor changes a context acts alike on both. -/
theorem of_withCtxs (h : Twin i s t) {f : State → State} (hf : ∀ s k, f (s.withCtxs k) = (f s).withCtxs k) : Twin i (f s) (f t) := by
  have hs : (f s).ctxs = s.ctxs := (congrArg State.ctxs (hf s s.ctxs) :)
  have ht : f t = (f s).withCtxs t.ctxs := (congrArg f h.rest).trans (hf s t.ctxs)
  have hk : (f t).ctxs = t.ctxs := (congrArg State.ctxs ht :)
  exact ⟨hk ▸ ht, by rw [hs, hk]; exact h.ctxs⟩

theorem read {α : Type} (h : Twin i s t) {v : State → α} (hv : ∀ s k, v (s.withCtxs k) = v s) : v t = v s :=
  (congrArg v h.rest).trans (hv s _)

theorem readCtx {α : Type} (h : Twin i s t) (x : Nat) {v : Ctx → α} (hv : ∀ c n, v { c with lastTime := n } = v c) :
    v (t.ctx x) = v (s.ctx x) := (h.ctx x).read hv

theorem setCtx (h : Twin i s t) (x : Nat) {c c' : Ctx} (hc : CtxTwin i x c c') : Twin i (s.setCtx x c) (t.setCtx x c') :=
  ⟨(congrArg (fun z => z.setCtx x c') h.rest :), h.ctxs.set x hc⟩

theorem update (h : Twin i s t) (x : Nat) {g : Ctx → Ctx} (hg : Timeless g) : Twin i (s.setCtx x (g (s.ctx x))) (t.setCtx x (g (t.ctx x))) :=
  h.setCtx x ((h.ctx x).map hg)

theorem foldl {α : Type} {f : State → α → State} (hf : ∀ s t x, Twin i s t → Twin i (f s x) (f t x)) (l : List α) (h : Twin i s t) :
    Twin i (l.foldl f s) (l.foldl f t) := by
  induction l generalizing s t with
  | nil => exact h
  | cons x l ih => exact ih (hf s t x h)

theorem ite (c : Prop) [Decidable c] {s' t' : State} (h : Twin i s t) (h' : Twin i s' t') :
    Twin i (if c then s else s') (if c then t else t') := by
  split
  · exact h
  · exact h'

/-! ### Stores and the fence (R150–R154) -/

theorem busWrite (h : Twin i s t) (a : Nat) (l : List Byte) : Twin i (s.busWrite a l) (t.busWrite a l) :=
  h.of_withCtxs (f := fun s => s.busWrite a l) fun s k => s.busWrite_withCtxs k a l

theorem acked (h : Twin i s t) (x : Nat) :
    Twin i (s.setCtx x { s.ctx x with acks := (s.ctx x).acks + 1 }) (t.setCtx x { t.ctx x with acks := (t.ctx x).acks + 1 }) :=
  h.update x (g := fun c => { c with acks := c.acks + 1 }) ⟨fun _ _ => rfl, fun _ => id⟩

theorem ctxBusWrite (h : Twin i s t) (x a : Nat) (l : List Byte) : Twin i (s.ctxBusWrite x a l) (t.ctxBusWrite x a l) :=
  (h.busWrite a l).acked x

theorem domCtxs (h : Twin i s t) (d : Nat) : t.domCtxs d = s.domCtxs d := by
  unfold State.domCtxs
  rw [h.ctxs.keys]

theorem clearResv (h : Twin i s t) (d g : Nat) (by_ : Option Nat) : Twin i (s.clearResv d g by_) (t.clearResv d g by_) := by
  unfold State.clearResv
  rw [h.domCtxs]
  refine Twin.foldl (fun s t x h => ?_) _ h
  exact .ite _ h (h.update x (g := fun c =>
    let drop (r : Regs) : Regs := if r.resv = some g then { r with resv := none } else r
    { c with r := drop c.r, epi := c.epi.map fun e => { e with chk := drop e.chk } }) ⟨fun _ _ => rfl, fun _ => id⟩)

theorem cleanLine (h : Twin i s t) {d : Nat} (hd : d ≠ 8) (line : Nat) (x : Nat) :
    Twin i (s.cleanLine d line (some x)) (t.cleanLine d line (some x)) := by
  unfold State.cleanLine
  rw [h.read (v := fun s => s.l2En d) fun _ _ => rfl, h.read (v := fun s => s.l2Way d line) fun _ _ => rfl]
  split
  · exact h
  · rename_i w hw
    dsimp only
    rw [h.read (v := fun s => s.l2At (l2Key d (line % l2Sets d) w)) fun _ _ => rfl]
    generalize s.l2At (l2Key d (line % l2Sets d) w) = l
    have hw2 : (t.writeBack d l).2 = (s.writeBack d l).2 := h.read (v := fun s => (s.writeBack d l).2) fun s k => by
      rw [s.writeBack_withCtxs k hd]
    have hw1 : Twin i (s.writeBack d l).1 (t.writeBack d l).1 := h.of_withCtxs (f := fun s => (s.writeBack d l).1) fun s k => by
      rw [s.writeBack_withCtxs k hd]
    rw [hw2]
    refine .ite _ h (.ite _ ?_ ?_)
    · exact hw1.of_withCtxs (f := fun s => (s.l1dDrop d line none).setL2 _ {}) fun s k => by rw [s.l1dDrop_withCtxs, State.setL2_withCtxs]
    · exact (hw1.of_withCtxs (f := fun s => s.setL2 _ _) fun _ _ => rfl).acked x

theorem setLog (h : Twin i s t) (x : Nat) (l : List Nat) : Twin i (s.setCtx x { s.ctx x with log := l }) (t.setCtx x { t.ctx x with log := l }) :=
  h.update x (g := fun c => { c with log := l }) ⟨fun _ _ => rfl, fun _ => id⟩

theorem log (h : Twin i s t) (x : Nat) : (t.ctx x).log = (s.ctx x).log := h.readCtx x (v := Ctx.log) fun _ _ => rfl

theorem logLine (h : Twin i s t) (x : Nat) {d : Nat} (hd : d ≠ 8) (line : Nat) : Twin i (s.logLine x d line) (t.logLine x d line) := by
  unfold State.logLine
  dsimp only
  rw [h.log]
  refine .ite _ h (.ite _ (h.setLog x _) ?_)
  cases (s.ctx x).log.head? with
  | none => dsimp only; rw [h.log]; exact h.setLog x _
  | some o =>
    have hc := h.cleanLine hd o x
    dsimp only
    rw [hc.log]
    exact hc.setLog x _

theorem storeHit (h : Twin i s t) {u : Nat} (hd : domOf u ≠ 8) (e : SbEntry) (w : Nat) : Twin i (s.storeHit u e w) (t.storeHit u e w) := by
  unfold State.storeHit
  dsimp only
  have hdrop := h.of_withCtxs (f := fun s => s.l1dDrop (domOf u) (e.addr / 64) (some u)) fun s k => s.l1dDrop_withCtxs k ..
  rw [hdrop.read (v := fun s => s.l2At _) fun _ _ => rfl]
  have hset (l : L2Line) := hdrop.of_withCtxs (f := fun s => s.setL2 (l2Key (domOf u) (e.addr / 64 % l2Sets (domOf u)) w) l) fun _ _ => rfl
  exact .ite _ ((hset _).ctxBusWrite ..) ((hset _).logLine _ hd _)

theorem sideOwn (h : Twin i s t) (u x line : Nat) : Twin i (s.sideOwn u x line) (t.sideOwn u x line) :=
  h.of_withCtxs (f := fun s => s.sideOwn u x line) fun s k => s.sideOwn_withCtxs k u x line

theorem ctxClass (h : Twin i s t) (x : Nat) : t.ctxClass x = s.ctxClass x := by
  unfold State.ctxClass
  rw [h.readCtx x (v := Ctx.qid) fun _ _ => rfl, h.read (v := fun s => s.queue _) fun _ _ => rfl]

theorem performStore (h : Twin i s t) {u : Nat} (hd : domOf u ≠ 8) (e : SbEntry) : Twin i (s.performStore u e) (t.performStore u e) := by
  unfold State.performStore
  dsimp only
  have h1 := h.clearResv (domOf u) (e.addr / 64) (some e.ctx)
  generalize s.clearResv (domOf u) (e.addr / 64) (some e.ctx) = s1 at *
  generalize t.clearResv (domOf u) (e.addr / 64) (some e.ctx) = t1 at *
  have hout := h1.ctxBusWrite e.ctx e.addr e.data
  rw [h1.read (v := fun s => s.l2En (domOf u)) fun _ _ => rfl]
  refine .ite _ hout (.ite _ (hout.sideOwn ..) (.ite _ hout ?_))
  have h2 := h1.of_withCtxs (f := fun s => ((s.sideStore (domOf u) (e.addr / 64)).l2Check (domOf u) (e.addr / 64)).1) fun s k => by
    rw [s.sideStore_withCtxs, State.l2Check_withCtxs _ k hd]
  generalize ((s1.sideStore (domOf u) (e.addr / 64)).l2Check (domOf u) (e.addr / 64)).1 = s2 at *
  generalize ((t1.sideStore (domOf u) (e.addr / 64)).l2Check (domOf u) (e.addr / 64)).1 = t2 at *
  rw [h2.read (v := fun s => s.l2Way _ _) fun _ _ => rfl]
  have h3 := h2.of_withCtxs (f := fun s => s.l2Lookup (domOf u) (s2.l2Way (domOf u) (e.addr / 64)).isSome) fun s k => s.l2Lookup_withCtxs k ..
  generalize s2.l2Lookup (domOf u) (s2.l2Way (domOf u) (e.addr / 64)).isSome = s3 at *
  generalize t2.l2Lookup (domOf u) (s2.l2Way (domOf u) (e.addr / 64)).isSome = t3 at *
  cases s2.l2Way (domOf u) (e.addr / 64) with
  | some w => exact h3.storeHit hd e w
  | none =>
    dsimp only
    rw [h3.read (v := fun s => s.fillWays _ _) fun _ _ => rfl, h3.ctxClass]
    refine .ite _ ?_ (h3.ctxBusWrite ..)
    have h4 := h3.of_withCtxs (f := fun s => (s.busRead (e.addr / 64 * 64) 64 (s3.ctxClass e.ctx)).1) fun s k => by rw [s.busRead_withCtxs]
    have hval := h3.read (v := fun s => (s.busRead (e.addr / 64 * 64) 64 (s3.ctxClass e.ctx)).2) fun s k => by rw [s.busRead_withCtxs]
    rw [hval]
    exact .ite _ (h4.ctxBusWrite ..)
      ((h4.of_withCtxs (f := fun s => s.l2Alloc (domOf u) (e.addr / 64) e.bid _ true) fun s k => s.l2Alloc_withCtxs k hd ..).logLine _ hd _)

theorem woken (h : Twin i s t) (x : Nat) (w : Wait) :
    Twin i (if (s.ctx x).wait = w then s.setCtx x { s.ctx x with st := .ready, wait := .none } else s)
      (if (t.ctx x).wait = w then t.setCtx x { t.ctx x with st := .ready, wait := .none } else t) := by
  rw [h.readCtx x (v := Ctx.wait) fun _ _ => rfl]
  exact .ite _ (h.update x (g := fun c => { c with st := .ready, wait := .none }) ⟨fun _ _ => rfl, fun _ _ => nofun⟩) h

theorem wakeAll (h : Twin i s t) (xs : List Nat) (w : Wait) : Twin i (s.wakeAll xs w) (t.wakeAll xs w) :=
  Twin.foldl (fun _ _ x h => h.woken x w) xs h

theorem sbDrain1 (h : Twin i s t) {u : Nat} (hd : domOf u ≠ 8) : Twin i (s.sbDrain1 u) (t.sbDrain1 u) := by
  unfold State.sbDrain1
  dsimp only
  rw [h.read (v := fun s => s.exe u) fun _ _ => rfl]
  cases (s.exe u).sb with
  | nil => exact h
  | cons e l => exact ((h.of_withCtxs (f := fun s => s.setExe u _) fun _ _ => rfl).performStore hd e).wakeAll ..

theorem sbDrain (h : Twin i s t) {u : Nat} (hd : domOf u ≠ 8) : Twin i (s.sbDrain u) (t.sbDrain u) := by
  unfold State.sbDrain
  rw [h.read (v := fun s => s.exe u) fun _ _ => rfl]
  exact Twin.foldl (fun _ _ _ h => h.sbDrain1 hd) _ h

theorem ctxFence (h : Twin i s t) {x : Nat} (hd : domOf (unitOf x) ≠ 8) : Twin i (s.ctxFence x) (t.ctxFence x) := by
  have h1 := h.sbDrain hd
  unfold State.ctxFence
  dsimp only
  rw [h1.log]
  exact (Twin.foldl (fun _ _ l h => h.cleanLine hd l x) _ h1).setLog x []

/-! ### Traps (R63, R67) -/

theorem mvIdle (h : Twin i s t) (n : Nat) : Twin i (s.mvIdle n) (t.mvIdle n) := by
  have h1 := h.of_withCtxs (f := fun s => s.setMover n { s.mover n with st := 0 }) fun _ _ => rfl
  exact .ite _ h1 (Twin.foldl (fun _ _ k h => h.woken (16 * n + k) .mvgo) _ h1)

theorem mvJobEnd (h : Twin i s t) (x : Nat) : Twin i (s.mvJobEnd x) (t.mvJobEnd x) := by
  unfold State.mvJobEnd
  dsimp only
  rw [h.read (v := fun s => s.mover _) fun _ _ => rfl]
  exact .ite _ (h.mvIdle _) h

theorem setRegs (h : Twin i s t) (x : Nat) (f : Regs → Regs) : Twin i (s.setR x (f (s.ctx x).r)) (t.setR x (f (t.ctx x).r)) :=
  h.update x (g := fun c => { c with r := f c.r }) ⟨fun _ _ => rfl, fun _ => id⟩

theorem setXcsr (h : Twin i s t) (x n : Nat) (v : W64) : Twin i (s.setXcsr x n v) (t.setXcsr x n v) :=
  h.setRegs x fun r => { r with csr := Tab.set (ctxCsrDefault n) r.csr n v }

theorem xcsr (h : Twin i s t) (x n : Nat) : t.xcsr x n = s.xcsr x n := h.readCtx x (v := fun c => Tab.get (ctxCsrDefault n) c.r.csr n) fun _ _ => rfl

theorem setReg (h : Twin i s t) (a : Nat) (v : W64) : Twin i (s.setReg a v) (t.setReg a v) :=
  h.of_withCtxs (f := fun s => s.setReg a v) fun _ _ => rfl

theorem setRegBit (h : Twin i s t) (a n : Nat) (b : Bool) : Twin i (s.setRegBit a n b) (t.setRegBit a n b) :=
  h.of_withCtxs (f := fun s => s.setRegBit a n b) fun _ _ => rfl

theorem jobFault (h : Twin i s t) (j stage : Nat) (st : BitVec 16) : Twin i (s.jobFault j stage st) (t.jobFault j stage st) :=
  h.of_withCtxs (f := fun s => s.jobFault j stage st) fun s k => by
    have hjob : (s.withCtxs k).job j = s.job j := rfl
    have hfree : (s.withCtxs k).fresh = (s.fresh.1, s.fresh.2.withCtxs k) := rfl
    unfold State.jobFault
    dsimp only
    rw [hjob, hfree, State.withCtxs_ite]
    rfl

/-- A context at its handler (R63). -/
theorem atHandler (h : Twin i s t) (x : Nat) (pc : W64) :
    Twin i
      (s.setCtx x { s.ctx x with st := .ready, wait := .none, ibuf := none
                                 r := { (s.ctx x).r with resv := none, pc := pc, npc := pc + 4, slot := false, annul := false } })
      (t.setCtx x { t.ctx x with st := .ready, wait := .none, ibuf := none
                                 r := { (t.ctx x).r with resv := none, pc := pc, npc := pc + 4, slot := false, annul := false } }) :=
  h.update x (g := fun c => { c with st := .ready, wait := .none, ibuf := none
                                     r := { c.r with resv := none, pc := pc, npc := pc + 4, slot := false, annul := false } })
    ⟨fun _ _ => rfl, fun _ _ => nofun⟩

theorem contextFaulted (h : Twin i s t) (x : Nat) : Twin i (s.contextFaulted x) (t.contextFaulted x) :=
  h.update x (g := fun c => { c with st := .faulted, wait := .none, epi := none, r := { c.r with resv := none } })
    ⟨fun _ _ => rfl, fun _ _ => nofun⟩

theorem faultRecord (h : Twin i s t) (x : Nat) (tr : Trap) (epc enpc : W64) :
    Twin i (s.faultRecord x tr epc enpc) (t.faultRecord x tr epc enpc) := by
  have h1 := (((h.setReg (Reg.oeTrapEpc (unitOf x) (x % 16)) epc).setReg (Reg.oeTrapEnpc (unitOf x) (x % 16)) enpc).setReg
    (Reg.oeTrapVal (unitOf x) (x % 16)) tr.val).setReg (Reg.oeTrapCause (unitOf x) (x % 16)) (causeWord tr false)
  unfold State.faultRecord
  dsimp only
  rw [h1.xcsr, h.xcsr, h.readCtx x (v := Ctx.r) fun _ _ => rfl]
  exact (h1.setReg _ _).setRegBit _ _ _

theorem faultCtx (h : Twin i s t) {x : Nat} (hd : domOf (unitOf x) ≠ 8) (tr : Trap) (epc enpc : W64) :
    Twin i (s.faultCtx x tr epc enpc) (t.faultCtx x tr epc enpc) := by
  rw [State.faultCtx_eq, State.faultCtx_eq, h.xcsr, h.readCtx x (v := Ctx.job) fun _ _ => rfl, h.readCtx x (v := Ctx.stage) fun _ _ => rfl]
  have h1 := (((h.faultRecord x tr epc enpc).mvJobEnd x).ctxFence hd).contextFaulted x
  unfold State.stageFaulted
  rw [h1.read (v := fun s => s.job _) fun _ _ => rfl]
  exact .ite _ h1 ((h1.of_withCtxs (f := fun s => s.setJob _ _) fun _ _ => rfl).jobFault ..)

theorem takeTrapAt (h : Twin i s t) {x : Nat} (hx : x < 2048) (tr : Trap) (async : Bool) (epc enpc : W64) :
    Twin i (s.takeTrapAt x tr async epc enpc) (t.takeTrapAt x tr async epc enpc) := by
  have heng : isEng x = true := decide_eq_true hx
  have hd : domOf (unitOf x) ≠ 8 := by unfold unitOf domOf; rw [if_pos hx]; omega
  unfold State.takeTrapAt
  dsimp only
  rw [if_pos heng, if_pos heng, h.xcsr, h.xcsr, h.readCtx x (v := Ctx.r) fun _ _ => rfl]
  refine .ite _ ?_ (h.faultCtx hd ..)
  generalize BitVec.ofNat 64 _ = us
  have h1 := ((((h.setXcsr x csrUepc (epcWord epc)).setXcsr x csrUenpc (epcWord enpc)).setXcsr x csrUcause (causeWord tr async)).setXcsr x csrUval
    tr.val).setXcsr x csrUstat us
  rw [h1.xcsr]
  exact h1.atHandler x _

theorem takeTrap (h : Twin i s t) {x : Nat} (hx : x < 2048) (tr : Trap) : Twin i (s.takeTrap x tr) (t.takeTrap x tr) := by
  unfold State.takeTrap
  rw [h.readCtx x (v := Ctx.r) fun _ _ => rfl]
  exact h.takeTrapAt hx ..

/-- What is left of two states alike but for the time of context i, once that is zero in both. -/
theorem setLastTime_zero (h : Twin i s t) :
    t.setCtx i { t.ctx i with lastTime := 0 } = s.setCtx i { s.ctx i with lastTime := 0 } := by
  have hc : { t.ctx i with lastTime := 0 } = { s.ctx i with lastTime := 0 } :=
    h.readCtx i (v := fun c => { c with lastTime := 0 }) fun _ _ => rfl
  rw [hc]
  have hrest : t.setCtx i { s.ctx i with lastTime := 0 } = s.withCtxs (Tab.set {} t.ctxs i { s.ctx i with lastTime := 0 }) :=
    (congrArg (fun z : State => z.setCtx i { s.ctx i with lastTime := 0 }) h.rest :)
  exact hrest.trans (congrArg s.withCtxs (h.ctxs.set_self _))

end Twin
end Sys2Proof.Machine
end

section
/-! SUPPORT. Predicate instructions and the compares into a predicate (R115, R124, R125). -/

namespace Sys2Proof.Machine

/-! ### Predicates bit by bit -/

/-- The number whose bits a compare gathers over the active ones of the first n elements (R115). -/
def gather (p q : Nat → Bool) (n : Nat) : Nat := ((List.range n).filter p).foldl (fun a i => if q i then a + 2 ^ i else a) 0

theorem gather_succ (p q : Nat → Bool) (n : Nat) : gather p q (n + 1) = gather p q n + if p n && q n then 2 ^ n else 0 := by
  unfold gather
  rw [List.range_succ, List.filter_append, List.foldl_append]
  cases hp : p n <;> cases hq : q n <;> simp [hp, hq]

theorem gather_lt (p q : Nat → Bool) (n : Nat) : gather p q n < 2 ^ n := by
  induction n with
  | zero => exact Nat.one_pos
  | succ n ih =>
    rw [gather_succ, Nat.pow_succ]
    split <;> omega

theorem testBit_gather (p q : Nat → Bool) (n k : Nat) : (gather p q n).testBit k = (decide (k < n) && (p k && q k)) := by
  induction n with
  | zero => exact Nat.zero_testBit k
  | succ n ih =>
    rw [gather_succ]
    rcases Nat.lt_trichotomy k n with hk | rfl | hk
    · have hk' : k < n + 1 := by omega
      split
      · rw [Nat.add_comm, Nat.testBit_two_pow_add_gt hk, ih, decide_eq_true hk, decide_eq_true hk']
      · rw [Nat.add_zero, ih, decide_eq_true hk, decide_eq_true hk']
    · have hz := Nat.testBit_lt_two_pow (gather_lt p q k)
      rw [decide_eq_true (Nat.lt_succ_self k), Bool.true_and]
      split
      · next hpq => rw [Nat.add_comm, Nat.testBit_two_pow_add_eq, hz, hpq]; rfl
      · next hpq => rw [Nat.add_zero, hz, Bool.eq_false_of_not_eq_true hpq]
    · have hlt := gather_lt p q (n + 1)
      rw [gather_succ] at hlt
      rw [Nat.testBit_lt_two_pow (hlt.trans_le (Nat.pow_le_pow_right Nat.two_pos hk)), decide_eq_false (by omega), Bool.false_and]

theorem popc_eq_countP_getLsbD (v : W128) : popc 128 v.toNat = (List.range 128).countP fun n => v.getLsbD n :=
  List.countP_eq_length_filter.symm

/-- The lowest set bit, or the number of bits. -/
theorem firstIdx_bitAt_spec (v : W128) : let n := (firstIdx 128 (bitAt v)).getD 128
    n ≤ 128 ∧ (∀ k, k < n → v.getLsbD k = false) ∧ (n < 128 → v.getLsbD n = true) := by
  unfold firstIdx
  dsimp only
  cases hf : (List.range 128).find? (bitAt v) with
  | none => exact ⟨Nat.le_refl _, fun k hk => by simpa [bitAt] using List.find?_eq_none.1 hf k (List.mem_range.2 hk), fun h => absurd h (Nat.lt_irrefl _)⟩
  | some k =>
    obtain ⟨hk, hmem, hbelow⟩ := List.find?_range_eq_some.1 hf
    exact ⟨(List.mem_range.1 hmem).le, fun n hn => by simpa [bitAt] using hbelow n hn, fun _ => hk⟩

/-- The bits from j on that PWHILE sets. -/
theorem getLsbD_while (a b : W64) {k : Nat} (hk : k < 128) :
    (BitVec.ofNat 128 (2 ^ min (b.toNat - a.toNat) 128 - 1)).getLsbD k = decide (a.toNat + k < b.toNat) := by
  rw [BitVec.getLsbD_ofNat, Nat.testBit_two_pow_sub_one, decide_eq_true hk, Bool.true_and]
  exact decide_eq_decide.2 (by omega)

theorem sgn_eq_toInt {w v : Nat} (hw : 0 < w) : sgn w v = (BitVec.ofNat w v).toInt := by
  obtain ⟨m, rfl⟩ : ∃ m, w = m + 1 := ⟨w - 1, by omega⟩
  have hp : 2 ^ (m + 1) = 2 * 2 ^ m := by rw [Nat.pow_succ]; omega
  rw [BitVec.toInt_eq_toNat_cond, BitVec.toNat_ofNat, sgn, Nat.add_sub_cancel]
  push_cast
  split <;> split <;> omega

/-! ### What a context's predicate holds -/

variable {x : CtxId} {i : Nat} {s t : State}

theorem State.p_setP_same (s : State) {x n : Nat} (hn : n ≠ 0) (v : W128) : (s.setP x n v).p x n = v := by
  unfold State.setP State.p State.setR
  rw [if_neg hn, if_neg hn, State.ctx_setCtx_same, Tab.get_set_same]

theorem State.p_finish (s : State) (x n : Nat) (wide : Bool) : (s.finish x wide).p x n = s.p x n :=
  ((OwnStep.refl (dst := []) (csrs := []) s).finish wide).keepsRegs.2.2.1 n List.not_mem_nil

/-- A predicate that a compare has gathered (R115). -/
theorem State.getLsbD_p_pwrite (s : State) {x pd vl k : Nat} (hpd : pd ≠ 0) (hk : k < 128) (pg : Pred3) (fn : Nat → Bool) :
    ((s.pwrite x pd pg vl fn).p x pd).getLsbD k = (decide (k < vl) && s.active x pg k && fn k) := by
  unfold State.pwrite
  rw [State.p_setP_same s hpd, BitVec.getLsbD_ofNat, decide_eq_true hk, Bool.true_and, Bool.and_assoc]
  exact testBit_gather (s.active x pg) fn vl k

/-! ### Predicate logic -/

/-- A predicate instruction of an engine or a sieve writes its predicate. -/
theorem predIssue_bits {c : Instr} {sg : Sig} {body : State → Eff} {pd : Nat} {v : W128} {fn : Nat → Bool}
    (hi : s.canIssue i profES false false = true) (hc : exec c s = .next (issue i sg body s))
    (hsg : (sg.prof, sg.noSlot, sg.wide) = (profES, false, false)) (hb : body (s.start i false) = .ok ((s.start i false).setP i pd v))
    (hv : ∀ k, k < 128 → v.getLsbD k = fn k) :
    ∃ v : W128, exec c s = .next (((s.start i false).setP i pd v).finish i false) ∧ ∀ k, k < 128 → v.getLsbD k = fn k := by
  simp only [Prod.mk.injEq] at hsg
  obtain ⟨hp, hn, hw⟩ := hsg
  refine ⟨v, ?_, hv⟩
  rw [hc, issue_ok (by rwa [hp, hn, hw]) (by rw [hw]; exact hb), hw]

/-- The same of an instruction that writes a g register. -/
theorem predIssue_num {c : Instr} {x : CtxId} {op tm : Nat} {rd : Reg5} {ps1 : Pred3} {vs2 : BitVec 5} {fn : W128 → W64} {ok : Nat → Prop}
    (hi : s.canIssue (ctxIdx x) profES false false = true) (hc : exec c s = .next (gFromP x op tm rd ps1 vs2 fn s)) {n : Nat}
    (hn : fn ((s.start (ctxIdx x) false).p (ctxIdx x) ps1.toNat) = BitVec.ofNat 64 n) (hok : ok n) :
    ∃ n : Nat, ok n ∧ exec c s = .next ((((s.start (ctxIdx x) false).setTime (ctxIdx x) tm tm).setG (ctxIdx x) rd.toNat (BitVec.ofNat 64 n)).finish (ctxIdx x) false) :=
  ⟨n, hok, by rw [hc, ← hn]; exact congrArg _ (issue_ok (sg := { word := _, prof := profES, srcs := [.p ps1.toNat], dsts := [lg rd] }) hi rfl)⟩

theorem extractLsb'_eq_ofNat (v : W128) (hi : Bool) :
    v.extractLsb' (if hi then 64 else 0) 64 = BitVec.ofNat 64 (v.toNat / (if hi then 2 ^ 64 else 1) % 2 ^ 64) := by
  apply BitVec.eq_of_toNat_eq
  rw [BitVec.extractLsb'_toNat, BitVec.toNat_ofNat, Nat.mod_mod, Nat.shiftRight_eq_div_pow]
  cases hi <;> rfl

/-! ### Compares -/

/-- What an instruction that keeps all but some registers answers. -/
def Done (i : Nat) (s : State) (c : Instr) (dst : List Loc) (csrs : List Nat) (post : State → Prop) : Prop :=
  let t := s.start i false
  ∃ u, exec c s = .next u ∧ t.keeps u i dst csrs ∧ t.movedOn u i ∧ t.keepsMemory u i ∧ post u

/-- Whether the fields of a compare are legal, and VSTART is 0 (R116, R131). -/
def State.comparable (t : State) (i : Nat) (k2 : VKind) (o : VF) : Bool :=
  t.fieldOk i .p o.xd o.vd && t.fieldOk i .v o.xs1 o.vs1 && t.fieldOk i k2 o.xs2 o.vs2 && decide (fld (t.xcsr i csrVstart) 0 16 = 0)

theorem vecIssue_eq (x : CtxId) (w : BitVec 32) (o : VF) (k2 : VKind) (body : Nat → State → Eff) (s : State) :
    vecIssue x w o .p .v k2 true true body s = issue (ctxIdx x) (s.vsig (ctxIdx x) w o .p .v k2)
      (fun s => if s.comparable (ctxIdx x) k2 o then body (ctxIdx x) s else .trap s (trapIllegal w)) s := by
  simp only [vecIssue, State.comparable, Bool.and_true, Bool.not_true, Bool.false_or]
  rfl

/-- A compare issues on an engine. -/
structure Compares (x : CtxId) (s : State) (c : Instr) (w : BitVec 32) (o : VF) (k2 : VKind) (body : Nat → State → Eff) : Prop where
  exec : exec c s = .next (vecIssue x w o .p .v k2 true true body s)
  can : s.canIssue (ctxIdx x) profE false false = true

namespace Compares
variable {c : Instr} {w : BitVec 32} {o : VF} {k2 : VKind} {body : Nat → State → Eff} (h : Compares x s c w o k2 body)
include h

theorem engine : ctxIdx x < 2048 := by
  by_cases hx : 2112 ≤ ctxIdx x
  · obtain ⟨-, -, -, hp⟩ := State.canIssue_sieve h.can hx
    cases hp
  · obtain ⟨-, -, -, -, -, hp, -⟩ := State.canIssue_unit h.can hx
    by_contra hn
    rw [if_neg (by simpa [isEng] using hn)] at hp
    cases hp

theorem unit : ¬2112 ≤ ctxIdx x := Nat.not_le.2 (h.engine.trans (by decide))

theorem epi : ((s.start (ctxIdx x) false).ctx (ctxIdx x)).epi = none := State.epi_start_unit h.can h.unit

theorem live : ((s.start (ctxIdx x) false).ctx (ctxIdx x)).st ≠ .free := by
  have hst := (congrArg Ctx.st (((Fetched.refl s).start false).own (x := ctxIdx x)) :)
  rw [show ((s.start (ctxIdx x) false).ctx (ctxIdx x)).st = .ready from hst.trans (State.canIssue_unit h.can h.unit).1]
  decide

theorem ok {u : State} (hl : (s.start (ctxIdx x) false).comparable (ctxIdx x) k2 o = true) (hb : body (ctxIdx x) (s.start (ctxIdx x) false) = .ok u) :
    Machine.exec c s = .next (u.finish (ctxIdx x) false) := by
  rw [h.exec, vecIssue_eq]
  exact congrArg _ (issue_ok h.can ((if_pos hl).trans hb))

theorem trap {u : State} {k : Trap} (hl : (s.start (ctxIdx x) false).comparable (ctxIdx x) k2 o = true)
    (hb : body (ctxIdx x) (s.start (ctxIdx x) false) = .trap u k) (hk : k.status ≠ stWait) : Machine.exec c s = .next (u.takeTrap (ctxIdx x) k) := by
  rw [h.exec, vecIssue_eq]
  exact congrArg _ (issue_trap h.can h.unit ((if_pos hl).trans hb) hk)

/-- Legal fields let the compare act; others raise ILLEGAL_INSN. -/
theorem either {good : Prop} (hgood : (s.start (ctxIdx x) false).comparable (ctxIdx x) k2 o = true → good) :
    if (s.start (ctxIdx x) false).comparable (ctxIdx x) k2 o then good
    else Machine.exec c s = .next ((s.start (ctxIdx x) false).takeTrap (ctxIdx x) (trapIllegal w)) := by
  split
  case isTrue hl => exact hgood hl
  case isFalse hl =>
    rw [h.exec, vecIssue_eq]
    exact congrArg _ (issue_trap h.can h.unit (if_neg hl) (trapIllegal_status w))

/-- A compare that acts on its registers alone and completes. -/
theorem done {z : State} {dst : List Loc} {csrs : List Nat} {post : State → Prop}
    (hl : (s.start (ctxIdx x) false).comparable (ctxIdx x) k2 o = true) (hb : body (ctxIdx x) (s.start (ctxIdx x) false) = .ok z)
    (hz : RegStep (ctxIdx x) dst csrs (s.start (ctxIdx x) false) z) (hpost : post (z.finish (ctxIdx x) false)) : Done (ctxIdx x) s c dst csrs post := by
  have hown := hz.toOwnStep.finish false
  exact ⟨_, h.ok hl hb, hown.keeps, hz.finish_movedOn (h.engine.trans (by decide)) (Option.isNone_iff_eq_none.2 h.epi), hown.keepsMemory, hpost⟩

/-- A compare that gathers its predicate (R115). -/
theorem sets {vl a b : Nat} {fn : Nat → Bool} (hl : (s.start (ctxIdx x) false).comparable (ctxIdx x) k2 o = true)
    (hb : body (ctxIdx x) (s.start (ctxIdx x) false) = .ok (((s.start (ctxIdx x) false).setTime (ctxIdx x) a b).pwrite (ctxIdx x) o.vd.toNat o.pg vl fn)) :
    Done (ctxIdx x) s c [.p o.vd.toNat] [] fun u => o.vd ≠ 0 → ∀ k, k < 128 →
      (u.p (ctxIdx x) o.vd.toNat).getLsbD k = (decide (k < vl) && (s.start (ctxIdx x) false).active (ctxIdx x) o.pg k && fn k) := by
  have htime := (RegStep.refl (s.start (ctxIdx x) false)).setTime (x := ctxIdx x) (dst := []) (csrs := []) a b
  refine h.done hl hb ((htime.mono (by simp) (by simp)).setP (List.mem_singleton_self _) _) fun hvd k hk => ?_
  have hact : ((s.start (ctxIdx x) false).setTime (ctxIdx x) a b).active (ctxIdx x) o.pg k = (s.start (ctxIdx x) false).active (ctxIdx x) o.pg k := by
    unfold State.active
    rw [htime.keepsRegs.2.2.1 _ List.not_mem_nil]
  rw [State.p_finish, State.getLsbD_p_pwrite _ (fun e => hvd (BitVec.eq_of_toNat_eq e)) hk, hact]

end Compares

theorem State.raiseDec_of_enabled {i bit : Nat} (h : bitAt (s.xcsr i csrDcsr) (bit + 8) = true) (code : Nat) (els : State → Eff) :
    s.raiseDec i bit code els = .trap (s.setXcsr i csrDcsr (setBit (s.xcsr i csrDcsr) bit true)) { code := code } := if_pos h

theorem Tab.ins_ins {V : Type} (k : Tab V) (i : Nat) (c d : V) : Tab.ins (Tab.ins k i c) i d = Tab.ins k i d := by
  induction k with
  | nil => rw [Tab.ins, Tab.ins, Tab.ins, if_neg (Nat.lt_irrefl i), if_pos rfl]
  | cons e k ih =>
    obtain ⟨y, b⟩ := e
    rw [Tab.ins, Tab.ins]
    by_cases hy : i < y
    · rw [if_pos hy, if_pos hy, Tab.ins, if_neg (Nat.lt_irrefl i), if_pos rfl]
    · rw [if_neg hy, if_neg hy]
      by_cases he : i = y
      · rw [if_pos he, if_pos he, Tab.ins, if_neg (Nat.lt_irrefl i), if_pos rfl]
      · rw [if_neg he, if_neg he, Tab.ins, if_neg hy, if_neg he, ih]

theorem State.setCtx_setCtx (s : State) (i : Nat) {c d : Ctx} (hc : c.st ≠ .free) (hd : d.st ≠ .free) : (s.setCtx i c).setCtx i d = s.setCtx i d := by
  have hne {c : Ctx} (h : c.st ≠ .free) : c ≠ {} := fun e => h (congrArg Ctx.st e)
  unfold State.setCtx
  dsimp only
  rw [Tab.set, Tab.set, if_neg (hne hd), if_neg (hne hc), Tab.set, if_neg (hne hd), Tab.ins_ins]

/-- The trap of an engine context does not depend on the time recorded for its instruction. -/
theorem State.takeTrap_setTime (hi : i < 2048) (hst : (t.ctx i).st ≠ .free) (a b n : Nat) (v : W64) (k : Trap) :
    let y := ((t.setTime i a b).setXcsr i n v).takeTrap i k
    let z := (t.setXcsr i n v).takeTrap i k
    y.setCtx i { y.ctx i with lastTime := 0 } = z.setCtx i { z.ctx i with lastTime := 0 } := by
  have htwin : Twin i (t.setXcsr i n v) ((t.setTime i a b).setXcsr i n v) := by
    unfold State.setXcsr State.setTime State.setR
    dsimp only
    rw [State.ctx_setCtx_same, State.setCtx_setCtx _ _ (by exact hst) (by exact hst)]
    exact (Twin.refl t).setCtx i (.inr ⟨rfl, hst, _, rfl⟩)
  exact (htwin.takeTrap hi k).setLastTime_zero

end Sys2Proof.Machine
end

section
/-! SUPPORT. Every predicate instruction's destination, bit by bit (R115, R124, R125). -/

namespace Sys2Proof.Machine

variable {x : CtxId} {s : State} {c : Instr} {w : BitVec 32} {o : VF}

theorem State.xcsr_finish (s : State) (x n : Nat) (wide : Bool) : (s.finish x wide).xcsr x n = s.xcsr x n :=
  ((OwnStep.refl (dst := []) (csrs := []) s).finish wide).csr n List.not_mem_nil

theorem State.vl_setTime (s : State) (x a b w : Nat) : (s.setTime x a b).vl x w = s.vl x w := by
  unfold State.vl State.vwidth State.vgroup
  rw [State.xcsr_setTime]
  rfl

/-- What a decimal compare does once its fields are legal (R124). -/
def decCmpBody (o : VF) (fn : Int → Int → Bool) (i : Nat) (s : State) : Eff :=
  vdFinish i ((s.actives i o.pg (s.vl i 128)).all fun k => decValid 31 (s.vel i (vnum o.xs1 o.vs1) 128 k) && decValid 31 (s.vel i (vnum o.xs2 o.vs2) 128 k))
    [] 31 (fun t => t.pwrite i o.vd.toNat o.pg (t.vl i 128)
      (fun k => fn (decVal 31 (s.vel i (vnum o.xs1 o.vs1) 128 k)) (decVal 31 (s.vel i (vnum o.xs2 o.vs2) 128 k))))
    (s.vtime i 2 2)

theorem vecDecCmp_eq (x : CtxId) (op : Nat) (o : VF) (fn : Int → Int → Bool) (s : State) :
    vecDecCmp x op o fn s = vecIssue x (encV 0x30 o op) o .p .v .v true true (decCmpBody o fn) s := rfl

/-- What a compare of decimal lanes with legal fields answers: its predicate, or for an invalid active lane DI, which with DIE set
traps (R124). -/
def DecCompared (i : Nat) (s : State) (c : Instr) (o : VF) (fn : Int → Int → Bool) : Prop :=
  let t := s.start i false
  let a (k : Nat) : Nat := t.vel i (vnum o.xs1 o.vs1) 128 k
  let b (k : Nat) : Nat := t.vel i (vnum o.xs2 o.vs2) 128 k
  let dc := t.xcsr i csrDcsr
  if (t.actives i o.pg (t.vl i 128)).all fun k => decValid 31 (a k) && decValid 31 (b k) then
    Done i s c [.p o.vd.toNat] [] fun u => o.vd ≠ 0 → ∀ k, k < 128 →
      (u.p i o.vd.toNat).getLsbD k = (decide (k < t.vl i 128) && t.active i o.pg k && fn (decVal 31 (a k)) (decVal 31 (b k)))
  else if bitAt dc 9 = true then
    ∃ y : State, exec c s = .next y ∧ y.setCtx i { y.ctx i with lastTime := 0 } =
      (let z := (t.setXcsr i csrDcsr (setBit dc 1 true)).takeTrap i { code := 0x0C }; z.setCtx i { z.ctx i with lastTime := 0 })
  else Done i s c [] [csrDcsr] fun u => u.xcsr i csrDcsr = setBit dc 1 true

theorem decCompare_spec {fn : Int → Int → Bool} (h : Compares x s c w o .v (decCmpBody o fn))
    (hl : (s.start (ctxIdx x) false).comparable (ctxIdx x) .v o = true) : DecCompared (ctxIdx x) s c o fn := by
  unfold DecCompared
  set i := ctxIdx x
  intro t a b dc
  have htime : RegStep i [] [] t (t.vtime i 2 2) := (RegStep.refl t).setTime ..
  have hdc : (t.vtime i 2 2).xcsr i csrDcsr = dc := htime.csr _ List.not_mem_nil
  split
  case isTrue hv =>
    refine h.sets hl (a := 2 + t.vpass i - 1) (b := 2 + t.vpass i - 1) ?_
    show decCmpBody o fn i t = _
    unfold decCmpBody vdFinish
    rw [hv]
    exact congrArg (fun n => Eff.ok ((t.vtime i 2 2).pwrite i o.vd.toNat o.pg n _)) (State.vl_setTime ..)
  case isFalse hv =>
    have hb : decCmpBody o fn i t = (t.vtime i 2 2).raiseDec i dcsrDi 0x0C fun s => .ok s := by
      unfold decCmpBody vdFinish
      rw [Bool.eq_false_of_not_eq_true hv]
      rfl
    split
    case isTrue hd =>
      rw [State.raiseDec_of_enabled (by rw [hdc]; exact hd), hdc] at hb
      exact ⟨_, h.trap hl hb (by decide), State.takeTrap_setTime h.engine h.live ..⟩
    case isFalse hd =>
      rw [State.raiseDec_of_disabled (by rw [hdc]; exact Bool.eq_false_of_not_eq_true hd), hdc] at hb
      refine h.done hl hb ((htime.mono (by simp) (by simp)).setXcsr (List.mem_singleton_self _) _) ?_
      rw [State.xcsr_finish, State.xcsr_setXcsr_same]
      rfl

/-- A compare of elements into a predicate (R115). -/
theorem vecCmp_spec {cond : Nat} {ew : BitVec 2} {fn : Nat → Nat → Nat → Bool} (hi : s.canIssue (ctxIdx x) profE false false = true)
    (hc : exec c s = .next (vecCmp x cond ew o fn s)) {bit : Nat → Bool} (hbit : ∀ k,
      fn (ewBits ew) ((s.start (ctxIdx x) false).vel (ctxIdx x) (vnum o.xs1 o.vs1) (ewBits ew) k)
        ((s.start (ctxIdx x) false).vel (ctxIdx x) (vnum o.xs2 o.vs2) (ewBits ew) k) = bit k) : let i := ctxIdx x
    let t := s.start i false
    if t.comparable i .v o then
      Done i s c [.p o.vd.toNat] [] fun u => o.vd ≠ 0 → ∀ k, k < 128 →
        (u.p i o.vd.toNat).getLsbD k = (decide (k < t.vl i (ewBits ew)) && t.active i o.pg k && bit k)
    else exec c s = .next (t.takeTrap i (trapIllegal (encV 0x30 o (0x10 + 4 * ew.toNat + cond)))) := by
  intro i t
  obtain rfl := funext hbit
  exact Compares.either ⟨hc, hi⟩ fun hl => Compares.sets ⟨hc, hi⟩ hl rfl

theorem vecDecCmp_spec {op : Nat} {fn : Int → Int → Bool} (hi : s.canIssue (ctxIdx x) profE false false = true)
    (hc : exec c s = .next (vecDecCmp x op o fn s)) : let i := ctxIdx x
    let t := s.start i false
    if t.comparable i .v o then DecCompared i s c o fn else exec c s = .next (t.takeTrap i (trapIllegal (encV 0x30 o op))) :=
  (Compares.mk (hc.trans (congrArg _ (vecDecCmp_eq x op o fn s))) hi).either (decCompare_spec ⟨hc, hi⟩)

/-- Settles O35: each instruction's destination bit by bit; with DIE set an invalid lane's trap is the trap from the state before, but for
the time recorded. -/
theorem predicateResults : Obligations.PredicateResults := by
  unfold Obligations.PredicateResults
  intro x pd p1 p2 rd a b hi ew o s i t
  refine ⟨fun hp => ?_, fun hv => ?_⟩
  · intro P g bits num
    refine ⟨predIssue_bits (c := .pand x pd p1 p2) hp rfl rfl rfl fun k _ => BitVec.getLsbD_and,
      predIssue_bits (c := .por x pd p1 p2) hp rfl rfl rfl fun k _ => BitVec.getLsbD_or,
      predIssue_bits (c := .pxor x pd p1 p2) hp rfl rfl rfl fun k _ => BitVec.getLsbD_xor,
      predIssue_bits (c := .pandn x pd p1 p2) hp rfl rfl rfl fun k hk => ?_,
      predIssue_bits (c := .pnot x pd p1) hp rfl rfl rfl fun k hk => ?_,
      predIssue_bits (c := .pwhile x pd a b) hp rfl rfl rfl fun k hk => getLsbD_while _ _ hk,
      predIssue_bits (c := .pfromg x pd a b) hp rfl rfl rfl fun k hk => BitVec.getLsbD_append,
      predIssue_num (c := .pcnt x rd p1) hp rfl rfl (popc_eq_countP_getLsbD _), predIssue_num (c := .pffs x rd p1) hp rfl rfl (firstIdx_bitAt_spec _),
      predIssue_num (c := .ptog x rd p1 hi) hp rfl (extractLsb'_eq_ofNat _ hi) rfl⟩
    · exact (BitVec.getLsbD_and).trans (by rw [BitVec.getLsbD_not, decide_eq_true hk, Bool.true_and])
    · exact (BitVec.getLsbD_not).trans (by rw [decide_eq_true hk, Bool.true_and])
  · intro w av bv live dc legal done either sets cmp dcmp
    have hw : 0 < ewBits ew := Nat.mul_pos (by decide) (Nat.two_pow_pos _)
    refine ⟨vecCmp_spec (c := .vcmpeq x ew o) hv rfl fun _ => rfl, vecCmp_spec (c := .vcmpne x ew o) hv rfl fun _ => rfl,
      vecCmp_spec (c := .vcmplt x ew o) hv rfl fun k => ?_, vecCmp_spec (c := .vcmpltu x ew o) hv rfl fun _ => rfl,
      vecDecCmp_spec (c := .vdceq x o) hv rfl, vecDecCmp_spec (c := .vdclt x o) hv rfl, vecDecCmp_spec (c := .vdcle x o) hv rfl, ?_⟩
    · rw [sgn_eq_toInt hw, sgn_eq_toInt hw]
      rfl
    · exact Compares.either (c := .vdval x o) ⟨rfl, hv⟩ fun hl => Compares.sets ⟨rfl, hv⟩ hl rfl

end Sys2Proof.Machine
end

section
/-! The obligation of the boundary table of binary64 (R101): closed numbers, each row computed in the five directions. -/

namespace Sys2Proof

/-- Settles O31: every row is a closed computation in whole numbers. -/
theorem floatingPointBoundaryResults : Obligations.FloatingPointBoundaryResults := by
  unfold Obligations.FloatingPointBoundaryResults
  refine ⟨?_, ?_, ?_, ?_, ?_, ?_, ?_, ?_, ?_, ?_, ?_, ?_, ?_, ?_, ?_, ?_, ?_, ?_⟩
  all_goals decide +kernel

end Sys2Proof
end

section
/-! SUPPORT. Multiplication (R82) and the division instructions (R83, R84): each product's part, and what each instruction does with its
register pair. -/

namespace Sys2Proof.Machine

/-! ### Products (R82) -/

theorem mulTime_eq (m : Nat) : mulTime m = 2 + ((if m = 0 then 1 else Nat.log2 m + 1) + 15) / 16 := by
  unfold mulTime ceilDiv bitLen
  split
  · rfl
  · rw [max_eq_right (Nat.le_add_left 1 _)]
    rfl

/-- The upper half of an exact product. -/
theorem extractLsb'_ofInt_high (z : Int) : (BitVec.ofInt 128 z).extractLsb' 64 64 = BitVec.ofInt 64 (z / 2 ^ 64) := by
  apply BitVec.eq_of_toNat_eq
  rw [BitVec.extractLsb'_toNat, BitVec.toNat_ofInt, BitVec.toNat_ofInt, Nat.shiftRight_eq_div_pow]
  omega

theorem setWidth_eq_ofInt (u : W64) (n : Nat) : u.setWidth n = BitVec.ofInt n u.toNat := by
  rw [BitVec.ofInt_natCast]
  exact BitVec.eq_of_toNat_eq (by simp)

section
variable {x : CtxId} {rd a b : Reg5} {s : State} {c : Instr}

/-- A product completes with the part that its name selects. -/
theorem mulOp_spec (hi : s.canIssue (ctxIdx x) profKE false false = true) {func sealed m : Nat} {mag : W64 → Nat} {fn : W64 → W64 → W64} {r : W64}
    (hc : exec c s = .next (mulOp x func rd a b mag sealed fn s)) (hm : mag ((s.start (ctxIdx x) false).g (ctxIdx x) b.toNat) = m)
    (hr : fn ((s.start (ctxIdx x) false).g (ctxIdx x) a.toNat) ((s.start (ctxIdx x) false).g (ctxIdx x) b.toNat) = r) :
    exec c s = .next ((((s.start (ctxIdx x) false).setTime (ctxIdx x) (2 + ((if m = 0 then 1 else Nat.log2 m + 1) + 15) / 16) sealed).setG
      (ctxIdx x) rd.toNat r).finish (ctxIdx x) false) := by
  rw [← mulTime_eq, ← hm, ← hr]
  exact (fpIssues hi hc rfl).ok rfl rfl

/-! ### The registers of a division (R83) -/

theorem pairOk_eq (r : Reg5) : pairOk r = (r.toNat % 2 == 0 && r != 0) := rfl

theorem outPair_eq (r rd : Reg5) : outPair r rd = !(decide (r.toNat = rd.toNat) || decide (r.toNat = rd.toNat + 1)) := by
  rw [Bool.not_or, outPair, bne, Bool.beq_eq_decide_eq, decide_eq_decide.2 (BitVec.toNat_inj (x := r) (y := rd)).symm, decide_not]

/-- An instruction of division with registers that R83 allows, or with others. -/
theorem divIssue_spec (hi : s.canIssue (ctxIdx x) profKE false false = true) {sg : Sig} {w : BitVec 32} {ok : Bool} {act : State → Eff}
    (hc : exec c s = .next (issue (ctxIdx x) sg (fun s => if !ok then .trap s (trapIllegal w) else act s) s))
    (hsg : (sg.prof, sg.noSlot, sg.wide) = (profKE, false, false)) {good : Prop} (hgood : FpIssues (ctxIdx x) s c sg act → good) :
    if ok then good else exec c s = .next ((s.start (ctxIdx x) false).takeTrap (ctxIdx x) (trapIllegal w)) := by
  cases ok
  · exact (fpIssues hi hc hsg).illegal (by simp_all) rfl
  · exact hgood (fpIssues hi hc hsg)

/-! ### The setup (R84) -/

/-- A trap of a cause alone is no wait for data. -/
theorem trapCode_status (code : Nat) : ({ code := code } : Trap).status ≠ stWait := by
  show (0 : BitVec 16) ≠ stWait
  decide

theorem ofNat_natAbs_toInt (u : W64) : BitVec.ofNat 64 u.toInt.natAbs = if u.slt 0 then 0 - u else u := by
  apply BitVec.eq_of_toNat_eq
  have hz : (0 : W64).toInt = 0 ∧ (0 : W64).toNat = 0 := by decide
  have := u.isLt
  rw [BitVec.slt_eq_decide, apply_ite BitVec.toNat, BitVec.toNat_ofNat, BitVec.toNat_sub, BitVec.toInt_eq_toNat_cond, hz.1, hz.2]
  simp only [decide_eq_true_eq]
  split <;> split <;> omega

/-- What DSETUP and DSETUPU write to DCSR for a dividend and a divisor. -/
def setupDcsr (signed : Bool) (u v d : W64) : W64 :=
  setBit (setBit (setBit d 16 signed) 17 (signed && v != 0 && (u.slt 0 != v.slt 0))) 18 (signed && u.slt 0)

/-- A pair of registers takes a quotient and a remainder, and the instruction completes. -/
def State.putPair (t : State) (i : Nat) (rd : Reg5) (q r : W64) : State := ((t.setG i rd.toNat q).setG i (rd.toNat + 1) r).finish i false

theorem divSetup_spec (hi : s.canIssue (ctxIdx x) profKE false false = true) {func : Nat} {signed : Bool}
    (hc : exec c s = .next (divSetup x func rd a b signed s)) : let i := ctxIdx x
    let t := s.start i false
    let u := t.g i a.toNat
    let v := t.g i b.toNat
    let dcsr := t.xcsr i csrDcsr
    let flagged := t.setXcsr i csrDcsr (setBit dcsr 0 true)
    if pairOk rd && outPair b rd then
      exec c s = (if v = 0 ∧ bitAt dcsr 8 = true then .next (flagged.takeTrap i { code := 0x09 })
        else .next (((if v = 0 then flagged else t).setXcsr i csrDcsr (setupDcsr signed u v (if v = 0 then setBit dcsr 0 true else dcsr))).putPair i rd
          (if signed && u.slt 0 then 0 - u else u) 0))
    else exec c s = .next (t.takeTrap i (trapIllegal (encA 0x03 rd a b func))) := by
  intro i t u v dcsr flagged
  refine divIssue_spec hi hc rfl fun h => ?_
  have hq : (if signed then BitVec.ofNat 64 u.toInt.natAbs else u) = if signed && u.slt 0 then 0 - u else u := by
    cases signed
    · rfl
    · exact ofNat_natAbs_toInt u
  by_cases hv : v = 0
  · rw [if_pos hv, if_pos hv]
    by_cases hd : bitAt dcsr 8 = true
    · rw [if_pos ⟨hv, hd⟩, h.exec]
      refine congrArg _ (issue_trap h.can h.unit ((if_pos hv).trans (State.raiseDec_of_enabled (bit := dcsrDz) hd _ _)) (trapCode_status 0x09))
    · rw [if_neg fun e => hd e.2, ← hq]
      have hx : flagged.xcsr i csrDcsr = setBit dcsr 0 true := State.xcsr_setXcsr_same ..
      refine h.ok rfl ((if_pos hv).trans ((State.raiseDec_of_disabled (bit := dcsrDz) (Bool.eq_false_of_not_eq_true hd) _ _).trans ?_))
      show Eff.ok (((flagged.setXcsr i csrDcsr (setupDcsr signed u v (flagged.xcsr i csrDcsr))).setG i rd.toNat _).setG i (rd.toNat + 1) 0) = _
      rw [hx]
  · rw [if_neg fun e => hv e.1, if_neg hv, if_neg hv, ← hq]
    exact h.ok rfl (if_neg hv)

/-! ### A step (R84) -/

/-- The digit of a step is the largest multiple of the divisor that fits, at most 3. -/
theorem divStep_spec (q r d : Nat) : let m := r * 4 + q / 2 ^ 62
    ∃ k, k ≤ 3 ∧ k * d ≤ m ∧ (k < 3 → m < (k + 1) * d) ∧ divStep q r d = (q * 4 % 2 ^ 64 + k, (m - k * d) % 2 ^ 64) := by
  intro m
  refine ⟨_, ?_, ?_, ?_, rfl⟩
  all_goals split_ifs
  all_goals omega

theorem ofNat_mod_two_pow (n : Nat) : BitVec.ofNat 64 (n % 2 ^ 64) = BitVec.ofNat 64 n :=
  BitVec.eq_of_toNat_eq (by rw [BitVec.toNat_ofNat, BitVec.toNat_ofNat, Nat.mod_mod])

theorem ofNat_mul_four_add (q : W64) {k : Nat} (hk : k ≤ 3) : BitVec.ofNat 64 (q.toNat * 4 % 2 ^ 64 + k) = (q <<< 2) ||| BitVec.ofNat 64 k := by
  have hd : (q <<< 2) &&& BitVec.ofNat 64 k = 0#64 := by
    refine BitVec.eq_of_getLsbD_eq fun j hj => ?_
    rw [BitVec.getLsbD_and, BitVec.getLsbD_shiftLeft, BitVec.getLsbD_ofNat, BitVec.getLsbD_zero]
    by_cases hj2 : j < 2
    · simp [hj2]
    · rw [Nat.testBit_lt_two_pow (x := k) (i := j) (lt_of_lt_of_le (by omega : k < 2 ^ 2) (Nat.pow_le_pow_right Nat.two_pos (by omega)))]
      simp
  rw [← BitVec.add_eq_or_of_and_eq_zero _ _ hd]
  apply BitVec.eq_of_toNat_eq
  rw [BitVec.toNat_add, BitVec.toNat_shiftLeft, BitVec.toNat_ofNat, BitVec.toNat_ofNat, Nat.shiftLeft_eq]
  omega

theorem dstep_spec (hi : s.canIssue (ctxIdx x) profKE false false = true) : let i := ctxIdx x
    let t := s.start i false
    let v := t.g i b.toNat
    let n := divStep (t.g i rd.toNat).toNat (t.g i (rd.toNat + 1)).toNat (if bitAt (t.xcsr i csrDcsr) 16 then v.toInt.natAbs else v.toNat)
    if pairOk rd && outPair b rd then exec (.dstep x rd b) s = .next (t.putPair i rd (BitVec.ofNat 64 n.1) (BitVec.ofNat 64 n.2))
    else exec (.dstep x rd b) s = .next (t.takeTrap i (trapIllegal (encA 0x03 rd 0 b 2))) :=
  divIssue_spec hi rfl rfl fun h => h.ok rfl rfl

/-! ### The finish (R84) -/

theorem dfix_spec (hi : s.canIssue (ctxIdx x) profKE false false = true) : let i := ctxIdx x
    let t := s.start i false
    let q := t.g i a.toNat
    let r := t.g i (a.toNat + 1)
    let dcsr := t.xcsr i csrDcsr
    if pairOk rd && pairOk a then
      exec (.dfix x rd a) s = .next (t.putPair i rd (if bitAt dcsr 17 then 0 - q else q) (if bitAt dcsr 18 then 0 - r else r))
    else exec (.dfix x rd a) s = .next (t.takeTrap i (trapIllegal (encA 0x03 rd a 0 3))) :=
  divIssue_spec hi rfl rfl fun h => h.ok rfl rfl

end

/-- Settles O7: the products by their exact values, the division instructions by their definitions. -/
theorem multiplyAndDivisionStepResults : Obligations.MultiplyAndDivisionStepResults := by
  unfold Obligations.MultiplyAndDivisionStepResults
  intro x rd a b s hi i t u v len w low pair inPair put bad dcsr setup
  have hp : (pair rd && !inPair b) = (pairOk rd && outPair b rd) := congrArg (pairOk rd && ·) (outPair_eq b rd).symm
  refine ⟨mulOp_spec (c := .mul x rd a b) hi rfl rfl ?_, mulOp_spec (c := .mulh x rd a b) hi rfl rfl ?_, mulOp_spec (c := .mulhu x rd a b) hi rfl rfl ?_,
    mulOp_spec (c := .mulhsu x rd a b) hi rfl rfl ?_, mulOp_spec (c := .mulw x rd a b) hi rfl rfl rfl, ?_, ?_, ?_, ?_⟩
  · rw [BitVec.ofInt_mul, BitVec.ofInt_toInt, BitVec.ofInt_toInt]
  · exact ((congrArg _ (BitVec.ofInt_mul ..)).symm.trans (extractLsb'_ofInt_high _)).symm
  · rw [setWidth_eq_ofInt u, setWidth_eq_ofInt v, ← BitVec.ofInt_mul, extractLsb'_ofInt_high]
    exact (BitVec.ofInt_natCast ..).symm
  · rw [setWidth_eq_ofInt v, BitVec.signExtend, ← BitVec.ofInt_mul, extractLsb'_ofInt_high]
  · simp only [setup]
    rw [hp]
    exact divSetup_spec (c := .dsetup x rd a b) hi rfl
  · simp only [setup]
    rw [hp]
    exact divSetup_spec (c := .dsetupu x rd a b) hi rfl
  · have hs := dstep_spec (rd := rd) (b := b) hi
    rw [← hp] at hs
    by_cases h : (pair rd && !inPair b) = true
    · rw [if_pos h] at hs ⊢
      intro q d m
      obtain ⟨k, hk, hle, hlt, hstep⟩ := divStep_spec q.toNat (t.g i (rd.toNat + 1)).toNat d
      refine ⟨k, hk, hle, hlt, hs.trans ?_⟩
      show Host.Outcome.next (t.putPair i rd (BitVec.ofNat 64 (divStep q.toNat (t.g i (rd.toNat + 1)).toNat d).1)
        (BitVec.ofNat 64 (divStep q.toNat (t.g i (rd.toNat + 1)).toNat d).2)) = _
      rw [hstep, ofNat_mul_four_add q hk, ofNat_mod_two_pow]
      rfl
    · rw [if_neg h] at hs ⊢
      exact hs
  · exact dfix_spec hi

end Sys2Proof.Machine
end

section
/-! SUPPORT. Division by its whole sequence (R85): the digits that 32 steps give, and the registers along the 34 instructions. -/

namespace Sys2Proof.Machine

/-! ### The digits of a quotient -/

/-- A pair of registers after k of k + j steps on the magnitudes of a dividend and a divisor: above the k digits found stands the part of the
dividend that is not yet used, and the part used is the digits' multiple of the divisor and the remainder, which for a divisor of 0 are
all ones and that part itself. -/
def Digits (a d k j q r : Nat) : Prop :=
  ∃ used rest quot, a = used * 4 ^ j + rest ∧ rest < 4 ^ j ∧ q = rest * 4 ^ k + quot ∧ quot < 4 ^ k ∧ used = quot * d + r ∧
    if d = 0 then quot + 1 = 4 ^ k else r < d

theorem Digits.zero {a : Nat} (ha : a < 2 ^ 64) (d : Nat) : Digits a d 0 32 a 0 :=
  ⟨0, a, 0, by omega, ha, by omega, Nat.one_pos, by omega, by split <;> omega⟩

/-- A step finds the next digit. -/
theorem Digits.step {a d k j q r : Nat} (h : Digits a d k (j + 1) q r) (hkj : k + j = 31) (ha : a < 2 ^ 64) :
    Digits a d (k + 1) j (divStep q r d).1 (divStep q r d).2 := by
  obtain ⟨used, rest, quot, hsplit, hrest, hq, hquot, hused, hr⟩ := h
  obtain ⟨n, hn, hle, hlt, hstep⟩ := divStep_spec q r d
  have hk0 : 0 < 4 ^ k := Nat.pow_pos (by decide)
  have hj0 : 0 < 4 ^ j := Nat.pow_pos (by decide)
  have hpow : 4 ^ k * 4 ^ j = 2 ^ 62 := by rw [← Nat.pow_add, hkj]; norm_num
  have hrestdiv : 4 ^ j * (rest / 4 ^ j) + rest % 4 ^ j = rest := Nat.div_add_mod rest _
  -- the two bits that leave the register of the quotient
  have htop : q / 2 ^ 62 = rest / 4 ^ j := by
    rw [← hpow, ← Nat.div_div_eq_div_mul, hq, Nat.mul_comm, Nat.mul_add_div hk0, Nat.div_eq_of_lt hquot, Nat.add_zero]
  have htop3 : rest / 4 ^ j < 4 := Nat.div_lt_of_lt_mul (by rwa [← Nat.pow_succ])
  -- what stays in it
  have hlow : q * 4 % 2 ^ 64 = rest % 4 ^ j * 4 ^ (k + 1) + quot * 4 := by
    have hfit : rest % 4 ^ j * 4 ^ (k + 1) + quot * 4 < 2 ^ 64 := by
      have hmod := Nat.mul_le_mul_right (4 ^ k) (show rest % 4 ^ j + 1 ≤ 4 ^ j from Nat.mod_lt _ hj0)
      rw [Nat.add_mul, Nat.mul_comm (4 ^ j), hpow] at hmod
      rw [Nat.pow_succ, ← Nat.mul_assoc]
      omega
    have hsum : q * 4 = 2 ^ 64 * (rest / 4 ^ j) + (rest % 4 ^ j * 4 ^ (k + 1) + quot * 4) := by
      rw [hq, show (2 : Nat) ^ 64 = 4 ^ k * 4 ^ j * 4 by rw [hpow]; norm_num, Nat.pow_succ]
      nth_rewrite 1 [← hrestdiv]
      ring
    rw [hsum, Nat.mul_add_mod, Nat.mod_eq_of_lt hfit]
  rw [htop] at hle hlt
  have hnext : a = (used * 4 + rest / 4 ^ j) * 4 ^ j + rest % 4 ^ j := by
    rw [hsplit, Nat.pow_succ]
    nth_rewrite 1 [← hrestdiv]
    ring
  have hbound : used * 4 + rest / 4 ^ j < 2 ^ 64 :=
    lt_of_le_of_lt (Nat.le_mul_of_pos_right _ hj0) (lt_of_le_of_lt (Nat.le_add_right _ (rest % 4 ^ j)) (hnext ▸ ha))
  have hfit : r * 4 + rest / 4 ^ j - n * d < 2 ^ 64 := by
    have : r ≤ used := hused ▸ Nat.le_add_left _ _
    omega
  rw [hstep, htop]
  refine ⟨used * 4 + rest / 4 ^ j, rest % 4 ^ j, quot * 4 + n, hnext, Nat.mod_lt _ hj0, ?_, ?_, ?_, ?_⟩
  · rw [hlow, Nat.add_assoc]
  · rw [Nat.pow_succ]
    omega
  · rw [Nat.mod_eq_of_lt hfit, hused, Nat.add_mul (quot * 4)]
    have := Nat.mul_right_comm quot 4 d
    omega
  · rw [Nat.mod_eq_of_lt hfit]
    by_cases hd : d = 0
    · rw [if_pos hd] at hr ⊢
      rw [hd] at hlt
      rw [Nat.pow_succ]
      omega
    · rw [if_neg hd] at hr ⊢
      rw [Nat.add_mul] at hlt
      rcases hn.lt_or_eq with hn3 | rfl
      · have := hlt hn3
        omega
      · omega

theorem Digits.div {a d q r : Nat} (h : Digits a d 32 0 q r) (hd : 0 < d) : q = a / d ∧ r = a % d := by
  obtain ⟨used, rest, quot, hsplit, hrest, hq, hquot, hused, hr⟩ := h
  rw [if_neg hd.ne'] at hr
  rw [Nat.pow_zero] at hsplit hrest
  obtain ⟨hdiv, hmod⟩ := (Nat.div_mod_unique hd).2 ⟨show r + d * quot = a by rw [Nat.mul_comm]; omega, hr⟩
  exact ⟨by omega, hmod.symm⟩

theorem Digits.div_zero {a q r : Nat} (h : Digits a 0 32 0 q r) : q = 2 ^ 64 - 1 ∧ r = a := by
  obtain ⟨used, rest, quot, hsplit, hrest, hq, hquot, hused, hr⟩ := h
  rw [if_pos rfl] at hr
  omega

/-! ### The registers along the sequence -/

section
variable {s t : State} {x i n : Nat} {wide : Bool} {rd : Reg5} {q r : W64}

theorem State.g_start (s : State) (x n : Nat) (wide : Bool) : (s.start x wide).g x n = s.g x n := by
  unfold State.g
  rw [((Fetched.refl s).start wide).r x]

theorem State.xcsr_start (s : State) (x n : Nat) (wide : Bool) : (s.start x wide).xcsr x n = s.xcsr x n := by
  unfold State.xcsr
  rw [((Fetched.refl s).start wide).r x]

theorem State.ownStep_putPair (t : State) (i : Nat) (rd : Reg5) (q r : W64) :
    OwnStep i [.g rd.toNat, .g (rd.toNat + 1)] [] t (t.putPair i rd q r) :=
  (setPair (.refl t) q r).toOwnStep.finish false

theorem State.xcsr_putPair (t : State) (i n : Nat) (rd : Reg5) (q r : W64) : (t.putPair i rd q r).xcsr i n = t.xcsr i n :=
  (t.ownStep_putPair i rd q r).csr n List.not_mem_nil

theorem State.g_putPair_ne (t : State) (i : Nat) (h : n ≠ rd.toNat) (h' : n ≠ rd.toNat + 1) (q r : W64) : (t.putPair i rd q r).g i n = t.g i n :=
  (t.ownStep_putPair i rd q r).keepsRegs.1 n (by simp [h, h'])

theorem State.g_putPair_snd (t : State) (i : Nat) (rd : Reg5) (q r : W64) : (t.putPair i rd q r).g i (rd.toNat + 1) = r := by
  rw [State.putPair, State.g_finish, State.g_setG_same (Nat.succ_ne_zero _)]

theorem State.g_putPair_fst (t : State) (i : Nat) (h : rd ≠ 0) (q r : W64) : (t.putPair i rd q r).g i rd.toNat = q := by
  have hz : rd.toNat ≠ 0 := fun e => h (BitVec.eq_of_toNat_eq e)
  have hw := (RegStep.refl (t.setG i rd.toNat q)).setG (x := i) (csrs := []) (List.mem_singleton_self (Loc.g (rd.toNat + 1))) r
  rw [State.putPair, State.g_finish, hw.keepsRegs.1 _ (by simp), State.g_setG_same hz]

end

/-- The magnitude of an operand, signed or unsigned. -/
def mag (signed : Bool) (u : W64) : Nat := if signed then u.toInt.natAbs else u.toNat

theorem mag_lt (signed : Bool) (u : W64) : mag signed u < 2 ^ 64 := by
  have := u.isLt
  cases signed
  · exact this
  · rw [mag, if_pos rfl, BitVec.toInt_eq_toNat_cond]
    split <;> omega

theorem mag_eq_zero_iff (signed : Bool) (u : W64) : mag signed u = 0 ↔ u = 0 := by
  have h := BitVec.toInt_inj (x := u) (y := 0)
  have h' := BitVec.toNat_inj (x := u) (y := 0)
  cases signed
  · exact h'
  · exact Int.natAbs_eq_zero.trans h

theorem toNat_setup (signed : Bool) (u : W64) : (if signed && u.slt 0 then 0 - u else u).toNat = mag signed u := by
  cases signed
  · rfl
  · rw [Bool.true_and, ← ofNat_natAbs_toInt, BitVec.toNat_ofNat]
    exact Nat.mod_eq_of_lt (mag_lt true u)

/-- The context is k steps into a division, j before its end: its divisor, its DCSR and its pair. -/
structure Dividing (s : State) (i : Nat) (rd rs2 : Reg5) (signed : Bool) (a : Nat) (b dcsr : W64) (k j : Nat) : Prop where
  divisor : s.g i rs2.toNat = b
  flags : s.xcsr i csrDcsr = dcsr
  dss : bitAt dcsr 16 = signed
  digits : Digits a (mag signed b) k j (s.g i rd.toNat).toNat (s.g i (rd.toNat + 1)).toNat

section
variable {x : CtxId} {signed : Bool} {rd rs1 rs2 dst : Reg5} {s t : State} {b dcsr : W64}

theorem bitAt_setBit_ne {n : Nat} (v : BitVec n) {i j : Nat} (b : Bool) (h : j ≠ i) : bitAt (setBit v i b) j = bitAt v j := by
  rw [Bool.eq_iff_iff, bitAt_eq_true_iff, bitAt_eq_true_iff, fld_setBit_ne v b (by omega)]

theorem bitAt_setupDcsr (signed : Bool) (u v d : W64) : bitAt (setupDcsr signed u v d) 16 = signed ∧
    bitAt (setupDcsr signed u v d) 17 = (signed && v != 0 && (u.slt 0 != v.slt 0)) ∧ bitAt (setupDcsr signed u v d) 18 = (signed && u.slt 0) ∧
    bitAt (setupDcsr signed u v d) 0 = bitAt d 0 := by
  unfold setupDcsr
  refine ⟨?_, ?_, bitAt_setBit_same _ _ (by decide), ?_⟩
  · rw [bitAt_setBit_ne _ _ (by decide), bitAt_setBit_ne _ _ (by decide), bitAt_setBit_same _ _ (by decide)]
  · rw [bitAt_setBit_ne _ _ (by decide), bitAt_setBit_same _ _ (by decide)]
  · rw [bitAt_setBit_ne _ _ (by decide), bitAt_setBit_ne _ _ (by decide), bitAt_setBit_ne _ _ (by decide)]

theorem divStep_lt (q r d : Nat) : (divStep q r d).1 < 2 ^ 64 ∧ (divStep q r d).2 < 2 ^ 64 := by
  obtain ⟨k, hk, -, -, h⟩ := divStep_spec q r d
  rw [h]
  exact ⟨by omega, Nat.mod_lt _ (by decide)⟩

/-- The setup begins a division. -/
theorem Dividing.setup (hi : s.canIssue (ctxIdx x) profKE false false = true) (hrd : pairOk rd = true) (h2 : outPair rs2 rd = true) {func : Nat} {c : Instr}
    (hc : exec c s = .next (divSetup x func rd rs1 rs2 signed s)) (hz : s.g (ctxIdx x) rs2.toNat = 0 → bitAt (s.xcsr (ctxIdx x) csrDcsr) 8 = false)
    (ht : exec c s = .next t) : let i := ctxIdx x
    let u := s.g i rs1.toNat
    let v := s.g i rs2.toNat
    Dividing t i rd rs2 signed (mag signed u) v (setupDcsr signed u v (if v = 0 then setBit (s.xcsr i csrDcsr) 0 true else s.xcsr i csrDcsr)) 0 32 := by
  intro i u v
  have h := divSetup_spec hi hc
  rw [hrd, h2, Bool.and_self, if_pos rfl, State.g_start, State.g_start, State.xcsr_start, if_neg fun e => by simp [hz e.1] at e, ht,
    Host.Outcome.next.injEq] at h
  have hrd0 : rd ≠ 0 := by rintro rfl; cases hrd
  simp only [outPair_eq, Bool.not_eq_true', Bool.or_eq_false_iff, decide_eq_false_iff_not] at h2
  have hw : RegStep i [] [csrDcsr] (s.start i false) (if v = 0 then (s.start i false).setXcsr i csrDcsr (setBit (s.xcsr i csrDcsr) 0 true) else s.start i false) :=
    ((RegStep.refl _).setXcsr (List.mem_singleton_self _) _).ite (.refl _)
  have hg := (hw.setXcsr (List.mem_singleton_self _) (setupDcsr signed u v (if v = 0 then setBit (s.xcsr i csrDcsr) 0 true else s.xcsr i csrDcsr))).keepsRegs.1
    rs2.toNat List.not_mem_nil
  rw [h]
  refine ⟨?_, ?_, (bitAt_setupDcsr signed u v _).1, ?_⟩
  · rw [State.g_putPair_ne _ _ h2.1 h2.2, hg, State.g_start]
  · rw [State.xcsr_putPair, State.xcsr_setXcsr_same]
  · rw [State.g_putPair_fst _ _ hrd0, State.g_putPair_snd, toNat_setup]
    exact .zero (mag_lt signed u) _

/-- Each step finds a digit. -/
theorem Dividing.step {a k j : Nat} (hi : s.canIssue (ctxIdx x) profKE false false = true) (hrd : pairOk rd = true) (h2 : outPair rs2 rd = true)
    (ha : a < 2 ^ 64) (hkj : k + j = 31) (h : Dividing s (ctxIdx x) rd rs2 signed a b dcsr k (j + 1)) (ht : exec (.dstep x rd rs2) s = .next t) :
    Dividing t (ctxIdx x) rd rs2 signed a b dcsr (k + 1) j := by
  have hs := dstep_spec (rd := rd) (b := rs2) hi
  rw [hrd, h2, Bool.and_self, if_pos rfl, State.g_start, State.g_start, State.g_start, State.xcsr_start, h.divisor, h.flags, h.dss, ht,
    Host.Outcome.next.injEq] at hs
  have hrd0 : rd ≠ 0 := by rintro rfl; cases hrd
  simp only [outPair_eq, Bool.not_eq_true', Bool.or_eq_false_iff, decide_eq_false_iff_not] at h2
  have hd := h.digits.step hkj ha
  rw [hs]
  refine ⟨?_, ?_, h.dss, ?_⟩
  · rw [State.g_putPair_ne _ _ h2.1 h2.2, State.g_start, h.divisor]
  · rw [State.xcsr_putPair, State.xcsr_start, h.flags]
  · rw [State.g_putPair_fst _ _ hrd0, State.g_putPair_snd, BitVec.toNat_ofNat, BitVec.toNat_ofNat,
      Nat.mod_eq_of_lt (divStep_lt ..).1, Nat.mod_eq_of_lt (divStep_lt ..).2]
    exact hd

/-- A division k steps after its setup. -/
theorem Dividing.steps {st : Nat → State} {a : Nat} (hi : ∀ k, k < 34 → (st k).canIssue (ctxIdx x) profKE false false = true) (hrd : pairOk rd = true)
    (h2 : outPair rs2 rd = true) (ha : a < 2 ^ 64) (h : Dividing (st 1) (ctxIdx x) rd rs2 signed a b dcsr 0 32)
    (ht : ∀ k, 1 ≤ k → k ≤ 32 → exec (.dstep x rd rs2) (st k) = .next (st (k + 1))) :
    ∀ k j, k + j = 32 → Dividing (st (k + 1)) (ctxIdx x) rd rs2 signed a b dcsr k j := by
  intro k
  induction k with
  | zero => intro j hj; rwa [show j = 32 by omega]
  | succ k ih => exact fun j hj => (ih (j + 1) (by omega)).step (hi _ (by omega)) hrd h2 ha (by omega) (ht _ (by omega) (by omega))

/-- The finish gives the digits and the remainder their signs. -/
theorem Dividing.fix {a : Nat} (hi : s.canIssue (ctxIdx x) profKE false false = true) (hdst : pairOk dst = true) (hrd : pairOk rd = true)
    (h : Dividing s (ctxIdx x) rd rs2 signed a b dcsr 32 0) (ht : exec (.dfix x dst rd) s = .next t) : ∃ q r : W64, Digits a (mag signed b) 32 0 q.toNat r.toNat ∧
      t.g (ctxIdx x) dst.toNat = (if bitAt dcsr 17 then 0 - q else q) ∧ t.g (ctxIdx x) (dst.toNat + 1) = (if bitAt dcsr 18 then 0 - r else r) ∧
      t.xcsr (ctxIdx x) csrDcsr = dcsr := by
  have hf := dfix_spec (rd := dst) (a := rd) hi
  rw [hdst, hrd, Bool.and_self, if_pos rfl, State.g_start, State.g_start, State.xcsr_start, h.flags, ht, Host.Outcome.next.injEq] at hf
  have hdst0 : dst ≠ 0 := by rintro rfl; cases hdst
  refine ⟨_, _, h.digits, ?_, ?_, ?_⟩
  · rw [hf, State.g_putPair_fst _ _ hdst0]
  · rw [hf, State.g_putPair_snd]
  · rw [hf, State.xcsr_putPair, State.xcsr_start, h.flags]

end

/-! ### Signs -/

theorem eq_ofInt_of_toNat {u : W64} {n : Nat} (h : u.toNat = n) : u = BitVec.ofInt 64 n := by rw [← h, BitVec.ofInt_natCast, BitVec.ofNat_toNat, BitVec.setWidth_eq]

/-- A negated magnitude, or the magnitude. -/
theorem neg_ite_eq_ofInt {u : W64} {n : Nat} (h : u.toNat = n) (neg : Bool) : (if neg then 0 - u else u) = BitVec.ofInt 64 (if neg then -(n : Int) else n) := by
  cases neg
  · exact eq_ofInt_of_toNat h
  · rw [if_pos rfl, if_pos rfl, BitVec.ofInt_neg, ← eq_ofInt_of_toNat h]
    exact BitVec.zero_sub u

theorem tdiv_eq_natAbs (a b : Int) : a.tdiv b = if decide (a < 0) != decide (b < 0) then -((a.natAbs / b.natAbs : Nat) : Int) else (a.natAbs / b.natAbs : Nat) := by
  have hneg (n : Nat) : ¬(n : Int) < 0 := by omega
  rcases a with a | a <;> rcases b with b | b <;> simp [Int.tdiv, hneg, Int.negSucc_lt_zero]

theorem tmod_eq_natAbs (a b : Int) : a.tmod b = if decide (a < 0) then -((a.natAbs % b.natAbs : Nat) : Int) else (a.natAbs % b.natAbs : Nat) := by
  have hneg (n : Nat) : ¬(n : Int) < 0 := by omega
  rcases a with a | a <;> rcases b with b | b <;> simp [Int.tmod, hneg]

theorem slt_zero (u : W64) : u.slt 0 = decide (u.toInt < 0) := BitVec.slt_eq_decide

/-- Settles O8: 32 steps find the digits of the quotient of the magnitudes, and the finish gives them their signs. -/
theorem divisionSequenceDivides : Obligations.DivisionSequenceDivides := by
  unfold Obligations.DivisionSequenceDivides
  intro x signed rd rs1 rs2 dst st a b i hrd hrd0 hdst hdst0 hb hb' hga hgb hz hi hsetup hstep hfix q r
  have hpair : pairOk rd = true := pairOk_of hrd hrd0
  have hout : outPair rs2 rd = true := outPair_of hb hb'
  obtain ⟨dcsr, hflags, hstart⟩ : ∃ dcsr, dcsr = setupDcsr signed a b (if b = 0 then setBit ((st 0).xcsr i csrDcsr) 0 true else (st 0).xcsr i csrDcsr) ∧
      Dividing (st 1) i rd rs2 signed (mag signed a) b dcsr 0 32 := by
    have h0 := hi 0 (by decide)
    have hz' : (st 0).g i rs2.toNat = 0 → bitAt ((st 0).xcsr i csrDcsr) 8 = false := fun e => hz (hgb ▸ e)
    subst hga hgb
    cases signed
    · exact ⟨_, rfl, Dividing.setup (c := .dsetupu x rd rs1 rs2) h0 hpair hout rfl hz' hsetup⟩
    · exact ⟨_, rfl, Dividing.setup (c := .dsetup x rd rs1 rs2) h0 hpair hout rfl hz' hsetup⟩
  obtain ⟨-, hneg, hnegr, hdz⟩ := bitAt_setupDcsr signed a b (if b = 0 then setBit ((st 0).xcsr i csrDcsr) 0 true else (st 0).xcsr i csrDcsr)
  rw [← hflags] at hneg hnegr hdz
  have hend := hstart.steps hi hpair hout (mag_lt ..) hstep 32 0 rfl
  obtain ⟨u, v, hd, hq, hr, hc⟩ := hend.fix (hi 33 (by decide)) (pairOk_of hdst hdst0) hpair hfix
  rw [hneg] at hq
  rw [hnegr] at hr
  show if b = 0 then (st 34).g i dst.toNat = _ ∧ (st 34).g i (dst.toNat + 1) = _ ∧ _ else _
  by_cases hb0 : b = 0
  · rw [(mag_eq_zero_iff signed b).2 hb0] at hd
    obtain ⟨hu, hv⟩ := hd.div_zero
    rw [if_pos hb0] at hdz ⊢
    refine ⟨?_, ?_, ?_⟩
    · rw [hq, hb0, bne_self_eq_false, Bool.and_false, Bool.false_and]
      exact BitVec.eq_of_toNat_eq hu
    · rw [hr, BitVec.eq_of_toNat_eq (hv.trans (toNat_setup signed a).symm)]
      split
      · simp
      · rfl
    · rw [hc, hdz, bitAt_setBit_same _ _ (by decide)]
  · obtain ⟨hu, hv⟩ := hd.div (Nat.pos_of_ne_zero fun e => hb0 ((mag_eq_zero_iff signed b).1 e))
    rw [if_neg hb0]
    have hbne : (b != 0) = true := bne_iff_ne.2 hb0
    show if signed then (st 34).g i dst.toNat = _ ∧ (st 34).g i (dst.toNat + 1) = _ else (st 34).g i dst.toNat = _ ∧ (st 34).g i (dst.toNat + 1) = _
    rw [hq, hr, hbne, Bool.and_true, neg_ite_eq_ofInt hu, neg_ite_eq_ofInt hv, slt_zero, slt_zero]
    cases signed
    · exact ⟨BitVec.ofInt_natCast .., BitVec.ofInt_natCast ..⟩
    · rw [if_pos rfl, tdiv_eq_natAbs, tmod_eq_natAbs]
      exact ⟨rfl, rfl⟩

end Sys2Proof.Machine
end

section
/-! SUPPORT. The finite numbers of a format as multiples of its least one (R87): their fields, the gaps between them, the greatest of them. -/

namespace Sys2Proof.Machine

/-- A format with room for a fraction and for a finite exponent. -/
structure Fmt.Roomy (f : Fmt) : Prop where
  p : 2 ≤ f.p
  ew : 2 ≤ f.ew

theorem fmtOf_roomy (p : Bool) : (fmtOf p).Roomy := by cases p <;> exact ⟨by decide, by decide⟩

/-- The fields of a number's bits. -/
def Fmt.man (f : Fmt) (b : Nat) : Nat := b % 2 ^ (f.p - 1)
def Fmt.ex (f : Fmt) (b : Nat) : Nat := b / 2 ^ (f.p - 1) % 2 ^ f.ew
def Fmt.isNeg (f : Fmt) (b : Nat) : Bool := b.testBit (f.width - 1)
/-- The magnitude of a finite number in units of the least one. -/
def Fmt.units (f : Fmt) (b : Nat) : Nat := if f.ex b = 0 then f.man b else (f.man b + 2 ^ (f.p - 1)) * 2 ^ (f.ex b - 1)
/-- The least positive number. -/
noncomputable def Fmt.least (f : Fmt) : ℝ := 2 ^ f.qmin
/-- A sign as a factor. -/
def sgnR (s : Bool) : ℝ := if s then -1 else 1

variable {f : Fmt}

theorem Fmt.least_pos (f : Fmt) : 0 < f.least := zpow_pos two_pos _

theorem Fmt.Roomy.ew_pow (hf : f.Roomy) : 4 ≤ 2 ^ f.ew := Nat.pow_le_pow_right (n := 2) two_pos hf.ew
theorem Fmt.Roomy.p_pow (hf : f.Roomy) : 2 ^ f.p = 2 * 2 ^ (f.p - 1) := by
  rw [← Nat.pow_succ', Nat.succ_eq_add_one, Nat.sub_add_cancel (by have := hf.p; omega)]
theorem Fmt.Roomy.man_even (hf : f.Roomy) : 2 ^ (f.p - 1) % 2 = 0 := by
  rw [show f.p - 1 = (f.p - 2) + 1 by have := hf.p; omega, Nat.pow_succ, Nat.mul_mod_left]
theorem Fmt.Roomy.width (hf : f.Roomy) : f.width - 1 = f.ew + (f.p - 1) := by
  have := hf.p
  unfold Fmt.width
  omega

theorem Fmt.man_lt (f : Fmt) (b : Nat) : f.man b < 2 ^ (f.p - 1) := Nat.mod_lt _ (Nat.two_pow_pos _)
theorem Fmt.ex_lt (f : Fmt) (b : Nat) : f.ex b < 2 ^ f.ew := Nat.mod_lt _ (Nat.two_pow_pos _)

/-! ### Decoding -/

theorem Fmt.decode_eq (f : Fmt) (b : Nat) : f.decode false b =
    if f.ex b = 2 ^ f.ew - 1 then (if f.man b = 0 then .inf (f.isNeg b) else .nan (!(f.man b).testBit (f.p - 2)))
    else if f.ex b = 0 then (if f.man b = 0 then .zero (f.isNeg b) else .fin (f.isNeg b) (f.man b) f.qmin true)
    else .fin (f.isNeg b) (f.man b + 2 ^ (f.p - 1)) ((f.ex b : Int) - 1 + f.qmin) false := by
  simp only [Fmt.decode, Bool.false_eq_true, or_false]
  rfl

theorem Fmt.finite_iff (f : Fmt) (b : Nat) : f.finite b = true ↔ f.ex b ≠ 2 ^ f.ew - 1 := by
  unfold Fmt.finite
  rw [Fmt.decode_eq]
  by_cases h : f.ex b = 2 ^ f.ew - 1
  · rw [if_pos h]
    split_ifs <;> simp [h]
  · rw [if_neg h]
    split_ifs <;> simp [h]

/-- The value of a decoded number. -/
noncomputable def Fp.real : Fp → ℝ
  | .fin s m e _ => sgnR s * m * 2 ^ e
  | _ => 0

theorem Fmt.value_eq_real (f : Fmt) (b : Nat) : (f.value b : ℝ) = (f.decode false b).real := by
  unfold Fmt.value
  cases f.decode false b with
  | fin s m e _ => cases s <;> simp [Fp.real, sgnR]
  | _ => simp [Fp.real]

theorem Fmt.value_eq (h : f.finite b = true) : (f.value b : ℝ) = sgnR (f.isNeg b) * (f.units b * f.least) := by
  rw [Fmt.value_eq_real, Fmt.decode_eq, if_neg ((f.finite_iff b).1 h), Fmt.units, Fmt.least]
  by_cases he : f.ex b = 0
  · rw [if_pos he, if_pos he]
    split
    case isTrue hm => simp [Fp.real, hm]
    case isFalse hm => simp [Fp.real, mul_assoc]
  · rw [if_neg he, if_neg he]
    have hz : ((2 : ℝ) ^ ((f.ex b : Int) - 1 + f.qmin)) = 2 ^ (f.ex b - 1) * 2 ^ f.qmin := by
      rw [zpow_add₀ two_ne_zero, show (f.ex b : Int) - 1 = (f.ex b - 1 : Nat) by omega, zpow_natCast]
    simp only [Fp.real, hz]
    push_cast
    ring

/-! ### Gaps -/

/-- No number lies between two neighbours of a step of the grid: one step up from 0, or past the least normal number of its binade. -/
theorem Fmt.units_gap (f : Fmt) (b : Nat) {v k : Nat} (h : k = 0 ∨ 2 ^ (f.p - 1) ≤ v) : f.units b ≤ v * 2 ^ k ∨ (v + 1) * 2 ^ k ≤ f.units b := by
  rcases h with rfl | h
  · omega
  have hm := f.man_lt b
  unfold Fmt.units
  split
  · exact .inl ((hm.le.trans h).trans (Nat.le_mul_of_pos_right _ (Nat.two_pow_pos k)))
  rcases Nat.lt_or_ge (f.ex b - 1) k with hk | hk
  · left
    calc (f.man b + 2 ^ (f.p - 1)) * 2 ^ (f.ex b - 1) ≤ (2 ^ (f.p - 1) * 2) * 2 ^ (f.ex b - 1) := Nat.mul_le_mul_right _ (by omega)
      _ = 2 ^ (f.p - 1) * 2 ^ (f.ex b - 1 + 1) := by ring
      _ ≤ v * 2 ^ k := Nat.mul_le_mul h (Nat.pow_le_pow_right two_pos hk)
  · -- a multiple of the step
    obtain ⟨d, hd⟩ := Nat.exists_eq_add_of_le' hk
    rw [hd, Nat.pow_add, ← Nat.mul_assoc]
    rcases Nat.lt_or_ge v ((f.man b + 2 ^ (f.p - 1)) * 2 ^ d) with hv | hv
    · exact .inr (Nat.mul_le_mul_right _ hv)
    · exact .inl (Nat.mul_le_mul_right _ hv)

theorem Fmt.units_le_max (hf : f.Roomy) (h : f.finite b = true) : f.units b ≤ (2 ^ f.p - 1) * 2 ^ (2 ^ f.ew - 3) := by
  have hm := f.man_lt b
  have hx := f.ex_lt b
  have hfin := (f.finite_iff b).1 h
  have hp := hf.p_pow
  have hsig : f.man b + 2 ^ (f.p - 1) ≤ 2 ^ f.p - 1 := by omega
  unfold Fmt.units
  split
  · exact (show f.man b ≤ 2 ^ f.p - 1 by omega).trans (Nat.le_mul_of_pos_right _ (Nat.two_pow_pos _))
  · exact Nat.mul_le_mul hsig (Nat.pow_le_pow_right two_pos (by omega))

/-! ### Encoding -/

/-- Bits with given fields. -/
def Fmt.pack (f : Fmt) (s : Bool) (ex man : Nat) : Nat := f.signBit s + (ex * 2 ^ (f.p - 1) + man)

section
variable {s : Bool} {ex man : Nat}

theorem Fmt.Roomy.signBit (hf : f.Roomy) (s : Bool) : f.signBit s = s.toNat * 2 ^ f.ew * 2 ^ (f.p - 1) := by
  rw [Fmt.signBit, hf.width, Nat.pow_add, Nat.mul_assoc]

theorem Fmt.man_pack (hf : f.Roomy) (hm : man < 2 ^ (f.p - 1)) : f.man (f.pack s ex man) = man := by
  rw [Fmt.man, Fmt.pack, hf.signBit, ← Nat.add_assoc, ← Nat.add_mul, Nat.mul_add_mod_self_right, Nat.mod_eq_of_lt hm]

theorem Fmt.ex_pack (hf : f.Roomy) (he : ex < 2 ^ f.ew) (hm : man < 2 ^ (f.p - 1)) : f.ex (f.pack s ex man) = ex := by
  rw [Fmt.ex, Fmt.pack, hf.signBit, ← Nat.add_assoc, ← Nat.add_mul, Nat.mul_comm _ (2 ^ (f.p - 1)), Nat.mul_add_div (Nat.two_pow_pos _),
    Nat.div_eq_of_lt hm, Nat.add_zero, Nat.mul_add_mod_self_right, Nat.mod_eq_of_lt he]

/-- The fields below the sign fit below it. -/
theorem Fmt.Roomy.fields_lt (hf : f.Roomy) (he : ex < 2 ^ f.ew) (hm : man < 2 ^ (f.p - 1)) : ex * 2 ^ (f.p - 1) + man < 2 ^ (f.width - 1) := by
  rw [hf.width, Nat.pow_add]
  calc ex * 2 ^ (f.p - 1) + man < (ex + 1) * 2 ^ (f.p - 1) := by rw [Nat.add_mul]; omega
    _ ≤ 2 ^ f.ew * 2 ^ (f.p - 1) := Nat.mul_le_mul_right _ he

theorem Fmt.isNeg_pack (hf : f.Roomy) (he : ex < 2 ^ f.ew) (hm : man < 2 ^ (f.p - 1)) : f.isNeg (f.pack s ex man) = s := by
  have hz := Nat.testBit_lt_two_pow (hf.fields_lt he hm)
  unfold Fmt.isNeg Fmt.pack Fmt.signBit
  cases s
  · rwa [Bool.toNat_false, Nat.zero_mul, Nat.zero_add]
  · rw [Bool.toNat_true, Nat.one_mul, Nat.testBit_two_pow_add_eq, hz]
    rfl

theorem Fmt.pack_lt (hf : f.Roomy) (he : ex < 2 ^ f.ew) (hm : man < 2 ^ (f.p - 1)) : f.pack s ex man < 2 ^ f.width := by
  have hlt := hf.fields_lt he hm
  have hw : 2 ^ f.width = 2 * 2 ^ (f.width - 1) := by
    rw [← Nat.pow_succ', Nat.succ_eq_add_one, Nat.sub_add_cancel (by have := hf.p; unfold Fmt.width; omega)]
  unfold Fmt.pack Fmt.signBit
  cases s
  · rw [Bool.toNat_false]
    omega
  · rw [Bool.toNat_true]
    omega

theorem Fmt.finite_pack (hf : f.Roomy) (he : ex < 2 ^ f.ew - 1) (hm : man < 2 ^ (f.p - 1)) : f.finite (f.pack s ex man) = true := by
  rw [Fmt.finite_iff, Fmt.ex_pack hf (by omega) hm]
  omega

theorem Fmt.value_pack (hf : f.Roomy) (he : ex < 2 ^ f.ew - 1) (hm : man < 2 ^ (f.p - 1)) :
    (f.value (f.pack s ex man) : ℝ) = sgnR s * ((if ex = 0 then man else (man + 2 ^ (f.p - 1)) * 2 ^ (ex - 1) : Nat) * f.least) := by
  rw [Fmt.value_eq (Fmt.finite_pack hf he hm), Fmt.units, Fmt.isNeg_pack hf (by omega) hm, Fmt.ex_pack hf (by omega) hm, Fmt.man_pack hf hm]

theorem Fmt.pack_even (hf : f.Roomy) (h : man % 2 = 0) : f.pack s ex man % 2 = 0 := by
  rw [Fmt.pack, hf.signBit, ← Nat.add_assoc, ← Nat.add_mul, Nat.add_mod, Nat.mul_mod, hf.man_even, h, Nat.mul_zero]

theorem Fmt.infBits_eq (f : Fmt) (s : Bool) : f.infBits s = f.pack s (2 ^ f.ew - 1) 0 := rfl

theorem Fmt.maxBits_eq (hf : f.Roomy) (s : Bool) : f.maxBits s = f.pack s (2 ^ f.ew - 2) (2 ^ (f.p - 1) - 1) := by
  have := hf.ew_pow
  have hpos := Nat.two_pow_pos (f.p - 1)
  rw [Fmt.maxBits, Fmt.infBits, Fmt.pack, show 2 ^ f.ew - 1 = (2 ^ f.ew - 2) + 1 by omega, Nat.add_mul]
  omega

end

/-- What rounding makes of a significand n at the step k: its bits below the sign. -/
def Fmt.low (f : Fmt) (n k : Nat) : Nat :=
  if n < 2 ^ (f.p - 1) then n else ((if n = 2 ^ f.p then k + 1 else k) + 1) * 2 ^ (f.p - 1) + (if n = 2 ^ f.p then 0 else n - 2 ^ (f.p - 1))

/-- They are the fields of the number n at that step. -/
theorem Fmt.low_spec (hf : f.Roomy) {n k : Nat} (hn : n ≤ 2 ^ f.p) (hk : k = 0 ∨ 2 ^ (f.p - 1) ≤ n) (hlt : n * 2 ^ k < 2 ^ (2 ^ f.ew - 3 + f.p)) :
    ∃ ex man, f.low n k = ex * 2 ^ (f.p - 1) + man ∧ ex < 2 ^ f.ew - 1 ∧ man < 2 ^ (f.p - 1) ∧
      (if ex = 0 then man else (man + 2 ^ (f.p - 1)) * 2 ^ (ex - 1)) = n * 2 ^ k ∧ (n % 2 = 0 → man % 2 = 0) := by
  have hew := hf.ew_pow
  have hpow := hf.p_pow
  have heven := hf.man_even
  have hpos := Nat.two_pow_pos (f.p - 1)
  have hp := hf.p
  unfold Fmt.low
  by_cases hs : n < 2 ^ (f.p - 1)
  · obtain rfl : k = 0 := hk.resolve_right (by omega)
    exact ⟨0, n, by simp [hs], by omega, hs, by simp, id⟩
  have hstep {m : Nat} (hm : 2 ^ m ≤ n) : m + k < 2 ^ f.ew - 3 + f.p :=
    (Nat.pow_lt_pow_iff_right (a := 2) (by decide)).1 (by
      rw [Nat.pow_add]
      exact lt_of_le_of_lt (Nat.mul_le_mul_right _ hm) hlt)
  rw [if_neg hs]
  by_cases ht : n = 2 ^ f.p
  · have := hstep ht.ge
    refine ⟨k + 2, 0, by simp [ht], by omega, hpos, ?_, fun _ => rfl⟩
    rw [if_neg (by omega), Nat.zero_add, ht, hpow, show k + 2 - 1 = k + 1 by omega, Nat.pow_succ]
    ring
  · have := hstep (Nat.le_of_not_lt hs)
    refine ⟨k + 1, n - 2 ^ (f.p - 1), by simp [ht], by omega, by omega, ?_, fun h => by omega⟩
    rw [if_neg (by omega), Nat.sub_add_cancel (by omega), Nat.add_sub_cancel]

end Sys2Proof.Machine
end

section
/-! SUPPORT. Rounding over the real numbers (R88): between two neighbours of a grid, the direction picks the right one. -/

namespace Sys2Proof.Machine

/-! ### Neighbours -/

section
variable {lo hi X y r : ℝ}

/-- A number with lo ≤ X < hi between two neighbours of a grid: the neighbour that a direction picks for the magnitude X. -/
structure Picks (rm : Nat) (s odd : Bool) (lo hi X r : ℝ) : Prop where
  lo_nonneg : 0 ≤ lo
  le : lo ≤ X
  lt : X < hi
  pos : 0 < X
  eq : r = if roundUp rm s odd (cmp X ((lo + hi) / 2)) (decide (X = lo)) then hi else lo

/-- The neighbour picked is X itself just where X is on the grid. -/
theorem Picks.eq_iff {rm : Nat} {s odd : Bool} (h : Picks rm s odd lo hi X r) : r = X ↔ X = lo := by
  have hr := h.eq
  constructor
  · rintro rfl
    split at hr
    · exact absurd hr h.lt.ne
    · exact hr
  · intro hX
    rw [decide_eq_true hX] at hr
    exact hr.trans hX.symm

/-- The distance of a number of the grid from one between neighbours. -/
theorem dist_of_gap (hlo : lo ≤ X) (hhi : X < hi) (hX : 0 < X) (hy : |y| ≤ lo ∨ hi ≤ |y|) :
    (X - lo ≤ |y - X| ∧ |y| ≤ lo ∧ (|y - X| = X - lo → y = lo)) ∨ (hi - X ≤ |y - X| ∧ X < |y| ∧ (|y - X| = hi - X → y = hi)) := by
  rcases hy with h | h
  · have hle : y ≤ lo := (le_abs_self y).trans h
    rw [abs_sub_comm, abs_of_nonneg (by linarith)]
    exact .inl ⟨by linarith, h, fun e => by linarith⟩
  · right
    rcases le_abs'.1 h with h' | h'
    · rw [abs_sub_comm, abs_of_nonneg (by linarith), abs_of_nonpos (by linarith)]
      exact ⟨by linarith, by linarith, fun e => by linarith⟩
    · rw [abs_of_nonneg (by linarith), abs_of_nonneg (by linarith)]
      exact ⟨by linarith, by linarith, fun e => by linarith⟩

variable {s odd : Bool}

/-- To nearest, a tie to the even neighbour (1) or to the upper one (2). -/
theorem Picks.nearer {rm : Nat} (h : Picks rm s odd lo hi X r) (hrm : rm = 1 ∨ rm = 2) :
    r = lo ∧ (X - lo < hi - X ∨ X - lo = hi - X ∧ rm = 1 ∧ odd = false) ∨ r = hi ∧ (hi - X < X - lo ∨ hi - X = X - lo ∧ (rm = 1 → odd = true)) := by
  have hr := h.eq
  have hlt := h.lt
  rcases lt_trichotomy X ((lo + hi) / 2) with hm | hm | hm
  · rw [(cmp_eq_lt_iff _ _).2 hm] at hr
    refine .inl ⟨?_, .inl (by linarith)⟩
    rcases hrm with rfl | rfl <;> simpa [roundUp] using hr
  · have hne : X ≠ lo := by linarith
    rw [(cmp_eq_eq_iff _ _).2 hm, decide_eq_false hne] at hr
    rcases hrm with rfl | rfl
    · cases odd
      · exact .inl ⟨by simpa [roundUp] using hr, .inr ⟨by linarith, rfl, rfl⟩⟩
      · exact .inr ⟨by simpa [roundUp] using hr, .inr ⟨by linarith, fun _ => rfl⟩⟩
    · exact .inr ⟨by simpa [roundUp] using hr, .inr ⟨by linarith, nofun⟩⟩
  · have hne : X ≠ lo := by linarith
    rw [(cmp_eq_gt_iff _ _).2 hm, decide_eq_false hne] at hr
    refine .inr ⟨?_, .inl (by linarith)⟩
    rcases hrm with rfl | rfl <;> simpa [roundUp] using hr

theorem Picks.nearest {rm : Nat} (h : Picks rm s odd lo hi X r) (hrm : rm = 1 ∨ rm = 2) (hy : |y| ≤ lo ∨ hi ≤ |y|) :
    |r - X| ≤ |y - X| ∧ (|r - X| = |y - X| → y ≠ r → (rm = 1 → r = lo ∧ odd = false ∨ r = hi ∧ odd = true) ∧ (rm = 2 → |y| ≤ |r|)) := by
  have hle := h.le
  have hlt := h.lt
  have hlo : |lo - X| = X - lo := by rw [abs_sub_comm, abs_of_nonneg (by linarith)]
  have hhi : |hi - X| = hi - X := abs_of_nonneg (by linarith)
  rcases h.nearer hrm with ⟨rfl, hd⟩ | ⟨rfl, hd⟩
  · rw [hlo]
    rcases dist_of_gap hle hlt h.pos hy with ⟨hyd, -, hyr⟩ | ⟨hyd, -, -⟩
    · exact ⟨hyd, fun e hne => absurd (hyr e.symm) hne⟩
    · refine ⟨by rcases hd with hd | hd <;> linarith, fun e _ => ?_⟩
      rcases hd with hd | ⟨-, rfl, ho⟩
      · linarith
      · exact ⟨fun _ => .inl ⟨rfl, ho⟩, nofun⟩
  · rw [hhi]
    rcases dist_of_gap hle hlt h.pos hy with ⟨hyd, hyl, -⟩ | ⟨hyd, -, hyr⟩
    · refine ⟨by rcases hd with hd | hd <;> linarith, fun e _ => ?_⟩
      rcases hd with hd | ⟨-, ho⟩
      · linarith
      · exact ⟨fun hrm => .inr ⟨rfl, ho hrm⟩, fun _ => hyl.trans ((hle.trans hlt.le).trans (le_abs_self r))⟩
    · exact ⟨hyd, fun e hne => absurd (hyr e.symm) hne⟩

/-- Downwards in magnitude. -/
theorem Picks.below {rm : Nat} (h : Picks rm s odd lo hi X r) (hrm : rm = 3 ∨ rm = 4 ∧ s = false ∨ rm = 5 ∧ s = true) : r = lo := by
  have hr := h.eq
  rcases hrm with rfl | ⟨rfl, rfl⟩ | ⟨rfl, rfl⟩ <;> simpa [roundUp] using hr

theorem Picks.le_of_below {rm : Nat} (h : Picks rm s odd lo hi X r) (hy : |y| ≤ lo ∨ hi ≤ |y|) (hyX : y ≤ X) : y ≤ lo := by
  rcases hy with hy | hy
  · exact (le_abs_self y).trans hy
  · have := h.lt
    have := h.lo_nonneg
    rcases le_abs'.1 hy with hy | hy <;> linarith

/-- Upwards in magnitude. -/
theorem Picks.above {rm : Nat} (h : Picks rm s odd lo hi X r) (hrm : rm = 4 ∧ s = true ∨ rm = 5 ∧ s = false) : X = lo ∧ r = lo ∨ lo < X ∧ r = hi := by
  have hr := h.eq
  rcases h.le.eq_or_lt with hX | hX
  · rw [decide_eq_true hX.symm] at hr
    exact .inl ⟨hX.symm, hr⟩
  · rw [decide_eq_false hX.ne'] at hr
    refine .inr ⟨hX, ?_⟩
    rcases hrm with ⟨rfl, rfl⟩ | ⟨rfl, rfl⟩ <;> simpa [roundUp] using hr

theorem Picks.le_above {rm : Nat} (h : Picks rm s odd lo hi X r) (hrm : rm = 4 ∧ s = true ∨ rm = 5 ∧ s = false) :
    X ≤ r ∧ ((|y| ≤ lo ∨ hi ≤ |y|) → X ≤ y → r ≤ y) := by
  have hlt := h.lt
  have hpos := h.pos
  rcases h.above hrm with ⟨rfl, rfl⟩ | ⟨hX, rfl⟩
  · exact ⟨le_rfl, fun _ hy => hy⟩
  · refine ⟨hlt.le, fun hy hXy => ?_⟩
    rw [abs_of_nonneg (hpos.le.trans hXy)] at hy
    rcases hy with hy | hy <;> linarith

theorem sgnR_mul_self (s : Bool) : sgnR s * sgnR s = 1 := by cases s <;> simp [sgnR]
theorem sgnR_ne_zero (s : Bool) : sgnR s ≠ 0 := by cases s <;> simp [sgnR]
theorem abs_sgnR_mul (s : Bool) (a : ℝ) : |sgnR s * a| = |a| := by cases s <;> simp [sgnR]

/-- A magnitude rounded with its sign, against any number of the grid. -/
theorem Picks.rounded {rm : Nat} {even : Prop} (h : Picks rm s odd lo hi X r) (heven : r = lo ∧ odd = false ∨ r = hi ∧ odd = true → even)
    (hy : |y| ≤ lo ∨ hi ≤ |y|) : let ρ := sgnR s * r
    let z := sgnR s * X
    (rm = 1 → |ρ - z| ≤ |y - z| ∧ (|ρ - z| = |y - z| → y ≠ ρ → even)) ∧ (rm = 2 → |ρ - z| ≤ |y - z| ∧ (|ρ - z| = |y - z| → |y| ≤ |ρ|)) ∧
      (rm = 3 → 0 ≤ ρ * z ∧ |ρ| ≤ |z| ∧ (0 ≤ y * z → |y| ≤ |z| → |y| ≤ |ρ|)) ∧ (rm = 4 → ρ ≤ z ∧ (y ≤ z → y ≤ ρ)) ∧
      (rm = 5 → z ≤ ρ ∧ (z ≤ y → ρ ≤ y)) := by
  intro ρ z
  -- y as a magnitude on the side of X
  obtain ⟨y, rfl⟩ : ∃ y', sgnR s * y' = y := ⟨sgnR s * y, by rw [← mul_assoc, sgnR_mul_self, one_mul]⟩
  rw [abs_sgnR_mul] at hy
  have hdist (a : ℝ) : |sgnR s * a - z| = |a - X| := by rw [← mul_sub, abs_sgnR_mul]
  have hprod (a : ℝ) : sgnR s * a * z = a * X := by
    rw [mul_mul_mul_comm, sgnR_mul_self, one_mul]
  have hne : sgnR s * y ≠ ρ → y ≠ r := fun hne e => hne (e ▸ rfl)
  simp only [ρ, hdist, hprod, abs_sgnR_mul, z] at hne ⊢
  refine ⟨fun hrm => ?_, fun hrm => ?_, fun hrm => ?_, fun hrm => ?_, fun hrm => ?_⟩
  · obtain ⟨hd, he⟩ := h.nearest (.inl hrm) hy
    exact ⟨hd, fun e hn => heven ((he e (hne hn)).1 hrm)⟩
  · obtain ⟨hd, he⟩ := h.nearest (.inr hrm) hy
    refine ⟨hd, fun e => ?_⟩
    by_cases hyr : y = r
    · rw [hyr]
    · exact (he e hyr).2 hrm
  · obtain rfl := h.below (.inl hrm)
    rw [abs_of_nonneg h.lo_nonneg, abs_of_pos h.pos]
    refine ⟨mul_nonneg h.lo_nonneg h.pos.le, h.le, fun hs hle => ?_⟩
    have hy0 : 0 ≤ y := nonneg_of_mul_nonneg_left hs h.pos
    rw [abs_of_nonneg hy0] at hle ⊢
    exact h.le_of_below hy hle
  · cases s
    · obtain rfl := h.below (.inr (.inl ⟨hrm, rfl⟩))
      simpa [sgnR] using ⟨h.le, h.le_of_below hy⟩
    · simpa [sgnR] using ⟨(h.le_above (y := y) (.inl ⟨hrm, rfl⟩)).1, (h.le_above (.inl ⟨hrm, rfl⟩)).2 hy⟩
  · cases s
    · simpa [sgnR] using ⟨(h.le_above (y := y) (.inr ⟨hrm, rfl⟩)).1, (h.le_above (.inr ⟨hrm, rfl⟩)).2 hy⟩
    · obtain rfl := h.below (.inr (.inr ⟨hrm, rfl⟩))
      simpa [sgnR] using ⟨h.le, h.le_of_below hy⟩

end

end Sys2Proof.Machine
end

section
/-! SUPPORT. The rounding of an exact value to a format (R88–R90) is correct rounding over the real numbers. -/

namespace Sys2Proof.Machine

variable {f : Fmt} {rm m : Nat} {s st ufEn : Bool} {e q : Int} {X : ℝ}

/-! ### Rounding at a step -/

/-- A significand, exact or with something positive below its last bit, stands for X. -/
structure StandsFor (m : Nat) (e : Int) (st : Bool) (X : ℝ) : Prop where
  pos : 0 < m
  le : m * 2 ^ e ≤ X
  lt : X < (m + 1) * 2 ^ e
  exact_iff : X = m * 2 ^ e ↔ st = false

theorem StandsFor.of_exact (hm : 0 < m) (e : Int) : StandsFor m e false (m * 2 ^ e) :=
  ⟨hm, le_rfl, by nlinarith [zpow_pos (two_pos (α := ℝ)) e], by simp⟩

theorem StandsFor.real_pos (h : StandsFor m e st X) : 0 < X := lt_of_lt_of_le (mul_pos (Nat.cast_pos.2 h.pos) (zpow_pos two_pos e)) h.le

/-- What rounding at a step says of X: it picks a neighbour, and whether that is exact. -/
def PicksAt (rm : Nat) (s : Bool) (q : Int) (X : ℝ) (n : Nat × Bool) : Prop :=
  ∃ v : Nat, Picks rm s (v % 2 == 1) (v * 2 ^ q) ((v + 1) * 2 ^ q) X (n.1 * 2 ^ q) ∧ (n.1 = v ∨ n.1 = v + 1) ∧ (n.2 = true ↔ X = v * 2 ^ q)

theorem roundAt_fine (rm : Nat) (s : Bool) (m : Nat) (h : q ≤ e) : roundAt rm s m e q false = (m * 2 ^ (e - q).toNat, true) := by
  unfold roundAt
  rw [if_pos h]
  rfl

/-- A step no coarser than the significand leaves nothing to round. -/
theorem picksAt_fine (h : StandsFor m e false X) (hqe : q ≤ e) (rm : Nat) (s : Bool) : PicksAt rm s q X (roundAt rm s m e q false) := by
  have hX : X = (m * 2 ^ (e - q).toNat : Nat) * 2 ^ q := by
    rw [h.exact_iff.2 rfl, Nat.cast_mul, mul_assoc, Nat.cast_pow, Nat.cast_ofNat, ← zpow_natCast, ← zpow_add₀ two_ne_zero,
      Int.toNat_of_nonneg (by omega), sub_add_cancel]
  rw [roundAt_fine rm s m hqe]
  refine ⟨m * 2 ^ (e - q).toNat, ⟨by positivity, hX.ge, ?_, h.real_pos, ?_⟩, .inl rfl, fun _ => hX, fun _ => rfl⟩
  · rw [hX]
    exact mul_lt_mul_of_pos_right (lt_add_one _) (zpow_pos two_pos q)
  · rw [decide_eq_true hX]
    rfl

/-- How a remainder, and what lies below it, compare with half a step. -/
def halfCmp (r h : Nat) (st : Bool) : Ordering := if r = h then (if st then .gt else .eq) else if r < h then .lt else .gt

theorem roundAt_coarse (rm : Nat) (s : Bool) (m : Nat) (e : Int) (k : Nat) (st : Bool) : let v := m / 2 ^ (k + 1)
    let r := m % 2 ^ (k + 1)
    roundAt rm s m e (e + (k + 1 : Nat)) st =
      (if roundUp rm s (v % 2 == 1) (halfCmp r (2 ^ k) st) (decide (r = 0) && !st) then v + 1 else v, decide (r = 0) && !st) := by
  unfold roundAt halfCmp
  rw [if_neg (by omega), add_sub_cancel_left, Int.toNat_natCast]
  rfl

theorem picksAt_coarse (h : StandsFor m e st X) (rm : Nat) (s : Bool) (k : Nat) :
    PicksAt rm s (e + (k + 1 : Nat)) X (roundAt rm s m e (e + (k + 1 : Nat)) st) := by
  have hE : (0 : ℝ) < 2 ^ e := zpow_pos two_pos e
  have hX := h.real_pos
  have hstep : (2 : ℝ) ^ (e + (k + 1 : Nat)) = 2 * 2 ^ k * 2 ^ e := by
    rw [zpow_add₀ two_ne_zero, zpow_natCast, pow_succ']
    ring
  rw [roundAt_coarse]
  set v := m / 2 ^ (k + 1)
  set r := m % 2 ^ (k + 1)
  -- all in units of 2^e
  obtain ⟨Y, rfl⟩ : ∃ Y, Y * 2 ^ e = X := ⟨X / 2 ^ e, div_mul_cancel₀ _ hE.ne'⟩
  have hle : (m : ℝ) ≤ Y := le_of_mul_le_mul_right h.le hE
  have hlt : Y < m + 1 := lt_of_mul_lt_mul_right h.lt hE.le
  have hex : Y = m ↔ st = false := by rw [← h.exact_iff, mul_left_inj' hE.ne']
  have hsplit : (m : ℝ) = v * (2 * 2 ^ k) + r := by
    rw [← pow_succ']
    exact_mod_cast (Nat.div_add_mod' m (2 ^ (k + 1))).symm
  have hr : (r : ℝ) + 1 ≤ 2 * 2 ^ k := by
    rw [← pow_succ']
    exact_mod_cast Nat.succ_le_of_lt (Nat.mod_lt m (Nat.two_pow_pos (k + 1)))
  have hr0 : (0 : ℝ) ≤ r := Nat.cast_nonneg r
  have hcmp : cmp (Y * 2 ^ e) (((v : ℝ) * 2 ^ (e + (k + 1 : Nat)) + (v + 1) * 2 ^ (e + (k + 1 : Nat))) / 2) = halfCmp r (2 ^ k) st := by
    rw [hstep, show ((v : ℝ) * (2 * 2 ^ k * 2 ^ e) + (v + 1) * (2 * 2 ^ k * 2 ^ e)) / 2 = (v * (2 * 2 ^ k) + 2 ^ k) * 2 ^ e by ring, cmp_mul_pos_right hE]
    unfold halfCmp
    rcases lt_trichotomy r (2 ^ k) with hc | hc | hc
    · have : (r : ℝ) + 1 ≤ 2 ^ k := by exact_mod_cast hc
      rw [if_neg hc.ne, if_pos hc, cmp_eq_lt_iff]
      linarith
    · have : (r : ℝ) = 2 ^ k := by exact_mod_cast hc
      rw [if_pos hc]
      cases st
      · rw [(cmp_eq_eq_iff _ _).2 (by linarith [hex.2 rfl])]
        rfl
      · have hne : (m : ℝ) < Y := lt_of_le_of_ne hle fun e => absurd (hex.1 e.symm) (by decide)
        rw [(cmp_eq_gt_iff _ _).2 (by linarith)]
        rfl
    · have : (2 : ℝ) ^ k < r := by exact_mod_cast hc
      rw [if_neg hc.ne', if_neg hc.not_gt, cmp_eq_gt_iff]
      linarith
  have hexact : (decide (r = 0) && !st) = true ↔ Y * 2 ^ e = v * 2 ^ (e + (k + 1 : Nat)) := by
    rw [hstep, ← mul_assoc, mul_left_inj' hE.ne', Bool.and_eq_true, decide_eq_true_eq, Bool.not_eq_true', ← hex, ← Nat.cast_eq_zero (R := ℝ)]
    exact ⟨fun ⟨h1, h2⟩ => by linarith, fun h1 => ⟨by linarith, by linarith⟩⟩
  refine ⟨v, ⟨by positivity, ?_, ?_, hX, ?_⟩, ?_, hexact⟩
  · rw [hstep, ← mul_assoc]
    exact mul_le_mul_of_nonneg_right (by linarith) hE.le
  · rw [hstep, ← mul_assoc]
    exact mul_lt_mul_of_pos_right (by linarith) hE
  · rw [hcmp, ← Bool.eq_iff_iff.2 (hexact.trans decide_eq_true_iff.symm), apply_ite Nat.cast, ite_mul, Nat.cast_succ]
  · split
    · exact .inr rfl
    · exact .inl rfl

/-- Rounding at a step picks a neighbour, and says whether that is exact. -/
theorem roundAt_picks (h : StandsFor m e st X) (hq : st = true → e < q) (rm : Nat) (s : Bool) : PicksAt rm s q X (roundAt rm s m e q st) := by
  rcases le_or_gt q e with hqe | hqe
  · obtain rfl : st = false := Bool.eq_false_of_not_eq_true fun hst => absurd (hq hst) (not_lt.2 hqe)
    exact picksAt_fine h hqe rm s
  · obtain ⟨k, rfl⟩ : ∃ k : Nat, q = e + (k + 1 : Nat) := ⟨(q - e - 1).toNat, by omega⟩
    exact picksAt_coarse h rm s k

/-! ### Rounding to a format -/

/-- What R88 says of a result for the exact real number. -/
def Fmt.Right (f : Fmt) (rm : Nat) (z : ℝ) (q : FRes) : Prop :=
  q.bits < 2 ^ f.width ∧ (f.finite q.bits = true → f.roundedTo rm z q.bits) ∧
  (q.fl.nx = false ↔ f.finite q.bits = true ∧ (f.value q.bits : ℝ) = z) ∧ q.fl.nv = false ∧ q.fl.dz = false

/-- The step at which a significand is rounded. -/
def Fmt.stepOf (f : Fmt) (m : Nat) (e : Int) : Int := max (e + (bitLen m : Int) - f.p) f.qmin

/-- A result beyond the finite numbers, and any other. -/
theorem Fmt.round_eq (f : Fmt) (rm : Nat) (s : Bool) (ufEn : Bool) {m : Nat} (hm : 0 < m) (e : Int) (st : Bool) {q : Int} (hq : q = f.stepOf m e)
    {n : Nat × Bool} (hn : n = roundAt rm s m e q st) {k : Nat} (hk : k = (q - f.qmin).toNat) :
    ∃ uf sub, f.round rm false ufEn s m e st =
      if 2 ^ (2 ^ f.ew - 3 + f.p) ≤ n.1 * 2 ^ k then
        { bits := if rm = 1 ∨ rm = 2 ∨ (rm = 4 ∧ s) ∨ (rm = 5 ∧ !s) then f.infBits s else f.maxBits s, fl := { ovf := true, nx := true }, sub := sub }
      else { bits := f.signBit s + f.low n.1 k, fl := { nx := !n.2, uf := uf }, sub := sub } := by
  have hmax : max (e + (bitLen m : Int) - f.p) f.qmin = q := hq.symm
  have hnext : ((if n.1 = 2 ^ f.p then q + 1 else q) - f.qmin).toNat = if n.1 = 2 ^ f.p then k + 1 else k := by
    have : f.qmin ≤ q := hq ▸ le_max_right _ _
    split
    · omega
    · exact hk.symm
  unfold Fmt.round Fmt.low
  rw [if_neg (by simp [hm.ne'])]
  simp only [Bool.false_eq_true, and_false, if_false, decide_eq_true_eq, ge_iff_le, hmax, ← hn, hnext, ← hk]
  exact ⟨_, _, rfl⟩

/-! ### The step and the significand at it -/

theorem pow_bitLen_le (hm : 0 < m) : 2 ^ (bitLen m - 1) ≤ m := by
  rw [bitLen, if_neg hm.ne', Nat.add_sub_cancel]
  exact Nat.log2_self_le hm.ne'

theorem lt_pow_bitLen (hm : 0 < m) : m < 2 ^ bitLen m := by
  rw [bitLen, if_neg hm.ne']
  exact Nat.lt_log2_self

theorem bitLen_pos (hm : 0 < m) : 0 < bitLen m := by
  rw [bitLen, if_neg hm.ne']
  exact Nat.succ_pos _

/-- The magnitude is below the power of two above its significand, and not below the one under it. -/
theorem StandsFor.lt_pow (h : StandsFor m e st X) : X < 2 ^ (e + bitLen m) := by
  have hb : (m : ℝ) + 1 ≤ 2 ^ bitLen m := by exact_mod_cast lt_pow_bitLen h.pos
  refine lt_of_lt_of_le h.lt ?_
  rw [add_comm e, zpow_add₀ two_ne_zero, zpow_natCast]
  exact mul_le_mul_of_nonneg_right hb (zpow_pos two_pos e).le

theorem StandsFor.pow_le (h : StandsFor m e st X) : 2 ^ (e + bitLen m - 1) ≤ X := by
  have hb : (2 : ℝ) ^ (bitLen m - 1) ≤ m := by exact_mod_cast pow_bitLen_le h.pos
  have := bitLen_pos h.pos
  refine le_trans ?_ h.le
  rw [show e + (bitLen m : Int) - 1 = ((bitLen m - 1 : Nat) : Int) + e by omega, zpow_add₀ two_ne_zero, zpow_natCast]
  exact mul_le_mul_of_nonneg_right hb (zpow_pos two_pos e).le

theorem Fmt.step_eq (f : Fmt) (m : Nat) (e : Int) : (2 : ℝ) ^ f.stepOf m e = 2 ^ (f.stepOf m e - f.qmin).toNat * f.least := by
  have : f.qmin ≤ f.stepOf m e := le_max_right _ _
  rw [Fmt.least, ← zpow_natCast, ← zpow_add₀ two_ne_zero, Int.toNat_of_nonneg (by omega), sub_add_cancel]

/-- The significand at its step has at most p bits. -/
theorem StandsFor.significand_lt (h : StandsFor m e st X) {v : Nat} (hv : v * 2 ^ f.stepOf m e ≤ X) : v < 2 ^ f.p := by
  have hpow : X < 2 ^ f.p * 2 ^ f.stepOf m e := by
    refine lt_of_lt_of_le h.lt_pow ?_
    rw [← zpow_natCast, ← zpow_add₀ two_ne_zero]
    exact zpow_le_zpow_right₀ one_le_two (by have : e + (bitLen m : Int) - f.p ≤ f.stepOf m e := le_max_left _ _; omega)
  exact_mod_cast lt_of_mul_lt_mul_right (lt_of_le_of_lt hv hpow) (zpow_pos two_pos _).le

/-- Above the least step it has p bits. -/
theorem StandsFor.le_significand (h : StandsFor m e st X) {v : Nat} (hv : X < (v + 1) * 2 ^ f.stepOf m e) (hp : 1 ≤ f.p) :
    (f.stepOf m e - f.qmin).toNat = 0 ∨ 2 ^ (f.p - 1) ≤ v := by
  rcases le_total (e + (bitLen m : Int) - f.p) f.qmin with hq | hq
  · left
    rw [Fmt.stepOf, max_eq_right hq, sub_self, Int.toNat_zero]
  · right
    have hpow : 2 ^ (f.p - 1) * 2 ^ f.stepOf m e ≤ X := by
      refine le_trans (le_of_eq ?_) h.pow_le
      rw [Fmt.stepOf, max_eq_left hq, ← zpow_natCast, ← zpow_add₀ two_ne_zero]
      congr 1
      omega
    exact Nat.lt_succ_iff.1 (by exact_mod_cast lt_of_mul_lt_mul_right (lt_of_le_of_lt hpow hv) (zpow_pos two_pos _).le)

/-! ### Correct rounding -/

/-- Every finite number lies on one side of the neighbours. -/
theorem Fmt.abs_value_gap {c v k : Nat} (hc : f.finite c = true) (h : k = 0 ∨ 2 ^ (f.p - 1) ≤ v) :
    |(f.value c : ℝ)| ≤ v * (2 ^ k * f.least) ∨ (v + 1) * (2 ^ k * f.least) ≤ |(f.value c : ℝ)| := by
  have hle {a b : Nat} (hab : a ≤ b) : (a : ℝ) * f.least ≤ b * f.least := mul_le_mul_of_nonneg_right (Nat.cast_le.2 hab) f.least_pos.le
  rw [Fmt.value_eq hc, abs_sgnR_mul, abs_of_nonneg (mul_nonneg (Nat.cast_nonneg _) f.least_pos.le), ← mul_assoc, ← mul_assoc]
  rcases f.units_gap c h with hu | hu
  · left
    exact_mod_cast hle hu
  · right
    exact_mod_cast hle hu

/-- The greatest finite number. -/
noncomputable def Fmt.greatest (f : Fmt) : ℝ := ((2 ^ f.p - 1) * 2 ^ (2 ^ f.ew - 3) : Nat) * f.least

theorem Fmt.greatest_nonneg (f : Fmt) : 0 ≤ f.greatest := mul_nonneg (Nat.cast_nonneg _) f.least_pos.le

theorem Fmt.abs_value_le_greatest (hf : f.Roomy) {c : Nat} (hc : f.finite c = true) : |(f.value c : ℝ)| ≤ f.greatest := by
  rw [Fmt.value_eq hc, abs_sgnR_mul, abs_of_nonneg (mul_nonneg (Nat.cast_nonneg _) f.least_pos.le)]
  exact mul_le_mul_of_nonneg_right (Nat.cast_le.2 (Fmt.units_le_max hf hc)) f.least_pos.le

theorem Fmt.greatest_lt (f : Fmt) : f.greatest < 2 ^ (2 ^ f.ew - 3 + f.p) * f.least := by
  refine mul_lt_mul_of_pos_right ?_ f.least_pos
  have : (2 ^ f.p - 1) * 2 ^ (2 ^ f.ew - 3) < 2 ^ (2 ^ f.ew - 3 + f.p) := by
    rw [Nat.pow_add, Nat.mul_comm (2 ^ (2 ^ f.ew - 3))]
    exact Nat.mul_lt_mul_of_pos_right (Nat.sub_lt (Nat.two_pow_pos _) one_pos) (Nat.two_pow_pos _)
  exact_mod_cast this

theorem Fmt.value_maxBits (hf : f.Roomy) (s : Bool) : f.finite (f.maxBits s) = true ∧ (f.value (f.maxBits s) : ℝ) = sgnR s * f.greatest := by
  have hew := hf.ew_pow
  have hman : 2 ^ (f.p - 1) - 1 < 2 ^ (f.p - 1) := Nat.sub_lt (Nat.two_pow_pos _) one_pos
  rw [Fmt.maxBits_eq hf]
  refine ⟨Fmt.finite_pack hf (by omega) hman, ?_⟩
  rw [Fmt.value_pack hf (by omega) hman, if_neg (by omega), Fmt.greatest, hf.p_pow, show 2 ^ f.ew - 2 - 1 = 2 ^ f.ew - 3 by omega,
    show 2 ^ (f.p - 1) - 1 + 2 ^ (f.p - 1) = 2 * 2 ^ (f.p - 1) - 1 by omega]

/-- Bits whose magnitude is the neighbour that a direction picks are rounded in that direction. -/
theorem Picks.roundedTo {odd : Bool} {lo hi r : ℝ} {b : Nat} (h : Picks rm s odd lo hi X r) (hb : (f.value b : ℝ) = sgnR s * r)
    (heven : r = lo ∧ odd = false ∨ r = hi ∧ odd = true → b % 2 = 0)
    (hgap : ∀ c, f.finite c = true → |(f.value c : ℝ)| ≤ lo ∨ hi ≤ |(f.value c : ℝ)|) : f.roundedTo rm (sgnR s * X) b := by
  unfold Fmt.roundedTo
  rw [hb]
  exact fun c _ hc => h.rounded heven (hgap c hc)

theorem Fmt.not_finite_infBits (hf : f.Roomy) (s : Bool) : f.finite (f.infBits s) = false := by
  rw [Bool.eq_false_iff, Ne, Fmt.finite_iff, Fmt.infBits_eq, Fmt.ex_pack hf (Nat.sub_lt (Nat.two_pow_pos _) one_pos) (Nat.two_pow_pos _)]
  exact not_not.2 rfl

/-- A result beyond the finite numbers: infinity, or the greatest of them in a direction that does not pass it. -/
theorem Fmt.overflow_right (hf : f.Roomy) (hrm : 1 ≤ rm ∧ rm ≤ 5) (hX : f.greatest < X) (sub : Bool) : f.Right rm (sgnR s * X)
    { bits := if rm = 1 ∨ rm = 2 ∨ (rm = 4 ∧ s) ∨ (rm = 5 ∧ !s) then f.infBits s else f.maxBits s, fl := { ovf := true, nx := true }, sub := sub } := by
  have hew := hf.ew_pow
  split
  case isTrue h =>
    have hinf := Fmt.not_finite_infBits hf s
    refine ⟨?_, fun hfin => ?_, ⟨nofun, fun hfin => ?_⟩, rfl, rfl⟩
    · rw [Fmt.infBits_eq]
      exact Fmt.pack_lt hf (Nat.sub_lt (Nat.two_pow_pos _) one_pos) (Nat.two_pow_pos _)
    · exact absurd (hinf.symm.trans hfin) (by decide)
    · exact absurd (hinf.symm.trans hfin.1) (by decide)
  case isFalse h =>
    have hbelow : rm = 3 ∨ rm = 4 ∧ s = false ∨ rm = 5 ∧ s = true := by
      cases s <;> simp at h ⊢ <;> omega
    obtain ⟨hfin, hval⟩ := Fmt.value_maxBits hf s
    -- the numbers all lie below the greatest one, whatever stands above X
    have hpick : Picks rm s true f.greatest (X + 1) X f.greatest := by
      refine ⟨f.greatest_nonneg, hX.le, by linarith, f.greatest_nonneg.trans_lt hX, ?_⟩
      rcases hbelow with rfl | ⟨rfl, rfl⟩ | ⟨rfl, rfl⟩ <;> simp [roundUp]
    refine ⟨?_, fun _ => ?_, ⟨nofun, fun ⟨_, hz⟩ => ?_⟩, rfl, rfl⟩
    · rw [Fmt.maxBits_eq hf]
      exact Fmt.pack_lt hf (by omega) (Nat.sub_lt (Nat.two_pow_pos _) one_pos)
    · refine hpick.roundedTo hval (fun he => ?_) fun c hc => .inl (Fmt.abs_value_le_greatest hf hc)
      rcases he with ⟨-, he⟩ | ⟨he, -⟩
      · cases he
      · linarith
    · rw [hval] at hz
      have := mul_left_cancel₀ (sgnR_ne_zero s) hz
      linarith

/-- Rounding an exact value is correct rounding. -/
theorem Fmt.round_right (hf : f.Roomy) (hrm : 1 ≤ rm ∧ rm ≤ 5) (s ufEn : Bool) (h : StandsFor m e st X) (hst : st = true → f.p < bitLen m) :
    f.Right rm (sgnR s * X) (f.round rm false ufEn s m e st) := by
  have hp : 1 ≤ f.p := le_trans (by decide) hf.p
  have hstep : st = true → e < f.stepOf m e := fun hs => lt_of_lt_of_le (by have := hst hs; omega) (le_max_left _ _)
  obtain ⟨uf, sub, hround⟩ := f.round_eq rm s ufEn h.pos e st rfl rfl rfl
  obtain ⟨v, hpick, hn, hexact⟩ := roundAt_picks h hstep rm s
  rw [hround]
  have hv := h.significand_lt hpick.le
  have hk := h.le_significand hpick.lt hp
  rw [f.step_eq] at hpick hexact
  generalize roundAt rm s m e (f.stepOf m e) st = n at *
  generalize (f.stepOf m e - f.qmin).toNat = k at *
  have hstep0 : (0 : ℝ) < 2 ^ k * f.least := mul_pos (pow_pos two_pos k) f.least_pos
  split
  case isTrue hbig =>
    have hlast : f.greatest < n.1 * (2 ^ k * f.least) := by
      refine lt_of_lt_of_le f.greatest_lt ?_
      rw [← mul_assoc]
      exact mul_le_mul_of_nonneg_right (by exact_mod_cast hbig) f.least_pos.le
    refine Fmt.overflow_right hf hrm ?_ sub
    obtain ⟨hfin, hval⟩ := Fmt.value_maxBits hf false
    have hgap := Fmt.abs_value_gap hfin hk
    rw [hval, abs_sgnR_mul] at hgap
    rw [abs_of_nonneg f.greatest_nonneg] at hgap
    rcases hgap with hlo | hhi
    · refine lt_of_le_of_ne (hlo.trans hpick.le) fun hX => ?_
      have := hpick.eq_iff.2 (le_antisymm (hX ▸ hlo) hpick.le)
      linarith
    · have hle : (n.1 : ℝ) ≤ v + 1 := by exact_mod_cast (by omega : n.1 ≤ v + 1)
      have := mul_le_mul_of_nonneg_right hle hstep0.le
      linarith
  case isFalse hbig =>
    obtain ⟨ex, man, hlow, hex, hman, hunits, heven⟩ := Fmt.low_spec hf (n := n.1) (k := k) (by omega) (by omega) (by omega)
    have hval := Fmt.value_pack hf (s := s) hex hman
    rw [hunits, Nat.cast_mul, Nat.cast_pow, Nat.cast_ofNat, mul_assoc] at hval
    have hfin := Fmt.finite_pack hf (s := s) hex hman
    rw [hlow]
    refine ⟨Fmt.pack_lt hf (by omega) hman, fun _ => ?_, ?_, rfl, rfl⟩
    · refine hpick.roundedTo hval (fun he => Fmt.pack_even hf (heven ?_)) fun c hc => Fmt.abs_value_gap hc hk
      rcases he with ⟨he, ho⟩ | ⟨he, ho⟩
      · have : n.1 = v := by exact_mod_cast mul_right_cancel₀ hstep0.ne' he
        have := beq_eq_false_iff_ne.1 ho
        omega
      · have : n.1 = v + 1 := by exact_mod_cast mul_right_cancel₀ hstep0.ne' he
        have := beq_iff_eq.1 ho
        omega
    · refine Iff.trans ?_ (Iff.trans hexact (Iff.trans hpick.eq_iff.symm ?_))
      · cases n.2 <;> simp
      · rw [← mul_right_inj' (sgnR_ne_zero s), ← hval]
        exact ⟨fun hz => ⟨hfin, hz⟩, fun hz => hz.2⟩

end Sys2Proof.Machine
end

section
/-! SUPPORT. Sums, products and the fused forms (R92, R93) are correctly rounded. -/

namespace Sys2Proof.Machine

variable {f : Fmt} {rm b : Nat} {ufEn : Bool} {x y : Fp}

/-- What rounding depends on, without the flush of subnormals. -/
def plainEnv (rm : Nat) (ufEn : Bool) : FEnv := { rm := rm, ftz := false, ufEn := ufEn }

/-! ### Decoded numbers -/

/-- A decoded operand is a number. -/
inductive Fp.IsNum : Fp → Prop
  | zero (s : Bool) : IsNum (.zero s)
  | fin (s : Bool) {m : Nat} (hm : 0 < m) (e : Int) (sub : Bool) : IsNum (.fin s m e sub)

theorem Fmt.isNum_decode (h : f.finite b = true) : (f.decode false b).IsNum := by
  rw [Fmt.decode_eq, if_neg ((f.finite_iff b).1 h)]
  split_ifs with hx hm
  · exact .zero _
  · exact .fin _ (Nat.pos_of_ne_zero hm) _ _
  · exact .fin _ (Nat.add_pos_right _ (Nat.two_pow_pos _)) _ _

theorem Fp.IsNum.isNan (h : x.IsNum) : x.isNan = false := by cases h <;> rfl
theorem Fp.IsNum.neg (h : x.IsNum) : x.neg.IsNum := by
  cases h with
  | zero s => exact .zero _
  | fin s hm e sub => exact .fin _ hm e sub

theorem sgnR_not (s : Bool) : sgnR (!s) = -sgnR s := by cases s <;> simp [sgnR]
theorem sgnR_bne (s t : Bool) : sgnR (s != t) = sgnR s * sgnR t := by cases s <;> cases t <;> simp [sgnR]

theorem Fp.real_neg (h : x.IsNum) : x.neg.real = -x.real := by
  cases h with
  | zero s => simp [Fp.neg, Fp.real]
  | fin s hm e sub => simp [Fp.neg, Fp.real, sgnR_not]

theorem Fp.real_ite_neg (h : x.IsNum) (n : Bool) : (if n then x.neg else x).real = sgnR n * x.real := by
  cases n
  · simp [sgnR]
  · simp [sgnR, Fp.real_neg h]

theorem Fp.IsNum.ite_neg (h : x.IsNum) (n : Bool) : (if n then x.neg else x).IsNum := by
  cases n
  · exact h
  · exact h.neg

/-! ### Exact results -/

/-- A zero is what an exact result of 0 rounds to. -/
theorem Fmt.zero_right (hf : f.Roomy) (rm : Nat) (s : Bool) : f.Right rm 0 { bits := f.signBit s } := by
  have hew := hf.ew_pow
  have hP := Nat.two_pow_pos (f.p - 1)
  have hbits : f.signBit s = f.pack s 0 0 := by rw [Fmt.pack, Nat.zero_mul]; rfl
  have hval : (f.value (f.signBit s) : ℝ) = 0 := by
    rw [hbits, Fmt.value_pack hf (by omega) hP, if_pos rfl, Nat.cast_zero, zero_mul, mul_zero]
  have hfin : f.finite (f.signBit s) = true := by rw [hbits]; exact Fmt.finite_pack hf (by omega) hP
  refine ⟨?_, fun _ => ?_, ⟨fun _ => ⟨hfin, hval⟩, fun _ => rfl⟩, rfl, rfl⟩
  · rw [hbits]
    exact Fmt.pack_lt hf (by omega) hP
  · unfold Fmt.roundedTo
    simp only [hval]
    intro c _ _
    refine ⟨fun _ => ⟨by simp, fun h hne => ?_⟩, fun _ => ⟨by simp, fun h => ?_⟩, fun _ => by simp, fun _ => by simp, fun _ => by simp⟩
    · exact absurd (by simpa using h.symm) hne
    · simpa using h.symm.le

theorem Fmt.round_exact_right (hf : f.Roomy) (hrm : 1 ≤ rm ∧ rm ≤ 5) (s : Bool) {m : Nat} (hm : 0 < m) (e : Int) :
    f.Right rm (sgnR s * (m * 2 ^ e)) (f.round rm false ufEn s m e false) :=
  Fmt.round_right hf hrm s ufEn (.of_exact hm e) nofun

theorem Fmt.roundInt_right (hf : f.Roomy) (hrm : 1 ≤ rm ∧ rm ≤ 5) (i e : Int) (zs : Bool) :
    f.Right rm (i * 2 ^ e) (f.roundInt (plainEnv rm ufEn) i e zs) := by
  unfold Fmt.roundInt
  split
  case isTrue h =>
    rw [h, Int.cast_zero, zero_mul]
    exact Fmt.zero_right hf rm zs
  case isFalse h =>
    have hi : (i : ℝ) = sgnR (decide (i < 0)) * i.natAbs := by
      rw [Nat.cast_natAbs]
      rcases lt_or_gt_of_ne h with hn | hn
      · rw [decide_eq_true hn, abs_of_neg hn]
        simp [sgnR]
      · rw [decide_eq_false hn.not_gt, abs_of_pos hn]
        simp [sgnR]
    rw [hi, mul_assoc]
    exact Fmt.round_exact_right hf hrm _ (Int.natAbs_pos.2 h) e

/-- An operand at a scale no greater than its exponent. -/
theorem Fp.real_eq_scaled (h : x.IsNum) {e : Int} (he : e ≤ x.exp e) : x.real = x.scaled e * 2 ^ e := by
  cases h with
  | zero s => simp [Fp.real, Fp.scaled]
  | @fin s m hm g sub =>
    have he : e ≤ g := he
    have hz : (2 : ℝ) ^ g = 2 ^ (g - e).toNat * 2 ^ e := by
      rw [← zpow_natCast, ← zpow_add₀ two_ne_zero, Int.toNat_of_nonneg (by omega), sub_add_cancel]
    simp only [Fp.real, Fp.scaled, hz]
    cases s <;> simp [sgnR] <;> ring

theorem Fmt.sum_eq (hx : x.IsNum) (hy : y.IsNum) (v : FEnv) : ∃ zs, let e := min (x.exp (y.exp 0)) (y.exp (x.exp 0))
    f.sum v x y = f.roundInt v (x.scaled e + y.scaled e) e zs := by
  cases hx <;> cases hy <;> exact ⟨_, rfl⟩

/-- The scale of a sum is no greater than either exponent. -/
theorem Fp.le_exp_min (x y : Fp) (hx : x.IsNum) (hy : y.IsNum) : let e := min (x.exp (y.exp 0)) (y.exp (x.exp 0)); e ≤ x.exp e ∧ e ≤ y.exp e := by
  cases hx <;> cases hy <;> simp [Fp.exp]

theorem Fmt.sum_right (hf : f.Roomy) (hrm : 1 ≤ rm ∧ rm ≤ 5) (hx : x.IsNum) (hy : y.IsNum) :
    f.Right rm (x.real + y.real) (f.sum (plainEnv rm ufEn) x y) := by
  obtain ⟨zs, hsum⟩ := Fmt.sum_eq (f := f) hx hy (plainEnv rm ufEn)
  obtain ⟨hex, hey⟩ := Fp.le_exp_min x y hx hy
  rw [hsum, Fp.real_eq_scaled hx hex, Fp.real_eq_scaled hy hey, ← add_mul, ← Int.cast_add]
  exact Fmt.roundInt_right hf hrm _ _ zs

/-- An exact product. -/
theorem mulExact_spec (hx : x.IsNum) (hy : y.IsNum) : ∃ p, mulExact x y = some p ∧ p.IsNum ∧ p.real = x.real * y.real := by
  cases hx with
  | zero s => cases hy <;> exact ⟨_, rfl, .zero _, by simp [Fp.real]⟩
  | @fin s m hm e sub =>
    cases hy with
    | zero t => exact ⟨_, rfl, .zero _, by simp [Fp.real]⟩
    | @fin t n hn g sub' =>
      refine ⟨_, rfl, .fin _ (Nat.mul_pos hm hn) _ _, ?_⟩
      simp only [Fp.real, Fp.sign, sgnR_bne, Nat.cast_mul, zpow_add₀ (two_ne_zero (α := ℝ))]
      ring

/-! ### The operations -/

section
variable {a b c : Nat}

theorem Fmt.add_right (hf : f.Roomy) (hrm : 1 ≤ rm ∧ rm ≤ 5) (ha : f.finite a = true) (hb : f.finite b = true) (sub : Bool) :
    f.Right rm (f.value a + sgnR sub * f.value b) (f.add (plainEnv rm ufEn) sub a b) := by
  have hx := Fmt.isNum_decode ha
  have hy := Fmt.isNum_decode hb
  rw [Fmt.value_eq_real, Fmt.value_eq_real, ← Fp.real_ite_neg hy]
  show f.Right rm _ (if (f.decode false a).isNan || (f.decode false b).isNan then _ else _)
  rw [hx.isNan, hy.isNan, Bool.or_self, if_neg Bool.false_ne_true]
  exact Fmt.sum_right hf hrm hx (hy.ite_neg sub)

theorem Fmt.mul_right (hf : f.Roomy) (hrm : 1 ≤ rm ∧ rm ≤ 5) (ha : f.finite a = true) (hb : f.finite b = true) :
    f.Right rm (f.value a * f.value b) (f.mul (plainEnv rm ufEn) a b) := by
  have hx := Fmt.isNum_decode ha
  have hy := Fmt.isNum_decode hb
  obtain ⟨p, hp, hnum, hreal⟩ := mulExact_spec hx hy
  rw [Fmt.value_eq_real, Fmt.value_eq_real, ← hreal]
  unfold Fmt.mul
  dsimp only [plainEnv]
  rw [hx.isNan, hy.isNan, hp, Bool.or_self, if_neg Bool.false_ne_true]
  cases hnum with
  | zero s => exact Fmt.zero_right hf rm s
  | fin s hm e sub =>
    rw [Fp.real, mul_assoc]
    exact Fmt.round_exact_right hf hrm s hm e

theorem Fmt.fma_right (hf : f.Roomy) (hrm : 1 ≤ rm ∧ rm ≤ 5) (ha : f.finite a = true) (hb : f.finite b = true) (hc : f.finite c = true) (np nz : Bool) :
    f.Right rm (sgnR np * (f.value a * f.value b) + sgnR nz * f.value c) (f.fma (plainEnv rm ufEn) np nz a b c) := by
  have hx := Fmt.isNum_decode ha
  have hy := Fmt.isNum_decode hb
  have hz := Fmt.isNum_decode hc
  obtain ⟨p, hp, hnum, hreal⟩ := mulExact_spec hx hy
  rw [Fmt.value_eq_real, Fmt.value_eq_real, Fmt.value_eq_real, ← hreal, ← Fp.real_ite_neg hnum, ← Fp.real_ite_neg hz]
  unfold Fmt.fma
  dsimp only [plainEnv]
  simp only [hx.isNan, hy.isNan, hz.isNan, hp, Bool.or_self, Bool.false_eq_true, if_false]
  exact Fmt.sum_right hf hrm (hnum.ite_neg np) (hz.ite_neg nz)

end

end Sys2Proof.Machine
end

section
/-! SUPPORT. The pair of a step sequence, and the quotients of its full count of steps (R97–R100), which are correctly rounded. -/

namespace Sys2Proof.Machine

variable {p : Bool} {rm m n b : Nat} {ufEn : Bool}

/-! ### The pair (R98) -/

/-- What the words of a pair can hold. -/
structure FPair.Fits (q : FPair) : Prop where
  dig : q.dig < 2 ^ 56
  rem : q.rem < 2 ^ 64
  cnt : q.cnt < 64

theorem bool_eq_of_fld {n : Nat} {v : BitVec n} {i : Nat} {b : Bool} (h : fld v i 1 = b.toNat) : bitAt v i = b := by
  rw [fld_bit] at h
  revert h
  cases bitAt v i <;> cases b <;> decide

/-- The words of a pair hold it. -/
theorem FPair.dec_enc {q : FPair} (h : q.Fits) : FPair.dec q.enc.1 q.enc.2 = q := by
  obtain ⟨dig, rem, cnt, p, k⟩ := q
  obtain ⟨hdig, hrem, hcnt⟩ := h
  simp only at hdig hrem hcnt
  unfold FPair.dec FPair.enc
  simp only [FPair.mk.injEq]
  have hw : (BitVec.ofNat 56 dig ^^^ Config.digMask).toNat < 2 ^ 56 := BitVec.isLt _
  have hk := k.toNat_le
  have hp := p.toNat_le
  have hlo : ∀ w, w < 2 ^ 56 → (BitVec.ofNat 64 (k.toNat * 2 ^ 63 + p.toNat * 2 ^ 62 + cnt % 64 * 2 ^ 56 + w)).toNat =
      k.toNat * 2 ^ 63 + p.toNat * 2 ^ 62 + cnt * 2 ^ 56 + w := by
    intro w hw
    rw [BitVec.toNat_ofNat]
    omega
  have hlow : (BitVec.ofNat 64 (k.toNat * 2 ^ 63 + p.toNat * 2 ^ 62 + cnt % 64 * 2 ^ 56 + (BitVec.ofNat 56 dig ^^^ Config.digMask).toNat)).setWidth 56 =
      BitVec.ofNat 56 dig ^^^ Config.digMask := by
    apply BitVec.eq_of_toNat_eq
    rw [BitVec.toNat_setWidth, hlo _ hw]
    omega
  refine ⟨?_, ?_, ?_, ?_, ?_⟩
  · rw [hlow, BitVec.xor_assoc, BitVec.xor_self, BitVec.xor_zero, BitVec.toNat_ofNat, Nat.mod_eq_of_lt hdig]
  · rw [BitVec.xor_assoc, BitVec.xor_self, BitVec.xor_zero, BitVec.toNat_ofNat, Nat.mod_eq_of_lt hrem]
  · rw [fld, hlo _ hw]
    omega
  · refine bool_eq_of_fld ?_
    rw [fld, hlo _ hw]
    omega
  · refine bool_eq_of_fld ?_
    rw [fld, hlo _ hw]
    omega

/-- A sequence of steps whose pairs all fit leaves the pairs of the steps themselves. -/
theorem foldl_stored {st : FPair → FPair} {at_ : Nat → FPair → Prop} {k : Nat} (hfit : ∀ i q, i ≤ k → at_ i q → q.Fits)
    (hst : ∀ i q, i < k → at_ i q → at_ (i + 1) (st q)) {q : FPair} (h0 : at_ 0 q) :
    at_ k ((List.range k).foldl (fun q _ => FPair.dec (st q).enc.1 (st q).enc.2) q) := by
  suffices h : ∀ i, i ≤ k → at_ i ((List.range i).foldl (fun q _ => FPair.dec (st q).enc.1 (st q).enc.2) q) from h k le_rfl
  intro i
  induction i with
  | zero => exact fun _ => h0
  | succ i ih =>
    intro hi
    have hs := hst i _ hi (ih (by omega))
    rw [List.range_succ, List.foldl_append, List.foldl_cons, List.foldl_nil, FPair.dec_enc (hfit _ _ hi hs)]
    exact hs

/-! ### Normalised significands -/

theorem Fmt.norm_spec {f : Fmt} (hm : 0 < m) (hlt : m < 2 ^ f.p) (e : Int) : 2 ^ (f.p - 1) ≤ (f.norm m e).1 ∧ (f.norm m e).1 < 2 ^ f.p ∧
    ((f.norm m e).1 : ℝ) * 2 ^ (f.norm m e).2 = m * 2 ^ e := by
  have hb := bitLen_pos hm
  have hle : bitLen m - 1 < f.p := (Nat.pow_lt_pow_iff_right (a := 2) (by decide)).1 ((pow_bitLen_le hm).trans_lt hlt)
  unfold Fmt.norm
  dsimp only
  refine ⟨?_, ?_, ?_⟩
  · calc 2 ^ (f.p - 1) = 2 ^ (bitLen m - 1) * 2 ^ (f.p - bitLen m) := by rw [← Nat.pow_add]; congr 1; omega
      _ ≤ m * 2 ^ (f.p - bitLen m) := Nat.mul_le_mul_right _ (pow_bitLen_le hm)
  · calc m * 2 ^ (f.p - bitLen m) < 2 ^ bitLen m * 2 ^ (f.p - bitLen m) := Nat.mul_lt_mul_of_pos_right (lt_pow_bitLen hm) (Nat.two_pow_pos _)
      _ = 2 ^ f.p := by rw [← Nat.pow_add]; congr 1; omega
  · rw [Nat.cast_mul, Nat.cast_pow, Nat.cast_ofNat, mul_assoc, ← zpow_natCast, ← zpow_add₀ two_ne_zero, Nat.cast_sub (by omega)]
    congr 2
    omega

/-- The significand of a decoded number has at most p bits. -/
theorem Fmt.lt_of_decode {f : Fmt} (hf : f.Roomy) {s sub : Bool} {e : Int} (h : f.decode false b = .fin s m e sub) : 0 < m ∧ m < 2 ^ f.p := by
  have hP := Nat.two_pow_pos (f.p - 1)
  have hp := hf.p_pow
  have hman := f.man_lt b
  rw [Fmt.decode_eq] at h
  split_ifs at h with _ _ _ hm
  · simp only [Fp.fin.injEq] at h
    omega
  · simp only [Fp.fin.injEq] at h
    omega

/-! ### Quotients (R99, R100) -/

theorem steps_fmtOf (p : Bool) : (fmtOf p).p ≤ 2 * (fmtOf p).steps - 1 ∧ 2 * (fmtOf p).steps - 1 ≤ (fmtOf p).p + 1 ∧ (fmtOf p).steps ≤ 27 ∧
    0 < (fmtOf p).steps := by cases p <;> decide

theorem p_fmtOf_le (p : Bool) : 2 ^ (fmtOf p).p ≤ 2 ^ 53 := by cases p <;> decide

/-- The pair i steps into a division of normalised significands. -/
structure QuotientAt (p : Bool) (m d i : Nat) (q : FPair) : Prop where
  digits : q.dig * d + q.rem = m * 4 ^ i
  rem_lt : 0 < i → q.rem < d
  cnt : q.cnt = i
  fmt : q.p = p
  kind : q.k = false

section
variable {d i : Nat} {q : FPair}

theorem QuotientAt.dig_lt (h : QuotientAt p m d i q) (hm : m < 2 * d) (hi : i ≤ 27) : q.dig < 2 ^ 55 := by
  have hpow : 4 ^ i ≤ 4 ^ 27 := Nat.pow_le_pow_right (by decide) hi
  have hlt : q.dig * d < 2 * 4 ^ i * d := by
    calc q.dig * d ≤ m * 4 ^ i := h.digits ▸ Nat.le_add_right _ _
      _ < 2 * d * 4 ^ i := Nat.mul_lt_mul_of_pos_right hm (Nat.pow_pos (by decide))
      _ = 2 * 4 ^ i * d := Nat.mul_right_comm ..
  have := Nat.lt_of_mul_lt_mul_right hlt
  omega

theorem QuotientAt.fits (h : QuotientAt p m d i q) (hd : d < 2 ^ 53) (hm : m < 2 * d) (hi : i ≤ 27) : q.Fits := by
  have hdig := h.dig_lt hm hi
  refine ⟨by omega, ?_, by have := h.cnt; omega⟩
  rcases Nat.eq_zero_or_pos i with rfl | hpos
  · have := h.digits
    rw [Nat.pow_zero, Nat.mul_one] at this
    have : q.rem ≤ m := this ▸ Nat.le_add_left _ _
    omega
  · have := h.rem_lt hpos
    omega

/-- A step of a division finds the next digit (R99). -/
theorem QuotientAt.step (h : QuotientAt p m d i q) (hd : 0 < d) (hm : m < 2 * d) (hi : i < (fmtOf p).steps) {v : FEnv} {s sub : Bool} {g : Int}
    (hb : (fmtOf p).decode v.ftz b = .fin s n g sub) (hn : ((fmtOf p).norm n g).1 = d) : QuotientAt p m d (i + 1) (fdStep p v b q) := by
  have hi27 := (steps_fmtOf p).2.2.1
  have hnext : (q.dig * 4 + q.rem * 4 / d) * d + q.rem * 4 % d = m * 4 ^ (i + 1) := by
    have := Nat.div_add_mod (q.rem * 4) d
    rw [Nat.pow_succ, ← Nat.mul_assoc, ← h.digits]
    nlinarith
  have hfit : q.dig * 4 + q.rem * 4 / d < 2 ^ 56 := by
    have := (QuotientAt.mk (p := p) (q := ⟨q.dig * 4 + q.rem * 4 / d, q.rem * 4 % d, i + 1, p, false⟩) hnext
      (fun _ => Nat.mod_lt _ hd) rfl rfl rfl).dig_lt hm (by omega)
    exact this.trans (by decide)
  have hstep : fdStep p v b q = { q with dig := (q.dig * 4 + q.rem * 4 / d) % 2 ^ 56, rem := q.rem * 4 % d, cnt := q.cnt + 1 } := by
    unfold fdStep
    rw [if_neg (by simp [h.kind, h.fmt, h.cnt]; omega)]
    simp only [hb, hn]
  rw [hstep]
  refine ⟨?_, fun _ => Nat.mod_lt _ hd, by rw [h.cnt], h.fmt, h.kind⟩
  show (q.dig * 4 + q.rem * 4 / d) % 2 ^ 56 * d + _ = _
  rw [Nat.mod_eq_of_lt hfit]
  exact hnext

/-- The digits of the full count of steps stand for the quotient. -/
theorem QuotientAt.standsFor (h : QuotientAt p m d (fmtOf p).steps q) (hd : 0 < d) (hdig : 0 < q.dig) (e g : Int) :
    StandsFor q.dig (e - g - 2 * (fmtOf p).steps) (decide (q.rem ≠ 0)) (m * 2 ^ e / (d * 2 ^ g)) := by
  set K := (fmtOf p).steps
  have hdR : (0 : ℝ) < d := Nat.cast_pos.2 hd
  have hE : (0 : ℝ) < 2 ^ (e - g - 2 * (K : Int)) := zpow_pos two_pos _
  have hrem : (q.rem : ℝ) < d := by exact_mod_cast h.rem_lt (steps_fmtOf p).2.2.2
  have hquot : (m * 2 ^ e / (d * 2 ^ g) : ℝ) = (q.dig + q.rem / d) * 2 ^ (e - g - 2 * (K : Int)) := by
    have hdig : (q.dig : ℝ) * d + q.rem = m * 4 ^ K := by exact_mod_cast h.digits
    have hpow : (2 : ℝ) ^ e = 2 ^ g * (4 ^ K * 2 ^ (e - g - 2 * (K : Int))) := by
      rw [show (4 : ℝ) = 2 ^ (2 : Int) by norm_num, ← zpow_natCast, ← zpow_mul, ← zpow_add₀ two_ne_zero, ← zpow_add₀ two_ne_zero]
      congr 1
      ring
    rw [div_eq_iff (mul_pos hdR (zpow_pos two_pos g)).ne', hpow, add_mul]
    field_simp
    rw [← hdig]
  have hfrac0 : 0 ≤ (q.rem : ℝ) / d := div_nonneg (Nat.cast_nonneg _) hdR.le
  have hfrac1 : (q.rem : ℝ) / d < 1 := (div_lt_one hdR).2 hrem
  rw [hquot]
  refine ⟨hdig, mul_le_mul_of_nonneg_right (by linarith) hE.le, mul_lt_mul_of_pos_right (by linarith) hE, ?_⟩
  rw [mul_left_inj' hE.ne', add_eq_left, div_eq_zero_iff, or_iff_left hdR.ne', Nat.cast_eq_zero]
  simp

/-- The digits have more bits than a significand. -/
theorem QuotientAt.lt_bitLen (h : QuotientAt p m d (fmtOf p).steps q) (hm : 2 ^ ((fmtOf p).p - 1) ≤ m) (hd : d < 2 ^ (fmtOf p).p) :
    0 < q.dig ∧ (fmtOf p).p < bitLen q.dig := by
  obtain ⟨hpK, -, -, hK⟩ := steps_fmtOf p
  have hpow := (fmtOf_roomy p).p_pow
  have hlt : 2 ^ ((fmtOf p).p - 1) * (2 * 2 ^ (2 * (fmtOf p).steps - 1)) < 2 ^ ((fmtOf p).p - 1) * (2 * (q.dig + 1)) := by
    calc 2 ^ ((fmtOf p).p - 1) * (2 * 2 ^ (2 * (fmtOf p).steps - 1)) ≤ m * 4 ^ (fmtOf p).steps := by
          refine Nat.mul_le_mul hm (le_of_eq ?_)
          rw [← Nat.pow_succ', show (4 : Nat) = 2 ^ 2 from rfl, ← Nat.pow_mul]
          congr 1
          omega
      _ < (q.dig + 1) * d := by
          have := h.digits
          have := h.rem_lt hK
          rw [Nat.add_mul]
          omega
      _ ≤ (q.dig + 1) * 2 ^ (fmtOf p).p := Nat.mul_le_mul_left _ hd.le
      _ = 2 ^ ((fmtOf p).p - 1) * (2 * (q.dig + 1)) := by rw [hpow]; ring
  have hge : 2 ^ (2 * (fmtOf p).steps - 1) ≤ q.dig := by
    have := Nat.lt_of_mul_lt_mul_left hlt
    omega
  have hpos : 0 < q.dig := (Nat.two_pow_pos _).trans_le hge
  exact ⟨hpos, (Nat.pow_lt_pow_iff_right (a := 2) (by decide)).1
    (((Nat.pow_le_pow_right (by decide) hpK).trans hge).trans_lt (lt_pow_bitLen hpos))⟩

end

/-- The value of a decoded number is not 0 just where it is no zero. -/
theorem Fmt.decode_of_value_ne_zero {f : Fmt} (h : f.finite b = true) (h0 : (f.value b : ℝ) ≠ 0) :
    ∃ s m e sub, f.decode false b = .fin s m e sub ∧ (f.value b : ℝ) = sgnR s * m * 2 ^ e := by
  rw [Fmt.value_eq_real] at h0 ⊢
  have hn := Fmt.isNum_decode h
  generalize f.decode false b = x at *
  cases hn with
  | zero s => exact absurd rfl h0
  | fin s hm e sub => exact ⟨s, _, e, sub, rfl, rfl⟩

/-- A quotient by the full sequence is correctly rounded. -/
theorem fdFin_right {a : Nat} (hrm : 1 ≤ rm ∧ rm ≤ 5) (ha : (fmtOf p).finite a = true) (hb : (fmtOf p).finite b = true)
    (ha0 : ((fmtOf p).value a : ℝ) ≠ 0) (hb0 : ((fmtOf p).value b : ℝ) ≠ 0) : let f := fmtOf p
    let v := plainEnv rm ufEn
    let q := FPair.dec (fdSetup p v a b).enc.1 (fdSetup p v a b).enc.2
    f.Right rm (f.value a / f.value b)
      (fdFin p v a b ((List.range f.steps).foldl (fun q _ => FPair.dec (fdStep p v b q).enc.1 (fdStep p v b q).enc.2) q)) := by
  intro f v q
  have hf := fmtOf_roomy p
  obtain ⟨-, -, hK, -⟩ := steps_fmtOf p
  obtain ⟨s, m, e, sub, hda, hva⟩ := Fmt.decode_of_value_ne_zero ha ha0
  obtain ⟨t, n, g, sub', hdb, hvb⟩ := Fmt.decode_of_value_ne_zero hb hb0
  obtain ⟨hm0, hmlt⟩ := Fmt.lt_of_decode hf hda
  obtain ⟨hn0, hnlt⟩ := Fmt.lt_of_decode hf hdb
  obtain ⟨hMge, hMlt, hM⟩ := Fmt.norm_spec hm0 hmlt e
  obtain ⟨hDge, hDlt, hD⟩ := Fmt.norm_spec hn0 hnlt g
  have hD0 : 0 < (f.norm n g).1 := (Nat.two_pow_pos _).trans_le hDge
  have hMD : (f.norm m e).1 < 2 * (f.norm n g).1 := hMlt.trans_le (hf.p_pow ▸ Nat.mul_le_mul_left 2 hDge)
  have hD53 := hDlt.trans_le (p_fmtOf_le p)
  have hset : QuotientAt p (f.norm m e).1 (f.norm n g).1 0 (fdSetup p v a b) := by
    have : fdSetup p v a b = { dig := 0, rem := (f.norm m e).1, cnt := 0, p := p, k := false } := by
      unfold fdSetup
      dsimp only [v, plainEnv]
      rw [hda, hdb]
    rw [this]
    exact ⟨by simp, fun h => absurd h (lt_irrefl 0), rfl, rfl, rfl⟩
  have hend := foldl_stored (at_ := QuotientAt p (f.norm m e).1 (f.norm n g).1) (k := f.steps) (st := fdStep p v b)
    (fun i q hi h => h.fits hD53 hMD (hi.trans hK)) (fun i q hi h => h.step hD0 hMD hi hdb rfl) hset
  rw [show q = fdSetup p v a b from FPair.dec_enc (hset.fits hD53 hMD (by decide))]
  generalize (List.range f.steps).foldl (fun q _ => FPair.dec (fdStep p v b q).enc.1 (fdStep p v b q).enc.2) (fdSetup p v a b) = r at *
  obtain ⟨hdig, hbits⟩ := hend.lt_bitLen hMge hDlt
  have hfin : fdFin p v a b r = f.round rm false ufEn (s != t) r.dig ((f.norm m e).2 - (f.norm n g).2 - 2 * f.steps) (decide (r.rem ≠ 0)) := by
    unfold fdFin
    rw [if_neg (by simp [hend.kind, hend.fmt, hend.cnt, f])]
    dsimp only [v, plainEnv]
    rw [hda, hdb]
    rfl
  have hval : (f.value a / f.value b : ℝ) = sgnR (s != t) * ((f.norm m e).1 * 2 ^ (f.norm m e).2 / ((f.norm n g).1 * 2 ^ (f.norm n g).2)) := by
    rw [hva, hvb, hM, hD, sgnR_bne]
    cases s <;> cases t <;> simp [sgnR, neg_div, div_neg]
  rw [hfin, hval]
  exact Fmt.round_right hf hrm _ _ (hend.standsFor hD0 hdig _ _) fun _ => hbits

end Sys2Proof.Machine
end

section
/-! SUPPORT. Square roots by the full count of steps (R97–R100) are correctly rounded; and the obligation of correct rounding. -/

namespace Sys2Proof.Machine

variable {p : Bool} {rm m i b : Nat} {ufEn : Bool} {q : FPair}

/-! ### Square roots (R99, R100) -/

/-- The scale of the remainder after i of K steps: bits brought down beyond the operand's own. -/
def rootUn (K i : Nat) : Nat := 4 * i - 2 * K
/-- The weight of the last digit's square in the remainder after i steps. -/
def rootWeight (K i : Nat) : Nat := 2 ^ (2 * K + rootUn K i - 4 * i)

/-- The weight of a digit's square is 16 times that of the next, at the scale of the next. -/
theorem rootWeight_succ (K i : Nat) : rootWeight K i * 2 ^ (rootUn K (i + 1) - rootUn K i) = 16 * rootWeight K (i + 1) := by
  unfold rootWeight rootUn
  rw [show 16 = 2 ^ 4 from rfl, ← Nat.pow_add, ← Nat.pow_add]
  congr 1
  omega

theorem pow_rootUn_succ (K i : Nat) : 2 ^ rootUn K i * 2 ^ (rootUn K (i + 1) - rootUn K i) = 2 ^ rootUn K (i + 1) := by
  unfold rootUn
  rw [← Nat.pow_add]
  congr 1
  omega

theorem rootWeight_pos (K i : Nat) : 0 < rootWeight K i := Nat.two_pow_pos _

/-- The pair i steps into the square root of m. -/
structure RootAt (p : Bool) (m i : Nat) (q : FPair) : Prop where
  digits : q.dig * q.dig * rootWeight (fmtOf p).steps i + q.rem = m * 2 ^ rootUn (fmtOf p).steps i
  lt : m * 2 ^ rootUn (fmtOf p).steps i < (q.dig + 1) * (q.dig + 1) * rootWeight (fmtOf p).steps i
  cnt : q.cnt = i
  fmt : q.p = p
  kind : q.k = true

/-- The digit that a step finds is the largest that fits, at most 3. -/
def rootDigit (g t c : Nat) : Nat :=
  if (8 * g * 3 + 3 * 3) * c ≤ t then 3 else if (8 * g * 2 + 2 * 2) * c ≤ t then 2 else if (8 * g * 1 + 1 * 1) * c ≤ t then 1 else 0

theorem rootDigit_spec (g t c : Nat) : let d := rootDigit g t c
    d ≤ 3 ∧ (8 * g * d + d * d) * c ≤ t ∧ (d < 3 → t < (8 * g * (d + 1) + (d + 1) * (d + 1)) * c) := by
  unfold rootDigit
  split_ifs
  · exact ⟨le_rfl, ‹_›, fun h => absurd h (lt_irrefl 3)⟩
  · exact ⟨by decide, ‹_›, fun _ => not_le.1 ‹_›⟩
  · exact ⟨by decide, ‹_›, fun _ => not_le.1 ‹_›⟩
  · exact ⟨by decide, by simp, fun _ => not_le.1 ‹_›⟩

theorem fsStep_eq (h : RootAt p m i q) (hi : i < (fmtOf p).steps) : let K := (fmtOf p).steps
    let t := q.rem * 2 ^ (rootUn K (i + 1) - rootUn K i)
    let d := rootDigit q.dig t (rootWeight K (i + 1))
    fsStep p q = { q with dig := (q.dig * 4 + d) % 2 ^ 56, rem := t - (8 * q.dig * d + d * d) * rootWeight K (i + 1), cnt := i + 1 } := by
  unfold fsStep
  dsimp only
  rw [if_neg (by simp [h.kind, h.fmt, h.cnt]; omega), h.cnt]
  rfl

/-- The digits found are below their number. -/
theorem RootAt.dig_lt_pow (h : RootAt p m i q) (hm : m < 2 ^ (2 * (fmtOf p).steps)) : q.dig < 2 ^ (2 * i) := by
  have hlt : q.dig * q.dig * rootWeight (fmtOf p).steps i < 2 ^ (2 * i) * 2 ^ (2 * i) * rootWeight (fmtOf p).steps i := by
    calc q.dig * q.dig * rootWeight (fmtOf p).steps i ≤ m * 2 ^ rootUn (fmtOf p).steps i := h.digits ▸ Nat.le_add_right _ _
      _ < 2 ^ (2 * (fmtOf p).steps) * 2 ^ rootUn (fmtOf p).steps i := Nat.mul_lt_mul_of_pos_right hm (Nat.two_pow_pos _)
      _ = 2 ^ (2 * i) * 2 ^ (2 * i) * rootWeight (fmtOf p).steps i := by
        unfold rootWeight rootUn
        rw [← Nat.pow_add, ← Nat.pow_add, ← Nat.pow_add]
        congr 1
        omega
  exact Nat.mul_self_lt_mul_self_iff.1 (Nat.lt_of_mul_lt_mul_right hlt)

theorem RootAt.dig_lt (h : RootAt p m i q) (hm : m < 2 ^ (2 * (fmtOf p).steps)) (hi : i ≤ (fmtOf p).steps) : q.dig < 2 ^ 54 :=
  (h.dig_lt_pow hm).trans_le (Nat.pow_le_pow_right two_pos (by have := (steps_fmtOf p).2.2.1; omega))

theorem RootAt.fits (h : RootAt p m i q) (hm : m < 2 ^ (2 * (fmtOf p).steps)) (hi : i ≤ (fmtOf p).steps) : q.Fits := by
  have hK := (steps_fmtOf p).2.2.1
  have hdig := h.dig_lt hm hi
  have hd := h.digits
  have hlt := h.lt
  refine ⟨by omega, ?_, by have := h.cnt; omega⟩
  rcases le_total (4 * i) (2 * (fmtOf p).steps) with h4 | h4
  · -- the operand's own bits are still being brought down
    rw [rootUn, Nat.sub_eq_zero_of_le h4, Nat.pow_zero, Nat.mul_one] at hd
    have hm54 : m < 2 ^ 54 := hm.trans_le (Nat.pow_le_pow_right two_pos (by omega))
    have : q.rem ≤ m := hd ▸ Nat.le_add_left _ _
    omega
  · rw [rootWeight, rootUn, show 2 * (fmtOf p).steps + (4 * i - 2 * (fmtOf p).steps) - 4 * i = 0 by omega, Nat.pow_zero, Nat.mul_one] at hd hlt
    have : (q.dig + 1) * (q.dig + 1) = q.dig * q.dig + 2 * q.dig + 1 := by ring
    omega

/-- A digit added to a root keeps the remainder exact and below the next root. -/
theorem rootDigit_step {g w r n k c : Nat} (hd : g * g * w + r = n) (hlt : n < (g + 1) * (g + 1) * w) (hw : w * k = 16 * c) (hk : 0 < k) :
    let d := rootDigit g (r * k) c
    (g * 4 + d) * (g * 4 + d) * c + (r * k - (8 * g * d + d * d) * c) = n * k ∧ n * k < (g * 4 + d + 1) * (g * 4 + d + 1) * c := by
  obtain ⟨h3, hle, hmax⟩ := rootDigit_spec g (r * k) c
  intro d
  have hnk : n * k = 16 * (g * g) * c + r * k := by
    rw [← hd, Nat.add_mul, Nat.mul_assoc (g * g), hw]
    ring
  have hnext : n * k < 16 * ((g + 1) * (g + 1)) * c := by
    calc n * k < (g + 1) * (g + 1) * w * k := Nat.mul_lt_mul_of_pos_right hlt hk
      _ = 16 * ((g + 1) * (g + 1)) * c := by rw [Nat.mul_assoc _ w, hw]; ring
  constructor
  · obtain ⟨z, hz⟩ := Nat.exists_eq_add_of_le hle
    show (g * 4 + d) * (g * 4 + d) * c + (r * k - (8 * g * d + d * d) * c) = n * k
    rw [hnk, hz, Nat.add_sub_cancel_left]
    ring
  · rcases Nat.lt_or_ge d 3 with hd3 | hd3
    · have : r * k < (8 * g * (d + 1) + (d + 1) * (d + 1)) * c := hmax hd3
      calc n * k < 16 * (g * g) * c + (8 * g * (d + 1) + (d + 1) * (d + 1)) * c := by rw [hnk]; omega
        _ = (g * 4 + d + 1) * (g * 4 + d + 1) * c := by ring
    · obtain hd : d = 3 := le_antisymm h3 hd3
      rw [hd]
      exact hnext.trans_eq (by ring)

/-- A step of a square root finds the next digit (R99). -/
theorem RootAt.step (h : RootAt p m i q) (hm : m < 2 ^ (2 * (fmtOf p).steps)) (hi : i < (fmtOf p).steps) : RootAt p m (i + 1) (fsStep p q) := by
  have hdig := h.dig_lt hm hi.le
  obtain ⟨hd, hlt⟩ := rootDigit_step h.digits h.lt (rootWeight_succ (fmtOf p).steps i) (Nat.two_pow_pos _)
  have h3 := (rootDigit_spec q.dig (q.rem * 2 ^ (rootUn (fmtOf p).steps (i + 1) - rootUn (fmtOf p).steps i)) (rootWeight (fmtOf p).steps (i + 1))).1
  rw [Nat.mul_assoc m, pow_rootUn_succ] at hd hlt
  rw [fsStep_eq h hi, Nat.mod_eq_of_lt (by omega)]
  exact ⟨hd, hlt, rfl, h.fmt, h.kind⟩

/-- The digits and the remainder of the full count of steps. -/
theorem RootAt.full (h : RootAt p m (fmtOf p).steps q) :
    q.dig * q.dig + q.rem = m * 2 ^ (2 * (fmtOf p).steps) ∧ m * 2 ^ (2 * (fmtOf p).steps) < (q.dig + 1) * (q.dig + 1) := by
  have hd := h.digits
  have hlt := h.lt
  rw [rootWeight, rootUn, show 4 * (fmtOf p).steps - 2 * (fmtOf p).steps = 2 * (fmtOf p).steps by omega,
    show 2 * (fmtOf p).steps + 2 * (fmtOf p).steps - 4 * (fmtOf p).steps = 0 by omega, Nat.pow_zero, Nat.mul_one] at hd hlt
  exact ⟨hd, hlt⟩

/-- They stand for the root. -/
theorem RootAt.standsFor (h : RootAt p m (fmtOf p).steps q) (hdig : 0 < q.dig) (e : Int) :
    StandsFor q.dig (e - (fmtOf p).steps) (decide (q.rem ≠ 0)) (Real.sqrt (m * 2 ^ (2 * e))) := by
  obtain ⟨hd, hlt⟩ := h.full
  set K := (fmtOf p).steps
  have hE : (0 : ℝ) < 2 ^ (e - (K : Int)) := zpow_pos two_pos _
  have hroot : Real.sqrt (m * 2 ^ (2 * e)) = Real.sqrt ((m * 2 ^ (2 * K) : Nat) : ℝ) * 2 ^ (e - (K : Int)) := by
    rw [← Real.sqrt_sq hE.le, ← Real.sqrt_mul (Nat.cast_nonneg _)]
    congr 1
    rw [← zpow_natCast, ← zpow_mul, Nat.cast_mul, Nat.cast_pow, Nat.cast_ofNat, mul_assoc, ← zpow_natCast, ← zpow_add₀ two_ne_zero]
    congr 2
    push_cast
    ring
  rw [hroot]
  refine ⟨hdig, mul_le_mul_of_nonneg_right ?_ hE.le, mul_lt_mul_of_pos_right ?_ hE, ?_⟩
  · rw [Real.le_sqrt (Nat.cast_nonneg _) (Nat.cast_nonneg _), sq]
    exact_mod_cast hd ▸ Nat.le_add_right _ _
  · rw [Real.sqrt_lt' (by positivity), sq]
    exact_mod_cast hlt
  · rw [mul_left_inj' hE.ne', Real.sqrt_eq_iff_eq_sq (Nat.cast_nonneg _) (Nat.cast_nonneg _), sq, ← hd, Nat.cast_add, Nat.cast_mul, add_eq_left,
      Nat.cast_eq_zero]
    simp

theorem RootAt.lt_bitLen (h : RootAt p m (fmtOf p).steps q) (hm : 2 ^ (2 * (fmtOf p).steps - 2) ≤ m) : 0 < q.dig ∧ (fmtOf p).p < bitLen q.dig := by
  obtain ⟨hpK, -, -, hK⟩ := steps_fmtOf p
  have hlt : 2 ^ (2 * (fmtOf p).steps - 1) * 2 ^ (2 * (fmtOf p).steps - 1) < (q.dig + 1) * (q.dig + 1) := by
    calc 2 ^ (2 * (fmtOf p).steps - 1) * 2 ^ (2 * (fmtOf p).steps - 1) = 2 ^ (2 * (fmtOf p).steps - 2) * 2 ^ (2 * (fmtOf p).steps) := by
          rw [← Nat.pow_add, ← Nat.pow_add]
          congr 1
          omega
      _ ≤ m * 2 ^ (2 * (fmtOf p).steps) := Nat.mul_le_mul_right _ hm
      _ < (q.dig + 1) * (q.dig + 1) := h.full.2
  have hge : 2 ^ (2 * (fmtOf p).steps - 1) ≤ q.dig := Nat.lt_succ_iff.1 (Nat.mul_self_lt_mul_self_iff.1 hlt)
  have hpos : 0 < q.dig := (Nat.two_pow_pos _).trans_le hge
  exact ⟨hpos, (Nat.pow_lt_pow_iff_right (a := 2) (by decide)).1
    (((Nat.pow_le_pow_right (by decide) hpK).trans hge).trans_lt (lt_pow_bitLen hpos))⟩

/-- The operand of a square root (R98). -/
theorem sqrtNorm_spec {m : Nat} (hm : 0 < m) (hlt : m < 2 ^ (fmtOf p).p) (e : Int) : let r := (fmtOf p).sqrtNorm m e
    2 ^ (2 * (fmtOf p).steps - 2) ≤ r.1 ∧ r.1 < 2 ^ (2 * (fmtOf p).steps) ∧ r.2 = 2 * (r.2 / 2) ∧ (r.1 : ℝ) * 2 ^ r.2 = m * 2 ^ e := by
  obtain ⟨hge, hlt, hval⟩ := Fmt.norm_spec hm hlt e
  obtain ⟨hpK, -, -, hK⟩ := steps_fmtOf p
  have hp := (fmtOf_roomy p).p
  unfold Fmt.sqrtNorm
  dsimp only
  generalize (fmtOf p).norm m e = r at *
  generalize hsh : 2 * (fmtOf p).steps - 1 - (fmtOf p).p = sh
  have hscale (k : Nat) : ((r.1 * 2 ^ k : Nat) : ℝ) * 2 ^ (r.2 - k) = m * 2 ^ e := by
    rw [← hval, Nat.cast_mul, Nat.cast_pow, Nat.cast_ofNat, mul_assoc, ← zpow_natCast, ← zpow_add₀ two_ne_zero, add_sub_cancel]
  have hlow : 2 ^ (2 * (fmtOf p).steps - 2) ≤ r.1 * 2 ^ sh := by
    refine le_trans (le_of_eq ?_) (Nat.mul_le_mul_right _ hge)
    rw [← Nat.pow_add]
    congr 1
    omega
  have hhigh : r.1 * 2 ^ (sh + 1) < 2 ^ (2 * (fmtOf p).steps) := by
    refine lt_of_lt_of_eq (Nat.mul_lt_mul_of_pos_right hlt (Nat.two_pow_pos _)) ?_
    rw [← Nat.pow_add]
    congr 1
    omega
  have hmono : r.1 * 2 ^ sh ≤ r.1 * 2 ^ (sh + 1) := Nat.mul_le_mul_left _ (Nat.pow_le_pow_right two_pos (Nat.le_succ _))
  split
  · exact ⟨hlow, hmono.trans_lt hhigh, by omega, hscale sh⟩
  · refine ⟨hlow.trans hmono, hhigh, by omega, ?_⟩
    have := hscale (sh + 1)
    rwa [Nat.cast_succ, ← sub_sub] at this

/-- A square root by the full sequence is correctly rounded. -/
theorem fsFin_right {a : Nat} (hrm : 1 ≤ rm ∧ rm ≤ 5) (ha : (fmtOf p).finite a = true) (ha0 : 0 < ((fmtOf p).value a : ℝ)) : let f := fmtOf p
    let v := plainEnv rm ufEn
    let q := FPair.dec (fsSetup p v a).enc.1 (fsSetup p v a).enc.2
    f.Right rm (Real.sqrt (f.value a))
      (fsFin p v a ((List.range f.steps).foldl (fun q _ => FPair.dec (fsStep p q).enc.1 (fsStep p q).enc.2) q)) := by
  intro f v q
  have hf := fmtOf_roomy p
  obtain ⟨s, m, e, sub, hda, hva⟩ := Fmt.decode_of_value_ne_zero ha ha0.ne'
  obtain ⟨hm0, hmlt⟩ := Fmt.lt_of_decode hf hda
  obtain rfl : s = false := by
    by_contra hs
    rw [hva, Bool.eq_true_of_not_eq_false hs] at ha0
    have : (0 : ℝ) ≤ m * 2 ^ e := mul_nonneg (Nat.cast_nonneg _) (zpow_pos two_pos e).le
    simp only [sgnR, if_true] at ha0
    linarith
  obtain ⟨hge, hlt, heven, hval⟩ := sqrtNorm_spec hm0 hmlt e
  have hset : RootAt p (f.sqrtNorm m e).1 0 (fsSetup p v a) := by
    have : fsSetup p v a = { dig := 0, rem := (f.sqrtNorm m e).1, cnt := 0, p := p, k := true } := by
      unfold fsSetup
      dsimp only [v, plainEnv]
      rw [hda]
    rw [this]
    refine ⟨by simp [rootUn], ?_, rfl, rfl, rfl⟩
    simpa [rootUn, rootWeight] using hlt
  have hend := foldl_stored (at_ := RootAt p (f.sqrtNorm m e).1) (k := f.steps) (st := fsStep p) (fun i q hi h => h.fits hlt hi)
    (fun i q hi h => h.step hlt hi) hset
  rw [show q = fsSetup p v a from FPair.dec_enc (hset.fits hlt (Nat.zero_le _))]
  generalize (List.range f.steps).foldl (fun q _ => FPair.dec (fsStep p q).enc.1 (fsStep p q).enc.2) (fsSetup p v a) = r at *
  obtain ⟨hdig, hbits⟩ := hend.lt_bitLen hge
  have hfin : fsFin p v a r = f.round rm false ufEn false r.dig ((f.sqrtNorm m e).2 / 2 - f.steps) (decide (r.rem ≠ 0)) := by
    unfold fsFin
    rw [if_neg (by simp [hend.kind, hend.fmt, hend.cnt, f])]
    dsimp only [v, plainEnv]
    rw [hda]
    rfl
  have hroot : Real.sqrt (f.value a) = sgnR false * Real.sqrt ((f.sqrtNorm m e).1 * 2 ^ (2 * ((f.sqrtNorm m e).2 / 2))) := by
    rw [← heven, hval, hva]
    simp [sgnR]
  rw [hfin, hroot]
  exact Fmt.round_right hf hrm _ _ (hend.standsFor hdig _) fun _ => hbits

/-- Settles O30: every operation rounds once, and that rounding is correct. -/
theorem floatingPointRoundsCorrectly : Obligations.FloatingPointRoundsCorrectly := by
  unfold Obligations.FloatingPointRoundsCorrectly
  intro p rm a b c ufEn h1 h5 f v _ _ _ ha hb hc A B C right steps pairOf
  have hf := fmtOf_roomy p
  have hrm := And.intro h1 h5
  have hadd (sub : Bool) : right (A + sgnR sub * B) (f.add v sub a b) := Fmt.add_right hf hrm ha hb sub
  have hfma (np nz : Bool) : right (sgnR np * (A * B) + sgnR nz * C) (f.fma v np nz a b c) := Fmt.fma_right hf hrm ha hb hc np nz
  have hpos : sgnR false = 1 := rfl
  have hneg : sgnR true = -1 := rfl
  refine ⟨?_, ?_, Fmt.mul_right hf hrm ha hb, ?_, ?_, ?_, ?_, fdFin_right hrm ha hb, fsFin_right hrm ha⟩
  · simpa [hpos] using hadd false
  · simpa [hneg, sub_eq_add_neg] using hadd true
  · simpa [hpos] using hfma false false
  · simpa [hpos, hneg, sub_eq_add_neg] using hfma false true
  · simpa [hpos, hneg] using hfma true false
  · simpa [hneg, sub_eq_add_neg] using hfma true true

end Sys2Proof.Machine
end

section
/-! SUPPORT. Packed decimals on numbers (R103–R106, R124): the encoding of a value, and the shifts. -/

namespace Sys2Proof.Machine

/-! ### The encoding (R103, R104) -/

/-- The low n decimal digits of m, one in each nibble. -/
def packDigits : Nat → Nat → Nat
  | 0, _ => 0
  | n + 1, m => m % 10 + 16 * packDigits n (m / 10)

theorem packDigits_succ (n m : Nat) : packDigits (n + 1) m = packDigits n m + m / 10 ^ n % 10 * 16 ^ n := by
  induction n generalizing m with
  | zero => simp [packDigits]
  | succ n ih =>
    rw [packDigits, ih, packDigits, Nat.div_div_eq_div_mul, ← Nat.pow_succ', Nat.pow_succ' (m := 16)]
    ring

theorem packDigits_lt (n m : Nat) : packDigits n m < 16 ^ n := by
  induction n generalizing m with
  | zero => exact Nat.one_pos
  | succ n ih =>
    rw [packDigits, Nat.pow_succ']
    have := ih (m / 10)
    omega

theorem digit_packDigits {n k : Nat} (h : k < n) (m : Nat) : packDigits n m / 16 ^ k % 16 = m / 10 ^ k % 10 := by
  induction n generalizing k m with
  | zero => exact absurd h (Nat.not_lt_zero k)
  | succ n ih =>
    rw [packDigits]
    cases k with
    | zero => omega
    | succ k =>
      rw [Nat.pow_succ', ← Nat.div_div_eq_div_mul, Nat.pow_succ', ← Nat.div_div_eq_div_mul, ← ih (Nat.lt_of_succ_lt_succ h)]
      congr 2
      omega

theorem decEnc_eq (n : Nat) (z : Int) :
    decEnc n z = (if z < 0 ∧ z.natAbs % 10 ^ n ≠ 0 then 13 else 12) + 16 * packDigits n (z.natAbs % 10 ^ n) := by
  unfold decEnc
  dsimp only
  generalize z.natAbs % 10 ^ n = m
  generalize (if z < 0 ∧ m ≠ 0 then 13 else 12) = c
  induction n with
  | zero => rfl
  | succ n ih =>
    rw [List.range_succ, List.foldl_append, ih, packDigits_succ, List.foldl_cons, List.foldl_nil, Nat.pow_succ']
    ring

theorem decMag_succ (n v : Nat) : decMag (n + 1) v = decMag n v + decDigit v n * 10 ^ n := by
  unfold decMag
  rw [List.range_succ, List.foldl_append, List.foldl_cons, List.foldl_nil]

theorem decMag_eq_sum (n v : Nat) : decMag n v = ((List.range n).map fun k => decDigit v k * 10 ^ k).sum := by
  induction n with
  | zero => rfl
  | succ n ih => rw [decMag_succ, List.range_succ, List.map_append, List.sum_append, ih, List.map_singleton, List.sum_singleton]

/-- Digits that are those of m add up to its last n digits. -/
theorem decMag_eq_mod {n v m : Nat} (h : ∀ k, k < n → decDigit v k = m / 10 ^ k % 10) : decMag n v = m % 10 ^ n := by
  induction n with
  | zero => rw [Nat.pow_zero, Nat.mod_one]; rfl
  | succ n ih =>
    rw [decMag_succ, ih fun k hk => h k (Nat.lt_succ_of_lt hk), h n (Nat.lt_succ_self n), Nat.mod_pow_succ, Nat.mul_comm]

/-- The one packed decimal of n digits that a result leaves (R104): the low digits of its magnitude, and its sign, plus for zero. -/
structure PacksAs (n w : Nat) (z : Int) : Prop where
  lt : w < 16 ^ (n + 1)
  valid : decValid n w = true
  mag : decMag n w = z.natAbs % 10 ^ n
  sign : w % 16 = if z < 0 ∧ z.natAbs % 10 ^ n ≠ 0 then 13 else 12

theorem decEnc_packs (n : Nat) (z : Int) : PacksAs n (decEnc n z) z := by
  have heq := decEnc_eq n z
  have hlt := packDigits_lt n (z.natAbs % 10 ^ n)
  have hdig (k : Nat) (hk : k < n) : decDigit (decEnc n z) k = z.natAbs % 10 ^ n / 10 ^ k % 10 := by
    rw [← digit_packDigits hk, decDigit, Nat.pow_succ', ← Nat.div_div_eq_div_mul, heq]
    congr 2
    split <;> omega
  have hsign : decEnc n z % 16 = if z < 0 ∧ z.natAbs % 10 ^ n ≠ 0 then 13 else 12 := by
    rw [heq]
    split <;> omega
  refine ⟨?_, ?_, (decMag_eq_mod hdig).trans (Nat.mod_mod ..), hsign⟩
  · rw [heq, Nat.pow_succ']
    split <;> omega
  · rw [decValid, hsign, Bool.and_eq_true, List.all_eq_true]
    refine ⟨fun k hk => decide_eq_true ?_, ?_⟩
    · rw [hdig k (List.mem_range.1 hk)]
      omega
    · split <;> rfl

/-! ### The shifts (R106) -/

/-- A magnitude with the sign of a value. -/
def withSign (z : Int) (m : Nat) : Int := if z < 0 then -(m : Int) else m

theorem decShr_truncates (top : Nat) (z : Int) (n : Nat) : decShr 0 top z n = if top ≤ n then 0 else withSign z (z.natAbs / 10 ^ n) := rfl

theorem decShr_half_even (top : Nat) (z : Int) (n : Nat) : decShr 1 top z n = if top ≤ n then 0 else withSign z
    (if 10 ^ n < 2 * (z.natAbs % 10 ^ n) ∨ (2 * (z.natAbs % 10 ^ n) = 10 ^ n ∧ z.natAbs / 10 ^ n % 2 = 1) then z.natAbs / 10 ^ n + 1 else z.natAbs / 10 ^ n) := by
  unfold decShr withSign
  simp

theorem decShr_half_away (top : Nat) (z : Int) (n : Nat) : decShr 2 top z n = if top ≤ n then 0 else withSign z
    (if 10 ^ n ≤ 2 * (z.natAbs % 10 ^ n) then z.natAbs / 10 ^ n + 1 else z.natAbs / 10 ^ n) := by
  unfold decShr withSign
  simp

end Sys2Proof.Machine
end

section
/-! SUPPORT. Saturating and rounding fixed-point on numbers (R117, R120). -/

namespace Sys2Proof.Machine

/-! ### Rounding (R120) -/

/-- y is a multiple of d nearest to z. -/
def Nearest (z y d : Int) : Prop := 2 * (y * d - z).natAbs ≤ d.natAbs
/-- z lies half way between two multiples of d, one of them y. -/
def Halfway (z y d : Int) : Prop := 2 * (y * d - z).natAbs = d.natAbs

theorem nearest_self (z : Int) : Nearest z z (2 ^ 0) ∧ ¬Halfway z z (2 ^ 0) := by
  unfold Nearest Halfway
  rw [pow_zero, mul_one, sub_self]
  decide

theorem rndE_spec (z : Int) (k : Nat) : Nearest z (rndE z k) (2 ^ k) ∧ (Halfway z (rndE z k) (2 ^ k) → rndE z k % 2 = 0) := by
  cases k with
  | zero => exact ⟨(nearest_self z).1, fun h => absurd h (nearest_self z).2⟩
  | succ k =>
    unfold rndE Nearest Halfway
    rw [if_neg (Nat.succ_ne_zero k), Nat.add_sub_cancel, pow_succ']
    have hpos : (0 : Int) < 2 ^ k := pow_pos two_pos k
    generalize (2 : Int) ^ k = h at *
    dsimp only
    have hlo := Int.emod_nonneg z (b := 2 * h) (by omega)
    have hhi := Int.emod_lt_of_pos z (b := 2 * h) (by omega)
    have hdiv := Int.mul_ediv_add_emod z (2 * h)
    generalize z / (2 * h) = q at *
    have hr : z - q * (2 * h) = z % (2 * h) := by rw [mul_comm q]; omega
    have hsucc : (q + 1) * (2 * h) = 2 * h * q + 2 * h := by ring
    rw [hr]
    generalize z % (2 * h) = r at *
    split
    · rw [hsucc]; omega
    · rw [mul_comm q]; omega

theorem rndA_spec (z : Int) (k : Nat) :
    Nearest z (rndA z k) (2 ^ k) ∧ (Halfway z (rndA z k) (2 ^ k) → z.natAbs < (rndA z k * 2 ^ k).natAbs) := by
  cases k with
  | zero => exact ⟨(nearest_self z).1, fun h => absurd h (nearest_self z).2⟩
  | succ k =>
    unfold rndA Nearest Halfway
    rw [if_neg (Nat.succ_ne_zero k), Nat.add_sub_cancel, pow_succ', pow_succ', show (2 : Int) ^ k = ((2 ^ k : Nat) : Int) by push_cast; rfl]
    have hpos : 0 < 2 ^ k := Nat.two_pow_pos k
    generalize 2 ^ k = h at *
    dsimp only
    have hlt := Nat.mod_lt (z.natAbs + h) (y := 2 * h) (by omega)
    have hdiv := Nat.div_add_mod (z.natAbs + h) (2 * h)
    generalize (z.natAbs + h) / (2 * h) = m at *
    have hm : (m : Int) * (2 * h) = ((2 * h * m : Nat) : Int) := by push_cast; ring
    split
    · rw [neg_mul, hm]; omega
    · rw [hm]; omega

/-! ### Patterns -/

theorem sgn_eq (n w : Nat) : sgn n w = if w % 2 ^ n < 2 ^ (n - 1) then ((w % 2 ^ n : Nat) : Int) else ((w % 2 ^ n : Nat) : Int) - 2 ^ n := by
  unfold sgn
  push_cast
  split <;> split <;> omega

theorem sgn_range {n : Nat} (hn : 0 < n) (w : Nat) : -(2 ^ (n - 1)) ≤ sgn n w ∧ sgn n w < 2 ^ (n - 1) := by
  rw [sgn_eq_toInt hn]
  exact ⟨BitVec.le_toInt _, BitVec.toInt_lt⟩

theorem ofNat_pat (n : Nat) (y : Int) : BitVec.ofNat n (pat n y) = BitVec.ofInt n y := by
  have hlt : (y % ((2 ^ n : Nat) : Int)).toNat < 2 ^ n := (Int.toNat_lt' (Nat.two_pow_pos n)).2 (Int.emod_lt_of_pos y (Int.ofNat_lt.2 (Nat.two_pow_pos n)))
  push_cast at hlt
  exact BitVec.eq_of_toNat_eq (by rw [BitVec.toNat_ofNat, BitVec.toNat_ofInt, pat, Nat.mod_eq_of_lt hlt]; push_cast; rfl)

theorem sgn_pat {n : Nat} (hn : 0 < n) {y : Int} (hlo : -(2 ^ (n - 1)) ≤ y) (hhi : y < 2 ^ (n - 1)) : sgn n (pat n y) = y := by
  rw [sgn_eq_toInt hn, ofNat_pat, BitVec.toInt_ofInt_eq_self hn hlo hhi]

theorem ofNat_pat_of_nonneg {n : Nat} {y : Int} (hlo : 0 ≤ y) (hhi : y < 2 ^ n) (w : Nat) : BitVec.ofNat w (pat n y) = BitVec.ofInt w y := by
  rw [pat, Int.emod_eq_of_lt hlo hhi, ← BitVec.ofInt_natCast, Int.toNat_of_nonneg hlo]

/-! ### Saturation -/

/-- The value of a range next to z. -/
def clamp (lo hi z : Int) : Int := min (max z lo) hi

theorem clamp_range {lo hi : Int} (h : lo ≤ hi) (z : Int) : lo ≤ clamp lo hi z ∧ clamp lo hi z ≤ hi := by unfold clamp; omega

theorem clamp_ne_iff {lo hi : Int} (h : lo ≤ hi) (z : Int) : decide (clamp lo hi z ≠ z) = (decide (z < lo) || decide (hi < z)) := by
  rw [← Bool.decide_or]
  exact decide_eq_decide.2 (by unfold clamp; omega)

/-- A shift by k of a value of n bits stays among them. -/
theorem nearest_shift_range {P z y d : Int} (hd : d = 1 ∨ 2 ≤ d) (hP : 0 < P) (hlo : -P ≤ z) (hhi : z < P) (h : Nearest z y d) : -P ≤ y ∧ y < P := by
  unfold Nearest at h
  rcases hd with rfl | hd
  · omega
  · constructor
    · by_contra hy
      have : y * d ≤ (-P - 1) * d := mul_le_mul_of_nonneg_right (by omega) (by omega)
      have : P * 2 ≤ P * d := mul_le_mul_of_nonneg_left hd hP.le
      rw [show (-P - 1) * d = -(P * d) - d by ring] at *
      omega
    · by_contra hy
      have : P * d ≤ y * d := mul_le_mul_of_nonneg_right (by omega) (by omega)
      nlinarith [show d = d.natAbs by omega, show 2 * (y * d - z) ≤ d by omega, mul_le_mul_of_nonneg_left hd hP.le]

/-! ### The operations (R117) -/

/-- A result of n bits in a g register: zero-extended in the U forms, else sign-extended (R121). -/
def fixWord (op n p : Nat) : W64 := if op = 1 ∨ op = 3 then BitVec.ofNat 64 p else BitVec.ofInt 64 (sgn n p)

/-- What a fixed-point operation of a g register gives: a number, and whether it saturated. -/
def FixGives (op n u v : Nat) (y : Int) (sat : Bool) : Prop := fixWord op n (fixOp op n u v).1 = BitVec.ofInt 64 y ∧ (fixOp op n u v).2 = sat

section
variable {op n u v : Nat} {y z : Int} {sat : Bool}

theorem fixGives_signed (hn : 0 < n) (hop : ¬(op = 1 ∨ op = 3)) (h : fixOp op n u v = (pat n y, sat)) (hlo : -(2 ^ (n - 1)) ≤ y) (hhi : y < 2 ^ (n - 1)) :
    FixGives op n u v y sat := by
  unfold FixGives fixWord
  rw [h, if_neg hop, sgn_pat hn hlo hhi]
  exact ⟨rfl, rfl⟩

theorem fixGives_satS (hn : 0 < n) (hop : ¬(op = 1 ∨ op = 3)) (h : fixOp op n u v = (pat n (satS z n).1, (satS z n).2)) :
    let lo : Int := -(2 ^ (n - 1))
    let hi : Int := 2 ^ (n - 1) - 1
    FixGives op n u v (clamp lo hi z) (decide (z < lo) || decide (hi < z)) := by
  intro lo hi
  have hpos : (0 : Int) < 2 ^ (n - 1) := pow_pos two_pos _
  have hle : lo ≤ hi := by omega
  rw [← clamp_ne_iff hle]
  have hr := clamp_range hle z
  exact fixGives_signed hn hop h hr.1 (by omega)

theorem fixGives_satU (hop : op = 1 ∨ op = 3) (h : fixOp op n u v = (pat n (satU z n).1, (satU z n).2)) :
    FixGives op n u v (clamp 0 (2 ^ n - 1) z) (decide (z < 0) || decide (2 ^ n - 1 < z)) := by
  have hpos : (0 : Int) < 2 ^ n := pow_pos two_pos _
  have hle : (0 : Int) ≤ 2 ^ n - 1 := by omega
  have hr := clamp_range hle z
  unfold FixGives fixWord
  rw [← clamp_ne_iff hle, h, if_pos hop]
  exact ⟨ofNat_pat_of_nonneg hr.1 (by show clamp 0 (2 ^ n - 1) z < 2 ^ n; omega) 64, rfl⟩

theorem fixGives_shift {k : Nat} (hn : 0 < n) (hop : ¬(op = 1 ∨ op = 3)) (hy : Nearest (sgn n u) y (2 ^ k)) (h : fixOp op n u v = (pat n y, false)) :
    FixGives op n u v y false := by
  have hr := sgn_range hn u
  have hd : (2 : Int) ^ k = 1 ∨ (2 : Int) ≤ 2 ^ k := by
    cases k with
    | zero => exact .inl rfl
    | succ k =>
      have : (0 : Int) < 2 ^ k := pow_pos two_pos k
      rw [pow_succ]
      omega
  obtain ⟨hlo, hhi⟩ := nearest_shift_range hd (pow_pos two_pos _) hr.1 hr.2 hy
  exact fixGives_signed hn hop h hlo hhi

end

end Sys2Proof.Machine
end

section
/-! SUPPORT. The rest of a scalar instruction does not depend on the time recorded for it (R60): the state after the fetch, the end of the
instruction, and trap entry on engines and control cores. -/

namespace Sys2Proof.Machine

variable {i : Nat} {s t : State}

namespace Twin

theorem setG (h : Twin i s t) (x n : Nat) (v : W64) : Twin i (s.setG x n v) (t.setG x n v) :=
  .ite _ h (h.setRegs x fun r => { r with g := Tab.set 0 r.g n v })

theorem advance (h : Twin i s t) (x : Nat) (wide : Bool) : Twin i (s.advance x wide) (t.advance x wide) :=
  .ite _ (h.setRegs x fun r => { r with pc := r.pc + 8, npc := r.pc + 12, slot := false })
    (h.setRegs x fun r => { r with pc := r.npc, npc := r.npc + 4, slot := false })

theorem bump (h : Twin i s t) (a : Nat) : Twin i (s.bump a) (t.bump a) := h.of_withCtxs (f := fun s => s.bump a) fun _ _ => rfl

theorem pmc (h : Twin i s t) (u n : Nat) : Twin i (s.pmc u n) (t.pmc u n) := .ite _ (h.bump _) h

theorem retire (h : Twin i s t) (x : Nat) (wide : Bool) : Twin i (s.retire x wide) (t.retire x wide) := by
  have h1 := h.advance x wide
  unfold State.retire
  dsimp only
  rw [h1.readCtx x (v := fun c => c.epi.isSome) fun _ _ => rfl]
  exact .ite _ h1 ((h1.update x (g := fun c => { c with instret := c.instret + 1 }) ⟨fun _ _ => rfl, fun _ => id⟩).pmc ..)

theorem finish (h : Twin i s t) (x : Nat) (wide : Bool) : Twin i (s.finish x wide) (t.finish x wide) := .ite _ (h.advance x wide) (h.retire x wide)

/-- Entry to the handler of a level of a control core (R63). -/
theorem enterLevel (h : Twin i s t) (x b : Nat) (lvl : Priv) (tr : Trap) (async : Bool) (epc enpc : W64) :
    Twin i (s.enterLevel x b lvl tr async epc enpc) (t.enterLevel x b lvl tr async epc enpc) := by
  unfold State.enterLevel
  dsimp only
  rw [h.xcsr, h.readCtx x (v := Ctx.r) fun _ _ => rfl, h.readCtx x (v := Ctx.priv) fun _ _ => rfl]
  generalize BitVec.ofNat 64 _ = st
  have h1 := ((((h.setXcsr x (b + 2) (epcWord epc)).setXcsr x (b + 3) (epcWord enpc)).setXcsr x (b + 4) (causeWord tr async)).setXcsr x (b + 5)
    tr.val).setXcsr x b st
  rw [h1.xcsr]
  generalize tvecBase _ = pc
  exact h1.update x (g := fun c => { c with
    st := .ready, wait := .none, priv := lvl, ibuf := none
    r := { c.r with resv := none, pc := pc, npc := pc + 4, slot := false, annul := false } }) ⟨fun _ _ => rfl, fun _ _ => nofun⟩

theorem trapped (h : Twin i s t) (x : Nat) (tr : Trap) : Twin i (s.takeTrap x tr) (t.takeTrap x tr) := by
  by_cases hx : x < 2048
  · exact h.takeTrap hx tr
  · have heng : ¬isEng x = true := by simpa [isEng] using hx
    unfold State.takeTrap State.takeTrapAt
    dsimp only
    rw [if_neg heng, if_neg heng, h.xcsr, h.readCtx x (v := Ctx.r) fun _ _ => rfl, h.readCtx x (v := Ctx.priv) fun _ _ => rfl]
    exact .ite _ (h.enterLevel ..) (h.enterLevel ..)

/-- The state after the fetch, and the same with a time. -/
theorem start_setTime {x : Nat} {wide : Bool} (hx : ¬2112 ≤ x) (hst : ((s.start x wide).ctx x).st ≠ .free) (a b : Nat) :
    Twin x (s.start x wide) ((s.start x wide).setTime x a b) := by
  unfold State.setTime
  dsimp only
  generalize (if State.sealed _ _ then b else a) = n
  have hs : s.start x wide = ((s.turn x).fetch x wide).1.setCtx x ((s.start x wide).ctx x) := by
    unfold State.start
    dsimp only
    rw [if_neg hx, State.ctx_setCtx_same]
  generalize hc : (s.start x wide).ctx x = c at *
  rw [hs, State.setCtx_setCtx _ _ (by exact hst) (by exact hst)]
  exact (Twin.refl _).setCtx x (.inr ⟨rfl, hst, _, rfl⟩)

end Twin

/-! ### What an instruction answers, but for the time recorded -/

/-- A state without the time of a context's last instruction. -/
def State.sansTime (s : State) (i : Nat) : State := s.setCtx i { s.ctx i with lastTime := 0 }

/-- An instruction answers a state, but for the time recorded. -/
def Answers (i : Nat) (s : State) (c : Instr) (w : State) : Prop := ∃ y, exec c s = .next y ∧ y.sansTime i = w.sansTime i

theorem Answers.of_twin {c : Instr} {w y : State} (hc : exec c s = .next y) (h : Twin i w y) : Answers i s c w := ⟨y, hc, h.setLastTime_zero⟩

section
variable {c : Instr} {sg : Sig} {body : State → Eff}

theorem FpIssues.live (h : FpIssues i s c sg body) : ((s.start i sg.wide).ctx i).st ≠ .free := by
  have hst := (congrArg Ctx.st (((Fetched.refl s).start sg.wide).own (x := i)) :)
  rw [show ((s.start i sg.wide).ctx i).st = .ready from hst.trans (State.canIssue_unit h.can h.unit).1]
  decide

theorem FpIssues.twin (h : FpIssues i s c sg body) (hw : sg.wide = false) (a b : Nat) : Twin i (s.start i false) ((s.start i false).setTime i a b) :=
  .start_setTime h.unit (hw ▸ h.live) a b

/-- An instruction that completes. -/
theorem FpIssues.answers (h : FpIssues i s c sg body) (hw : sg.wide = false) {w y : State} (hb : body (s.start i false) = .ok y) (hy : Twin i w y) :
    Answers i s c (w.finish i false) := .of_twin (h.ok hw hb) (hy.finish i false)

/-- An instruction that traps. -/
theorem FpIssues.answers_trap (h : FpIssues i s c sg body) (hw : sg.wide = false) {w y : State} {k : Trap} (hb : body (s.start i false) = .trap y k)
    (hk : k.status ≠ stWait) (hy : Twin i w y) : Answers i s c (w.takeTrap i k) :=
  .of_twin (by rw [h.exec, issue_trap h.can h.unit (by rw [hw]; exact hb) hk]) (hy.trapped i k)

end

end Sys2Proof.Machine
end

section
/-! SUPPORT. Scalar packed decimal (R103–R107) and scalar saturating fixed-point (R120, R121): what each instruction answers. -/

namespace Sys2Proof.Machine

variable {i : Nat} {s t : State} {c : Instr} {sg : Sig} {body : State → Eff} {x : CtxId} {rd a b : Reg5}

/-! ### The end of a decimal operation (R104) -/

/-- A state with a flag of DCSR set. -/
def State.flagged (t : State) (i k : Nat) : State := t.setXcsr i csrDcsr (setBit (t.xcsr i csrDcsr) k true)

/-- What an instruction that sets a DCSR flag answers: its trap where that is enabled, else it goes on. -/
def FlagRaised (i : Nat) (s : State) (c : Instr) (bit code : Nat) (w : State) : Prop :=
  let t := s.start i false
  if bitAt (t.xcsr i csrDcsr) (bit + 8) = true then Answers i s c ((t.flagged i bit).takeTrap i { code := code }) else Answers i s c (w.finish i false)

/-- What a decimal instruction with the value z answers when its result is w. -/
def DecEnds (i : Nat) (s : State) (c : Instr) (rd : Reg5) (ok : Bool) (z : Int) (w : W64) : Prop :=
  let t := s.start i false
  if ok = false then FlagRaised i s c 1 0x0C (t.flagged i 1)
  else if z.natAbs < 10 ^ 15 then Answers i s c ((t.setG i rd.toNat w).finish i false)
  else FlagRaised i s c 2 0x0D ((t.flagged i 2).setG i rd.toNat w)

theorem decEnds_invalid (z : Int) (w : W64) : DecEnds i s c rd false z w = FlagRaised i s c 1 0x0C ((s.start i false).flagged i 1) := by
  unfold DecEnds
  exact if_pos rfl

theorem Twin.flagged (h : Twin i s t) (k : Nat) : Twin i (s.flagged i k) (t.flagged i k) := by
  unfold State.flagged
  rw [h.xcsr]
  exact h.setXcsr ..

theorem FpIssues.raised (h : FpIssues i s c sg body) (hw : sg.wide = false) {t' : State} (ht : Twin i (s.start i false) t') {bit code : Nat}
    {out : State → State} (hb : body (s.start i false) = t'.raiseDec i bit code fun s => .ok (out s))
    (hout : Twin i (out ((s.start i false).flagged i bit)) (out (t'.flagged i bit))) : FlagRaised i s c bit code (out ((s.start i false).flagged i bit)) := by
  unfold FlagRaised
  dsimp only
  rw [← ht.xcsr]
  split
  case isTrue hd =>
    exact h.answers_trap hw (hb.trans (State.raiseDec_of_enabled hd ..)) (trapCode_status code) (ht.flagged bit)
  case isFalse hd => exact h.answers hw (hb.trans (State.raiseDec_of_disabled (Bool.eq_false_of_not_eq_true hd) ..)) hout

theorem FpIssues.decEnds (h : FpIssues i s c sg body) (hw : sg.wide = false) {fast slow : Nat} {ok : Bool} {z : Int} {w : W64}
    (hb : body (s.start i false) = decFinish i ok z (fun s => s.setG i rd.toNat w) ((s.start i false).setTime i fast slow)) : DecEnds i s c rd ok z w := by
  have ht := h.twin hw fast slow
  unfold DecEnds
  dsimp only
  unfold decFinish at hb
  cases ok with
  | false => exact h.raised hw ht (out := id) hb (ht.flagged 1)
  | true =>
    simp only [Bool.not_true, Bool.false_eq_true, if_false] at hb
    rw [if_neg Bool.true_eq_false.mp]
    split
    case isTrue hz =>
      rw [if_neg (Nat.not_le.2 hz)] at hb
      exact h.answers hw hb (ht.setG ..)
    case isFalse hz =>
      rw [if_pos (Nat.not_lt.1 hz)] at hb
      exact h.raised hw ht (out := fun s => s.setG i rd.toNat w) hb ((ht.flagged 2).setG ..)

/-- An operation whose result always fits. -/
theorem FpIssues.decPlain (h : FpIssues i s c sg body) (hw : sg.wide = false) {fast slow : Nat} {ok : Bool} {w : W64}
    (hb : body (s.start i false) = decFinish i ok 0 (fun s => s.setG i rd.toNat w) ((s.start i false).setTime i fast slow)) :
    if ok then Answers i s c (((s.start i false).setG i rd.toNat w).finish i false) else FlagRaised i s c 1 0x0C ((s.start i false).flagged i 1) := by
  have hends := h.decEnds hw hb
  cases ok with
  | false => exact hends
  | true => exact hends

/-- The one packed decimal of a value in a register. -/
def packed (z : Int) : W64 := BitVec.ofNat 64 (decEnc 15 z)

theorem packed_packs (z : Int) : PacksAs 15 (packed z).toNat z := by
  have h := decEnc_packs 15 z
  rw [packed, BitVec.toNat_ofNat, Nat.mod_eq_of_lt (show decEnc 15 z < 2 ^ 64 from h.lt)]
  exact h

/-- An operation on two decimals, or on one and a count (R105). -/
theorem decOp_spec (hi : s.canIssue (ctxIdx x) profKE false false = true) {func sl : Nat} {two : Bool} {tm : Nat → Nat → Nat} {fn : Int → Nat → Int}
    (hc : exec c s = .next (decOp x func rd a b two tm sl fn s)) : let i := ctxIdx x
    let u := ((s.start i false).g i a.toNat).toNat
    let v := ((s.start i false).g i b.toNat).toNat
    DecEnds i s c rd (decValid 15 u && (!two || decValid 15 v)) (fn (decVal 15 u) v) (packed (fn (decVal 15 u) v)) := by
  intro i u v
  have hends {ok : Bool} (hok : (decValid 15 u && (!two || decValid 15 v)) = ok) :
      DecEnds i s c rd ok (if ok then fn (decVal 15 u) v else 0) (packed (if ok then fn (decVal 15 u) v else 0)) := by
    subst hok
    exact (fpIssues hi hc rfl).decEnds rfl rfl
  cases hok : decValid 15 u && (!two || decValid 15 v) with
  | false =>
    have h := hends hok
    rwa [decEnds_invalid] at h ⊢
  | true => exact hends hok

theorem decOp_one_spec (hi : s.canIssue (ctxIdx x) profKE false false = true) {func sl : Nat} {tm : Nat → Nat → Nat} {fn : Int → Nat → Int}
    (hc : exec c s = .next (decOp x func rd a b false tm sl fn s)) : let i := ctxIdx x
    let u := ((s.start i false).g i a.toNat).toNat
    let v := ((s.start i false).g i b.toNat).toNat
    DecEnds i s c rd (decValid 15 u) (fn (decVal 15 u) v) (packed (fn (decVal 15 u) v)) := by
  have h := decOp_spec hi hc
  simp only [Bool.not_false, Bool.true_or, Bool.and_true] at h
  exact h

theorem compare_word (a b : Int) : (if compare a b = .lt then (-1 : W64) else if compare a b = .eq then 0 else 1) = if a < b then -1 else if a = b then 0 else 1 := by
  simp only [compare_lt_iff_lt, compare_eq_iff_eq]

/-! ### Fixed point (R121) -/

theorem engIssues (hi : s.canIssue (ctxIdx x) profE false false = true) (hc : exec c s = .next (issue (ctxIdx x) sg body s))
    (hsg : (sg.prof, sg.noSlot, sg.wide) = (profE, false, false)) : FpIssues (ctxIdx x) s c sg body := by
  simp only [Prod.mk.injEq] at hsg
  obtain ⟨hp, hn, hw⟩ := hsg
  refine ⟨hc, by rwa [hp, hn, hw], fun hx => ?_⟩
  obtain ⟨-, -, -, hs⟩ := State.canIssue_sieve hi hx
  cases hs

theorem Twin.setSat (h : Twin i s t) (sat : Bool) : Twin i (if sat then s.flagged i 3 else s) (t.setSat i sat) := by
  cases sat with
  | false => exact h
  | true => exact h.flagged 3

theorem fixScalar_spec (hi : s.canIssue (ctxIdx x) profE false false = true) {op tm : Nat} {ew : BitVec 2} {y : Int} {sat : Bool}
    (hc : exec c s = .next (fixScalar x op ew rd a b tm s)) : let i := ctxIdx x
    let t := s.start i false
    FixGives op (ewBits ew) (t.g i a.toNat).toNat (t.g i b.toNat).toNat y sat →
      Answers i s c (((if sat then t.flagged i 3 else t).setG i rd.toNat (BitVec.ofInt 64 y)).finish i false) := by
  rintro i t ⟨hv, hs⟩
  have h := engIssues hi hc rfl
  rw [← hv, ← hs]
  exact h.answers rfl rfl (((h.twin rfl tm tm).setSat _).setG ..)

theorem ewBits_pos (ew : BitVec 2) : 0 < ewBits ew := Nat.mul_pos (by decide) (Nat.two_pow_pos _)


/-! ### The forms -/

theorem decVal_eq (n v : Nat) : decVal n v =
    if v % 16 = 13 then -((((List.range n).map fun k => decDigit v k * 10 ^ k).sum : Nat) : Int)
    else (((List.range n).map fun k => decDigit v k * 10 ^ k).sum : Nat) := by
  rw [decVal, decMag_eq_sum]

end Sys2Proof.Machine

namespace Sys2Proof
open Machine

/-- Settles O32: each decimal form ends with its value's packed decimal, and each fixed-point form gives the number that R120 names. -/
theorem packedDecimalAndFixedPointResults : Obligations.PackedDecimalAndFixedPointResults := by
  unfold Obligations.PackedDecimalAndFixedPointResults
  intro x rd a b ew s i t u v dc digit valid mag val holds timed at_ flag bad gives plain both sgn' m q r half
  have hmag (w : Nat) : decMag 15 w = mag w := decMag_eq_sum 15 w
  have hval (w : Nat) : decVal 15 w = val w := decVal_eq 15 w
  have hgives {k : Instr} {ok : Bool} {z : Int} (h : DecEnds i s k rd ok z (packed z)) : gives k ok z := by
    have hw : holds (packed z) z := ⟨(packed_packs z).valid, (hmag _).symm.trans (packed_packs z).mag, (packed_packs z).sign⟩
    unfold DecEnds FlagRaised at h
    dsimp only at h
    dsimp only [gives, bad]
    split_ifs at h ⊢
    · exact h
    · exact h
    · exact ⟨_, h, hw⟩
    · exact h
    · exact ⟨_, h, hw⟩
  refine ⟨fun hi => ?_, fun hi => ?_⟩
  · have h2 {c : Instr} {func sl : Nat} {tm : Nat → Nat → Nat} {fn : Int → Nat → Int} (hc : exec c s = .next (decOp x func rd a b true tm sl fn s))
      {z : Int} (hz : fn (decVal 15 u) v = z) : gives c both z := by
      subst hz
      exact hgives (decOp_spec hi hc)
    have h1 {c : Instr} {b : Reg5} {func sl : Nat} {tm : Nat → Nat → Nat} {fn : Int → Nat → Int}
      (hc : exec c s = .next (decOp x func rd a b false tm sl fn s)) {z : Int} (hz : fn (decVal 15 u) (t.g i b.toNat).toNat = z) : gives c (valid u) z := by
      subst hz
      exact hgives (decOp_one_spec hi hc)
    refine ⟨h2 (c := .dadd x rd a b) rfl ?_, h2 (c := .dsub x rd a b) rfl ?_, h2 (c := .dmul x rd a b) rfl ?_, h1 (c := .dneg x rd a) rfl ?_,
      h1 (c := .dshl x rd a b) rfl ?_, h1 (c := .dshr x rd a b) rfl ?_, h1 (c := .dshre x rd a b) rfl ?_, h1 (c := .dshra x rd a b) rfl ?_,
      hgives ((fpIssues (c := .itod x rd a) hi rfl rfl).decEnds rfl rfl), ?_, ?_, ?_⟩
    · exact congrArg₂ (· + ·) (hval u) (hval v)
    · exact congrArg₂ (· - ·) (hval u) (hval v)
    · exact congrArg₂ (· * ·) (hval u) (hval v)
    · exact congrArg Neg.neg (hval u)
    · exact congrArg (· * 10 ^ min v 15) (hval u)
    · rw [decShr_truncates, hval]; rfl
    · rw [decShr_half_even, hval]; rfl
    · rw [decShr_half_away, hval]; rfl
    · rw [← compare_word, ← hval, ← hval]
      exact (fpIssues (c := .dcmp x rd a b) hi rfl rfl).decPlain rfl rfl
    · rw [← hval]
      exact (fpIssues (c := .dtoi x rd a) hi rfl rfl).decPlain rfl rfl
    · exact (fpIssues (c := .dval x rd a) hi rfl rfl).ok rfl rfl
  · intro n ub sb lo hi' sat fix clamped nearest tie e
    have hn : 0 < n := ewBits_pos ew
    have hsb (w : Nat) : sgn n w = sb w := sgn_eq n w
    have hfix {c : Instr} {op tm : Nat} (hc : exec c s = .next (fixScalar x op ew rd a b tm s)) {y : Int} {o : Bool} (hg : FixGives op n u v y o) : fix c y o :=
      fixScalar_spec hi hc hg
    have hs {c : Instr} {op tm : Nat} (hc : exec c s = .next (fixScalar x op ew rd a b tm s)) (hop : ¬(op = 1 ∨ op = 3)) {z : Int}
        (hz : fixOp op n u v = (pat n (satS z n).1, (satS z n).2)) : clamped c lo hi' z := hfix hc (fixGives_satS hn hop hz)
    have hu {c : Instr} {op tm : Nat} (hc : exec c s = .next (fixScalar x op ew rd a b tm s)) (hop : op = 1 ∨ op = 3) {z : Int}
        (hz : fixOp op n u v = (pat n (satU z n).1, (satU z n).2)) : clamped c 0 (2 ^ n - 1) z := hfix hc (fixGives_satU hop hz)
    rw [← hsb u, ← hsb v]
    refine ⟨hs (c := .sadd x ew rd a b) rfl (by decide) rfl, hs (c := .ssub x ew rd a b) rfl (by decide) rfl,
      hu (c := .saddu x ew rd a b) rfl (by decide) rfl, hu (c := .ssubu x ew rd a b) rfl (by decide) rfl, ?_, ?_, ?_, ?_⟩
    · obtain ⟨hnear, htie⟩ := rndE_spec (sgn n u * sgn n v) (n - 1)
      exact ⟨_, hnear, htie, hs (c := .qmule x ew rd a b) rfl (by decide) rfl⟩
    · obtain ⟨hnear, htie⟩ := rndA_spec (sgn n u * sgn n v) (n - 1)
      exact ⟨_, hnear, htie, hs (c := .qmula x ew rd a b) rfl (by decide) rfl⟩
    · obtain ⟨hnear, htie⟩ := rndE_spec (sgn n u) e
      exact ⟨_, hnear, htie, hfix (c := .rshre x ew rd a b) rfl (fixGives_shift hn (by decide) hnear rfl)⟩
    · obtain ⟨hnear, htie⟩ := rndA_spec (sgn n u) e
      exact ⟨_, hnear, htie, hfix (c := .rshra x ew rd a b) rfl (fixGives_shift hn (by decide) hnear rfl)⟩

end Sys2Proof
end

section
/-! SUPPORT. Elements of vector registers (R110–R114): what a write of elements leaves in each, and what steps keep of them. -/

namespace Sys2Proof.Machine

variable {x n w : Nat} {s t : State} {dst : List Loc} {csrs : List Nat}

/-! ### One element (R110) -/

theorem State.v_setV (s : State) (x n m : Nat) (v : W128) : (s.setV x n v).v x m = if m = n then v else s.v x m := by
  unfold State.setV State.v State.setR
  rw [State.ctx_setCtx_same, Tab.get_set]

/-- Element k of width w lies whole in one register: which one, and from which bit. -/
theorem element_place (hw : w ∣ 128) (k : Nat) : w * k / 128 = k / (128 / w) ∧ w * k % 128 = w * (k % (128 / w)) ∧ w * (k % (128 / w)) + w ≤ 128 := by
  obtain ⟨m, hm⟩ := hw
  have hw : 0 < w := Nat.pos_of_ne_zero (by rintro rfl; omega)
  have hm' : 128 / w = m := by rw [hm, Nat.mul_div_cancel_left m hw]
  have hk : k % m + 1 ≤ m := Nat.mod_lt k (Nat.pos_of_ne_zero (by rintro rfl; omega))
  rw [hm', hm, Nat.mul_div_mul_left _ _ hw, Nat.mul_mod_mul_left]
  exact ⟨rfl, rfl, by rw [← Nat.mul_succ]; exact Nat.mul_le_mul_left w hk⟩

theorem State.vel_setVel (hw : w ∣ 128) (s : State) (x n k j val : Nat) :
    (s.setVel x n w k val).vel x n w j = if j = k then val % 2 ^ w else s.vel x n w j := by
  obtain ⟨hreg, hbit, hfit⟩ := element_place hw k
  obtain ⟨hreg', hbit', hfit'⟩ := element_place hw j
  unfold State.setVel State.vel
  dsimp only
  rw [State.v_setV, hreg, hbit, hreg', hbit']
  by_cases hjk : j = k
  · rw [hjk, if_pos rfl, if_pos rfl, fld_setFld_same _ _ hfit]
  · rw [if_neg hjk]
    split
    case isTrue hr =>
      have hq : j / (128 / w) = k / (128 / w) := Nat.add_left_cancel hr
      have hne : j % (128 / w) ≠ k % (128 / w) := fun e => hjk (by rw [← Nat.div_add_mod j (128 / w), hq, e, Nat.div_add_mod])
      rw [fld_setFld_ne _ _ ?_, hr]
      rcases Nat.lt_or_gt_of_ne hne with hlt | hlt
      · exact .inl (by rw [← Nat.mul_succ]; exact Nat.mul_le_mul_left w hlt)
      · exact .inr (by rw [← Nat.mul_succ]; exact Nat.mul_le_mul_left w hlt)
    case isFalse => rfl

theorem State.vel_lt (s : State) (x n w k : Nat) : s.vel x n w k < 2 ^ w := Nat.mod_lt _ (Nat.two_pow_pos w)

/-- An element below VL lies in the group (R110, R111). -/
theorem State.mem_vlocs {k : Nat} (h : k < s.vl x w) (n : Nat) : Loc.v (n + w * k / 128) ∈ s.vlocs x n := by
  have hw : 0 < w := Nat.pos_of_ne_zero fun h0 => by
    rw [h0, State.vl, Nat.div_zero] at h
    exact Nat.not_lt_zero k h
  have hk : w * k < 128 * s.vgroup x := calc
    w * k < w * (k + 1) := Nat.mul_lt_mul_of_pos_left (Nat.lt_succ_self k) hw
    _ ≤ s.vwidth x := by rw [Nat.mul_comm]; exact (Nat.le_div_iff_mul_le hw).1 h
  exact List.mem_map.2 ⟨_, List.mem_range.2 (Nat.div_lt_of_lt_mul hk), rfl⟩

/-! ### What steps keep of the elements -/

namespace OwnStep

theorem vel (h : OwnStep x [] csrs s t) (n w k : Nat) : t.vel x n w k = s.vel x n w k := by
  unfold State.vel
  rw [(h.keepsRegs.2.1 _ List.not_mem_nil List.not_mem_nil).2]

theorem active (h : OwnStep x [] csrs s t) (pg : Pred3) (k : Nat) : t.active x pg k = s.active x pg k := by
  unfold State.active
  rw [h.keepsRegs.2.2.1 _ List.not_mem_nil]

theorem vgroup (h : OwnStep x dst csrs s t) (hg : csrVgrp ∉ csrs) : t.vgroup x = s.vgroup x := by
  have hclass (s : State) : s.classC x = (isEng x && !s.classT x) := by
    unfold State.classC State.classT
    cases isEng x <;> simp
  unfold State.vgroup
  rw [h.csr _ hg, hclass, hclass, h.sameSources.classT]

theorem vl (h : OwnStep x dst csrs s t) (hg : csrVgrp ∉ csrs) (w : Nat) : t.vl x w = s.vl x w := by
  unfold State.vl State.vwidth
  rw [h.vgroup hg]

theorem vlocs (h : OwnStep x dst csrs s t) (hg : csrVgrp ∉ csrs) (n : Nat) : t.vlocs x n = s.vlocs x n := by
  unfold State.vlocs
  rw [h.vgroup hg]

end OwnStep

theorem State.vel_finish (s : State) (x n w k : Nat) (wide : Bool) : (s.finish x wide).vel x n w k = s.vel x n w k :=
  ((OwnStep.refl (csrs := []) s).finish wide).vel n w k

/-! ### A write of elements (R114) -/

theorem State.vel_foldl_setVel (hw : w ∣ 128) (x n : Nat) (fn : Nat → Nat) (l : List Nat) (s : State) (j : Nat) :
    (l.foldl (fun s k => s.setVel x n w k (fn k)) s).vel x n w j = if j ∈ l then fn j % 2 ^ w else s.vel x n w j := by
  induction l generalizing s with
  | nil => rfl
  | cons k l ih =>
    rw [List.foldl_cons, ih, State.vel_setVel hw]
    by_cases hj : j ∈ l
    · rw [if_pos hj, if_pos (List.mem_cons_of_mem k hj)]
    · by_cases hk : j = k
      · rw [if_neg hj, if_pos hk, hk, if_pos List.mem_cons_self]
      · rw [if_neg hj, if_neg hk, if_neg (List.not_mem_cons_of_ne_of_not_mem hk hj)]

theorem State.vwrite_eq (s : State) (x : Nat) (o : VF) (w : Nat) (fn : Nat → Nat) :
    s.vwrite x o w fn = (s.actives x o.pg (s.vl x w)).foldl (fun s k => s.setVel x (vnum o.xd o.vd) w k (fn k)) s := by
  unfold State.vwrite
  rw [List.foldl_map]

theorem State.mem_actives {s : State} {pg : Pred3} {vl k : Nat} : k ∈ s.actives x pg vl ↔ k < vl ∧ s.active x pg k = true := by
  rw [State.actives, List.mem_filter, List.mem_range]

theorem State.vel_vwrite (hw : w ∣ 128) (s : State) (x : Nat) (o : VF) (fn : Nat → Nat) {k : Nat} (hk : k < s.vl x w) :
    (s.vwrite x o w fn).vel x (vnum o.xd o.vd) w k =
      if s.active x o.pg k = true then fn k % 2 ^ w else s.vel x (vnum o.xd o.vd) w k := by
  rw [State.vwrite_eq, State.vel_foldl_setVel hw]
  exact if_congr (State.mem_actives.trans (and_iff_right hk)) rfl rfl

theorem RegStep.setVel (h : RegStep x dst csrs s t) {n k : Nat} (hd : Loc.v (n + w * k / 128) ∈ dst) (val : Nat) :
    RegStep x dst csrs s (t.setVel x n w k val) := h.setV hd _

theorem RegStep.vwrite (h : RegStep x dst csrs s t) {o : VF} (hd : t.vlocs x (vnum o.xd o.vd) ⊆ dst) (fn : Nat → Nat) :
    RegStep x dst csrs s (t.vwrite x o w fn) := by
  rw [State.vwrite_eq]
  exact List.foldlRecOn (motive := RegStep x dst csrs s) _ _ h fun u hu k hk => hu.setVel (hd (State.mem_vlocs (State.mem_actives.1 hk).1 _)) _

end Sys2Proof.Machine
end

section
/-! SUPPORT. Instructions on lanes of an engine (R116, R122–R124): legal fields and others, and the ends of an instruction that raises
flags. -/

namespace Sys2Proof.Machine

variable {x : CtxId} {i : Nat} {s : State} {c : Instr} {o : VF} {e : Eff}

/-! ### What an engine's instruction does -/

/-- A command issues as an instruction of an engine, which does e after its fetch. -/
def Acts (i : Nat) (s : State) (c : Instr) (e : Eff) : Prop :=
  i < 2048 ∧ ∃ sg body, FpIssues i s c sg body ∧ sg.wide = false ∧ body (s.start i false) = e

theorem canIssue_engine (h : s.canIssue i profE false false = true) : i < 2048 := by
  by_cases hx : 2112 ≤ i
  · obtain ⟨-, -, -, hp⟩ := State.canIssue_sieve h hx
    cases hp
  · obtain ⟨-, -, -, -, -, hp, -⟩ := State.canIssue_unit h hx
    by_contra hn
    rw [if_neg (by simpa [isEng] using hn)] at hp
    cases hp

theorem acts {sg : Sig} {body : State → Eff} (hi : s.canIssue (ctxIdx x) profE false false = true) (hc : exec c s = .next (issue (ctxIdx x) sg body s))
    (hsg : (sg.prof, sg.noSlot, sg.wide) = (profE, false, false)) : Acts (ctxIdx x) s c (body (s.start (ctxIdx x) false)) :=
  ⟨canIssue_engine hi, sg, body, engIssues hi hc hsg, congrArg (fun p => p.2.2) hsg, rfl⟩

/-- Whether the fields of a vector instruction are legal, and VSTART is 0 (R116, R131). -/
def State.fieldsOk (t : State) (i : Nat) (kd k1 k2 : VKind) (o : VF) : Bool :=
  t.fieldOk i kd o.xd o.vd && t.fieldOk i k1 o.xs1 o.vs1 && t.fieldOk i k2 o.xs2 o.vs2 && decide (fld (t.xcsr i csrVstart) 0 16 = 0)

/-- An instruction with legal fields, or with others. -/
def Legally (t : State) (ok : Bool) (w : BitVec 32) (e : Eff) : Eff := if ok then e else .trap t (trapIllegal w)

theorem vecIssue_acts (hi : s.canIssue (ctxIdx x) profE false false = true) {w : BitVec 32} {kd k1 k2 : VKind} {body : Nat → State → Eff}
    (hc : exec c s = .next (vecIssue x w o kd k1 k2 true true body s)) : let i := ctxIdx x
    let t := s.start i false
    Acts i s c (Legally t (t.fieldsOk i kd k1 k2 o) w (body i t)) := by
  intro i t
  have h := acts hi hc rfl
  simp only [Bool.and_true, Bool.not_true, Bool.false_or] at h
  exact h

namespace Acts

/-- Legal fields let the instruction act; others raise ILLEGAL_INSN. -/
theorem legally {ok : Bool} {w : BitVec 32} (h : Acts i s c (Legally (s.start i false) ok w e)) {good : Prop} (hgood : Acts i s c e → good) :
    if ok then good else exec c s = .next ((s.start i false).takeTrap i (trapIllegal w)) := by
  cases ok with
  | true => exact hgood h
  | false =>
    obtain ⟨-, sg, body, hf, hw, hb⟩ := h
    exact hf.illegal hw hb

/-- An instruction that acts on its registers alone and completes. -/
theorem done {u : State} (h : Acts i s c (.ok u)) {dst : List Loc} {csrs : List Nat} {post : State → Prop}
    (hu : RegStep i dst csrs (s.start i false) u) (hpost : post (u.finish i false)) : Done i s c dst csrs post := by
  obtain ⟨hi, sg, body, hf, hw, hb⟩ := h
  have hown := hu.toOwnStep.finish false
  have hepi : ((s.start i false).ctx i).epi = none := State.epi_start_unit (by rw [← hw]; exact hf.can) hf.unit
  exact ⟨_, hf.ok hw hb, hown.keeps, hu.finish_movedOn (hi.trans (by decide)) (Option.isNone_iff_eq_none.2 hepi), hown.keepsMemory, hpost⟩

theorem traps {u w : State} {k : Trap} (h : Acts i s c (.trap u k)) (hk : k.status ≠ stWait) (hu : Twin i w u) : Answers i s c (w.takeTrap i k) := by
  obtain ⟨-, sg, body, hf, hw, hb⟩ := h
  exact hf.answers_trap hw hb hk hu

theorem twin (h : Acts i s c e) (a b : Nat) : Twin i (s.start i false) ((s.start i false).setTime i a b) := by
  obtain ⟨-, sg, body, hf, hw, -⟩ := h
  exact hf.twin hw a b

end Acts

/-! ### Floating-point flags (R89, R123) -/

/-- What an instruction on lanes that raises floating-point flags answers. -/
def FpFlagged (i : Nat) (s : State) (c : Instr) (fl : FFlags) (dst : List Loc) (post : State → Prop) : Prop :=
  let t := s.start i false
  let fc := t.xcsr i csrFcsr
  let set := fc ||| BitVec.ofNat 64 (fl.bits * 16)
  if fl.bits &&& fld fc 9 5 ≠ 0 then Answers i s c ((t.setXcsr i csrFcsr (setFld set 14 5 fl.bits)).takeTrap i { code := 0x0B })
  else Done i s c dst [csrFcsr] fun u => (u.xcsr i csrFcsr = if fl.bits = 0 then fc else set) ∧ post u

theorem Acts.fpFlagged {a b : Nat} {fl : FFlags} {out : State → State} (h : Acts i s c (((s.start i false).setTime i a b).raiseFp i fl out))
    {dst : List Loc} {post : State → Prop}
    (hout : ∀ u, OwnStep i [] [csrFcsr] (s.start i false) u → RegStep i dst [] u (out u) ∧ post ((out u).finish i false)) :
    FpFlagged i s c fl dst post := by
  have ht := h.twin a b
  have htime : RegStep i [] [csrFcsr] (s.start i false) ((s.start i false).setTime i a b) := (RegStep.refl _).setTime a b
  unfold State.raiseFp at h
  unfold FpFlagged
  dsimp only at h ⊢
  rw [ht.xcsr] at h
  split
  case isTrue he =>
    rw [if_pos he] at h
    exact h.traps (trapCode_status 0x0B) (ht.setXcsr ..)
  case isFalse he =>
    rw [if_neg he] at h
    set fc := (s.start i false).xcsr i csrFcsr with hfc
    have hflag {u : State} (hu : RegStep i [] [csrFcsr] (s.start i false) u) {v : W64} (hv : u.xcsr i csrFcsr = v) (h : Acts i s c (.ok (out u))) :
        Done i s c dst [csrFcsr] fun u => u.xcsr i csrFcsr = v ∧ post u := by
      obtain ⟨hstep, hpost⟩ := hout u hu.toOwnStep
      refine h.done ((hu.mono (by simp) (by simp)).trans (hstep.mono (by simp) (by simp))) ⟨?_, hpost⟩
      rw [State.xcsr_finish, hstep.csr _ List.not_mem_nil, hv]
    split
    case isTrue h0 =>
      rw [if_pos h0] at h
      exact hflag htime (ht.xcsr ..) h
    case isFalse h0 =>
      rw [if_neg h0] at h
      exact hflag (htime.setXcsr (List.mem_singleton_self _) _) (State.xcsr_setXcsr_same ..) h

/-- The union of the flags of elements, flag by flag. -/
theorem unionFlags_eq (l : List Nat) (g : Nat → FFlags) : unionFlags (l.map g) =
    { nv := l.any fun k => (g k).nv, dz := l.any fun k => (g k).dz, ovf := l.any fun k => (g k).ovf
      uf := l.any fun k => (g k).uf, nx := l.any fun k => (g k).nx } := by
  have hfold (a : FFlags) : l.foldl (fun a k => a.union (g k)) a = a.union
      { nv := l.any fun k => (g k).nv, dz := l.any fun k => (g k).dz, ovf := l.any fun k => (g k).ovf
        uf := l.any fun k => (g k).uf, nx := l.any fun k => (g k).nx } := by
    induction l generalizing a with
    | nil => simp [FFlags.union]
    | cons k l ih => rw [List.foldl_cons, ih]; simp [FFlags.union, Bool.or_assoc]
  rw [unionFlags, List.foldl_map, hfold]
  simp [FFlags.union]

/-! ### Decimal lanes (R124) -/

/-- What an instruction on decimal lanes answers: `big` says that a magnitude is beyond the digits. -/
def LanesEnd (i : Nat) (s : State) (c : Instr) (ok big : Bool) (dst : List Loc) (post : State → Prop) : Prop :=
  let t := s.start i false
  let dc := t.xcsr i csrDcsr
  if ok = false then (if bitAt dc 9 = true then Answers i s c ((t.flagged i 1).takeTrap i { code := 0x0C })
    else Done i s c [] [csrDcsr] fun u => u.xcsr i csrDcsr = setBit dc 1 true)
  else if big then (if bitAt dc 10 = true then Answers i s c ((t.flagged i 2).takeTrap i { code := 0x0D })
    else Done i s c dst [csrDcsr] fun u => u.xcsr i csrDcsr = setBit dc 2 true ∧ post u)
  else Done i s c dst [] post

/-- A flag of DCSR traps, or it is set and the instruction goes on. -/
theorem Acts.raised {t' : State} {bit code : Nat} {out : State → State} (h : Acts i s c (t'.raiseDec i bit code fun s => .ok (out s)))
    (ht : Twin i (s.start i false) t') (htime : RegStep i [] [csrDcsr] (s.start i false) t') {dst : List Loc} {post : State → Prop}
    (hout : ∀ u, OwnStep i [] [csrDcsr] (s.start i false) u → RegStep i dst [] u (out u) ∧ post ((out u).finish i false)) :
    let dc := (s.start i false).xcsr i csrDcsr
    if bitAt dc (bit + 8) = true then Answers i s c (((s.start i false).flagged i bit).takeTrap i { code := code })
    else Done i s c dst [csrDcsr] fun u => u.xcsr i csrDcsr = setBit dc bit true ∧ post u := by
  intro dc
  have hdc : t'.xcsr i csrDcsr = dc := ht.xcsr ..
  split
  case isTrue hd =>
    rw [State.raiseDec_of_enabled (by rw [hdc]; exact hd)] at h
    exact h.traps (trapCode_status code) (ht.flagged bit)
  case isFalse hd =>
    rw [State.raiseDec_of_disabled (by rw [hdc]; exact Bool.eq_false_of_not_eq_true hd), hdc] at h
    have hu := htime.setXcsr (List.mem_singleton_self csrDcsr) (setBit dc bit true)
    obtain ⟨hstep, hpost⟩ := hout _ hu.toOwnStep
    refine h.done ((hu.mono (by simp) (by simp)).trans (hstep.mono (by simp) (by simp))) ⟨?_, hpost⟩
    rw [State.xcsr_finish, hstep.csr _ List.not_mem_nil, State.xcsr_setXcsr_same]

theorem Acts.lanesEnd {a b : Nat} {ok : Bool} {vals : List Int} {lim : Nat} {out : State → State}
    (h : Acts i s c (vdFinish i ok vals lim out ((s.start i false).setTime i a b))) {dst : List Loc} {post : State → Prop}
    (hout : ∀ u, OwnStep i [] [csrDcsr] (s.start i false) u → RegStep i dst [] u (out u) ∧ post ((out u).finish i false)) :
    LanesEnd i s c ok (vals.any fun v => decide (10 ^ lim ≤ v.natAbs)) dst post := by
  have ht := h.twin a b
  have htime (csrs : List Nat) : RegStep i [] csrs (s.start i false) ((s.start i false).setTime i a b) := (RegStep.refl _).setTime a b
  unfold vdFinish at h
  unfold LanesEnd
  dsimp only
  cases ok with
  | false =>
    have hr := Acts.raised (out := id) (dst := []) (post := fun _ => True) h ht (htime _) fun u _ => ⟨.refl u, trivial⟩
    rw [if_pos rfl]
    simp only [and_true] at hr
    exact hr
  | true =>
    rw [if_neg Bool.true_eq_false.mp]
    simp only [Bool.not_true, Bool.false_eq_true, if_false] at h
    split
    case isTrue hbig =>
      rw [if_pos hbig] at h
      exact h.raised ht (htime _) hout
    case isFalse hbig =>
      rw [if_neg hbig] at h
      obtain ⟨hstep, hpost⟩ := hout _ (htime _).toOwnStep
      exact h.done (((htime []).mono (by simp) (by simp)).trans hstep) hpost

end Sys2Proof.Machine
end

section
/-! SUPPORT. Floating point and decimal in lanes (R122–R124): what each form answers. -/

namespace Sys2Proof.Machine

variable {x : CtxId} {i : Nat} {s t u : State} {c : Instr} {o : VF} {p : Bool} {w : Nat} {csrs : List Nat}

/-! ### What a write of lanes leaves -/

/-- Every lane of the destination below VL: an active one holds what `fn` says, another one keeps its own. -/
def LanesHold (t : State) (i : Nat) (o : VF) (w : Nat) (fn : Nat → Nat) (u : State) : Prop :=
  ∀ k, k < t.vl i w → u.vel i (vnum o.xd o.vd) w k = if t.active i o.pg k then fn k % 2 ^ w else t.vel i (vnum o.xd o.vd) w k

theorem OwnStep.vwrite (h : OwnStep i [] csrs t u) (hg : csrVgrp ∉ csrs) (hw : w ∣ 128) (o : VF) (fn : Nat → Nat) :
    RegStep i (t.vlocs i (vnum o.xd o.vd)) [] u (u.vwrite i o w fn) ∧ LanesHold t i o w fn ((u.vwrite i o w fn).finish i false) := by
  refine ⟨(RegStep.refl u).vwrite (h.vlocs hg _ ▸ List.Subset.refl _) fn, fun k hk => ?_⟩
  rw [State.vel_finish, State.vel_vwrite hw _ _ _ _ (by rw [h.vl hg]; exact hk), h.active, h.vel]

/-- The predicate that a compare of lanes leaves (R115). -/
def BitsHold (t : State) (i : Nat) (o : VF) (w : Nat) (fn : Nat → Bool) (u : State) : Prop :=
  o.vd ≠ 0 → ∀ k, k < 128 → (u.p i o.vd.toNat).getLsbD k = (decide (k < t.vl i w) && t.active i o.pg k && fn k)

theorem OwnStep.pwrite (h : OwnStep i [] csrs t u) (hg : csrVgrp ∉ csrs) (o : VF) (fn : Nat → Bool) :
    RegStep i [.p o.vd.toNat] [] u (u.pwrite i o.vd.toNat o.pg (u.vl i w) fn) ∧
      BitsHold t i o w fn ((u.pwrite i o.vd.toNat o.pg (u.vl i w) fn).finish i false) := by
  refine ⟨(RegStep.refl u).setP (List.mem_singleton_self _) _, fun hvd k hk => ?_⟩
  rw [State.p_finish, State.getLsbD_p_pwrite _ (fun e => hvd (BitVec.eq_of_toNat_eq e)) hk, h.active, h.vl hg]

/-! ### Floating point (R122, R123) -/

theorem elBits_dvd (p : Bool) : elBits p ∣ 128 := by cases p <;> decide

/-- The flags of the active lanes. -/
def State.laneFlags (t : State) (i : Nat) (o : VF) (w : Nat) (g : Nat → FFlags) : FFlags := unionFlags ((t.actives i o.pg (t.vl i w)).map g)

theorem Acts.fpLanes {a b : Nat} {fl : FFlags} {fn : Nat → Nat}
    (h : Acts i s c (((s.start i false).setTime i a b).raiseFp i fl fun s => s.vwrite i o (elBits p) fn)) : let t := s.start i false
    FpFlagged i s c fl (t.vlocs i (vnum o.xd o.vd)) (LanesHold t i o (elBits p) fn) :=
  h.fpFlagged fun _ hu => hu.vwrite (by decide) (elBits_dvd p) o fn

/-- An instruction that tests its fields and its rounding direction at once. -/
theorem legally_of_match (t : State) (ok : Bool) {cond : Prop} [Decidable cond] {rm : Option Nat} {r : Nat} (hrm : rm = if cond then some r else none)
    (w : BitVec 32) (e : Nat → Eff) :
    (match (generalizing := false) ok, rm with | true, some r => e r | _, _ => .trap t (trapIllegal w)) = Legally t (ok && decide cond) w (e r) := by
  subst hrm
  unfold Legally
  cases ok with
  | false => rfl
  | true =>
    rw [Bool.true_and]
    by_cases hc : cond
    · rw [if_pos hc, decide_eq_true hc]; rfl
    · rw [if_neg hc, decide_eq_false hc]; rfl

theorem vecFp_spec (hi : s.canIssue (ctxIdx x) profE false false = true) {op tm : Nat} {useD : Bool} {fn : Fmt → FEnv → Nat → Nat → Nat → FRes}
    (hc : exec c s = .next (vecFp x op p o useD tm fn s)) : let i := ctxIdx x
    let t := s.start i false
    let r := fld (t.xcsr i csrFcsr) 0 3
    let lane (xb : Bool) (n : Reg5) (k : Nat) : Nat := t.vel i (vnum xb n) (elBits p) k
    let q (k : Nat) : FRes := fn (fmtOf p) (t.fenv i r) (lane o.xs1 o.vs1 k) (lane o.xs2 o.vs2 k) (lane o.xd o.vd k)
    if t.fieldsOk i .v .v .v o && (decide (1 ≤ r) && decide (r ≤ 5)) then
      FpFlagged i s c (t.laneFlags i o (elBits p) fun k => (q k).fl) (t.vlocs i (vnum o.xd o.vd)) (LanesHold t i o (elBits p) fun k => (q k).bits)
    else exec c s = .next (t.takeTrap i (trapIllegal (encV 0x2D o (p.toNat * 8 + op)))) := by
  intro i t r lane q
  have hrm : t.rmOf i 0 = if 1 ≤ r ∧ r ≤ 5 then some r else none := rfl
  rw [← Bool.decide_and]
  exact ((congrArg (Acts i s c) (legally_of_match t (t.fieldsOk i .v .v .v o) hrm _ _)).mp (acts hi hc rfl)).legally Acts.fpLanes

theorem vecFpMinmax_spec (hi : s.canIssue (ctxIdx x) profE false false = true) {op : Nat} {mx : Bool}
    (hc : exec c s = .next (vecFpMinmax x op mx p o s)) : let i := ctxIdx x
    let t := s.start i false
    let q (k : Nat) : FRes := (fmtOf p).minmax (t.fenv i 1) mx (t.vel i (vnum o.xs1 o.vs1) (elBits p) k) (t.vel i (vnum o.xs2 o.vs2) (elBits p) k)
    if t.fieldsOk i .v .v .v o then
      FpFlagged i s c (t.laneFlags i o (elBits p) fun k => (q k).fl) (t.vlocs i (vnum o.xd o.vd)) (LanesHold t i o (elBits p) fun k => (q k).bits)
    else exec c s = .next (t.takeTrap i (trapIllegal (encV 0x2D o (p.toNat * 8 + op)))) :=
  (vecIssue_acts hi hc).legally Acts.fpLanes

theorem vecFpCmp_spec (hi : s.canIssue (ctxIdx x) profE false false = true) {func5 cop : Nat}
    (hc : exec c s = .next (vecFpCmp x func5 cop p o s)) : let i := ctxIdx x
    let t := s.start i false
    let q (k : Nat) : Bool × FFlags := (fmtOf p).cmp (t.fenv i 1) cop (t.vel i (vnum o.xs1 o.vs1) (elBits p) k) (t.vel i (vnum o.xs2 o.vs2) (elBits p) k)
    if t.fieldsOk i .p .v .v o then
      FpFlagged i s c (t.laneFlags i o (elBits p) fun k => (q k).2) [.p o.vd.toNat] (BitsHold t i o (elBits p) fun k => (q k).1)
    else exec c s = .next (t.takeTrap i (trapIllegal (encV 0x2D o func5))) :=
  (vecIssue_acts hi hc).legally fun h => h.fpFlagged fun _ hu => hu.pwrite (by decide) o _

/-! ### Decimals (R124) -/

theorem lanesEnd_invalid (big : Bool) {dst : List Loc} {post : State → Prop} (h : LanesEnd i s c false false dst post) : LanesEnd i s c false big dst post := by
  unfold LanesEnd at h ⊢
  exact h

theorem Done.mono {dst : List Loc} {post post' : State → Prop} (h : Done i s c dst csrs post) (hpost : ∀ u, post u → post' u) : Done i s c dst csrs post' := by
  obtain ⟨u, hc, hkeeps, hmoved, hmem, hu⟩ := h
  exact ⟨u, hc, hkeeps, hmoved, hmem, hpost u hu⟩

theorem LanesEnd.mono {ok big : Bool} {dst : List Loc} {post post' : State → Prop} (h : LanesEnd i s c ok big dst post) (hpost : ∀ u, post u → post' u) :
    LanesEnd i s c ok big dst post' := by
  unfold LanesEnd at h ⊢
  dsimp only at h ⊢
  split_ifs at h ⊢
  · exact h
  · exact h
  · exact h
  · exact h.mono fun u hu => hu.imp_right (hpost u)
  · exact h.mono hpost

/-- Every lane of the destination below VL: an active one holds its value's packed decimal, another one keeps its own. -/
def LanesPack (t : State) (i : Nat) (o : VF) (n : Nat) (z : Nat → Int) (u : State) : Prop :=
  ∀ k, k < t.vl i 128 → if t.active i o.pg k then PacksAs n (u.vel i (vnum o.xd o.vd) 128 k) (z k)
    else u.vel i (vnum o.xd o.vd) 128 k = t.vel i (vnum o.xd o.vd) 128 k

/-- A lane has room for a packed decimal of up to 31 digits. -/
theorem decEnc_mod_lane {n : Nat} (hn : n ≤ 31) (z : Int) : decEnc n z % 2 ^ 128 = decEnc n z :=
  Nat.mod_eq_of_lt ((decEnc_packs n z).lt.trans_le (show 16 ^ (n + 1) ≤ 16 ^ 32 from Nat.pow_le_pow_right (by decide) (by omega)))

theorem LanesHold.packs {n : Nat} (hn : n ≤ 31) {z : Nat → Int} (h : LanesHold t i o 128 (fun k => decEnc n (z k)) u) : LanesPack t i o n z u := by
  intro k hk
  rw [h k hk]
  split
  · rw [decEnc_mod_lane hn]
    exact decEnc_packs n (z k)
  · rfl

theorem vecDec_spec (hi : s.canIssue (ctxIdx x) profE false false = true) {func5 n1 n2 sl : Nat} {k2 : VKind} {two : Bool} {tm : Nat → Nat → Nat}
    {fn : Int → Nat → Int} (hc : exec c s = .next (vecDec x func5 o k2 two n1 n2 tm sl fn s)) (hn : n2 ≤ 31) : let i := ctxIdx x
    let t := s.start i false
    let a (k : Nat) : Nat := t.vel i (vnum o.xs1 o.vs1) 128 k % 16 ^ (n1 + 1)
    let b (k : Nat) : Nat := t.vel i (vnum o.xs2 o.vs2) 128 k
    let z (k : Nat) : Int := fn (decVal n1 (a k)) (b k)
    let lanes := t.actives i o.pg (t.vl i 128)
    if t.fieldsOk i .v .v k2 o then
      LanesEnd i s c (lanes.all fun k => decValid n1 (a k) && (!two || decValid 31 (b k))) (lanes.any fun k => decide (10 ^ n2 ≤ (z k).natAbs))
        (t.vlocs i (vnum o.xd o.vd)) (LanesPack t i o n2 z)
    else exec c s = .next (t.takeTrap i (trapIllegal (encV 0x2D o func5))) := by
  intro i t a b z lanes
  refine (vecIssue_acts hi hc).legally fun h => ?_
  have hends {ok : Bool} (hok : (lanes.all fun k => decValid n1 (a k) && (!two || decValid 31 (b k))) = ok) :
      LanesEnd i s c ok ((if ok then lanes.map z else []).any fun v => decide (10 ^ n2 ≤ v.natAbs)) (t.vlocs i (vnum o.xd o.vd)) (LanesPack t i o n2 z) := by
    subst hok
    exact h.lanesEnd fun u hu => (hu.vwrite (by decide) (dvd_refl 128) o fun k => decEnc n2 (z k)).imp_right (LanesHold.packs hn)
  cases hok : lanes.all fun k => decValid n1 (a k) && (!two || decValid 31 (b k)) with
  | false => exact lanesEnd_invalid _ (hends hok)
  | true =>
    have h := hends hok
    rwa [if_pos rfl, List.any_map] at h

/-- What VDRSUM leaves: lane 0 holds the packed decimal of the sum, and every other lane below VL keeps its own. -/
def SumHolds (t : State) (i : Nat) (o : VF) (z : Int) (u : State) : Prop :=
  PacksAs 31 (u.vel i (vnum o.xd o.vd) 128 0) z ∧
    ∀ k, 0 < k → k < t.vl i 128 → u.vel i (vnum o.xd o.vd) 128 k = t.vel i (vnum o.xd o.vd) 128 k

theorem foldl_add_eq_sum (l : List Nat) (f : Nat → Int) (z : Int) : l.foldl (fun a k => a + f k) z = z + (l.map f).sum := by
  induction l generalizing z with
  | nil => simp
  | cons k l ih => rw [List.foldl_cons, ih, List.map_cons, List.sum_cons, add_assoc]

theorem State.vl_pos (t : State) (i : Nat) : 0 < t.vl i 128 := by
  unfold State.vl State.vwidth State.vgroup
  rw [Nat.mul_div_cancel_left _ (by decide)]
  split
  · exact Nat.two_pow_pos _
  · exact Nat.one_pos

theorem vdrsum_spec (hi : s.canIssue (ctxIdx x) profE false false = true) : let i := ctxIdx x
    let t := s.start i false
    let a (k : Nat) : Nat := t.vel i (vnum o.xs1 o.vs1) 128 k
    let z := t.vel i (vnum o.xd o.vd) 128 0
    let lanes := t.actives i o.pg (t.vl i 128)
    let sum := decVal 31 z + (lanes.map fun k => decVal 31 (a k)).sum
    if t.fieldsOk i .v .v .none o then
      LanesEnd i s (.vdrsum x o) (decValid 31 z && lanes.all fun k => decValid 31 (a k)) (decide (10 ^ 31 ≤ sum.natAbs))
        (t.vlocs i (vnum o.xd o.vd)) (SumHolds t i o sum)
    else exec (.vdrsum x o) s = .next (t.takeTrap i (trapIllegal (encV 0x2D o 0x1A))) := by
  intro i t a z lanes sum
  have hsum : lanes.foldl (fun r k => r + decVal 31 (a k)) (decVal 31 z) = sum := foldl_add_eq_sum lanes (fun k => decVal 31 (a k)) _
  have h := acts (c := .vdrsum x o) hi rfl rfl
  have hlegal {ok : Bool} {w : BitVec 32} {e : Eff} : (if !ok then .trap t (trapIllegal w) else e) = Legally t ok w e := by cases ok <;> rfl
  refine ((congrArg (Acts i s _) hlegal).mp h).legally fun h => ?_
  have hout {u : State} (hu : OwnStep i [] [csrDcsr] t u) : RegStep i (t.vlocs i (vnum o.xd o.vd)) [] u (u.setVel i (vnum o.xd o.vd) 128 0 (decEnc 31 sum)) ∧
      SumHolds t i o sum ((u.setVel i (vnum o.xd o.vd) 128 0 (decEnc 31 sum)).finish i false) := by
    refine ⟨(RegStep.refl u).setVel (State.mem_vlocs (t.vl_pos i) _) _, ?_, fun k hk _ => ?_⟩
    · rw [State.vel_finish, State.vel_setVel (dvd_refl 128), if_pos rfl, decEnc_mod_lane (Nat.le_refl 31)]
      exact decEnc_packs 31 sum
    · rw [State.vel_finish, State.vel_setVel (dvd_refl 128), if_neg hk.ne', hu.vel]
  have hends {v : Int} {ok : Bool} {fast slow : Nat} (hv : v = sum)
      (h : Acts i s (.vdrsum x o) (vdFinish i ok [v] 31 (fun s => s.setVel i (vnum o.xd o.vd) 128 0 (decEnc 31 v)) (t.setTime i fast slow))) :
      LanesEnd i s (.vdrsum x o) ok (decide (10 ^ 31 ≤ sum.natAbs)) (t.vlocs i (vnum o.xd o.vd)) (SumHolds t i o sum) := by
    subst hv
    have h := h.lanesEnd fun _ hu => hout hu
    rwa [List.any_cons, List.any_nil, Bool.or_false] at h
  exact hends hsum h

end Sys2Proof.Machine

namespace Sys2Proof
open Machine

/-- Settles O34: each form in lanes ends with its flags or its trap, and leaves in each active element the scalar result. -/
theorem vectorFloatAndDecimalResults : Obligations.VectorFloatAndDecimalResults := by
  unfold Obligations.VectorFloatAndDecimalResults
  intro x p o s hi i t d fc dc live acts el legal timed traps done either flagged f w A B D env r union vf rounds cmp lanes la lb holds flag ends dec
    va vb e quo rest shr
  have hunion (g : Nat → FFlags) (w : Nat) : t.laneFlags i o w g = union g w := unionFlags_eq (acts w) g
  have hround {c : Instr} {op tm : Nat} {useD : Bool} {fn : Fmt → FEnv → Nat → Nat → Nat → FRes} (hc : exec c s = .next (vecFp x op p o useD tm fn s))
      {q : Nat → FRes} (hq : ∀ k, fn f (env r) (A k) (B k) (D k) = q k) : vf c op rounds q := by
    obtain rfl := funext hq
    have h := vecFp_spec hi hc
    dsimp only at h
    rw [hunion] at h
    exact h
  have hminmax {c : Instr} {op : Nat} {mx : Bool} (hc : exec c s = .next (vecFpMinmax x op mx p o s)) :
      vf c op true fun k => f.minmax (env 1) mx (A k) (B k) := by
    have h := vecFpMinmax_spec hi hc
    dsimp only at h
    rw [hunion, ← Bool.and_true (t.fieldsOk i .v .v .v o)] at h
    exact h
  have hcmp {c : Instr} {func5 cop : Nat} {p : Bool} (hc : exec c s = .next (vecFpCmp x func5 cop p o s)) : cmp c func5 p cop := by
    have h := vecFpCmp_spec hi hc
    dsimp only at h
    rw [hunion] at h
    exact h
  have hholds {n w : Nat} {z : Int} (h : PacksAs n w z) : holds n w z := ⟨h.lt, h.valid, h.mag, h.sign⟩
  have hdec {c : Instr} {func5 n1 n2 sl : Nat} {k2 : VKind} {two : Bool} {tm : Nat → Nat → Nat} {fn : Int → Nat → Int}
      (hc : exec c s = .next (vecDec x func5 o k2 two n1 n2 tm sl fn s)) (hn : n2 ≤ 31) {z : Nat → Int}
      (hz : ∀ k, fn (decVal n1 (la k % 16 ^ (n1 + 1))) (lb k) = z k) : dec c func5 k2 n1 n2 two z := by
    obtain rfl := funext hz
    have h := vecDec_spec hi hc hn
    dsimp only at h
    dsimp only [dec, either]
    split
    case isFalse hl => exact (if_neg hl).mp h
    case isTrue hl =>
      have h := (if_pos hl).mp h
      refine h.mono fun u hu k hk => ?_
      have hu := hu k hk
      split
      case isTrue hk => exact hholds ((if_pos hk).mp hu)
      case isFalse hk => exact (if_neg hk).mp hu
  have hlane (k : Nat) : la k % 16 ^ (31 + 1) = la k := Nat.mod_eq_of_lt (t.vel_lt i (vnum o.xs1 o.vs1) 128 k)
  have hdec31 {c : Instr} {func5 sl : Nat} {k2 : VKind} {two : Bool} {tm : Nat → Nat → Nat} {fn : Int → Nat → Int}
      (hc : exec c s = .next (vecDec x func5 o k2 two 31 31 tm sl fn s)) {z : Nat → Int} (hz : ∀ k, fn (va k) (lb k) = z k) : dec c func5 k2 31 31 two z :=
    hdec hc (Nat.le_refl 31) fun k => (congrArg (fun a => fn (decVal 31 a) (lb k)) (hlane k)).trans (hz k)
  have hshr (k : Nat) (up : Bool) : (if 32 ≤ e k then 0 else withSign (va k) (if up then quo k + 1 else quo k)) = shr k up := by
    dsimp only [shr]
    unfold withSign
    split_ifs <;> simp
  refine ⟨hround (c := .vfadd x p o) rfl fun _ => rfl, hround (c := .vfsub x p o) rfl fun _ => rfl,
    hround (c := .vfmul x p o) rfl fun _ => rfl, hround (c := .vfma x p o) rfl fun _ => rfl,
    hminmax (c := .vfmin x p o) rfl, hminmax (c := .vfmax x p o) rfl, hcmp (c := .vflt x p o) rfl, hcmp (c := .vfle x p o) rfl,
    hcmp (c := .vfeqD x o) rfl, hcmp (c := .vfeqS x o) rfl,
    hdec31 (c := .vdadd x o) rfl fun _ => rfl, hdec31 (c := .vdsub x o) rfl fun _ => rfl, hdec31 (c := .vdmul x o) rfl fun _ => rfl,
    hdec31 (c := .vdneg x o) rfl fun _ => rfl, hdec31 (c := .vdshl x o) rfl fun _ => rfl, hdec31 (c := .vdshr x o) rfl fun k => ?_,
    hdec31 (c := .vdshre x o) rfl fun k => ?_, hdec31 (c := .vdshra x o) rfl fun k => ?_, hdec (c := .vdwiden x o) rfl (Nat.le_refl 31) fun _ => rfl,
    hdec (c := .vdnarrow x o) rfl (by decide) fun k => congrArg (decVal 31) (hlane k), ?_⟩
  · exact (decShr_truncates 32 (va k) (e k)).trans (hshr k false)
  · exact (decShr_half_even 32 (va k) (e k)).trans (by rw [← hshr]; simp only [Bool.or_eq_true, Bool.and_eq_true, decide_eq_true_eq]; rfl)
  · exact (decShr_half_away 32 (va k) (e k)).trans (by rw [← hshr]; simp only [decide_eq_true_eq]; rfl)
  · have h := vdrsum_spec (x := x) (o := o) hi
    dsimp only at h
    dsimp only [either]
    split
    case isFalse hl => exact (if_neg hl).mp h
    case isTrue hl => exact LanesEnd.mono ((if_pos hl).mp h) fun u hu => ⟨hholds hu.1, hu.2⟩

end Sys2Proof
end
